-- ==== Sys2Proof/Word.lean ====
section
/-!
DEFINITION. Sys2Proof/Word.lean: the word types of the block.
-/

namespace Sys2Proof

/-- A register or bus word (R5). -/
abbrev W32 := BitVec 32

/-- The data bits of a native memory word (R4). -/
abbrev W64 := BitVec 64

/-- A native memory word: data in [63:0], SECDED check bits in [71:64] (R4). -/
abbrev W72 := BitVec 72

/-- A counter (R135). -/
abbrev W48 := BitVec 48

/-- A wide RS quantity of up to 256 bits, low word first; a narrower one keeps its upper bits 0. -/
abbrev Wide := BitVec 256

/-- A last's datum (24 bits). -/
abbrev W24 := BitVec 24

/-- A last's accumulator (56 bits). -/
abbrev W56 := BitVec 56

end Sys2Proof
end

