-- ==== Sys2Proof/Syntax.lean ====
section
/-!
DEFINITION. Sys2Proof/Syntax.lean: the commands of the block, one constructor for each row of spec/opcode_table.json,
with the row's operands: which lane, port, rack or eyelet it is about, and what the outside world (a host, the fibre,
a pin, a sensor) supplies.
-/

namespace Sys2Proof

/-- The bus masters of R24 (SRC). -/
inductive Master where
  | cobbler | spi | i2c | dma | jtag
  deriving DecidableEq, Repr

/-- The response codes of R25. -/
inductive Resp where
  | ok | off | dataErr | decode | timeout | access
  deriving DecidableEq, Repr

/-- The message classes of R26, and the link-control flits of R24, which belong to no class. -/
inductive MsgClass where
  | request | response | posted | control
  deriving DecidableEq, Repr

/-- A flit channel in one direction (R26): a welt link's, to or from MGMT (CORE-A's end of the core welt is `toMgmt`), or the
handshake channel into or out of an island. -/
inductive FlitPath where
  | welt (link : Fin 3) (toMgmt : Bool)
  | island (id : BitVec 16) (out : Bool)
  deriving DecidableEq, Repr

/-- A word of a protected memory: at a byte address, or in a memory outside the address map (R367). -/
inductive MemLoc where
  | mapped (addr : BitVec 32)
  | buried (die : Fin 3) (region : Fin 8) (island : BitVec 8) (word : BitVec 24)
  deriving DecidableEq, Repr

/-- Which last issues, and the slots it lost before this issue beyond those R116 fixes: cycles with an empty fetch
buffer, stalled cycles, fetch requests that lost a bank, and cycles spent waiting for the rack bus. -/
structure LastAt where
  rack : Fin 64
  last : Fin 8
  front : BitVec 16 := 0
  back : BitVec 16 := 0
  conflicts : BitVec 16 := 0
  busWait : BitVec 16 := 0
  deriving DecidableEq, Repr

/-- What a lane takes for a tap record of its chosen symbol m (R119): the block number, the reliability value, whether the symbol
belongs to an alignment marker and the symbol expected then; the ADC codes x(m + 158) down to x(m − 96), and what the detector
has kept of the symbols before them: the last decision, and the metrics of the sequence detector's four states. -/
structure TapRecord where
  block : BitVec 24
  rel : BitVec 3
  am : Bool
  known : BitVec 2
  codes : List (BitVec 8)
  before : BitVec 2
  metrics : List Nat
  deriving DecidableEq, Repr

/-- What the search correlator has at a code phase at the end of a bit (R205): the phase, the detection's metric in uQ8.8 dB, the
integrals of the last 4,064 chips at the phase, oldest first, the instant at which the last of them ended, in 2^-16 ns of the
current microsecond, and the error of the arrival that the correlation peak gives, in 2^-16 ns. -/
structure SyncHit where
  phase : Fin 254
  metric : BitVec 16
  chips : List Int
  frac : Fin 65536000
  err : Int
  deriving DecidableEq, Repr

/-- The times of a tag record (R139): cycles from the fetch request to decode and from decode to issue, the rack-bus
round trip, the main stall cause, and the RKCLK cycles of its microsecond before the issue. -/
structure TagTimes where
  fetch : Nat
  stall : Nat
  bus : Nat
  cause : Fin 6
  cycle : Fin 1500
  deriving DecidableEq, Repr

/-- The data memories of a rack (R108): X or Y memory of a last, and the shared memory. -/
inductive RackSpace where
  | x (last : Fin 8) | y (last : Fin 8) | shared
  deriving DecidableEq, Repr

/-- A frame on its way through a port's time unit (R234–R243): its bytes without the FCS, whether its FCS is good, the line
lane of the port and the PCS lane that carry its timestamp point, the raw interval measured between the stamps of R238 and its
wait in the shank pool during a transmit restart (R161), both in 2^-16 ns, the instant of its line timestamp in 2^-16 ns of the
current microsecond with the timestamp's error, offset by 26,214, and whether a context it matches reads uncorrectable. -/
structure PtpPass where
  frame : List (BitVec 8)
  fcsOk : Bool
  lane : Fin 4
  pcs : Fin 32
  raw : BitVec 48
  wait : BitVec 48
  frac : Fin 65536000
  err : Fin 52429
  bad : Bool := false
  deriving DecidableEq, Repr

/-- What Aqique has averaged for a fibre group over the window (R251–R253): the connector-referred arrival a_k and the RTT of each
line lane in 2^-16 ns, the estimated error in 10 ps, and each lane's lowest TRACK metric in the window in dB. -/
structure RangeFit where
  arrive : List Int
  rtt : List Nat
  sigma : BitVec 16
  track : List (BitVec 8)
  deriving DecidableEq, Repr

/-- What becomes of a store's word writes (R372, R373): all read back right; the read-back of word `words`, counted from 0
in the order of the writes, fails twice; or PFAIL_N asserts when `words` words have been written. -/
inductive StoreFate where
  | written
  | verifyFailed (words : Nat)
  | powerFail (words : Nat)
  deriving DecidableEq, Repr

/-- The operations of a request that reads (R24); a burst carries LEN words. `reserved` is a request with the OP code 5, 6 or
7, which no row of the table writes or reads with. -/
inductive ReadOp where
  | word32 | word64 | burst (len : Fin 5) | reserved (code : Fin 3)
  deriving DecidableEq, Repr

/-- Who reads a memory word (R365), but for the readers whose own rows read it: a bus master; a DMA channel; the cobbler
for Aqique's code (`fetch`) or state; the recorder its staging buffer; the FEC/PCS of a port its pool or buffers. -/
inductive MemReader where
  | bus (src : Master) (op : ReadOp)
  | dma (channel : Fin 8) (wide : Bool)
  | aqique (fetch : Bool)
  | recorder
  | fec (port : Fin 8) (fromHost : Bool)
  deriving DecidableEq, Repr


/-- The commands. -/
inductive Instr where
  /-- REGISTER_WRITE (R7): A 32-bit write to a register that has no row of its own, applied according to its access code (RW, WO, W1C, RWL with lock flag, RO ignored). -/
  | registerWrite (src : Master) (addr : W32) (data : W32)
  /-- RS_LOW_WORD_READ (R8): A read of the lowest word of a wide RS quantity, or a READ64 of it, latches all its words into the reading master's snapshot. -/
  | rsLowWordRead (src : Master) (addr : W32) (wide : Bool)
  /-- RC_READ (R7): A read of an RC field returns its value and then clears it. -/
  | rcRead (src : Master) (addr : W32)
  /-- QUEUE_READ (R9): A low-word read or READ64 of RACK_TAG_REC or TIME_TSQ_ENTRY takes the oldest queue entry into the reading master's snapshot. -/
  | queueRead (src : Master) (addr : W32) (wide : Bool)
  /-- MEMORY_READ (R354): A read of a 72-bit memory word is classified by syndrome; a correctable word is corrected and counted, a poisoned or uncorrectable word gives DATA_ERR. -/
  | memoryRead (reader : MemReader) (loc : MemLoc) (upset : W72)
  /-- MEMORY_PARTIAL_WRITE (R355): A write of fewer than 64 data bits performs an indivisible read-modify-write, or poisons the word if the old word is uncorrectable. -/
  | memoryPartialWrite (src : Master) (addr : W32) (wide : Bool) (data : W64) (be : BitVec 8)
  /-- MEMORY_FULL_WRITE (R356): A full 64-bit write replaces data and check bits together and clears any poison. -/
  | memoryFullWrite (src : Master) (addr : W32) (data : W64)
  /-- MRAM_REMAP_DONE (R363): The copy into a spare row completes and the row's addresses are redirected. -/
  | mramRemapDone (row : Fin 8192)
  /-- MRAM_ROW_REFRESH (R359): A scheduled refresh rewrites an MRAM row from corrected data within 1 s of a corrected read. -/
  | mramRowRefresh (row : Fin 8192)
  /-- SCRUB_STEP (R360): The scrubber reads, corrects and writes back one covered word in an idle bank cycle. -/
  | scrubStep (loc : MemLoc) (upset : W72)
  /-- BUCKET_LEAK (R361): A region's leaky bucket leaks by 1 at the end of each LEAK interval. -/
  | bucketLeak (die : Fin 3) (region : Fin 8)
  /-- RESPONSE_ARRIVAL (R25): A response message reaches its requesting master and is matched by TAG, or is discarded if its TIMEOUT was already produced. -/
  | responseArrival (src : Master) (nth : Fin 16)
  /-- WELT_REQ_TIMEOUT (R33): A request with no response within 50 µs gets a TIMEOUT response from the master's own port. -/
  | weltReqTimeout (src : Master) (nth : Fin 16)
  /-- ISLAND_DRAIN_TIMEOUT (R35): Requests accepted by an island that turns off or dozes and not completed within 1 µs receive OFF. -/
  | islandDrainTimeout (island : BitVec 16)
  /-- FLIT_RECEIVE (R31): A welt flit is received; a single-bit error is corrected and counted, an uncorrectable one is discarded and a replay requested. -/
  | flitReceive (path : FlitPath) (data : W64) (flips : W72)
  /-- CREDIT_RETURN (R26): A link-control flit returns credits of a class to the sender. -/
  | creditReturn (path : FlitPath) (cls : MsgClass) (n : Fin 64)
  /-- REPLAY_REQUEST (R31): A link-control replay request makes the sender resend from the named flit out of its replay buffer. -/
  | replayRequest (link : Fin 3) (toMgmt : Bool) (flit : Nat)
  /-- REPLAY_BURST (R31): Eight replays on a link within 1 ms set REPLAY_BURST, log the event and start retraining. -/
  | replayBurst (link : Fin 3) (die : Fin 2)
  /-- LINK_RETRAIN_DONE (R31): A link's training or retraining attempt ends in UP or in failure. -/
  | linkRetrainDone (link : Fin 3) (up : Bool)
  /-- WELT_RETRAIN (R31): A write of 1 to WELT_CTL.RETRAIN_n retrains, restarts or retries the link according to its state. -/
  | weltRetrain (die : Fin 2) (n : Fin 2)
  /-- WELT_AB_EN (R22): A write of WELT_CTL.AB_EN enables training and running of the core welt. -/
  | weltAbEn (die : Fin 2) (en : Bool)
  /-- INTERRUPT_SUMMARY (R37): An interrupt-summary posted event updates the die's pending bits in the interrupt controller and INT_N. -/
  | interruptSummary (die : Fin 2)
  /-- PLL_LOSS_OF_LOCK (R18): A PLL that has locked loses lock; the device logs CLK_PLL_LOL and takes the immediate action for that PLL. -/
  | pllLossOfLock (die : Fin 3) (bit : Fin 8)
  /-- PLL_LOCK (R18): A started or relocking PLL achieves lock, bringing it under the loss rule and resuming its dependants. -/
  | pllLock (die : Fin 3) (bit : Fin 9)
  /-- REFCLK_ABSENT_2US (R17): REFCLK absent for more than 2 µs sets the REFCLK cause bit. -/
  | refclkAbsent2us
  /-- REFCLK_LOST (R19): REFCLK, once present, is absent for more than 10 µs and the device enters FAULT. -/
  | refclkLost
  /-- REFCLK_START_TIMEOUT (R19): REFCLK has not arrived within 10 ms of start-up and the device enters FAULT. -/
  | refclkStartTimeout
  /-- MODE_BEGIN (R55): Opens a transaction and copies the active mode into the staged image. -/
  | modeBegin (e : Fin 256)
  /-- MODE_STAGE_PORT (R47): Stages one port descriptor after field checks. -/
  | modeStagePort (e : Fin 256)
  /-- MODE_STAGE_LANE (R48): Stages one lane descriptor after field checks. -/
  | modeStageLane (e : Fin 256)
  /-- MODE_STAGE_DIE (R49): Stages one die descriptor. -/
  | modeStageDie (e : Fin 256)
  /-- MODE_STAGE_FIBRE (R49): Stages one fibre-group descriptor. -/
  | modeStageFibre (e : Fin 256)
  /-- MODE_VALIDATE (R54): Runs the ordered legality checks on the staged image and reports the first failure or the DOWN and HIT bitmaps. -/
  | modeValidate (e : Fin 256)
  /-- MODE_APPLY (R58): Revalidates the staged image and starts applying it in the fixed step order. -/
  | modeApply (e : Fin 256)
  /-- MODE_APPLY_COMPLETE (R58): Apply step 8 ends: the staged image becomes active, MODE_APPLIED is logged and the transaction closes. -/
  | modeApplyComplete
  /-- MODE_ABORT (R55): Discards the staged image and closes the transaction. -/
  | modeAbort (e : Fin 256)
  /-- MODE_READ (R55): Returns 8 bytes of a staged or active descriptor. -/
  | modeRead (e : Fin 256)
  /-- MODE_PORT_STATUS (R55): Returns a port's state and reason code. -/
  | modePortStatus (e : Fin 256)
  /-- MODE_TXN_EXPIRED (R57): An open transaction idle for 10 s expires and its staged image is discarded. -/
  | modeTxnExpired
  /-- SIG_DETECT_ASSERT (R68): A line lane's envelope stays above the assert threshold for 1 µs and SIG_PRESENT sets, waking a dozing receive direction. -/
  | sigDetectAssert (k : Fin 8)
  /-- SIG_DETECT_DEASSERT (R68): A line lane's envelope stays below the deassert threshold for 4 µs and SIG_PRESENT clears. -/
  | sigDetectDeassert (k : Fin 8)
  /-- WAKE_PATTERN_SEEN (R68): The line tone detector recognises the wake pattern, sets WAKE_SEEN and wakes a dozing receive direction. -/
  | wakePatternSeen (k : Fin 8)
  /-- LRX_DOZE_TIMER (R68): A line lane's DOZE_RX_MS timer expires and the receive direction dozes. -/
  | lrxDozeTimer (k : Fin 8)
  /-- CDR_LOCK_SET (R72): Four consecutive quiet phase-detector windows set a line lane's CDR_LOCK. -/
  | cdrLockSet (k : Fin 8) (fofs : BitVec 16) (phase : BitVec 8)
  /-- CDR_LOCK_CLEAR (R72): Four consecutive noisy windows clear a line lane's CDR_LOCK. -/
  | cdrLockClear (k : Fin 8) (fofs : BitVec 16) (phase : BitVec 8)
  /-- LRX_COEF_WRITE (R73): A write by a non-rack master to a receiver coefficient register takes effect only while the lane's racks are halted, otherwise sets COEF_LOCK. -/
  | lrxCoefWrite (k : Fin 8) (off : BitVec 15) (data : W32)
  /-- TAP_RECORD (R119): The lane writes one tap-window record per 4,096-symbol block into each running rack's buffer. -/
  | tapRecord (k : Fin 8) (x : TapRecord)
  /-- LRX_MONITOR_WINDOW (R76): At the end of each 16 ms window the receiver updates SIG_PWR, SNR and the level statistics. -/
  | lrxMonitorWindow (k : Fin 8) (msq snr : BitVec 16) (l0 l1 l2 l3 : W32)
  /-- HIST_START (R77): A write of 1 to LRX_HIST_CTL.START clears the bins and starts a histogram capture. -/
  | histStart (k : Fin 8)
  /-- HIST_DONE (R77): A histogram capture has taken 2^LEN samples and completes, setting HIST_DONE. -/
  | histDone (k : Fin 8)
  /-- VNLE_FADE_DONE (R75): A 16-step Volterra fade in or out completes, gating the stage or setting VNLE_EFF. -/
  | vnleFadeDone (k : Fin 8)
  /-- CAL_RX_RUN (R81): Starts an interleave calibration run with its CHECK phase. -/
  | calRxRun (e : Fin 256)
  /-- CAL_RX_ABORT (R83): Aborts a lane's calibration run, setting targets to current trims. -/
  | calRxAbort (e : Fin 256)
  /-- CAL_RX_STATUS (R84): Returns a lane's calibration status and last result. -/
  | calRxStatus (e : Fin 256)
  /-- CAL_RX_MEASURE_END (R81): A 16 ms MEASURE phase ends, computing deltas and ending the run if all are zero or starting APPLY. -/
  | calRxMeasureEnd (k : Fin 8) (skew gain offset : List Int)
  /-- CAL_RX_APPLY_END (R81): An APPLY phase ends after max |delta| step periods, starting the next round or ending the run. -/
  | calRxApplyEnd (k : Fin 8)
  /-- ADC_TRIM_STEP (R79): At a sub-ADC's step instant each trim field moves one code towards its target. -/
  | adcTrimStep (k : Fin 8) (n : Fin 128)
  /-- LRX_TTRIM_WRITE (R80): A write to LRX_ADC_TTRIM_n sets a target trim unless a run is active, restarting step periods. -/
  | lrxTtrimWrite (k : Fin 8) (n : Fin 128) (data : W32)
  /-- LTX_SET_FIR (R94): Writes the seven FIR shadow coefficients of a lane. -/
  | ltxSetFir (e : Fin 256)
  /-- LTX_SET_LEVELS (R94): Writes a run of level-table shadow entries of a lane. -/
  | ltxSetLevels (e : Fin 256)
  /-- LTX_COMMIT (R94): Command that writes LTX_CTL.COMMIT and completes at capture. -/
  | ltxCommit (e : Fin 256)
  /-- COMMIT (R94): A write of 1 to LTX_CTL.COMMIT captures the shadows as targets at the next block boundary. -/
  | commit (k : Fin 8)
  /-- LTX_RAMP_STEP (R94): Every 62.5 µs a commit ramp moves the active values one step; step 16 sets RAMP_DONE. -/
  | ltxRampStep (k : Fin 8)
  /-- FASTOFF_ASSERT (R404): FASTOFF_N asserts: line outputs squelch, safe codes are forced, PEN bits deassert and loops hold. -/
  | fastoffAssert
  /-- FASTOFF_RELEASE (R96): FASTOFF_N deasserts after deglitch; the FASTOFF reasons clear and overridden channels return to their base codes. -/
  | fastoffRelease
  /-- FASTOFF_RESUME (R282): 10 ms after release Aqique requests AUTO for loops held by FASTOFF with RESUME set. -/
  | fastoffResume
  /-- LTX_DOZE_TIMER (R98): A line lane's DOZE_TX_MS timer expires and the transmit direction dozes. -/
  | ltxDozeTimer (k : Fin 8)
  /-- LTX_WAKE (R98): The PCS delivers non-idle data to a dozing line transmitter, starting its restart and wake pattern. -/
  | ltxWake (k : Fin 8)
  /-- LTX_CHK_LOCK (R100): The line pattern checker locks after 128 consecutive correct symbols. -/
  | ltxChkLock (k : Fin 8) (start : BitVec 31) (symbols : List (BitVec 2))
  /-- LTX_CHK_LOST (R100): The line pattern checker loses lock after 64 errors in 1,024 symbols. -/
  | ltxChkLost (k : Fin 8) (symbols : List (BitVec 2))
  /-- LTX_LB_SLIP (R101): The LINE_SHALLOW elastic buffer repeats or drops one block and counts the slip. -/
  | ltxLbSlip (k : Fin 8) (again : Bool) (block : List (BitVec 2))
  /-- CAL_TX_RUN (R103): Starts a DAC skew calibration run with its CHECK phase. -/
  | calTxRun (e : Fin 256)
  /-- CAL_TX_ABORT (R104): Aborts a lane's DAC skew calibration run. -/
  | calTxAbort (e : Fin 256)
  /-- CAL_TX_STATUS (R105): Returns a lane's transmit calibration status. -/
  | calTxStatus (e : Fin 256)
  /-- CAL_TX_MEASURE_END (R103): A 32 ms transmit MEASURE phase ends and APPLY starts or the run converges. -/
  | calTxMeasureEnd (k : Fin 8) (skew : List Int)
  /-- CAL_TX_APPLY_END (R103): A transmit APPLY phase ends and the next round starts or the run ends. -/
  | calTxApplyEnd (k : Fin 8)
  /-- DAC_TRIM_STEP (R102): At a sub-DAC's step instant its skew trim moves one code towards its target. -/
  | dacTrimStep (k : Fin 8) (n : Fin 64)
  /-- LTX_TTRIM_WRITE (R102): A write to LTX_DAC_TTRIM_n sets a target trim unless a run is active. -/
  | ltxTtrimWrite (k : Fin 8) (n : Fin 64) (data : W32)
  /-- NOP (R114): ARITH NOP, optionally reading a memory operand and stepping its pointer. -/
  | nop (w : LastAt)
  /-- MPY (R111): Forms the exact product of two operands into an accumulator. -/
  | mpy (w : LastAt)
  /-- MAC (R111): Adds the exact product of two operands to an accumulator. -/
  | mac (w : LastAt)
  /-- MSU (R111): Subtracts the exact product of two operands from an accumulator. -/
  | msu (w : LastAt)
  /-- ADD (R111): Adds an operand aligned with the word field to an accumulator. -/
  | add (w : LastAt)
  /-- SUB (R111): Subtracts an operand aligned with the word field from an accumulator. -/
  | sub (w : LastAt)
  /-- CLR (R114): Clears an accumulator. -/
  | clr (w : LastAt)
  /-- TFR (R111): Transfers S1 aligned with the word field into an accumulator. -/
  | tfr (w : LastAt)
  /-- ASR (R114): Shifts an accumulator right arithmetically by 1. -/
  | asr (w : LastAt)
  /-- ASL (R114): Shifts an accumulator left by 1. -/
  | asl (w : LastAt)
  /-- ABS (R114): Takes the absolute value of an accumulator. -/
  | abs (w : LastAt)
  /-- NEG (R114): Negates an accumulator. -/
  | neg (w : LastAt)
  /-- CMP (R114): Compares an accumulator with S1, setting flags only. -/
  | cmp (w : LastAt)
  /-- MACSS (R111): Adds sgn(S1) × sgn(S2) × MU to an accumulator. -/
  | macss (w : LastAt)
  /-- MACSGN (R111): Adds sgn(S1) × S2 aligned with the word field to an accumulator. -/
  | macsgn (w : LastAt)
  /-- STA (R112): Stores an accumulator to a data register in form H or L with saturation. -/
  | sta (w : LastAt)
  /-- STM (R112): Stores an accumulator to X or Y memory in form H or L, post-modifying the pointer. -/
  | stm (w : LastAt)
  /-- LDI (R114): Loads an immediate into a data register, high or low half. -/
  | ldi (w : LastAt)
  /-- SHIFT (R114): Shifts an accumulator left or arithmetically right by a count. -/
  | shift (w : LastAt)
  /-- MOVR (R114): Moves a tap, accumulator field or data register into a data register. -/
  | movr (w : LastAt)
  /-- EXT (R114): Extracts a signed or unsigned bit field into a data register. -/
  | ext (w : LastAt)
  /-- LOGIC (R114): Performs AND, OR, XOR or AND-NOT between data registers. -/
  | logic (w : LastAt)
  /-- MEM (R114): Loads or stores a data register from or to X or Y memory with pointer post-modification. -/
  | mem (w : LastAt)
  /-- LDA (R114): Loads an address pointer, step or length register with an immediate. -/
  | lda (w : LastAt)
  /-- ADDA (R113): Adds a signed change to a pointer under its AMODE. -/
  | adda (w : LastAt)
  /-- MOVA (R114): Moves D[10:0] into a pointer, step or length register. -/
  | mova (w : LastAt)
  /-- BRA (R114): Branches to a target if the condition holds. -/
  | bra (w : LastAt)
  /-- CALL (R118): Calls a target if the condition holds, pushing the return address. -/
  | call (w : LastAt)
  /-- RET (R118): Returns from a call if the condition holds. -/
  | ret (w : LastAt)
  /-- LOOP (R118): Runs a loop body a counted number of times, using the loop cache for short bodies. -/
  | loop (w : LastAt)
  /-- LOOPR (R118): Runs a loop body a number of times taken from a data register. -/
  | loopr (w : LastAt)
  /-- REPEAT (R118): Issues the following instruction a counted number of times. -/
  | repeat (w : LastAt)
  /-- YIELD (R126): Suspends the last until the next tap record or 4,096 RKCLK cycles. -/
  | yield (w : LastAt)
  /-- YIELD_RESUME (R126): A yielding last resumes when a tap record arrives or 4,096 cycles pass. -/
  | yieldResume (rack : Fin 64) (last : Fin 8) (cycles : Nat)
  /-- SVC (R127): Traps to the supervisor with a service number; SVC 0 halts the last and logs RACK_EXIT. -/
  | svc (w : LastAt)
  /-- TWIN (R120): Loads the oldest unread or newest tap record into T0–T11, stalling if none is unread. -/
  | twin (w : LastAt) (bad : Bool)
  /-- LEAVE (R118): Ends the innermost loop if the condition holds. -/
  | leave (w : LastAt)
  /-- BREQ (R122): Issues a rack-bus read or write request, trapping BUS_PAIRING if one is outstanding. -/
  | breq (w : LastAt) (same : Bool)
  /-- BRSP (R122): Collects the rack-bus response into a data register, stalling until it arrives. -/
  | brsp (w : LastAt)
  /-- RACK_BUS_RESPONSE (R122): A rack-bus response arrives in the last's reserved slot after field-port or memory access. -/
  | rackBusResponse (rack : Fin 64) (last : Fin 8)
  /-- MOVC (R110): Moves a data register into a control register, subject to privilege. -/
  | movc (w : LastAt)
  /-- MOVFC (R110): Moves a control register into a data register, subject to privilege. -/
  | movfc (w : LastAt)
  /-- RTI (R124): Returns from a trap, restoring PC and SR and possibly entering user mode. -/
  | rti (w : LastAt)
  /-- HALT (R114): Halts the last in supervisor mode. -/
  | halt (w : LastAt)
  /-- LAST_WATCHDOG (R126): A last retires 2^20 instructions without TWIN, BRSP or YIELD and traps WATCHDOG. -/
  | lastWatchdog (rack : Fin 64) (last : Fin 8)
  /-- RACK_RESTART (R127): 1 ms after a user trap Aqique restarts the rack's program from its entry. -/
  | rackRestart (rack : Fin 64)
  /-- RACK_CTL_HALT (R123): A write of RACK_CTL.HALT halts or runs lasts at their next instruction boundary. -/
  | rackCtlHalt (src : Master) (rack : Fin 64) (data : W32)
  /-- TAG_SAMPLE (R139): The tagging interval expires and one issued instruction is tagged, its record entering the FIFO on completion. -/
  | tagSample (rack : Fin 64) (last : Fin 8) (times : TagTimes)
  /-- PROG_WORD_WRITE (R134): A cobbler or DMA write to a rack program word is paired low-then-high and written whole while all lasts halt. -/
  | progWordWrite (src : Master) (rack : Fin 64) (word : Fin 8192) (high : Bool) (data : W32)
  /-- RACK_MEM_WRITE (R134): A write to a last's X, Y or the shared memory is permitted only while the owner or all lasts are halted. -/
  | rackMemWrite (src : Master) (rack : Fin 64) (space : RackSpace) (loc : Fin 2048) (data : W32)
  /-- RACK_HALT (R132): Halts the named racks of a lane. -/
  | rackHalt (e : Fin 256)
  /-- RACK_RESUME (R132): Resumes the named racks of a lane. -/
  | rackResume (e : Fin 256)
  /-- RACK_STATUS (R132): Returns a rack's status and program ID. -/
  | rackStatus (e : Fin 256)
  /-- PSET_LOAD_BEGIN (R132): Opens a staging region for a program-set image. -/
  | psetLoadBegin (e : Fin 256)
  /-- PSET_LOAD_END (R130): Parses, verifies and stores a staged program-set image in MRAM. -/
  | psetLoadEnd (e : Fin 256)
  /-- PSET_ERASE (R132): Removes a program set from MRAM unless in use. -/
  | psetErase (e : Fin 256)
  /-- PSET_LIST (R132): Returns the loaded and built-in program sets. -/
  | psetList (e : Fin 256)
  /-- CNT_BANK_CLEAR (R135): A write of 1 to a CNT_BANK_CLR bit clears a bank counter. -/
  | cntBankClear (src : Master) (die : Fin 3) (island : BitVec 8) (data : W32)
  /-- CNT_RD_START (R140): A write of 1 to CNT_RD_CTL.START starts a counter-reader run. -/
  | cntRdStart (src : Master) (data : W32)
  /-- CNT_RD_ENTRY_RESPONSE (R140): The response to a reader READ64 arrives, is stored, and the next entry is issued or the run ends. -/
  | cntRdEntryResponse (elapsed : Nat)
  /-- CNT_LIST_SET (R141): Writes addresses into a reader list. -/
  | cntListSet (e : Fin 256)
  /-- CNT_LIST_RUN (R141): Runs a reader list and completes when the run ends. -/
  | cntListRun (e : Fin 256)
  /-- CNT_BANK_SET (R141): Configures, enables or clears a bank counter of an island. -/
  | cntBankSet (e : Fin 256)
  /-- INNER_LOCK_SET (R145): Three consecutive matching sync blocks set a line lane's INNER_LOCK. -/
  | innerLockSet (k : Fin 8) (blocks : List (List (BitVec 2)))
  /-- INNER_LOCK_CLEAR (R145): Four consecutive failing sync positions clear INNER_LOCK. -/
  | innerLockClear (k : Fin 8) (blocks : List (List (BitVec 2)))
  /-- INNER_CODEWORD (R146): The soft-decision inner decoder decodes one (128,120) codeword, counting corrections or failure. -/
  | innerCodeword (k : Fin 8) (word : BitVec 128) (rel : List (BitVec 3)) (lesser : Bool)
  /-- AM_LOCK_SET (R147): A lane's PCS lanes all lock their alignment markers and AM_LOCK sets. -/
  | amLockSet (host : Bool) (n : Fin 16) (lanes : List (Fin 32))
  /-- AM_LOCK_CLEAR (R147): A lane loses alignment-marker lock; its port leaves alignment. -/
  | amLockClear (host : Bool) (n : Fin 16)
  /-- CODEWORD_DECODE (R150): One RS(544,514) codeword completes decoding, is corrected or marked, and is counted. -/
  | codewordDecode (p : Fin 8) (fromHost : Bool) (errors : List (Fin 32)) (blocks : List (BitVec 66))
  /-- CODEWORD_ENCODE (R165): One RS codeword is encoded in a direction, with error injection if due. -/
  | codewordEncode (p : Fin 8) (toHost : Bool)
  /-- RATE_ADAPT_ADJUST (R151): Terminate-mode rate adaptation inserts or deletes an idle block to hold buffer fill. -/
  | rateAdaptAdjust (p : Fin 8) (fromHost insert : Bool) (place : Nat)
  /-- FEC_SLIP (R151): A rate-adaptation buffer overflows or underflows, losing or marking codewords. -/
  | fecSlip (p : Fin 8) (fromHost : Bool)
  /-- MONITOR_SLIP (R152): A monitor-mode slip buffer drops or repeats a 10-bit symbol on every PCS lane of a line lane. -/
  | monitorSlip (k : Fin 8)
  /-- FRAME_PARSE (R154): Frame view parses one Ethernet frame, counting it and passing precision-time messages to the correction unit. -/
  | frameParse (p : Fin 8) (fromHost fcsOk : Bool)
  /-- SKEW_MEASUREMENT (R156): Skew is measured per alignment-marker period; a skew over its limit keeps the direction undeskewed and reports SKEW_OVER. -/
  | skewMeasurement (p : Fin 8) (fromHost : Bool) (arrivals : List Nat) (fill : BitVec 8)
  /-- WAKE_FRAME_DISCARD (R161): A frame arriving while a waking transmitter's hold is full is discarded whole and counted. -/
  | wakeFrameDiscard (p : Fin 8) (fromHost : Bool) (len : Nat)
  /-- STAT_LATCH (R164): A write of FEC_STAT_CTL.LATCH copies every port counter into the shadow bank at one instant. -/
  | statLatch (p : Fin 8)
  /-- STAT_CLEAR (R164): A write of FEC_STAT_CTL.CLEAR clears every live counter of the port at one instant. -/
  | statClear (p : Fin 8)
  /-- FEC_INJ_CTL_WRITE (R165): A write to FEC_INJ_CTL configures injection only while FEC_TERM is set, otherwise sets INJ_LOCK. -/
  | fecInjCtlWrite (p : Fin 8) (data : W32)
  /-- POOL_WINDOW_WRITE (R160): A write to the shank-pool window is accepted only from the cobbler or DMA to a free or configuring granule. -/
  | poolWindowWrite (src : Master) (die : Fin 2) (word : Fin 196608) (data : W64)
  /-- FEC_STAT_LATCH (R166): Command that latches, and optionally clears, a port's counters. -/
  | fecStatLatch (e : Fin 256)
  /-- FEC_POOL_STATUS (R166): Returns a die's pool allocation and fenced counts. -/
  | fecPoolStatus (e : Fin 256)
  /-- FEC_SKEW_REPORT (R166): Returns a port's skew and line-to-host hold. -/
  | fecSkewReport (e : Fin 256)
  /-- HL_TX_EQ_WRITE (R172): A write to HL_TX_EQ takes effect at the next block boundary with clamping of the tap sum. -/
  | hlTxEqWrite (j : Fin 16) (data : W32)
  /-- HL_RX_EQ_CTL_WRITE (R170): A write to HL_RX_EQ_CTL changes adaptation, fixed CTLE or freeze at the next block boundary. -/
  | hlRxEqCtlWrite (j : Fin 16) (data : W32)
  /-- HL_CDR_LOCK_SET (R171): Four quiet windows set a host lane's CDR_LOCK. -/
  | hlCdrLockSet (j : Fin 16) (fofs : BitVec 16) (phase : BitVec 8)
  /-- HL_CDR_LOCK_CLEAR (R171): Four noisy windows clear a host lane's CDR_LOCK and ADAPT_DONE. -/
  | hlCdrLockClear (j : Fin 16) (fofs : BitVec 16) (phase : BitVec 8)
  /-- HL_ADAPT_DONE (R171): The CTLE search ends and MSE stays within 1 % over 64 windows, setting ADAPT_DONE. -/
  | hlAdaptDone (j : Fin 16) (ctle : BitVec 5) (h1 : BitVec 10) (taps : List (BitVec 12))
  /-- HL_CTLE_TRACK (R170): Every 1 ms the host-lane CTLE tracks by at most one code. -/
  | hlCtleTrack (j : Fin 16) (step : Fin 3) (h1 : BitVec 10) (taps : List (BitVec 12))
  /-- HL_SIG_ASSERT (R176): A host lane's envelope stays above ASSERT for 1 µs and SIG_PRESENT sets, waking the port's dozing receive directions. -/
  | hlSigAssert (j : Fin 16)
  /-- HL_SIG_DEASSERT (R176): A host lane's envelope stays below DEASSERT for 4 µs and SIG_PRESENT clears. -/
  | hlSigDeassert (j : Fin 16)
  /-- HL_WAKE_SEEN (R176): A host lane's tone detector recognises the wake pattern and sets WAKE_SEEN. -/
  | hlWakeSeen (j : Fin 16)
  /-- HL_RX_DOZE_TIMER (R184): A host lane's DOZE_RX_MS timer expires and the receive direction dozes. -/
  | hlRxDozeTimer (j : Fin 16)
  /-- HL_TX_DOZE_TIMER (R185): A host lane's DOZE_TX_MS timer expires and the transmit direction dozes in electrical idle. -/
  | hlTxDozeTimer (j : Fin 16)
  /-- HL_TX_WAKE (R185): Non-idle line-to-host data wakes a dozing host transmitter. -/
  | hlTxWake (j : Fin 16)
  /-- HL_WAKE_AM_TIMEOUT (R187): A host receive restart has no AM lock 252 µs after the trigger; AM_LOCK_H clears and the port returns to ACQUIRING. -/
  | hlWakeAmTimeout (j : Fin 16)
  /-- HL_CHK_LOCK (R178): A host-lane checker locks on its pattern. -/
  | hlChkLock (j : Fin 16) (start : BitVec 31) (symbols : List (BitVec 2))
  /-- HL_CHK_LOST (R178): A host-lane checker loses lock after 64 errors in 1,024 symbols. -/
  | hlChkLost (j : Fin 16) (symbols : List (BitVec 2))
  /-- HL_SLIP_WRITE (R180): A write to HL_SLIP replaces the pending slip counts while the port is in TEST. -/
  | hlSlipWrite (j : Fin 16) (data : W32)
  /-- CAPTURE_START (R181): A write of HL_CAP_CTL.START starts a 1,024-symbol capture if CDR is locked and none is busy. -/
  | captureStart (j : Fin 16)
  /-- CAPTURE_DONE (R181): A capture completes 9.6 ns after it starts and sets CAP_DONE. -/
  | captureDone (j : Fin 16) (words : List W32)
  /-- HL_LB_SLIP (R182): The HOST_SHALLOW elastic buffer slips one block. -/
  | hlLbSlip (j : Fin 16) (again : Bool) (block : List (BitVec 2))
  /-- HL_SET_TX_EQ (R189): Sets a host lane's transmit equaliser and swing. -/
  | hlSetTxEq (e : Fin 256)
  /-- HL_SET_RX_EQ (R189): Sets a host lane's receive adaptation controls. -/
  | hlSetRxEq (e : Fin 256)
  /-- HL_SLIP (R189): Sets pending bit slips and completes when both counts reach 0. -/
  | hlSlip (e : Fin 256)
  /-- HL_CAPTURE (R189): Runs a symbol capture on a host lane. -/
  | hlCapture (e : Fin 256)
  /-- HL_STATUS (R189): Returns a host lane's status and idle reasons. -/
  | hlStatus (e : Fin 256)
  /-- INS_TIMING_LAUNCH (R200): At each n/16 s instant a TIMING frame starts on lanes with TTT_EN or ranging membership. -/
  | insTimingLaunch (k : Fin 8) (err : Fin 52429)
  /-- INS_TX_FRAME_DONE (R200): An insole frame finishes transmission and the next frame is chosen by priority. -/
  | insTxFrameDone (k : Fin 8)
  /-- INS_ACK_TIMER (R200): An acknowledgement has waited 20 ms and a LINK frame is scheduled. -/
  | insAckTimer (k : Fin 8)
  /-- INS_LINK_PERIOD (R200): 250 ms since the last LINK frame schedules a periodic LINK frame. -/
  | insLinkPeriod (k : Fin 8)
  /-- INS_RAMP_STEP (R196): Every 62.5 µs the insole amplitude ramp moves one of 16 steps. -/
  | insRampStep (k : Fin 8)
  /-- INS_CODE_DETECT (R202): A search dwell finds a code phase above DETECT_THR and the receiver locks and enters SYNCED. -/
  | insCodeDetect (k : Fin 8) (energy : List (BitVec 16))
  /-- INS_SYNC_DETECT (R205): A sync detection at a code phase starts a frame or moves the receiver to SYNCED. -/
  | insSyncDetect (k : Fin 8) (hits : List SyncHit)
  /-- INS_HEADER_END (R199): A frame's header ends and an out-of-range LEN ends the frame. -/
  | insHeaderEnd (k : Fin 8) (header : W32)
  /-- INS_FRAME_RECEIVED (R199): An insole frame ends; its CRC and TYPE are checked and LINK, TIMING or MSG content is processed. -/
  | insFrameReceived (k : Fin 8) (header : W32) (payload : List (BitVec 8)) (crc : W32) (sigma : BitVec 16)
  /-- INS_LOCK_LOSS (R204): The TRACK metric stays below threshold for 64 bits and the receiver returns to ACQUIRING. -/
  | insLockLoss (k : Fin 8)
  /-- INS_FOFS_MEASURE (R203): At each bit end the receiver measures the far-end frequency offset; out of range keeps it ACQUIRING. -/
  | insFofsMeasure (k : Fin 8) (apart : BitVec 16) (track : BitVec 16) (energy : List (BitVec 16))
  /-- INS_FOFS_MISMATCH (R203): INS_FOFS differs from LRX_CDR_FOFS by over 2 ppm for 1 s. -/
  | insFofsMismatch (k : Fin 8)
  /-- INS_RX_TIMEOUT (R209): No good frame arrives for 1 s; RX_OK clears and an UP link drops. -/
  | insRxTimeout (k : Fin 8)
  /-- INS_HOLD_END (R209): The 500 ms post-down hold ends. -/
  | insHoldEnd (k : Fin 8)
  /-- INS_MSG_RETX (R214): A message unacknowledged 250 ms after its latest send is resent with later messages; a fourth unanswered send fails it. -/
  | insMsgRetx (k : Fin 8)
  /-- INS_CREDIT_TIMEOUT (R216): The far end advertises no room for a queued message within 400 ms. -/
  | insCreditTimeout (k : Fin 8)
  /-- INS_SLOT_WRITE (R213): A write to an insole message slot is refused with ACCESS if the slot is in a send or MSG_EN is clear. -/
  | insSlotWrite (src : Master) (k : Fin 8) (receive : Bool) (word : Fin 256) (data : W64)
  /-- INS_MSG_SEND (R214): Hands a filled transmit slot to the lane for sending. -/
  | insMsgSend (e : Fin 256)
  /-- INS_MSG_RECV (R219): Returns the oldest stored received message. -/
  | insMsgRecv (e : Fin 256)
  /-- INS_MSG_RELEASE (R215): Frees a receive slot. -/
  | insMsgRelease (e : Fin 256)
  /-- INS_STATUS (R219): Returns a lane's insole status and metrics. -/
  | insStatus (e : Fin 256)
  /-- INS_SET_PARAM (R218): Sets injection depth and receive parameters of a lane. -/
  | insSetParam (e : Fin 256)
  /-- INS_SEARCH (R219): Starts correlating against each of the eight sequences. -/
  | insSearch (e : Fin 256)
  /-- INS_SEARCH_DONE (R219): The sequence search ends and the receiver re-enters ACQUIRING. -/
  | insSearchDone (k : Fin 8) (metrics : List (BitVec 16))
  /-- PPS_IN_EDGE (R226): A rising PPS_IN edge is timestamped and feeds the PPS_IN servo and any pending TIME_SET. -/
  | ppsInEdge (frac : Fin 65536000) (errA errB : Fin 32769)
  /-- PPS_IN_MISS (R226): No PPS_IN pulse for 1.5 s sets PPS_IN_MISS and moves a LOCKED counter to HOLDOVER. -/
  | ppsInMiss
  /-- HOST_VALIDITY_TIMEOUT (R224): No valid HOST TIME_SET or TIME_ADJ within HOST_TIMEOUT moves LOCKED to HOLDOVER. -/
  | hostValidityTimeout
  /-- INSOLE_SRC_INVALID (R227): An INSOLE source becomes unusable, including no exchange within 1 s, and SRC_INVALID is set. -/
  | insoleSrcInvalid
  /-- TIME_ALIGN_SEND (R229): Every 1 ms the primary die sends a time-alignment posted event to the follower. -/
  | timeAlignSend
  /-- TIME_ALIGN_MSG (R229): A time-alignment message arrives and is stamped; the follower updates its offset and alignment state. -/
  | timeAlignMsg (frac : Fin 65536000)
  /-- TIME_ALIGN_TIMEOUT (R230): No alignment exchange for 10 ms makes the follower's ALIGN LOST. -/
  | timeAlignTimeout
  /-- TIME_RES_RESUME (R228): Residence correction resumes 1 ms after TPLL relock. -/
  | timeResResume (die : Fin 2)
  /-- PTP_EVENT_MESSAGE (R236): A recognised event message is corrected in flight, allocates a two-step context, or enters the timestamp queue. -/
  | ptpEventMessage (p : Fin 8) (fromHost : Bool) (x : PtpPass)
  /-- PTP_GENERAL_MESSAGE (R245): A Follow_Up or Delay_Resp is corrected from its matching context or handled as an orphan. -/
  | ptpGeneralMessage (p : Fin 8) (fromHost : Bool) (x : PtpPass)
  /-- CTX_EXPIRE (R246): An unmatched context expires after TTL_FU or TTL_DR and is freed. -/
  | ctxExpire (p : Fin 8)
  /-- RANGE_UPDATE (R252): Every 16 s ranging recomputes lengths and per-lane delays or marks results HELD. -/
  | rangeUpdate (g : Fin 8) (fit : RangeFit)
  /-- PPS_OUT_RISE (R254): PPS_OUT rises at a whole second of CORE-A's counter when enabled and locked. -/
  | ppsOutRise
  /-- PPS_OUT_FALL (R254): PPS_OUT falls WIDTH ms after rising. -/
  | ppsOutFall
  /-- TOD_TIME_MESSAGE (R255): 10 ms after each second CORE-A sends a TIME message on TOD_TXD. -/
  | todTimeMessage
  /-- TOD_NEXT_MESSAGE (R256): A NEXT message ends on TOD_RXD and labels the next PPS_IN edge or is discarded. -/
  | todNextMessage (bytes : List (BitVec 8))
  /-- TIME_SET_SOURCE (R224): Selects the discipline source, primary die and lane. -/
  | timeSetSource (e : Fin 256)
  /-- TIME_SET (R258): Sets the time-of-day, at the next PPS edge under PPS_IN. -/
  | timeSet (e : Fin 256)
  /-- TIME_ADJ (R225): Applies a host offset and optional rate under the HOST source. -/
  | timeAdj (e : Fin 256)
  /-- TIME_STATUS (R258): Returns a die's time status and error estimate. -/
  | timeStatus (e : Fin 256)
  /-- TIME_SET_DELAY (R258): Sets a lane, far, board or asymmetry delay constant. -/
  | timeSetDelay (e : Fin 256)
  /-- TIME_WL_SET (R250): Sets or removes a lane's wavelength table entry. -/
  | timeWlSet (e : Fin 256)
  /-- TIME_MODEL_SET (R250): Loads a fibre direction's dispersion model. -/
  | timeModelSet (e : Fin 256)
  /-- TIME_RANGE_REPORT (R258): Returns one lane's ranging result. -/
  | timeRangeReport (e : Fin 256)
  /-- TIME_CTX_FLUSH (R247): Frees every two-step context of a port. -/
  | timeCtxFlush (e : Fin 256)
  /-- TIME_PPS_SET (R254): Configures PPS_OUT enable, hold, width and offset. -/
  | timePpsSet (e : Fin 256)
  /-- TIME_TODSER_SET (R255): Configures the serial time interface and UTC offset. -/
  | timeTodserSet (e : Fin 256)
  /-- TIME_PORT_SET (R258): Sets a port's message mask, policy, queue enable and context lifetimes. -/
  | timePortSet (e : Fin 256)
  /-- LOOP_TICK (R264): A loop slot's tick: feedback checks, trip, pending mode request and computation. -/
  | loopTick (l : Fin 48)
  /-- TGT_MODE_REQUEST (R268): A write to TGT_LOOP_MODE_s requests a mode change applied at the loop's next tick. -/
  | tgtModeRequest (l : Fin 48) (data : W32)
  /-- TGT_SP_WRITE (R270): A write to TGT_LOOP_SP_s sets the set-point target, clamped to SP_MIN … SP_MAX. -/
  | tgtSpWrite (l : Fin 48) (data : W32)
  /-- TGT_LOOP_CFG (R285): Sets a loop's bindings, flags, timing, feed-forward and ramp. -/
  | tgtLoopCfg (e : Fin 256)
  /-- TGT_LOOP_GAINS (R285): Sets a loop's gains and shifts. -/
  | tgtLoopGains (e : Fin 256)
  /-- TGT_LOOP_LIMITS (R285): Sets a loop's output, feedback and set-point limits. -/
  | tgtLoopLimits (e : Fin 256)
  /-- TGT_SET_MODE (R268): Requests a loop mode, completing at the tick that applies or refuses it. -/
  | tgtSetMode (e : Fin 256)
  /-- TGT_SET_SP (R270): Sets a loop's set-point target. -/
  | tgtSetSp (e : Fin 256)
  /-- TGT_STATUS (R285): Returns a loop's status and output. -/
  | tgtStatus (e : Fin 256)
  /-- TGT_CLEAR_FLAGS (R266): Clears a loop's sticky flags. -/
  | tgtClearFlags (e : Fin 256)
  /-- CDAC_CFG_WRITE (R275): A write to CDAC_CFG_n sets its fields, keeping GAIN2 while EN is set, and opens or closes the clamp. -/
  | cdacCfgWrite (n : Fin 32) (data : W32)
  /-- CDAC_CODE_WRITE (R277): A write to CDAC_CODE_n stages an unowned channel's base code, or is locked for an owned one. -/
  | cdacCodeWrite (n : Fin 32) (data : W32)
  /-- SOFTWARE_STROBE (R278): A write of 1 to a CDAC_STROBE bit loads a SOFTWARE group's staged codes. -/
  | softwareStrobe (data : W32)
  /-- CDAC_CFG (R285): Configures a control DAC channel. -/
  | cdacCfg (e : Fin 256)
  /-- CDAC_SET_CODE (R285): Stages a base code on an unowned channel. -/
  | cdacSetCode (e : Fin 256)
  /-- CDAC_GROUP (R278): Sets a strobe group's source. -/
  | cdacGroup (e : Fin 256)
  /-- CDAC_STROBE (R285): Command that strobes the groups of a mask. -/
  | cdacStrobe (e : Fin 256)
  /-- SINE_CFG (R279): Configures a sine generator. -/
  | sineCfg (e : Fin 256)
  /-- PEN_SET (R283): Changes optics-rail enables and their fast-shutdown behaviour. -/
  | penSet (e : Fin 256)
  /-- CDAC_STATUS (R285): Returns a channel's output and status. -/
  | cdacStatus (e : Fin 256)
  /-- SINE_STOP (R279): A disabled generator stops at its next phase crossing of 0 or half a turn. -/
  | sineStop (g : Fin 8)
  /-- CDAC_REF_FAULT (R287): REF_OK clears while a channel has EN set and CDAC_REF_FAULT is logged. -/
  | cdacRefFault (within : Bool)
  /-- MON_CONVERSION (R289): One 1 µs conversion ends and its corrected sample feeds decimation, checks or an on-demand result. -/
  | monConversion (raw : BitVec 16)
  /-- MON_PUBLISH (R303): A channel publishes its output 2 µs after its publication sample. -/
  | monPublish (c : Fin 32)
  /-- FADE_END (R308): After 64 cross-faded outputs the old bank becomes inactive and FADE_DONE is set. -/
  | fadeEnd (c : Fin 32)
  /-- CHK_FAULT (R297): Four consecutive check-DAC mismatches set CHK_FAULT. -/
  | chkFault
  /-- CHK_OK (R297): Four consecutive passes clear CHK_FAULT. -/
  | chkOk
  /-- RUN (R291): A write of MON_CTL.RUN starts or stops the converter. -/
  | run (run : Bool)
  /-- SLOT_COMMIT (R290): A write of MON_CTL.SLOT_COMMIT validates the shadow slot table. -/
  | slotCommit
  /-- SLOT_TABLE_APPLY (R290): A validated slot table takes effect at the next frame boundary. -/
  | slotTableApply
  /-- OD_REQUEST (R292): A write to MON_OD_REQ requests an on-demand conversion, or is rejected if one is pending. -/
  | odRequest (src : Master) (data : W32)
  /-- DIAG_START (R298): A write of MON_CHK_CTL.DIAG_EN starts an input-path diagnosis. -/
  | diagStart (data : W32)
  /-- DIAG_DONE (R298): A diagnosis ends after 16 conversions and MON_DIAG_RES is written. -/
  | diagDone
  /-- MON_CAL_AVERAGE_DONE (R299): A 1,024-conversion calibration average completes and ZERO or GAIN is computed or rejected. -/
  | monCalAverageDone
  /-- FIR_COMMIT (R308): A write of MON_CH_CTL.COMMIT makes the inactive bank active by swap or fade. -/
  | firCommit (c : Fin 32) (data : W32)
  /-- MON_SLOT_SET (R310): Writes entries of the shadow slot table. -/
  | monSlotSet (e : Fin 256)
  /-- MON_SLOT_COMMIT (R290): Command that validates and applies the shadow slot table. -/
  | monSlotCommit (e : Fin 256)
  /-- MON_CH_CFG (R310): Configures a decimation channel. -/
  | monChCfg (e : Fin 256)
  /-- MON_FIR_SET (R307): Writes taps of a channel's inactive bank. -/
  | monFirSet (e : Fin 256)
  /-- MON_FIR_COMMIT (R308): Command that commits a channel's inactive bank. -/
  | monFirCommit (e : Fin 256)
  /-- MON_CONVERT (R293): Requests an on-demand conversion through the cobbler's request. -/
  | monConvert (e : Fin 256)
  /-- MON_CAL_ZERO (R299): Starts averaging an input's zero condition. -/
  | monCalZero (e : Fin 256)
  /-- MON_CAL_FS (R299): Starts averaging an input's full-scale condition. -/
  | monCalFs (e : Fin 256)
  /-- MON_CHK_DIAG (R298): Command that runs an input-path diagnosis. -/
  | monChkDiag (e : Fin 256)
  /-- MON_CHK_SET (R310): Sets the check DAC code and tolerance. -/
  | monChkSet (e : Fin 256)
  /-- MON_STATUS (R310): Returns a channel's status and latest value. -/
  | monStatus (e : Fin 256)
  /-- I2C_WRITE (R314): An I2C write transaction takes effect at its STOP or repeated START, up to 8 bytes. -/
  | i2cWrite (offset : BitVec 8) (bytes : List (BitVec 8)) (ended : Bool)
  /-- I2C_READ (R314): An I2C read transaction returns consecutive bytes of the selected page, clearing CMIS flags on read. -/
  | i2cRead (count : BitVec 12)
  /-- I2C_DOORBELL (R318): A write to byte 161 of page 0xB0 rings the selected eyelet. -/
  | i2cDoorbell
  /-- I2C_WINDOW_ACCESS (R321): A write to byte 136 of page 0xBF issues a READ32 or WRITE32 as bus master SRC 0x2. -/
  | i2cWindowAccess (value : BitVec 8)
  /-- I2C_BUS_TIMEOUT (R438): SCL low for 35 ms makes the target release SDA and return to idle. -/
  | i2cBusTimeout
  /-- SPI_WRITE (R324): An SPI WRITE frame issues a WRITE32 per word, discarding words beyond two posted. -/
  | spiWrite (addr : W32) (words : List W32)
  /-- SPI_READ (R323): An SPI READ frame issues a READ32 per word and returns a status byte and data. -/
  | spiRead (addr : W32) (words : Fin 256)
  /-- SPI_STATUS (R322): An SPI STATUS frame waits for posted writes and returns the captured status and HIF_SPI_STAT. -/
  | spiStatus
  /-- SPI_ID (R322): An SPI ID frame returns PWR_DEV_ID without a bus access. -/
  | spiId
  /-- CMIS_APPLY_DP_INIT (R316): ApplyDPInit makes Aqique run a mode transaction for the bank's staged data paths. -/
  | cmisApplyDpInit (bank : Fin 2) (paths : List (Fin 8 × Fin 4 × Fin 16))
  /-- CMIS_DP_DEINIT (R316): DataPathDeinit on a lane stages its port with TX_EN clear or set. -/
  | cmisDpDeinit (lane : Fin 16) (deinit : Bool)
  /-- CMIS_OUTPUT_DISABLE (R316): OutputDisableTx on a media lane stages its port's TX_EN clear. -/
  | cmisOutputDisable (lane : Fin 8) (disable : Bool)
  /-- CMIS_MONITOR_REFRESH (R314): Every 100 ms Aqique refreshes CMIS monitor values. -/
  | cmisMonitorRefresh (supply : BitVec 16)
  /-- VENDOR_PAGE_UPDATE (R317): Aqique replaces a vendor page image whole on its update schedule. -/
  | vendorPageUpdate (page : Fin 3) (bank : Fin 8)
  /-- DOORBELL (R330): A write to MBX_DOORBELL accepts a FREE eyelet while READY, or rejects it. -/
  | doorbell (src : Master) (data : W32)
  /-- COMMAND_BEGIN (R332): The cobbler begins an accepted command in acceptance order, checking its descriptor. -/
  | commandBegin
  /-- COMPLETION_POST (R333): A completion entry is written to its ring and the eyelet returns to FREE, or waits in POSTING. -/
  | completionPost (e : Fin 256)
  /-- CONSUMER_INDEX_WRITE (R333): A write to MBX_CR_CONS_PTR_r frees ring entries, letting POSTING completions be written. -/
  | consumerIndexWrite (src : Master) (ring : Fin 2) (data : W32)
  /-- CMD_TIMEOUT (R335): A command not finished 2 s after acceptance completes with CMD_TIMEOUT. -/
  | cmdTimeout (e : Fin 256)
  /-- MBX_VERSION (R349): Returns the running firmware version and slot. -/
  | mbxVersion (e : Fin 256)
  /-- MBX_ECHO (R349): Returns its parameter bytes. -/
  | mbxEcho (e : Fin 256)
  /-- HIF_WIN_OPEN (R327): Opens a host write window, refusing protected regions. -/
  | hifWinOpen (e : Fin 256)
  /-- HIF_WIN_CLOSE (R349): Closes a host write window. -/
  | hifWinClose (e : Fin 256)
  /-- CMIS_CTL (R349): Sets or clears CMIS data-path control. -/
  | cmisCtl (e : Fin 256)
  /-- FW_UPDATE_BEGIN (R342): Invalidates the inactive slot and opens the firmware staging buffer. -/
  | fwUpdateBegin (e : Fin 256)
  /-- FW_UPDATE_CHUNK (R342): Copies staged bytes into the inactive slot with read-back. -/
  | fwUpdateChunk (e : Fin 256) (fail : Option (Fin 8192))
  /-- FW_UPDATE_END (R342): Checks the written slot as boot() does and marks it VALID. -/
  | fwUpdateEnd (e : Fin 256)
  /-- FW_ACTIVATE (R342): Makes the VALID inactive slot PENDING, optionally resetting 100 ms later. -/
  | fwActivate (e : Fin 256)
  /-- FW_COMMIT (R342): Makes the running trial slot ACTIVE and advances the anti-rollback counter. -/
  | fwCommit (e : Fin 256)
  /-- FW_STATUS (R349): Returns security state and slot versions. -/
  | fwStatus (e : Fin 256)
  /-- SEC_STAGE_OPEN (R349): Opens a 4 KiB staging region for a certificate or token. -/
  | secStageOpen (e : Fin 256)
  /-- SEC_CERT_APPLY (R344): Checks and applies a staged key certificate. -/
  | secCertApply (e : Fin 256)
  /-- DEBUG_CHALLENGE (R347): Places a fresh nonce in SEC_DBG_NONCE. -/
  | debugChallenge (e : Fin 256)
  /-- DEBUG_UNLOCK (R347): Checks a staged token and unlocks debug, counting failures towards lockout. -/
  | debugUnlock (e : Fin 256)
  /-- DEBUG_LOCK (R347): Ends a debug unlock. -/
  | debugLock (e : Fin 256)
  /-- KEY_LIST (R349): Returns key-slot occupancy and the slot's maker. -/
  | keyList (e : Fin 256)
  /-- BOOT_SELECT (R339): At entry to BOOT the boot ROM selects, copies and verifies an image and starts the cobbler or enters recovery. -/
  | bootSelect
  /-- RECOVERY_GO (R341): A write of SEC_RECOVERY_CTL.GO checks the recovery image and writes it to slot A or reports an error. -/
  | recoveryGo (src : Master) (data : W32) (fail : Bool)
  /-- BOOT_WATCHDOG (R339): A started image has not set READY within 5 s and the device resets. -/
  | bootWatchdog
  /-- AQIQUE_READY (R336): Aqique finishes initialisation and sets MBX_STAT.READY; the device enters LOW_POWER. -/
  | aqiqueReady
  /-- LOCKSTEP_MISMATCH (R313): The cobbler's cores disagree; both stop and the device enters FAULT. -/
  | lockstepMismatch (pc : W32)
  /-- MEM_STATUS (R368): Returns a region's bucket state and uncorrectable count. -/
  | memStatus (e : Fin 256)
  /-- MEM_BUCKET_SET (R368): Sets a region's bucket threshold and leak. -/
  | memBucketSet (e : Fin 256)
  /-- MEM_HARD_LIST (R368): Returns an entry of the hard-error list. -/
  | memHardList (e : Fin 256)
  /-- CAL_STORE_INFO (R376): Returns the loaded store's SEQ and bank validity. -/
  | calStoreInfo (e : Fin 256)
  /-- CAL_STAGE_OPEN (R376): Opens a 64 KiB staging region for store entries. -/
  | calStageOpen (e : Fin 256)
  /-- CAL_STORE_WRITE (R372): Writes a new calibration store into the other bank from captured and staged entries. -/
  | calStoreWrite (e : Fin 256) (fate : StoreFate)
  /-- EVENT_RECORD_ARRIVAL (R379): An event enters the recorder input FIFO or is dropped if the FIFO is full. -/
  | eventRecordArrival
  /-- FLUSH_AGE_TIMER (R381): The oldest unflushed record reaches 100 ms and a flush starts. -/
  | flushAgeTimer
  /-- RING_RECORD_WRITE (R381): One record is written and verified in the MRAM ring, continuing the flush. -/
  | ringRecordWrite (fail : Bool)
  /-- EMERGENCY_COPY (R383): Aqique copies uncopied emergency records into staging at boot or within 1 s of a new one. -/
  | emergencyCopy
  /-- RECORDER_CLOCK_ALIGN (R380): Once per second Aqique aligns the recorder clock to the primary die's time-of-day. -/
  | recorderClockAlign
  /-- FREEZE_LIMIT (R385): A freeze's limit expires and flushing resumes. -/
  | freezeLimit
  /-- EVR_WIN_LATCH (R386): A read of word 0 of EVR_WIN latches the cursor's record and may advance the cursor. -/
  | evrWinLatch (src : Master)
  /-- EVR_FREEZE (R385): Stops flushing, with an optional limit. -/
  | evrFreeze (e : Fin 256)
  /-- EVR_THAW (R385): Ends a freeze. -/
  | evrThaw (e : Fin 256)
  /-- EVR_STATUS (R388): Returns the recorder state and head. -/
  | evrStatus (e : Fin 256)
  /-- EVR_MARK (R388): Logs a host mark and completes when it is staged. -/
  | evrMark (e : Fin 256)
  /-- EVR_MARK_TIMEOUT (R388): A mark not staged 1 s after acceptance completes the command with RESULT1 2. -/
  | evrMarkTimeout (e : Fin 256)
  /-- POWER_ON_RESET_RELEASE (R392): Every supply has been above threshold for 2 ms and the device leaves OFF for BOOT. -/
  | powerOnResetRelease
  /-- SUPPLY_LOSS (R392): A supply falls below its threshold and the power-on reset acts. -/
  | supplyLoss
  /-- PFAIL_ASSERT (R393): PFAIL_N asserts after deglitch; store writes and updates are abandoned. -/
  | pfailAssert
  /-- PFAIL_RELEASE (R393): PFAIL_N stays high for 1 µs and PWR_PFAIL is logged as released. -/
  | pfailRelease
  /-- RESET_N_ASSERT (R395): RESET_N low for 1 µs resets the device to BOOT. -/
  | resetNAssert
  /-- SOFTWARE_RESET (R395): A software reset takes effect after its delay, flushing staged records first. -/
  | softwareReset
  /-- LPMODE_CHANGE (R398): LPMODE changes after qualification, raising or withdrawing a low-power request. -/
  | lpmodeChange (high : Bool)
  /-- LOW_POWER_ENTRY (R399): A low-power request takes READY or ACTIVE to LOW_POWER after any apply ends. -/
  | lowPowerEntry
  /-- PG_LOSS (R394): A supervised PG stays deasserted for 10 µs and the device enters FAULT. -/
  | pgLoss (n : Fin 4)
  /-- PEN_RELEASE_STEP (R394): Released PEN bits deassert in descending order, 1 ms apart. -/
  | penReleaseStep
  /-- RESTART_STEP_DONE (R402): A step of a start-up, READY, rail, LPLL or wake sequence completes and the next starts. -/
  | restartStepDone (seq : Fin 9) (obj : Fin 16)
  /-- RESTART_STEP_TIMEOUT (R403): A step exceeds its maximum and is retried once, or the sequence fails to FAULT. -/
  | restartStepTimeout (seq : Fin 9) (obj : Fin 16) (dies : BitVec 3)
  /-- LINE_WAKE_AM_TIMEOUT (R403): A line receive wake without AM lock 352 µs after its trigger returns the port to ACQUIRING. -/
  | lineWakeAmTimeout (k : Fin 8)
  /-- FAULT_ISLAND_OFF (R400): 1 ms after FAULT entry every DAC channel clamps and core-die islands turn off. -/
  | faultIslandOff
  /-- THM_MEASUREMENT (R409): A scheduled sensor measurement updates its zone and the zone's warning, throttle or shutdown actions. -/
  | thmMeasurement (n : Fin 24) (count : BitVec 20)
  /-- WEAR_MEASURE (R416): At boot and every 24 h Aqique measures each powered island's wear. -/
  | wearMeasure (ws : List (BitVec 16 × Nat))
  /-- AVS_STEP (R417): Once per second AVS moves channel 31 towards the target VDD_CORE. -/
  | avsStep
  /-- LIFE_MINUTE (R418): Each minute PWR_LIFE adds the minute times the acceleration factor. -/
  | lifeMinute
  /-- LIFE_STORE (R418): Once per hour Aqique stores PWR_LIFE to MRAM. -/
  | lifeStore
  /-- PWR_STATUS (R419): Returns the device state and fault information. -/
  | pwrStatus (e : Fin 256)
  /-- PWR_RESET (R419): Schedules a software reset 100 ms later when KEY is 0xA5. -/
  | pwrReset (e : Fin 256)
  /-- PWR_LOWPWR (R398): Sets or clears the low-power request and completes when the state is reached. -/
  | pwrLowpwr (e : Fin 256)
  /-- PWR_WEAR_REPORT (R419): Returns an island's wear and the AVS state. -/
  | pwrWearReport (e : Fin 256)
  /-- PWR_LIFE_REPORT (R419): Returns equivalent and powered hours. -/
  | pwrLifeReport (e : Fin 256)
  /-- THM_STATUS (R419): Returns a zone's status and configuration. -/
  | thmStatus (e : Fin 256)
  /-- THM_SET_THRESH (R414): Sets a zone's thresholds and enables. -/
  | thmSetThresh (e : Fin 256)
  /-- THM_MEASURE (R409): Inserts one measurement of a sensor. -/
  | thmMeasure (e : Fin 256) (count : BitVec 20)
  /-- THM_SENSOR_RETIRE (R411): Checks a staged token and retires a sensor permanently. -/
  | thmSensorRetire (e : Fin 256)
  /-- HL_BIT_SLIP (R180): At a host-lane block boundary, each direction with a pending slip count performs one slip, decrements the count and updates HL_SLIP_POS. -/
  | hlBitSlip (j : Fin 16)
  /-- DITHER_SAMPLE (R280): At each timebase microsecond each running sine generator advances its phase and produces a sample, which is added to or subtracted from its channels' base codes with clipping at CODE_MIN and CODE_MAX. -/
  | ditherSample
  /-- RESET_N_RELEASE (R395): RESET_N returns high after a reset, the device leaves reset and enters BOOT, and an asserted FASTOFF_N is counted as a new assertion. -/
  | resetNRelease
  /-- LTX_CLIP (R93): A transmit symbol saturates at the FIR and insole sum; LTX_CLIP_CNT increments, the first clip after a clear sets LTX_CAUSE.CLIP, and LTX_CLIP is logged at most once per second. -/
  | ltxClip (k : Fin 8) (sub : Fin 226875) (src : List (BitVec 2))
  deriving DecidableEq, Repr

end Sys2Proof
end

