-- ==== Sys2Proof/Config.lean ====
section
/-!
DEFINITION. Sys2Proof/Config.lean: what the spec leaves to the device or leaves open. Every constant here is opaque:
no proof can see its value, so a statement about it holds whatever it is.
-/

namespace Sys2Proof.Config

/-- A value the spec leaves open. The argument is the counter `State.freeIx` as it stands when the value is taken. -/
opaque freeValue : Nat → Nat

/-- The data and check bits that a memory word nothing has written holds: 'Not initialised' in the offset tables. The
argument is the byte address of the word. -/
opaque unwritten : Nat → W72

/-- The data of a word of a region that Aqique has initialised (R157, R213): that every word is written is stated, what
is written is not. The arguments are the number of the initialisation and the byte address. -/
opaque initValue : Nat → Nat → W64

/-- The eight SECDED check bits of a data word (R353: the code is named, its matrix is not given). -/
opaque secded : W64 → BitVec 8

/-- The bit of the 72 that an odd-weight syndrome names, or none where it names none (R354). -/
opaque errorBit : BitVec 8 → Option Nat

/-- SEC_UID, programmed at manufacture. -/
opaque uid : BitVec 64

/-- PWR_AVS_V0, fused at manufacture. -/
opaque avsV0 : BitVec 14

/-- The outcome of verifying an ECDSA signature: the key material, the digest of what is signed and the signature. -/
opaque verify : List Nat → List Nat → List Nat → Bool

/-- The SHA digest of a list of bytes; the first argument is its width, 256 or 384. -/
opaque digest : Nat → List Nat → List Nat

/-- An entry of the 16-bit sine table, by the upper 16 bits of the phase (R279 names the table and bounds its error). -/
opaque sineTable : Nat → Int

/-- The mixer's reference sin(2πx / 2^32) in sQ0.23, by its 32-bit phase x (R302; its rounding is not stated). -/
opaque refSine : Nat → Int

/-- How far the CIC's gain for a decimation that is no power of 2 is from 1, in units of 2^−64 (R301 bounds it by
2^−22). -/
opaque cicGain : Nat → Int

/-- The minute's equivalent time at 95 °C, in 2^−32 minutes (R418: AF of the mean temperature, whose evaluation is not
stated to a precision), from the sum and the number of the minute's temperatures in 0.125 °C. -/
opaque ageing : Int → Nat → Nat

/-- A byte of the CMIS map that neither a rule of the spec nor the state of the device gives (R315), by bank × 0x10000 +
page × 0x100 + byte. -/
opaque cmisByte : Nat → BitVec 8

/-- A CMIS monitor value from the output of a decimation channel and the scale that the diagnostics map gives it (R315,
R371), whose formats are not stated. -/
opaque cmisScale : BitVec 24 → BitVec 32 → BitVec 16

/-- The temperature, in 2^-16 °C, to which the fused coefficients of a sensor convert a 20-bit count (R408). -/
opaque sensorTemp : Nat → Nat → Int

/-- The SVN of the Aqique 2.1 image with which the device leaves Skogon (R445). -/
opaque factorySvn : BitVec 8

/-- The build number of that image, the lower half of its VERSION (R338). -/
opaque factoryBuild : BitVec 16

/-- What that image's header leaves to the image: 0 its LENGTH, 1 LOAD, 2 KEY_ID, 3 ENTRY, each among the values R338
allows. -/
opaque factoryHead : Nat → Nat

/-- The 64-bit words of that image after its header, the signature's among them. -/
opaque factoryImage : Nat → W64

/-- Whether the FFE rounds its sum up to the next 1/64, by the sum's four bits below that (R69: the rounding is not stated). -/
opaque ffeUp : Nat → Bool

/-- The eight check bits of the (128,120) extended Hamming code of IEEE 802.3dj (R144 names the code). -/
opaque innerParity : BitVec 120 → BitVec 8

/-- The reliability of a bit from its symbol's 3-bit value and its place in the symbol, the less significant or not (R146 names
the two and not the function). -/
opaque bitReliability : BitVec 3 → Bool → Nat

/-- 66-bit blocks that IEEE 802.3 defines and the spec names: the error control block (R150). -/
opaque errorBlock : BitVec 66

/-- The idle control block (R151). -/
opaque idleBlock : BitVec 66

/-- The block of a Local Fault sequence ordered set (R175). -/
opaque localFault : BitVec 66

/-- The pair of bits at a place of the SSPRQ pattern's period of 65,535 symbols (R99 names the pattern of IEEE 802.3). -/
opaque ssprq : Nat → BitVec 2

end Sys2Proof.Config
end

