-- ==== Sys2Proof/Machine/Regs.lean ====
section
/-!
DEFINITION. Sys2Proof/Machine/Regs.lean: the register map, transcribed from the offset tables and the field tables
of spec/00_scope.md to spec/14_power_thermal_life.md: the register names, where each lies in its block, the access
code of each of its bits (R7) and its reset value.
-/

namespace Sys2Proof.Machine

/-- The names of the offset tables. A name stands for every instance of the register: `RKey` adds the unit (lane,
port, rack, die ...) and the instance number. CAL_CAUSE and CAL_EN are the model's names for the two registers R87
gives the calibration subsystem. -/
inductive Reg where
  | PWR_DEV_ID | CLK_LOCK | CLK_CAUSE | CLK_EN | WELT_CTL | WELT_STAT | WELT_CORR_CNT | WELT_REPLAY_CNT | WELT_AB_ALLOC
  | WELT_ERR_ADDR | WELT_ERR_INFO | WELT_CAUSE | WELT_EN | MGMT_IRQ_TOP | MGMT_IRQ_TOP_EN | MGMT_IRQ_CBL_EN
  | MGMT_IRQ_LOCAL | MGMT_IRQ_CORE_A | MGMT_IRQ_CORE_B | MGMT_IRQ_INTN | LRX_CFG | LRX_STAT | LRX_CAUSE | LRX_EN
  | LRX_AFE_CTL | LRX_SIGDET_CTL | LRX_CDR_CTL | LRX_CDR_FOFS | LRX_DET_CTL | LRX_THR | LRX_FFE_COEF | LRX_VNLE_KERN
  | LRX_SIG_PWR | LRX_SNR | LRX_LEVEL | LRX_HIST_CTL | LRX_HIST_STAT | LRX_CAL_STAT | LRX_CAL_RESULT0 | LRX_CAL_RESULT1
  | LRX_SIG_LOSS_CNT | LRX_CDR_UNLOCK_CNT | LRX_CAL_ABORT_CNT | LRX_ADC_TRIM | LRX_ADC_TTRIM | LTX_CFG | LTX_STAT
  | LTX_CAUSE | LTX_EN | LTX_CTL | LTX_SQ_STAT | LTX_TEST_CTL | LTX_FIR_COEF | LTX_FIR_ACT | LTX_LUT | LTX_LUT_ACT
  | LTX_CAL_STAT | LTX_CAL_RESULT0 | LTX_CAL_RESULT1 | LTX_CLIP_CNT | LTX_CAL_ABORT_CNT | LTX_LB_SLIP_CNT
  | LTX_CHK_ERR_CNT | LTX_CHK_SYM_CNT | LTX_DAC_TRIM | LTX_DAC_TTRIM | RACK_CTL | RACK_STAT | RACK_CAUSE | RACK_EN
  | RACK_PROG_ID | RACK_TAG_CTL | RACK_TAG_STAT | RACK_TAG_REC | RACK_REPORT | RACK_CYC_CNT | RACK_DUTY_GATED_CNT
  | RACK_BANK_CONF_CNT | RACK_BUS_WAIT_CNT | RACK_LAST_PC | RACK_LAST_TRAP | RACK_SLOT_RET_CNT | RACK_SLOT_WASTE_CNT
  | RACK_SLOT_FRONT_CNT | RACK_SLOT_BACK_CNT | RACK_YIELD_CNT | RACK_TW_OVR_CNT | CNT_BANK_CTL | CNT_BANK_CLR
  | CNT_BANK_OVF | CNT_ADDR_LO | CNT_ADDR_HI | CNT_SEL | CNT_VAL | CNT_RD_CTL | CNT_RD_STAT | CNT_CAUSE | CNT_EN
  | CNT_RD_T_FIRST | CNT_RD_T_LAST | CNT_LIST | CNT_RES | FEC_CAUSE | FEC_EN | FEC_POOL_STAT | FEC_POOL_FENCED
  | FEC_POOL_MAP | FEC_PORT_CFG | FEC_PORT_STAT | FEC_STAT_CTL | FEC_INJ_CTL | FEC_SKEW | FEC_HOLD_LH | FEC_HOLD_HL
  | FEC_LCW_CNT | FEC_LCW_CORR_CNT | FEC_LCW_UNCORR_CNT | FEC_LSYM_CORR_CNT | FEC_LCW_HIST_CNT | FEC_LL_SYM_CNT
  | FEC_INNER_CORR_CNT | FEC_INNER_UNCORR_CNT | FEC_AM_LOSS_CNT | FEC_HCW_CNT | FEC_HCW_CORR_CNT | FEC_HCW_UNCORR_CNT
  | FEC_HSYM_CORR_CNT | FEC_HL_SYM_CNT | FEC_SKEW_OVER_CNT | FEC_SLIP_CNT | FEC_WAKE_DROP_CNT | FEC_RA_ADJ_CNT
  | FEC_FRAME_CNT | FEC_FCS_ERR_CNT | HL_CFG | HL_STAT | HL_CAUSE | HL_EN | HL_SIGDET_CTL | HL_IDLE_STAT | HL_RX_EQ_CTL
  | HL_RX_EQ_STAT | HL_TX_EQ | HL_TX_EQ_EFF | HL_CDR_FOFS | HL_SLIP | HL_SLIP_POS | HL_RAW_PAT | HL_CAP_CTL
  | HL_CAP_STAT | HL_RX_FFE | HL_SIG_LOSS_CNT | HL_CDR_UNLOCK_CNT | HL_CHK_ERR_CNT | HL_CHK_SYM_CNT | HL_LB_SLIP_CNT
  | HL_WAKE_CNT | INS_CAUSE | INS_IRQ_EN | INS_CFG | INS_STAT | INS_TX_CFG | INS_TX_AMP | INS_RX_CFG | INS_FOFS
  | INS_METRIC | INS_CODE_PHASE | INS_MSG_STAT | INS_TX_TS | INS_RX_TS | INS_RX_TS_Q | INS_TX_FRAME_CNT | INS_RX_FRAME_CNT
  | INS_CRC_ERR_CNT | INS_HDR_ERR_CNT | INS_SYNC_CAPTURED_CNT | INS_LOCK_LOSS_CNT | INS_MSG_RETX_CNT | INS_MSG_FAIL_CNT
  | INS_RX_DROP_CNT | TIME_STAT | TIME_CAUSE | TIME_EN | TIME_SRC_CFG | TIME_TOD | TIME_FREQ | TIME_OFFSET
  | TIME_ALIGN_OFS | TIME_PPS_IN_TS | TIME_PPS_CFG | TIME_PPS_OFS | TIME_TODSER_CFG | TIME_UTC | TIME_CTX_STAT
  | TIME_ALIGN_LOSS_CNT | TIME_STEP_CNT | TIME_TODRX_ERR_CNT | TIME_LANE_TXDLY | TIME_LANE_RXDLY | TIME_FAR_TXDLY
  | TIME_FAR_RXDLY | TIME_PORT_CFG | TIME_PORT_CTL | TIME_PORT_HDLY | TIME_PORT_STAT | TIME_RES_LAST_HL | TIME_RES_LAST_LH
  | TIME_TSQ_STAT | TIME_TSQ_ENTRY | TIME_CORR_CNT | TIME_CTX_ALLOC_CNT | TIME_CTX_EXPIRE_CNT | TIME_CTX_EVICT_CNT
  | TIME_ORPHAN_CNT | TIME_DISCARD_CNT | TIME_RES_CHECK_CNT | TIME_CF_SAT_CNT | TGT_STAT | TGT_CAUSE | TGT_EN
  | TGT_FAULT | TGT_LOOP_MODE | TGT_LOOP_CFG | TGT_LOOP_TIME | TGT_LOOP_SHIFT | TGT_LOOP_KP | TGT_LOOP_KI
  | TGT_LOOP_KD | TGT_LOOP_KF | TGT_LOOP_OUTLIM | TGT_LOOP_FBMIN | TGT_LOOP_FBMAX | TGT_LOOP_SPMIN | TGT_LOOP_SPMAX
  | TGT_LOOP_RAMP | TGT_LOOP_SP | TGT_LOOP_MAN | TGT_LOOP_STAT | TGT_LOOP_OUT | TGT_LOOP_PV | TGT_LOOP_RSP
  | TGT_LOOP_INTEG | TGT_LOOP_ERR | TGT_LOOP_CHK | CDAC_STAT | CDAC_CAUSE | CDAC_EN | CDAC_STROBE | CDAC_GROUP
  | CDAC_PEN | CDAC_PEN_STAT | CDAC_CFG | CDAC_CODE | CDAC_LIM | CDAC_SAFE | CDAC_OUT | CDAC_CH_STAT | SINE_CTL
  | SINE_FTW | SINE_AMP | SINE_STAT | MON_CTL | MON_STAT | MON_CAUSE | MON_EN | MON_CHK_CTL | MON_CHK_STAT
  | MON_CHK_TOL | MON_DIAG_RES | MON_OD_REQ | MON_OD_STAT | MON_OD_RES | MON_SKIP_CNT | MON_CHK_FAIL_CNT | MON_SLOT
  | MON_SLOT_SH | MON_IN_ZERO | MON_IN_GAIN | MON_IN_LAST | MON_IN_CAL | MON_CH_CFG | MON_CH_DEC | MON_CH_PHASE
  | MON_CH_CTL | MON_CH_STAT | MON_CH_VAL | MON_CH_PERIOD | MON_CH_GD | MON_FIRA | MON_FIRB | MBX_DOORBELL
  | MBX_STAT | MBX_CAUSE | MBX_EN | MBX_CR_PROD_PTR | MBX_CR_CONS_PTR | MBX_DB_REJ_INFO | MBX_EYELET_STATE
  | MBX_TIMEOUT_CNT | MBX_DB_REJ_CNT | HIF_STAT | HIF_CAUSE | HIF_EN | HIF_SPI_STAT | HIF_SPI_ERR_ADDR | HIF_WIN_BASE
  | HIF_WIN_LIMIT | HIF_ACCESS_CNT | HIF_SPI_OVR_CNT | SEC_STAT | SEC_CAUSE | SEC_EN | SEC_UID | SEC_IMG_A
  | SEC_IMG_B | SEC_DBG_NONCE | SEC_KEY_STAT | SEC_RECOVERY_LEN | SEC_RECOVERY_CTL | SEC_AUTH_FAIL_CNT | MEM_STAT
  | MEM_CAUSE | MEM_EN | MEM_SCRUB_CTL | MEM_HARD | MEM_BKT_CFG | MEM_BKT_STAT | MEM_ERR_LOC | MEM_ERR_INFO
  | MEM_CORR_CNT | MEM_UNCORR_CNT | EVR_STAT | EVR_CAUSE | EVR_EN | EVR_HEAD_SEQ | EVR_TAIL_SEQ | EVR_FLUSHED_SEQ
  | EVR_BAD_SEG | EVR_CURSOR | EVR_WIN_CTL | EVR_WIN_STAT | EVR_WIN | EVR_FIFO_STAT | EVR_DROP_CNT | EVR_EMG
  | EVR_EMG_STAT | PWR_STATE | PWR_CAUSE | PWR_EN | PWR_FAULT_INFO | PWR_RESET_INFO | PWR_PG_STAT | PWR_AVS_STAT
  | PWR_AVS_V0 | PWR_WEAR_SEL | PWR_WEAR_VAL | PWR_WEAR_WORST | PWR_LIFE | PWR_ONTIME | PWR_FASTOFF_CNT | PWR_RETRY_CNT
  | THM_STAT | THM_CAUSE | THM_EN | THM_ZONE_CFG | THM_ZONE_STAT | THM_RETIRED | THM_TS | THM_THROT_CNT | CNT_DIE_CAUSE
  | CNT_DIE_EN | CAL_CAUSE | CAL_EN
  deriving DecidableEq, Repr

/-- The access code of each bit of a register (R7). A bit in none of the masks is RO or reserved (R6). -/
structure Access where
  rw  : W32 := 0
  wo  : W32 := 0
  w1c : W32 := 0
  rwl : W32 := 0
  rc  : W32 := 0
  deriving DecidableEq, Repr

/-- The access codes of the field tables. -/
def Reg.access : Reg → Access
  | .CLK_CAUSE => { w1c := 0x000001FF }
  | .CLK_EN => { rw := 0x000001FF }
  | .WELT_CTL => { rw := 0x00000001, wo := 0x00000006 }
  | .WELT_ERR_INFO => { w1c := 0x80000000 }
  | .WELT_CAUSE => { w1c := 0x0000007F }
  | .WELT_EN => { rw := 0x0000007F }
  | .MGMT_IRQ_TOP_EN => { rw := 0x003FFFFE }
  | .MGMT_IRQ_CBL_EN => { rw := 0x003FFFFE }
  | .LRX_STAT => { w1c := 0x00030000, rc := 0x00000040 }
  | .LRX_CAUSE => { w1c := 0x000001FF }
  | .LRX_EN => { rw := 0x000001FF }
  | .LRX_AFE_CTL => { rwl := 0x00003F1F }
  | .LRX_SIGDET_CTL => { rw := 0x00013F3F }
  | .LRX_CDR_CTL => { rwl := 0x00011F0F }
  | .LRX_DET_CTL => { rwl := 0x03FF003F }
  | .LRX_THR => { rwl := 0x000003FF }
  | .LRX_FFE_COEF => { rwl := 0x00000FFF }
  | .LRX_VNLE_KERN => { rwl := 0x00000FFF }
  | .LRX_HIST_CTL => { rw := 0x00001F02, wo := 0x00000001 }
  | .LRX_ADC_TTRIM => { rwl := 0x003FFFFF }
  | .LTX_STAT => { w1c := 0x00030000 }
  | .LTX_CAUSE => { w1c := 0x000000FF }
  | .LTX_EN => { rw := 0x000000FF }
  | .LTX_CTL => { wo := 0x00000001 }
  | .LTX_TEST_CTL => { rwl := 0x00000001 }
  | .LTX_FIR_COEF => { rw := 0x00000FFF }
  | .LTX_LUT => { rw := 0x00000FFF }
  | .LTX_DAC_TTRIM => { rwl := 0x000000FF }
  | .RACK_CTL => { rw := 0x001100FF }
  | .RACK_STAT => { w1c := 0x10000000 }
  | .RACK_CAUSE => { w1c := 0x0000003F }
  | .RACK_EN => { rw := 0x0000003F }
  | .RACK_TAG_CTL => { rw := 0x000003FF }
  | .CNT_BANK_CTL => { rw := 0x000000FF }
  | .CNT_BANK_CLR => { wo := 0x000000FF }
  | .CNT_BANK_OVF => { w1c := 0x000000FF }
  | .CNT_ADDR_LO => { rw := 0xFFFFFFFF }
  | .CNT_ADDR_HI => { rw := 0xFFFFFFFF }
  | .CNT_SEL => { rw := 0x0F77FFFF }
  | .CNT_RD_CTL => { rw := 0x00007F03, wo := 0x00010000 }
  | .CNT_CAUSE => { w1c := 0x00000007 }
  | .CNT_EN => { rw := 0x00000007 }
  | .CNT_LIST => { rw := 0xFFFFFFFF }
  | .FEC_CAUSE => { w1c := 0xFFFFFFFF }
  | .FEC_EN => { rw := 0xFFFFFFFF }
  | .FEC_PORT_STAT => { w1c := 0x01000000 }
  | .FEC_STAT_CTL => { wo := 0x00000003 }
  | .FEC_INJ_CTL => { rwl := 0x030F011F }
  | .HL_STAT => { w1c := 0x00030000, rc := 0x00000080 }
  | .HL_CAUSE => { w1c := 0x000007FF }
  | .HL_EN => { rw := 0x000007FF }
  | .HL_SIGDET_CTL => { rw := 0x00013F3F }
  | .HL_RX_EQ_CTL => { rw := 0x00001F03 }
  | .HL_TX_EQ => { rw := 0x033F3F3F }
  | .HL_SLIP => { rwl := 0x0000FFFF }
  | .HL_RAW_PAT => { rw := 0xFFFFFFFF }
  | .HL_CAP_CTL => { wo := 0x00000001 }
  | .INS_CAUSE => { w1c := 0xFFFFFFFF }
  | .INS_IRQ_EN => { rw := 0xFFFFFFFF }
  | .INS_TX_CFG => { rw := 0x0000007F }
  | .INS_RX_CFG => { rw := 0x00FFFF07 }
  | .TIME_CAUSE => { w1c := 0x00003FFF }
  | .TIME_EN => { rw := 0x00003FFF }
  | .TIME_SRC_CFG => { rw := 0x00FF1717 }
  | .TIME_PPS_CFG => { rw := 0x0003FF03 }
  | .TIME_PPS_OFS => { rw := 0xFFFFFFFF }
  | .TIME_TODSER_CFG => { rw := 0x00000033 }
  | .TIME_UTC => { rw := 0x0001FFFF }
  | .TIME_LANE_TXDLY => { rw := 0xFFFFFFFF }
  | .TIME_LANE_RXDLY => { rw := 0xFFFFFFFF }
  | .TIME_FAR_TXDLY => { rw := 0xFFFFFFFF }
  | .TIME_FAR_RXDLY => { rw := 0xFFFFFFFF }
  | .TIME_PORT_CTL => { rw := 0x03FFFFFF }
  | .TIME_PORT_HDLY => { rw := 0xFFFFFFFF }
  | .TGT_CAUSE => { w1c := 0x0000001F }
  | .TGT_EN => { rw := 0x0000001F }
  | .TGT_LOOP_MODE => { rw := 0x00000003 }
  | .TGT_LOOP_CFG => { rwl := 0x3F7F9F1F }
  | .TGT_LOOP_TIME => { rwl := 0x03FF03FF }
  | .TGT_LOOP_SHIFT => { rwl := 0xFFFFFFFF }
  | .TGT_LOOP_KP => { rwl := 0x00FFFFFF }
  | .TGT_LOOP_KI => { rwl := 0x00FFFFFF }
  | .TGT_LOOP_KD => { rwl := 0x00FFFFFF }
  | .TGT_LOOP_KF => { rwl := 0x00FFFFFF }
  | .TGT_LOOP_OUTLIM => { rwl := 0x3FFF3FFF }
  | .TGT_LOOP_FBMIN => { rwl := 0x00FFFFFF }
  | .TGT_LOOP_FBMAX => { rwl := 0x00FFFFFF }
  | .TGT_LOOP_SPMIN => { rwl := 0x00FFFFFF }
  | .TGT_LOOP_SPMAX => { rwl := 0x00FFFFFF }
  | .TGT_LOOP_RAMP => { rwl := 0x00FFFFFF }
  | .TGT_LOOP_SP => { rw := 0x00FFFFFF }
  | .TGT_LOOP_MAN => { rw := 0x00003FFF }
  | .TGT_LOOP_STAT => { w1c := 0x01FF0000 }
  | .CDAC_CAUSE => { w1c := 0x0000001F }
  | .CDAC_EN => { rw := 0x0000001F }
  | .CDAC_STROBE => { wo := 0x0000000F }
  | .CDAC_GROUP => { rw := 0x00003F03 }
  | .CDAC_PEN => { rw := 0x00000F0F }
  | .CDAC_CFG => { rw := 0x0000071D, rwl := 0x00000002 }
  | .CDAC_CODE => { rwl := 0x00003FFF }
  | .CDAC_LIM => { rw := 0x3FFF3FFF }
  | .CDAC_SAFE => { rw := 0x00003FFF }
  | .CDAC_CH_STAT => { w1c := 0x00000003 }
  | .SINE_CTL => { rw := 0x00000001 }
  | .SINE_FTW => { rw := 0xFFFFFFFF }
  | .SINE_AMP => { rw := 0xFFFF07FF }
  | .MON_CTL => { rw := 0x00000001, wo := 0x00000002 }
  | .MON_CAUSE => { w1c := 0x000003FF }
  | .MON_EN => { rw := 0x000003FF }
  | .MON_CHK_CTL => { rw := 0x00000FFF, rwl := 0x1F010000 }
  | .MON_CHK_TOL => { rw := 0x000003FF }
  | .MON_OD_REQ => { rwl := 0x0000001F }
  | .MON_OD_STAT => { w1c := 0x00000F00 }
  | .MON_SLOT_SH => { rw := 0x0000009F }
  | .MON_IN_ZERO => { rwl := 0x001FFFFF }
  | .MON_IN_GAIN => { rwl := 0x00FFFFFF }
  | .MON_CH_CFG => { rwl := 0x00FF1F0F }
  | .MON_CH_DEC => { rwl := 0x00003F7F }
  | .MON_CH_PHASE => { rw := 0x0000FFFF }
  | .MON_CH_CTL => { wo := 0x00000001 }
  | .MON_CH_STAT => { w1c := 0x00030000 }
  | .MON_FIRA => { rwl := 0x00FFFFFF }
  | .MON_FIRB => { rwl := 0x00FFFFFF }
  | .MBX_DOORBELL => { wo := 0x000000FF }
  | .MBX_CAUSE => { w1c := 0x000000FF }
  | .MBX_EN => { rw := 0x000000FF }
  | .MBX_CR_CONS_PTR => { rw := 0x000000FF }
  | .MBX_DB_REJ_INFO => { w1c := 0x80000000 }
  | .HIF_CAUSE => { w1c := 0x0000003F }
  | .HIF_EN => { rw := 0x0000003F }
  | .HIF_SPI_STAT => { w1c := 0x00000300 }
  | .HIF_WIN_BASE => { rw := 0xFFFFFFFF }
  | .HIF_WIN_LIMIT => { rw := 0xFFFFFFF8 }
  | .SEC_CAUSE => { w1c := 0x0000007F }
  | .SEC_EN => { rw := 0x0000007F }
  | .SEC_RECOVERY_LEN => { rwl := 0x001FFFFF }
  | .SEC_RECOVERY_CTL => { rwl := 0x00000001 }
  | .MEM_CAUSE => { w1c := 0xFFFFFFFF }
  | .MEM_EN => { rw := 0xFFFFFFFF }
  | .MEM_SCRUB_CTL => { rw := 0x000000FF }
  | .MEM_BKT_CFG => { rw := 0xFFFF00FF }
  | .MEM_ERR_INFO => { w1c := 0x80000000 }
  | .EVR_CAUSE => { w1c := 0x0000003F }
  | .EVR_EN => { rw := 0x0000003F }
  | .EVR_CURSOR => { rw := 0xFFFFFFFF }
  | .EVR_WIN_CTL => { rw := 0x00000001 }
  | .PWR_CAUSE => { w1c := 0x000001FF }
  | .PWR_EN => { rw := 0x000001FF }
  | .PWR_WEAR_SEL => { rw := 0x0000FFFF }
  | .THM_CAUSE => { w1c := 0x00000FFF }
  | .THM_EN => { rw := 0x00000FFF }
  | .THM_ZONE_CFG => { rw := 0x03FFFFFF }
  | .CNT_DIE_CAUSE => { w1c := 0x00000001 }
  | .CNT_DIE_EN => { rw := 0x00000001 }
  | .CAL_CAUSE => { w1c := 0x0000FFFF }
  | .CAL_EN => { rw := 0x0000FFFF }
  | _ => { }

/-- Reset of LTX_LUT_n and LTX_LUT_ACT_n: by (n ÷ 4) mod 4 (the offset table of the line transmitter). -/
def lutReset (i : Nat) : W32 :=
  match (i / 4) % 4 with
  | 0 => 0xA00
  | 1 => 0xE00
  | 2 => 0x200
  | _ => 0x600

/-- The reset value of a 32-bit register, instance `i`, by its offset table. Wide quantities reset to 0. -/
def Reg.reset (r : Reg) (i : Nat) : W32 :=
  match r with
  | .PWR_DEV_ID => 0x3208B000
  | .WELT_STAT => if i = 0 then 2 else 0
  | .LRX_CFG => 0x00000100
  | .LRX_SIGDET_CTL => 0x00010508
  | .LRX_DET_CTL => 0x0000000C
  | .LRX_THR => if i = 0 then 0x3C0 else if i = 1 then 0 else 0x40
  | .LRX_HIST_CTL => 0x00001000
  | .LTX_SQ_STAT => 0x00000001
  | .LTX_FIR_COEF => if i = 2 then 0x400 else 0
  | .LTX_FIR_ACT => if i = 2 then 0x400 else 0
  | .LTX_LUT => lutReset i
  | .LTX_LUT_ACT => lutReset i
  | .RACK_CTL => 0x000000FF
  | .RACK_STAT => 0x0000FF00
  | .RACK_TAG_CTL => 0x0000000C
  | .RACK_LAST_PC => 0x00040000
  | .FEC_POOL_STAT => 0x01800000
  | .HL_SIGDET_CTL => 0x00010508
  | .HL_IDLE_STAT => 0x00000001
  | .HL_RX_EQ_CTL => 0x00000C01
  | .HL_TX_EQ => 0x01000000
  | .HL_TX_EQ_EFF => 0x01000000
  | .INS_TX_CFG => 0x00000034
  | .INS_RX_CFG => 0x00281803
  | .TIME_SRC_CFG => 0x00080000
  | .TIME_PPS_CFG => 0x00006400
  | .TIME_TODSER_CFG => 0x00000001
  | .TIME_PORT_CTL => 0x00FA190F
  | .TGT_LOOP_CFG => 0x00088000
  | .TGT_LOOP_TIME => 0x000003E8
  | .TGT_LOOP_SHIFT => 0x00400000
  | .TGT_LOOP_OUTLIM => 0x3FFF0000
  | .TGT_LOOP_FBMIN => 0x00800000
  | .TGT_LOOP_FBMAX => 0x007FFFFF
  | .TGT_LOOP_SPMIN => 0x00800000
  | .TGT_LOOP_SPMAX => 0x007FFFFF
  | .TGT_LOOP_RAMP => 0x00000001
  | .CDAC_PEN => 0x00000F00
  | .CDAC_CFG => 0x00000004
  | .CDAC_LIM => 0x3FFF0000
  | .CDAC_OUT => 0x00010000
  | .MON_CHK_CTL => 0x00000800
  | .MON_CHK_TOL => 0x00000040
  | .MON_SLOT => 0x80 + BitVec.ofNat 32 i
  | .MON_SLOT_SH => 0x80 + BitVec.ofNat 32 i
  | .MON_IN_GAIN => 0x00008000
  | .MON_CH_DEC => 0x00000101
  | .MON_CH_PERIOD => 0x00000020
  | .MON_CH_GD => 0x000007D0
  | .MBX_CR_PROD_PTR => 0x00000100
  | .MEM_BKT_CFG => 0x03E80010
  | .EVR_WIN_CTL => 0x00000001
  | .PWR_STATE => 0x00000001
  | .PWR_RESET_INFO => 0x00000001
  | .THM_ZONE_CFG => 0x03786E64
  | _ => 0

/-- One row of an offset table: `n1` instances `s1` bytes apart (`first` numbers the first), each with `n2` entries
`s2` bytes apart where the name has two indices; `words` 32-bit words each. -/
structure LRow where
  off : Nat
  reg : Reg
  words : Nat := 1
  s1 : Nat := 0
  n1 : Nat := 1
  first : Nat := 0
  s2 : Nat := 0
  n2 : Nat := 1
  deriving DecidableEq, Repr

/-- Offset table: power and reset (with the emergency area). -/
def layout_pwr : List LRow :=
  [ { off := 0x0, reg := .PWR_DEV_ID },
    { off := 0x400, reg := .EVR_EMG, words := 8, s1 := 0x20, n1 := 4 },
    { off := 0x480, reg := .EVR_EMG_STAT },
    { off := 0x4, reg := .PWR_STATE },
    { off := 0x8, reg := .PWR_CAUSE },
    { off := 0xC, reg := .PWR_EN },
    { off := 0x10, reg := .PWR_FAULT_INFO },
    { off := 0x14, reg := .PWR_RESET_INFO },
    { off := 0x18, reg := .PWR_PG_STAT },
    { off := 0x20, reg := .PWR_AVS_STAT },
    { off := 0x24, reg := .PWR_AVS_V0 },
    { off := 0x30, reg := .PWR_WEAR_SEL },
    { off := 0x34, reg := .PWR_WEAR_VAL },
    { off := 0x38, reg := .PWR_WEAR_WORST },
    { off := 0x40, reg := .PWR_LIFE, words := 2 },
    { off := 0x48, reg := .PWR_ONTIME, words := 2 },
    { off := 0x80, reg := .PWR_FASTOFF_CNT, words := 2 },
    { off := 0x88, reg := .PWR_RETRY_CNT, words := 2 } ]

/-- Offset table: clocks, in die control and in the MGMT power block. -/
def layout_clk : List LRow :=
  [ { off := 0x100, reg := .CLK_LOCK },
    { off := 0x104, reg := .CLK_CAUSE },
    { off := 0x108, reg := .CLK_EN } ]

/-- Offset table: welt. -/
def layout_welt : List LRow :=
  [ { off := 0x0, reg := .WELT_CTL },
    { off := 0x4, reg := .WELT_STAT },
    { off := 0x8, reg := .WELT_STAT, first := 1 },
    { off := 0x10, reg := .WELT_CORR_CNT, words := 2 },
    { off := 0x18, reg := .WELT_CORR_CNT, words := 2, first := 1 },
    { off := 0x20, reg := .WELT_REPLAY_CNT, words := 2 },
    { off := 0x28, reg := .WELT_REPLAY_CNT, words := 2, first := 1 },
    { off := 0x30, reg := .WELT_AB_ALLOC },
    { off := 0x40, reg := .WELT_ERR_ADDR },
    { off := 0x44, reg := .WELT_ERR_INFO },
    { off := 0x50, reg := .WELT_CAUSE },
    { off := 0x54, reg := .WELT_EN } ]

/-- Offset table: interrupt controller. -/
def layout_irq : List LRow :=
  [ { off := 0x0, reg := .MGMT_IRQ_TOP },
    { off := 0x4, reg := .MGMT_IRQ_TOP_EN },
    { off := 0x8, reg := .MGMT_IRQ_CBL_EN },
    { off := 0xC, reg := .MGMT_IRQ_LOCAL },
    { off := 0x10, reg := .MGMT_IRQ_CORE_A },
    { off := 0x14, reg := .MGMT_IRQ_CORE_B },
    { off := 0x18, reg := .MGMT_IRQ_INTN } ]

/-- Offset table: line lane, receiver and transmitter. -/
def layout_lane : List LRow :=
  [ { off := 0x0, reg := .LRX_CFG },
    { off := 0x4, reg := .LRX_STAT },
    { off := 0x8, reg := .LRX_CAUSE },
    { off := 0xC, reg := .LRX_EN },
    { off := 0x10, reg := .LRX_AFE_CTL },
    { off := 0x14, reg := .LRX_SIGDET_CTL },
    { off := 0x20, reg := .LRX_CDR_CTL },
    { off := 0x24, reg := .LRX_CDR_FOFS },
    { off := 0x30, reg := .LRX_DET_CTL },
    { off := 0x40, reg := .LRX_THR, s1 := 0x4, n1 := 3 },
    { off := 0x100, reg := .LRX_FFE_COEF, s1 := 0x4, n1 := 49 },
    { off := 0x200, reg := .LRX_VNLE_KERN, s1 := 0x4, n1 := 47 },
    { off := 0x300, reg := .LRX_SIG_PWR },
    { off := 0x304, reg := .LRX_SNR },
    { off := 0x310, reg := .LRX_LEVEL, s1 := 0x4, n1 := 4 },
    { off := 0x380, reg := .LRX_HIST_CTL },
    { off := 0x384, reg := .LRX_HIST_STAT },
    { off := 0x400, reg := .LRX_CAL_STAT },
    { off := 0x404, reg := .LRX_CAL_RESULT0 },
    { off := 0x408, reg := .LRX_CAL_RESULT1 },
    { off := 0x410, reg := .LRX_SIG_LOSS_CNT, words := 2 },
    { off := 0x418, reg := .LRX_CDR_UNLOCK_CNT, words := 2 },
    { off := 0x420, reg := .LRX_CAL_ABORT_CNT, words := 2 },
    { off := 0x1000, reg := .LRX_ADC_TRIM, s1 := 0x4, n1 := 128 } ] ++
  [ { off := 0x1200, reg := .LRX_ADC_TTRIM, s1 := 0x4, n1 := 128 },
    { off := 0x8000, reg := .LTX_CFG },
    { off := 0x8004, reg := .LTX_STAT },
    { off := 0x8008, reg := .LTX_CAUSE },
    { off := 0x800C, reg := .LTX_EN },
    { off := 0x8010, reg := .LTX_CTL },
    { off := 0x8014, reg := .LTX_SQ_STAT },
    { off := 0x8018, reg := .LTX_TEST_CTL },
    { off := 0x8100, reg := .LTX_FIR_COEF, s1 := 0x4, n1 := 7 },
    { off := 0x8120, reg := .LTX_FIR_ACT, s1 := 0x4, n1 := 7 },
    { off := 0x8200, reg := .LTX_LUT, s1 := 0x4, n1 := 64 },
    { off := 0x8300, reg := .LTX_LUT_ACT, s1 := 0x4, n1 := 64 },
    { off := 0x8400, reg := .LTX_CAL_STAT },
    { off := 0x8404, reg := .LTX_CAL_RESULT0 },
    { off := 0x8408, reg := .LTX_CAL_RESULT1 },
    { off := 0x8410, reg := .LTX_CLIP_CNT, words := 2 },
    { off := 0x8418, reg := .LTX_CAL_ABORT_CNT, words := 2 },
    { off := 0x8420, reg := .LTX_LB_SLIP_CNT, words := 2 },
    { off := 0x8428, reg := .LTX_CHK_ERR_CNT, words := 2 },
    { off := 0x8430, reg := .LTX_CHK_SYM_CNT, words := 2 },
    { off := 0x9000, reg := .LTX_DAC_TRIM, s1 := 0x4, n1 := 64 },
    { off := 0x9100, reg := .LTX_DAC_TTRIM, s1 := 0x4, n1 := 64 } ]

/-- Offset table: rack. -/
def layout_rack : List LRow :=
  [ { off := 0x0, reg := .RACK_CTL },
    { off := 0x4, reg := .RACK_STAT },
    { off := 0x8, reg := .RACK_CAUSE },
    { off := 0xC, reg := .RACK_EN },
    { off := 0x10, reg := .RACK_PROG_ID },
    { off := 0x20, reg := .RACK_TAG_CTL },
    { off := 0x24, reg := .RACK_TAG_STAT },
    { off := 0x30, reg := .RACK_TAG_REC, words := 4 },
    { off := 0x40, reg := .RACK_REPORT, s1 := 0x4, n1 := 8 },
    { off := 0x80, reg := .RACK_CYC_CNT, words := 2 },
    { off := 0x88, reg := .RACK_DUTY_GATED_CNT, words := 2 },
    { off := 0x90, reg := .RACK_BANK_CONF_CNT, words := 2 },
    { off := 0x98, reg := .RACK_BUS_WAIT_CNT, words := 2 },
    { off := 0x1000, reg := .RACK_LAST_PC, s1 := 0x40, n1 := 8 },
    { off := 0x1004, reg := .RACK_LAST_TRAP, s1 := 0x40, n1 := 8 },
    { off := 0x1008, reg := .RACK_SLOT_RET_CNT, words := 2, s1 := 0x40, n1 := 8 },
    { off := 0x1010, reg := .RACK_SLOT_WASTE_CNT, words := 2, s1 := 0x40, n1 := 8 },
    { off := 0x1018, reg := .RACK_SLOT_FRONT_CNT, words := 2, s1 := 0x40, n1 := 8 },
    { off := 0x1020, reg := .RACK_SLOT_BACK_CNT, words := 2, s1 := 0x40, n1 := 8 },
    { off := 0x1028, reg := .RACK_YIELD_CNT, words := 2, s1 := 0x40, n1 := 8 },
    { off := 0x1030, reg := .RACK_TW_OVR_CNT, words := 2, s1 := 0x40, n1 := 8 } ]

/-- Offset table: programmable counter bank. -/
def layout_bank : List LRow :=
  [ { off := 0x0, reg := .CNT_BANK_CTL },
    { off := 0x4, reg := .CNT_BANK_CLR },
    { off := 0x8, reg := .CNT_BANK_OVF },
    { off := 0x10, reg := .CNT_ADDR_LO },
    { off := 0x14, reg := .CNT_ADDR_HI },
    { off := 0x20, reg := .CNT_SEL, s1 := 0x4, n1 := 8 },
    { off := 0x40, reg := .CNT_VAL, words := 2, s1 := 0x8, n1 := 8 } ]

/-- Offset table: counter reader. -/
def layout_cntrd : List LRow :=
  [ { off := 0x0, reg := .CNT_RD_CTL },
    { off := 0x4, reg := .CNT_RD_STAT },
    { off := 0x8, reg := .CNT_CAUSE },
    { off := 0xC, reg := .CNT_EN },
    { off := 0x10, reg := .CNT_RD_T_FIRST, words := 2 },
    { off := 0x18, reg := .CNT_RD_T_LAST, words := 2 },
    { off := 0x100, reg := .CNT_LIST, s1 := 0x4, n1 := 256 },
    { off := 0x1000, reg := .CNT_RES, words := 2, s1 := 0x8, n1 := 256 } ]

/-- Offset table: FEC/PCS, die-wide. -/
def layout_fecdie : List LRow :=
  [ { off := 0x0, reg := .FEC_CAUSE },
    { off := 0x4, reg := .FEC_EN },
    { off := 0x8, reg := .FEC_POOL_STAT },
    { off := 0xC, reg := .FEC_POOL_FENCED },
    { off := 0x8000, reg := .FEC_POOL_MAP, s1 := 0x4, n1 := 384 } ]

/-- Offset table: FEC/PCS, port block. -/
def layout_fecport : List LRow :=
  [ { off := 0x0, reg := .FEC_PORT_CFG },
    { off := 0x4, reg := .FEC_PORT_STAT },
    { off := 0x8, reg := .FEC_STAT_CTL },
    { off := 0xC, reg := .FEC_INJ_CTL },
    { off := 0x10, reg := .FEC_SKEW },
    { off := 0x14, reg := .FEC_HOLD_LH },
    { off := 0x18, reg := .FEC_HOLD_HL },
    { off := 0x20, reg := .FEC_LCW_CNT, words := 2 },
    { off := 0x28, reg := .FEC_LCW_CORR_CNT, words := 2 },
    { off := 0x30, reg := .FEC_LCW_UNCORR_CNT, words := 2 },
    { off := 0x38, reg := .FEC_LSYM_CORR_CNT, words := 2 },
    { off := 0x48, reg := .FEC_LCW_HIST_CNT, words := 2, s1 := 0x8, n1 := 15, first := 1 },
    { off := 0xC0, reg := .FEC_LL_SYM_CNT, words := 2, s1 := 0x8, n1 := 4 },
    { off := 0xE0, reg := .FEC_INNER_CORR_CNT, words := 2, s1 := 0x8, n1 := 4 },
    { off := 0x100, reg := .FEC_INNER_UNCORR_CNT, words := 2, s1 := 0x8, n1 := 4 },
    { off := 0x120, reg := .FEC_AM_LOSS_CNT, words := 2, s1 := 0x8, n1 := 4 },
    { off := 0x140, reg := .FEC_HCW_CNT, words := 2 },
    { off := 0x148, reg := .FEC_HCW_CORR_CNT, words := 2 },
    { off := 0x150, reg := .FEC_HCW_UNCORR_CNT, words := 2 },
    { off := 0x158, reg := .FEC_HSYM_CORR_CNT, words := 2 },
    { off := 0x160, reg := .FEC_HL_SYM_CNT, words := 2, s1 := 0x8, n1 := 8 },
    { off := 0x1A0, reg := .FEC_SKEW_OVER_CNT, words := 2 },
    { off := 0x1A8, reg := .FEC_SLIP_CNT, words := 2 },
    { off := 0x1B0, reg := .FEC_WAKE_DROP_CNT, words := 2 } ] ++
  [ { off := 0x1B8, reg := .FEC_RA_ADJ_CNT, words := 2 },
    { off := 0x1C0, reg := .FEC_FRAME_CNT, words := 2 },
    { off := 0x1C8, reg := .FEC_FCS_ERR_CNT, words := 2 } ]

/-- Offset table: host lane. -/
def layout_host : List LRow :=
  [ { off := 0x0, reg := .HL_CFG },
    { off := 0x4, reg := .HL_STAT },
    { off := 0x8, reg := .HL_CAUSE },
    { off := 0xC, reg := .HL_EN },
    { off := 0x10, reg := .HL_SIGDET_CTL },
    { off := 0x14, reg := .HL_IDLE_STAT },
    { off := 0x20, reg := .HL_RX_EQ_CTL },
    { off := 0x24, reg := .HL_RX_EQ_STAT },
    { off := 0x30, reg := .HL_TX_EQ },
    { off := 0x34, reg := .HL_TX_EQ_EFF },
    { off := 0x40, reg := .HL_CDR_FOFS },
    { off := 0x50, reg := .HL_SLIP },
    { off := 0x54, reg := .HL_SLIP_POS },
    { off := 0x60, reg := .HL_RAW_PAT, s1 := 0x4, n1 := 8 },
    { off := 0x80, reg := .HL_CAP_CTL },
    { off := 0x84, reg := .HL_CAP_STAT },
    { off := 0x100, reg := .HL_RX_FFE, s1 := 0x4, n1 := 8 },
    { off := 0x200, reg := .HL_SIG_LOSS_CNT, words := 2 },
    { off := 0x208, reg := .HL_CDR_UNLOCK_CNT, words := 2 },
    { off := 0x210, reg := .HL_CHK_ERR_CNT, words := 2 },
    { off := 0x218, reg := .HL_CHK_SYM_CNT, words := 2 },
    { off := 0x220, reg := .HL_LB_SLIP_CNT, words := 2 },
    { off := 0x228, reg := .HL_WAKE_CNT, words := 2 } ]

/-- Offset table: insole, die-wide. -/
def layout_ins : List LRow :=
  [ { off := 0x0, reg := .INS_CAUSE },
    { off := 0x4, reg := .INS_IRQ_EN } ]

/-- Offset table: insole, lane block. -/
def layout_inslane : List LRow :=
  [ { off := 0x0, reg := .INS_CFG },
    { off := 0x4, reg := .INS_STAT },
    { off := 0x8, reg := .INS_TX_CFG },
    { off := 0xC, reg := .INS_TX_AMP },
    { off := 0x10, reg := .INS_RX_CFG },
    { off := 0x14, reg := .INS_FOFS },
    { off := 0x18, reg := .INS_METRIC },
    { off := 0x1C, reg := .INS_CODE_PHASE },
    { off := 0x20, reg := .INS_MSG_STAT },
    { off := 0x30, reg := .INS_TX_TS, words := 3 },
    { off := 0x40, reg := .INS_RX_TS, words := 3 },
    { off := 0x4C, reg := .INS_RX_TS_Q },
    { off := 0x100, reg := .INS_TX_FRAME_CNT, words := 2 },
    { off := 0x108, reg := .INS_RX_FRAME_CNT, words := 2 },
    { off := 0x110, reg := .INS_CRC_ERR_CNT, words := 2 },
    { off := 0x118, reg := .INS_HDR_ERR_CNT, words := 2 },
    { off := 0x120, reg := .INS_SYNC_CAPTURED_CNT, words := 2 },
    { off := 0x128, reg := .INS_LOCK_LOSS_CNT, words := 2 },
    { off := 0x130, reg := .INS_MSG_RETX_CNT, words := 2 },
    { off := 0x138, reg := .INS_MSG_FAIL_CNT, words := 2 },
    { off := 0x140, reg := .INS_RX_DROP_CNT, words := 2 } ]

/-- Offset table: time service, die-wide. -/
def layout_timedie : List LRow :=
  [ { off := 0x0, reg := .TIME_STAT },
    { off := 0x4, reg := .TIME_CAUSE },
    { off := 0x8, reg := .TIME_EN },
    { off := 0xC, reg := .TIME_SRC_CFG },
    { off := 0x10, reg := .TIME_TOD, words := 3 },
    { off := 0x20, reg := .TIME_FREQ },
    { off := 0x24, reg := .TIME_OFFSET },
    { off := 0x28, reg := .TIME_ALIGN_OFS },
    { off := 0x30, reg := .TIME_PPS_IN_TS, words := 3 },
    { off := 0x40, reg := .TIME_PPS_CFG },
    { off := 0x44, reg := .TIME_PPS_OFS },
    { off := 0x48, reg := .TIME_TODSER_CFG },
    { off := 0x4C, reg := .TIME_UTC },
    { off := 0x50, reg := .TIME_CTX_STAT },
    { off := 0x100, reg := .TIME_ALIGN_LOSS_CNT, words := 2 },
    { off := 0x108, reg := .TIME_STEP_CNT, words := 2 },
    { off := 0x110, reg := .TIME_TODRX_ERR_CNT, words := 2 },
    { off := 0x200, reg := .TIME_LANE_TXDLY, s1 := 0x8, n1 := 4 },
    { off := 0x204, reg := .TIME_LANE_RXDLY, s1 := 0x8, n1 := 4 },
    { off := 0x240, reg := .TIME_FAR_TXDLY, s1 := 0x8, n1 := 4 },
    { off := 0x244, reg := .TIME_FAR_RXDLY, s1 := 0x8, n1 := 4 } ]

/-- Offset table: time service, port block. -/
def layout_timeport : List LRow :=
  [ { off := 0x0, reg := .TIME_PORT_CFG },
    { off := 0x4, reg := .TIME_PORT_CTL },
    { off := 0x8, reg := .TIME_PORT_HDLY },
    { off := 0xC, reg := .TIME_PORT_STAT },
    { off := 0x10, reg := .TIME_RES_LAST_HL },
    { off := 0x14, reg := .TIME_RES_LAST_LH },
    { off := 0x18, reg := .TIME_TSQ_STAT },
    { off := 0x20, reg := .TIME_TSQ_ENTRY, words := 4 },
    { off := 0x100, reg := .TIME_CORR_CNT, words := 2 },
    { off := 0x108, reg := .TIME_CTX_ALLOC_CNT, words := 2 },
    { off := 0x110, reg := .TIME_CTX_EXPIRE_CNT, words := 2 },
    { off := 0x118, reg := .TIME_CTX_EVICT_CNT, words := 2 },
    { off := 0x120, reg := .TIME_ORPHAN_CNT, words := 2 },
    { off := 0x128, reg := .TIME_DISCARD_CNT, words := 2 },
    { off := 0x130, reg := .TIME_RES_CHECK_CNT, words := 2 },
    { off := 0x138, reg := .TIME_CF_SAT_CNT, words := 2 } ]

/-- Offset table: control-law engine. -/
def layout_tgt : List LRow :=
  [ { off := 0x0, reg := .TGT_STAT },
    { off := 0x4, reg := .TGT_CAUSE },
    { off := 0x8, reg := .TGT_EN },
    { off := 0x10, reg := .TGT_FAULT },
    { off := 0x14, reg := .TGT_FAULT, first := 1 },
    { off := 0x1000, reg := .TGT_LOOP_MODE, s1 := 0x40, n1 := 48 },
    { off := 0x1004, reg := .TGT_LOOP_CFG, s1 := 0x40, n1 := 48 },
    { off := 0x1008, reg := .TGT_LOOP_TIME, s1 := 0x40, n1 := 48 },
    { off := 0x100C, reg := .TGT_LOOP_SHIFT, s1 := 0x40, n1 := 48 },
    { off := 0x1010, reg := .TGT_LOOP_KP, s1 := 0x40, n1 := 48 },
    { off := 0x1014, reg := .TGT_LOOP_KI, s1 := 0x40, n1 := 48 },
    { off := 0x1018, reg := .TGT_LOOP_KD, s1 := 0x40, n1 := 48 },
    { off := 0x101C, reg := .TGT_LOOP_KF, s1 := 0x40, n1 := 48 },
    { off := 0x1020, reg := .TGT_LOOP_OUTLIM, s1 := 0x40, n1 := 48 },
    { off := 0x1024, reg := .TGT_LOOP_FBMIN, s1 := 0x40, n1 := 48 },
    { off := 0x1028, reg := .TGT_LOOP_FBMAX, s1 := 0x40, n1 := 48 },
    { off := 0x102C, reg := .TGT_LOOP_SPMIN, s1 := 0x40, n1 := 48 },
    { off := 0x1030, reg := .TGT_LOOP_SPMAX, s1 := 0x40, n1 := 48 },
    { off := 0x1034, reg := .TGT_LOOP_RAMP, s1 := 0x40, n1 := 48 },
    { off := 0x1038, reg := .TGT_LOOP_SP, s1 := 0x40, n1 := 48 },
    { off := 0x103C, reg := .TGT_LOOP_MAN, s1 := 0x40, n1 := 48 },
    { off := 0x3000, reg := .TGT_LOOP_STAT, s1 := 0x20, n1 := 48 },
    { off := 0x3004, reg := .TGT_LOOP_OUT, s1 := 0x20, n1 := 48 },
    { off := 0x3008, reg := .TGT_LOOP_PV, s1 := 0x20, n1 := 48 } ] ++
  [ { off := 0x300C, reg := .TGT_LOOP_RSP, s1 := 0x20, n1 := 48 },
    { off := 0x3010, reg := .TGT_LOOP_INTEG, words := 2, s1 := 0x20, n1 := 48 },
    { off := 0x3018, reg := .TGT_LOOP_ERR, s1 := 0x20, n1 := 48 },
    { off := 0x301C, reg := .TGT_LOOP_CHK, s1 := 0x20, n1 := 48 } ]

/-- Offset table: control DACs and sine generators. -/
def layout_cdac : List LRow :=
  [ { off := 0x0, reg := .CDAC_STAT },
    { off := 0x4, reg := .CDAC_CAUSE },
    { off := 0x8, reg := .CDAC_EN },
    { off := 0xC, reg := .CDAC_STROBE },
    { off := 0x10, reg := .CDAC_GROUP, s1 := 0x4, n1 := 4 },
    { off := 0x20, reg := .CDAC_PEN },
    { off := 0x24, reg := .CDAC_PEN_STAT },
    { off := 0x1000, reg := .CDAC_CFG, s1 := 0x10, n1 := 32 },
    { off := 0x1004, reg := .CDAC_CODE, s1 := 0x10, n1 := 32 },
    { off := 0x1008, reg := .CDAC_LIM, s1 := 0x10, n1 := 32 },
    { off := 0x100C, reg := .CDAC_SAFE, s1 := 0x10, n1 := 32 },
    { off := 0x2000, reg := .CDAC_OUT, s1 := 0x10, n1 := 32 },
    { off := 0x2004, reg := .CDAC_CH_STAT, s1 := 0x10, n1 := 32 },
    { off := 0x3000, reg := .SINE_CTL, s1 := 0x10, n1 := 8 },
    { off := 0x3004, reg := .SINE_FTW, s1 := 0x10, n1 := 8 },
    { off := 0x3008, reg := .SINE_AMP, s1 := 0x10, n1 := 8 },
    { off := 0x300C, reg := .SINE_STAT, s1 := 0x10, n1 := 8 } ]

/-- Offset table: monitoring. -/
def layout_mon : List LRow :=
  [ { off := 0x0, reg := .MON_CTL },
    { off := 0x4, reg := .MON_STAT },
    { off := 0x8, reg := .MON_CAUSE },
    { off := 0xC, reg := .MON_EN },
    { off := 0x10, reg := .MON_CHK_CTL },
    { off := 0x14, reg := .MON_CHK_STAT },
    { off := 0x18, reg := .MON_CHK_TOL },
    { off := 0x1C, reg := .MON_DIAG_RES },
    { off := 0x20, reg := .MON_OD_REQ },
    { off := 0x24, reg := .MON_OD_STAT },
    { off := 0x30, reg := .MON_OD_RES, words := 2, s1 := 0x8, n1 := 4 },
    { off := 0x80, reg := .MON_SKIP_CNT, words := 2 },
    { off := 0x88, reg := .MON_CHK_FAIL_CNT, words := 2 },
    { off := 0x100, reg := .MON_SLOT, s1 := 0x4, n1 := 32 },
    { off := 0x180, reg := .MON_SLOT_SH, s1 := 0x4, n1 := 32 },
    { off := 0x200, reg := .MON_IN_ZERO, s1 := 0x10, n1 := 32 },
    { off := 0x204, reg := .MON_IN_GAIN, s1 := 0x10, n1 := 32 },
    { off := 0x208, reg := .MON_IN_LAST, s1 := 0x10, n1 := 32 },
    { off := 0x20C, reg := .MON_IN_CAL, s1 := 0x10, n1 := 32 },
    { off := 0x1000, reg := .MON_CH_CFG, s1 := 0x40, n1 := 32 },
    { off := 0x1004, reg := .MON_CH_DEC, s1 := 0x40, n1 := 32 },
    { off := 0x1008, reg := .MON_CH_PHASE, s1 := 0x40, n1 := 32 },
    { off := 0x100C, reg := .MON_CH_CTL, s1 := 0x40, n1 := 32 },
    { off := 0x1010, reg := .MON_CH_STAT, s1 := 0x40, n1 := 32 } ] ++
  [ { off := 0x1018, reg := .MON_CH_VAL, words := 2, s1 := 0x40, n1 := 32 },
    { off := 0x1020, reg := .MON_CH_PERIOD, s1 := 0x40, n1 := 32 },
    { off := 0x1024, reg := .MON_CH_GD, s1 := 0x40, n1 := 32 },
    { off := 0x4000, reg := .MON_FIRA, s1 := 0x100, n1 := 32, s2 := 0x4, n2 := 31 },
    { off := 0x4080, reg := .MON_FIRB, s1 := 0x100, n1 := 32, s2 := 0x4, n2 := 31 } ]

/-- Offset table: mailbox. -/
def layout_mbx : List LRow :=
  [ { off := 0x0, reg := .MBX_DOORBELL },
    { off := 0x4, reg := .MBX_STAT },
    { off := 0x8, reg := .MBX_CAUSE },
    { off := 0xC, reg := .MBX_EN },
    { off := 0x10, reg := .MBX_CR_PROD_PTR, s1 := 0x8, n1 := 2 },
    { off := 0x14, reg := .MBX_CR_CONS_PTR, s1 := 0x8, n1 := 2 },
    { off := 0x20, reg := .MBX_DB_REJ_INFO },
    { off := 0x40, reg := .MBX_EYELET_STATE, s1 := 0x4, n1 := 16 },
    { off := 0x80, reg := .MBX_TIMEOUT_CNT, words := 2 },
    { off := 0x88, reg := .MBX_DB_REJ_CNT, words := 2 } ]

/-- Offset table: host interfaces. -/
def layout_hif : List LRow :=
  [ { off := 0x0, reg := .HIF_STAT },
    { off := 0x4, reg := .HIF_CAUSE },
    { off := 0x8, reg := .HIF_EN },
    { off := 0x10, reg := .HIF_SPI_STAT },
    { off := 0x14, reg := .HIF_SPI_ERR_ADDR },
    { off := 0x20, reg := .HIF_WIN_BASE, s1 := 0x8, n1 := 8 },
    { off := 0x24, reg := .HIF_WIN_LIMIT, s1 := 0x8, n1 := 8 },
    { off := 0x80, reg := .HIF_ACCESS_CNT, words := 2 },
    { off := 0x88, reg := .HIF_SPI_OVR_CNT, words := 2 } ]

/-- Offset table: security and boot. -/
def layout_sec : List LRow :=
  [ { off := 0x0, reg := .SEC_STAT },
    { off := 0x4, reg := .SEC_CAUSE },
    { off := 0x8, reg := .SEC_EN },
    { off := 0x10, reg := .SEC_UID, words := 2 },
    { off := 0x18, reg := .SEC_IMG_A },
    { off := 0x1C, reg := .SEC_IMG_B },
    { off := 0x20, reg := .SEC_DBG_NONCE, words := 4 },
    { off := 0x30, reg := .SEC_KEY_STAT },
    { off := 0x40, reg := .SEC_RECOVERY_LEN },
    { off := 0x44, reg := .SEC_RECOVERY_CTL },
    { off := 0x80, reg := .SEC_AUTH_FAIL_CNT, words := 2 } ]

/-- Offset table: memory integrity, die-wide. -/
def layout_mem : List LRow :=
  [ { off := 0x0, reg := .MEM_STAT },
    { off := 0x4, reg := .MEM_CAUSE },
    { off := 0x8, reg := .MEM_EN },
    { off := 0xC, reg := .MEM_SCRUB_CTL },
    { off := 0x40, reg := .MEM_HARD, s1 := 0x4, n1 := 16 } ]

/-- Offset table: memory integrity, region block. -/
def layout_memreg : List LRow :=
  [ { off := 0x0, reg := .MEM_BKT_CFG },
    { off := 0x4, reg := .MEM_BKT_STAT },
    { off := 0x8, reg := .MEM_ERR_LOC },
    { off := 0xC, reg := .MEM_ERR_INFO },
    { off := 0x10, reg := .MEM_CORR_CNT, words := 2 },
    { off := 0x18, reg := .MEM_UNCORR_CNT, words := 2 } ]

/-- Offset table: event recorder. -/
def layout_evr : List LRow :=
  [ { off := 0x0, reg := .EVR_STAT },
    { off := 0x4, reg := .EVR_CAUSE },
    { off := 0x8, reg := .EVR_EN },
    { off := 0x10, reg := .EVR_HEAD_SEQ },
    { off := 0x14, reg := .EVR_TAIL_SEQ },
    { off := 0x18, reg := .EVR_FLUSHED_SEQ },
    { off := 0x20, reg := .EVR_BAD_SEG, words := 2 },
    { off := 0x28, reg := .EVR_CURSOR },
    { off := 0x2C, reg := .EVR_WIN_CTL },
    { off := 0x30, reg := .EVR_WIN_STAT },
    { off := 0x40, reg := .EVR_WIN, words := 8 },
    { off := 0x80, reg := .EVR_FIFO_STAT },
    { off := 0x108, reg := .EVR_DROP_CNT, words := 2, s1 := 0x8, n1 := 21, first := 1 } ]

/-- Offset table: thermal. -/
def layout_thm : List LRow :=
  [ { off := 0x0, reg := .THM_STAT },
    { off := 0x4, reg := .THM_CAUSE },
    { off := 0x8, reg := .THM_EN },
    { off := 0x10, reg := .THM_ZONE_CFG, s1 := 0x4, n1 := 3 },
    { off := 0x20, reg := .THM_ZONE_STAT, s1 := 0x4, n1 := 3 },
    { off := 0x40, reg := .THM_RETIRED },
    { off := 0x100, reg := .THM_TS, s1 := 0x4, n1 := 24 },
    { off := 0x200, reg := .THM_THROT_CNT, words := 2, s1 := 0x8, n1 := 3 } ]

/-- Offset table: counter cause of a core die. -/
def layout_cntdie : List LRow :=
  [ { off := 0x0, reg := .CNT_DIE_CAUSE },
    { off := 0x4, reg := .CNT_DIE_EN } ]

/-- Offset table: calibration causes of a core die. -/
def layout_diectl : List LRow :=
  [ { off := 0x300, reg := .CAL_CAUSE },
    { off := 0x304, reg := .CAL_EN } ]

end Sys2Proof.Machine
end

