-- ==== Sys2Proof/Machine/Store.lean ====
section
/-!
DEFINITION. Sys2Proof/Machine/Store.lean: sparse maps in one canonical form. A map lists its keys in strictly rising
order and lists no key at the value an unlisted key has, so that equal maps are equal data.
-/

namespace Sys2Proof.Machine

/-- The instance of a register: `u` is the unit it belongs to (the die, line lane, host lane, rack, port, insole lane
or counter bank by its global number) and `i` its instance number there. A name with two indices (MON_FIRA_c_t) has
`i` = 32 c + t. -/
structure RKey where
  reg : Reg
  u : Nat
  i : Nat
  deriving DecidableEq, Repr

/-- Keys in the order of the map: by register, then unit, then instance. -/
def RKey.lt (a b : RKey) : Bool :=
  if a.reg.ctorIdx < b.reg.ctorIdx then true
  else if b.reg.ctorIdx < a.reg.ctorIdx then false
  else if a.u < b.u then true
  else if b.u < a.u then false
  else decide (a.i < b.i)

/-- The value of key `k` in a list of pairs, or `d` where the list does not name it. -/
def lookup {κ α : Type} [DecidableEq κ] (d : α) (k : κ) : List (κ × α) → α
  | [] => d
  | (k', v) :: m => if k' = k then v else lookup d k m

/-- Put `v` at key `k`, before the first greater key. -/
def insertAt {κ α : Type} [DecidableEq κ] (lt : κ → κ → Bool) (k : κ) (v : α) : List (κ × α) → List (κ × α)
  | [] => [(k, v)]
  | (k', v') :: m =>
    if k' = k then (k, v) :: m
    else if lt k k' then (k, v) :: (k', v') :: m
    else (k', v') :: insertAt lt k v m

/-- Remove key `k`. -/
def eraseAt {κ α : Type} [DecidableEq κ] (k : κ) : List (κ × α) → List (κ × α)
  | [] => []
  | (k', v') :: m => if k' = k then eraseAt k m else (k', v') :: eraseAt k m

/-- Write `v` at key `k`, whose value while unlisted is `d`: the canonical form lists no key at that value. -/
def writeAt {κ α : Type} [DecidableEq κ] [DecidableEq α] (lt : κ → κ → Bool) (d : α) (k : κ) (v : α)
    (m : List (κ × α)) : List (κ × α) :=
  if v = d then eraseAt k m else insertAt lt k v m

/-- The canonical form: keys strictly rising, no value equal to its key's unlisted value. -/
def canonical {κ α : Type} [DecidableEq α] (lt : κ → κ → Bool) (d : κ → α) : List (κ × α) → Bool
  | [] => true
  | [(k, v)] => decide (v ≠ d k)
  | (k, v) :: (k', v') :: m => decide (v ≠ d k) && lt k k' && canonical lt d ((k', v') :: m)

/-- Keys of the memories and of the sparse tables that numbers index. -/
def natLt (a b : Nat) : Bool := decide (a < b)

end Sys2Proof.Machine
end

