-- ==== Sys2Proof/Machine/AddressMap.lean ====
section
/-!
DEFINITION. Sys2Proof/Machine/AddressMap.lean: the 32-bit byte-address map of R20 and the islands of R15.
-/

namespace Sys2Proof.Machine

/-- The blocks and memories of R20's tables. `d` is the die (1 CORE-A, 2 CORE-B); line lanes, host lanes and racks carry
their global number; a counter bank carries its island ID (R135). -/
inductive Block where
  | rom | sram | mram
  | pwr | thm | mbx | hif | tgt | cdac | mon | evr | mem | sec | dma | cnt | irq
  | diectl (d : Nat) | welt (d : Nat) | time (d : Nat) | fec (d : Nat) | ins (d : Nat)
  | line (k : Nat) | host (j : Nat) | rack (r : Nat)
  | bank (island : Nat) | cntdie (d : Nat) | pool (d : Nat)
  deriving DecidableEq, Repr

/-- An island ID: the die in [15:12], the island number in [7:0] (R15). -/
def islandId (die n : Nat) : Nat := die * 0x1000 + n

/-- The islands of R15's table, without the die. -/
def coreIslands : List Nat :=
  [0x00, 0x01, 0x02, 0x03, 0x04] ++ List.range' 0x10 4 ++ List.range' 0x20 8 ++ List.range' 0x40 32

/-- Whether an ID names an island of R15. -/
def isIsland (id : Nat) : Bool :=
  if id / 0x1000 = 0 then decide (id ≤ 5)
  else decide (id / 0x1000 ≤ 2) && coreIslands.contains (id % 0x1000)

/-- The die (1 or 2) that a line lane is on. -/
def dieOfLane (k : Nat) : Nat := 1 + k / 4

/-- The die that a host lane is on. -/
def dieOfHost (j : Nat) : Nat := 1 + j / 8

/-- The die that a rack is on. -/
def dieOfRack (r : Nat) : Nat := 1 + r / 32

/-- The island of a line lane. -/
def lineIsland (k : Nat) : Nat := islandId (dieOfLane k) (0x10 + k % 4)

/-- The island of a host lane. -/
def hostIsland (j : Nat) : Nat := islandId (dieOfHost j) (0x20 + j % 8)

/-- The island of a rack. -/
def rackIsland (r : Nat) : Nat := islandId (dieOfRack r) (0x40 + r % 32)

/-- The island that answers for a block (R20). -/
def Block.island : Block → Nat
  | .rom => 0x03 | .sram => 0x03 | .mram => 0x03
  | .pwr => 0x00 | .thm => 0x00 | .mbx => 0x03 | .hif => 0x04
  | .tgt => 0x05 | .cdac => 0x05 | .mon => 0x05 | .evr => 0x05
  | .mem => 0x03 | .sec => 0x05 | .dma => 0x03 | .cnt => 0x05 | .irq => 0x00
  | .diectl d => islandId d 0x00
  | .welt d => islandId d 0x01
  | .time d => islandId d 0x03
  | .fec d => islandId d 0x02
  | .ins d => islandId d 0x04
  | .line k => lineIsland k
  | .host j => hostIsland j
  | .rack r => rackIsland r
  | .bank i => i
  | .cntdie d => islandId d 0x00
  | .pool d => islandId d 0x02

/-- The die a block is on. -/
def Block.die (b : Block) : Nat := b.island / 0x1000

/-- Whether the block is one of the memories of R20 (as against registers and the windows of a register block). -/
def Block.isMemory : Block → Bool
  | .rom | .sram | .mram | .pool _ => true
  | _ => false

/-- The block an offset of a core die's range lies in, and the offset within it (R20). An offset of the block counters that
no island has is a reserved offset (R6, R21), for which the always-on island answers (DEDUCED, log entry 112). -/
def coreBlockAt (d off : Nat) : Option (Block × Nat) :=
  if off < 0x100000 then some (.diectl d, off)
  else if off < 0x200000 then some (.welt d, off - 0x100000)
  else if off < 0x300000 then some (.time d, off - 0x200000)
  else if off < 0x400000 then some (.fec d, off - 0x300000)
  else if off < 0x500000 then some (.ins d, off - 0x400000)
  else if off < 0x800000 then none
  else if off < 0x880000 then some (.line (4 * (d - 1) + (off - 0x800000) / 0x20000), (off - 0x800000) % 0x20000)
  else if off < 0x1000000 then none
  else if off < 0x1080000 then some (.host (8 * (d - 1) + (off - 0x1000000) / 0x10000), off % 0x10000)
  else if off < 0x2000000 then none
  else if off < 0x2800000 then some (.rack (32 * (d - 1) + (off - 0x2000000) / 0x40000), (off - 0x2000000) % 0x40000)
  else if off < 0x4000000 then none
  else if off < 0x40F0000 then
    if isIsland (islandId d ((off - 0x4000000) / 0x1000)) then
      some (.bank (islandId d ((off - 0x4000000) / 0x1000)), off % 0x1000)
    else some (.cntdie d, off - 0x4000000)
  else if off < 0x4100000 then some (.cntdie d, off - 0x40F0000)
  else if off < 0x8000000 then none
  else if off < 0x8180000 then some (.pool d, off - 0x8000000)
  else none

/-- The block a byte address lies in, and the offset within it; none where R21 gives DECODE. -/
def blockAt (a : Nat) : Option (Block × Nat) :=
  if a < 0x20000 then some (.rom, a)
  else if a < 0x1000000 then none
  else if a < 0x1200000 then some (.sram, a - 0x1000000)
  else if a < 0x2000000 then none
  else if a < 0x2800000 then some (.mram, a - 0x2000000)
  else if a < 0x4000000 then none
  else if a < 0x40D0000 then
    match (a - 0x4000000) / 0x10000 with
    | 0 => some (.pwr, a % 0x10000)
    | 1 => some (.thm, a % 0x10000)
    | 2 => some (.mbx, a % 0x10000)
    | 3 => some (.hif, a % 0x10000)
    | 4 => some (.tgt, a % 0x10000)
    | 5 => some (.cdac, a % 0x10000)
    | 6 => some (.mon, a % 0x10000)
    | 7 => some (.evr, a % 0x10000)
    | 8 => some (.mem, a % 0x10000)
    | 9 => some (.sec, a % 0x10000)
    | 10 => some (.dma, a % 0x10000)
    | 11 =>
      if a % 0x10000 < 0x8000 then some (.cnt, a % 0x10000)
      else if a % 0x10000 < 0x8600 then some (.bank ((a % 0x10000 - 0x8000) / 0x100), a % 0x100)
      else some (.cnt, a % 0x10000)
    | _ => some (.irq, a % 0x10000)
  else if a < 0x10000000 then none
  else if a < 0x20000000 then coreBlockAt 1 (a - 0x10000000)
  else if a < 0x30000000 then coreBlockAt 2 (a - 0x20000000)
  else none

/-- The instance (and 32-bit word) of a table row at an offset, if the offset is one of the row's. -/
def LRow.at? (r : LRow) (off : Nat) : Option (Nat × Nat) :=
  if off < r.off then none
  else
    let d := off - r.off
    let (i, d1) := if r.s1 = 0 then (0, d) else (d / r.s1, d % r.s1)
    let (j, d2) := if r.s2 = 0 then (0, d1) else (d1 / r.s2, d1 % r.s2)
    if i < r.n1 ∧ j < r.n2 ∧ d2 < 4 * r.words then
      some (if r.s2 = 0 then r.first + i else 32 * i + j, d2 / 4)
    else none

/-- The register at an offset of an offset table: its name, instance and word. -/
def findReg : List LRow → Nat → Option (Reg × Nat × Nat)
  | [], _ => none
  | r :: rs, off =>
    match r.at? off with
    | some (i, w) => some (r.reg, i, w)
    | none => findReg rs off

/-- The unit number and the offset table that hold at an offset of a block, with the offset within that table. -/
def Block.table (b : Block) (off : Nat) : Option (Nat × List LRow × Nat) :=
  match b with
  | .pwr => if 0x100 ≤ off ∧ off < 0x110 then some (0, layout_clk, off) else some (0, layout_pwr, off)
  | .thm => some (0, layout_thm, off)
  | .mbx => some (0, layout_mbx, off)
  | .hif => some (0, layout_hif, off)
  | .tgt => some (0, layout_tgt, off)
  | .cdac => some (0, layout_cdac, off)
  | .mon => some (0, layout_mon, off)
  | .evr => some (0, layout_evr, off)
  | .mem => if off < 0x1000 then some (0, layout_mem, off) else
      if off < 0x1200 then some ((off - 0x1000) / 0x40, layout_memreg, off % 0x40) else none
  | .sec => some (0, layout_sec, off)
  | .cnt => some (0, layout_cntrd, off)
  | .irq => some (0, layout_irq, off)
  | .diectl d =>
    if off < 0x200 then some (d, layout_clk, off)
    else if off < 0x800 then some (d, layout_diectl, off)
    else if off < 0x1000 then some (d, layout_mem, off - 0x800)
    else if off < 0x1200 then some (8 * d + (off - 0x1000) / 0x40, layout_memreg, off % 0x40)
    else none
  | .welt d => some (d, layout_welt, off)
  | .time d =>
    if off < 0x1000 then some (d, layout_timedie, off)
    else if off < 0x5000 then some (4 * (d - 1) + (off - 0x1000) / 0x1000, layout_timeport, off % 0x1000)
    else none
  | .fec d =>
    if 0x1000 ≤ off ∧ off < 0x5000 then
      some (4 * (d - 1) + (off - 0x1000) / 0x1000, layout_fecport, off % 0x1000)
    else some (d, layout_fecdie, off)
  | .ins d =>
    if off < 0x1000 then some (d, layout_ins, off)
    else if off < 0x5000 then some (4 * (d - 1) + (off - 0x1000) / 0x1000, layout_inslane, off % 0x1000)
    else none
  | .line k => some (k, layout_lane, off)
  | .host j => some (j, layout_host, off)
  | .rack r => some (r, layout_rack, off)
  | .bank i => some (i, layout_bank, off)
  | .cntdie d => some (d, layout_cntdie, off)
  | .rom | .sram | .mram | .dma | .pool _ => none

/-- The register at an offset of a block, and which of its 32-bit words. -/
def Block.regAt (b : Block) (off : Nat) : Option (RKey × Nat) :=
  match b.table off with
  | none => none
  | some (u, rows, o) =>
    match findReg rows o with
    | none => none
    | some (r, i, w) => some (⟨r, u, i⟩, w)

/-- The base address of a block. -/
def Block.base : Block → Nat
  | .rom => 0 | .sram => 0x1000000 | .mram => 0x2000000
  | .pwr => 0x4000000 | .thm => 0x4010000 | .mbx => 0x4020000 | .hif => 0x4030000
  | .tgt => 0x4040000 | .cdac => 0x4050000 | .mon => 0x4060000 | .evr => 0x4070000
  | .mem => 0x4080000 | .sec => 0x4090000 | .dma => 0x40A0000 | .cnt => 0x40B0000 | .irq => 0x40C0000
  | .diectl d => d * 0x10000000
  | .welt d => d * 0x10000000 + 0x100000
  | .time d => d * 0x10000000 + 0x200000
  | .fec d => d * 0x10000000 + 0x300000
  | .ins d => d * 0x10000000 + 0x400000
  | .line k => dieOfLane k * 0x10000000 + 0x800000 + (k % 4) * 0x20000
  | .host j => dieOfHost j * 0x10000000 + 0x1000000 + (j % 8) * 0x10000
  | .rack r => dieOfRack r * 0x10000000 + 0x2000000 + (r % 32) * 0x40000
  | .bank i => if i / 0x1000 = 0 then 0x40B8000 + i * 0x100 else (i / 0x1000) * 0x10000000 + 0x4000000 + (i % 0x1000) * 0x1000
  | .cntdie d => d * 0x10000000 + 0x40F0000
  | .pool d => d * 0x10000000 + 0x8000000

/-- The offset of an instance of a register in an offset table. -/
def offsetIn : List LRow → Reg → Nat → Option Nat
  | [], _, _ => none
  | r :: rs, g, i =>
    if r.reg = g then
      some (r.off + (if r.s2 = 0 then (i - r.first) * r.s1 else (i / 32) * r.s1 + (i % 32) * r.s2))
    else offsetIn rs g i

/-- The block of an offset table, given the unit number of the register. -/
def unitBlocks (u : Nat) : List (Block × Nat × List LRow) :=
  [(.rack u, 0, layout_rack), (.line u, 0, layout_lane), (.host u, 0, layout_host),
   (.fec (1 + u / 4), 0x1000 + 0x1000 * (u % 4), layout_fecport),
   (.time (1 + u / 4), 0x1000 + 0x1000 * (u % 4), layout_timeport),
   (.ins (1 + u / 4), 0x1000 + 0x1000 * (u % 4), layout_inslane),
   (.time u, 0, layout_timedie), (.welt u, 0, layout_welt), (.bank u, 0, layout_bank),
   (.pwr, 0, layout_pwr), (.thm, 0, layout_thm), (.mbx, 0, layout_mbx), (.hif, 0, layout_hif),
   (.mon, 0, layout_mon), (.sec, 0, layout_sec), (.evr, 0, layout_evr),
   (if u < 8 then (.mem, 0x1000 + 0x40 * u, layout_memreg)
    else (.diectl (u / 8), 0x1000 + 0x40 * (u % 8), layout_memreg))]

/-- The block and address of a counter, for the parameters of CNT_OVERFLOW (R142). -/
def counterHome (k : RKey) : Option (Block × Nat) :=
  (unitBlocks k.u).findSome? fun (b, o, rows) =>
    match offsetIn rows k.reg k.i with
    | some x => some (b, b.base + o + x)
    | none => none

end Sys2Proof.Machine
end

