-- ==== Sys2Proof/Machine/Bits.lean ====
section
/-!
DEFINITION. Sys2Proof/Machine/Bits.lean: bit fields, sign extension and limits, used by every family.
-/

namespace Sys2Proof.Machine

/-- The value of bits [lo + w − 1 : lo] of a word. -/
def getBits (r : W32) (lo w : Nat) : Nat := (r.toNat >>> lo) % 2 ^ w

/-- A word with bit n set exactly where n lies in [lo + w − 1 : lo]. -/
def fieldMask (lo w : Nat) : W32 := BitVec.ofNat 32 ((2 ^ w - 1) <<< lo)

/-- `r` with bits [lo + w − 1 : lo] replaced by the low `w` bits of `v`. -/
def setBits (r : W32) (lo w v : Nat) : W32 :=
  (r &&& ~~~ fieldMask lo w) ||| BitVec.ofNat 32 ((v % 2 ^ w) <<< lo)

/-- Bit `n` of a natural number. -/
def bitOf (v n : Nat) : Bool := v.testBit n

/-- 1 for true, 0 for false. -/
def b2n (b : Bool) : Nat := if b then 1 else 0

/-- The two's complement value of the low `w` bits of `v`. -/
def signed (w v : Nat) : Int :=
  let m := v % 2 ^ w
  if m < 2 ^ (w - 1) then (m : Int) else (m : Int) - (2 ^ w : Nat)

/-- The `w`-bit two's complement code of `x`, which wraps. -/
def unsigned (w : Nat) (x : Int) : Nat := (x % (2 ^ w : Nat)).toNat

/-- `x` limited to [lo, hi]. -/
def clampI (lo hi x : Int) : Int := if x < lo then lo else if hi < x then hi else x

/-- `x` limited to [lo, hi]. -/
def clampN (lo hi x : Nat) : Nat := if x < lo then lo else if hi < x then hi else x

/-- `x` limited to the range of a `w`-bit signed number. -/
def satSigned (w : Nat) (x : Int) : Int :=
  clampI (-(2 ^ (w - 1) : Nat)) ((2 ^ (w - 1) : Nat) - 1) x

/-- The `w`-bit signed code of `x`, saturated. -/
def satCode (w : Nat) (x : Int) : Nat := unsigned w (satSigned w x)

/-- `x` limited to `w` unsigned bits. -/
def satN (w x : Nat) : Nat := if x < 2 ^ w then x else 2 ^ w - 1

/-- Arithmetic shift right by `n` places with rounding half up. -/
def roundShift (x : Int) (n : Nat) : Int :=
  if n = 0 then x else (x + (2 ^ (n - 1) : Nat)) / (2 ^ n : Nat)

/-- Arithmetic shift right by `n` places (towards minus infinity). -/
def floorShift (x : Int) (n : Nat) : Int := x / (2 ^ n : Nat)

/-- Byte `n` of a little-endian value (R4). -/
def byteOf (v n : Nat) : Nat := (v >>> (8 * n)) % 256

/-- The bits [lo + w − 1 : lo] of a number. -/
def bitsOf (v lo w : Nat) : Nat := (v >>> lo) % 2 ^ w

/-- How many of the low `w` bits of `v` are set. -/
def popcount : Nat → Nat → Nat
  | 0, _ => 0
  | w + 1, v => (v % 2) + popcount w (v / 2)

/-- The little-endian number that a list of bytes spells. -/
def leNat : List Nat → Nat
  | [] => 0
  | b :: bs => b % 256 + 256 * leNat bs

/-- The number whose bit n is `f n`, for n below `w`. -/
def bitsWhere (f : Nat → Bool) : Nat → Nat
  | 0 => 0
  | w + 1 => bitsWhere f w + (if f w then 2 ^ w else 0)

end Sys2Proof.Machine
end

