-- ==== Sys2Proof/Machine/Fields.lean ====
section
/-!
DEFINITION. Sys2Proof/Machine/Fields.lean: the fields of the registers, REG.FIELD as the manual writes them, with
the bits the field tables give them. A field whose place depends on a port p, a local lane k, a region r or a zone z
takes that number.
-/

namespace Sys2Proof.Machine

/-- A field of a register: its lowest bit and its width. -/
structure Fld where
  reg : Reg
  lo  : Nat
  w   : Nat
  deriving DecidableEq, Repr

abbrev PWR_DEV_ID.PART : Fld := ⟨.PWR_DEV_ID, 16, 16⟩
abbrev PWR_DEV_ID.STEP : Fld := ⟨.PWR_DEV_ID, 8, 8⟩
abbrev CLK_LOCK.ALL : Fld := ⟨.CLK_LOCK, 0, 9⟩
abbrev CLK_CAUSE.ALL : Fld := ⟨.CLK_CAUSE, 0, 9⟩
abbrev CLK_EN.ALL : Fld := ⟨.CLK_EN, 0, 9⟩
abbrev WELT_CTL.AB_EN : Fld := ⟨.WELT_CTL, 0, 1⟩
abbrev WELT_CTL.RETRAIN_0 : Fld := ⟨.WELT_CTL, 1, 1⟩
abbrev WELT_CTL.RETRAIN_1 : Fld := ⟨.WELT_CTL, 2, 1⟩
abbrev WELT_STAT.STATE : Fld := ⟨.WELT_STAT, 0, 3⟩
abbrev WELT_STAT.REPLAYS_1MS : Fld := ⟨.WELT_STAT, 8, 8⟩
abbrev WELT_AB_ALLOC.TX_SLOTS : Fld := ⟨.WELT_AB_ALLOC, 0, 8⟩
abbrev WELT_AB_ALLOC.RX_SLOTS : Fld := ⟨.WELT_AB_ALLOC, 8, 8⟩
abbrev WELT_ERR_ADDR.ADDR : Fld := ⟨.WELT_ERR_ADDR, 0, 32⟩
abbrev WELT_ERR_INFO.RESP : Fld := ⟨.WELT_ERR_INFO, 0, 3⟩
abbrev WELT_ERR_INFO.SRC : Fld := ⟨.WELT_ERR_INFO, 4, 4⟩
abbrev WELT_ERR_INFO.ISLAND : Fld := ⟨.WELT_ERR_INFO, 8, 16⟩
abbrev WELT_ERR_INFO.VALID : Fld := ⟨.WELT_ERR_INFO, 31, 1⟩
abbrev WELT_CAUSE.REPLAY_BURST_0 : Fld := ⟨.WELT_CAUSE, 0, 1⟩
abbrev WELT_CAUSE.REPLAY_BURST_1 : Fld := ⟨.WELT_CAUSE, 1, 1⟩
abbrev WELT_CAUSE.RETRAIN_0 : Fld := ⟨.WELT_CAUSE, 2, 1⟩
abbrev WELT_CAUSE.RETRAIN_1 : Fld := ⟨.WELT_CAUSE, 3, 1⟩
abbrev WELT_CAUSE.FAILED_1 : Fld := ⟨.WELT_CAUSE, 4, 1⟩
abbrev WELT_CAUSE.TIMEOUT : Fld := ⟨.WELT_CAUSE, 5, 1⟩
abbrev WELT_CAUSE.SAT : Fld := ⟨.WELT_CAUSE, 6, 1⟩
abbrev MGMT_IRQ_TOP.SUB : Fld := ⟨.MGMT_IRQ_TOP, 1, 21⟩
abbrev MGMT_IRQ_TOP_EN.SUB : Fld := ⟨.MGMT_IRQ_TOP_EN, 1, 21⟩
abbrev MGMT_IRQ_CBL_EN.SUB : Fld := ⟨.MGMT_IRQ_CBL_EN, 1, 21⟩
abbrev MGMT_IRQ_LOCAL.SUB : Fld := ⟨.MGMT_IRQ_LOCAL, 1, 21⟩
abbrev MGMT_IRQ_CORE_A.SUB : Fld := ⟨.MGMT_IRQ_CORE_A, 1, 21⟩
abbrev MGMT_IRQ_CORE_B.SUB : Fld := ⟨.MGMT_IRQ_CORE_B, 1, 21⟩
abbrev MGMT_IRQ_INTN.INTN : Fld := ⟨.MGMT_IRQ_INTN, 0, 1⟩
abbrev LRX_CFG.INNER : Fld := ⟨.LRX_CFG, 0, 1⟩
abbrev LRX_CFG.SD_REQ : Fld := ⟨.LRX_CFG, 1, 1⟩
abbrev LRX_CFG.VNLE_REQ : Fld := ⟨.LRX_CFG, 2, 1⟩
abbrev LRX_CFG.SD_EFF : Fld := ⟨.LRX_CFG, 3, 1⟩
abbrev LRX_CFG.VNLE_EFF : Fld := ⟨.LRX_CFG, 4, 1⟩
abbrev LRX_CFG.DUTY_EFF : Fld := ⟨.LRX_CFG, 5, 2⟩
abbrev LRX_CFG.PROG_SET : Fld := ⟨.LRX_CFG, 8, 8⟩
abbrev LRX_STAT.SIG_PRESENT : Fld := ⟨.LRX_STAT, 0, 1⟩
abbrev LRX_STAT.CDR_LOCK : Fld := ⟨.LRX_STAT, 1, 1⟩
abbrev LRX_STAT.AM_LOCK : Fld := ⟨.LRX_STAT, 2, 1⟩
abbrev LRX_STAT.DOZE : Fld := ⟨.LRX_STAT, 3, 1⟩
abbrev LRX_STAT.THROTTLED : Fld := ⟨.LRX_STAT, 4, 1⟩
abbrev LRX_STAT.CAL_BUSY : Fld := ⟨.LRX_STAT, 5, 1⟩
abbrev LRX_STAT.WAKE_SEEN : Fld := ⟨.LRX_STAT, 6, 1⟩
abbrev LRX_STAT.COEF_LOCK : Fld := ⟨.LRX_STAT, 16, 1⟩
abbrev LRX_STAT.TRIM_LOCK : Fld := ⟨.LRX_STAT, 17, 1⟩
abbrev LRX_CAUSE.SIG_LOST : Fld := ⟨.LRX_CAUSE, 0, 1⟩
abbrev LRX_CAUSE.SIG_FOUND : Fld := ⟨.LRX_CAUSE, 1, 1⟩
abbrev LRX_CAUSE.CDR_UNLOCK : Fld := ⟨.LRX_CAUSE, 2, 1⟩
abbrev LRX_CAUSE.CDR_LOCK : Fld := ⟨.LRX_CAUSE, 3, 1⟩
abbrev LRX_CAUSE.FOFS_RANGE : Fld := ⟨.LRX_CAUSE, 4, 1⟩
abbrev LRX_CAUSE.THROTTLE : Fld := ⟨.LRX_CAUSE, 5, 1⟩
abbrev LRX_CAUSE.HIST_DONE : Fld := ⟨.LRX_CAUSE, 6, 1⟩
abbrev LRX_CAUSE.SAT : Fld := ⟨.LRX_CAUSE, 7, 1⟩
abbrev LRX_CAUSE.LOCK : Fld := ⟨.LRX_CAUSE, 8, 1⟩
abbrev LRX_AFE_CTL.CTLE_PEAK : Fld := ⟨.LRX_AFE_CTL, 0, 5⟩
abbrev LRX_AFE_CTL.VGA : Fld := ⟨.LRX_AFE_CTL, 8, 6⟩
abbrev LRX_SIGDET_CTL.ASSERT : Fld := ⟨.LRX_SIGDET_CTL, 0, 6⟩
abbrev LRX_SIGDET_CTL.DEASSERT : Fld := ⟨.LRX_SIGDET_CTL, 8, 6⟩
abbrev LRX_SIGDET_CTL.WAKE_EN : Fld := ⟨.LRX_SIGDET_CTL, 16, 1⟩
abbrev LRX_CDR_CTL.KP : Fld := ⟨.LRX_CDR_CTL, 0, 4⟩
abbrev LRX_CDR_CTL.KI : Fld := ⟨.LRX_CDR_CTL, 8, 5⟩
abbrev LRX_CDR_CTL.FREEZE : Fld := ⟨.LRX_CDR_CTL, 16, 1⟩
abbrev LRX_CDR_FOFS.FOFS : Fld := ⟨.LRX_CDR_FOFS, 0, 16⟩
abbrev LRX_CDR_FOFS.PHASE : Fld := ⟨.LRX_CDR_FOFS, 16, 8⟩
abbrev LRX_DET_CTL.MAIN : Fld := ⟨.LRX_DET_CTL, 0, 6⟩
abbrev LRX_DET_CTL.H1 : Fld := ⟨.LRX_DET_CTL, 16, 10⟩
abbrev LRX_THR.THR : Fld := ⟨.LRX_THR, 0, 10⟩
abbrev LRX_FFE_COEF.COEF : Fld := ⟨.LRX_FFE_COEF, 0, 12⟩
abbrev LRX_VNLE_KERN.KERN : Fld := ⟨.LRX_VNLE_KERN, 0, 12⟩
abbrev LRX_SIG_PWR.MSQ : Fld := ⟨.LRX_SIG_PWR, 0, 16⟩
abbrev LRX_SNR.SNR : Fld := ⟨.LRX_SNR, 0, 16⟩
abbrev LRX_LEVEL.MEAN : Fld := ⟨.LRX_LEVEL, 0, 16⟩
abbrev LRX_LEVEL.SIGMA : Fld := ⟨.LRX_LEVEL, 16, 16⟩
abbrev LRX_HIST_CTL.START : Fld := ⟨.LRX_HIST_CTL, 0, 1⟩
abbrev LRX_HIST_CTL.SRC : Fld := ⟨.LRX_HIST_CTL, 1, 1⟩
abbrev LRX_HIST_CTL.LEN : Fld := ⟨.LRX_HIST_CTL, 8, 5⟩
abbrev LRX_HIST_STAT.BUSY : Fld := ⟨.LRX_HIST_STAT, 0, 1⟩
abbrev LRX_HIST_STAT.DONE : Fld := ⟨.LRX_HIST_STAT, 1, 1⟩
abbrev LRX_CAL_STAT.PHASE : Fld := ⟨.LRX_CAL_STAT, 0, 3⟩
abbrev LRX_CAL_STAT.ROUND : Fld := ⟨.LRX_CAL_STAT, 4, 4⟩
abbrev LRX_CAL_STAT.MASK : Fld := ⟨.LRX_CAL_STAT, 8, 3⟩
abbrev LRX_CAL_STAT.CODE : Fld := ⟨.LRX_CAL_STAT, 16, 16⟩
abbrev LRX_CAL_RESULT0.ROUNDS_DONE : Fld := ⟨.LRX_CAL_RESULT0, 0, 8⟩
abbrev LRX_CAL_RESULT0.CONVERGED : Fld := ⟨.LRX_CAL_RESULT0, 8, 1⟩
abbrev LRX_CAL_RESULT0.CLAMPED : Fld := ⟨.LRX_CAL_RESULT0, 9, 1⟩
abbrev LRX_CAL_RESULT0.STEPS : Fld := ⟨.LRX_CAL_RESULT0, 16, 16⟩
abbrev LRX_CAL_RESULT1.SKEW_SPREAD : Fld := ⟨.LRX_CAL_RESULT1, 0, 16⟩
abbrev LRX_CAL_RESULT1.OFFSET_SPREAD : Fld := ⟨.LRX_CAL_RESULT1, 16, 16⟩
abbrev LRX_CAL_RESULT1.CHECK : Fld := ⟨.LRX_CAL_RESULT1, 0, 8⟩
abbrev LRX_CAL_RESULT1.AT_PHASE : Fld := ⟨.LRX_CAL_RESULT1, 8, 4⟩
abbrev LRX_CAL_RESULT1.AT_ROUND : Fld := ⟨.LRX_CAL_RESULT1, 12, 4⟩
abbrev LRX_ADC_TRIM.SKEW : Fld := ⟨.LRX_ADC_TRIM, 0, 8⟩
abbrev LRX_ADC_TRIM.GAIN : Fld := ⟨.LRX_ADC_TRIM, 8, 8⟩
abbrev LRX_ADC_TRIM.OFFSET : Fld := ⟨.LRX_ADC_TRIM, 16, 6⟩
abbrev LRX_ADC_TTRIM.SKEW : Fld := ⟨.LRX_ADC_TTRIM, 0, 8⟩
abbrev LRX_ADC_TTRIM.GAIN : Fld := ⟨.LRX_ADC_TTRIM, 8, 8⟩
abbrev LRX_ADC_TTRIM.OFFSET : Fld := ⟨.LRX_ADC_TTRIM, 16, 6⟩
abbrev LTX_CFG.INNER : Fld := ⟨.LTX_CFG, 0, 1⟩
abbrev LTX_CFG.PATTERN : Fld := ⟨.LTX_CFG, 8, 3⟩
abbrev LTX_CFG.CHECK : Fld := ⟨.LTX_CFG, 12, 3⟩
abbrev LTX_CFG.LOOPBACK : Fld := ⟨.LTX_CFG, 16, 3⟩
abbrev LTX_STAT.ACTIVE : Fld := ⟨.LTX_STAT, 0, 1⟩
abbrev LTX_STAT.RAMP : Fld := ⟨.LTX_STAT, 1, 1⟩
abbrev LTX_STAT.DOZE : Fld := ⟨.LTX_STAT, 2, 1⟩
abbrev LTX_STAT.CAL_BUSY : Fld := ⟨.LTX_STAT, 3, 1⟩
abbrev LTX_STAT.CHK_LOCK : Fld := ⟨.LTX_STAT, 4, 1⟩
abbrev LTX_STAT.TRIM_LOCK : Fld := ⟨.LTX_STAT, 16, 1⟩
abbrev LTX_STAT.TEST_LOCK : Fld := ⟨.LTX_STAT, 17, 1⟩
abbrev LTX_CAUSE.SQUELCH : Fld := ⟨.LTX_CAUSE, 0, 1⟩
abbrev LTX_CAUSE.RELEASE : Fld := ⟨.LTX_CAUSE, 1, 1⟩
abbrev LTX_CAUSE.RAMP_DONE : Fld := ⟨.LTX_CAUSE, 2, 1⟩
abbrev LTX_CAUSE.CLIP : Fld := ⟨.LTX_CAUSE, 3, 1⟩
abbrev LTX_CAUSE.CHK_LOST : Fld := ⟨.LTX_CAUSE, 4, 1⟩
abbrev LTX_CAUSE.SAT : Fld := ⟨.LTX_CAUSE, 5, 1⟩
abbrev LTX_CAUSE.LOCK : Fld := ⟨.LTX_CAUSE, 6, 1⟩
abbrev LTX_CAUSE.LB_SLIP : Fld := ⟨.LTX_CAUSE, 7, 1⟩
abbrev LTX_CTL.COMMIT : Fld := ⟨.LTX_CTL, 0, 1⟩
abbrev LTX_SQ_STAT.REASON : Fld := ⟨.LTX_SQ_STAT, 0, 6⟩
abbrev LTX_TEST_CTL.PRECODE_BYP : Fld := ⟨.LTX_TEST_CTL, 0, 1⟩
abbrev LTX_FIR_COEF.COEF : Fld := ⟨.LTX_FIR_COEF, 0, 12⟩
abbrev LTX_FIR_ACT.COEF : Fld := ⟨.LTX_FIR_ACT, 0, 12⟩
abbrev LTX_LUT.LEVEL : Fld := ⟨.LTX_LUT, 0, 12⟩
abbrev LTX_LUT_ACT.LEVEL : Fld := ⟨.LTX_LUT_ACT, 0, 12⟩
abbrev LTX_CAL_STAT.PHASE : Fld := ⟨.LTX_CAL_STAT, 0, 3⟩
abbrev LTX_CAL_STAT.ROUND : Fld := ⟨.LTX_CAL_STAT, 4, 4⟩
abbrev LTX_CAL_STAT.MASK : Fld := ⟨.LTX_CAL_STAT, 8, 3⟩
abbrev LTX_CAL_STAT.CODE : Fld := ⟨.LTX_CAL_STAT, 16, 16⟩
abbrev LTX_CAL_RESULT0.ROUNDS_DONE : Fld := ⟨.LTX_CAL_RESULT0, 0, 8⟩
abbrev LTX_CAL_RESULT0.CONVERGED : Fld := ⟨.LTX_CAL_RESULT0, 8, 1⟩
abbrev LTX_CAL_RESULT0.CLAMPED : Fld := ⟨.LTX_CAL_RESULT0, 9, 1⟩
abbrev LTX_CAL_RESULT0.STEPS : Fld := ⟨.LTX_CAL_RESULT0, 16, 16⟩
abbrev LTX_CAL_RESULT1.SKEW_SPREAD : Fld := ⟨.LTX_CAL_RESULT1, 0, 16⟩
abbrev LTX_CAL_RESULT1.CHECK : Fld := ⟨.LTX_CAL_RESULT1, 0, 8⟩
abbrev LTX_CAL_RESULT1.AT_PHASE : Fld := ⟨.LTX_CAL_RESULT1, 8, 4⟩
abbrev LTX_CAL_RESULT1.AT_ROUND : Fld := ⟨.LTX_CAL_RESULT1, 12, 4⟩
abbrev LTX_DAC_TRIM.SKEW : Fld := ⟨.LTX_DAC_TRIM, 0, 8⟩
abbrev LTX_DAC_TTRIM.SKEW : Fld := ⟨.LTX_DAC_TTRIM, 0, 8⟩
abbrev RACK_CTL.HALT : Fld := ⟨.RACK_CTL, 0, 8⟩
abbrev RACK_CTL.UCNT : Fld := ⟨.RACK_CTL, 16, 1⟩
abbrev RACK_CTL.TAG_EN : Fld := ⟨.RACK_CTL, 20, 1⟩
abbrev RACK_STAT.RUNNING : Fld := ⟨.RACK_STAT, 0, 8⟩
abbrev RACK_STAT.HALTED : Fld := ⟨.RACK_STAT, 8, 8⟩
abbrev RACK_STAT.TRAPPED : Fld := ⟨.RACK_STAT, 16, 8⟩
abbrev RACK_STAT.DUTY_EFF : Fld := ⟨.RACK_STAT, 24, 2⟩
abbrev RACK_STAT.MEM_LOCK : Fld := ⟨.RACK_STAT, 28, 1⟩
abbrev RACK_CAUSE.TRAP : Fld := ⟨.RACK_CAUSE, 0, 1⟩
abbrev RACK_CAUSE.DTRAP : Fld := ⟨.RACK_CAUSE, 1, 1⟩
abbrev RACK_CAUSE.TW_OVR : Fld := ⟨.RACK_CAUSE, 2, 1⟩
abbrev RACK_CAUSE.TAG_FULL : Fld := ⟨.RACK_CAUSE, 3, 1⟩
abbrev RACK_CAUSE.LOCK : Fld := ⟨.RACK_CAUSE, 4, 1⟩
abbrev RACK_CAUSE.SAT : Fld := ⟨.RACK_CAUSE, 5, 1⟩
abbrev RACK_PROG_ID.PROG_SET : Fld := ⟨.RACK_PROG_ID, 0, 8⟩
abbrev RACK_PROG_ID.INDEX : Fld := ⟨.RACK_PROG_ID, 8, 3⟩
abbrev RACK_PROG_ID.VERSION : Fld := ⟨.RACK_PROG_ID, 16, 16⟩
abbrev RACK_TAG_CTL.INTERVAL : Fld := ⟨.RACK_TAG_CTL, 0, 5⟩
abbrev RACK_TAG_CTL.LAST : Fld := ⟨.RACK_TAG_CTL, 5, 3⟩
abbrev RACK_TAG_CTL.ANY : Fld := ⟨.RACK_TAG_CTL, 8, 1⟩
abbrev RACK_TAG_CTL.USER_ONLY : Fld := ⟨.RACK_TAG_CTL, 9, 1⟩
abbrev RACK_TAG_STAT.COUNT : Fld := ⟨.RACK_TAG_STAT, 0, 5⟩
abbrev RACK_TAG_STAT.LOST : Fld := ⟨.RACK_TAG_STAT, 16, 16⟩
abbrev RACK_REPORT.VALUE : Fld := ⟨.RACK_REPORT, 0, 32⟩
abbrev RACK_LAST_PC.PC : Fld := ⟨.RACK_LAST_PC, 0, 14⟩
abbrev RACK_LAST_PC.USER : Fld := ⟨.RACK_LAST_PC, 16, 1⟩
abbrev RACK_LAST_PC.YIELDING : Fld := ⟨.RACK_LAST_PC, 17, 1⟩
abbrev RACK_LAST_PC.HALTED : Fld := ⟨.RACK_LAST_PC, 18, 1⟩
abbrev RACK_LAST_TRAP.INFO : Fld := ⟨.RACK_LAST_TRAP, 0, 32⟩
abbrev CNT_BANK_CTL.EN : Fld := ⟨.CNT_BANK_CTL, 0, 8⟩
abbrev CNT_BANK_CLR.CLR : Fld := ⟨.CNT_BANK_CLR, 0, 8⟩
abbrev CNT_BANK_OVF.OVF : Fld := ⟨.CNT_BANK_OVF, 0, 8⟩
abbrev CNT_ADDR_LO.ADDR : Fld := ⟨.CNT_ADDR_LO, 0, 32⟩
abbrev CNT_ADDR_HI.ADDR : Fld := ⟨.CNT_ADDR_HI, 0, 32⟩
abbrev CNT_SEL.EVENT : Fld := ⟨.CNT_SEL, 0, 8⟩
abbrev CNT_SEL.MASTER : Fld := ⟨.CNT_SEL, 8, 8⟩
abbrev CNT_SEL.CLASS : Fld := ⟨.CNT_SEL, 16, 3⟩
abbrev CNT_SEL.ADDR_FILT : Fld := ⟨.CNT_SEL, 20, 1⟩
abbrev CNT_SEL.PRIV : Fld := ⟨.CNT_SEL, 21, 2⟩
abbrev CNT_SEL.LAST : Fld := ⟨.CNT_SEL, 24, 3⟩
abbrev CNT_SEL.ALL_LASTS : Fld := ⟨.CNT_SEL, 27, 1⟩
abbrev CNT_RD_CTL.LIST : Fld := ⟨.CNT_RD_CTL, 0, 2⟩
abbrev CNT_RD_CTL.COUNT : Fld := ⟨.CNT_RD_CTL, 8, 7⟩
abbrev CNT_RD_CTL.START : Fld := ⟨.CNT_RD_CTL, 16, 1⟩
abbrev CNT_RD_STAT.BUSY : Fld := ⟨.CNT_RD_STAT, 0, 1⟩
abbrev CNT_RD_STAT.DONE : Fld := ⟨.CNT_RD_STAT, 1, 1⟩
abbrev CNT_RD_STAT.SKEW_EXCEEDED : Fld := ⟨.CNT_RD_STAT, 2, 1⟩
abbrev CNT_RD_STAT.ENTRIES : Fld := ⟨.CNT_RD_STAT, 8, 7⟩
abbrev CNT_CAUSE.RD_DONE : Fld := ⟨.CNT_CAUSE, 0, 1⟩
abbrev CNT_CAUSE.SKEW : Fld := ⟨.CNT_CAUSE, 1, 1⟩
abbrev CNT_CAUSE.OVF : Fld := ⟨.CNT_CAUSE, 2, 1⟩
abbrev CNT_LIST.ADDR : Fld := ⟨.CNT_LIST, 0, 32⟩
abbrev FEC_CAUSE.AM_LOST (p : Nat) : Fld := ⟨.FEC_CAUSE, 8 * p + 0, 1⟩
abbrev FEC_CAUSE.ALIGNED (p : Nat) : Fld := ⟨.FEC_CAUSE, 8 * p + 1, 1⟩
abbrev FEC_CAUSE.SKEW_OVER (p : Nat) : Fld := ⟨.FEC_CAUSE, 8 * p + 2, 1⟩
abbrev FEC_CAUSE.UNCORR (p : Nat) : Fld := ⟨.FEC_CAUSE, 8 * p + 3, 1⟩
abbrev FEC_CAUSE.SLIP (p : Nat) : Fld := ⟨.FEC_CAUSE, 8 * p + 4, 1⟩
abbrev FEC_CAUSE.WAKE_DROP (p : Nat) : Fld := ⟨.FEC_CAUSE, 8 * p + 5, 1⟩
abbrev FEC_CAUSE.SAT (p : Nat) : Fld := ⟨.FEC_CAUSE, 8 * p + 6, 1⟩
abbrev FEC_CAUSE.INJ_DONE (p : Nat) : Fld := ⟨.FEC_CAUSE, 8 * p + 7, 1⟩
abbrev FEC_POOL_STAT.ALLOCATED : Fld := ⟨.FEC_POOL_STAT, 0, 9⟩
abbrev FEC_POOL_STAT.FREE : Fld := ⟨.FEC_POOL_STAT, 16, 9⟩
abbrev FEC_POOL_FENCED.FENCED : Fld := ⟨.FEC_POOL_FENCED, 0, 9⟩
abbrev FEC_POOL_MAP.ALLOC : Fld := ⟨.FEC_POOL_MAP, 0, 1⟩
abbrev FEC_POOL_MAP.PORT : Fld := ⟨.FEC_POOL_MAP, 1, 3⟩
abbrev FEC_POOL_MAP.USE : Fld := ⟨.FEC_POOL_MAP, 4, 3⟩
abbrev FEC_POOL_MAP.FENCED : Fld := ⟨.FEC_POOL_MAP, 7, 1⟩
abbrev FEC_POOL_MAP.LANE : Fld := ⟨.FEC_POOL_MAP, 8, 3⟩
abbrev FEC_POOL_MAP.INDEX : Fld := ⟨.FEC_POOL_MAP, 16, 8⟩
abbrev FEC_PORT_CFG.INNER : Fld := ⟨.FEC_PORT_CFG, 0, 1⟩
abbrev FEC_PORT_CFG.TERM : Fld := ⟨.FEC_PORT_CFG, 1, 1⟩
abbrev FEC_PORT_CFG.FRAME_VIEW : Fld := ⟨.FEC_PORT_CFG, 2, 1⟩
abbrev FEC_PORT_CFG.CROSSING : Fld := ⟨.FEC_PORT_CFG, 3, 1⟩
abbrev FEC_PORT_CFG.SIZE : Fld := ⟨.FEC_PORT_CFG, 4, 3⟩
abbrev FEC_PORT_CFG.DESKEW : Fld := ⟨.FEC_PORT_CFG, 8, 8⟩
abbrev FEC_PORT_STAT.INNER_LOCK : Fld := ⟨.FEC_PORT_STAT, 0, 4⟩
abbrev FEC_PORT_STAT.AM_LOCK_L : Fld := ⟨.FEC_PORT_STAT, 4, 4⟩
abbrev FEC_PORT_STAT.AM_LOCK_H : Fld := ⟨.FEC_PORT_STAT, 8, 8⟩
abbrev FEC_PORT_STAT.DESKEWED_LH : Fld := ⟨.FEC_PORT_STAT, 16, 1⟩
abbrev FEC_PORT_STAT.DESKEWED_HL : Fld := ⟨.FEC_PORT_STAT, 17, 1⟩
abbrev FEC_PORT_STAT.SKEW_OVER : Fld := ⟨.FEC_PORT_STAT, 18, 1⟩
abbrev FEC_PORT_STAT.SKEW_OVER_HL : Fld := ⟨.FEC_PORT_STAT, 19, 1⟩
abbrev FEC_PORT_STAT.INJ_LOCK : Fld := ⟨.FEC_PORT_STAT, 24, 1⟩
abbrev FEC_STAT_CTL.LATCH : Fld := ⟨.FEC_STAT_CTL, 0, 1⟩
abbrev FEC_STAT_CTL.CLEAR : Fld := ⟨.FEC_STAT_CTL, 1, 1⟩
abbrev FEC_INJ_CTL.SYMBOLS : Fld := ⟨.FEC_INJ_CTL, 0, 5⟩
abbrev FEC_INJ_CTL.DIR : Fld := ⟨.FEC_INJ_CTL, 8, 1⟩
abbrev FEC_INJ_CTL.PERIOD : Fld := ⟨.FEC_INJ_CTL, 16, 4⟩
abbrev FEC_INJ_CTL.EN : Fld := ⟨.FEC_INJ_CTL, 24, 1⟩
abbrev FEC_INJ_CTL.ONCE : Fld := ⟨.FEC_INJ_CTL, 25, 1⟩
abbrev FEC_SKEW.SKEW : Fld := ⟨.FEC_SKEW, 0, 16⟩
abbrev FEC_SKEW.BUDGET : Fld := ⟨.FEC_SKEW, 16, 16⟩
abbrev FEC_HOLD_LH.HOLD : Fld := ⟨.FEC_HOLD_LH, 0, 20⟩
abbrev FEC_HOLD_HL.HOLD : Fld := ⟨.FEC_HOLD_HL, 0, 20⟩
abbrev HL_CFG.PATTERN : Fld := ⟨.HL_CFG, 0, 3⟩
abbrev HL_CFG.CHECK : Fld := ⟨.HL_CFG, 4, 3⟩
abbrev HL_CFG.LOOPBACK : Fld := ⟨.HL_CFG, 8, 3⟩
abbrev HL_CFG.DOZE_OK : Fld := ⟨.HL_CFG, 16, 1⟩
abbrev HL_STAT.SIG_PRESENT : Fld := ⟨.HL_STAT, 0, 1⟩
abbrev HL_STAT.CDR_LOCK : Fld := ⟨.HL_STAT, 1, 1⟩
abbrev HL_STAT.ADAPT_DONE : Fld := ⟨.HL_STAT, 2, 1⟩
abbrev HL_STAT.RX_DOZE : Fld := ⟨.HL_STAT, 3, 1⟩
abbrev HL_STAT.TX_DOZE : Fld := ⟨.HL_STAT, 4, 1⟩
abbrev HL_STAT.TX_IDLE : Fld := ⟨.HL_STAT, 5, 1⟩
abbrev HL_STAT.CHK_LOCK : Fld := ⟨.HL_STAT, 6, 1⟩
abbrev HL_STAT.WAKE_SEEN : Fld := ⟨.HL_STAT, 7, 1⟩
abbrev HL_STAT.SLIP_LOCK : Fld := ⟨.HL_STAT, 16, 1⟩
abbrev HL_STAT.EQ_CLAMP : Fld := ⟨.HL_STAT, 17, 1⟩
abbrev HL_CAUSE.SIG_LOST : Fld := ⟨.HL_CAUSE, 0, 1⟩
abbrev HL_CAUSE.SIG_FOUND : Fld := ⟨.HL_CAUSE, 1, 1⟩
abbrev HL_CAUSE.CDR_UNLOCK : Fld := ⟨.HL_CAUSE, 2, 1⟩
abbrev HL_CAUSE.CDR_LOCK : Fld := ⟨.HL_CAUSE, 3, 1⟩
abbrev HL_CAUSE.CHK_LOST : Fld := ⟨.HL_CAUSE, 4, 1⟩
abbrev HL_CAUSE.LB_SLIP : Fld := ⟨.HL_CAUSE, 5, 1⟩
abbrev HL_CAUSE.SAT : Fld := ⟨.HL_CAUSE, 6, 1⟩
abbrev HL_CAUSE.LOCK : Fld := ⟨.HL_CAUSE, 7, 1⟩
abbrev HL_CAUSE.WAKE_FAIL : Fld := ⟨.HL_CAUSE, 8, 1⟩
abbrev HL_CAUSE.CAP_DONE : Fld := ⟨.HL_CAUSE, 9, 1⟩
abbrev HL_CAUSE.DOZE : Fld := ⟨.HL_CAUSE, 10, 1⟩
abbrev HL_SIGDET_CTL.ASSERT : Fld := ⟨.HL_SIGDET_CTL, 0, 6⟩
abbrev HL_SIGDET_CTL.DEASSERT : Fld := ⟨.HL_SIGDET_CTL, 8, 6⟩
abbrev HL_SIGDET_CTL.WAKE_EN : Fld := ⟨.HL_SIGDET_CTL, 16, 1⟩
abbrev HL_IDLE_STAT.REASON : Fld := ⟨.HL_IDLE_STAT, 0, 4⟩
abbrev HL_RX_EQ_CTL.ADAPT : Fld := ⟨.HL_RX_EQ_CTL, 0, 1⟩
abbrev HL_RX_EQ_CTL.FREEZE : Fld := ⟨.HL_RX_EQ_CTL, 1, 1⟩
abbrev HL_RX_EQ_CTL.CTLE_FIX : Fld := ⟨.HL_RX_EQ_CTL, 8, 5⟩
abbrev HL_RX_EQ_STAT.CTLE : Fld := ⟨.HL_RX_EQ_STAT, 0, 5⟩
abbrev HL_RX_EQ_STAT.H1 : Fld := ⟨.HL_RX_EQ_STAT, 16, 10⟩
abbrev HL_TX_EQ.PRE2 : Fld := ⟨.HL_TX_EQ, 0, 6⟩
abbrev HL_TX_EQ.PRE1 : Fld := ⟨.HL_TX_EQ, 8, 6⟩
abbrev HL_TX_EQ.POST1 : Fld := ⟨.HL_TX_EQ, 16, 6⟩
abbrev HL_TX_EQ.AMP : Fld := ⟨.HL_TX_EQ, 24, 2⟩
abbrev HL_TX_EQ_EFF.PRE2 : Fld := ⟨.HL_TX_EQ_EFF, 0, 6⟩
abbrev HL_TX_EQ_EFF.PRE1 : Fld := ⟨.HL_TX_EQ_EFF, 8, 6⟩
abbrev HL_TX_EQ_EFF.POST1 : Fld := ⟨.HL_TX_EQ_EFF, 16, 6⟩
abbrev HL_TX_EQ_EFF.AMP : Fld := ⟨.HL_TX_EQ_EFF, 24, 2⟩
abbrev HL_CDR_FOFS.FOFS : Fld := ⟨.HL_CDR_FOFS, 0, 16⟩
abbrev HL_CDR_FOFS.PHASE : Fld := ⟨.HL_CDR_FOFS, 16, 8⟩
abbrev HL_SLIP.RX_N : Fld := ⟨.HL_SLIP, 0, 8⟩
abbrev HL_SLIP.TX_N : Fld := ⟨.HL_SLIP, 8, 8⟩
abbrev HL_SLIP_POS.RX_POS : Fld := ⟨.HL_SLIP_POS, 0, 8⟩
abbrev HL_SLIP_POS.TX_POS : Fld := ⟨.HL_SLIP_POS, 8, 8⟩
abbrev HL_RAW_PAT.PAT : Fld := ⟨.HL_RAW_PAT, 0, 32⟩
abbrev HL_CAP_CTL.START : Fld := ⟨.HL_CAP_CTL, 0, 1⟩
abbrev HL_CAP_STAT.BUSY : Fld := ⟨.HL_CAP_STAT, 0, 1⟩
abbrev HL_CAP_STAT.DONE : Fld := ⟨.HL_CAP_STAT, 1, 1⟩
abbrev HL_RX_FFE.COEF : Fld := ⟨.HL_RX_FFE, 0, 12⟩
abbrev INS_CAUSE.LINK_UP (k : Nat) : Fld := ⟨.INS_CAUSE, 8 * k + 0, 1⟩
abbrev INS_CAUSE.LINK_DOWN (k : Nat) : Fld := ⟨.INS_CAUSE, 8 * k + 1, 1⟩
abbrev INS_CAUSE.MSG_RX (k : Nat) : Fld := ⟨.INS_CAUSE, 8 * k + 2, 1⟩
abbrev INS_CAUSE.MSG_DONE (k : Nat) : Fld := ⟨.INS_CAUSE, 8 * k + 3, 1⟩
abbrev INS_CAUSE.CAPTURED (k : Nat) : Fld := ⟨.INS_CAUSE, 8 * k + 4, 1⟩
abbrev INS_CAUSE.FOFS (k : Nat) : Fld := ⟨.INS_CAUSE, 8 * k + 5, 1⟩
abbrev INS_CAUSE.PAUSE (k : Nat) : Fld := ⟨.INS_CAUSE, 8 * k + 6, 1⟩
abbrev INS_CAUSE.SAT (k : Nat) : Fld := ⟨.INS_CAUSE, 8 * k + 7, 1⟩
abbrev INS_CFG.INS_EN : Fld := ⟨.INS_CFG, 0, 1⟩
abbrev INS_CFG.MSG_EN : Fld := ⟨.INS_CFG, 1, 1⟩
abbrev INS_CFG.TTT_EN : Fld := ⟨.INS_CFG, 2, 1⟩
abbrev INS_CFG.RANGING : Fld := ⟨.INS_CFG, 3, 1⟩
abbrev INS_CFG.TIMING_TX : Fld := ⟨.INS_CFG, 4, 1⟩
abbrev INS_CFG.SEQ_ID : Fld := ⟨.INS_CFG, 8, 3⟩
abbrev INS_STAT.LINK : Fld := ⟨.INS_STAT, 0, 3⟩
abbrev INS_STAT.TX_ON : Fld := ⟨.INS_STAT, 3, 1⟩
abbrev INS_STAT.TX_PAUSED : Fld := ⟨.INS_STAT, 4, 1⟩
abbrev INS_STAT.RAMP : Fld := ⟨.INS_STAT, 5, 1⟩
abbrev INS_STAT.INVERTED : Fld := ⟨.INS_STAT, 6, 1⟩
abbrev INS_STAT.IN_FRAME : Fld := ⟨.INS_STAT, 7, 1⟩
abbrev INS_STAT.FAR_RX_OK : Fld := ⟨.INS_STAT, 8, 1⟩
abbrev INS_STAT.FAR_MSG : Fld := ⟨.INS_STAT, 9, 1⟩
abbrev INS_STAT.FAR_TTT : Fld := ⟨.INS_STAT, 10, 1⟩
abbrev INS_STAT.FAR_RANGING : Fld := ⟨.INS_STAT, 11, 1⟩
abbrev INS_STAT.FAR_LANE : Fld := ⟨.INS_STAT, 12, 3⟩
abbrev INS_STAT.HOLD : Fld := ⟨.INS_STAT, 15, 1⟩
abbrev INS_TX_CFG.DEPTH : Fld := ⟨.INS_TX_CFG, 0, 7⟩
abbrev INS_TX_AMP.AMP : Fld := ⟨.INS_TX_AMP, 0, 11⟩
abbrev INS_RX_CFG.SYNC_ERR_TOL : Fld := ⟨.INS_RX_CFG, 0, 3⟩
abbrev INS_RX_CFG.CAPTURE_MARGIN : Fld := ⟨.INS_RX_CFG, 8, 8⟩
abbrev INS_RX_CFG.DETECT_THR : Fld := ⟨.INS_RX_CFG, 16, 8⟩
abbrev INS_FOFS.FOFS : Fld := ⟨.INS_FOFS, 0, 16⟩
abbrev INS_METRIC.TRACK : Fld := ⟨.INS_METRIC, 0, 16⟩
abbrev INS_METRIC.FRAME : Fld := ⟨.INS_METRIC, 16, 16⟩
abbrev INS_CODE_PHASE.PHASE : Fld := ⟨.INS_CODE_PHASE, 0, 9⟩
abbrev INS_MSG_STAT.TX_BUSY : Fld := ⟨.INS_MSG_STAT, 0, 8⟩
abbrev INS_MSG_STAT.RX_FULL : Fld := ⟨.INS_MSG_STAT, 8, 8⟩
abbrev INS_MSG_STAT.FAR_CREDIT : Fld := ⟨.INS_MSG_STAT, 16, 3⟩
abbrev INS_MSG_STAT.NEXT_SEQ : Fld := ⟨.INS_MSG_STAT, 24, 8⟩
abbrev INS_RX_TS_Q.SIGMA : Fld := ⟨.INS_RX_TS_Q, 0, 16⟩
abbrev INS_RX_TS_Q.TSEQ : Fld := ⟨.INS_RX_TS_Q, 16, 16⟩
abbrev TIME_STAT.STATE : Fld := ⟨.TIME_STAT, 0, 3⟩
abbrev TIME_STAT.PRIMARY : Fld := ⟨.TIME_STAT, 3, 1⟩
abbrev TIME_STAT.ALIGN : Fld := ⟨.TIME_STAT, 4, 2⟩
abbrev TIME_STAT.TOD_VALID : Fld := ⟨.TIME_STAT, 6, 1⟩
abbrev TIME_STAT.HOLDOVER : Fld := ⟨.TIME_STAT, 7, 1⟩
abbrev TIME_STAT.THROTTLED : Fld := ⟨.TIME_STAT, 8, 1⟩
abbrev TIME_STAT.TPLL_OK : Fld := ⟨.TIME_STAT, 9, 1⟩
abbrev TIME_STAT.SOURCE : Fld := ⟨.TIME_STAT, 12, 3⟩
abbrev TIME_STAT.SRC_LANE : Fld := ⟨.TIME_STAT, 16, 3⟩
abbrev TIME_CAUSE.STATE : Fld := ⟨.TIME_CAUSE, 0, 1⟩
abbrev TIME_CAUSE.STEP : Fld := ⟨.TIME_CAUSE, 1, 1⟩
abbrev TIME_CAUSE.ALIGN_LOST : Fld := ⟨.TIME_CAUSE, 2, 1⟩
abbrev TIME_CAUSE.TPLL : Fld := ⟨.TIME_CAUSE, 3, 1⟩
abbrev TIME_CAUSE.SRC_INVALID : Fld := ⟨.TIME_CAUSE, 4, 1⟩
abbrev TIME_CAUSE.RES_CHECK : Fld := ⟨.TIME_CAUSE, 5, 1⟩
abbrev TIME_CAUSE.CTX_EVICT : Fld := ⟨.TIME_CAUSE, 6, 1⟩
abbrev TIME_CAUSE.ORPHAN : Fld := ⟨.TIME_CAUSE, 7, 1⟩
abbrev TIME_CAUSE.DISCARD : Fld := ⟨.TIME_CAUSE, 8, 1⟩
abbrev TIME_CAUSE.CF_SAT : Fld := ⟨.TIME_CAUSE, 9, 1⟩
abbrev TIME_CAUSE.TSQ_FULL : Fld := ⟨.TIME_CAUSE, 10, 1⟩
abbrev TIME_CAUSE.SAT : Fld := ⟨.TIME_CAUSE, 11, 1⟩
abbrev TIME_CAUSE.PPS_IN_MISS : Fld := ⟨.TIME_CAUSE, 12, 1⟩
abbrev TIME_CAUSE.TODRX_ERR : Fld := ⟨.TIME_CAUSE, 13, 1⟩
abbrev TIME_SRC_CFG.SOURCE : Fld := ⟨.TIME_SRC_CFG, 0, 3⟩
abbrev TIME_SRC_CFG.PRIMARY : Fld := ⟨.TIME_SRC_CFG, 4, 1⟩
abbrev TIME_SRC_CFG.LANE : Fld := ⟨.TIME_SRC_CFG, 8, 3⟩
abbrev TIME_SRC_CFG.SECS_RXD : Fld := ⟨.TIME_SRC_CFG, 12, 1⟩
abbrev TIME_SRC_CFG.HOST_TIMEOUT : Fld := ⟨.TIME_SRC_CFG, 16, 8⟩
abbrev TIME_FREQ.FREQ : Fld := ⟨.TIME_FREQ, 0, 32⟩
abbrev TIME_OFFSET.OFFSET : Fld := ⟨.TIME_OFFSET, 0, 32⟩
abbrev TIME_ALIGN_OFS.OFS : Fld := ⟨.TIME_ALIGN_OFS, 0, 16⟩
abbrev TIME_PPS_CFG.PPS_EN : Fld := ⟨.TIME_PPS_CFG, 0, 1⟩
abbrev TIME_PPS_CFG.PPS_HOLD : Fld := ⟨.TIME_PPS_CFG, 1, 1⟩
abbrev TIME_PPS_CFG.WIDTH : Fld := ⟨.TIME_PPS_CFG, 8, 10⟩
abbrev TIME_PPS_OFS.OFS : Fld := ⟨.TIME_PPS_OFS, 0, 32⟩
abbrev TIME_TODSER_CFG.BAUD : Fld := ⟨.TIME_TODSER_CFG, 0, 2⟩
abbrev TIME_TODSER_CFG.TX_EN : Fld := ⟨.TIME_TODSER_CFG, 4, 1⟩
abbrev TIME_TODSER_CFG.RX_EN : Fld := ⟨.TIME_TODSER_CFG, 5, 1⟩
abbrev TIME_UTC.UTC_OFFSET : Fld := ⟨.TIME_UTC, 0, 16⟩
abbrev TIME_UTC.LEAP_PENDING : Fld := ⟨.TIME_UTC, 16, 1⟩
abbrev TIME_CTX_STAT.IN_USE : Fld := ⟨.TIME_CTX_STAT, 0, 12⟩
abbrev TIME_CTX_STAT.HIGH_WATER : Fld := ⟨.TIME_CTX_STAT, 16, 12⟩
abbrev TIME_LANE_TXDLY.DLY : Fld := ⟨.TIME_LANE_TXDLY, 0, 32⟩
abbrev TIME_LANE_RXDLY.DLY : Fld := ⟨.TIME_LANE_RXDLY, 0, 32⟩
abbrev TIME_FAR_TXDLY.DLY : Fld := ⟨.TIME_FAR_TXDLY, 0, 32⟩
abbrev TIME_FAR_RXDLY.DLY : Fld := ⟨.TIME_FAR_RXDLY, 0, 32⟩
abbrev TIME_PORT_CFG.TIME_MODE : Fld := ⟨.TIME_PORT_CFG, 0, 2⟩
abbrev TIME_PORT_CFG.FRAME_VIEW : Fld := ⟨.TIME_PORT_CFG, 2, 1⟩
abbrev TIME_PORT_CFG.CROSSING : Fld := ⟨.TIME_PORT_CFG, 3, 1⟩
abbrev TIME_PORT_CTL.MSG_MASK : Fld := ⟨.TIME_PORT_CTL, 0, 4⟩
abbrev TIME_PORT_CTL.POLICY : Fld := ⟨.TIME_PORT_CTL, 4, 1⟩
abbrev TIME_PORT_CTL.TSQ_EN : Fld := ⟨.TIME_PORT_CTL, 5, 1⟩
abbrev TIME_PORT_CTL.TTL_FU : Fld := ⟨.TIME_PORT_CTL, 6, 10⟩
abbrev TIME_PORT_CTL.TTL_DR : Fld := ⟨.TIME_PORT_CTL, 16, 10⟩
abbrev TIME_PORT_HDLY.HDLY : Fld := ⟨.TIME_PORT_HDLY, 0, 32⟩
abbrev TIME_PORT_STAT.CONTEXTS : Fld := ⟨.TIME_PORT_STAT, 0, 12⟩
abbrev TIME_PORT_STAT.DRAIN : Fld := ⟨.TIME_PORT_STAT, 16, 1⟩
abbrev TIME_RES_LAST_HL.RES : Fld := ⟨.TIME_RES_LAST_HL, 0, 32⟩
abbrev TIME_RES_LAST_LH.RES : Fld := ⟨.TIME_RES_LAST_LH, 0, 32⟩
abbrev TIME_TSQ_STAT.COUNT : Fld := ⟨.TIME_TSQ_STAT, 0, 8⟩
abbrev TIME_TSQ_STAT.LOST : Fld := ⟨.TIME_TSQ_STAT, 16, 16⟩
abbrev TGT_STAT.OVERRIDE : Fld := ⟨.TGT_STAT, 0, 1⟩
abbrev TGT_STAT.RESUME_PEND : Fld := ⟨.TGT_STAT, 1, 1⟩
abbrev TGT_CAUSE.FB_FAULT : Fld := ⟨.TGT_CAUSE, 0, 1⟩
abbrev TGT_CAUSE.SAT : Fld := ⟨.TGT_CAUSE, 1, 1⟩
abbrev TGT_CAUSE.MODE : Fld := ⟨.TGT_CAUSE, 2, 1⟩
abbrev TGT_CAUSE.LOCK : Fld := ⟨.TGT_CAUSE, 3, 1⟩
abbrev TGT_CAUSE.SCRIPT_FAIL : Fld := ⟨.TGT_CAUSE, 4, 1⟩
abbrev TGT_FAULT.FB_FAULT : Fld := ⟨.TGT_FAULT, 0, 32⟩
abbrev TGT_LOOP_MODE.MODE : Fld := ⟨.TGT_LOOP_MODE, 0, 2⟩
abbrev TGT_LOOP_CFG.FB_CH : Fld := ⟨.TGT_LOOP_CFG, 0, 5⟩
abbrev TGT_LOOP_CFG.DAC : Fld := ⟨.TGT_LOOP_CFG, 8, 5⟩
abbrev TGT_LOOP_CFG.DAC_NONE : Fld := ⟨.TGT_LOOP_CFG, 15, 1⟩
abbrev TGT_LOOP_CFG.LASER : Fld := ⟨.TGT_LOOP_CFG, 16, 1⟩
abbrev TGT_LOOP_CFG.POL : Fld := ⟨.TGT_LOOP_CFG, 17, 1⟩
abbrev TGT_LOOP_CFG.PV_TRACK : Fld := ⟨.TGT_LOOP_CFG, 18, 1⟩
abbrev TGT_LOOP_CFG.RESUME : Fld := ⟨.TGT_LOOP_CFG, 19, 1⟩
abbrev TGT_LOOP_CFG.FF_SRC : Fld := ⟨.TGT_LOOP_CFG, 20, 3⟩
abbrev TGT_LOOP_CFG.FF_INDEX : Fld := ⟨.TGT_LOOP_CFG, 24, 6⟩
abbrev TGT_LOOP_TIME.PERIOD : Fld := ⟨.TGT_LOOP_TIME, 0, 10⟩
abbrev TGT_LOOP_TIME.PHASE : Fld := ⟨.TGT_LOOP_TIME, 16, 10⟩
abbrev TGT_LOOP_SHIFT.SH_P : Fld := ⟨.TGT_LOOP_SHIFT, 0, 4⟩
abbrev TGT_LOOP_SHIFT.SH_I : Fld := ⟨.TGT_LOOP_SHIFT, 4, 4⟩
abbrev TGT_LOOP_SHIFT.SH_D : Fld := ⟨.TGT_LOOP_SHIFT, 8, 4⟩
abbrev TGT_LOOP_SHIFT.SH_F : Fld := ⟨.TGT_LOOP_SHIFT, 12, 4⟩
abbrev TGT_LOOP_SHIFT.FROZEN_N : Fld := ⟨.TGT_LOOP_SHIFT, 16, 16⟩
abbrev TGT_LOOP_KP.K : Fld := ⟨.TGT_LOOP_KP, 0, 24⟩
abbrev TGT_LOOP_KI.K : Fld := ⟨.TGT_LOOP_KI, 0, 24⟩
abbrev TGT_LOOP_KD.K : Fld := ⟨.TGT_LOOP_KD, 0, 24⟩
abbrev TGT_LOOP_KF.K : Fld := ⟨.TGT_LOOP_KF, 0, 24⟩
abbrev TGT_LOOP_OUTLIM.OUT_MIN : Fld := ⟨.TGT_LOOP_OUTLIM, 0, 14⟩
abbrev TGT_LOOP_OUTLIM.OUT_MAX : Fld := ⟨.TGT_LOOP_OUTLIM, 16, 14⟩
abbrev TGT_LOOP_FBMIN.LIMIT : Fld := ⟨.TGT_LOOP_FBMIN, 0, 24⟩
abbrev TGT_LOOP_FBMAX.LIMIT : Fld := ⟨.TGT_LOOP_FBMAX, 0, 24⟩
abbrev TGT_LOOP_SPMIN.LIMIT : Fld := ⟨.TGT_LOOP_SPMIN, 0, 24⟩
abbrev TGT_LOOP_SPMAX.LIMIT : Fld := ⟨.TGT_LOOP_SPMAX, 0, 24⟩
abbrev TGT_LOOP_RAMP.RAMP : Fld := ⟨.TGT_LOOP_RAMP, 0, 24⟩
abbrev TGT_LOOP_SP.TARGET : Fld := ⟨.TGT_LOOP_SP, 0, 24⟩
abbrev TGT_LOOP_MAN.MAN_CODE : Fld := ⟨.TGT_LOOP_MAN, 0, 14⟩
abbrev TGT_LOOP_STAT.MODE : Fld := ⟨.TGT_LOOP_STAT, 0, 2⟩
abbrev TGT_LOOP_STAT.RAMPING : Fld := ⟨.TGT_LOOP_STAT, 2, 1⟩
abbrev TGT_LOOP_STAT.FB_OK : Fld := ⟨.TGT_LOOP_STAT, 3, 1⟩
abbrev TGT_LOOP_STAT.HOLD_REASON : Fld := ⟨.TGT_LOOP_STAT, 4, 2⟩
abbrev TGT_LOOP_STAT.FB_FAULT : Fld := ⟨.TGT_LOOP_STAT, 16, 1⟩
abbrev TGT_LOOP_STAT.RANGE : Fld := ⟨.TGT_LOOP_STAT, 17, 1⟩
abbrev TGT_LOOP_STAT.STALE : Fld := ⟨.TGT_LOOP_STAT, 18, 1⟩
abbrev TGT_LOOP_STAT.FROZEN : Fld := ⟨.TGT_LOOP_STAT, 19, 1⟩
abbrev TGT_LOOP_STAT.SAT_HI : Fld := ⟨.TGT_LOOP_STAT, 20, 1⟩
abbrev TGT_LOOP_STAT.SAT_LO : Fld := ⟨.TGT_LOOP_STAT, 21, 1⟩
abbrev TGT_LOOP_STAT.ACC_SAT : Fld := ⟨.TGT_LOOP_STAT, 22, 1⟩
abbrev TGT_LOOP_STAT.COEF_LOCK : Fld := ⟨.TGT_LOOP_STAT, 23, 1⟩
abbrev TGT_LOOP_STAT.SP_CLAMP : Fld := ⟨.TGT_LOOP_STAT, 24, 1⟩
abbrev TGT_LOOP_OUT.CODE : Fld := ⟨.TGT_LOOP_OUT, 0, 14⟩
abbrev TGT_LOOP_OUT.U_HI : Fld := ⟨.TGT_LOOP_OUT, 16, 16⟩
abbrev TGT_LOOP_PV.VALUE : Fld := ⟨.TGT_LOOP_PV, 0, 24⟩
abbrev TGT_LOOP_RSP.VALUE : Fld := ⟨.TGT_LOOP_RSP, 0, 24⟩
abbrev TGT_LOOP_ERR.VALUE : Fld := ⟨.TGT_LOOP_ERR, 0, 24⟩
abbrev TGT_LOOP_CHK.RUN : Fld := ⟨.TGT_LOOP_CHK, 0, 16⟩
abbrev TGT_LOOP_CHK.AGE : Fld := ⟨.TGT_LOOP_CHK, 16, 8⟩
abbrev CDAC_STAT.OVERRIDE : Fld := ⟨.CDAC_STAT, 0, 1⟩
abbrev CDAC_STAT.REF_OK : Fld := ⟨.CDAC_STAT, 1, 1⟩
abbrev CDAC_CAUSE.OVERRIDE_ON : Fld := ⟨.CDAC_CAUSE, 0, 1⟩
abbrev CDAC_CAUSE.OVERRIDE_OFF : Fld := ⟨.CDAC_CAUSE, 1, 1⟩
abbrev CDAC_CAUSE.CLIP : Fld := ⟨.CDAC_CAUSE, 2, 1⟩
abbrev CDAC_CAUSE.LOCK : Fld := ⟨.CDAC_CAUSE, 3, 1⟩
abbrev CDAC_CAUSE.REF_FAULT : Fld := ⟨.CDAC_CAUSE, 4, 1⟩
abbrev CDAC_STROBE.GROUP : Fld := ⟨.CDAC_STROBE, 0, 4⟩
abbrev CDAC_GROUP.SRC : Fld := ⟨.CDAC_GROUP, 0, 2⟩
abbrev CDAC_GROUP.LOOP : Fld := ⟨.CDAC_GROUP, 8, 6⟩
abbrev CDAC_PEN.PEN : Fld := ⟨.CDAC_PEN, 0, 4⟩
abbrev CDAC_PEN.FASTOFF_OFF : Fld := ⟨.CDAC_PEN, 8, 4⟩
abbrev CDAC_PEN_STAT.PIN : Fld := ⟨.CDAC_PEN_STAT, 0, 4⟩
abbrev CDAC_CFG.EN : Fld := ⟨.CDAC_CFG, 0, 1⟩
abbrev CDAC_CFG.GAIN2 : Fld := ⟨.CDAC_CFG, 1, 1⟩
abbrev CDAC_CFG.FASTOFF_EN : Fld := ⟨.CDAC_CFG, 2, 1⟩
abbrev CDAC_CFG.DITHER_EN : Fld := ⟨.CDAC_CFG, 3, 1⟩
abbrev CDAC_CFG.DITHER_INV : Fld := ⟨.CDAC_CFG, 4, 1⟩
abbrev CDAC_CFG.GEN : Fld := ⟨.CDAC_CFG, 8, 3⟩
abbrev CDAC_CODE.CODE : Fld := ⟨.CDAC_CODE, 0, 14⟩
abbrev CDAC_LIM.CODE_MIN : Fld := ⟨.CDAC_LIM, 0, 14⟩
abbrev CDAC_LIM.CODE_MAX : Fld := ⟨.CDAC_LIM, 16, 14⟩
abbrev CDAC_SAFE.SAFE_CODE : Fld := ⟨.CDAC_SAFE, 0, 14⟩
abbrev CDAC_OUT.CODE : Fld := ⟨.CDAC_OUT, 0, 14⟩
abbrev CDAC_OUT.CLAMPED : Fld := ⟨.CDAC_OUT, 16, 1⟩
abbrev CDAC_OUT.OVERRIDE : Fld := ⟨.CDAC_OUT, 17, 1⟩
abbrev CDAC_OUT.OWNED : Fld := ⟨.CDAC_OUT, 18, 1⟩
abbrev CDAC_OUT.OWNER : Fld := ⟨.CDAC_OUT, 24, 6⟩
abbrev CDAC_CH_STAT.LOCK : Fld := ⟨.CDAC_CH_STAT, 0, 1⟩
abbrev CDAC_CH_STAT.CLIP : Fld := ⟨.CDAC_CH_STAT, 1, 1⟩
abbrev CDAC_CH_STAT.BASE : Fld := ⟨.CDAC_CH_STAT, 16, 14⟩
abbrev SINE_CTL.EN : Fld := ⟨.SINE_CTL, 0, 1⟩
abbrev SINE_FTW.FTW : Fld := ⟨.SINE_FTW, 0, 32⟩
abbrev SINE_AMP.AMP : Fld := ⟨.SINE_AMP, 0, 11⟩
abbrev SINE_AMP.PHASE0 : Fld := ⟨.SINE_AMP, 16, 16⟩
abbrev SINE_STAT.RUNNING : Fld := ⟨.SINE_STAT, 0, 1⟩
abbrev SINE_STAT.PHASE : Fld := ⟨.SINE_STAT, 16, 16⟩
abbrev MON_CTL.RUN : Fld := ⟨.MON_CTL, 0, 1⟩
abbrev MON_CTL.SLOT_COMMIT : Fld := ⟨.MON_CTL, 1, 1⟩
abbrev MON_STAT.RUNNING : Fld := ⟨.MON_STAT, 0, 1⟩
abbrev MON_STAT.CHK_FAULT : Fld := ⟨.MON_STAT, 1, 1⟩
abbrev MON_STAT.DIAG : Fld := ⟨.MON_STAT, 2, 1⟩
abbrev MON_STAT.CAL_BUSY : Fld := ⟨.MON_STAT, 3, 1⟩
abbrev MON_STAT.SLOT_PEND : Fld := ⟨.MON_STAT, 4, 1⟩
abbrev MON_STAT.SLOT : Fld := ⟨.MON_STAT, 16, 5⟩
abbrev MON_CAUSE.CHK_FAULT : Fld := ⟨.MON_CAUSE, 0, 1⟩
abbrev MON_CAUSE.CHK_OK : Fld := ⟨.MON_CAUSE, 1, 1⟩
abbrev MON_CAUSE.CAL_DONE : Fld := ⟨.MON_CAUSE, 2, 1⟩
abbrev MON_CAUSE.CAL_REJECT : Fld := ⟨.MON_CAUSE, 3, 1⟩
abbrev MON_CAUSE.SAT : Fld := ⟨.MON_CAUSE, 4, 1⟩
abbrev MON_CAUSE.FADE_DONE : Fld := ⟨.MON_CAUSE, 5, 1⟩
abbrev MON_CAUSE.LOCK : Fld := ⟨.MON_CAUSE, 6, 1⟩
abbrev MON_CAUSE.SLOT_APPLIED : Fld := ⟨.MON_CAUSE, 7, 1⟩
abbrev MON_CAUSE.OD_REJECT : Fld := ⟨.MON_CAUSE, 8, 1⟩
abbrev MON_CAUSE.DIAG_DONE : Fld := ⟨.MON_CAUSE, 9, 1⟩
abbrev MON_CHK_CTL.CODE : Fld := ⟨.MON_CHK_CTL, 0, 12⟩
abbrev MON_CHK_CTL.DIAG_EN : Fld := ⟨.MON_CHK_CTL, 16, 1⟩
abbrev MON_CHK_CTL.DIAG_INPUT : Fld := ⟨.MON_CHK_CTL, 24, 5⟩
abbrev MON_CHK_STAT.RAW : Fld := ⟨.MON_CHK_STAT, 0, 16⟩
abbrev MON_CHK_STAT.FAILS : Fld := ⟨.MON_CHK_STAT, 16, 3⟩
abbrev MON_CHK_TOL.TOL : Fld := ⟨.MON_CHK_TOL, 0, 10⟩
abbrev MON_DIAG_RES.DIAG_MEAN : Fld := ⟨.MON_DIAG_RES, 0, 16⟩
abbrev MON_DIAG_RES.BASE_MEAN : Fld := ⟨.MON_DIAG_RES, 16, 16⟩
abbrev MON_OD_REQ.INPUT : Fld := ⟨.MON_OD_REQ, 0, 5⟩
abbrev MON_OD_REQ.PENDING : Fld := ⟨.MON_OD_REQ, 31, 1⟩
abbrev MON_OD_STAT.PENDING : Fld := ⟨.MON_OD_STAT, 0, 4⟩
abbrev MON_OD_STAT.BUSY_REJ : Fld := ⟨.MON_OD_STAT, 8, 4⟩
abbrev MON_SLOT.INPUT : Fld := ⟨.MON_SLOT, 0, 5⟩
abbrev MON_SLOT.EN : Fld := ⟨.MON_SLOT, 7, 1⟩
abbrev MON_SLOT_SH.INPUT : Fld := ⟨.MON_SLOT_SH, 0, 5⟩
abbrev MON_SLOT_SH.EN : Fld := ⟨.MON_SLOT_SH, 7, 1⟩
abbrev MON_IN_ZERO.ZERO : Fld := ⟨.MON_IN_ZERO, 0, 21⟩
abbrev MON_IN_GAIN.GAIN : Fld := ⟨.MON_IN_GAIN, 0, 24⟩
abbrev MON_IN_LAST.RAW : Fld := ⟨.MON_IN_LAST, 0, 16⟩
abbrev MON_IN_LAST.RUN : Fld := ⟨.MON_IN_LAST, 16, 16⟩
abbrev MON_IN_CAL.ZERO_PEND : Fld := ⟨.MON_IN_CAL, 0, 21⟩
abbrev MON_IN_CAL.ZERO_VALID : Fld := ⟨.MON_IN_CAL, 31, 1⟩
abbrev MON_CH_CFG.EN : Fld := ⟨.MON_CH_CFG, 0, 1⟩
abbrev MON_CH_CFG.ROLE : Fld := ⟨.MON_CH_CFG, 1, 1⟩
abbrev MON_CH_CFG.FIR_EN : Fld := ⟨.MON_CH_CFG, 2, 1⟩
abbrev MON_CH_CFG.MIX_EN : Fld := ⟨.MON_CH_CFG, 3, 1⟩
abbrev MON_CH_CFG.INPUT : Fld := ⟨.MON_CH_CFG, 8, 5⟩
abbrev MON_CH_CFG.GEN : Fld := ⟨.MON_CH_CFG, 16, 3⟩
abbrev MON_CH_CFG.HARM : Fld := ⟨.MON_CH_CFG, 19, 1⟩
abbrev MON_CH_CFG.SHIFT : Fld := ⟨.MON_CH_CFG, 20, 4⟩
abbrev MON_CH_DEC.R : Fld := ⟨.MON_CH_DEC, 0, 7⟩
abbrev MON_CH_DEC.D : Fld := ⟨.MON_CH_DEC, 8, 6⟩
abbrev MON_CH_PHASE.PHASE_OFS : Fld := ⟨.MON_CH_PHASE, 0, 16⟩
abbrev MON_CH_CTL.COMMIT : Fld := ⟨.MON_CH_CTL, 0, 1⟩
abbrev MON_CH_STAT.ACTIVE : Fld := ⟨.MON_CH_STAT, 0, 1⟩
abbrev MON_CH_STAT.FADING : Fld := ⟨.MON_CH_STAT, 1, 1⟩
abbrev MON_CH_STAT.WAITING : Fld := ⟨.MON_CH_STAT, 2, 1⟩
abbrev MON_CH_STAT.NO_REF : Fld := ⟨.MON_CH_STAT, 3, 1⟩
abbrev MON_CH_STAT.IN_LOOP : Fld := ⟨.MON_CH_STAT, 4, 1⟩
abbrev MON_CH_STAT.FADE_STEP : Fld := ⟨.MON_CH_STAT, 8, 7⟩
abbrev MON_CH_STAT.SAT : Fld := ⟨.MON_CH_STAT, 16, 1⟩
abbrev MON_CH_STAT.LOCK : Fld := ⟨.MON_CH_STAT, 17, 1⟩
abbrev MON_CH_PERIOD.PERIOD : Fld := ⟨.MON_CH_PERIOD, 0, 17⟩
abbrev MON_CH_GD.GD : Fld := ⟨.MON_CH_GD, 0, 26⟩
abbrev MON_FIRA.TAP : Fld := ⟨.MON_FIRA, 0, 24⟩
abbrev MON_FIRB.TAP : Fld := ⟨.MON_FIRB, 0, 24⟩
abbrev MBX_DOORBELL.EYELET : Fld := ⟨.MBX_DOORBELL, 0, 8⟩
abbrev MBX_STAT.OUTSTANDING : Fld := ⟨.MBX_STAT, 0, 9⟩
abbrev MBX_STAT.READY : Fld := ⟨.MBX_STAT, 16, 1⟩
abbrev MBX_CAUSE.DONE_0 : Fld := ⟨.MBX_CAUSE, 0, 1⟩
abbrev MBX_CAUSE.DONE_1 : Fld := ⟨.MBX_CAUSE, 1, 1⟩
abbrev MBX_CAUSE.DB_REJECT : Fld := ⟨.MBX_CAUSE, 2, 1⟩
abbrev MBX_CAUSE.RING_FULL : Fld := ⟨.MBX_CAUSE, 3, 1⟩
abbrev MBX_CAUSE.TIMEOUT : Fld := ⟨.MBX_CAUSE, 4, 1⟩
abbrev MBX_CAUSE.READY : Fld := ⟨.MBX_CAUSE, 5, 1⟩
abbrev MBX_CAUSE.CONS_ERR : Fld := ⟨.MBX_CAUSE, 6, 1⟩
abbrev MBX_CAUSE.SAT : Fld := ⟨.MBX_CAUSE, 7, 1⟩
abbrev MBX_CR_PROD_PTR.INDEX : Fld := ⟨.MBX_CR_PROD_PTR, 0, 8⟩
abbrev MBX_CR_PROD_PTR.PHASE : Fld := ⟨.MBX_CR_PROD_PTR, 8, 1⟩
abbrev MBX_CR_CONS_PTR.INDEX : Fld := ⟨.MBX_CR_CONS_PTR, 0, 8⟩
abbrev MBX_DB_REJ_INFO.EYELET : Fld := ⟨.MBX_DB_REJ_INFO, 0, 8⟩
abbrev MBX_DB_REJ_INFO.SRC : Fld := ⟨.MBX_DB_REJ_INFO, 8, 4⟩
abbrev MBX_DB_REJ_INFO.REASON : Fld := ⟨.MBX_DB_REJ_INFO, 16, 2⟩
abbrev MBX_DB_REJ_INFO.VALID : Fld := ⟨.MBX_DB_REJ_INFO, 31, 1⟩
abbrev MBX_EYELET_STATE.STATES : Fld := ⟨.MBX_EYELET_STATE, 0, 32⟩
abbrev HIF_STAT.CMIS_READY : Fld := ⟨.HIF_STAT, 0, 1⟩
abbrev HIF_STAT.DP_CONTROL : Fld := ⟨.HIF_STAT, 1, 1⟩
abbrev HIF_STAT.WIN_EN : Fld := ⟨.HIF_STAT, 8, 8⟩
abbrev HIF_CAUSE.CMIS_FLAG : Fld := ⟨.HIF_CAUSE, 0, 1⟩
abbrev HIF_CAUSE.SPI_ERR : Fld := ⟨.HIF_CAUSE, 1, 1⟩
abbrev HIF_CAUSE.SPI_OVERRUN : Fld := ⟨.HIF_CAUSE, 2, 1⟩
abbrev HIF_CAUSE.I2C_WIN_ERR : Fld := ⟨.HIF_CAUSE, 3, 1⟩
abbrev HIF_CAUSE.ACCESS : Fld := ⟨.HIF_CAUSE, 4, 1⟩
abbrev HIF_CAUSE.SAT : Fld := ⟨.HIF_CAUSE, 5, 1⟩
abbrev HIF_SPI_STAT.RESP : Fld := ⟨.HIF_SPI_STAT, 0, 3⟩
abbrev HIF_SPI_STAT.ERR : Fld := ⟨.HIF_SPI_STAT, 8, 1⟩
abbrev HIF_SPI_STAT.OVERRUN : Fld := ⟨.HIF_SPI_STAT, 9, 1⟩
abbrev HIF_SPI_STAT.POSTED : Fld := ⟨.HIF_SPI_STAT, 16, 2⟩
abbrev HIF_SPI_ERR_ADDR.ADDR : Fld := ⟨.HIF_SPI_ERR_ADDR, 0, 32⟩
abbrev HIF_WIN_BASE.EN : Fld := ⟨.HIF_WIN_BASE, 0, 1⟩
abbrev HIF_WIN_BASE.SPI : Fld := ⟨.HIF_WIN_BASE, 1, 1⟩
abbrev HIF_WIN_BASE.I2C : Fld := ⟨.HIF_WIN_BASE, 2, 1⟩
abbrev HIF_WIN_BASE.BASE : Fld := ⟨.HIF_WIN_BASE, 3, 29⟩
abbrev HIF_WIN_LIMIT.LIMIT : Fld := ⟨.HIF_WIN_LIMIT, 3, 29⟩
abbrev SEC_STAT.SLOT : Fld := ⟨.SEC_STAT, 0, 1⟩
abbrev SEC_STAT.TRIAL : Fld := ⟨.SEC_STAT, 1, 1⟩
abbrev SEC_STAT.RECOVERY : Fld := ⟨.SEC_STAT, 2, 1⟩
abbrev SEC_STAT.DEBUG_LEVEL : Fld := ⟨.SEC_STAT, 4, 2⟩
abbrev SEC_STAT.LOCKOUT : Fld := ⟨.SEC_STAT, 6, 1⟩
abbrev SEC_STAT.KEY0_REVOKED : Fld := ⟨.SEC_STAT, 7, 1⟩
abbrev SEC_STAT.COUNTER : Fld := ⟨.SEC_STAT, 8, 8⟩
abbrev SEC_STAT.RUN_SVN : Fld := ⟨.SEC_STAT, 16, 8⟩
abbrev SEC_STAT.RECOVERY_ERR : Fld := ⟨.SEC_STAT, 24, 4⟩
abbrev SEC_CAUSE.FW_REVERTED : Fld := ⟨.SEC_CAUSE, 0, 1⟩
abbrev SEC_CAUSE.IMAGE_INVALID : Fld := ⟨.SEC_CAUSE, 1, 1⟩
abbrev SEC_CAUSE.RECOVERY : Fld := ⟨.SEC_CAUSE, 2, 1⟩
abbrev SEC_CAUSE.DEBUG_UNLOCKED : Fld := ⟨.SEC_CAUSE, 3, 1⟩
abbrev SEC_CAUSE.AUTH_FAIL : Fld := ⟨.SEC_CAUSE, 4, 1⟩
abbrev SEC_CAUSE.LOCK : Fld := ⟨.SEC_CAUSE, 5, 1⟩
abbrev SEC_CAUSE.SAT : Fld := ⟨.SEC_CAUSE, 6, 1⟩
abbrev SEC_IMG_A.VERSION : Fld := ⟨.SEC_IMG_A, 0, 32⟩
abbrev SEC_IMG_B.VERSION : Fld := ⟨.SEC_IMG_B, 0, 32⟩
abbrev SEC_KEY_STAT.OCCUPIED : Fld := ⟨.SEC_KEY_STAT, 0, 4⟩
abbrev SEC_RECOVERY_LEN.LEN : Fld := ⟨.SEC_RECOVERY_LEN, 0, 21⟩
abbrev SEC_RECOVERY_CTL.GO : Fld := ⟨.SEC_RECOVERY_CTL, 0, 1⟩
abbrev MEM_STAT.HARD_COUNT : Fld := ⟨.MEM_STAT, 0, 5⟩
abbrev MEM_STAT.HARD_OVF : Fld := ⟨.MEM_STAT, 5, 1⟩
abbrev MEM_STAT.SPARES_USED : Fld := ⟨.MEM_STAT, 8, 7⟩
abbrev MEM_STAT.SPARES_OUT : Fld := ⟨.MEM_STAT, 15, 1⟩
abbrev MEM_CAUSE.CORR_BURST (r : Nat) : Fld := ⟨.MEM_CAUSE, 4 * r + 0, 1⟩
abbrev MEM_CAUSE.UNCORR (r : Nat) : Fld := ⟨.MEM_CAUSE, 4 * r + 1, 1⟩
abbrev MEM_CAUSE.HARD (r : Nat) : Fld := ⟨.MEM_CAUSE, 4 * r + 2, 1⟩
abbrev MEM_CAUSE.SAT (r : Nat) : Fld := ⟨.MEM_CAUSE, 4 * r + 3, 1⟩
abbrev MEM_SCRUB_CTL.EN : Fld := ⟨.MEM_SCRUB_CTL, 0, 8⟩
abbrev MEM_HARD.LOC : Fld := ⟨.MEM_HARD, 0, 32⟩
abbrev MEM_BKT_CFG.THRESH : Fld := ⟨.MEM_BKT_CFG, 0, 8⟩
abbrev MEM_BKT_CFG.LEAK : Fld := ⟨.MEM_BKT_CFG, 16, 16⟩
abbrev MEM_BKT_STAT.LEVEL : Fld := ⟨.MEM_BKT_STAT, 0, 8⟩
abbrev MEM_BKT_STAT.OVERFLOWS : Fld := ⟨.MEM_BKT_STAT, 16, 16⟩
abbrev MEM_ERR_LOC.LOC : Fld := ⟨.MEM_ERR_LOC, 0, 32⟩
abbrev MEM_ERR_INFO.SRC : Fld := ⟨.MEM_ERR_INFO, 0, 4⟩
abbrev MEM_ERR_INFO.KIND : Fld := ⟨.MEM_ERR_INFO, 4, 2⟩
abbrev MEM_ERR_INFO.POISONED : Fld := ⟨.MEM_ERR_INFO, 6, 1⟩
abbrev MEM_ERR_INFO.LOC_KIND : Fld := ⟨.MEM_ERR_INFO, 7, 1⟩
abbrev MEM_ERR_INFO.VALID : Fld := ⟨.MEM_ERR_INFO, 31, 1⟩
abbrev EVR_STAT.FROZEN : Fld := ⟨.EVR_STAT, 0, 1⟩
abbrev EVR_STAT.STG_FAULT : Fld := ⟨.EVR_STAT, 1, 1⟩
abbrev EVR_STAT.STG_FAILED : Fld := ⟨.EVR_STAT, 2, 1⟩
abbrev EVR_STAT.RING_FAILED : Fld := ⟨.EVR_STAT, 3, 1⟩
abbrev EVR_STAT.DEGRADED : Fld := ⟨.EVR_STAT, 4, 1⟩
abbrev EVR_STAT.GOOD_SEGS : Fld := ⟨.EVR_STAT, 8, 7⟩
abbrev EVR_STAT.STAGED : Fld := ⟨.EVR_STAT, 16, 10⟩
abbrev EVR_CAUSE.DROPPED : Fld := ⟨.EVR_CAUSE, 0, 1⟩
abbrev EVR_CAUSE.STG_FAULT : Fld := ⟨.EVR_CAUSE, 1, 1⟩
abbrev EVR_CAUSE.SEG_BAD : Fld := ⟨.EVR_CAUSE, 2, 1⟩
abbrev EVR_CAUSE.DEGRADED : Fld := ⟨.EVR_CAUSE, 3, 1⟩
abbrev EVR_CAUSE.EMG_WRITTEN : Fld := ⟨.EVR_CAUSE, 4, 1⟩
abbrev EVR_CAUSE.SAT : Fld := ⟨.EVR_CAUSE, 5, 1⟩
abbrev EVR_HEAD_SEQ.SEQ : Fld := ⟨.EVR_HEAD_SEQ, 0, 32⟩
abbrev EVR_TAIL_SEQ.SEQ : Fld := ⟨.EVR_TAIL_SEQ, 0, 32⟩
abbrev EVR_FLUSHED_SEQ.SEQ : Fld := ⟨.EVR_FLUSHED_SEQ, 0, 32⟩
abbrev EVR_CURSOR.SEQ : Fld := ⟨.EVR_CURSOR, 0, 32⟩
abbrev EVR_WIN_CTL.AUTO_ADV : Fld := ⟨.EVR_WIN_CTL, 0, 1⟩
abbrev EVR_WIN_STAT.RESULT : Fld := ⟨.EVR_WIN_STAT, 0, 3⟩
abbrev EVR_FIFO_STAT.ENTRIES : Fld := ⟨.EVR_FIFO_STAT, 0, 7⟩
abbrev EVR_FIFO_STAT.HIGH_WATER : Fld := ⟨.EVR_FIFO_STAT, 8, 7⟩
abbrev EVR_EMG_STAT.USED : Fld := ⟨.EVR_EMG_STAT, 0, 4⟩
abbrev EVR_EMG_STAT.COPIED : Fld := ⟨.EVR_EMG_STAT, 4, 4⟩
abbrev EVR_EMG_STAT.LOST : Fld := ⟨.EVR_EMG_STAT, 8, 8⟩
abbrev PWR_STATE.STATE : Fld := ⟨.PWR_STATE, 0, 3⟩
abbrev PWR_STATE.LP_REQ : Fld := ⟨.PWR_STATE, 8, 1⟩
abbrev PWR_STATE.LPMODE : Fld := ⟨.PWR_STATE, 9, 1⟩
abbrev PWR_STATE.FASTOFF : Fld := ⟨.PWR_STATE, 10, 1⟩
abbrev PWR_STATE.PFAIL : Fld := ⟨.PWR_STATE, 11, 1⟩
abbrev PWR_CAUSE.STATE : Fld := ⟨.PWR_CAUSE, 0, 1⟩
abbrev PWR_CAUSE.FAULT : Fld := ⟨.PWR_CAUSE, 1, 1⟩
abbrev PWR_CAUSE.FASTOFF_ON : Fld := ⟨.PWR_CAUSE, 2, 1⟩
abbrev PWR_CAUSE.FASTOFF_OFF : Fld := ⟨.PWR_CAUSE, 3, 1⟩
abbrev PWR_CAUSE.PFAIL : Fld := ⟨.PWR_CAUSE, 4, 1⟩
abbrev PWR_CAUSE.PG_LOST : Fld := ⟨.PWR_CAUSE, 5, 1⟩
abbrev PWR_CAUSE.RETRY : Fld := ⟨.PWR_CAUSE, 6, 1⟩
abbrev PWR_CAUSE.WEAR_LIMIT : Fld := ⟨.PWR_CAUSE, 7, 1⟩
abbrev PWR_CAUSE.SAT : Fld := ⟨.PWR_CAUSE, 8, 1⟩
abbrev PWR_FAULT_INFO.REASON : Fld := ⟨.PWR_FAULT_INFO, 0, 8⟩
abbrev PWR_FAULT_INFO.INFO : Fld := ⟨.PWR_FAULT_INFO, 8, 8⟩
abbrev PWR_FAULT_INFO.VALID : Fld := ⟨.PWR_FAULT_INFO, 31, 1⟩
abbrev PWR_RESET_INFO.KIND : Fld := ⟨.PWR_RESET_INFO, 0, 3⟩
abbrev PWR_RESET_INFO.SOURCE : Fld := ⟨.PWR_RESET_INFO, 8, 8⟩
abbrev PWR_PG_STAT.PG : Fld := ⟨.PWR_PG_STAT, 0, 4⟩
abbrev PWR_PG_STAT.PEN : Fld := ⟨.PWR_PG_STAT, 4, 4⟩
abbrev PWR_PG_STAT.SUPERVISED : Fld := ⟨.PWR_PG_STAT, 8, 4⟩
abbrev PWR_AVS_STAT.TARGET : Fld := ⟨.PWR_AVS_STAT, 0, 14⟩
abbrev PWR_AVS_STAT.CODE : Fld := ⟨.PWR_AVS_STAT, 16, 14⟩
abbrev PWR_AVS_STAT.ACTIVE : Fld := ⟨.PWR_AVS_STAT, 30, 1⟩
abbrev PWR_AVS_STAT.LIMIT : Fld := ⟨.PWR_AVS_STAT, 31, 1⟩
abbrev PWR_AVS_V0.V0 : Fld := ⟨.PWR_AVS_V0, 0, 14⟩
abbrev PWR_WEAR_SEL.ISLAND : Fld := ⟨.PWR_WEAR_SEL, 0, 16⟩
abbrev PWR_WEAR_VAL.D : Fld := ⟨.PWR_WEAR_VAL, 0, 16⟩
abbrev PWR_WEAR_VAL.VALID : Fld := ⟨.PWR_WEAR_VAL, 31, 1⟩
abbrev PWR_WEAR_WORST.D : Fld := ⟨.PWR_WEAR_WORST, 0, 16⟩
abbrev PWR_WEAR_WORST.ISLAND : Fld := ⟨.PWR_WEAR_WORST, 16, 16⟩
abbrev THM_STAT.THROTTLING : Fld := ⟨.THM_STAT, 0, 3⟩
abbrev THM_STAT.WARNING : Fld := ⟨.THM_STAT, 4, 3⟩
abbrev THM_CAUSE.WARN (z : Nat) : Fld := ⟨.THM_CAUSE, 4 * z + 0, 1⟩
abbrev THM_CAUSE.THROTTLE (z : Nat) : Fld := ⟨.THM_CAUSE, 4 * z + 1, 1⟩
abbrev THM_CAUSE.SHUTDOWN (z : Nat) : Fld := ⟨.THM_CAUSE, 4 * z + 2, 1⟩
abbrev THM_CAUSE.SENSOR (z : Nat) : Fld := ⟨.THM_CAUSE, 4 * z + 3, 1⟩
abbrev THM_ZONE_CFG.WARN : Fld := ⟨.THM_ZONE_CFG, 0, 8⟩
abbrev THM_ZONE_CFG.THROT : Fld := ⟨.THM_ZONE_CFG, 8, 8⟩
abbrev THM_ZONE_CFG.SHUT : Fld := ⟨.THM_ZONE_CFG, 16, 8⟩
abbrev THM_ZONE_CFG.WARN_EN : Fld := ⟨.THM_ZONE_CFG, 24, 1⟩
abbrev THM_ZONE_CFG.THROT_EN : Fld := ⟨.THM_ZONE_CFG, 25, 1⟩
abbrev THM_ZONE_STAT.TEMP : Fld := ⟨.THM_ZONE_STAT, 0, 12⟩
abbrev THM_ZONE_STAT.WARN : Fld := ⟨.THM_ZONE_STAT, 16, 1⟩
abbrev THM_ZONE_STAT.THROTTLE : Fld := ⟨.THM_ZONE_STAT, 17, 1⟩
abbrev THM_ZONE_STAT.QUARTER : Fld := ⟨.THM_ZONE_STAT, 18, 1⟩
abbrev THM_ZONE_STAT.SHUT : Fld := ⟨.THM_ZONE_STAT, 19, 1⟩
abbrev THM_ZONE_STAT.HOT_TS : Fld := ⟨.THM_ZONE_STAT, 20, 5⟩
abbrev THM_ZONE_STAT.FAST : Fld := ⟨.THM_ZONE_STAT, 25, 1⟩
abbrev THM_RETIRED.RETIRED : Fld := ⟨.THM_RETIRED, 0, 24⟩
abbrev THM_TS.TEMP : Fld := ⟨.THM_TS, 0, 12⟩
abbrev THM_TS.VALID : Fld := ⟨.THM_TS, 16, 1⟩
abbrev THM_TS.BROKEN : Fld := ⟨.THM_TS, 17, 1⟩
abbrev THM_TS.RETIRED : Fld := ⟨.THM_TS, 18, 1⟩
abbrev THM_TS.FAST : Fld := ⟨.THM_TS, 19, 1⟩
abbrev CNT_DIE_CAUSE.OVF : Fld := ⟨.CNT_DIE_CAUSE, 0, 1⟩
abbrev CNT_DIE_EN.OVF : Fld := ⟨.CNT_DIE_EN, 0, 1⟩
abbrev CAL_CAUSE.RX_DONE (k : Nat) : Fld := ⟨.CAL_CAUSE, 1 * k + 0, 1⟩
abbrev CAL_CAUSE.RX_ABORT (k : Nat) : Fld := ⟨.CAL_CAUSE, 1 * k + 4, 1⟩
abbrev CAL_CAUSE.TX_DONE (k : Nat) : Fld := ⟨.CAL_CAUSE, 1 * k + 8, 1⟩
abbrev CAL_CAUSE.TX_ABORT (k : Nat) : Fld := ⟨.CAL_CAUSE, 1 * k + 12, 1⟩

end Sys2Proof.Machine
end

