-- ==== Sys2Proof/Machine/State.lean ====
section
/-!
DEFINITION. Sys2Proof/Machine/State.lean: the state of the block as plain data, the reasons a step can stop, and the
state after reset.
-/

namespace Sys2Proof.Machine

/-- What a step can stop with, short of a next state. -/
inductive Fault where
  /-- No meaning raises it: every command of the table has an effect or leaves the state as it is. Safe. -/
  | none
  deriving DecidableEq, Repr

/-- Why a command has no meaning. -/
inductive Refusal where
  /-- The dispatch raises it for a row that has no meaning yet, by its mnemonic. Safe. -/
  | notModelled (mnemonic : String)
  deriving DecidableEq, Repr

/-! ## Shared parts -/

/-- Who waits for the end of a command: an eyelet and its acceptance number (the number of accepted doorbells before
it), so that a result that comes after a time-out finds nobody (R335). Without one, Aqique itself issued it. -/
structure Ticket where
  eyelet : Nat := 0
  serial : Nat := 0
  aqique : Bool := false
  deriving DecidableEq, Repr

/-- An event on its way to the recorder (R378): its code, severity and parameters, and who waits for its SEQ
(EVR_MARK). -/
structure Event where
  code : Nat
  sev  : Nat
  p0 : Nat := 0
  p1 : Nat := 0
  p2 : Nat := 0
  p3 : Nat := 0
  waiter : Option Ticket := none
  deriving DecidableEq, Repr

/-- The power and clock state of an island, as its gate sees it (R34, R36). -/
inductive IslandSt where
  | on | clockOff | powerOff | transition | doze
  deriving DecidableEq, Repr

/-- What a bus master got for its latest request (R25): the response code, the low data words and, for a READ_BURST, the
64-bit words after the first. -/
structure BusReply where
  resp : Resp := .ok
  lo : W32 := 0
  hi : W32 := 0
  more : List W64 := []
  deriving DecidableEq, Repr

/-- The operations of a request (R24), with the data a write carries; `reserved` is one with a reserved OP code. -/
inductive BusOp where
  | read32
  | write32 (data : W32)
  | read64
  | write64 (data : W64) (be : BitVec 8)
  | burst (len : Nat)
  | reserved (code : Nat)
  deriving DecidableEq, Repr

/-- A request on its way (R24, R33): who sent it, and through which channel of the DMA engine (R27); its tag, the operation,
the address, and when. `got` is what the target has answered to a request it has accepted (R35), while the response waits
for a credit. -/
structure Request where
  src : Master
  tag : Nat
  op : BusOp
  addr : Nat
  at_ : Nat
  chan : Nat := 0
  got : Option BusReply := none
  deriving DecidableEq, Repr

/-- One direction of a flit channel: the sender's credits per class (R26); the class and the number of the data flits that
follow the latest header (R24); on a welt link also the number of flits the sender has sent, the data of the newest 64 of
them in its replay buffer, and where it resends from after a replay request (R31). -/
structure Channel where
  credReq : Nat := 16
  credRsp : Nat := 40
  credEvt : Nat := 24
  follow : MsgClass × Nat := (.control, 0)
  sent : Nat := 0
  buffer : List W64 := []
  resend : Option Nat := none
  deriving DecidableEq, Repr

/-- An island that turns off or dozes once the requests it has accepted have their responses (R35): its ID, the state it goes
to, and when it stopped accepting requests. -/
structure Drain where
  island : Nat
  target : IslandSt
  since : Nat
  deriving DecidableEq, Repr

/-- A welt link (R22): replays in the running 1 ms window and in the burst detector, the retrainings that failed in a
row, whether the attempt started from FAILED, and its two directions. -/
structure Link where
  window : Nat := 0
  times : List Nat := []
  failures : Nat := 0
  fromFailed : Bool := false
  toMgmt : Channel := {}
  fromMgmt : Channel := {}
  deriving DecidableEq, Repr

/-! ## Modes (spec/02_modes.md) -/

/-- A port descriptor (R47). The reset value is the reset image's (R50). -/
structure PortDesc where
  size : Nat := 0
  hostGroup : Nat := 0
  inner : Bool := false
  fecTerm : Bool := false
  frameView : Bool := false
  txEn : Bool := false
  allowDisrupt : Bool := false
  timeMode : Nat := 0
  deskew : Nat := 0
  loopback : Nat := 0
  deriving DecidableEq, Repr

/-- A lane descriptor (R48); the line-only fields of a host lane stay at 0. -/
structure LaneDesc where
  sd : Bool := false
  vnle : Bool := false
  progSet : Nat := 0
  duty : Nat := 0
  ins : Bool := false
  msg : Bool := false
  ttt : Bool := false
  fibre : Nat := 0
  txPattern : Nat := 0
  rxCheck : Nat := 0
  dozeRx : Nat := 0
  dozeTx : Nat := 0
  deriving DecidableEq, Repr

/-- A mode image (R42): ports 0–7, line lanes 0–7, host lanes 0–15, THROTTLE_POLICY of the two core dies, RANGING_EN of
fibre groups 0–7. -/
structure Image where
  ports : List PortDesc := List.replicate 8 {}
  line : List LaneDesc := List.replicate 8 { progSet := 1, fibre := 0xFF }
  host : List LaneDesc := List.replicate 16 {}
  early : List Bool := [false, false]
  ranging : List Bool := List.replicate 8 false
  deriving DecidableEq, Repr

/-- The states of an open transaction (R56). -/
inductive TxnSt where
  | opened | validated | applying
  deriving DecidableEq, Repr

/-- The open mode transaction (R55–R60). `touched` is the time of its latest staging, validation or apply command; the
last fields are those of a running apply, the racks it has loaded and the host lanes
that it configures once they have woken (with whether they are renewed) among them. `own` marks the transaction of R399 step 2 and of CMIS. -/
structure Txn where
  id : Nat
  st : TxnSt := .opened
  staged : Image := {}
  touched : Nat := 0
  own : Bool := false
  waiter : Option Ticket := none
  down : Nat := 0
  hit : Nat := 0
  fresh : Nat := 0
  faulted : Nat := 0
  firstFault : Nat := 0
  loaded : List Nat := []
  late : List (Nat × Bool) := []
  deriving DecidableEq, Repr

/-- A port's state and the reason of its latest change (R64). -/
structure PortSt where
  st : Nat := 0
  reason : Nat := 0
  deriving DecidableEq, Repr

/-- Modes: the active image, the image the datapath is configured to (it runs ahead of the active one during an apply,
R58), the open transaction, the last transaction ID given out, the IDs of transactions that
have expired and that no command has named since (R57), the port states and the core-welt slots of each direction with the
host lane each carries (R45). -/
structure ModeSt where
  active : Image := {}
  run : Image := {}
  txn : Option Txn := none
  lastId : Nat := 0
  expired : List Nat := []
  ports : List PortSt := List.replicate 8 {}
  slotsAB : List (Option Nat) := List.replicate 8 none
  slotsBA : List (Option Nat) := List.replicate 8 none
  deriving DecidableEq, Repr

/-! ## Mailbox (spec/12_management.md, R329–R336) -/

/-- The states of an eyelet (R331). -/
inductive EyeletSt where
  | free | submitted | running | posting
  deriving DecidableEq, Repr

/-- A command's completion: STATUS, RESULT0, RESULT1 (R333). -/
structure Reply where
  status : Nat := 0
  r0 : Nat := 0
  r1 : Nat := 0
  deriving DecidableEq, Repr

/-- An eyelet: its state, the descriptor copied at acceptance, its acceptance number and time, whether its handler has
been started, and the completion once the handler has finished. -/
structure Eyelet where
  st : EyeletSt := .free
  desc : BitVec 256 := 0
  serial : Nat := 0
  accepted : Nat := 0
  started : Bool := false
  reply : Option Reply := none
  deriving DecidableEq, Repr

/-- The mailbox: eyelets that are or were in use, accepted commands not yet begun (oldest first), how many have been
accepted, completions that wait for room in ring 0 and ring 1 (oldest first), and the rings in a period of fullness. -/
structure MbxSt where
  eyelets : List (Nat × Eyelet) := []
  queue : List Nat := []
  accepted : Nat := 0
  wait0 : List Nat := []
  wait1 : List Nat := []
  full0 : Bool := false
  full1 : Bool := false
  deriving DecidableEq, Repr

/-! ## Memories -/

/-- A region [lo, hi) whose every word Aqique has written (R157, R213), the number of that initialisation, and
whether it wrote zeros (R131). -/
structure Init where
  lo : Nat
  hi : Nat
  ix : Nat
  zero : Bool := false
  deriving DecidableEq, Repr

/-! ## Power, reset and thermal (spec/14_power_thermal_life.md) -/

/-- A running sequence of the restart delay table: its number (R403), the lane or rail it is about, the step under way
and whether that step has been retried; when the sequence was triggered and when the step, or its retry, started. -/
structure Seq where
  num : Nat
  obj : Nat := 0
  step : Nat := 1
  retried : Bool := false
  trigger : Nat := 0
  since : Nat := 0
  deriving DecidableEq, Repr

/-- A software reset that is due (R395): its SOURCE, and when it takes effect; none while it waits for the completion of
the FW_ACTIVATE with that serial (R342). -/
structure ResetDue where
  source : Nat
  due : Option Nat
  serial : Nat := 0
  deriving DecidableEq, Repr

/-- The optics start-up table as Aqique runs it (R284): the descriptor it issues next, and whether the one before it has
not completed. -/
structure Script where
  next : Nat := 0
  busy : Bool := false
  deriving DecidableEq, Repr

/-- Where the boot stands (R339, R341): the boot ROM's start-up and image selection, a started image that is not ready,
Aqique, or recovery. -/
inductive BootPhase where
  | rom | started | ready | recovery
  deriving DecidableEq, Repr

/-- Power: running sequences; whether RESET_N or a supply holds the device in reset, and each of the two; the CMIS
low-power bits and the eyelet that waits for PWR_LOWPWR; a software reset that is due; that FAULT's islands are still to go
off, and when FAULT was entered; that AVS's limit has been logged; the temperatures since the last LIFE_MINUTE in 0.125 °C
(sum and number); the times of the latest PEN deassertion by command, AVS step, minute of life, store of it and wear
measurement. -/
structure PwrSt where
  seqs : List Seq := []
  held : Bool := false
  resetLow : Bool := false
  supplyLow : Bool := false
  boot : BootPhase := .rom
  swLow : Bool := false
  allowHw : Bool := true
  lowWaiter : Option Ticket := none
  resetDue : Option ResetDue := none
  faultDue : Bool := false
  faultAt : Nat := 0
  limitLogged : Bool := false
  tempSum : Int := 0
  tempNum : Nat := 0
  script : Option Script := none
  penAt : Option Nat := none
  avsAt : Nat := 0
  minuteAt : Nat := 0
  storeAt : Nat := 0
  wearAt : Option Nat := none
  deriving DecidableEq, Repr

/-- A temperature sensor (R408–R411): the count of its last measurement and how many in a row gave it, and when it was last
measured on schedule. -/
structure Sensor where
  count : Nat := 0
  run : Nat := 0
  at_ : Option Nat := none
  deriving DecidableEq, Repr

/-- Service life and wear (R416, R418), kept in MRAM outside the address map: the stored equivalent time in 2^−32 minutes
and powered minutes, the wear baselines W0 by island, and, not stored, the running equivalent time and the D of each
island measured since reset. -/
structure LifeSt where
  stored : Nat := 0
  storedOn : Nat := 0
  acc : Nat := 0
  base : List (Nat × Nat) := []
  wear : List (Nat × Nat) := []
  deriving DecidableEq, Repr
/-! ## Memory integrity (spec/13_integrity_and_records.md) -/

/-- What the memory controllers hold: the tracked locations of each die with their counts, oldest first (R362); MRAM
rows whose refresh is scheduled (R359) and whose copy into a spare is under way; the remapped rows, which survive power
loss (R363); withdrawn 4 KiB pages of the heap (R364); halted DMA channels (R365); when each region's bucket leaked latest, by region unit (R361). -/
structure MemSt where
  trackers : List (List (Nat × Nat)) := [[], [], []]
  refresh : List Nat := []
  copying : List Nat := []
  remapped : List Nat := []
  pages : List Nat := []
  dmaHalted : List Nat := []
  leaked : List (Nat × Nat) := []
  deriving DecidableEq, Repr


/-! ## Optics control (spec/10_optics_control.md) -/

/-- A mode request of a loop that waits for its next tick (R268, R274): the mode, the MAN_CODE it supplies, who waits,
and whether it is a resumption (R282). -/
structure LoopReq where
  mode : Nat
  man : Option Nat := none
  waiter : Option Ticket := none
  resume : Bool := false
  deriving DecidableEq, Repr

/-- What a control loop holds beside its registers: requests in order of acceptance, ym_prev and the latest u of R264, when that
u was complete, in units of 100 ns (R262), and the u before it, the SEQ of the feedback value it took last, and the time of its
latest tick. -/
structure Loop where
  reqs : List LoopReq := []
  ymPrev : Int := 0
  u : Int := 0
  uAt : Nat := 0
  uPrev : Int := 0
  seq : Nat := 0
  ticked : Option Nat := none
  deriving DecidableEq, Repr

/-- A sine generator (R279): running, its 32-bit phase, the amplitude in effect and its latest sample. -/
structure Sine where
  running : Bool := false
  phase : Nat := 0
  amp : Nat := 0
  sample : Int := 0
  deriving DecidableEq, Repr

/-- Optics control: loops 0–47, generators 0–7, the channels whose base code is a laser trip's SAFE_CODE (R272), the generators
as they stood before the latest timebase microsecond, with that microsecond (R302 samples them at the instant of a conversion),
when the engine ends its latest computation, in units of 100 ns (R262), and when the resumption after an override is due (R282). -/
structure OptSt where
  loops : List Loop := List.replicate 48 {}
  sines : List Sine := List.replicate 8 {}
  tripped : List Nat := []
  before : List Sine := []
  sampledAt : Option Nat := none
  busy : Nat := 0
  resumeAt : Nat := 0
  deriving DecidableEq, Repr

/-! ## Monitoring (spec/11_monitoring.md) -/

/-- A decimation channel beside its registers (R301–R308): samples since the restart, the first instant whose sample it
takes, the CIC's three integrators and three combs, the last 31 CIC outputs (newest first), the outputs computed and not
yet published with their publication instants, a REPORT commit that awaits its output, and who waits for a commit. -/
structure Chan where
  got : Nat := 0
  since : Nat := 0
  i1 : Int := 0
  i2 : Int := 0
  i3 : Int := 0
  c1 : Int := 0
  c2 : Int := 0
  c3 : Int := 0
  line : List Int := []
  outs : List (Nat × Int) := []
  swap : Bool := false
  waiters : List Ticket := []
  deriving DecidableEq, Repr

/-- What the monitor keeps of an input: its last 16 raw codes, newest first, and its previous corrected sample (R294). -/
structure MonIn where
  raws : List Nat := []
  x : Option Int := none
  deriving DecidableEq, Repr

/-- An on-demand request (R292): the master's SRC, the input, and who waits for MON_CONVERT. -/
structure OdReq where
  m : Nat
  input : Nat
  waiter : Option Ticket
  deriving DecidableEq, Repr

/-- A path diagnosis (R298): the input, the first instant whose conversion it takes, how many it has taken, their sum,
the mean of the 16 conversions before it, and who waits. -/
structure Diag where
  input : Nat
  since : Nat
  n : Nat := 0
  sum : Nat := 0
  base : Nat := 0
  waiter : Option Ticket
  deriving DecidableEq, Repr

/-- A system calibration (R299): the input, the target value at MON_CAL_FS, the first instant it averages, the
conversions taken, their sum, whether one was clipped, and who waits. -/
structure MonCal where
  input : Nat
  target : Option Nat
  since : Nat
  n : Nat := 0
  sum : Nat := 0
  clipped : Bool := false
  waiter : Ticket
  deriving DecidableEq, Repr

/-- The monitor: its channels and inputs, the on-demand requests in order and the one being converted, the instant of
the latest conversion end, a validated slot table with who waits for it, the table before the latest change and the
instant of that change, the instant of the latest CODE write, the run of passed comparisons, and the diagnosis and the
calibration under way. -/
structure MonSt where
  chans : List Chan := List.replicate 32 {}
  ins : List MonIn := List.replicate 32 {}
  od : List OdReq := []
  cur : Option OdReq := none
  done : Option Nat := none
  table : Option (List Nat) := none
  tableWaiters : List Ticket := []
  prevTable : List Nat := []
  appliedAt : Option Nat := none
  codeAt : Option Nat := none
  passes : Nat := 0
  diag : Option Diag := none
  cal : Option MonCal := none
  deriving DecidableEq, Repr

/-! ## Line lanes (spec/03_line_receiver.md, spec/04_line_transmitter.md) -/

/-- An interleave or skew calibration run (R81, R103): the fields it moves, its rounds, the step periods of the APPLY phase still to
come, the latest spreads and who waits. -/
structure CalRun where
  mask : Nat
  rounds : Nat
  periods : Nat := 0
  skewSpread : Nat := 0
  offsetSpread : Nat := 0
  waiter : Ticket
  deriving DecidableEq, Repr

/-- A commit ramp (R94): its step, and the 7 coefficients and 64 levels it moves from and to. -/
structure Ramp where
  step : Nat := 0
  from_ : List Int := []
  to_ : List Int := []
  deriving DecidableEq, Repr

/-- A movement of the Volterra contribution: the two fades of R75, and the ramp of the kernels to zero before a mode removes
the option (R62). -/
inductive Fade where
  | fadeIn | fadeOut | rampOut
  deriving DecidableEq, Repr

/-- A symbol on its way to a lane's FIR: a precoded one, or a level of its own (the wake pattern, R98). -/
inductive TxSym where
  | sym (p : Nat)
  | level (v : Int)
  deriving DecidableEq, Repr

/-- The symbol that the level table is indexed with; 0 for a level. -/
def TxSym.num (x : TxSym) : Nat :=
  match x with
  | .sym p => p % 4
  | .level _ => 0

/-- A lane's transmit path since its output left squelch (R91): the precoder's p(n−1), the latest symbols, newest first, the code
at its DAC, and the state of its pattern generator. -/
structure TxPath where
  prev : Nat := 0
  hist : List TxSym := []
  dac : Int := 0
  pattern : Option Nat := none
  deriving DecidableEq, Repr

/-- A pattern checker (R100, R178): the state of its reference, the symbols compared since it locked, and which of the latest were in
error, newest first. -/
structure Checker where
  ref : Nat := 0
  count : Nat := 0
  errs : List Nat := []
  deriving DecidableEq, Repr

/-- Step periods of trims (R79, R102): when the current one began, its length, and the instant of the latest step. A length of 0 is
no period. -/
structure Periods where
  at_ : Nat := 0
  len : Nat := 0
  stepped : Option Nat := none
  deriving DecidableEq, Repr

/-- What a line lane holds beside its registers. `fadeAt` and `fadeFrom` are the instant at which the latest fade started and the
share of the Volterra contribution then in effect, in 1/65,536; `adc` and `dac` are the step periods of the two calibrations;
`histGoal` and `histTaken` are the samples that a histogram capture takes and has taken; `delivered` is what the inner decoder
delivered latest. -/
structure LineLane where
  calRx : Option CalRun := none
  calTx : Option CalRun := none
  ramp : Option Ramp := none
  fade : Option Fade := none
  fadeAt : Nat := 0
  fadeFrom : Nat := 0
  tx : TxPath := {}
  chk : Checker := {}
  adc : Periods := {}
  dac : Periods := {}
  histGoal : Nat := 0
  histTaken : Nat := 0
  delivered : BitVec 128 := 0
  deriving DecidableEq, Repr

/-! ## Rack program sets (R51, R133) -/

/-- A loaded customer program set: its ID, the racks it uses, its capabilities, whether its signature was verified under
a key that is still registered, the key slot, its version, its user-counter flag and its size in words. -/
structure PSet where
  id : Nat
  racks : Nat := 0
  sd : Bool := false
  vnle : Bool := false
  authentic : Bool := false
  slot : Nat := 0
  version : Nat := 0
  ucnt : Bool := false
  image : List Nat := []
  deriving DecidableEq, Repr
/-! ## Lasts and racks (spec/05_lasts_and_counters.md) -/

/-- An active loop (R118): the addresses of its first and last instruction and the iterations left with this one. -/
structure LoopFrame where
  start : Nat
  last : Nat
  count : Nat
  deriving DecidableEq, Repr

/-- A register whose write later instructions do not see at once (R116). -/
inductive LateReg where
  | ptr (n : Nat) | step (n : Nat) | len (n : Nat) | amode | mu | vbr
  deriving DecidableEq, Repr

/-- A write on its way to such a register: the issues left until it is seen, and its value. -/
structure Late where
  left : Nat
  reg : LateReg
  value : Nat
  deriving DecidableEq, Repr

/-- A rack-bus response in the last's slot: its value, whether it is an error, and whether the shared-memory word read was
uncorrectable. -/
structure BusResp where
  value : W24 := 0
  error : Bool := false
  bad : Bool := false
  deriving DecidableEq, Repr

/-- A rack-bus request of a last (R122): the location, the data of a write, its place in the order of the rack's requests (those
issued in one cycle share it), and the response that is on its way once the bus has accepted the request. -/
structure BusReq where
  addr : Nat
  write : Bool
  data : W24
  age : Nat := 0
  got : Option BusResp := none
  deriving DecidableEq, Repr

/-- The instruction that a last issued latest, as the tag record of R139 names it. -/
structure Issued where
  pc : Nat := 0
  user : Bool := false
  lcache : Bool := false
  trapped : Bool := false
  cls : Nat := 0
  deriving DecidableEq, Repr

/-- A last (R110): its registers, loop and call stacks; late writes; the issues left of a repeated instruction; the loop
cache; its rack-bus request and response; its read position (how many records it has passed); whether YIELD suspends it
and the number of records there were then; the instructions retired since a TWIN, BRSP or YIELD (R126); what the
interlocks of R116 look at in the two instructions before; and the latest instruction. -/
structure Last where
  d : List W24 := List.replicate 8 0
  a : List W56 := List.replicate 4 0
  p : List (BitVec 10) := List.replicate 8 0
  q : List (BitVec 10) := List.replicate 8 0
  l : List (BitVec 11) := List.replicate 8 1024
  t : List W24 := List.replicate 12 0
  pc : BitVec 14 := 0
  loops : List LoopFrame := []
  calls : List (BitVec 14) := []
  sr : W24 := 0x100
  mu : W24 := 0
  amode : BitVec 16 := 0
  tpc : BitVec 14 := 0
  tsr : W24 := 0
  vbr : BitVec 14 := 0
  info : BitVec 22 := 0
  chi : W24 := 0
  late : List Late := []
  rep : Option Nat := none
  cache : List (Nat × W32) := []
  bus : Option BusReq := none
  resp : Option BusResp := none
  seen : Nat := 0
  yielding : Bool := false
  yieldAt : Nat := 0
  retired : Nat := 0
  accBy : Option Nat := none
  dBy : Option Nat := none
  flags1 : Bool := false
  flags2 : Bool := false
  latest : Issued := {}
  deriving DecidableEq, Repr

/-- What a rack holds beside its registers and memories: how many tap records its buffer has received and the newest 64
of them, newest first (R119, R120); the groups user code may write (R130); its program's entry; when its latest user trap
came and when its restart is due (R127); the selected instructions issued since the latest sample, the number of them that
ends the interval, the tagged instructions whose records have not yet entered the FIFO (last, instruction and the low word of
RACK_CYC_CNT at the start of the microsecond of its issue), and the tag records, oldest first (R139); the low words held per
master (R134: master, address, data); the place in its order of the latest rack-bus request (R122); and the field ports that
a built-in program has read since it started (R129). -/
structure RackSt where
  written : Nat := 0
  taps : List (List W24) := []
  portMask : Nat := 0
  entry : Nat := 0
  trapAt : Option Nat := none
  restart : Option Nat := none
  issued : Nat := 0
  tagGoal : Nat := 0
  tagged : List (Nat × Issued × W32) := []
  tags : List Wide := []
  lows : List (Nat × Nat × W32) := []
  busAge : Nat := 0
  back : List Nat := []
  deriving DecidableEq, Repr


/-! ## FEC/PCS (spec/06_fec_pcs_gearbox.md) -/

/-- One direction of a port's FEC/PCS beside its registers. Of what arrives: the PCS lanes that each locked lane carries, the hold
of each PCS lane in 1/16 ns and the rate adaptation's fill at the latest measurement (R143, R155), whether its skew is over
its limit (R156), whether the codeword under way holds a pool word that read uncorrectable (R159), codewords marked since the
latest FEC_UNCORR, and whether there has been one (R167). Of what leaves: the 66-bit blocks that wait to be encoded and those
of the latest codeword (R150, R151), codewords encoded since injection was enabled and the symbol positions inverted in the
latest (R165); in a transmit restart the bits that wait and the frames discarded (R161, R185); the pool word that monitor
mode passed on latest (R159). -/
structure FecDir where
  pcs : List (List Nat) := []
  holds : List Nat := []
  fill : Nat := 0
  tooFar : Bool := false
  bad : Bool := false
  marked : Nat := 0
  logged : Bool := false
  queue : List (BitVec 66) := []
  sent : List (BitVec 66) := []
  encoded : Nat := 0
  inverted : List Nat := []
  waiting : Nat := 0
  dropped : Nat := 0
  passed : W64 := 0
  deriving DecidableEq, Repr

/-- What a port's FEC/PCS holds beside its registers: whether the port is aligned, and whether it has been since it was
configured (R149); the line-to-host direction as what arrives from the line and leaves for the host, and the other. -/
structure FecPort where
  aligned : Bool := false
  wasAligned : Bool := false
  lh : FecDir := {}
  hl : FecDir := {}
  deriving DecidableEq, Repr

/-! ## Host lanes (spec/07_host_lanes.md) -/

/-- What a host lane holds beside its registers: who waits for pending slips and for a capture (R189). Receiver: whether the engine
has moved the CTLE since the lane was configured and when it did so last (R170), and the pattern checker, whose reference is the
place in the pattern under RAW (R178, R179). Transmitter: its pattern generator's state, the bits that TX slips have put before
the generator's next one and the latest bit sent (R177, R180), the Gray levels sent last, newest first, and what its FIR made of
the symbols it was last given, in 1/64 of a level (R172). -/
structure HostLane where
  slipWaiters : List Ticket := []
  capWaiter : Option Ticket := none
  searched : Bool := false
  ctleAt : Nat := 0
  chk : Checker := {}
  gen : Option Nat := none
  carry : List Bool := []
  last : Bool := false
  hist : List Int := []
  out : List Int := []
  deriving DecidableEq, Repr

/-! ## The insole channel (spec/08_insole_channel.md) -/

/-- A message handed to a lane (R214): its slot and length, its SEQ once it has been sent, the sends taken, whether it
waits to be sent (again), who waits for it, when it was accepted, and when its latest send ended. -/
structure InsMsg where
  slot : Nat
  len : Nat
  seq : Nat := 0
  sends : Nat := 0
  due : Bool := true
  waiter : Ticket
  since : Nat := 0
  sentAt : Option Nat := none
  deriving DecidableEq, Repr

/-- A received message in its slot (R215). -/
structure InsRx where
  slot : Nat
  len : Nat
  seq : Nat
  deriving DecidableEq, Repr

/-- The frames of R198. -/
inductive InsKind where
  | link | timing | msg
  deriving DecidableEq, Repr

/-- A frame in transmission (R200): its kind, its header word, its payload bytes, for a message its SEQ, and the index of its
first bit on the lane's chip grid. -/
structure InsTxFrame where
  kind : InsKind
  header : W32 := 0
  payload : List Nat := []
  seq : Nat := 0
  start : Nat := 0
  deriving DecidableEq, Repr

/-- A lane's insole modem beside its registers. Transmitter: the amplitude ramp under way, its step and when it started; the frame
being sent; a LINK frame due for an acknowledgement or an RX_OK change, the periodic one, and when the last one started; TSEQ
of the next TIMING frame. Link: own RX_OK, since when the post-down hold lasts, when the latest good frame came, the next SEQ
expected and since when an acknowledgement waits. Messages in the order of their commands; received messages and free receive
slots, oldest first. Receiver: a sequence search with its waiter and its start; whether the mismatch of R203 has been logged in this link-up
and since when it lasts; whether INS_RX_TS holds a valid arrival, the payload of that TIMING frame, and the arrival of the
frame now being received. Chip grid (R194): the instant at which it started, in µs and symbols, the bit index since which the
transmitter idles, and whether the transmitter has stopped until the output is next released (R217). Tracking (R202–R204):
the synthesiser's frequency word in sQ9.6 ppm, the filter behind INS_FOFS in 2^-32 of its code, the bits since the tracked
phase was last chosen, and the latest consecutive bits with a low TRACK. -/
structure InsLane where
  rampUp : Option Bool := none
  rampStep : Nat := 0
  rampAt : Nat := 0
  sending : Option InsTxFrame := none
  linkDue : Bool := false
  linkIdle : Bool := false
  linkAt : Nat := 0
  tseq : Nat := 0
  rxOk : Bool := false
  hold : Option Nat := none
  good : Option Nat := none
  expect : Nat := 0
  ackWait : Option Nat := none
  msgs : List InsMsg := []
  rx : List InsRx := []
  freeRx : List Nat := List.range 8
  search : Option Ticket := none
  searchAt : Nat := 0
  mismatch : Bool := false
  apart : Option Nat := none
  arr : Bool := false
  far : List Nat := []
  arrival : Nat := 0
  gridAt : Nat := 0
  gridSub : Nat := 0
  idleFrom : Nat := 0
  stopped : Bool := false
  synth : Int := 0
  fofsAcc : Int := 0
  bits : Nat := 0
  low : Nat := 0
  deriving DecidableEq, Repr
/-! ## Time service (spec/09_time_service.md) -/

/-- A time-of-day counter (R222) and its servo: the time in 2^-48 ns; the correction still to be slewed; the consecutive
offsets within ±20 ns and beyond ±200 ns (R224); the last 16 offsets in 2^-8 ns, newest first; the error estimate and the
time when LOCKED was left (R255); the times of the latest PPS_IN edge, HOST validity and insole exchange; for a follower
the consecutive offsets within ±100 ps, the latest exchange and the stamps of the primary's message (R229); whether
residence correction waits for its resumption, and since when (R228); whether an UNSET counter has been set (R225). -/
structure Clock where
  acc : Nat := 0
  slew : Int := 0
  near : Nat := 0
  far : Nat := 0
  offs : List Int := []
  err : Nat := 0xFFFF
  left : Option Nat := none
  pulse : Option Nat := none
  valid : Option Nat := none
  good : Nat := 0
  alignAt : Nat := 0
  t1 : Nat := 0
  t2 : Nat := 0
  resOff : Bool := false
  relockAt : Nat := 0
  set : Bool := false
  deriving DecidableEq, Repr

/-- A TIME_SET that waits for the next PPS_IN edge. -/
structure PendingSet where
  time : Nat
  valid : Bool
  waiter : Ticket
  deriving DecidableEq, Repr

/-- A two-step context (R244): its key, the residence it holds in 2^-16 ns, and when it was allocated. -/
structure Ctx where
  port : Nat
  fromHost : Bool
  delayResp : Bool
  domain : Nat
  seq : Nat
  ident : Nat
  res : Int
  born : Nat
  deriving DecidableEq, Repr

/-- A dispersion model (R250): λ0 and λ_ref in pm, S0 in 0.1 fs/(nm²·km), N_G × 10^7. -/
structure FibreModel where
  zero : Nat := 1312000
  slope : Nat := 920
  group : Nat := 14682000
  ref : Nat := 1310000
  deriving DecidableEq, Repr

/-- A fibre group's ranging (R252): the fitted lengths in mm, each line lane's d_in and d_out in 2^-4 ns, HELD, COARSE, G in
ps/km, the estimated error in 10 ps (R253), each lane's lowest TRACK in the window in dB, whether there is a result, when the latest one came and when the window began. -/
structure Ranging where
  lengthIn : Nat := 0
  lengthOut : Nat := 0
  dIn : List Nat := List.replicate 8 0
  dOut : List Nat := List.replicate 8 0
  held : Bool := false
  coarse : Bool := false
  spread : Nat := 0
  sigma : Nat := 0
  track : List Nat := []
  some_ : Bool := false
  at_ : Nat := 0
  window : Option Nat := none
  deriving DecidableEq, Repr

/-- A frame as a port's correction unit releases it: its bytes and whether its FCS is good. -/
structure FrameOut where
  bytes : List Nat := []
  fcsOk : Bool := true
  deriving DecidableEq, Repr

/-- A line lane's latest exchange (R248): when it completed, its round-trip fibre delay and θ, in 2^-16 ns. -/
structure Xch where
  at_ : Nat
  rtt : Int
  theta : Int
  deriving DecidableEq, Repr

/-- The time service: the two dies' counters; TIME_SETs that wait for an edge; the second that a NEXT message has labelled
the next edge with; whether the INSOLE source is usable; alignment messages on the core welt (from which die, sent when);
when the primary sent its latest;
per line lane the TSEQ and T_DEP of its last 16 TIMING frames and the far T_DEP and local T_ARR of the last 16 received, newest
first, its latest exchange, the host's asymmetry in ps, the wavelengths
(out, in) in pm; models by 2 × fibre + direction; ranging by fibre; contexts of the two dies, oldest first; per port the
timestamp queue, oldest first, and when it entered TWO_STEP; the frame each port and direction released latest, by
2 × port + (1 from the line); PPS_OUT's level and latest rise; the TIME messages sent, the latest one and when
it was sent. -/
structure TimeSt where
  clocks : List Clock := [{}, {}]
  pending : List PendingSet := []
  label : Option Nat := none
  usable : Bool := false
  flight : List (Nat × Nat) := []
  alignSent : Nat := 0
  sent : List (List (Nat × Nat)) := List.replicate 8 []
  seen : List (List (Nat × Nat)) := List.replicate 8 []
  xchs : List (Option Xch) := List.replicate 8 none
  asym : List Int := List.replicate 8 0
  wl : List (Option (Nat × Nat)) := List.replicate 8 none
  models : List (Nat × FibreModel) := []
  ranging : List Ranging := List.replicate 8 {}
  ctxs : List (List Ctx) := [[], []]
  tsq : List (List Wide) := List.replicate 8 []
  twoAt : List (Option Nat) := List.replicate 8 none
  out : List (Nat × FrameOut) := []
  ppsHigh : Bool := false
  ppsRise : Option Nat := none
  mseq : Nat := 0
  serial : List Nat := []
  serialAt : Option Nat := none
  deriving DecidableEq, Repr

/-! ## Host access, staging and security (spec/12_management.md) -/

/-- What an open staging region (window 2) is for (R326). -/
inductive StageUse where
  | pset (id : Nat) | firmware | token | calStore
  deriving DecidableEq, Repr

/-- An open staging region. -/
structure Stage where
  use : StageUse
  addr : Nat
  len : Nat
  deriving DecidableEq, Repr

/-- A registered module-maker key (R344). -/
structure Key where
  maker : Nat
  bytes : List Nat
  deriving DecidableEq, Repr

/-- A firmware slot as the boot record knows it (R338–R342). -/
structure FwSlot where
  valid : Bool := false
  version : Nat := 0
  svn : Nat := 0
  deriving DecidableEq, Repr

/-- The security store and the boot record, which survive power loss: keys by slot; whether Skogon key 0 is revoked; the
anti-rollback counter; the two firmware slots, the ACTIVE one, the PENDING one and whether it has been tried. A device leaves Skogon with Aqique 2.1 in slot A, slot B
invalid, the counter at the SVN of slot A's image and no key (R445). -/
structure SecSt where
  keys : List (Nat × Key) := []
  key0Revoked : Bool := false
  counter : Nat := Config.factorySvn.toNat
  slots : List FwSlot := [⟨true, 0x2010000 + Config.factoryBuild.toNat, Config.factorySvn.toNat⟩, {}]
  active : Nat := 0
  pending : Option Nat := none
  tried : Bool := false
  deriving DecidableEq, Repr

/-- Boot and authentication beside the security store: the total size of an open firmware update (R342), the events that
the boot noted (R339), the failed unlocks since power-up (R348) and whether the nonce is unused (R347). -/
structure BootSt where
  update : Option Nat := none
  notes : List Event := []
  fails : Nat := 0
  nonce : Bool := false
  startedAt : Nat := 0
  deriving DecidableEq, Repr


/-! ## Host interfaces (spec/12_management.md, R314–R324) -/

/-- The SPI frame that waits for a response: a READ with the address of the word it waits for, the words left with that
one and whether its request has been issued; or a STATUS. -/
inductive SpiFrame where
  | read (addr : Nat) (left : Nat) (issued : Bool)
  | status
  deriving DecidableEq, Repr

/-- The SPI target: words that wait for issue (R324), the frame that waits, and the bytes driven on SPI_MISO in the latest
frame, wait bytes left out. -/
structure SpiSt where
  posted : List (Nat × W32) := []
  frame : Option SpiFrame := none
  miso : List Nat := []
  deriving DecidableEq, Repr

/-- The I2C target: bank and page select (bytes 126, 127), the byte address that the next read starts at, EYELET_SEL of
page 0xB0, ADDR, DATA and byte 137 of page 0xBF with the access under way (whether it is a read), and the bytes of the
latest read. -/
structure I2cSt where
  bank : Nat := 0
  page : Nat := 0
  ptr : Nat := 0
  sel : Nat := 0
  addr : Nat := 0
  data : Nat := 0
  busy : Option Bool := none
  resp : Nat := 0
  done : Bool := false
  out : List Nat := []
  deriving DecidableEq, Repr


/-! ## The CMIS image (R314–R320) -/

/-- The management map as Aqique maintains it, by bank × 0x10000 + page × 0x100 + byte: the control and mask bytes that the
host has written, the monitors of the latest refresh, the latched flags; the module state and the data-path states of the
latest refresh; each host lane's ConfigStatus (0 none, 1 accepted, 2 rejected); the images of pages 0xB2–0xB4, by page ×
16 + bank. -/
structure CmisSt where
  ctl : List (Nat × Nat) := []
  mon : List (Nat × Nat) := []
  flags : List (Nat × Nat) := []
  device : Nat := 0
  states : List Nat := List.replicate 16 0
  status : List Nat := List.replicate 16 0
  images : List (Nat × List Nat) := []
  deriving DecidableEq, Repr

/-! ## The calibration store (spec/13_integrity_and_records.md, R370–R378) -/

/-- An entry of the store (R371): its type, its index and its data bytes. -/
structure CalEntry where
  kind : Nat
  index : Nat
  data : List Nat
  deriving DecidableEq, Repr

/-- A store that PFAIL_N made Aqique abandon while power holds (R373): its bank, its SEQ, and who waits. -/
structure Abandoned where
  bank : Nat
  seq : Nat
  waiter : Ticket
  deriving DecidableEq, Repr

/-- The loaded store: its entries, its bank and SEQ (none where no bank was valid), and which banks are valid; a store
abandoned since; and the banks whose abandonment has been reported at completion (R374). -/
structure CalSt where
  entries : List CalEntry := []
  loaded : Option (Nat × Nat) := none
  valid0 : Bool := false
  valid1 : Bool := false
  abandoned : Option Abandoned := none
  reported : List Nat := []
  deriving DecidableEq, Repr

/-! ## The counter reader (spec/05_lasts_and_counters.md, R140, R141) -/

/-- The reader's run: its list and COUNT, the entry whose response is awaited, the MCLK cycles since its first entry was
issued, and who waits for its end. -/
structure ReaderSt where
  list : Nat := 0
  count : Nat := 0
  index : Nat := 0
  elapsed : Nat := 0
  waiter : Option Ticket := none
  deriving DecidableEq, Repr

/-! ## The event recorder (spec/13_integrity_and_records.md, R379–R389) -/

/-- An event in the input FIFO: the recorder clock when it entered, in ns, and whether that clock was not aligned yet. -/
structure FifoEntry where
  ev : Event
  time : Nat := 0
  rel : Bool := true
  deriving DecidableEq, Repr

/-- Events dropped since the latest summary (R382). -/
structure Drops where
  count : Nat
  map : Nat
  first : Nat
  last : Nat
  deriving DecidableEq, Repr

/-- A record in staging: its SEQ, severity and code, and when it was staged. -/
structure Staged where
  seq : Nat
  sev : Nat
  code : Nat
  at_ : Nat
  deriving DecidableEq, Repr

/-- The recorder: input FIFO, oldest first; dropped events without a summary; unflushed records, oldest first; the
records in the ring by slot and SEQ, oldest first; the slot written next; the SEQ given next; a flush under way; when the
ring was written latest; the limit of a freeze and its start; the times of the latest uncorrectable staging reads; what
the recorder clock shows beyond the time since reset, in ns, whether it has not been aligned since power-up, and when
it was; and the used emergency slots, oldest first. -/
structure EvrSt where
  fifo : List FifoEntry := []
  drops : Option Drops := none
  staged : List Staged := []
  ring : List (Nat × Nat) := []
  place : Nat := 0
  next : Nat := 0
  flushing : Bool := false
  written : Option Nat := none
  limit : Nat := 0
  frozenAt : Nat := 0
  bad : List Nat := []
  clock : Int := 0
  rel : Bool := true
  aligned : Option Nat := none
  emg : List Nat := []
  deriving DecidableEq, Repr


/-! ## The state -/

/-- A bus master's snapshot of one wide quantity (R8). A counter of a port's shadow bank is a quantity of its own (R164). -/
structure Snap where
  master : Master
  key : RKey
  shadow : Bool
  words : Wide
  deriving DecidableEq, Repr

/-- The state of the block.

`pending` holds the commands that wait, first in, first out. `now` is the time in µs since reset; it advances when the
block idles. `freeIx` is the model's own counter: every value the spec leaves open is `Config.freeValue` of it.
`regs`, `cnts` and `wides` hold the 32-bit registers, the 48-bit counters and the other wide RS quantities that differ
from their reset value. `mem` holds the 72-bit words written since reset, by byte address. `events` are the event
records on their way to the recorder. `onDie` holds the credits of the islands' handshake channels that differ from full pools
(R26), by twice the island ID, plus 1 for the direction out of the island. -/
structure State where
  pending : List Instr := []
  now : Nat := 0
  freeIx : Nat := 0
  regs : List (RKey × W32) := []
  cnts : List (RKey × W48) := []
  wides : List (RKey × Wide) := []
  mem : List (Nat × W72) := []
  islands : List (Nat × IslandSt) := []
  events : List Event := []
  offLogged : List Nat := []
  rate : List (Nat × Nat) := []
  snaps : List Snap := []
  replies : List (Nat × BusReply) := []
  waiting : List Request := []
  links : List Link := [{}, {}, {}]
  onDie : List (Nat × Channel) := []
  draining : List Drain := []
  pllArmed : List Nat := [0, 0, 0]
  mode : ModeSt := {}
  mbx : MbxSt := {}
  inits : List Init := []
  pwr : PwrSt := { seqs := [{ num := 1 }] }
  sensors : List Sensor := List.replicate 24 {}
  life : LifeSt := {}
  aqReplies : List (Nat × Reply) := []
  ctl : MemSt := {}
  opt : OptSt := {}
  mon : MonSt := {}
  lines : List LineLane := List.replicate 8 {}
  psets : List PSet := []
  racks : List (Nat × RackSt) := []
  lasts : List (Nat × Last) := []
  fec : List FecPort := List.replicate 8 {}
  shadow : List (RKey × W48) := []
  fenced : List Nat := []
  hosts : List HostLane := List.replicate 16 {}
  ins : List InsLane := List.replicate 8 {}
  time : TimeSt := {}
  boot : BootSt := {}
  stage : Option Stage := none
  sec : SecSt := {}
  denied : List Nat := []
  spi : SpiSt := {}
  i2c : I2cSt := {}
  cmis : CmisSt := {}
  cal : CalSt := {}
  reader : ReaderSt := {}
  evr : EvrSt := {}
  deriving DecidableEq, Repr

/-- The machine right after reset: every field at the value the spec gives, the rest at the values the assumption log
names. -/
def State.reset : State := {}

end Sys2Proof.Machine
end

