-- ==== Sys2Proof/Machine/Ops.lean ====
section
/-!
DEFINITION. Sys2Proof/Machine/Ops.lean: the named operations over registers, counters, memory words, islands, events
and free values.
-/

namespace Sys2Proof.Machine

/-! ## Registers -/

/-- The stored value of a register. -/
def State.reg (s : State) (r : Reg) (u : Nat := 0) (i : Nat := 0) : W32 :=
  lookup (r.reset i) ⟨r, u, i⟩ s.regs

/-- Store a register's value. -/
def State.setReg (s : State) (r : Reg) (v : W32) (u : Nat := 0) (i : Nat := 0) : State :=
  { s with regs := writeAt RKey.lt (r.reset i) ⟨r, u, i⟩ v s.regs }

/-- The value of a field. -/
def State.fld (s : State) (f : Fld) (u : Nat := 0) (i : Nat := 0) : Nat :=
  getBits (s.reg f.reg u i) f.lo f.w

/-- Write a field; a value too wide for it loses its upper bits. -/
def State.put (s : State) (f : Fld) (v : Nat) (u : Nat := 0) (i : Nat := 0) : State :=
  s.setReg f.reg (setBits (s.reg f.reg u i) f.lo f.w v) u i

/-- Whether a one-bit field is set. -/
def State.flag (s : State) (f : Fld) (u : Nat := 0) (i : Nat := 0) : Bool := s.fld f u i == 1

/-- Write a one-bit field. -/
def State.putFlag (s : State) (f : Fld) (v : Bool) (u : Nat := 0) (i : Nat := 0) : State :=
  s.put f (b2n v) u i

/-- Set a cause or status bit. -/
def State.raise (s : State) (f : Fld) (u : Nat := 0) (i : Nat := 0) : State := s.put f 1 u i

/-- The signed value of a field. -/
def State.sfld (s : State) (f : Fld) (u : Nat := 0) (i : Nat := 0) : Int := signed f.w (s.fld f u i)

/-- Bit `n` of a register. -/
def State.bit (s : State) (r : Reg) (n : Nat) (u : Nat := 0) : Bool := getBits (s.reg r u) n 1 == 1

/-- Write bit `n` of a register. -/
def State.putBit (s : State) (r : Reg) (n : Nat) (v : Bool) (u : Nat := 0) : State :=
  s.setReg r (setBits (s.reg r u) n 1 (b2n v)) u

/-- A wide RS quantity that is no counter. -/
def State.wide (s : State) (r : Reg) (u : Nat := 0) (i : Nat := 0) : Wide :=
  lookup 0 ⟨r, u, i⟩ s.wides

/-- Write a wide RS quantity. -/
def State.setWide (s : State) (r : Reg) (v : Wide) (u : Nat := 0) (i : Nat := 0) : State :=
  { s with wides := writeAt RKey.lt 0 ⟨r, u, i⟩ v s.wides }

/-- A counter. -/
def State.cnt (s : State) (r : Reg) (u : Nat := 0) (i : Nat := 0) : W48 :=
  lookup 0 ⟨r, u, i⟩ s.cnts

/-- Write a counter. -/
def State.setCnt (s : State) (r : Reg) (v : W48) (u : Nat := 0) (i : Nat := 0) : State :=
  { s with cnts := writeAt RKey.lt 0 ⟨r, u, i⟩ v s.cnts }

/-! ## Events, rate limits, free values -/

/-- Severity Information. -/
def sevInfo : Nat := 0

/-- Severity Warning. -/
def sevWarn : Nat := 1

/-- Severity Error. -/
def sevErr : Nat := 2

/-- Send an event record to the recorder (R378). It arrives by the row EVENT_RECORD_ARRIVAL. -/
def State.log (s : State) (code sev : Nat) (p0 p1 p2 p3 : Nat := 0) : State :=
  { s with events := s.events ++ [⟨code, sev, p0, p1, p2, p3, none⟩] }

/-- Whether an event limited to once per second for an object may be logged now. -/
def State.rateOk (s : State) (code obj : Nat) : Bool :=
  match s.rate.find? (fun p => p.1 == code * 0x100000000 + obj) with
  | none => true
  | some (_, t) => decide (1000000 ≤ s.now - t)

/-- Log an event at most once per second per object. -/
def State.logRate (s : State) (obj code sev : Nat) (p0 p1 p2 p3 : Nat := 0) : State :=
  if s.rateOk code obj then
    { s.log code sev p0 p1 p2 p3 with
      rate := insertAt natLt (code * 0x100000000 + obj) s.now s.rate }
  else s

/-- Take a value the spec leaves open, and move on to the next. -/
def State.free (s : State) : Nat × State := (Config.freeValue s.freeIx, { s with freeIx := s.freeIx + 1 })

/-! ## Counters (R135) -/

/-- The SAT cause of an error-statistics counter and the unit its register belongs to; none for a performance counter. -/
def satField (r : Reg) (u : Nat) : Option (Fld × Nat) :=
  match r with
  | .WELT_CORR_CNT | .WELT_REPLAY_CNT => some (WELT_CAUSE.SAT, u)
  | .LRX_SIG_LOSS_CNT | .LRX_CDR_UNLOCK_CNT | .LRX_CAL_ABORT_CNT => some (LRX_CAUSE.SAT, u)
  | .LTX_CLIP_CNT | .LTX_CAL_ABORT_CNT | .LTX_LB_SLIP_CNT | .LTX_CHK_ERR_CNT => some (LTX_CAUSE.SAT, u)
  | .RACK_TW_OVR_CNT => some (RACK_CAUSE.SAT, u)
  | .FEC_LCW_CORR_CNT | .FEC_LCW_UNCORR_CNT | .FEC_LSYM_CORR_CNT | .FEC_LCW_HIST_CNT | .FEC_LL_SYM_CNT
  | .FEC_INNER_CORR_CNT | .FEC_INNER_UNCORR_CNT | .FEC_AM_LOSS_CNT | .FEC_HCW_CORR_CNT | .FEC_HCW_UNCORR_CNT
  | .FEC_HSYM_CORR_CNT | .FEC_HL_SYM_CNT | .FEC_SKEW_OVER_CNT | .FEC_SLIP_CNT | .FEC_WAKE_DROP_CNT
  | .FEC_FCS_ERR_CNT => some (FEC_CAUSE.SAT (u % 4), 1 + u / 4)
  | .HL_SIG_LOSS_CNT | .HL_CDR_UNLOCK_CNT | .HL_CHK_ERR_CNT | .HL_LB_SLIP_CNT => some (HL_CAUSE.SAT, u)
  | .INS_CRC_ERR_CNT | .INS_HDR_ERR_CNT | .INS_SYNC_CAPTURED_CNT | .INS_LOCK_LOSS_CNT | .INS_MSG_RETX_CNT
  | .INS_MSG_FAIL_CNT | .INS_RX_DROP_CNT => some (INS_CAUSE.SAT (u % 4), 1 + u / 4)
  | .TIME_ALIGN_LOSS_CNT | .TIME_TODRX_ERR_CNT => some (TIME_CAUSE.SAT, u)
  | .TIME_CTX_EXPIRE_CNT | .TIME_CTX_EVICT_CNT | .TIME_ORPHAN_CNT | .TIME_DISCARD_CNT | .TIME_RES_CHECK_CNT
  | .TIME_CF_SAT_CNT => some (TIME_CAUSE.SAT, 1 + u / 4)
  | .MON_SKIP_CNT | .MON_CHK_FAIL_CNT => some (MON_CAUSE.SAT, 0)
  | .MBX_TIMEOUT_CNT | .MBX_DB_REJ_CNT => some (MBX_CAUSE.SAT, 0)
  | .HIF_ACCESS_CNT | .HIF_SPI_OVR_CNT => some (HIF_CAUSE.SAT, 0)
  | .SEC_AUTH_FAIL_CNT => some (SEC_CAUSE.SAT, 0)
  | .MEM_CORR_CNT | .MEM_UNCORR_CNT => some (MEM_CAUSE.SAT (u % 8), u / 8)
  | .EVR_DROP_CNT => some (EVR_CAUSE.SAT, 0)
  | .PWR_RETRY_CNT => some (PWR_CAUSE.SAT, 0)
  | _ => none

/-- The largest value of a counter. -/
def cntMax : Nat := 2 ^ 48 - 1

/-- The performance counter's side of a wrap: the bank's overflow bit, or the die's CNT cause bit OVF, and CNT_OVERFLOW
at most once per second per island (R135, R142). -/
def State.cntOverflow (s : State) (r : Reg) (u i : Nat) : State :=
  match counterHome ⟨r, u, i⟩ with
  | none => s
  | some (b, a) =>
    let s :=
      if r = .CNT_VAL then s.setReg .CNT_BANK_OVF (setBits (s.reg .CNT_BANK_OVF u) i 1 1) u else s
    let s :=
      if b.die = 0 then s.raise CNT_CAUSE.OVF else s.raise CNT_DIE_CAUSE.OVF b.die
    s.logRate b.island 0x1301 sevInfo b.island a

/-- Count `n` in a counter: an error-statistics counter saturates at all-ones and the count that brings it there sets
SAT; a performance counter wraps (R135). -/
def State.inc (s : State) (r : Reg) (u : Nat := 0) (i : Nat := 0) (n : Nat := 1) : State :=
  let v := (s.cnt r u i).toNat
  match satField r u with
  | some (f, fu) =>
    if v = cntMax ∨ n = 0 then s
    else if v + n < cntMax then s.setCnt r (BitVec.ofNat 48 (v + n)) u i
    else (s.setCnt r (BitVec.ofNat 48 cntMax) u i).raise f fu
  | none =>
    if v + n ≤ cntMax then s.setCnt r (BitVec.ofNat 48 (v + n)) u i
    else (s.setCnt r (BitVec.ofNat 48 (v + n)) u i).cntOverflow r u i

/-- Add one to a count field of a status register, which saturates without a cause (R135). -/
def State.bump (s : State) (f : Fld) (u : Nat := 0) (i : Nat := 0) : State :=
  s.put f (satN f.w (s.fld f u i + 1)) u i

/-! ## Islands -/

/-- The islands that run right after reset: the always-on and welt islands of every die and the islands of MGMT
(R397, BOOT). The others are off. -/
def islandReset (id : Nat) : IslandSt :=
  if id < 0x10 then .on
  else if id % 0x1000 ≤ 1 then .on
  else .powerOff

/-- The state of an island. -/
def State.island (s : State) (id : Nat) : IslandSt := lookup (islandReset id) id s.islands

/-- Whether the register file of an island has power: it has in every state but off (R16). -/
def State.powered (s : State) (id : Nat) : Bool := s.island id != .powerOff

/-- Change the state of an island. -/
def State.setIsland (s : State) (id : Nat) (v : IslandSt) : State :=
  { s with islands := writeAt natLt (islandReset id) id v s.islands }

/-- The requests that an island has accepted and whose responses have not left (R35). -/
def State.accepted (s : State) (id : Nat) : List Request :=
  s.waiting.filter (fun r => r.got.isSome && (blockAt r.addr).any (fun b => b.1.island == id))

/-- An island turns on, off or into doze. One that holds accepted requests stops accepting others, and is in transition until
they have their responses or 1 µs has passed (R35). -/
def State.turnIsland (s : State) (id : Nat) (v : IslandSt) : State :=
  let others := s.draining.filter (fun d => d.island != id)
  let since := match s.draining.find? (fun d => d.island == id) with | some d => d.since | none => s.now
  if v = .on ∨ v = .transition ∨ s.island id = v ∨ s.accepted id = [] then { s.setIsland id v with draining := others }
  else { s.setIsland id .transition with draining := ⟨id, v, since⟩ :: others }

/-- The islands whose last accepted request has its response go where they were turned. -/
def State.settleDrains (s : State) : State :=
  s.draining.foldl (fun (s : State) d => if s.accepted d.island = [] then s.turnIsland d.island d.target else s) s

/-! ## Memory words -/


/-- Store the 72-bit word at a byte address. -/
def State.setWord (s : State) (a : Nat) (w : W72) : State := { s with mem := insertAt natLt a w s.mem }

/-- A word with its check bits (R353). -/
def protect (d : W64) : W72 := Config.secded d ++ d

/-- LENGTH of the image in slot A when the device leaves Skogon (R338, R445). -/
def factoryLen : Nat := 0x20 + 8 * (Config.factoryHead 0 % 131069)

/-- LOAD of that image. -/
def factoryLoad : Nat := 0x1000000 + Config.factoryHead 1 % (0x100001 - factoryLen)

/-- VERSION of that image: Aqique 2.1 (R445). -/
def factoryVersion : Nat := 0x2010000 + Config.factoryBuild.toNat

/-- Word `i` of that image: its header (R338), then its bytes. -/
def factoryWord (i : Nat) : W64 :=
  match i with
  | 0 => BitVec.ofNat 64 (0x149515141 + (Config.factoryHead 2 % 2) * 2 ^ 48)
  | 1 => BitVec.ofNat 64 (factoryVersion + Config.factorySvn.toNat * 2 ^ 32)
  | 2 => BitVec.ofNat 64 (factoryLen + factoryLoad * 2 ^ 32)
  | 3 => BitVec.ofNat 64 (factoryLoad + Config.factoryHead 3 % factoryLen)
  | n => Config.factoryImage n

/-- A word whose lower half is not `magic`. -/
def withoutMagic (magic : Nat) (w : W64) : W64 := if w.toNat % 2 ^ 32 = magic then 0 else w

/-- What an unlisted word reads as. Slot A of MRAM holds an image, slot B and the two banks of the calibration store are
empty (R445); every other word is open (R358). -/
def unlistedWord (a : Nat) : W72 :=
  if 0x2000000 ≤ a ∧ a < 0x2000000 + factoryLen + 96 then protect (factoryWord ((a - 0x2000000) / 8))
  else if a = 0x2200000 then protect (withoutMagic 0x49515141 ((Config.unwritten a).setWidth 64))
  else if a = 0x2600000 ∨ a = 0x2680000 then protect (withoutMagic 0x4C414353 ((Config.unwritten a).setWidth 64))
  else Config.unwritten a

/-- The 72-bit word at a byte address: what was last written, the open value an initialisation left, or what a word that
nothing has written reads as. -/
def State.word (s : State) (a : Nat) : W72 :=
  match s.mem.find? (fun p => p.1 == a) with
  | some (_, w) => w
  | none =>
    match s.inits.find? (fun r => decide (r.lo ≤ a) && decide (a < r.hi)) with
    | some r => protect (if r.zero then 0 else Config.initValue r.ix a)
    | none => unlistedWord a

/-- What is left of a range without [lo, hi). -/
def Init.cut (r : Init) (lo hi : Nat) : List Init :=
  [{ r with hi := min r.hi lo }, { r with lo := max r.lo hi }].filter (fun x => decide (x.lo < x.hi))

/-- The words of [lo, hi) lose their contents, and the memory controllers their entries for them (R360: an island that is
off; R362: a full write). -/
def State.dropRange (s : State) (lo hi : Nat) : State :=
  { s with
    mem := s.mem.filter (fun p => decide (p.1 < lo) || decide (hi ≤ p.1))
    inits := s.inits.flatMap (fun r => r.cut lo hi)
    ctl := { s.ctl with trackers := s.ctl.trackers.map (fun t => t.filter (fun p => decide (p.1 < lo) || decide (hi ≤ p.1))) } }

/-- Aqique writes every word of [lo, hi), with contents the spec does not state. -/
def State.initRange (s : State) (lo hi : Nat) : State :=
  let s := s.dropRange lo hi
  { s with inits := ⟨lo, hi, s.freeIx, false⟩ :: s.inits, freeIx := s.freeIx + 1 }

/-- Aqique writes 0 to every word of [lo, hi). -/
def State.zeroRange (s : State) (lo hi : Nat) : State :=
  let s := s.dropRange lo hi
  { s with inits := ⟨lo, hi, 0, true⟩ :: s.inits }

/-- The registers, counters and wide quantities of a unit return to their reset values: its register file is not
powered (R16 keeps it powered in doze only). -/
def State.wipe (s : State) (rows : List LRow) (u : Nat) : State :=
  let keep (k : RKey) : Bool := k.u != u || !(rows.any (fun r => r.reg == k.reg))
  { s with regs := s.regs.filter (fun p => keep p.1), cnts := s.cnts.filter (fun p => keep p.1),
           wides := s.wides.filter (fun p => keep p.1) }

/-- The data bits of a word. -/
def dataOf (w : W72) : W64 := w.extractLsb' 0 64

/-- A poisoned word: its syndrome is 0x03 (R357). -/
def poisoned (d : W64) : W72 := (Config.secded d ^^^ 3) ++ d

/-- What the checker finds in a word (R354). -/
inductive WordClass where
  | clean (d : W64) | corrected (d : W64) | poison | uncorrectable
  deriving DecidableEq, Repr

/-- The classification of R354 by syndrome: 0 clean, 0x03 poisoned, an even weight uncorrectable, an odd weight the bit
it names, or uncorrectable where it names none. -/
def classify (w : W72) : WordClass :=
  let d := dataOf w
  let syn := (w.extractLsb' 64 8) ^^^ Config.secded d
  if syn = 0 then .clean d
  else if syn = 3 then .poison
  else if popcount 8 syn.toNat % 2 = 0 then .uncorrectable
  else
    match Config.errorBit syn with
    | none => .uncorrectable
    | some n => .corrected (if n < 64 then d ^^^ (1 <<< n) else d)

/-! ## Bus masters (R24, R25) -/

/-- The SRC number of a master. -/
def srcId : Master → Nat
  | .cobbler => 0
  | .spi => 1
  | .i2c => 2
  | .dma => 3
  | .jtag => 7

/-- The response a master got for its latest request. -/
def State.reply (s : State) (m : Master) : BusReply := lookup {} (srcId m) s.replies

/-- Answer a master's request. -/
def State.respond (s : State) (m : Master) (r : Resp) (lo hi : W32 := 0) : State :=
  { s with replies := writeAt natLt {} (srcId m) { resp := r, lo := lo, hi := hi } s.replies }

/-- The OFF response with its read data (R25). -/
def State.respondOff (s : State) (m : Master) : State := s.respond m .off 0xB10C0FF0

/-! ## Mailbox commands (R329–R335) -/

/-- An eyelet. -/
def State.eyelet (s : State) (e : Nat) : Eyelet := lookup {} e s.mbx.eyelets

/-- Change an eyelet. -/
def State.setEyelet (s : State) (e : Nat) (v : Eyelet) : State :=
  { s with mbx := { s.mbx with eyelets := writeAt natLt {} e v s.mbx.eyelets } }

/-- Byte `n` of a descriptor. -/
def descByte (d : BitVec 256) (n : Nat) : Nat := byteOf d.toNat n

/-- The parameter area of a descriptor, bytes 8–31. -/
structure Params where
  bits : Nat
  deriving DecidableEq, Repr

/-- The parameters of a descriptor. -/
def paramsOf (d : BitVec 256) : Params := ⟨d.toNat >>> 64⟩

/-- Byte `n` of the parameter area. -/
def Params.byte (p : Params) (n : Nat) : Nat := byteOf p.bits n

/-- A 16-bit field of the parameter area. -/
def Params.half (p : Params) (n : Nat) : Nat := (p.bits >>> (8 * n)) % 2 ^ 16

/-- A 32-bit field of the parameter area. -/
def Params.wordAt (p : Params) (n : Nat) : Nat := (p.bits >>> (8 * n)) % 2 ^ 32

/-- A 64-bit field of the parameter area. -/
def Params.dword (p : Params) (n : Nat) : Nat := (p.bits >>> (8 * n)) % 2 ^ 64

/-- Whether bytes `n` to 23 of the parameter area are 0. -/
def Params.zeroFrom (p : Params) (n : Nat) : Bool := decide ((p.bits % 2 ^ 192) >>> (8 * n) = 0)

/-- What a command's handler answers: a completion, or that it completes later. -/
inductive Answer where
  | done (r : Reply)
  | later
  deriving DecidableEq, Repr

/-- Success with two result words. -/
def okWith (r0 r1 : Nat := 0) : Answer := .done ⟨0, r0, r1⟩

/-- A status code other than success. -/
def failWith (code : Nat) (r0 r1 : Nat := 0) : Answer := .done ⟨code, r0, r1⟩

/-- 0x0101 FIELD_RANGE. -/
def fieldRange : Answer := failWith 0x0101

/-- A command's handler: its parameters, who waits for it and the state. -/
abbrev Handler := Params → Ticket → State → Answer × State

/-- Record the completion of a command for whoever waits for it: Aqique, or its eyelet, if that still runs the same acceptance
(R335: a later result is discarded). -/
def State.finish (s : State) (t : Ticket) (r : Reply) : State :=
  if t.aqique then { s with aqReplies := insertAt natLt t.eyelet r s.aqReplies }
  else
    let e := s.eyelet t.eyelet
    if e.st = .running ∧ e.serial = t.serial ∧ e.reply = none then s.setEyelet t.eyelet { e with reply := some r }
    else s

/-- Whether a fault has stopped the cobbler (R400: MPLL loss, lockstep). -/
def State.cobblerStopped (s : State) : Bool :=
  s.fld PWR_STATE.STATE == 5 && (s.fld PWR_FAULT_INFO.REASON == 2 || s.fld PWR_FAULT_INFO.REASON == 4)

/-- Whether Aqique runs: it has booted, and nothing has stopped the cobbler. -/
def State.aqiqueRuns (s : State) : Bool := s.flag MBX_STAT.READY && !(s.cobblerStopped)

/-- Whether the command of an eyelet is the next of its class: no command of the class accepted before it is still to be
handled, so that it sees the state each of them established (R332). Commands of other classes run in any order. -/
def State.turnOf (s : State) (e : Nat) : Bool :=
  let y := s.eyelet e
  !(s.mbx.eyelets.any (fun p => (p.2.st == .submitted || p.2.st == .running) && !p.2.started && p.2.reply.isNone &&
    descByte p.2.desc 2 == descByte y.desc 2 && decide (p.2.serial < y.serial)))

/-- Aqique runs the handler of a command that its eyelet has begun, whose turn it is and whose handler has not been started.
An eyelet in any other state, or with another command, leaves the state as it is. -/
def State.runCmd (s : State) (e cls cmd : Nat) (h : Handler) : State :=
  let y := s.eyelet e
  if s.aqiqueRuns ∧ s.turnOf e ∧ y.st = .running ∧ y.started = false ∧ y.reply = none ∧ descByte y.desc 2 = cls ∧ descByte y.desc 3 = cmd then
    let t : Ticket := ⟨e, y.serial, false⟩
    match h (paramsOf y.desc) t (s.setEyelet e { y with started := true }) with
    | (.done r, s') => s'.finish t r
    | (.later, s') => s'
  else s

/-! ## Pins and the device state -/

/-- The die whose always-on island owns an event of a die. -/
def alwaysOn (die : Nat) : Nat := islandId die 0

end Sys2Proof.Machine
end

