-- ==== Sys2Proof/Machine/Perf.lean ====
section
/-!
DEFINITION. Sys2Proof/Machine/Perf.lean: the programmable counters of an island (R135, R136).
-/

namespace Sys2Proof.Machine

/-- What the filters of R136 look at. A filter that does not apply to an event finds `none`. -/
structure PerfTag where
  master : Option Nat := none
  cls : Option Nat := none
  addr : Option Nat := none
  last : Option Nat := none
  user : Option Bool := none
  deriving DecidableEq, Repr

/-- The MASTER, CLASS, ADDR and LAST filters of counter `n` of an island's bank. -/
def State.perfMatch (s : State) (u n : Nat) (g : PerfTag) : Bool :=
  (match g.master with
    | none => true
    | some m => s.fld CNT_SEL.MASTER u n == 0 || bitOf (s.fld CNT_SEL.MASTER u n) m) &&
  (match g.cls with
    | none => true
    | some c => s.fld CNT_SEL.CLASS u n == 0 || bitOf (s.fld CNT_SEL.CLASS u n) c) &&
  (match g.addr with
    | none => true
    | some a => !(s.flag CNT_SEL.ADDR_FILT u n) ||
        (decide ((s.reg .CNT_ADDR_LO u).toNat ≤ a) && decide (a ≤ (s.reg .CNT_ADDR_HI u).toNat))) &&
  (match g.last with
    | none => true
    | some l => s.flag CNT_SEL.ALL_LASTS u n || s.fld CNT_SEL.LAST u n == l)

/-- The PRIV filter of counter `n`; what code 3 selects is open. -/
def State.perfPriv (s : State) (u n : Nat) (g : PerfTag) : Bool × State :=
  match g.user with
  | none => (true, s)
  | some user =>
    match s.fld CNT_SEL.PRIV u n with
    | 0 => (true, s)
    | 1 => (user, s)
    | 2 => (!user, s)
    | _ => let (x, s) := s.free; (x % 2 == 1, s)

/-- Count `k` occurrences of an event in counter `n` of an island's bank. -/
def State.perfOne (s : State) (u code : Nat) (g : PerfTag) (k n : Nat) : State :=
  if bitOf (s.fld CNT_BANK_CTL.EN u) n ∧ s.fld CNT_SEL.EVENT u n = code ∧ s.perfMatch u n g then
    let (ok, s) := s.perfPriv u n g
    if ok then s.inc .CNT_VAL u n k else s
  else s

/-- Count `k` occurrences of an event in every counter of an island's bank that selects it. -/
def State.perf (s : State) (u code : Nat) (g : PerfTag := {}) (k : Nat := 1) : State :=
  if s.fld CNT_BANK_CTL.EN u = 0 then s
  else (List.range 8).foldl (fun s n => s.perfOne u code g k n) s

end Sys2Proof.Machine
end

