-- ==== Sys2Proof/Machine/Access.lean ====
section
/-!
DEFINITION. Sys2Proof/Machine/Access.lean: which writes the host masters may make to memories (R325, R326), staging
regions, and how a request is answered (R25, R34, R36, R447).
-/

namespace Sys2Proof.Machine

/-- Whether an open window permits a master's write to an address (R326). -/
def State.windowOpen (s : State) (m : Master) (a : Nat) : Bool :=
  (List.range 8).any fun w =>
    s.flag HIF_WIN_BASE.EN 0 w &&
    (match m with
      | .spi => s.flag HIF_WIN_BASE.SPI 0 w
      | .i2c => s.flag HIF_WIN_BASE.I2C 0 w
      | _ => false) &&
    decide (8 * s.fld HIF_WIN_BASE.BASE 0 w ≤ a) && decide (a ≤ 8 * s.fld HIF_WIN_LIMIT.LIMIT 0 w + 7)

/-- The range that the boot ROM opens in recovery (R341). -/
def State.recoveryOpen (s : State) (a : Nat) : Bool :=
  s.flag SEC_STAT.RECOVERY && decide (0x1000000 ≤ a) && decide (a < 0x1100100)

/-- Whether a master may write a memory address: the host masters within a window or in recovery, the debug master at
level CONTROL (R346), the others always. -/
def State.mayWriteMem (s : State) (m : Master) (a : Nat) : Bool :=
  match m with
  | .spi | .i2c => s.windowOpen m a || s.recoveryOpen a
  | .jtag => s.fld SEC_STAT.DEBUG_LEVEL == 2
  | _ => true

/-! ## Answers (R25, R34, R36, R447) -/

/-- The RESP codes (R25). -/
def respCode : Resp → Nat
  | .ok => 0
  | .off => 1
  | .dataErr => 2
  | .decode => 3
  | .timeout => 4
  | .access => 5

/-- The island a response to an address is captured under: the addressed block's, or the die's always-on island (R447). -/
def answerIsland (a : Nat) : Nat :=
  match blockAt a with
  | some (b, _) => b.island
  | none => alwaysOn (a / 0x10000000)

/-- The first response other than OK to an address of a core die since capture was re-armed (R447). -/
def State.capture447 (s : State) (m : Master) (a : Nat) (r : Resp) : State :=
  let d := a / 0x10000000
  if r = .ok ∨ (d ≠ 1 ∧ d ≠ 2) ∨ s.flag WELT_ERR_INFO.VALID d then s
  else
    (s.setReg .WELT_ERR_ADDR (BitVec.ofNat 32 a) d).setReg .WELT_ERR_INFO
      (BitVec.ofNat 32 (respCode r + 16 * srcId m + 256 * answerIsland a + 2 ^ 31)) d

/-- The capture of the first response other than OK to the SPI target (R324). -/
def State.captureSpi (s : State) (m : Master) (a : Nat) (r : Resp) : State :=
  if m ≠ .spi ∨ r = .ok ∨ s.flag HIF_SPI_STAT.ERR then s
  else
    let s := (s.put HIF_SPI_STAT.RESP (respCode r)).raise HIF_SPI_STAT.ERR
    (s.setReg .HIF_SPI_ERR_ADDR (BitVec.ofNat 32 a)).raise HIF_CAUSE.SPI_ERR

/-- Answer a request to an address. -/
def State.answer (s : State) (m : Master) (a : Nat) (r : Resp) (lo hi : W32 := 0) : State :=
  ((s.capture447 m a r).captureSpi m a r).respond m r lo hi

/-- Why a gate answers OFF (R36). -/
def offReason (st : IslandSt) : Nat :=
  match st with
  | .clockOff => 1
  | .powerOff => 2
  | .transition => 3
  | _ => 4

/-- A gate's OFF (R34): the bank counts it, and the first for each island after a reset is logged (R36). -/
def State.gateOff (s : State) (m : Master) (op a : Nat) : State :=
  let i := answerIsland a
  let s := s.perf i 0x04 { master := some (srcId m), addr := some a }
  if s.offLogged.contains i then s
  else ({ s with offLogged := s.offLogged ++ [i] }).log 0x1001 sevInfo a (srcId m + 256 * op) (offReason (s.island i)) i

/-- A write not permitted to its master: ACCESS. A refused host write is counted, and reported for the first of each
master after a reset (R325). -/
def State.refuse (s : State) (m : Master) (a : Nat) : State :=
  let s := (s.captureSpi m a .access).respond m .access
  if m = .spi ∨ m = .i2c then
    let s := (s.raise HIF_CAUSE.ACCESS).inc .HIF_ACCESS_CNT
    if s.denied.contains (srcId m) then s
    else ({ s with denied := s.denied ++ [srcId m] }).log 0x0E04 sevWarn a (srcId m)
  else s

/-- Open a window, with the flags of HIF_WIN_BASE. -/
def State.openWindow (s : State) (w base limit flags : Nat) : State :=
  let s := (s.setReg .HIF_WIN_BASE (BitVec.ofNat 32 (base + flags)) 0 w).setReg .HIF_WIN_LIMIT (BitVec.ofNat 32 limit) 0 w
  s.put HIF_STAT.WIN_EN (bitsWhere (fun n => bitOf (s.fld HIF_STAT.WIN_EN) n || n == w) 8)

/-- Close a window. -/
def State.closeWindow (s : State) (w : Nat) : State :=
  let s := s.put HIF_WIN_BASE.EN 0 0 w
  s.put HIF_STAT.WIN_EN (bitsWhere (fun n => bitOf (s.fld HIF_STAT.WIN_EN) n && n != w) 8)

/-- Open window 2 for both host masters on a fresh staging region of MGMT SRAM, each word of which Aqique has written
(R326, R342). Where it lies is open. -/
def State.openStage (s : State) (use : StageUse) (len : Nat) : Nat × State :=
  let (x, s) := s.free
  let size := (len + 7) / 8 * 8
  let addr := 0x1000000 + 8 * (x % ((0x200000 - size) / 8 + 1))
  let s := (s.initRange addr (addr + size)).openWindow 2 addr (addr + size - 8) 7
  (addr, { s with stage := some ⟨use, addr, len⟩ })

/-- Close the staging region and window 2. -/
def State.closeStage (s : State) : State := { s.closeWindow 2 with stage := none }

end Sys2Proof.Machine
end

