-- ==== Sys2Proof/Machine/InsCode.lean ====
section
/-!
DEFINITION. Sys2Proof/Machine/InsCode.lean: the insole signal as numbers: Gold sequences, the chip grid and the subcarrier,
the bits of a frame and its check sequence (R192–R194, R197).
-/

namespace Sys2Proof.Machine

/-! ## Gold sequences (R193) -/

/-- `n` further bits of a 7-bit shift register, oldest bit first, whose next bit is the parity of the bits at `taps`. -/
def mBits (taps : List Nat) : Nat → List Bool → List Bool
  | 0, _ => []
  | n + 1, r =>
    let new := taps.foldl (fun b t => b != r.getD t false) false
    r.headD false :: mBits taps n (r.drop 1 ++ [new])

/-- u(0) … u(126), generated by x^7 + x^3 + 1 from ones. -/
def goldU : List Bool := mBits [0, 3] 127 (List.replicate 7 true)

/-- v(0) … v(126), generated by x^7 + x^3 + x^2 + x + 1 from ones. -/
def goldV : List Bool := mBits [0, 1, 2, 3] 127 (List.replicate 7 true)

/-- Chip `n` of the sequence of lane `k`: G_k(n) = u(n) ⊕ v((n + 16k) mod 127). -/
def goldChip (k n : Nat) : Bool := goldU.getD (n % 127) false != goldV.getD ((n + 16 * k) % 127) false

/-- The correlation of 127 chip amplitudes with a lane's sequence. -/
def despread (k : Nat) (chips : List Int) : Int :=
  (List.range 127).foldl (fun a n => a + (if goldChip k n then -(chips.getD n 0) else chips.getD n 0)) 0

/-! ## The chip grid (R192, R194) -/

/-- P: symbols of one subcarrier cycle, with the inner code on or off. -/
def carrierLen (inner : Bool) : Nat := if inner then 5808 else 5440

/-- Symbols of a chip: two subcarrier cycles. -/
def chipLen (inner : Bool) : Nat := 2 * carrierLen inner

/-- Symbols of a data bit: 127 chips. -/
def insBitLen (inner : Bool) : Nat := 127 * chipLen inner

/-- Line symbols in a microsecond (R17). -/
def symbolsPerUs (inner : Bool) : Nat := if inner then 226875 else 212500

/-- π × 2^64, rounded. -/
def pi64 : Int := 57952155664616982739

/-- sin θ × 2^64 by its series, for θ × 2^64 in the first quadrant: the term in θ^(2i+1) with `n` terms to come. -/
def sinSeries (sq : Int) : Nat → Nat → Int → Int
  | 0, _, _ => 0
  | n + 1, i, term => term + sinSeries sq n (i + 1) (-(term * sq / 2 ^ 64) / ((2 * i + 2) * (2 * i + 3) : Nat))

/-- sin(2πx / P) × 2^48, rounded (R194; the precision is the model's: log entry 120). -/
def carrierSin (p x : Nat) : Int :=
  let q := p / 4
  let quadrant (t : Nat) : Int :=
    let θ := 2 * pi64 * t / p
    roundShift (sinSeries (θ * θ / 2 ^ 64) 14 0 θ) 16
  match x % p / q with
  | 0 => quadrant (x % p % q)
  | 1 => quadrant (q - x % p % q)
  | 2 => -(quadrant (x % p % q))
  | _ => -(quadrant (q - x % p % q))

/-- s(m) of lane `k` at `x` symbols of the chip grid, in 2^−64 DAC codes: `amp` in uQ3.8, `level` the amplitude ramp's step of
16, and `bit` the data bits by their index (R194, R196). -/
def insSample (k : Nat) (inner : Bool) (amp level : Nat) (bit : Nat → Bool) (x : Nat) : Int :=
  let c := x / chipLen inner
  let a : Int := (amp * level : Nat) * carrierSin (carrierLen inner) x * 16
  if goldChip k (c % 127) != bit (c / 127) then -a else a

/-! ## The receiver's input (R201) -/

/-- e(m) = y(m) − level(p̂(m)), sQ9.6: the equaliser's output without the PAM4 decision. -/
def insError (y level : Int) : Int := y - 64 * level

/-- The place of the receive synthesiser's subcarrier after `n` symbols, its frequency word `synth` in sQ9.6 ppm. -/
def synthPos (synth : Int) (n : Nat) : Nat := ((n : Int) * (64000000 + synth) / 64000000).toNat

/-- A chip as the receiver takes it: the errors of its symbols, mixed with the sine and the cosine of the synthesiser from
symbol `x0` on and integrated. -/
def insChip (inner : Bool) (synth : Int) (x0 : Nat) (es : List Int) : Int × Int :=
  let p := carrierLen inner
  let mix (quarter : Nat) : Int :=
    ((es.zip (List.range es.length)).map (fun e => e.1 * carrierSin p (synthPos synth (x0 + e.2) + quarter * (p / 4)))).sum
  (mix 0, mix 1)

/-! ## Frames (R197) -/

/-- One step of the IEEE 802.3 check sequence, its register reflected. -/
def fcsBit (r : BitVec 32) (b : Bool) : BitVec 32 :=
  let x := (r &&& 1 == 1) != b
  if x then (r >>> 1) ^^^ 0xEDB88320 else r >>> 1

/-- The bits of bytes, each least significant bit first. -/
def lsbBits (bytes : List Nat) : List Bool := bytes.flatMap (fun b => (List.range 8).map (fun i => bitOf b i))

/-- The IEEE 802.3 frame check sequence of bytes; its four bytes are sent in ascending order like every field. -/
def fcs32 (bytes : List Nat) : BitVec 32 := ~~~((lsbBits bytes).foldl fcsBit 0xFFFFFFFF)

/-- The four bytes of a word, lowest first. -/
def wordBytes4 (w : BitVec 32) : List Nat := (List.range 4).map (fun i => byteOf w.toNat i)

/-- SYNC as it is sent. -/
def syncBytes : List Nat := wordBytes4 0x9D2C5F61

/-- The check sequence of a frame: over HEADER and PAYLOAD. -/
def frameFcs (header : BitVec 32) (payload : List Nat) : BitVec 32 := fcs32 (wordBytes4 header ++ payload)

/-- The bits of a frame in the order they are sent. -/
def frameStream (header : BitVec 32) (payload : List Nat) : List Bool :=
  lsbBits (syncBytes ++ wordBytes4 header ++ payload ++ wordBytes4 (frameFcs header payload))

/-- Bit `n` of the idle pattern, which alternates 1 and 0. -/
def idleBit (n : Nat) : Bool := n % 2 == 0

/-- The hard bits of chip integrals that follow one another, oldest bit first: 1 where the despread sum is negative. -/
def hardBits (k : Nat) (chips : List Int) : List Bool :=
  (List.range (chips.length / 127)).map (fun b => decide (despread k (chips.drop (127 * b)) < 0))

/-- The 32-bit word of received bits, the first bit the least significant. -/
def bitsWord (bits : List Bool) : BitVec 32 := BitVec.ofNat 32 (bitsWhere (fun n => bits.getD n false) 32)

/-- How many of 32 received bits, in the order they arrive, differ from SYNC, or from its complement. -/
def syncErrors (bits : BitVec 32) (complement : Bool) : Nat :=
  let n := popcount 32 (bits ^^^ 0x9D2C5F61).toNat
  if complement then 32 - n else n

end Sys2Proof.Machine
end

