-- ==== Sys2Proof/Machine/Ports.lean ====
section
/-!
DEFINITION. Sys2Proof/Machine/Ports.lean: ports and lanes as the configured mode has them, port states, squelch and
electrical idle, calibration aborts and throttled options, which many families share.
-/

namespace Sys2Proof.Machine

/-! ## Lane maps (R43–R46) -/

/-- Line lanes of a port size (R43). -/
def sizeLanes (size : Nat) : Nat :=
  match size with
  | 1 => 1
  | 2 => 2
  | 3 => 4
  | _ => 0

/-- A port's descriptor in an image. -/
def Image.port (m : Image) (p : Nat) : PortDesc := m.ports.getD p {}

/-- A line lane's descriptor in an image. -/
def Image.lane (m : Image) (k : Nat) : LaneDesc := m.line.getD k {}

/-- A host lane's descriptor in an image. -/
def Image.hlane (m : Image) (j : Nat) : LaneDesc := m.host.getD j {}

/-- The ports of an image. -/
def Image.portList (m : Image) : List Nat := (List.range 8).filter (fun p => (m.port p).size != 0)

/-- The line lanes of port `p` (R43). -/
def Image.lineLanes (m : Image) (p : Nat) : List Nat := List.range' p (sizeLanes (m.port p).size)

/-- The host lanes of port `p` (R44). -/
def Image.hostLanes (m : Image) (p : Nat) : List Nat := List.range' (m.port p).hostGroup (2 * sizeLanes (m.port p).size)

/-- The port a line lane belongs to. -/
def Image.portOfLine (m : Image) (k : Nat) : Option Nat := m.portList.find? (fun p => (m.lineLanes p).contains k)

/-- The port a host lane belongs to. -/
def Image.portOfHost (m : Image) (j : Nat) : Option Nat := m.portList.find? (fun p => (m.hostLanes p).contains j)

/-- The die (1 or 2) of a port's line lanes. -/
def dieOfPort (p : Nat) : Nat := 1 + p / 4

/-- A port whose host group lies on the other die (R44). -/
def Image.crossing (m : Image) (p : Nat) : Bool :=
  (m.port p).size != 0 && dieOfHost (m.port p).hostGroup != dieOfPort p

/-- A port with a loopback, or with a lane whose pattern or check is not DATA (R64, TEST). -/
def Image.testing (m : Image) (p : Nat) : Bool :=
  (m.port p).loopback != 0 ||
    (m.lineLanes p).any (fun k => (m.lane k).txPattern != 0 || (m.lane k).rxCheck != 0) ||
    (m.hostLanes p).any (fun j => (m.hlane j).txPattern != 0 || (m.hlane j).rxCheck != 0)

/-- The racks (bit i: rack 8k + i) of a program set: the built-in sets of R51, or a loaded customer set's own. -/
def State.psetRacks (s : State) (id : Nat) : Nat :=
  match id with
  | 1 => 0x0F
  | 2 => 0x1F
  | 3 => 0xEF
  | 4 => 0xFF
  | _ => match s.psets.find? (fun p => p.id == id) with | some p => p.racks | none => 0

/-- The racks that line lane `k` uses. -/
def State.laneRacks (s : State) (k : Nat) : List Nat :=
  match s.mode.run.portOfLine k with
  | none => []
  | some _ => (List.range' (8 * k) 8).filter (fun r => bitOf (s.psetRacks (s.mode.run.lane k).progSet) (r % 8))

/-- The open transaction while it is being applied (R58). -/
def State.applyTxn (s : State) : Option Txn :=
  match s.mode.txn with
  | some t => if t.st = .applying then some t else none
  | none => none

/-- What a line lane holds beside its registers. -/
def State.line (s : State) (k : Nat) : LineLane := s.lines.getD k {}

/-- Change what a line lane holds. -/
def State.setLine (s : State) (k : Nat) (v : LineLane) : State := { s with lines := s.lines.set k v }

/-- A port's state (R64). -/
def State.port (s : State) (p : Nat) : PortSt := s.mode.ports.getD p {}

/-- Port state codes of R64. -/
def portAbsent : Nat := 0
/-- DOWN. -/
def portDown : Nat := 1
/-- CONFIGURING. -/
def portConfiguring : Nat := 2
/-- ACQUIRING. -/
def portAcquiring : Nat := 3
/-- UP. -/
def portUp : Nat := 4
/-- TEST. -/
def portTest : Nat := 5
/-- FAULT. -/
def portFault : Nat := 6

/-- The state of the port a line lane belongs to; ABSENT without one. -/
def State.lanePort (s : State) (k : Nat) : PortSt :=
  match s.mode.run.portOfLine k with
  | some p => s.port p
  | none => {}

/-- Whether the device is in FAULT (R400). -/
def State.inFault (s : State) : Bool := s.fld PWR_STATE.STATE == 5

/-- The lock bit of a line lane's LPLL in its die's CLK_LOCK (R17). -/
def lpllBit (k : Nat) : Nat := 4 + k % 4

/-- Whether a PLL bit of a die's CLK_LOCK is set. -/
def State.locked (s : State) (die bit : Nat) : Bool := s.bit .CLK_LOCK bit die

/-! ## Calibration ends (R82–R87, R103–R106) -/

/-- Two's complement fields of a trim register, lowest bit and width: SKEW, GAIN, OFFSET (R78). -/
def trimFields : List (Nat × Nat) := [(0, 8), (8, 8), (16, 6)]

/-- End a receive calibration run with a status code; `check` is the CHECK field of RESULT1 after a failure. Every target
takes the value of its current trim, but for a failure at CHECK, which changes nothing (R82). -/
def State.endCalRx (s : State) (k code check : Nat) : State :=
  match (s.line k).calRx with
  | none => s
  | some run =>
    let d := dieOfLane k
    let phase := s.fld LRX_CAL_STAT.PHASE k
    let round := s.fld LRX_CAL_STAT.ROUND k
    let s := s.setLine k { s.line k with calRx := none }
    let s := s.putFlag LRX_STAT.CAL_BUSY false k
    let s := s.put LRX_CAL_STAT.PHASE 0 k
    let s := s.put LRX_CAL_STAT.CODE code k
    let r1 := if code = 0 then run.skewSpread % 65536 + (run.offsetSpread % 65536) * 65536 else check + phase * 256 + round * 4096
    let s := s.setReg .LRX_CAL_RESULT1 (BitVec.ofNat 32 r1) k
    let r0 := (s.reg .LRX_CAL_RESULT0 k).toNat
    let s :=
      if code = 0 then (s.raise (CAL_CAUSE.RX_DONE (k % 4)) d).log 0x1101 sevInfo k r0 r1
      else
        let s := if phase ≤ 1 then s else
          (List.range 128).foldl (fun s n => s.setReg .LRX_ADC_TTRIM (s.reg .LRX_ADC_TRIM k n) k n) s
        ((s.raise (CAL_CAUSE.RX_ABORT (k % 4)) d).inc .LRX_CAL_ABORT_CNT k).log 0x1102 sevWarn k code r0 r1
    s.finish run.waiter ⟨code, r0, r1⟩

/-- End a transmit calibration run. -/
def State.endCalTx (s : State) (k code check : Nat) : State :=
  match (s.line k).calTx with
  | none => s
  | some run =>
    let d := dieOfLane k
    let phase := s.fld LTX_CAL_STAT.PHASE k
    let round := s.fld LTX_CAL_STAT.ROUND k
    let s := s.setLine k { s.line k with calTx := none }
    let s := s.putFlag LTX_STAT.CAL_BUSY false k
    let s := s.put LTX_CAL_STAT.PHASE 0 k
    let s := s.put LTX_CAL_STAT.CODE code k
    let r1 := if code = 0 then run.skewSpread % 65536 else check + phase * 256 + round * 4096
    let s := s.setReg .LTX_CAL_RESULT1 (BitVec.ofNat 32 r1) k
    let r0 := (s.reg .LTX_CAL_RESULT0 k).toNat
    let s :=
      if code = 0 then (s.raise (CAL_CAUSE.TX_DONE (k % 4)) d).log 0x1103 sevInfo k r0 r1
      else
        let s := if phase ≤ 1 then s else
          (List.range 64).foldl (fun s n => s.setReg .LTX_DAC_TTRIM (s.reg .LTX_DAC_TRIM k n) k n) s
        ((s.raise (CAL_CAUSE.TX_ABORT (k % 4)) d).inc .LTX_CAL_ABORT_CNT k).log 0x1104 sevWarn k code r0 r1
    s.finish run.waiter ⟨code, r0, r1⟩

/-- The failing condition of a receive run: 1 SIG_PRESENT, 2 CDR_LOCK, 3 AM_LOCK; 0 none (R82). Where several of the bits are
clear it is the lowest-numbered: the spec does not say which one LRX_CAL_RESULT1 names (DESIGN CHOICE, log entry 124). -/
def State.calRxCheck (s : State) (k : Nat) : Nat :=
  if s.flag LRX_STAT.SIG_PRESENT k = false then 1
  else if s.flag LRX_STAT.CDR_LOCK k = false then 2
  else if s.flag LRX_STAT.AM_LOCK k = false then 3
  else 0

/-- A running receive calibration aborts when a monitored bit clears (R82). -/
def State.monitorCalRx (s : State) (k : Nat) : State :=
  if s.calRxCheck k = 0 then s else s.endCalRx k 0x0420 (s.calRxCheck k)

/-! ## Squelch (R95) and electrical idle (R174) -/

/-- Whether nothing below a port is at fault: its LPLLs and the HPLLs it uses are locked, and the core welt that a
crossing port needs has not failed. -/
def State.portSound (s : State) (p : Nat) : Bool :=
  let m := s.mode.run
  (m.lineLanes p).all (fun k => s.locked (dieOfLane k) (lpllBit k)) && s.locked (dieOfPort p) 2 &&
    (m.hostLanes p).all (fun j => s.locked (dieOfHost j) 2) &&
    (!(m.crossing p) || s.fld WELT_STAT.STATE 1 1 != 4)

/-- The reasons that squelch a line output, in the LTX_SQ_STAT layout (R95). A port is DOWN for a fault while something below
it is at fault, whatever first took it DOWN. -/
def State.squelchReasons (s : State) (k : Nat) : Nat :=
  match s.mode.run.portOfLine k with
  | none => 1
  | some p =>
    let st := (s.port p).st
    let bad := st == portConfiguring || st == portFault || s.inFault || (st == portDown && !(s.portSound p))
    2 * b2n (!(s.mode.run.port p).txEn) + 4 * b2n bad + 8 * b2n (s.flag PWR_STATE.FASTOFF) +
      16 * b2n (!(s.locked (dieOfLane k) (lpllBit k))) + 32 * b2n (s.flag LTX_STAT.DOZE k)

/-- Whether the transmitted stream carries alignment markers: no test pattern, no LINE_SHALLOW (R103). -/
def State.txMarkers (s : State) (k : Nat) : Bool :=
  match s.mode.run.portOfLine k with
  | none => false
  | some p => (s.mode.run.lane k).txPattern == 0 && (s.mode.run.port p).loopback != 3

/-- The failing condition of a transmit run: 1 OUTPUT_SQUELCHED, 2 LPLL, 3 AM_ABSENT; 0 none (R103, R105). A lost LPLL squelches
the output as well: it is reported as 2, and a squelch of any other cause comes before AM_ABSENT. The spec does not say which
of several is named (DESIGN CHOICE, log entry 126). -/
def State.calTxCheck (s : State) (k : Nat) : Nat :=
  if s.locked (dieOfLane k) (lpllBit k) = false then 2
  else if s.fld LTX_SQ_STAT.REASON k ≠ 0 then 1
  else if s.txMarkers k = false then 3
  else 0

/-- 10^(−DEPTH/20) × 10^40, rounded, for the injection depths of R195. -/
def depthPower (depth : Nat) : Nat :=
  match depth with
  | 48 => 39810717055349725077025230508775204349
  | 49 => 35481338923357545843321870226449062049
  | 50 => 31622776601683793319988935444327185337
  | 51 => 28183829312644538191019236991551107187
  | 52 => 25118864315095801110850320677993273942
  | 53 => 22387211385683396119549508524657423337
  | 54 => 19952623149688796013524553967395355580
  | 55 => 17782794100389228012254211951926848447
  | 56 => 15848931924611134852021013733915070133
  | 57 => 14125375446227543021556078639302409298
  | 58 => 12589254117941672104239541063958006061
  | 59 => 11220184543019634355910389464779057367
  | 60 => 10000000000000000000000000000000000000
  | 61 => 8912509381337455299531086810782969640
  | 62 => 7943282347242815020659182828363879326
  | 63 => 7079457843841379108022149421893127094
  | _ => 6309573444801932494343601366223438647

/-- The largest n, of `w` bits, with n² ≤ x. -/
def isqrt : Nat → Nat → Nat
  | 0, _ => 0
  | w + 1, x =>
    let r := 2 * isqrt w (x / 4)
    if (r + 1) * (r + 1) ≤ x then r + 1 else r

/-- Σ v² over signed fields. -/
def State.sumSq (s : State) (f : Fld) (k n : Nat) : Nat :=
  (List.range n).foldl (fun a i => a + (s.sfld f k i).natAbs * (s.sfld f k i).natAbs) 0

/-- AMP of R195 in uQ3.8: sqrt(2 × P_sig × 10^(−DEPTH/20)), to the nearest code, saturated. -/
def State.insAmp (s : State) (k : Nat) : Nat :=
  let num := 4 * 65536 * 2 * s.sumSq LTX_LUT_ACT.LEVEL k 64 * s.sumSq LTX_FIR_ACT.COEF k 7 *
    depthPower (clampN 48 64 (s.fld INS_TX_CFG.DEPTH k))
  satN 11 ((isqrt 64 (num / (16384 * 1048576 * 10 ^ 40)) + 1) / 2)

/-- The modem of a lane with INS_EN computes AMP anew (R195). -/
def State.refreshAmp (s : State) (k : Nat) : State :=
  if s.flag INS_CFG.INS_EN k then s.put INS_TX_AMP.AMP (s.insAmp k) k else s

/-- Write the active coefficients and levels of a lane from a list of 7 + 64 values. -/
def State.setTxActive (s : State) (k : Nat) (xs : List Int) : State :=
  let s := (List.range 7).foldl (fun s n => s.put LTX_FIR_ACT.COEF (unsigned 12 (xs.getD n 0)) k n) s
  (List.range 64).foldl (fun s n => s.put LTX_LUT_ACT.LEVEL (unsigned 12 (xs.getD (7 + n) 0)) k n) s

/-- End a commit ramp at its targets (R94). -/
def State.endRamp (s : State) (k : Nat) : State :=
  match (s.line k).ramp with
  | none => s
  | some r =>
    let s := (s.setTxActive k r.to_).setLine k { s.line k with ramp := none }
    ((s.put LTX_STAT.RAMP 0 k).raise LTX_CAUSE.RAMP_DONE k).refreshAmp k

/-- A lane's skew trims take their targets at once (R102, squelched). -/
def State.snapTxTrims (s : State) (k : Nat) : State :=
  (List.range 64).foldl (fun s n => s.setReg .LTX_DAC_TRIM (s.reg .LTX_DAC_TTRIM k n) k n) s

/-- The zone (0 CORE-A, 1 CORE-B) of a die. -/
def zoneOfDie (d : Nat) : Nat := d - 1

/-- Whether a core die is throttling. -/
def State.throttling (s : State) (d : Nat) : Bool := s.flag THM_ZONE_STAT.THROTTLE 0 (zoneOfDie d)

/-! ## The insole transmitter (R194, R196, R217) -/

/-- A lane's insole modem. -/
def State.insl (s : State) (k : Nat) : InsLane := s.ins.getD k {}

/-- Change a lane's insole modem. -/
def State.setInsl (s : State) (k : Nat) (v : InsLane) : State := { s with ins := s.ins.set k v }

/-- The amplitude moves towards AMP, or towards 0, in 16 equal steps (R196). A ramp that is turned round goes back through the
steps it has taken. -/
def State.insRamp (s : State) (k : Nat) (up : Bool) : State :=
  let y := s.insl k
  match y.rampUp with
  | some d =>
    if d = up then s
    else s.setInsl k { y with rampUp := some up, rampStep := 16 - y.rampStep, rampAt := s.now - (16 - y.rampStep) * 125 / 2 }
  | none =>
    if s.flag INS_STAT.TX_ON k = up then s
    else
      let s := s.setInsl k { y with rampUp := some up, rampStep := 0, rampAt := s.now }
      (s.putFlag INS_STAT.RAMP true k).putFlag INS_STAT.TX_ON false k

/-- The transmitter pauses while the die throttles: it ramps out once no frame is in progress (R217). -/
def State.insPause (s : State) (k : Nat) : State :=
  if s.flag INS_CFG.INS_EN k ∧ s.flag INS_STAT.TX_PAUSED k = false ∧ (s.insl k).sending = none then
    let s := (s.putFlag INS_STAT.TX_PAUSED true k).raise (INS_CAUSE.PAUSE (k % 4)) (dieOfLane k)
    (s.log 0x0905 sevInfo k).insRamp k false
  else s

/-- The chip grid of a lane starts at a symbol of the current microsecond (R194); which one the spec does not say (a free value,
log entry 120). -/
def State.startGrid (s : State) (k : Nat) : State :=
  let (x, s) := s.free
  s.setInsl k { s.insl k with
    gridAt := s.now, gridSub := x % symbolsPerUs (s.flag LRX_CFG.INNER k), idleFrom := 0, stopped := false }

/-- A transmitter that has stopped starts again when its output is released: its chip grid restarts and it ramps in, unless the
die throttles (R217). -/
def State.insRelease (s : State) (k : Nat) : State :=
  if (s.insl k).stopped ∧ s.flag INS_CFG.INS_EN k then
    let s := s.startGrid k
    if s.throttling (dieOfLane k) then s.insPause k else s.insRamp k true
  else s

/-! ## Squelch and idle, brought up to date -/

/-- Bring a line output's squelch up to date: it enters or leaves squelch, with the causes and events of R95 and R107. -/
def State.refreshLine (s : State) (k : Nat) : State :=
  let old := s.fld LTX_SQ_STAT.REASON k
  let new := s.squelchReasons k
  let s := s.put LTX_SQ_STAT.REASON new k
  if old = 0 ∧ new ≠ 0 then
    let s := s.putFlag LTX_STAT.ACTIVE false k
    let s := s.raise LTX_CAUSE.SQUELCH k
    let s := s.log 0x0501 (if bitOf new 3 || bitOf new 4 then sevWarn else sevInfo) k new
    let s := s.endRamp k
    (s.endCalTx k 0x0420 (s.calTxCheck k)).snapTxTrims k
  else if old ≠ 0 ∧ new = 0 then
    let s := s.setLine k { s.line k with tx := {} }
    (((s.putFlag LTX_STAT.ACTIVE true k).raise LTX_CAUSE.RELEASE k).log 0x0502 sevInfo k).insRelease k
  else s

/-- Bring several line outputs up to date. -/
def State.refreshLines (s : State) (ks : List Nat) : State := ks.foldl (fun s k => s.refreshLine k) s

/-- The reasons that keep a host transmitter in electrical idle, in the HL_IDLE_STAT layout (R174); RESTART is set and
cleared by the restart itself. -/
def State.idleReasons (s : State) (j : Nat) : Nat :=
  match s.mode.run.portOfHost j with
  | none => 1
  | some p =>
    let st := (s.port p).st
    b2n (st == portConfiguring || st == portFault || s.inFault) + 2 * b2n (!(s.locked (dieOfHost j) 2)) +
      4 * b2n (s.flag HL_STAT.TX_DOZE j) + 8 * b2n (bitOf (s.fld HL_IDLE_STAT.REASON j) 3)

/-- Bring a host transmitter's electrical idle up to date. -/
def State.refreshHost (s : State) (j : Nat) : State :=
  let new := s.idleReasons j
  (s.put HL_IDLE_STAT.REASON new j).putFlag HL_STAT.TX_IDLE (new != 0) j

/-- Bring several host transmitters up to date. -/
def State.refreshHosts (s : State) (js : List Nat) : State := js.foldl (fun s j => s.refreshHost j) s

/-! ## Port states (R64) -/

/-- Record a port's state and reason without their consequences. -/
def State.putPort (s : State) (p st reason : Nat) : State :=
  { s with mode := { s.mode with ports := s.mode.ports.set p ⟨st, reason⟩ } }

/-- Change a port's state: MODE_PORT_STATE is logged, the bit-slip totals of a
port that enters TEST return to 0 (R180), and the outputs of its lanes follow (R64, R95, R174). -/
def State.setPort (s : State) (p st reason : Nat) : State :=
  let old := (s.port p).st
  if old = st then s
  else
    let s := s.putPort p st reason
    let s := s.log 0x1503 (if st = portFault then sevWarn else sevInfo) p old st reason
    let s := if st = portTest then (s.mode.run.hostLanes p).foldl (fun s j => s.setReg .HL_SLIP_POS 0 j) s else s
    (s.refreshLines (s.mode.run.lineLanes p)).refreshHosts (s.mode.run.hostLanes p)

/-- The state a configured port takes: DOWN while TX_EN is clear, FASTOFF_N is asserted or something below it is at fault, TEST
under a loopback or pattern, else ACQUIRING (R64). `reason` is why it is set. -/
def State.restPort (s : State) (p reason : Nat) : State :=
  if (s.mode.run.port p).txEn = false then s.setPort p portDown 3
  else if s.flag PWR_STATE.FASTOFF then s.setPort p portDown 4
  else if s.portSound p = false then s.setPort p portDown reason
  else if s.mode.run.testing p then s.setPort p portTest reason
  else s.setPort p portAcquiring reason

/-- The ports with a line lane or a host lane on a die. -/
def State.portsOnDie (s : State) (d : Nat) : List Nat :=
  s.mode.run.portList.filter (fun p => dieOfPort p == d || (s.mode.run.hostLanes p).any (fun j => dieOfHost j == d))

/-! ## Throttled options and duty (R75, R413) -/

/-- Whether the die's throttle policy withdraws the sequence detector and the Volterra equaliser (R49, R413). -/
def State.withdrawn (s : State) (d : Nat) : Bool :=
  s.throttling d || (s.mode.run.early.getD (d - 1) false && s.flag THM_ZONE_STAT.WARN 0 (zoneOfDie d))

/-- The effective rack duty of a lane: the mode's, at most HALF while throttling and QUARTER in QUARTER (R413). -/
def State.dutyEff (s : State) (k : Nat) : Nat :=
  let d := dieOfLane k
  let t := if s.flag THM_ZONE_STAT.QUARTER 0 (zoneOfDie d) then 2 else if s.throttling d then 1 else 0
  max (s.mode.run.lane k).duty t

/-- Bring a lane's effective duty up to date, in LRX_CFG and in its racks. -/
def State.refreshDuty (s : State) (k : Nat) : State :=
  let v := s.dutyEff k
  let s := s.put LRX_CFG.DUTY_EFF v k
  (s.laneRacks k).foldl (fun s r => s.put RACK_STAT.DUTY_EFF v r) s

/-- The share of the Volterra contribution that a lane's stage adds, in 1/65,536: a fade moves it in 16 equal steps over 1 ms,
and a gated stage adds nothing (R70, R75). -/
def State.vnleShare (s : State) (k : Nat) : Nat :=
  let ln := s.line k
  let step := min 16 ((s.now - ln.fadeAt) * 16 / 1000)
  match ln.fade with
  | some .fadeOut => ln.fadeFrom * (16 - step) / 16
  | some .fadeIn => ln.fadeFrom + (65536 - ln.fadeFrom) * step / 16
  | some .rampOut => if s.flag LRX_CFG.VNLE_EFF k then 65536 else 0
  | none => if s.flag LRX_CFG.VNLE_EFF k then 65536 else 0

/-- A fade starts from the share now in effect. -/
def State.startFade (s : State) (k : Nat) (f : Fade) : State :=
  s.setLine k { s.line k with fade := some f, fadeAt := s.now, fadeFrom := s.vnleShare k }

/-- Withdraw or restore the options of a lane as the throttle state has it (R75). -/
def State.refreshOptions (s : State) (k : Nat) : State :=
  let w := s.withdrawn (dieOfLane k)
  let sdReq := s.flag LRX_CFG.SD_REQ k
  let vReq := s.flag LRX_CFG.VNLE_REQ k
  let sdEff := s.flag LRX_CFG.SD_EFF k
  let vEff := s.flag LRX_CFG.VNLE_EFF k
  let ln := s.line k
  if w then
    let vOn := vReq && (vEff || ln.fade == some .fadeIn)
    let m := b2n (sdReq && sdEff) + 2 * b2n vOn
    if m = 0 then s
    else
      let s := s.putFlag LRX_CFG.SD_EFF (sdEff && !(sdReq)) k
      let s := if vOn then (s.startFade k .fadeOut).put LRX_CFG.VNLE_EFF 0 k else s
      let s := s.raise LRX_STAT.THROTTLED k
      (s.raise LRX_CAUSE.THROTTLE k).log 0x0405 sevInfo k m
  else
    let s :=
      if sdReq && !sdEff then
        ((s.put LRX_CFG.SD_EFF 1 k).raise LRX_CAUSE.THROTTLE k).log 0x0406 sevInfo k 1
      else s
    if vReq && !vEff then
      if (s.line k).fade = some .fadeIn then s else s.startFade k .fadeIn
    else s.putFlag LRX_STAT.THROTTLED false k

/-- Bring the options and duties of the used lanes of a die up to date (R413). -/
def State.refreshThrottle (s : State) (d : Nat) : State :=
  ((List.range' (4 * (d - 1)) 4).filter (fun k => (s.mode.run.portOfLine k).isSome)).foldl
    (fun s k => (s.refreshOptions k).refreshDuty k) s

end Sys2Proof.Machine
end

