-- ==== Sys2Proof/Machine/LinePath.lean ====
section
/-!
DEFINITION. Sys2Proof/Machine/LinePath.lean: what a line lane does to each symbol: FFE, Volterra stage, DFE and sequence
detector (R69–R71), Gray mapping, precoding, level table, FIR, insole addition and DAC (R89–R93), and the test patterns
(R99).
-/

namespace Sys2Proof.Machine

/-! ## Symbols -/

/-- level() of R71: −96, −32, +32, +96. -/
def levelOf (p : Nat) : Int := -96 + 64 * (p % 4 : Nat)

/-- The Gray symbol of a pair of bits, the first bit the more significant (R90). -/
def grayOf (b : Nat) : Nat :=
  match b % 4 with
  | 0 => 0
  | 1 => 1
  | 3 => 2
  | _ => 3

/-- p(n) = (g(n) − p(n−1)) mod 4 (R91). -/
def precode (g prev : Nat) : Nat := (g % 4 + 4 - prev % 4) % 4

/-- The precoding inverse: ĝ(n) = (p̂(n) + p̂(n−1)) mod 4. -/
def restoreGray (p prev : Nat) : Nat := (p + prev) % 4

/-- Σ a × b over two lists. -/
def dot (xs ys : List Int) : Int := ((xs.zip ys).map (fun p => p.1 * p.2)).sum

/-! ## Receive: FFE and Volterra stage (R69, R70) -/

/-- The ADC codes about a symbol m, newest first: the first is x(m + `codesAhead`). They reach every code that y, the Volterra
stage and the detector need for the symbol's decision and for the 49 decisions of its record. -/
def codesAhead : Nat := 158
/-- How many codes there are, down to x(m − 96). -/
def codesLen : Nat := 255

/-- The codes from x(m + j) on, newest first. -/
def codesFrom (xs : List Int) (j : Int) : List Int := xs.drop ((codesAhead : Int) - j).toNat

/-- y of the symbol at m + o, sQ9.6, saturated: Σ c(i) × x(m + o + MAIN − i). How the hardware rounds the sum's 10 fraction bits
to 6 is not stated (`Config.ffeUp`, log entry 119). -/
def ffe (c xs : List Int) (main : Nat) (o : Int) : Int :=
  let sum := dot c (codesFrom xs (o + main))
  satSigned 16 (sum / 16 + (if sum % 16 ≠ 0 ∧ Config.ffeUp (sum % 16).toNat then 1 else 0))

/-- The 47 Volterra terms of seven codes x(m) … x(m−6), in units of 2^−21 of a product of full-scale codes (R70). -/
def vnleTerms (w : List Int) : List Int :=
  let x (i : Nat) := w.getD i 0
  (List.range 7).flatMap (fun i => (List.range' i (7 - i)).map (fun j => 128 * x i * x j)) ++
    (List.range 7).map (fun i => x i * x i * x i) ++
    (List.range 6).map (fun i => x i * x i * x (i + 1)) ++
    (List.range 6).map (fun i => x i * x (i + 1) * x (i + 1))

/-- The sum that the Volterra stage forms of seven codes, in 2^−32. -/
def vnleSum (kern w : List Int) : Int := dot kern (vnleTerms w)

/-- What the detector works on, in 2^−48 LSB: y and the share of the Volterra sum that is in effect. -/
def detectIn (c kern xs : List Int) (main share : Nat) (o : Int) : Int :=
  ffe c xs main o * 2 ^ 42 + (if share = 0 then 0 else vnleSum kern ((codesFrom xs o).take 7) * share)

/-! ## Receive: decisions (R71) -/

/-- The DFE's decision: z − H1 × level(p̂(m−1)) against the three thresholds, lowest first. A value equal to a threshold counts
as above it (DESIGN CHOICE, log entry 119). -/
def dfeDecide (h1 : Int) (thr : List Int) (prev : Nat) (z : Int) : Nat :=
  let v := z - h1 * levelOf prev * 2 ^ 39
  (thr.filter (fun t => decide (t * 2 ^ 48 ≤ v))).length

/-- The decisions of the DFE over inputs, oldest first, after the decision `prev`. -/
def dfeRun (h1 : Int) (thr : List Int) : Nat → List Int → List Nat
  | _, [] => []
  | prev, z :: zs =>
    let p := dfeDecide h1 thr prev z
    p :: dfeRun h1 thr p zs

/-- A survivor of the sequence detector: its metric and its decisions, newest first. -/
abbrev Survivor := Nat × List Nat

/-- The survivor with the least metric; the first among equals. -/
def bestOf : List Survivor → Survivor
  | [] => (0, [])
  | x :: xs => xs.foldl (fun b y => if y.1 < b.1 then y else b) x

/-- One symbol of the four-state Viterbi detector over y(m) = level(p(m)) + H1 × level(p(m−1)), whose levels are the means of
LRX_LEVEL in 2^−48 LSB; the metric is the squared distance (DESIGN CHOICE, log entry 119). -/
def viterbiStep (h1 : Int) (mean : List Int) (ss : List Survivor) (z : Int) : List Survivor :=
  (List.range 4).map (fun a =>
    let cand := (List.range 4).map (fun b =>
      let from_ := ss.getD b (0, [])
      let e := (z - mean.getD a 0 - h1 * mean.getD b 0 / 512).natAbs
      ((from_.1 + e * e, from_.2) : Survivor))
    let w := bestOf cand
    (w.1, a :: w.2))

/-- The decisions of the sequence detector over inputs, oldest first, each read 32 symbols back from the best survivor. -/
def viterbiRun (h1 : Int) (mean : List Int) (start : List Nat) (zs : List Int) : List Nat :=
  let ss0 : List Survivor := (List.range 4).map (fun b => (start.getD b 0, []))
  ((zs.foldl (fun (acc : List Survivor × List Nat) z =>
    let ss := viterbiStep h1 mean acc.1 z
    (ss, match (bestOf ss).2[32]? with | some p => p :: acc.2 | none => acc.2)) (ss0, [])).2).reverse

/-! ## A lane's receiver -/

/-- LRX_FFE_COEF_0 … _48. -/
def State.ffeCoefs (s : State) (k : Nat) : List Int := (List.range 49).map (fun n => s.sfld LRX_FFE_COEF.COEF k n)

/-- LRX_VNLE_KERN_0 … _46. -/
def State.vnleKernels (s : State) (k : Nat) : List Int := (List.range 47).map (fun n => s.sfld LRX_VNLE_KERN.KERN k n)

/-- y of a symbol from the codes about it. -/
def State.lineY (s : State) (k : Nat) (xs : List Int) : Int := ffe (s.ffeCoefs k) xs (s.fld LRX_DET_CTL.MAIN k) 0

/-- The decisions p̂(m − 48) … p̂(m + 63), oldest first, from the codes about symbol m and what the detector has kept of the
symbols before: the DFE its last decision, the sequence detector its four metrics. -/
def State.lineDecisions (s : State) (k : Nat) (xs : List Int) (before : Nat) (metrics : List Nat) : List Nat :=
  let main := s.fld LRX_DET_CTL.MAIN k
  let h1 := s.sfld LRX_DET_CTL.H1 k
  let c := s.ffeCoefs k
  let kern := s.vnleKernels k
  let share := s.vnleShare k
  let zs := (List.range 144).map (fun (i : Nat) => detectIn c kern xs main share ((i : Int) - 48))
  if s.flag LRX_CFG.SD_EFF k then
    viterbiRun h1 ((List.range 4).map (fun n => s.sfld LRX_LEVEL.MEAN k n * 2 ^ 42)) metrics zs
  else (dfeRun h1 ((List.range 3).map (fun n => s.sfld LRX_THR.THR k n)) before zs).take 112

/-! ## Transmit (R89–R93) -/

/-- v(m) of a symbol: its level-table entry n = 16 p(m−1) + 4 p(m) + p(m+1), or a level of its own (the wake pattern). -/
def txLevel (lut : List Int) (prev : TxSym) (x : TxSym) (next : TxSym) : Int :=
  match x with
  | .level v => v
  | .sym p => lut.getD (16 * prev.num + 4 * p + next.num) 0

/-- v of the symbol at place `i` of a history, newest first. A place before the first symbol after release holds the common
mode, 0 (R91). -/
def txV (lut : List Int) (h : List TxSym) (i : Nat) : Int :=
  match h[i]? with
  | none => 0
  | some x => txLevel lut (h.getD (i + 1) (.sym 0)) x (if i = 0 then .sym 0 else h.getD (i - 1) (.sym 0))

/-- u(m) = Σ c(i) × v(m + 2 − i), in 2^−14 DAC codes, for the symbol at place 3 of a history (R93): three symbols follow it
before its level and those ahead of it are known. -/
def txFir (c lut : List Int) (h : List TxSym) : Int := dot c ((List.range 7).map (fun i => txV lut h (i + 1)))

/-- The sum of u(m) and the insole sample, rounded to the nearest code with ties up, and whether it saturates (R93). -/
def txDac (u ins : Int) : Int × Bool :=
  let r := roundShift (u * 2 ^ 50 + ins) 64
  (satSigned 8 r, satSigned 8 r != r)

/-- The wake pattern (R98): 64 repetitions of 0,0,3,3, as the levels of those symbols. -/
def wakePattern : List TxSym :=
  (List.replicate 64 [0, 0, 3, 3]).flatMap (fun g => g.map (fun p => .level (16 * levelOf p)))

/-! ## Test patterns (R99) -/

/-- The pair of bits that a pattern code has at a state, and the next state. PRBS13Q and PRBS31Q are pairs of bits of the shift
registers x^13 + x^12 + x^2 + x + 1 and x^31 + x^28 + 1, the second inverted; the spec names the patterns and leaves their
definition to IEEE 802.3 (PRESUMED, log entry 121). The state of SSPRQ is the place in its period. -/
def lfsrBit (taps : List Nat) (w : Nat) (st : Nat) : Bool × Nat :=
  let b := taps.foldl (fun b t => b != bitOf st t) false
  (b, (2 * st + b2n b) % 2 ^ w)

/-- The next pair of bits of a pattern, first bit more significant, and the next state. -/
def patternNext (code st : Nat) : Nat × Nat :=
  match code with
  | 1 =>
    let (a, st) := lfsrBit [0, 1, 11, 12] 13 st
    let (b, st) := lfsrBit [0, 1, 11, 12] 13 st
    (2 * b2n a + b2n b, st)
  | 2 =>
    let (a, st) := lfsrBit [27, 30] 31 st
    let (b, st) := lfsrBit [27, 30] 31 st
    (2 * b2n (!a) + b2n (!b), st)
  | _ => ((Config.ssprq (st % 65535)).toNat, (st + 1) % 65535)

/-- The state from which a pattern starts: any that is not stuck. -/
def patternSeed (code x : Nat) : Nat :=
  match code with
  | 1 => 1 + x % 8191
  | 2 => 1 + x % (2 ^ 31 - 1)
  | _ => x % 65535

end Sys2Proof.Machine
end

