-- ==== Sys2Proof/Machine/FecCode.lean ====
section
/-!
DEFINITION. Sys2Proof/Machine/FecCode.lean: PCS lanes and their multiplexing, the inner code and its frames (R143–R146).
-/

namespace Sys2Proof.Machine

/-! ## PCS lanes (R143) -/

/-- The PCS lanes of a port's rate: 400GBASE-R has 16, 800GBASE-R 32 and 1.6TBASE-R 16. The spec names the three and leaves
their lanes to IEEE 802.3 (PRESUMED, log entry 127). -/
def pcsCount (size : Nat) : Nat :=
  match size with
  | 1 => 16
  | 2 => 32
  | 3 => 16
  | _ => 0

/-- A number put into an ascending list. -/
def insertAsc (x : Nat) : List Nat → List Nat
  | [] => [x]
  | y :: ys => if x ≤ y then x :: y :: ys else y :: insertAsc x ys

/-- Numbers in ascending order. -/
def ascending (xs : List Nat) : List Nat := xs.foldr insertAsc []

/-- Streams of 10-bit symbols multiplexed symbol by symbol, the first stream first. -/
def muxSymbols (streams : List (List (BitVec 10))) : List (BitVec 10) :=
  (List.range ((streams.map (fun s => s.length)).foldl max 0)).flatMap (fun i => streams.filterMap (fun s => s[i]?))

/-- The stream of PCS lane number `i` of `n` in a multiplexed stream. -/
def splitSymbols (n i : Nat) (xs : List (BitVec 10)) : List (BitVec 10) :=
  (List.range xs.length).filterMap (fun j => if j % n = i then xs[j]? else none)

/-- The PCS lanes that a line lane of a port sends: those received on its two host lanes, in ascending order. -/
def lineCarries (hostPcs : List (List Nat)) (i : Nat) : List Nat :=
  ascending (hostPcs.getD (2 * i) [] ++ hostPcs.getD (2 * i + 1) [])

/-- The PCS lanes that a host lane of a port sends: of those received on its line lane, in ascending order, the lower half
goes to the even host lane and the upper half to the odd one. -/
def hostCarries (linePcs : List (List Nat)) (h : Nat) : List Nat :=
  let xs := ascending (linePcs.getD (h / 2) [])
  if h % 2 = 0 then xs.take (xs.length / 2) else xs.drop (xs.length / 2)

/-- The lane on which a PCS lane arrives. -/
def laneOfPcs (pcs : List (List Nat)) (x : Nat) : Option Nat := (List.range pcs.length).find? (fun i => (pcs.getD i []).contains x)

/-! ## The inner code (R144, R146) -/

/-- The codeword of 120 bits, bit 0 sent first: the bits, then the eight of the extended Hamming code of IEEE 802.3dj
(`Config.innerParity`). -/
def innerEncode (d : BitVec 120) : BitVec 128 := Config.innerParity d ++ d

/-- Whether 128 bits are a codeword. -/
def innerValid (w : BitVec 128) : Bool := innerEncode (w.setWidth 120) == w

/-- Four codewords interleaved: line bit 4t + c is bit t of codeword c. -/
def innerGroup (cs : List (BitVec 128)) : List Bool :=
  (List.range 512).map (fun n => (cs.getD (n % 4) 0).getLsbD (n / 4))

/-- The word of the sync block. -/
def innerSyncWord : BitVec 64 := 0x6F3A1C95D2408BE7

/-- The 128 bits of a sync block: its word twice, most significant bit first. -/
def innerSync : List Bool := (List.range 128).map (fun n => innerSyncWord.getMsbD (n % 64))

/-- An inner frame: 1,088 codewords, four by four, and a sync block. -/
def innerFrame (cs : List (BitVec 128)) : List Bool :=
  (List.range 272).flatMap (fun g => innerGroup ((cs.drop (4 * g)).take 4)) ++ innerSync

/-- The Gray symbols of a stream of bits, the first of each pair the more significant (R90). -/
def bitSymbols : List Bool → List Nat
  | a :: b :: bs => grayOf (2 * b2n a + b2n b) :: bitSymbols bs
  | _ => []

/-- Whether 64 received symbols match the sync block: at most 8 differ (R145). -/
def syncMatches (xs : List (BitVec 2)) : Bool :=
  xs.length == 64 && decide (((xs.zip (bitSymbols innerSync)).filter (fun p => p.1.toNat != p.2)).length ≤ 8)

/-- Symbols of an inner frame: the spacing of sync blocks. -/
def innerSpacing : Nat := 69696

/-- A place put into a list of places by its weight, the lower place first among equals. -/
def insertWeighed (x : Nat × Nat) : List (Nat × Nat) → List (Nat × Nat)
  | [] => [x]
  | y :: ys => if x.2 < y.2 || (x.2 == y.2 && x.1 < y.1) then x :: y :: ys else y :: insertWeighed x ys

/-- The four least reliable bits of a codeword with their weights; the lower bit number first among equals (DESIGN CHOICE,
log entry 128). -/
def weakest (weights : List Nat) : List (Nat × Nat) :=
  (((List.range weights.length).map (fun i => (i, weights.getD i 0))).foldr insertWeighed []).take 4

/-- The 16 error patterns on four bits: the mask of the bits a pattern turns over, and the sum of their weights. -/
def innerPatterns (four : List (Nat × Nat)) : List (BitVec 128 × Nat) :=
  (List.range 16).map (fun n =>
    let on := ((List.range 4).filter (fun i => bitOf n i)).filterMap (fun i => four[i]?)
    (on.foldl (fun m x => m ||| 1#128 <<< x.1) 0, (on.map (fun x => x.2)).sum))

/-- The inner decoder (R146) on a received codeword, given the 3-bit reliability of each bit's symbol and whether the codeword's
bits are the less significant of their pairs: of the patterns that turn it into a valid codeword, the one with the least
weight, the first among equals (DESIGN CHOICE, log entry 128). It delivers that codeword and the bits it changed, or the hard
bits unchanged. -/
def innerDecode (w : BitVec 128) (rel : List (BitVec 3)) (lesser : Bool) : BitVec 128 × Option Nat :=
  let four := weakest ((List.range 128).map (fun i => Config.bitReliability (rel.getD i 0) lesser))
  match (innerPatterns four).filter (fun p => innerValid (w ^^^ p.1)) with
  | [] => (w, none)
  | x :: xs =>
    let b := xs.foldl (fun b y => if y.2 < b.2 then y else b) x
    (w ^^^ b.1, some (popcount 128 b.1.toNat))

end Sys2Proof.Machine
end

