-- ==== Sys2Proof/Machine/Links.lean ====
section
/-!
DEFINITION. Sys2Proof/Machine/Links.lean: what one lane's signal carries to its neighbours: the insole link (R208,
R209), lane locks and port alignment (R145–R149), doze and the wake sequences (R68, R98, R184–R187, R402).
-/

namespace Sys2Proof.Machine

/-- 0x0302 APPLY_IN_PROGRESS applies to a port that a running apply takes DOWN or HIT, a port in FAULT that it sets up anew
among them (R61). -/
def State.applyHolds (s : State) (p : Nat) : Bool :=
  match s.applyTxn with
  | some t => bitOf t.down p || bitOf t.hit p || (bitOf t.fresh p && (s.mode.active.port p).size != 0)
  | none => false

/-- R61 for a line lane: one of a port that the apply takes DOWN or HIT, before the apply or after it. -/
def State.applyHoldsLine (s : State) (k : Nat) : Bool :=
  (List.range 8).any (fun p => s.applyHolds p &&
    ((s.mode.active.lineLanes p).contains k || (s.mode.run.lineLanes p).contains k))

/-- R61 for a host lane. -/
def State.applyHoldsHost (s : State) (j : Nat) : Bool :=
  (List.range 8).any (fun p => s.applyHolds p &&
    ((s.mode.active.hostLanes p).contains j || (s.mode.run.hostLanes p).contains j))

/-- Whether a line lane belongs to a port. -/
def State.lineUsed (s : State) (k : Nat) : Bool := (s.mode.run.portOfLine k).isSome

/-- Whether a host lane belongs to a port. -/
def State.hostUsed (s : State) (j : Nat) : Bool := (s.mode.run.portOfHost j).isSome

/-- The state of the port a host lane belongs to; ABSENT without one. -/
def State.hostPort (s : State) (j : Nat) : PortSt :=
  match s.mode.run.portOfHost j with
  | some p => s.port p
  | none => {}

/-! ## Insole link (R208, R209, R216) -/

/-- Link states of R208. -/
def insOff : Nat := 0
/-- WAIT_CDR. -/
def insWaitCdr : Nat := 1
/-- ACQUIRING. -/
def insAcquiring : Nat := 2
/-- SYNCED. -/
def insSynced : Nat := 3
/-- UP. -/
def insUp : Nat := 4

/-- The link state of a lane. -/
def State.insLink (s : State) (k : Nat) : Nat := s.fld INS_STAT.LINK k

/-- Complete a message (R216): its slot is free again, MSG_DONE sets, a failure is counted and logged. -/
def State.insMsgDone (s : State) (k code : Nat) (m : InsMsg) : State :=
  let s := s.put INS_MSG_STAT.TX_BUSY (bitsWhere (fun n => bitOf (s.fld INS_MSG_STAT.TX_BUSY k) n && n != m.slot) 8) k
  let s := s.raise (INS_CAUSE.MSG_DONE (k % 4)) (dieOfLane k)
  let s := if code = 0 then s else (s.inc .INS_MSG_FAIL_CNT k).log 0x0907 sevWarn k m.slot code
  s.finish m.waiter ⟨code, m.seq, m.sends⟩

/-- Complete every queued and unacknowledged message of a lane with a code. -/
def State.insFlush (s : State) (k code : Nat) : State :=
  let ms := (s.insl k).msgs
  let s := s.setInsl k { s.insl k with msgs := [] }
  ms.foldl (fun s m => s.insMsgDone k code m) s

/-- A lane's own RX_OK; a change makes a LINK frame due (R200). -/
def State.setRxOk (s : State) (k : Nat) (v : Bool) : State :=
  let y := s.insl k
  if y.rxOk = v then s else s.setInsl k { y with rxOk := v, linkDue := true }

/-- Whether a lane's port is DOWN, or has been taken down by an apply (R58 step 2), so that a loss is expected (R221). -/
def State.portIsDown (s : State) (k : Nat) : Bool :=
  (s.lanePort k).st == portDown || (s.lanePort k).st == portConfiguring

/-- The receiver enters a link state below UP, for a reason of R209 if it was UP. -/
def State.insLeave (s : State) (k st reason code : Nat) : State :=
  let was := s.insLink k
  let s := s.put INS_STAT.LINK st k
  if was = insUp then
    let s := s.raise (INS_CAUSE.LINK_DOWN (k % 4)) (dieOfLane k)
    let s := if reason = 4 ∧ s.portIsDown k then s else s.log 0x0902 sevWarn k reason
    let s := (s.setInsl k { s.insl k with hold := some s.now }).putFlag INS_STAT.HOLD true k
    let s := s.setRxOk k false
    (s.setInsl k { s.insl k with mismatch := false, apart := none }).insFlush k code
  else s

/-- The receiver stops: it abandons a frame and waits for clock recovery, or is off (R201, R209 reason 4). -/
def State.insRxStop (s : State) (k : Nat) : State :=
  if s.insLink k = insOff then s
  else ((s.insLeave k insWaitCdr 4 0x0229).putFlag INS_STAT.IN_FRAME false k).setRxOk k false

/-- The receiver enters ACQUIRING and seeds its synthesiser, whose range is ±200 ppm, with LRX_CDR_FOFS (R202, R203). The filter
behind INS_FOFS starts from the seed (DESIGN CHOICE, log entry 133). -/
def State.insSeed (s : State) (k : Nat) : State :=
  let f := clampI (-12800) 12800 (s.sfld LRX_CDR_FOFS.FOFS k)
  (s.put INS_STAT.LINK insAcquiring k).setInsl k
    { s.insl k with synth := f, fofsAcc := f * 2 ^ 32, bits := 0, low := 0, apart := none }

/-- The receiver enters ACQUIRING; a seed beyond ±200 ppm is reported (R203). -/
def State.insAcquire (s : State) (k : Nat) : State :=
  let f := s.sfld LRX_CDR_FOFS.FOFS k
  let s := s.insSeed k
  if f < -12800 ∨ 12800 < f then
    (s.raise (INS_CAUSE.FOFS (k % 4)) (dieOfLane k)).log 0x0904 sevWarn k (s.fld LRX_CDR_FOFS.FOFS k)
  else s

/-- The receiver starts once INS_EN is set, the receive direction is awake and CDR_LOCK is set (R201). -/
def State.insRxStart (s : State) (k : Nat) : State :=
  if s.insLink k = insWaitCdr ∧ s.flag LRX_STAT.CDR_LOCK k ∧ s.flag LRX_STAT.DOZE k = false then s.insAcquire k else s

/-! ## Wake sequences (R402, R403) -/

/-- Whether a sequence of the restart delay table runs for an object. -/
def State.seqOn (s : State) (num obj : Nat) : Bool := s.pwr.seqs.any (fun q => q.num == num && q.obj == obj)

/-- Start a sequence at its first step, unless it runs. -/
def State.startSeq (s : State) (num obj : Nat) (step : Nat := 1) : State :=
  if s.seqOn num obj then s else
    { s with pwr := { s.pwr with
        seqs := s.pwr.seqs ++ [{ num := num, obj := obj, step := step, trigger := s.now, since := s.now }] } }

/-- End a sequence. -/
def State.endSeq (s : State) (num obj : Nat) : State :=
  { s with pwr := { s.pwr with seqs := s.pwr.seqs.filter (fun q => q.num != num || q.obj != obj) } }

/-- Whether a port's transmit direction is in doze or in its restart: towards the line (R98, R161), or the host (R185). -/
def State.txHeld (s : State) (p : Nat) (toLine : Bool) : Bool :=
  if toLine then (s.mode.run.lineLanes p).any (fun k => s.flag LTX_STAT.DOZE k || s.seqOn 6 k)
  else (s.mode.run.hostLanes p).any (fun j => s.flag HL_STAT.TX_DOZE j || s.seqOn 8 j)

/-- A line receive direction that dozes or is in its restart. -/
def State.rxHeld (s : State) (k : Nat) : Bool := s.flag LRX_STAT.DOZE k || s.seqOn 5 k

/-- The state of a lane's island: in transition while the first step of a wake restores it (R34, R402), in doze while either
direction dozes (R16, R68, R98), on otherwise. -/
def laneGate (doze restoring : Bool) : IslandSt := if restoring then .transition else if doze then .doze else .on

/-- Whether a sequence is at its first step. -/
def State.seqFirst (s : State) (num obj : Nat) : Bool := s.pwr.seqs.any (fun q => q.num == num && q.obj == obj && q.step == 1)

/-- A line lane's island follows its directions and their wakes. -/
def State.refreshLineIsland (s : State) (k : Nat) : State :=
  if s.lineUsed k then
    s.turnIsland (lineIsland k)
      (laneGate (s.flag LRX_STAT.DOZE k || s.flag LTX_STAT.DOZE k) (s.seqFirst 5 k || s.seqFirst 6 k))
  else s

/-- A host lane's island follows its directions and their wakes. -/
def State.refreshHostIsland (s : State) (j : Nat) : State :=
  if s.hostUsed j then
    s.turnIsland (hostIsland j)
      (laneGate (s.flag HL_STAT.RX_DOZE j || s.flag HL_STAT.TX_DOZE j) (s.seqFirst 7 j || s.seqFirst 8 j))
  else s

/-- Wake a dozing line receive direction (R68). -/
def State.wakeLineRx (s : State) (k : Nat) : State :=
  if s.flag LRX_STAT.DOZE k then (s.startSeq 5 k).refreshLineIsland k else s

/-- Wake a dozing line transmit direction (R98). -/
def State.wakeLineTx (s : State) (k : Nat) : State :=
  if s.flag LTX_STAT.DOZE k then (s.startSeq 6 k).refreshLineIsland k else s

/-- Wake a dozing host receive direction. -/
def State.wakeHostRx (s : State) (j : Nat) : State :=
  if s.flag HL_STAT.RX_DOZE j then (s.startSeq 7 j).refreshHostIsland j else s

/-- Wake a dozing host transmit direction: RESTART holds until the wake pattern (R174, R185). -/
def State.wakeHostTx (s : State) (j : Nat) : State :=
  if s.flag HL_STAT.TX_DOZE j ∧ s.seqOn 8 j = false then
    let s := (s.startSeq 8 j).refreshHostIsland j
    let s := s.put HL_IDLE_STAT.REASON (s.fld HL_IDLE_STAT.REASON j ||| 8) j
    s.refreshHost j
  else s

/-- A wake of any host receive direction of a port wakes all of them (R184). -/
def State.wakeHostRxPort (s : State) (j : Nat) : State :=
  match s.mode.run.portOfHost j with
  | none => s
  | some p => (s.mode.run.hostLanes p).foldl (fun s j => s.wakeHostRx j) s

/-! ## Port alignment (R147–R149) -/

/-- A port's FEC/PCS. -/
def State.fecOf (s : State) (p : Nat) : FecPort := s.fec.getD p {}

/-- Change a port's FEC/PCS. -/
def State.setFec (s : State) (p : Nat) (v : FecPort) : State := { s with fec := s.fec.set p v }

/-- One direction of a port's FEC/PCS. -/
def State.fecDir (s : State) (p : Nat) (fromHost : Bool) : FecDir := if fromHost then (s.fecOf p).hl else (s.fecOf p).lh

/-- Change one direction of a port's FEC/PCS. -/
def State.setDir (s : State) (p : Nat) (fromHost : Bool) (v : FecDir) : State :=
  s.setFec p (if fromHost then { s.fecOf p with hl := v } else { s.fecOf p with lh := v })

/-- The PCS lanes that a lane, by its index within the port, carries while it is locked (R143). -/
def State.putPcs (s : State) (p : Nat) (fromHost : Bool) (i : Nat) (xs : List Nat) : State :=
  let f := s.fecDir p fromHost
  s.setDir p fromHost { f with pcs := (List.range 8).map (fun n => if n = i then xs else f.pcs.getD n []) }

/-- Whether every lane of a port has AM_LOCK and both directions are deskewed (R149). A line lane that dozes or restarts
does not break an alignment that the port has (R403). -/
def State.isAligned (s : State) (p : Nat) : Bool :=
  let m := s.mode.run
  let am := s.fld FEC_PORT_STAT.AM_LOCK_L p
  let ah := s.fld FEC_PORT_STAT.AM_LOCK_H p
  (m.port p).size != 0 &&
    (List.range (sizeLanes ((m.port p).size))).all (fun i => bitOf am i || ((s.fecOf p).aligned && s.rxHeld (p + i))) &&
    (List.range (2 * sizeLanes ((m.port p).size))).all (fun h => bitOf ah h) &&
    s.flag FEC_PORT_STAT.DESKEWED_LH p && s.flag FEC_PORT_STAT.DESKEWED_HL p


/-- Bring a port's alignment up to date: an ACQUIRING port that aligns enters UP, an UP port that loses alignment
returns to ACQUIRING (R149). -/
def State.refreshAlign (s : State) (p : Nat) : State :=
  let st := (s.port p).st
  let live := st == portAcquiring || st == portUp || st == portTest
  let new := live && s.isAligned p
  let old := (s.fecOf p).aligned
  let s := s.setFec p { s.fecOf p with aligned := new, wasAligned := new || (s.fecOf p).wasAligned }
  if new && !old then
    let s := s.raise (FEC_CAUSE.ALIGNED (p % 4)) (dieOfPort p)
    let s := s.log 0x0702 sevInfo p (s.reg .FEC_SKEW p).toNat
    if st = portAcquiring then s.setPort p portUp 1 else s
  else if st = portUp ∧ new = false then s.setPort p portAcquiring 2
  else s

/-- A port takes a state and its alignment follows. -/
def State.portTo (s : State) (p st reason : Nat) : State := (s.setPort p st reason).refreshAlign p

/-- A port comes to rest where nothing below it is at fault, and its alignment follows. -/
def State.portRest (s : State) (p reason : Nat) : State := (s.restPort p reason).refreshAlign p

/-- Whether losses on a line lane are expected: its receive direction dozes or its port is DOWN (R88, R167). 'While the receive
direction enters doze' is read as the whole time that it dozes: the spec does not bound the entry (DESIGN CHOICE, log entry
125). -/
def State.quietLine (s : State) (k : Nat) : Bool := s.flag LRX_STAT.DOZE k || (s.lanePort k).st == portDown

/-- Whether losses on a host lane are expected (R191). -/
def State.quietHost (s : State) (j : Nat) : Bool := s.flag HL_STAT.RX_DOZE j || (s.hostPort j).st == portDown

/-- A line lane's AM_LOCK, in FEC_PORT_STAT and in LRX_STAT (R147). -/
def State.putAmLine (s : State) (p i : Nat) (v : Bool) : State :=
  let s := s.put FEC_PORT_STAT.AM_LOCK_L
    (bitsWhere (fun n => if n = i then v else bitOf (s.fld FEC_PORT_STAT.AM_LOCK_L p) n) 4) p
  s.putFlag LRX_STAT.AM_LOCK v (p + i)

/-- A line lane loses AM_LOCK: it is counted, reported unless expected, and the port follows (R147, R149, R167). -/
def State.amLostLine (s : State) (k : Nat) : State :=
  match s.mode.run.portOfLine k with
  | none => s
  | some p =>
    let i := k - p
    if bitOf (s.fld FEC_PORT_STAT.AM_LOCK_L p) i then
      let st := (s.port p).st
      let s := (s.putAmLine p i false).putPcs p false i []
      let s :=
        if st = portUp ∨ st = portAcquiring ∨ st = portTest ∨ st = portDown then s.inc .FEC_AM_LOSS_CNT p i else s
      let s := if st = portUp ∧ s.rxHeld k = false then s.raise (FEC_CAUSE.AM_LOST (p % 4)) (dieOfPort p) else s
      let s := if s.quietLine k then s else s.log 0x0701 sevWarn p 1 i
      (s.monitorCalRx k).refreshAlign p
    else s

/-- A host lane loses AM_LOCK. -/
def State.amLostHost (s : State) (j : Nat) : State :=
  match s.mode.run.portOfHost j with
  | none => s
  | some p =>
    let h := j - (s.mode.run.port p).hostGroup
    if bitOf (s.fld FEC_PORT_STAT.AM_LOCK_H p) h then
      let s := s.put FEC_PORT_STAT.AM_LOCK_H
        (bitsWhere (fun n => if n = h then false else bitOf (s.fld FEC_PORT_STAT.AM_LOCK_H p) n) 8) p
      let s := s.putPcs p true h []
      let s := if (s.port p).st = portUp then s.raise (FEC_CAUSE.AM_LOST (p % 4)) (dieOfPort p) else s
      let s := if s.quietHost j then s else s.log 0x0701 sevWarn p 2 h
      s.refreshAlign p
    else s

/-- A line lane loses INNER_LOCK, and with it AM_LOCK (R145, R147). -/
def State.innerLost (s : State) (k : Nat) : State :=
  match s.mode.run.portOfLine k with
  | none => s
  | some p =>
    let i := k - p
    if bitOf (s.fld FEC_PORT_STAT.INNER_LOCK p) i then
      let s := s.put FEC_PORT_STAT.INNER_LOCK
        (bitsWhere (fun n => if n = i then false else bitOf (s.fld FEC_PORT_STAT.INNER_LOCK p) n) 4) p
      let s := if s.quietLine k then s else s.log 0x0708 sevWarn p i
      s.amLostLine k
    else s.amLostLine k

/-! ## Clock recovery of a line lane -/

/-- Every current trim of a lane takes its target (R79, CDR_LOCK clear). -/
def State.snapRxTrims (s : State) (k : Nat) : State :=
  (List.range 128).foldl (fun s n => s.setReg .LRX_ADC_TRIM (s.reg .LRX_ADC_TTRIM k n) k n) s

/-- A line lane's CDR_LOCK clears: it is counted, reported unless expected; a calibration run aborts before the trims
take their targets and the insole receiver stops (R72, R79, R82, R201). -/
def State.cdrLostLine (s : State) (k : Nat) : State :=
  if s.flag LRX_STAT.CDR_LOCK k then
    let s := s.putFlag LRX_STAT.CDR_LOCK false k
    let s := (s.raise LRX_CAUSE.CDR_UNLOCK k).inc .LRX_CDR_UNLOCK_CNT k
    let s := if s.quietLine k then s else s.log 0x0403 sevWarn k (s.reg .LRX_CDR_FOFS k).toNat
    ((s.monitorCalRx k).snapRxTrims k).insRxStop k
  else s

/-- A line lane's receive direction dozes (R68): its locks go, its insole receiver stops. -/
def State.dozeLineRx (s : State) (k : Nat) : State :=
  let s := s.putFlag LRX_STAT.DOZE true k
  let s := ((s.cdrLostLine k).innerLost k).insRxStop k
  s.refreshLineIsland k

/-- Clear a host lane's CDR_LOCK and ADAPT_DONE (R171). -/
def State.cdrLostHost (s : State) (j : Nat) : State :=
  if s.flag HL_STAT.CDR_LOCK j then
    let s := (s.putFlag HL_STAT.CDR_LOCK false j).putFlag HL_STAT.ADAPT_DONE false j
    let s := (s.raise HL_CAUSE.CDR_UNLOCK j).inc .HL_CDR_UNLOCK_CNT j
    if s.quietHost j then s else s.log 0x0803 sevWarn j (s.reg .HL_CDR_FOFS j).toNat
  else s

end Sys2Proof.Machine
end

