-- ==== Sys2Proof/Machine/Fec.lean ====
section
/-!
DEFINITION. Sys2Proof/Machine/Fec.lean: inner code, alignment, RS codewords, rate adaptation, deskew, the shank pool and
the error statistics (spec/06_fec_pcs_gearbox.md).
-/

namespace Sys2Proof.Machine

open Host

/-! ## Locks (R145–R149) -/

/-- INNER_LOCK_SET (R145): three consecutive sync blocks match at the 69,696-symbol spacing, with the inner code on and in a
receiver that runs. The operand is the 64 symbols of each. -/
def execInnerLockSet (k : Fin 8) (blocks : List (List (BitVec 2))) (s : State) : Outcome State Fault Refusal :=
  .next (match s.mode.run.portOfLine k with
  | none => s
  | some p =>
    if (s.mode.run.port p).inner ∧ s.flag LRX_STAT.CDR_LOCK k ∧ blocks.length = 3 ∧ blocks.all syncMatches then
      s.put FEC_PORT_STAT.INNER_LOCK
        (bitsWhere (fun n => n = k - p || bitOf (s.fld FEC_PORT_STAT.INNER_LOCK p) n) 4) p
    else s)

/-- INNER_LOCK_CLEAR (R145, R147): the sync blocks at four consecutive expected positions fail to match. -/
def execInnerLockClear (k : Fin 8) (blocks : List (List (BitVec 2))) (s : State) : Outcome State Fault Refusal :=
  .next (match s.mode.run.portOfLine k with
  | none => s
  | some p =>
    if bitOf (s.fld FEC_PORT_STAT.INNER_LOCK p) (k - p) ∧ blocks.length = 4 ∧ blocks.all (fun b => !(syncMatches b)) then
      s.innerLost k
    else s)

/-- Whether a port's counters advance: UP or TEST (R163). -/
def State.counting (s : State) (p : Nat) : Bool := (s.port p).st == portUp || (s.port p).st == portTest

/-- INNER_CODEWORD (R146): a received codeword, with the reliability of each bit's symbol and whether its bits are the less
significant of their pairs. What the decoder delivers is kept; the bits it changed are counted, or the codeword it could not
correct. -/
def execInnerCodeword (k : Fin 8) (word : BitVec 128) (rel : List (BitVec 3)) (lesser : Bool) (s : State) :
    Outcome State Fault Refusal :=
  .next (match s.mode.run.portOfLine k with
  | none => s
  | some p =>
    if bitOf (s.fld FEC_PORT_STAT.INNER_LOCK p) (k - p) then
      let (out, changed) := innerDecode word rel lesser
      let s := s.setLine k { s.line k with delivered := out }
      if s.counting p ∧ s.flag LRX_STAT.DOZE k = false then
        match changed with
        | some n => s.inc .FEC_INNER_CORR_CNT p (k - p) n
        | none => s.inc .FEC_INNER_UNCORR_CNT p (k - p)
      else s
    else s)

/-- The PCS lanes that a lane's alignment markers may name: each of the port's at most once, and as many as the lane carries
(R143). -/
def pcsOk (size per : Nat) (xs : List (Fin 32)) : Bool :=
  xs.length * per == pcsCount size && xs.all (fun x => decide (x.val < pcsCount size)) && decide xs.Nodup

/-- AM_LOCK_SET (R143, R147): every PCS lane that the lane carries is locked, and named by its markers. A line lane needs
INNER_LOCK with the inner code on and clock recovery in any case; a lane that sends a test pattern has its AM_LOCK clear
(R148), and so has a lane whose receiver checks one. A host lane in its restart keeps its bit until the restart ends (R184). -/
def execAmLockSet (host : Bool) (n : Fin 16) (lanes : List (Fin 32)) (s : State) : Outcome State Fault Refusal :=
  .next (if host then
    match s.mode.run.portOfHost n with
    | none => s
    | some p =>
      let size := (s.mode.run.port p).size
      let h := n - (s.mode.run.port p).hostGroup
      if s.flag HL_STAT.CDR_LOCK n ∧ (s.mode.run.hlane n).rxCheck = 0 ∧ pcsOk size (2 * sizeLanes size) lanes then
        let s := s.putPcs p true h (lanes.map (fun x => x.val))
        (s.put FEC_PORT_STAT.AM_LOCK_H
          (bitsWhere (fun i => i = h || bitOf (s.fld FEC_PORT_STAT.AM_LOCK_H p) i) 8) p).refreshAlign p
      else s
  else
    match s.mode.run.portOfLine n with
    | none => s
    | some p =>
      let size := (s.mode.run.port p).size
      if s.flag LRX_STAT.CDR_LOCK n ∧ (s.mode.run.lane n).txPattern = 0 ∧ (s.mode.run.lane n).rxCheck = 0 ∧
          ((s.mode.run.port p).inner = false ∨ bitOf (s.fld FEC_PORT_STAT.INNER_LOCK p) (n - p)) ∧
          pcsOk size (sizeLanes size) lanes then
        ((s.putPcs p false (n - p) (lanes.map (fun x => x.val))).putAmLine p (n - p) true).refreshAlign p
      else s)

/-- AM_LOCK_CLEAR (R147, R149). -/
def execAmLockClear (host : Bool) (n : Fin 16) (s : State) : Outcome State Fault Refusal :=
  .next (if host then if s.flag HL_STAT.RX_DOZE n ∨ s.seqOn 7 n then s else s.amLostHost n else s.amLostLine n)

/-! ## RS codewords (R150, R163, R165) -/

/-- Whether a port's codewords are decoded and encoded: terminate mode, or a deep loopback (R153). -/
def State.terminates (s : State) (p : Nat) : Bool :=
  (s.mode.run.port p).fecTerm || (s.mode.run.port p).loopback == 2 || (s.mode.run.port p).loopback == 4

/-- Whether a direction of a port is deskewed. -/
def State.deskewed (s : State) (p : Nat) (fromHost : Bool) : Bool :=
  if fromHost then s.flag FEC_PORT_STAT.DESKEWED_HL p else s.flag FEC_PORT_STAT.DESKEWED_LH p

/-- Whether every lane of a direction has AM_LOCK, so that its skew can be measured. -/
def State.dirLocked (s : State) (p : Nat) (fromHost : Bool) : Bool :=
  let n := sizeLanes (s.mode.run.port p).size
  if fromHost then (List.range (2 * n)).all (fun h => bitOf (s.fld FEC_PORT_STAT.AM_LOCK_H p) h)
  else (List.range n).all (fun i => bitOf (s.fld FEC_PORT_STAT.AM_LOCK_L p) i)

/-- Whether a receive direction of a port dozes. -/
def State.dirDozes (s : State) (p : Nat) (fromHost : Bool) : Bool :=
  if fromHost then (s.mode.run.hostLanes p).any (fun j => s.flag HL_STAT.RX_DOZE j)
  else (s.mode.run.lineLanes p).any (fun k => s.flag LRX_STAT.DOZE k)

/-- Whether every line lane of a direction delivers to the RS decoder: with the inner code on each needs its INNER_LOCK (R145). -/
def State.innerHeld (s : State) (p : Nat) (fromHost : Bool) : Bool :=
  let q := s.mode.run.port p
  fromHost || !q.inner || (List.range (sizeLanes q.size)).all (fun i => bitOf (s.fld FEC_PORT_STAT.INNER_LOCK p) i)

/-- An uncorrectable codeword: counted, and its cause set. In terminate mode it is marked, and FEC_UNCORR is logged at most once
per second with the number marked since the port's previous one for that direction (R150, R167); monitor mode marks none,
and logs none (R152). -/
def State.markCodeword (s : State) (p : Nat) (fromHost : Bool) : State :=
  let s := s.inc (if fromHost then .FEC_HCW_UNCORR_CNT else .FEC_LCW_UNCORR_CNT) p
  let s := s.raise (FEC_CAUSE.UNCORR (p % 4)) (dieOfPort p)
  if s.terminates p = false then s
  else
    let f := s.fecDir p fromHost
    if s.rateOk 0x0704 p then
      let s := s.logRate p 0x0704 sevWarn p (b2n fromHost) (f.marked + 1)
      s.setDir p fromHost { s.fecDir p fromHost with marked := 0, logged := true }
    else s.setDir p fromHost { f with marked := f.marked + 1 }

/-- Where the blocks of a direction's codewords go: to the other side, or under a deep loopback back (R47). HOST_DEEP sends
nothing of the host's to the line and nothing of the line's to the host; LINE_DEEP returns the line's data and passes it to
the host too, whose data it takes the place of (DEDUCED, log entry 129). -/
def State.blockTargets (s : State) (p : Nat) (fromHost : Bool) : List Bool :=
  match (s.mode.run.port p).loopback with
  | 2 => if fromHost then [false] else []
  | 4 => if fromHost then [] else [false, true]
  | _ => [fromHost]

/-- Blocks join those that wait to be encoded. -/
def State.pushBlocks (s : State) (p : Nat) (fromHost : Bool) (bs : List (BitVec 66)) : State :=
  (s.blockTargets p fromHost).foldl
    (fun s d => s.setDir p d { s.fecDir p d with queue := (s.fecDir p d).queue ++ bs }) s

/-- CODEWORD_DECODE (R145, R149, R150, R156, R159, R163): the PCS lane of each symbol in error, and the 66-bit blocks that the
codeword carries. 1 to 15 errors are corrected; 16 or more make the codeword uncorrectable, and so do a pool word that read
uncorrectable and a direction that has lost alignment. A marked codeword has every block replaced by an error control block.
It counts only in UP or TEST and while its direction does not doze. -/
def execCodewordDecode (p : Fin 8) (fromHost : Bool) (errors : List (Fin 32)) (blocks : List (BitVec 66)) (s : State) :
    Outcome State Fault Refusal :=
  let held := s.deskewed p fromHost && s.dirLocked p fromHost
  .next (if (s.mode.run.port p).size ≠ 0 ∧ s.innerHeld p fromHost ∧ (held ∨ (s.fecOf p).wasAligned) ∧
      errors.all (fun x => decide (x.val < pcsCount (s.mode.run.port p).size)) then
    let n := errors.length
    let f := s.fecDir p fromHost
    let bad := !held || f.bad || decide (15 < n)
    let s := s.setDir p fromHost { f with bad := false }
    let s := if s.terminates p then s.pushBlocks p fromHost (if bad then blocks.map (fun _ => Config.errorBlock) else blocks) else s
    if s.counting p = false ∨ s.dirDozes p fromHost then s
    else
      let s := s.inc (if fromHost then .FEC_HCW_CNT else .FEC_LCW_CNT) p
      if bad then s.markCodeword p fromHost
      else if n = 0 then s
      else
        let s := s.inc (if fromHost then .FEC_HCW_CORR_CNT else .FEC_LCW_CORR_CNT) p
        let s := s.inc (if fromHost then .FEC_HSYM_CORR_CNT else .FEC_LSYM_CORR_CNT) p 0 n
        let s := if fromHost then s else s.inc .FEC_LCW_HIST_CNT p n
        errors.foldl (fun s (x : Fin 32) =>
          match laneOfPcs f.pcs x.val with
          | some i => s.inc (if fromHost then .FEC_HL_SYM_CNT else .FEC_LL_SYM_CNT) p i
          | none => s) s
  else s)

/-- The positions of the symbols that injection inverts (R165). -/
def injectPositions (symbols : Nat) : List Nat := (List.range symbols).map (fun n => 17 * n)

/-- What a direction encodes next, 80 blocks: towards the host Local Fault until the port is aligned (R175); towards the line
idle while a host receive direction dozes or restarts (R184); else the blocks that wait, oldest first, and idle blocks where
they run out. -/
def State.nextBlocks (s : State) (p : Nat) (toHost : Bool) : List (BitVec 66) :=
  if toHost ∧ (s.fecOf p).aligned = false then List.replicate 80 Config.localFault
  else if toHost = false ∧ (s.mode.run.hostLanes p).any (fun j => s.flag HL_STAT.RX_DOZE j || s.seqOn 7 j) then
    List.replicate 80 Config.idleBlock
  else ((s.fecDir p (!toHost)).queue ++ List.replicate 80 Config.idleBlock).take 80

/-- CODEWORD_ENCODE (R150, R165, R175): the next codeword of a direction. With injection's EN set and the direction DIR it is
corrupted when ONCE is set, or as the one in 2^PERIOD; a ONCE injection clears EN and sets INJ_DONE. -/
def execCodewordEncode (p : Fin 8) (toHost : Bool) (s : State) : Outcome State Fault Refusal :=
  .next (if (s.mode.run.port p).size ≠ 0 ∧ (s.terminates p ∨ (toHost ∧ (s.fecOf p).aligned = false)) then
    let f := s.fecDir p (!toHost)
    let mine := s.flag FEC_INJ_CTL.EN p && s.flag FEC_INJ_CTL.DIR p == toHost
    let once := s.flag FEC_INJ_CTL.ONCE p
    let n := f.encoded + 1
    let due := mine && (once || n % 2 ^ s.fld FEC_INJ_CTL.PERIOD p == 0)
    let s := s.setDir p (!toHost) { f with
      sent := s.nextBlocks p toHost
      queue := f.queue.drop 80
      inverted := if due then injectPositions (s.fld FEC_INJ_CTL.SYMBOLS p) else []
      encoded := if mine then n else 0 }
    if due && once then (s.putFlag FEC_INJ_CTL.EN false p).raise (FEC_CAUSE.INJ_DONE (p.val % 4)) (dieOfPort p) else s
  else s)

/-! ## Rate adaptation and slips (R151, R152) -/

/-- Whether a place among waiting blocks lies between frames: beside an idle block, or at an end. -/
def betweenFrames (bs : List (BitVec 66)) (n : Nat) : Bool :=
  n == 0 || bs.length ≤ n || bs[n]? == some Config.idleBlock || bs[n - 1]? == some Config.idleBlock

/-- RATE_ADAPT_ADJUST (R151): an idle block is inserted between frames among those that wait in a direction, or one is deleted; no
byte of a frame is added or removed. -/
def execRateAdaptAdjust (p : Fin 8) (fromHost insert : Bool) (place : Nat) (s : State) : Outcome State Fault Refusal :=
  let f := s.fecDir p fromHost
  .next (if s.terminates p ∧ (if insert then betweenFrames f.queue place else f.queue[place]? == some Config.idleBlock) then
    let s := s.setDir p fromHost { f with
      queue := if insert then f.queue.take place ++ Config.idleBlock :: f.queue.drop place else f.queue.eraseIdx place }
    if s.counting p ∧ s.dirDozes p fromHost = false then s.inc .FEC_RA_ADJ_CNT p else s
  else s)

/-- A slip of a port (R151, R152): counted while UP, TEST or ACQUIRING. -/
def State.slip (s : State) (p : Nat) : State :=
  if s.counting p ∨ (s.port p).st = portAcquiring then
    let s := (s.inc .FEC_SLIP_CNT p).raise (FEC_CAUSE.SLIP (p % 4)) (dieOfPort p)
    s.logRate p 0x0705 sevWarn p ((s.cnt .FEC_SLIP_CNT p).toNat % 2 ^ 32)
  else s

/-- FEC_SLIP (R151): a rate-adaptation buffer overflows or underflows, and the codewords in it are lost: of the two outcomes that
the rule names, lost or marked, the one that counts nothing more (DEDUCED, log entry 130). -/
def execFecSlip (p : Fin 8) (fromHost : Bool) (s : State) : Outcome State Fault Refusal :=
  .next (if s.terminates p ∧ s.dirDozes p fromHost = false then
    (s.setDir p fromHost { s.fecDir p fromHost with queue := [] }).slip p
  else s)

/-- A 10-bit symbol dropped or repeated at one place of a PCS lane's stream. -/
def slipStream (repeats : Bool) (n : Nat) (xs : List (BitVec 10)) : List (BitVec 10) :=
  if repeats then xs.take n ++ (xs.drop n).take 1 ++ xs.drop n else xs.eraseIdx n

/-- MONITOR_SLIP (R152): a line lane's slip buffer drops or repeats one symbol on every PCS lane of the lane at once
(`slipStream`). The receiver that then loses its alignment-marker lock is the one beyond this device, the host or the far end:
the port's own decoder works on a copy (DEDUCED, log entry 130). -/
def execMonitorSlip (k : Fin 8) (s : State) : Outcome State Fault Refusal :=
  .next (match s.mode.run.portOfLine k with
  | none => s
  | some p => if s.terminates p then s else s.slip p)

/-- FRAME_PARSE (R154). -/
def execFrameParse (p : Fin 8) (fromHost fcsOk : Bool) (s : State) : Outcome State Fault Refusal :=
  .next (if (s.mode.run.port p).frameView ∧ s.counting p ∧ s.dirDozes p fromHost = false then
    let s := s.inc .FEC_FRAME_CNT p
    if fcsOk then s else s.inc .FEC_FCS_ERR_CNT p
  else s)

/-! ## Deskew (R155, R156) -/

/-- SKEW_OVER is set while either direction is over its limit. -/
def State.refreshSkewOver (s : State) (p : Nat) : State :=
  let f := s.fecOf p
  (s.putFlag FEC_PORT_STAT.SKEW_OVER (f.lh.tooFar || f.hl.tooFar) p).putFlag FEC_PORT_STAT.SKEW_OVER_HL f.hl.tooFar p

/-- The hold of each PCS lane in 1/16 ns: the guard of 8 ns, and the time by which it preceded the latest. -/
def pcsHolds (arrivals : List Nat) : List Nat := arrivals.map (fun t => 128 + (arrivals.foldl max 0 - t))

/-- The skew of a direction in 1/16 ns: the largest difference in arrival between its PCS lanes. -/
def pcsSkew (arrivals : List Nat) : Nat :=
  match arrivals with
  | [] => 0
  | t :: ts => ts.foldl max t - ts.foldl min t

/-- SKEW_MEASUREMENT (R151, R155, R156): the arrival of each of the port's PCS lanes in 1/16 ns, and rate adaptation's fill in 1/16
ns, which lies between 2 ns and 6 ns. In monitor mode the hold is 0 (R162). A skew is shown in whole ns, rounded up (DESIGN
CHOICE, log entry 131). A direction that is over its limit is not deskewed, and is reported on its entry into that. -/
def execSkewMeasurement (p : Fin 8) (fromHost : Bool) (arrivals : List Nat) (fill : BitVec 8) (s : State) :
    Outcome State Fault Refusal :=
  .next (if ((s.port p).st = portAcquiring ∨ s.counting p) ∧ s.dirLocked p fromHost ∧
      arrivals.length = pcsCount (s.mode.run.port p).size then
    let limit := if fromHost then 64 else s.fld FEC_SKEW.BUDGET p
    let ns := (pcsSkew arrivals + 15) / 16
    let s := if fromHost then s else s.put FEC_SKEW.SKEW (satN 16 ns) p
    let f := s.fecDir p fromHost
    let tooFar := decide (16 * limit < pcsSkew arrivals)
    let term := s.terminates p
    let fill := if term then clampN 32 96 fill.toNat else 0
    let holds := if term then pcsHolds arrivals else arrivals.map (fun _ => 0)
    let s := (s.setDir p fromHost { f with tooFar := tooFar }).refreshSkewOver p
    let s := s.putFlag (if fromHost then FEC_PORT_STAT.DESKEWED_HL else FEC_PORT_STAT.DESKEWED_LH) (!tooFar) p
    let s :=
      if tooFar then
        if f.tooFar then s
        else
          let s := (s.raise (FEC_CAUSE.SKEW_OVER (p.val % 4)) (dieOfPort p)).inc .FEC_SKEW_OVER_CNT p
          s.log 0x0703 sevWarn p ns limit (b2n fromHost)
      else
        let s := s.setDir p fromHost { s.fecDir p fromHost with holds := holds, fill := fill }
        s.put (if fromHost then FEC_HOLD_HL.HOLD else FEC_HOLD_LH.HOLD) (satN 20 (holds.foldl max 0 + fill)) p
    s.refreshAlign p
  else s)

/-! ## Frames that meet a transmit restart (R161, R185) -/

/-- The bits of a port's traffic that its re-interleave granules hold: 96 ns at 400 Gb/s a line lane. -/
def wakeHold (size : Nat) : Nat := 38400 * sizeLanes size

/-- WAKE_FRAME_DISCARD (R161, R185): a frame of `len` bytes meets a transmit direction that dozes or restarts. Towards the line it
waits while the hold has room; once the hold is full, it and each later frame is discarded whole. Towards the host every frame
is. The count advances only as R163 has it. -/
def execWakeFrameDiscard (p : Fin 8) (fromHost : Bool) (len : Nat) (s : State) : Outcome State Fault Refusal :=
  .next (if s.txHeld p fromHost then
    let f := s.fecDir p fromHost
    let cap := if fromHost then wakeHold (s.mode.run.port p).size else 0
    if f.waiting + 8 * len ≤ cap ∧ f.waiting < cap then s.setDir p fromHost { f with waiting := f.waiting + 8 * len }
    else
      let s := s.setDir p fromHost { f with waiting := cap, dropped := f.dropped + 1 }
      let s := s.raise (FEC_CAUSE.WAKE_DROP (p.val % 4)) (dieOfPort p)
      if s.counting p ∧ s.dirDozes p fromHost = false then s.inc .FEC_WAKE_DROP_CNT p else s
  else s)

/-- A transmit restart of a port ends with the last of its lanes: what waited is sent first, and FEC_WAKE_DROP is logged once if
frames were discarded. -/
def State.endRestart (s : State) (p : Nat) (fromHost : Bool) : State :=
  if s.txHeld p fromHost then s
  else
    let f := s.fecDir p fromHost
    let s := s.setDir p fromHost { f with waiting := 0, dropped := 0 }
    if f.dropped = 0 then s else s.log 0x0706 sevWarn p f.dropped

/-! ## Error statistics (R164, R165) -/

/-- Whether a key names a counter of port `p`. -/
def isPortCnt (p : Nat) (k : RKey) : Bool :=
  k.u == p && layout_fecport.any (fun r => r.reg == k.reg)

/-- STAT_CTL.LATCH: the shadow bank takes every counter of the port. -/
def State.statLatch (s : State) (p : Nat) : State :=
  let rest := s.shadow.filter (fun c => !(isPortCnt p c.1))
  { s with shadow := (s.cnts.filter (fun c => isPortCnt p c.1)).foldl (fun m c => insertAt RKey.lt c.1 c.2 m) rest }

/-- STAT_CTL.CLEAR: every live counter of the port is 0. The marked codewords of a direction count from here where the port has
logged no FEC_UNCORR for it (R167). -/
def State.statClear (s : State) (p : Nat) : State :=
  let s := { s with cnts := s.cnts.filter (fun c => !(isPortCnt p c.1)) }
  let clear (d : FecDir) : FecDir := if d.logged then d else { d with marked := 0 }
  s.setFec p { s.fecOf p with lh := clear (s.fecOf p).lh, hl := clear (s.fecOf p).hl }

/-- A write of FEC_STAT_CTL: latch, then clear (R164). -/
def State.statCtlWrite (s : State) (p : Nat) (data : W32) : State :=
  let s := if getBits data 0 1 = 1 then s.statLatch p else s
  if getBits data 1 1 = 1 then s.statClear p else s

/-- STAT_LATCH (R164). -/
def execStatLatch (p : Fin 8) (s : State) : Outcome State Fault Refusal :=
  .next (if (s.mode.run.port p).size ≠ 0 then s.statCtlWrite p 1 else s)

/-- STAT_CLEAR (R164). -/
def execStatClear (p : Fin 8) (s : State) : Outcome State Fault Refusal :=
  .next (if (s.mode.run.port p).size ≠ 0 then s.statCtlWrite p 2 else s)

/-- A write of FEC_INJ_CTL (R165). -/
def State.injCtlWrite (s : State) (p : Nat) (data : W32) : State :=
  if (s.mode.run.port p).fecTerm then
    let m := Reg.FEC_INJ_CTL.access.rwl
    let s := s.setReg .FEC_INJ_CTL ((s.reg .FEC_INJ_CTL p &&& ~~~ m) ||| (data &&& m)) p
    let zero (d : FecDir) : FecDir := { d with encoded := 0 }
    s.setFec p { s.fecOf p with lh := zero (s.fecOf p).lh, hl := zero (s.fecOf p).hl }
  else s.raise FEC_PORT_STAT.INJ_LOCK p

/-- FEC_INJ_CTL_WRITE (R165). -/
def execFecInjCtlWrite (p : Fin 8) (data : W32) (s : State) : Outcome State Fault Refusal :=
  .next (if (s.mode.run.port p).size ≠ 0 then s.injCtlWrite p data else s)

/-! ## The shank pool (R52, R157, R158, R160) -/

/-- Whether a granule of a die's pool is fenced. The fence lasts until a device reset. -/
def State.isFenced (s : State) (d g : Nat) : Bool := s.fenced.contains (384 * d + g)

/-- Granules of a die that are allocated. -/
def State.poolAllocated (s : State) (d : Nat) : Nat :=
  ((List.range 384).filter (fun g => s.flag FEC_POOL_MAP.ALLOC d g)).length

/-- Granules fenced in a die. -/
def State.poolFenced (s : State) (d : Nat) : Nat := ((List.range 384).filter (fun g => s.isFenced d g)).length

/-- Granules of a die that are neither allocated nor fenced. -/
def State.poolFree (s : State) (d : Nat) : Nat :=
  ((List.range 384).filter (fun g => !(s.flag FEC_POOL_MAP.ALLOC d g) && !(s.isFenced d g))).length

/-- Bring FEC_POOL_STAT and FEC_POOL_FENCED up to date. -/
def State.refreshPool (s : State) (d : Nat) : State :=
  let s := s.put FEC_POOL_STAT.ALLOCATED (s.poolAllocated d) d
  let s := s.put FEC_POOL_STAT.FREE (s.poolFree d) d
  s.put FEC_POOL_FENCED.FENCED (s.poolFenced d) d

/-- The address of a granule in the pool window. -/
def granuleAddr (d g : Nat) : Nat := (Block.pool d).base + 0x1000 * g

/-- Allocate the lowest-numbered free granule that is not fenced, and write every word of it (R157). -/
def State.allocGranule (s : State) (d p use lane index : Nat) : State :=
  match (List.range 384).find? (fun g => !(s.flag FEC_POOL_MAP.ALLOC d g) && !(s.isFenced d g)) with
  | none => s
  | some g =>
    let s := s.setReg .FEC_POOL_MAP (BitVec.ofNat 32 (1 + 2 * p + 16 * use + 256 * lane + 65536 * index)) d g
    s.initRange (granuleAddr d g) (granuleAddr d (g + 1))

/-- Deskew granules of a DESKEW code (R52): per port for code 0, per line lane for the others. -/
def deskewGranules (code : Nat) : Nat :=
  match code with
  | 0 => 1 | 1 => 2 | 2 => 4 | 3 => 8 | 4 => 15 | 5 => 29 | 6 => 57 | 7 => 114 | _ => 227

/-- The budget of a DESKEW code in ns (R52). -/
def deskewBudget (code : Nat) : Nat := if code = 0 then 0 else 2 ^ (6 + code)

/-- A port's granules in the order of R157: use, lane, index. -/
def granulePlan (q : PortDesc) (crossing : Bool) : List (Nat × Nat × Nat) :=
  let n := sizeLanes q.size
  let run (use lane c : Nat) := (List.range c).map (fun i => (use, lane, i))
  (List.range n).flatMap (fun i => run 0 i (deskewGranules q.deskew)) ++ run 1 0 (2 * n) ++
    (if q.frameView then run 2 0 (4 * n) else []) ++
    (if crossing then (List.range (2 * n)).map (fun h => (3, h, 0)) else [])

/-- Allocate a port's granules of the given uses. -/
def State.allocPort (s : State) (p : Nat) (uses : List Nat) : State :=
  let q := s.mode.run.port p
  (((granulePlan q (s.mode.run.crossing p)).filter (fun x => uses.contains x.1)).foldl
    (fun s x => s.allocGranule (dieOfPort p) p x.1 x.2.1 x.2.2) s).refreshPool (dieOfPort p)

/-- The FENCED bit of a free granule's map entry. -/
def fencedEntry (b : Bool) : W32 := if b then 0x80 else 0

/-- Release a port's granules of the given uses; a fenced one is never allocated again (R158). -/
def State.releasePort (s : State) (p : Nat) (uses : List Nat) : State :=
  let d := dieOfPort p
  ((List.range 384).foldl
    (fun s g =>
      if s.flag FEC_POOL_MAP.ALLOC d g ∧ s.fld FEC_POOL_MAP.PORT d g = p ∧ uses.contains (s.fld FEC_POOL_MAP.USE d g) then
        s.setReg .FEC_POOL_MAP (fencedEntry (s.isFenced d g)) d g
      else s) s).refreshPool d

/-- Fence the granule that holds an address declared a hard error (R158). -/
def State.fence (s : State) (d g : Nat) : State :=
  if s.isFenced d g then s
  else
    let s := { s with fenced := s.fenced ++ [384 * d + g] }
    let s := (s.raise FEC_POOL_MAP.FENCED d g).refreshPool d
    s.log 0x0707 sevWarn (d - 1) g (if s.flag FEC_POOL_MAP.ALLOC d g then s.fld FEC_POOL_MAP.PORT d g else 0xFF)

/-- Whether a granule's window accepts a write: it is free or belongs to a CONFIGURING port (R160). -/
def State.granuleOpen (s : State) (d g : Nat) : Bool :=
  !(s.flag FEC_POOL_MAP.ALLOC d g) || (s.port (s.fld FEC_POOL_MAP.PORT d g)).st == portConfiguring

/-! ## Commands (R166) -/

/-- FEC_STAT_LATCH. -/
def cmdStatLatch : Handler := fun p _ s =>
  let q := p.byte 0
  if 7 < q ∨ 1 < p.byte 1 ∨ p.zeroFrom 2 = false then (fieldRange, s)
  else if s.applyHolds q then (failWith 0x0302, s)
  else if (s.mode.active.port q).size = 0 then (failWith 0x0224, s)
  else (okWith, s.statCtlWrite q (BitVec.ofNat 32 (1 + 2 * p.byte 1)))

/-- FEC_POOL_STATUS. -/
def cmdPoolStatus : Handler := fun p _ s =>
  if 1 < p.byte 0 ∨ p.zeroFrom 1 = false then (fieldRange, s)
  else (okWith (s.reg .FEC_POOL_STAT (p.byte 0 + 1)).toNat (s.reg .FEC_POOL_FENCED (p.byte 0 + 1)).toNat, s)

/-- FEC_SKEW_REPORT. -/
def cmdSkewReport : Handler := fun p _ s =>
  let q := p.byte 0
  if 7 < q ∨ p.zeroFrom 1 = false then (fieldRange, s)
  else if s.applyHolds q then (failWith 0x0302, s)
  else if (s.mode.active.port q).size = 0 then (failWith 0x0224, s)
  else (okWith (s.reg .FEC_SKEW q).toNat (s.reg .FEC_HOLD_LH q).toNat, s)

/-- FEC_STAT_LATCH (R166). -/
def execFecStatLatch (e : Fin 256) (s : State) : Outcome State Fault Refusal := .next (s.runCmd e 0x07 0x01 cmdStatLatch)

/-- FEC_POOL_STATUS (R166). -/
def execFecPoolStatus (e : Fin 256) (s : State) : Outcome State Fault Refusal := .next (s.runCmd e 0x07 0x02 cmdPoolStatus)

/-- FEC_SKEW_REPORT (R166). -/
def execFecSkewReport (e : Fin 256) (s : State) : Outcome State Fault Refusal := .next (s.runCmd e 0x07 0x03 cmdSkewReport)

end Sys2Proof.Machine
end

