-- ==== Sys2Proof/Machine/Memory.lean ====
section
/-!
DEFINITION. Sys2Proof/Machine/Memory.lean: protected memory words (R353–R366): what a read, a partial write and a full
write do, the leaky buckets, the hard-error trackers and the error capture.
-/

namespace Sys2Proof.Machine

/-- The number that names a memory word: its byte address where it is mapped; beyond 2^32 for a memory outside the
address map, with its die and region, the island number in [31:24] and the word index in [23:0] (R367). -/
def buriedLoc (die region island word : Nat) : Nat :=
  (1 + 8 * die + region) * 0x100000000 + (island % 256) * 0x1000000 + word % 0x1000000

/-- The number of a memory location. -/
def locOf : MemLoc → Nat
  | .mapped a => a.toNat
  | .buried d r i w => buriedLoc d r i.toNat w.toNat

/-- The die and region of a memory word (R366); none for an address outside the protected memories. -/
def regionOf (a : Nat) : Option (Nat × Nat) :=
  if 0x100000000 ≤ a then some ((a / 0x100000000 - 1) / 8, (a / 0x100000000 - 1) % 8)
  else
    match blockAt a with
    | none => none
    | some (b, off) =>
      match b with
      | .sram => some (0, 0)
      | .mbx => if 0x2000 ≤ off ∧ off < 0x6000 then some (0, 1) else none
      | .mram => some (0, 2)
      | .rack _ => if off < 0x10000 then none else if off < 0x20000 then some (b.die, 0) else some (b.die, 1)
      | .pool d => some (d, 3)
      | .ins d => if 0x8000 ≤ off ∧ off < 0xC000 then some (d, 6) else none
      | .line _ => if 0x4000 ≤ off ∧ off < 0x4400 then some (b.die, 7) else none
      | .host _ => if 0x1000 ≤ off ∧ off < 0x1100 then some (b.die, 7) else none
      | _ => none

/-- The island a memory word belongs to. -/
def locIsland (a : Nat) : Nat :=
  if 0x100000000 ≤ a then islandId ((a / 0x100000000 - 1) / 8) (a / 0x1000000 % 256)
  else
    match blockAt a with
    | some (b, _) => b.island
    | none => 0

/-- The memories of an island outside the address map lose their contents with it, and their tracker entries (R360). -/
def State.loseBuried (s : State) (id : Nat) : State :=
  let keep (p : Nat × W72) : Bool := decide (p.1 < 0x100000000) || locIsland p.1 != id
  { s with
    mem := s.mem.filter keep
    ctl := { s.ctl with trackers :=
      s.ctl.trackers.map (fun t => t.filter (fun p => decide (p.1 < 0x100000000) || locIsland p.1 != id)) } }

/-- The unit number of a region's registers. -/
def regionUnit (die region : Nat) : Nat := 8 * die + region

/-- The unit number of a die's memory-integrity registers. -/
def memUnit (die : Nat) : Nat := die

/-- A region ID (R366). -/
def regionId (die region : Nat) : Nat := die * 0x1000 + region

/-- The tracked locations of a die. -/
def State.tracker (s : State) (die : Nat) : List (Nat × Nat) := s.ctl.trackers.getD die []

/-- Change the tracked locations of a die. -/
def State.setTracker (s : State) (die : Nat) (v : List (Nat × Nat)) : State :=
  { s with ctl := { s.ctl with trackers := s.ctl.trackers.set die v } }

/-- A location is tracked no longer (R362). -/
def State.untrack (s : State) (die a : Nat) : State := s.setTracker die ((s.tracker die).filter (fun p => p.1 != a))

/-- The MRAM row of an address (R359). -/
def mramRow (a : Nat) : Nat := (a - 0x2000000) / 1024

/-- A hard error (R362–R364): it is reported and listed, and its row is remapped, its granule fenced or its page
withdrawn where that is possible. -/
def State.hardError (s : State) (die region a : Nat) : State :=
  let loc := a % 0x100000000
  let row := mramRow a
  let n := s.fld MEM_STAT.HARD_COUNT die
  let s :=
    if n < 16 then (s.setReg .MEM_HARD (BitVec.ofNat 32 loc) die n).put MEM_STAT.HARD_COUNT (n + 1) die
    else s.raise MEM_STAT.HARD_OVF die
  let s := s.raise (MEM_CAUSE.HARD region) die
  let id := regionId die region
  if die = 0 ∧ region = 2 then
    if s.ctl.copying.contains row then s.log 0x0303 sevWarn id loc 1
    else if s.ctl.remapped.length + s.ctl.copying.length < 64 then
      let s := { s with ctl := { s.ctl with copying := s.ctl.copying ++ [row] } }
      s.log 0x0303 sevWarn id loc 1
    else (s.log 0x0303 sevWarn id loc 3).log 0x0304 sevErr id loc
  else if die = 0 ∧ region = 0 then
    let s := { s with ctl := { s.ctl with pages := s.ctl.pages ++ [(a - 0x1000000) / 0x1000] } }
    s.log 0x0303 sevWarn id loc 2
  else if region = 3 ∧ die ≠ 0 then
    (s.fence die ((a - (Block.pool die).base) / 0x1000)).log 0x0303 sevWarn id loc 2
  else s.log 0x0303 sevWarn id loc 3

/-- A corrected read of a location in its die's tracker (R362). -/
def State.track (s : State) (die region a : Nat) : State :=
  let t := s.tracker die
  match t.find? (fun p => p.1 == a) with
  | none => s.setTracker die ((if t.length < 8 then t else t.drop 1) ++ [(a, 1)])
  | some (_, n) =>
    if 3 ≤ n + 1 then (s.untrack die a).hardError die region a
    else s.setTracker die (t.map (fun p => if p.1 = a then (a, n + 1) else p))

/-- THRESH of a region, of which 0 acts as 1. -/
def State.bucketThresh (s : State) (u : Nat) : Nat := max 1 (s.fld MEM_BKT_CFG.THRESH u)

/-- Count a corrected error in its region: counter, bucket, tracker and the island's bank (R361, R362, R136). -/
def State.countCorrected (s : State) (a : Nat) : State :=
  match regionOf a with
  | none => s
  | some (die, region) =>
    let u := regionUnit die region
    let s := (s.inc .MEM_CORR_CNT u).perf (locIsland a) 0x08
    let level := s.fld MEM_BKT_STAT.LEVEL u + 1
    let s :=
      if s.bucketThresh u ≤ level then
        let s := (s.put MEM_BKT_STAT.LEVEL 0 u).bump MEM_BKT_STAT.OVERFLOWS u
        (s.raise (MEM_CAUSE.CORR_BURST region) die).log 0x0301 sevWarn (regionId die region) (s.bucketThresh u)
          ((s.cnt .MEM_CORR_CNT u).toNat % 2 ^ 32)
      else s.put MEM_BKT_STAT.LEVEL level u
    s.track die region a

/-- The kinds of access of MEM_ERR_INFO. -/
def kindRead : Nat := 1
/-- A partial write refused. -/
def kindPartial : Nat := 2
/-- A scrub step. -/
def kindScrub : Nat := 3

/-- Count an uncorrectable error in its region, capture it if the capture is armed, and report it (R354, R361). `src` is
the master, 15 for the datapath or scrubber. -/
def State.countUncorrectable (s : State) (a src kind : Nat) (poison : Bool) : State :=
  match regionOf a with
  | none => s
  | some (die, region) =>
    let u := regionUnit die region
    let id := regionId die region
    let s := (s.inc .MEM_UNCORR_CNT u).raise (MEM_CAUSE.UNCORR region) die
    let s :=
      if s.flag MEM_ERR_INFO.VALID u then s
      else
        let s := s.setReg .MEM_ERR_LOC (BitVec.ofNat 32 (a % 0x100000000)) u
        let s := (s.put MEM_ERR_INFO.SRC src u).put MEM_ERR_INFO.KIND kind u
        let s := (s.putFlag MEM_ERR_INFO.POISONED poison u).putFlag MEM_ERR_INFO.LOC_KIND (decide (0x100000000 ≤ a)) u
        s.raise MEM_ERR_INFO.VALID u
    s.logRate id 0x0302 sevErr id (a % 0x100000000) (s.reg .MEM_ERR_INFO u).toNat

/-- After a corrected read: an SRAM word is written back at once, an MRAM row is due for a refresh (R359). -/
def State.writeBack (s : State) (a : Nat) (d : W64) : State :=
  if regionOf a = some (0, 2) then
    if s.ctl.refresh.contains (mramRow a) then s
    else { s with ctl := { s.ctl with refresh := s.ctl.refresh ++ [mramRow a] } }
  else s.setWord a (protect d)

/-- A read of a protected word (R354): its data, or none where it delivers no data. -/
def State.readWord (s : State) (a : Nat) (src : Nat := 15) (kind : Nat := 1) : Option W64 × State :=
  match classify (s.word a) with
  | .clean d =>
    match regionOf a with
    | some (die, _) => (some d, s.untrack die a)
    | none => (some d, s)
  | .corrected d => (some d, (s.countCorrected a).writeBack a d)
  | .poison => (none, s.countUncorrectable a src kind true)
  | .uncorrectable => (none, s.countUncorrectable a src kind false)

/-- Several reads in a row; none where one of them delivers no data. -/
def State.readWords (s : State) : List Nat → Option (List W64) × State
  | [] => (some [], s)
  | a :: as =>
    let (x, s) := s.readWord a
    let (xs, s) := s.readWords as
    match x, xs with
    | some d, some ds => (some (d :: ds), s)
    | _, _ => (none, s)

/-- A full write of a word (R356): fresh check bits, no tracker entry. -/
def State.writeWord (s : State) (a : Nat) (d : W64) : State :=
  let s := s.setWord a (protect d)
  match regionOf a with
  | some (die, _) => s.untrack die a
  | none => s

/-- The bytes of `new` that `be` names, over `old`. -/
def mergeBytes (old new : W64) (be : Nat) : W64 :=
  let m : W64 := BitVec.ofNat 64 (bitsWhere (fun n => bitOf be (n / 8)) 64)
  (old &&& ~~~ m) ||| (new &&& m)

/-- A write of some bytes of a word (R355): merged into clean or corrected data, or else the word is poisoned. A word found
clean is tracked no longer (R362). The answer tells whether the write was merged. -/
def State.mergeWord (s : State) (a : Nat) (d : W64) (be : Nat) (src : Nat := 15) : Bool × State :=
  if be = 0xFF then (true, s.writeWord a d)
  else
    match classify (s.word a) with
    | .clean old => (true, s.writeWord a (mergeBytes old d be))
    | .corrected old => (true, (s.countCorrected a).setWord a (protect (mergeBytes old d be)))
    | .poison => (false, (s.countUncorrectable a src kindPartial true).setWord a (poisoned (dataOf (s.word a))))
    | .uncorrectable => (false, (s.countUncorrectable a src kindPartial false).setWord a (poisoned (dataOf (s.word a))))

end Sys2Proof.Machine
end

