-- ==== Sys2Proof/Machine/Operands.lean ====
section
/-!
DEFINITION. Sys2Proof/Machine/Operands.lean: the instruction words of a last (R114), its operand forms and its
addressing (R111, R113, R115).
-/

namespace Sys2Proof.Machine

/-! ## Instruction words (R114) -/

/-- An instruction of a last, as its word spells it. -/
inductive LInstr where
  | arith (op a s1 s2 modx mody : Nat) (cap : Bool) (cd : Nat)
  | sta (a d : Nat) (low : Bool)
  | stm (a ptr mode : Nat) (low : Bool)
  | ldi (d : Nat) (half : Bool) (value : Nat)
  | shift (a : Nat) (right : Bool) (count : Nat)
  | movr (d src : Nat)
  | ext (dd ds pos width : Nat) (sgn : Bool)
  | logic (dd ds op : Nat)
  | mem (store : Bool) (d ptr mode : Nat)
  | lda (kind n value : Nat)
  | adda (n change : Nat)
  | mova (kind n d : Nat)
  | bra (cond target : Nat)
  | call (cond target : Nat)
  | ret (cond : Nat)
  | loop (count last : Nat)
  | loopr (d last : Nat)
  | rep (count : Nat)
  | yield
  | svc (number : Nat)
  | twin (newest : Bool)
  | leave (cond : Nat)
  | breq (write : Bool) (d : Nat) (baseEn : Bool) (base offset : Nat)
  | brsp (d : Nat)
  | movc (d reg : Nat)
  | movfc (d reg : Nat)
  | rti
  | halt
  deriving DecidableEq, Repr

/-- Two different memory operand codes of the same memory (R114): 8–11 name X memory, 12–15 Y memory. -/
def clash (s1 s2 : Nat) : Bool := decide (8 ≤ s1) && decide (8 ≤ s2) && s1 / 4 == s2 / 4 && s1 != s2

/-- Class ARITH. -/
def decodeArith (w : W32) : Option LInstr :=
  let op := getBits w 25 4
  let s1 := getBits w 19 4
  let s2 := getBits w 15 4
  if op = 0xF ∨ getBits w 0 7 ≠ 0 ∨ clash s1 s2 then none
  else some (.arith op (getBits w 23 2) s1 s2 (getBits w 13 2) (getBits w 11 2) (getBits w 10 1 == 1) (getBits w 7 3))

/-- Class ACC. -/
def decodeAcc (w : W32) : LInstr :=
  match getBits w 26 3 with
  | 0 => .sta (getBits w 24 2) (getBits w 21 3) (getBits w 20 1 == 1)
  | 1 => .stm (getBits w 24 2) (4 * getBits w 23 1 + getBits w 21 2) (getBits w 19 2) (getBits w 18 1 == 1)
  | 2 => .ldi (getBits w 23 3) (getBits w 22 1 == 1) (getBits w 0 16)
  | 3 => .shift (getBits w 24 2) (getBits w 23 1 == 1) (getBits w 16 6)
  | 4 => .movr (getBits w 23 3) (getBits w 18 5)
  | 5 => .ext (getBits w 23 3) (getBits w 20 3) (getBits w 15 5) (getBits w 10 5) (getBits w 9 1 == 1)
  | 6 => .logic (getBits w 23 3) (getBits w 20 3) (getBits w 18 2)
  | _ => .mem (getBits w 25 1 == 1) (getBits w 22 3) (4 * getBits w 21 1 + getBits w 19 2) (getBits w 17 2)

/-- Class ADDR. -/
def decodeAddr (w : W32) : Option LInstr :=
  match getBits w 27 2 with
  | 0 => if getBits w 25 2 = 3 then none else some (.lda (getBits w 25 2) (getBits w 22 3) (getBits w 0 11))
  | 1 => some (.adda (getBits w 22 3) (getBits w 0 11))
  | 2 => if getBits w 25 2 = 3 then none else some (.mova (getBits w 25 2) (getBits w 22 3) (getBits w 19 3))
  | _ => none

/-- Class FLOW. -/
def decodeFlow (w : W32) : Option LInstr :=
  match getBits w 25 4 with
  | 0 => some (.bra (getBits w 21 4) (getBits w 0 14))
  | 1 => some (.call (getBits w 21 4) (getBits w 0 14))
  | 2 => some (.ret (getBits w 21 4))
  | 3 => some (.loop (getBits w 14 11) (getBits w 0 14))
  | 4 => some (.loopr (getBits w 22 3) (getBits w 0 14))
  | 5 => some (.rep (getBits w 14 11))
  | 6 => some .yield
  | 7 => some (.svc (getBits w 0 8))
  | 8 => some (.twin (getBits w 0 1 == 1))
  | 9 => some (.leave (getBits w 21 4))
  | _ => none

/-- Class BUS. -/
def decodeBus (w : W32) : LInstr :=
  if getBits w 28 1 = 0 then
    .breq (getBits w 27 1 == 1) (getBits w 24 3) (getBits w 23 1 == 1) (getBits w 20 3) (getBits w 0 18)
  else .brsp (getBits w 24 3)

/-- Class SYS. -/
def decodeSys (w : W32) : Option LInstr :=
  match getBits w 25 4 with
  | 0 => some (.movc (getBits w 22 3) (getBits w 0 8))
  | 1 => some (.movfc (getBits w 22 3) (getBits w 0 8))
  | 2 => some .rti
  | 3 => some .halt
  | _ => none

/-- The instruction a word spells; none where it traps ILLEGAL. -/
def decodeLast (w : W32) : Option LInstr :=
  match getBits w 29 3 with
  | 0 => decodeArith w
  | 1 => some (decodeAcc w)
  | 2 => decodeAddr w
  | 3 => decodeFlow w
  | 4 => some (decodeBus w)
  | 5 => decodeSys w
  | _ => none

/-- The class code of an instruction. -/
def LInstr.cls : LInstr → Nat
  | .arith .. => 0
  | .sta .. | .stm .. | .ldi .. | .shift .. | .movr .. | .ext .. | .logic .. | .mem .. => 1
  | .lda .. | .adda .. | .mova .. => 2
  | .bra .. | .call .. | .ret .. | .loop .. | .loopr .. | .rep .. | .yield | .svc .. | .twin .. | .leave .. => 3
  | .breq .. | .brsp .. => 4
  | .movc .. | .movfc .. | .rti | .halt => 5

/-- A NOP. -/
def LInstr.isNop : LInstr → Bool
  | .arith 0 .. => true
  | _ => false

/-! ## A last's registers (R110) -/

/-- A last of a rack. -/
def State.last (s : State) (r l : Nat) : Last := lookup {} (8 * r + l) s.lasts

/-- Change a last. -/
def State.setLast (s : State) (r l : Nat) (v : Last) : State :=
  { s with lasts := writeAt natLt {} (8 * r + l) v s.lasts }

/-- What a rack holds beside its registers. -/
def State.rackOf (s : State) (r : Nat) : RackSt := lookup {} r s.racks

/-- Change what a rack holds. -/
def State.setRack (s : State) (r : Nat) (v : RackSt) : State := { s with racks := writeAt natLt {} r v s.racks }

/-- Data register `n`. -/
def Last.D (y : Last) (n : Nat) : W24 := y.d.getD n 0

/-- Write a data register. -/
def Last.setD (y : Last) (n : Nat) (v : W24) : Last := { y with d := y.d.set n v }

/-- Accumulator `n`. -/
def Last.A (y : Last) (n : Nat) : W56 := y.a.getD n 0

/-- Write an accumulator. -/
def Last.setA (y : Last) (n : Nat) (v : W56) : Last := { y with a := y.a.set n v }

/-- Pointer `n`. -/
def Last.P (y : Last) (n : Nat) : Nat := (y.p.getD n 0).toNat

/-- Write a pointer. -/
def Last.setP (y : Last) (n v : Nat) : Last := { y with p := y.p.set n (BitVec.ofNat 10 v) }

/-- The length of pointer `n`'s buffer: a 0 is read as 1,024. -/
def Last.L (y : Last) (n : Nat) : Nat := if (y.l.getD n 0).toNat = 0 then 1024 else (y.l.getD n 0).toNat

/-- The step of pointer `n`. -/
def Last.Q (y : Last) (n : Nat) : Int := (y.q.getD n 0).toInt

/-- Supervisor mode. -/
def Last.super (y : Last) : Bool := y.sr.getLsbD 8

/-! ## Memories (R108) -/

/-- The address of program word `w` of a rack. -/
def progAddr (r w : Nat) : Nat := (Block.rack r).base + 0x10000 + 8 * w

/-- The address of a location of the X memory (pointers 0–3) or the Y memory (pointers 4–7) of a last. -/
def dataAddr (r l : Nat) (ySpace : Bool) (a : Nat) : Nat :=
  (Block.rack r).base + 0x20000 + 0x2000 * l + (if ySpace then 0x1000 else 0) + 4 * a

/-- The address of a location of a rack's shared memory. -/
def sharedAddr (r a : Nat) : Nat := (Block.rack r).base + 0x30000 + 4 * a

/-- The native word of a 24-bit location: bits [63:24] repeat bit 23. -/
def locWord (v : W24) : W64 := v.signExtend 64

/-! ## Addressing (R113) -/

/-- The least b with 2^b at least `n`, for n up to 2,047. -/
def ceilLog2 (n : Nat) : Nat := ((List.range 12).find? (fun b => decide (n ≤ 2 ^ b))).getD 11

/-- The 10 bits of a number in reverse order. -/
def rev10 (v : Nat) : Nat := bitsWhere (fun n => bitOf v (9 - n)) 10

/-- A pointer after a change under its AMODE; none where the spec leaves it open (a length beyond 1,024). -/
def Last.stepped (y : Last) (n : Nat) (change : Int) : Option Nat :=
  match (y.amode.toNat >>> (2 * n)) % 4 with
  | 1 =>
    if 1024 < y.L n then none
    else
      let base := y.P n - y.P n % 2 ^ ceilLog2 (y.L n)
      some ((base + (((y.P n - base : Nat) : Int) + change).emod (y.L n)).toNat % 1024)
  | 2 => some (rev10 ((rev10 (y.P n) + rev10 (unsigned 10 change)) % 1024))
  | _ => some (unsigned 10 (y.P n + change))

/-- The change a mode field names: none, +1, −1 or +Q. -/
def Last.change (y : Last) (n mode : Nat) : Int :=
  match mode with
  | 1 => 1
  | 2 => -1
  | 3 => y.Q n
  | _ => 0

/-- The pointer that a mode field leaves, drawing the open value where there is one. Mode 0 leaves the pointer as it is, also one
that lies outside its modulo buffer: R114 calls it none (DESIGN CHOICE, log entry 149). -/
def State.nextPtr (s : State) (y : Last) (n mode : Nat) : Nat × State :=
  if mode = 0 then (y.P n, s)
  else
    match y.stepped n (y.change n mode) with
    | some v => (v, s)
    | none => let (x, s) := s.free; (x % 1024, s)

/-- What an operand access ends in: the value, or the vector of a trap. -/
inductive Got (α : Type) where
  | ok (v : α)
  | trap (vector : Nat)

/-- Trap vectors (R125). -/
def vecIllegal : Nat := 1
/-- PRIV. -/
def vecPriv : Nat := 2
/-- FETCH_UNCORR. -/
def vecFetch : Nat := 3
/-- DATA_UNCORR. -/
def vecData : Nat := 4
/-- BUS_PAIRING. -/
def vecPairing : Nat := 5
/-- BUS_RANGE. -/
def vecRange : Nat := 6
/-- WATCHDOG. -/
def vecWatchdog : Nat := 7
/-- DATA_PROTECT. -/
def vecProtect : Nat := 8
/-- STACK. -/
def vecStack : Nat := 9
/-- SVC. -/
def vecSvc : Nat := 10

/-- User mode has no access to X and Y addresses 960–1,023 (R113, R124). -/
def Last.protects (y : Last) (a : Nat) : Bool := !y.super && decide (960 ≤ a)

/-- Read the location at pointer `n` (R113, R365). -/
def State.readAt (s : State) (r l : Nat) (y : Last) (n : Nat) : Got W24 × State :=
  if y.protects (y.P n) then (.trap vecProtect, s)
  else
    match s.readWord (dataAddr r l (decide (4 ≤ n)) (y.P n)) with
    | (some d, s) => (.ok (d.setWidth 24), s)
    | (none, s) => (.trap vecData, s)

/-- The value of an operand code: a data register, or the location at a pointer, which MODX or MODY then steps. -/
def State.operand (s : State) (r l : Nat) (y : Last) (code modx mody : Nat) : Got (W24 × Last) × State :=
  if code < 8 then (.ok (y.D code, y), s)
  else
    let n := code - 8
    match s.readAt r l y n with
    | (.ok v, s) =>
      let (p, s) := s.nextPtr y n (if n < 4 then modx else mody)
      (.ok (v, y.setP n p), s)
    | (.trap v, s) => (.trap v, s)

/-- Both operands of an ARITH instruction (R115): data registers as they stood before; one memory code named twice is read
once and its pointer stepped once. -/
def State.operands (s : State) (r l : Nat) (y : Last) (s1 s2 modx mody : Nat) : Got (W24 × W24 × Last) × State :=
  match s.operand r l y s1 modx mody with
  | (.trap v, s) => (.trap v, s)
  | (.ok (v1, y1), s) =>
    if s1 = s2 then (.ok (v1, v1, y1), s)
    else
      match s.operand r l y1 s2 modx mody with
      | (.trap v, s) => (.trap v, s)
      | (.ok (v2, y2), s) => (.ok (v1, v2, y2), s)

/-! ## What an instruction reads (R116) -/

/-- Data registers that an instruction reads. -/
def LInstr.readsD : LInstr → List Nat
  | .arith _ _ s1 s2 .. => [s1, s2].filter (fun n => decide (n < 8))
  | .movr _ src => if 24 ≤ src then [src - 24] else []
  | .ldi d half _ => if half then [d] else []
  | .ext _ ds .. => [ds]
  | .logic dd ds _ => [dd, ds]
  | .mem store d .. => if store then [d] else []
  | .mova _ _ d => [d]
  | .loopr d _ => [d]
  | .breq w d be b _ => (if w then [d] else []) ++ (if be then [b] else [])
  | .movc d _ => [d]
  | _ => []

/-- Accumulators that STA, STM and MOVR read. -/
def LInstr.readsA : LInstr → List Nat
  | .sta a .. => [a]
  | .stm a .. => [a]
  | .movr _ src => if 16 ≤ src ∧ src < 24 then [src % 4] else []
  | _ => []

/-- The accumulator that ARITH or SHIFT writes. -/
def LInstr.writesA : LInstr → Option Nat
  | .arith op a .. => if op = 0 ∨ op = 0xC then none else some a
  | .shift a .. => some a
  | _ => none

/-- The data register whose next reader waits: that of a MEM load, STA, LDI, MOVR, EXT, LOGIC, MOVFC or BRSP. -/
def LInstr.writesD : LInstr → Option Nat
  | .mem store d .. => if store then none else some d
  | .sta _ d _ => some d
  | .ldi d .. => some d
  | .movr d _ => some d
  | .ext dd .. => some dd
  | .logic dd .. => some dd
  | .movfc d _ => some d
  | .brsp d => some d
  | _ => none

/-- TWIN, BRSP and YIELD, one of which a last must complete every 2^20 instructions (R126). -/
def LInstr.feeds : LInstr → Bool
  | .twin .. | .brsp .. | .yield => true
  | _ => false

/-- The instructions that set flags: ARITH but NOP, SHIFT, STA, STM, EXT and LOGIC. -/
def LInstr.setsFlags : LInstr → Bool
  | .arith op .. => op != 0
  | .shift .. | .sta .. | .stm .. | .ext .. | .logic .. => true
  | _ => false

/-- A BRA, CALL, RET or LEAVE with a condition. -/
def LInstr.conditional : LInstr → Bool
  | .bra c _ => c != 0
  | .call c _ => c != 0
  | .ret c => c != 0
  | .leave c => c != 0
  | _ => false

/-- Slots the interlocks of R116 stall an instruction. -/
def Last.interlock (y : Last) (i : LInstr) : Nat :=
  let d := match y.dBy with | some n => b2n (i.readsD.contains n) | none => 0
  let a := match y.accBy with | some n => b2n (i.readsA.contains n) | none => 0
  let f := if i.conditional then (if y.flags1 then 2 else if y.flags2 then 1 else 0) else 0
  max (max d a) f

end Sys2Proof.Machine
end

