-- ==== Sys2Proof/Machine/Flags.lean ====
section
/-!
DEFINITION. Sys2Proof/Machine/Flags.lean: the status register of a last, saturation and rounding (R110–R112).
-/

namespace Sys2Proof.Machine

/-- Bits of SR (R110). -/
def srZ : Nat := 0
/-- N. -/
def srN : Nat := 1
/-- V. -/
def srV : Nat := 2
/-- S, sticky. -/
def srS : Nat := 4
/-- AV, sticky. -/
def srAV : Nat := 5
/-- E. -/
def srE : Nat := 6
/-- SV. -/
def srSV : Nat := 8
/-- TWN. -/
def srTWN : Nat := 9

/-- `v` with bit `n` written. -/
def putBit24 (v : W24) (n : Nat) (b : Bool) : W24 :=
  (v &&& ~~~ (1 <<< n : W24)) ||| (if b then (1 <<< n : W24) else 0)

/-- Write a bit of SR. -/
def Last.putSr (y : Last) (n : Nat) (b : Bool) : Last := { y with sr := putBit24 y.sr n b }

/-- Set a sticky bit of SR where `b` holds. -/
def Last.stick (y : Last) (n : Nat) (b : Bool) : Last := if b then y.putSr n true else y

/-- Whether an unread tap record waits (TWN). -/
def State.tapWaits (s : State) (r : Nat) (y : Last) : Bool := decide (y.seen < (s.rackOf r).written)

/-- SR as it reads: TWN is live. -/
def State.srRead (s : State) (r : Nat) (y : Last) : W24 := putBit24 y.sr srTWN (s.tapWaits r y)

/-- The 56-bit range. -/
def accFits (x : Int) : Bool := decide (-(2 ^ 55 : Int) ≤ x) && decide (x < 2 ^ 55)

/-- The nearest 56-bit value. -/
def accSat (x : Int) : Int := satSigned 56 x

/-- V of a result: outside −2^46 … 2^46 − 1 (R111). -/
def accV (x : Int) : Bool := decide (x < -(2 ^ 46 : Int)) || decide ((2 ^ 46 : Int) ≤ x)

/-- Z, N and V of an accumulator result, and AV where the exact result saturates. -/
def Last.accFlags (y : Last) (exact : Int) : Last :=
  let x := accSat exact
  let y := ((y.putSr srZ (decide (x = 0))).putSr srN (decide (x < 0))).putSr srV (accV x)
  y.stick srAV (!(accFits exact))

/-- Write an exact result into an accumulator (R111). -/
def Last.putAcc (y : Last) (k : Nat) (exact : Int) : Last := (y.setA k (BitVec.ofInt 56 (accSat exact))).accFlags exact

/-- Z, N and V of a 24-bit result, which never lies beyond the word field's range. -/
def Last.flags24 (y : Last) (v : W24) : Last :=
  ((y.putSr srZ (decide (v = 0))).putSr srN v.msb).putSr srV false

/-- A store of an accumulator to 24 bits before saturation: form H rounds the word field half up, form L takes A itself
(R112). -/
def storeValue (a : W56) (low : Bool) : Int := if low then a.toInt else floorShift (a.toInt + 2 ^ 22) 23

/-- The stored value of an accumulator, its flags, and S where it saturates (R112). -/
def Last.stored (y : Last) (k : Nat) (low : Bool) : W24 × Last :=
  let x := storeValue (y.A k) low
  let v : W24 := BitVec.ofInt 24 (satSigned 24 x)
  (v, (y.flags24 v).stick srS (decide (satSigned 24 x ≠ x)))

/-- Whether a condition holds (R114); none for the undefined codes. -/
def State.cond (s : State) (r : Nat) (y : Last) (c : Nat) : Option Bool :=
  let z := y.sr.getLsbD srZ
  let n := y.sr.getLsbD srN
  match c with
  | 0 => some true
  | 1 => some z
  | 2 => some (!z)
  | 3 => some n
  | 4 => some (!n)
  | 5 => some (!n && !z)
  | 6 => some (n || z)
  | 7 => some (y.sr.getLsbD srV)
  | 8 => some (y.sr.getLsbD srS)
  | 9 => some (y.sr.getLsbD srE)
  | 10 => some (s.tapWaits r y)
  | 11 => some (!(s.tapWaits r y))
  | _ => none

/-- A condition, drawing the open value of an undefined code. -/
def State.condOf (s : State) (r : Nat) (y : Last) (c : Nat) : Bool × State :=
  match s.cond r y c with
  | some b => (b, s)
  | none => let (x, s) := s.free; (x % 2 == 1, s)

/-- +1 for x at least 0, else −1. -/
def sgn (x : Int) : Int := if 0 ≤ x then 1 else -1

end Sys2Proof.Machine
end

