-- ==== Sys2Proof/Machine/LineRx.lean ====
section
/-!
DEFINITION. Sys2Proof/Machine/LineRx.lean: the line receiver and interleave calibration (spec/03_line_receiver.md).
-/

namespace Sys2Proof.Machine

open Host

/-! ## Signal detection and doze (R68) -/

/-- SIG_DETECT_ASSERT (R68): SIG_PRESENT sets; a change from clear to set wakes a dozing receive direction. -/
def execSigDetectAssert (k : Fin 8) (s : State) : Outcome State Fault Refusal :=
  .next (if s.lineUsed k ∧ s.flag LRX_STAT.SIG_PRESENT k = false then
    let s := (s.raise LRX_STAT.SIG_PRESENT k).raise LRX_CAUSE.SIG_FOUND k
    (s.log 0x0402 sevInfo k 0).wakeLineRx k
  else s)

/-- SIG_DETECT_DEASSERT (R68): SIG_PRESENT clears; the loss is counted, and logged unless it is expected (R88). -/
def execSigDetectDeassert (k : Fin 8) (s : State) : Outcome State Fault Refusal :=
  .next (if s.lineUsed k ∧ s.flag LRX_STAT.SIG_PRESENT k then
    let s := (s.putFlag LRX_STAT.SIG_PRESENT false k).raise LRX_CAUSE.SIG_LOST k
    let s := s.inc .LRX_SIG_LOSS_CNT k
    let s := if s.quietLine k then s else s.log 0x0401 sevWarn k (s.reg .LRX_SIG_PWR k).toNat
    s.monitorCalRx k
  else s)

/-- WAKE_PATTERN_SEEN (R68): the tone detector, if it is enabled, sets WAKE_SEEN and wakes a dozing receive direction. Where an
earlier pattern has set the bit and nothing has read it, the bit changes no more and no event is logged, and the direction
wakes all the same: the pattern is what wakes it (DEDUCED, log entry 118). -/
def execWakePatternSeen (k : Fin 8) (s : State) : Outcome State Fault Refusal :=
  .next (if s.lineUsed k ∧ s.flag LRX_SIGDET_CTL.WAKE_EN k then
    let s := if s.flag LRX_STAT.WAKE_SEEN k then s else (s.raise LRX_STAT.WAKE_SEEN k).log 0x0402 sevInfo k 1
    s.wakeLineRx k
  else s)

/-- LRX_DOZE_TIMER (R68). -/
def execLrxDozeTimer (k : Fin 8) (s : State) : Outcome State Fault Refusal :=
  .next (if s.lineUsed k ∧ (s.mode.run.lane k).dozeRx ≠ 0 ∧ s.rxHeld k = false then s.dozeLineRx k else s)

/-! ## Clock recovery (R72) -/

/-- LRX_CDR_FOFS takes the estimate and the rotator phase, which FREEZE holds; an estimate beyond ±300 ppm is
reported. -/
def State.putFofs (s : State) (k : Nat) (fofs : BitVec 16) (phase : BitVec 8) : State :=
  if s.flag LRX_CDR_CTL.FREEZE k then s
  else
    let s := (s.put LRX_CDR_FOFS.FOFS fofs.toNat k).put LRX_CDR_FOFS.PHASE phase.toNat k
    let x := s.sfld LRX_CDR_FOFS.FOFS k
    if x < -19200 ∨ 19200 < x then
      (s.raise LRX_CAUSE.FOFS_RANGE k).log 0x0404 sevWarn k (s.reg .LRX_CDR_FOFS k).toNat
    else s

/-- Whether the receiver of a line lane runs: the lane is used, awake, and its LPLL is locked. -/
def State.rxRuns (s : State) (k : Nat) : Bool :=
  s.lineUsed k && !(s.flag LRX_STAT.DOZE k) && s.locked (dieOfLane k) (lpllBit k)

/-- CDR_LOCK_SET (R72). -/
def execCdrLockSet (k : Fin 8) (fofs : BitVec 16) (phase : BitVec 8) (s : State) : Outcome State Fault Refusal :=
  .next (if s.rxRuns k ∧ s.flag LRX_STAT.CDR_LOCK k = false then
    let s := s.putFofs k fofs phase
    let s := (s.raise LRX_STAT.CDR_LOCK k).raise LRX_CAUSE.CDR_LOCK k
    s.insRxStart k
  else s)

/-- CDR_LOCK_CLEAR (R72). -/
def execCdrLockClear (k : Fin 8) (fofs : BitVec 16) (phase : BitVec 8) (s : State) : Outcome State Fault Refusal :=
  .next (if s.rxRuns k ∧ s.flag LRX_STAT.CDR_LOCK k then (s.putFofs k fofs phase).cdrLostLine k else s)

/-! ## Coefficients (R73) -/

/-- The registers that the lane's running racks alone write. -/
def isRxCoef (r : Reg) : Bool :=
  r = .LRX_AFE_CTL || r = .LRX_CDR_CTL || r = .LRX_DET_CTL || r = .LRX_THR || r = .LRX_FFE_COEF || r = .LRX_VNLE_KERN

/-- Whether every rack of a lane's program set is halted, each with all its lasts. -/
def State.racksHalted (s : State) (k : Nat) : Bool := (s.laneRacks k).all (fun r => s.fld RACK_STAT.HALTED r == 0xFF)

/-- The bits of a register that its RWL access lets a permitted write change. A value outside a field's stated range
(LRX_DET_CTL.MAIN 49 to 63, LRX_CDR_CTL.KI 24 to 31) is stored as it is written: the spec gives the range and not what becomes
of such a write (DESIGN CHOICE, log entry 122). -/
def State.writeRwl (s : State) (r : Reg) (u i : Nat) (data : W32) : State :=
  let m := r.access.rwl ||| r.access.rw
  s.setReg r ((s.reg r u i &&& ~~~ m) ||| (data &&& m)) u i

/-- A write of a receiver coefficient register by a master that is no rack (R73). -/
def State.coefWrite (s : State) (k : Nat) (r : Reg) (i : Nat) (data : W32) : State :=
  if s.racksHalted k then s.writeRwl r k i data
  else (s.raise LRX_STAT.COEF_LOCK k).raise LRX_CAUSE.LOCK k

/-- LRX_COEF_WRITE (R73), by the register's offset in the lane block. -/
def execLrxCoefWrite (k : Fin 8) (off : BitVec 15) (data : W32) (s : State) : Outcome State Fault Refusal :=
  .next (if s.lineUsed k then
    match findReg layout_lane off.toNat with
    | some (r, i, _) => if isRxCoef r then s.coefWrite k r i data else s
    | none => s
  else s)

/-! ## Monitors and the histogram (R76, R77) -/

/-- LRX_MONITOR_WINDOW (R76): the values measured over the window. They hold while the lane's island dozes (R16). LRX_SNR reads 0
while CDR_LOCK is clear, whatever it holds. -/
def execLrxMonitorWindow (k : Fin 8) (msq snr : BitVec 16) (l0 l1 l2 l3 : W32) (s : State) :
    Outcome State Fault Refusal :=
  .next (if s.rxRuns k ∧ s.island (lineIsland k) = .on then
    let s := (s.put LRX_SIG_PWR.MSQ msq.toNat k).put LRX_SNR.SNR snr.toNat k
    let s := (s.setReg .LRX_LEVEL l0 k 0).setReg .LRX_LEVEL l1 k 1
    (s.setReg .LRX_LEVEL l2 k 2).setReg .LRX_LEVEL l3 k 3
  else s)

/-- The address of a histogram bin. -/
def histAddr (k b : Nat) : Nat := (Block.line k).base + 0x4000 + 4 * b

/-- The count of a histogram bin. -/
def State.histBin (s : State) (k b : Nat) : Nat := (dataOf (s.word (histAddr k b))).toNat % 2 ^ 32

/-- Write the count of a histogram bin, which saturates. -/
def State.setHistBin (s : State) (k b n : Nat) : State := s.setWord (histAddr k b) (protect (BitVec.ofNat 64 (satN 32 n)))

/-- LEN of a histogram capture: 10–30, other values act as 30. -/
def State.histLen (s : State) (k : Nat) : Nat :=
  let n := s.fld LRX_HIST_CTL.LEN k
  if 10 ≤ n ∧ n ≤ 30 then n else 30

/-- A write of 1 to LRX_HIST_CTL.START: a capture clears the bins and runs; ignored while one runs (R77). It takes 2^LEN samples
by the LEN that the register holds at its start: whether a later write of LEN changes a running capture is not stated (DESIGN
CHOICE, log entry 117). -/
def State.histStart (s : State) (k : Nat) : State :=
  if s.flag LRX_HIST_STAT.BUSY k then s
  else
    let s := (List.range 256).foldl (fun s b => s.setHistBin k b 0) s
    let s := s.setLine k { s.line k with histGoal := 2 ^ s.histLen k, histTaken := 0 }
    (s.putFlag LRX_HIST_STAT.BUSY true k).putFlag LRX_HIST_STAT.DONE false k

/-- HIST_START (R77). -/
def execHistStart (k : Fin 8) (s : State) : Outcome State Fault Refusal :=
  .next (if s.lineUsed k then s.histStart k else s)

/-- A running capture takes one sample of a 4,096-symbol block: the ADC code, or y[13:6] clipped, plus 128 names its bin (R77). -/
def State.histSample (s : State) (k : Nat) (code : BitVec 8) (y : Int) : State :=
  let n := (s.line k).histTaken
  if s.flag LRX_HIST_STAT.BUSY k ∧ n < (s.line k).histGoal then
    let v := if s.flag LRX_HIST_CTL.SRC k then satSigned 8 (floorShift y 6) else code.toInt
    let b := (v + 128).toNat
    (s.setHistBin k b (s.histBin k b + 1)).setLine k { s.line k with histTaken := n + 1 }
  else s

/-- HIST_DONE (R77): the running capture has taken its 2^LEN samples. -/
def execHistDone (k : Fin 8) (s : State) : Outcome State Fault Refusal :=
  .next (if s.rxRuns k ∧ s.flag LRX_HIST_STAT.BUSY k ∧ (s.line k).histTaken = (s.line k).histGoal then
    ((s.putFlag LRX_HIST_STAT.BUSY false k).putFlag LRX_HIST_STAT.DONE true k).raise LRX_CAUSE.HIST_DONE k
  else s)

/-- VNLE_FADE_DONE (R75): after its 1 ms a fade-out ends with the stage gated, a fade-in with VNLE_EFF set and the option
reported as restored; THROTTLED clears when the last restoration has completed. -/
def execVnleFadeDone (k : Fin 8) (s : State) : Outcome State Fault Refusal :=
  .next (if s.now < (s.line k).fadeAt + 1000 then s
  else
  match (s.line k).fade with
  | none | some .rampOut => s
  | some .fadeOut => s.setLine k { s.line k with fade := none }
  | some .fadeIn =>
    let s := s.setLine k { s.line k with fade := none }
    let s := (s.putFlag LRX_CFG.VNLE_EFF true k).raise LRX_CAUSE.THROTTLE k
    let s := s.log 0x0406 sevInfo k 2
    if s.flag LRX_CFG.SD_REQ k ∧ s.flag LRX_CFG.SD_EFF k = false then s else s.putFlag LRX_STAT.THROTTLED false k)

/-! ## Interleave calibration (R78–R85) -/

/-- x / n rounded to the nearest integer, an exact half away from zero (R81). -/
def roundAway (x : Int) (n : Nat) : Int :=
  let m := (2 * x.natAbs + n) / (2 * n)
  if x < 0 then -(m : Int) else m

/-- The deltas of a MEASURE phase (R81): each estimate, in 1/256 code, rounded to a code, less the rounded mean of all,
limited to ±`lim`. -/
def calDeltas (n lim : Nat) (est : List Int) : List Int :=
  let ds := (List.range n).map (fun i => roundAway (est.getD i 0) 256)
  let mean := roundAway ds.sum n
  ds.map (fun d => clampI (-(lim : Int)) lim (d - mean))

/-- The largest magnitude of a list. -/
def maxAbs (ds : List Int) : Nat := ds.foldl (fun m d => max m d.natAbs) 0

/-- Set a field of sub-ADC `n`'s target to its current trim plus a delta, limited to the field's range (R81). -/
def State.targetField (s : State) (k n : Nat) (f : Nat × Nat) (d : Int) : State :=
  let cur := signed f.2 (getBits (s.reg .LRX_ADC_TRIM k n) f.1 f.2)
  let t := satSigned f.2 (cur + d)
  let s := s.setReg .LRX_ADC_TTRIM (setBits (s.reg .LRX_ADC_TTRIM k n) f.1 f.2 (unsigned f.2 t)) k n
  if t = cur + d then s else s.raise LRX_CAL_RESULT0.CLAMPED k

/-- Set the targets of one field of every sub-ADC, if the run's MASK selects the field (R81). -/
def State.targetAll (s : State) (k : Nat) (selected : Bool) (f : Nat × Nat) (ds : List Int) : State :=
  if selected then (List.range 128).foldl (fun s n => s.targetField k n f (ds.getD n 0)) s else s

/-- The spread, maximum minus minimum, of the first `n` estimates (R86). -/
def spreadOf (n : Nat) (est : List Int) : Nat :=
  let xs := (List.range n).map (fun i => est.getD i 0)
  let x0 := xs.headD 0
  (xs.foldl max x0 - xs.foldl min x0).toNat

/-- One step of one field of a sub-ADC's current trims towards its target (R79), with the number of codes moved. -/
def stepField (f : Nat × Nat) (cur tgt : W32) : W32 × Nat :=
  let c := signed f.2 (getBits cur f.1 f.2)
  let t := signed f.2 (getBits tgt f.1 f.2)
  if c = t then (cur, 0)
  else (setBits cur f.1 f.2 (unsigned f.2 (if c < t then c + 1 else c - 1)), 1)

/-- One step of all fields. -/
def stepTrim (cur tgt : W32) : W32 × Nat :=
  trimFields.foldl (fun (w, m) f => let (w', d) := stepField f w tgt; (w', m + d)) (cur, 0)

/-- CAL_RX_RUN (R81–R85). -/
def cmdCalRxRun : Handler := fun p t s =>
  let k := p.byte 0
  if 7 < k ∨ p.byte 1 = 0 ∨ 7 < p.byte 1 ∨ p.byte 2 = 0 ∨ 8 < p.byte 2 ∨ p.zeroFrom 3 = false then (fieldRange, s)
  else if s.applyHoldsLine k then (failWith 0x0302, s)
  else if s.lineUsed k = false then (failWith 0x0220, s)
  else if (s.line k).calRx.isSome then (failWith 0x0303, s)
  else
    let s := s.setLine k { s.line k with calRx := some { mask := p.byte 1, rounds := p.byte 2, waiter := t } }
    let s := s.setReg .LRX_CAL_RESULT0 0 k
    let s := s.put LRX_CAL_STAT.MASK (p.byte 1) k
    let s := (s.put LRX_CAL_STAT.PHASE 1 k).put LRX_CAL_STAT.ROUND 0 k
    if s.calRxCheck k ≠ 0 then (.later, s.endCalRx k 0x0221 (s.calRxCheck k))
    else (.later, ((s.put LRX_CAL_STAT.PHASE 2 k).put LRX_CAL_STAT.ROUND 1 k).putFlag LRX_STAT.CAL_BUSY true k)

/-- CAL_RX_ABORT (R83, R84): a lane that runs no calibration answers 0, a lane of no port among them. -/
def cmdCalRxAbort : Handler := fun p _ s =>
  let k := p.byte 0
  if 7 < k ∨ p.zeroFrom 1 = false then (fieldRange, s)
  else if s.applyHoldsLine k then (failWith 0x0302, s)
  else if (s.line k).calRx.isSome then (okWith 1, s.endCalRx k 0x0305 0)
  else (okWith 0, s)

/-- CAL_RX_STATUS (R84). Of a lane of no port, whose island is off, it gives the registers' reset values. -/
def cmdCalRxStatus : Handler := fun p _ s =>
  let k := p.byte 0
  if 7 < k ∨ p.zeroFrom 1 = false then (fieldRange, s)
  else if s.applyHoldsLine k then (failWith 0x0302, s)
  else (okWith (s.reg .LRX_CAL_STAT k).toNat (s.reg .LRX_CAL_RESULT0 k).toNat, s)

/-- CAL_RX_RUN (R84). -/
def execCalRxRun (e : Fin 256) (s : State) : Outcome State Fault Refusal := .next (s.runCmd e 0x11 0x01 cmdCalRxRun)

/-- CAL_RX_ABORT (R84). -/
def execCalRxAbort (e : Fin 256) (s : State) : Outcome State Fault Refusal := .next (s.runCmd e 0x11 0x02 cmdCalRxAbort)

/-- CAL_RX_STATUS (R84). -/
def execCalRxStatus (e : Fin 256) (s : State) : Outcome State Fault Refusal := .next (s.runCmd e 0x11 0x03 cmdCalRxStatus)

/-- The step period of a lane's sub-ADC trims in µs, by its effective rack duty (R79). -/
def State.trimPeriod (s : State) (k : Nat) : Nat := 256 * 2 ^ min 2 (s.fld LRX_CFG.DUTY_EFF k)

/-- A step period of a lane's sub-ADC trims begins now. -/
def State.startTrims (s : State) (k : Nat) : State :=
  s.setLine k { s.line k with adc := { at_ := s.now, len := s.trimPeriod k } }

/-- CAL_RX_MEASURE_END (R81): the estimates of skew, gain and offset per sub-ADC in 1/256 code. The run ends as converged when
every delta is 0; otherwise the targets of the selected fields are set and APPLY begins. SKEW_SPREAD is in fs, 16 to a code,
OFFSET_SPREAD in codes of 1/8 LSB, each rounded; a field outside MASK has no estimate and a spread of 0 (R86; the rounding and
the 0 are the model's: log entry 123). -/
def execCalRxMeasureEnd (k : Fin 8) (skew gain offset : List Int) (s : State) : Outcome State Fault Refusal :=
  .next (match (s.line k).calRx with
  | none => s
  | some run =>
    if s.fld LRX_CAL_STAT.PHASE k = 2 then
      let on (n : Nat) := bitOf run.mask n
      let off := if on 0 then calDeltas 128 8 offset else []
      let gn := if on 1 then calDeltas 128 8 gain else []
      let sk := if on 2 then calDeltas 128 16 skew else []
      let n := max (maxAbs off) (max (maxAbs gn) (maxAbs sk))
      let s := s.setLine k { s.line k with
        calRx := some { run with
          periods := n
          skewSpread := if on 2 then satN 16 ((spreadOf 128 skew + 8) / 16) else 0
          offsetSpread := if on 0 then satN 16 ((spreadOf 128 offset + 128) / 256) else 0 } }
      if n = 0 then (s.raise LRX_CAL_RESULT0.CONVERGED k).endCalRx k 0 0
      else
        let s := s.targetAll k (on 2) (0, 8) sk
        let s := s.targetAll k (on 1) (8, 8) gn
        ((s.targetAll k (on 0) (16, 6) off).put LRX_CAL_STAT.PHASE 3 k).startTrims k
    else s)

/-- Whether every field of a mask is at its target on each sub-ADC. -/
def State.trimsReached (s : State) (k mask : Nat) : Bool :=
  let at_ (n : Nat) (f : Nat × Nat) : Bool :=
    getBits (s.reg .LRX_ADC_TRIM k n) f.1 f.2 == getBits (s.reg .LRX_ADC_TTRIM k n) f.1 f.2
  (List.range 128).all (fun n =>
    (!(bitOf mask 0) || at_ n (16, 6)) && (!(bitOf mask 1) || at_ n (8, 8)) && (!(bitOf mask 2) || at_ n (0, 8)))

/-- CAL_RX_APPLY_END (R81): max |delta| step periods have passed, with every selected trim at its target; the next round
begins, or the run ends. -/
def execCalRxApplyEnd (k : Fin 8) (s : State) : Outcome State Fault Refusal :=
  .next (match (s.line k).calRx with
  | none => s
  | some run =>
    if s.fld LRX_CAL_STAT.PHASE k = 3 ∧ run.periods = 0 ∧ s.trimsReached k run.mask then
      let s := s.bump LRX_CAL_RESULT0.ROUNDS_DONE k
      if s.fld LRX_CAL_STAT.ROUND k < run.rounds then
        (s.put LRX_CAL_STAT.ROUND (s.fld LRX_CAL_STAT.ROUND k + 1) k).put LRX_CAL_STAT.PHASE 2 k
      else s.endCalRx k 0 0
    else s)

/-- Whether now is the step instant of converter `n` of `count`, and no step has been taken at it (R79, R102). -/
def Periods.due (p : Periods) (now n count : Nat) : Bool :=
  p.len != 0 && now == p.at_ + p.len / count * n && p.stepped != some now

/-- ADC_TRIM_STEP (R79): at sub-ADC `n`'s step instant, while CDR_LOCK is set, each field of its current trims moves one code
towards its target; a run counts the codes moved. -/
def execAdcTrimStep (k : Fin 8) (n : Fin 128) (s : State) : Outcome State Fault Refusal :=
  .next (if s.flag LRX_STAT.CDR_LOCK k ∧ (s.line k).adc.due s.now n.val 128 then
    let (w, m) := stepTrim (s.reg .LRX_ADC_TRIM k n) (s.reg .LRX_ADC_TTRIM k n)
    let s := s.setReg .LRX_ADC_TRIM w k n
    let s := s.setLine k { s.line k with adc := { (s.line k).adc with stepped := some s.now } }
    if (s.line k).calRx.isSome then
      s.put LRX_CAL_RESULT0.STEPS (satN 16 (s.fld LRX_CAL_RESULT0.STEPS k + m)) k
    else s
  else s)

/-- A step period that ends now is followed by the next, until every trim has reached its target; an APPLY phase counts its own
(R79, R81). -/
def State.adcTick (s : State) (k : Nat) : State :=
  let y := s.line k
  if y.adc.len = 0 ∨ s.now < y.adc.at_ + y.adc.len then s
  else
    match y.calRx with
    | some run =>
      if s.fld LRX_CAL_STAT.PHASE k = 3 then
        (s.setLine k { y with calRx := some { run with periods := run.periods - 1 } }).startTrims k
      else if s.trimsReached k 7 then s.setLine k { y with adc := {} } else s.startTrims k
    | none => if s.trimsReached k 7 then s.setLine k { y with adc := {} } else s.startTrims k

/-- A write of LRX_ADC_TTRIM_n by a master other than the calibrator (R80): step periods begin with it; while CDR_LOCK is clear
the current trim takes the target (R79). -/
def State.ttrimWrite (s : State) (k n : Nat) (data : W32) : State :=
  if (s.line k).calRx.isSome then (s.raise LRX_STAT.TRIM_LOCK k).raise LRX_CAUSE.LOCK k
  else
    let s := s.writeRwl .LRX_ADC_TTRIM k n data
    if s.flag LRX_STAT.CDR_LOCK k then s.startTrims k else s.setReg .LRX_ADC_TRIM (s.reg .LRX_ADC_TTRIM k n) k n

/-- LRX_TTRIM_WRITE (R80). -/
def execLrxTtrimWrite (k : Fin 8) (n : Fin 128) (data : W32) (s : State) : Outcome State Fault Refusal :=
  .next (if s.lineUsed k then s.ttrimWrite k n data else s)

end Sys2Proof.Machine
end

