-- ==== Sys2Proof/Machine/Lasts.lean ====
section
/-!
DEFINITION. Sys2Proof/Machine/Lasts.lean: what a last does with each instruction, its traps, its rack bus and its tap
window (R108–R128, R137, R139).
-/

namespace Sys2Proof.Machine

open Host

/-! ## Running and halting (R110, R123, R126) -/

/-- The line lane whose racks include rack `r`. -/
def rackLane (r : Nat) : Nat := r / 8

/-- Whether a last is halted. -/
def State.lastHalted (s : State) (r l : Nat) : Bool := bitOf (s.fld RACK_STAT.HALTED r) l

/-- Every read position of a rack's lasts in `mask` moves to the newest record (R120). -/
def State.toNewest (s : State) (r mask : Nat) : State :=
  (List.range 8).foldl (fun s l =>
    if bitOf mask l then
      let y := s.last r l
      s.setLast r l { y with seen := max y.seen ((s.rackOf r).written - 1) }
    else s) s

/-- Halt the lasts of `mask` and run the others, at once between two instructions. A last that runs again is no longer
TRAPPED, and its read position moves to the newest record (R120). -/
def State.setHalt (s : State) (r mask : Nat) : State :=
  let old := s.fld RACK_STAT.HALTED r
  let s := (s.put RACK_CTL.HALT mask r).put RACK_STAT.HALTED mask r
  let s := s.put RACK_STAT.RUNNING (bitsWhere (fun l => !(bitOf mask l)) 8) r
  let s := s.put RACK_STAT.TRAPPED (bitsWhere (fun l => bitOf (s.fld RACK_STAT.TRAPPED r) l && bitOf mask l) 8) r
  s.toNewest r (bitsWhere (fun l => bitOf old l && !(bitOf mask l)) 8)

/-- Halt one last. -/
def State.haltLast (s : State) (r l : Nat) : State :=
  s.setHalt r (bitsWhere (fun n => bitOf (s.fld RACK_STAT.HALTED r) n || n == l) 8)

/-- Whether the lasts of a rack have their clock: the island is on and RPLL is locked (R18, R128). -/
def State.rackClocked (s : State) (r : Nat) : Bool :=
  (s.island (rackIsland r) == .on) && s.locked (dieOfRack r) 1

/-- Whether a last issues: clocked, neither halted nor suspended, and not due for the watchdog's trap (R126). -/
def State.lastIssues (s : State) (r l : Nat) : Bool :=
  s.rackClocked r && !(s.lastHalted r l) && !(s.last r l).yielding && decide ((s.last r l).retired < 2 ^ 20)

/-! ## Traps (R125–R127) -/

/-- A hardware failure of a port that a running apply configures (R60): the port is in FAULT, and the first failure's event
is kept. -/
def State.applyFault (s : State) (p event : Nat) : State :=
  match s.applyTxn with
  | some t =>
    let t := { t with
      faulted := bitsWhere (fun n => bitOf t.faulted n || n == p) 8
      firstFault := if t.faulted = 0 then event else t.firstFault }
    ({ s with mode := { s.mode with txn := some t } }).portTo p portFault 13
  | none => s

/-- A rack that the running apply has loaded traps: its port is in FAULT, whatever its class of change (R60). -/
def State.loadTrap (s : State) (r event : Nat) : State :=
  match s.applyTxn, s.mode.run.portOfLine (rackLane r) with
  | some t, some p => if t.loaded.contains r then s.applyFault p event else s
  | _, _ => s

/-- Count one slot of a last and its bank event (R137, R136). -/
def State.slot (s : State) (cnt : Reg) (code r l : Nat) (user : Bool) (n : Nat := 1) : State :=
  if n = 0 then s
  else (s.inc cnt r l n).perf (rackIsland r) code { last := some l, user := some user } n

/-- A retired slot. -/
def State.slotRet (s : State) (r l : Nat) (user : Bool) : State := s.slot .RACK_SLOT_RET_CNT 0x40 r l user

/-- A wasted slot. -/
def State.slotWaste (s : State) (r l : Nat) (user : Bool) : State := s.slot .RACK_SLOT_WASTE_CNT 0x41 r l user

/-- Front-starved slots. -/
def State.slotFront (s : State) (r l : Nat) (user : Bool) (n : Nat) : State :=
  s.slot .RACK_SLOT_FRONT_CNT 0x42 r l user n

/-- Back-starved slots. -/
def State.slotBack (s : State) (r l : Nat) (user : Bool) (n : Nat) : State :=
  s.slot .RACK_SLOT_BACK_CNT 0x43 r l user n

/-- What the rack monitor does after a user trap other than SVC (R127): it reports the trap and halts all eight lasts;
the rack restarts 1 ms later unless this is its second trap within 10 s. A trap under an apply that loads the rack makes
its port FAULT (R60). -/
def State.monitorTrap (s : State) (r l vector pc : Nat) : State :=
  let s := (s.log 0x0601 sevWarn r l vector pc).setHalt r 0xFF
  let k := s.rackOf r
  let again := match k.trapAt with | some t => decide (s.now - t ≤ 10000000) | none => false
  let s :=
    if again then (s.setRack r { k with trapAt := some s.now, restart := none }).log 0x0602 sevErr r l vector pc
    else s.setRack r { k with trapAt := some s.now, restart := some (s.now + 1000) }
  s.loadTrap r 0x0601

/-- The registers that taking a trap writes (R125): PC and SR are saved, TRAPINFO is filled with `low` and the PC, SV is
set, and the last continues at VBR + 2 × vector. -/
def State.takeTrap (s : State) (r l vector low : Nat) : State :=
  let y := s.last r l
  let info := low % 256 + y.pc.toNat * 256
  let y' := { y.putSr srSV true with
    tpc := y.pc, tsr := s.srRead r y, info := BitVec.ofNat 22 info, rep := none
    pc := BitVec.ofNat 14 (y.vbr.toNat + 2 * vector) }
  let s := (s.setLast r l y').setReg .RACK_LAST_TRAP (BitVec.ofNat 32 info) r l
  (s.raise RACK_CAUSE.TRAP r).perf (rackIsland r) 0x47 { last := some l }

/-- A trap of a last, with its vector and TRAPINFO[7:0]. In supervisor mode it halts the last instead (R126). In user mode
the trap is taken, and the rack monitor acts on it (R127): SVC 0 halts the calling last and is logged with D0. -/
def State.trapLast (s : State) (r l vector low : Nat) : State :=
  let y := s.last r l
  if y.super then
    let s := s.haltLast r l
    let s := s.put RACK_STAT.TRAPPED (bitsWhere (fun n => bitOf (s.fld RACK_STAT.TRAPPED r) n || n == l) 8) r
    ((s.raise RACK_CAUSE.DTRAP r).log 0x0603 sevErr r l vector y.pc.toNat).loadTrap r 0x0603
  else
    let s := s.takeTrap r l vector low
    if vector = vecSvc then (s.haltLast r l).log 0x0604 sevInfo r l (y.D 0).toNat
    else s.monitorTrap r l vector y.pc.toNat

/-! ## Fetch and issue (R117, R118, R137) -/

/-- Where an instruction comes from: the loop cache or the rack's program memory; none for an uncorrectable word. -/
def State.fetchLast (s : State) (r : Nat) (y : Last) : Option W32 × State :=
  match y.cache.find? (fun c => c.1 == y.pc.toNat) with
  | some (_, w) => (some w, s)
  | none =>
    match s.readWord (progAddr r (y.pc.toNat / 2)) with
    | (some d, s) => (some (d.extractLsb' (32 * (y.pc.toNat % 2)) 32), s)
    | (none, s) => (none, s)

/-- What an instruction's effect ends in: it completes and the next one follows; it completes and takes a branch; it
completes and goes on at an address without a branch's penalty; it completes and halts its last; it stalls; it traps. -/
inductive LOut where
  | done (y : Last) (s : State)
  | goto (pc : Nat) (y : Last) (s : State)
  | skip (pc : Nat) (y : Last) (s : State)
  | stop (y : Last) (s : State)
  | stall (s : State)
  | trap (vector low : Nat) (s : State)

/-- An instruction's effect on its last and the rest. -/
abbrev Body := State → Last → LOut

/-- A trap whose TRAPINFO[7:0] is its vector. -/
def LOut.fail (v : Nat) (s : State) : LOut := .trap v v s

/-- The address after the instruction at `a` has completed, and the loops left active (R118). -/
def seqFrom : List LoopFrame → Nat → Nat × List LoopFrame
  | [], a => ((a + 1) % 16384, [])
  | f :: fs, a =>
    if f.last = a then
      if 1 < f.count then (f.start, { f with count := f.count - 1 } :: fs) else seqFrom fs a
    else ((a + 1) % 16384, f :: fs)

/-- The body of a loop, in instructions. -/
def LoopFrame.size (f : LoopFrame) : Nat := (f.last + 16384 - f.start) % 16384 + 1

/-- A late write lands (R116). -/
def Last.land (y : Last) (w : Late) : Last :=
  match w.reg with
  | .ptr n => y.setP n w.value
  | .step n => { y with q := y.q.set n (BitVec.ofNat 10 w.value) }
  | .len n => { y with l := y.l.set n (BitVec.ofNat 11 w.value) }
  | .amode => { y with amode := BitVec.ofNat 16 w.value }
  | .mu => { y with mu := BitVec.ofNat 24 w.value }
  | .vbr => { y with vbr := BitVec.ofNat 14 w.value }

/-- An issue passes: late writes come one issue nearer, and those that are due land. -/
def Last.age (y : Last) : Last :=
  let ws := y.late.map (fun w => { w with left := w.left - 1 })
  let y := { y with late := ws.filter (fun w => w.left != 0) }
  (ws.filter (fun w => w.left == 0)).foldl (fun y w => y.land w) y

/-- Put off a write for the next `n` instructions. -/
def Last.defer (y : Last) (n : Nat) (reg : LateReg) (value : Nat) : Last := { y with late := y.late ++ [⟨n + 1, reg, value⟩] }

/-- What the interlocks and the tag record keep of an instruction. -/
def Last.remember (y : Last) (i : LInstr) (c : Issued) : Last :=
  { y with accBy := i.writesA, dBy := i.writesD, flags2 := y.flags1, flags1 := i.setsFlags, latest := c }

/-- An instruction joins the loop cache while a body of 32 instructions or fewer is innermost. -/
def Last.fill (y : Last) (pc : Nat) (w : W32) : Last :=
  match y.loops with
  | f :: _ =>
    if f.size ≤ 32 ∧ f.start ≤ pc ∧ pc ≤ f.last ∧ (y.cache.all (fun c => c.1 != pc)) then { y with cache := y.cache ++ [(pc, w)] }
    else y
  | [] => y

/-- The loops of a last change; the cache belongs to the innermost one. -/
def Last.setLoops (y : Last) (fs : List LoopFrame) : Last :=
  { y with loops := fs, cache := if fs.length = y.loops.length then y.cache else [] }

/-- Advance past a completed instruction: a repeated one issues again, else the next one follows, or the loop's first.
The front-starved slots of a long loop's return come with it. -/
def Last.advance (y : Last) : Last × Nat :=
  match y.rep with
  | some (n + 2) => ({ y with rep := some (n + 1) }, 0)
  | _ =>
    let (pc, fs) := seqFrom y.loops y.pc.toNat
    let back := match fs with
      | f :: _ => decide (f.start = pc) && decide (f.last = y.pc.toNat) && decide (32 < f.size)
      | [] => false
    ({ (y.setLoops fs) with rep := none, pc := BitVec.ofNat 14 pc }, if back then 3 else 0)

/-- The slots and waits that came before an issue. -/
def State.lostSlots (s : State) (w : LastAt) (user : Bool) (stalls : Nat) : State :=
  let s := (s.slotFront w.rack w.last user w.front.toNat).slotBack w.rack w.last user (w.back.toNat + stalls)
  (s.inc .RACK_BANK_CONF_CNT w.rack 0 w.conflicts.toNat).inc .RACK_BUS_WAIT_CNT w.rack 0 w.busWait.toNat

/-- INTERVAL of a rack: 4–20, other values act as 20. -/
def State.tagInterval (s : State) (r : Nat) : Nat :=
  let n := s.fld RACK_TAG_CTL.INTERVAL r
  if 4 ≤ n ∧ n ≤ 20 then n else 20

/-- An interval of the tagging begins: 2^INTERVAL + L selected instructions, L a fresh value of the rack's 16-bit LFSR masked to
INTERVAL bits (R139). The LFSR's values are open; INTERVAL is taken as the interval begins (DESIGN CHOICE, log entry 145). -/
def State.tagStart (s : State) (r : Nat) : State :=
  let (x, s) := s.free
  let n := s.tagInterval r
  s.setRack r { s.rackOf r with issued := 0, tagGoal := 2 ^ n + x % 65536 % 2 ^ n }

/-- An issued instruction that the rack's tag selection covers counts towards its interval; the one that ends the interval is
tagged, and its record enters the FIFO (R139). One that came from the loop cache is counted as such (R136). -/
def State.countIssue (s : State) (r l : Nat) (c : Issued) : State :=
  let s := if c.lcache then s.perf (rackIsland r) 0x44 { last := some l, user := some c.user } else s
  if s.flag RACK_CTL.TAG_EN r ∧ (s.flag RACK_TAG_CTL.ANY r ∨ s.fld RACK_TAG_CTL.LAST r = l) ∧
      (c.user ∨ s.flag RACK_TAG_CTL.USER_ONLY r = false) then
    let k := s.rackOf r
    if k.tagGoal ≤ k.issued + 1 then
      (s.setRack r { k with tagged := k.tagged ++ [(l, c, (s.cnt .RACK_CYC_CNT r).setWidth 32)] }).tagStart r
    else s.setRack r { k with issued := k.issued + 1 }
  else s

/-- A completed instruction: its slot is retired, or wasted for a NOP (R137); a TWIN, BRSP or YIELD satisfies the watchdog
(R126). -/
def State.complete (s : State) (r l : Nat) (user : Bool) (i : LInstr) (y : Last) : State :=
  let y := y.age
  if i.isNop then (s.setLast r l y).slotWaste r l user
  else (s.setLast r l { y with retired := if i.feeds then 0 else y.retired + 1 }).slotRet r l user

/-- A last after a trap has cancelled an instruction. -/
def Last.cancelled (y : Last) (c : Issued) : Last :=
  { y with latest := { c with trapped := true }, accBy := none, dBy := none, flags1 := false, flags2 := false }

/-- The end of an issue, by what the instruction's effect ended in. -/
def State.settle (r l : Nat) (user : Bool) (i : LInstr) (c : Issued) (o : LOut) : State :=
  match o with
  | .stall s' => s'.slotBack r l user 1
  | .trap v low s' =>
    let s' := ((s'.setLast r l ((s'.last r l).cancelled c)).countIssue r l { c with trapped := true }).trapLast r l v low
    (s'.setLast r l (s'.last r l).age).slotWaste r l user
  | .done y s' =>
    let (y, front) := (y.remember i c).advance
    ((s'.countIssue r l c).complete r l user i y).slotFront r l user front
  | .goto pc y s' =>
    let hit := y.cache.any (fun c => c.1 == pc)
    let y := { y.remember i c with pc := BitVec.ofNat 14 pc, rep := none }
    ((s'.countIssue r l c).complete r l user i y).slotFront r l user (if hit then 0 else 3)
  | .skip pc y s' =>
    (s'.countIssue r l c).complete r l user i { y.remember i c with pc := BitVec.ofNat 14 pc }
  | .stop y s' =>
    ((s'.countIssue r l c).complete r l user i (y.remember i c).advance.1).haltLast r l

/-- A last issues the instruction at its PC, whose effect `pick` gives for the instructions of one command; any other
instruction leaves the state as it is. A word that spells no instruction traps ILLEGAL, a fetch from the supervisor region
in user mode PRIV, an uncorrectable word FETCH_UNCORR, and a repeated FLOW instruction ILLEGAL (R114, R118, R124, R125),
whichever command brings them. -/
def State.issue (s : State) (w : LastAt) (pick : LInstr → Option Body) : State :=
  let r := w.rack.val
  let l := w.last.val
  if s.lastIssues r l = false then s
  else
    let y := s.last r l
    let user := !y.super
    let pc := y.pc.toNat
    let hit := y.cache.any (fun c => c.1 == pc)
    let c : Issued := { pc := pc, user := user, lcache := hit }
    let dead (v : Nat) (s : State) : State := State.settle r l user (.bra 0 0) c (.fail v (s.lostSlots w user 0))
    if user ∧ pc < 2048 then dead vecPriv s
    else
      match s.fetchLast r y with
      | (none, s') => dead vecFetch s'
      | (some word, s') =>
        match decodeLast word with
        | none => dead vecIllegal s'
        | some i =>
          match pick i with
          | none => s
          | some body =>
            let s' := s'.lostSlots w user (y.interlock i)
            let y := y.fill pc word
            let s' := s'.setLast r l y
            State.settle r l user i { c with cls := i.cls }
              (if y.rep.isSome ∧ i.cls = 3 then .fail vecIllegal s' else body s' y)

/-! ## Arithmetic (R111, R114, R115) -/

/-- An ARITH instruction with operation `op`: `f` gives the exact result from the accumulator, the operands and MU; `keep`
tells whether the result enters the accumulator. CAP writes the value read for S1 at the end. -/
def arithBody (r l op : Nat) (f : Int → Int → Int → Int → Int) (keep : Bool) : LInstr → Option Body
  | .arith op' a s1 s2 modx mody cap cd =>
    if op' ≠ op then none
    else some fun s y =>
      match s.operands r l y s1 s2 modx mody with
      | (.trap v, s) => .fail v s
      | (.ok (v1, v2, y), s) =>
        let x := f (y.A a).toInt v1.toInt v2.toInt y.mu.toInt
        let y := if keep then y.putAcc a x else y.accFlags x
        .done (if cap then y.setD cd v1 else y) s
  | _ => none

/-- A 24-bit operand aligned with the word field. -/
def aligned (x : Int) : Int := x * 2 ^ 23

/-- NOP (R114): its memory operands are read and their pointers stepped; no flag changes. -/
def execNop (w : LastAt) (s : State) : Outcome State Fault Refusal :=
  .next (s.issue w fun
    | .arith 0 _ s1 s2 modx mody cap cd => some fun s y =>
      match s.operands w.rack w.last y s1 s2 modx mody with
      | (.trap v, s) => .fail v s
      | (.ok (v1, _, y), s) => .done (if cap then y.setD cd v1 else y) s
    | _ => none)

/-- MPY: A := S1 × S2. -/
def execMpy (w : LastAt) (s : State) : Outcome State Fault Refusal :=
  .next (s.issue w (arithBody w.rack w.last 0x1 (fun _ x y _ => x * y) true))

/-- MAC: A := A + S1 × S2. -/
def execMac (w : LastAt) (s : State) : Outcome State Fault Refusal :=
  .next (s.issue w (arithBody w.rack w.last 0x2 (fun a x y _ => a + x * y) true))

/-- MSU: A := A − S1 × S2. -/
def execMsu (w : LastAt) (s : State) : Outcome State Fault Refusal :=
  .next (s.issue w (arithBody w.rack w.last 0x3 (fun a x y _ => a - x * y) true))

/-- ADD: A := A + S1, aligned with the word field. -/
def execAdd (w : LastAt) (s : State) : Outcome State Fault Refusal :=
  .next (s.issue w (arithBody w.rack w.last 0x4 (fun a x _ _ => a + aligned x) true))

/-- SUB: A := A − S1, aligned with the word field. -/
def execSub (w : LastAt) (s : State) : Outcome State Fault Refusal :=
  .next (s.issue w (arithBody w.rack w.last 0x5 (fun a x _ _ => a - aligned x) true))

/-- CLR: A := 0. -/
def execClr (w : LastAt) (s : State) : Outcome State Fault Refusal :=
  .next (s.issue w (arithBody w.rack w.last 0x6 (fun _ _ _ _ => 0) true))

/-- TFR: A := S1, aligned with the word field. -/
def execTfr (w : LastAt) (s : State) : Outcome State Fault Refusal :=
  .next (s.issue w (arithBody w.rack w.last 0x7 (fun _ x _ _ => aligned x) true))

/-- ASR: A := A / 2, towards minus infinity. -/
def execAsr (w : LastAt) (s : State) : Outcome State Fault Refusal :=
  .next (s.issue w (arithBody w.rack w.last 0x8 (fun a _ _ _ => floorShift a 1) true))

/-- ASL: A := 2 × A. -/
def execAsl (w : LastAt) (s : State) : Outcome State Fault Refusal :=
  .next (s.issue w (arithBody w.rack w.last 0x9 (fun a _ _ _ => a * 2) true))

/-- ABS: A := |A|. -/
def execAbs (w : LastAt) (s : State) : Outcome State Fault Refusal :=
  .next (s.issue w (arithBody w.rack w.last 0xA (fun a _ _ _ => (a.natAbs : Int)) true))

/-- NEG: A := −A. -/
def execNeg (w : LastAt) (s : State) : Outcome State Fault Refusal :=
  .next (s.issue w (arithBody w.rack w.last 0xB (fun a _ _ _ => -a) true))

/-- CMP: the flags of A − S1, aligned with the word field. -/
def execCmp (w : LastAt) (s : State) : Outcome State Fault Refusal :=
  .next (s.issue w (arithBody w.rack w.last 0xC (fun a x _ _ => a - aligned x) false))

/-- MACSS: A := A + sgn(S1) × sgn(S2) × MU. -/
def execMacss (w : LastAt) (s : State) : Outcome State Fault Refusal :=
  .next (s.issue w (arithBody w.rack w.last 0xD (fun a x y mu => a + sgn x * sgn y * mu) true))

/-- MACSGN: A := A + sgn(S1) × S2, aligned with the word field. -/
def execMacsgn (w : LastAt) (s : State) : Outcome State Fault Refusal :=
  .next (s.issue w (arithBody w.rack w.last 0xE (fun a x y _ => a + sgn x * aligned y) true))

/-! ## Accumulator class (R112, R114) -/

/-- STA. -/
def execSta (w : LastAt) (s : State) : Outcome State Fault Refusal :=
  .next (s.issue w fun
    | .sta a d low => some fun s y => let (v, y) := y.stored a low; .done (y.setD d v) s
    | _ => none)

/-- Write the location at a pointer, which the mode field then steps. -/
def State.writeAtPtr (s : State) (r l : Nat) (y : Last) (n mode : Nat) (v : W24) : Got Last × State :=
  if y.protects (y.P n) then (.trap vecProtect, s)
  else
    let s := s.writeWord (dataAddr r l (decide (4 ≤ n)) (y.P n)) (locWord v)
    let (p, s) := s.nextPtr y n mode
    (.ok (y.setP n p), s)

/-- STM. -/
def execStm (w : LastAt) (s : State) : Outcome State Fault Refusal :=
  .next (s.issue w fun
    | .stm a ptr mode low => some fun s y =>
      let (v, y) := y.stored a low
      match s.writeAtPtr w.rack w.last y ptr mode v with
      | (.trap v, s) => .fail v s
      | (.ok y, s) => .done y s
    | _ => none)

/-- LDI: HALF 0 sets D to value × 2^8, HALF 1 replaces D[15:0]. -/
def execLdi (w : LastAt) (s : State) : Outcome State Fault Refusal :=
  .next (s.issue w fun
    | .ldi d half value => some fun s y =>
      let v : W24 := if half then (y.D d &&& 0xFF0000) ||| BitVec.ofNat 24 value else BitVec.ofNat 24 (value * 256)
      .done (y.setD d v) s
    | _ => none)

/-- SHIFT; the result of a count beyond 55 is open. -/
def execShift (w : LastAt) (s : State) : Outcome State Fault Refusal :=
  .next (s.issue w fun
    | .shift a right count => some fun s y =>
      if 55 < count then let (x, s) := s.free; .done (y.putAcc a (signed 56 x)) s
      else if right then .done (y.putAcc a (floorShift (y.A a).toInt count)) s
      else .done (y.putAcc a ((y.A a).toInt * 2 ^ count)) s
    | _ => none)

/-- MOVR; what sources 12–15 give is open. -/
def execMovr (w : LastAt) (s : State) : Outcome State Fault Refusal :=
  .next (s.issue w fun
    | .movr d src => some fun s y =>
      if src < 12 then .done (y.setD d (y.t.getD src 0)) s
      else if src < 16 then let (x, s) := s.free; .done (y.setD d (BitVec.ofNat 24 x)) s
      else if src < 20 then .done (y.setD d ((y.A (src - 16)).extractLsb' 23 24)) s
      else if src < 24 then .done (y.setD d (((y.A (src - 20)).extractLsb' 47 9).signExtend 24)) s
      else .done (y.setD d (y.D (src - 24))) s
    | _ => none)

/-- The field of EXT: WIDTH bits of a data register from POS, extended to 24 bits. -/
def extField (v : W24) (pos width : Nat) (sgn : Bool) : W24 :=
  if sgn then BitVec.ofInt 24 (signed width (v.toNat >>> pos)) else BitVec.ofNat 24 (bitsOf v.toNat pos width)

/-- EXT; the result is open outside WIDTH 1–24 and POS + WIDTH ≤ 24. -/
def execExt (w : LastAt) (s : State) : Outcome State Fault Refusal :=
  .next (s.issue w fun
    | .ext dd ds pos width sgn => some fun s y =>
      if width = 0 ∨ 24 < pos + width then
        let (x, s) := s.free
        .done ((y.setD dd (BitVec.ofNat 24 x)).flags24 (BitVec.ofNat 24 x)) s
      else
        let v := extField (y.D ds) pos width sgn
        .done ((y.setD dd v).flags24 v) s
    | _ => none)

/-- LOGIC: 0 AND, 1 OR, 2 XOR, 3 AND-NOT. -/
def execLogic (w : LastAt) (s : State) : Outcome State Fault Refusal :=
  .next (s.issue w fun
    | .logic dd ds op => some fun s y =>
      let v := match op with
        | 0 => y.D dd &&& y.D ds
        | 1 => y.D dd ||| y.D ds
        | 2 => y.D dd ^^^ y.D ds
        | _ => y.D dd &&& ~~~ (y.D ds)
      .done ((y.setD dd v).flags24 v) s
    | _ => none)

/-- MEM: a load or store between D and X or Y memory. -/
def execMem (w : LastAt) (s : State) : Outcome State Fault Refusal :=
  .next (s.issue w fun
    | .mem store d ptr mode => some fun s y =>
      if store then
        match s.writeAtPtr w.rack w.last y ptr mode (y.D d) with
        | (.trap v, s) => .fail v s
        | (.ok y, s) => .done y s
      else
        match s.readAt w.rack w.last y ptr with
        | (.trap v, s) => .fail v s
        | (.ok v, s) => let (p, s) := s.nextPtr y ptr mode; .done ((y.setP ptr p).setD d v) s
    | _ => none)

/-! ## Address class (R113, R116) -/

/-- A write of a pointer (0), step (1) or length (2), which the next two instructions do not see. -/
def Last.putAddr (y : Last) (kind n v : Nat) : Last :=
  match kind with
  | 0 => y.defer 2 (.ptr n) (v % 1024)
  | 1 => y.defer 2 (.step n) (v % 1024)
  | _ => y.defer 2 (.len n) (v % 2048)

/-- LDA. -/
def execLda (w : LastAt) (s : State) : Outcome State Fault Refusal :=
  .next (s.issue w fun
    | .lda kind n value => some fun s y => .done (y.putAddr kind n value) s
    | _ => none)

/-- ADDA: the signed change under the pointer's AMODE. -/
def execAdda (w : LastAt) (s : State) : Outcome State Fault Refusal :=
  .next (s.issue w fun
    | .adda n change => some fun s y =>
      match y.stepped n (signed 11 change) with
      | some v => .done (y.putAddr 0 n v) s
      | none => let (x, s) := s.free; .done (y.putAddr 0 n x) s
    | _ => none)

/-- MOVA: D[10:0]. -/
def execMova (w : LastAt) (s : State) : Outcome State Fault Refusal :=
  .next (s.issue w fun
    | .mova kind n d => some fun s y => .done (y.putAddr kind n (bitsOf (y.D d).toNat 0 11)) s
    | _ => none)

/-! ## Flow (R114, R118) -/

/-- Whether an address lies outside the body of the innermost active loop. -/
def Last.leavesLoop (y : Last) (t : Nat) : Bool :=
  match y.loops with
  | [] => false
  | f :: _ => !(decide (f.start ≤ t) && decide (t ≤ f.last))

/-- BRA. -/
def execBra (w : LastAt) (s : State) : Outcome State Fault Refusal :=
  .next (s.issue w fun
    | .bra c t => some fun s y =>
      let (go, s) := s.condOf w.rack y c
      if go = false then .done y s
      else if y.leavesLoop t then .fail vecStack s
      else .goto t y s
    | _ => none)

/-- CALL. -/
def execCall (w : LastAt) (s : State) : Outcome State Fault Refusal :=
  .next (s.issue w fun
    | .call c t => some fun s y =>
      let (go, s) := s.condOf w.rack y c
      if go = false then .done y s
      else if y.leavesLoop t ∨ 8 ≤ y.calls.length then .fail vecStack s
      else .goto t { y with calls := (y.pc + 1) :: y.calls } s
    | _ => none)

/-- RET. -/
def execRet (w : LastAt) (s : State) : Outcome State Fault Refusal :=
  .next (s.issue w fun
    | .ret c => some fun s y =>
      let (go, s) := s.condOf w.rack y c
      if go = false then .done y s
      else
        match y.calls with
        | [] => .fail vecStack s
        | t :: ts => .goto t.toNat { y with calls := ts } s
    | _ => none)

/-- Begin a loop over the next instruction through `last`: a count of 0 skips the body, a fifth level traps STACK. -/
def beginLoop (count last : Nat) : Body := fun s y =>
  if count = 0 then
    let (pc, fs) := seqFrom y.loops last
    .skip pc (y.setLoops fs) s
  else if 4 ≤ y.loops.length then .fail vecStack s
  else .skip ((y.pc.toNat + 1) % 16384) (y.setLoops (⟨(y.pc.toNat + 1) % 16384, last, count⟩ :: y.loops)) s

/-- LOOP. -/
def execLoop (w : LastAt) (s : State) : Outcome State Fault Refusal :=
  .next (s.issue w fun
    | .loop count last => some (beginLoop count last)
    | _ => none)

/-- LOOPR: the count is D[15:0]. -/
def execLoopr (w : LastAt) (s : State) : Outcome State Fault Refusal :=
  .next (s.issue w fun
    | .loopr d last => some fun s y => beginLoop (bitsOf (y.D d).toNat 0 16) last s y
    | _ => none)

/-- REPEAT: the following instruction issues count times. -/
def execRepeat (w : LastAt) (s : State) : Outcome State Fault Refusal :=
  .next (s.issue w fun
    | .rep count => some fun s y =>
      let (pc, fs) := seqFrom y.loops y.pc.toNat
      if count = 0 then
        let (pc, fs) := seqFrom fs pc
        .skip pc (y.setLoops fs) s
      else .skip pc { y.setLoops fs with rep := some count } s
    | _ => none)

/-- YIELD: the last is suspended (R126). -/
def execYield (w : LastAt) (s : State) : Outcome State Fault Refusal :=
  .next (s.issue w fun
    | .yield => some fun s y => .done { y with yielding := true, yieldAt := (s.rackOf w.rack).written } s
    | _ => none)

/-- YIELD_RESUME: a record has come since, or 4,096 cycles have passed (R126). -/
def execYieldResume (rack : Fin 64) (last : Fin 8) (cycles : Nat) (s : State) : Outcome State Fault Refusal :=
  .next (
    let y := s.last rack last
    if s.rackClocked rack ∧ y.yielding ∧ cycles ≤ 4096 ∧ (y.yieldAt < (s.rackOf rack).written ∨ cycles = 4096) then
      (s.setLast rack last { y with yielding := false }).inc .RACK_YIELD_CNT rack last cycles
    else s)

/-- SVC (R127): number 0 traps SVC, any other ILLEGAL. -/
def execSvc (w : LastAt) (s : State) : Outcome State Fault Refusal :=
  .next (s.issue w fun
    | .svc n => some fun s _ => if n = 0 then .trap vecSvc n s else .fail vecIllegal s
    | _ => none)

/-- LEAVE: the innermost loop ends. -/
def execLeave (w : LastAt) (s : State) : Outcome State Fault Refusal :=
  .next (s.issue w fun
    | .leave c => some fun s y =>
      let (go, s) := s.condOf w.rack y c
      match go, y.loops with
      | true, f :: fs =>
        let (pc, fs) := seqFrom fs f.last
        .goto pc (y.setLoops fs) s
      | _, _ => .done y s
    | _ => none)

/-! ## Tap window (R119, R120) -/

/-- The program sets with capability VNLE (R51, R130). -/
def State.psetVnle (s : State) (id : Nat) : Bool :=
  match s.psets.find? (fun p => p.id == id) with
  | some p => p.vnle
  | none => id == 3 || id == 4

/-- The program sets with capability SD. -/
def State.psetSd (s : State) (id : Nat) : Bool :=
  match s.psets.find? (fun p => p.id == id) with
  | some p => p.sd
  | none => id == 2 || id == 4

/-- The ADC code x(m − n) of a record's symbol m, as a byte. -/
def tapCode (x : TapRecord) (n : Nat) : Nat := (x.codes.getD (codesAhead + n) 0).toNat

/-- The decision for FFE tap `i` (that of the symbol at m + MAIN − i), coded as p̂ − 2; `ds` starts at the symbol m − 48. A record
has 49 taps. -/
def tapDecision (ds : List Nat) (main i : Nat) : Nat := if i < 49 then (ds.getD (48 + main - i) 0 + 2) % 4 else 0

/-- T0–T11 of a record (R119): y is the FFE's output, the decisions are the detector's, the error is y less the decision's level,
and the symbol of block m is converted by sub-ADC m mod 128 (R69–R71, R74). The block's markers are known only to a lane that
is locked to them (R148). -/
def State.tapRegs (s : State) (k : Nat) (x : TapRecord) : List W24 :=
  let sd := s.flag LRX_CFG.SD_EFF k
  let vnle := s.psetVnle (s.mode.run.lane k).progSet
  let am := x.am && s.flag LRX_STAT.AM_LOCK k
  let xs := x.codes.map (fun c => c.toInt)
  let y := s.lineY k xs
  let ds := s.lineDecisions k xs x.before.toNat x.metrics
  let dec := ds.getD 48 0
  let main := s.fld LRX_DET_CTL.MAIN k
  let t1 := dec + x.block.toNat % 128 * 4 + x.rel.toNat * 0x200 + b2n am * 0x1000 + b2n sd * 0x2000 +
    b2n vnle * 0x4000 + (if am then x.known.toNat else 0) * 0x10000
  let decw (t : Nat) : W24 :=
    BitVec.ofNat 24 ((List.range 12).foldl (fun a j => a + tapDecision ds main (12 * t + j) * 2 ^ (2 * j)) 0)
  let xp (n : Nat) : W24 :=
    if vnle then BitVec.ofNat 24 (tapCode x n + tapCode x (n + 1) * 0x100 + tapCode x (n + 2) * 0x10000) else 0
  [x.block, BitVec.ofNat 24 t1, (x.codes.getD codesAhead 0).signExtend 24, BitVec.ofInt 24 y,
    BitVec.ofInt 24 (y - 64 * levelOf dec), decw 0, decw 1, decw 2, decw 3, decw 4, xp 1, xp 4]

/-- Whether a line lane writes tap records (R120). -/
def State.tapRuns (s : State) (k : Nat) : Bool :=
  let st := (s.lanePort k).st
  s.lineUsed k && !(s.flag LRX_STAT.DOZE k) && (st == portUp || st == portAcquiring || st == portTest)

/-- TAP_RECORD (R74, R77, R119): the chosen symbol of a block, given the ADC codes about it: a sample for a running histogram
capture, and one record into the buffer of each running rack of the lane. -/
def execTapRecord (k : Fin 8) (x : TapRecord) (s : State) : Outcome State Fault Refusal :=
  let xs := x.codes.map (fun c => c.toInt)
  let s := if s.rxRuns k then s.histSample k (x.codes.getD codesAhead 0) (s.lineY k xs) else s
  .next (if s.tapRuns k then
    let rec_ := s.tapRegs k x
    ((s.laneRacks k).filter (fun r => s.rackClocked r && s.fld RACK_STAT.HALTED r != 0xFF)).foldl
      (fun s r =>
        let q := s.rackOf r
        s.setRack r { q with written := q.written + 1, taps := (rec_ :: q.taps).take 64 }) s
  else s)

/-- Records counted as lost for a last (R120). -/
def State.tapLost (s : State) (r l n : Nat) : State :=
  if n = 0 then s else (s.inc .RACK_TW_OVR_CNT r l n).raise RACK_CAUSE.TW_OVR r

/-- TWIN (R120). `bad`: the buffer's words of the record to deliver read uncorrectable, so that it is discarded and counted
as lost, and the last waits on (R365). -/
def execTwin (w : LastAt) (bad : Bool) (s : State) : Outcome State Fault Refusal :=
  .next (s.issue w fun
    | .twin newest => some fun s y =>
      let q := s.rackOf w.rack
      if q.written ≤ y.seen then .stall s
      else
        let n := if newest then q.written - 1 else max y.seen (q.written - 64)
        let s := s.tapLost w.rack w.last (if newest then 0 else n - y.seen)
        if bad then
          let (x, s) := s.free
          let loc := buriedLoc (dieOfRack w.rack) 2 (rackIsland w.rack % 256) x
          let s := s.countUncorrectable loc 15 kindRead false
          .stall ((s.tapLost w.rack w.last 1).setLast w.rack w.last { y with seen := n + 1 })
        else
          let s := s.perf (rackIsland w.rack) 0x46 { last := some w.last, user := some (!y.super) }
          .done { y with seen := n + 1, t := q.taps.getD (q.written - 1 - n) (List.replicate 12 0) } s
    | _ => none)

/-! ## Rack bus (R121, R122) -/

/-- A field port: the field, its instance, the range written, whether it is signed, and its group; none where it is read
only. -/
structure FieldPort where
  fld : Fld
  i : Nat := 0
  lo : Int := 0
  hi : Int := 0
  sgn : Bool := false
  group : Option Nat := none

/-- The field ports of R121. -/
def fieldPort (a : Nat) : Option FieldPort :=
  let o := a - 0x10000
  if a < 0x10000 then none
  else if o ≤ 48 then some ⟨LRX_FFE_COEF.COEF, o, -2048, 2047, true, some 0⟩
  else if 0x40 ≤ o ∧ o ≤ 0x40 + 46 then some ⟨LRX_VNLE_KERN.KERN, o - 0x40, -2048, 2047, true, some 1⟩
  else if 0x80 ≤ o ∧ o ≤ 0x82 then some ⟨LRX_THR.THR, o - 0x80, -512, 511, true, some 2⟩
  else
    match o with
    | 0x84 => some ⟨LRX_DET_CTL.MAIN, 0, 0, 48, false, some 3⟩
    | 0x85 => some ⟨LRX_DET_CTL.H1, 0, -512, 511, true, some 3⟩
    | 0x86 => some ⟨LRX_AFE_CTL.CTLE_PEAK, 0, 0, 31, false, some 4⟩
    | 0x87 => some ⟨LRX_AFE_CTL.VGA, 0, 0, 63, false, some 4⟩
    | 0x88 => some ⟨LRX_CDR_CTL.KP, 0, 0, 15, false, some 5⟩
    | 0x89 => some ⟨LRX_CDR_CTL.KI, 0, 0, 23, false, some 5⟩
    | 0x8A => some ⟨LRX_CDR_CTL.FREEZE, 0, 0, 1, false, some 5⟩
    | 0x100 => some { fld := LRX_LEVEL.MEAN, i := 0, sgn := true }
    | 0x101 => some { fld := LRX_LEVEL.MEAN, i := 1, sgn := true }
    | 0x102 => some { fld := LRX_LEVEL.MEAN, i := 2, sgn := true }
    | 0x103 => some { fld := LRX_LEVEL.MEAN, i := 3, sgn := true }
    | 0x104 => some { fld := LRX_CDR_FOFS.FOFS, sgn := true }
    | 0x105 => some { fld := LRX_CDR_FOFS.PHASE }
    | 0x107 => some { fld := LRX_SNR.SNR }
    | _ => none

/-- The group of a field port that is written; none for any other address. -/
def portGroup (a : Nat) : Option Nat := (fieldPort a).bind (fun p => p.group)

/-- BREQ (R115, R122, R124). `same`: it issues in the cycle of the rack's latest request. -/
def execBreq (w : LastAt) (same : Bool) (s : State) : Outcome State Fault Refusal :=
  .next (s.issue w fun
    | .breq wr d be b off => some fun s y =>
      let a := if be then ((y.D b).toNat + off) % 2 ^ 18 else off
      let barred := match portGroup a with
        | some g => wr && !y.super && !(bitOf (s.rackOf w.rack).portMask g)
        | none => false
      if y.bus.isSome ∨ y.resp.isSome then .fail vecPairing s
      else if barred then .fail vecRange s
      else
        let s := s.perf (rackIsland w.rack) 0x45 { last := some w.last, user := some (!y.super), addr := some a }
        let q := s.rackOf w.rack
        let age := if same then q.busAge else q.busAge + 1
        let s := s.setRack w.rack { q with busAge := age }
        .done { y with bus := some { addr := a, write := wr, data := if wr then y.D d else 0, age := age } } s
    | _ => none)

/-- BRSP (R121, R122): it stalls until the response has come; an uncorrectable shared-memory word traps (R365). -/
def execBrsp (w : LastAt) (s : State) : Outcome State Fault Refusal :=
  .next (s.issue w fun
    | .brsp d => some fun s y =>
      match y.bus, y.resp with
      | none, none => .fail vecPairing s
      | some _, none => .stall s
      | _, some x =>
        if x.bad then .fail vecData (s.setLast w.rack w.last { y with bus := none, resp := none })
        else
          let y : Last := { y with bus := none, resp := none }
          .done ((y.setD d x.value).putSr srE x.error) s
    | _ => none)

/-- The value at a field port, right-aligned; a signed field as a two's complement number. -/
def State.portRead (s : State) (k : Nat) (p : FieldPort) : W24 :=
  if p.sgn then BitVec.ofInt 24 (s.sfld p.fld k p.i) else BitVec.ofNat 24 (s.fld p.fld k p.i)

/-- A write to a field port, saturated to its range (R121). While the receive direction dozes, its coefficients and
thresholds keep their values (R16, R68). -/
def State.portWrite (s : State) (k : Nat) (p : FieldPort) (v : W24) : State :=
  let x := clampI p.lo p.hi (if p.sgn then v.toInt else (v.toNat : Int))
  if s.flag LRX_STAT.DOZE k then s else s.put p.fld (unsigned p.fld.w x) k p.i

/-- LMODE (R121). -/
def State.lmode (s : State) (k : Nat) : Nat :=
  s.fld LRX_CFG.SD_EFF k + 2 * s.fld LRX_CFG.VNLE_EFF k + 4 * s.fld LRX_CFG.DUTY_EFF k +
    16 * s.fld LRX_CFG.SD_REQ k + 32 * s.fld LRX_CFG.VNLE_REQ k + 256 * s.fld LRX_CFG.PROG_SET k

/-- Whether the rack runs a built-in program set (R51). -/
def State.builtin (s : State) (r : Nat) : Bool :=
  let id := s.fld RACK_PROG_ID.PROG_SET r
  decide (1 ≤ id) && decide (id ≤ 4)

/-- The field ports that rack `i` of a lane writes under a built-in set (R129): FFE; the clock-recovery gains, FREEZE and MAIN; the
AFE and the thresholds; H1, of which rack 3 has charge while SD_EFF is clear and rack 4 while it is set; and a third of the
kernels each, while VNLE_EFF is set. A rack that holds its fields, or runs its estimating form, writes none. -/
def State.builtinWrites (s : State) (k i a : Nat) : Bool :=
  let sd := s.flag LRX_CFG.SD_EFF k
  let vnle := s.flag LRX_CFG.VNLE_EFF k
  match i with
  | 0 => portGroup a == some 0
  | 1 => portGroup a == some 5 || a == 0x10084
  | 2 => portGroup a == some 4 || portGroup a == some 2
  | 3 => a == 0x10085 && !sd
  | 4 => a == 0x10085 && sd
  | _ => portGroup a == some 1 && (a - 0x10040) / 16 == i - 5 && vnle

/-- The kernels' ramp to 0 that rack 5, 6 or 7 carries out once the mode has removed the option: a write that moves one towards 0
(R62, R129). -/
def State.rampWrite (s : State) (k a : Nat) (v : W24) : Bool :=
  (s.line k).fade == some .rampOut && portGroup a == some 1 &&
    decide (v.toInt.natAbs ≤ (s.sfld LRX_VNLE_KERN.KERN k (a - 0x10040)).natAbs)

/-- Whether the program of a rack makes a write (R129). A built-in one reads a field back before it first writes it, writes only its
own fields, and as rack 3 reports 0, 1 or 2 in RACK_REPORT_0. The words of the built-in programs are not in the spec, so that
what a program of them would do otherwise is left out here (DEDUCED, log entry 146). -/
def State.makesWrite (s : State) (r : Nat) (q : BusReq) : Bool :=
  let k := rackLane r
  let i := r % 8
  !(s.builtin r) ||
    (if (portGroup q.addr).isSome then
      (s.rackOf r).back.contains q.addr &&
        (if s.flag LRX_CFG.VNLE_REQ k || decide (i < 5) then s.builtinWrites k i q.addr else s.rampWrite k q.addr q.data)
    else !(i == 3 && q.addr == 0x20000 && decide (2 < q.data.toNat)))

/-- A built-in program has read a field port back (R129). -/
def State.noteBack (s : State) (r a : Nat) : State :=
  let q := s.rackOf r
  if s.builtin r = false ∨ (portGroup a).isNone ∨ q.back.contains a then s else s.setRack r { q with back := q.back ++ [a] }

/-- The access of a rack-bus request and its response (R121). -/
def State.rackBus (s : State) (r : Nat) (q : BusReq) : BusResp × State :=
  let k := rackLane r
  let err : BusResp := { error := true }
  if q.addr < 0x800 then
    if q.write then ({}, s.writeWord (sharedAddr r q.addr) (locWord q.data))
    else
      match s.readWord (sharedAddr r q.addr) with
      | (some d, s) => ({ value := d.setWidth 24 }, s)
      | (none, s) => ({ bad := true }, s)
  else if 0x20000 ≤ q.addr ∧ q.addr < 0x20008 then
    if q.write then
      ({}, if s.makesWrite r q then s.setReg .RACK_REPORT (q.data.signExtend 32) r (q.addr - 0x20000) else s)
    else ({ value := (s.reg .RACK_REPORT r (q.addr - 0x20000)).setWidth 24 }, s)
  else if q.addr = 0x30000 then
    if q.write then (err, s) else ({ value := BitVec.ofNat 24 (s.lmode k) }, s)
  else if q.addr = 0x10106 then
    if q.write then (err, s)
    else
      let v := s.fld LRX_STAT.SIG_PRESENT k + 2 * s.fld LRX_STAT.CDR_LOCK k + 4 * s.fld LRX_STAT.AM_LOCK k
      ({ value := BitVec.ofNat 24 v }, s)
  else
    match fieldPort q.addr with
    | none => (err, s)
    | some p =>
      if q.write then
        (if p.group.isSome then ({}, if s.makesWrite r q then s.portWrite k p q.data else s) else (err, s))
      else ({ value := s.portRead k p }, s.noteBack r q.addr)

/-- The request that a last has waiting for the rack bus. -/
def State.busWaits (s : State) (r l : Nat) : Option BusReq :=
  match (s.last r l).bus, (s.last r l).resp with
  | some q, none => if q.got.isNone then some q else none
  | _, _ => none

/-- The last whose request the rack bus serves next: the oldest waiting one, and among those of equal age that of the lowest last
(R122). -/
def State.busNext (s : State) (r : Nat) : Option Nat :=
  (List.range 8).foldl (fun best l =>
    match s.busWaits r l, best with
    | none, _ => best
    | some _, none => some l
    | some q, some b => match s.busWaits r b with
      | some x => if q.age < x.age then some l else best
      | none => some l) none

/-- The rack bus accepts the request of a last: its access takes place, and its response is on its way. -/
def State.busAccept (s : State) (r l : Nat) (q : BusReq) : State :=
  let (x, s) := s.rackBus r q
  s.setLast r l { s.last r l with bus := some { q with got := some x } }

/-- The rack bus accepts waiting requests in their order until it has accepted that of a last. -/
def State.busUpTo (s : State) (r l : Nat) : Nat → State
  | 0 => s
  | n + 1 =>
    match s.busWaits r l, s.busNext r with
    | some _, some b =>
      match s.busWaits r b with
      | some q => (s.busAccept r b q).busUpTo r l n
      | none => s
    | _, _ => s

/-- RACK_BUS_RESPONSE (R122): the bus has accepted the last's request, and those before it; its response waits in the last's slot,
whether the last runs or not (R123, R128). Responses come in any order, for their round trips differ. -/
def execRackBusResponse (rack : Fin 64) (last : Fin 8) (s : State) : Outcome State Fault Refusal :=
  .next (
    if s.island (rackIsland rack) = .on then
      let s := s.busUpTo rack last 8
      let y := s.last rack last
      match y.bus.bind (fun q => q.got), y.resp with
      | some x, none => s.setLast rack last { y with resp := some x }
      | _, _ => s
    else s)

/-! ## System class (R110, R124) -/

/-- Bits of SR that a last keeps. -/
def srMask : W24 := 0x177

/-- Whether user mode may read a control register. -/
def State.userReads (s : State) (r n : Nat) : Bool :=
  decide (n ≤ 4) || (s.flag RACK_CTL.UCNT r && decide (0x10 ≤ n) && decide (n ≤ 0x14))

/-- The four slot counters of a last, as CRET to CBACK name them. -/
def slotCounter (n : Nat) : Reg :=
  match n with
  | 0x10 => .RACK_SLOT_RET_CNT
  | 0x11 => .RACK_SLOT_WASTE_CNT
  | 0x12 => .RACK_SLOT_FRONT_CNT
  | _ => .RACK_SLOT_BACK_CNT

/-- The value of a control register, and what reading it changes; the value of a number the spec does not list is open. -/
def State.ctlRead (s : State) (r l : Nat) (y : Last) (n : Nat) : W24 × Last × State :=
  match n with
  | 0x00 => (s.srRead r y, y, s)
  | 0x01 => (match y.loops with | f :: _ => BitVec.ofNat 24 f.count | [] => 0, y, s)
  | 0x02 => (BitVec.ofNat 24 (l + 8 * r), y, s)
  | 0x03 => (y.mu, y, s)
  | 0x04 => (y.amode.setWidth 24, y, s)
  | 0x08 => (y.tpc.setWidth 24, y, s)
  | 0x09 => (y.tsr, y, s)
  | 0x0A => (y.vbr.setWidth 24, y, s)
  | 0x0B => (y.info.setWidth 24, y, s)
  | 0x14 => (y.chi, y, s)
  | _ =>
    if 0x10 ≤ n ∧ n ≤ 0x13 then
      let c := s.cnt (slotCounter n) r l
      (c.setWidth 24, { y with chi := c.extractLsb' 24 24 }, s)
    else let (x, s) := s.free; (BitVec.ofNat 24 x, y, s)

/-- A write of a control register: SR takes [6:0]; LC is the innermost loop's counter; read-only and unlisted numbers take
nothing. AMODE, MU and VBR are seen after three instructions (R116). -/
def Last.ctlWrite (y : Last) (n : Nat) (v : W24) : Last :=
  match n with
  | 0x00 => { y with sr := (y.sr &&& 0x100) ||| (v &&& 0x77) }
  | 0x01 => match y.loops with
    | f :: fs => { y with loops := { f with count := v.toNat % 0x10000 } :: fs }
    | [] => y
  | 0x03 => y.defer 3 .mu v.toNat
  | 0x04 => y.defer 3 .amode (v.toNat % 0x10000)
  | 0x08 => { y with tpc := v.setWidth 14 }
  | 0x09 => { y with tsr := v }
  | 0x0A => y.defer 3 .vbr (v.toNat % 0x4000)
  | 0x0B => { y with info := v.setWidth 22 }
  | _ => y

/-- MOVC: user mode may write SR, MU and AMODE. -/
def execMovc (w : LastAt) (s : State) : Outcome State Fault Refusal :=
  .next (s.issue w fun
    | .movc d n => some fun s y =>
      if !y.super && !(n == 0 || n == 3 || n == 4) then .fail vecPriv s else .done (y.ctlWrite n (y.D d)) s
    | _ => none)

/-- MOVFC. -/
def execMovfc (w : LastAt) (s : State) : Outcome State Fault Refusal :=
  .next (s.issue w fun
    | .movfc d n => some fun s y =>
      if !y.super && !(s.userReads w.rack n) then .fail vecPriv s
      else
        let (v, y, s) := s.ctlRead w.rack w.last y n
        .done (y.setD d v) s
    | _ => none)

/-- RTI (R124): PC and SR are restored; with TSR.SV clear the last enters user mode. -/
def execRti (w : LastAt) (s : State) : Outcome State Fault Refusal :=
  .next (s.issue w fun
    | .rti => some fun s y =>
      if y.super then .skip y.tpc.toNat { y with sr := y.tsr &&& srMask, rep := none } s else .fail vecPriv s
    | _ => none)

/-- HALT. -/
def execHalt (w : LastAt) (s : State) : Outcome State Fault Refusal :=
  .next (s.issue w fun
    | .halt => some fun s y => if y.super then .stop y s else .fail vecPriv s
    | _ => none)

/-! ## Watchdog, restart, halt register and tagging -/

/-- LAST_WATCHDOG (R126). -/
def execLastWatchdog (rack : Fin 64) (last : Fin 8) (s : State) : Outcome State Fault Refusal :=
  .next (
    let y := s.last rack last
    if s.rackClocked rack ∧ s.lastHalted rack last = false ∧ y.yielding = false ∧ 2 ^ 20 ≤ y.retired then
      (s.setLast rack last { y with retired := 0 }).trapLast rack last vecWatchdog vecWatchdog
    else s)

/-- The lasts of a rack start (R110, R131): they are preset, with VBR 0, and start at address 0 in supervisor mode, where the
monitor's code leaves through RTI for the program's entry in user mode. That code is not in the spec; what is said of it happens
in the step of the start, so that the lasts stand at the entry with the registers RTI leaves (DEDUCED, log entry 144). -/
def State.startRack (s : State) (r : Nat) : State :=
  let q := s.rackOf r
  let pc := BitVec.ofNat 14 q.entry
  let s := (List.range 8).foldl
    (fun s l => s.setLast r l { pc := pc, tpc := pc, sr := 0, tsr := 0, vbr := 0, seen := (s.last r l).seen }) s
  let s := s.setRack r { q with restart := none, back := [] }
  (s.setHalt r 0).toNewest r 0xFF

/-- RACK_RESTART (R127): 1 ms after a user trap. -/
def execRackRestart (rack : Fin 64) (s : State) : Outcome State Fault Refusal :=
  .next (match (s.rackOf rack).restart with
  | some t => if t ≤ s.now ∧ s.island (rackIsland rack) = .on then s.startRack rack else s
  | none => s)

/-- A write of RACK_CTL: lasts halt or run at their next instruction boundary; tagging that is enabled counts anew. -/
def State.rackCtlWrite (s : State) (r : Nat) (data : W32) : State :=
  let s := s.put RACK_CTL.UCNT (getBits data 16 1) r
  let s :=
    if getBits data 20 1 = 1 ∧ s.flag RACK_CTL.TAG_EN r = false then s.tagStart r else s
  (s.put RACK_CTL.TAG_EN (getBits data 20 1) r).setHalt r (getBits data 0 8)

/-- A tag record (R139). -/
def tagWords (l : Nat) (c : Issued) (cycles : W32) (x : TagTimes) : Wide :=
  let w0 := c.pc + l * 0x4000 + b2n c.user * 0x20000 + b2n c.lcache * 0x40000 + b2n c.trapped * 0x80000 +
    c.cls * 0x100000 + 0x80000000
  let w1 := satN 16 x.fetch + satN 16 x.stall * 0x10000
  let w2 := satN 16 x.bus + x.cause.val * 0x10000
  BitVec.ofNat 256 (w0 + w1 * 2 ^ 32 + w2 * 2 ^ 64 + (cycles + BitVec.ofNat 32 x.cycle).toNat * 2 ^ 96)

/-- TAG_SAMPLE (R139): the record of the oldest tagged instruction, of a last, enters the FIFO. -/
def execTagSample (rack : Fin 64) (last : Fin 8) (times : TagTimes) (s : State) : Outcome State Fault Refusal :=
  .next (
    let q := s.rackOf rack
    match q.tagged with
    | (l, c, cycles) :: rest =>
      if l = last.val ∧ s.island (rackIsland rack) = .on then
        if q.tags.length < 16 then
          (s.setRack rack { q with tagged := rest, tags := q.tags ++ [tagWords last c cycles times] }).put
            RACK_TAG_STAT.COUNT (q.tags.length + 1) rack
        else
          ((s.setRack rack { q with tagged := rest }).bump RACK_TAG_STAT.LOST rack).raise RACK_CAUSE.TAG_FULL rack
      else s
    | [] => s)

end Sys2Proof.Machine
end

