-- ==== Sys2Proof/Machine/Racks.lean ====
section
/-!
DEFINITION. Sys2Proof/Machine/Racks.lean: rack memory windows, program sets and the commands of class 0x06 (R129–R134).
-/

namespace Sys2Proof.Machine

open Host

/-! ## Memory windows (R134) -/

/-- A window write refused for a running last: it is ignored and flagged. -/
def State.memLock (s : State) (r : Nat) : State := (s.raise RACK_STAT.MEM_LOCK r).raise RACK_CAUSE.LOCK r

/-- A written program word leaves every loop cache of the rack (R118). -/
def State.uncache (s : State) (r word : Nat) : State :=
  (List.range 8).foldl (fun s l =>
    let y := s.last r l
    if y.cache.any (fun c => c.1 / 2 == word) then s.setLast r l { y with cache := [] } else s) s

/-- A write of half a program word: the low half is held for its master, and the high half of the same word writes all 64
bits (R134). -/
def State.progWrite (s : State) (src : Master) (r word : Nat) (high : Bool) (data : W32) : Resp × State :=
  let q := s.rackOf r
  let others := q.lows.filter (fun x => x.1 != srcId src)
  if s.fld RACK_STAT.HALTED r ≠ 0xFF then (.ok, s.memLock r)
  else if high = false then (.ok, s.setRack r { q with lows := others ++ [(srcId src, word, data)] })
  else
    match q.lows.find? (fun x => x.1 == srcId src && x.2.1 == word) with
    | none => (.dataErr, s)
    | some (_, _, lo) =>
      let s := s.setRack r { q with lows := others }
      (.ok, (s.writeWord (progAddr r word) (data ++ lo)).uncache r word)

/-- The address of a location of a rack's data memories. -/
def spaceAddr (r : Nat) (sp : RackSpace) (a : Nat) : Nat :=
  match sp with
  | .x l => dataAddr r l false (a % 1024)
  | .y l => dataAddr r l true (a % 1024)
  | .shared => sharedAddr r a

/-- Whether a location may be written: its last is halted, or for the shared memory all lasts are. -/
def State.spaceOpen (s : State) (r : Nat) (sp : RackSpace) : Bool :=
  match sp with
  | .x l | .y l => s.lastHalted r l
  | .shared => s.fld RACK_STAT.HALTED r == 0xFF

/-! ## Program-set images (R130) -/

/-- The bytes of [a, a + n) of a memory, or none where a word reads uncorrectable. -/
def State.readBytes (s : State) (a n : Nat) : Option (List Nat) × State :=
  let first := a / 8
  let words := (List.range ((a + n + 7) / 8 - first)).map (fun i => 8 * (first + i))
  match s.readWords words with
  | (none, s) => (none, s)
  | (some ds, s) =>
    let all := ds.flatMap (fun d => (List.range 8).map (fun i => byteOf d.toNat i))
    (some ((all.drop (a % 8)).take n), s)

/-- A little-endian field of an image. -/
def fieldOf (img : List Nat) (off n : Nat) : Nat := leNat ((img.drop off).take n)

/-- A rack descriptor of an image. -/
structure RackDesc where
  prog : Nat
  words : Nat
  entry : Nat
  table : Nat
  entries : Nat
  deriving DecidableEq, Repr

/-- RACK_DESC_i. -/
def rackDesc (img : List Nat) (i : Nat) : RackDesc :=
  let o := 0x10 + 16 * i
  ⟨fieldOf img o 4, fieldOf img (o + 4) 2, fieldOf img (o + 6) 2, fieldOf img (o + 8) 4, fieldOf img (o + 12) 4⟩

/-- A data-table entry: the space, the first location and the values. -/
structure TableEntry where
  ySpace : Bool
  start : Nat
  values : List W24
  deriving DecidableEq, Repr

/-- The entries of a data table, of which `n` follow at offset `o`; none where one is invalid or lies beyond `lim`. -/
def tableOf (img : List Nat) (lim : Nat) : Nat → Nat → Option (List TableEntry)
  | _, 0 => some []
  | o, n + 1 =>
    let space := fieldOf img o 1
    let start := fieldOf img (o + 2) 2
    let count := fieldOf img (o + 4) 2
    if lim < o + 8 + 4 * count ∨ 1 < space ∨ 1024 < start + count then none
    else
      match tableOf img lim (o + 8 + 4 * count) n with
      | none => none
      | some es =>
        some (⟨space == 1, start, (List.range count).map (fun i => BitVec.ofNat 24 (fieldOf img (o + 8 + 4 * i) 4))⟩ :: es)

/-- Whether a rack descriptor is valid: its words and its data table lie in the image before the signature. -/
def descOk (img : List Nat) (i : Nat) : Bool :=
  let d := rackDesc img i
  let lim := img.length - 96
  decide (1 ≤ d.words) && decide (d.words ≤ 7168) && decide (2048 ≤ d.entry) && decide (d.entry ≤ 16383) &&
    decide (0x90 ≤ d.prog) && decide (d.prog + 8 * d.words ≤ lim) &&
    (d.entries == 0 || (decide (0x90 ≤ d.table) && (tableOf img lim d.table d.entries).isSome))

/-- Whether an image has the layout of R130, for the set it is loaded as. -/
def imageOk (img : List Nat) (id : Nat) : Bool :=
  decide (0x90 + 96 ≤ img.length) && fieldOf img 0 4 == 0x53505842 && fieldOf img 4 2 == 1 && fieldOf img 6 1 == id &&
    decide (fieldOf img 10 1 ≤ 3) && (List.range 8).all (fun i => !(bitOf (fieldOf img 8 1) i) || descOk img i)

/-- The digest and signature check of an image signed by a registered key. -/
def signedBy (k : Key) (img : List Nat) : Bool :=
  let n := img.length - 96
  Config.verify k.bytes (Config.digest 384 (img.take n)) (img.drop n)

/-- The key of a slot. -/
def State.keyOf (s : State) (slot : Nat) : Option Key := (s.sec.keys.find? (fun k => k.1 == slot)).map (fun k => k.2)

/-- A loaded set as an image describes it. -/
def psetOf (img : List Nat) : PSet :=
  { id := fieldOf img 6 1, racks := fieldOf img 8 1, sd := bitOf (fieldOf img 7 1) 0, vnle := bitOf (fieldOf img 7 1) 1,
    authentic := true, slot := fieldOf img 10 1, version := fieldOf img 12 4, ucnt := bitOf (fieldOf img 11 1) 0,
    image := img }

/-! ## Loading a rack (R131) -/

/-- The field groups that each rack of the built-in sets writes (R129). -/
def builtinMask (i : Nat) : Nat :=
  match i with
  | 0 => 0x01
  | 1 => 0x28
  | 2 => 0x14
  | 3 => 0x08
  | 4 => 0x08
  | _ => 0x02

/-- Write the data table of a set into the X and Y memories of all 8 lasts, 0 elsewhere. -/
def State.writeTables (s : State) (r : Nat) (es : List TableEntry) : State :=
  let s := s.zeroRange (dataAddr r 0 false 0) (dataAddr r 8 false 0)
  (List.range 8).foldl (fun (s : State) l =>
    es.foldl (fun (s : State) e =>
      (List.range e.values.length).foldl (fun (s : State) i =>
        s.writeWord (dataAddr r l e.ySpace (e.start + i)) (locWord (e.values.getD i 0))) s) s) s

/-- Load a program set into a rack and start it (R131). What the words of the monitor and of a built-in program are, the
spec does not give. -/
def State.loadRack (s : State) (r id : Nat) : State :=
  let s := s.setHalt r 0xFF
  let s := s.initRange (progAddr r 0) (progAddr r 1024)
  let i := r % 8
  let s :=
    match s.psets.find? (fun p => p.id == id) with
    | some p =>
      let d := rackDesc p.image i
      let lim := p.image.length - 96
      let s := (List.range d.words).foldl (fun (s : State) w =>
        s.writeWord (progAddr r (1024 + w)) (BitVec.ofNat 64 (fieldOf p.image (d.prog + 8 * w) 8))) s
      let s := s.writeTables r ((tableOf p.image lim d.table d.entries).getD [])
      let s := s.setRack r { s.rackOf r with portMask := fieldOf p.image 9 1, entry := d.entry }
      (s.putFlag RACK_CTL.UCNT p.ucnt r).put RACK_PROG_ID.VERSION (p.version % 0x10000) r
    | none =>
      let s := (s.initRange (progAddr r 1024) (progAddr r 8192)).writeTables r []
      let s := s.setRack r { s.rackOf r with portMask := builtinMask i, entry := 2048 }
      (s.putFlag RACK_CTL.UCNT false r).put RACK_PROG_ID.VERSION 0 r
  let s := (s.put RACK_PROG_ID.PROG_SET id r).put RACK_PROG_ID.INDEX i r
  s.startRack r

/-- Power a rack off: its island and all it holds. The 10 s in which a second trap leaves the rack halted (R127) are Aqique's. -/
def State.rackOff (s : State) (r : Nat) : State :=
  let s := (s.turnIsland (rackIsland r) .powerOff).wipe layout_rack r
  let s := (s.dropRange ((Block.rack r).base + 0x10000) ((Block.rack r).base + 0x40000)).loseBuried (rackIsland r)
  (List.range 8).foldl (fun s l => s.setLast r l {}) (s.setRack r { trapAt := (s.rackOf r).trapAt })

/-- Power a rack on. -/
def State.rackOn (s : State) (r : Nat) : State :=
  if s.island (rackIsland r) = .on then s else s.turnIsland (rackIsland r) .on

/-! ## Commands (R132, R133) -/

/-- The racks a command names, of those that are on (RACKS 0x00: `all`). -/
def State.namedRacks (s : State) (k racks : Nat) (all : Nat → Bool) : List Nat :=
  ((s.laneRacks k).filter (fun r => s.island (rackIsland r) == .on)).filter
    (fun r => if racks = 0 then all r else bitOf racks (r % 8))

/-- A bitmap of racks of a lane. -/
def rackBits (rs : List Nat) : Nat := bitsWhere (fun i => rs.any (fun r => r % 8 == i)) 8

/-- A rack that RACK_HALT names halts, and stays so: no restart after a trap brings it back (R123). -/
def State.holdRack (s : State) (r : Nat) : State :=
  let s := s.setHalt r 0xFF
  s.setRack r { s.rackOf r with restart := none }

/-- RACK_HALT. -/
def cmdRackHalt : Handler := fun p _ s =>
  let k := p.byte 0
  if 7 < k ∨ p.zeroFrom 2 = false then (fieldRange, s)
  else if s.applyHoldsLine k then (failWith 0x0302, s)
  else if s.lineUsed k = false then (failWith 0x0223, s)
  else
    let rs := s.namedRacks k (p.byte 1) (fun r => s.fld RACK_STAT.HALTED r != 0xFF)
    (okWith (rackBits rs), rs.foldl State.holdRack s)

/-- RACK_RESUME. -/
def cmdRackResume : Handler := fun p _ s =>
  let k := p.byte 0
  if 7 < k ∨ p.zeroFrom 2 = false then (fieldRange, s)
  else if s.applyHoldsLine k then (failWith 0x0302, s)
  else if s.lineUsed k = false then (failWith 0x0223, s)
  else
    let rs := s.namedRacks k (p.byte 1) (fun _ => true)
    (okWith (rackBits rs), rs.foldl (fun s r => s.setHalt r 0) s)

/-- RACK_STATUS. -/
def cmdRackStatus : Handler := fun p _ s =>
  let r := p.byte 0
  if 63 < r ∨ p.zeroFrom 1 = false then (fieldRange, s)
  else if s.applyHoldsLine (r / 8) then (failWith 0x0302, s)
  else if s.lineUsed (r / 8) = false then (failWith 0x0223, s)
  else (okWith (s.reg .RACK_STAT r).toNat (s.reg .RACK_PROG_ID r).toNat, s)

/-- Whether a number is a customer program set's ID. -/
def isSetId (n : Nat) : Bool := decide (0x80 ≤ n) && decide (n ≤ 0x8F)

/-- PSET_LOAD_BEGIN. -/
def cmdPsetLoadBegin : Handler := fun p _ s =>
  let id := p.byte 0
  let len := p.wordAt 4
  if isSetId id = false ∨ p.byte 1 ≠ 0 ∨ p.byte 2 ≠ 0 ∨ p.byte 3 ≠ 0 ∨ p.zeroFrom 8 = false then (fieldRange, s)
  else if 524288 < len then (failWith 0x0111, s)
  else if s.stage.isSome then (failWith 0x0307, s)
  else
    let (a, s) := s.openStage (.pset id) len
    (okWith a len, s)

/-- Bytes of images in the program-set store, but for a set. -/
def State.storeUsed (s : State) (id : Nat) : Nat :=
  ((s.psets.filter (fun p => p.id != id)).map (fun p => p.image.length)).sum

/-- Reject a staged image. -/
def State.psetReject (s : State) (id code r1 : Nat) : Answer × State :=
  (failWith code 0 r1, s.log 0x0606 sevWarn id code r1)

/-- PSET_LOAD_END: parse, verify and store the staged image. -/
def cmdPsetLoadEnd : Handler := fun p _ s =>
  let id := p.byte 0
  if isSetId id = false ∨ p.zeroFrom 1 = false then (fieldRange, s)
  else
    match s.stage with
    | none => (failWith 0x0307, s)
    | some g =>
      if g.use ≠ .pset id then (failWith 0x0307, s)
      else
        let (img, s) := s.closeStage.readBytes g.addr g.len
        match img with
        | none => s.psetReject id 0x0431 0
        | some img =>
          if imageOk img id = false then s.psetReject id 0x0110 0
          else if 1048576 < s.storeUsed id + img.length then s.psetReject id 0x0111 0
          else
            match s.keyOf (fieldOf img 10 1) with
            | none => s.psetReject id 0x0501 1
            | some k =>
              if signedBy k img = false then s.psetReject id 0x0501 2
              else
                let s := { s with psets := s.psets.filter (fun (q : PSet) => q.id != id) ++ [psetOf img] }
                (okWith, s.log 0x0605 sevInfo id (fieldOf img 12 4))

/-- Whether an image names a program set. -/
def Image.namesSet (m : Image) (id : Nat) : Bool := m.line.any (fun l => l.progSet == id)

/-- PSET_ERASE. -/
def cmdPsetErase : Handler := fun p _ s =>
  let id := p.byte 0
  let used := s.mode.active.namesSet id || (match s.mode.txn with | some t => t.staged.namesSet id | none => false)
  if isSetId id = false ∨ p.zeroFrom 1 = false then (fieldRange, s)
  else if used then (failWith 0x0306, s)
  else (okWith, { s with psets := s.psets.filter (fun q => q.id != id) })

/-- PSET_LIST: loaded sets 0x80 + n, and the built-in sets 1–4. -/
def cmdPsetList : Handler := fun p _ s =>
  if p.zeroFrom 0 = false then (fieldRange, s)
  else (okWith (bitsWhere (fun n => s.psets.any (fun q => q.id == 0x80 + n)) 16) 0x1E, s)

/-- RACK_HALT (R132). -/
def execRackHalt (e : Fin 256) (s : State) : Outcome State Fault Refusal := .next (s.runCmd e 0x06 0x01 cmdRackHalt)

/-- RACK_RESUME (R132). -/
def execRackResume (e : Fin 256) (s : State) : Outcome State Fault Refusal := .next (s.runCmd e 0x06 0x02 cmdRackResume)

/-- RACK_STATUS (R132). -/
def execRackStatus (e : Fin 256) (s : State) : Outcome State Fault Refusal := .next (s.runCmd e 0x06 0x03 cmdRackStatus)

/-- PSET_LOAD_BEGIN (R132). -/
def execPsetLoadBegin (e : Fin 256) (s : State) : Outcome State Fault Refusal :=
  .next (s.runCmd e 0x06 0x04 cmdPsetLoadBegin)

/-- PSET_LOAD_END (R132). -/
def execPsetLoadEnd (e : Fin 256) (s : State) : Outcome State Fault Refusal := .next (s.runCmd e 0x06 0x05 cmdPsetLoadEnd)

/-- PSET_ERASE (R132). -/
def execPsetErase (e : Fin 256) (s : State) : Outcome State Fault Refusal := .next (s.runCmd e 0x06 0x06 cmdPsetErase)

/-- PSET_LIST (R132). -/
def execPsetList (e : Fin 256) (s : State) : Outcome State Fault Refusal := .next (s.runCmd e 0x06 0x07 cmdPsetList)

end Sys2Proof.Machine
end

