-- ==== Sys2Proof/Machine/Ptp.lean ====
section
/-!
DEFINITION. Sys2Proof/Machine/Ptp.lean: precision-time messages in frames (R234–R236, R241, R242). Where a field lies in
the PTP header is IEEE 1588-2019's, as the spec names it (PRESUMED, log entry 85).
-/

namespace Sys2Proof.Machine

/-- Byte `n` of a frame. -/
def octet (f : List Nat) (n : Nat) : Nat := f.getD n 0

/-- The big-endian number of `n` bytes at an offset. -/
def beAt (f : List Nat) (off : Nat) : Nat → Nat
  | 0 => 0
  | n + 1 => beAt f off n * 256 + octet f (off + n)

/-- A frame with `n` bytes at an offset replaced by a big-endian number. -/
def putBe (f : List Nat) (off n v : Nat) : List Nat :=
  (List.range n).foldl (fun f i => f.set (off + i) (v / 256 ^ (n - 1 - i) % 256)) f

/-- Where the PTP header of a frame begins, and the UDP checksum's offset and whether it is IPv6's, if it has one. -/
structure PtpAt where
  off : Nat
  sum : Option (Nat × Bool) := none
  deriving DecidableEq, Repr

/-- The offset of the EtherType after 0, 1 or 2 VLAN tags. -/
def etherType (f : List Nat) : Nat :=
  let tag (o : Nat) : Bool := beAt f o 2 == 0x8100 || beAt f o 2 == 0x88A8
  if tag 12 then (if tag 16 then 20 else 16) else 12

/-- Whether a UDP header is addressed to a PTP port. -/
def ptpPort (f : List Nat) (udp : Nat) : Bool := beAt f (udp + 2) 2 == 319 || beAt f (udp + 2) 2 == 320

/-- The encapsulations of R234. -/
def ptpEncap (f : List Nat) : Option PtpAt :=
  let e := etherType f
  let ip := e + 2
  if beAt f e 2 = 0x88F7 then some ⟨ip, none⟩
  else if beAt f e 2 = 0x0800 then
    let ihl := octet f ip % 16
    let udp := ip + 4 * ihl
    if 5 ≤ ihl ∧ beAt f (ip + 6) 2 % 0x4000 = 0 ∧ octet f (ip + 9) = 17 ∧ ptpPort f udp then
      some ⟨udp + 8, some (udp + 6, false)⟩
    else none
  else if beAt f e 2 = 0x86DD then
    if octet f (ip + 6) = 17 ∧ ptpPort f (ip + 40) then some ⟨ip + 48, some (ip + 46, true)⟩ else none
  else none

/-- The PTP message of a frame, if it is recognised (R234). -/
def ptpOf (f : List Nat) : Option PtpAt :=
  match ptpEncap f with
  | none => none
  | some h =>
    let len := beAt f (h.off + 2) 2
    let ver := octet f (h.off + 1)
    if h.off < 128 ∧ ver % 16 = 2 ∧ ver / 16 ≤ 1 ∧ 34 ≤ len ∧ h.off + len ≤ f.length then some h else none

/-- messageType. -/
def ptpType (f : List Nat) (h : PtpAt) : Nat := octet f h.off % 16

/-- domainNumber. -/
def ptpDomain (f : List Nat) (h : PtpAt) : Nat := octet f (h.off + 4)

/-- twoStepFlag. -/
def ptpTwoStep (f : List Nat) (h : PtpAt) : Bool := bitOf (octet f (h.off + 6)) 1

/-- correctionField, in 2^-16 ns. -/
def ptpCorrection (f : List Nat) (h : PtpAt) : Int := signed 64 (beAt f (h.off + 8) 8)

/-- sourcePortIdentity. -/
def ptpSource (f : List Nat) (h : PtpAt) : Nat := beAt f (h.off + 20) 10

/-- sequenceId. -/
def ptpSeq (f : List Nat) (h : PtpAt) : Nat := beAt f (h.off + 30) 2

/-- requestingPortIdentity of a Delay_Resp. -/
def ptpRequester (f : List Nat) (h : PtpAt) : Nat := beAt f (h.off + 44) 10

/-- A one's-complement sum of 16-bit numbers. -/
def onesAdd (a b : Nat) : Nat := if a + b < 0x10000 then a + b else a + b - 0xFFFF

/-- The UDP checksum after a change of the 16-bit words `old` to `new` (R242): incremental, by the one's-complement rule. -/
def udpUpdate (sum : Nat) (old new : List Nat) : Nat :=
  let c := old.foldl (fun a w => onesAdd a (0xFFFF - w)) (0xFFFF - sum)
  let c := 0xFFFF - new.foldl onesAdd c
  if c = 0 then 0xFFFF else c

/-- The 16-bit words of the correctionField. -/
def correctionWords (f : List Nat) (h : PtpAt) : List Nat := (List.range 4).map (fun i => beAt f (h.off + 8 + 2 * i) 2)

/-- The largest correctionField, which means a value too large to represent. -/
def cfMax : Int := 0x7FFFFFFFFFFFFFFF

/-- A frame with a residence added to its correctionField and its UDP checksum kept right (R241, R242), and whether the sum
saturated. -/
def ptpAdd (f : List Nat) (h : PtpAt) (res : Int) : List Nat × Bool :=
  let c := ptpCorrection f h
  if c = cfMax then (f, false)
  else
    let sat := decide (cfMax < c + res)
    let g := putBe f (h.off + 8) 8 (unsigned 64 (if cfMax < c + res then cfMax else c + res))
    match h.sum with
    | none => (g, sat)
    | some (o, v6) =>
      if v6 = false ∧ beAt f o 2 = 0 then (g, sat)
      else (putBe g o 2 (udpUpdate (beAt f o 2) (correctionWords f h) (correctionWords g h)), sat)

/-- CRC-16 of R255: x^16 + x^12 + x^5 + 1, bits most significant first. -/
def crc16Bit (c : Nat) (b : Bool) : Nat :=
  let top := bitOf c 15
  let c := (c * 2) % 0x10000
  if top != b then c ^^^ 0x1021 else c

/-- CRC-16 of a list of bytes, from 0xFFFF. -/
def crc16 (bs : List Nat) : Nat :=
  bs.foldl (fun c x => (List.range 8).foldl (fun c i => crc16Bit c (bitOf x (7 - i))) c) 0xFFFF

end Sys2Proof.Machine
end

