-- ==== Sys2Proof/Machine/Time.lean ====
section
/-!
DEFINITION. Sys2Proof/Machine/Time.lean: the time service (spec/09_time_service.md).
-/

namespace Sys2Proof.Machine

open Host

/-! ## Counters (R222) -/

/-- 1 ns in the counter's unit of 2^-48 ns. -/
def nsUnit : Nat := 2 ^ 48

/-- The 96-bit layout of a time in 2^-48 ns: seconds, nanoseconds, 2^-16 ns. -/
def todBits (acc : Nat) : Nat :=
  let ns := acc / nsUnit
  (ns / 1000000000 % 2 ^ 48) * 2 ^ 48 + (ns % 1000000000) * 2 ^ 16 + acc / 2 ^ 32 % 2 ^ 16

/-- The time in 2^-16 ns that a 96-bit value spells. -/
def todTicks (t : Nat) : Nat :=
  ((t / 2 ^ 48 % 2 ^ 48) * 1000000000 + t / 2 ^ 16 % 2 ^ 32) * 2 ^ 16 + t % 2 ^ 16

/-- The counter of a core die (1 or 2). -/
def State.clock (s : State) (d : Nat) : Clock := s.time.clocks.getD (d - 1) {}

/-- Change a counter. -/
def State.setClock (s : State) (d : Nat) (v : Clock) : State :=
  { s with time := { s.time with clocks := s.time.clocks.set (d - 1) v } }

/-- What a die's counter reads `frac` after the start of the current microsecond, with an error, all in 2^-16 ns. -/
def State.stampAt (s : State) (d frac : Nat) (err : Int) : Nat := (((s.clock d).acc / 2 ^ 32 + frac : Nat) + err : Int).toNat

/-- An error given as 0 … 52,428 about 26,214, within ±`most`, in 2^-16 ns. -/
def stampErr (most err : Nat) : Int := clampI (-(most : Int)) most ((err : Int) - 26214)

/-- The error of a line timestamp: within ±250 ps, ±400 ps while the die throttles (R231, R239). -/
def State.lineErr (s : State) (d err : Nat) : Int := stampErr (if s.throttling d then 26214 else 16384) err

/-- The other core die. -/
def otherDie (d : Nat) : Nat := 3 - d

/-- Whether a die's time unit counts: its island is on and its TPLL is locked (R228). -/
def State.timeRuns (s : State) (d : Nat) : Bool := (s.island (islandId d 0x03) == .on) && s.locked d 0

/-- The primary die. -/
def State.primary (s : State) : Nat := if s.flag TIME_STAT.PRIMARY 2 then 2 else 1

/-- The source (R224). -/
def State.source (s : State) : Nat := s.fld TIME_SRC_CFG.SOURCE s.primary

/-- States of R223. -/
def todUnset : Nat := 0
/-- FREERUN. -/
def todFreerun : Nat := 1
/-- ACQUIRING. -/
def todAcquiring : Nat := 2
/-- LOCKED. -/
def todLocked : Nat := 3
/-- HOLDOVER. -/
def todHoldover : Nat := 4

/-- The state of a die's counter. -/
def State.todState (s : State) (d : Nat) : Nat := s.fld TIME_STAT.STATE d

/-- The error estimate while LOCKED (R255): the RMS of the last 16 offsets, rounded up to whole ns; unknown for HOST. -/
def State.lockedErr (s : State) (d : Nat) : Nat :=
  let os := (s.clock d).offs
  if s.source = 1 ∨ os = [] then 0xFFFF
  else
    let sq := (os.map (fun o => o.natAbs * o.natAbs)).sum
    let n := 65536 * os.length
    let q := (sq + n - 1) / n
    let r := isqrt 32 q
    min 0xFFFE (if r * r < q then r + 1 else r)

/-- ERR_EST of a die (R255). -/
def State.errEst (s : State) (d : Nat) : Nat :=
  match s.todState d with
  | 3 => s.lockedErr d
  | 4 =>
    let c := s.clock d
    if c.err = 0xFFFF then 0xFFFF
    else min 0xFFFE (c.err + (s.now - c.left.getD s.now) / 1000000)
  | _ => 0xFFFF

/-- Whether PPS_OUT pulses (R254): PPS_EN, and the state LOCKED, or HOLDOVER with PPS_HOLD. -/
def State.ppsAllowed (s : State) : Bool :=
  s.flag TIME_PPS_CFG.PPS_EN 1 &&
    (s.todState 1 == todLocked || (s.todState 1 == todHoldover && s.flag TIME_PPS_CFG.PPS_HOLD 1))

/-- PPS_OUT is low while it may not pulse. -/
def State.refreshPps (s : State) : State := if s.ppsAllowed then s else { s with time := { s.time with ppsHigh := false } }

/-- Change the state of one die's counter: cause, event, TOD_VALID and HOLDOVER (R223, R227, R260). A counter whose TPLL is
unlocked stays UNSET (R228). UNSET and HOLDOVER end a row of offsets (R224), and an UNSET counter is yet to be set (R225). -/
def State.putTod (s : State) (d st : Nat) : State :=
  let old := s.todState d
  if old = st ∨ (st ≠ todUnset ∧ s.timeRuns d = false) then s
  else
    let c := s.clock d
    let s := if old = todLocked then s.setClock d { c with err := s.lockedErr d, left := some s.now } else s
    let s := if st = todUnset ∨ st = todHoldover then s.setClock d { s.clock d with near := 0, far := 0 } else s
    let s := if st = todUnset then s.setClock d { s.clock d with set := false } else s
    let s := (s.put TIME_STAT.STATE st d).raise TIME_CAUSE.STATE d
    let s := s.putFlag TIME_STAT.HOLDOVER (st == todHoldover) d
    let s := s.putFlag TIME_STAT.TOD_VALID (st == todLocked && (s.source == 1 || s.source == 2)) d
    (s.log 0x0A01 (if st = todHoldover ∨ st = todUnset then sevWarn else sevInfo) (d - 1) old st s.source).refreshPps

/-- Change the state of the primary's counter; an aligned follower takes it over (R223). -/
def State.setTod (s : State) (d st : Nat) : State :=
  let s := s.putTod d st
  if d = s.primary ∧ s.fld TIME_STAT.ALIGN (otherDie d) = 2 ∧ s.timeRuns (otherDie d) then s.putTod (otherDie d) st else s

/-- Move a counter by `x`, in 2^-16 ns. -/
def Clock.moved (c : Clock) (x : Int) : Clock := { c with acc := ((c.acc : Int) + x * 2 ^ 32).toNat }

/-- Whether a counter is UNSET and nothing has set it yet. -/
def State.unset (s : State) (d : Nat) : Bool := s.todState d == todUnset && !(s.clock d).set

/-- Step a counter by `x` (R225): the first setting of an UNSET counter is not reported. The rates seen on the die's lanes before
the step no longer count (R248). -/
def State.stepClock (s : State) (d : Nat) (x : Int) : State :=
  let first := s.unset d
  let s := s.setClock d { (s.clock d).moved x with set := true }
  let s := { s with time := { s.time with
    seen := (List.range 8).map (fun k => if dieOfLane k = d then [] else s.time.seen.getD k []) } }
  if first then s
  else
    let ns := satSigned 32 (floorShift x 16)
    ((s.inc .TIME_STEP_CNT d).raise TIME_CAUSE.STEP d).log 0x0A02 sevInfo (d - 1) (unsigned 32 ns)

/-- Apply an offset correction in 2^-16 ns: a step beyond 1 µs, else slewed (R225). -/
def State.correct (s : State) (d : Nat) (x : Int) : State :=
  if 65536000 < x.natAbs then s.stepClock d x
  else s.setClock d { s.clock d with slew := x * 2 ^ 32 }

/-- Limit TIME_FREQ to ±200 ppm (R225). -/
def State.putFreq (s : State) (d : Nat) (f : Int) : State :=
  s.put TIME_FREQ.FREQ (unsigned 32 (clampI (-819200000) 819200000 f)) d

/-- What a servo makes of an offset up to the step threshold, in 2^-16 ns: its loop slews a share of it and sets a rate. The rule
gives the loop's bandwidth and not its gains: both are open (R225, log entry 83). -/
def State.servoSlew (s : State) (d : Nat) (x : Int) : State :=
  let (share, s) := s.free
  let (rate, s) := s.free
  (s.putFreq d (signed 32 rate)).setClock d { s.clock d with slew := x * (share % 65537 : Nat) * 2 ^ 16 }

/-- An offset sample of the PPS_IN or INSOLE servo, in 2^-16 ns (R224–R226). `hold` is how many offsets in a row beyond
±200 ns a step waits for while LOCKED. -/
def State.servo (s : State) (d : Nat) (x : Int) (hold : Nat) : State :=
  let c := s.clock d
  let near := if x.natAbs ≤ 20 * 65536 then c.near + 1 else 0
  let far := if 200 * 65536 < x.natAbs then c.far + 1 else 0
  let s := s.setClock d { c with near := near, far := far, offs := (floorShift x 8 :: c.offs).take 16 }
  let s := s.put TIME_OFFSET.OFFSET (satCode 32 (floorShift x 8)) d
  let st := s.todState d
  let s :=
    if 65536000 < x.natAbs then (if st = todLocked ∧ far < hold then s else s.stepClock d x)
    else s.servoSlew d x
  if st = todLocked then (if 4 ≤ far then s.setTod d todAcquiring else s)
  else if st = todAcquiring then (if 16 ≤ near then s.setTod d todLocked else s)
  else s.setTod d todAcquiring

/-- Whether the island of a die's time unit is on. -/
def State.timeOn (s : State) (d : Nat) : Bool := s.island (islandId d 0x03) == .on

/-- Set a counter to a time that was right `late` 2^-16 ns ago, and whether a step is reported. A unit that is off has no counter to
set (of that the spec states nothing: DESIGN CHOICE, log entry 137). -/
def State.setTime (s : State) (d time late : Nat) : Bool × State :=
  let x := (time : Int) + late - ((s.clock d).acc / 2 ^ 32 : Nat)
  let first := s.unset d
  if s.timeOn d = false then (false, s)
  else if first ∨ 65536000 < x.natAbs then (!first, s.stepClock d x) else (false, s.correct d x)

/-- The state after a TIME_SET or TIME_ADJ under HOST, or a TIME_SET under NONE (R223, R224). -/
def State.hostState (s : State) (d : Nat) (valid set : Bool) : State :=
  let st := s.todState d
  if s.source = 1 ∧ valid then
    let s := s.setClock d { s.clock d with valid := some s.now }
    if st = todUnset ∧ set = false then s else s.setTod d todLocked
  else if st = todUnset ∧ set then s.setTod d todFreerun
  else s

/-! ## PPS_IN (R226) -/

/-- A die's stamp of an edge `frac` after the start of the microsecond: within ±250 ps of its counter (R226). -/
def State.ppsStamp (s : State) (d frac err : Nat) : Nat := s.stampAt d frac (clampI (-16384) 16384 ((err : Int) - 16384))

/-- Record an edge at a die. -/
def State.stampPps (s : State) (d frac err : Nat) : State :=
  if s.timeRuns d then
    (s.setWide .TIME_PPS_IN_TS (BitVec.ofNat 256 (todBits (s.ppsStamp d frac err * 2 ^ 32))) d).setClock d
      { s.clock d with pulse := some s.now }
  else s

/-- Complete the TIME_SETs that waited for the edge, each at the edge's instant. The servo's row of offsets starts anew. -/
def State.takePending (s : State) (d edge : Nat) : State :=
  let ps := s.time.pending
  let s := { s with time := { s.time with pending := [] } }
  let s := s.setClock d { s.clock d with near := 0, far := 0 }
  ps.foldl (fun s p =>
    let late := (s.clock d).acc / 2 ^ 32 - edge
    let (stepped, s) := s.setTime d p.time late
    let s := if s.todState d = todLocked then s else s.setTod d todAcquiring
    s.finish p.waiter ⟨0, b2n stepped, 0⟩) s

/-- PPS_IN_EDGE (R226), `frac` 2^-16 ns into the current microsecond, with the errors of the two dies' stamps. -/
def execPpsInEdge (frac : Fin 65536000) (errA errB : Fin 32769) (s : State) : Outcome State Fault Refusal :=
  .next (
    let d := s.primary
    let ts := s.ppsStamp d frac (if d = 1 then errA.val else errB.val)
    let s := (s.stampPps 1 frac errA).stampPps 2 frac errB
    let label := s.time.label
    let s := { s with time := { s.time with label := none } }
    if s.source ≠ 2 ∨ s.timeRuns d = false then s
    else
      let second := 1000000000 * 65536
      if s.time.pending ≠ [] then s.takePending d ts
      else
        match (if s.flag TIME_SRC_CFG.SECS_RXD d then label else none) with
        | some sec => s.servo d ((sec * second : Nat) - (ts : Int)) 4
        | none =>
          let r := ts % second
          let x : Int := if 2 * r < second then -(r : Int) else ((second - r : Nat) : Int)
          if s.todState d = todUnset then s.put TIME_OFFSET.OFFSET (satCode 32 (floorShift x 8)) d
          else s.servo d x 4)

/-- Whether an instant lies at least `us` microseconds back. -/
def State.since (s : State) (t : Option Nat) (us : Nat) : Bool :=
  match t with
  | some t => decide (us ≤ s.now - t)
  | none => false

/-- A source stops delivering: LOCKED goes to HOLDOVER (R224). -/
def State.sourceLost (s : State) (d : Nat) : State := if s.todState d = todLocked then s.setTod d todHoldover else s

/-- PPS_IN_MISS (R226): no pulse for 1.5 s. -/
def execPpsInMiss (s : State) : Outcome State Fault Refusal :=
  .next (
    let d := s.primary
    if s.source = 2 ∧ s.timeRuns d ∧ s.since (s.clock d).pulse 1500000 then (s.raise TIME_CAUSE.PPS_IN_MISS d).sourceLost d
    else s)

/-- HOST_TIMEOUT in s: 0 acts as 1. -/
def State.hostTimeout (s : State) (d : Nat) : Nat := max 1 (s.fld TIME_SRC_CFG.HOST_TIMEOUT d)

/-- HOST_VALIDITY_TIMEOUT (R224). -/
def execHostValidityTimeout (s : State) : Outcome State Fault Refusal :=
  .next (
    let d := s.primary
    if s.source = 1 ∧ s.since (s.clock d).valid (1000000 * s.hostTimeout d) then s.sourceLost d else s)

/-! ## INSOLE source (R227) -/

/-- Flags byte of the far end's latest TIMING frame. -/
def InsLane.farFlags (y : InsLane) : Nat := y.far.getD 28 0

/-- When a lane's latest exchange completed. -/
def State.xchAt (s : State) (k : Nat) : Option Nat := (s.time.xchs.getD k none).map (fun x => x.at_)

/-- Why an INSOLE source is not usable: 1 link down, 2 far not valid, 3 frequency mismatch, 4 no exchange; 0 usable. -/
def State.insoleBad (s : State) (k : Nat) : Nat :=
  let y := s.insl k
  if s.flag INS_CFG.TTT_EN k = false ∨ s.insLink k ≠ insUp then 1
  else if bitOf y.farFlags 0 = false ∨ bitOf y.farFlags 1 then 2
  else if s.since y.apart 1000000 then 3
  else if s.since (s.xchAt k) 1000000 ∨ s.xchAt k = none then 4
  else 0

/-- Record whether the INSOLE source is usable. -/
def State.setUsable (s : State) (v : Bool) : State := { s with time := { s.time with usable := v } }

/-- INSOLE_SRC_INVALID (R227). -/
def execInsoleSrcInvalid (s : State) : Outcome State Fault Refusal :=
  .next (
    let d := s.primary
    let k := s.fld TIME_SRC_CFG.LANE d
    if s.source = 3 ∧ s.time.usable ∧ s.insoleBad k ≠ 0 then
      let s := (s.setUsable false).raise TIME_CAUSE.SRC_INVALID d
      (s.log 0x0A05 sevWarn k (s.insoleBad k)).sourceLost d
    else s)

/-! ## Two-way time transfer (R248, R249) -/

/-- A signed delay in ps as 2^-16 ns, rounded to nearest. -/
def psTicks (ps : Int) : Int := floorShift (ps * 65536 * 2 + 1000) 1 / 1000

/-- A signed 32-bit delay register in 2^-16 ns. -/
def State.delay (s : State) (f : Fld) (u i : Nat) : Int := psTicks (s.sfld f u i)

/-- Whether a lane's ranging result counts: current or HELD. -/
def State.lanceRanging (s : State) (k : Nat) : Option Ranging :=
  let g := (s.mode.run.lane k).fibre
  if g < 8 ∧ s.mode.run.ranging.getD g false then
    let r := s.time.ranging.getD g {}
    if r.some_ then some r else none
  else none

/-- A of a lane in 2^-16 ns, by R249's priority. -/
def State.asymmetry (s : State) (k : Nat) : Int :=
  match s.lanceRanging k with
  | some r => ((r.dOut.getD k 0 : Int) - r.dIn.getD k 0) * 4096
  | none => psTicks (s.time.asym.getD k 0)

/-- A TIMING frame of a lane starts: its TSEQ and T_DEP are kept for the last 16 (R248). -/
def State.keepSent (s : State) (k tseq dep : Nat) : State :=
  let l := s.time.sent.getD k []
  { s with time := { s.time with sent := s.time.sent.set k (((tseq, dep) :: l).take 16) } }

/-- The far T_DEP and local T_ARR of a lane's last 16 TIMING frames, newest first (R248). -/
def State.keepSeen (s : State) (k : Nat) (far here : Nat) : State :=
  { s with time := { s.time with seen := s.time.seen.set k (((far, here) :: s.time.seen.getD k []).take 16) } }

/-- A far interval in local units, by the rate ratio ρ of the far counter to the local one over the frames seen. The rule gives
the estimator's inputs and the bound of its residual error, 10 ps (R248, R249): the ratio is taken over the whole of the
frames, and the residual is free (log entry 136). -/
def State.turnaround (s : State) (k : Nat) (x : Int) : Int × State :=
  let (e, s) := s.free
  let seen := s.time.seen.getD k []
  let err : Int := (e % 1311 : Nat) - 655
  match seen.head?, seen.getLast? with
  | some a, some b =>
    let far : Int := a.1 - b.1
    let here : Int := a.2 - b.2
    if 0 < far ∧ 0 < here then (x * here / far + err, s) else (x + err, s)
  | _, _ => (x + err, s)

/-- A good far-end TIMING frame (R248): with ARR_VALID set and its echo among the last 16 frames sent, an exchange
completes; under the INSOLE source its θ feeds the servo unless its SIGMA is 255. -/
def State.exchange (s : State) (k arrival : Nat) (payload : List Nat) : State :=
  let d := dieOfLane k
  let flags := payload.getD 28 0
  let s := if s.timeRuns d then s.keepSeen k (todTicks (leNat (payload.take 12))) (todTicks arrival) else s
  let echo := payload.getD 26 0 + 256 * payload.getD 27 0
  match (s.time.sent.getD k []).find? (fun x => x.1 == echo) with
  | none => s
  | some (_, dep) =>
    if bitOf flags 3 = false ∨ s.timeRuns d = false then s
    else
      let t1 : Int := todTicks dep
      let t3 : Int := todTicks (leNat (payload.take 12))
      let t4 : Int := todTicks arrival
      let t2 : Int := todTicks (leNat ((payload.drop 12).take 12))
      let (turn, s) := s.turnaround k (t3 - t2)
      let i := k % 4
      let rtt := t4 - t1 - turn - s.delay TIME_LANE_TXDLY.DLY d i - s.delay TIME_LANE_RXDLY.DLY d i -
        s.delay TIME_FAR_TXDLY.DLY d i - s.delay TIME_FAR_RXDLY.DLY d i
      let dIn := floorShift (rtt - s.asymmetry k) 1
      let theta := t3 + s.delay TIME_FAR_TXDLY.DLY d i + dIn + s.delay TIME_LANE_RXDLY.DLY d i - t4
      let s := { s with time := { s.time with xchs := s.time.xchs.set k (some ⟨s.now, rtt, theta⟩) } }
      if s.source ≠ 3 ∨ s.fld TIME_SRC_CFG.LANE s.primary ≠ k then s
      else
        if s.insoleBad k ≠ 0 then s
        else
          let s := s.setUsable true
          if payload.getD 30 0 = 255 then s else s.servo d theta 0

/-! ## Alignment of the dies (R229, R230) -/

/-- The follower die, if its time unit is on. -/
def State.follower (s : State) : Option Nat :=
  let f := otherDie s.primary
  if s.timeOn f then some f else none

/-- Put an alignment message on the core welt: its header flit leaves `frac` after the start of the microsecond. -/
def State.sendAlign (s : State) (d frac : Nat) : State :=
  let s := { s with time := { s.time with flight := s.time.flight ++ [(d, s.stampAt d frac 0)] } }
  s.perf (islandId d 0x03) 0x05 { cls := some 2 }

/-- The state of a welt link: 2 is UP (R22). -/
def State.coreWeltUp (s : State) : Bool := s.fld WELT_STAT.STATE 1 1 == 2

/-- TIME_ALIGN_SEND (R229): every 1 ms. -/
def execTimeAlignSend (s : State) : Outcome State Fault Refusal :=
  .next (if s.timeRuns s.primary ∧ s.follower.any (fun f => s.timeRuns f) ∧ s.fld WELT_STAT.STATE 1 1 ≠ 4 ∧
      1000 ≤ s.now - s.time.alignSent then
    { s with time := { s.time with alignSent := s.now } }.sendAlign s.primary 0
  else s)

/-- An exchange has completed: the follower's offset from the four times, in 2^-16 ns (R229). How 16 offsets are filtered
into a correction is open. -/
def State.aligned (s : State) (f : Nat) (t1 t2 t3 t4 : Int) : State :=
  let x := floorShift ((t1 - t2) + (t4 - t3)) 1
  let ps := roundShift (x * 1000) 16
  let s := s.put TIME_ALIGN_OFS.OFS (satCode 16 ps) f
  let c := s.clock f
  let good := if ps.natAbs ≤ 100 then c.good + 1 else 0
  let s := s.setClock f { c with good := good, alignAt := s.now }
  let s := if s.fld TIME_STAT.ALIGN f = 3 then (s.put TIME_STAT.ALIGN 1 f).setClock f { s.clock f with good := 0 } else s
  let s :=
    if 65536000 < x.natAbs then s.stepClock f x
    else
      let (y, s) := s.free
      let s := s.put TIME_FREQ.FREQ (s.fld TIME_FREQ.FREQ s.primary) f
      s.setClock f { s.clock f with slew := clampI (-(2 ^ 64)) (2 ^ 64) (signed 65 y) }
  let s :=
    if s.fld TIME_STAT.ALIGN f = 1 ∧ 16 ≤ good then (s.put TIME_STAT.ALIGN 2 f).log 0x0A04 sevInfo (f - 1) else s
  if s.fld TIME_STAT.ALIGN f = 2 then s.putTod f (s.todState s.primary) else s

/-- TIME_ALIGN_MSG (R229): the oldest message arrives, `frac` 2^-16 ns into the current microsecond, and its receiver stamps it.
The follower answers the primary's at once; the answer's stamp completes the exchange. -/
def execTimeAlignMsg (frac : Fin 65536000) (s : State) : Outcome State Fault Refusal :=
  .next (match s.time.flight, s.follower with
  | (d, sent) :: rest, some f =>
    if s.coreWeltUp = false ∨ s.timeRuns f = false ∨ s.timeRuns s.primary = false then s
    else
      let s := { s with time := { s.time with flight := rest } }
      if d = s.primary then
        let s := s.perf (islandId f 0x03) 0x06 { cls := some 2 }
        (s.setClock f { s.clock f with t1 := sent, t2 := s.stampAt f frac 0 }).sendAlign f frac
      else
        let s := s.perf (islandId s.primary 0x03) 0x06 { cls := some 2 }
        let c := s.clock f
        s.aligned f c.t1 c.t2 sent (s.stampAt s.primary frac 0)
  | _, _ => s)

/-- The follower's alignment is lost (R230): 1 no exchange, 2 core welt FAILED. -/
def State.alignLost (s : State) (reason : Nat) : State :=
  match s.follower with
  | none => s
  | some f =>
    if s.fld TIME_STAT.ALIGN f = 3 then s
    else
      let s := (s.put TIME_STAT.ALIGN 3 f).raise TIME_CAUSE.ALIGN_LOST f
      let s := (s.inc .TIME_ALIGN_LOSS_CNT f).log 0x0A03 sevWarn (f - 1) reason
      let s := { s with time := { s.time with flight := [] } }
      let s := s.setClock f { s.clock f with slew := 0, good := 0 }
      if s.todState s.primary = todLocked then s.putTod f todHoldover else s

/-- TIME_ALIGN_TIMEOUT (R230): no exchange for 10 ms. -/
def execTimeAlignTimeout (s : State) : Outcome State Fault Refusal :=
  .next (match s.follower with
  | some f => if 10000 ≤ s.now - (s.clock f).alignAt then s.alignLost 1 else s
  | none => s)

/-! ## TPLL (R228) and the unit's island -/

/-- A die's TPLL loses lock. -/
def State.tpllLost (s : State) (d : Nat) : State :=
  let s := (s.putFlag TIME_STAT.TPLL_OK false d).raise TIME_CAUSE.TPLL d
  let s := s.setClock d { s.clock d with resOff := true, slew := 0 }
  let s := (List.range' (4 * (d - 1)) 4).foldl (fun s k => s.setInsl k { s.insl k with arr := false }) s
  s.setTod d todUnset

/-- A die's TPLL locks. -/
def State.tpllLocked (s : State) (d : Nat) : State :=
  (s.putFlag TIME_STAT.TPLL_OK true d).setClock d { s.clock d with relockAt := s.now }

/-- TIME_RES_RESUME (R228): 1 ms after relock. -/
def execTimeResResume (die : Fin 2) (s : State) : Outcome State Fault Refusal :=
  .next (
    let d := die.val + 1
    let c := s.clock d
    if c.resOff ∧ s.locked d 0 ∧ c.relockAt + 1000 ≤ s.now then s.setClock d { c with resOff := false } else s)

/-- Whether a die's time unit is needed: a port with FRAME_VIEW, a lane with TTT_EN or in a ranging group, a source of
which the die is the primary, or CORE-A's outputs. -/
def State.timeNeeded (s : State) (d : Nat) : Bool :=
  let m := s.mode.run
  let lane (k : Nat) : Bool :=
    (m.portOfLine k).isSome && ((m.lane k).ttt || (decide ((m.lane k).fibre < 8) && m.ranging.getD (m.lane k).fibre false))
  m.portList.any (fun p => dieOfPort p == d && (m.port p).frameView) || (List.range' (4 * (d - 1)) 4).any lane ||
    (s.primary == d && s.source != 0) ||
    (d == 1 && (s.flag TIME_PPS_CFG.PPS_EN 1 || s.flag TIME_TODSER_CFG.TX_EN 1 || s.flag TIME_TODSER_CFG.RX_EN 1))

/-- Bring the island of a die's time unit up to date: it is on in READY and ACTIVE (R397) where it is needed. A unit that comes on
is told its source and takes its place as primary or follower, ALIGNING (R224, R229); one that goes off loses what it holds. -/
def State.refreshTimeIsland (s : State) (d : Nat) : State :=
  let id := islandId d 0x03
  let on := s.timeNeeded d && (s.fld PWR_STATE.STATE == 3 || s.fld PWR_STATE.STATE == 4)
  let q := s.primary
  if on ∧ s.island id ≠ .on then
    let s := (s.turnIsland id .on).putFlag TIME_STAT.TPLL_OK (s.locked d 0) d
    let s := ((s.putFlag TIME_SRC_CFG.PRIMARY (d == q) d).putFlag TIME_STAT.PRIMARY (d == q) d).put TIME_STAT.ALIGN (if d = q then 0 else 1) d
    let s := if d = q then s else
      let s := (s.put TIME_SRC_CFG.SOURCE (s.fld TIME_SRC_CFG.SOURCE q) d).put TIME_SRC_CFG.LANE (s.fld TIME_SRC_CFG.LANE q) d
      let s := (s.put TIME_SRC_CFG.SECS_RXD (s.fld TIME_SRC_CFG.SECS_RXD q) d).put TIME_SRC_CFG.HOST_TIMEOUT
        (s.fld TIME_SRC_CFG.HOST_TIMEOUT q) d
      (s.put TIME_STAT.SOURCE (s.fld TIME_STAT.SOURCE q) d).put TIME_STAT.SRC_LANE (s.fld TIME_STAT.SRC_LANE q) d
    s.setClock d { s.clock d with alignAt := s.now }
  else if on = false ∧ s.island id = .on then
    let s := ((s.turnIsland id .powerOff).loseBuried id).setClock d {}
    let s := s.wipe layout_timedie d
    let ps := List.range' (4 * (d - 1)) 4
    let s := (ps.foldl (fun s p => s.wipe layout_timeport p) s).refreshPps
    { s with time := { s.time with
        ctxs := s.time.ctxs.set (d - 1) [],
        tsq := (List.range 8).map (fun p => if ps.contains p then [] else s.time.tsq.getD p []) } }
  else s

/-! ## Residence (R237–R240) -/

/-- 1 + FREQ applied to an interval while the counter is LOCKED or in HOLDOVER (R237). -/
def State.scaled (s : State) (d : Nat) (x : Int) : Int :=
  if s.todState d = todLocked ∨ s.todState d = todHoldover then
    x + x * s.sfld TIME_FREQ.FREQ d / (4096 * 1000000000)
  else x

/-- The residence of a message in 2^-16 ns (R237, R238): the raw interval, the fixed terms of the host side, of a crossing
port, and the maker's constants. -/
def State.residence (s : State) (p : Nat) (fromHost : Bool) (x : PtpPass) : Int :=
  let d := dieOfPort p
  let cross := if s.mode.run.crossing p then 12 * 65536 else 0
  let h := s.delay TIME_PORT_HDLY.HDLY p 0
  let i := (p + x.lane.val) % 4
  let raw : Int := x.raw.toNat
  s.scaled d (if fromHost then raw + 22 * 65536 + cross + h + s.delay TIME_LANE_TXDLY.DLY d i
    else raw + 25 * 65536 + cross + h + s.delay TIME_LANE_RXDLY.DLY d i)

/-- The fixed terms of a direction in ps, by the port's mode and detector (R162). A frame is corrected in frame view alone, which
terminates. -/
def State.fixedTerms (s : State) (p : Nat) (fromHost : Bool) (k : Nat) : Nat :=
  let inner := (s.mode.run.port p).inner
  let base := if fromHost then (if inner then 158514 else 154819) else if inner then 189463 else 148035
  let sd := if !fromHost && s.flag LRX_CFG.SD_EFF k then (if inner then 1693 else 1807) else 0
  base + sd + 72000 + (if s.mode.run.crossing p then 12000 else 0)

/-- The residence that the time unit predicts, in 2^-16 ns (R240): the fixed terms, the hold of the message's PCS lane and the
rate adaptation's fill as the FEC/PCS reports them (R155), the wait in the shank pool during a transmit restart, and the maker's
constants, stated at the measured one's rate. That the wait is part of it is read from R238 and R161 (DEDUCED, log entry 138). -/
def State.predictedRes (s : State) (p : Nat) (fromHost : Bool) (x : PtpPass) : Int :=
  let d := dieOfPort p
  let f := s.fecDir p fromHost
  let i := (p + x.lane.val) % 4
  let maker := s.delay TIME_PORT_HDLY.HDLY p 0 + (if fromHost then s.delay TIME_LANE_TXDLY.DLY d i else s.delay TIME_LANE_RXDLY.DLY d i)
  s.scaled d (psTicks (s.fixedTerms p fromHost (p + x.lane.val)) + ((f.holds.getD x.pcs.val 0 + f.fill) * 4096 + x.wait.toNat : Nat) + maker)

/-- Whether residences are trusted: TPLL locked and correction resumed (R228, R243). -/
def State.resTrusted (s : State) (d : Nat) : Bool := s.timeRuns d && !(s.clock d).resOff

/-- A port releases a frame. -/
def State.release (s : State) (p : Nat) (fromHost : Bool) (f : List Nat) (ok : Bool) : State :=
  { s with time := { s.time with out := insertAt natLt (2 * p + b2n (!fromHost)) ⟨f, ok⟩ s.time.out } }

/-- An uncorrectable message (R243): discarded by a complemented FCS, or passed. -/
def State.uncorrectable (s : State) (p : Nat) (fromHost : Bool) (f : List Nat) (ok : Bool) : State :=
  if s.flag TIME_PORT_CTL.POLICY p then s.release p fromHost f ok
  else
    let s := (s.inc .TIME_DISCARD_CNT p).raise TIME_CAUSE.DISCARD (dieOfPort p)
    let s := s.logRate p 0x0A08 sevWarn p ((s.cnt .TIME_DISCARD_CNT p).toNat % 2 ^ 32)
    s.release p fromHost f false

/-- Record the latest residence of a direction, uQ16.16 ns, saturated. -/
def State.putLastRes (s : State) (p : Nat) (fromHost : Bool) (res : Int) : State :=
  let v := BitVec.ofNat 32 (satN 32 res.toNat)
  s.setReg (if fromHost then .TIME_RES_LAST_HL else .TIME_RES_LAST_LH) v p

/-- Add a residence to a message and release its frame (R241, R242). -/
def State.correctFrame (s : State) (p : Nat) (fromHost : Bool) (f : List Nat) (ok : Bool) (h : PtpAt) (res : Int) : State :=
  let (g, sat) := ptpAdd f h res
  let s := s.inc .TIME_CORR_CNT p
  let s := if sat then (s.inc .TIME_CF_SAT_CNT p).raise TIME_CAUSE.CF_SAT (dieOfPort p) else s
  s.release p fromHost g ok

/-- The residence of an event message, if it can be trusted (R240, R243). -/
def State.checkedRes (s : State) (p : Nat) (fromHost : Bool) (x : PtpPass) : Option Int × State :=
  let d := dieOfPort p
  if s.resTrusted d = false then (none, s)
  else
    let res := s.residence p fromHost x
    let want := s.predictedRes p fromHost x
    let s := s.putLastRes p fromHost res
    if 131072 < (res - want).natAbs then
      let s := (s.inc .TIME_RES_CHECK_CNT p).raise TIME_CAUSE.RES_CHECK d
      (none, s.logRate p 0x0A06 sevWarn p (satN 32 res.toNat) (satN 32 want.toNat))
    else (some res, s)

/-! ## Timestamp queue (R233) -/

/-- An event message enters its port's queue. -/
def State.queueStamp (s : State) (p : Nat) (fromHost : Bool) (f : List Nat) (h : PtpAt) (x : PtpPass) : State :=
  if s.flag TIME_PORT_CTL.TSQ_EN p = false then s
  else
    let d := dieOfPort p
    let q := s.time.tsq.getD p []
    if 128 ≤ q.length then (s.bump TIME_TSQ_STAT.LOST p).raise TIME_CAUSE.TSQ_FULL d
    else
      let i := (p + x.lane.val) % 4
      let t : Int := s.stampAt d x.frac (s.lineErr d x.err)
      let c := if fromHost then t + s.delay TIME_LANE_TXDLY.DLY d i else t - s.delay TIME_LANE_RXDLY.DLY d i
      let reduced := s.throttling d || s.todState d != todLocked
      let w3 := ptpType f h + 16 * b2n (!fromHost) + 32 + 64 * b2n reduced + 256 * ptpDomain f h + 65536 * ptpSeq f h
      let e : Wide := BitVec.ofNat 256 (todBits (c.toNat * 2 ^ 32) + w3 * 2 ^ 96)
      let s := { s with time := { s.time with tsq := s.time.tsq.set p (q ++ [e]) } }
      s.put TIME_TSQ_STAT.COUNT (q.length + 1) p

/-! ## Contexts (R244–R247) -/

/-- The contexts of a die. -/
def State.ctxsOf (s : State) (d : Nat) : List Ctx := s.time.ctxs.getD (d - 1) []

/-- The contexts that a port holds. -/
def State.ctxCount (s : State) (p : Nat) : Nat := ((s.ctxsOf (dieOfPort p)).filter (fun c => c.port == p)).length

/-- Replace the contexts of a die, with the registers that count them. -/
def State.setCtxs (s : State) (d : Nat) (cs : List Ctx) : State :=
  let s := { s with time := { s.time with ctxs := s.time.ctxs.set (d - 1) cs } }
  let s := (s.put TIME_CTX_STAT.IN_USE cs.length d).put TIME_CTX_STAT.HIGH_WATER
    (max cs.length (s.fld TIME_CTX_STAT.HIGH_WATER d)) d
  (List.range' (4 * (d - 1)) 4).foldl (fun s p =>
    let n := s.ctxCount p
    let s := s.put TIME_PORT_STAT.CONTEXTS n p
    if n = 0 then s.putFlag TIME_PORT_STAT.DRAIN false p else s) s

/-- The same key (R244). -/
def Ctx.same (a b : Ctx) : Bool :=
  a.port == b.port && a.fromHost == b.fromHost && a.delayResp == b.delayResp && a.domain == b.domain &&
    a.seq == b.seq && a.ident == b.ident

/-- Free every context of a port. -/
def State.freeCtxs (s : State) (p : Nat) : State :=
  s.setCtxs (dieOfPort p) ((s.ctxsOf (dieOfPort p)).filter (fun c => c.port != p))

/-- The port of a die that loses a context when the pool is full: the largest holder, the lowest number among equals. -/
def State.evictPort (s : State) (d : Nat) : Nat :=
  (List.range' (4 * (d - 1)) 4).foldl (fun b p => if s.ctxCount b < s.ctxCount p then p else b) (4 * (d - 1))

/-- Remove the first context that satisfies `f`. -/
def dropFirst (f : Ctx → Bool) : List Ctx → List Ctx
  | [] => []
  | c :: cs => if f c then cs else c :: dropFirst f cs

/-- Evict one context of a full pool (R246). -/
def State.evict (s : State) (d : Nat) : State :=
  if (s.ctxsOf d).length < 2048 then s
  else
    let p := s.evictPort d
    let s := s.setCtxs d (dropFirst (fun c => c.port == p) (s.ctxsOf d))
    let s := (s.inc .TIME_CTX_EVICT_CNT p).raise TIME_CAUSE.CTX_EVICT d
    s.logRate p 0x0A07 sevWarn p ((s.cnt .TIME_CTX_EVICT_CNT p).toNat % 2 ^ 32)

/-- Allocate a context (R244): an equal key is replaced and counted as expired. -/
def State.allocCtx (s : State) (c : Ctx) : State :=
  let d := dieOfPort c.port
  let s :=
    if (s.ctxsOf d).any (fun x => x.same c) then
      (s.setCtxs d ((s.ctxsOf d).filter (fun x => !(x.same c)))).inc .TIME_CTX_EXPIRE_CNT c.port
    else s.evict d
  (s.setCtxs d (s.ctxsOf d ++ [c])).inc .TIME_CTX_ALLOC_CNT c.port

/-- TTL_FU of a port in µs. -/
def State.ttlFu (s : State) (p : Nat) : Nat := 1000 * max 1 (s.fld TIME_PORT_CTL.TTL_FU p)

/-- TTL_DR of a port in µs. -/
def State.ttlDr (s : State) (p : Nat) : Nat := 4000 * max 1 (s.fld TIME_PORT_CTL.TTL_DR p)

/-- CTX_EXPIRE (R246): the contexts of a port that have lived out their time. -/
def execCtxExpire (p : Fin 8) (s : State) : Outcome State Fault Refusal :=
  .next (
    let d := dieOfPort p
    let due (c : Ctx) : Bool :=
      c.port == p.val && decide (c.born + (if c.delayResp then s.ttlDr p else s.ttlFu p) ≤ s.now)
    let n := ((s.ctxsOf d).filter due).length
    if n = 0 then s
    else (s.setCtxs d ((s.ctxsOf d).filter (fun c => !(due c)))).inc .TIME_CTX_EXPIRE_CNT p 0 n)

/-! ## Messages (R236, R241–R245) -/

/-- Whether MSG_MASK selects an event message type, or the event type that a general message belongs to. -/
def State.msgSelected (s : State) (p ty : Nat) : Bool :=
  bitOf (s.fld TIME_PORT_CTL.MSG_MASK p) (match ty with | 8 => 0 | 9 => 1 | t => t)

/-- The frame's bytes as numbers. -/
def passBytes (x : PtpPass) : List Nat := x.frame.map (fun b => b.toNat)

/-- What a port does with an event message it corrects or holds (R236). -/
def State.eventMessage (s : State) (p : Nat) (fromHost : Bool) (f : List Nat) (h : PtpAt) (x : PtpPass) : State :=
  let mode := s.fld TIME_PORT_CFG.TIME_MODE p
  let ty := ptpType f h
  let s := s.queueStamp p fromHost f h x
  if mode = 0 then s.release p fromHost f x.fcsOk
  else
    match s.checkedRes p fromHost x with
    | (none, s) => s.uncorrectable p fromHost f x.fcsOk
    | (some res, s) =>
      if mode = 2 ∧ (ty = 1 ∨ (ty = 0 ∧ ptpTwoStep f h)) then
        let c : Ctx := ⟨p, if ty = 0 then fromHost else !fromHost, ty == 1, ptpDomain f h, ptpSeq f h, ptpSource f h, res, s.now⟩
        (s.allocCtx c).release p fromHost f x.fcsOk
      else s.correctFrame p fromHost f x.fcsOk h res

/-- PTP_EVENT_MESSAGE (R233, R236): a frame of a port in frame view; one that carries no selected event message passes
unchanged. -/
def execPtpEventMessage (p : Fin 8) (fromHost : Bool) (x : PtpPass) (s : State) : Outcome State Fault Refusal :=
  .next (if s.flag TIME_PORT_CFG.FRAME_VIEW p then
    let f := passBytes x
    match ptpOf f with
    | some h =>
      if ptpType f h ≤ 3 ∧ s.msgSelected p (ptpType f h) then s.eventMessage p fromHost f h x
      else s.release p fromHost f x.fcsOk
    | none => s.release p fromHost f x.fcsOk
  else s)

/-- Whether an orphan falls into the grace period after the port entered TWO_STEP (R245). -/
def State.orphanGrace (s : State) (p ty : Nat) : Bool :=
  match s.time.twoAt.getD p none with
  | some t => decide (s.now < t + (if ty = 8 then s.ttlFu p else s.ttlDr p))
  | none => false

/-- A Follow_Up or Delay_Resp (R245, R247). A context that reads uncorrectable makes the message uncorrectable (R365), and so does
a TPLL that is unlocked or has just relocked (R228, R243): the context is freed by its message all the same (DEDUCED, log
entry 139). -/
def State.generalMessage (s : State) (p : Nat) (fromHost : Bool) (f : List Nat) (h : PtpAt) (x : PtpPass) : State :=
  let d := dieOfPort p
  let ty := ptpType f h
  let key : Ctx := ⟨p, fromHost, ty == 9, ptpDomain f h, ptpSeq f h, if ty = 9 then ptpRequester f h else ptpSource f h, 0, 0⟩
  match (s.ctxsOf d).find? (fun c => c.same key) with
  | some c =>
    let s := s.setCtxs d ((s.ctxsOf d).filter (fun y => !(y.same key)))
    if x.bad then
      let (w, s) := s.free
      (s.countUncorrectable (buriedLoc d 5 0x03 w) 15 kindRead false).uncorrectable p fromHost f x.fcsOk
    else if s.resTrusted d = false then s.uncorrectable p fromHost f x.fcsOk
    else s.correctFrame p fromHost f x.fcsOk h c.res
  | none =>
    if s.fld TIME_PORT_CFG.TIME_MODE p ≠ 2 ∨ s.orphanGrace p ty then s.release p fromHost f x.fcsOk
    else ((s.inc .TIME_ORPHAN_CNT p).raise TIME_CAUSE.ORPHAN d).uncorrectable p fromHost f x.fcsOk

/-- PTP_GENERAL_MESSAGE (R245). -/
def execPtpGeneralMessage (p : Fin 8) (fromHost : Bool) (x : PtpPass) (s : State) : Outcome State Fault Refusal :=
  .next (if s.flag TIME_PORT_CFG.FRAME_VIEW p then
    let f := passBytes x
    match ptpOf f with
    | some h =>
      if (ptpType f h = 8 ∨ ptpType f h = 9) ∧ s.msgSelected p (ptpType f h) then s.generalMessage p fromHost f h x
      else s.release p fromHost f x.fcsOk
    | none => s.release p fromHost f x.fcsOk
  else s)

/-! ## Dispersion ranging (R250–R252) -/

/-- A fibre group's ranging. -/
def State.rangingOf (s : State) (g : Nat) : Ranging := s.time.ranging.getD g {}

/-- Change a fibre group's ranging. -/
def State.setRanging (s : State) (g : Nat) (v : Ranging) : State :=
  { s with time := { s.time with ranging := s.time.ranging.set g v } }

/-- The used member lanes of a fibre group. -/
def State.members (s : State) (g : Nat) : List Nat :=
  (List.range 8).filter (fun k => s.lineUsed k && (s.mode.run.lane k).fibre == g)

/-- The model of a direction of a fibre group (0 outgoing, 1 incoming). -/
def State.fibreModel (s : State) (g dir : Nat) : FibreModel := lookup {} (2 * g + dir) s.time.models

/-- τ(λ) of a model in 10^-9 ns/km (R250). -/
def FibreModel.tau (m : FibreModel) (l : Nat) : Int :=
  let l2 : Int := l * l
  let z4 : Int := m.zero * m.zero * m.zero * m.zero
  let r2 : Int := m.ref * m.ref
  let num := l2 * l2 * r2 + z4 * r2 - r2 * r2 * l2 - z4 * l2
  (m.group * 3335641 : Int) / 10 + m.slope * num / (l2 * r2) / 80000

/-- τ of the members of a group that have a wavelength, by lane: `dir` 1 incoming, 0 outgoing. -/
def State.taus (s : State) (g dir : Nat) : List (Nat × Int) :=
  (s.members g).filterMap (fun k => (s.time.wl.getD k none).map (fun w => (k, (s.fibreModel g dir).tau (if dir = 1 then w.2 else w.1))))

/-- The sums of a die's part of a fit with a constant of its own: of the deviations' products with the values, and of their
squares. -/
def fitSums (ts : List (Nat × Int)) (value : Nat → Int) : Int × Int :=
  let n : Int := ts.length
  let mean := (ts.map (fun t => t.2)).sum / n
  let level := (ts.map (fun t => value t.1)).sum / n
  ((ts.map (fun t => (t.2 - mean) * (value t.1 - level))).sum, (ts.map (fun t => (t.2 - mean) * (t.2 - mean))).sum)

/-- The fibre length in mm that fits values in 2^-16 ns to constant + L × τ, τ in 10^-9 ns/km, with one constant for each die
(R251 steps 2, 3). The fit is one of least squares (DESIGN CHOICE, log entry 135). -/
def fitLength (ts : List (Nat × Int)) (value : Nat → Int) : Nat :=
  let part (d : Nat) := fitSums (ts.filter (fun t => dieOfLane t.1 == d)) value
  (((part 1).1 + (part 2).1) * 10 ^ 15 / (65536 * ((part 1).2 + (part 2).2))).toNat

/-- The delay of `mm` of fibre at τ, in 2^-16 ns. -/
def fibreTicks (tau : Int) (mm : Nat) : Int := tau * mm * 65536 / 10 ^ 15

/-- The fitted lengths of a group's incoming and outgoing fibres in mm (R251 steps 2 and 3). -/
def State.rangeLengths (s : State) (g : Nat) (fit : RangeFit) : Nat × Nat :=
  let tin := s.taus g 1
  let lin := fitLength tin (fun k => fit.arrive.getD k 0)
  let tauIn (k : Nat) : Int := ((tin.find? (fun t => t.1 == k)).map (fun t => t.2)).getD 0
  (lin, fitLength (s.taus g 0) (fun k => (fit.rtt.getD k 0 : Int) - fibreTicks (tauIn k) lin))

/-- d_in of a lane in 2^-16 ns (R251 step 4). -/
def State.delayIn (s : State) (g k : Nat) (fit : RangeFit) : Int :=
  match s.time.wl.getD k none with
  | none => 0
  | some (out, inc) =>
    let len := s.rangeLengths g fit
    let ti := (s.fibreModel g 1).tau inc * len.1
    let to_ := (s.fibreModel g 0).tau out * len.2
    (fit.rtt.getD k 0 : Int) * ti / (ti + to_)

/-- G of R253 in 10^-9 ns/km: the spread of the model's group delay across the members with a wavelength, about the mean of each
die. The rule names one λ per lane: it is taken as the incoming one (DESIGN CHOICE, log entry 135). -/
def State.spreadG (s : State) (g : Nat) : Nat :=
  let part (d : Nat) : Int := (fitSums ((s.taus g 1).filter (fun t => dieOfLane t.1 == d)) (fun _ => 0)).2
  isqrt 64 (part 1 + part 2).toNat

/-- A change of a group's members, wavelengths or model clears its results and restarts its window (R252, R62). -/
def State.rangeClear (s : State) (g : Nat) : State :=
  if 8 ≤ g then s
  else
    let r := s.rangingOf g
    let s := if r.some_ then s.log 0x0A0A sevWarn g 3 else s
    s.setRanging g {}

/-- Why a group's result is HELD: 1 members, 2 throttling, 4 die alignment lost; 0 it is not. -/
def State.heldWhy (s : State) (g : Nat) : Nat :=
  let ms := s.members g
  let live := ms.filter (fun k => s.insLink k == insUp && (s.xchAt k).any (fun t => decide (s.now - t ≤ 16000000)))
  let spans := ms.any (fun k => dieOfLane k == 1) && ms.any (fun k => dieOfLane k == 2)
  if live.length < 3 then 1
  else if ms.any (fun k => s.throttling (dieOfLane k)) then 2
  else if spans && s.fld TIME_STAT.ALIGN (otherDie s.primary) == 3 then 4
  else 0

/-- RANGE_UPDATE (R252), with what Aqique has fitted. -/
def execRangeUpdate (g : Fin 8) (fit : RangeFit) (s : State) : Outcome State Fault Refusal :=
  .next (if s.mode.run.ranging.getD g false then
    let r := s.rangingOf g
    let up := (s.members g).filter (fun k => s.insLink k == insUp)
    let r := if r.window = none ∧ 3 ≤ up.length then { r with window := some s.now } else r
    let why := s.heldWhy g
    if why ≠ 0 then
      let s := if r.some_ ∧ r.held = false then s.log 0x0A0A sevWarn g why else s
      s.setRanging g { r with held := r.some_ }
    else
      let dIn := (List.range 8).map (fun k => (floorShift (s.delayIn g k fit) 12).toNat)
      let dOut := (List.range 8).map (fun k => (floorShift ((fit.rtt.getD k 0 : Int) - s.delayIn g k fit) 12).toNat)
      let coarse := match r.window with | some t => decide (s.now - t < 600000000) | none => true
      let s := s.setRanging g { r with
        lengthIn := (s.rangeLengths g fit).1, lengthOut := (s.rangeLengths g fit).2, dIn := dIn, dOut := dOut, held := false, coarse := coarse,
        spread := s.spreadG g / 1000000, sigma := fit.sigma.toNat,
        track := fit.track.map (fun t => t.toNat), some_ := true, at_ := s.now }
      match s.members g with
      | [] => s
      | k :: _ => s.log 0x0A09 sevInfo g k (dOut.getD k 0) (unsigned 32 ((dOut.getD k 0 : Int) - dIn.getD k 0))
  else s)

/-! ## Pulse and serial outputs (R254–R256) -/

/-- The time of CORE-A's counter in ns, less TIME_PPS_OFS. -/
def State.ppsTime (s : State) : Int := (((s.clock 1).acc / nsUnit : Nat) * 1000 - s.sfld TIME_PPS_OFS.OFS 1) / 1000

/-- The time since PPS_OUT's latest whole second, in ns. -/
def State.ppsPhase (s : State) : Nat := (s.ppsTime % 1000000000).toNat

/-- That second. -/
def State.ppsSecond (s : State) : Nat := (s.ppsTime / 1000000000).toNat

/-- PPS_OUT_RISE (R254): in the microsecond of the shifted whole second, which lasts up to 1,000.3 ns of the counter. -/
def execPpsOutRise (s : State) : Outcome State Fault Refusal :=
  .next (
    if s.timeRuns 1 ∧ s.ppsAllowed ∧ s.ppsPhase < 1001 ∧
        (s.time.ppsRise = none ∨ s.since s.time.ppsRise 500000) then
      { s with time := { s.time with ppsHigh := true, ppsRise := some s.now } }
    else s)

/-- WIDTH in ms: values beyond 1–500 act as the nearest limit. -/
def State.ppsWidth (s : State) : Nat := clampN 1 500 (s.fld TIME_PPS_CFG.WIDTH 1)

/-- PPS_OUT_FALL (R254). -/
def execPpsOutFall (s : State) : Outcome State Fault Refusal :=
  .next (if s.time.ppsHigh ∧ s.since s.time.ppsRise (1000 * s.ppsWidth) then
    { s with time := { s.time with ppsHigh := false } }
  else s)

/-- The bytes of a TIME message (R255). -/
def State.timeMessage (s : State) : List Nat :=
  let sec := s.ppsSecond
  let sent := match s.time.ppsRise with | some t => decide (s.now - t < 500000) | none => false
  let flags := b2n (s.flag TIME_STAT.TOD_VALID 1) + 2 * b2n (s.flag TIME_STAT.HOLDOVER 1) + 4 * b2n (s.throttling 1) +
    8 * b2n (s.fld TIME_STAT.ALIGN (otherDie s.primary) == 3) + 16 * b2n sent + 32 * b2n (s.flag TIME_UTC.LEAP_PENDING 1)
  let err := s.errEst 1
  let utc := s.fld TIME_UTC.UTC_OFFSET 1
  let lane := if s.source = 3 then s.fld TIME_SRC_CFG.LANE s.primary else 0xFF
  let body := [0x01, 18] ++ (List.range 6).map (fun i => byteOf sec i) ++
    [s.todState 1, flags, utc % 256, utc / 256, err % 256, err / 256, s.source, lane, s.time.mseq % 256, s.time.mseq / 256, 0, 0]
  let c := crc16 body
  [0x7E, 0xA1] ++ body ++ [c % 256, c / 256]

/-- TOD_TIME_MESSAGE (R255): 10 ms after PPS_OUT's second, once in each. -/
def execTodTimeMessage (s : State) : Outcome State Fault Refusal :=
  .next (if s.timeRuns 1 ∧ s.flag TIME_TODSER_CFG.TX_EN 1 ∧ 10000000 ≤ s.ppsPhase ∧ s.ppsPhase < 10001001 ∧
      (s.time.serialAt = none ∨ s.since s.time.serialAt 500000) then
    { s with time := { s.time with serial := s.timeMessage, mseq := (s.time.mseq + 1) % 65536, serialAt := some s.now } }
  else s)

/-- TOD_NEXT_MESSAGE (R256): 24 bytes that end now. -/
def execTodNextMessage (bytes : List (BitVec 8)) (s : State) : Outcome State Fault Refusal :=
  .next (if s.timeRuns 1 ∧ s.flag TIME_TODSER_CFG.RX_EN 1 then
    let b := bytes.map (fun x => x.toNat)
    let shape := b.length == 24 && b.take 4 == [0x7E, 0xA1, 0x02, 18]
    let good := leNat (b.drop 22) == crc16 ((b.drop 2).take 20)
    let window := match (s.clock 1).pulse with
      | some t => decide (100000 ≤ s.now - t) && decide (s.now - t ≤ 900000)
      | none => false
    if shape = false then s
    else if good && window then { s with time := { s.time with label := some (leNat ((b.drop 4).take 6)) } }
    else (s.inc .TIME_TODRX_ERR_CNT 1).raise TIME_CAUSE.TODRX_ERR 1
  else s)

/-! ## Commands (R258, R259) -/

/-- Write a field on both dies. -/
def State.putBoth (s : State) (f : Fld) (v : Nat) : State := (s.put f v 1).put f v 2

/-- The primary die a source names. -/
def sourceDie (src die lane : Nat) : Nat :=
  match src with
  | 1 | 2 => die + 1
  | 3 => dieOfLane lane
  | _ => 1

/-- TIME_SET_SOURCE. Both counters that have been set are FREERUN until the new source disciplines them: the follower is ALIGNING
and no counter is LOCKED to it (DEDUCED, log entry 140). A TIME_SET that still waits for an edge completes with 0x022E (DESIGN
CHOICE, log entry 141). -/
def cmdTimeSetSource : Handler := fun p _ s =>
  let src := p.byte 0
  let lane := p.byte 2
  if 3 < src ∨ 1 < p.byte 1 ∨ (p.byte 1 ≠ 0 ∧ src ≠ 1 ∧ src ≠ 2) ∨ 7 < lane ∨ (lane ≠ 0 ∧ src ≠ 3) ∨ 1 < p.byte 3 ∨
      p.byte 4 = 0 ∨ p.zeroFrom 5 = false then (fieldRange, s)
  else if src = 3 ∧ (s.lineUsed lane = false ∨ s.flag INS_CFG.TTT_EN lane = false) then (failWith 0x022D, s)
  else
    let d := sourceDie src (p.byte 1) lane
    let s := (s.putBoth TIME_SRC_CFG.SOURCE src).putBoth TIME_SRC_CFG.LANE lane
    let s := (s.putBoth TIME_SRC_CFG.SECS_RXD (p.byte 3)).putBoth TIME_SRC_CFG.HOST_TIMEOUT (p.byte 4)
    let s := (s.putBoth TIME_STAT.SOURCE src).putBoth TIME_STAT.SRC_LANE lane
    let s := [1, 2].foldl (fun s x =>
      let s := (s.putFlag TIME_SRC_CFG.PRIMARY (x == d) x).putFlag TIME_STAT.PRIMARY (x == d) x
      let s := s.put TIME_STAT.ALIGN (if x = d then 0 else 1) x
      let c : Clock := { s.clock x with
        near := 0, far := 0, offs := [], valid := none, good := 0, alignAt := s.now, pulse := some s.now }
      let s := s.setClock x c
      if s.todState x = todUnset then s else s.putTod x todFreerun) s
    let ps := s.time.pending
    let s := { s.setUsable false with time := { (s.setUsable false).time with flight := [], pending := [] } }
    let s := ps.foldl (fun s x => s.finish x.waiter ⟨0x022E, 0, 0⟩) s
    let s := (s.refreshTimeIsland 1).refreshTimeIsland 2
    (okWith (s.reg .TIME_STAT d).toNat, s)

/-- TIME_SET. -/
def cmdTimeSet : Handler := fun p t s =>
  let time := p.bits % 2 ^ 96
  let d := s.primary
  if 1000000000 ≤ time / 2 ^ 16 % 2 ^ 32 ∨ 1 < p.byte 12 ∨ p.zeroFrom 13 = false then (fieldRange, s)
  else if s.source = 3 then (failWith 0x022E, s)
  else if s.source = 2 then
    (.later, { s with time := { s.time with pending := s.time.pending ++ [⟨todTicks time, p.byte 12 == 1, t⟩] } })
  else
    let (stepped, s) := s.setTime d (todTicks time) 0
    (okWith (b2n stepped), s.hostState d (p.byte 12 == 1) true)

/-- TIME_ADJ. -/
def cmdTimeAdj : Handler := fun p _ s =>
  let d := s.primary
  if 3 < p.byte 12 ∨ p.zeroFrom 13 = false then (fieldRange, s)
  else if s.source ≠ 1 then (failWith 0x022E, s)
  else
    let s := if bitOf (p.byte 12) 1 then s.putFreq d (signed 32 (p.wordAt 8)) else s
    (okWith, (s.correct d (signed 64 (p.dword 0))).hostState d (bitOf (p.byte 12) 0) false)

/-- TIME_STATUS. -/
def cmdTimeStatus : Handler := fun p _ s =>
  let d := p.byte 0 + 1
  if 1 < p.byte 0 ∨ p.zeroFrom 1 = false then (fieldRange, s)
  else (okWith (s.reg .TIME_STAT d).toNat (s.errEst d), s)

/-- TIME_SET_DELAY. -/
def cmdTimeSetDelay : Handler := fun p _ s =>
  let i := p.byte 1
  let v := signed 32 (p.wordAt 4)
  let w := p.wordAt 4
  let d := dieOfLane i
  if 5 < p.byte 0 ∨ 7 < i ∨ p.byte 2 ≠ 0 ∨ p.byte 3 ≠ 0 ∨ 10000000 < v.natAbs ∨ p.zeroFrom 8 = false then (fieldRange, s)
  else
    match p.byte 0 with
    | 0 => (okWith, s.put TIME_LANE_TXDLY.DLY w d (i % 4))
    | 1 => (okWith, s.put TIME_LANE_RXDLY.DLY w d (i % 4))
    | 2 => (okWith, s.put TIME_FAR_TXDLY.DLY w d (i % 4))
    | 3 => (okWith, s.put TIME_FAR_RXDLY.DLY w d (i % 4))
    | 4 => (okWith, s.put TIME_PORT_HDLY.HDLY w i)
    | _ => (okWith, { s with time := { s.time with asym := s.time.asym.set i v } })

/-- A wavelength of R250. -/
def wavelengthOk (l : Nat) : Bool := decide (1260000 ≤ l) && decide (l ≤ 1625000)

/-- TIME_WL_SET. -/
def cmdTimeWlSet : Handler := fun p _ s =>
  let k := p.byte 0
  let o := p.wordAt 4
  let i := p.wordAt 8
  if 7 < k ∨ p.byte 1 ≠ 0 ∨ p.byte 2 ≠ 0 ∨ p.byte 3 ≠ 0 ∨ p.zeroFrom 12 = false ∨
      ((o ≠ 0 ∨ i ≠ 0) ∧ (wavelengthOk o && wavelengthOk i) = false) then (fieldRange, s)
  else
    let e := if o = 0 ∧ i = 0 then none else some (o, i)
    let s := { s with time := { s.time with wl := s.time.wl.set k e } }
    (okWith, if s.lineUsed k then s.rangeClear (s.mode.run.lane k).fibre else s)

/-- TIME_MODEL_SET. -/
def cmdTimeModelSet : Handler := fun p _ s =>
  let g := p.byte 0
  if 7 < g ∨ 1 < p.byte 1 ∨ p.byte 2 ≠ 0 ∨ p.byte 3 ≠ 0 ∨ p.zeroFrom 20 = false then (fieldRange, s)
  else
    let m : FibreModel := ⟨p.wordAt 4, p.wordAt 8, p.wordAt 12, p.wordAt 16⟩
    let s := { s with time := { s.time with models := writeAt natLt {} (2 * g + p.byte 1) m s.time.models } }
    (okWith, s.rangeClear g)

/-- TIME_RANGE_REPORT. -/
def cmdTimeRangeReport : Handler := fun p _ s =>
  let g := p.byte 0
  let k := p.byte 1
  if 7 < g ∨ 7 < k ∨ p.zeroFrom 2 = false then (fieldRange, s)
  else if s.mode.run.ranging.getD g false = false ∨ (s.members g).contains k = false then (failWith 0x022F, s)
  else
    let r := s.rangingOf g
    if r.some_ = false then (failWith 0x030D, s)
    else
      let a := unsigned 24 ((r.dOut.getD k 0 : Int) - r.dIn.getD k 0)
      (okWith (r.dOut.getD k 0 % 2 ^ 32) (a + b2n r.held * 2 ^ 24 + b2n r.coarse * 2 ^ 25 + b2n (decide (r.spread < 180)) * 2 ^ 26), s)

/-- Whether a port is in the active mode. -/
def State.portUsed (s : State) (p : Nat) : Bool := (s.mode.run.port p).size != 0

/-- TIME_CTX_FLUSH. -/
def cmdTimeCtxFlush : Handler := fun p _ s =>
  let q := p.byte 0
  if 7 < q ∨ p.zeroFrom 1 = false then (fieldRange, s)
  else if s.applyHolds q then (failWith 0x0302, s)
  else if s.portUsed q = false then (failWith 0x022C, s)
  else (okWith (s.ctxCount q), s.freeCtxs q)

/-- TIME_PPS_SET. -/
def cmdTimePpsSet : Handler := fun p _ s =>
  let w := p.half 2
  let o := signed 32 (p.wordAt 4)
  if 3 < p.byte 0 ∨ p.byte 1 ≠ 0 ∨ w = 0 ∨ 500 < w ∨ 500000 < o.natAbs ∨ p.zeroFrom 8 = false then (fieldRange, s)
  else
    let s := (s.put TIME_PPS_CFG.PPS_EN (p.byte 0 % 2) 1).put TIME_PPS_CFG.PPS_HOLD (p.byte 0 / 2) 1
    let s := (s.put TIME_PPS_CFG.WIDTH w 1).put TIME_PPS_OFS.OFS (p.wordAt 4) 1
    (okWith, s.refreshPps.refreshTimeIsland 1)

/-- TIME_TODSER_SET. -/
def cmdTimeTodserSet : Handler := fun p _ s =>
  if 3 < p.byte 0 ∨ 3 < p.byte 1 ∨ p.byte 2 ≠ 0 ∨ p.byte 3 ≠ 0 ∨ 1 < p.byte 6 ∨ p.zeroFrom 7 = false then (fieldRange, s)
  else
    let s := s.put TIME_TODSER_CFG.BAUD (p.byte 0) 1
    let s := (s.put TIME_TODSER_CFG.TX_EN (p.byte 1 % 2) 1).put TIME_TODSER_CFG.RX_EN (p.byte 1 / 2) 1
    let s := (s.put TIME_UTC.UTC_OFFSET (p.half 4) 1).put TIME_UTC.LEAP_PENDING (p.byte 6) 1
    (okWith, s.refreshTimeIsland 1)

/-- TIME_PORT_SET. -/
def cmdTimePortSet : Handler := fun p _ s =>
  let q := p.byte 0
  let fu := p.half 4
  let dr := p.half 6
  if 7 < q ∨ 15 < p.byte 1 ∨ 3 < p.byte 2 ∨ p.byte 3 ≠ 0 ∨ fu = 0 ∨ 1023 < fu ∨ dr < 4 ∨ 4092 < dr ∨ p.zeroFrom 8 = false then
    (fieldRange, s)
  else if s.applyHolds q then (failWith 0x0302, s)
  else if s.portUsed q = false then (failWith 0x022C, s)
  else
    let s := (s.put TIME_PORT_CTL.MSG_MASK (p.byte 1) q).put TIME_PORT_CTL.POLICY (p.byte 2 % 2) q
    let s := (s.put TIME_PORT_CTL.TSQ_EN (p.byte 2 / 2) q).put TIME_PORT_CTL.TTL_FU fu q
    (okWith, s.put TIME_PORT_CTL.TTL_DR ((dr + 3) / 4) q)

/-- TIME_SET_SOURCE (R258). -/
def execTimeSetSource (e : Fin 256) (s : State) : Outcome State Fault Refusal :=
  .next (s.runCmd e 0x0A 0x01 cmdTimeSetSource)

/-- TIME_SET (R258). -/
def execTimeSet (e : Fin 256) (s : State) : Outcome State Fault Refusal := .next (s.runCmd e 0x0A 0x02 cmdTimeSet)

/-- TIME_ADJ (R258). -/
def execTimeAdj (e : Fin 256) (s : State) : Outcome State Fault Refusal := .next (s.runCmd e 0x0A 0x03 cmdTimeAdj)

/-- TIME_STATUS (R258). -/
def execTimeStatus (e : Fin 256) (s : State) : Outcome State Fault Refusal := .next (s.runCmd e 0x0A 0x04 cmdTimeStatus)

/-- TIME_SET_DELAY (R258). -/
def execTimeSetDelay (e : Fin 256) (s : State) : Outcome State Fault Refusal :=
  .next (s.runCmd e 0x0A 0x05 cmdTimeSetDelay)

/-- TIME_WL_SET (R258). -/
def execTimeWlSet (e : Fin 256) (s : State) : Outcome State Fault Refusal := .next (s.runCmd e 0x0A 0x06 cmdTimeWlSet)

/-- TIME_MODEL_SET (R258). -/
def execTimeModelSet (e : Fin 256) (s : State) : Outcome State Fault Refusal :=
  .next (s.runCmd e 0x0A 0x07 cmdTimeModelSet)

/-- TIME_RANGE_REPORT (R258). -/
def execTimeRangeReport (e : Fin 256) (s : State) : Outcome State Fault Refusal :=
  .next (s.runCmd e 0x0A 0x08 cmdTimeRangeReport)

/-- TIME_CTX_FLUSH (R258). -/
def execTimeCtxFlush (e : Fin 256) (s : State) : Outcome State Fault Refusal :=
  .next (s.runCmd e 0x0A 0x09 cmdTimeCtxFlush)

/-- TIME_PPS_SET (R258). -/
def execTimePpsSet (e : Fin 256) (s : State) : Outcome State Fault Refusal := .next (s.runCmd e 0x0A 0x0A cmdTimePpsSet)

/-- TIME_TODSER_SET (R258). -/
def execTimeTodserSet (e : Fin 256) (s : State) : Outcome State Fault Refusal :=
  .next (s.runCmd e 0x0A 0x0B cmdTimeTodserSet)

/-- TIME_PORT_SET (R258). -/
def execTimePortSet (e : Fin 256) (s : State) : Outcome State Fault Refusal :=
  .next (s.runCmd e 0x0A 0x0C cmdTimePortSet)

end Sys2Proof.Machine
end

