-- ==== Sys2Proof/Machine/Recorder.lean ====
section
/-!
DEFINITION. Sys2Proof/Machine/Recorder.lean: the event recorder and the emergency area (R379–R389).
-/

namespace Sys2Proof.Machine

open Host

/-! ## The recorder clock and the layout of a record (R379, R380) -/

/-- Change what the recorder holds beside its registers. -/
def State.setEvr (s : State) (e : EvrSt) : State := { s with evr := e }

/-- The recorder clock, in ns. -/
def State.evrTime (s : State) : Nat := (s.evr.clock + 1000 * (s.now : Int)).toNat

/-- Bit 2 of FLAGS. -/
def flagEmergency : Nat := 4

/-- The four 64-bit words of a record (R379). -/
def recordWords (e : FifoEntry) (extra seq : Nat) : List W64 :=
  let v := e.ev
  let flags := v.sev % 4 + extra + (if e.rel then 8 else 0)
  [ BitVec.ofNat 64 (v.code % 2 ^ 16 + flags * 2 ^ 16 + seq % 2 ^ 32 * 2 ^ 32),
    BitVec.ofNat 64 (e.time / 1000000000 % 2 ^ 32 + e.time % 1000000000 * 2 ^ 32),
    BitVec.ofNat 64 (v.p0 % 2 ^ 32 + v.p1 % 2 ^ 32 * 2 ^ 32),
    BitVec.ofNat 64 (v.p2 % 2 ^ 32 + v.p3 % 2 ^ 32 * 2 ^ 32) ]

/-- The wide value of a record's words. -/
def recordBits (ws : List W64) : Wide := ws.foldr (fun w (x : Wide) => (x <<< 64) ||| w.setWidth 256) 0

/-- Word `w` of the staging slot that a SEQ takes. -/
def stageWord (seq w : Nat) : Nat := buriedLoc 0 3 0x03 (4 * (seq % 512) + w)

/-- Word `w` of a ring slot. -/
def ringWord (slot w : Nat) : Nat := 0x2500000 + 32 * slot + 8 * w

/-- Write the four words of a record: words 1 to 3 before word 0 (R381). -/
def State.writeRecord (s : State) (loc : Nat → Nat) (ws : List W64) : State :=
  [1, 2, 3, 0].foldl (fun s w => s.writeWord (loc w) (ws.getD w 0)) s

/-! ## What the registers show (R387) -/

/-- SEQs of the readable records, oldest first. -/
def State.evrSeqs (s : State) : List Nat := s.evr.ring.map (·.2) ++ s.evr.staged.map (·.seq)

/-- Bring the recorder's registers up to date. -/
def State.refreshEvr (s : State) : State :=
  let seqs := s.evrSeqs
  let s := s.setReg .EVR_TAIL_SEQ (BitVec.ofNat 32 (seqs.headD 0))
  let s := s.setReg .EVR_HEAD_SEQ (BitVec.ofNat 32 (seqs.getLastD 0))
  let s := s.setReg .EVR_FLUSHED_SEQ (BitVec.ofNat 32 ((s.evr.ring.map (·.2)).getLastD 0))
  let n := s.evr.fifo.length
  let s := (s.put EVR_STAT.STAGED s.evr.staged.length).put EVR_FIFO_STAT.ENTRIES n
  if s.fld EVR_FIFO_STAT.HIGH_WATER < n then s.put EVR_FIFO_STAT.HIGH_WATER n else s

/-! ## The emergency area (R383) -/

/-- Write an emergency record: in a free slot, or in place of the oldest record. Its SEQ is open: only its copy in the log is
numbered (R383). -/
def State.emergency (s : State) (code sev : Nat) (p0 p1 p2 p3 : Nat := 0) : State :=
  let used := s.evr.emg
  let free := (List.range 4).find? (fun n => !(used.contains n))
  let slot := free.getD (used.headD 0)
  let s := if free.isSome then s else s.bump EVR_EMG_STAT.LOST
  let s := s.setEvr { s.evr with emg := used.filter (fun n => n != slot) ++ [slot] }
  let e : FifoEntry := ⟨⟨code, sev, p0, p1, p2, p3, none⟩, s.evrTime, s.evr.rel⟩
  let (x, s) := s.free
  let s := s.setWide .EVR_EMG (recordBits (recordWords e flagEmergency x)) 0 slot
  let s := s.put EVR_EMG_STAT.USED (bitsWhere (fun n => s.evr.emg.contains n) 4)
  let s := s.put EVR_EMG_STAT.COPIED (bitsWhere (fun n => bitOf (s.fld EVR_EMG_STAT.COPIED) n && n != slot) 4)
  s.raise EVR_CAUSE.EMG_WRITTEN

/-! ## Failures of the recorder's own memory (R384) -/

/-- Both paths have failed: DEGRADED, with its cause, enable and top enable (R37, R384). -/
def State.evrDegrade (s : State) : State :=
  if s.flag EVR_STAT.DEGRADED then s
  else
    let s := ((s.raise EVR_STAT.DEGRADED).raise EVR_CAUSE.DEGRADED).putBit .EVR_EN 3 true
    (s.putBit .MGMT_IRQ_TOP_EN 0x12 true).emergency 0x1204 sevErr

/-- The staging path fails. -/
def State.stagingFailed (s : State) : State :=
  let s := s.raise EVR_STAT.STG_FAILED
  if s.flag EVR_STAT.RING_FAILED then s.evrDegrade else s

/-- The staged record of a SEQ reads uncorrectable: it is dropped and counted. -/
def State.stagingFault (s : State) (r : Staged) : State :=
  let s := s.inc .EVR_DROP_CNT 0 (r.code / 256)
  let bad := (s.evr.bad.filter (fun t => decide (s.now - t < 1000000))) ++ [s.now]
  let s := s.setEvr { s.evr with staged := s.evr.staged.filter (fun x => x != r), bad := bad }
  let s := (s.raise EVR_STAT.STG_FAULT).raise EVR_CAUSE.STG_FAULT
  let s := s.emergency 0x1202 sevErr r.seq (r.seq % 512)
  if 4 ≤ bad.length then s.stagingFailed else s

/-- Whether a corrected read of a location declares it a hard error (R362). -/
def State.thirdHit (s : State) (a : Nat) : Bool :=
  match classify (s.word a), regionOf a with
  | .corrected _, some (die, _) => (s.tracker die).any (fun p => p.1 == a && decide (3 ≤ p.2 + 1))
  | _, _ => false

/-- A read of a protected word; a hard error in the staging region fails the staging path. -/
def State.readHard (s : State) (a : Nat) (src : Nat := 15) (kind : Nat := 1) : Option W64 × State :=
  let hit := s.thirdHit a && regionOf a == some (0, 3)
  let (x, s) := s.readWord a src kind
  (x, if hit then s.stagingFailed else s)

/-- Reads of the four words of a record; none where one of them delivers no data. -/
def State.readRecord (s : State) (loc : Nat → Nat) : Option (List W64) × State :=
  (List.range 4).foldl (fun (r : Option (List W64) × State) w =>
    let (x, s) := r.2.readHard (loc w)
    match r.1, x with
    | some ws, some d => (some (ws ++ [d]), s)
    | _, _ => (none, s)) (some [], s)

/-! ## Staging and dropping (R379–R382) -/

/-- Start a flush where records wait and the ring is written. -/
def State.evrKick (s : State) : State :=
  if s.flag EVR_STAT.FROZEN ∨ s.flag EVR_STAT.RING_FAILED ∨ s.evr.staged = [] then s
  else s.setEvr { s.evr with flushing := true }

/-- Complete an EVR_MARK whose record has its SEQ. -/
def State.marked (s : State) (w : Option Ticket) (seq : Nat) : State :=
  match w with
  | some t => s.finish t ⟨0, seq, 1⟩
  | none => s

/-- A FIFO entry or an emergency copy enters staging and receives its SEQ (R380); 16 unflushed records or an Error start a
flush (R381). With the ring failed the buffer overwrites its oldest record (R384). -/
def State.stageRecord (s : State) (e : FifoEntry) (extra : Nat) : State :=
  let seq := s.evr.next
  let s := if s.evr.staged.length < 512 then s else s.setEvr { s.evr with staged := s.evr.staged.drop 1, ring := [] }
  let s := s.writeRecord (stageWord seq) (recordWords e extra seq)
  let st := s.evr.staged ++ [⟨seq, e.ev.sev, e.ev.code, s.now⟩]
  let s := s.setEvr { s.evr with staged := st, next := (seq + 1) % 2 ^ 32 }
  let s := if 16 ≤ st.length ∨ e.ev.sev = sevErr then s.evrKick else s
  s.marked e.ev.waiter seq

/-- Whether staging takes a record. -/
def State.stageRoom (s : State) : Bool :=
  !(s.flag EVR_STAT.STG_FAILED) && (decide (s.evr.staged.length < 512) || s.flag EVR_STAT.RING_FAILED)

/-- A FIFO entry has freed: the summary of the events dropped takes it (R382). -/
def State.evrSummary (s : State) : State :=
  match s.evr.drops with
  | none => s
  | some d =>
    let e : FifoEntry := ⟨⟨0x1201, sevWarn, d.count, d.map, d.first, d.last, none⟩, s.evrTime, s.evr.rel⟩
    s.setEvr { s.evr with drops := none, fifo := s.evr.fifo ++ [e] }

/-- FIFO entries enter staging while it takes them. -/
def State.evrDrain : Nat → State → State
  | 0, s => s
  | n + 1, s =>
    match s.evr.fifo with
    | [] => s
    | e :: rest =>
      if s.stageRoom then State.evrDrain n (((s.setEvr { s.evr with fifo := rest }).evrSummary).stageRecord e 0) else s

/-- Entries enough for every one of the FIFO and a summary. -/
def drainMost : Nat := 66

/-- An event that finds the FIFO full, or the recorder in DEGRADED, is dropped and counted. -/
def State.evrDrop (s : State) (e : Event) : State :=
  let n := e.code / 256
  let s := (s.inc .EVR_DROP_CNT 0 n).raise EVR_CAUSE.DROPPED
  let d := (s.evr.drops).getD ⟨0, 0, e.code, e.code⟩
  let s := s.setEvr { s.evr with drops := some ⟨satN 32 (d.count + 1), d.map ||| 2 ^ (n % 32), d.first, e.code⟩ }
  match e.waiter with
  | some t => s.finish t ⟨0x0322, 0, 0⟩
  | none => s

/-- An event reaches the recorder (R379, R382, R384). -/
def State.evrArrive (s : State) (e : Event) : State :=
  if s.flag EVR_STAT.DEGRADED then
    if e.sev = sevErr then s.emergency e.code e.sev e.p0 e.p1 e.p2 e.p3 else s.evrDrop e
  else if 64 ≤ s.evr.fifo.length then s.evrDrop e
  else
    let s := s.setEvr { s.evr with fifo := s.evr.fifo ++ [⟨e, s.evrTime, s.evr.rel⟩] }
    (s.refreshEvr).evrDrain drainMost

/-- Whether the recorder runs: Aqique has booted, its island is on, and MPLL, which clocks it, is locked. -/
def State.evrRuns (s : State) : Bool := s.flag MBX_STAT.READY && s.island 0x05 == .on && s.locked 0 0

/-! ## The ring (R381, R384) -/

/-- Drop a list up to the last entry that a test names. -/
def dropThrough {α : Type} (p : α → Bool) : List α → List α
  | [] => []
  | x :: xs => if xs.any p then dropThrough p xs else if p x then xs else x :: xs

/-- Whether a ring segment is marked bad. -/
def State.segBad (s : State) (g : Nat) : Bool := bitOf (s.wide .EVR_BAD_SEG).toNat g

/-- The first good segment from `g` on, in ring order. -/
def State.goodSeg (s : State) (g : Nat) : Option Nat :=
  ((List.range 64).map (fun i => (g + i) % 64)).find? (fun h => !(s.segBad h))

/-- The number of good segments. -/
def State.goodSegs (s : State) : Nat := ((List.range 64).filter (fun g => !(s.segBad g))).length

/-- Write a record's words into the next ring slot; a segment that is entered loses its old records. -/
def State.ringPut (s : State) (seq : Nat) (ws : List W64) : State :=
  let slot := s.evr.place
  let g := slot / 512
  let old := if slot % 512 = 0 then dropThrough (fun (p : Nat × Nat) => p.1 / 512 == g) s.evr.ring else s.evr.ring
  let s := s.writeRecord (ringWord slot) ws
  let nxt := if (slot + 1) % 512 = 0 then (s.goodSeg ((g + 1) % 64)).getD g * 512 else slot + 1
  s.setEvr { s.evr with ring := old ++ [(slot, seq)], place := nxt, written := some s.now }

/-- A ring write has failed read-back twice (R384): its segment is bad, and the record goes to the next good one. -/
def State.ringFail (s : State) : State :=
  let slot := s.evr.place
  let g := slot / 512
  let s := s.initRange (ringWord slot 0) (ringWord slot 4)
  let s := s.setWide .EVR_BAD_SEG (s.wide .EVR_BAD_SEG ||| (1 <<< g))
  let n := s.goodSegs
  let s := ((s.put EVR_STAT.GOOD_SEGS n).raise EVR_CAUSE.SEG_BAD).log 0x1203 sevWarn g n
  let s := s.setEvr { s.evr with written := some s.now }
  match s.goodSeg ((g + 1) % 64) with
  | some h => s.setEvr { s.evr with place := 512 * h }
  | none =>
    let s := (s.raise EVR_STAT.RING_FAILED).setEvr { s.evr with flushing := false }
    if s.flag EVR_STAT.STG_FAILED then s.evrDegrade else s.evrDrain drainMost

/-- Write the oldest unflushed record, read from staging, into the ring. -/
def State.flushOne (s : State) (r : Staged) (fail : Bool) : State :=
  match s.readRecord (stageWord r.seq) with
  | (none, s) => s.stagingFault r
  | (some ws, s) =>
    if fail then s.ringFail
    else
      let s := s.ringPut r.seq ws
      s.setEvr { s.evr with staged := s.evr.staged.filter (fun x => x != r) }

/-- A flush ends when no unflushed record remains. -/
def State.flushEnd (s : State) : State :=
  if s.evr.staged = [] then s.setEvr { s.evr with flushing := false } else s

/-- With staging failed, the oldest FIFO entry goes to the ring itself. -/
def State.flushFifo (s : State) (fail : Bool) : State :=
  match s.evr.fifo with
  | [] => s
  | e :: rest =>
    if fail then s.ringFail
    else
      let seq := s.evr.next
      let s := (s.setEvr { s.evr with fifo := rest, next := (seq + 1) % 2 ^ 32 }).evrSummary
      (s.ringPut seq (recordWords e 0 seq)).marked e.ev.waiter seq

/-- Every staged record is flushed before a software reset, a freeze ending for it (R381). -/
def State.flushAll (s : State) : State :=
  let s := (s.putFlag EVR_STAT.FROZEN false).setEvr { s.evr with limit := 0 }
  if s.flag EVR_STAT.RING_FAILED ∨ s.flag EVR_STAT.DEGRADED then s
  else ((s.evr.staged.foldl (fun (s : State) r => s.flushOne r false) s).flushEnd).refreshEvr

/-! ## Freeze (R385) -/

/-- End a freeze: flushing resumes. `why`: 1 command, 2 limit. -/
def State.thaw (s : State) (why : Nat) : State :=
  if s.flag EVR_STAT.FROZEN then
    let s := (s.putFlag EVR_STAT.FROZEN false).setEvr { s.evr with limit := 0 }
    (s.log 0x1206 sevInfo why).evrKick
  else s

/-! ## The window (R386) -/

/-- Where a readable record lies. -/
def State.evrFind (s : State) (seq : Nat) : Option (Nat → Nat) :=
  match s.evr.staged.find? (fun r => r.seq == seq) with
  | some r => some (stageWord r.seq)
  | none => (s.evr.ring.find? (fun p => p.2 == seq)).map (fun p => ringWord p.1)

/-- The outcome of a latch at a SEQ, and the record: 0 OK, 1 older than the tail, 2 newer than the head, 3 uncorrectable,
4 DEGRADED. SEQs are compared modulo 2^32 within a window of 2^31 (R380). -/
def State.evrLatch (s : State) (seq : Nat) : Nat × Wide × State :=
  if s.flag EVR_STAT.DEGRADED then (4, 0, s)
  else
    match s.evrSeqs with
    | [] => (2, 0, s)
    | tail :: more =>
      let head := more.getLastD tail
      let d := (seq + 2 ^ 32 - tail) % 2 ^ 32
      if 2 ^ 31 ≤ d then (1, 0, s)
      else if (head + 2 ^ 32 - tail) % 2 ^ 32 < d then (2, 0, s)
      else
        match s.evrFind seq with
        | none => (3, 0, s)
        | some loc =>
          match s.readRecord loc with
          | (some ws, s) => (0, recordBits ws, s)
          | (none, s) =>
            match s.evr.staged.find? (fun r => r.seq == seq) with
            | some r => (3, 0, (s.stagingFault r).refreshEvr)
            | none => (3, 0, s)

/-- A read of word 0 of EVR_WIN by a master (R386): what is latched, the cursor advanced where AUTO_ADV says so. The
cursor, AUTO_ADV and the outcome are held per master. -/
def State.winLatch (s : State) (m : Master) : Wide × State :=
  let u := srcId m
  let seq := (s.reg .EVR_CURSOR u).toNat
  let (res, x, s) := s.evrLatch seq
  let s := s.put EVR_WIN_STAT.RESULT res u
  let s :=
    if s.flag EVR_WIN_CTL.AUTO_ADV u ∧ (res = 0 ∨ res = 3) then s.setReg .EVR_CURSOR (BitVec.ofNat 32 (seq + 1)) u else s
  (x, s)

/-! ## Rows -/

/-- EVENT_RECORD_ARRIVAL (R379): the oldest event on its way. -/
def execEventRecordArrival (s : State) : Outcome State Fault Refusal :=
  .next (if s.evrRuns then
    match s.events with
    | [] => s
    | e :: rest => (({ s with events := rest }).evrArrive e).refreshEvr
  else s)

/-- FLUSH_AGE_TIMER (R381). -/
def execFlushAgeTimer (s : State) : Outcome State Fault Refusal :=
  .next (match s.evr.staged with
  | r :: _ => if s.evrRuns ∧ 100000 ≤ s.now - r.at_ then s.evrKick else s
  | [] => s)

/-- RING_RECORD_WRITE (R381, R384): one record at most every 20 µs; `fail`: its read-back fails twice. -/
def execRingRecordWrite (fail : Bool) (s : State) : Outcome State Fault Refusal :=
  let soon : Bool := match s.evr.written with | some t => decide (s.now - t < 20) | none => false
  .next (if s.evrRuns = false ∨ soon ∨ s.flag EVR_STAT.FROZEN ∨ s.flag EVR_STAT.RING_FAILED ∨ s.flag EVR_STAT.DEGRADED then s
  else
    match s.evr.staged with
    | r :: _ =>
      if s.evr.flushing ∨ s.flag EVR_STAT.STG_FAILED then (((s.flushOne r fail).flushEnd).evrDrain drainMost).refreshEvr
      else s
    | [] => if s.flag EVR_STAT.STG_FAILED then (s.flushFifo fail).refreshEvr else s)

/-- Copy the emergency record of a slot into the log (R383): its time is kept, its SEQ is new. -/
def State.emergencyCopy (s : State) (slot : Nat) : State :=
  let w := (s.wide .EVR_EMG 0 slot).toNat
  let ev : Event := ⟨bitsOf w 0 16, bitsOf w 16 2, bitsOf w 128 32, bitsOf w 160 32, bitsOf w 192 32, bitsOf w 224 32, none⟩
  let e : FifoEntry := ⟨ev, bitsOf w 64 32 * 1000000000 + bitsOf w 96 32, bitOf w 19⟩
  let take (s : State) : State :=
    let s := s.setEvr { s.evr with emg := s.evr.emg.filter (fun n => n != slot) }
    let s := s.put EVR_EMG_STAT.USED (bitsWhere (fun n => s.evr.emg.contains n) 4)
    s.put EVR_EMG_STAT.COPIED (s.fld EVR_EMG_STAT.COPIED ||| 2 ^ slot)
  if s.stageRoom then take (s.stageRecord e flagEmergency) else s

/-- EMERGENCY_COPY (R383): the uncopied records, oldest first, while staging takes them. -/
def execEmergencyCopy (s : State) : Outcome State Fault Refusal :=
  .next (if s.evrRuns ∧ s.aqiqueRuns ∧ s.flag EVR_STAT.DEGRADED = false then
    (s.evr.emg.foldl (fun (s : State) n => s.emergencyCopy n) s).refreshEvr
  else s)

/-- RECORDER_CLOCK_ALIGN (R380): once per second, to within 1 µs of the primary die's time-of-day. -/
def execRecorderClockAlign (s : State) : Outcome State Fault Refusal :=
  let d := s.primary
  let due : Bool := match s.evr.aligned with | some t => decide (1000000 ≤ s.now - t) | none => true
  .next (if s.aqiqueRuns ∧ due ∧ s.timeRuns d ∧ (s.todState d = todLocked ∨ s.todState d = todHoldover) then
    let (x, s) := s.free
    let ofs : Int := (x % 2001 : Nat) - 1000
    let t : Int := ((s.clock d).acc / nsUnit : Nat)
    s.setEvr { s.evr with clock := t + ofs - 1000 * (s.now : Int), rel := false, aligned := some s.now }
  else s)

/-- FREEZE_LIMIT (R385). -/
def execFreezeLimit (s : State) : Outcome State Fault Refusal :=
  .next (if s.flag EVR_STAT.FROZEN ∧ s.evr.limit ≠ 0 ∧ 1000000 * s.evr.limit ≤ s.now - s.evr.frozenAt then s.thaw 2 else s)

/-- EVR_FREEZE (R385, R388). -/
def cmdEvrFreeze : Handler := fun p _ s =>
  let limit := p.half 4
  if p.wordAt 0 ≠ 0 ∨ 3600 < limit ∨ p.zeroFrom 6 = false then (fieldRange, s)
  else
    let s := (s.raise EVR_STAT.FROZEN).setEvr { s.evr with limit := limit, frozenAt := s.now, flushing := false }
    (okWith (s.reg .EVR_TAIL_SEQ).toNat (s.reg .EVR_HEAD_SEQ).toNat, s.log 0x1205 sevInfo limit)

/-- EVR_THAW. -/
def cmdEvrThaw : Handler := fun p _ s => if p.zeroFrom 0 = false then (fieldRange, s) else (okWith, s.thaw 1)

/-- EVR_STATUS. -/
def cmdEvrStatus : Handler := fun p _ s =>
  if p.zeroFrom 0 = false then (fieldRange, s) else (okWith (s.reg .EVR_STAT).toNat (s.reg .EVR_HEAD_SEQ).toNat, s)

/-- EVR_MARK: the mark is logged behind the events before it. -/
def cmdEvrMark : Handler := fun p w s =>
  if p.wordAt 0 ≠ 0 ∨ p.zeroFrom 20 = false then (fieldRange, s)
  else
    (.later, { s with events := s.events ++
      [⟨0x1207, sevInfo, p.wordAt 4, p.wordAt 8, p.wordAt 12, p.wordAt 16, some w⟩] })

/-- EVR_FREEZE (R385). -/
def execEvrFreeze (e : Fin 256) (s : State) : Outcome State Fault Refusal := .next (s.runCmd e 0x12 0x01 cmdEvrFreeze)

/-- EVR_THAW (R385). -/
def execEvrThaw (e : Fin 256) (s : State) : Outcome State Fault Refusal := .next (s.runCmd e 0x12 0x02 cmdEvrThaw)

/-- EVR_STATUS (R388). -/
def execEvrStatus (e : Fin 256) (s : State) : Outcome State Fault Refusal := .next (s.runCmd e 0x12 0x03 cmdEvrStatus)

/-- EVR_MARK (R388). -/
def execEvrMark (e : Fin 256) (s : State) : Outcome State Fault Refusal := .next (s.runCmd e 0x12 0x04 cmdEvrMark)

/-- EVR_MARK_TIMEOUT (R388): a mark not staged 1 s after acceptance completes with RESULT1 2. -/
def execEvrMarkTimeout (e : Fin 256) (s : State) : Outcome State Fault Refusal :=
  let y := s.eyelet e
  .next (if y.st = .running ∧ y.started ∧ y.reply = none ∧ descByte y.desc 2 = 0x12 ∧ descByte y.desc 3 = 0x04 ∧
      1000000 ≤ s.now - y.accepted then
    s.finish ⟨e, y.serial, false⟩ ⟨0, 0, 2⟩
  else s)

end Sys2Proof.Machine
end

