-- ==== Sys2Proof/Machine/Integrity.lean ====
section
/-!
DEFINITION. Sys2Proof/Machine/Integrity.lean: what the memory controllers do of themselves, and the commands of memory
integrity (R353–R368).
-/

namespace Sys2Proof.Machine

open Host

/-- Bits of a stored word flip (an upset, R353): the word at a location, with the bits of `upset` inverted. -/
def State.upset (s : State) (a : Nat) (upset : W72) : State := if upset = 0 then s else s.setWord a (s.word a ^^^ upset)

/-- Whether a word lies in a range that has been written in full since its island was last powered (R360). -/
def State.wordWritten (s : State) (a : Nat) : Bool :=
  s.mem.any (fun p => p.1 == a) || s.inits.any (fun r => decide (r.lo ≤ a) && decide (a < r.hi))

/-- Whether the scrubber covers a word (R360): its region is enabled and no lane window, its island is on or dozes, it has
been written, and a shank-pool word lies in an allocated granule. -/
def State.scrubbed (s : State) (a : Nat) : Bool :=
  match regionOf a with
  | none => false
  | some (die, region) =>
    let isl := s.island (locIsland a)
    (isl == .on || isl == .doze) && !(die != 0 && region == 7) && bitOf (s.fld MEM_SCRUB_CTL.EN die) region &&
      s.wordWritten a &&
      (if die ≠ 0 ∧ region = 3 then s.flag FEC_POOL_MAP.ALLOC die ((a - (Block.pool die).base) / 0x1000) else true)

/-- One scrub step of a word (R360): a corrected word is written back, an uncorrectable one stays and is counted. -/
def State.scrub (s : State) (a : Nat) : State :=
  let w := s.word a
  let s := (s.readHard a 15 kindScrub).2
  match classify w with
  | .corrected d => s.setWord a (protect d)
  | _ => s

/-- SCRUB_STEP (R360). -/
def execScrubStep (loc : MemLoc) (upset : W72) (s : State) : Outcome State Fault Refusal :=
  let a := locOf loc / 8 * 8
  let a := if 0x100000000 ≤ locOf loc then locOf loc else a
  .next (if s.scrubbed a then (s.upset a upset).scrub a else s)

/-- Rewrite the correctable words of an MRAM row from corrected data. -/
def State.rewriteRow (s : State) (row : Nat) : State :=
  (List.range 128).foldl (fun (s : State) i =>
    let a := 0x2000000 + 1024 * row + 8 * i
    match classify (s.word a) with
    | .corrected d => s.setWord a (protect d)
    | _ => s) s

/-- MRAM_ROW_REFRESH (R359): a scheduled refresh, which counts nothing. -/
def execMramRowRefresh (row : Fin 8192) (s : State) : Outcome State Fault Refusal :=
  .next (if s.ctl.refresh.contains row.val then
    let s := { s with ctl := { s.ctl with refresh := s.ctl.refresh.filter (fun r => r != row.val) } }
    s.rewriteRow row
  else s)

/-- MRAM_REMAP_DONE (R363): the row's corrected data lie in a spare, and its addresses lead there. -/
def execMramRemapDone (row : Fin 8192) (s : State) : Outcome State Fault Refusal :=
  .next (if s.ctl.copying.contains row.val then
    let c := s.ctl
    let s := { s with ctl := { c with copying := c.copying.filter (fun r => r != row.val), remapped := c.remapped ++ [row.val] } }
    let n := s.ctl.remapped.length
    let s := (s.rewriteRow row).put MEM_STAT.SPARES_USED n
    if 64 ≤ n then s.raise MEM_STAT.SPARES_OUT else s
  else s)

/-- LEAK of a region in ms, of which 0 acts as 1. -/
def State.bucketLeak (s : State) (u : Nat) : Nat := max 1 (s.fld MEM_BKT_CFG.LEAK u)

/-- BUCKET_LEAK (R361): a LEAK interval of a region's bucket ends. -/
def execBucketLeak (die : Fin 3) (region : Fin 8) (s : State) : Outcome State Fault Refusal :=
  let u := regionUnit die region
  .next (if s.now < lookup 0 u s.ctl.leaked + 1000 * s.bucketLeak u then s
  else
    let s := { s with ctl := { s.ctl with leaked := insertAt natLt u s.now s.ctl.leaked } }
    s.put MEM_BKT_STAT.LEVEL (s.fld MEM_BKT_STAT.LEVEL u - 1) u)

/-! ## Commands of class 0x03 (R368) -/

/-- Whether a die's die-control island can answer: on MGMT always, on a core die while it is on and the control welt is
UP. -/
def State.dieAnswers (s : State) (d : Nat) : Bool :=
  d == 0 || (s.island (alwaysOn d) == .on && s.fld WELT_STAT.STATE d 0 == 2)

/-- Whether a die has a region (R366) and can answer. -/
def State.regionThere (s : State) (d r : Nat) : Bool := (if d = 0 then decide (r < 4) else decide (r < 8)) && s.dieAnswers d

/-- MEM_STATUS. -/
def cmdMemStatus : Handler := fun p _ s =>
  let d := p.byte 0
  if 2 < d ∨ p.zeroFrom 2 = false then (fieldRange, s)
  else if s.regionThere d (p.byte 1) = false then (failWith 0x0240, s)
  else
    let u := regionUnit d (p.byte 1)
    (okWith (s.reg .MEM_BKT_STAT u).toNat ((s.cnt .MEM_UNCORR_CNT u).toNat % 2 ^ 32), s)

/-- MEM_BUCKET_SET. -/
def cmdMemBucketSet : Handler := fun p _ s =>
  let d := p.byte 0
  if 2 < d ∨ p.byte 2 = 0 ∨ p.byte 3 ≠ 0 ∨ p.half 4 = 0 ∨ p.zeroFrom 6 = false then (fieldRange, s)
  else if s.regionThere d (p.byte 1) = false then (failWith 0x0240, s)
  else
    let u := regionUnit d (p.byte 1)
    (okWith, (s.put MEM_BKT_CFG.THRESH (p.byte 2) u).put MEM_BKT_CFG.LEAK (p.half 4) u)

/-- MEM_HARD_LIST. -/
def cmdMemHardList : Handler := fun p _ s =>
  let d := p.byte 0
  if 2 < d ∨ 15 < p.byte 1 ∨ p.zeroFrom 2 = false then (fieldRange, s)
  else if s.dieAnswers d = false then (failWith 0x0240, s)
  else (okWith (s.reg .MEM_HARD d (p.byte 1)).toNat (s.reg .MEM_STAT d).toNat, s)

/-- MEM_STATUS (R368). -/
def execMemStatus (e : Fin 256) (s : State) : Outcome State Fault Refusal := .next (s.runCmd e 0x03 0x01 cmdMemStatus)

/-- MEM_BUCKET_SET (R368). -/
def execMemBucketSet (e : Fin 256) (s : State) : Outcome State Fault Refusal := .next (s.runCmd e 0x03 0x02 cmdMemBucketSet)

/-- MEM_HARD_LIST (R368). -/
def execMemHardList (e : Fin 256) (s : State) : Outcome State Fault Refusal := .next (s.runCmd e 0x03 0x03 cmdMemHardList)

end Sys2Proof.Machine
end

