-- ==== Sys2Proof/Machine/LineTx.lean ====
section
/-!
DEFINITION. Sys2Proof/Machine/LineTx.lean: the line transmitter, its doze, loopback and pattern checker, and DAC skew
calibration (spec/04_line_transmitter.md).
-/

namespace Sys2Proof.Machine

open Host

/-! ## Filter and levels (R94) -/

/-- The shadows of a lane as 7 + 64 signed values. -/
def State.txShadows (s : State) (k : Nat) : List Int :=
  (List.range 7).map (fun n => s.sfld LTX_FIR_COEF.COEF k n) ++ (List.range 64).map (fun n => s.sfld LTX_LUT.LEVEL k n)

/-- The active values of a lane as 7 + 64 signed values. -/
def State.txActive (s : State) (k : Nat) : List Int :=
  (List.range 7).map (fun n => s.sfld LTX_FIR_ACT.COEF k n) ++ (List.range 64).map (fun n => s.sfld LTX_LUT_ACT.LEVEL k n)

/-- Step `k` of a ramp: old + round((target − old) × k / 16), ties rounded up. -/
def rampValue (old tgt : Int) (step : Nat) : Int := old + ((tgt - old) * step + 8) / 16

/-- COMMIT at the next block boundary (R94): a live output ramps from its active values, a squelched one takes the
targets. -/
def State.commit (s : State) (k : Nat) : State :=
  if s.fld LTX_SQ_STAT.REASON k = 0 then
    (s.setLine k { s.line k with ramp := some ⟨0, s.txActive k, s.txShadows k⟩ }).putFlag LTX_STAT.RAMP true k
  else (s.setTxActive k (s.txShadows k)).refreshAmp k

/-- A signed 16-bit parameter that must be the sign extension of a 12-bit value. -/
def Params.s12 (p : Params) (n : Nat) : Option Int :=
  let x := signed 16 (p.half n)
  if satSigned 12 x = x then some x else none

/-- Whether parameter halves from byte `n` hold `c` sign-extended 12-bit values. -/
def Params.allS12 (p : Params) (n c : Nat) : Bool := (List.range c).all (fun i => (p.s12 (n + 2 * i)).isSome)

/-- LTX_SET_FIR. -/
def cmdSetFir : Handler := fun p _ s =>
  let k := p.byte 0
  if 7 < k ∨ p.byte 1 ≠ 0 ∨ p.allS12 2 7 = false ∨ p.zeroFrom 16 = false then (fieldRange, s)
  else if s.applyHoldsLine k then (failWith 0x0302, s)
  else if s.lineUsed k = false then (failWith 0x0222, s)
  else
    (okWith, (List.range 7).foldl
      (fun s n => s.put LTX_FIR_COEF.COEF (unsigned 12 ((p.s12 (2 + 2 * n)).getD 0)) k n) s)

/-- LTX_SET_LEVELS. -/
def cmdSetLevels : Handler := fun p _ s =>
  let k := p.byte 0
  let a := p.byte 1
  let c := p.byte 2
  if 7 < k ∨ 63 < a ∨ c = 0 ∨ 10 < c ∨ 64 < a + c ∨ p.byte 3 ≠ 0 ∨ p.allS12 4 c = false ∨ p.zeroFrom (4 + 2 * c) = false then
    (fieldRange, s)
  else if s.applyHoldsLine k then (failWith 0x0302, s)
  else if s.lineUsed k = false then (failWith 0x0222, s)
  else
    (okWith, (List.range c).foldl
      (fun s i => s.put LTX_LUT.LEVEL (unsigned 12 ((p.s12 (4 + 2 * i)).getD 0)) k (a + i)) s)

/-- LTX_COMMIT: RESULT0 is 1 if a ramp follows. -/
def cmdCommit : Handler := fun p _ s =>
  let k := p.byte 0
  if 7 < k ∨ p.zeroFrom 1 = false then (fieldRange, s)
  else if s.applyHoldsLine k then (failWith 0x0302, s)
  else if s.lineUsed k = false then (failWith 0x0222, s)
  else (okWith (b2n (s.fld LTX_SQ_STAT.REASON k == 0)), s.commit k)

/-- LTX_SET_FIR (R94). -/
def execLtxSetFir (e : Fin 256) (s : State) : Outcome State Fault Refusal := .next (s.runCmd e 0x05 0x01 cmdSetFir)

/-- LTX_SET_LEVELS (R94). -/
def execLtxSetLevels (e : Fin 256) (s : State) : Outcome State Fault Refusal := .next (s.runCmd e 0x05 0x02 cmdSetLevels)

/-- LTX_COMMIT (R94). -/
def execLtxCommit (e : Fin 256) (s : State) : Outcome State Fault Refusal := .next (s.runCmd e 0x05 0x03 cmdCommit)

/-- COMMIT (R94): a write of 1 to LTX_CTL.COMMIT. -/
def execCommit (k : Fin 8) (s : State) : Outcome State Fault Refusal := .next (if s.lineUsed k then s.commit k else s)

/-- LTX_RAMP_STEP (R94). -/
def execLtxRampStep (k : Fin 8) (s : State) : Outcome State Fault Refusal :=
  .next (match (s.line k).ramp with
  | none => s
  | some r =>
    if r.step < 15 then
      let s := s.setTxActive k ((r.from_.zip r.to_).map (fun p => rampValue p.1 p.2 (r.step + 1)))
      s.setLine k { s.line k with ramp := some { r with step := r.step + 1 } }
    else s.endRamp k)

/-! ## The transmit path (R89–R93, R98, R99, R101) -/

/-- The amplitude of a lane's insole signal, in sixteenths of AMP (R196). -/
def State.insLevel (s : State) (k : Nat) : Nat :=
  let y := s.insl k
  match y.rampUp with
  | some true => y.rampStep
  | some false => 16 - y.rampStep
  | none => if s.flag INS_STAT.TX_ON k then 16 else 0

/-- The data bit of a lane's chip grid with an index: of the frame in transmission, or of the idle pattern. -/
def State.insBits (s : State) (k : Nat) : Nat → Bool :=
  let y := s.insl k
  match y.sending with
  | none => fun n => idleBit (n - y.idleFrom)
  | some f =>
    let bits := frameStream f.header f.payload
    fun n => if n < f.start then idleBit (n - y.idleFrom) else bits.getD (n - f.start) true

/-- Whether the lane's inner code is on. -/
def State.innerOn (s : State) (k : Nat) : Bool := s.flag LRX_CFG.INNER k

/-- Symbols from the start of a lane's chip grid to symbol `sub` of the current microsecond (R194). -/
def State.gridPos (s : State) (k sub : Nat) : Nat :=
  (s.now - (s.insl k).gridAt) * symbolsPerUs (s.innerOn k) + sub - (s.insl k).gridSub

/-- The insole sample at `x` symbols of the chip grid; 0 while the die's insole island is off. -/
def State.insSampleAt (s : State) (k : Nat) (bits : Nat → Bool) (x : Nat) : Int :=
  let level := s.insLevel k
  if s.island (islandId (dieOfLane k) 0x04) = .powerOff ∨ level = 0 then 0
  else insSample k (s.innerOn k) (s.fld INS_TX_AMP.AMP k) level bits x

/-- The pair of bits of a lane's pattern generator; the generator starts where it did before. -/
def State.patternPair (s : State) (k : Nat) : Nat × State :=
  let code := (s.mode.run.lane k).txPattern
  let (st, s) := match (s.line k).tx.pattern with
    | some st => (st, s)
    | none => let (x, s) := s.free; (patternSeed code x, s)
  let (pair, st) := patternNext code st
  (pair, s.setLine k { s.line k with tx := { (s.line k).tx with pattern := some st } })

/-- The symbol that stages 1 and 2 make of what the lane is given next: a pair of bits of the PCS, or a detected symbol under
LINE_SHALLOW. A test pattern takes the place of the pair, and PRECODE_BYP removes its precoding (R90, R91, R99, R101). -/
def State.txSymbol (s : State) (k : Nat) (src : BitVec 2) : TxSym × State :=
  let pattern := (s.mode.run.lane k).txPattern != 0
  if pattern = false ∧ s.fld LTX_CFG.LOOPBACK k = 3 then (.sym src.toNat, s)
  else
    let (pair, s) := if pattern then s.patternPair k else (src.toNat, s)
    let g := grayOf pair
    let p := if pattern ∧ s.flag LTX_TEST_CTL.PRECODE_BYP k then g else precode g (s.line k).tx.prev
    (.sym p, s.setLine k { s.line k with tx := { (s.line k).tx with prev := p } })

/-- The symbols of what a lane is given, in order. -/
def State.txSymbols (s : State) (k : Nat) : List (BitVec 2) → List TxSym × State
  | [] => ([], s)
  | x :: xs =>
    let (y, s) := s.txSymbol k x
    let (ys, s) := s.txSymbols k xs
    (y :: ys, s)

/-- Saturated symbols are counted; the first after a clear sets CLIP, and the event comes at most once a second (R93, R107). -/
def State.clipped (s : State) (k n : Nat) : State :=
  if n = 0 then s
  else
    let s := (s.inc .LTX_CLIP_CNT k 0 n).raise LTX_CAUSE.CLIP k
    s.logRate k 0x0503 sevWarn k ((s.cnt .LTX_CLIP_CNT k).toNat % 2 ^ 32)

/-- Stages 3 to 6 for symbols that enter the level table from symbol `sub` of the current microsecond on: level table, FIR, insole
addition, rounding and saturation, DAC. A symbol leaves three places behind the one that enters. -/
def State.txSend (s : State) (k sub : Nat) (xs : List TxSym) : State :=
  let c := (List.range 7).map (fun n => s.sfld LTX_FIR_ACT.COEF k n)
  let lut := (List.range 64).map (fun n => s.sfld LTX_LUT_ACT.LEVEL k n)
  let bits := s.insBits k
  let x0 := s.gridPos k sub
  let run := (xs.zip (List.range xs.length)).foldl (fun (a : List TxSym × Int × Nat) y =>
    let h := (y.1 :: a.1).take 9
    if h.length < 4 then (h, a.2)
    else
      let (code, clip) := txDac (txFir c lut h) (s.insSampleAt k bits (x0 + y.2 - 3))
      (h, code, a.2.2 + b2n clip)) ((s.line k).tx.hist, (s.line k).tx.dac, 0)
  (s.setLine k { s.line k with tx := { (s.line k).tx with hist := run.1, dac := run.2.1 } }).clipped k run.2.2

/-- Whether a line output is live. -/
def State.txLive (s : State) (k : Nat) : Bool := s.lineUsed k && s.fld LTX_SQ_STAT.REASON k == 0

/-- LTX_CLIP (R93): the symbols that a live lane sends from symbol `sub` of the current microsecond on, given what enters stage 1.
Every one that saturates is counted; a squelched lane sends none. -/
def execLtxClip (k : Fin 8) (sub : Fin 226875) (src : List (BitVec 2)) (s : State) : Outcome State Fault Refusal :=
  .next (if s.txLive k then
    let (xs, s) := s.txSymbols k src
    s.txSend k sub xs
  else s)

/-- The wake pattern, sent on release ahead of any data (R98). -/
def State.txWakePattern (s : State) (k : Nat) : State := if s.txLive k then s.txSend k 0 wakePattern else s

/-! ## Doze (R98) -/

/-- Whether a lane's insole messages keep its transmit direction from dozing (R217). -/
def State.insBusy (s : State) (k : Nat) : Bool := !(s.insl k).msgs.isEmpty

/-- LTX_DOZE_TIMER (R98): the direction dozes with the DOZE squelch reason and its island in doze. -/
def execLtxDozeTimer (k : Fin 8) (s : State) : Outcome State Fault Refusal :=
  .next (if s.lineUsed k ∧ (s.mode.run.lane k).dozeTx ≠ 0 ∧ s.flag LTX_STAT.DOZE k = false ∧ s.insBusy k = false then
    let s := ((s.putFlag LTX_STAT.DOZE true k).refreshLine k).refreshLineIsland k
    s.setInsl k { s.insl k with sending := none }
  else s)

/-- LTX_WAKE (R98). -/
def execLtxWake (k : Fin 8) (s : State) : Outcome State Fault Refusal := .next (s.wakeLineTx k)

/-! ## Pattern checker and loopback (R100, R101) -/

/-- The Gray symbols of a pattern from a state on, and the state after them. -/
def patternSymbols (code : Nat) : Nat → Nat → List Nat × Nat
  | 0, st => ([], st)
  | n + 1, st =>
    let (pair, st) := patternNext code st
    let (gs, st) := patternSymbols code n st
    (grayOf pair :: gs, st)

/-- A locked checker compares a symbol: whether it is in error, and whether the checker has lost lock, which it does at the 64th
error within 1,024 symbols. -/
def Checker.compare (c : Checker) (code : Nat) (g : BitVec 2) : Checker × Bool × Bool :=
  let (pair, st) := patternNext code c.ref
  let bad := grayOf pair != g.toNat
  let errs := (if bad then c.count :: c.errs else c.errs).filter (fun n => decide (c.count < n + 1024))
  (⟨st, c.count + 1, errs⟩, bad, decide (64 ≤ errs.length))

/-- A locked checker compares symbols until it loses lock: the checker, how many it compared, the errors among them, and whether it
lost lock. -/
def Checker.run (code : Nat) : Checker → List (BitVec 2) → Checker × Nat × Nat × Bool
  | c, [] => (c, 0, 0, false)
  | c, g :: gs =>
    let (c, bad, lost) := c.compare code g
    if lost then (c, 1, b2n bad, true)
    else
      let (c, n, e, lost) := c.run code gs
      (c, n + 1, e + b2n bad, lost)

/-- LTX_CHK_LOCK (R100): 128 consecutive restored symbols equal those of the lane's RX_CHECK pattern, from the state of the
pattern that the checker has synchronised to. -/
def execLtxChkLock (k : Fin 8) (start : BitVec 31) (symbols : List (BitVec 2)) (s : State) : Outcome State Fault Refusal :=
  let code := (s.mode.run.lane k).rxCheck
  .next (if s.lineUsed k ∧ code ≠ 0 ∧ s.flag LTX_STAT.CHK_LOCK k = false ∧ symbols.length = 128 ∧
      (patternSymbols code 128 start.toNat).1 = symbols.map (fun g => g.toNat) then
    (s.setLine k { s.line k with chk := ⟨(patternSymbols code 128 start.toNat).2, 0, []⟩ }).putFlag LTX_STAT.CHK_LOCK true k
  else s)

/-- LTX_CHK_LOST (R100): the restored symbols that a locked checker compares. Every one is counted, and every error; at the 64th
error within 1,024 symbols the checker loses lock. -/
def execLtxChkLost (k : Fin 8) (symbols : List (BitVec 2)) (s : State) : Outcome State Fault Refusal :=
  .next (if s.flag LTX_STAT.CHK_LOCK k then
    let (c, n, e, lost) := (s.line k).chk.run (s.mode.run.lane k).rxCheck symbols
    let s := s.setLine k { s.line k with chk := c }
    let s := (s.inc .LTX_CHK_SYM_CNT k 0 n).inc .LTX_CHK_ERR_CNT k 0 e
    if lost then
      let s := (s.putFlag LTX_STAT.CHK_LOCK false k).raise LTX_CAUSE.CHK_LOST k
      s.log 0x0504 sevWarn k ((s.cnt .LTX_CHK_ERR_CNT k).toNat % 2 ^ 32)
    else s
  else s)

/-- LTX_LB_SLIP (R101): the elastic buffer of LINE_SHALLOW drops one block of 128 detected symbols, or repeats it, which sends the
block a second time. -/
def execLtxLbSlip (k : Fin 8) (again : Bool) (block : List (BitVec 2)) (s : State) : Outcome State Fault Refusal :=
  .next (match s.mode.run.portOfLine k with
  | some p =>
    if (s.mode.run.port p).loopback = 3 then
      let s := (s.inc .LTX_LB_SLIP_CNT k).raise LTX_CAUSE.LB_SLIP k
      if again ∧ s.txLive k then
        let (xs, s) := s.txSymbols k block
        s.txSend k 0 xs
      else s
    else s
  | none => s)

/-! ## DAC skew calibration (R102–R106) -/

/-- CAL_TX_RUN (R103–R105). -/
def cmdCalTxRun : Handler := fun p t s =>
  let k := p.byte 0
  if 7 < k ∨ p.byte 1 ≠ 0 ∨ p.byte 2 = 0 ∨ 8 < p.byte 2 ∨ p.zeroFrom 3 = false then (fieldRange, s)
  else if s.applyHoldsLine k then (failWith 0x0302, s)
  else if s.lineUsed k = false then (failWith 0x0220, s)
  else if (s.line k).calTx.isSome then (failWith 0x0303, s)
  else
    let s := s.setLine k { s.line k with calTx := some { mask := 4, rounds := p.byte 2, waiter := t } }
    let s := s.setReg .LTX_CAL_RESULT0 0 k
    let s := s.put LTX_CAL_STAT.MASK 4 k
    let s := (s.put LTX_CAL_STAT.PHASE 1 k).put LTX_CAL_STAT.ROUND 0 k
    if s.calTxCheck k ≠ 0 then (.later, s.endCalTx k 0x0221 (s.calTxCheck k))
    else (.later, ((s.put LTX_CAL_STAT.PHASE 2 k).put LTX_CAL_STAT.ROUND 1 k).putFlag LTX_STAT.CAL_BUSY true k)

/-- CAL_TX_ABORT (R104, R105). -/
def cmdCalTxAbort : Handler := fun p _ s =>
  let k := p.byte 0
  if 7 < k ∨ p.zeroFrom 1 = false then (fieldRange, s)
  else if s.applyHoldsLine k then (failWith 0x0302, s)
  else if s.lineUsed k = false then (failWith 0x0220, s)
  else if (s.line k).calTx.isSome then (okWith 1, s.endCalTx k 0x0305 0)
  else (okWith 0, s)

/-- CAL_TX_STATUS (R105). -/
def cmdCalTxStatus : Handler := fun p _ s =>
  let k := p.byte 0
  if 7 < k ∨ p.zeroFrom 1 = false then (fieldRange, s)
  else if s.applyHoldsLine k then (failWith 0x0302, s)
  else if s.lineUsed k = false then (failWith 0x0220, s)
  else (okWith (s.reg .LTX_CAL_STAT k).toNat (s.reg .LTX_CAL_RESULT0 k).toNat, s)

/-- CAL_TX_RUN (R105). -/
def execCalTxRun (e : Fin 256) (s : State) : Outcome State Fault Refusal := .next (s.runCmd e 0x11 0x04 cmdCalTxRun)

/-- CAL_TX_ABORT (R105). -/
def execCalTxAbort (e : Fin 256) (s : State) : Outcome State Fault Refusal := .next (s.runCmd e 0x11 0x05 cmdCalTxAbort)

/-- CAL_TX_STATUS (R105). -/
def execCalTxStatus (e : Fin 256) (s : State) : Outcome State Fault Refusal := .next (s.runCmd e 0x11 0x06 cmdCalTxStatus)

/-- Set a sub-DAC's target to its current trim plus a delta, limited to the field's range (R103). -/
def State.dacTarget (s : State) (k n : Nat) (d : Int) : State :=
  let cur := s.sfld LTX_DAC_TRIM.SKEW k n
  let t := satSigned 8 (cur + d)
  let s := s.put LTX_DAC_TTRIM.SKEW (unsigned 8 t) k n
  if t = cur + d then s else s.raise LTX_CAL_RESULT0.CLAMPED k

/-- A step period of a lane's skew trims begins now: 1,024 µs (R102). -/
def State.startDacTrims (s : State) (k : Nat) : State := s.setLine k { s.line k with dac := { at_ := s.now, len := 1024 } }

/-- CAL_TX_MEASURE_END (R103): the skew estimates per sub-DAC in 1/256 code. The run ends as converged when every delta is 0;
otherwise the targets are set and APPLY begins. SKEW_SPREAD is as R86 has it. -/
def execCalTxMeasureEnd (k : Fin 8) (skew : List Int) (s : State) : Outcome State Fault Refusal :=
  .next (match (s.line k).calTx with
  | none => s
  | some run =>
    if s.fld LTX_CAL_STAT.PHASE k = 2 then
      let ds := calDeltas 64 16 skew
      let s := s.setLine k { s.line k with
        calTx := some { run with periods := maxAbs ds, skewSpread := satN 16 ((spreadOf 64 skew + 8) / 16) } }
      if maxAbs ds = 0 then (s.raise LTX_CAL_RESULT0.CONVERGED k).endCalTx k 0 0
      else
        (((List.range 64).foldl (fun s n => s.dacTarget k n (ds.getD n 0)) s).put LTX_CAL_STAT.PHASE 3 k).startDacTrims k
    else s)

/-- Whether every current skew trim of a lane equals its target. -/
def State.dacReached (s : State) (k : Nat) : Bool :=
  (List.range 64).all (fun n => s.reg .LTX_DAC_TRIM k n == s.reg .LTX_DAC_TTRIM k n)

/-- CAL_TX_APPLY_END (R103): max |delta| step periods have passed; the next round begins, or the run ends. -/
def execCalTxApplyEnd (k : Fin 8) (s : State) : Outcome State Fault Refusal :=
  .next (match (s.line k).calTx with
  | none => s
  | some run =>
    if s.fld LTX_CAL_STAT.PHASE k = 3 ∧ run.periods = 0 ∧ s.dacReached k then
      let s := s.bump LTX_CAL_RESULT0.ROUNDS_DONE k
      if s.fld LTX_CAL_STAT.ROUND k < run.rounds then
        (s.put LTX_CAL_STAT.ROUND (s.fld LTX_CAL_STAT.ROUND k + 1) k).put LTX_CAL_STAT.PHASE 2 k
      else s.endCalTx k 0 0
    else s)

/-- DAC_TRIM_STEP (R102): at sub-DAC `n`'s step instant, while the output is live, its skew trim moves one code towards
its target. -/
def execDacTrimStep (k : Fin 8) (n : Fin 64) (s : State) : Outcome State Fault Refusal :=
  .next (if s.txLive k ∧ (s.line k).dac.due s.now n.val 64 then
    let (w, m) := stepField (0, 8) (s.reg .LTX_DAC_TRIM k n) (s.reg .LTX_DAC_TTRIM k n)
    let s := s.setReg .LTX_DAC_TRIM w k n
    let s := s.setLine k { s.line k with dac := { (s.line k).dac with stepped := some s.now } }
    if (s.line k).calTx.isSome then
      s.put LTX_CAL_RESULT0.STEPS (satN 16 (s.fld LTX_CAL_RESULT0.STEPS k + m)) k
    else s
  else s)

/-- A step period that ends now is followed by the next, until every skew trim has reached its target; an APPLY phase counts its
own (R102, R103). -/
def State.dacTick (s : State) (k : Nat) : State :=
  let y := s.line k
  if y.dac.len = 0 ∨ s.now < y.dac.at_ + y.dac.len then s
  else
    match y.calTx with
    | some run =>
      if s.fld LTX_CAL_STAT.PHASE k = 3 then
        (s.setLine k { y with calTx := some { run with periods := run.periods - 1 } }).startDacTrims k
      else if s.dacReached k then s.setLine k { y with dac := {} } else s.startDacTrims k
    | none => if s.dacReached k then s.setLine k { y with dac := {} } else s.startDacTrims k

/-- A write of LTX_DAC_TTRIM_n by a master other than the calibrator (R102): step periods begin with it; while the output is
squelched the current trim takes the target. -/
def State.dacTtrimWrite (s : State) (k n : Nat) (data : W32) : State :=
  if (s.line k).calTx.isSome then (s.raise LTX_STAT.TRIM_LOCK k).raise LTX_CAUSE.LOCK k
  else
    let s := s.writeRwl .LTX_DAC_TTRIM k n data
    if s.fld LTX_SQ_STAT.REASON k = 0 then s.startDacTrims k
    else s.setReg .LTX_DAC_TRIM (s.reg .LTX_DAC_TTRIM k n) k n

/-- LTX_TTRIM_WRITE (R102). -/
def execLtxTtrimWrite (k : Fin 8) (n : Fin 64) (data : W32) (s : State) : Outcome State Fault Refusal :=
  .next (if s.lineUsed k then s.dacTtrimWrite k n data else s)

/-- A write of LTX_TEST_CTL (R99): PRECODE_BYP is writable in port state TEST only. -/
def State.testCtlWrite (s : State) (k : Nat) (data : W32) : State :=
  if (s.lanePort k).st = portTest then s.writeRwl .LTX_TEST_CTL k 0 data
  else (s.raise LTX_STAT.TEST_LOCK k).raise LTX_CAUSE.LOCK k

end Sys2Proof.Machine
end

