-- ==== Sys2Proof/Machine/HostLane.lean ====
section
/-!
DEFINITION. Sys2Proof/Machine/HostLane.lean: the host lanes: equalisers, clock recovery, signal detection, doze,
checkers, bit slip and capture (spec/07_host_lanes.md).
-/

namespace Sys2Proof.Machine

open Host

/-- What a host lane holds beside its registers. -/
def State.hostLane (s : State) (j : Nat) : HostLane := s.hosts.getD j {}

/-- Change what a host lane holds. -/
def State.setHostLane (s : State) (j : Nat) (v : HostLane) : State := { s with hosts := s.hosts.set j v }

/-! ## Equalisers (R170, R172) -/

/-- PRE2, PRE1 and POST1 in effect: POST1, then PRE1, then PRE2 are lowered until the sum is 24. -/
def clampTaps (pre2 pre1 post1 : Nat) : Nat × Nat × Nat :=
  let ex := pre2 + pre1 + post1 - 24
  let d := min ex post1
  let d1 := min (ex - d) pre1
  let d2 := min (ex - d - d1) pre2
  (pre2 - d2, pre1 - d1, post1 - d)

/-- HL_TX_EQ takes effect (R172). -/
def State.applyTxEq (s : State) (j : Nat) : State :=
  let a := s.fld HL_TX_EQ.PRE2 j
  let b := s.fld HL_TX_EQ.PRE1 j
  let c := s.fld HL_TX_EQ.POST1 j
  let (a', b', c') := clampTaps a b c
  let s := s.setReg .HL_TX_EQ_EFF (s.reg .HL_TX_EQ j) j
  let s := ((s.put HL_TX_EQ_EFF.PRE2 a' j).put HL_TX_EQ_EFF.PRE1 b' j).put HL_TX_EQ_EFF.POST1 c' j
  if 24 < a + b + c then s.raise HL_STAT.EQ_CLAMP j else s

/-- A write of HL_TX_EQ. -/
def State.txEqWrite (s : State) (j : Nat) (data : W32) : State :=
  (s.setReg .HL_TX_EQ (data &&& Reg.HL_TX_EQ.access.rw) j).applyTxEq j

/-- CTLE_FIX in effect: larger codes act as 24. -/
def State.ctleFix (s : State) (j : Nat) : Nat := min 24 (s.fld HL_RX_EQ_CTL.CTLE_FIX j)

/-- A write of HL_RX_EQ_CTL (R170): with FREEZE clear the CTLE takes CTLE_FIX while ADAPT is clear, and while ADAPT is set until the
peaking search has moved it. -/
def State.rxEqWrite (s : State) (j : Nat) (data : W32) : State :=
  let s := s.setReg .HL_RX_EQ_CTL (data &&& Reg.HL_RX_EQ_CTL.access.rw) j
  if s.flag HL_RX_EQ_CTL.FREEZE j ∨ (s.flag HL_RX_EQ_CTL.ADAPT j ∧ (s.hostLane j).searched) then s
  else s.put HL_RX_EQ_STAT.CTLE (s.ctleFix j) j

/-- HL_TX_EQ_WRITE (R172). -/
def execHlTxEqWrite (j : Fin 16) (data : W32) (s : State) : Outcome State Fault Refusal :=
  .next (if s.hostUsed j then s.txEqWrite j data else s)

/-- HL_RX_EQ_CTL_WRITE (R170). -/
def execHlRxEqCtlWrite (j : Fin 16) (data : W32) (s : State) : Outcome State Fault Refusal :=
  .next (if s.hostUsed j then s.rxEqWrite j data else s)

/-- Whether a host lane's receiver runs: used, awake, HPLL locked. -/
def State.hostRuns (s : State) (j : Nat) : Bool :=
  s.hostUsed j && !(s.flag HL_STAT.RX_DOZE j) && s.locked (dieOfHost j) 2

/-- HL_CDR_FOFS takes the offset and the rotator phase. -/
def State.putHostFofs (s : State) (j : Nat) (fofs : BitVec 16) (phase : BitVec 8) : State :=
  (s.put HL_CDR_FOFS.FOFS fofs.toNat j).put HL_CDR_FOFS.PHASE phase.toNat j

/-- HL_CDR_LOCK_SET (R171): windows within the limit at an offset that clock recovery tracks, ±200 ppm, set the lock; the offset of
a locked lane follows. -/
def execHlCdrLockSet (j : Fin 16) (fofs : BitVec 16) (phase : BitVec 8) (s : State) : Outcome State Fault Refusal :=
  .next (if s.hostRuns j ∧ (signed 16 fofs.toNat).natAbs ≤ 12800 then
    let s := s.putHostFofs j fofs phase
    if s.flag HL_STAT.CDR_LOCK j then s else (s.raise HL_STAT.CDR_LOCK j).raise HL_CAUSE.CDR_LOCK j
  else s)

/-- HL_CDR_LOCK_CLEAR (R171). -/
def execHlCdrLockClear (j : Fin 16) (fofs : BitVec 16) (phase : BitVec 8) (s : State) : Outcome State Fault Refusal :=
  .next (if s.hostRuns j ∧ s.flag HL_STAT.CDR_LOCK j then (s.putHostFofs j fofs phase).cdrLostHost j else s)

/-- H1 and the FFE taps take the values that adaptation has reached; FREEZE holds them (R170). -/
def State.adaptTaps (s : State) (j : Nat) (h1 : BitVec 10) (taps : List (BitVec 12)) : State :=
  if s.flag HL_RX_EQ_CTL.FREEZE j then s
  else
    (List.range 8).foldl
      (fun s n => match taps[n]? with | some c => s.put HL_RX_FFE.COEF c.toNat j n | none => s) (s.put HL_RX_EQ_STAT.H1 h1.toNat j)

/-- The engine moves the CTLE; ADAPT clear and FREEZE hold it (R170). -/
def State.moveCtle (s : State) (j code : Nat) : State :=
  if s.flag HL_RX_EQ_CTL.ADAPT j ∧ s.flag HL_RX_EQ_CTL.FREEZE j = false then
    (s.put HL_RX_EQ_STAT.CTLE (min 24 code) j).setHostLane j { s.hostLane j with searched := true, ctleAt := s.now }
  else s

/-- HL_ADAPT_DONE (R170, R171): the peaking search of this acquisition has ended and the error has settled. -/
def execHlAdaptDone (j : Fin 16) (ctle : BitVec 5) (h1 : BitVec 10) (taps : List (BitVec 12)) (s : State) :
    Outcome State Fault Refusal :=
  .next (if s.hostRuns j ∧ s.flag HL_STAT.CDR_LOCK j then
    let s := if s.flag HL_STAT.ADAPT_DONE j then s else s.moveCtle j ctle.toNat
    (s.adaptTaps j h1 taps).raise HL_STAT.ADAPT_DONE j
  else s)

/-- HL_CTLE_TRACK (R170): the engine adapts. The FFE and the DFE move, and the CTLE by a code (`step` 1 up, 2 down), at most
every 1 ms. -/
def execHlCtleTrack (j : Fin 16) (step : Fin 3) (h1 : BitVec 10) (taps : List (BitVec 12)) (s : State) :
    Outcome State Fault Refusal :=
  let c := s.fld HL_RX_EQ_STAT.CTLE j
  .next (if s.hostRuns j ∧ s.flag HL_STAT.CDR_LOCK j then
    let s := s.adaptTaps j h1 taps
    if step.val = 0 ∨ s.now - (s.hostLane j).ctleAt < 1000 then s else s.moveCtle j (if step.val = 1 then c + 1 else c - 1)
  else s)

/-! ## What a transmitter sends (R172, R177, R180, R182) -/

/-- A bit of the RAW pattern: 256 bits from bit 0 of HL_RAW_PAT_0 on (R177). -/
def State.rawBit (s : State) (j n : Nat) : Bool := bitOf (s.reg .HL_RAW_PAT j (n % 256 / 32)).toNat (n % 32)

/-- A pair of bits of a code's pattern at a state of its generator, and the next state. RAW's state is the place of the symbol. -/
def State.hostPattern (s : State) (j code st : Nat) : Nat × Nat :=
  if code = 4 then (2 * b2n (s.rawBit j (2 * st)) + b2n (s.rawBit j (2 * st + 1)), (st + 1) % 128) else patternNext code st

/-- The next pair of bits of a lane's pattern generator. Bits that slips have put before it go first. -/
def State.hostPair (s : State) (j : Nat) : Nat × State :=
  let code := (s.mode.run.hlane j).txPattern
  let h := s.hostLane j
  let (st, s) := match h.gen with
    | some st => (st, s)
    | none => if code = 4 then (0, s) else let (x, s) := s.free; (patternSeed code x, s)
  let (pair, st') := s.hostPattern j code st
  let h := s.hostLane j
  match h.carry with
  | a :: b :: rest => (2 * b2n a + b2n b, s.setHostLane j { h with gen := some st, carry := rest, last := b })
  | [a] => (2 * b2n a + pair / 2, s.setHostLane j { h with gen := some st', carry := [bitOf pair 0], last := bitOf pair 1 })
  | [] => (pair, s.setHostLane j { h with gen := some st', last := bitOf pair 0 })

/-- The Gray level −3, −1, +1, +3 of a symbol. -/
def grayLevel (g : Nat) : Int := 2 * (g % 4 : Nat) - 3

/-- The symbol that a transmitter is given for a pair of bits of the PCS, or for a received symbol under HOST_SHALLOW, which a
TX_PATTERN does not replace (R177, R182). -/
def State.hostSymbol (s : State) (j : Nat) (src : BitVec 2) : Nat × State :=
  if s.fld HL_CFG.LOOPBACK j = 1 then (src.toNat, s)
  else if (s.mode.run.hlane j).txPattern = 0 then (grayOf src.toNat, s)
  else
    let (pair, s) := s.hostPair j
    (grayOf pair, s)

/-- u(m) in 1/64 of a level for v(m+2), v(m+1), v(m), v(m−1) (R172). -/
def hostFir (pre2 pre1 post1 : Nat) (h : List Int) : Int :=
  pre2 * h.getD 0 0 - pre1 * h.getD 1 0 + (64 - (pre2 + pre1 + post1) : Int) * h.getD 2 0 - post1 * h.getD 3 0

/-- Levels that enter a transmitter's FIR, and what leaves it. -/
def State.hostLevels (s : State) (j : Nat) (vs : List Int) : State :=
  let fir := hostFir (s.fld HL_TX_EQ_EFF.PRE2 j) (s.fld HL_TX_EQ_EFF.PRE1 j) (s.fld HL_TX_EQ_EFF.POST1 j)
  let run := vs.foldl (fun (a : List Int × List Int) v =>
    let h := (v :: a.1).take 4
    (h, fir h :: a.2)) ((s.hostLane j).hist, [])
  s.setHostLane j { s.hostLane j with hist := run.1, out := run.2.reverse }

/-- What a transmitter sends of symbols it is given: nothing in electrical idle. -/
def State.hostSend (s : State) (j : Nat) (src : List (BitVec 2)) : State :=
  if s.flag HL_STAT.TX_IDLE j then s
  else
    let run := src.foldl (fun (a : List Int × State) x =>
      let (g, s) := a.2.hostSymbol j x
      (grayLevel g :: a.1, s)) ([], s)
    run.2.hostLevels j run.1.reverse

/-- The wake pattern, which a transmitter sends on release before any data: 64 repetitions of 0,0,3,3 (R185). -/
def State.hostWakePattern (s : State) (j : Nat) : State :=
  if s.flag HL_STAT.TX_IDLE j then s
  else s.hostLevels j ((List.replicate 64 [0, 0, 3, 3]).flatMap (fun g => g.map grayLevel))

/-! ## Signal detection and doze (R176, R183–R187) -/

/-- HL_SIG_ASSERT (R176, R184). -/
def execHlSigAssert (j : Fin 16) (s : State) : Outcome State Fault Refusal :=
  .next (if s.hostUsed j ∧ s.flag HL_STAT.SIG_PRESENT j = false then
    let s := (s.raise HL_STAT.SIG_PRESENT j).raise HL_CAUSE.SIG_FOUND j
    let s := s.log 0x0802 sevInfo j 0
    if s.flag HL_STAT.RX_DOZE j then s.wakeHostRxPort j else s
  else s)

/-- HL_SIG_DEASSERT (R176, R191). -/
def execHlSigDeassert (j : Fin 16) (s : State) : Outcome State Fault Refusal :=
  .next (if s.hostUsed j ∧ s.flag HL_STAT.SIG_PRESENT j then
    let s := (s.putFlag HL_STAT.SIG_PRESENT false j).raise HL_CAUSE.SIG_LOST j
    let s := s.inc .HL_SIG_LOSS_CNT j
    if s.quietHost j then s else s.log 0x0801 sevWarn j
  else s)

/-- HL_WAKE_SEEN (R176, R184). A pattern that comes while WAKE_SEEN is still set wakes the direction all the same (DEDUCED, log
entry 118). -/
def execHlWakeSeen (j : Fin 16) (s : State) : Outcome State Fault Refusal :=
  .next (if s.hostUsed j ∧ s.flag HL_SIGDET_CTL.WAKE_EN j then
    let s := if s.flag HL_STAT.WAKE_SEEN j then s else (s.raise HL_STAT.WAKE_SEEN j).log 0x0802 sevInfo j 1
    if s.flag HL_STAT.RX_DOZE j then s.wakeHostRxPort j else s
  else s)

/-- Whether a host lane's doze timers run: its port has FEC_TERM set and is in UP (R183). -/
def State.dozeOk (s : State) (j : Nat) : Bool :=
  match s.mode.run.portOfHost j with
  | some p => (s.mode.run.port p).fecTerm && (s.port p).st == portUp
  | none => false

/-- HL_RX_DOZE_TIMER (R184): the direction dozes; its CDR_LOCK goes, its AM_LOCK_H keeps its value. -/
def execHlRxDozeTimer (j : Fin 16) (s : State) : Outcome State Fault Refusal :=
  .next (if s.dozeOk j ∧ (s.mode.run.hlane j).dozeRx ≠ 0 ∧ s.flag HL_STAT.RX_DOZE j = false ∧ s.seqOn 7 j = false then
    let s := (s.putFlag HL_STAT.RX_DOZE true j).raise HL_CAUSE.DOZE j
    (s.cdrLostHost j).refreshHostIsland j
  else s)

/-- HL_TX_DOZE_TIMER (R185): the direction dozes in electrical idle. -/
def execHlTxDozeTimer (j : Fin 16) (s : State) : Outcome State Fault Refusal :=
  .next (if s.dozeOk j ∧ (s.mode.run.hlane j).dozeTx ≠ 0 ∧ s.flag HL_STAT.TX_DOZE j = false then
    let s := (s.putFlag HL_STAT.TX_DOZE true j).raise HL_CAUSE.DOZE j
    (s.refreshHost j).refreshHostIsland j
  else s)

/-- HL_TX_WAKE (R185). -/
def execHlTxWake (j : Fin 16) (s : State) : Outcome State Fault Refusal := .next (s.wakeHostTx j)

/-- HL_WAKE_AM_TIMEOUT (R187): a receive restart past its island restore has no AM lock 252 µs after its trigger. -/
def execHlWakeAmTimeout (j : Fin 16) (s : State) : Outcome State Fault Refusal :=
  .next (if s.seqOn 7 j ∧ s.flag HL_STAT.RX_DOZE j = false then (s.endSeq 7 j).amLostHost j else s)

/-! ## Checkers, bit slip, capture, loopback (R178–R182) -/

/-- Count a checker's symbols and errors (R178, R179). -/
def State.countChk (s : State) (j symbols errors : Nat) : State :=
  (s.inc .HL_CHK_SYM_CNT j 0 symbols).inc .HL_CHK_ERR_CNT j 0 errors

/-- The pair of bits of a Gray symbol (R90). -/
def grayBits (g : Nat) : List Bool :=
  match g % 4 with
  | 0 => [false, false]
  | 1 => [false, true]
  | 2 => [true, true]
  | _ => [true, false]

/-- Bits taken in pairs, the first bit of each the more significant. -/
def pairUp : List Bool → List Nat
  | a :: b :: rest => (2 * b2n a + b2n b) :: pairUp rest
  | _ => []

/-- The pairs that received symbols make at the present pairing (R178, R180). -/
def State.rxPairs (s : State) (j : Nat) (symbols : List (BitVec 2)) : List Nat :=
  pairUp ((symbols.flatMap (fun g => grayBits g.toNat)).drop (s.fld HL_SLIP_POS.RX_POS j % 2))

/-- `n` pairs of a pattern from a state on, and the state after them. -/
def State.hostPairs (s : State) (j code : Nat) : Nat → Nat → List Nat × Nat
  | 0, st => ([], st)
  | n + 1, st =>
    let (pair, st) := s.hostPattern j code st
    let (ps, st) := s.hostPairs j code n st
    (pair :: ps, st)

/-- A locked checker compares pairs until it loses lock, at the 64th error within 1,024: the checker, how many it compared, the
errors among them, and whether it lost lock. -/
def State.hostCheck (s : State) (j code : Nat) : Checker → List Nat → Checker × Nat × Nat × Bool
  | c, [] => (c, 0, 0, false)
  | c, x :: xs =>
    let (pair, st) := s.hostPattern j code c.ref
    let bad := pair != x
    let errs := (if bad then c.count :: c.errs else c.errs).filter (fun n => decide (c.count < n + 1024))
    if 64 ≤ errs.length then (⟨st, c.count + 1, errs⟩, 1, b2n bad, true)
    else
      let (c, n, e, lost) := s.hostCheck j code ⟨st, c.count + 1, errs⟩ xs
      (c, n + 1, e + b2n bad, lost)

/-- How many of a list's places differ from another's. -/
def differences (xs ys : List Nat) : Nat := ((xs.zip ys).filter (fun p => p.1 != p.2)).length

/-- The errors of pairs at the best of the 128 rotations of the RAW pattern (R179). -/
def State.rawErrors (s : State) (j : Nat) (pairs : List Nat) : Nat :=
  let err (r : Nat) := differences (s.hostPairs j 4 pairs.length r).1 pairs
  (List.range 128).foldl (fun b r => min b (err r)) (err 0)

/-- HL_CHK_LOCK (R178, R179): 129 received symbols, of which 128 pairs at the present pairing equal the lane's RX_CHECK pattern from
the state on that the checker has found. RAW, whose state is its rotation, counts them. -/
def execHlChkLock (j : Fin 16) (start : BitVec 31) (symbols : List (BitVec 2)) (s : State) : Outcome State Fault Refusal :=
  let code := (s.mode.run.hlane j).rxCheck
  let want := s.hostPairs j code 128 (if code = 4 then start.toNat % 128 else start.toNat)
  .next (if s.hostUsed j ∧ code ≠ 0 ∧ s.flag HL_STAT.CHK_LOCK j = false ∧ symbols.length = 129 ∧
      want.1 = (s.rxPairs j symbols).take 128 then
    let s := if code = 4 then s.countChk j 128 0 else s
    (s.setHostLane j { s.hostLane j with chk := ⟨want.2, 0, []⟩ }).raise HL_STAT.CHK_LOCK j
  else s)

/-- HL_CHK_LOST (R178, R179): received symbols that the checker compares. A locked one counts them and loses lock at the 64th error
within 1,024; a RAW checker that is not locked counts them at the best rotation. -/
def execHlChkLost (j : Fin 16) (symbols : List (BitVec 2)) (s : State) : Outcome State Fault Refusal :=
  let code := (s.mode.run.hlane j).rxCheck
  let pairs := s.rxPairs j symbols
  .next (if s.flag HL_STAT.CHK_LOCK j then
    let (c, n, e, lost) := s.hostCheck j code (s.hostLane j).chk pairs
    let s := (s.setHostLane j { s.hostLane j with chk := c }).countChk j n e
    if lost then
      let s := (s.putFlag HL_STAT.CHK_LOCK false j).raise HL_CAUSE.CHK_LOST j
      s.log 0x0804 sevWarn j ((s.cnt .HL_CHK_ERR_CNT j).toNat % 2 ^ 32)
    else s
  else if s.hostUsed j ∧ code = 4 then s.countChk j pairs.length (s.rawErrors j pairs)
  else s)

/-- Complete the HL_SLIP commands that wait, once both counts are 0 (R189). -/
def State.slipDone (s : State) (j : Nat) : State :=
  if s.fld HL_SLIP.RX_N j = 0 ∧ s.fld HL_SLIP.TX_N j = 0 then
    let ws := (s.hostLane j).slipWaiters
    let s := s.setHostLane j { s.hostLane j with slipWaiters := [] }
    ws.foldl (fun s t => s.finish t ⟨0, (s.reg .HL_SLIP_POS j).toNat, 0⟩) s
  else s

/-- A write of HL_SLIP (R180). -/
def State.slipWrite (s : State) (j : Nat) (data : W32) : State :=
  if (s.hostPort j).st = portTest then (s.setReg .HL_SLIP (data &&& Reg.HL_SLIP.access.rwl) j).slipDone j
  else (s.raise HL_STAT.SLIP_LOCK j).raise HL_CAUSE.LOCK j

/-- HL_SLIP_WRITE (R180). -/
def execHlSlipWrite (j : Fin 16) (data : W32) (s : State) : Outcome State Fault Refusal :=
  .next (if s.hostUsed j then s.slipWrite j data else s)

/-- HL_BIT_SLIP (R180): one block boundary. An RX slip unlocks a locked checker; that is no loss of lock by errors, so CHK_LOST is
neither set nor logged (DESIGN CHOICE, log entry 142). A TX slip delays the pattern by one bit: the latest bit is sent once more
(DESIGN CHOICE, log entry 142). -/
def execHlBitSlip (j : Fin 16) (s : State) : Outcome State Fault Refusal :=
  let rx := s.fld HL_SLIP.RX_N j
  let tx := s.fld HL_SLIP.TX_N j
  .next (if rx = 0 ∧ tx = 0 then s
  else
    let s := if rx = 0 then s else
      ((s.put HL_SLIP.RX_N (rx - 1) j).put HL_SLIP_POS.RX_POS (s.fld HL_SLIP_POS.RX_POS j + 1) j).putFlag
        HL_STAT.CHK_LOCK false j
    let s := if tx = 0 then s else
      let s := (s.put HL_SLIP.TX_N (tx - 1) j).put HL_SLIP_POS.TX_POS (s.fld HL_SLIP_POS.TX_POS j + 1) j
      s.setHostLane j { s.hostLane j with carry := (s.hostLane j).last :: (s.hostLane j).carry }
    s.slipDone j)

/-- The address of the capture window of a host lane. -/
def captureAddr (j : Nat) : Nat := (Block.host j).base + 0x1000

/-- A write of HL_CAP_CTL.START: ignored while a capture is BUSY or CDR_LOCK is clear (R181). -/
def State.captureStart (s : State) (j : Nat) : State :=
  if s.fld HL_CAP_STAT.BUSY j = 1 ∨ s.flag HL_STAT.CDR_LOCK j = false then s
  else (s.putFlag HL_CAP_STAT.BUSY true j).putFlag HL_CAP_STAT.DONE false j

/-- CAPTURE_START (R181). -/
def execCaptureStart (j : Fin 16) (s : State) : Outcome State Fault Refusal :=
  .next (if s.hostUsed j then s.captureStart j else s)

/-- CAPTURE_DONE (R181): the 64 words of the captured symbols. -/
def execCaptureDone (j : Fin 16) (words : List W32) (s : State) : Outcome State Fault Refusal :=
  .next (if s.fld HL_CAP_STAT.BUSY j = 1 ∧ words.length = 64 then
    let s := (List.range 64).foldl
      (fun s n => s.setWord (captureAddr j + 4 * n) (protect ((words.getD n 0).setWidth 64))) s
    let s := ((s.putFlag HL_CAP_STAT.BUSY false j).putFlag HL_CAP_STAT.DONE true j).raise HL_CAUSE.CAP_DONE j
    match (s.hostLane j).capWaiter with
    | none => s
    | some t => (s.setHostLane j { s.hostLane j with capWaiter := none }).finish t ⟨0, captureAddr j, 0⟩
  else s)

/-- HL_LB_SLIP (R182): the elastic buffer of HOST_SHALLOW drops one block of 64 received symbols, or repeats it, which sends the
block a second time. -/
def execHlLbSlip (j : Fin 16) (again : Bool) (block : List (BitVec 2)) (s : State) : Outcome State Fault Refusal :=
  .next (match s.mode.run.portOfHost j with
  | some p =>
    if (s.mode.run.port p).loopback = 1 then
      let s := (s.inc .HL_LB_SLIP_CNT j).raise HL_CAUSE.LB_SLIP j
      let s := s.logRate j 0x0806 sevWarn j ((s.cnt .HL_LB_SLIP_CNT j).toNat % 2 ^ 32)
      if again then s.hostSend j block else s
    else s
  | none => s)

/-! ## Commands (R189, R190) -/

/-- A lane command's checks: the lane in range and in a port, and no apply that takes the port DOWN or HIT. -/
def State.hostCmd (s : State) (j : Nat) (h : Answer × State) : Answer × State :=
  if s.applyHoldsHost j then (failWith 0x0302, s)
  else if s.hostUsed j = false then (failWith 0x0225, s)
  else h

/-- HL_SET_TX_EQ. -/
def cmdSetTxEq : Handler := fun p _ s =>
  let j := p.byte 0
  if 15 < j ∨ 63 < p.byte 1 ∨ 63 < p.byte 2 ∨ 63 < p.byte 3 ∨ 3 < p.byte 4 ∨ p.zeroFrom 5 = false then (fieldRange, s)
  else s.hostCmd j
    (let s' := s.txEqWrite j (BitVec.ofNat 32 (p.byte 1 + 256 * p.byte 2 + 65536 * p.byte 3 + 16777216 * p.byte 4))
     (okWith (s'.reg .HL_TX_EQ_EFF j).toNat, s'))

/-- HL_SET_RX_EQ. -/
def cmdSetRxEq : Handler := fun p _ s =>
  let j := p.byte 0
  if 15 < j ∨ 3 < p.byte 1 ∨ 24 < p.byte 2 ∨ p.zeroFrom 3 = false then (fieldRange, s)
  else s.hostCmd j
    (let s' := s.rxEqWrite j (BitVec.ofNat 32 (p.byte 1 + 256 * p.byte 2))
     (okWith (s'.reg .HL_RX_EQ_STAT j).toNat, s'))

/-- HL_SLIP. -/
def cmdHlSlip : Handler := fun p t s =>
  let j := p.byte 0
  if 15 < j ∨ p.zeroFrom 3 = false then (fieldRange, s)
  else s.hostCmd j
    (if (s.hostPort j).st ≠ portTest then (failWith 0x0226, s)
     else
      let s := s.setHostLane j { s.hostLane j with slipWaiters := (s.hostLane j).slipWaiters ++ [t] }
      (.later, s.slipWrite j (BitVec.ofNat 32 (p.byte 1 + 256 * p.byte 2))))

/-- HL_CAPTURE. -/
def cmdHlCapture : Handler := fun p t s =>
  let j := p.byte 0
  if 15 < j ∨ p.zeroFrom 1 = false then (fieldRange, s)
  else s.hostCmd j
    (if s.flag HL_STAT.CDR_LOCK j = false then (failWith 0x0227, s)
     else if s.fld HL_CAP_STAT.BUSY j = 1 then (failWith 0x0309, s)
     else (.later, (s.setHostLane j { s.hostLane j with capWaiter := some t }).captureStart j))

/-- HL_STATUS. -/
def cmdHlStatus : Handler := fun p _ s =>
  let j := p.byte 0
  if 15 < j ∨ p.zeroFrom 1 = false then (fieldRange, s)
  else s.hostCmd j (okWith (s.reg .HL_STAT j).toNat (s.reg .HL_IDLE_STAT j).toNat, s)

/-- HL_SET_TX_EQ (R189). -/
def execHlSetTxEq (e : Fin 256) (s : State) : Outcome State Fault Refusal := .next (s.runCmd e 0x08 0x01 cmdSetTxEq)

/-- HL_SET_RX_EQ (R189). -/
def execHlSetRxEq (e : Fin 256) (s : State) : Outcome State Fault Refusal := .next (s.runCmd e 0x08 0x02 cmdSetRxEq)

/-- HL_SLIP (R189). -/
def execHlSlip (e : Fin 256) (s : State) : Outcome State Fault Refusal := .next (s.runCmd e 0x08 0x03 cmdHlSlip)

/-- HL_CAPTURE (R189). -/
def execHlCapture (e : Fin 256) (s : State) : Outcome State Fault Refusal := .next (s.runCmd e 0x08 0x04 cmdHlCapture)

/-- HL_STATUS (R189). -/
def execHlStatus (e : Fin 256) (s : State) : Outcome State Fault Refusal := .next (s.runCmd e 0x08 0x05 cmdHlStatus)

end Sys2Proof.Machine
end

