-- ==== Sys2Proof/Machine/Insole.lean ====
section
/-!
DEFINITION. Sys2Proof/Machine/Insole.lean: the insole channel: frames, link, capture and the message service
(spec/08_insole_channel.md).
-/

namespace Sys2Proof.Machine

open Host

/-! ## Message slots (R213) -/

/-- The address of a message slot of a lane. -/
def slotAddr (k : Nat) (receive : Bool) (slot : Nat) : Nat :=
  (Block.ins (dieOfLane k)).base + 0x8000 + 0x1000 * (k % 4) + (if receive then 0x800 else 0) + 0x100 * slot

/-- The first `n` bytes of a transmit slot, or none where one of its words reads uncorrectable (R365). -/
def State.slotBytes (s : State) (k slot n : Nat) : Option (List Nat) × State :=
  match s.readWords ((List.range ((n + 7) / 8)).map (fun w => slotAddr k false slot + 8 * w)) with
  | (none, s) => (none, s)
  | (some ds, s) => (some ((ds.flatMap (fun d => (List.range 8).map (fun i => byteOf d.toNat i))).take n), s)

/-- Store the payload of a received message in its slot; the rest of the last word keeps its bytes. -/
def State.storeSlot (s : State) (k slot : Nat) (bytes : List Nat) : State :=
  (List.range ((bytes.length + 7) / 8)).foldl
    (fun s w =>
      let a := slotAddr k true slot + 8 * w
      let old := (dataOf (s.word a)).toNat
      let b := (List.range 8).map (fun i => bytes.getD (8 * w + i) (byteOf old i))
      s.setWord a (protect (BitVec.ofNat 64 (leNat b)))) s

/-! ## Frames to send (R197–R200) -/

/-- The HEADER word of a frame this lane sends (R198). -/
def State.insHeader (s : State) (k type len seq : Nat) : W32 :=
  let y := s.insl k
  BitVec.ofNat 32 (y.expect % 256 + 256 * (seq % 256) + 65536 * (len % 256) + 2 ^ 24 * min 7 y.freeRx.length +
    2 ^ 27 * b2n y.rxOk + 2 ^ 28 * type)

/-- The payload of a LINK frame (R199). -/
def State.linkPayload (s : State) (k : Nat) : List Nat :=
  let inner := match s.mode.run.portOfLine k with | some p => (s.mode.run.port p).inner | none => false
  [k, b2n (s.flag INS_CFG.MSG_EN k) + 2 * b2n (s.flag INS_CFG.TTT_EN k) + 4 * b2n (s.flag INS_CFG.RANGING k) + 8 * b2n inner,
   2, 1, 0, 0, 0, 0]

/-- The bytes of a 96-bit time value. -/
def timeBytes (t : Nat) : List Nat := (List.range 12).map (fun i => byteOf t i)

/-- The payload of a TIMING frame (R199). -/
def State.timingPayload (s : State) (k : Nat) (dep : Nat) : List Nat :=
  let y := s.insl k
  let d := dieOfLane k
  let arr := (s.wide .INS_RX_TS k).toNat % 2 ^ 96
  let echo := s.fld INS_RX_TS_Q.TSEQ k
  timeBytes dep ++ timeBytes arr ++
    [y.tseq % 256, y.tseq / 256 % 256, echo % 256, echo / 256,
     b2n (s.flag TIME_STAT.TOD_VALID d) + 2 * b2n (s.flag TIME_STAT.HOLDOVER d) + 4 * b2n (s.throttling d) + 8 * b2n (y.arr && s.timeRuns d),
     k, min 255 (s.fld INS_RX_TS_Q.SIGMA k / 50), 0]

/-- Whether a lane's transmitter may start a frame: at full amplitude, not paused, its direction awake. -/
def State.insCanSend (s : State) (k : Nat) : Bool :=
  s.flag INS_STAT.TX_ON k && !(s.flag INS_STAT.TX_PAUSED k) && !(s.flag LTX_STAT.DOZE k) && (s.insl k).sending.isNone

/-- Put a frame into transmission. Its HEADER carries the ACK that waits (R198). -/
def State.insStart (s : State) (k : Nat) (f : InsTxFrame) : State :=
  s.setInsl k { s.insl k with sending := some f, ackWait := none }

/-- The first bit boundary of a lane's chip grid at or after the start of the current microsecond. -/
def State.nextBit (s : State) (k : Nat) : Nat :=
  let l := insBitLen (s.innerOn k)
  (s.gridPos k 0 + l - 1) / l

/-- When bit `n` of a lane's chip grid starts, in 2^-16 ns of the current microsecond. -/
def State.bitTicks (s : State) (k n : Nat) : Nat :=
  (n * insBitLen (s.innerOn k) - s.gridPos k 0) * 65536000 / symbolsPerUs (s.innerOn k)

/-- The first bit boundary at which a lane may start a frame: 8 idle bits follow the frame before (R197). -/
def State.frameBit (s : State) (k : Nat) : Nat := max (s.nextBit k) ((s.insl k).idleFrom + 8)

/-- A sixteenth of a second, in 2^-16 ns (R200). -/
def sixteenth : Nat := 62500000 * 65536

/-- A bit period, in 2^-16 ns, rounded up (R192). -/
def bitTime : Nat := 426141287

/-- INS_TIMING_LAUNCH (R200, R211): at the first bit boundary at or after an instant n/16 s of the die's time of day, a TIMING
frame starts on a lane that sends them. T_DEP is the time at which that boundary leaves the DAC, with the error `err` of a line
timestamp (R231). A counter that has stopped reaches no such instant. -/
def execInsTimingLaunch (k : Fin 8) (err : Fin 52429) (s : State) : Outcome State Fault Refusal :=
  let d := dieOfLane k
  let b := s.nextBit k
  let at_ := s.stampAt d (s.bitTicks k b) 0
  .next (if s.flag INS_CFG.TIMING_TX k ∧ s.insCanSend k ∧ s.timeRuns d ∧ s.frameBit k = b ∧ at_ % sixteenth < bitTime then
    let dep := todBits (s.stampAt d (s.bitTicks k b) (s.lineErr d err) * 2 ^ 32)
    let s := s.setWide .INS_TX_TS (BitVec.ofNat 256 dep) k
    let f : InsTxFrame := ⟨.timing, s.insHeader k 2 32 0, s.timingPayload k dep, 0, b⟩
    let s := (s.insStart k f).keepSent k (s.insl k).tseq dep
    s.setInsl k { s.insl k with tseq := ((s.insl k).tseq + 1) % 2 ^ 16 }
  else s)

/-- Unacknowledged messages: sent at least once. -/
def InsLane.unacked (y : InsLane) : Nat := (y.msgs.filter (fun m => m.sends != 0)).length

/-- The message to send next: a retransmission first, then a new message within the far end's CREDIT (R200, R214). -/
def State.nextMsg (s : State) (k : Nat) : Option InsMsg :=
  let y := s.insl k
  match y.msgs.find? (fun m => m.due && m.sends != 0) with
  | some m => some m
  | none => if y.unacked < s.fld INS_MSG_STAT.FAR_CREDIT k then y.msgs.find? (fun m => m.sends == 0) else none

/-- Whether two descriptions are of the same message: the same transmit slot. -/
def InsMsg.same (a b : InsMsg) : Bool := a.slot == b.slot

/-- Start a MSG frame at a bit boundary. A first send takes the next SEQ; a resend is counted (R214). A message whose slot reads
uncorrectable is not sent and completes with 0x0431 (R365). -/
def State.sendMsg (s : State) (k : Nat) (m : InsMsg) : State :=
  match s.slotBytes k m.slot m.len with
  | (none, s) =>
    (s.setInsl k { s.insl k with msgs := (s.insl k).msgs.filter (fun x => !(x.same m)) }).insMsgDone k 0x0431 m
  | (some bytes, s) =>
    let first := m.sends == 0
    let seq := if first then s.fld INS_MSG_STAT.NEXT_SEQ k else m.seq
    let s := if first then s.put INS_MSG_STAT.NEXT_SEQ (seq + 1) k else s.inc .INS_MSG_RETX_CNT k
    let m' := { m with seq := seq, sends := m.sends + 1, due := false, sentAt := none }
    let s := s.setInsl k { s.insl k with msgs := (s.insl k).msgs.map (fun x => if x.same m then m' else x) }
    s.insStart k ⟨.msg, s.insHeader k 3 m.len seq, bytes, seq, s.frameBit k⟩

/-- The length in bits of a frame of LEN bytes and its gap. -/
def frameBits (len : Nat) : Nat := 96 + 8 * len + 8

/-- Whether a frame of `len` bytes and its gap, started at the next boundary, end before the next TIMING launch of the lane, if it
sends TIMING frames: the launch is the first bit boundary at or after the next n/16 s (R200). -/
def State.insFits (s : State) (k len : Nat) : Bool :=
  let now := s.stampAt (dieOfLane k) 0 0
  let left := sixteenth - now % sixteenth
  !(s.flag INS_CFG.TIMING_TX k) || !(s.timeRuns (dieOfLane k)) ||
    decide (s.bitTicks k (s.frameBit k + frameBits len) ≤ left)

/-- Choose the next frame by R200's priorities 2 to 4. A frame that would delay a TIMING launch is not started. -/
def State.insNext (s : State) (k : Nat) : State :=
  if s.insCanSend k = false then s
  else
    let y := s.insl k
    let fits (len : Nat) : Bool := s.insFits k len
    let link (s : State) : State :=
      let s := s.insStart k ⟨.link, s.insHeader k 1 8 0, s.linkPayload k, 0, s.frameBit k⟩
      s.setInsl k { s.insl k with linkDue := false, linkIdle := false, linkAt := s.now }
    if y.linkDue then if fits 8 then link s else s
    else
      match (if s.insLink k = insUp then s.nextMsg k else none) with
      | some m => if fits m.len then s.sendMsg k m else s
      | none => if y.linkIdle ∧ fits 8 then link s else s

/-- The transmitter resumes when throttling has ended (R217); one that has stopped ramps in when its output is next released. -/
def State.insResume (s : State) (k : Nat) : State :=
  if s.flag INS_CFG.INS_EN k ∧ s.flag INS_STAT.TX_PAUSED k then
    let s := (s.putFlag INS_STAT.TX_PAUSED false k).raise (INS_CAUSE.PAUSE (k % 4)) (dieOfLane k)
    let s := s.log 0x0906 sevInfo k
    if (s.insl k).stopped then s else s.insRamp k true
  else s

/-- The insole transmitters of a die follow its throttle state. -/
def State.refreshPause (s : State) (d : Nat) : State :=
  (List.range' (4 * (d - 1)) 4).foldl (fun s k => if s.throttling d then s.insPause k else s.insResume k) s

/-- The bits of a frame without its gap. -/
def InsTxFrame.bits (f : InsTxFrame) : Nat := 96 + 8 * f.payload.length

/-- The end of a frame in transmission: it is counted, its gap begins, and the 250 ms of a message start (R200, R214). -/
def State.insSent (s : State) (k : Nat) (f : InsTxFrame) : State :=
  let y := s.insl k
  let ms := if f.kind = .msg then y.msgs.map (fun m => if m.sends ≠ 0 ∧ m.seq = f.seq then { m with sentAt := some s.now } else m)
    else y.msgs
  (s.setInsl k { y with sending := none, idleFrom := f.start + f.bits, msgs := ms }).inc .INS_TX_FRAME_CNT k

/-- Whether the last bit of a frame leaves the DAC in the current microsecond or has left it. -/
def State.frameOver (s : State) (k : Nat) (f : InsTxFrame) : Bool :=
  decide ((f.start + f.bits) * insBitLen (s.innerOn k) ≤ s.gridPos k (symbolsPerUs (s.innerOn k)))

/-- INS_TX_FRAME_DONE (R200): the frame in transmission, if any, ends once its last bit has been sent, and the next one is
chosen. -/
def execInsTxFrameDone (k : Fin 8) (s : State) : Outcome State Fault Refusal :=
  .next (
    let busy := match (s.insl k).sending with
      | none => false
      | some f => !(s.frameOver k f)
    if busy then s
    else
      let s := match (s.insl k).sending with
        | none => s
        | some f => s.insSent k f
      if s.throttling (dieOfLane k) then s.insPause k else s.insNext k)

/-- INS_ACK_TIMER (R200): an acknowledgement has waited 20 ms. -/
def execInsAckTimer (k : Fin 8) (s : State) : Outcome State Fault Refusal :=
  .next (if s.since (s.insl k).ackWait 20000 then s.setInsl k { s.insl k with linkDue := true } else s)

/-- INS_LINK_PERIOD (R200): 250 ms since the last LINK frame. -/
def execInsLinkPeriod (k : Fin 8) (s : State) : Outcome State Fault Refusal :=
  .next (if s.flag INS_CFG.INS_EN k ∧ 250000 ≤ s.now - (s.insl k).linkAt then
    s.setInsl k { s.insl k with linkIdle := true }
  else s)

/-! ## The island of the modems (R34) -/

/-- A die's insole island turns on with the first lane that has INS_EN. -/
def State.insIslandOn (s : State) (d : Nat) : State :=
  if (List.range' (4 * (d - 1)) 4).any (fun k => (s.mode.run.lane k).ins) then s.turnIsland (islandId d 0x04) .on else s

/-- A die's insole island turns off with the last lane that had INS_EN, and loses what it held; until the last lane has ramped out
(R217) it is in transition. -/
def State.insIslandOff (s : State) (d : Nat) : State :=
  let ks := List.range' (4 * (d - 1)) 4
  let id := islandId d 0x04
  if ks.any (fun k => (s.mode.run.lane k).ins) ∨ (s.island id ≠ .on ∧ s.island id ≠ .transition) then s
  else if ks.any (fun k => (s.insl k).rampUp.isSome) then s.turnIsland id .transition
  else
    let s := (s.turnIsland id .powerOff).wipe layout_ins d
    let s := ks.foldl (fun s k => (s.wipe layout_inslane k).setInsl k {}) s
    let base := (Block.ins d).base
    s.dropRange (base + 0x8000) (base + 0xC000)

/-- INS_RAMP_STEP (R196): a step of 62.5 µs of the amplitude ramp; the last one ends it. -/
def execInsRampStep (k : Fin 8) (s : State) : Outcome State Fault Refusal :=
  let y := s.insl k
  .next (match y.rampUp with
  | none => s
  | some up =>
    if 2 * (s.now - y.rampAt) < 125 * (y.rampStep + 1) then s
    else if y.rampStep < 15 then s.setInsl k { y with rampStep := y.rampStep + 1 }
    else
      let s := s.setInsl k { y with rampUp := none, rampStep := 0 }
      let s := (s.putFlag INS_STAT.RAMP false k).putFlag INS_STAT.TX_ON up k
      if s.applyTxn.isNone then s.insIslandOff (dieOfLane k) else s)

/-! ## Acquisition and capture (R202–R207) -/

/-- Whether the receiver tracks: SYNCED or UP. -/
def State.insTracks (s : State) (k : Nat) : Bool := s.insLink k == insSynced || s.insLink k == insUp

/-- Whether an offset in sQ9.6 ppm lies beyond the synthesiser's ±200 ppm (R203). -/
def fofsOut (x : Int) : Bool := decide (x < -12800) || decide (12800 < x)

/-- DETECT_THR in uQ8.8 dB. -/
def State.detectThr (s : State) (k : Nat) : Nat := 64 * s.fld INS_RX_CFG.DETECT_THR k

/-- CAPTURE_MARGIN in uQ8.8 dB: codes 1–64, others act as the nearest. -/
def State.captureMargin (s : State) (k : Nat) : Nat := 64 * clampN 1 64 (s.fld INS_RX_CFG.CAPTURE_MARGIN k)

/-- A lane's own RX_OK (R209): tracking, a good frame within the last 1 s, and no post-down hold. -/
def State.refreshRxOk (s : State) (k : Nat) : State :=
  let y := s.insl k
  s.setRxOk k (s.insTracks k && y.good.any (fun t => decide (s.now - t < 1000000)) && y.hold.isNone)

/-- The receiver enters SYNCED. -/
def State.insSync (s : State) (k : Nat) : State := (s.put INS_STAT.LINK insSynced k).refreshRxOk k

/-- The phase with the highest energy; the lowest phase among equals (DESIGN CHOICE, log entry 132). -/
def bestPhase (energy : List (BitVec 16)) : Nat × Nat :=
  (List.range energy.length).foldl (fun b i =>
    let e := (energy.getD i 0).toNat
    if b.2 < e then (i, e) else b) (0, 0)

/-- INS_CODE_DETECT (R202): the energies of the 254 code phases over a dwell, in uQ8.8 dB. The best phase, where its energy exceeds
DETECT_THR, becomes the tracked one. -/
def execInsCodeDetect (k : Fin 8) (energy : List (BitVec 16)) (s : State) : Outcome State Fault Refusal :=
  let best := bestPhase energy
  .next (if s.insLink k = insAcquiring ∧ (s.insl k).search = none ∧ fofsOut (s.sfld LRX_CDR_FOFS.FOFS k) = false ∧
      s.detectThr k < best.2 then
    (s.put INS_CODE_PHASE.PHASE best.1 k).insSync k
  else s)

/-- A frame starts at a detection. `arrival` is the time at which its first SYNC bit entered the ADC. -/
def State.insFrame (s : State) (k phase metric : Nat) (inverted : Bool) (arrival : Nat) : State :=
  let s := (s.put INS_CODE_PHASE.PHASE phase k).put INS_METRIC.FRAME metric k
  let s := s.setInsl k { s.insl k with arrival := arrival }
  (s.putFlag INS_STAT.INVERTED inverted k).putFlag INS_STAT.IN_FRAME true k

/-- The polarity at which the last 32 bits of a hit match SYNC within the tolerance, if they do (R205). -/
def State.hitPolarity (s : State) (k : Nat) (h : SyncHit) : Option Bool :=
  let bits := bitsWord (hardBits k h.chips)
  let tol := min 6 (s.fld INS_RX_CFG.SYNC_ERR_TOL k)
  if syncErrors bits false ≤ tol then some false
  else if syncErrors bits true ≤ tol then some true
  else none

/-- Whether the correlator's output at a phase is a sync detection (R205). -/
def State.hitCounts (s : State) (k : Nat) (h : SyncHit) : Bool :=
  (s.hitPolarity k h).isSome && decide (s.detectThr k ≤ h.metric.toNat)

/-- Of two detections in one bit, the one that wins: the higher metric, then the lower code phase (R207). -/
def SyncHit.better (a b : SyncHit) : SyncHit :=
  if a.metric.toNat < b.metric.toNat ∨ (a.metric = b.metric ∧ b.phase.val < a.phase.val) then b else a

/-- The detection of a bit, of the correlator's outputs at the end of it. -/
def State.syncHit (s : State) (k : Nat) (hits : List SyncHit) : Option SyncHit :=
  match hits.filter (fun h => s.hitCounts k h) with
  | [] => none
  | h :: hs => some (hs.foldl SyncHit.better h)

/-- The 32 bits of SYNC at the far end's rate, in 2^-16 ns of a die's counter: 208,076.8 ns by the receive synthesiser and by
TIME_FREQ (R192, R203, R222). -/
def State.syncTicks (s : State) (k : Nat) : Int :=
  let near := 13636521165 * 64000000 / (64000000 + (s.insl k).synth)
  near + near * s.sfld TIME_FREQ.FREQ (dieOfLane k) / (4096 * 1000000000)

/-- INS_SYNC_DETECT (R205–R207, R212): what the search correlator has at the end of a bit. While a frame is received, a detection
captures the receiver only with CAPTURE_MARGIN. -/
def execInsSyncDetect (k : Fin 8) (hits : List SyncHit) (s : State) : Outcome State Fault Refusal :=
  let old := s.fld INS_METRIC.FRAME k
  let d := dieOfLane k
  .next (if insAcquiring ≤ s.insLink k ∧ (s.insl k).search = none ∧
      (s.insLink k = insAcquiring → fofsOut (s.sfld LRX_CDR_FOFS.FOFS k) = false) then
    match s.syncHit k hits with
    | none => s
    | some h =>
      let metric := h.metric.toNat
      let inverted := s.hitPolarity k h == some true
      let arrival := s.stampAt d h.frac (h.err - s.syncTicks k)
      let s := if s.insLink k = insAcquiring then s.insSync k else s
      if s.flag INS_STAT.IN_FRAME k = false then s.insFrame k h.phase metric inverted arrival
      else if old + s.captureMargin k ≤ metric then
        let s := (s.inc .INS_SYNC_CAPTURED_CNT k).raise (INS_CAUSE.CAPTURED (k.val % 4)) d
        let s := s.logRate k 0x0903 sevInfo k old metric h.phase
        s.insFrame k h.phase metric inverted arrival
      else s
  else s)

/-- The fields of a HEADER word (R198). -/
def hdrType (h : W32) : Nat := getBits h 28 4
/-- RX_OK of a header. -/
def hdrRxOk (h : W32) : Bool := getBits h 27 1 == 1
/-- LEN of a header. -/
def hdrLen (h : W32) : Nat := getBits h 16 8

/-- Whether LEN is in the range for its TYPE; a reserved TYPE has no range and is found at the end of the frame. -/
def lenOk (h : W32) : Bool :=
  match hdrType h with
  | 1 => hdrLen h == 8
  | 2 => hdrLen h == 32
  | 3 => decide (8 ≤ hdrLen h) && decide (hdrLen h ≤ 248)
  | _ => true

/-- INS_HEADER_END (R199). -/
def execInsHeaderEnd (k : Fin 8) (header : W32) (s : State) : Outcome State Fault Refusal :=
  .next (if s.flag INS_STAT.IN_FRAME k ∧ lenOk header = false then
    (s.putFlag INS_STAT.IN_FRAME false k).inc .INS_HDR_ERR_CNT k
  else s)

/-- Acknowledgement by a far-end frame: every sent message whose SEQ the ACK is beyond completes (R214). -/
def State.insAck (s : State) (k ack : Nat) : State :=
  let beyond (m : InsMsg) : Bool := m.sends != 0 && decide ((ack + 255 - m.seq) % 256 < 128)
  let done := (s.insl k).msgs.filter beyond
  let s := s.setInsl k { s.insl k with msgs := (s.insl k).msgs.filter (fun m => !(beyond m)) }
  done.foldl (fun s m => s.insMsgDone k 0 m) s

/-- A MSG frame with a good CRC (R215). -/
def State.insMsgIn (s : State) (k seq : Nat) (payload : List Nat) : State :=
  let y := s.insl k
  if s.flag INS_CFG.MSG_EN k = false then s
  else if seq = y.expect then
    match y.freeRx with
    | [] => s.inc .INS_RX_DROP_CNT k
    | slot :: rest =>
      let s := s.storeSlot k slot payload
      let s := s.setInsl k { y with rx := y.rx ++ [⟨slot, payload.length, seq⟩], freeRx := rest, ackWait := some (y.ackWait.getD s.now),
                                    expect := (y.expect + 1) % 256 }
      let s := s.put INS_MSG_STAT.RX_FULL (bitsWhere (fun n => bitOf (s.fld INS_MSG_STAT.RX_FULL k) n || n == slot) 8) k
      s.raise (INS_CAUSE.MSG_RX (k % 4)) (dieOfLane k)
  else if (y.expect + 255 - seq) % 256 < 128 then s.setInsl k { y with ackWait := some (y.ackWait.getD s.now) }
  else s

/-- The link enters UP: message sequences restart at 0 (R209, R210). -/
def State.insGoUp (s : State) (k : Nat) : State :=
  let s := (s.put INS_STAT.LINK insUp k).put INS_MSG_STAT.NEXT_SEQ 0 k
  let s := s.setInsl k { s.insl k with expect := 0, mismatch := false, ackWait := none }
  (s.raise (INS_CAUSE.LINK_UP (k % 4)) (dieOfLane k)).log 0x0901 sevInfo k (s.fld INS_STAT.FAR_LANE k) (s.reg .INS_METRIC k).toNat

/-- A frame with a good CRC and a known TYPE: its content, then its effect on the link (R199, R209, R212, R214). -/
def State.insGoodFrame (s : State) (k : Nat) (h : W32) (payload : List Nat) (sigma : Nat) : State :=
  let s := s.inc .INS_RX_FRAME_CNT k
  let s := s.setInsl k { s.insl k with good := some s.now }
  let s := (s.putFlag INS_STAT.FAR_RX_OK (hdrRxOk h) k).put INS_MSG_STAT.FAR_CREDIT (getBits h 24 3) k
  let s :=
    if hdrType h = 1 then
      let f := payload.getD 1 0
      let s := s.put INS_STAT.FAR_LANE (payload.getD 0 0) k
      ((s.putFlag INS_STAT.FAR_MSG (bitOf f 0) k).putFlag INS_STAT.FAR_TTT (bitOf f 1) k).putFlag INS_STAT.FAR_RANGING (bitOf f 2) k
    else if hdrType h = 2 then
      let arrival := todBits ((s.insl k).arrival * 2 ^ 32)
      let s := s.setWide .INS_RX_TS (BitVec.ofNat 256 arrival) k
      let s := (s.put INS_RX_TS_Q.SIGMA sigma k).put INS_RX_TS_Q.TSEQ (payload.getD 24 0 + 256 * payload.getD 25 0) k
      (s.setInsl k { s.insl k with arr := s.timeRuns (dieOfLane k), far := payload }).exchange k arrival payload
    else s
  let s :=
    if s.insLink k = insSynced ∧ hdrRxOk h then s.insGoUp k
    else if s.insLink k = insUp ∧ hdrRxOk h = false then s.insLeave k insSynced 3 0x0229
    else s
  let s :=
    if s.insLink k = insUp then
      let s := s.insAck k (getBits h 0 8)
      if hdrType h = 3 then s.insMsgIn k (getBits h 8 8) payload else s
    else s
  s.refreshRxOk k

/-- SIGMA as it is recorded: 0.3 ns or less at a METRIC of 20 dB or more (R212). -/
def State.sigmaOf (s : State) (k sigma : Nat) : Nat := if 5120 ≤ s.fld INS_METRIC.FRAME k then min 300 sigma else sigma

/-- INS_FRAME_RECEIVED (R199): the frame's header, payload and received CRC, and, for a TIMING frame, the receiver's estimate of
the standard deviation of its arrival in ps. -/
def execInsFrameReceived (k : Fin 8) (header : W32) (payload : List (BitVec 8)) (crc : W32) (sigma : BitVec 16) (s : State) :
    Outcome State Fault Refusal :=
  let bytes := payload.map (fun b => b.toNat)
  .next (if s.flag INS_STAT.IN_FRAME k ∧ s.insTracks k ∧ lenOk header ∧ payload.length = hdrLen header then
    let s := s.putFlag INS_STAT.IN_FRAME false k
    if crc ≠ frameFcs header bytes then s.inc .INS_CRC_ERR_CNT k
    else if hdrType header = 0 ∨ 3 < hdrType header then s.inc .INS_HDR_ERR_CNT k
    else s.insGoodFrame k header bytes (s.sigmaOf k sigma.toNat)
  else s)

/-- The receiver returns to ACQUIRING, out of UP with reason 1. -/
def State.insReacquire (s : State) (k : Nat) : State :=
  ((s.insLeave k insAcquiring 1 0x0229).putFlag INS_STAT.IN_FRAME false k).refreshRxOk k

/-- INS_LOCK_LOSS (R204): TRACK below DETECT_THR − 3 dB for 64 consecutive bits. -/
def execInsLockLoss (k : Fin 8) (s : State) : Outcome State Fault Refusal :=
  .next (if s.insTracks k ∧ 64 ≤ (s.insl k).low then
    let s := (s.inc .INS_LOCK_LOSS_CNT k).insReacquire k
    s.insAcquire k
  else s)

/-- The first-order filter with a time constant of 0.1 s behind INS_FOFS, one bit of 6.5024 µs further, in 2^-32 of its code (R203;
the filter's order is the model's: DESIGN CHOICE, log entry 133). -/
def fofsFilter (acc offset : Int) : Int := acc + (offset * 2 ^ 32 - acc) * 65024 / 1000000000

/-- Since when a condition holds. -/
def sinceWhen (t : Option Nat) (now : Nat) (c : Bool) : Option Nat := if c then some (t.getD now) else none

/-- The tracked phase between frames is the one with the highest idle-bit energy, chosen anew every 64 bits (R202). -/
def State.insRetrack (s : State) (k : Nat) (energy : List (BitVec 16)) : State :=
  let y := s.insl k
  if s.flag INS_STAT.IN_FRAME k then s.setInsl k { y with bits := 0 }
  else if y.bits + 1 < 64 then s.setInsl k { y with bits := y.bits + 1 }
  else (s.put INS_CODE_PHASE.PHASE (bestPhase energy).1 k).setInsl k { y with bits := 0 }

/-- INS_FOFS_MEASURE (R202–R204), at the end of a bit: how far the far end's subcarrier lies from the synthesiser, in sQ9.6 ppm,
TRACK, and the idle-bit energies of the 254 phases. The offset goes into the synthesiser; one beyond its range ends the
tracking. -/
def execInsFofsMeasure (k : Fin 8) (apart track : BitVec 16) (energy : List (BitVec 16)) (s : State) :
    Outcome State Fault Refusal :=
  .next (if s.insTracks k then
    let offset := (s.insl k).synth + signed 16 apart.toNat
    if fofsOut offset then
      let s := (s.insReacquire k).insSeed k
      (s.raise (INS_CAUSE.FOFS (k.val % 4)) (dieOfLane k)).log 0x0904 sevWarn k (unsigned 16 (clampI (-32768) 32767 offset))
    else
      let acc := fofsFilter (s.insl k).fofsAcc offset
      let s := (s.put INS_FOFS.FOFS (unsigned 16 (roundShift acc 32)) k).put INS_METRIC.TRACK track.toNat k
      let low := decide ((track.toNat : Int) < s.detectThr k - 768)
      let far := decide (128 < (s.sfld INS_FOFS.FOFS k - s.sfld LRX_CDR_FOFS.FOFS k).natAbs)
      let s := s.setInsl k { s.insl k with
        synth := offset, fofsAcc := acc, low := if low then (s.insl k).low + 1 else 0,
        apart := sinceWhen (s.insl k).apart s.now far }
      s.insRetrack k energy
  else s)

/-- INS_FOFS_MISMATCH (R203): a difference of over 2 ppm for 1 s, reported once per link-up. -/
def execInsFofsMismatch (k : Fin 8) (s : State) : Outcome State Fault Refusal :=
  .next (if s.insTracks k ∧ s.since (s.insl k).apart 1000000 then
    let s := s.raise (INS_CAUSE.FOFS (k.val % 4)) (dieOfLane k)
    if (s.insl k).mismatch then s
    else
      (s.setInsl k { s.insl k with mismatch := true }).log 0x0908 sevWarn k (s.reg .INS_FOFS k).toNat
        (s.reg .LRX_CDR_FOFS k).toNat
  else s)

/-- INS_RX_TIMEOUT (R209): no good frame for 1 s. -/
def execInsRxTimeout (k : Fin 8) (s : State) : Outcome State Fault Refusal :=
  .next (if s.since (s.insl k).good 1000000 then
    let s := s.setInsl k { s.insl k with good := none }
    let s := if s.insLink k = insUp then s.insLeave k insSynced 2 0x0229 else s
    s.refreshRxOk k
  else s)

/-- INS_HOLD_END (R209): the post-down hold of 500 ms is over. -/
def execInsHoldEnd (k : Fin 8) (s : State) : Outcome State Fault Refusal :=
  .next (if s.since (s.insl k).hold 500000 then
    let s := (s.setInsl k { s.insl k with hold := none }).putFlag INS_STAT.HOLD false k
    s.refreshRxOk k
  else s)

/-! ## Messages (R213–R216) -/

/-- A message that has waited 250 ms for its acknowledgement since the end of its latest send. -/
def State.unheard (s : State) (m : InsMsg) : Bool := m.sends != 0 && s.since m.sentAt 250000

/-- The first message for which `f` holds and every later one that has been sent are to be sent again. -/
def resendFrom (f : InsMsg → Bool) : List InsMsg → List InsMsg
  | [] => []
  | m :: ms =>
    if f m then (m :: ms).map (fun x => if x.sends = 0 then x else { x with due := true, sentAt := none })
    else m :: resendFrom f ms

/-- INS_MSG_RETX (R214, R216): a message is unacknowledged 250 ms after the end of its latest send. It and every later one already
sent are sent again; at its fourth send it fails and the link drops. -/
def execInsMsgRetx (k : Fin 8) (s : State) : Outcome State Fault Refusal :=
  .next (match (s.insl k).msgs.find? (fun m => s.unheard m) with
  | none => s
  | some m =>
    if m.sends < 4 then s.setInsl k { s.insl k with msgs := resendFrom (fun m => s.unheard m) (s.insl k).msgs }
    else
      let s := s.setInsl k { s.insl k with msgs := (s.insl k).msgs.filter (fun x => !(x.same m)) }
      let s := s.insMsgDone k 0x0602 m
      (s.insLeave k insSynced 5 0x0229).refreshRxOk k)

/-- INS_CREDIT_TIMEOUT (R216): the oldest message never sent, 400 ms after its acceptance, while the far end advertises no room
for it. -/
def execInsCreditTimeout (k : Fin 8) (s : State) : Outcome State Fault Refusal :=
  .next (match (s.insl k).msgs.find? (fun m => m.sends == 0 && decide (400000 ≤ s.now - m.since)) with
  | none => s
  | some m =>
    if (s.insl k).unacked < s.fld INS_MSG_STAT.FAR_CREDIT k then s
    else
      let s := s.setInsl k { s.insl k with msgs := (s.insl k).msgs.filter (fun x => !(x.same m)) }
      s.insMsgDone k 0x0603 m)

/-- Whether a message slot accepts a write (R213): a transmit slot of a lane with MSG_EN, in no send. -/
def State.slotOpen (s : State) (k : Nat) (receive : Bool) (slot : Nat) : Bool :=
  s.flag INS_CFG.MSG_EN k && !receive && !(bitOf (s.fld INS_MSG_STAT.TX_BUSY k) slot)

/-- INS_MSG_SEND but for MSG_DONE: a slot handed to the lane wakes a dozing transmit direction (R214, R217). -/
def sendMessage : Handler := fun p t s =>
  let k := p.byte 0
  let slot := p.byte 1
  let len := p.byte 2
  if 7 < k ∨ 7 < slot ∨ len < 8 ∨ 248 < len ∨ p.zeroFrom 3 = false then (fieldRange, s)
  else if s.applyHoldsLine k then (failWith 0x0302, s)
  else if s.flag INS_CFG.INS_EN k = false ∨ s.flag INS_CFG.MSG_EN k = false then (failWith 0x0228, s)
  else if s.insLink k ≠ insUp then (failWith 0x0229, s)
  else if s.flag INS_STAT.FAR_MSG k = false then (failWith 0x022A, s)
  else if bitOf (s.fld INS_MSG_STAT.TX_BUSY k) slot then (failWith 0x030A, s)
  else if s.flag INS_STAT.TX_PAUSED k then (failWith 0x030B, s)
  else
    let s := s.setInsl k { s.insl k with msgs := (s.insl k).msgs ++ [{ slot := slot, len := len, waiter := t, since := s.now }] }
    let s := s.put INS_MSG_STAT.TX_BUSY (bitsWhere (fun n => bitOf (s.fld INS_MSG_STAT.TX_BUSY k) n || n == slot) 8) k
    (.later, s.wakeLineTx k)

/-- INS_MSG_SEND (R216): MSG_DONE sets at every completion, a refusal among them, where the command names a lane whose modem's
registers are there. -/
def cmdMsgSend : Handler := fun p t s =>
  let k := p.byte 0
  match sendMessage p t s with
  | (.later, s) => (.later, s)
  | (r, s) =>
    (r, if k ≤ 7 ∧ s.island (islandId (dieOfLane k) 0x04) = .on then s.raise (INS_CAUSE.MSG_DONE (k % 4)) (dieOfLane k) else s)

/-- INS_MSG_RECV: the oldest stored message. -/
def cmdMsgRecv : Handler := fun p _ s =>
  let k := p.byte 0
  if 7 < k ∨ p.zeroFrom 1 = false then (fieldRange, s)
  else if s.applyHoldsLine k then (failWith 0x0302, s)
  else if s.flag INS_CFG.INS_EN k = false ∨ s.flag INS_CFG.MSG_EN k = false then (failWith 0x0228, s)
  else
    match (s.insl k).rx with
    | [] => (okWith 0, s)
    | m :: _ => (okWith (m.slot + 256 * m.len + 65536 * m.seq + 2 ^ 31), s)

/-- INS_MSG_RELEASE. -/
def cmdMsgRelease : Handler := fun p _ s =>
  let k := p.byte 0
  let slot := p.byte 1
  if 7 < k ∨ 7 < slot ∨ p.zeroFrom 2 = false then (fieldRange, s)
  else if s.applyHoldsLine k then (failWith 0x0302, s)
  else if s.flag INS_CFG.INS_EN k = false ∨ s.flag INS_CFG.MSG_EN k = false then (failWith 0x0228, s)
  else if (s.insl k).rx.any (fun m => m.slot == slot) then
    let y := s.insl k
    let s := s.setInsl k { y with rx := y.rx.filter (fun m => m.slot != slot), freeRx := y.freeRx ++ [slot] }
    (okWith, s.put INS_MSG_STAT.RX_FULL (bitsWhere (fun n => bitOf (s.fld INS_MSG_STAT.RX_FULL k) n && n != slot) 8) k)
  else (fieldRange, s)

/-- INS_STATUS. -/
def cmdInsStatus : Handler := fun p _ s =>
  let k := p.byte 0
  if 7 < k ∨ p.zeroFrom 1 = false then (fieldRange, s)
  else if s.applyHoldsLine k then (failWith 0x0302, s)
  else if s.flag INS_CFG.INS_EN k = false then (failWith 0x0228, s)
  else (okWith (s.reg .INS_STAT k).toNat (s.reg .INS_METRIC k).toNat, s)

/-- INS_SET_PARAM (R218). -/
def cmdInsSetParam : Handler := fun p _ s =>
  let k := p.byte 0
  let d := p.byte 1
  let v := p.wordAt 4
  if 7 < k ∨ (d ≠ 0 ∧ (d < 48 ∨ 64 < d)) ∨ p.half 2 ≠ 0 ∨ v / 2 ^ 24 ≠ 0 ∨ bitsOf v 3 5 ≠ 0 ∨ p.zeroFrom 8 = false then
    (fieldRange, s)
  else if s.applyHoldsLine k then (failWith 0x0302, s)
  else if s.flag INS_CFG.INS_EN k = false then (failWith 0x0228, s)
  else
    let s := s.setReg .INS_RX_CFG (BitVec.ofNat 32 v) k
    let s := if d = 0 then s else (s.put INS_TX_CFG.DEPTH d k).refreshAmp k
    (okWith (s.reg .INS_TX_AMP k).toNat, s)

/-- INS_SEARCH: the receiver receives no frames meanwhile (R219). -/
def cmdInsSearch : Handler := fun p t s =>
  let k := p.byte 0
  if 7 < k ∨ p.zeroFrom 1 = false then (fieldRange, s)
  else if s.applyHoldsLine k then (failWith 0x0302, s)
  else if s.flag INS_CFG.INS_EN k = false then (failWith 0x0228, s)
  else if s.flag LRX_STAT.CDR_LOCK k = false then (failWith 0x022B, s)
  else if (s.insl k).search.isSome then (failWith 0x030C, s)
  else (.later, (s.setInsl k { s.insl k with search := some t, searchAt := s.now }).putFlag INS_STAT.IN_FRAME false k)

/-- INS_MSG_SEND (R219). -/
def execInsMsgSend (e : Fin 256) (s : State) : Outcome State Fault Refusal := .next (s.runCmd e 0x09 0x01 cmdMsgSend)

/-- INS_MSG_RECV (R219). -/
def execInsMsgRecv (e : Fin 256) (s : State) : Outcome State Fault Refusal := .next (s.runCmd e 0x09 0x02 cmdMsgRecv)

/-- INS_MSG_RELEASE (R215, R219). -/
def execInsMsgRelease (e : Fin 256) (s : State) : Outcome State Fault Refusal := .next (s.runCmd e 0x09 0x03 cmdMsgRelease)

/-- INS_STATUS (R219). -/
def execInsStatus (e : Fin 256) (s : State) : Outcome State Fault Refusal := .next (s.runCmd e 0x09 0x04 cmdInsStatus)

/-- INS_SET_PARAM (R218, R219). -/
def execInsSetParam (e : Fin 256) (s : State) : Outcome State Fault Refusal := .next (s.runCmd e 0x09 0x05 cmdInsSetParam)

/-- INS_SEARCH (R219). -/
def execInsSearch (e : Fin 256) (s : State) : Outcome State Fault Refusal := .next (s.runCmd e 0x09 0x06 cmdInsSearch)

/-- INS_SEARCH_DONE (R219): each of the eight sequences has been correlated for 20 ms; the operand is their metrics in uQ8.8 dB.
Between equal metrics the lower sequence is named as the strongest (DESIGN CHOICE, log entry 132). -/
def execInsSearchDone (k : Fin 8) (metrics : List (BitVec 16)) (s : State) : Outcome State Fault Refusal :=
  .next (match (s.insl k).search with
  | none => s
  | some t =>
    if s.now - (s.insl k).searchAt < 160000 then s
    else
      let found := bitsWhere (fun n => decide (s.detectThr k < (metrics.getD n 0).toNat)) 8
      let best := bestPhase metrics
      let s := s.setInsl k { s.insl k with search := none }
      let s := if insAcquiring ≤ s.insLink k then (s.insReacquire k).insAcquire k else s
      s.finish t ⟨0, found, best.1 + 65536 * best.2⟩)

/-! ## What a mode does to a modem (R58, R62, R217) -/

/-- The modem stops with its port's DOWN or its lane's LPLL: the transmitter stops until the output is next released, messages
complete with 0x0229 and the receiver waits for clock recovery. -/
def State.insDown (s : State) (k : Nat) : State :=
  if s.insLink k = insOff then s
  else
    let s := (s.insRxStop k).insFlush k 0x0229
    let s := s.setInsl k { s.insl k with rampUp := none, rampStep := 0, sending := none, stopped := true }
    (s.putFlag INS_STAT.TX_ON false k).putFlag INS_STAT.RAMP false k

/-- A frame in transmission is cut: the transmitter idles from the next bit boundary on. -/
def State.insCut (s : State) (k : Nat) : State :=
  if (s.insl k).sending.isSome then s.setInsl k { s.insl k with sending := none, idleFrom := s.nextBit k } else s

/-- INS_EN is cleared: the transmitter ramps out, cutting any frame, the link is OFF with reason 6, messages complete with 0x0228
and so does a sequence search (of the search the spec states nothing: DESIGN CHOICE, log entry 134). -/
def State.insDisable (s : State) (k : Nat) : State :=
  if s.insLink k = insOff then s
  else
    let s := s.insLeave k insOff 6 0x0228
    let s := (s.insFlush k 0x0228).putFlag INS_STAT.IN_FRAME false k
    let s := match (s.insl k).search with
      | some t => (s.setInsl k { s.insl k with search := none }).finish t ⟨0x0228, 0, 0⟩
      | none => s
    let s := s.insCut k
    let s := (s.setInsl k { s.insl k with arr := false, stopped := false }).setRxOk k false
    s.insRamp k false

/-- INS_EN is set, or the port comes out of DOWN: the receiver waits for clock recovery or searches. A transmitter that is newly
enabled starts its chip grid and ramps in unless the die throttles; one that has stopped waits for its output's release. -/
def State.insEnable (s : State) (k : Nat) : State :=
  let new := s.insLink k == insOff
  let s := if new then s.put INS_STAT.LINK insWaitCdr k else s
  let s := (s.insRxStart k).refreshAmp k
  if (s.insl k).stopped ∨ new = false then s
  else
    let s := s.startGrid k
    if s.throttling (dieOfLane k) then s.insPause k else s.insRamp k true

end Sys2Proof.Machine
end

