-- ==== Sys2Proof/Machine/Image.lean ====
section
/-!
DEFINITION. Sys2Proof/Machine/Image.lean: staging descriptors (R47–R49, R53), the classes of change (R62) and the checks
of a staged image (R54).
-/

namespace Sys2Proof.Machine

/-! ## Descriptors (R47–R50, R53) -/

/-- The port descriptor of a MODE_STAGE_PORT, with the port it names; none where a field check fails. -/
def Params.portDesc (p : Params) : Option (Nat × PortDesc) :=
  let f := p.byte 5
  let d : PortDesc :=
    { size := p.byte 3, hostGroup := p.byte 4, inner := bitOf f 0, fecTerm := bitOf f 1, frameView := bitOf f 2
      txEn := bitOf f 3, allowDisrupt := bitOf f 4, timeMode := p.byte 6, deskew := p.byte 7, loopback := p.byte 8 }
  if 7 < p.byte 2 ∨ 3 < d.size ∨ 15 < d.hostGroup ∨ 31 < f ∨ 2 < d.timeMode ∨ 8 < d.deskew ∨ 4 < d.loopback ∨
      p.zeroFrom 9 = false then none
  else if d.size = 0 ∧ d ≠ { allowDisrupt := d.allowDisrupt } then none
  else if d.size = 1 ∧ d.deskew ≠ 0 then none
  else if 1 < d.size ∧ d.deskew = 0 then none
  else some (p.byte 2, d)

/-- An ID of a program set (R51). -/
def definedSet (n : Nat) : Bool := (decide (1 ≤ n) && decide (n ≤ 4)) || isSetId n

/-- The lane descriptor of a MODE_STAGE_LANE: whether it is a host lane's, the lane, and the descriptor. -/
def Params.laneDesc (p : Params) : Option (Bool × Nat × LaneDesc) :=
  let b := p.byte 2
  let host := bitOf b 7
  let k := b % 32
  let d : LaneDesc :=
    { sd := bitOf (p.byte 3) 0, vnle := bitOf (p.byte 3) 1, progSet := p.byte 4, duty := p.byte 5
      ins := bitOf (p.byte 6) 0, msg := bitOf (p.byte 6) 1, ttt := bitOf (p.byte 6) 2, fibre := p.byte 7
      txPattern := p.byte 8, rxCheck := p.byte 9, dozeRx := p.wordAt 12, dozeTx := p.wordAt 16 }
  if bitsOf b 5 2 ≠ 0 ∨ 3 < p.byte 3 ∨ 7 < p.byte 6 ∨ p.half 10 ≠ 0 ∨ p.zeroFrom 20 = false then none
  else if 10000 < d.dozeRx ∨ 10000 < d.dozeTx then none
  else if host then
    if 15 < k ∨ 4 < d.txPattern ∨ 4 < d.rxCheck ∨
        d ≠ { txPattern := d.txPattern, rxCheck := d.rxCheck, dozeRx := d.dozeRx, dozeTx := d.dozeTx } then none
    else some (true, k, d)
  else if 7 < k ∨ definedSet d.progSet = false ∨ 2 < d.duty ∨ (7 < d.fibre ∧ d.fibre ≠ 0xFF) ∨ 3 < d.txPattern ∨
      3 < d.rxCheck then none
  else some (false, k, d)

/-- The staging layout of a port descriptor. -/
def portBits (txn n : Nat) (d : PortDesc) : Nat :=
  txn + n * 2 ^ 16 + d.size * 2 ^ 24 + d.hostGroup * 2 ^ 32 +
    (b2n d.inner + 2 * b2n d.fecTerm + 4 * b2n d.frameView + 8 * b2n d.txEn + 16 * b2n d.allowDisrupt) * 2 ^ 40 +
    d.timeMode * 2 ^ 48 + d.deskew * 2 ^ 56 + d.loopback * 2 ^ 64

/-- The staging layout of a lane descriptor. -/
def laneBits (txn : Nat) (host : Bool) (n : Nat) (d : LaneDesc) : Nat :=
  txn + (n + 128 * b2n host) * 2 ^ 16 + (b2n d.sd + 2 * b2n d.vnle) * 2 ^ 24 + d.progSet * 2 ^ 32 + d.duty * 2 ^ 40 +
    (b2n d.ins + 2 * b2n d.msg + 4 * b2n d.ttt) * 2 ^ 48 + d.fibre * 2 ^ 56 + d.txPattern * 2 ^ 64 + d.rxCheck * 2 ^ 72 +
    d.dozeRx * 2 ^ 96 + d.dozeTx * 2 ^ 128

/-- The descriptor of a kind and number in an image, in its staging layout (R55, MODE_READ). -/
def Image.descBits (m : Image) (txn kind n : Nat) : Option Nat :=
  match kind with
  | 1 => if n < 8 then some (portBits txn n (m.port n)) else none
  | 2 => if n < 8 then some (laneBits txn false n (m.lane n)) else none
  | 3 => if n < 16 then some (laneBits txn true n (m.hlane n)) else none
  | 4 => if n < 2 then some (txn + n * 2 ^ 16 + b2n (m.early.getD n false) * 2 ^ 24) else none
  | 5 => if n < 8 then some (txn + n * 2 ^ 16 + b2n (m.ranging.getD n false) * 2 ^ 24) else none
  | _ => none

/-! ## Classes of change (R62) -/

/-- The most severe class of a port that exists in `a`: 0 unchanged, 1 HITLESS, 2 HIT, 3 DOWN. -/
def portClass (a b : Image) (p : Nat) : Nat :=
  let x := a.port p
  let y := b.port p
  let pattern (u v : LaneDesc) : Bool := u.txPattern != v.txPattern || u.rxCheck != v.rxCheck
  if x.size ≠ y.size ∨ x.hostGroup ≠ y.hostGroup ∨ x.inner ≠ y.inner ∨ x.loopback ≠ y.loopback ∨
      (x.txEn ∧ y.txEn = false) ∨ (b.lineLanes p).any (fun k => pattern (a.lane k) (b.lane k)) ∨
      (b.hostLanes p).any (fun j => pattern (a.hlane j) (b.hlane j)) then 3
  else if x.fecTerm ≠ y.fecTerm ∨ x.frameView ≠ y.frameView ∨ x.deskew ≠ y.deskew ∨
      (b.lineLanes p).any (fun k => (a.lane k).sd != (b.lane k).sd) then 2
  else if x.txEn ≠ y.txEn ∨ x.timeMode ≠ y.timeMode ∨ (b.lineLanes p).any (fun k => a.lane k != b.lane k) ∨
      (b.hostLanes p).any (fun j => a.hlane j != b.hlane j) then 1
  else 0

/-- The bitmap of the existing ports of a class. -/
def classMap (a b : Image) (c : Nat) : Nat := bitsWhere (fun p => (a.port p).size != 0 && portClass a b p == c) 8

/-- The bitmap of NEW ports. -/
def newMap (a b : Image) : Nat := bitsWhere (fun p => (a.port p).size == 0 && (b.port p).size != 0) 8

/-! ## Validation (R54) -/

/-- A failed check: its status code, the object's kind and number, and the detail. -/
def checkFail (code kind n detail : Nat) : Option Reply := some ⟨code, kind + 256 * n, detail⟩

/-- The first object of a list at which a check fails. -/
def firstFail (xs : List Nat) (f : Nat → Option Reply) : Option Reply := xs.findSome? f

/-- Check 1: a port's number and host group. -/
def Image.checkPort (m : Image) (p : Nat) : Option Reply :=
  let n := sizeLanes (m.port p).size
  if p % n ≠ 0 ∨ (m.port p).hostGroup % (2 * n) ≠ 0 then checkFail 0x0201 1 p 0xFF
  else
    let earlier := m.portList.filter (fun q => decide (q < p))
    match (m.lineLanes p).find? (fun k => earlier.any (fun q => (m.lineLanes q).contains k)) with
    | some k => checkFail 0x0201 1 p k
    | none =>
      match (m.hostLanes p).find? (fun j => earlier.any (fun q => (m.hostLanes q).contains j)) with
      | some j => checkFail 0x0201 1 p j
      | none => none

/-- Crossing host lanes of the ports up to `p`. -/
def Image.slotsUpTo (m : Image) (p : Nat) : Nat :=
  ((m.portList.filter (fun q => decide (q ≤ p) && m.crossing q)).map (fun q => (m.hostLanes q).length)).sum

/-- Check 5: a test setting of a port with time correction. -/
def Image.checkTest (m : Image) (p : Nat) : Option Reply :=
  let test (d : LaneDesc) : Bool := d.txPattern != 0 || d.rxCheck != 0
  if (m.port p).timeMode = 0 then none
  else if (m.port p).loopback ≠ 0 then checkFail 0x0205 1 p 0xFF
  else
    match (m.lineLanes p).find? (fun k => test (m.lane k)) with
    | some k => checkFail 0x0205 1 p k
    | none =>
      match (m.hostLanes p).find? (fun j => test (m.hlane j)) with
      | some j => checkFail 0x0205 1 p j
      | none => none

/-- The member lanes of a fibre group in an image, with INS_EN. -/
def Image.insMembers (m : Image) (g : Nat) : List Nat :=
  (List.range 8).filter (fun k => (m.lane k).fibre == g && (m.lane k).ins)

/-- Whether a lane belongs to a fibre group with RANGING_EN. -/
def Image.ranged (m : Image) (k : Nat) : Bool := m.ranging.getD (m.lane k).fibre false

/-- Granules that the ports of a core die require. -/
def Image.granules (m : Image) (d : Nat) : Nat :=
  ((m.portList.filter (fun p => dieOfPort p == d)).map (fun p => (granulePlan (m.port p) (m.crossing p)).length)).sum

/-- Whether every line lane of a die has VNLE_EN and RACK_DUTY FULL (check 13). -/
def Image.fullVnle (m : Image) (d : Nat) : Bool :=
  (List.range' (4 * (d - 1)) 4).all (fun k => (m.lane k).vnle && (m.lane k).duty == 0)

/-- Whether a program set is built in or loaded. -/
def State.setPresent (s : State) (id : Nat) : Bool := (decide (1 ≤ id) && decide (id ≤ 4)) || s.psets.any (fun p => p.id == id)

/-- Whether a set is built in, or verified under a registered key. -/
def State.setAuthentic (s : State) (id : Nat) : Bool :=
  (decide (1 ≤ id) && decide (id ≤ 4)) || s.psets.any (fun p => p.id == id && p.authentic)

/-- The 15 checks in order, each the first failure it finds. -/
def State.checks (s : State) (a m : Image) : List (Option Reply) :=
  let ports := m.portList
  let lanes := List.range 8
  let used := lanes.filter (fun k => (m.portOfLine k).isSome)
  let groups := lanes.filter (fun g => m.ranging.getD g false)
  let slots := m.slotsUpTo 7
  [ firstFail ports (fun p => m.checkPort p),
    firstFail ports (fun p => if 8 < m.slotsUpTo p then checkFail 0x0202 1 p slots else none),
    firstFail ports (fun p => if (m.port p).frameView ∧ (m.port p).fecTerm = false then checkFail 0x0203 1 p 0 else none),
    firstFail ports (fun p => if (m.port p).timeMode ≠ 0 ∧ (m.port p).frameView = false then checkFail 0x0204 1 p 0 else none),
    firstFail ports (fun p => m.checkTest p),
    firstFail lanes (fun k =>
      let l := m.lane k
      if (l.sd ∧ s.psetSd l.progSet = false) ∨ (l.vnle ∧ s.psetVnle l.progSet = false) then checkFail 0x0206 2 k l.progSet
      else none),
    firstFail used (fun k => if s.setPresent (m.lane k).progSet then none else checkFail 0x0207 2 k (m.lane k).progSet),
    firstFail used (fun k => if s.setAuthentic (m.lane k).progSet then none else checkFail 0x0501 2 k (m.lane k).progSet),
    firstFail lanes (fun k =>
      let l := m.lane k
      if (l.ins ∧ (m.portOfLine k).isNone) ∨ ((l.msg ∨ l.ttt) ∧ l.ins = false) then checkFail 0x0208 2 k k else none),
    firstFail groups (fun g => if (m.insMembers g).length < 3 then checkFail 0x0209 5 g (m.insMembers g).length else none),
    firstFail groups (fun g =>
      match (m.insMembers g).find? (fun k => (s.time.wl.getD k none).isNone) with
      | some k => checkFail 0x020A 5 g k
      | none => none),
    firstFail lanes (fun k =>
      let l := m.lane k
      if (l.ttt ∨ m.ranged k) ∧ (l.dozeRx ≠ 0 ∨ l.dozeTx ≠ 0) then checkFail 0x020B 2 k k else none),
    firstFail [0, 1] (fun d =>
      let w := s.fld THM_ZONE_CFG.WARN 0 d
      if m.fullVnle (d + 1) ∧ (m.early.getD d false = false ∨ 100 < w ∨ s.flag THM_ZONE_CFG.WARN_EN 0 d = false) then
        checkFail 0x020C 4 d w
      else none),
    firstFail [0, 1] (fun d =>
      if 384 < m.granules (d + 1) + s.poolFenced (d + 1) then checkFail 0x020D 4 d (m.granules (d + 1)) else none),
    firstFail a.portList (fun p =>
      let c := portClass a m p
      if 2 ≤ c ∧ (m.port p).allowDisrupt = false then checkFail 0x020E 1 p (c - 1) else none) ]

/-- Validation of an image against the active one: the first failure, or the DOWN and HIT bitmaps. -/
def State.validate (s : State) (m : Image) : Reply :=
  let a := s.mode.active
  match (s.checks a m).findSome? id with
  | some r => r
  | none => ⟨0, classMap a m 3, classMap a m 2⟩

end Sys2Proof.Machine
end

