-- ==== Sys2Proof/Machine/Modes.lean ====
section
/-!
DEFINITION. Sys2Proof/Machine/Modes.lean: mode transactions and their application (R45, R55–R66).
-/

namespace Sys2Proof.Machine

open Host

/-! ## Device state (R397) -/

/-- States of R397: BOOT. -/
def pwrBoot : Nat := 1
/-- LOW_POWER. -/
def pwrLow : Nat := 2
/-- READY. -/
def pwrReady : Nat := 3
/-- ACTIVE. -/
def pwrActive : Nat := 4
/-- FAULT. -/
def pwrFault : Nat := 5

/-- The device state. -/
def State.pwrState (s : State) : Nat := s.fld PWR_STATE.STATE

/-- Change the device state: cause and event (R421). -/
def State.toPwr (s : State) (st : Nat) : State :=
  let old := s.pwrState
  if old = st then s
  else ((s.put PWR_STATE.STATE st).raise PWR_CAUSE.STATE).log 0x0101 sevInfo old st

/-! ## The open transaction (R56, R57) -/

/-- Replace the open transaction. -/
def State.setTxn (s : State) (t : Option Txn) : State := { s with mode := { s.mode with txn := t } }

/-- What a command that names a transaction meets: a status code, or the open transaction. A transaction that expired
answers once with 0x0601. -/
def State.named (s : State) (id : Nat) : Except Nat Txn × State :=
  if s.mode.expired.contains id then
    (.error 0x0601, { s with mode := { s.mode with expired := s.mode.expired.filter (fun x => x != id) } })
  else
    match s.mode.txn with
    | some t => if t.id = id then (.ok t, s) else (.error 0x0102, s)
    | none => (.error 0x0102, s)

/-- Whether an apply is running. -/
def State.applying (s : State) : Bool :=
  match s.mode.txn with
  | some t => t.st == .applying
  | none => false

/-- The command part shared by staging, validation, apply and abort: refused during an apply and unless TXN names the open
transaction; the commands of R57 restart its 10 s. -/
def State.inTxn (s : State) (p : Params) (touch : Bool) (f : Txn → State → Answer × State) : Answer × State :=
  if s.applying then (failWith 0x0302, s)
  else
    match s.named (p.half 0) with
    | (.error c, s) => (failWith c, s)
    | (.ok t, s) =>
      let t := if touch then { t with touched := s.now } else t
      f t (s.setTxn (some t))

/-- The part shared by the staging commands (R53, R56): whatever its descriptor, one that names the open transaction returns it
to OPEN; a descriptor in range replaces the staged image. -/
def State.staging (s : State) (p : Params) (f : Image → Option Image) : Answer × State :=
  s.inTxn p true fun t s =>
    match f t.staged with
    | none => (fieldRange, s.setTxn (some { t with st := .opened }))
    | some m => (okWith, s.setTxn (some { t with staged := m, st := .opened }))

/-- MODE_BEGIN. With non-zero parameters while a transaction is OPEN or VALIDATED, 0x0101 comes before 0x0301 (DESIGN CHOICE,
log entry 35). -/
def cmdModeBegin : Handler := fun p _ s =>
  if s.applying then (failWith 0x0302, s)
  else if p.zeroFrom 0 = false then (fieldRange, s)
  else if s.mode.txn.isSome then (failWith 0x0301, s)
  else
    let id := s.mode.lastId % 0xFFFF + 1
    let s := { s with mode := { s.mode with lastId := id, txn := some { id := id, staged := s.mode.active, touched := s.now } } }
    (okWith id, s)

/-- MODE_STAGE_PORT (R47). -/
def cmdStagePort : Handler := fun p _ s =>
  s.staging p fun m => p.portDesc.map fun (n, d) => { m with ports := m.ports.set n d }

/-- MODE_STAGE_LANE (R48). -/
def cmdStageLane : Handler := fun p _ s =>
  s.staging p fun m => p.laneDesc.map fun (host, n, d) =>
    if host then { m with host := m.host.set n d } else { m with line := m.line.set n d }

/-- MODE_STAGE_DIE (R49). -/
def cmdStageDie : Handler := fun p _ s =>
  s.staging p fun m =>
    if 1 < p.byte 2 ∨ 1 < p.byte 3 ∨ p.zeroFrom 4 = false then none
    else some { m with early := m.early.set (p.byte 2) (p.byte 3 == 1) }

/-- MODE_STAGE_FIBRE (R49). -/
def cmdStageFibre : Handler := fun p _ s =>
  s.staging p fun m =>
    if 7 < p.byte 2 ∨ 1 < p.byte 3 ∨ p.zeroFrom 4 = false then none
    else some { m with ranging := m.ranging.set (p.byte 2) (p.byte 3 == 1) }

/-- Whether the device state permits validation and apply (R399). -/
def State.modeReady (s : State) : Bool := s.pwrState == pwrReady || s.pwrState == pwrActive

/-- A rejected validation or apply (R65): the transaction is OPEN. -/
def State.rejected (s : State) (t : Txn) (r : Reply) : State :=
  (s.setTxn (some { t with st := .opened })).log 0x1502 sevInfo t.id r.status r.r0 r.r1

/-- MODE_VALIDATE (R54). -/
def cmdModeValidate : Handler := fun p _ s =>
  s.inTxn p true fun t s =>
    if p.zeroFrom 2 = false then (fieldRange, s)
    else if s.modeReady = false then (failWith 0x0243, s)
    else
      let r := s.validate t.staged
      if r.status ≠ 0 then (.done r, s.rejected t r) else (.done r, s.setTxn (some { t with st := .validated }))

/-- MODE_ABORT. -/
def cmdModeAbort : Handler := fun p _ s =>
  s.inTxn p false fun _ s => if p.zeroFrom 2 = false then (fieldRange, s) else (okWith, s.setTxn none)

/-- MODE_READ: 8 bytes of a descriptor. -/
def cmdModeRead : Handler := fun p _ s =>
  let part := p.byte 5
  let answer (m : Image) (s : State) : Answer × State :=
    match m.descBits (p.half 0) (p.byte 3) (p.byte 4) with
    | none => (fieldRange, s)
    | some d => (okWith (bitsOf d (64 * part) 32) (bitsOf d (64 * part + 32) 32), s)
  if 1 < p.byte 2 ∨ 2 < part ∨ p.zeroFrom 6 = false then (fieldRange, s)
  else if p.byte 2 = 0 then if p.half 0 ≠ 0 then (fieldRange, s) else answer s.mode.active s
  else
    match s.named (p.half 0) with
    | (.error c, s) => (failWith c, s)
    | (.ok t, s) => answer t.staged s

/-- MODE_PORT_STATUS. -/
def cmdModePortStatus : Handler := fun p _ s =>
  if 7 < p.byte 0 ∨ p.zeroFrom 1 = false then (fieldRange, s)
  else (okWith (s.port (p.byte 0)).st (s.port (p.byte 0)).reason, s)

/-! ## Values from the calibration store (R371) -/

/-- Word `n` of an entry of the store, or none where it holds no such entry. -/
def State.calWord (s : State) (kind index n : Nat) : Option W32 :=
  (s.cal.entries.find? (fun e => e.kind == kind && e.index == index)).map
    (fun e => BitVec.ofNat 32 (leNat ((e.data.drop (4 * n)).take 4)))

/-- Write registers `r` 0 to `n` − 1 of a unit from an entry, from its word `o` on. -/
def State.loadCal (s : State) (kind index o : Nat) (r : Reg) (n u : Nat) : State :=
  (List.range n).foldl (fun s i =>
    match s.calWord kind index (o + i) with
    | some w => s.setReg r w u i
    | none => s) s

/-! ## Islands that a mode turns off and on (R46) -/

/-- A line lane's island goes off, and what it held. -/
def State.lineOff (s : State) (k : Nat) : State :=
  let s := (List.range' (8 * k) 8).foldl (fun s r => if s.island (rackIsland r) = .powerOff then s else s.rackOff r) s
  let s := (((s.endSeq 4 k).endSeq 5 k).endSeq 6 k).putBit .CLK_LOCK (lpllBit k) false (dieOfLane k)
  let s := (s.turnIsland (lineIsland k) .powerOff).wipe layout_lane k
  let base := (Block.line k).base
  ((s.dropRange base (base + 0x20000)).loseBuried (lineIsland k)).setLine k {}

/-- Commands that wait for a host lane end with 0x0302 (R61). -/
def State.dropWaiters (s : State) (j : Nat) : State :=
  let h := s.hostLane j
  let s := s.setHostLane j {}
  let s := h.slipWaiters.foldl (fun s t => s.finish t ⟨0x0302, 0, 0⟩) s
  match h.capWaiter with
  | some t => s.finish t ⟨0x0302, 0, 0⟩
  | none => s

/-- A host lane's island goes off, and what it held. -/
def State.hostOff (s : State) (j : Nat) : State :=
  let s := ((s.dropWaiters j).endSeq 7 j).endSeq 8 j
  let s := (s.turnIsland (hostIsland j) .powerOff).wipe layout_host j
  let base := (Block.host j).base
  (s.dropRange base (base + 0x10000)).loseBuried (hostIsland j)

/-- A die's FEC/PCS island follows the ports whose line lanes the die has. A fence outlasts it (R158). -/
def State.refreshFecIsland (s : State) (d : Nat) : State :=
  let id := islandId d 0x02
  let on := s.mode.run.portList.any (fun p => dieOfPort p == d)
  if on ∧ s.island id ≠ .on then
    let s := s.turnIsland id .on
    ((List.range 384).foldl (fun s g => if s.isFenced d g then s.raise FEC_POOL_MAP.FENCED d g else s) s).refreshPool d
  else if on = false ∧ s.island id = .on then
    let s := (s.turnIsland id .powerOff).wipe layout_fecdie d
    let s := (List.range' (4 * (d - 1)) 4).foldl (fun s p => (s.wipe layout_fecport p).setFec p {}) s
    let base := (Block.pool d).base
    (s.dropRange base (base + 0x180000)).loseBuried id
  else s

/-! ## Steps of an apply (R58) -/

/-- The bits of a port's alignment and its lanes' locks clear: the port's lanes start anew. -/
def State.clearLocks (s : State) (p : Nat) : State :=
  let keep := s.flag FEC_PORT_STAT.INJ_LOCK p
  ((s.setReg .FEC_PORT_STAT 0 p).putFlag FEC_PORT_STAT.INJ_LOCK keep p).setFec p {}

/-- Step 2 for one port: it is CONFIGURING, so its outputs squelch; its modems stop and its contexts are released. -/
def State.portDownStep (s : State) (p : Nat) : State :=
  let s := s.setPort p portConfiguring 0
  let s := (s.mode.run.lineLanes p).foldl (fun s k => s.insDown k) s
  let s := (s.mode.run.hostLanes p).foldl (fun s j => s.dropWaiters j) s
  (s.freeCtxs p).clearLocks p

/-- The core-welt slots of one direction, without those of the host lanes in `js`. -/
def freeSlots (js : List Nat) (xs : List (Option Nat)) : List (Option Nat) :=
  xs.map (fun x => match x with
    | some j => if js.contains j then none else x
    | none => none)

/-- A host lane takes the lowest free slot of a direction (R45). -/
def takeSlot (j : Nat) : List (Option Nat) → List (Option Nat)
  | [] => []
  | none :: xs => some j :: xs
  | some i :: xs => some i :: takeSlot j xs

/-- WELT_AB_ALLOC of both dies (R33). -/
def State.refreshSlots (s : State) : State :=
  let map (xs : List (Option Nat)) : Nat := bitsWhere (fun n => (xs.getD n none).isSome) 8
  let ab := map s.mode.slotsAB
  let ba := map s.mode.slotsBA
  let s := (s.put WELT_AB_ALLOC.TX_SLOTS ab 1).put WELT_AB_ALLOC.RX_SLOTS ba 1
  (s.put WELT_AB_ALLOC.TX_SLOTS ba 2).put WELT_AB_ALLOC.RX_SLOTS ab 2

/-- Host lanes of a list of ports. -/
def Image.hostsOf (m : Image) (ps : List Nat) : List Nat := (List.range 16).filter (fun j => ps.any (fun p => (m.hostLanes p).contains j))

/-- Line lanes of a list of ports. -/
def Image.linesOf (m : Image) (ps : List Nat) : List Nat := (List.range 8).filter (fun k => ps.any (fun p => (m.lineLanes p).contains k))

/-- Every Volterra kernel of a lane is 0. -/
def State.zeroKernels (s : State) (k : Nat) : State := (List.range 47).foldl (fun s n => s.put LRX_VNLE_KERN.KERN 0 k n) s

/-- The options of a lane as the mode requests them (R62, R70). A Volterra equaliser that is added starts from kernels of zero;
one that is removed while it is in effect stays so until its kernels have been ramped to zero. An option that the mode adds
while the die's throttle policy withdraws it stays out of effect, and THROTTLED, its cause and its event are those of a
withdrawal of an option in effect alone (DESIGN CHOICE, log entry 116). -/
def State.configOptions (s : State) (k : Nat) : State :=
  let l := s.mode.run.lane k
  let w := s.withdrawn (dieOfLane k)
  let was := s.flag LRX_CFG.VNLE_REQ k
  let s := ((s.putFlag LRX_CFG.SD_REQ l.sd k).putFlag LRX_CFG.VNLE_REQ l.vnle k).putFlag LRX_CFG.SD_EFF (l.sd && !w) k
  if l.vnle && !was then
    ((s.zeroKernels k).putFlag LRX_CFG.VNLE_EFF (!w) k).setLine k { s.line k with fade := none }
  else if was && !l.vnle then
    s.setLine k { s.line k with fade := some .rampOut }
  else s

/-- The lasts have ramped the kernels of a lane to zero, and the option is removed (R62, R129). -/
def State.removeVnle (s : State) (k : Nat) : State :=
  if (s.line k).fade = some .rampOut then
    ((s.zeroKernels k).putFlag LRX_CFG.VNLE_EFF false k).setLine k { s.line k with fade := none }
  else s

/-- Start a lane's LPLL at a new rate: it is unlocked until its step of the restart delay table ends. -/
def State.retune (s : State) (k : Nat) : State :=
  let d := dieOfLane k
  let s := s.putBit .CLK_LOCK (lpllBit k) false d
  let armed := s.pllArmed.getD d 0
  let s := { s with pllArmed := s.pllArmed.set d (bitsWhere (fun n => bitOf armed n && n != lpllBit k) 9) }
  (s.startSeq 4 k).refreshLine k

/-- The receiver of a lane starts anew: no locks, and its trims take their targets at once (R79, R80). -/
def State.renewLine (s : State) (k : Nat) (first : Bool) : State :=
  let s := (s.putFlag LRX_STAT.CDR_LOCK false k).putFlag LRX_STAT.AM_LOCK false k
  let s := s.putFlag LTX_STAT.CHK_LOCK false k
  let s := if first then (s.loadCal 1 k 0 .LRX_ADC_TTRIM 128 k).loadCal 3 k 0 .LTX_DAC_TTRIM 64 k else s
  let s := (s.snapRxTrims k).snapTxTrims k
  let s := (s.loadCal 2 k 0 .LTX_FIR_COEF 7 k).loadCal 2 k 7 .LTX_LUT 64 k
  s.setTxActive k (s.txShadows k)

/-- Step 5 for a line lane of a port in the new mode. `renew`: its port is taken down or new. -/
def State.configLine (s : State) (old : Image) (k : Nat) (renew : Bool) : State :=
  let m := s.mode.run
  let l := m.lane k
  let first := (old.portOfLine k).isNone
  match m.portOfLine k with
  | none => s
  | some p =>
    let s := if first then s.turnIsland (lineIsland k) .on else s
    let inner := (m.port p).inner
    let s := if first ∨ inner ≠ s.flag LRX_CFG.INNER k ∨ s.locked (dieOfLane k) (lpllBit k) = false then s.retune k else s
    let s := (s.putFlag LRX_CFG.INNER inner k).putFlag LTX_CFG.INNER inner k
    let s := if renew then s.renewLine k first else s
    let s := (s.configOptions k).put LRX_CFG.PROG_SET l.progSet k
    let s := ((s.put LTX_CFG.PATTERN l.txPattern k).put LTX_CFG.CHECK l.rxCheck k).put LTX_CFG.LOOPBACK (m.port p).loopback k
    let s := if renew ∨ l.dozeRx = 0 then s.wakeLineRx k else s
    let s := if renew ∨ l.dozeTx = 0 then s.wakeLineTx k else s
    s.refreshLine k

/-- The running apply has loaded racks (R60). -/
def State.noteLoaded (s : State) (rs : List Nat) : State :=
  match s.mode.txn with
  | some t => s.setTxn (some { t with loaded := t.loaded ++ rs })
  | none => s

/-- Step 5 for the racks of a line lane: those its program set does not use go off; they are loaded and started where the
lane is renewed or its set or duty changes (R46, R62, R131). -/
def State.configRacks (s : State) (old : Image) (k : Nat) (renew : Bool) : State :=
  let mine := s.laneRacks k
  let s := (List.range' (8 * k) 8).foldl (fun s r =>
    if mine.contains r ∨ s.island (rackIsland r) = .powerOff then s else s.rackOff r) s
  let a := old.lane k
  let b := s.mode.run.lane k
  let s :=
    if renew ∨ a.progSet ≠ b.progSet ∨ a.duty ≠ b.duty then
      (mine.foldl (fun s r => (s.rackOn r).loadRack r b.progSet) s).noteLoaded mine
    else s
  s.refreshDuty k

/-- The settings of a host lane (R170, R173). -/
def State.setHost (s : State) (j : Nat) (renew : Bool) : State :=
  let m := s.mode.run
  match m.portOfHost j with
  | none => s
  | some p =>
    let l := m.hlane j
    let s := ((s.put HL_CFG.PATTERN l.txPattern j).put HL_CFG.CHECK l.rxCheck j).put HL_CFG.LOOPBACK (m.port p).loopback j
    let s :=
      if renew then
        let s := ((s.putFlag HL_STAT.CDR_LOCK false j).putFlag HL_STAT.ADAPT_DONE false j).putFlag HL_STAT.CHK_LOCK false j
        let s := s.txEqWrite j ((s.calWord 4 j 0).getD (Reg.HL_TX_EQ.reset 0))
        let s := s.rxEqWrite j ((s.calWord 4 j 1).getD (Reg.HL_RX_EQ_CTL.reset 0))
        let s := (s.put HL_RX_EQ_STAT.CTLE (s.ctleFix j) j).put HL_RX_EQ_STAT.H1 0 j
        let s := (List.range 8).foldl (fun s n => s.put HL_RX_FFE.COEF (if n = 2 then 0x400 else 0) j n) s
        s.setHostLane j { s.hostLane j with searched := false, chk := {}, gen := none, carry := [], hist := [] }
      else s
    s.refreshHost j

/-- The running apply configures a host lane once it has woken (R188). -/
def State.noteLate (s : State) (j : Nat) (renew : Bool) : State :=
  match s.mode.txn with
  | some t => s.setTxn (some { t with late := t.late ++ [(j, renew)] })
  | none => s

/-- Step 5 for a host lane (R183, R188): a lane of a DOWN or HIT port that dozes is woken first, and configured when it has woken; a
timer changed to 0 wakes its direction, and with a receive direction every one of its port (R184). -/
def State.configHost (s : State) (j : Nat) (renew wake : Bool) : State :=
  let l := s.mode.run.hlane j
  if s.hostUsed j = false then s
  else
    let s := if s.island (hostIsland j) = .powerOff then s.turnIsland (hostIsland j) .on else s
    let s := if wake ∨ l.dozeRx = 0 then s.wakeHostRxPort j else s
    let s := if wake ∨ l.dozeTx = 0 then s.wakeHostTx j else s
    if wake ∧ (s.flag HL_STAT.RX_DOZE j ∨ s.flag HL_STAT.TX_DOZE j) then s.noteLate j renew else s.setHost j renew

/-- Step 5 for the time units (R232, R371): the maker's constants of the mode's lanes and ports are loaded from the calibration
store, of those that the apply does not change as well (DEDUCED, log entry 143). -/
def State.configDelays (s : State) : State :=
  [1, 2].foldl (fun (s : State) d =>
    let s := s.refreshTimeIsland d
    if s.timeOn d = false then s
    else
      let s := ((List.range' (4 * (d - 1)) 4).filter (fun k => s.lineUsed k)).foldl (fun (s : State) k =>
        let put (s : State) (f : Fld) (n : Nat) : State :=
          match s.calWord 6 k n with
          | some w => s.setReg f.reg w d (k % 4)
          | none => s
        put (put s TIME_LANE_TXDLY.DLY 0) TIME_LANE_RXDLY.DLY 1) s
      (s.mode.run.portList.filter (fun p => dieOfPort p == d)).foldl
        (fun (s : State) p => s.loadCal 7 p 0 .TIME_PORT_HDLY 1 p) s) s

/-- Step 5 for message slots: a lane that gains MSG_EN has every word of its slots written, and the die's window for them
opens or closes (R213, R326). -/
def State.configSlots (s : State) (old : Image) : State :=
  let m := s.mode.run
  let s := (List.range 8).foldl (fun (s : State) k =>
    if (m.lane k).msg ∧ ((old.lane k).msg = false ∨ (old.portOfLine k).isNone) then
      let s := s.initRange (slotAddr k false 0) (slotAddr k false 0 + 0x1000)
      (s.setInsl k { s.insl k with rx := [], freeRx := List.range 8 }).put INS_MSG_STAT.RX_FULL 0 k
    else s) s
  [1, 2].foldl (fun (s : State) d =>
    if (List.range' (4 * (d - 1)) 4).any (fun k => (m.lane k).msg) then
      s.openWindow (d - 1) ((Block.ins d).base + 0x8000) ((Block.ins d).base + 0xBFF8) 7
    else s.closeWindow (d - 1)) s

/-- The uses whose granules a port exchanges in step 6: a DOWN or NEW port takes all of its own, a HIT port those that its
DESKEW or FRAME_VIEW changes (R62, R157). -/
def poolUses (a b : PortDesc) (renew : Bool) : List Nat :=
  if renew then [0, 1, 2, 3]
  else (if a.deskew ≠ b.deskew then [0] else []) ++ (if a.frameView ≠ b.frameView then [2] else [])

/-- Step 6 for granules: what the resized ports no longer need is released first, for check 14 has found room for the new sum
only; then the ports take theirs in ascending order (R157). -/
def State.configPool (s : State) (old : Image) (renewed : List Nat) : State :=
  let ps := (s.mode.run.portList.map (fun p => (p, poolUses (old.port p) (s.mode.run.port p) (renewed.contains p)))).filter
    (fun x => x.2 != [])
  let s := (ps.filter (fun x => !(renewed.contains x.1))).foldl (fun (s : State) x => s.releasePort x.1 x.2) s
  ps.foldl (fun (s : State) x => s.allocPort x.1 x.2) s

/-- Steps 1 to 6 of an apply. DOWN ports and ports in FAULT that the new mode keeps are taken down. -/
def State.applyBegin (s : State) (t : Txn) : State :=
  let old := s.mode.active
  let new := t.staged
  let down := classMap old new 3
  let redo := bitsWhere (fun p => (old.port p).size != 0 && !(bitOf down p) && (s.port p).st == portFault) 8
  let hit := bitsWhere (fun p => bitOf (classMap old new 2) p && !(bitOf redo p)) 8
  let gone := (List.range 8).filter (fun p => bitOf down p || bitOf redo p)
  let fresh := bitsWhere (fun p => bitOf (newMap old new) p || bitOf redo p) 8
  let t := { t with st := .applying, down := down, hit := hit, fresh := fresh, faulted := 0, firstFault := 0 }
  let s := s.setTxn (some t)
  let touched := old.linesOf ((List.range 8).filter (fun p => bitOf down p || bitOf redo p || bitOf hit p))
  let s := touched.foldl (fun s k => (s.endCalRx k 0x0304 0).endCalTx k 0x0304 0) s
  let s := gone.foldl (fun s p => s.portDownStep p) s
  let s := gone.foldl (fun s p => s.releasePort p [0, 1, 2, 3]) s
  let js := old.hostsOf gone
  let s := { s with mode := { s.mode with slotsAB := freeSlots js s.mode.slotsAB, slotsBA := freeSlots js s.mode.slotsBA } }
  let s := (old.linesOf old.portList).foldl (fun s k => if (new.portOfLine k).isNone then (s.putFlag INS_STAT.IN_FRAME false k).lineOff k else s) s
  let s := (old.hostsOf old.portList).foldl (fun s j => if (new.portOfHost j).isNone then s.hostOff j else s) s
  let s := { s with mode := { s.mode with run := new } }
  let s := (gone.filter (fun p => (new.port p).size == 0)).foldl (fun s p => s.setPort p portAbsent 0) s
  let s := [1, 2].foldl (fun s d => ((s.refreshThrottle d).refreshFecIsland d).insIslandOn d) s
  let renewed := (List.range 8).filter (fun p => bitOf down p || bitOf fresh p)
  let s := new.portList.foldl (fun s p => if (old.port p).size = 0 then (s.setPort p portConfiguring 0).clearLocks p else s) s
  let s := new.portList.foldl (fun s p =>
    let renew := renewed.contains p
    let s := (new.lineLanes p).foldl (fun s k => (s.configLine old k renew).configRacks old k renew) s
    (new.hostLanes p).foldl (fun s j => s.configHost j renew (renew || bitOf hit p)) s) s
  let s := (s.configSlots old).configDelays
  let s := s.configPool old renewed
  let cross := (new.hostsOf (renewed.filter (fun p => new.crossing p)))
  let s := cross.foldl (fun s j =>
    { s with mode := { s.mode with slotsAB := takeSlot j s.mode.slotsAB, slotsBA := takeSlot j s.mode.slotsBA } }) s
  s.refreshSlots

/-! ## Steps 7 and 8 -/

/-- FEC/PCS and time correction of a port; counters of a DOWN or NEW port clear (R163, R247). -/
def State.configFec (s : State) (old : Image) (p : Nat) (renew : Bool) : State :=
  let m := s.mode.run
  let q := m.port p
  let s := ((s.putFlag FEC_PORT_CFG.INNER q.inner p).putFlag FEC_PORT_CFG.TERM q.fecTerm p).putFlag FEC_PORT_CFG.FRAME_VIEW q.frameView p
  let s := ((s.putFlag FEC_PORT_CFG.CROSSING (m.crossing p) p).put FEC_PORT_CFG.SIZE q.size p).put FEC_PORT_CFG.DESKEW q.deskew p
  let s := s.put FEC_SKEW.BUDGET (deskewBudget q.deskew) p
  let s := if renew then s.statClear p else s
  let s := if renew then { s with cnts := s.cnts.filter (fun c => !(c.1.u == p && layout_timeport.any (fun r => r.reg == c.1.reg))) } else s
  if s.island (islandId (dieOfPort p) 0x03) ≠ .on then s
  else
    let was := (old.port p).timeMode
    let s := ((s.put TIME_PORT_CFG.TIME_MODE q.timeMode p).putFlag TIME_PORT_CFG.FRAME_VIEW q.frameView p).putFlag TIME_PORT_CFG.CROSSING (m.crossing p) p
    let s := if q.timeMode = 2 ∧ (was ≠ 2 ∨ renew) then { s with time := { s.time with twoAt := s.time.twoAt.set p (some s.now) } } else s
    s.putFlag TIME_PORT_STAT.DRAIN (q.timeMode != 2 && s.ctxCount p != 0) p

/-- The insole settings of a line lane (R217). -/
def State.configIns (s : State) (old : Image) (k : Nat) (renew : Bool) : State :=
  let m := s.mode.run
  let l := m.lane k
  let used := (m.portOfLine k).isSome
  let was := (old.lane k).ins && (old.portOfLine k).isSome
  let s := if was && !(l.ins && used) then s.insDisable k else s
  let s := if was && (old.lane k).msg && l.ins && !l.msg then s.insFlush k 0x0228 else s
  let s := (s.putFlag INS_CFG.INS_EN (l.ins && used) k).putFlag INS_CFG.MSG_EN (l.msg && used) k
  let s := (s.putFlag INS_CFG.TTT_EN (l.ttt && used) k).putFlag INS_CFG.RANGING (m.ranged k && used) k
  let s := (s.putFlag INS_CFG.TIMING_TX (l.ins && used && (l.ttt || m.ranged k)) k).put INS_CFG.SEQ_ID (if l.ins then k else 0) k
  if l.ins && used && (!was || renew) then s.insEnable k else s

/-- What a changed lane does to ranging and to the time source (R62, R63). -/
def State.configTime (s : State) (old : Image) (down : Nat) : State :=
  let m := s.mode.run
  let changed (k : Nat) : Bool :=
    let a := old.lane k
    let b := m.lane k
    a.ins != b.ins || a.msg != b.msg || a.ttt != b.ttt || a.fibre != b.fibre || (old.portOfLine k).isSome != (m.portOfLine k).isSome
  let s := (List.range 8).foldl (fun (s : State) g =>
    let hit := (List.range 8).any (fun k => ((old.lane k).fibre == g || (m.lane k).fibre == g) && changed k)
    if hit ∨ old.ranging.getD g false ≠ m.ranging.getD g false then s.rangeClear g else s) s
  let k := s.fld TIME_SRC_CFG.LANE s.primary
  let lost := changed k || (match old.portOfLine k with | some p => bitOf down p | none => false)
  if s.source = 3 ∧ lost then s.sourceLost s.primary else s

/-- Step 8: the staged image is active; the device is ACTIVE with a port and READY without (R60, R398). -/
def State.applyEnd (s : State) (t : Txn) : State :=
  let s := { s with mode := { s.mode with active := s.mode.run, txn := none } }
  let s := s.log 0x1501 sevInfo t.id t.down t.hit
  let s := if t.faulted = 0 then s else s.log 0x1505 sevErr t.id t.faulted t.firstFault
  let s := if s.modeReady then s.toPwr (if s.mode.active.portList = [] then pwrReady else pwrActive) else s
  match t.waiter with
  | some w => s.finish w (if t.faulted = 0 then ⟨0, 0, 0⟩ else ⟨0x0401, t.faulted, t.firstFault⟩)
  | none => s

/-- Steps 7 and 8. -/
def State.applyFinish (s : State) (t : Txn) : State :=
  let old := s.mode.active
  let new := s.mode.run
  let renewed := (List.range 8).filter (fun p => bitOf t.down p || bitOf t.fresh p)
  let s := t.late.foldl (fun (s : State) x =>
    if s.flag HL_STAT.RX_DOZE x.1 ∨ s.flag HL_STAT.TX_DOZE x.1 then s else s.setHost x.1 x.2) s
  let s := (List.range 8).foldl (fun (s : State) k => s.removeVnle k) s
  let s := new.portList.foldl (fun s p => s.configFec old p (renewed.contains p)) s
  let s := (List.range 8).foldl (fun s k =>
    s.configIns old k (match new.portOfLine k with | some p => renewed.contains p && !(bitOf t.faulted p) | none => false)) s
  let s := s.configTime old t.down
  let s := [1, 2].foldl (fun s d => s.insIslandOff d) s
  let s := new.portList.foldl (fun s p =>
    if bitOf t.faulted p then s
    else if renewed.contains p ∨ ((old.port p).txEn = false ∧ (new.port p).txEn) then s.portRest p 0
    else s) s
  s.applyEnd t

/-- Whether nothing that steps 5 and 6 started is still under way: no LPLL of an affected port waits for lock and no lane
of one dozes. -/
def State.applyReady (s : State) (t : Txn) : Bool :=
  let ps := (s.mode.run.portList.filter (fun p => bitOf t.down p || bitOf t.fresh p || bitOf t.hit p)).filter (fun p => !(bitOf t.faulted p))
  (s.mode.run.linesOf ps).all (fun k => !(s.seqOn 4 k)) &&
    (s.mode.run.linesOf (ps.filter (fun p => !(bitOf t.hit p)))).all (fun k => !(s.flag LRX_STAT.DOZE k) && !(s.flag LTX_STAT.DOZE k)) &&
    (s.mode.run.hostsOf ps).all (fun j => !(s.flag HL_STAT.RX_DOZE j) && !(s.flag HL_STAT.TX_DOZE j))

/-- Apply a validated image for a waiter (R58). -/
def State.startApply (s : State) (t : Txn) (w : Option Ticket) : State := s.applyBegin { t with waiter := w }

/-- MODE_APPLY (R58): validated again before anything changes. DESIGN CHOICE (log entries 35 and 115): in OPEN outside READY
and ACTIVE it answers 0x0243 before 0x0103, and a command refused with either code has rejected no image, so it logs no
MODE_REJECTED (R65); the same of MODE_VALIDATE. -/
def cmdModeApply : Handler := fun p w s =>
  s.inTxn p true fun t s =>
    if p.zeroFrom 2 = false then (fieldRange, s)
    else if s.modeReady = false then (failWith 0x0243, s)
    else if t.st ≠ .validated then (failWith 0x0103, s)
    else
      let r := s.validate t.staged
      if r.status ≠ 0 then (.done r, s.rejected t r) else (.later, s.startApply t (some w))

/-- MODE_APPLY_COMPLETE (R58): steps 7 and 8, once what step 5 started has ended. -/
def execModeApplyComplete (s : State) : Outcome State Fault Refusal :=
  .next (match s.mode.txn with
  | some t => if t.st = .applying ∧ s.applyReady t then s.applyFinish t else s
  | none => s)

/-- Apply the reset image as a transaction of its own (R399 step 2), with TXN 0. -/
def State.applyResetImage (s : State) : State :=
  let t : Txn := { id := 0, own := true }
  let s := s.startApply t none
  match s.mode.txn with
  | some t => s.applyFinish t
  | none => s

/-- Close a transaction that is not being applied (R57): it expires for a reason. -/
def State.expireTxn (s : State) (reason : Nat) : State :=
  match s.mode.txn with
  | some t =>
    if t.st = .applying then s
    else
      let s := { s with mode := { s.mode with txn := none, expired := s.mode.expired ++ [t.id] } }
      s.log 0x1504 sevWarn t.id reason
  | none => s

/-- MODE_TXN_EXPIRED (R57): no staging, validation or apply command for 10 s. -/
def execModeTxnExpired (s : State) : Outcome State Fault Refusal :=
  .next (match s.mode.txn with
  | some t => if 10000000 ≤ s.now - t.touched then s.expireTxn 1 else s
  | none => s)

/-! ## Commands (R55) -/

/-- MODE_BEGIN (R55). -/
def execModeBegin (e : Fin 256) (s : State) : Outcome State Fault Refusal := .next (s.runCmd e 0x15 0x01 cmdModeBegin)

/-- MODE_STAGE_PORT (R47). -/
def execModeStagePort (e : Fin 256) (s : State) : Outcome State Fault Refusal := .next (s.runCmd e 0x15 0x02 cmdStagePort)

/-- MODE_STAGE_LANE (R48). -/
def execModeStageLane (e : Fin 256) (s : State) : Outcome State Fault Refusal := .next (s.runCmd e 0x15 0x03 cmdStageLane)

/-- MODE_STAGE_DIE (R49). -/
def execModeStageDie (e : Fin 256) (s : State) : Outcome State Fault Refusal := .next (s.runCmd e 0x15 0x04 cmdStageDie)

/-- MODE_STAGE_FIBRE (R49). -/
def execModeStageFibre (e : Fin 256) (s : State) : Outcome State Fault Refusal :=
  .next (s.runCmd e 0x15 0x05 cmdStageFibre)

/-- MODE_VALIDATE (R54). -/
def execModeValidate (e : Fin 256) (s : State) : Outcome State Fault Refusal := .next (s.runCmd e 0x15 0x06 cmdModeValidate)

/-- MODE_APPLY (R58). -/
def execModeApply (e : Fin 256) (s : State) : Outcome State Fault Refusal := .next (s.runCmd e 0x15 0x07 cmdModeApply)

/-- MODE_ABORT (R55). -/
def execModeAbort (e : Fin 256) (s : State) : Outcome State Fault Refusal := .next (s.runCmd e 0x15 0x08 cmdModeAbort)

/-- MODE_READ (R55). -/
def execModeRead (e : Fin 256) (s : State) : Outcome State Fault Refusal := .next (s.runCmd e 0x15 0x09 cmdModeRead)

/-- MODE_PORT_STATUS (R55). -/
def execModePortStatus (e : Fin 256) (s : State) : Outcome State Fault Refusal :=
  .next (s.runCmd e 0x15 0x0A cmdModePortStatus)

end Sys2Proof.Machine
end

