-- ==== Sys2Proof/Machine/Dacs.lean ====
section
/-!
DEFINITION. Sys2Proof/Machine/Dacs.lean: the control DAC channels, the optics rails and the fast-shutdown override
(R275–R284), which the loops, the commands and the device state share.
-/

namespace Sys2Proof.Machine

/-! ## Channels -/

/-- Mode code OPEN of R267. -/
def loopOpen : Nat := 0
/-- Mode code MANUAL. -/
def loopManual : Nat := 1
/-- Mode code AUTO. -/
def loopAuto : Nat := 2
/-- Mode code HOLD. -/
def loopHold : Nat := 3

/-- The mode in effect of a loop. -/
def State.loopMode (s : State) (l : Nat) : Nat := s.fld TGT_LOOP_STAT.MODE 0 l

/-- The channel a loop is bound to. -/
def State.loopDac (s : State) (l : Nat) : Option Nat :=
  if s.flag TGT_LOOP_CFG.DAC_NONE 0 l then none else some (s.fld TGT_LOOP_CFG.DAC 0 l)

/-- The loop bound to a channel, in whatever mode (R277). -/
def State.bound (s : State) (n : Nat) : Option Nat :=
  (List.range 48).find? (fun l => s.loopDac l == some n)

/-- The loop that owns a channel: bound to it and not OPEN (R277). -/
def State.owner (s : State) (n : Nat) : Option Nat :=
  (List.range 48).find? (fun l => s.loopDac l == some n && s.loopMode l != loopOpen)

/-- Whether the override holds a channel at its SAFE_CODE (R281). -/
def State.overridden (s : State) (n : Nat) : Bool :=
  s.flag CDAC_STAT.OVERRIDE && s.flag CDAC_CFG.FASTOFF_EN 0 n

/-- Whether the device is in FAULT, which holds a channel with FASTOFF_EN at its SAFE_CODE (R400). -/
def State.faultHolds (s : State) (n : Nat) : Bool := s.fld PWR_STATE.STATE == 5 && s.flag CDAC_CFG.FASTOFF_EN 0 n

/-- The dither a channel adds to its base code (R280). -/
def State.dither (s : State) (n : Nat) : Int :=
  if s.flag CDAC_CFG.DITHER_EN 0 n then
    let g := s.opt.sines.getD (s.fld CDAC_CFG.GEN 0 n) {}
    let x := if g.running then g.sample else 0
    if s.flag CDAC_CFG.DITHER_INV 0 n then -x else x
  else 0

/-- Base code plus dither, before the limits. -/
def State.dacSum (s : State) (n : Nat) : Int := (s.fld CDAC_CH_STAT.BASE 0 n : Int) + s.dither n

/-- Whether the limits clip a channel's sum (R280). A laser trip's SAFE_CODE is not limited (field table). -/
def State.dacClips (s : State) (n : Nat) : Bool :=
  let x := s.dacSum n
  !(s.opt.tripped.contains n) &&
    (decide (x < s.fld CDAC_LIM.CODE_MIN 0 n) || decide ((s.fld CDAC_LIM.CODE_MAX 0 n : Int) < x))

/-- The code at a channel's DAC (R275, R276, R281). -/
def State.dacCode (s : State) (n : Nat) : Nat :=
  if s.flag CDAC_OUT.CLAMPED 0 n then 0
  else if s.overridden n || s.faultHolds n then s.fld CDAC_SAFE.SAFE_CODE 0 n
  else if s.opt.tripped.contains n then (clampI 0 16383 (s.dacSum n)).toNat
  else (clampI (s.fld CDAC_LIM.CODE_MIN 0 n) (s.fld CDAC_LIM.CODE_MAX 0 n) (s.dacSum n)).toNat

/-- Bring CDAC_OUT_n up to date with the channel's state. -/
def State.refreshDac (s : State) (n : Nat) : State :=
  let s := s.put CDAC_OUT.CODE (s.dacCode n) 0 n
  let s := s.putFlag CDAC_OUT.OVERRIDE (s.overridden n) 0 n
  let s := s.putFlag CDAC_OUT.OWNED (s.owner n).isSome 0 n
  s.put CDAC_OUT.OWNER ((s.owner n).getD 0) 0 n

/-- Bring several channels up to date. -/
def State.refreshDacs (s : State) (ns : List Nat) : State := ns.foldl (fun s n => s.refreshDac n) s

/-- The 32 channels. -/
def allDacs : List Nat := List.range 32

/-- The strobe source of a group; 3 acts as 0 (R278). -/
def State.groupSrc (s : State) (g : Nat) : Nat := if s.fld CDAC_GROUP.SRC 0 g = 3 then 0 else s.fld CDAC_GROUP.SRC 0 g

/-- A strobe of one channel: it loads the staged base code, and a channel with EN set leaves its clamp (R276, R278), but
not in FAULT (R400). -/
def State.loadChannel (s : State) (n : Nat) : State :=
  let s := s.put CDAC_CH_STAT.BASE (s.fld CDAC_CODE.CODE 0 n) 0 n
  let s := { s with opt := { s.opt with tripped := s.opt.tripped.filter (· != n) } }
  let s := if s.flag CDAC_CFG.EN 0 n ∧ s.fld PWR_STATE.STATE ≠ 5 then s.putFlag CDAC_OUT.CLAMPED false 0 n else s
  s.refreshDac n

/-- A strobe of a group (R278). -/
def State.strobe (s : State) (g : Nat) : State := (List.range' (8 * g) 8).foldl (fun s n => s.loadChannel n) s

/-- Stage a base code; under IMMEDIATE it loads at once (R278). -/
def State.stageCode (s : State) (n code : Nat) : State :=
  let s := s.put CDAC_CODE.CODE code 0 n
  if s.groupSrc (n / 8) = 0 then s.loadChannel n else s

/-- Close a channel's clamp (R276). -/
def State.clampChannel (s : State) (n : Nat) : State := (s.putFlag CDAC_OUT.CLAMPED true 0 n).refreshDac n

/-- Clear a channel's EN and close its clamp. -/
def State.disableChannel (s : State) (n : Nat) : State := (s.putFlag CDAC_CFG.EN false 0 n).clampChannel n

/-! ## Loops -/

/-- Put a loop into a mode and log TGT_MODE (R287). `why` is P3: 0 command, 1 trip, 2 override, 3 resumption. -/
def State.setLoopMode (s : State) (l mode reason why : Nat) : State :=
  let old := s.loopMode l
  let s := s.put TGT_LOOP_STAT.MODE mode 0 l
  let s := s.put TGT_LOOP_MODE.MODE mode 0 l
  let s := s.put TGT_LOOP_STAT.HOLD_REASON reason 0 l
  let s := if old = mode then s else s.log 0x0B02 sevInfo l old mode why
  let s := if why = 1 ∨ why = 2 then s.raise TGT_CAUSE.MODE else s
  match s.loopDac l with
  | some n => s.refreshDac n
  | none => s

/-- What a loop holds beside its registers. -/
def State.loop (s : State) (l : Nat) : Loop := s.opt.loops.getD l {}

/-- Change what a loop holds. -/
def State.setLoop (s : State) (l : Nat) (v : Loop) : State :=
  { s with opt := { s.opt with loops := s.opt.loops.set l v } }

/-! ## Optics rails (R283, R394) -/

/-- Whether the device state lets PEN be asserted: READY or ACTIVE (R283). -/
def State.penAllowed (s : State) : Bool := s.fld PWR_STATE.STATE == 3 || s.fld PWR_STATE.STATE == 4

/-- The PEN bits that are to be asserted now. -/
def State.penTarget (s : State) : Nat :=
  if s.penAllowed then
    if s.flag PWR_STATE.FASTOFF then
      bitsWhere (fun n => bitOf (s.fld CDAC_PEN.PEN) n && !(bitOf (s.fld CDAC_PEN.FASTOFF_OFF) n)) 4
    else s.fld CDAC_PEN.PEN
  else 0

/-- Set the PEN pins; a rail whose enable is not asserted is not supervised (R394). -/
def State.setPens (s : State) (v : Nat) : State :=
  let s := s.put CDAC_PEN_STAT.PIN v
  let s := s.put PWR_PG_STAT.PEN v
  s.put PWR_PG_STAT.SUPERVISED (bitsWhere (fun n => bitOf (s.fld PWR_PG_STAT.SUPERVISED) n && bitOf v n) 4)

/-- Whether a rail waits for its PG. -/
def State.railBusy (s : State) : Bool := s.pwr.seqs.any (fun q => q.num == 3)

/-- Assert the lowest requested rail that is not asserted, unless one still waits for its PG (R394). -/
def State.penNext (s : State) : State :=
  if s.railBusy then s
  else
    match (List.range 4).find? (fun n => bitOf s.penTarget n && !(bitOf (s.fld CDAC_PEN_STAT.PIN) n)) with
    | none => s
    | some n =>
      let s := s.setPens (bitsWhere (fun m => bitOf (s.fld CDAC_PEN_STAT.PIN) m || m == n) 4)
      { s with pwr := { s.pwr with
          seqs := s.pwr.seqs ++ [{ num := 3, obj := n, step := n, trigger := s.now, since := s.now }] } }

/-- Forget the rail sequences of bits that are no longer to be asserted. -/
def State.penCancel (s : State) : State :=
  { s with pwr := { s.pwr with seqs := s.pwr.seqs.filter (fun q => q.num != 3 || bitOf s.penTarget q.obj) } }

/-- Deassert together the PEN bits that are no longer to be asserted (R394: FASTOFF_N and FAULT). -/
def State.penDropAll (s : State) : State :=
  (s.setPens (bitsWhere (fun n => bitOf (s.fld CDAC_PEN_STAT.PIN) n && bitOf s.penTarget n) 4)).penCancel

/-- Whether 1 ms has passed since a PEN bit was last deasserted by command (R394). -/
def State.penSpaced (s : State) : Bool :=
  match s.pwr.penAt with
  | some t => decide (t + 1000 ≤ s.now)
  | none => true

/-- Deassert the highest PEN bit that is no longer to be asserted, 1 ms after the one before it (R394). -/
def State.penDropOne (s : State) : State :=
  match (List.range 4).reverse.find? (fun n => bitOf (s.fld CDAC_PEN_STAT.PIN) n && !(bitOf s.penTarget n)) with
  | none => s
  | some n =>
    if s.penSpaced then
      let s := (s.setPens (bitsWhere (fun m => bitOf (s.fld CDAC_PEN_STAT.PIN) m && m != n) 4)).penCancel
      { s with pwr := { s.pwr with penAt := some s.now } }
    else s

/-! ## The override (R281, R282) -/

/-- The channels with FASTOFF_EN set, as a bitmap. -/
def State.fastoffMap (s : State) : Nat := bitsWhere (fun n => s.flag CDAC_CFG.FASTOFF_EN 0 n) 32

/-- A loop that owns an overridden channel enters HOLD with reason FASTOFF; one already in HOLD keeps its reason
(R281, R282). -/
def State.overrideLoop (s : State) (l : Nat) : State :=
  match s.loopDac l with
  | none => s
  | some n =>
    if s.flag CDAC_CFG.FASTOFF_EN 0 n ∧ (s.loopMode l = loopManual ∨ s.loopMode l = loopAuto) then
      s.setLoopMode l loopHold 2 2
    else s

/-- The override begins (R281). -/
def State.overrideOn (s : State) : State :=
  let s := ((s.raise CDAC_STAT.OVERRIDE).raise TGT_STAT.OVERRIDE).raise CDAC_CAUSE.OVERRIDE_ON
  let s := s.putFlag TGT_STAT.RESUME_PEND false
  let s := (List.range 48).foldl (fun s l => s.overrideLoop l) (s.refreshDacs allDacs)
  s.log 0x0C01 sevWarn 1 s.fastoffMap

/-- Whether a loop waits to be resumed after the override (R282). -/
def State.resumable (s : State) (l : Nat) : Bool :=
  s.loopMode l == loopHold && s.fld TGT_LOOP_STAT.HOLD_REASON 0 l == 2 && s.flag TGT_LOOP_CFG.RESUME 0 l

/-- The override ends: the channels return to their base codes; the resumption of R282 is pending. -/
def State.overrideOff (s : State) : State :=
  let s := ((s.put CDAC_STAT.OVERRIDE 0).put TGT_STAT.OVERRIDE 0).raise CDAC_CAUSE.OVERRIDE_OFF
  let s := s.putFlag TGT_STAT.RESUME_PEND ((List.range 48).any (fun l => s.resumable l))
  let s := { s with opt := { s.opt with resumeAt := s.now + 10000 } }.refreshDacs allDacs
  s.log 0x0C01 sevWarn 0 s.fastoffMap

end Sys2Proof.Machine
end

