-- ==== Sys2Proof/Machine/Channels.lean ====
section
/-!
DEFINITION. Sys2Proof/Machine/Channels.lean: the decimation channels of the monitor (R301–R309): their filters, their
restart, the coefficient banks and the slot table they rest on.
-/

namespace Sys2Proof.Machine

/-! ## Arithmetic and the slot table -/

/-- The nearest integer to a / b, ties to even (R295); `b` is not 0. -/
def rcDiv (a : Int) (b : Nat) : Int :=
  let q := a / (b : Int)
  let r := a % (b : Int)
  if 2 * r < b then q else if (b : Int) < 2 * r then q + 1 else if q % 2 = 0 then q else q + 1

/-- The slots of a table that convert an input: enabled ones that name it. An entry has the layout of MON_SLOT_n. -/
def slotsOf (table : List Nat) (i : Nat) : List Nat :=
  (List.range 32).filter (fun n => bitOf (table.getD n 0) 7 && table.getD n 0 % 32 == i)

/-- The spacing rule of R289 for an input that feeds an enabled channel. -/
def spacingOk (table : List Nat) (i : Nat) : Bool :=
  let xs := slotsOf table i
  let k := xs.length
  match xs with
  | [] => false
  | first :: _ => [1, 2, 4, 8, 16, 32].contains k && xs == (List.range k).map (fun j => first + j * (32 / k))

/-- The active slot table. -/
def State.slotTable (s : State) : List Nat := (List.range 32).map (fun n => (s.reg .MON_SLOT 0 n).toNat)

/-- The shadow slot table. -/
def State.slotShadow (s : State) : List Nat := (List.range 32).map (fun n => (s.reg .MON_SLOT_SH 0 n).toNat % 256)

/-- The sample period Ts_in of an input in µs, where its slots keep the spacing rule. -/
def State.tsIn (s : State) (i : Nat) : Option Nat :=
  if spacingOk s.slotTable i then some (32 / (slotsOf s.slotTable i).length) else none

/-- The number of the sample of an input taken at instant `t`, counted from the frame that holds instant 0 (R303). -/
def sampleIndex (table : List Nat) (i t : Nat) : Nat :=
  let xs := slotsOf table i
  t / 32 * xs.length + (xs.filter (fun n => decide (n < t % 32))).length

/-! ## A channel's settings -/

/-- A channel's state beside its registers. -/
def State.chan (s : State) (c : Nat) : Chan := s.mon.chans.getD c {}

/-- Change a channel's state. -/
def State.setChan (s : State) (c : Nat) (v : Chan) : State :=
  { s with mon := { s.mon with chans := s.mon.chans.set c v } }

/-- R in effect: 1–64. -/
def State.chR (s : State) (c : Nat) : Nat := clampN 1 64 (s.fld MON_CH_DEC.R 0 c)

/-- D in effect: 1–32, and 1 with the FIR bypassed (R301). -/
def State.chD (s : State) (c : Nat) : Nat :=
  if s.flag MON_CH_CFG.FIR_EN 0 c then clampN 1 32 (s.fld MON_CH_DEC.D 0 c) else 1

/-- The input of a channel. -/
def State.chIn (s : State) (c : Nat) : Nat := s.fld MON_CH_CFG.INPUT 0 c

/-- Whether a channel is in use by a loop in AUTO (R309). -/
def State.chInUse (s : State) (c : Nat) : Bool :=
  (List.range 48).any (fun l =>
    s.loopMode l == loopAuto &&
      (s.fld TGT_LOOP_CFG.FB_CH 0 l == c ||
        (s.fld TGT_LOOP_CFG.FF_SRC 0 l == 2 && s.fld TGT_LOOP_CFG.FF_INDEX 0 l == c)))

/-- Whether an input feeds a channel that is in use (R309). -/
def State.inputInUse (s : State) (i : Nat) : Bool :=
  (List.range 32).any (fun c => s.chIn c == i && s.chInUse c)

/-- MON_CH_STAT_c with IN_LOOP as it stands. -/
def State.chStat (s : State) (c : Nat) : W32 :=
  setBits (s.reg .MON_CH_STAT 0 c) MON_CH_STAT.IN_LOOP.lo 1 (b2n (s.chInUse c))

/-- MON_CH_PERIOD_c and MON_CH_GD_c (R303, R305). For an input without evenly spaced slots, which no enabled channel has,
the spec states no sample period: a free value stands for it. -/
def State.refreshChan (s : State) (c : Nat) : State :=
  let f := s.free
  let (ts, s) : Nat × State := match s.tsIn (s.chIn c) with | some t => (t, s) | none => f
  let r := s.chR c
  let gd2 := if s.flag MON_CH_CFG.FIR_EN 0 c then 33 * r - 3 else 3 * (r - 1)
  let s := s.put MON_CH_PERIOD.PERIOD (r * s.chD c * ts) 0 c
  s.put MON_CH_GD.GD (gd2 * ts * 500 + 2000) 0 c

/-- Whether twice the output rates of the enabled channels with FIR_EN exceed 12.5 million outputs per second (R306). -/
def State.overloaded (s : State) : Bool :=
  let load := (List.range 32).foldl (fun (q : Nat × Nat) c =>
    if s.flag MON_CH_CFG.EN 0 c ∧ s.flag MON_CH_CFG.FIR_EN 0 c then
      let n := s.chR c * s.chD c * (s.tsIn (s.chIn c)).getD 1
      (q.1 * n + 2 * q.2, q.2 * n)
    else q) (0, 1)
  decide (25 * load.2 < 2 * load.1)

/-! ## Restart and reference (R302, R304) -/

/-- The first instant whose conversion begins after the present action. -/
def State.nextConv (s : State) : Nat := if s.mon.done = some s.now then s.now + 1 else s.now

/-- Restart a channel (R304): its filter state is cleared, its outputs count from 0 and it waits. -/
def State.restartChan (s : State) (c : Nat) : State :=
  let w := (s.wide .MON_CH_VAL 0 c).toNat % 2 ^ 32
  let s := (s.raise MON_CH_STAT.WAITING 0 c).setWide .MON_CH_VAL (BitVec.ofNat 256 w) 0 c
  s.setChan c { since := s.nextConv, swap := (s.chan c).swap, waiters := (s.chan c).waiters }

/-- NO_REF follows the channel's generator, and the channel restarts when it runs again (R302). -/
def State.refreshRef (s : State) (c : Nat) : State :=
  let run := (s.opt.sines.getD (s.fld MON_CH_CFG.GEN 0 c) {}).running
  let lost := s.flag MON_CH_CFG.EN 0 c && s.flag MON_CH_CFG.MIX_EN 0 c && !run
  let had := s.flag MON_CH_STAT.NO_REF 0 c
  let s := s.putFlag MON_CH_STAT.NO_REF lost 0 c
  if lost then s.setChan c { (s.chan c) with outs := [] }
  else if had ∧ s.flag MON_CH_CFG.EN 0 c then s.restartChan c
  else s

/-- The channels follow generator `g` (R302). -/
def State.refChanged (s : State) (g : Nat) : State :=
  (List.range 32).foldl (fun s c => if s.fld MON_CH_CFG.GEN 0 c = g then s.refreshRef c else s) s

/-- Configure a channel: what restarts it (R304), what its period and delay follow. -/
def State.setChanCfg (s : State) (c : Nat) (cfg dec : W32) : State :=
  let oldC := s.reg .MON_CH_CFG 0 c
  let oldD := s.reg .MON_CH_DEC 0 c
  let was := getBits oldC 0 1 = 1
  let on := getBits cfg 0 1 = 1
  let restart := on ∧ (¬ was ∨ (oldC ^^^ cfg) &&& 0x000F1F08 ≠ 0 ∨ (oldD ^^^ dec) &&& 0x00003F7F ≠ 0)
  let s := (s.setReg .MON_CH_CFG cfg 0 c).setReg .MON_CH_DEC dec 0 c
  let s := if restart then s.restartChan c else s
  let s := if on then s else (s.put MON_CH_STAT.WAITING 0 0 c).setChan c { (s.chan c) with outs := [] }
  (s.refreshRef c).refreshChan c

/-- The refusal a configuration of a channel meets: none, or the code of R309, R289 or R306. -/
def State.chanRefusal (s : State) (c : Nat) (cfg dec : W32) : Option Nat :=
  let oldC := s.reg .MON_CH_CFG 0 c
  let oldD := s.reg .MON_CH_DEC 0 c
  if s.chInUse c ∧ ((oldC ^^^ cfg) &&& 0x000F1F0F ≠ 0 ∨ (oldD ^^^ dec) &&& 0x00003F7F ≠ 0) then some 0x0238
  else if getBits cfg 0 1 = 1 ∧ spacingOk s.slotTable (getBits cfg 8 5) = false then some 0x0239
  else if getBits cfg 0 1 = 1 ∧ getBits cfg 2 1 = 1 ∧
      ((s.setReg .MON_CH_CFG cfg 0 c).setReg .MON_CH_DEC dec 0 c).overloaded then some 0x023C
  else none

/-- A refused write of a channel's register (R307, R309). -/
def State.chanLock (s : State) (c : Nat) : State := (s.raise MON_CH_STAT.LOCK 0 c).raise MON_CAUSE.LOCK

/-- A direct write of MON_CH_CFG_c or MON_CH_DEC_c (R7, R306, R309): a refused one is ignored whole. -/
def State.chanWrite (s : State) (c : Nat) (cfg dec : W32) : State :=
  match s.chanRefusal c cfg dec with
  | none => s.setChanCfg c cfg dec
  | some _ => s.chanLock c

/-! ## The filters (R301) -/

/-- Reduce to 24 bits: whether it saturated is reported for the channel (R301). -/
def State.reduce (s : State) (c stage : Nat) (x : Int) : Int × State :=
  let y := satSigned 24 x
  if y = x then (y, s)
  else
    let first := s.flag MON_CH_STAT.SAT 0 c = false
    let s := s.raise MON_CH_STAT.SAT 0 c
    (y, if first then (s.raise MON_CAUSE.SAT).logRate c 0x0D05 sevWarn c stage else s)

/-- The normalised CIC output for the comb's sum (R301): exact for a power of 2, else with the device's gain, which is
within 2^−22 of 1. -/
def cicOut (r : Nat) (x : Int) : Int :=
  if [1, 2, 4, 8, 16, 32, 64].contains r then rcDiv x (r ^ 3)
  else rcDiv (x * (2 ^ 64 + clampI (-(2 ^ 42)) (2 ^ 42) (Config.cicGain r))) (r ^ 3 * 2 ^ 64)

/-- Tap `t` of a bank. -/
def State.tap (s : State) (bank : Bool) (c t : Nat) : Int :=
  signed 24 ((s.reg (if bank then .MON_FIRB else .MON_FIRA) 0 (32 * c + t)).toNat % 2 ^ 24)

/-- The FIR's result for a bank, before the output shift: the CIC output itself with the FIR bypassed. -/
def State.firSum (s : State) (bank : Bool) (c : Nat) : Int :=
  let xs := (s.chan c).line
  if s.flag MON_CH_CFG.FIR_EN 0 c then
    (List.range 31).foldl (fun a t => a + s.tap bank c t * xs.getD t 0) 0
  else xs.getD 0 0 * 2 ^ 23

/-- The value of a bank at an output, 56 bits shifted and reduced. -/
def State.bankOut (s : State) (bank : Bool) (c : Nat) : Int × State :=
  let x := s.firSum bank c
  let y := satSigned 56 x
  let s := if y = x then s else (s.reduce c 3 x).2
  s.reduce c 4 (rcDiv (y * 2 ^ s.fld MON_CH_CFG.SHIFT 0 c) (2 ^ 23))

/-- Complete the commits that wait for a channel's output (R308). -/
def State.commitDone (s : State) (c fade : Nat) : State :=
  let ws := (s.chan c).waiters
  ws.foldl (fun s t => s.finish t ⟨0, fade, 0⟩) (s.setChan c { (s.chan c) with waiters := [] })

/-- The swap of the banks. -/
def State.swapBanks (s : State) (c : Nat) : State :=
  s.putFlag MON_CH_STAT.ACTIVE (!(s.flag MON_CH_STAT.ACTIVE 0 c)) 0 c

/-- The output of a channel at a publication sample (R308): a waiting swap happens, a fade goes one step on. -/
def State.chanOutput (s : State) (c : Nat) : Int × State :=
  let s := if (s.chan c).swap then ((s.setChan c { (s.chan c) with swap := false }).swapBanks c).commitDone c 0 else s
  let a := s.flag MON_CH_STAT.ACTIVE 0 c
  if s.flag MON_CH_STAT.FADING 0 c then
    let k := s.fld MON_CH_STAT.FADE_STEP 0 c
    let s := if k = 0 then s.commitDone c 1 else s
    let k' := if k < 64 then k + 1 else 64
    let s := s.put MON_CH_STAT.FADE_STEP k' 0 c
    let (yo, s) := s.bankOut a c
    let (yn, s) := s.bankOut (!a) c
    (if k < 64 then yo + rcDiv ((yn - yo) * k') 64 else yn, s)
  else s.bankOut a c

/-- The mixer (R301, R302) at generator phase `phase`. -/
def State.mixed (s : State) (c phase : Nat) (x : Int) : Int × State :=
  if s.flag MON_CH_CFG.MIX_EN 0 c then
    let harm := if s.flag MON_CH_CFG.HARM 0 c then 2 else 1
    let arg := (harm * phase + s.fld MON_CH_PHASE.PHASE_OFS 0 c * 2 ^ 16) % 2 ^ 32
    s.reduce c 1 (rcDiv (x * satSigned 24 (Config.refSine arg)) (2 ^ 23))
  else (x, s)

/-- A channel takes the corrected sample `x` with number `m` of instant `t`; `sine` is its generator at that instant. -/
def State.feedChan (s : State) (c t m : Nat) (sine : Sine) (x : Int) : State :=
  if s.flag MON_CH_STAT.NO_REF 0 c ∨ (s.flag MON_CH_CFG.MIX_EN 0 c ∧ sine.running = false) ∨ t < (s.chan c).since then s
  else
    let (x, s) := s.mixed c sine.phase x
    let v := s.chan c
    let i1 := v.i1 + x
    let i2 := v.i2 + i1
    let i3 := v.i3 + i2
    let s := s.setChan c { v with got := v.got + 1, i1 := i1, i2 := i2, i3 := i3 }
    let r := s.chR c
    if m % r = r - 1 then
      let d1 := i3 - v.c1
      let d2 := d1 - v.c2
      let d3 := d2 - v.c3
      let (y, s) := s.reduce c 2 (cicOut r d3)
      let s := s.setChan c { (s.chan c) with c1 := i3, c2 := d1, c3 := d2, line := (y :: v.line).take 31 }
      let n := r * s.chD c
      let need := if s.flag MON_CH_CFG.FIR_EN 0 c then 34 * r else 3 * r
      if m % n = n - 1 ∧ need ≤ (s.chan c).got then
        let (z, s) := s.chanOutput c
        s.setChan c { (s.chan c) with outs := (s.chan c).outs ++ [(t + 2, z)] }
      else s
    else s

/-- Publish the oldest output whose instant has come (R303). -/
def State.publish (s : State) (c : Nat) : State :=
  match (s.chan c).outs with
  | [] => s
  | (at_, z) :: rest =>
    if at_ ≤ s.now ∧ s.flag MON_CH_CFG.EN 0 c then
      let seq := (s.wide .MON_CH_VAL 0 c).toNat / 2 ^ 32 % 2 ^ 32
      let s := s.setChan c { (s.chan c) with outs := rest }
      let s := s.put MON_CH_STAT.WAITING 0 0 c
      s.setWide .MON_CH_VAL (BitVec.ofNat 256 (unsigned 24 z + (seq + 1) % 2 ^ 32 * 2 ^ 32)) 0 c
    else s

/-- A fade that has made its 64 outputs ends: the other bank is active and the old one inactive (R308). -/
def State.fadeEnd (s : State) (c : Nat) : State :=
  if s.flag MON_CH_STAT.FADING 0 c ∧ s.fld MON_CH_STAT.FADE_STEP 0 c = 64 then
    let s := (s.put MON_CH_STAT.FADING 0 0 c).put MON_CH_STAT.FADE_STEP 0 0 c
    (s.swapBanks c).raise MON_CAUSE.FADE_DONE
  else s

/-- What a commit does at once (R308): refused, swapped, or waiting for the channel's next output. -/
inductive CommitResult where
  | busy | swapped | waits
  deriving DecidableEq, Repr

/-- A commit of a channel's inactive bank (R308). A channel that is not enabled has published nothing to fade from and
swaps at once, as a waiting one does. -/
def State.bankCommit (s : State) (c : Nat) : CommitResult × State :=
  if s.flag MON_CH_STAT.FADING 0 c then (.busy, s.chanLock c)
  else if s.flag MON_CH_STAT.WAITING 0 c ∨ s.flag MON_CH_CFG.EN 0 c = false then (.swapped, s.swapBanks c)
  else if s.flag MON_CH_CFG.ROLE 0 c then
    (.waits, (s.raise MON_CH_STAT.FADING 0 c).put MON_CH_STAT.FADE_STEP 0 0 c)
  else (.waits, s.setChan c { (s.chan c) with swap := true })

/-- Whether a bank's taps may be written: the inactive bank, except during a cross-fade (R307). -/
def State.bankWritable (s : State) (bank : Bool) (c : Nat) : Bool :=
  s.flag MON_CH_STAT.ACTIVE 0 c != bank && !(s.flag MON_CH_STAT.FADING 0 c)

/-- A direct write of a tap (R307). -/
def State.tapWrite (s : State) (bank : Bool) (i : Nat) (data : W32) : State :=
  if s.bankWritable bank (i / 32) then
    s.setReg (if bank then .MON_FIRB else .MON_FIRA) (data &&& 0x00FFFFFF) 0 i
  else s.chanLock (i / 32)

end Sys2Proof.Machine
end

