-- ==== Sys2Proof/Machine/Optics.lean ====
section
/-!
DEFINITION. Sys2Proof/Machine/Optics.lean: the control-law engine, the control DAC commands, the sine generators and
the optics rails (spec/10_optics_control.md).
-/

namespace Sys2Proof.Machine

open Host

/-! ## Register writes (R269, R270, R275, R277, R278) -/

/-- Whether a loop's coefficients may change: MANUAL or OPEN (R269). -/
def State.loopUnlocked (s : State) (l : Nat) : Bool := s.loopMode l == loopOpen || s.loopMode l == loopManual

/-- A refused write of a loop's register (R269). -/
def State.loopLock (s : State) (l : Nat) : State := (s.raise TGT_LOOP_STAT.COEF_LOCK 0 l).raise TGT_CAUSE.LOCK

/-- The re-clamp of r_ramp that follows a change of SP_MIN or SP_MAX (R270). -/
def State.reclampRamp (s : State) (l : Nat) : State :=
  s.put TGT_LOOP_RSP.VALUE
    (unsigned 24 (clampI (s.sfld TGT_LOOP_SPMIN.LIMIT 0 l) (s.sfld TGT_LOOP_SPMAX.LIMIT 0 l) (s.sfld TGT_LOOP_RSP.VALUE 0 l))) 0 l

/-- The channel that a TGT_LOOP_CFG word binds. -/
def cfgDac (v : W32) : Option Nat := if getBits v 15 1 = 1 then none else some (getBits v 8 5)

/-- Whether loop `l` may be bound to a channel: no other loop is bound to it and it is not AVS's channel 31
(R277, R417). -/
def State.bindOk (s : State) (l : Nat) (d : Option Nat) : Bool :=
  match d with
  | none => true
  | some n => n != 31 && (match s.bound n with | none => true | some l' => l' == l)

/-- RAMPING follows r_ramp and the target (R266). -/
def State.refreshRamping (s : State) (l : Nat) : State :=
  s.putFlag TGT_LOOP_STAT.RAMPING (s.fld TGT_LOOP_RSP.VALUE 0 l != s.fld TGT_LOOP_SP.TARGET 0 l) 0 l

/-- A write of a loop's RWL register by the cobbler (R7, R269): the coefficients in MANUAL or OPEN, the bindings in OPEN
only and to a free channel only. -/
def State.loopRegWrite (s : State) (r : Reg) (l : Nat) (data : W32) : State :=
  let old := s.reg r 0 l
  if s.loopUnlocked l then
    let bindMask : W32 := if r = .TGT_LOOP_CFG then 0x00009F1F else 0
    let keep : W32 :=
      if s.loopMode l = loopOpen ∧ s.bindOk l (cfgDac data) then 0 else bindMask
    let m := r.access.rwl &&& ~~~ keep
    let s := s.setReg r ((old &&& ~~~ m) ||| (data &&& m)) 0 l
    let s := if (old ^^^ data) &&& keep = 0 then s else s.loopLock l
    if r = .TGT_LOOP_SPMIN ∨ r = .TGT_LOOP_SPMAX then (s.reclampRamp l).refreshRamping l else s
  else s.loopLock l

/-- Write a set-point target: it is clamped to SP_MIN … SP_MAX, and a clamp sets SP_CLAMP (R270). -/
def State.writeTarget (s : State) (l : Nat) (x : Int) : State :=
  let c := clampI (s.sfld TGT_LOOP_SPMIN.LIMIT 0 l) (s.sfld TGT_LOOP_SPMAX.LIMIT 0 l) x
  let s := s.put TGT_LOOP_SP.TARGET (unsigned 24 c) 0 l
  let s := if c = x then s else s.raise TGT_LOOP_STAT.SP_CLAMP 0 l
  s.refreshRamping l

/-- Queue a mode request of a loop (R274). -/
def State.requestMode (s : State) (l : Nat) (q : LoopReq) : State :=
  s.setLoop l { s.loop l with reqs := (s.loop l).reqs ++ [q] }

/-- The effect of a CDAC_CFG_n word on a channel, GAIN2 apart: EN opens the clamp at the next strobe or closes it
(R276); channel 31's FASTOFF_EN is held clear (R417). A channel that comes under the override takes its loop with it (R281). -/
def State.applyChannelCfg (s : State) (n : Nat) (v : W32) : State :=
  let s := s.setReg .CDAC_CFG v 0 n
  let s := if n = 31 then s.putFlag CDAC_CFG.FASTOFF_EN false 0 n else s
  let s := if s.flag CDAC_CFG.EN 0 n then s.refreshDac n else s.clampChannel n
  match s.owner n with
  | some l => if s.overridden n then s.overrideLoop l else s
  | none => s

/-- A register write to CDAC_CFG_n (R275): GAIN2 keeps its value while EN is set, and LOCK is set if the write would
change it; every other field takes effect. -/
def State.channelCfgWrite (s : State) (n : Nat) (data : W32) : State :=
  let old := s.reg .CDAC_CFG 0 n
  let live := s.flag CDAC_CFG.EN 0 n
  let m : W32 := Reg.CDAC_CFG.access.rw ||| (if live then 0 else Reg.CDAC_CFG.access.rwl)
  let s' := s.applyChannelCfg n ((old &&& ~~~ m) ||| (data &&& m))
  if live ∧ getBits old 1 1 ≠ getBits data 1 1 then
    (s'.raise CDAC_CH_STAT.LOCK 0 n).raise CDAC_CAUSE.LOCK
  else s'

/-- A register write to CDAC_CODE_n (R277). Channel 31 belongs to AVS in READY and ACTIVE (R417). -/
def State.channelCodeWrite (s : State) (n : Nat) (data : W32) : State :=
  if (s.owner n).isSome ∨ n = 31 then (s.raise CDAC_CH_STAT.LOCK 0 n).raise CDAC_CAUSE.LOCK
  else s.stageCode n (getBits data 0 14)

/-- Strobe the groups of a mask whose source is SOFTWARE (R278). -/
def State.softStrobe (s : State) (mask : Nat) : State :=
  (List.range 4).foldl (fun s g => if bitOf mask g ∧ s.groupSrc g = 2 then s.strobe g else s) s

/-- A write of CDAC_PEN (R283, R394): bits released deassert one by one, bits requested assert one by one. -/
def State.penWrite (s : State) (data : W32) : State :=
  let s := s.setReg .CDAC_PEN (data &&& Reg.CDAC_PEN.access.rw)
  s.penDropOne.penNext

/-! ## Sine generators (R279, R280) -/

/-- FTW in effect: at most 429,496,730 (R279). -/
def State.ftw (s : State) (g : Nat) : Nat := clampN 0 429496730 (s.fld SINE_FTW.FTW 0 g)

/-- A generator. -/
def State.sine (s : State) (g : Nat) : Sine := s.opt.sines.getD g {}

/-- Change a generator; SINE_STAT_g shows it, and the decimation channels follow its start or stop (R302). -/
def State.setSine (s : State) (g : Nat) (v : Sine) : State :=
  let was := (s.sine g).running
  let s := { s with opt := { s.opt with sines := s.opt.sines.set g v } }
  let s := (s.putFlag SINE_STAT.RUNNING v.running 0 g).put SINE_STAT.PHASE (v.phase / 65536) 0 g
  if was = v.running then s else s.refChanged g

/-- The optics actions on entry to LOW_POWER: every loop OPEN, every EN clear, every generator stopped (R284). -/
def State.opticsOff (s : State) : State :=
  let s := (List.range 48).foldl
    (fun s l => if s.loopMode l = loopOpen then s else s.setLoopMode l loopOpen 0 0) s
  let s := allDacs.foldl (fun s n => s.disableChannel n) s
  (List.range 8).foldl (fun (s : State) g =>
    (s.put SINE_CTL.EN 0 0 g).setSine g { (s.sine g) with running := false, sample := 0 }) s

/-- round-half-up(AMP × sin(2πφ / 2^32)), with the sine from the 16-bit table (R279). -/
def sineSample (amp phase : Nat) : Int :=
  roundShift ((amp : Int) * clampI (-32768) 32767 (Config.sineTable (phase / 65536))) 15

/-- Whether the next advance of the phase crosses 0 or half a turn. -/
def sineCrosses (phase ftw : Nat) : Bool :=
  decide (2 ^ 32 ≤ phase + ftw) || (decide (phase < 2 ^ 31) && decide (2 ^ 31 ≤ phase + ftw))

/-- A generator's state at the next timebase microsecond (R279). -/
def State.sineNext (s : State) (g : Nat) : Sine :=
  let v := s.sine g
  let en := s.flag SINE_CTL.EN 0 g
  let amp := s.fld SINE_AMP.AMP 0 g
  if v.running then
    let p := v.phase + s.ftw g
    if en = false ∧ sineCrosses v.phase (s.ftw g) then { v with running := false, phase := p % 2 ^ 32, sample := 0 }
    else
      let a := if 2 ^ 32 ≤ p then amp else v.amp
      { v with phase := p % 2 ^ 32, amp := a, sample := sineSample a (p % 2 ^ 32) }
  else if en then
    let p := s.fld SINE_AMP.PHASE0 0 g * 65536
    { running := true, phase := p, amp := amp, sample := sineSample amp p }
  else { v with sample := 0 }

/-- Report a clip of channel `n` (R280). -/
def State.reportClip (s : State) (n : Nat) : State :=
  if s.flag CDAC_CFG.DITHER_EN 0 n ∧ s.flag CDAC_CFG.EN 0 n ∧ s.dacClips n ∧ s.overridden n = false then
    let s := if s.flag CDAC_CH_STAT.CLIP 0 n then s else (s.raise CDAC_CH_STAT.CLIP 0 n).raise CDAC_CAUSE.CLIP
    s.logRate n 0x0C02 sevWarn n (s.fld CDAC_CFG.GEN 0 n)
  else s

/-! ## The loop computation (R264–R272) -/

/-- A saturated value and whether it saturated. -/
def satF (w : Nat) (x : Int) : Int × Bool := (satSigned w x, decide (satSigned w x ≠ x))

/-- What conv() gives: the code, u, whether the code was clamped high or low, and whether s or u saturated. -/
structure Conv where
  code : Int
  u : Int
  hi : Bool
  lo : Bool
  sat : Bool
  deriving DecidableEq, Repr

/-- conv() of R264. -/
def conv (outMin outMax : Int) (x : Int) : Conv :=
  let (s, f1) := satF 56 x
  let (u, f2) := satF 24 ((s + 2 ^ 23) / 2 ^ 24)
  let c := (u + 2 ^ 8) / 2 ^ 9
  ⟨clampI outMin outMax c, u, decide (outMax < c), decide (c < outMin), f1 || f2⟩

/-- σ of R264. -/
def State.sigma (s : State) (l : Nat) : Int := if s.flag TGT_LOOP_CFG.POL 0 l then -1 else 1

/-- The feedback channel of a loop. -/
def State.fbCh (s : State) (l : Nat) : Nat := s.fld TGT_LOOP_CFG.FB_CH 0 l

/-- y: the latest value of the feedback channel, sQ0.23 (R263). -/
def State.fbY (s : State) (l : Nat) : Int := signed 24 ((s.wide .MON_CH_VAL 0 (s.fbCh l)).toNat % 2 ^ 24)

/-- The sequence number of a channel's latest value (MON_CH_VAL_c, word 1). -/
def State.chSeq (s : State) (c : Nat) : Nat := ((s.wide .MON_CH_VAL 0 c).toNat / 2 ^ 32) % 2 ^ 32

/-- PERIOD in effect: 5–1,000 µs. -/
def State.period (s : State) (l : Nat) : Nat := clampN 5 1000 (s.fld TGT_LOOP_TIME.PERIOD 0 l)

/-- Whether the present timebase instant is a tick of the loop (R261). -/
def State.ticksNow (s : State) (l : Nat) : Bool :=
  s.now % s.period l == s.fld TGT_LOOP_TIME.PHASE 0 l % s.period l

/-- Identical raw conversions in a row of the input of the loop's feedback channel (R271). -/
def State.fbRun (s : State) (l : Nat) : Nat :=
  s.fld MON_IN_LAST.RUN 0 (s.fld MON_CH_CFG.INPUT 0 (s.fbCh l))

/-- The failing feedback checks: [0] range, [1] freshness, [2] frozen (R271). No new value for two ticks is no new value
for 2 × PERIOD. -/
def State.failing (s : State) (l : Nat) : Nat :=
  let y := s.fbY l
  let range := decide (y < s.sfld TGT_LOOP_FBMIN.LIMIT 0 l) || decide (s.sfld TGT_LOOP_FBMAX.LIMIT 0 l < y)
  let stale := decide (2 ≤ s.fld TGT_LOOP_CHK.AGE 0 l)
  let n := s.fld TGT_LOOP_SHIFT.FROZEN_N 0 l
  let frozen := decide (n ≠ 0) && decide (n ≤ s.fbRun l)
  b2n range + 2 * b2n stale + 4 * b2n frozen

/-- The effective gain 2^(1 + SH) × K as a factor of an exact product. -/
def gain (k : Int) (x : Int) (sh : Nat) : Int × Bool := satF 56 (k * x * (2 ^ (1 + sh) : Nat))

/-- The u that a loop had computed by the present instant (R262, R265): one whose computation has not ended is not seen. -/
def State.uOf (s : State) (l : Nat) : Int := if (s.loop l).uAt ≤ 10 * s.now then (s.loop l).u else (s.loop l).uPrev

/-- v, the feed-forward input (R265). -/
def State.ffInput (s : State) (l : Nat) : Int :=
  let ix := s.fld TGT_LOOP_CFG.FF_INDEX 0 l
  match s.fld TGT_LOOP_CFG.FF_SRC 0 l with
  | 1 => s.sfld TGT_LOOP_RSP.VALUE 0 l
  | 2 => signed 24 ((s.wide .MON_CH_VAL 0 ix).toNat % 2 ^ 24)
  | 3 => if ix = l then 0 else s.uOf ix
  | _ => 0

/-- The integrator of a loop, 56 bits. -/
def State.integ (s : State) (l : Nat) : Int := signed 56 ((s.wide .TGT_LOOP_INTEG 0 l).toNat)

/-- Write the integrator; the register shows it sign-extended to 64 bits. -/
def State.setInteg (s : State) (l : Nat) (x : Int) : State :=
  s.setWide .TGT_LOOP_INTEG (BitVec.ofNat 256 (unsigned 64 x)) 0 l

/-- A sticky saturation flag: its first setting after a clear sets TGT_CAUSE.SAT (R266). -/
def State.satFlag (s : State) (f : Fld) (l : Nat) (on : Bool) : State :=
  if on ∧ s.flag f 0 l = false then
    ((s.raise f 0 l).raise TGT_CAUSE.SAT).logRate l 0x0B03 sevInfo l ((s.raise f 0 l).reg .TGT_LOOP_STAT 0 l).toNat
  else s

/-- p + f of R264 at the present set-point, and e, with whether anything saturated. -/
def State.propFf (s : State) (l : Nat) : Int × Int × Bool :=
  let (e, f0) := satF 24 (s.sigma l * (s.sfld TGT_LOOP_RSP.VALUE 0 l - s.fbY l))
  let (p, f1) := gain (s.sfld TGT_LOOP_KP.K 0 l) e (s.fld TGT_LOOP_SHIFT.SH_P 0 l)
  let (f, f2) := gain (s.sfld TGT_LOOP_KF.K 0 l) (s.ffInput l) (s.fld TGT_LOOP_SHIFT.SH_F 0 l)
  (e, p + f, f0 || f1 || f2)

/-- Load the result of a computation: the code goes to the bound channel, the registers show it. -/
def State.loadResult (s : State) (l : Nat) (c : Conv) (sat : Bool) : State :=
  let s := s.satFlag TGT_LOOP_STAT.SAT_HI l c.hi
  let s := s.satFlag TGT_LOOP_STAT.SAT_LO l c.lo
  let s := s.satFlag TGT_LOOP_STAT.ACC_SAT l (sat || c.sat)
  let s := s.setLoop l { s.loop l with u := c.u, uAt := s.opt.busy, uPrev := s.uOf l }
  let s := s.put TGT_LOOP_OUT.CODE c.code.toNat 0 l
  let s := s.put TGT_LOOP_OUT.U_HI (unsigned 24 c.u / 256) 0 l
  match s.loopDac l with
  | some n => s.stageCode n c.code.toNat
  | none => s

/-- The output limits of a loop. -/
def State.outMin (s : State) (l : Nat) : Int := (s.fld TGT_LOOP_OUTLIM.OUT_MIN 0 l : Int)
/-- The output limits of a loop. -/
def State.outMax (s : State) (l : Nat) : Int := (s.fld TGT_LOOP_OUTLIM.OUT_MAX 0 l : Int)

/-- The computation of R264 at a tick in AUTO, after the set-point ramp. -/
def State.computeLoop (s : State) (l : Nat) : State :=
  let (e, pf, f0) := s.propFf l
  let (ym, f1) := satF 24 (s.sigma l * s.fbY l)
  let (di, f2) := gain (s.sfld TGT_LOOP_KI.K 0 l) e (s.fld TGT_LOOP_SHIFT.SH_I 0 l)
  let (dy, f3) := satF 24 ((s.loop l).ymPrev - ym)
  let (d, f4) := gain (s.sfld TGT_LOOP_KD.K 0 l) dy (s.fld TGT_LOOP_SHIFT.SH_D 0 l)
  let i := s.integ l
  let (iNew, f5) := satF 56 (i + di)
  let c := conv (s.outMin l) (s.outMax l) (pf + iNew + d)
  let hold := (c.hi && decide (0 < di)) || (c.lo && decide (di < 0))
  let c' := if hold then conv (s.outMin l) (s.outMax l) (pf + i + d) else c
  let s := s.put TGT_LOOP_ERR.VALUE (unsigned 24 e) 0 l
  let s := s.setInteg l (if hold then i else iNew)
  let s := s.setLoop l { s.loop l with ymPrev := ym }
  s.loadResult l { c' with hi := c.hi || c'.hi, lo := c.lo || c'.lo, sat := c.sat || c'.sat } (f0 || f1 || f2 || f3 || f4 || f5)

/-- The set-point ramp of R270. -/
def State.rampStep (s : State) (l : Nat) : State :=
  let r := s.sfld TGT_LOOP_RSP.VALUE 0 l
  let t := s.sfld TGT_LOOP_SP.TARGET 0 l
  let step : Int := if s.fld TGT_LOOP_RAMP.RAMP 0 l = 0 then 1 else s.fld TGT_LOOP_RAMP.RAMP 0 l
  let r' := if r < t then min (r + step) t else if t < r then max (r - step) t else r
  (s.put TGT_LOOP_RSP.VALUE (unsigned 24 r') 0 l).refreshRamping l

/-- The bumpless entry to AUTO (R268): r_ramp, ym_prev and the integrator are preset so that conv() returns the present
base code. -/
def State.enterAuto (s : State) (l n why : Nat) : State :=
  let s :=
    if s.flag TGT_LOOP_CFG.PV_TRACK 0 l then
      s.put TGT_LOOP_RSP.VALUE
        (unsigned 24 (clampI (s.sfld TGT_LOOP_SPMIN.LIMIT 0 l) (s.sfld TGT_LOOP_SPMAX.LIMIT 0 l) (s.fbY l))) 0 l
    else s
  let s := s.refreshRamping l
  let (e, pf, f0) := s.propFf l
  let u0 : Int := (s.fld CDAC_CH_STAT.BASE 0 n : Int) * 2 ^ 9
  let (i, f1) := satF 56 (u0 * 2 ^ 24 - pf)
  let s := s.put TGT_LOOP_ERR.VALUE (unsigned 24 e) 0 l
  let s := s.setInteg l i
  let s := s.setLoop l { s.loop l with ymPrev := satSigned 24 (s.sigma l * s.fbY l) }
  let s := s.put TGT_LOOP_CHK.AGE 0 0 l
  let s := s.setLoopMode l loopAuto 0 why
  s.loadResult l (conv (s.outMin l) (s.outMax l) (pf + i)) (f0 || f1)

/-- Whether a laser loop's channel lacks FASTOFF_EN (R273). -/
def State.laserUnsafe (s : State) (l : Nat) : Bool :=
  s.flag TGT_LOOP_CFG.LASER 0 l &&
    (match s.loopDac l with | some n => !(s.flag CDAC_CFG.FASTOFF_EN 0 n) | none => false)

/-- Apply one mode request at a tick (R268, R273, R274), given the failing checks of the tick: the status code and the
state. -/
def State.applyRequest (s : State) (l fails : Nat) (q : LoopReq) : Nat × State :=
  let why := if q.resume then 3 else 0
  let old := s.loopMode l
  match q.mode with
  | 0 => (0, s.setLoopMode l loopOpen 0 why)
  | 3 =>
    if old = loopOpen ∧ s.laserUnsafe l then (0x0236, s)
    else if old = loopHold then (0, s) else (0, s.setLoopMode l loopHold 0 why)
  | 1 =>
    match s.loopDac l with
    | none => (0x0235, s)
    | some n =>
      if s.laserUnsafe l then (0x0236, s)
      else
        let s := s.put TGT_LOOP_MAN.MAN_CODE (q.man.getD (s.fld CDAC_CH_STAT.BASE 0 n)) 0 l
        (0, s.setLoopMode l loopManual 0 why)
  | _ =>
    if old = loopAuto then (0, s)
    else if fails ≠ 0 then (0x0231, s)
    else
      match s.loopDac l with
      | none => (0x0235, s)
      | some n =>
        if s.period l < s.fld MON_CH_PERIOD.PERIOD 0 (s.fbCh l) then (0x0237, s)
        else if s.laserUnsafe l then (0x0236, s)
        else if s.overridden n then (0x030E, s)
        else (0, s.enterAuto l n why)

/-- Apply the waiting requests of a loop in order; each completes for whoever waits (R274). -/
def State.applyRequests (s : State) (l fails : Nat) : List LoopReq → State
  | [] => s
  | q :: qs =>
    let (code, s1) := s.applyRequest l fails q
    let s2 :=
      match q.waiter with
      | none => s1
      | some t => s1.finish t ⟨code, (s1.reg .TGT_LOOP_STAT 0 l).toNat, if code = 0x0231 then fails else 0⟩
    s2.applyRequests l fails qs

/-- A trip (R272). -/
def State.tripLoop (s : State) (l fails : Nat) : State :=
  let laser := s.flag TGT_LOOP_CFG.LASER 0 l
  let s :=
    match s.loopDac l with
    | some n =>
      if laser then
        let c := s.fld CDAC_SAFE.SAFE_CODE 0 n
        let s := s.put CDAC_CODE.CODE c 0 n
        let s := s.put CDAC_CH_STAT.BASE c 0 n
        let s := { s with opt := { s.opt with tripped := n :: s.opt.tripped.filter (· != n) } }
        (s.put TGT_LOOP_OUT.CODE c 0 l).refreshDac n
      else s
    | none => s
  let s := s.setLoopMode l loopHold 1 1
  let s := s.raise TGT_LOOP_STAT.FB_FAULT 0 l
  let s := if bitOf fails 0 then s.raise TGT_LOOP_STAT.RANGE 0 l else s
  let s := if bitOf fails 1 then s.raise TGT_LOOP_STAT.STALE 0 l else s
  let s := if bitOf fails 2 then s.raise TGT_LOOP_STAT.FROZEN 0 l else s
  let base := match s.loopDac l with | some n => s.fld CDAC_CH_STAT.BASE 0 n | none => 0
  (s.raise TGT_CAUSE.FB_FAULT).log 0x0B01 (if laser then sevErr else sevWarn) l fails (unsigned 24 (s.fbY l)) base

/-- The loops that tick at the present instant. -/
def State.tickers (s : State) : List Nat := (List.range 48).filter (fun l => s.ticksNow l)

/-- The LOOP_TICK strobes, once the last loop of the instant has completed (R278). -/
def State.tickStrobes (s : State) (l : Nat) : State :=
  if s.tickers.getLast? = some l then
    (List.range 4).foldl
      (fun s g => if s.groupSrc g = 1 ∧ s.tickers.contains (s.fld CDAC_GROUP.LOOP 0 g) then s.strobe g else s) s
  else s

/-- The engine serves a tick: 100 ns from the tick, or from the end of the computation before it (R262). -/
def State.serveTick (s : State) : State := { s with opt := { s.opt with busy := max (10 * s.now) s.opt.busy + 1 } }

/-- The outputs published by a loop's tick instant have arrived by the tick (R263, R303): those of its feedback channel and of a
channel that feeds it forward. -/
def State.arrive (s : State) (l : Nat) : State :=
  let s := s.publish (s.fbCh l)
  if s.fld TGT_LOOP_CFG.FF_SRC 0 l = 2 then s.publish (s.fld TGT_LOOP_CFG.FF_INDEX 0 l) else s

/-- A tick of a loop (R261–R272): the checks, a trip, the waiting requests and the computation. -/
def State.loopTick (s : State) (l : Nat) : State :=
  let s := s.arrive l
  let q := s.chSeq (s.fbCh l)
  let fresh := q != (s.loop l).seq
  let s := s.put TGT_LOOP_CHK.AGE (if fresh then 0 else satN 8 (s.fld TGT_LOOP_CHK.AGE 0 l + 1)) 0 l
  let s := s.put TGT_LOOP_CHK.RUN (s.fbRun l) 0 l
  let s := (s.setLoop l { s.loop l with seq := q, ticked := some s.now }).serveTick
  let s := s.put TGT_LOOP_PV.VALUE (unsigned 24 (s.fbY l)) 0 l
  let fails := s.failing l
  let s := s.putFlag TGT_LOOP_STAT.FB_OK (fails == 0) 0 l
  let s := if s.loopMode l = loopAuto ∧ fails ≠ 0 then s.tripLoop l fails else s
  let was := s.loopMode l
  let reqs := (s.loop l).reqs
  let s := (s.setLoop l { s.loop l with reqs := [] }).applyRequests l fails reqs
  let s :=
    if s.loopMode l = loopAuto ∧ was = loopAuto then (s.rampStep l).computeLoop l
    else if s.loopMode l = loopManual then
      let c := clampI (s.outMin l) (s.outMax l) (s.fld TGT_LOOP_MAN.MAN_CODE 0 l)
      let s := s.put TGT_LOOP_OUT.CODE c.toNat 0 l
      match s.loopDac l with
      | some n => s.stageCode n c.toNat
      | none => s
    else s
  s.tickStrobes l

/-! ## Command handlers (R285, R286) -/

/-- A 24-bit parameter sent sign-extended in four bytes: none if it does not fit. -/
def Params.s24 (p : Params) (n : Nat) : Option Int :=
  let x := signed 32 (p.wordAt n)
  if satSigned 24 x = x then some x else none

/-- TGT_LOOP_CFG. -/
def cmdLoopCfg : Handler := fun p _ s =>
  let l := p.byte 0
  let dac := p.byte 2
  let flags := p.byte 3
  let period := p.half 4
  let phase := p.half 6
  let src := p.byte 8
  let ix := p.byte 9
  let ramp := p.wordAt 12
  if 47 < l ∨ 31 < p.byte 1 ∨ (31 < dac ∧ dac ≠ 0xFF) ∨ 15 < flags ∨ period < 5 ∨ 1000 < period ∨ period ≤ phase ∨
      3 < src ∨ 47 < ix ∨ (src = 2 ∧ 31 < ix) ∨ 0x7FFFFF < ramp ∨ p.zeroFrom 16 = false then (fieldRange, s)
  else if s.loopUnlocked l = false then (failWith 0x0230, s)
  else
    let d := if dac = 0xFF then none else some dac
    if s.loopMode l ≠ loopOpen ∧ (d ≠ s.loopDac l ∨ p.byte 1 ≠ s.fbCh l) then (failWith 0x0232, s)
    else if s.bindOk l d = false then (failWith 0x0233, s)
    else
      let v := p.byte 1 + (if dac = 0xFF then 0x8000 else dac * 256) + flags * 0x10000 + src * 0x100000 + ix * 0x1000000
      let s := s.setReg .TGT_LOOP_CFG (BitVec.ofNat 32 v) 0 l
      let s := s.setReg .TGT_LOOP_TIME (BitVec.ofNat 32 (period + phase * 65536)) 0 l
      let s := s.put TGT_LOOP_SHIFT.FROZEN_N (p.half 10) 0 l
      (okWith, s.put TGT_LOOP_RAMP.RAMP ramp 0 l)

/-- TGT_LOOP_GAINS. -/
def cmdLoopGains : Handler := fun p _ s =>
  let l := p.byte 0
  if 47 < l ∨ p.byte 1 ≠ 0 ∨ p.half 2 ≠ 0 ∨ 15 < p.byte 20 ∨ 15 < p.byte 21 ∨ 15 < p.byte 22 ∨ 15 < p.byte 23 then (fieldRange, s)
  else
    match p.s24 4, p.s24 8, p.s24 12, p.s24 16 with
    | some kp, some ki, some kd, some kf =>
      if s.loopUnlocked l = false then (failWith 0x0230, s)
      else
        let s := s.put TGT_LOOP_KP.K (unsigned 24 kp) 0 l
        let s := s.put TGT_LOOP_KI.K (unsigned 24 ki) 0 l
        let s := s.put TGT_LOOP_KD.K (unsigned 24 kd) 0 l
        let s := s.put TGT_LOOP_KF.K (unsigned 24 kf) 0 l
        let s := s.put TGT_LOOP_SHIFT.SH_P (p.byte 20) 0 l
        let s := s.put TGT_LOOP_SHIFT.SH_I (p.byte 21) 0 l
        let s := s.put TGT_LOOP_SHIFT.SH_D (p.byte 22) 0 l
        (okWith, s.put TGT_LOOP_SHIFT.SH_F (p.byte 23) 0 l)
    | _, _, _, _ => (fieldRange, s)

/-- TGT_LOOP_LIMITS. -/
def cmdLoopLimits : Handler := fun p _ s =>
  let l := p.byte 0
  if 47 < l ∨ p.byte 1 ≠ 0 ∨ p.half 2 ≠ 0 ∨ 16383 < p.half 4 ∨ 16383 < p.half 6 ∨ p.half 6 < p.half 4 then (fieldRange, s)
  else
    match p.s24 8, p.s24 12, p.s24 16, p.s24 20 with
    | some fmin, some fmax, some smin, some smax =>
      if s.loopUnlocked l = false then (failWith 0x0230, s)
      else
        let s := s.setReg .TGT_LOOP_OUTLIM (BitVec.ofNat 32 (p.half 4 + p.half 6 * 65536)) 0 l
        let s := s.put TGT_LOOP_FBMIN.LIMIT (unsigned 24 fmin) 0 l
        let s := s.put TGT_LOOP_FBMAX.LIMIT (unsigned 24 fmax) 0 l
        let s := s.put TGT_LOOP_SPMIN.LIMIT (unsigned 24 smin) 0 l
        let s := s.put TGT_LOOP_SPMAX.LIMIT (unsigned 24 smax) 0 l
        (okWith, (s.reclampRamp l).refreshRamping l)
    | _, _, _, _ => (fieldRange, s)

/-- TGT_SET_MODE: queued to the loop's next tick. -/
def cmdSetMode : Handler := fun p t s =>
  let l := p.byte 0
  if 47 < l ∨ 3 < p.byte 1 ∨ 1 < p.byte 2 ∨ p.byte 3 ≠ 0 ∨ 16383 < p.half 4 ∨ p.zeroFrom 6 = false then (fieldRange, s)
  else
    (.later, s.requestMode l ⟨p.byte 1, if p.byte 2 = 1 then some (p.half 4) else none, some t, false⟩)

/-- TGT_SET_SP. -/
def cmdSetSp : Handler := fun p _ s =>
  let l := p.byte 0
  if 47 < l ∨ p.byte 1 ≠ 0 ∨ p.half 2 ≠ 0 ∨ p.zeroFrom 8 = false then (fieldRange, s)
  else
    match p.s24 4 with
    | none => (fieldRange, s)
    | some x =>
      let s' := s.writeTarget l x
      (okWith (unsigned 32 (s'.sfld TGT_LOOP_SP.TARGET 0 l)) (b2n (decide (s'.sfld TGT_LOOP_SP.TARGET 0 l ≠ x))), s')

/-- TGT_STATUS. -/
def cmdTgtStatus : Handler := fun p _ s =>
  if 47 < p.byte 0 ∨ p.zeroFrom 1 = false then (fieldRange, s)
  else (okWith (s.reg .TGT_LOOP_STAT 0 (p.byte 0)).toNat (s.reg .TGT_LOOP_OUT 0 (p.byte 0)).toNat, s)

/-- TGT_CLEAR_FLAGS. -/
def cmdClearFlags : Handler := fun p _ s =>
  let m := p.wordAt 4
  if 47 < p.byte 0 ∨ p.byte 1 ≠ 0 ∨ p.half 2 ≠ 0 ∨ m % 65536 ≠ 0 ∨ 0x1FFFFFF < m ∨ p.zeroFrom 8 = false then (fieldRange, s)
  else (okWith, s.setReg .TGT_LOOP_STAT (s.reg .TGT_LOOP_STAT 0 (p.byte 0) &&& ~~~ BitVec.ofNat 32 m) 0 (p.byte 0))

/-- Whether a laser loop owns a channel. -/
def State.laserOwned (s : State) (n : Nat) : Bool :=
  match s.owner n with
  | some l => s.flag TGT_LOOP_CFG.LASER 0 l
  | none => false

/-- CDAC_CFG. -/
def cmdCdacCfg : Handler := fun p _ s =>
  let n := p.byte 0
  let f := p.byte 1
  if 31 < n ∨ 31 < f ∨ 7 < p.byte 2 ∨ p.byte 3 ≠ 0 ∨ 16383 < p.half 4 ∨ 16383 < p.half 6 ∨ 16383 < p.half 8 ∨
      p.half 8 < p.half 6 ∨ p.zeroFrom 10 = false then (fieldRange, s)
  else if n = 31 then (failWith 0x0233, s)
  else if s.flag CDAC_CFG.EN 0 n ∧ bitOf f 1 ≠ s.flag CDAC_CFG.GAIN2 0 n then (failWith 0x0234, s)
  else if bitOf f 2 = false ∧ s.laserOwned n then (failWith 0x0236, s)
  else
    let s := s.put CDAC_SAFE.SAFE_CODE (p.half 4) 0 n
    let s := s.setReg .CDAC_LIM (BitVec.ofNat 32 (p.half 6 + p.half 8 * 65536)) 0 n
    (okWith, s.applyChannelCfg n (BitVec.ofNat 32 (f + p.byte 2 * 256)))

/-- CDAC_SET_CODE. -/
def cmdSetCode : Handler := fun p _ s =>
  let n := p.byte 0
  if 31 < n ∨ p.byte 1 ≠ 0 ∨ 16383 < p.half 2 ∨ p.zeroFrom 4 = false then (fieldRange, s)
  else if n = 31 ∨ (s.owner n).isSome then (failWith 0x0233, s)
  else (okWith, s.stageCode n (p.half 2))

/-- CDAC_GROUP. -/
def cmdGroup : Handler := fun p _ s =>
  if 3 < p.byte 0 ∨ 2 < p.byte 1 ∨ 47 < p.byte 2 ∨ p.zeroFrom 3 = false then (fieldRange, s)
  else (okWith, s.setReg .CDAC_GROUP (BitVec.ofNat 32 (p.byte 1 + p.byte 2 * 256)) 0 (p.byte 0))

/-- CDAC_STROBE. -/
def cmdStrobe : Handler := fun p _ s =>
  if 15 < p.byte 0 ∨ p.zeroFrom 1 = false then (fieldRange, s) else (okWith, s.softStrobe (p.byte 0))

/-- SINE_CFG. -/
def cmdSineCfg : Handler := fun p _ s =>
  let g := p.byte 0
  if 7 < g ∨ 1 < p.byte 1 ∨ p.half 2 ≠ 0 ∨ 429496730 < p.wordAt 4 ∨ 2047 < p.half 8 ∨ p.zeroFrom 12 = false then (fieldRange, s)
  else
    let s := s.put SINE_FTW.FTW (p.wordAt 4) 0 g
    let s := s.setReg .SINE_AMP (BitVec.ofNat 32 (p.half 8 + p.half 10 * 65536)) 0 g
    (okWith, s.put SINE_CTL.EN (p.byte 1) 0 g)

/-- PEN_SET. -/
def cmdPenSet : Handler := fun p _ s =>
  if 15 < p.byte 0 ∨ 15 < p.byte 1 ∨ 15 < p.byte 2 ∨ p.zeroFrom 3 = false then (fieldRange, s)
  else
    let pen := bitsWhere (fun n => if bitOf (p.byte 0) n then bitOf (p.byte 1) n else bitOf (s.fld CDAC_PEN.PEN) n) 4
    let s := s.penWrite (BitVec.ofNat 32 (pen + p.byte 2 * 256))
    (okWith (s.reg .CDAC_PEN_STAT).toNat, s)

/-- CDAC_STATUS. -/
def cmdCdacStatus : Handler := fun p _ s =>
  if 31 < p.byte 0 ∨ p.zeroFrom 1 = false then (fieldRange, s)
  else (okWith (s.reg .CDAC_OUT 0 (p.byte 0)).toNat (s.reg .CDAC_CH_STAT 0 (p.byte 0)).toNat, s)

/-! ## The rows -/

/-- Whether the blocks of island 0x05 take part: the island is on and no reset is held. -/
def State.opticsOn (s : State) : Bool := s.island 0x05 == .on && !s.pwr.held

/-- FASTOFF_RESUME (R282): 10 ms after the release, while no new assertion has come. -/
def execFastoffResume (s : State) : Outcome State Fault Refusal :=
  .next (if s.flag TGT_STAT.RESUME_PEND ∧ s.flag CDAC_STAT.OVERRIDE = false ∧ s.opt.resumeAt ≤ s.now then
    (List.range 48).foldl
      (fun s l => if s.resumable l then s.requestMode l { mode := loopAuto, resume := true } else s)
      (s.putFlag TGT_STAT.RESUME_PEND false)
  else s)

/-- Whether the engine comes to a loop: it ticks at this instant, its tick has not been served, and those of the loops below it
have (R262). -/
def State.tickDue (s : State) (l : Nat) : Bool :=
  s.ticksNow l && (s.loop l).ticked != some s.now && (s.tickers.all (fun j => l ≤ j || (s.loop j).ticked == some s.now))

/-- LOOP_TICK (R262, R264): nothing happens before the engine comes to the loop, or after. -/
def execLoopTick (l : Fin 48) (s : State) : Outcome State Fault Refusal :=
  .next (if s.opticsOn ∧ s.tickDue l then s.loopTick l else s)

/-- TGT_MODE_REQUEST (R268). -/
def execTgtModeRequest (l : Fin 48) (data : W32) (s : State) : Outcome State Fault Refusal :=
  .next (if s.opticsOn then s.requestMode l { mode := getBits data 0 2 } else s)

/-- TGT_SP_WRITE (R270). -/
def execTgtSpWrite (l : Fin 48) (data : W32) (s : State) : Outcome State Fault Refusal :=
  .next (if s.opticsOn then s.writeTarget l (signed 24 (getBits data 0 24)) else s)

/-- TGT_LOOP_CFG (R285). -/
def execTgtLoopCfg (e : Fin 256) (s : State) : Outcome State Fault Refusal := .next (s.runCmd e 0x0B 0x01 cmdLoopCfg)

/-- TGT_LOOP_GAINS (R285). -/
def execTgtLoopGains (e : Fin 256) (s : State) : Outcome State Fault Refusal := .next (s.runCmd e 0x0B 0x02 cmdLoopGains)

/-- TGT_LOOP_LIMITS (R285). -/
def execTgtLoopLimits (e : Fin 256) (s : State) : Outcome State Fault Refusal := .next (s.runCmd e 0x0B 0x03 cmdLoopLimits)

/-- TGT_SET_MODE (R268, R285). -/
def execTgtSetMode (e : Fin 256) (s : State) : Outcome State Fault Refusal := .next (s.runCmd e 0x0B 0x04 cmdSetMode)

/-- TGT_SET_SP (R270, R285). -/
def execTgtSetSp (e : Fin 256) (s : State) : Outcome State Fault Refusal := .next (s.runCmd e 0x0B 0x05 cmdSetSp)

/-- TGT_STATUS (R285). -/
def execTgtStatus (e : Fin 256) (s : State) : Outcome State Fault Refusal := .next (s.runCmd e 0x0B 0x06 cmdTgtStatus)

/-- TGT_CLEAR_FLAGS (R266, R285). -/
def execTgtClearFlags (e : Fin 256) (s : State) : Outcome State Fault Refusal := .next (s.runCmd e 0x0B 0x07 cmdClearFlags)

/-- CDAC_CFG_WRITE (R275). -/
def execCdacCfgWrite (n : Fin 32) (data : W32) (s : State) : Outcome State Fault Refusal :=
  .next (if s.opticsOn then s.channelCfgWrite n data else s)

/-- CDAC_CODE_WRITE (R277). -/
def execCdacCodeWrite (n : Fin 32) (data : W32) (s : State) : Outcome State Fault Refusal :=
  .next (if s.opticsOn then s.channelCodeWrite n data else s)

/-- SOFTWARE_STROBE (R278). -/
def execSoftwareStrobe (data : W32) (s : State) : Outcome State Fault Refusal :=
  .next (if s.opticsOn then s.softStrobe (getBits data 0 4) else s)

/-- CDAC_CFG (R285). -/
def execCdacCfg (e : Fin 256) (s : State) : Outcome State Fault Refusal := .next (s.runCmd e 0x0C 0x01 cmdCdacCfg)

/-- CDAC_SET_CODE (R285). -/
def execCdacSetCode (e : Fin 256) (s : State) : Outcome State Fault Refusal := .next (s.runCmd e 0x0C 0x02 cmdSetCode)

/-- CDAC_GROUP (R278, R285). -/
def execCdacGroup (e : Fin 256) (s : State) : Outcome State Fault Refusal := .next (s.runCmd e 0x0C 0x03 cmdGroup)

/-- CDAC_STROBE (R285). -/
def execCdacStrobe (e : Fin 256) (s : State) : Outcome State Fault Refusal := .next (s.runCmd e 0x0C 0x04 cmdStrobe)

/-- SINE_CFG (R279, R285). -/
def execSineCfg (e : Fin 256) (s : State) : Outcome State Fault Refusal := .next (s.runCmd e 0x0C 0x05 cmdSineCfg)

/-- PEN_SET (R283, R285). -/
def execPenSet (e : Fin 256) (s : State) : Outcome State Fault Refusal := .next (s.runCmd e 0x0C 0x06 cmdPenSet)

/-- CDAC_STATUS (R285). -/
def execCdacStatus (e : Fin 256) (s : State) : Outcome State Fault Refusal := .next (s.runCmd e 0x0C 0x07 cmdCdacStatus)

/-- SINE_STOP (R279): the generator, with EN clear, crosses phase 0 or half a turn. -/
def execSineStop (g : Fin 8) (s : State) : Outcome State Fault Refusal :=
  .next (if s.opticsOn ∧ (s.sine g).running ∧ s.flag SINE_CTL.EN 0 g = false ∧ sineCrosses (s.sine g).phase (s.ftw g) then
    (s.setSine g (s.sineNext g)).refreshDacs allDacs
  else s)

/-- CDAC_REF_FAULT (R287): the reference leaves 1 % of 1.25 V, or comes `within` it, which sets REF_OK. -/
def execCdacRefFault (within : Bool) (s : State) : Outcome State Fault Refusal :=
  let m := bitsWhere (fun n => s.flag CDAC_CFG.EN 0 n) 32
  .next (
    if s.opticsOn = false then s
    else if within then s.raise CDAC_STAT.REF_OK
    else if s.flag CDAC_STAT.REF_OK then
      let s := s.put CDAC_STAT.REF_OK 0
      if m = 0 then s else (s.raise CDAC_CAUSE.REF_FAULT).log 0x0C03 sevErr m
    else s)

/-- DITHER_SAMPLE (R279, R280): one timebase microsecond of every generator, added to its channels' base codes; once for
an instant. -/
def execDitherSample (s : State) : Outcome State Fault Refusal :=
  .next (if s.opticsOn ∧ s.opt.sampledAt ≠ some s.now then
    let s := { s with opt := { s.opt with before := s.opt.sines, sampledAt := some s.now } }
    let s := (List.range 8).foldl (fun s g => s.setSine g (s.sineNext g)) s
    allDacs.foldl (fun s n => (s.reportClip n).refreshDac n) s
  else s)

end Sys2Proof.Machine
end

