-- ==== Sys2Proof/Machine/Faults.lean ====
section
/-!
DEFINITION. Sys2Proof/Machine/Faults.lean: entry to FAULT (R400), FASTOFF_N, the optics rails' supervision, and what
brings a port that went DOWN back.
-/

namespace Sys2Proof.Machine

open Host

/-! ## FAULT (R400) -/

/-- A cause's own event: its code and two parameters. -/
structure OwnEvent where
  code : Nat
  p0 : Nat
  p1 : Nat
  deriving DecidableEq, Repr

/-- AVS stops (R417). -/
def State.avsStop (s : State) : State := s.put PWR_AVS_STAT.ACTIVE 0

/-- PWR_LOWPWR completes when the state it waits for is reached (R419). -/
def State.lowDone (s : State) : State :=
  match s.pwr.lowWaiter with
  | some t => ({ s with pwr := { s.pwr with lowWaiter := none } }).finish t ⟨0, (s.reg .PWR_STATE).toNat, 0⟩
  | none => s

/-- Entry to FAULT (R400): outputs squelch, channels with FASTOFF_EN take their SAFE_CODE, PEN deasserts, the emergency
area takes PWR_FAULT and the cause's own event. In FAULT a further cause only logs its own event. -/
def State.enterFault (s : State) (reason info : Nat) (own : Option OwnEvent) : State :=
  if s.pwrState = pwrFault then
    match own with
    | some e => s.log e.code sevErr e.p0 e.p1
    | none => s
  else
    let s := s.toPwr pwrFault
    let s := s.setReg .PWR_FAULT_INFO (BitVec.ofNat 32 (reason + info * 256 + 2 ^ 31))
    let s := (s.refreshLines ((List.range 8).filter (fun k => s.lineUsed k))).refreshHosts ((List.range 16).filter (fun j => s.hostUsed j))
    let s := (s.refreshDacs allDacs).penDropAll
    let s := { s with pwr := { s.pwr with faultDue := true, faultAt := s.now, script := none } }
    let s := { s with pwr := { s.pwr with seqs := s.pwr.seqs.filter (fun q => decide (3 < q.num)) } }
    let s := s.avsStop
    let s := ((s.raise PWR_CAUSE.FAULT).putBit .PWR_EN 1 true).putBit .MGMT_IRQ_TOP_EN 1 true
    let s := s.emergency 0x0102 sevErr reason info
    let s : State :=
      match own with
      | some e => s.emergency e.code sevErr e.p0 e.p1
      | none => s
    s.lowDone

/-- A die's time unit goes off, and what it holds. -/
def State.timeOff (s : State) (d : Nat) : State :=
  if s.island (islandId d 0x03) ≠ .powerOff then
    let s := ((s.turnIsland (islandId d 0x03) .powerOff).loseBuried (islandId d 0x03)).setClock d {}
    let s := s.wipe layout_timedie d
    let ps := List.range' (4 * (d - 1)) 4
    let s := ps.foldl (fun (s : State) p => s.wipe layout_timeport p) s
    { s with time := { s.time with
        ctxs := s.time.ctxs.set (d - 1) [],
        tsq := (List.range 8).map (fun p => if ps.contains p then [] else s.time.tsq.getD p []) } }
  else s

/-- A die's insole island goes off, and what it holds. -/
def State.insoleOff (s : State) (d : Nat) : State :=
  if s.island (islandId d 0x04) ≠ .powerOff then
    let s := (s.turnIsland (islandId d 0x04) .powerOff).wipe layout_ins d
    let s := (List.range' (4 * (d - 1)) 4).foldl (fun (s : State) k => (s.wipe layout_inslane k).setInsl k {}) s
    s.dropRange ((Block.ins d).base + 0x8000) ((Block.ins d).base + 0xC000)
  else s

/-- A die's FEC/PCS island goes off, and what it holds. -/
def State.fecOff (s : State) (d : Nat) : State :=
  if s.island (islandId d 0x02) ≠ .powerOff then
    let s := (s.turnIsland (islandId d 0x02) .powerOff).wipe layout_fecdie d
    let s := (List.range' (4 * (d - 1)) 4).foldl (fun (s : State) p => (s.wipe layout_fecport p).setFec p {}) s
    (s.dropRange (Block.pool d).base ((Block.pool d).base + 0x180000)).loseBuried (islandId d 0x02)
  else s

/-- The core-die islands other than the always-on and welt islands go off (R400 step 4). -/
def State.coreIslandsOff (s : State) : State :=
  let s := (List.range 8).foldl (fun (s : State) k => if s.island (lineIsland k) = .powerOff then s else s.lineOff k) s
  let s := (List.range 16).foldl (fun (s : State) j => if s.island (hostIsland j) = .powerOff then s else s.hostOff j) s
  let s := (List.range 64).foldl (fun (s : State) r => if s.island (rackIsland r) = .powerOff then s else s.rackOff r) s
  [1, 2].foldl (fun (s : State) d => ((s.fecOff d).insoleOff d).timeOff d) s

/-- FAULT_ISLAND_OFF (R400 step 4): 1 ms after FAULT entry. -/
def execFaultIslandOff (s : State) : Outcome State Fault Refusal :=
  .next (if s.pwrState = pwrFault ∧ s.pwr.faultDue ∧ s.pwr.faultAt + 1000 ≤ s.now then
    let s := { s with pwr := { s.pwr with faultDue := false } }
    (allDacs.foldl (fun (s : State) n => s.clampChannel n) s).coreIslandsOff
  else s)

/-! ## Ports that return (R18, R31, R64) -/

/-- A port that is DOWN for a fault below it, now gone, returns to ACQUIRING, TEST or its other reasons for DOWN. -/
def State.recoverPort (s : State) (p reason : Nat) : State :=
  if (s.port p).st = portDown ∧ (s.mode.run.port p).size ≠ 0 ∧ s.portSound p then
    (s.portRest p reason).refreshLines (s.mode.run.lineLanes p)
  else s

/-- A port that runs goes DOWN. One that is DOWN already keeps its state and reason, and its outputs follow what now holds. -/
def State.dropPort (s : State) (p reason : Nat) : State :=
  let st := (s.port p).st
  if st = portAcquiring ∨ st = portUp ∨ st = portTest then s.portTo p portDown reason
  else if st = portDown then s.refreshLines (s.mode.run.lineLanes p)
  else s

/-! ## FASTOFF_N (R96, R281, R404–R407) -/

/-- The line lanes whose islands have power. -/
def State.poweredLines (s : State) : List Nat := (List.range 8).filter (fun k => s.lineUsed k && s.island (lineIsland k) != .powerOff)

/-- The assertion takes effect: causes, count, override, rails, squelch and ports. -/
def State.fastoffOn (s : State) : State :=
  let s := (s.raise PWR_STATE.FASTOFF).raise PWR_CAUSE.FASTOFF_ON
  let s := (s.overrideOn).penDropAll
  let s := s.refreshLines s.poweredLines
  let s := s.mode.run.portList.foldl (fun (s : State) p => s.dropPort p 4) s
  (s.inc .PWR_FASTOFF_CNT).log 0x0104 sevWarn 1

/-- FASTOFF_ASSERT (R404, R405, R407). During a reset only the pin is noted. -/
def execFastoffAssert (s : State) : Outcome State Fault Refusal :=
  .next (if s.flag PWR_STATE.FASTOFF then s else if s.pwr.held then s.raise PWR_STATE.FASTOFF else s.fastoffOn)

/-- FASTOFF_RELEASE (R96, R282, R407). -/
def execFastoffRelease (s : State) : Outcome State Fault Refusal :=
  .next (if s.flag PWR_STATE.FASTOFF then
    let s := s.put PWR_STATE.FASTOFF 0
    if s.pwr.held then s
    else
      let s := (s.raise PWR_CAUSE.FASTOFF_OFF).log 0x0104 sevWarn 0
      let s := s.overrideOff.penNext
      let s := s.refreshLines s.poweredLines
      s.mode.run.portList.foldl (fun (s : State) p => s.recoverPort p 5) s
  else s)

/-! ## Rails (R394) -/

/-- PG_LOSS (R394): a supervised PG stays deasserted for 10 µs. -/
def execPgLoss (n : Fin 4) (s : State) : Outcome State Fault Refusal :=
  .next (if bitOf (s.fld PWR_PG_STAT.SUPERVISED) n.val then
    let s := s.put PWR_PG_STAT.PG (bitsWhere (fun m => bitOf (s.fld PWR_PG_STAT.PG) m && m != n.val) 4)
    ((s.raise PWR_CAUSE.PG_LOST).log 0x0106 sevErr n.val).enterFault 7 n.val none
  else s)

/-- PEN_RELEASE_STEP (R394): the highest released bit that is still asserted, 1 ms after the one before it. -/
def execPenReleaseStep (s : State) : Outcome State Fault Refusal := .next s.penDropOne

end Sys2Proof.Machine
end

