-- ==== Sys2Proof/Machine/Clocks.lean ====
section
/-!
DEFINITION. Sys2Proof/Machine/Clocks.lean: the PLLs and REFCLK (R17–R19) and the welt links (R22–R32).
-/

namespace Sys2Proof.Machine

open Host

/-! ## PLLs (R18) -/

/-- The PLLs of a die that have locked since their start. -/
def State.armed (s : State) (d b : Nat) : Bool := bitOf (s.pllArmed.getD d 0) b

/-- A PLL starts anew, or has locked. -/
def State.setArmed (s : State) (d b : Nat) (v : Bool) : State :=
  let old := s.pllArmed.getD d 0
  { s with pllArmed := s.pllArmed.set d (bitsWhere (fun n => if n == b then v else bitOf old n) 9) }

/-- A PLL that is switched off or reset: it is unlocked and not under the loss rule. -/
def State.stopPll (s : State) (d b : Nat) : State := (s.putBit .CLK_LOCK b false d).setArmed d b false

/-- The racks of a die that have power. -/
def State.poweredRacks (s : State) (d : Nat) : List Nat :=
  (List.range 64).filter (fun r => dieOfRack r == d && s.island (rackIsland r) == .on)

/-- The islands of MGMT that stop with MCLK: cobbler, memory and management peripherals. Their gates answer 'clock off' until
the MPLL locks again. The host interfaces go on answering (DEDUCED, log entry 113). -/
def mclkIslands : List Nat := [2, 3, 5]

/-- MCLK stops (R18, R34). -/
def State.mclkGone (s : State) : State :=
  mclkIslands.foldl (fun (s : State) i => if s.island i = .on then s.setIsland i .clockOff else s) s

/-- MCLK runs again. -/
def State.mclkBack (s : State) : State :=
  mclkIslands.foldl (fun (s : State) i => if s.island i = .clockOff then s.turnIsland i .on else s) s

/-- A PLL locks: it comes under the loss rule, and what waited for it goes on (R18). -/
def State.lockPll (s : State) (d b : Nat) : State :=
  if s.locked d b then s
  else
    let again := s.armed d b
    let s := (s.putBit .CLK_LOCK b true d).setArmed d b true
    if d = 0 then (if b = 0 then s.mclkBack else s)
    else if b = 0 then (if s.island (islandId d 0x03) = .on then s.tpllLocked d else s)
    else if b = 1 then (s.poweredRacks d).foldl (fun (s : State) r => s.toNewest r 0xFF) s
    else if b = 2 then
      let s := s.refreshHosts ((List.range 16).filter (fun j => s.hostUsed j && dieOfHost j == d))
      if again then (s.portsOnDie d).foldl (fun (s : State) p => s.recoverPort p 10) s else s
    else if 4 ≤ b then
      let k := 4 * (d - 1) + (b - 4)
      let s := (s.endSeq 4 k).refreshLine k
      match s.mode.run.portOfLine k with
      | some p => s.recoverPort p 7
      | none => s
    else s

/-! ## Links (R22, R31, R32) -/

/-- A welt link: 0 and 1 the control welts of CORE-A and CORE-B, 2 the core welt. -/
def State.link (s : State) (l : Nat) : Link := s.links.getD l {}

/-- Change a link. -/
def State.setLink (s : State) (l : Nat) (v : Link) : State := { s with links := s.links.set l v }

/-- The core-die ends of a link, as die and local link number. -/
def linkEnds (l : Nat) : List (Nat × Nat) := if l = 2 then [(1, 1), (2, 1)] else [(l + 1, 0)]

/-- The state of a link: 0 DOWN, 1 TRAINING, 2 UP, 3 RETRAINING, 4 FAILED. -/
def State.linkState (s : State) (l : Nat) : Nat :=
  if l = 2 then s.fld WELT_STAT.STATE 1 1 else s.fld WELT_STAT.STATE (l + 1) 0

/-- Put a link into a state; every core-die end shows it. -/
def State.setLinkState (s : State) (l st : Nat) : State :=
  (linkEnds l).foldl (fun (s : State) e => s.put WELT_STAT.STATE st e.1 e.2) s

/-- A link begins to retrain (R31). Replays are not counted from here on. -/
def State.retrain (s : State) (l : Nat) : State :=
  (s.setLinkState l 3).setLink l { (s.link l) with failures := 0, times := [], fromFailed := false }

/-- The ports that use payload slots. -/
def State.slotPorts (s : State) : List Nat := s.mode.run.portList.filter (fun p => s.mode.run.crossing p)

/-- A link is FAILED (R32). -/
def State.linkFailed (s : State) (l : Nat) : State :=
  let s := (s.setLinkState l 4).setLink l { (s.link l) with failures := 0, fromFailed := false }
  if l = 2 then
    let s := (s.raise WELT_CAUSE.FAILED_1 1).raise WELT_CAUSE.FAILED_1 2
    let s := s.log 0x1004 sevErr 1 1
    let s := s.slotPorts.foldl (fun (s : State) p => s.dropPort p 11) s
    let s := s.slotPorts.foldl (fun (s : State) p => (s.mode.run.hostLanes p).foldl (fun (s : State) j => s.amLostHost j) s) s
    s.alignLost 2
  else s.enterFault 3 (l + 1) (some ⟨0x1004, l + 1, 0⟩)

/-- A link comes UP. -/
def State.linkUp (s : State) (l : Nat) : State :=
  let was := s.linkState l
  let back := (s.link l).fromFailed
  let s := (s.setLinkState l 2).setLink l { (s.link l) with failures := 0, fromFailed := false, times := [] }
  let s := if was = 3 then
      (linkEnds l).foldl (fun (s : State) e => s.raise (if e.2 = 0 then WELT_CAUSE.RETRAIN_0 else WELT_CAUSE.RETRAIN_1) e.1) s
    else s
  if back then s.slotPorts.foldl (fun (s : State) p => s.recoverPort p 12) s else s

/-- A training or retraining attempt fails (R31, R32). A training that a sequence of the restart delay table governs is
retried by that sequence (R402). -/
def State.linkAttemptFailed (s : State) (l : Nat) : State :=
  if s.pwr.seqs.any (fun q => (q.num == 1 && q.step == 5 && l != 2) || (q.num == 2 && q.step == 8 && l == 2)) then s
  else
    let v := s.link l
    if v.fromFailed ∨ 2 ≤ v.failures + 1 then s.linkFailed l else s.setLink l { v with failures := v.failures + 1 }

/-- A new attempt of the core welt. -/
def State.trainCore (s : State) (fromFailed : Bool) : State :=
  (s.setLinkState 2 1).setLink 2 { (s.link 2) with failures := 0, times := [], fromFailed := fromFailed }

/-- A write of 1 to WELT_CTL.RETRAIN_n of a die (R31). -/
def State.weltRetrain (s : State) (d n : Nat) : State :=
  let l := if n = 1 then 2 else d - 1
  match s.linkState l with
  | 1 => s.setLink l { (s.link l) with failures := 0 }
  | 2 | 3 => s.retrain l
  | 4 => if l = 2 ∧ s.flag WELT_CTL.AB_EN d then s.trainCore true else s
  | _ => s

/-- A write of WELT_CTL.AB_EN of a die (R22): the core welt trains once both dies have it set and the device is in READY
or ACTIVE, and runs only while both have it set. -/
def State.weltAbEn (s : State) (d : Nat) (en : Bool) : State :=
  let s := s.putFlag WELT_CTL.AB_EN en d
  if en then
    if s.linkState 2 = 0 ∧ s.flag WELT_CTL.AB_EN 1 ∧ s.flag WELT_CTL.AB_EN 2 ∧ s.modeReady then s.trainCore false else s
  else if s.linkState 2 = 0 ∨ s.linkState 2 = 4 then s
  else
    let s := s.setLinkState 2 0
    s.slotPorts.foldl (fun (s : State) p => (s.mode.run.hostLanes p).foldl (fun (s : State) j => s.amLostHost j) s) s

/-- The sender's side of a link in one direction. -/
def Link.dir (v : Link) (toMgmt : Bool) : Channel := if toMgmt then v.toMgmt else v.fromMgmt

/-- Change one direction of a link. -/
def State.setWay (s : State) (l : Nat) (toMgmt : Bool) (c : Channel) : State :=
  s.setLink l (if toMgmt then { (s.link l) with toMgmt := c } else { (s.link l) with fromMgmt := c })

/-- The sender's credits of a class; link-control flits use none (R24, R26). -/
def Channel.credit (c : Channel) (m : MsgClass) : Nat :=
  match m with
  | .request => c.credReq
  | .response => c.credRsp
  | .posted => c.credEvt
  | .control => 1

/-- Change the sender's credits of a class. -/
def Channel.setCredit (c : Channel) (m : MsgClass) (n : Nat) : Channel :=
  match m with
  | .request => { c with credReq := n }
  | .response => { c with credRsp := n }
  | .posted => { c with credEvt := n }
  | .control => c

/-- The pool of a class (R26). -/
def pool (m : MsgClass) : Nat :=
  match m with
  | .request => 16
  | .response => 40
  | .posted => 24
  | .control => 1

/-- The key of an island's handshake channel. -/
def islandKey (id : Nat) (out : Bool) : Nat := 2 * id + b2n out

/-- The handshake channel into or out of an island. -/
def State.islandChannel (s : State) (id : Nat) (out : Bool) : Channel := lookup {} (islandKey id out) s.onDie

/-- A flit channel. -/
def State.channel (s : State) (p : FlitPath) : Channel :=
  match p with
  | .welt l toMgmt => (s.link l).dir toMgmt
  | .island id out => s.islandChannel id.toNat out

/-- Change a flit channel. -/
def State.setChannel (s : State) (p : FlitPath) (c : Channel) : State :=
  match p with
  | .welt l toMgmt => s.setWay l toMgmt c
  | .island id out => { s with onDie := writeAt natLt {} (islandKey id.toNat out) c s.onDie }

/-- CLASS of a header flit (R24). -/
def classOf (data : W64) : MsgClass :=
  match getBits (data.extractLsb' 32 32) 30 2 with
  | 0 => .request
  | 1 => .response
  | 2 => .posted
  | _ => .control

/-- LEN of a header flit: the data flits that follow. A link-control flit is a message of its own. -/
def lenOf (data : W64) : Nat := if classOf data = .control then 0 else getBits (data.extractLsb' 32 32) 12 3

/-- The class of a channel's next flit: a header names its own, and its data flits follow it back to back (R24, R29). -/
def Channel.nextClass (c : Channel) (data : W64) : MsgClass := if c.follow.2 = 0 then classOf data else c.follow.1

/-- The sender's side of a new flit: it takes a credit of its class. `keep`: the sender has a replay buffer of 64 flits. -/
def Channel.push (c : Channel) (data : W64) (keep : Bool) : Channel :=
  let m := c.nextClass data
  let c' := c.setCredit m (c.credit m - 1)
  let c' := { c' with follow := (m, if c.follow.2 = 0 then lenOf data else c.follow.2 - 1) }
  if keep then { c' with sent := c.sent + 1, buffer := (c.buffer ++ [data]).drop (c.buffer.length - 63) } else c'

/-- The data of flit `i` in the replay buffer. -/
def Channel.replayed (c : Channel) (i : Nat) : W64 := c.buffer.getD (c.buffer.length - (c.sent - i)) 0

/-- Whether the receiver discards a flit: its error is not correctable (R31). -/
def flitLost (w : W72) : Bool :=
  match classify w with
  | .clean _ | .corrected _ => false
  | _ => true

/-- A flit with a single-bit error is corrected and counted at the core-die ends of its link (R31). -/
def State.countFlit (s : State) (p : FlitPath) (w : W72) : State :=
  match p, classify w with
  | .welt l _, .corrected _ => (linkEnds l).foldl (fun (s : State) e => s.inc .WELT_CORR_CNT e.1 e.2) s
  | _, _ => s

/-- Whether a channel carries flits: a welt link that is DOWN or FAILED does not. -/
def State.carries (s : State) (p : FlitPath) : Bool :=
  match p with
  | .welt l _ => s.linkState l != 0 && s.linkState l != 4
  | .island _ _ => true

/-- Whether the sender of a channel keeps its newest 64 flits in a replay buffer: that of a welt link does. -/
def keepsFlits (p : FlitPath) : Bool :=
  match p with
  | .welt _ _ => true
  | .island _ _ => false

/-- FLIT_RECEIVE (R4, R24, R26, R31): the 72-bit word of a flit arrives, with `flips` its bits that the channel has turned. A
new flit carries `data` and takes a credit of its class; one that is sent again comes out of the replay buffer and takes
none. -/
def execFlitReceive (path : FlitPath) (data : W64) (flips : W72) (s : State) : Outcome State Fault Refusal :=
  .next (
    let c := s.channel path
    if s.carries path = false then s
    else
      match c.resend with
      | none =>
        if c.credit (c.nextClass data) = 0 then s
        else
          (s.setChannel path (c.push data (keepsFlits path))).countFlit path (protect data ^^^ flips)
      | some i =>
        let w := protect (c.replayed i) ^^^ flips
        if flitLost w then s
        else (s.setChannel path { c with resend := if c.sent ≤ i + 1 then none else some (i + 1) }).countFlit path w)

/-- CREDIT_RETURN (R26). -/
def execCreditReturn (path : FlitPath) (cls : MsgClass) (n : Fin 64) (s : State) : Outcome State Fault Refusal :=
  .next (
    let c := s.channel path
    s.setChannel path (c.setCredit cls (min (pool cls) (c.credit cls + n.val))))

/-- REPLAY_REQUEST (R31): the sender resends from a flit that its 64-flit replay buffer holds. Replays count only while
the link is UP. -/
def execReplayRequest (link : Fin 3) (toMgmt : Bool) (flit : Nat) (s : State) : Outcome State Fault Refusal :=
  .next (
    let l := link.val
    let c := (s.link l).dir toMgmt
    if flit < c.sent ∧ c.sent ≤ flit + 64 ∧ s.linkState l ≠ 0 ∧ s.linkState l ≠ 4 then
      let s := s.setWay l toMgmt { c with resend := some flit }
      if s.linkState l = 2 then
        let v := s.link l
        let s := s.setLink l { v with window := v.window + 1, times := (v.times.filter (fun t => decide (s.now < t + 1000))) ++ [s.now] }
        (linkEnds l).foldl (fun (s : State) e => s.inc .WELT_REPLAY_CNT e.1 e.2) s
      else s
    else s)

/-- REPLAY_BURST (R31): eight replays of a link within 1 ms; `die` is the end of the core welt that reports. -/
def execReplayBurst (link : Fin 3) (die : Fin 2) (s : State) : Outcome State Fault Refusal :=
  .next (
    let l := link.val
    let d := if l = 2 then die.val + 1 else l + 1
    let n := if l = 2 then 1 else 0
    let recent := ((s.link l).times.filter (fun t => decide (s.now < t + 1000))).length
    if s.linkState l = 2 ∧ 8 ≤ recent then
      let s := s.raise (if n = 0 then WELT_CAUSE.REPLAY_BURST_0 else WELT_CAUSE.REPLAY_BURST_1) d
      (s.log 0x1002 sevWarn d n recent).retrain l
    else s)

/-- LINK_RETRAIN_DONE (R31, R32): a training or retraining attempt ends. -/
def execLinkRetrainDone (link : Fin 3) (up : Bool) (s : State) : Outcome State Fault Refusal :=
  .next (
    let l := link.val
    if s.linkState l = 1 ∨ s.linkState l = 3 then
      if up then s.linkUp l else s.linkAttemptFailed l
    else s)

/-- WELT_RETRAIN (R31). -/
def execWeltRetrain (die : Fin 2) (n : Fin 2) (s : State) : Outcome State Fault Refusal :=
  .next (s.weltRetrain (die.val + 1) n.val)

/-- WELT_AB_EN (R22). -/
def execWeltAbEn (die : Fin 2) (en : Bool) (s : State) : Outcome State Fault Refusal := .next (s.weltAbEn (die.val + 1) en)

/-! ## Loss of lock (R18, R19) -/

/-- An LPLL loses lock: its lane stops, its port is DOWN, and it relocks under the mode-apply row. -/
def State.lpllLost (s : State) (k : Nat) : State :=
  let s : State :=
    match s.mode.run.portOfLine k with
    | some p => s.dropPort p 6
    | none => s
  let s := s.refreshLine k
  let s := (((s.cdrLostLine k).innerLost k).amLostLine k).insDown k
  s.startSeq 4 k

/-- An HPLL loses lock: the die's host lanes are idle and every port on the die is DOWN. -/
def State.hpllLost (s : State) (d : Nat) : State :=
  let js := (List.range 16).filter (fun j => s.hostUsed j && dieOfHost j == d)
  let ps := s.portsOnDie d
  let s := ps.foldl (fun (s : State) p => s.dropPort p 9) s
  let s := s.refreshHosts js
  let s := js.foldl (fun (s : State) j => (s.cdrLostHost j).amLostHost j) s
  ps.foldl (fun (s : State) p =>
    ((s.put FEC_PORT_STAT.DESKEWED_LH 0 p).put FEC_PORT_STAT.DESKEWED_HL 0 p).refreshAlign p) s

/-- What a WPLL's loss does to a link of its die (R18). A link that is TRAINING, DOWN or FAILED stays as it is: the rule's table
sends the die's links to RETRAINING and does not say whether that holds of a link that does not run (DESIGN CHOICE, log
entry 110). -/
def State.retrainIfUp (s : State) (l : Nat) : State := if s.linkState l = 2 ∨ s.linkState l = 3 then s.retrain l else s

/-- The actions of R18 on a die's PLL that has lost lock. -/
def State.pllLost (s : State) (d b : Nat) : State :=
  let s := (s.putBit .CLK_LOCK b false d).putBit .CLK_CAUSE b true d
  if d = 0 ∧ b = 0 then (s.enterFault 2 0 (some ⟨0x1401, alwaysOn 0, 0⟩)).mclkGone
  else
    let s := s.log 0x1401 sevWarn (alwaysOn d) b
    if d = 0 then (s.retrainIfUp 0).retrainIfUp 1
    else if b = 0 then (if s.island (islandId d 0x03) = .on then s.tpllLost d else s)
    else if b = 2 then s.hpllLost d
    else if b = 3 then (s.retrainIfUp (d - 1)).retrainIfUp 2
    else if 4 ≤ b then s.lpllLost (4 * (d - 1) + (b - 4))
    else s

/-- PLL_LOSS_OF_LOCK (R18): a PLL that is locked loses lock. -/
def execPllLossOfLock (die : Fin 3) (bit : Fin 8) (s : State) : Outcome State Fault Refusal :=
  .next (if s.locked die.val bit.val ∧ (die.val = 0 → bit.val < 2) then s.pllLost die.val bit.val else s)

/-- Whether a PLL may lock now: it relocks after a loss, or a step of a sequence waits for it (R402). -/
def State.pllStarts (s : State) (d b : Nat) : Bool :=
  s.armed d b ||
    s.pwr.seqs.any (fun q =>
      (q.num == 1 && q.step == 3 && d == 0 && b == 0) ||
      (q.num == 1 && q.step == 4 && ((d == 0 && b == 1) || (d != 0 && b == 3))) ||
      (q.num == 2 && q.step == 7 && d != 0 && decide (b < 3)) ||
      (q.num == 4 && d == dieOfLane q.obj && b == lpllBit q.obj))

/-- REFCLK is present on every die, or absent. -/
def State.setRefclk (s : State) (v : Bool) : State := [0, 1, 2].foldl (fun (s : State) d => s.putBit .CLK_LOCK 8 v d) s

/-- PLL_LOCK (R18): bit 8 is REFCLK, present again. -/
def execPllLock (die : Fin 3) (bit : Fin 9) (s : State) : Outcome State Fault Refusal :=
  .next (if s.pwr.held then s
  else if bit.val = 8 then (if s.seqOn 1 0 then s else s.setRefclk true)
  else if s.pllStarts die.val bit.val then s.lockPll die.val bit.val
  else s)

/-- Whether REFCLK has been present since the start-up began. -/
def State.refclkSeen (s : State) : Bool := !(s.pwr.held) && !(s.pwr.seqs.any (fun q => q.num == 1 && decide (q.step ≤ 2)))

/-- REFCLK_ABSENT_2US (R17). -/
def execRefclkAbsent2us (s : State) : Outcome State Fault Refusal :=
  .next (if s.refclkSeen then [0, 1, 2].foldl (fun (s : State) d => s.putBit .CLK_CAUSE 8 true d) (s.setRefclk false) else s)

/-- REFCLK_LOST (R19). -/
def execRefclkLost (s : State) : Outcome State Fault Refusal :=
  .next (if s.refclkSeen then
    let s := [0, 1, 2].foldl (fun (s : State) d => s.putBit .CLK_CAUSE 8 true d) (s.setRefclk false)
    s.enterFault 1 1 (some ⟨0x1402, 0, 1⟩)
  else s)

/-- REFCLK never arrived (R19). -/
def State.refclkNever (s : State) : State := (s.endSeq 1 0).enterFault 1 2 (some ⟨0x1402, 0, 2⟩)

/-- REFCLK_START_TIMEOUT (R19). -/
def execRefclkStartTimeout (s : State) : Outcome State Fault Refusal :=
  .next (if s.pwr.held = false ∧ s.pwr.seqs.any (fun q => q.num == 1 && q.step == 2 && decide (q.since + 10000 ≤ s.now)) then s.refclkNever else s)

end Sys2Proof.Machine
end

