-- ==== Sys2Proof/Machine/Monitor.lean ====
section
/-!
DEFINITION. Sys2Proof/Machine/Monitor.lean: the monitoring converter, its slot table, on-demand conversions, the check
DAC, system calibration, and the commands of class 0x0D (spec/11_monitoring.md).
-/

namespace Sys2Proof.Machine

open Host

/-! ## Correction and inputs (R295) -/

/-- The corrected value X of a raw code of input `i` (R295). -/
def State.corrected (s : State) (i code : Nat) : Int :=
  let zero := signed 21 (s.fld MON_IN_ZERO.ZERO 0 i)
  satSigned 24 (rcDiv ((16 * (code : Int) - zero) * (s.fld MON_IN_GAIN.GAIN 0 i : Int)) (2 ^ 12))

/-- What the monitor keeps of an input. -/
def State.monIn (s : State) (i : Nat) : MonIn := s.mon.ins.getD i {}

/-- Change what the monitor keeps of an input. -/
def State.setMonIn (s : State) (i : Nat) (v : MonIn) : State :=
  { s with mon := { s.mon with ins := s.mon.ins.set i v } }

/-- Whether an input holds an enabled slot of the active table. -/
def State.hasSlot (s : State) (i : Nat) : Bool := !(slotsOf s.slotTable i).isEmpty

/-- A direct write of MON_IN_ZERO_i or MON_IN_GAIN_i (R296, R309). -/
def State.monInWrite (s : State) (r : Reg) (i : Nat) (data : W32) : State :=
  if s.inputInUse i then s.raise MON_CAUSE.LOCK else s.setReg r (data &&& r.access.rwl) 0 i

/-! ## On-demand conversions (R292, R293) -/

/-- The requests of a master that are accepted and not complete. -/
def State.odOf (s : State) (m : Nat) : Option OdReq :=
  (s.mon.cur.toList ++ s.mon.od).find? (fun q => q.m == m)

/-- MON_OD_STAT.PENDING shows the requests. -/
def State.refreshOd (s : State) : State :=
  s.put MON_OD_STAT.PENDING (bitsWhere (fun m => (s.odOf m).isSome) 4)

/-- What a master reads in MON_OD_REQ. -/
def State.odRead (s : State) (m : Nat) : W32 :=
  match s.odOf m with
  | some q => BitVec.ofNat 32 (q.input + 2 ^ 31)
  | none => 0

/-- Accept a request: the master's last result is held no longer (R292). -/
def State.odAccept (s : State) (m input : Nat) (w : Option Ticket) : State :=
  let v := (s.wide .MON_OD_RES 0 m).toNat
  let v' := if v.testBit 31 then v - 2 ^ 31 else v
  let s := s.setWide .MON_OD_RES (BitVec.ofNat 256 v') 0 m
  State.refreshOd { s with mon := { s.mon with od := s.mon.od ++ [⟨m, input, w⟩] } }

/-- A write to MON_OD_REQ by master `m` (R292, R293). While RUN is clear no request is accepted: the write is refused, and the
lock flag of the register, BUSY_REJ, shows it (R7). -/
def State.odWrite (s : State) (m : Nat) (data : W32) : State :=
  if (s.odOf m).isSome then (s.putBit .MON_OD_STAT (8 + m) true).raise MON_CAUSE.OD_REJECT
  else if s.flag MON_CTL.RUN then s.odAccept m (getBits data 0 5) none
  else s.putBit .MON_OD_STAT (8 + m) true

/-- Complete the request being converted with the raw code its conversion returned (R292). -/
def State.odDone (s : State) (q : OdReq) (code : Nat) : State :=
  let w0 := unsigned 24 (s.corrected q.input code) + 2 ^ 31
  let w1 := code + q.input * 2 ^ 16
  let s := s.setWide .MON_OD_RES (BitVec.ofNat 256 (w0 + w1 * 2 ^ 32)) 0 q.m
  match q.waiter with
  | some t => s.finish t ⟨0, w0, w1⟩
  | none => s

/-- Requests pending when RUN clears complete with VALID clear (R292). -/
def State.odStop (s : State) : State :=
  let qs := s.mon.cur.toList ++ s.mon.od
  let s := { s with mon := { s.mon with cur := none, od := [] } }.refreshOd
  qs.foldl (fun s q => match q.waiter with | some t => s.finish t ⟨0x023B, 0, 0⟩ | none => s) s

/-! ## Run, the slot table (R290, R291) -/

/-- Set or clear MON_CTL.RUN (R291). A calibration under way ends with MON_STOPPED (R311). -/
def State.setRun (s : State) (run : Bool) : State :=
  let was := s.flag MON_CTL.RUN
  let s := s.putFlag MON_CTL.RUN run
  if run then
    if was ∨ s.flag MON_STAT.RUNNING then s
    else
      let s := (s.raise MON_STAT.RUNNING).put MON_STAT.SLOT (s.now % 32)
      { s with mon := { s.mon with done := some s.now } }
  else if was then
    let s := s.odStop
    match s.mon.cal with
    | some k => ({ s with mon := { s.mon with cal := none } }.put MON_STAT.CAL_BUSY 0).finish k.waiter ⟨0x023B, 0, 0⟩
    | none => s
  else s

/-- The code that refuses the shadow slot table: the spacing rule (R289) or the loop rule (R309). -/
def State.tableRefusal (s : State) (t : List Nat) : Option Nat :=
  if (List.range 32).any (fun c => s.flag MON_CH_CFG.EN 0 c && !(spacingOk t (s.chIn c))) then some 0x0239
  else if (List.range 32).any (fun c => s.chInUse c && slotsOf t (s.chIn c) != slotsOf s.slotTable (s.chIn c)) then
    some 0x0238
  else none

/-- Validate the shadow slot table (R290): the code that refuses it, or a table that waits for the frame boundary. -/
def State.slotCommit (s : State) (w : Option Ticket) : Option Nat × State :=
  let t := s.slotShadow
  match s.tableRefusal t with
  | some code => (some code, s.raise MON_CAUSE.LOCK)
  | none =>
    (none, { s with mon := { s.mon with table := some t, tableWaiters := s.mon.tableWaiters ++ w.toList } }.raise
      MON_STAT.SLOT_PEND)

/-- Reject a system calibration (R300). -/
def State.calReject (s : State) (k : MonCal) (reason p2 : Nat) : State :=
  let s := { s with mon := { s.mon with cal := none } }.put MON_STAT.CAL_BUSY 0
  let s := (s.setReg .MON_IN_CAL 0 0 k.input).raise MON_CAUSE.CAL_REJECT
  (s.log 0x0D04 sevWarn k.input reason p2).finish k.waiter ⟨0x023A, 0, reason⟩

/-- A validated table takes effect at a frame boundary (R290); a calibration whose input has lost its last slot is
rejected with reason 5 (R299). -/
def State.tableApply (s : State) : State :=
  match s.mon.table with
  | none => s
  | some t =>
    if s.now % 32 ≠ 0 then s
    else
      let old := s.slotTable
      let ws := s.mon.tableWaiters
      let s := (List.range 32).foldl (fun (s : State) n => s.setReg .MON_SLOT (BitVec.ofNat 32 (t.getD n 0)) 0 n) s
      let s := { s with mon := { s.mon with table := none, tableWaiters := [], prevTable := old, appliedAt := some s.now } }
      let s := (s.put MON_STAT.SLOT_PEND 0).raise MON_CAUSE.SLOT_APPLIED
      let s := (List.range 32).foldl (fun (s : State) c =>
        if slotsOf old (s.chIn c) = slotsOf t (s.chIn c) then s
        else (if s.flag MON_CH_CFG.EN 0 c then s.restartChan c else s).refreshChan c) s
      let s : State :=
        match s.mon.cal with
        | some k => if s.hasSlot k.input then s else (s.free.2).calReject k 5 s.free.1
        | none => s
      ws.foldl (fun s t => s.finish t ⟨0, 0, 0⟩) s

/-! ## The check DAC and path diagnosis (R297, R298) -/

/-- Write the check DAC's code. -/
def State.setChkCode (s : State) (code : Nat) : State :=
  { s.put MON_CHK_CTL.CODE code with mon := { s.mon with codeAt := some s.now } }

/-- Begin a diagnosis of an input that has a slot. -/
def State.diagBegin (s : State) (i : Nat) (w : Option Ticket) : State :=
  let s := (s.raise MON_CHK_CTL.DIAG_EN).put MON_CHK_CTL.DIAG_INPUT i
  { s with mon := { s.mon with diag := some { input := i, since := s.nextConv, waiter := w } } }

/-- Whether a calibration or a diagnosis runs (R311). -/
def State.calBusy (s : State) : Bool := s.mon.cal.isSome || s.mon.diag.isSome

/-- Whether a direct write of MON_CHK_CTL reaches its RWL fields (R7, R298, R309): not while a diagnosis runs, not with an input
above 23, and no start for an input that feeds a running loop or while a calibration runs. -/
def State.diagOpen (s : State) (start : Bool) (i : Nat) : Bool :=
  s.mon.diag.isNone && decide (i ≤ 23) && !(start && (s.inputInUse i || s.mon.cal.isSome))

/-- A direct write of MON_CHK_CTL: CODE takes effect. Where DIAG_EN and DIAG_INPUT are locked they keep their values, and LOCK is
set if the write would change one (R7). A diagnosis of an input that has no slot never starts (R298). -/
def State.chkWrite (s : State) (data : W32) : State :=
  let i := getBits data 24 5
  let start := getBits data 16 1 == 1
  let same := start == s.flag MON_CHK_CTL.DIAG_EN && i == s.fld MON_CHK_CTL.DIAG_INPUT
  let s := s.setChkCode (getBits data 0 12)
  if s.diagOpen start i = false then (if same then s else s.raise MON_CAUSE.LOCK)
  else if start && s.hasSlot i then s.diagBegin i none
  else s.put MON_CHK_CTL.DIAG_INPUT i

/-- The fourth failed comparison in a row is a fault (R297). -/
def State.chkFaulted (s : State) : State :=
  if s.fld MON_CHK_STAT.FAILS = 4 ∧ s.flag MON_STAT.CHK_FAULT = false then
    let s := ((s.raise MON_STAT.CHK_FAULT).raise MON_CAUSE.CHK_FAULT).inc .MON_CHK_FAIL_CNT
    s.log 0x0D01 sevErr 0 (s.fld MON_CHK_STAT.RAW) (16 * s.fld MON_CHK_CTL.CODE)
  else s

/-- The fourth passed comparison in a row ends the fault (R297). -/
def State.chkPassed (s : State) : State :=
  if s.mon.passes = 4 ∧ s.flag MON_STAT.CHK_FAULT then
    ((s.put MON_STAT.CHK_FAULT 0).raise MON_CAUSE.CHK_OK).log 0x0D02 sevInfo
  else s

/-- A check-DAC conversion is compared with 16 × CODE (R297), after what earlier comparisons have led to. -/
def State.chkCompare (s : State) (code : Nat) : State :=
  let s := s.chkFaulted.chkPassed
  let s := s.put MON_CHK_STAT.RAW code
  let wait : Bool := match s.mon.codeAt with | some t => decide (s.now < t + 10) | none => false
  if s.flag MON_STAT.DIAG ∨ wait then s
  else
    let d := (code : Int) - 16 * (s.fld MON_CHK_CTL.CODE : Int)
    if (s.fld MON_CHK_TOL.TOL : Int) < d.natAbs then
      { s.put MON_CHK_STAT.FAILS (min 4 (s.fld MON_CHK_STAT.FAILS + 1)) with mon := { s.mon with passes := 0 } }
    else { s.put MON_CHK_STAT.FAILS 0 with mon := { s.mon with passes := min 4 (s.mon.passes + 1) } }

/-! ## A conversion (R289, R294) -/

/-- The generators at the instant of a sample. -/
def State.sinesAt (s : State) (t : Nat) : List Sine :=
  if s.opt.sampledAt = some (t + 1) then s.opt.before else s.opt.sines

/-- The corrected sample of input `i` at instant `t` reaches its channels (R301). -/
def State.feed (s : State) (i t : Nat) (x : Int) : State :=
  let m := sampleIndex s.slotTable i t
  (List.range 32).foldl (fun (s : State) c =>
    if s.flag MON_CH_CFG.EN 0 c ∧ s.chIn c = i then
      s.feedChan c t m ((s.sinesAt t).getD (s.fld MON_CH_CFG.GEN 0 c) {}) x
    else s) s

/-- A scheduled conversion that was skipped or replaced: the channels receive the previous corrected sample again
(R294). -/
def State.repeatSample (s : State) (i t : Nat) : State :=
  let s := s.inc .MON_SKIP_CNT
  match (s.monIn i).x with
  | some x => s.feed i t x
  | none => (s.free.2).feed i t (satSigned 24 (s.free.1 : Int))

/-- A diagnosis takes a conversion of its input (R298). The mean of the 16 conversions before it is open where the input
has had fewer. -/
def State.diagTake (s : State) (d : Diag) (code : Nat) : State :=
  let xs := (s.monIn d.input).raws
  let s : State :=
    if d.n = 0 then
      if 16 ≤ xs.length then
        { s.raise MON_STAT.DIAG with mon := { s.mon with diag := some { d with base := (rcDiv (xs.sum : Int) 16).toNat } } }
      else { (s.free.2).raise MON_STAT.DIAG with mon := { s.mon with diag := some { d with base := s.free.1 % 2 ^ 16 } } }
    else s
  match s.mon.diag with
  | some d => { s with mon := { s.mon with diag := some { d with n := d.n + 1, sum := d.sum + code } } }
  | none => s

/-- A calibration takes a conversion of its input (R299). -/
def State.calTake (s : State) (i t code : Nat) : State :=
  match s.mon.cal with
  | some k =>
    if k.input = i ∧ k.since ≤ t ∧ k.n < 1024 then
      { s with mon := { s.mon with cal := some { k with
          n := k.n + 1, sum := k.sum + code, clipped := k.clipped || code == 0 || code == 65535 } } }
    else s
  | none => s

/-- The conversion of input `i` at instant `t` returned `code`. -/
def State.convert (s : State) (i t code : Nat) : State :=
  let last := s.reg .MON_IN_LAST 0 i
  let run := if getBits last 16 16 ≠ 0 ∧ getBits last 0 16 = code then satN 16 (getBits last 16 16 + 1) else 1
  let s := s.setReg .MON_IN_LAST (BitVec.ofNat 32 (code + run * 2 ^ 16)) 0 i
  let x := s.corrected i code
  let s := s.setMonIn i ⟨(code :: (s.monIn i).raws).take 16, some x⟩
  let s := s.calTake i t code
  let s := if i = 24 then s.chkCompare code else s
  s.feed i t x

/-- The slot entry that governs the conversion of instant `t`. -/
def State.entryAt (s : State) (t : Nat) : Nat :=
  (if s.mon.appliedAt = some (t + 1) then s.mon.prevTable else s.slotTable).getD (t % 32) 0

/-- The conversion that began at instant `t` ends with a raw code (R289, R292, R294, R298). -/
def State.conversionEnd (s : State) (t code : Nat) : State :=
  let e := s.entryAt t
  let i := e % 32
  match s.mon.cur with
  | some q =>
    let s := ({ s with mon := { s.mon with cur := none } }.odDone q code).refreshOd
    if bitOf e 7 then s.repeatSample i t else s.inc .MON_SKIP_CNT
  | none =>
    if bitOf e 7 = false then s.chkCompare code
    else
      match s.mon.diag with
      | some d => if d.input = i ∧ d.since ≤ t ∧ d.n < 16 then (s.diagTake d code).repeatSample i t else s.convert i t code
      | none => s.convert i t code

/-- The next conversion begins: the oldest on-demand request takes its microsecond. -/
def State.conversionStart (s : State) : State :=
  let s := s.put MON_STAT.SLOT (s.now % 32)
  match s.mon.od with
  | q :: rest => { s with mon := { s.mon with cur := some q, od := rest } }
  | [] => s

/-! ## System calibration (R299, R300) -/

/-- A 1,024-conversion average has completed (R299, R300). -/
def State.calDone (s : State) (k : MonCal) : State :=
  let f := rcDiv (k.sum : Int) 64
  match k.target with
  | none =>
    if 131072 < f.natAbs then s.calReject k 1 (unsigned 32 f)
    else if k.clipped then s.calReject k 4 (unsigned 32 f)
    else
      let s := { s with mon := { s.mon with cal := none } }.put MON_STAT.CAL_BUSY 0
      let s := (s.put MON_IN_CAL.ZERO_PEND (unsigned 21 f) 0 k.input).raise MON_IN_CAL.ZERO_VALID 0 k.input
      s.finish k.waiter ⟨0, unsigned 32 f, 0⟩
  | some t =>
    let z := signed 21 (s.fld MON_IN_CAL.ZERO_PEND 0 k.input)
    let have_ := s.flag MON_IN_CAL.ZERO_VALID 0 k.input
    let span := f - z
    if have_ ∧ span < 131072 then s.calReject k 2 (unsigned 32 span)
    else if have_ = false then s.calReject k 3 (unsigned 32 span)
    else if k.clipped then s.calReject k 4 (unsigned 32 span)
    else
      let s := { s with mon := { s.mon with cal := none } }.put MON_STAT.CAL_BUSY 0
      if s.inputInUse k.input then s.finish k.waiter ⟨0x0238, 0, 0⟩
      else
        let g := (rcDiv ((t : Int) * 2 ^ 12) span.toNat).toNat
        let s := s.put MON_IN_ZERO.ZERO (unsigned 21 z) 0 k.input
        let s := s.put MON_IN_GAIN.GAIN g 0 k.input
        let s := (s.setReg .MON_IN_CAL 0 0 k.input).raise MON_CAUSE.CAL_DONE
        (s.log 0x0D03 sevInfo k.input (s.fld MON_IN_ZERO.ZERO 0 k.input) g).finish k.waiter
          ⟨0, g, s.fld MON_IN_ZERO.ZERO 0 k.input⟩

/-- Start a calibration, or answer why not (R299, R309, R311). -/
def State.calStart (s : State) (i : Nat) (target : Option Nat) (t : Ticket) : Answer × State :=
  if s.hasSlot i = false then (fieldRange, s)
  else if s.flag MON_CTL.RUN = false then (failWith 0x023B, s)
  else if s.inputInUse i then (failWith 0x0238, s)
  else if s.calBusy then (failWith 0x0311, s)
  else
    (.later, { s with mon := { s.mon with cal := some { input := i, target := target, since := s.nextConv, waiter := t } } }.raise
      MON_STAT.CAL_BUSY)

/-! ## Command handlers (R310, R311) -/

/-- MON_SLOT_SET: entries of the shadow slot table. -/
def cmdMonSlotSet : Handler := fun p _ s =>
  let first := p.byte 0
  let count := p.byte 1
  if 31 < first ∨ count = 0 ∨ 22 < count ∨ 32 < first + count ∨ p.zeroFrom (2 + count) = false then (fieldRange, s)
  else
    (okWith, (List.range count).foldl (fun (s : State) j =>
      s.setReg .MON_SLOT_SH (BitVec.ofNat 32 (p.byte (2 + j)) &&& 0x9F) 0 (first + j)) s)

/-- MON_SLOT_COMMIT: it completes at the frame boundary, or at once on refusal. -/
def cmdMonSlotCommit : Handler := fun p t s =>
  if p.zeroFrom 0 = false then (fieldRange, s)
  else
    match s.slotCommit (some t) with
    | (some code, s) => (failWith code, s)
    | (none, s) => (.later, s)

/-- MON_CH_CFG. -/
def cmdMonChCfg : Handler := fun p _ s =>
  let c := p.byte 0
  let inp := p.byte 1
  let fl := p.byte 2
  let r := p.byte 3
  let d := p.byte 4
  let sh := p.byte 5
  let g := p.byte 6
  let h := p.byte 7
  if 31 < c ∨ 31 < inp ∨ 15 < fl ∨ r = 0 ∨ 64 < r ∨ d = 0 ∨ 32 < d ∨ 15 < sh ∨ 7 < g ∨ h = 0 ∨ 2 < h ∨
      p.zeroFrom 10 = false then (fieldRange, s)
  else
    let cfg := BitVec.ofNat 32 (fl + inp * 2 ^ 8 + g * 2 ^ 16 + (h - 1) * 2 ^ 19 + sh * 2 ^ 20)
    let dec := BitVec.ofNat 32 (r + d * 2 ^ 8)
    match s.chanRefusal c cfg dec with
    | some code => (failWith code, s)
    | none =>
      let s := (s.setChanCfg c cfg dec).put MON_CH_PHASE.PHASE_OFS (p.half 8) 0 c
      (okWith (s.reg .MON_CH_PERIOD 0 c).toNat (s.reg .MON_CH_GD 0 c).toNat, s)

/-- A tap in four bytes of the parameters: sign-extended 24 bits. -/
def tapParam (p : Params) (n : Nat) : Option Nat :=
  let x := signed 32 (p.wordAt n)
  if satSigned 24 x = x then some (unsigned 24 x) else none

/-- MON_FIR_SET: taps of the inactive bank (R307). -/
def cmdMonFirSet : Handler := fun p _ s =>
  let c := p.byte 0
  let first := p.byte 1
  let count := p.byte 2
  if 31 < c ∨ 30 < first ∨ count = 0 ∨ 5 < count ∨ 31 < first + count ∨ p.byte 3 ≠ 0 ∨ p.zeroFrom (4 + 4 * count) = false ∨
      (List.range count).any (fun j => (tapParam p (4 + 4 * j)).isNone) then (fieldRange, s)
  else if s.flag MON_CH_STAT.FADING 0 c then (failWith 0x0310, s)
  else
    let r : Reg := if s.flag MON_CH_STAT.ACTIVE 0 c then .MON_FIRA else .MON_FIRB
    (okWith, (List.range count).foldl (fun (s : State) j =>
      s.setReg r (BitVec.ofNat 32 ((tapParam p (4 + 4 * j)).getD 0)) 0 (32 * c + first + j)) s)

/-- MON_FIR_COMMIT (R308): it completes at the output at which the swap or fade begins. -/
def cmdMonFirCommit : Handler := fun p t s =>
  let c := p.byte 0
  if 31 < c ∨ p.zeroFrom 1 = false then (fieldRange, s)
  else
    match s.bankCommit c with
    | (.busy, s) => (failWith 0x0310, s)
    | (.swapped, s) => (okWith, s)
    | (.waits, s) => (.later, s.setChan c { (s.chan c) with waiters := (s.chan c).waiters ++ [t] })

/-- MON_CONVERT: the cobbler's on-demand request (R293). -/
def cmdMonConvert : Handler := fun p t s =>
  if 31 < p.byte 0 ∨ p.zeroFrom 1 = false then (fieldRange, s)
  else if s.flag MON_CTL.RUN = false then (failWith 0x023B, s)
  else if (s.odOf 0).isSome then (failWith 0x030F, s)
  else (.later, s.odAccept 0 (p.byte 0) (some t))

/-- MON_CAL_ZERO. -/
def cmdMonCalZero : Handler := fun p t s =>
  if 23 < p.byte 0 ∨ p.zeroFrom 1 = false then (fieldRange, s) else s.calStart (p.byte 0) none t

/-- MON_CAL_FS. -/
def cmdMonCalFs : Handler := fun p t s =>
  let x := p.wordAt 4
  if 23 < p.byte 0 ∨ p.wordAt 0 / 256 ≠ 0 ∨ x = 0 ∨ 2 ^ 23 ≤ x ∨ p.zeroFrom 8 = false then (fieldRange, s)
  else s.calStart (p.byte 0) (some x) t

/-- MON_CHK_DIAG (R298). -/
def cmdMonChkDiag : Handler := fun p t s =>
  let i := p.byte 0
  if 23 < i ∨ p.zeroFrom 1 = false ∨ s.hasSlot i = false then (fieldRange, s)
  else if s.inputInUse i then (failWith 0x0238, s)
  else if s.calBusy then (failWith 0x0311, s)
  else (.later, s.diagBegin i (some t))

/-- MON_CHK_SET. -/
def cmdMonChkSet : Handler := fun p _ s =>
  if 4095 < p.half 0 ∨ 1023 < p.half 2 ∨ p.zeroFrom 4 = false then (fieldRange, s)
  else (okWith, (s.setChkCode (p.half 0)).put MON_CHK_TOL.TOL (p.half 2))

/-- MON_STATUS. -/
def cmdMonStatus : Handler := fun p _ s =>
  let c := p.byte 0
  if 31 < c ∨ p.zeroFrom 1 = false then (fieldRange, s)
  else (okWith (s.chStat c).toNat ((s.wide .MON_CH_VAL 0 c).toNat % 2 ^ 32), s)

/-! ## The rows -/

/-- MON_CONVERSION (R289, R292, R294, R295, R297–R302): the conversion that began one microsecond ago ends with the raw
code that the voltage at the converter gives, and the next begins. Nothing ends while the converter is stopped, or a
second time at one instant. -/
def execMonConversion (raw : BitVec 16) (s : State) : Outcome State Fault Refusal :=
  .next (if s.flag MON_STAT.RUNNING ∧ s.mon.done ≠ some s.now ∧ s.now ≠ 0 ∧ s.opticsOn then
    let s := s.conversionEnd (s.now - 1) raw.toNat
    let s := { s with mon := { s.mon with done := some s.now } }
    if s.flag MON_CTL.RUN then s.conversionStart else s.put MON_STAT.RUNNING 0
  else s)

/-- MON_PUBLISH (R303). -/
def execMonPublish (c : Fin 32) (s : State) : Outcome State Fault Refusal := .next (if s.opticsOn then s.publish c else s)

/-- FADE_END (R308). -/
def execFadeEnd (c : Fin 32) (s : State) : Outcome State Fault Refusal := .next (s.fadeEnd c)

/-- CHK_FAULT (R297): the fourth failed comparison in a row. -/
def execChkFault (s : State) : Outcome State Fault Refusal := .next s.chkFaulted

/-- CHK_OK (R297): the fourth passed comparison in a row. -/
def execChkOk (s : State) : Outcome State Fault Refusal := .next s.chkPassed

/-- RUN (R291): a write of MON_CTL.RUN. -/
def execRun (run : Bool) (s : State) : Outcome State Fault Refusal := .next (if s.opticsOn then s.setRun run else s)

/-- SLOT_COMMIT (R290): a write of 1 to MON_CTL.SLOT_COMMIT. -/
def execSlotCommit (s : State) : Outcome State Fault Refusal := .next (if s.opticsOn then (s.slotCommit none).2 else s)

/-- SLOT_TABLE_APPLY (R290, R299). -/
def execSlotTableApply (s : State) : Outcome State Fault Refusal := .next s.tableApply

/-- DIAG_START (R298): a write of MON_CHK_CTL. -/
def execDiagStart (data : W32) (s : State) : Outcome State Fault Refusal := .next (if s.opticsOn then s.chkWrite data else s)

/-- DIAG_DONE (R298): a diagnosis that has taken its 16 conversions ends. -/
def execDiagDone (s : State) : Outcome State Fault Refusal :=
  .next (match s.mon.diag with
  | some d =>
    if d.n = 16 then
      let s := { s with mon := { s.mon with diag := none } }
      let s := (s.put MON_STAT.DIAG 0).put MON_CHK_CTL.DIAG_EN 0
      let v := (rcDiv (d.sum : Int) 16).toNat + d.base * 2 ^ 16
      let s := (s.setReg .MON_DIAG_RES (BitVec.ofNat 32 v)).raise MON_CAUSE.DIAG_DONE
      match d.waiter with
      | some t => s.finish t ⟨0, v, 0⟩
      | none => s
    else s
  | none => s)

/-- MON_CAL_AVERAGE_DONE (R299, R300). -/
def execMonCalAverageDone (s : State) : Outcome State Fault Refusal :=
  .next (match s.mon.cal with
  | some k => if k.n = 1024 then s.calDone k else s
  | none => s)

/-- FIR_COMMIT (R308): a write of MON_CH_CTL_c. -/
def execFirCommit (c : Fin 32) (data : W32) (s : State) : Outcome State Fault Refusal :=
  .next (if s.opticsOn ∧ getBits data 0 1 = 1 then (s.bankCommit c).2 else s)

/-- MON_SLOT_SET (R310). -/
def execMonSlotSet (e : Fin 256) (s : State) : Outcome State Fault Refusal := .next (s.runCmd e 0x0D 0x01 cmdMonSlotSet)

/-- MON_SLOT_COMMIT (R290, R310). -/
def execMonSlotCommit (e : Fin 256) (s : State) : Outcome State Fault Refusal := .next (s.runCmd e 0x0D 0x02 cmdMonSlotCommit)

/-- MON_CH_CFG (R304, R306, R309, R310). -/
def execMonChCfg (e : Fin 256) (s : State) : Outcome State Fault Refusal := .next (s.runCmd e 0x0D 0x03 cmdMonChCfg)

/-- MON_FIR_SET (R307, R310). -/
def execMonFirSet (e : Fin 256) (s : State) : Outcome State Fault Refusal := .next (s.runCmd e 0x0D 0x04 cmdMonFirSet)

/-- MON_FIR_COMMIT (R308, R310). -/
def execMonFirCommit (e : Fin 256) (s : State) : Outcome State Fault Refusal := .next (s.runCmd e 0x0D 0x05 cmdMonFirCommit)

/-- MON_CONVERT (R293, R310). -/
def execMonConvert (e : Fin 256) (s : State) : Outcome State Fault Refusal := .next (s.runCmd e 0x0D 0x06 cmdMonConvert)

/-- MON_CAL_ZERO (R299, R310). -/
def execMonCalZero (e : Fin 256) (s : State) : Outcome State Fault Refusal := .next (s.runCmd e 0x0D 0x07 cmdMonCalZero)

/-- MON_CAL_FS (R299, R310). -/
def execMonCalFs (e : Fin 256) (s : State) : Outcome State Fault Refusal := .next (s.runCmd e 0x0D 0x08 cmdMonCalFs)

/-- MON_CHK_DIAG (R298, R310). -/
def execMonChkDiag (e : Fin 256) (s : State) : Outcome State Fault Refusal := .next (s.runCmd e 0x0D 0x09 cmdMonChkDiag)

/-- MON_CHK_SET (R297, R310). -/
def execMonChkSet (e : Fin 256) (s : State) : Outcome State Fault Refusal := .next (s.runCmd e 0x0D 0x0A cmdMonChkSet)

/-- MON_STATUS (R310). -/
def execMonStatus (e : Fin 256) (s : State) : Outcome State Fault Refusal := .next (s.runCmd e 0x0D 0x0B cmdMonStatus)

end Sys2Proof.Machine
end

