-- ==== Sys2Proof/Machine/Power.lean ====
section
/-!
DEFINITION. Sys2Proof/Machine/Power.lean: the restart delay table, the device states, AVS, and the commands of class 0x01
(spec/14_power_thermal_life.md).
-/

namespace Sys2Proof.Machine

open Host

/-! ## Low power (R398, R399) -/

/-- Whether a low-power request is present: LowPwrRequestSW, LPMODE where LowPwrAllowRequestHW is set (as CMIS 5.2
combines them), or LP_REQ (R398). -/
def State.lowRequest (s : State) : Bool :=
  s.pwr.swLow || (s.pwr.allowHw && s.flag PWR_STATE.LPMODE) || s.flag PWR_STATE.LP_REQ

/-- Whether every zone is below its shutdown threshold minus 5 °C. -/
def State.zonesCool (s : State) : Bool :=
  (List.range 3).all (fun z =>
    decide (s.sfld THM_ZONE_STAT.TEMP 0 z < 8 * ((s.fld THM_ZONE_CFG.SHUT 0 z : Int) - 5)))

/-- The PLLs of the core dies that LOW_POWER does not run stop: RPLL, HPLL and TPLL. -/
def State.stopCorePlls (s : State) : State :=
  [1, 2].foldl (fun (s : State) d => [0, 1, 2].foldl (fun (s : State) b => s.stopPll d b) s) s

/-- LOW_POWER leaves for READY when nothing holds it, and a start that a request overtakes is given up (R398). -/
def State.powerCheck (s : State) : State :=
  if s.pwrState ≠ pwrLow then s
  else if s.lowRequest then
    (if s.seqOn 2 0 then ((s.endSeq 2 0).stopCorePlls).lowDone else s)
  else if s.zonesCool then s.startSeq 2 0 6
  else s

/-- A state transition is in progress: READY is being started, or LOW_POWER is to be entered. -/
def State.inTransition (s : State) : Bool := s.seqOn 2 0 || (s.modeReady && s.lowRequest)

/-- LPMODE_CHANGE (R398). -/
def execLpmodeChange (high : Bool) (s : State) : Outcome State Fault Refusal :=
  .next (s.putFlag PWR_STATE.LPMODE high).powerCheck

/-- LOW_POWER_ENTRY (R399): once no apply runs, the open transaction closes, the reset image is applied, the optics stop,
PEN is released and the core dies' islands and PLLs go off. -/
def execLowPowerEntry (s : State) : Outcome State Fault Refusal :=
  .next (if s.modeReady ∧ s.lowRequest ∧ s.applying = false then
    let s := (s.expireTxn 2).applyResetImage
    let s := s.opticsOff.avsStop
    let s := s.toPwr pwrLow
    let s := (s.penCancel).penDropOne
    let s := s.coreIslandsOff.stopCorePlls
    let s := { s with pwr := { s.pwr with script := none } }
    s.lowDone.powerCheck
  else s)

/-! ## READY (R397, R417) -/

/-- AVS starts: channel 31's clamp opens with code 0 (R417). -/
def State.avsStart (s : State) : State :=
  let s := (s.setReg .CDAC_CFG 1 0 31).put CDAC_CODE.CODE 0 0 31
  let s := (s.put CDAC_CH_STAT.BASE 0 0 31).putFlag CDAC_OUT.CLAMPED false 0 31
  let s := s.refreshDac 31 |>.setReg .PWR_AVS_STAT (BitVec.ofNat 32 (8000 + 2 ^ 30))
  { s with pwr := { s.pwr with avsAt := s.now } }

/-- Entry to READY: AVS starts, the optics start-up table begins, and time units that are needed run. -/
def State.enterReady (s : State) : State :=
  let s := s.toPwr pwrReady
  let s := s.avsStart
  let s := [1, 2].foldl (fun (s : State) d => s.refreshTimeIsland d) s
  let s := if (s.calWord 0x12 0 0).isSome then { s with pwr := { s.pwr with script := some {} } } else s
  s.lowDone

/-- The handlers of the commands that the optics start-up table may hold (R284). -/
def scriptHandler (cls cmd : Nat) : Option Handler :=
  match cls, cmd with
  | 0x0B, 1 => some cmdLoopCfg
  | 0x0B, 2 => some cmdLoopGains
  | 0x0B, 3 => some cmdLoopLimits
  | 0x0B, 4 => some cmdSetMode
  | 0x0B, 5 => some cmdSetSp
  | 0x0B, 6 => some cmdTgtStatus
  | 0x0B, 7 => some cmdClearFlags
  | 0x0C, 1 => some cmdCdacCfg
  | 0x0C, 2 => some cmdSetCode
  | 0x0C, 3 => some cmdGroup
  | 0x0C, 4 => some cmdStrobe
  | 0x0C, 5 => some cmdSineCfg
  | 0x0C, 6 => some cmdPenSet
  | 0x0C, 7 => some cmdCdacStatus
  | _, _ => none

/-- The table stops at a completion other than 0x0000, or goes on (R284). -/
def State.scriptCompleted (s : State) (n status : Nat) : State :=
  if status = 0 then { s with pwr := { s.pwr with script := some { next := n + 1 } } }
  else
    let s := { s with pwr := { s.pwr with script := none } }
    (s.raise TGT_CAUSE.SCRIPT_FAIL).log 0x0B04 sevErr n status

/-- A descriptor of the table as the number its 32 bytes make; none past its end. -/
def State.scriptDesc (s : State) (n : Nat) : Option Nat :=
  match s.cal.entries.find? (fun e => e.kind == 0x12 && e.index == 0) with
  | some e => if 32 * n + 32 ≤ e.data.length then some (leNat ((e.data.drop (32 * n)).take 32)) else none
  | none => none

/-- Aqique takes one step through the optics start-up table: it takes up a completion, or issues the next descriptor. -/
def State.scriptStep (s : State) : State :=
  match s.pwr.script with
  | none => s
  | some k =>
    if k.busy then
      match s.aqReplies.find? (fun p => p.1 == 0) with
      | none => s
      | some (_, r) => ({ s with aqReplies := s.aqReplies.filter (fun p => p.1 != 0) }).scriptCompleted k.next r.status
    else
      match s.scriptDesc k.next with
      | none => { s with pwr := { s.pwr with script := none } }
      | some d =>
        match scriptHandler (byteOf d 2) (byteOf d 3) with
        | none => s.scriptCompleted k.next 0x0104
        | some h =>
          match h ⟨d >>> 64⟩ { aqique := true } s with
          | (.done r, s) => s.scriptCompleted k.next r.status
          | (.later, s) => { s with pwr := { s.pwr with script := some { k with busy := true } } }

/-! ## The restart delay table (R402, R403) -/

/-- Change a running sequence. -/
def State.setSeq (s : State) (num obj : Nat) (f : Seq → Seq) : State :=
  { s with pwr := { s.pwr with seqs := s.pwr.seqs.map (fun q => if q.num == num && q.obj == obj then f q else q) } }

/-- The next step of a sequence starts. -/
def State.nextStep (s : State) (num obj : Nat) : State :=
  s.setSeq num obj (fun q => { q with step := q.step + 1, retried := false, since := s.now })

/-- The wait of a rail's retry with its PEN deasserted (R402), in microseconds. -/
def railPause : Nat := 10000

/-- A step of the start-up ends. -/
def State.startupDone (s : State) (step : Nat) : State :=
  match step with
  | 1 => s.nextStep 1 0
  | 2 => (s.setRefclk true).nextStep 1 0
  | 3 => (s.lockPll 0 0).nextStep 1 0
  | 4 => (((s.lockPll 0 1).lockPll 1 3).lockPll 2 3).nextStep 1 0
  | _ => ((s.linkUp 0).linkUp 1).endSeq 1 0

/-- A step of the entry to READY ends. -/
def State.readyDone (s : State) (step : Nat) : State :=
  match step with
  | 6 => s.nextStep 2 0
  | 7 =>
    let s := [1, 2].foldl (fun (s : State) d => [0, 1, 2].foldl (fun (s : State) b => s.lockPll d b) s) s
    ((if s.linkState 2 = 4 then s else s.trainCore false)).nextStep 2 0
  | _ => ((if s.linkState 2 = 1 then s.linkUp 2 else s).endSeq 2 0).enterReady

/-- A rail's PG asserts, or the wait of 10 ms before its retry ends (R394, R402). -/
def State.railDone (s : State) (q : Seq) : State :=
  let n := q.obj
  let pin := s.fld CDAC_PEN_STAT.PIN
  if bitOf pin n then
    let s := s.put PWR_PG_STAT.PG (s.fld PWR_PG_STAT.PG ||| 2 ^ n)
    let s := s.put PWR_PG_STAT.SUPERVISED (s.fld PWR_PG_STAT.SUPERVISED ||| 2 ^ n)
    (s.endSeq 3 n).penNext
  else if q.since + railPause ≤ s.now then (s.setPens (pin ||| 2 ^ n)).setSeq 3 n (fun q => { q with since := s.now })
  else s

/-- Whether a line lane's decoder has AM lock. -/
def State.lineAm (s : State) (k : Nat) : Bool :=
  match s.mode.run.portOfLine k with
  | some p => bitOf (s.fld FEC_PORT_STAT.AM_LOCK_L p) (k - p)
  | none => false

/-- A step of a line receive wake ends: the island restore; CDR lock; AM lock. -/
def State.lineRxDone (s : State) (k step : Nat) : State :=
  match step with
  | 1 => ((s.putFlag LRX_STAT.DOZE false k).nextStep 5 k).refreshLineIsland k
  | 2 => if s.flag LRX_STAT.CDR_LOCK k then s.nextStep 5 k else s
  | _ => if s.lineAm k then s.endSeq 5 k else s

/-- A port's transmit restart towards the line, or towards the host, may have ended with this lane (R161, R185). -/
def State.portRestarted (s : State) (p : Option Nat) (toLine : Bool) : State :=
  match p with
  | some p => s.endRestart p toLine
  | none => s

/-- A step of a line transmit wake ends: the island restore; the DAC and driver settle; the wake pattern. -/
def State.lineTxDone (s : State) (k step : Nat) : State :=
  match step with
  | 1 => (s.nextStep 6 k).refreshLineIsland k
  | 2 => ((((s.putFlag LTX_STAT.DOZE false k).refreshLineIsland k).refreshLine k).txWakePattern k).nextStep 6 k
  | _ => (s.endSeq 6 k).portRestarted (s.mode.run.portOfLine k) true

/-- A restart of a host lane has completed, in either direction (R186). -/
def State.hostRestarted (s : State) (num j : Nat) : State := (s.endSeq num j).inc .HL_WAKE_CNT j

/-- A step of a host receive wake ends; with the first the direction has left doze. -/
def State.hostRxDone (s : State) (j step : Nat) : State :=
  match step with
  | 1 => (((s.putFlag HL_STAT.RX_DOZE false j).raise HL_CAUSE.DOZE j).nextStep 7 j).refreshHostIsland j
  | 2 => if s.flag HL_STAT.CDR_LOCK j then s.nextStep 7 j else s
  | _ =>
    match s.mode.run.portOfHost j with
    | some p =>
      if bitOf (s.fld FEC_PORT_STAT.AM_LOCK_H p) (j - (s.mode.run.port p).hostGroup) then s.hostRestarted 7 j else s
    | none => s.endSeq 7 j

/-- A step of a host transmit wake ends: the transmitter leaves doze and idle before its wake pattern. -/
def State.hostTxDone (s : State) (j step : Nat) : State :=
  match step with
  | 1 => (s.nextStep 8 j).refreshHostIsland j
  | 2 =>
    let s := ((s.putFlag HL_STAT.TX_DOZE false j).raise HL_CAUSE.DOZE j).refreshHostIsland j
    let s := s.put HL_IDLE_STAT.REASON (s.fld HL_IDLE_STAT.REASON j % 8) j
    ((s.refreshHost j).nextStep 8 j).hostWakePattern j
  | _ => (s.hostRestarted 8 j).portRestarted (s.mode.run.portOfHost j) false

/-- RESTART_STEP_DONE (R402): the step that a sequence waits for has ended. -/
def execRestartStepDone (seq : Fin 9) (obj : Fin 16) (s : State) : Outcome State Fault Refusal :=
  .next (
    let n := obj.val
    match s.pwr.seqs.find? (fun q => q.num == seq.val && q.obj == n) with
    | none => s
    | some q =>
      if s.pwr.held then s
      else
        match q.num with
        | 1 => s.startupDone q.step
        | 2 => s.readyDone q.step
        | 3 => s.railDone q
        | 4 => s.lockPll (dieOfLane n) (lpllBit n)
        | 5 => s.lineRxDone n q.step
        | 6 => s.lineTxDone n q.step
        | 7 => s.hostRxDone n q.step
        | _ => s.hostTxDone n q.step)

/-- The dies of a mask. -/
def diesOf (m : Nat) : List Nat := (List.range 3).filter (fun d => bitOf m d)

/-- The islands that a retry's records name (R403): the always-on island of every die named by the operand where LDOs,
PLLs or link ends of several dies take the step together. -/
def retryIslands (q : Seq) (dies : Nat) : List Nat :=
  match q.num with
  | 1 =>
    if q.step ≤ 3 then [0]
    else ((diesOf dies).filter (fun d => q.step == 4 || d != 0)).map alwaysOn
  | 2 => ((diesOf dies).filter (fun d => d != 0)).map alwaysOn
  | 3 => [0]
  | 4 | 5 | 6 => [lineIsland q.obj]
  | _ => [hostIsland q.obj]

/-- What a retry undoes before it starts the step again (R403). -/
def State.undoStep (s : State) (q : Seq) (dies : Nat) : State :=
  match q.num with
  | 1 =>
    if q.step = 3 then s.stopPll 0 0
    else if q.step = 4 then (diesOf dies).foldl (fun (s : State) d => s.stopPll d (if d = 0 then 1 else 3)) s
    else s
  | 2 =>
    if q.step = 7 then
      ((diesOf dies).filter (fun d => d != 0)).foldl (fun (s : State) d => [0, 1, 2].foldl (fun (s : State) b => s.stopPll d b) s) s
    else s
  | 3 => s.setPens (bitsWhere (fun m => bitOf (s.fld CDAC_PEN_STAT.PIN) m && m != q.obj) 4)
  | 4 => s.stopPll (dieOfLane q.obj) (lpllBit q.obj)
  | _ => s

/-- Whether a transaction configures a port: a NEW one, or one whose descriptor or lanes it changes (R62). -/
def State.configures (s : State) (t : Txn) (p : Nat) : Bool :=
  bitOf t.fresh p || ((s.mode.active.port p).size != 0 && portClass s.mode.active t.staged p != 0)

/-- A port's lane does not come back: FAULT under an apply that configures the port (R60), or with a reason of its own (R18,
R187). -/
def State.lanePortFault (s : State) (p : Option Nat) (event reason : Nat) : State :=
  match p with
  | none => s
  | some p =>
    if s.applyTxn.any (fun t => s.configures t p) then s.applyFault p event else s.portTo p portFault reason

/-- A host transmit restart that failed no longer holds its transmitter in idle as RESTART (R174). -/
def State.endRestartIdle (s : State) (q : Seq) : State :=
  if q.num = 8 then (s.put HL_IDLE_STAT.REASON (s.fld HL_IDLE_STAT.REASON q.obj % 8) q.obj).refreshHost q.obj else s

/-- The outcome of a retry that fails (R403). -/
def State.stepFailed (s : State) (q : Seq) : State :=
  match q.num with
  | 1 | 2 => (s.endSeq q.num 0).enterFault 9 q.step none
  | 3 => s.enterFault 8 q.obj none
  | 4 => (s.endSeq 4 q.obj).lanePortFault (s.mode.run.portOfLine q.obj) 0x0103 8
  | 5 => ((s.endSeq 5 q.obj).refreshLineIsland q.obj).lanePortFault (s.mode.run.portOfLine q.obj) 0x0103 14
  | 6 =>
    let p := s.mode.run.portOfLine q.obj
    (((s.endSeq 6 q.obj).refreshLineIsland q.obj).portRestarted p true).lanePortFault p 0x0103 14
  | _ =>
    let s := (((s.endSeq q.num q.obj).endRestartIdle q).refreshHostIsland q.obj).raise HL_CAUSE.WAKE_FAIL q.obj
    let s := s.log 0x0805 sevErr q.obj (q.num - 7) q.step
    s.lanePortFault (s.mode.run.portOfHost q.obj) 0x0805 14

/-- Whether a step is marked for retry: the signal-dependent steps and the wake patterns are not (R402). -/
def Seq.retries (q : Seq) : Bool :=
  match q.num with
  | 5 | 7 => q.step == 1
  | 6 | 8 => decide (q.step ≤ 2)
  | _ => true

/-- The maximum of a step that is marked for retry, in microseconds (R402). -/
def Seq.most (q : Seq) : Nat :=
  match q.num, q.step with
  | 1, 1 => 100
  | 1, 2 => 10000
  | 1, 5 => 1000
  | 1, _ => 200
  | 2, 6 => 100
  | 2, 7 => 200
  | 2, _ => 1000
  | 3, _ => 20000
  | 4, _ => 500
  | 6, 2 | 8, 2 => 1
  | _, _ => 2

/-- Whether a step has taken its maximum. A rail in the pause before its retry takes no time of its step. -/
def State.stepOverdue (s : State) (q : Seq) : Bool :=
  decide (q.since + q.most ≤ s.now) && (q.num != 3 || bitOf (s.fld CDAC_PEN_STAT.PIN) q.obj)

/-- RESTART_STEP_TIMEOUT (R403): the step has exceeded its maximum; `dies` names the dies whose part of it has. -/
def execRestartStepTimeout (seq : Fin 9) (obj : Fin 16) (dies : BitVec 3) (s : State) : Outcome State Fault Refusal :=
  .next (
    match s.pwr.seqs.find? (fun q => q.num == seq.val && q.obj == obj.val) with
    | none => s
    | some q =>
      if s.pwr.held ∨ q.retries = false ∨ s.stepOverdue q = false ∨ retryIslands q dies.toNat = [] then s
      else if q.num = 1 ∧ q.step = 2 then s.refclkNever
      else if q.retried then s.stepFailed q
      else
        let s := (s.inc .PWR_RETRY_CNT).raise PWR_CAUSE.RETRY
        let s := (retryIslands q dies.toNat).foldl (fun (s : State) i => s.log 0x0103 sevWarn (q.num * 256 + q.step) i) s
        (s.undoStep q dies.toNat).setSeq q.num q.obj (fun q => { q with retried := true, since := s.now }))

/-- LINE_WAKE_AM_TIMEOUT (R403): a line receive wake past its island restore has no AM lock 352 µs after its trigger. -/
def execLineWakeAmTimeout (k : Fin 8) (s : State) : Outcome State Fault Refusal :=
  .next (if s.pwr.seqs.any (fun q => q.num == 5 && q.obj == k.val && decide (q.trigger + 352 ≤ s.now)) ∧
      s.flag LRX_STAT.DOZE k = false ∧ s.lineAm k = false then
    let s := s.endSeq 5 k
    match s.mode.run.portOfLine k with
    | some p => s.refreshAlign p
    | none => s
  else s)

/-! ## Wear, AVS, service life (R416–R418) -/

/-- D of an island in 0.001 %, from its baseline W0 and its ratio W (R416). -/
def wearOf (w0 w : Nat) : Nat := satN 16 (if w0 = 0 then 0 else (w0 - w) * 100000 / w0)

/-- D of an island as PWR_WEAR_VAL shows it: VALID clear if it was never measured. -/
def State.wearVal (s : State) (id : Nat) : Nat :=
  match s.life.wear.find? (fun p => p.1 == id) with
  | some (_, d) => d + 2 ^ 31
  | none => 0

/-- Whether Aqique measures wear now (R416): at the boot, and every 24 h in READY and ACTIVE. -/
def State.wearDue (s : State) : Bool :=
  match s.pwr.wearAt with
  | none => true
  | some t => s.modeReady && decide (t + 86400000000 ≤ s.now)

/-- WEAR_MEASURE (R416): frequency ratios of islands, in the unit the monitors count in. The first measurement of all
records the baselines; later ones measure the islands that have power. -/
def execWearMeasure (ws : List (BitVec 16 × Nat)) (s : State) : Outcome State Fault Refusal :=
  .next (
    if s.aqiqueRuns = false ∨ s.wearDue = false then s
    else
      let s := { s with pwr := { s.pwr with wearAt := some s.now } }
      let xs := (ws.map (fun p => (p.1.toNat, p.2))).filter (fun p => isIsland p.1)
      let s := if s.life.base = [] then
          { s with life := { s.life with base := xs.foldl (fun b p => insertAt natLt p.1 p.2 b) [] } }
        else s
      let s := xs.foldl (fun (s : State) p =>
        match s.life.base.find? (fun b => b.1 == p.1) with
        | some (_, w0) =>
          if s.island p.1 = .on ∨ s.island p.1 = .doze then
            { s with life := { s.life with wear := insertAt natLt p.1 (wearOf w0 p.2) s.life.wear } }
          else s
        | none => s) s
      let worst := (s.life.wear.filter (fun p => decide (0x1000 ≤ p.1))).foldl
        (fun (b : Nat × Nat) p => if b.2 < p.2 then p else b) (0, 0)
      s.setReg .PWR_WEAR_WORST (BitVec.ofNat 32 (worst.2 + worst.1 * 2 ^ 16)))

/-- AVS_STEP (R417): one step of at most 410 codes towards the computed voltage, once per second. -/
def execAvsStep (s : State) : Outcome State Fault Refusal :=
  .next (if s.modeReady ∧ s.flag PWR_AVS_STAT.ACTIVE ∧ s.pwr.avsAt + 1000000 ≤ s.now then
    let s := { s with pwr := { s.pwr with avsAt := s.now } }
    let d := s.fld PWR_WEAR_WORST.D
    let v4 := 4 * Config.avsV0.toNat + d
    let above := decide (32000 < v4)
    let v := clampN 7000 8000 (v4 / 4)
    let want := min 16383 ((8000 - v) * 16384 / 1000)
    let now := s.fld PWR_AVS_STAT.CODE
    let code := if now + 410 < want then now + 410 else if want + 410 < now then now - 410 else want
    let s := (s.put PWR_AVS_STAT.TARGET v).put PWR_AVS_STAT.CODE code
    let s := (s.put CDAC_CODE.CODE code 0 31).put CDAC_CH_STAT.BASE code 0 31
    let s := s.refreshDac 31
    let s := s.putFlag PWR_AVS_STAT.LIMIT above
    if above then
      let s := s.raise PWR_CAUSE.WEAR_LIMIT
      if s.pwr.limitLogged then s
      else ({ s with pwr := { s.pwr with limitLogged := true } }).log 0x0107 sevWarn (s.fld PWR_WEAR_WORST.ISLAND) d
    else s
  else s)

/-- PWR_LIFE shows the running equivalent time in whole minutes. -/
def State.refreshLife (s : State) : State := s.setWide .PWR_LIFE (BitVec.ofNat 256 (s.life.acc / 2 ^ 32 % 2 ^ 64))

/-- LIFE_MINUTE (R418): the minute's mean temperature ages the device. -/
def execLifeMinute (s : State) : Outcome State Fault Refusal :=
  .next (if s.pwr.held ∨ s.now < s.pwr.minuteAt + 60000000 then s
  else
    let s := { s with pwr := { s.pwr with minuteAt := s.now } }
    let a := Config.ageing s.pwr.tempSum s.pwr.tempNum
    let s := { s with life := { s.life with acc := s.life.acc + a }, pwr := { s.pwr with tempSum := 0, tempNum := 0 } }
    let on := (s.wide .PWR_ONTIME).toNat + 1
    (s.setWide .PWR_ONTIME (BitVec.ofNat 256 (on % 2 ^ 64))).refreshLife)

/-- LIFE_STORE (R418): once per hour. -/
def execLifeStore (s : State) : Outcome State Fault Refusal :=
  .next (if s.aqiqueRuns ∧ s.pwr.storeAt + 3600000000 ≤ s.now then
    { s with pwr := { s.pwr with storeAt := s.now }, life := { s.life with stored := s.life.acc, storedOn := (s.wide .PWR_ONTIME).toNat } }
  else s)

/-! ## Commands of class 0x01 (R419) -/

/-- PWR_STATUS. -/
def cmdPwrStatus : Handler := fun p _ s =>
  if p.zeroFrom 0 then (okWith (s.reg .PWR_STATE).toNat (s.reg .PWR_FAULT_INFO).toNat, s) else (fieldRange, s)

/-- PWR_RESET: a software reset 100 ms later. -/
def cmdPwrReset : Handler := fun p _ s =>
  if p.byte 0 ≠ 0xA5 ∨ p.zeroFrom 1 = false then (fieldRange, s)
  else if s.pwr.resetDue.isSome then (okWith, s)
  else (okWith, { s with pwr := { s.pwr with resetDue := some { source := 1, due := some (s.now + 100000) } } })

/-- PWR_LOWPWR: it completes when the resulting state is reached. -/
def cmdPwrLowpwr : Handler := fun p t s =>
  if 1 < p.byte 0 ∨ p.zeroFrom 1 = false then (fieldRange, s)
  else if s.inTransition then (failWith 0x0321, s)
  else
    let s := (s.put PWR_STATE.LP_REQ (p.byte 0)).powerCheck
    if s.inTransition then (.later, { s with pwr := { s.pwr with lowWaiter := some t } })
    else (okWith (s.reg .PWR_STATE).toNat, s)

/-- PWR_WEAR_REPORT. -/
def cmdPwrWearReport : Handler := fun p _ s =>
  if p.zeroFrom 2 = false ∨ isIsland (p.half 0) = false then (fieldRange, s)
  else (okWith (s.wearVal (p.half 0)) (s.reg .PWR_AVS_STAT).toNat, s)

/-- PWR_LIFE_REPORT: hours. -/
def cmdPwrLifeReport : Handler := fun p _ s =>
  if p.zeroFrom 0 then (okWith ((s.wide .PWR_LIFE).toNat / 60 % 2 ^ 32) ((s.wide .PWR_ONTIME).toNat / 60 % 2 ^ 32), s)
  else (fieldRange, s)

/-- PWR_STATUS (R419). -/
def execPwrStatus (e : Fin 256) (s : State) : Outcome State Fault Refusal := .next (s.runCmd e 0x01 0x01 cmdPwrStatus)

/-- PWR_RESET (R395, R419). -/
def execPwrReset (e : Fin 256) (s : State) : Outcome State Fault Refusal := .next (s.runCmd e 0x01 0x02 cmdPwrReset)

/-- PWR_LOWPWR (R398, R419). -/
def execPwrLowpwr (e : Fin 256) (s : State) : Outcome State Fault Refusal := .next (s.runCmd e 0x01 0x03 cmdPwrLowpwr)

/-- PWR_WEAR_REPORT (R416, R419). -/
def execPwrWearReport (e : Fin 256) (s : State) : Outcome State Fault Refusal := .next (s.runCmd e 0x01 0x04 cmdPwrWearReport)

/-- PWR_LIFE_REPORT (R418, R419). -/
def execPwrLifeReport (e : Fin 256) (s : State) : Outcome State Fault Refusal := .next (s.runCmd e 0x01 0x05 cmdPwrLifeReport)

end Sys2Proof.Machine
end

