-- ==== Sys2Proof/Machine/Thermal.lean ====
section
/-!
DEFINITION. Sys2Proof/Machine/Thermal.lean: the temperature sensors, the zones and their actions (R408–R414).
-/

namespace Sys2Proof.Machine

open Host

/-- The zone of a sensor. -/
def zoneOf (n : Nat) : Nat := if n < 10 then 0 else if n < 20 then 1 else 2

/-- The sensors of a zone. -/
def zoneSensors (z : Nat) : List Nat := (List.range 24).filter (fun n => zoneOf n == z)

/-- Whether a sensor is retired. -/
def State.retired (s : State) (n : Nat) : Bool := s.bit .THM_RETIRED n

/-- The hottest sensor of a zone that is not retired and has been measured, with its reading in 0.125 °C. -/
def State.hottest (s : State) (z : Nat) : Option (Nat × Int) :=
  ((zoneSensors z).filter (fun n => !(s.retired n) && s.flag THM_TS.VALID 0 n)).foldl
    (fun (b : Option (Nat × Int)) n =>
      let t := s.sfld THM_TS.TEMP 0 n
      match b with
      | some (m, u) => if u < t then some (n, t) else some (m, u)
      | none => some (n, t)) none

/-- A state of a zone that begins at a temperature and ends below another (R412). -/
def zoneState (was : Bool) (t enter leave : Int) : Bool := if was then decide (leave ≤ t) else decide (enter ≤ t)

/-- The actions of R413 follow the state of a core zone. -/
def State.zoneActions (s : State) (z : Nat) : State :=
  if z = 2 then s
  else
    let d := z + 1
    let s := s.refreshThrottle d
    let s := s.putFlag TIME_STAT.THROTTLED (s.throttling d) d
    s.refreshPause d

/-- Whether the boot ROM has not handed over yet: until it has, a broken sensor causes no FAULT (R401). -/
def State.inRom (s : State) : Bool := s.pwr.boot == .rom || s.pwr.boot == .recovery

/-- A zone follows its sensors: its warning, throttle, QUARTER and shutdown states, with their causes and events
(R412, R413, R421). -/
def State.refreshZone (s : State) (z : Nat) : State :=
  match s.hottest z with
  | none => s
  | some (hot, t) =>
    let raw := unsigned 12 t
    let cfg (f : Fld) : Int := 8 * (s.fld f 0 z : Int)
    let warn := cfg THM_ZONE_CFG.WARN
    let thr := cfg THM_ZONE_CFG.THROT
    let shut := cfg THM_ZONE_CFG.SHUT
    let was (f : Fld) : Bool := s.flag f 0 z
    let w := s.flag THM_ZONE_CFG.WARN_EN 0 z && zoneState (was THM_ZONE_STAT.WARN) t warn (warn - 40)
    let h := s.flag THM_ZONE_CFG.THROT_EN 0 z && zoneState (was THM_ZONE_STAT.THROTTLE) t thr (thr - 40)
    let q := z != 2 && h && zoneState (was THM_ZONE_STAT.QUARTER) t (thr + 40) thr
    let x := zoneState (was THM_ZONE_STAT.SHUT) t shut (shut - 40)
    let w0 := was THM_ZONE_STAT.WARN
    let h0 := was THM_ZONE_STAT.THROTTLE
    let q0 := was THM_ZONE_STAT.QUARTER
    let x0 := was THM_ZONE_STAT.SHUT
    let fast := (zoneSensors z).any (fun n => !(s.retired n) && s.flag THM_TS.FAST 0 n)
    let s := s.setReg .THM_ZONE_STAT (BitVec.ofNat 32
      (raw + b2n w * 2 ^ 16 + b2n h * 2 ^ 17 + b2n q * 2 ^ 18 + b2n x * 2 ^ 19 + hot * 2 ^ 20 + b2n fast * 2 ^ 25)) 0 z
    let s := s.put THM_STAT.WARNING (bitsWhere (fun n => s.flag THM_ZONE_STAT.WARN 0 n) 3)
    let s := s.put THM_STAT.THROTTLING (bitsWhere (fun n => s.flag THM_ZONE_STAT.THROTTLE 0 n) 3)
    let s := if w = w0 then s else (s.raise (THM_CAUSE.WARN z)).log 0x0201 sevWarn z (b2n w) raw
    let s := if h = h0 then s else s.raise (THM_CAUSE.THROTTLE z)
    let s := if h ∧ h0 = false then s.log 0x0202 sevWarn z 1 raw else s
    let s := if q ∧ q0 = false then s.log 0x0202 sevWarn z 2 raw else s
    let s := if q = false ∧ q0 ∧ h then s.log 0x0202 sevWarn z 3 raw else s
    let s := if h = false ∧ h0 then s.log 0x0202 sevWarn z 0 raw else s
    let s := if w = w0 ∧ h = h0 ∧ q = q0 then s else s.zoneActions z
    let s := if x = x0 then s else s.raise (THM_CAUSE.SHUTDOWN z)
    if x ∧ x0 = false then
      let s := s.log 0x0203 sevErr z hot raw
      if s.inRom ∧ s.flag THM_TS.BROKEN 0 hot then s else s.enterFault 5 z none
    else s

/-- The reading of a sensor's count in 0.125 °C, nearest, a half towards the hotter (R408). -/
def sensorReading (n count : Nat) : Int := (Config.sensorTemp n count + 4096) / 8192

/-- Whether a count lies in the band that the sensor's coefficients convert to −40 °C to +150 °C (R410). -/
def sensorInBand (n count : Nat) : Bool :=
  decide (-40 * 65536 ≤ Config.sensorTemp n count) && decide (Config.sensorTemp n count ≤ 150 * 65536)

/-- One measurement of a sensor that gives a 20-bit count (R408–R410). -/
def State.measure (s : State) (n count : Nat) : State :=
  let z := zoneOf n
  let k := s.sensors.getD n {}
  let run := if k.run ≠ 0 ∧ k.count = count then min 64 (k.run + 1) else 1
  let s := { s with sensors := s.sensors.set n { k with count := count, run := run } }
  let was := s.flag THM_TS.BROKEN 0 n
  let broke := !(s.retired n) && !was && (!(sensorInBand n count) || run == 64)
  let t := if was ∨ broke then 0x4B0 else unsigned 12 (sensorReading n count)
  let s := (s.put THM_TS.TEMP t 0 n).raise THM_TS.VALID 0 n
  let s := s.putFlag THM_TS.RETIRED (s.retired n) 0 n
  let s := s.putFlag THM_TS.FAST (decide (8 * ((s.fld THM_ZONE_CFG.THROT 0 z : Int) - 5) ≤ signed 12 t)) 0 n
  let s :=
    if broke then
      let s := ((s.raise THM_TS.BROKEN 0 n).raise (THM_CAUSE.SENSOR z)).log 0x0204 sevErr n count
      if s.inRom then s else s.enterFault 6 n none
    else s
  (s.refreshZone z).powerCheck

/-- Whether a sensor is due for a scheduled measurement (R409): every 1 ms, or every 50 µs while it reads within 5 °C of its
zone's throttle threshold or above. -/
def State.sensorDue (s : State) (n : Nat) : Bool :=
  match (s.sensors.getD n {}).at_ with
  | some t => decide (t + (if s.flag THM_TS.FAST 0 n then 50 else 1000) ≤ s.now)
  | none => true

/-- THM_MEASUREMENT (R408–R413): a scheduled measurement. -/
def execThmMeasurement (n : Fin 24) (count : BitVec 20) (s : State) : Outcome State Fault Refusal :=
  .next (if s.pwr.held ∨ s.sensorDue n = false then s
  else
    let k := s.sensors.getD n {}
    State.measure { s with sensors := s.sensors.set n { k with at_ := some s.now } } n count.toNat)

/-! ## Commands of class 0x02 (R414, R419) -/

/-- THM_STATUS. -/
def cmdThmStatus : Handler := fun p _ s =>
  let z := p.byte 0
  if 2 < z ∨ p.zeroFrom 1 = false then (fieldRange, s)
  else (okWith (s.reg .THM_ZONE_STAT 0 z).toNat (s.reg .THM_ZONE_CFG 0 z).toNat, s)

/-- THM_SET_THRESH (R414). -/
def cmdThmSetThresh : Handler := fun p _ s =>
  let z := p.byte 0
  let w := p.byte 1
  let h := p.byte 2
  let x := p.byte 3
  let en := p.byte 4
  if 2 < z ∨ w < 60 ∨ 115 < w ∨ h < w + 5 ∨ 120 < h ∨ x < h + 5 ∨ 125 < x ∨ 3 < en ∨ p.zeroFrom 5 = false then (fieldRange, s)
  else if z ≠ 2 ∧ (100 < w ∨ bitOf en 0 = false) ∧ s.mode.active.fullVnle (z + 1) then (failWith 0x0241, s)
  else (okWith, s.setReg .THM_ZONE_CFG (BitVec.ofNat 32 (w + h * 2 ^ 8 + x * 2 ^ 16 + en * 2 ^ 24)) 0 z)

/-- THM_MEASURE (R409): one measurement of a sensor, inserted. -/
def cmdThmMeasure (count : Nat) : Handler := fun p _ s =>
  let n := p.byte 0
  if 23 < n ∨ p.zeroFrom 1 = false then (fieldRange, s)
  else
    let s := s.measure n count
    (okWith (s.reg .THM_TS 0 n).toNat, s)

/-- THM_STATUS (R419). -/
def execThmStatus (e : Fin 256) (s : State) : Outcome State Fault Refusal := .next (s.runCmd e 0x02 0x01 cmdThmStatus)

/-- THM_SET_THRESH (R414). -/
def execThmSetThresh (e : Fin 256) (s : State) : Outcome State Fault Refusal := .next (s.runCmd e 0x02 0x02 cmdThmSetThresh)

/-- THM_MEASURE (R409): the operand is the count of the measurement. -/
def execThmMeasure (e : Fin 256) (count : BitVec 20) (s : State) : Outcome State Fault Refusal :=
  .next (s.runCmd e 0x02 0x03 (cmdThmMeasure count.toNat))

/-- The thermal state's share of a millisecond: throttled time is counted, and the higher of the two core zones'
temperatures joins the minute's mean (R418). -/
def State.thermalTick (s : State) : State :=
  let s := (List.range 3).foldl (fun (s : State) z => if s.flag THM_ZONE_STAT.THROTTLE 0 z then s.inc .THM_THROT_CNT 0 z else s) s
  let t := max (s.sfld THM_ZONE_STAT.TEMP 0 0) (s.sfld THM_ZONE_STAT.TEMP 0 1)
  { s with pwr := { s.pwr with tempSum := s.pwr.tempSum + t, tempNum := s.pwr.tempNum + 1 } }

end Sys2Proof.Machine
end

