-- ==== Sys2Proof/Machine/CalStore.lean ====
section
/-!
DEFINITION. Sys2Proof/Machine/CalStore.lean: the calibration store (R370–R378) and PFAIL_N (R393).
-/

namespace Sys2Proof.Machine

open Host

/-! ## The layout (R370, R371) -/

/-- The address of a bank. -/
def calBase (bank : Nat) : Nat := 0x2600000 + 0x80000 * bank

/-- The bytes of an entry: its header and its data, padded to a multiple of 8. -/
def CalEntry.bytes (e : CalEntry) : List Nat :=
  let n := e.data.length
  [e.kind % 256, e.kind / 256, e.index % 256, e.index / 256] ++ (List.range 4).map (fun i => byteOf n i) ++ e.data ++
    List.replicate ((8 - n % 8) % 8) 0

/-- The order of entries: ascending TYPE and INDEX. -/
def CalEntry.before (a b : CalEntry) : Bool := decide (a.kind < b.kind) || (a.kind == b.kind && decide (a.index < b.index))

/-- Put an entry among others, in place of the one of its TYPE and INDEX. -/
def putEntry (e : CalEntry) : List CalEntry → List CalEntry
  | [] => [e]
  | x :: xs =>
    if x.kind = e.kind ∧ x.index = e.index then e :: xs
    else if e.before x then e :: x :: xs
    else x :: putEntry e xs

/-- Apply a staged entry (R376): SIZE 0 deletes. -/
def applyEntry (es : List CalEntry) (e : CalEntry) : List CalEntry :=
  if e.data = [] then es.filter (fun x => !(x.kind == e.kind && x.index == e.index)) else putEntry e es

/-- The greatest SIZE of a type's layout; none where the layout gives none. -/
def calMax (kind : Nat) : Option Nat :=
  match kind with
  | 1 => some 512
  | 2 => some 284
  | 3 => some 256
  | 4 | 5 | 6 => some 8
  | 7 => some 4
  | 0x10 => some 128
  | 0x12 => some 8192
  | _ => none

/-- Split bytes into entries: the entries, or the offset of the first that overruns the bytes or its type's layout. -/
def parseEntries (all : List Nat) : Nat → Nat → List CalEntry → Except Nat (List CalEntry)
  | 0, _, acc => .ok acc
  | fuel + 1, off, acc =>
    if all.length ≤ off then .ok acc
    else
      let kind := fieldOf all off 2
      let size := fieldOf all (off + 4) 4
      let next := off + 8 + (size + 7) / 8 * 8
      let tooBig : Bool := match calMax kind with | some n => decide (n < size) | none => false
      if all.length < next ∨ tooBig then .error off
      else parseEntries all fuel next (acc ++ [⟨kind, fieldOf all (off + 2) 2, (all.drop (off + 8)).take size⟩])

/-- The 32 bytes of a SHA-256 digest. -/
def sha256 (bytes : List Nat) : List Nat :=
  let d := Config.digest 256 bytes
  (List.range 32).map (fun i => d.getD i 0 % 256)

/-- Bytes 0x00–0x0F of a bank's header. -/
def calHeader (seq len : Nat) : List Nat :=
  (List.range 4).map (fun i => byteOf 0x4C414353 i) ++ [1, 0, 0, 0] ++ (List.range 4).map (fun i => byteOf seq i) ++
    (List.range 4).map (fun i => byteOf len i)

/-- A list of bytes as words from a byte address on. -/
def wordsAt (a : Nat) (bytes : List Nat) : List (Nat × W64) :=
  (List.range (bytes.length / 8)).map (fun i => (a + 8 * i, BitVec.ofNat 64 (leNat ((bytes.drop (8 * i)).take 8))))

/-- COMMIT of a SEQ. -/
def calCommit (seq : Nat) : W64 := BitVec.ofNat 64 (seq + (2 ^ 32 - 1 - seq % 2 ^ 32) * 2 ^ 32)

/-- The word writes of a store in their order (R372). -/
def calWrites (bank seq : Nat) (es : List CalEntry) : List (Nat × W64) :=
  let base := calBase bank
  let body := es.flatMap CalEntry.bytes
  let head := calHeader seq body.length
  [(base + 0x38, 0)] ++ wordsAt base head ++ wordsAt (base + 0x40) body ++
    wordsAt (base + 0x10) (sha256 (head ++ body) ++ List.replicate 8 0) ++ [(base + 0x38, calCommit seq)]

/-! ## Capture (R376) -/

/-- The bytes of registers. -/
def wordsBytes (ws : List W32) : List Nat := ws.flatMap (fun w => (List.range 4).map (fun i => byteOf w.toNat i))

/-- Registers 0 to n − 1 of a unit. -/
def State.regRun (s : State) (r : Reg) (n u : Nat) : List W32 := (List.range n).map (fun i => s.reg r u i)

/-- The live values of an instance of a captured type; none while its island is off. -/
def State.capture (s : State) (kind i : Nat) : Option (List W32) :=
  match kind with
  | 1 => if s.powered (lineIsland i) then some (s.regRun .LRX_ADC_TTRIM 128 i) else none
  | 2 => if s.powered (lineIsland i) then some (s.regRun .LTX_FIR_COEF 7 i ++ s.regRun .LTX_LUT 64 i) else none
  | 3 => if s.powered (lineIsland i) then some (s.regRun .LTX_DAC_TTRIM 64 i) else none
  | 4 => if s.powered (hostIsland i) then some [s.reg .HL_TX_EQ i, s.reg .HL_RX_EQ_CTL i] else none
  | 5 => if s.powered 5 then some [s.reg .MON_IN_ZERO 0 i, s.reg .MON_IN_GAIN 0 i] else none
  | 6 =>
    let d := dieOfLane i
    if s.powered (islandId d 0x03) then some [s.reg .TIME_LANE_TXDLY d (i % 4), s.reg .TIME_LANE_RXDLY d (i % 4)] else none
  | _ => if s.powered (islandId (dieOfPort i) 0x03) then some [s.reg .TIME_PORT_HDLY i] else none

/-- How many instances a captured type has. -/
def calCount (kind : Nat) : Nat := if kind = 4 then 16 else if kind = 5 then 32 else 8

/-- The loaded store's entries with those of the captured types replaced from the live registers. -/
def State.captured (s : State) (mask : Nat) : List CalEntry :=
  ((List.range' 1 7).filter (fun t => bitOf mask t)).foldl (fun es t =>
    (List.range (calCount t)).foldl (fun es i =>
      match s.capture t i with
      | some ws => putEntry ⟨t, i, wordsBytes ws⟩ es
      | none => es) es) s.cal.entries

/-! ## PFAIL_N (R393, R343, R373) -/

/-- PFAIL_N asserts: it is reported, and a firmware update is abandoned. -/
def State.pfailOn (s : State) : State :=
  let s := (s.raise PWR_STATE.PFAIL).raise PWR_CAUSE.PFAIL
  let s := s.log 0x0105 sevWarn 1
  if s.boot.update.isSome then { s with boot := { s.boot with update := none } }.closeStage else s

/-- PFAIL_ASSERT (R393). During a reset only the pin is noted. -/
def execPfailAssert (s : State) : Outcome State Fault Refusal :=
  .next (if s.flag PWR_STATE.PFAIL then s else if s.pwr.held then s.raise PWR_STATE.PFAIL else s.pfailOn)

/-- PFAIL_RELEASE (R393, R373): a store abandoned meanwhile completes. -/
def execPfailRelease (s : State) : Outcome State Fault Refusal :=
  .next (if s.flag PWR_STATE.PFAIL then
    let s := s.put PWR_STATE.PFAIL 0
    if s.pwr.held then s
    else
      let s := s.log 0x0105 sevWarn 0
      match s.cal.abandoned with
      | none => s
      | some a =>
        let s := { s with cal := { s.cal with abandoned := none, reported := a.bank :: s.cal.reported } }
        (s.log 0x1106 sevWarn a.bank a.seq 2).finish a.waiter ⟨0x0430, 0, 0⟩
  else s)

/-! ## Writing a store (R372, R373, R376) -/

/-- Whether a bank is valid. -/
def State.calValid (s : State) (bank : Nat) : Bool := if bank = 0 then s.cal.valid0 else s.cal.valid1

/-- Mark a bank valid or invalid. -/
def State.setCalValid (s : State) (bank : Nat) (v : Bool) : State :=
  { s with cal := if bank = 0 then { s.cal with valid0 := v } else { s.cal with valid1 := v } }

/-- Make word writes. -/
def State.storeWords (s : State) (ws : List (Nat × W64)) : State := ws.foldl (fun (s : State) p => s.writeWord p.1 p.2) s

/-- The SEQ of the next store. -/
def nextSeq (loaded : Option (Nat × Nat)) : Nat :=
  match loaded with
  | none => 1
  | some (_, n) => if n < 0xFFFFFFFE then n + 1 else 1

/-- Write a store of entries. The bank it goes to is the one that does not hold the loaded store. -/
def State.storeEntries (s : State) (es : List CalEntry) (fate : StoreFate) (t : Ticket) : Answer × State :=
  let bank := match s.cal.loaded with | some (b, _) => 1 - b | none => 0
  let seq := nextSeq s.cal.loaded
  let ws := calWrites bank seq es
  let len := (es.flatMap CalEntry.bytes).length
  let s := { s with cal := { s.cal with reported := s.cal.reported.filter (fun b => b != bank) } }
  let abandon (s : State) (n : Nat) : Answer × State :=
    let s := (s.storeWords (ws.take n)).setCalValid bank (n = 0 && s.calValid bank)
    (.later, { s with cal := { s.cal with abandoned := some ⟨bank, seq, t⟩ } })
  if s.flag PWR_STATE.PFAIL then abandon s 0
  else
    match fate with
    | .powerFail n =>
      let (a, s) := abandon s (min n (ws.length - 1))
      (a, s.pfailOn)
    | .verifyFailed n =>
      let n := min n (ws.length - 1)
      let s := (s.storeWords (ws.take n)).setCalValid bank false
      let (x, s) := s.free
      (failWith 0x0402, s.setWord ((ws.map Prod.fst).getD n 0) (BitVec.ofNat 72 x))
    | .written =>
      let s := (s.storeWords ws).setCalValid bank true
      let s := { s with cal := { s.cal with entries := es, loaded := some (bank, seq) } }
      (okWith seq len, s.log 0x1105 sevInfo bank seq len)

/-- The staged entries of CAL_STORE_WRITE: they, or a completion. -/
def State.stagedEntries (s : State) (len : Nat) : Except Answer (List CalEntry) × State :=
  if len = 0 then
    (.ok [], match s.stage with
      | some g => if g.use = .calStore then s.closeStage else s
      | none => s)
  else
    match s.stage with
    | none => (.error fieldRange, s)
    | some g =>
      if g.use ≠ .calStore then (.error (failWith 0x0312), s)
      else
        match s.closeStage.readBytes g.addr len with
        | (none, s) => (.error (failWith 0x0431), s)
        | (some bs, s) =>
          match parseEntries bs (bs.length / 8 + 1) 0 [] with
          | .error off => (.error (failWith 0x0120 0 off), s)
          | .ok es => (.ok es, s)

/-- CAL_STORE_WRITE. -/
def cmdCalWrite (fate : StoreFate) : Handler := fun p t s =>
  let mask := p.wordAt 0
  let len := p.wordAt 4
  if mask % 2 = 1 ∨ 256 ≤ mask ∨ len % 8 ≠ 0 ∨ 65536 < len ∨ p.zeroFrom 8 = false then (fieldRange, s)
  else if s.cal.abandoned.isSome then (failWith 0x0320, s)
  else
    match s.stagedEntries len with
    | (.error a, s) => (a, s)
    | (.ok staged, s) =>
      let es := staged.foldl applyEntry (s.captured mask)
      if 524224 < (es.flatMap CalEntry.bytes).length then (failWith 0x0121, s) else s.storeEntries es fate t

/-- CAL_STORE_INFO. -/
def cmdCalInfo : Handler := fun p _ s =>
  if p.zeroFrom 0 = false then (fieldRange, s)
  else
    let len := (s.cal.entries.flatMap CalEntry.bytes).length
    let valid := b2n s.cal.valid0 * 2 + b2n s.cal.valid1 * 4
    match s.cal.loaded with
    | none => (okWith 0 valid, s)
    | some (bank, seq) => (okWith seq (bank + valid + len / 8 * 256), s)

/-- CAL_STAGE_OPEN. -/
def cmdCalStage : Handler := fun p _ s =>
  if p.zeroFrom 0 = false then (fieldRange, s)
  else if s.stage.isSome then (failWith 0x0312, s)
  else
    let (a, s) := s.openStage .calStore 65536
    (okWith a, s)

/-- CAL_STORE_INFO (R376). -/
def execCalStoreInfo (e : Fin 256) (s : State) : Outcome State Fault Refusal := .next (s.runCmd e 0x11 0x07 cmdCalInfo)

/-- CAL_STAGE_OPEN (R376). -/
def execCalStageOpen (e : Fin 256) (s : State) : Outcome State Fault Refusal := .next (s.runCmd e 0x11 0x08 cmdCalStage)

/-- CAL_STORE_WRITE (R372, R373, R376). -/
def execCalStoreWrite (e : Fin 256) (fate : StoreFate) (s : State) : Outcome State Fault Refusal :=
  .next (s.runCmd e 0x11 0x09 (cmdCalWrite fate))

/-! ## Loading at boot (R374) -/

/-- What a bank holds: a valid store (SEQ and entries), nothing (no MAGIC), or an invalid store: its SEQ and what fails
(0 COMMIT, 1 digest, 2 a word that reads uncorrectable, 3 the header's format). -/
inductive BankFound where
  | valid (seq : Nat) (entries : List CalEntry)
  | empty
  | bad (seq why : Nat)
  deriving DecidableEq, Repr

/-- Read a bank. -/
def State.readBank (s : State) (bank : Nat) : BankFound × State :=
  let base := calBase bank
  match s.readWord base with
  | (none, s) => (.empty, s)
  | (some w, s) =>
    if w.toNat % 2 ^ 32 ≠ 0x4C414353 then (.empty, s)
    else
      let (hb, s) := s.readBytes base 0x40
      let head := hb.getD []
      let seq := fieldOf head 8 4
      let len := fieldOf head 0xC 4
      if hb.isNone then (.bad 0 2, s)
      else if fieldOf head 4 2 ≠ 1 ∨ len % 8 ≠ 0 ∨ 524224 < len then (.bad seq 3, s)
      else if BitVec.ofNat 64 (fieldOf head 0x38 8) ≠ calCommit seq then (.bad seq 0, s)
      else
        match s.readBytes (base + 0x40) len with
        | (none, s) => (.bad seq 2, s)
        | (some body, s) =>
          if sha256 (head.take 0x10 ++ body) ≠ (head.drop 0x10).take 32 then (.bad seq 1, s)
          else
            match parseEntries body (len / 8 + 1) 0 [] with
            | .ok es => (.valid seq es, s)
            | .error _ => (.bad seq 3, s)

/-- What Aqique does about a bank that has MAGIC but fails. -/
def State.dropBank (s : State) (bank : Nat) (f : BankFound) : State :=
  match f with
  | .bad seq why =>
    let s :=
      if why = 0 then (if s.cal.reported.contains bank then s else s.log 0x1106 sevWarn bank seq 1)
      else s.log 0x1107 sevErr bank seq why
    s.writeWord (calBase bank) 0
  | _ => s

/-- The store is validated and loaded (R374). -/
def State.loadStore (s : State) : State :=
  let (f0, s) := s.readBank 0
  let (f1, s) := s.readBank 1
  let s := (s.dropBank 0 f0).dropBank 1 f1
  let v0 : Option (Nat × List CalEntry) := match f0 with | .valid q es => some (q, es) | _ => none
  let v1 : Option (Nat × List CalEntry) := match f1 with | .valid q es => some (q, es) | _ => none
  let best : Option (Nat × Nat × List CalEntry) :=
    match v0, v1 with
    | none, none => none
    | some (q, es), none => some (0, q, es)
    | none, some (q, es) => some (1, q, es)
    | some (q, es), some (q', es') => if q < q' then some (1, q', es') else some (0, q, es)
  let cal : CalSt := { valid0 := v0.isSome, valid1 := v1.isSome }
  match best with
  | none => ({ s with cal := cal }).log 0x1109 sevWarn
  | some (bank, seq, es) => ({ s with cal := { cal with entries := es, loaded := some (bank, seq) } }).log 0x1108 sevInfo bank seq

end Sys2Proof.Machine
end

