-- ==== Sys2Proof/Machine/Security.lean ====
section
/-!
DEFINITION. Sys2Proof/Machine/Security.lean: firmware images and their update, certificates, debug unlock and tokens
(R337–R349, R411).
-/

namespace Sys2Proof.Machine

open Host

/-! ## Images (R338, R339) -/

/-- The MRAM address of a firmware slot (R337). -/
def fwAddr (slot : Nat) : Nat := 0x2000000 + 0x200000 * slot

/-- What a boot ROM or Aqique learns of an image: version, SVN, load address and its bytes with the signature. -/
structure ImageInfo where
  version : Nat
  svn : Nat
  load : Nat
  bytes : List Nat
  deriving DecidableEq, Repr

/-- Whether Skogon's key `id` has signed bytes with a signature (R338): ECDSA P-384 over SHA-384. -/
def skogonSigned (id : Nat) (msg sig : List Nat) : Bool := decide (id ≤ 1) && Config.verify [id] (Config.digest 384 msg) sig

/-- Whether a header has the layout of R338: MAGIC, FORMAT, LENGTH and LOAD valid. -/
def headerOk (h : List Nat) : Bool :=
  let len := fieldOf h 0x10 4
  let load := fieldOf h 0x14 4
  fieldOf h 0 4 == 0x49515141 && fieldOf h 4 2 == 1 && len % 8 == 0 && decide (0x20 ≤ len) && decide (len ≤ 1048576) &&
    decide (0x1000000 ≤ load) && decide (load + len ≤ 0x1100000)

/-- Write bytes to a memory, whole words where they are whole. -/
def State.storeBytes : Nat → State → Nat → List Nat → State
  | 0, s, _, _ => s
  | _, s, _, [] => s
  | fuel + 1, s, a, b :: bs =>
    let o := a % 8
    let xs := (b :: bs).take (8 - o)
    let d := BitVec.ofNat 64 (leNat xs * 2 ^ (8 * o))
    let be := (2 ^ xs.length - 1) * 2 ^ o
    let s := if be = 255 then s.writeWord a d else (s.mergeWord (a - o) d be).2
    State.storeBytes fuel s (a - o + 8) ((b :: bs).drop (8 - o))

/-- boot() of an image at an address, up to its start (R339): the reason of its refusal (1 header, 2 key revoked,
3 rollback, 4 signature), or what it is. With `copy` its bytes go to SRAM at LOAD before the signature is verified, and
stay there where it fails. A word that reads uncorrectable makes the header invalid or the digest fail (R365), and then
nothing is copied (log 154). A refused signature sets SEC_CAUSE.AUTH_FAIL. -/
def State.loadImage (s : State) (a : Nat) (copy : Bool) : Except Nat ImageInfo × State :=
  match s.readBytes a 0x20 with
  | (none, s) => (.error 1, s)
  | (some h, s) =>
    let key := fieldOf h 6 1
    let svn := fieldOf h 0xC 1
    let len := fieldOf h 0x10 4
    if headerOk h = false then (.error 1, s)
    else if key = 0 ∧ s.sec.key0Revoked then (.error 2, s)
    else if svn < s.sec.counter then (.error 3, s)
    else
      match s.readBytes a (len + 96) with
      | (none, s) => (.error 4, s.raise SEC_CAUSE.AUTH_FAIL)
      | (some bs, s) =>
        let s := if copy then s.storeBytes (bs.length + 1) (fieldOf h 0x14 4) bs else s
        if skogonSigned key (bs.take len) (bs.drop len) then (.ok ⟨fieldOf h 8 4, svn, fieldOf h 0x14 4, bs⟩, s)
        else (.error 4, s.raise SEC_CAUSE.AUTH_FAIL)

/-- The checks of boot() on an image in place: of the slot at FW_UPDATE_END (R342), of the image in recovery (R341). -/
def State.checkImage (s : State) (a : Nat) : Except Nat ImageInfo × State := s.loadImage a false

/-- A firmware slot of the boot record. -/
def State.fwSlot (s : State) (i : Nat) : FwSlot := s.sec.slots.getD i {}

/-- Change a firmware slot; SEC_IMG_A or SEC_IMG_B shows its version, 0 while it is invalid. -/
def State.setFwSlot (s : State) (i : Nat) (v : FwSlot) : State :=
  let s := { s with sec := { s.sec with slots := s.sec.slots.set i v } }
  s.setReg (if i = 0 then .SEC_IMG_A else .SEC_IMG_B) (BitVec.ofNat 32 (if v.valid then v.version else 0))

/-- Bring the registers that show the security store up to date. -/
def State.refreshSec (s : State) : State :=
  let s := [0, 1].foldl (fun (s : State) i => s.setFwSlot i (s.fwSlot i)) s
  let s := (s.putFlag SEC_STAT.KEY0_REVOKED s.sec.key0Revoked).put SEC_STAT.COUNTER s.sec.counter
  s.put SEC_KEY_STAT.OCCUPIED (bitsWhere (fun n => (s.keyOf n).isSome) 4)

/-! ## Firmware update (R342, R343) -/

/-- The slot that an update writes. -/
def State.spareSlot (s : State) : Nat := 1 - s.sec.active

/-- FW_UPDATE_BEGIN: refused under a trial, while an update is open, and where the slot to be written holds the running
image (R343). -/
def cmdFwBegin : Handler := fun p _ s =>
  let size := p.wordAt 4
  if p.wordAt 0 ≠ 0 ∨ p.zeroFrom 8 = false ∨ size % 8 ≠ 0 ∨ size < 0x20 + 96 ∨ 1048672 < size then (fieldRange, s)
  else if s.flag SEC_STAT.TRIAL ∨ s.boot.update.isSome ∨ s.fld SEC_STAT.SLOT = s.spareSlot then (failWith 0x0114, s)
  else if s.stage.isSome then (failWith 0x0312, s)
  else
    let i := s.spareSlot
    let s := s.setFwSlot i {}
    let s := { s with sec := { s.sec with pending := none, tried := false }, boot := { s.boot with update := some size } }
    let (a, s) := s.openStage .firmware 65536
    (okWith a (64 + i * 2 ^ 16), s)

/-- FW_UPDATE_CHUNK: `fail` names the word whose read-back fails, if one does. -/
def cmdFwChunk (fail : Option Nat) : Handler := fun p _ s =>
  let off := p.wordAt 4
  let count := p.wordAt 8
  match s.boot.update, s.stage with
  | some size, some g =>
    if p.wordAt 0 ≠ 0 ∨ p.zeroFrom 12 = false ∨ off % 8 ≠ 0 ∨ count % 8 ≠ 0 ∨ 65536 < count ∨ size < off + count then
      (fieldRange, s)
    else
      match s.readWords ((List.range (count / 8)).map (fun i => g.addr + 8 * i)) with
      | (none, s) => (failWith 0x0431, s)
      | (some ws, s) =>
        let base := fwAddr s.spareSlot + off
        let n := match fail with | some f => min f (count / 8) | none => count / 8
        let s := ((List.range n).zip ws).foldl (fun (s : State) iw => s.writeWord (base + 8 * iw.1) iw.2) s
        if n < count / 8 then
          let (x, s) := s.free
          (failWith 0x0402, s.setWord (base + 8 * n) (BitVec.ofNat 72 x))
        else (okWith, s)
  | _, _ =>
    if p.wordAt 0 ≠ 0 ∨ p.zeroFrom 12 = false ∨ off % 8 ≠ 0 ∨ count % 8 ≠ 0 ∨ 65536 < count then (fieldRange, s)
    else (failWith 0x0114, s)

/-- The status code of an image's refusal at FW_UPDATE_END. -/
def endCode (reason : Nat) : Nat :=
  match reason with
  | 1 => 0x0112
  | 2 => 0x0506
  | 3 => 0x0503
  | _ => 0x0502

/-- FW_UPDATE_END: the slot is checked in place and marked VALID. -/
def cmdFwEnd : Handler := fun p _ s =>
  if p.zeroFrom 0 = false then (fieldRange, s)
  else if s.boot.update.isNone then (failWith 0x0114, s)
  else
    match s.checkImage (fwAddr s.spareSlot) with
    | (.error r, s) => (failWith (endCode r), s)
    | (.ok i, s) =>
      let s := s.setFwSlot s.spareSlot ⟨true, i.version, i.svn⟩
      let s := { s with boot := { s.boot with update := none } }.closeStage
      (okWith i.version i.svn, s)

/-- FW_ACTIVATE: the VALID inactive slot becomes PENDING; RESET_NOW resets 100 ms after the completion is posted. -/
def cmdFwActivate : Handler := fun p t s =>
  if 1 < p.byte 0 ∨ p.zeroFrom 1 = false then (fieldRange, s)
  else if s.flag SEC_STAT.TRIAL ∨ (s.fwSlot s.spareSlot).valid = false then (failWith 0x0114, s)
  else
    let s := { s with sec := { s.sec with pending := some s.spareSlot, tried := false } }
    if p.byte 0 = 1 ∧ s.pwr.resetDue = none then
      (okWith, { s with pwr := { s.pwr with resetDue := some { source := 3, due := none, serial := t.serial } } })
    else (okWith, s)

/-- FW_COMMIT: the running trial slot becomes ACTIVE, and the counter advances to its SVN (R340). -/
def cmdFwCommit : Handler := fun p _ s =>
  if p.zeroFrom 0 = false then (fieldRange, s)
  else if s.flag SEC_STAT.TRIAL = false then (failWith 0x0114, s)
  else
    let i := s.fld SEC_STAT.SLOT
    let c := max s.sec.counter (s.fwSlot i).svn
    let s := { s with sec := { s.sec with active := i, pending := none, tried := false, counter := c } }
    let s := (s.put SEC_STAT.TRIAL 0).put SEC_STAT.COUNTER c
    (okWith c, s.log 0x0F04 sevInfo i (s.fwSlot i).version c)

/-- FW_STATUS. -/
def cmdFwStatus : Handler := fun p _ s =>
  if p.zeroFrom 0 then
    (okWith (s.reg .SEC_STAT).toNat ((s.reg .SEC_IMG_A).toNat / 2 ^ 16 + (s.reg .SEC_IMG_B).toNat / 2 ^ 16 * 2 ^ 16), s)
  else (fieldRange, s)

/-! ## Staged certificates and tokens (R344, R347, R411) -/

/-- SEC_STAGE_OPEN. -/
def cmdSecStage : Handler := fun p _ s =>
  if p.zeroFrom 0 = false then (fieldRange, s)
  else if s.stage.isSome then (failWith 0x0312, s)
  else
    let (a, s) := s.openStage .token 4096
    (okWith a, s)

/-- Take the first `n` bytes of the token staging region, which closes: the bytes, or a status code. -/
def State.takeToken (s : State) (n : Nat) : Except Nat (List Nat) × State :=
  match s.stage with
  | none => (.error 0x0113, s)
  | some g =>
    if g.use ≠ .token then (.error 0x0312, s)
    else
      match s.closeStage.readBytes g.addr n with
      | (none, s) => (.error 0x0431, s)
      | (some bs, s) => (.ok bs, s)

/-- The checks that certificates and tokens share, in their order (R344): format, key revocation, signature, UID. The
key's number, the signed bytes and the signature are where each layout has them; a UID of 0 means every device where
`anyDevice` says so. -/
def State.tokenCheck (s : State) (format : Bool) (key : Nat) (msg sig : List Nat) (uid : Nat) (anyDevice : Bool) : Nat :=
  if format = false then 0x0113
  else if key = 0 ∧ s.sec.key0Revoked then 0x0506
  else if skogonSigned key msg sig = false then 0x0502
  else if uid ≠ Config.uid.toNat ∧ (anyDevice = false ∨ uid ≠ 0) then 0x0504
  else 0

/-- Replacing or revoking a key marks the loaded sets that name its slot as unverified (R345). -/
def State.unverify (s : State) (slot : Nat) : State :=
  { s with psets := s.psets.map (fun p => if p.slot == slot then { p with authentic := false } else p) }

/-- The effect of a valid certificate (R344). -/
def State.applyCert (s : State) (kind slot maker : Nat) (key : List Nat) : State :=
  let others := s.sec.keys.filter (fun k => k.1 != slot)
  let s : State :=
    match kind with
    | 1 => { s with sec := { s.sec with keys := others ++ [(slot, ⟨maker, key⟩)] } }
    | 2 => State.unverify { s with sec := { s.sec with keys := others ++ [(slot, ⟨maker, key⟩)] } } slot
    | 3 => State.unverify { s with sec := { s.sec with keys := others } } slot
    | _ => { s with sec := { s.sec with key0Revoked := true } }
  s.refreshSec.log 0x0F05 sevInfo slot kind maker

/-- SEC_CERT_APPLY (R344). -/
def cmdCertApply : Handler := fun p _ s =>
  if p.zeroFrom 0 = false then (fieldRange, s)
  else
    match s.takeToken (0x78 + 96) with
    | (.error c, s) => (failWith c, s)
    | (.ok b, s) =>
      let slot := fieldOf b 6 1
      let kind := fieldOf b 7 1
      let ok := fieldOf b 0 4 == 0x54524543 && fieldOf b 4 2 == 1 && decide (slot ≤ 3) && decide (1 ≤ kind) && decide (kind ≤ 4)
      let code := s.tokenCheck ok (fieldOf b 0xC 1) (b.take 0x78) (b.drop 0x78) (fieldOf b 0x10 8) true
      if code ≠ 0 then (failWith code, if code = 0x0502 then s.raise SEC_CAUSE.AUTH_FAIL else s)
      else if kind = 1 ∧ (s.keyOf slot).isSome then (failWith 0x0508, s)
      else (okWith, s.applyCert kind slot (fieldOf b 8 4) ((b.drop 0x18).take 96))

/-- DEBUG_CHALLENGE (R347): a fresh nonce. -/
def cmdDebugChallenge : Handler := fun p _ s =>
  if p.zeroFrom 0 = false then (fieldRange, s)
  else if s.flag SEC_STAT.LOCKOUT then (failWith 0x0505, s)
  else
    let (x, s) := s.free
    let n := x % 2 ^ 128
    let s := { s with boot := { s.boot with nonce := true } }.setWide .SEC_DBG_NONCE (BitVec.ofNat 256 n)
    (okWith (n % 2 ^ 32) (n / 2 ^ 32 % 2 ^ 32), s)

/-- A failed unlock (R348). -/
def State.unlockFailed (s : State) (code : Nat) : State :=
  let n := s.boot.fails + 1
  let s := { s with boot := { s.boot with fails := n } }
  let s := ((s.inc .SEC_AUTH_FAIL_CNT).raise SEC_CAUSE.AUTH_FAIL).log 0x0F07 sevWarn 0x0A code
  if 4 ≤ n then s.raise SEC_STAT.LOCKOUT else s

/-- DEBUG_UNLOCK (R347): every attempt consumes the nonce. An attempt with no token in a staging region, or one that cannot
be read, is a failed one; one refused because window 2 is held for another load is none (log 155). -/
def cmdDebugUnlock : Handler := fun p _ s =>
  if p.zeroFrom 0 = false then (fieldRange, s)
  else if s.flag SEC_STAT.LOCKOUT then (failWith 0x0505, s)
  else
    match s.takeToken 128 with
    | (.error c, s) =>
      if c = 0x0312 then (failWith c, s)
      else (failWith c, ({ s with boot := { s.boot with nonce := false } }.setWide .SEC_DBG_NONCE 0).unlockFailed c)
    | (.ok b, s) =>
      let nonce := (s.wide .SEC_DBG_NONCE).toNat % 2 ^ 128
      let fresh := s.boot.nonce
      let s := { s with boot := { s.boot with nonce := false } }.setWide .SEC_DBG_NONCE 0
      let level := fieldOf b 6 1
      let ok := fieldOf b 0 4 == 0x4E4B5444 && fieldOf b 4 2 == 1 && (level == 1 || level == 2)
      let code := s.tokenCheck ok (fieldOf b 7 1) (b.take 0x20) (b.drop 0x20) (fieldOf b 8 8) false
      let code := if code = 0 ∧ (fresh = false ∨ fieldOf b 0x10 16 ≠ nonce) then 0x0504 else code
      if code ≠ 0 then (failWith code, s.unlockFailed code)
      else (okWith, ((s.put SEC_STAT.DEBUG_LEVEL level).raise SEC_CAUSE.DEBUG_UNLOCKED).log 0x0F06 sevWarn level)

/-- DEBUG_LOCK. -/
def cmdDebugLock : Handler := fun p _ s =>
  if p.zeroFrom 0 then (okWith, s.put SEC_STAT.DEBUG_LEVEL 0) else (fieldRange, s)

/-- KEY_LIST. -/
def cmdKeyList : Handler := fun p _ s =>
  if 3 < p.byte 0 ∨ p.zeroFrom 1 = false then (fieldRange, s)
  else (okWith (s.reg .SEC_KEY_STAT).toNat (match s.keyOf (p.byte 0) with | some k => k.maker | none => 0), s)

/-- The least number of sensors in service of a zone (R411). -/
def zoneLeast (z : Nat) : Nat := if z = 2 then 2 else 4

/-- THM_SENSOR_RETIRE (R411). -/
def cmdSensorRetire : Handler := fun p _ s =>
  if p.zeroFrom 0 = false then (fieldRange, s)
  else
    match s.takeToken 112 with
    | (.error c, s) => (failWith c, s)
    | (.ok b, s) =>
      let n := fieldOf b 6 1
      let ok := fieldOf b 0 4 == 0x54525354 && fieldOf b 4 2 == 1 && decide (n ≤ 23)
      let code := s.tokenCheck ok (fieldOf b 7 1) (b.take 0x10) (b.drop 0x10) (fieldOf b 8 8) false
      let left := ((zoneSensors (zoneOf n)).filter (fun m => !(s.retired m) && m != n)).length
      if code ≠ 0 then (failWith code, s)
      else if left < zoneLeast (zoneOf n) then (failWith 0x0242, s)
      else
        let s := (s.putBit .THM_RETIRED n true).raise THM_TS.RETIRED 0 n
        (okWith, s.log 0x0205 sevInfo n (fieldOf b 7 1))

/-- FW_UPDATE_BEGIN (R342). -/
def execFwUpdateBegin (e : Fin 256) (s : State) : Outcome State Fault Refusal := .next (s.runCmd e 0x0F 0x01 cmdFwBegin)

/-- FW_UPDATE_CHUNK (R342, R343). -/
def execFwUpdateChunk (e : Fin 256) (fail : Option (Fin 8192)) (s : State) : Outcome State Fault Refusal :=
  .next (s.runCmd e 0x0F 0x02 (cmdFwChunk (fail.map (fun f => f.val))))

/-- FW_UPDATE_END (R342). -/
def execFwUpdateEnd (e : Fin 256) (s : State) : Outcome State Fault Refusal := .next (s.runCmd e 0x0F 0x03 cmdFwEnd)

/-- FW_ACTIVATE (R342). -/
def execFwActivate (e : Fin 256) (s : State) : Outcome State Fault Refusal := .next (s.runCmd e 0x0F 0x04 cmdFwActivate)

/-- FW_COMMIT (R340, R342). -/
def execFwCommit (e : Fin 256) (s : State) : Outcome State Fault Refusal := .next (s.runCmd e 0x0F 0x05 cmdFwCommit)

/-- FW_STATUS (R349). -/
def execFwStatus (e : Fin 256) (s : State) : Outcome State Fault Refusal := .next (s.runCmd e 0x0F 0x06 cmdFwStatus)

/-- SEC_STAGE_OPEN (R349). -/
def execSecStageOpen (e : Fin 256) (s : State) : Outcome State Fault Refusal := .next (s.runCmd e 0x0F 0x07 cmdSecStage)

/-- SEC_CERT_APPLY (R344). -/
def execSecCertApply (e : Fin 256) (s : State) : Outcome State Fault Refusal := .next (s.runCmd e 0x0F 0x08 cmdCertApply)

/-- DEBUG_CHALLENGE (R347). -/
def execDebugChallenge (e : Fin 256) (s : State) : Outcome State Fault Refusal := .next (s.runCmd e 0x0F 0x09 cmdDebugChallenge)

/-- DEBUG_UNLOCK (R347, R348). -/
def execDebugUnlock (e : Fin 256) (s : State) : Outcome State Fault Refusal := .next (s.runCmd e 0x0F 0x0A cmdDebugUnlock)

/-- DEBUG_LOCK (R347). -/
def execDebugLock (e : Fin 256) (s : State) : Outcome State Fault Refusal := .next (s.runCmd e 0x0F 0x0B cmdDebugLock)

/-- KEY_LIST (R349). -/
def execKeyList (e : Fin 256) (s : State) : Outcome State Fault Refusal := .next (s.runCmd e 0x0F 0x0C cmdKeyList)

/-- THM_SENSOR_RETIRE (R411). -/
def execThmSensorRetire (e : Fin 256) (s : State) : Outcome State Fault Refusal := .next (s.runCmd e 0x02 0x04 cmdSensorRetire)

end Sys2Proof.Machine
end

