-- ==== Sys2Proof/Machine/Boot.lean ====
section
/-!
DEFINITION. Sys2Proof/Machine/Boot.lean: resets (R392, R395, R396), the boot ROM (R339, R341) and Aqique's start (R336).
-/

namespace Sys2Proof.Machine

open Host

/-! ## Reset (R395) -/

/-- The kinds of reset, as PWR_RESET_INFO.KIND numbers them. -/
def resetPower : Nat := 1
/-- RESET_N. -/
def resetPin : Nat := 2
/-- Software reset. -/
def resetSoftware : Nat := 3
/-- Boot watchdog. -/
def resetWatchdog : Nat := 4

/-- What a reset leaves of the recorder: the ring always; the emergency area and the clock except at power-on. -/
def EvrSt.afterReset (e : EvrSt) (now : Nat) (power : Bool) : EvrSt :=
  { ring := e.ring, place := e.place,
    clock := if power then 0 else e.clock + 1000 * (now : Int),
    rel := power || e.rel,
    emg := if power then [] else e.emg }

/-- Restore what a reset keeps of the registers: the emergency area but at power-on, the bad-segment map, retired sensors,
stored life, and the pins that PWR_STATE shows. `s0` is the state before the reset. -/
def State.keepRegs (s s0 : State) (power : Bool) : State :=
  let s := if power then s else
    [0, 1, 2, 3].foldl (fun (s : State) n => s.setWide .EVR_EMG (s0.wide .EVR_EMG 0 n) 0 n)
      (s.setReg .EVR_EMG_STAT (s0.reg .EVR_EMG_STAT))
  let s := (s.setWide .EVR_BAD_SEG (s0.wide .EVR_BAD_SEG)).setReg .THM_RETIRED (s0.reg .THM_RETIRED)
  let s := (List.range 24).foldl (fun (s : State) n => if s0.retired n then s.raise THM_TS.RETIRED 0 n else s) s
  let s := (s.setWide .PWR_LIFE (BitVec.ofNat 256 (s0.life.stored / 2 ^ 32 % 2 ^ 64))).setWide .PWR_ONTIME
    (BitVec.ofNat 256 s0.life.storedOn)
  let s := (s.putFlag PWR_STATE.LPMODE (s0.flag PWR_STATE.LPMODE)).putFlag PWR_STATE.FASTOFF (s0.flag PWR_STATE.FASTOFF)
  let s := s.putFlag PWR_STATE.PFAIL (s0.flag PWR_STATE.PFAIL)
  let s := if power then s else s.putFlag SEC_STAT.LOCKOUT (s0.flag SEC_STAT.LOCKOUT)
  let s := if s0.ctl.remapped.length < 64 then s else s.raise MEM_STAT.SPARES_OUT 0
  s.refreshSec

/-- The device after a reset of a kind: every block in its reset state, with MRAM, the security store and what R395 says
survives. -/
def State.resetTo (s : State) (kind source : Nat) : State :=
  let power := decide (kind = resetPower)
  let mram (a : Nat) : Bool := decide (0x2000000 ≤ a) && decide (a < 0x2800000)
  let t : State :=
    { pending := s.pending
      freeIx := s.freeIx
      mem := s.mem.filter (fun p => mram p.1)
      inits := s.inits.filter (fun r => mram r.lo)
      sec := s.sec
      psets := s.psets
      ctl := { remapped := s.ctl.remapped }
      life := { stored := s.life.stored, storedOn := s.life.storedOn, acc := s.life.stored, base := s.life.base }
      boot := { fails := if power then 0 else s.boot.fails }
      cal := { reported := s.cal.reported }
      evr := s.evr.afterReset s.now power
      pwr := { seqs := [{ num := 1 }], held := s.pwr.held, resetLow := s.pwr.resetLow, supplyLow := s.pwr.supplyLow } }
  (t.keepRegs s power).setReg .PWR_RESET_INFO (BitVec.ofNat 32 (kind + 256 * source))

/-- A reset is released: the device is in BOOT, and pins that are asserted count as new assertions (R407). -/
def State.releaseReset (s : State) : State :=
  let seqs := s.pwr.seqs.map (fun q => { q with trigger := s.now, since := s.now })
  let s := { s with pwr := { s.pwr with held := false, seqs := seqs } }.put PWR_STATE.STATE pwrBoot
  let s := if s.flag PWR_STATE.FASTOFF then s.fastoffOn else s
  if s.flag PWR_STATE.PFAIL then s.pfailOn else s

/-- SUPPLY_LOSS (R392): the power-on reset acts, and the device is OFF. -/
def execSupplyLoss (s : State) : Outcome State Fault Refusal :=
  .next (({ s with pwr := { s.pwr with held := true, supplyLow := true } }.resetTo resetPower 0).put PWR_STATE.STATE 0)

/-- POWER_ON_RESET_RELEASE (R392, R398): OFF goes to BOOT with RESET_N high. The recorder clock counts from here. -/
def execPowerOnResetRelease (s : State) : Outcome State Fault Refusal :=
  .next (if s.pwr.supplyLow then
    let s := { s with pwr := { s.pwr with supplyLow := false } }
    let s := { s with now := 0, evr := { s.evr with clock := 0 } }
    if s.pwr.resetLow then s else s.releaseReset
  else s)

/-- RESET_N_ASSERT (R395). -/
def execResetNAssert (s : State) : Outcome State Fault Refusal :=
  .next (if s.pwr.resetLow then s
  else if s.pwr.supplyLow then { s with pwr := { s.pwr with resetLow := true } }
  else { s with pwr := { s.pwr with held := true, resetLow := true } }.resetTo resetPin 0)

/-- RESET_N_RELEASE (R395, R407). -/
def execResetNRelease (s : State) : Outcome State Fault Refusal :=
  .next (if s.pwr.resetLow then
    let s := { s with pwr := { s.pwr with resetLow := false } }
    if s.pwr.supplyLow then s else s.releaseReset
  else s)

/-- SOFTWARE_RESET (R395, R381): a reset that is due takes effect; the staged records are flushed first, but for
MEM_FW_FATAL. -/
def execSoftwareReset (s : State) : Outcome State Fault Refusal :=
  .next (match s.pwr.resetDue with
  | none => s
  | some r =>
    let due : Bool := match r.due with | some t => decide (t ≤ s.now) | none => false
    if due = false ∨ s.pwr.held then s
    else
      let s := if r.source ≠ 4 ∧ s.evrRuns then s.flushAll else s
      (s.resetTo resetSoftware r.source).releaseReset)

/-! ## The boot ROM (R339, R341) -/

/-- boot() of an image at an address: copied to SRAM, verified there and started (R339). -/
def State.startImage (s : State) (a : Nat) : Except Nat ImageInfo × State := s.loadImage a true

/-- Keep an event for Aqique to log (R339). -/
def State.note (s : State) (code sev : Nat) (p0 p1 p2 p3 : Nat := 0) : State :=
  { s with boot := { s.boot with notes := s.boot.notes ++ [⟨code, sev, p0, p1, p2, p3, none⟩] } }

/-- A sensor found broken before the boot ROM handed over causes FAULT now (R401). -/
def State.faultBroken (s : State) : State :=
  match (List.range 24).find? (fun n => s.flag THM_TS.BROKEN 0 n && !(s.retired n)) with
  | some n => s.enterFault 6 n none
  | none => s

/-- An image of a slot has started. `trial`: it is the PENDING one. -/
def State.booted (s : State) (slot : Nat) (i : ImageInfo) (trial : Bool) : State :=
  let s := s.setFwSlot slot ⟨true, i.version, i.svn⟩
  let s := ((s.put SEC_STAT.SLOT slot).putFlag SEC_STAT.TRIAL trial).put SEC_STAT.RUN_SVN i.svn
  let s := s.note 0x0F01 sevInfo slot i.version i.svn s.sec.counter
  State.faultBroken { s with pwr := { s.pwr with boot := .started }, boot := { s.boot with startedAt := s.now } }

/-- How long the boot ROM's watchdog waits for a started image (R339), in microseconds. -/
def watchdogTime : Nat := 5000000

/-- No slot boots: recovery (R341). The reasons are those of slots A and B. -/
def State.enterRecovery (s : State) (ra rb : Nat) : State :=
  let s := ((s.raise SEC_STAT.RECOVERY).raise SEC_CAUSE.RECOVERY).putBit .SEC_EN 2 true
  let s := (s.putBit .MGMT_IRQ_TOP_EN 0x0F true).emergency 0x0F08 sevErr ra rb
  { s.initRange 0x1000000 0x1100100 with pwr := { s.pwr with boot := .recovery } }

/-- A slot that fails boot(). -/
def State.bootFailed (s : State) : State := s.raise SEC_CAUSE.IMAGE_INVALID

/-- The ACTIVE slot, then the other, then recovery. -/
def State.bootActive (s : State) : State :=
  let a := s.sec.active
  match s.startImage (fwAddr a) with
  | (.ok i, s) => s.booted a i false
  | (.error r, s) =>
    match s.bootFailed.startImage (fwAddr (1 - a)) with
    | (.ok i, s) => (s.note 0x0F02 sevWarn a r).booted (1 - a) i false
    | (.error r', s) => if a = 0 then s.bootFailed.enterRecovery r r' else s.bootFailed.enterRecovery r' r

/-- The boot ROM's selection (R339). It reads the boot record and the counter, which their registers show from then on. -/
def State.bootSelect (s : State) : State :=
  let s := s.refreshSec
  match s.sec.pending with
  | none => s.bootActive
  | some p =>
    if s.sec.tried then
      let s := { s with sec := { s.sec with pending := none } }
      ((s.raise SEC_CAUSE.FW_REVERTED).note 0x0F03 sevWarn p (s.fwSlot p).version).bootActive
    else
      let s := { s with sec := { s.sec with tried := true } }
      match s.startImage (fwAddr p) with
      | (.ok i, s) => s.booted p i true
      | (.error _, s) => s.bootFailed.bootActive

/-- BOOT_SELECT (R339): once the start-up steps have ended. -/
def execBootSelect (s : State) : Outcome State Fault Refusal :=
  .next (if s.pwr.held = false ∧ s.pwrState = pwrBoot ∧ s.pwr.boot = .rom ∧ s.seqOn 1 0 = false then s.bootSelect else s)

/-- GO in recovery (R341): the image at 0x0100_0000 is checked and written to slot A. `fail`: its read-back fails. -/
def State.recoveryGo (s : State) (fail : Bool) : State :=
  match s.checkImage 0x1000000 with
  | (.error r, s) => s.put SEC_STAT.RECOVERY_ERR r
  | (.ok i, s) =>
    if i.bytes.length ≠ s.fld SEC_RECOVERY_LEN.LEN then s.put SEC_STAT.RECOVERY_ERR 1
    else
      let s := s.storeBytes (i.bytes.length + 1) (fwAddr 0) i.bytes
      if fail then
        let (x, s) := s.free
        (s.setWord (fwAddr 0 + 8 * (x % (i.bytes.length / 8))) (BitVec.ofNat 72 (x / 2 ^ 32))).put SEC_STAT.RECOVERY_ERR 5
      else
        let s := { s with sec := { s.sec with active := 0, pending := none, tried := false } }
        let s := s.setFwSlot 0 ⟨true, i.version, i.svn⟩
        let s := { s with pwr := { s.pwr with boot := .rom } }
        (s.put SEC_STAT.RECOVERY 0).put SEC_STAT.RECOVERY_ERR 0

/-- BOOT_WATCHDOG (R339): a started image is not ready within 5 s. -/
def execBootWatchdog (s : State) : Outcome State Fault Refusal :=
  .next (if s.pwr.held = false ∧ s.pwr.boot = .started ∧ s.boot.startedAt + watchdogTime ≤ s.now then (s.resetTo resetWatchdog 0).releaseReset else s)

/-- LOCKSTEP_MISMATCH (R313): both cores stop, and the device enters FAULT. -/
def execLockstepMismatch (pc : BitVec 32) (s : State) : Outcome State Fault Refusal :=
  .next (if s.pwr.held = false ∧ s.cobblerStopped = false ∧ (s.pwr.boot = .started ∨ s.pwr.boot = .ready) then
    s.enterFault 4 0 (some ⟨0x0E06, pc.toNat, 0⟩)
  else s)

/-! ## Aqique becomes ready (R336, R374, R380, R398) -/

/-- Aqique runs a command of class 0x0D that the monitoring setup holds, by the bytes of its descriptor. -/
def State.monSetup (s : State) (d : List Nat) : State :=
  let n := leNat d
  let t : Ticket := { aqique := true, eyelet := 2 }
  if byteOf n 2 = 0x0D ∧ byteOf n 3 = 0x01 then (cmdMonSlotSet ⟨n >>> 64⟩ t s).2
  else if byteOf n 2 = 0x0D ∧ byteOf n 3 = 0x03 then (cmdMonChCfg ⟨n >>> 64⟩ t s).2
  else s

/-- Monitoring is set up from the store, and runs (R296, R371). -/
def State.startMonitor (s : State) : State :=
  let s := (List.range 32).foldl (fun (s : State) i =>
    let load (s : State) (n : Nat) (r : Reg) : State :=
      match s.calWord 5 i n with
      | some w => s.setReg r w 0 i
      | none => s
    load (load s 0 .MON_IN_ZERO) 1 .MON_IN_GAIN) s
  let s :=
    match s.cal.entries.find? (fun e => e.kind == 0x13 && e.index == 0) with
    | some e =>
      let s := (List.range (e.data.length / 32)).foldl (fun (s : State) i => s.monSetup ((e.data.drop (32 * i)).take 32)) s
      (s.slotCommit none).2
    | none => s
  s.setRun true

/-- The recorder takes up the ring: its next SEQ follows the newest record's (R380). -/
def State.startRecorder (s : State) : State :=
  let next := match s.evr.ring.getLast? with | some p => (p.2 + 1) % 2 ^ 32 | none => 0
  let s := (s.setEvr { s.evr with next := next }).put EVR_STAT.GOOD_SEGS s.goodSegs
  (if s.goodSegs = 0 then s.raise EVR_STAT.RING_FAILED else s).refreshEvr

/-- AQIQUE_READY (R336). -/
def execAqiqueReady (s : State) : Outcome State Fault Refusal :=
  .next (if s.pwr.held = false ∧ s.pwr.boot = .started ∧ s.cobblerStopped = false then
    let s := { s with pwr := { s.pwr with boot := .ready, swLow := false, allowHw := true }, mbx := {} }
    let s := s.initRange 0x4022000 0x4026000
    let s := (s.setReg .MBX_CR_PROD_PTR 0x100 0 0).setReg .MBX_CR_PROD_PTR 0x100 0 1
    let s := (s.setReg .MBX_CR_CONS_PTR 0 0 0).setReg .MBX_CR_CONS_PTR 0 0 1
    let s := (s.setReg .MGMT_IRQ_TOP_EN ((s.reg .MGMT_IRQ_TOP_EN &&& 0x48002) ||| 0x4000)).putBit .HIF_EN 0 true
    let s := (s.raise HIF_STAT.DP_CONTROL).raise HIF_STAT.CMIS_READY
    let s := s.startRecorder
    let s := s.log 0x0108 sevInfo (s.reg .PWR_RESET_INFO).toNat
    let s := { s with events := s.events ++ s.boot.notes, boot := { s.boot with notes := [] } }
    let s := s.loadStore.startMonitor
    let s := [0, 1, 2].foldl (fun (s : State) d => s.put MEM_SCRUB_CTL.EN 0xFF d) s
    let s := (s.weltAbEn 1 true).weltAbEn 2 true
    let s := (s.raise MBX_STAT.READY).raise MBX_CAUSE.READY
    if s.pwrState = pwrBoot then (s.toPwr pwrLow).powerCheck else s
  else s)

end Sys2Proof.Machine
end

