-- ==== Sys2Proof/Machine/Counters.lean ====
section
/-!
DEFINITION. Sys2Proof/Machine/Counters.lean: counter banks and the central counter reader (R135, R136, R140, R141).
-/

namespace Sys2Proof.Machine

open Host

/-- Clear the counters of an island's bank that a mask names. -/
def State.bankClear (s : State) (u mask : Nat) : State :=
  (List.range 8).foldl (fun s n => if bitOf mask n then s.setCnt .CNT_VAL 0 u n else s) s

/-- The MCLK cycle count (R140): it advances every 1.25 ns. -/
def State.mclk (s : State) : Nat := 800 * s.now

/-- Start a run of the reader: ignored while BUSY, and for a COUNT outside 1–64. DONE, SKEW_EXCEEDED and the entries done are those
of the latest run, so that a start clears them; CNT_RES keeps what earlier runs have stored (DESIGN CHOICE, log entry 147). -/
def State.readerStart (s : State) (list count : Nat) (w : Option Ticket) : State :=
  if s.flag CNT_RD_STAT.BUSY ∨ count = 0 ∨ 64 < count then s
  else
    let s := { s with reader := { list := list, count := count, waiter := w } }
    (s.setReg .CNT_RD_STAT 1).setWide .CNT_RD_T_FIRST (BitVec.ofNat 256 s.mclk)

/-- A write of CNT_RD_CTL: LIST and COUNT take their values, and START starts a run (R140). -/
def State.readerCtl (s : State) (data : W32) : State :=
  let s := (s.put CNT_RD_CTL.LIST (getBits data 0 2)).put CNT_RD_CTL.COUNT (getBits data 8 7)
  if getBits data 16 1 = 1 then s.readerStart (getBits data 0 2) (getBits data 8 7) none else s

/-- The end of a run: DONE, the check of the span and the completion of the command that waits (R140, R141). -/
def State.readerEnd (s : State) : State :=
  let r := s.reader
  let span := r.elapsed
  let s := (s.putFlag CNT_RD_STAT.BUSY false).raise CNT_RD_STAT.DONE
  let s := (s.raise CNT_CAUSE.RD_DONE).setWide .CNT_RD_T_LAST (s.wide .CNT_RD_T_FIRST + BitVec.ofNat 256 span)
  let s :=
    if 360 * r.count < span then
      ((s.raise CNT_RD_STAT.SKEW_EXCEEDED).raise CNT_CAUSE.SKEW).log 0x1302 sevWarn r.list r.count (span % 2 ^ 32)
    else s
  match r.waiter with
  | some t => s.finish t ⟨0, (s.reg .CNT_RD_STAT).toNat, span % 2 ^ 32⟩
  | none => s

/-- A response to the reader, stored with its RESP code: the value is 0 unless it is OK (R140). -/
def State.readerStore (s : State) (code : Nat) (value : Nat) (elapsed : Nat) : State :=
  let r := s.reader
  let word := (if code = 0 then value % 2 ^ 48 else 0) + code * 2 ^ 56 + 2 ^ 63
  let s := s.setWide .CNT_RES (BitVec.ofNat 256 word) 0 (64 * r.list + r.index)
  let s := { s with reader := { r with index := r.index + 1, elapsed := r.elapsed + elapsed } }
  let s := s.put CNT_RD_STAT.ENTRIES (r.index + 1)
  if r.count ≤ r.index + 1 then s.readerEnd else s

/-- CNT_LIST_SET (R141). -/
def cmdCntListSet : Handler := fun p _ s =>
  let n := p.byte 2
  if 3 < p.byte 0 ∨ 63 < p.byte 1 ∨ n = 0 ∨ 5 < n ∨ 64 < p.byte 1 + n ∨ p.byte 3 ≠ 0 ∨ p.zeroFrom (4 + 4 * n) = false then
    (fieldRange, s)
  else if s.flag CNT_RD_STAT.BUSY then (failWith 0x0308, s)
  else
    (okWith, (List.range n).foldl (fun s i =>
      s.setReg .CNT_LIST (BitVec.ofNat 32 (p.wordAt (4 + 4 * i))) 0 (64 * p.byte 0 + p.byte 1 + i)) s)

/-- CNT_LIST_RUN (R141): it completes when the run ends. -/
def cmdCntListRun : Handler := fun p w s =>
  if 3 < p.byte 0 ∨ p.byte 1 = 0 ∨ 64 < p.byte 1 ∨ p.zeroFrom 2 = false then (fieldRange, s)
  else if s.flag CNT_RD_STAT.BUSY then (failWith 0x0308, s)
  else
    let s := (s.put CNT_RD_CTL.LIST (p.byte 0)).put CNT_RD_CTL.COUNT (p.byte 1)
    (.later, s.readerStart (p.byte 0) (p.byte 1) (some w))

/-- CNT_BANK_SET (R141). A bank whose island cannot answer is out of range. -/
def cmdCntBankSet : Handler := fun p _ s =>
  let u := islandId (p.byte 0) (p.byte 1)
  let n := p.byte 2
  if 2 < p.byte 0 ∨ isIsland u = false ∨ 7 < n ∨ 3 < p.byte 3 ∨ p.zeroFrom 16 = false then (fieldRange, s)
  else if s.island u ≠ .on ∧ s.island u ≠ .doze then (fieldRange, s)
  else if s.flag CNT_RD_STAT.BUSY then (failWith 0x0308, s)
  else
    let s := s.setReg .CNT_SEL (BitVec.ofNat 32 (p.wordAt 4) &&& (Reg.access .CNT_SEL).rw) u n
    let s := if p.wordAt 8 = 0 then s else s.setReg .CNT_ADDR_LO (BitVec.ofNat 32 (p.wordAt 8)) u
    let s := if p.wordAt 12 = 0 then s else s.setReg .CNT_ADDR_HI (BitVec.ofNat 32 (p.wordAt 12)) u
    let s := if bitOf (p.byte 3) 1 then s.setCnt .CNT_VAL 0 u n else s
    (okWith, s.putBit .CNT_BANK_CTL n (bitOf (p.byte 3) 0) u)

/-- CNT_LIST_SET (R141). -/
def execCntListSet (e : Fin 256) (s : State) : Outcome State Fault Refusal := .next (s.runCmd e 0x13 0x01 cmdCntListSet)

/-- CNT_LIST_RUN (R141). -/
def execCntListRun (e : Fin 256) (s : State) : Outcome State Fault Refusal := .next (s.runCmd e 0x13 0x02 cmdCntListRun)

/-- CNT_BANK_SET (R141). -/
def execCntBankSet (e : Fin 256) (s : State) : Outcome State Fault Refusal := .next (s.runCmd e 0x13 0x03 cmdCntBankSet)

end Sys2Proof.Machine
end

