-- ==== Sys2Proof/Machine/Mbx.lean ====
section
/-!
DEFINITION. Sys2Proof/Machine/Mbx.lean: the mailbox (R329–R336) and the commands of class 0x0E (R327, R349).
-/

namespace Sys2Proof.Machine

open Host

/-! ## Eyelets (R329–R331) -/

/-- The code of an eyelet's state. -/
def eyeletCode (st : EyeletSt) : Nat :=
  match st with
  | .free => 0
  | .submitted => 1
  | .running => 2
  | .posting => 3

/-- Change an eyelet; MBX_EYELET_STATE and OUTSTANDING show it. -/
def State.putEyelet (s : State) (e : Nat) (v : Eyelet) : State :=
  let s := s.setEyelet e v
  let s := s.put ⟨.MBX_EYELET_STATE, 2 * (e % 16), 2⟩ (eyeletCode v.st) 0 (e / 16)
  s.put MBX_STAT.OUTSTANDING (s.mbx.eyelets.filter (fun p => p.2.st != .free)).length

/-- The address of an eyelet's memory. -/
def eyeletAddr (e : Nat) : Nat := 0x4022000 + 32 * e

/-- A doorbell that is rejected. -/
def State.rejectBell (s : State) (m : Master) (e reason : Nat) : State :=
  let s := s.setReg .MBX_DB_REJ_INFO (BitVec.ofNat 32 (e + srcId m * 256 + reason * 2 ^ 16 + 2 ^ 31))
  let s := (s.raise MBX_CAUSE.DB_REJECT).inc .MBX_DB_REJ_CNT
  s.logRate 0 0x0E03 sevInfo e (srcId m) reason

/-- Ring an eyelet (R330): accepted while READY is set and the eyelet is FREE, its descriptor is copied. A descriptor that
reads uncorrectable completes with 0x0431 (R365). -/
def State.ringBell (s : State) (m : Master) (e : Nat) : State :=
  if s.flag MBX_STAT.READY = false then s.rejectBell m e 1
  else if (s.eyelet e).st ≠ .free then s.rejectBell m e 2
  else
    let (ws, s) := s.readWords ((List.range 4).map (fun i => eyeletAddr e + 8 * i))
    let bits := (ws.getD []).foldr (fun w (x : Nat) => w.toNat + x * 2 ^ 64) 0
    let n := s.mbx.accepted
    let y : Eyelet := { st := .submitted, desc := BitVec.ofNat 256 bits, serial := n, accepted := s.now,
                        started := ws.isNone, reply := if ws.isNone then some ⟨0x0431, 0, 0⟩ else none }
    { s with mbx := { s.mbx with accepted := n + 1, queue := s.mbx.queue ++ [e] } }.putEyelet e y

/-- The greatest command number of a class; 0 where the class has no commands (R350). -/
def lastCommand (cls : Nat) : Nat :=
  match cls with
  | 0x01 => 5
  | 0x02 => 4
  | 0x03 => 3
  | 0x05 => 3
  | 0x06 => 7
  | 0x07 => 3
  | 0x08 => 5
  | 0x09 => 6
  | 0x0A => 12
  | 0x0B | 0x0C => 7
  | 0x0D => 11
  | 0x0E => 5
  | 0x0F => 12
  | 0x11 => 9
  | 0x12 => 4
  | 0x13 => 3
  | 0x15 => 10
  | _ => 0

/-- What the check of a descriptor answers: 0x0105, 0x0104, or nothing (R329). -/
def descRefusal (d : BitVec 256) : Option Nat :=
  let b := descByte d
  if b 5 ≠ 1 ∨ 1 < b 6 ∨ b 7 ≠ 0 ∨ 1 < b 4 then some 0x0105
  else if b 3 = 0 ∨ lastCommand (b 2) < b 3 then some 0x0104
  else none

/-- COMMAND_BEGIN (R332): the oldest accepted command begins, and its descriptor is checked. -/
def execCommandBegin (s : State) : Outcome State Fault Refusal :=
  .next (if s.aqiqueRuns then
    match s.mbx.queue with
    | [] => s
    | e :: rest =>
      let s := { s with mbx := { s.mbx with queue := rest } }
      let y := s.eyelet e
      let s := s.putEyelet e { y with st := .running }
      match y.reply, descRefusal y.desc with
      | none, some c => s.setEyelet e { y with st := .running, started := true, reply := some ⟨c, 0, 0⟩ }
      | _, _ => s
  else s)

/-! ## Completions (R333, R334) -/

/-- The ring a completion goes to. -/
def ringOf (y : Eyelet) : Nat := if descByte y.desc 6 = 1 then 1 else 0

/-- The number of unconsumed entries of a ring. -/
def State.ringUsed (s : State) (r : Nat) : Nat :=
  (s.fld MBX_CR_PROD_PTR.INDEX 0 r + 256 - s.fld MBX_CR_CONS_PTR.INDEX 0 r) % 256

/-- The two words of a completion entry. -/
def entryWords (e : Nat) (y : Eyelet) (r : Reply) (phase : Nat) : W64 × W64 :=
  let b := descByte y.desc
  (BitVec.ofNat 64 (b 0 + b 1 * 2 ^ 8 + e * 2 ^ 16 + phase * 2 ^ 24 + r.status % 2 ^ 16 * 2 ^ 32 + b 2 * 2 ^ 48 + b 3 * 2 ^ 56),
   BitVec.ofNat 64 (r.r0 % 2 ^ 32 + r.r1 % 2 ^ 32 * 2 ^ 32))

/-- FW_ACTIVATE's RESET_NOW: the reset follows 100 ms after its completion is posted (R342). -/
def State.armReset (s : State) (serial : Nat) : State :=
  match s.pwr.resetDue with
  | some d =>
    if d.due = none ∧ d.serial = serial then
      { s with pwr := { s.pwr with resetDue := some { d with due := some (s.now + 100000) } } }
    else s
  | none => s

/-- Write an eyelet's completion entry to its ring, which has room; the eyelet is FREE. -/
def State.postEntry (s : State) (e : Nat) : State :=
  let y := s.eyelet e
  let r := ringOf y
  let i := s.fld MBX_CR_PROD_PTR.INDEX 0 r
  let phase := s.fld MBX_CR_PROD_PTR.PHASE 0 r
  let (w0, w1) := entryWords e y (y.reply.getD {}) phase
  let a := 0x4024000 + 0x1000 * r + 16 * i
  let s := (s.writeWord (a + 8) w1).writeWord a w0
  let s := (s.put MBX_CR_PROD_PTR.INDEX (i + 1) 0 r).put MBX_CR_PROD_PTR.PHASE (if i = 255 then 1 - phase else phase) 0 r
  let s := if descByte y.desc 4 % 2 = 1 then s.raise (if r = 0 then MBX_CAUSE.DONE_0 else MBX_CAUSE.DONE_1) else s
  (s.putEyelet e {}).armReset y.serial

/-- The completions that wait for a ring, oldest first. -/
def State.ringWait (s : State) (r : Nat) : List Nat := if r = 0 then s.mbx.wait0 else s.mbx.wait1

/-- Change the completions that wait for a ring, and whether it is in a period of fullness. -/
def State.setRing (s : State) (r : Nat) (w : List Nat) (full : Bool) : State :=
  { s with mbx := if r = 0 then { s.mbx with wait0 := w, full0 := full } else { s.mbx with wait1 := w, full1 := full } }

/-- Whether a ring is in a period of fullness. -/
def State.ringFull (s : State) (r : Nat) : Bool := if r = 0 then s.mbx.full0 else s.mbx.full1

/-- COMPLETION_POST (R333, R334): an eyelet whose handler has finished posts its entry, or waits for room behind the
completions that wait already. -/
def execCompletionPost (e : Fin 256) (s : State) : Outcome State Fault Refusal :=
  .next (
    let y := s.eyelet e
    if s.aqiqueRuns ∧ y.st = .running ∧ y.reply.isSome then
      let r := ringOf y
      if s.ringWait r = [] ∧ s.ringUsed r < 255 then s.postEntry e
      else
        let s := (s.putEyelet e { y with st := .posting }).raise MBX_CAUSE.RING_FULL
        let s := if s.ringFull r then s else s.log 0x0E02 sevWarn r
        s.setRing r (s.ringWait r ++ [e.val]) true
    else s)

/-- Waiting completions are posted, oldest first, while there is room; a period of fullness ends with none waiting and
room for one. -/
def State.drainRing : Nat → State → Nat → State
  | 0, s, _ => s
  | n + 1, s, r =>
    match s.ringWait r with
    | [] => if s.ringUsed r < 255 then s.setRing r [] false else s
    | e :: rest =>
      if s.ringUsed r < 255 then State.drainRing n ((s.setRing r rest (s.ringFull r)).postEntry e) r else s

/-- A write of MBX_CR_CONS_PTR_r (R333): one that would pass the producer is ignored. -/
def State.consumerWrite (s : State) (r : Nat) (data : W32) : State :=
  let i := getBits data 0 8
  let cons := s.fld MBX_CR_CONS_PTR.INDEX 0 r
  if s.ringUsed r < (i + 256 - cons) % 256 then s.raise MBX_CAUSE.CONS_ERR
  else
    let s := s.put MBX_CR_CONS_PTR.INDEX i 0 r
    if s.aqiqueRuns then s.drainRing 257 r else s

/-- CMD_TIMEOUT (R335): a command whose handler has not finished 2 s after acceptance. -/
def execCmdTimeout (e : Fin 256) (s : State) : Outcome State Fault Refusal :=
  .next (
    let y := s.eyelet e
    if (y.st = .submitted ∨ y.st = .running) ∧ y.reply = none ∧ 2000000 ≤ s.now - y.accepted then
      let s := { s with mbx := { s.mbx with queue := s.mbx.queue.filter (fun x => x != e.val) } }
      let s := s.putEyelet e { y with st := .running, started := true, reply := some ⟨0x0604, 0, 0⟩ }
      let b := descByte y.desc
      ((s.inc .MBX_TIMEOUT_CNT).raise MBX_CAUSE.TIMEOUT).log 0x0E01 sevWarn e (b 2 * 256 + b 3) (b 0 + b 1 * 256)
    else s)

/-! ## Commands of class 0x0E (R349) -/

/-- MBX_VERSION. -/
def cmdMbxVersion : Handler := fun p _ s =>
  if p.zeroFrom 0 = false then (fieldRange, s)
  else
    let slot := s.fld SEC_STAT.SLOT
    (okWith (s.fwSlot slot).version (s.fld SEC_STAT.RUN_SVN + slot * 256 + s.fld SEC_STAT.TRIAL * 512 + 0x0502 * 2 ^ 16), s)

/-- MBX_ECHO. -/
def cmdMbxEcho : Handler := fun p _ s =>
  if p.zeroFrom 8 then (okWith (p.wordAt 0) (p.wordAt 4), s) else (fieldRange, s)

/-- The regions that no window may overlap (R327), as first and last byte. -/
def deniedRegions : List (Nat × Nat) :=
  [(0, 0x1FFFF), (0x2000000, 0x27FFFFF), (0x4000000, 0x400FFFF), (0x4080000, 0x408FFFF), (0x4090000, 0x409FFFF),
   (0x40A0000, 0x40AFFFF), (0x4030000, 0x403FFFF), (0x1000000, 0x11FFFFF)]

/-- HIF_WIN_OPEN (R326, R327). -/
def cmdWinOpen : Handler := fun p _ s =>
  let w := p.byte 0
  let base := p.wordAt 4
  let limit := p.wordAt 8
  if w < 4 ∨ 7 < w ∨ 3 < p.byte 1 ∨ p.half 2 ≠ 0 ∨ p.zeroFrom 12 = false ∨ limit < base ∨ base % 8 ≠ 0 ∨ limit % 8 ≠ 0 then
    (fieldRange, s)
  else if deniedRegions.any (fun r => decide (base ≤ r.2) && decide (r.1 ≤ limit + 7)) then (failWith 0x0507, s)
  else (okWith, (s.openWindow w base limit (1 + 2 * p.byte 1)).log 0x0E05 sevInfo w base limit (p.byte 1))

/-- HIF_WIN_CLOSE. -/
def cmdWinClose : Handler := fun p _ s =>
  if p.byte 0 < 4 ∨ 7 < p.byte 0 ∨ p.zeroFrom 1 = false then (fieldRange, s) else (okWith, s.closeWindow (p.byte 0))

/-- CMIS_CTL. -/
def cmdCmisCtl : Handler := fun p _ s =>
  if 1 < p.byte 0 ∨ p.zeroFrom 1 = false then (fieldRange, s) else (okWith, s.put HIF_STAT.DP_CONTROL (p.byte 0))

/-- MBX_VERSION (R349). -/
def execMbxVersion (e : Fin 256) (s : State) : Outcome State Fault Refusal := .next (s.runCmd e 0x0E 0x01 cmdMbxVersion)

/-- MBX_ECHO (R349). -/
def execMbxEcho (e : Fin 256) (s : State) : Outcome State Fault Refusal := .next (s.runCmd e 0x0E 0x02 cmdMbxEcho)

/-- HIF_WIN_OPEN (R327). -/
def execHifWinOpen (e : Fin 256) (s : State) : Outcome State Fault Refusal := .next (s.runCmd e 0x0E 0x03 cmdWinOpen)

/-- HIF_WIN_CLOSE (R349). -/
def execHifWinClose (e : Fin 256) (s : State) : Outcome State Fault Refusal := .next (s.runCmd e 0x0E 0x04 cmdWinClose)

/-- CMIS_CTL (R349). -/
def execCmisCtl (e : Fin 256) (s : State) : Outcome State Fault Refusal := .next (s.runCmd e 0x0E 0x05 cmdCmisCtl)

end Sys2Proof.Machine
end

