-- ==== Sys2Proof/Machine/RegRead.lean ====
section
/-!
DEFINITION. Sys2Proof/Machine/RegRead.lean: reads over the bus: registers as they read (R5–R9), the registers that
show live values, snapshots, queues and memories.
-/

namespace Sys2Proof.Machine

/-! ## Wide quantities -/

/-- Whether a register is a 48-bit counter (R135). -/
def isCounter (r : Reg) : Bool :=
  match r with
  | .WELT_CORR_CNT | .WELT_REPLAY_CNT | .LRX_SIG_LOSS_CNT | .LRX_CDR_UNLOCK_CNT | .LRX_CAL_ABORT_CNT
  | .LTX_CLIP_CNT | .LTX_CAL_ABORT_CNT | .LTX_LB_SLIP_CNT | .LTX_CHK_ERR_CNT | .LTX_CHK_SYM_CNT | .RACK_CYC_CNT
  | .RACK_DUTY_GATED_CNT | .RACK_BANK_CONF_CNT | .RACK_BUS_WAIT_CNT | .RACK_SLOT_RET_CNT | .RACK_SLOT_WASTE_CNT
  | .RACK_SLOT_FRONT_CNT | .RACK_SLOT_BACK_CNT | .RACK_YIELD_CNT | .RACK_TW_OVR_CNT | .CNT_VAL | .FEC_LCW_CNT
  | .FEC_LCW_CORR_CNT | .FEC_LCW_UNCORR_CNT | .FEC_LSYM_CORR_CNT | .FEC_LCW_HIST_CNT | .FEC_LL_SYM_CNT
  | .FEC_INNER_CORR_CNT | .FEC_INNER_UNCORR_CNT | .FEC_AM_LOSS_CNT | .FEC_HCW_CNT | .FEC_HCW_CORR_CNT
  | .FEC_HCW_UNCORR_CNT | .FEC_HSYM_CORR_CNT | .FEC_HL_SYM_CNT | .FEC_SKEW_OVER_CNT | .FEC_SLIP_CNT
  | .FEC_WAKE_DROP_CNT | .FEC_RA_ADJ_CNT | .FEC_FRAME_CNT | .FEC_FCS_ERR_CNT | .HL_SIG_LOSS_CNT
  | .HL_CDR_UNLOCK_CNT | .HL_CHK_ERR_CNT | .HL_CHK_SYM_CNT | .HL_LB_SLIP_CNT | .HL_WAKE_CNT | .INS_TX_FRAME_CNT
  | .INS_RX_FRAME_CNT | .INS_CRC_ERR_CNT | .INS_HDR_ERR_CNT | .INS_SYNC_CAPTURED_CNT | .INS_LOCK_LOSS_CNT
  | .INS_MSG_RETX_CNT | .INS_MSG_FAIL_CNT | .INS_RX_DROP_CNT | .TIME_ALIGN_LOSS_CNT | .TIME_STEP_CNT
  | .TIME_TODRX_ERR_CNT | .TIME_CORR_CNT | .TIME_CTX_ALLOC_CNT | .TIME_CTX_EXPIRE_CNT | .TIME_CTX_EVICT_CNT
  | .TIME_ORPHAN_CNT | .TIME_DISCARD_CNT | .TIME_RES_CHECK_CNT | .TIME_CF_SAT_CNT | .MON_SKIP_CNT
  | .MON_CHK_FAIL_CNT | .MBX_TIMEOUT_CNT | .MBX_DB_REJ_CNT | .HIF_ACCESS_CNT | .HIF_SPI_OVR_CNT
  | .SEC_AUTH_FAIL_CNT | .MEM_CORR_CNT | .MEM_UNCORR_CNT | .EVR_DROP_CNT | .PWR_FASTOFF_CNT | .PWR_RETRY_CNT
  | .THM_THROT_CNT => true
  | _ => false

/-- How many 32-bit words a register has. -/
def Reg.words (r : Reg) : Nat :=
  match r with
  | .CNT_RD_T_FIRST | .CNT_RD_T_LAST | .CNT_RES | .TGT_LOOP_INTEG | .MON_OD_RES | .MON_CH_VAL | .SEC_UID
  | .EVR_BAD_SEG | .PWR_LIFE | .PWR_ONTIME => 2
  | .INS_TX_TS | .INS_RX_TS | .TIME_TOD | .TIME_PPS_IN_TS => 3
  | .RACK_TAG_REC | .TIME_TSQ_ENTRY | .SEC_DBG_NONCE => 4
  | .EVR_WIN | .EVR_EMG => 8
  | _ => if isCounter r then 2 else 1

/-- Word `n` of a wide quantity. -/
def wideWord (x : Wide) (n : Nat) : W32 := x.extractLsb' (32 * n) 32

/-- A counter of a port's shadow bank (R164), or a wide quantity as it stands. -/
def State.wideNow (s : State) (k : RKey) (shadow : Bool) : Wide :=
  if isCounter k.reg then
    (if shadow then lookup 0 k s.shadow else s.cnt k.reg k.u k.i).setWidth 256
  else
    match k.reg with
    | .TIME_TOD => BitVec.ofNat 256 (todBits (s.clock k.u).acc)
    | .SEC_UID => Config.uid.setWidth 256
    | r => s.wide r k.u k.i

/-! ## Registers that show what is elsewhere -/

/-- Whether an enabled cause of a unit is set. -/
def State.pends (s : State) (cause en : Reg) (u : Nat := 0) : Bool := (s.reg cause u &&& s.reg en u) != 0

/-- Whether a subsystem is pending on MGMT (R3, R37, R328). -/
def State.localPends (s : State) (n : Nat) : Bool :=
  match n with
  | 0x01 => s.pends .PWR_CAUSE .PWR_EN
  | 0x02 => s.pends .THM_CAUSE .THM_EN
  | 0x03 => s.pends .MEM_CAUSE .MEM_EN
  | 0x0B => s.pends .TGT_CAUSE .TGT_EN
  | 0x0C => s.pends .CDAC_CAUSE .CDAC_EN
  | 0x0D => s.pends .MON_CAUSE .MON_EN
  | 0x0E => s.pends .MBX_CAUSE .MBX_EN || s.pends .HIF_CAUSE .HIF_EN
  | 0x0F => s.pends .SEC_CAUSE .SEC_EN
  | 0x12 => s.pends .EVR_CAUSE .EVR_EN
  | 0x13 => s.pends .CNT_CAUSE .CNT_EN
  | 0x14 => s.pends .CLK_CAUSE .CLK_EN
  | _ => false

/-- MGMT_IRQ_LOCAL. -/
def State.irqLocal (s : State) : W32 := BitVec.ofNat 32 (bitsWhere s.localPends 22)

/-- MGMT_IRQ_TOP (R37). -/
def State.irqTop (s : State) : W32 := s.irqLocal ||| s.reg .MGMT_IRQ_CORE_A ||| s.reg .MGMT_IRQ_CORE_B

/-- Whether INT_N is asserted (R37). -/
def State.intN (s : State) : Bool := (s.irqTop &&& s.reg .MGMT_IRQ_TOP_EN) != 0

/-- Whether a subsystem is pending on a core die: the OR of its enabled cause bits there. -/
def State.corePends (s : State) (d n : Nat) : Bool :=
  match n with
  | 0x03 => s.pends .MEM_CAUSE .MEM_EN d
  | 0x04 => (List.range' (4 * (d - 1)) 4).any (fun k => s.pends .LRX_CAUSE .LRX_EN k)
  | 0x05 => (List.range' (4 * (d - 1)) 4).any (fun k => s.pends .LTX_CAUSE .LTX_EN k)
  | 0x06 => (List.range' (32 * (d - 1)) 32).any (fun r => s.pends .RACK_CAUSE .RACK_EN r)
  | 0x07 => s.pends .FEC_CAUSE .FEC_EN d
  | 0x08 => (List.range' (8 * (d - 1)) 8).any (fun j => s.pends .HL_CAUSE .HL_EN j)
  | 0x09 => s.pends .INS_CAUSE .INS_IRQ_EN d
  | 0x0A => s.pends .TIME_CAUSE .TIME_EN d
  | 0x10 => s.pends .WELT_CAUSE .WELT_EN d
  | 0x11 => s.pends .CAL_CAUSE .CAL_EN d
  | 0x13 => s.pends .CNT_DIE_CAUSE .CNT_DIE_EN d
  | 0x14 => s.pends .CLK_CAUSE .CLK_EN d
  | _ => false

/-- RACK_LAST_PC_l. -/
def State.lastPc (s : State) (r l : Nat) : W32 :=
  let y := s.last r l
  BitVec.ofNat 32 (y.pc.toNat + 0x10000 * b2n (!y.super) + 0x20000 * b2n y.yielding + 0x40000 * b2n (s.lastHalted r l))

/-- The unit number of a register as a master sees it: the recorder's cursor registers are one set per master (R386). -/
def masterUnit (m : Master) (k : RKey) : Nat :=
  match k.reg with
  | .EVR_CURSOR | .EVR_WIN_CTL | .EVR_WIN_STAT => srcId m
  | _ => k.u

/-- A 32-bit register as a master reads it. -/
def State.regNow (s : State) (m : Master) (k : RKey) : W32 :=
  match k.reg with
  | .MGMT_IRQ_TOP => s.irqTop
  | .MGMT_IRQ_LOCAL => s.irqLocal
  | .MGMT_IRQ_INTN => BitVec.ofNat 32 (b2n s.intN)
  | .RACK_LAST_PC => s.lastPc k.u k.i
  | .LRX_SNR => if s.flag LRX_STAT.CDR_LOCK k.u then s.reg .LRX_SNR k.u else 0
  | .HL_CFG => setBits (s.reg .HL_CFG k.u) HL_CFG.DOZE_OK.lo 1 (b2n (s.dozeOk k.u))
  | .PWR_AVS_V0 => Config.avsV0.setWidth 32
  | .PWR_WEAR_VAL => BitVec.ofNat 32 (s.wearVal (s.fld PWR_WEAR_SEL.ISLAND))
  | .MON_CH_STAT => s.chStat k.i
  | .MON_OD_REQ => s.odRead (srcId m)
  | r => s.reg r (masterUnit m k) k.i

/-! ## Snapshots and queues (R8–R10, R386) -/

/-- A master's snapshot of a wide quantity, or of a shadow counter; 0 where it has never read the lowest word. -/
def State.snap (s : State) (m : Master) (k : RKey) (shadow : Bool) : Wide :=
  match s.snaps.find? (fun x => x.master == m && x.key == k && x.shadow == shadow) with
  | some x => x.words
  | none => 0

/-- Latch a master's snapshot. -/
def State.setSnap (s : State) (m : Master) (k : RKey) (shadow : Bool) (w : Wide) : State :=
  { s with snaps := ⟨m, k, shadow, w⟩ :: s.snaps.filter (fun x => !(x.master == m && x.key == k && x.shadow == shadow)) }

/-- Take the oldest entry of a queue register; 0 from an empty queue. -/
def State.takeEntry (s : State) (k : RKey) : Wide × State :=
  if k.reg = .RACK_TAG_REC then
    let q := s.rackOf k.u
    (q.tags.headD 0, (s.setRack k.u { q with tags := q.tags.drop 1 }).put RACK_TAG_STAT.COUNT (q.tags.length - 1) k.u)
  else
    let q := s.time.tsq.getD k.u []
    (q.headD 0, ({ s with time := { s.time with tsq := s.time.tsq.set k.u (q.drop 1) } }).put TIME_TSQ_STAT.COUNT
      (q.length - 1) k.u)

/-- Whether a register is a queue register (R9). -/
def isQueue (r : Reg) : Bool := r = .RACK_TAG_REC || r = .TIME_TSQ_ENTRY

/-- What a read of the lowest word of a wide quantity latches. -/
def State.lowLatch (s : State) (m : Master) (k : RKey) (shadow : Bool) : Wide × State :=
  if isQueue k.reg then s.takeEntry k
  else if k.reg = .EVR_WIN then s.winLatch m
  else (s.wideNow k shadow, s)

/-- A 32-bit read of word `n` of a wide quantity. -/
def State.readWide (s : State) (m : Master) (k : RKey) (n : Nat) (shadow : Bool) : W32 × State :=
  if n = 0 then
    let (w, s) := s.lowLatch m k shadow
    (wideWord w 0, s.setSnap m k shadow w)
  else (wideWord (s.snap m k shadow) n, s)

/-- A READ64 of the two lowest words of a wide quantity: its words as they stand, without a snapshot, but for a queue
register, whose oldest entry it takes (R9, R140). -/
def State.readLow64 (s : State) (m : Master) (k : RKey) (shadow : Bool) : W64 × State :=
  let both (w : Wide) : W64 := wideWord w 1 ++ wideWord w 0
  if isQueue k.reg then
    let (w, s) := s.takeEntry k
    (both w, s.setSnap m k shadow w)
  else if k.reg = .EVR_WIN then
    let (_, w, s) := s.evrLatch (s.reg .EVR_CURSOR (srcId m)).toNat
    (both w, s)
  else (both (s.wideNow k shadow), s)

/-! ## Registers -/

/-- Whether an offset of a FEC block lies in a port's shadow bank (R164), and the offset of the live register there. -/
def shadowOff (b : Block) (off : Nat) : Bool × Nat :=
  match b with
  | .fec _ =>
    if 0x1000 ≤ off ∧ off < 0x5000 ∧ 0x800 ≤ off % 0x1000 then (true, off - 0x800) else (false, off)
  | _ => (false, off)

/-- The register at an offset of a block, its word, and whether it is a shadow counter. -/
def busReg (b : Block) (off : Nat) : Option (RKey × Nat × Bool) :=
  let (sh, o) := shadowOff b off
  match b.regAt o with
  | some (k, n) => if sh ∧ isCounter k.reg = false then none else some (k, n, sh)
  | none => none

/-- A 32-bit register read (R7): WO bits read 0, RC bits clear once read. Reserved offsets read 0 (R6). -/
def State.readReg (s : State) (m : Master) (b : Block) (off : Nat) : W32 × State :=
  match busReg b off with
  | none => (0, s)
  | some (k, n, sh) =>
    if k.reg.words = 1 then
      let v := s.regNow m k &&& ~~~ k.reg.access.wo
      let rc := k.reg.access.rc
      (v, if rc = 0 then s else s.setReg k.reg (s.reg k.reg k.u k.i &&& ~~~ rc) k.u k.i)
    else s.readWide m k n sh

/-- One half of a READ64 whose address is not the lowest word of a wide quantity: an upper word comes from the snapshot, a
lowest word as it stands and without a latch, since no READ64 but that of a queue register changes a snapshot (R9). -/
def State.readHalf (s : State) (m : Master) (b : Block) (off : Nat) : W32 × State :=
  match busReg b off with
  | some (k, 0, sh) => if k.reg.words = 1 then s.readReg m b off else (wideWord (s.wideNow k sh) 0, s)
  | some (k, n, sh) => (wideWord (s.snap m k sh) n, s)
  | none => (0, s)

/-- A READ64 of registers (R5): the two words at its address and at its address + 4, at one instant. -/
def State.readReg64 (s : State) (m : Master) (b : Block) (off : Nat) : W64 × State :=
  match busReg b off with
  | some (k, 0, sh) =>
    if k.reg.words = 1 then
      let (lo, s) := s.readHalf m b off
      let (hi, s) := s.readHalf m b (off + 4)
      (hi ++ lo, s)
    else s.readLow64 m k sh
  | _ =>
    let (lo, s) := s.readHalf m b off
    let (hi, s) := s.readHalf m b (off + 4)
    (hi ++ lo, s)

/-! ## Memories (R5, R21, R134, R160) -/

/-- How the locations of a memory or window are read: 64-bit words, or locations of 4 bytes that are one native word
each. -/
inductive MemKind where
  | words | locs
  deriving DecidableEq, Repr

/-- Whether an offset of a block lies in one of its memories or memory windows. -/
def memKind (b : Block) (off : Nat) : Option MemKind :=
  match b with
  | .rom | .sram | .mram | .pool _ => some .words
  | .mbx => if 0x2000 ≤ off ∧ off < 0x6000 then some .words else none
  | .ins _ => if 0x8000 ≤ off ∧ off < 0xC000 then some .words else none
  | .rack _ =>
    if off < 0x10000 then none
    else if off < 0x20000 then some .words
    else if off < 0x32000 then some .locs
    else none
  | .line _ => if 0x4000 ≤ off ∧ off < 0x4400 then some .locs else none
  | .host _ => if 0x1000 ≤ off ∧ off < 0x1100 then some .locs else none
  | _ => none

/-- A read of a 64-bit memory word by a master. The boot ROM is no protected memory. -/
def State.readMem (s : State) (m : Master) (b : Block) (a : Nat) : Option W64 × State :=
  if b = .rom then (some (dataOf (s.word a)), s) else s.readWord a (srcId m) kindRead

/-- The data of a 32-bit read of a memory. -/
def State.readMem32 (s : State) (m : Master) (b : Block) (k : MemKind) (a : Nat) : Option W32 × State :=
  match k with
  | .locs =>
    let (x, s) := s.readMem m b (a / 4 * 4)
    (x.map (fun d => d.extractLsb' 0 32), s)
  | .words =>
    let (x, s) := s.readMem m b (a / 8 * 8)
    (x.map (fun d => d.extractLsb' (8 * (a % 8)) 32), s)

/-- The data of a 64-bit read of a memory. -/
def State.readMem64 (s : State) (m : Master) (b : Block) (k : MemKind) (a : Nat) : Option W64 × State :=
  match k with
  | .words => s.readMem m b a
  | .locs =>
    let (x, s) := s.readMem32 m b k a
    let (y, s) := s.readMem32 m b k (a + 4)
    match x, y with
    | some lo, some hi => (some (hi ++ lo), s)
    | _, _ => (none, s)

end Sys2Proof.Machine
end

