-- ==== Sys2Proof/Machine/RegWrite.lean ====
section
/-!
DEFINITION. Sys2Proof/Machine/RegWrite.lean: writes over the bus: which writes a host may make (R325), register writes by
access code (R6, R7) and memory writes by the rules of each memory (R134, R160, R213, R331, R333, R355, R356).
-/

namespace Sys2Proof.Machine

/-! ## Permission (R325, R326) -/

/-- Whether a master is a host interface. -/
def isHost (m : Master) : Bool := m = .spi || m = .i2c

/-- Whether a register is an interrupt enable paired with a cause register. -/
def isEnable (r : Reg) : Bool :=
  match r with
  | .CLK_EN | .WELT_EN | .LRX_EN | .LTX_EN | .RACK_EN | .CNT_EN | .FEC_EN | .HL_EN | .INS_IRQ_EN | .TIME_EN | .TGT_EN
  | .CDAC_EN | .MON_EN | .MBX_EN | .HIF_EN | .SEC_EN | .MEM_EN | .EVR_EN | .PWR_EN | .THM_EN | .CNT_DIE_EN | .CAL_EN => true
  | _ => false

/-- What a host write may reach: nothing, the W1C bits of a register, or all of it. -/
inductive Perm where
  | no | w1c | full
  deriving DecidableEq, Repr

/-- Whether the mailbox refuses a write to its memory: a ring to any master but the cobbler (and the debug master, which
has its permissions), an eyelet that is not FREE to all. -/
def State.mbxRefuses (s : State) (m : Master) (off : Nat) : Bool :=
  if 0x4000 ≤ off ∧ off < 0x6000 then m != .cobbler && m != .jtag
  else if 0x2000 ≤ off ∧ off < 0x4000 then (s.eyelet ((off - 0x2000) / 32)).st != .free
  else false

/-- The permission of a register to a host that has no window on it. -/
def State.regPerm (s : State) (r : Reg) : Perm :=
  if isEnable r ∨ r = .EVR_CURSOR ∨ r = .EVR_WIN_CTL ∨ r = .MON_OD_REQ then .full
  else if (r = .SEC_RECOVERY_LEN ∨ r = .SEC_RECOVERY_CTL) ∧ s.flag SEC_STAT.RECOVERY then .full
  else if r.access.w1c ≠ 0 then .w1c
  else .no

/-- The permission of a write of a host master to an address. -/
def State.hostPerm (s : State) (m : Master) (a : Nat) : Perm :=
  let opened := s.windowOpen m a || s.recoveryOpen a
  match blockAt a with
  | none => if opened then .full else .no
  | some (b, off) =>
    if b = .mbx ∧ s.mbxRefuses m off then .no
    else if opened ∨ b = .mbx ∨ b = .irq then .full
    else
      match busReg b off with
      | some (k, _, _) => s.regPerm k.reg
      | none => .no

/-! ## Registers (R6, R7) -/

/-- The access codes of one instance of a register: bits [7:2] of CLK_CAUSE and CLK_EN are reserved on MGMT (R17). -/
def RKey.access (k : RKey) : Access :=
  let c := k.reg.access
  if k.u = 0 ∧ (k.reg = .CLK_CAUSE ∨ k.reg = .CLK_EN) then { c with rw := c.rw &&& 0x103, w1c := c.w1c &&& 0x103 } else c

/-- A write by the RW and W1C codes of a register's bits; `full` is false where only W1C bits may act. -/
def State.writePlain (s : State) (m : Master) (k : RKey) (data : W32) (full : Bool) : State :=
  let c := k.access
  let u := masterUnit m k
  let rw := if full then c.rw else 0
  let old := s.reg k.reg u k.i
  s.setReg k.reg (((old &&& ~~~ rw) ||| (data &&& rw)) &&& ~~~ (data &&& c.w1c)) u k.i

/-- Whether a register of the control-law engine is RWL by the loop's mode (R269). -/
def isLoopRwl (r : Reg) : Bool :=
  match r with
  | .TGT_LOOP_CFG | .TGT_LOOP_TIME | .TGT_LOOP_SHIFT | .TGT_LOOP_KP | .TGT_LOOP_KI | .TGT_LOOP_KD | .TGT_LOOP_KF
  | .TGT_LOOP_OUTLIM | .TGT_LOOP_FBMIN | .TGT_LOOP_FBMAX | .TGT_LOOP_SPMIN | .TGT_LOOP_SPMAX | .TGT_LOOP_RAMP => true
  | _ => false

/-- HIF_STAT.WIN_EN shows the windows (R326). -/
def State.refreshWindows (s : State) : State :=
  s.put HIF_STAT.WIN_EN (bitsWhere (fun w => s.flag HIF_WIN_BASE.EN 0 w) 8)

/-- A write of the recovery registers (R341): RWL, in recovery only. `fail` is the outcome of the read-back that GO leads to;
none where the command does not say, and then it is open. -/
def State.recoveryWrite (s : State) (k : RKey) (data : W32) (fail : Option Bool) : State :=
  if s.flag SEC_STAT.RECOVERY = false then s.raise SEC_CAUSE.LOCK
  else if k.reg = .SEC_RECOVERY_LEN then s.setReg .SEC_RECOVERY_LEN (data &&& k.reg.access.rwl)
  else if getBits data 0 1 = 0 then s
  else
    match fail with
    | some f => s.recoveryGo f
    | none => let (x, s) := s.free; s.recoveryGo (x % 2 == 1)

/-- A write of WELT_CTL (R22, R31). -/
def State.weltCtlWrite (s : State) (d : Nat) (data : W32) : State :=
  let s := s.weltAbEn d (getBits data 0 1 == 1)
  let s := if getBits data 1 1 = 1 then s.weltRetrain d 0 else s
  if getBits data 2 1 = 1 then s.weltRetrain d 1 else s

/-- A write of a register with an effect of its own, by a master that may write all of it; none where the register
follows its access code. -/
def State.writeSpecial (s : State) (m : Master) (k : RKey) (data : W32) (fail : Option Bool) : Option (Resp × State) :=
  let u := k.u
  let i := k.i
  let ok (s : State) : Option (Resp × State) := some (.ok, s)
  match k.reg with
  | .WELT_CTL => ok (s.weltCtlWrite u data)
  | .LRX_AFE_CTL | .LRX_CDR_CTL | .LRX_DET_CTL | .LRX_THR | .LRX_FFE_COEF | .LRX_VNLE_KERN => ok (s.coefWrite u k.reg i data)
  | .LRX_ADC_TTRIM => ok (s.ttrimWrite u i data)
  | .LRX_HIST_CTL =>
    let s := s.writePlain m k data true
    ok (if getBits data 0 1 = 1 then s.histStart u else s)
  | .LTX_CTL => ok (if getBits data 0 1 = 1 then s.commit u else s)
  | .LTX_TEST_CTL => ok (s.testCtlWrite u data)
  | .LTX_DAC_TTRIM => ok (s.dacTtrimWrite u i data)
  | .RACK_CTL => ok (s.rackCtlWrite u data)
  | .CNT_BANK_CLR => ok (s.bankClear u (getBits data 0 8))
  | .CNT_RD_CTL => ok (s.readerCtl data)
  | .FEC_STAT_CTL => ok (s.statCtlWrite u data)
  | .FEC_INJ_CTL => ok (s.injCtlWrite u data)
  | .HL_RX_EQ_CTL => ok (s.rxEqWrite u data)
  | .HL_TX_EQ => ok (s.txEqWrite u data)
  | .HL_SLIP => ok (s.slipWrite u data)
  | .HL_CAP_CTL => ok (if getBits data 0 1 = 1 then s.captureStart u else s)
  | .INS_TX_CFG => ok ((s.writePlain m k data true).refreshAmp u)
  | .TIME_PPS_CFG => ok (s.writePlain m k data true).refreshPps
  | .TGT_LOOP_MODE => ok (s.requestMode i { mode := getBits data 0 2 })
  | .TGT_LOOP_SP => ok (s.writeTarget i (signed 24 (getBits data 0 24)))
  | .CDAC_STROBE => ok (s.softStrobe (getBits data 0 4))
  | .CDAC_PEN => ok (s.penWrite data)
  | .CDAC_CFG => ok (s.channelCfgWrite i data)
  | .CDAC_CODE => ok (s.channelCodeWrite i data)
  | .CDAC_LIM | .CDAC_SAFE => ok ((s.writePlain m k data true).refreshDac i)
  | .MON_CTL =>
    let s := s.setRun (getBits data 0 1 == 1)
    ok (if getBits data 1 1 = 1 then (s.slotCommit none).2 else s)
  | .MON_CHK_CTL => ok (s.chkWrite data)
  | .MON_OD_REQ => if 3 < srcId m then some (.access, s) else ok (s.odWrite (srcId m) data)
  | .MON_IN_ZERO | .MON_IN_GAIN => ok (s.monInWrite k.reg i data)
  | .MON_CH_CFG => ok (s.chanWrite i (data &&& k.reg.access.rwl) (s.reg .MON_CH_DEC 0 i))
  | .MON_CH_DEC => ok (s.chanWrite i (s.reg .MON_CH_CFG 0 i) (data &&& k.reg.access.rwl))
  | .MON_CH_CTL => ok (if getBits data 0 1 = 1 then (s.bankCommit i).2 else s)
  | .MON_FIRA => ok (s.tapWrite false i data)
  | .MON_FIRB => ok (s.tapWrite true i data)
  | .MBX_DOORBELL => ok (s.ringBell m (getBits data 0 8))
  | .MBX_CR_CONS_PTR => ok (s.consumerWrite i data)
  | .HIF_WIN_BASE | .HIF_WIN_LIMIT => if isHost m then some (.access, s) else ok (s.writePlain m k data true).refreshWindows
  | .SEC_RECOVERY_LEN | .SEC_RECOVERY_CTL => ok (s.recoveryWrite k data fail)
  | r => if isLoopRwl r then ok (s.loopRegWrite r i data) else none

/-- A 32-bit register write (R7). RO and RS registers and reserved offsets ignore it. -/
def State.writeReg (s : State) (m : Master) (b : Block) (off : Nat) (data : W32) (full : Bool) (fail : Option Bool) :
    Resp × State :=
  match busReg b off with
  | none => (.ok, s)
  | some (k, _, _) =>
    if k.reg.words ≠ 1 then (.ok, s)
    else if full = false then (.ok, s.writePlain m k data false)
    else (s.writeSpecial m k data fail).getD (.ok, s.writePlain m k data true)

/-! ## Memories -/

/-- The byte enables and the data of a write within its 64-bit word. -/
def laneOf (wide : Bool) (a : Nat) (data : W64) (be : Nat) : W64 × Nat :=
  if wide then (data, be)
  else (data <<< (8 * (a % 8)), 0x0F <<< (a % 8))

/-- A write of some or all bytes of a native word (R355, R356). -/
def State.writeCell (s : State) (m : Master) (a : Nat) (wide : Bool) (data : W64) (be : Nat) : Resp × State :=
  let (d, e) := laneOf wide a data be
  let (ok, s) := s.mergeWord (a / 8 * 8) d e (srcId m)
  (if ok then .ok else .dataErr, s)

/-- The data memory of a rack that an offset lies in. -/
def rackSpaceOf (off : Nat) : RackSpace :=
  if 0x30000 ≤ off then .shared
  else
    let l : Fin 8 := Fin.ofNat 8 ((off - 0x20000) / 0x2000)
    if off % 0x2000 < 0x1000 then .x l else .y l

/-- A write of one location of a rack's data memories, in full from bits [23:0] (R134). -/
def State.writeLoc (s : State) (r a : Nat) (data : W32) : State :=
  if s.spaceOpen r (rackSpaceOf (a - (Block.rack r).base)) then s.writeWord a (locWord (data.setWidth 24)) else s.memLock r

/-- A write to a rack's memory windows (R134). A WRITE64 there writes the location of each half it enables. -/
def State.writeRack (s : State) (m : Master) (r off a : Nat) (wide : Bool) (data : W64) (be : Nat) : Resp × State :=
  if off < 0x20000 then
    let w := (off - 0x10000) / 8
    if isHost m then (.access, s)
    else if wide = false then s.progWrite m r w (decide (a % 8 = 4)) (data.setWidth 32)
    else if s.fld RACK_STAT.HALTED r ≠ 0xFF then (.ok, s.memLock r)
    else
      let (x, s) := s.writeCell m a true data be
      (x, s.uncache r w)
  else if wide = false then (.ok, s.writeLoc r a (data.setWidth 32))
  else
    let s := if be % 16 = 0 then s else s.writeLoc r a (data.setWidth 32)
    (.ok, if be / 16 = 0 then s else s.writeLoc r (a + 4) (data.extractLsb' 32 32))

/-- A memory write by the rules of its memory. -/
def State.writeMem (s : State) (m : Master) (b : Block) (off a : Nat) (wide : Bool) (data : W64) (be : Nat) : Resp × State :=
  match b with
  | .rom => (.access, s)
  | .sram | .mram => s.writeCell m a wide data be
  | .pool d => if isHost m ∨ s.granuleOpen d (off / 0x1000) = false then (.access, s) else s.writeCell m a wide data be
  | .mbx => if s.mbxRefuses m off then (.access, s) else s.writeCell m a wide data be
  | .ins d =>
    let o := off - 0x8000
    if s.slotOpen (4 * (d - 1) + o / 0x1000) (decide (0x800 ≤ o % 0x1000)) (o % 0x800 / 0x100) then s.writeCell m a wide data be
    else (.access, s)
  | .rack r => s.writeRack m r off a wide data be
  | _ => (.ok, s)

end Sys2Proof.Machine
end

