-- ==== Sys2Proof/Machine/Bus.lean ====
section
/-!
DEFINITION. Sys2Proof/Machine/Bus.lean: requests over the address map (R5, R12, R20–R36): what serves them, requests that
wait for a control welt, and the rows that are one request.
-/

namespace Sys2Proof.Machine

open Host

/-! ## What serves a request -/

/-- The OP code of an operation (R24). -/
def opCode (op : BusOp) : Nat :=
  match op with
  | .read32 => 0
  | .write32 _ => 1
  | .read64 => 2
  | .write64 _ _ => 3
  | .burst _ => 4
  | .reserved c => c

/-- Whether an operation writes. -/
def isWrite (op : BusOp) : Bool :=
  match op with
  | .write32 _ | .write64 _ _ => true
  | _ => false

/-- The width and alignment rules of R5 that need no target: READ64, WRITE64 and READ_BURST come from the cobbler and the
DMA engine only. -/
def widthOk (m : Master) (op : BusOp) (a : Nat) : Bool :=
  match op with
  | .read32 | .write32 _ => a % 4 == 0
  | .reserved _ => true
  | _ => a % 8 == 0 && (m == .cobbler || m == .dma)

/-- The outcome of a request: its response, its data, the further words of a burst, and the state. -/
structure BusOut where
  resp : Resp := .ok
  data : W64 := 0
  more : List W64 := []
  st : State

/-- The words of a READ_BURST; none where one of them delivers no data. -/
def State.readBurst (s : State) (m : Master) (b : Block) (k : MemKind) (a : Nat) : Nat → Option (List W64) × State
  | 0 => (some [], s)
  | n + 1 =>
    let (x, s) := s.readMem64 m b k a
    let (xs, s) := s.readBurst m b k (a + 8) n
    match x, xs with
    | some d, some ds => (some (d :: ds), s)
    | _, _ => (none, s)

/-- A request to a memory. -/
def State.serveMem (s : State) (m : Master) (op : BusOp) (b : Block) (k : MemKind) (off a : Nat) : BusOut :=
  match op with
  | .read32 =>
    match s.readMem32 m b k a with
    | (some d, s) => { data := d.setWidth 64, st := s }
    | (none, s) => { resp := .dataErr, st := s }
  | .read64 =>
    match s.readMem64 m b k a with
    | (some d, s) => { data := d, st := s }
    | (none, s) => { resp := .dataErr, st := s }
  | .burst n =>
    match s.readBurst m b k a n with
    | (some ds, s) => { data := ds.headD 0, more := ds.drop 1, st := s }
    | (none, s) => { resp := .dataErr, st := s }
  | .write32 d =>
    let (r, s) := s.writeMem m b off a false (d.setWidth 64) 0x0F
    { resp := r, st := s }
  | .write64 d be =>
    let (r, s) := s.writeMem m b off a true d be.toNat
    { resp := r, st := s }
  | .reserved _ => { resp := .decode, st := s }

/-- A request to the register space: no reserved OP (R24), no WRITE64 and no READ_BURST (R5). -/
def State.serveReg (s : State) (m : Master) (op : BusOp) (b : Block) (off a : Nat) (full : Bool) (fail : Option Bool) :
    BusOut :=
  let g : PerfTag := { master := some (srcId m), addr := some a }
  match op with
  | .read32 =>
    let (d, s) := s.readReg m b off
    { data := d.setWidth 64, st := s.perf b.island 0x02 g }
  | .read64 =>
    let (d, s) := s.readReg64 m b off
    { data := d, st := s.perf b.island 0x02 g }
  | .write32 d =>
    let (r, s) := s.writeReg m b off d full fail
    { resp := r, st := s.perf b.island 0x03 g }
  | _ => { resp := .decode, st := s }

/-- The island a master's requests leave from; none for the debug master, whose island the spec does not name. -/
def masterIsland (m : Master) : Option Nat :=
  match m with
  | .cobbler => some 0x02
  | .dma => some 0x03
  | .spi | .i2c => some 0x04
  | .jtag => none

/-- Count the request and the response of a master at both islands (R136), where they differ. -/
def State.countMessages (s : State) (m : Master) (target : Nat) : State :=
  let req : PerfTag := { cls := some 0, master := some (srcId m) }
  let rsp : PerfTag := { cls := some 1, master := some (srcId m) }
  if masterIsland m = some target then s
  else
    let s := (s.perf target 0x06 req).perf target 0x05 rsp
    match masterIsland m with
    | some i => (s.perf i 0x05 req).perf i 0x06 rsp
    | none => s

/-- The fabric and the target (R21, R34, R36): an address of no block gives DECODE, a gate OFF, the block its answer. `full`
is false for a host write that may clear W1C bits only. -/
def State.serve (s : State) (m : Master) (op : BusOp) (a : Nat) (full : Bool) (fail : Option Bool) : BusOut :=
  match blockAt a with
  | none => { resp := .decode, st := s }
  | some (b, off) =>
    let i := s.island b.island
    match memKind b off with
    | some k =>
      if i = .on then (s.countMessages m b.island).serveMem m op b k off a
      else { resp := .off, data := 0xB10C0FF0, st := s.gateOff m (opCode op) a }
    | none =>
      if i = .on ∨ i = .doze then (s.countMessages m b.island).serveReg m op b off a full fail
      else { resp := .off, data := 0xB10C0FF0, st := s.gateOff m (opCode op) a }

/-- What a request that has reached its target gives; a core die captures a response other than OK (R447). -/
def State.fabric (s : State) (m : Master) (op : BusOp) (a : Nat) (fail : Option Bool := none) : BusOut :=
  let full := !(isHost m && isWrite op) || s.hostPerm m a != .w1c
  let o := s.serve m op a full fail
  { o with st := o.st.capture447 m a o.resp, data := if isWrite op then 0 else o.data }

/-- The reply that an outcome becomes. -/
def BusOut.reply (o : BusOut) : BusReply := { resp := o.resp, lo := o.data.setWidth 32, hi := o.data.extractLsb' 32 32, more := o.more }

/-- A read of the DMA engine that delivered no data halts its channel (R365). -/
def State.haltDma (s : State) (chan a : Nat) : State :=
  if s.ctl.dmaHalted.contains chan then s
  else ({ s with ctl := { s.ctl with dmaHalted := s.ctl.dmaHalted ++ [chan] } }).log 0x0305 sevErr 0 a chan

/-- Give a master the response to its request. -/
def State.deliver (s : State) (m : Master) (op : BusOp) (a chan : Nat) (r : BusReply) : State :=
  let s := (s.captureSpi m a r.resp).respond m r.resp r.lo r.hi
  let s := if r.more = [] then s else { s with replies := writeAt natLt {} (srcId m) { s.reply m with more := r.more } s.replies }
  if m = .dma ∧ isWrite op = false ∧ r.resp = .dataErr then s.haltDma chan a else s

/-! ## Requests that wait (R26, R27, R30, R31) -/

/-- How many requests a master may have outstanding (R27). -/
def outstandingMax (m : Master) : Nat :=
  match m with
  | .cobbler => 16
  | .dma => 8
  | _ => 1

/-- The requests of a master that wait for a response. -/
def State.waitingOf (s : State) (m : Master) : List Request := s.waiting.filter (fun r => r.src == m)

/-- The READ64 of the counter reader, which counts among the cobbler's requests while a run is on (R140). -/
def State.readerOut (s : State) (m : Master) : Nat := if m = .cobbler ∧ s.flag CNT_RD_STAT.BUSY then 1 else 0

/-- The control welt to an address of a core die; an address of no core die needs none. -/
def weltTo (a : Nat) : Option Nat := if a / 0x10000000 = 1 ∨ a / 0x10000000 = 2 then some (a / 0x10000000 - 1) else none

/-- Whether the row of an MRAM address is being copied into a spare, for which accesses wait (R363). -/
def State.rowBusy (s : State) (a : Nat) : Bool :=
  decide (0x2000000 ≤ a) && decide (a < 0x2800000) && s.ctl.copying.contains (mramRow a)

/-- Whether the way to an address is open: its control welt is UP, and no copy of its MRAM row is under way. -/
def State.reachable (s : State) (a : Nat) : Bool :=
  match weltTo a with
  | some l => s.linkState l == 2
  | none => !(s.rowBusy a)

/-- The channels that a request of a master to an address goes through, and those that its response comes back through (R26):
its island's, the control welt's and the target island's. -/
def pathsOf (m : Master) (a : Nat) (back : Bool) : List FlitPath :=
  ((masterIsland m).map (fun i => FlitPath.island (BitVec.ofNat 16 i) (!back))).toList ++
  ((weltTo a).map (fun l => FlitPath.welt (Fin.ofNat 3 l) back)).toList ++
  ((blockAt a).map (fun b => FlitPath.island (BitVec.ofNat 16 b.1.island) back)).toList

/-- Whether every channel on the way holds a credit: a flit is sent only while its class has one (R26). -/
def State.hasCredit (s : State) (m : Master) (a : Nat) (back : Bool) : Bool :=
  (pathsOf m a back).all (fun p => decide (0 < (s.channel p).credit (if back then .response else .request)))

/-- Whether a request must wait: its control welt is not UP, an earlier request of the master to the same 64 KiB block waits
(R30), or a channel on its way has no credit (R26). -/
def State.mustWait (s : State) (m : Master) (a : Nat) : Bool :=
  !(s.reachable a) || (s.waitingOf m).any (fun r => r.addr / 0x10000 == a / 0x10000) || !(s.hasCredit m a false)

/-- Put a request among those that wait; `got` is the response of a target that has accepted it. Its TAG is the master's
choice, which the spec leaves open. -/
def State.enqueue (s : State) (m : Master) (op : BusOp) (a chan : Nat) (got : Option BusReply := none) : State :=
  let (x, s) := s.free
  { s with waiting := s.waiting ++ [⟨m, x % 256, op, a, s.now, chan, got⟩] }

/-- Whether a channel of the DMA engine may issue: it has no request outstanding (R27) and has not halted (R365). -/
def State.dmaFree (s : State) (c : Nat) : Bool :=
  !(s.ctl.dmaHalted.contains c) && !((s.waitingOf .dma).any (fun r => r.chan == c))

/-- The channel of a request whose row names none: the lowest DMA channel that may issue (DESIGN CHOICE, log entry 111). -/
def State.chanFor (s : State) (m : Master) : Nat := if m = .dma then ((List.range 8).find? s.dmaFree).getD 0 else 0

/-- Whether a master can issue a request: not while the block is in reset, a stopped cobbler, a locked debug port (R346),
a DMA engine without a free channel, or a master with all its requests outstanding. -/
def State.canIssue (s : State) (m : Master) : Bool :=
  !s.pwr.held && !(m == .cobbler && s.cobblerStopped) && !(m == .jtag && s.fld SEC_STAT.DEBUG_LEVEL == 0) &&
    (m != .dma || (List.range 8).any s.dmaFree) && decide ((s.waitingOf m).length + s.readerOut m < outstandingMax m)

/-- A request goes to its target. Its response comes back at once, or waits for a credit (R26): then the target has accepted
the request and carried it out. -/
def State.issueTo (s : State) (m : Master) (op : BusOp) (a chan : Nat) (fail : Option Bool) : State :=
  let o := s.fabric m op a fail
  if s.hasCredit m a true then o.st.deliver m op a chan o.reply else o.st.enqueue m op a chan (some o.reply)

/-- A request of a master through a channel. The host interfaces decide permission first (R325), the debug master may write at
level CONTROL only (R346), and a misaligned or too wide access gets DECODE; then it goes to its target, or waits. -/
def State.requestOn (s : State) (chan : Nat) (m : Master) (op : BusOp) (a : Nat) (fail : Option Bool := none) : State :=
  if s.canIssue m = false then s
  else if isWrite op ∧ isHost m ∧ s.hostPerm m a = .no then s.refuse m a
  else if isWrite op ∧ m = .jtag ∧ s.fld SEC_STAT.DEBUG_LEVEL ≠ 2 then s.answer m a .access
  else if widthOk m op a = false then s.answer m a .decode
  else if s.mustWait m a then s.enqueue m op a chan
  else s.issueTo m op a chan fail

/-- A request of a master. -/
def State.request (s : State) (m : Master) (op : BusOp) (a : Nat) (fail : Option Bool := none) : State :=
  s.requestOn (s.chanFor m) m op a fail

/-! ## Rows that are one request -/

/-- A read of 32 bits, or a READ64. -/
def readOp (wide : Bool) : BusOp := if wide then .read64 else .read32

/-- REGISTER_WRITE (R5–R7, R21, R34, R325). -/
def execRegisterWrite (src : Master) (addr data : W32) (s : State) : Outcome State Fault Refusal :=
  .next (s.request src (.write32 data) addr.toNat)

/-- RS_LOW_WORD_READ (R8, R9). -/
def execRsLowWordRead (src : Master) (addr : W32) (wide : Bool) (s : State) : Outcome State Fault Refusal :=
  .next (s.request src (readOp wide) addr.toNat)

/-- RC_READ (R7). -/
def execRcRead (src : Master) (addr : W32) (s : State) : Outcome State Fault Refusal :=
  .next (s.request src .read32 addr.toNat)

/-- QUEUE_READ (R9). -/
def execQueueRead (src : Master) (addr : W32) (wide : Bool) (s : State) : Outcome State Fault Refusal :=
  .next (s.request src (readOp wide) addr.toNat)

/-- EVR_WIN_LATCH (R386): a read of word 0 of EVR_WIN. -/
def execEvrWinLatch (src : Master) (s : State) : Outcome State Fault Refusal := .next (s.request src .read32 0x4070040)

/-- MEMORY_PARTIAL_WRITE (R355): a WRITE32, or a WRITE64 of the bytes enabled. -/
def execMemoryPartialWrite (src : Master) (addr : W32) (wide : Bool) (data : W64) (be : BitVec 8) (s : State) :
    Outcome State Fault Refusal :=
  .next (s.request src (if wide then .write64 data be else .write32 (data.setWidth 32)) addr.toNat)

/-- MEMORY_FULL_WRITE (R356). -/
def execMemoryFullWrite (src : Master) (addr : W32) (data : W64) (s : State) : Outcome State Fault Refusal :=
  .next (s.request src (.write64 data 0xFF) addr.toNat)

/-- RACK_CTL_HALT (R123). -/
def execRackCtlHalt (src : Master) (rack : Fin 64) (data : W32) (s : State) : Outcome State Fault Refusal :=
  .next (s.request src (.write32 data) (Block.rack rack).base)

/-- PROG_WORD_WRITE (R134). -/
def execProgWordWrite (src : Master) (rack : Fin 64) (word : Fin 8192) (high : Bool) (data : W32) (s : State) :
    Outcome State Fault Refusal :=
  .next (s.request src (.write32 data) (progAddr rack word + 4 * b2n high))

/-- RACK_MEM_WRITE (R134). -/
def execRackMemWrite (src : Master) (rack : Fin 64) (space : RackSpace) (loc : Fin 2048) (data : W32) (s : State) :
    Outcome State Fault Refusal :=
  .next (s.request src (.write32 data) (spaceAddr rack space loc))

/-- POOL_WINDOW_WRITE (R160). -/
def execPoolWindowWrite (src : Master) (die : Fin 2) (word : Fin 196608) (data : W64) (s : State) :
    Outcome State Fault Refusal :=
  .next (s.request src (.write64 data 0xFF) ((Block.pool (die.val + 1)).base + 8 * word))

/-- INS_SLOT_WRITE (R213). -/
def execInsSlotWrite (src : Master) (k : Fin 8) (receive : Bool) (word : Fin 256) (data : W64) (s : State) :
    Outcome State Fault Refusal :=
  .next (s.request src (.write64 data 0xFF) (slotAddr k receive 0 + 8 * word))

/-- CNT_BANK_CLEAR (R135). -/
def execCntBankClear (src : Master) (die : Fin 3) (island : BitVec 8) (data : W32) (s : State) :
    Outcome State Fault Refusal :=
  .next (s.request src (.write32 data) ((Block.bank (islandId die island.toNat)).base + 4))

/-- CNT_RD_START (R140). -/
def execCntRdStart (src : Master) (data : W32) (s : State) : Outcome State Fault Refusal :=
  .next (s.request src (.write32 data) 0x40B0000)

/-- OD_REQUEST (R292). -/
def execOdRequest (src : Master) (data : W32) (s : State) : Outcome State Fault Refusal :=
  .next (s.request src (.write32 data) 0x4060020)

/-- DOORBELL (R330). -/
def execDoorbell (src : Master) (data : W32) (s : State) : Outcome State Fault Refusal :=
  .next (s.request src (.write32 data) 0x4020000)

/-- CONSUMER_INDEX_WRITE (R333). -/
def execConsumerIndexWrite (src : Master) (ring : Fin 2) (data : W32) (s : State) : Outcome State Fault Refusal :=
  .next (s.request src (.write32 data) (0x4020014 + 8 * ring))

/-- RECOVERY_GO (R341). -/
def execRecoveryGo (src : Master) (data : W32) (fail : Bool) (s : State) : Outcome State Fault Refusal :=
  .next (s.request src (.write32 data) 0x4090044 (some fail))

/-! ## Memory reads (R354, R359, R365) -/

/-- The native word that holds a byte address. -/
def cellOf (a : Nat) : Nat :=
  match blockAt a with
  | some (b, off) => if memKind b off = some .locs then a / 4 * 4 else a / 8 * 8
  | none => a / 8 * 8

/-- An upset reaches a word of a protected memory that has power. -/
def State.hit (s : State) (a : Nat) (x : W72) : State :=
  if s.powered (locIsland a) ∧ (regionOf a).isSome then s.upset a x else s

/-- The operation of a bus master's read. -/
def memReadOp (op : ReadOp) : BusOp :=
  match op with
  | .word32 => .read32
  | .word64 => .read64
  | .burst n => .burst n
  | .reserved c => .reserved (5 + c.val)

/-- A read of a DMA channel, which has one request outstanding at a time (R27). -/
def State.dmaRead (s : State) (c a : Nat) (wide : Bool) : State :=
  if s.dmaFree c then s.requestOn c .dma (readOp wide) a else s

/-- Whether a memory belongs to the FEC/PCS: the shank pool and its own buffers (R366). -/
def isFecMemory (a d : Nat) : Bool := regionOf a == some (d, 3) || regionOf a == some (d, 4)

/-- MEMORY_READ (R354, R365). A pool word that the FEC/PCS reads uncorrectable makes the codeword that holds it uncorrectable; in
monitor mode its symbols are sent as 0 (R159). -/
def execMemoryRead (reader : MemReader) (loc : MemLoc) (upset : W72) (s : State) : Outcome State Fault Refusal :=
  let a := locOf loc
  .next (
    if s.pwr.held then s
    else
      match reader, loc with
      | .bus m op, .mapped a => (s.hit (cellOf a.toNat) upset).request m (memReadOp op) a.toNat
      | .dma c wide, .mapped a => (s.hit (cellOf a.toNat) upset).dmaRead c a.toNat wide
      | .aqique fetch, .mapped a =>
        if s.aqiqueRuns ∧ (blockAt a.toNat).any (fun x => x.1 == .sram) then
          match (s.hit (cellOf a.toNat) upset).readWord (cellOf a.toNat) 0 with
          | (some _, s) => s
          | (none, s) =>
            let s := s.emergency 0x0306 sevErr 0 a.toNat (if fetch then 1 else 2)
            { s with pwr := { s.pwr with resetDue := some { source := 4, due := some s.now } } }
        else s
      | .recorder, _ =>
        if s.evrRuns ∧ regionOf a = some (0, 3) then
          match (s.hit a upset).readHard a with
          | (some _, s) => s
          | (none, s) =>
            match s.evr.staged.find? (fun r => (List.range 4).any (fun w => stageWord r.seq w == a)) with
            | some r => (s.stagingFault r).refreshEvr
            | none => s
        else s
      | .fec p fromHost, _ =>
        if s.counting p ∧ isFecMemory a (dieOfPort p) then
          match (s.hit (cellOf a) upset).readWord (cellOf a) with
          | (some d, s) => if s.terminates p then s else s.setDir p fromHost { s.fecDir p fromHost with passed := d }
          | (none, s) =>
            let f := s.fecDir p fromHost
            s.setDir p fromHost (if s.terminates p then { f with bad := true } else { f with passed := 0 })
        else s
      | _, _ => s)

/-! ## Interrupt summaries and the counter reader -/

/-- INTERRUPT_SUMMARY (R30, R37, R39): the posted event of a core die, which its always-on island sends, reaches the interrupt
controller, where each bit is overwritten. -/
def execInterruptSummary (die : Fin 2) (s : State) : Outcome State Fault Refusal :=
  let d := die.val + 1
  .next (
    if s.pwr.held = false ∧ s.linkState die = 2 then
      let g : PerfTag := { cls := some 2 }
      let s := (s.perf (0x1000 * d) 0x05 g).perf 0 0x06 g
      s.setReg (if d = 1 then .MGMT_IRQ_CORE_A else .MGMT_IRQ_CORE_B) (BitVec.ofNat 32 (bitsWhere (s.corePends d) 22))
    else s)

/-- Whether a list entry names the low word of a queue register (R140). -/
def namesQueue (a : Nat) : Bool :=
  match blockAt a with
  | some (b, off) => (match busReg b off with | some (k, n, _) => isQueue k.reg && n == 0 | none => false)
  | none => false

/-- CNT_RD_ENTRY_RESPONSE (R140): the response to the reader's READ64 comes `elapsed` MCLK cycles after the one before it (or
the start). One that does not come within 50 µs, which is 40,000 cycles, is a TIMEOUT of the cobbler's port. -/
def execCntRdEntryResponse (elapsed : Nat) (s : State) : Outcome State Fault Refusal :=
  .next (
    let r := s.reader
    let a := (s.reg .CNT_LIST 0 (64 * r.list + r.index)).toNat
    if s.pwr.held ∨ s.flag CNT_RD_STAT.BUSY = false then s
    else if a % 8 ≠ 0 then (s.capture447 .cobbler a .decode).readerStore 3 0 elapsed
    else if namesQueue a then s.readerStore 3 0 elapsed
    else if outstandingMax .cobbler ≤ (s.waitingOf .cobbler).length then s
    else if s.mustWait .cobbler a ∨ s.hasCredit .cobbler a true = false then
      if elapsed < 40000 then s
      else
        let s := if a / 0x10000000 = 1 ∨ a / 0x10000000 = 2 then s.raise WELT_CAUSE.TIMEOUT (a / 0x10000000) else s
        let (x, s) := s.free
        let s := s.log 0x1005 sevWarn a (opCode .read64 * 256) (x % 256)
        (s.capture447 .cobbler a .timeout).readerStore 4 0 elapsed
    else
      let o := s.fabric .cobbler .read64 a
      o.st.readerStore (respCode o.resp) o.data.toNat elapsed)

end Sys2Proof.Machine
end

