-- ==== Sys2Proof/Machine/Hif.lean ====
section
/-!
DEFINITION. Sys2Proof/Machine/Hif.lean: the SPI target (R322–R324), the register window of the I2C target (R321), and the
responses that requests which waited get (R25, R33, R35).
-/

namespace Sys2Proof.Machine

open Host

/-! ## The SPI target -/

/-- Change the SPI target; HIF_SPI_STAT.POSTED shows the words that wait. -/
def State.setSpi (s : State) (v : SpiSt) : State := { s with spi := v }.put HIF_SPI_STAT.POSTED v.posted.length

/-- Whether a request of the SPI target is outstanding. -/
def State.spiBusy (s : State) : Bool := !(s.waitingOf .spi).isEmpty

/-- The bytes of a word, most significant first. -/
def beWord (v : W32) : List Nat := [byteOf v.toNat 3, byteOf v.toNat 2, byteOf v.toNat 1, byteOf v.toNat 0]

/-- A status byte (R323). -/
def statusByte (resp : Nat) : Nat := 0x85 + 16 * resp

/-- Drive the status byte and the data of the response the target has got. -/
def State.driveWord (s : State) : State :=
  let r := s.reply .spi
  { s with spi := { s.spi with miso := s.spi.miso ++ statusByte (respCode r.resp) :: beWord r.lo } }

/-- A word completed by a WRITE frame: it is issued, or waits while a request is outstanding, or is discarded. -/
def State.spiWord (s : State) (a : Nat) (d : W32) : State :=
  if s.spiBusy = false ∧ s.spi.posted = [] then s.request .spi (.write32 d) a
  else if s.spi.posted.length < 2 then s.setSpi { s.spi with posted := s.spi.posted ++ [(a, d)] }
  else ((s.raise HIF_SPI_STAT.OVERRUN).raise HIF_CAUSE.SPI_OVERRUN).inc .HIF_SPI_OVR_CNT

/-- The words of a WRITE frame, to ascending addresses. -/
def State.spiWords (s : State) (a : Nat) : List W32 → State
  | [] => s
  | d :: ds => (s.spiWord a d).spiWords ((a + 4) % 2 ^ 32) ds

/-- Issue words that wait, at most `n`, while no request is outstanding. -/
def State.spiDrain : Nat → State → State
  | 0, s => s
  | n + 1, s =>
    if s.spiBusy then s
    else
      match s.spi.posted with
      | [] => s
      | (a, d) :: rest => State.spiDrain n ((s.setSpi { s.spi with posted := rest }).request .spi (.write32 d) a)

/-- The words of a READ frame: each is read and driven in turn; the frame stops at a word that has to wait. -/
def State.spiRead : Nat → State → Nat → State
  | 0, s, _ => { s with spi := { s.spi with frame := none } }
  | n + 1, s, a =>
    if s.spiBusy ∨ s.spi.posted ≠ [] then { s with spi := { s.spi with frame := some (.read a (n + 1) false) } }
    else
      let s := s.request .spi .read32 a
      if s.spiBusy then { s with spi := { s.spi with frame := some (.read a (n + 1) true) } }
      else State.spiRead n s.driveWord ((a + 4) % 2 ^ 32)

/-- A STATUS frame answers once no posted write remains. -/
def State.spiStatus (s : State) : State :=
  if s.spiBusy ∨ s.spi.posted ≠ [] then { s with spi := { s.spi with frame := some .status } }
  else
    let code := if s.flag HIF_SPI_STAT.ERR then s.fld HIF_SPI_STAT.RESP else 0
    { s with spi := { s.spi with frame := none, miso := statusByte code :: beWord (s.reg .HIF_SPI_STAT) } }

/-- The SPI target goes on after a response. -/
def State.spiNext (s : State) : State :=
  match s.spi.frame with
  | some (.read a (n + 1) true) => State.spiRead n s.driveWord ((a + 4) % 2 ^ 32)
  | some (.read a n false) => State.spiRead n (State.spiDrain 2 s) a
  | some .status => (State.spiDrain 2 s).spiStatus
  | _ => State.spiDrain 2 s

/-- A new frame: what an earlier one still waited for is discarded with its response (R323). -/
def State.spiFrame (s : State) : State := { s with spi := { s.spi with frame := none, miso := [] } }

/-- SPI_WRITE (R322, R324). -/
def execSpiWrite (addr : W32) (words : List W32) (s : State) : Outcome State Fault Refusal :=
  .next (if s.pwr.held then s else s.spiFrame.spiWords addr.toNat words)

/-- SPI_READ (R322, R323). -/
def execSpiRead (addr : W32) (words : Fin 256) (s : State) : Outcome State Fault Refusal :=
  .next (if s.pwr.held then s else State.spiRead words s.spiFrame addr.toNat)

/-- SPI_STATUS (R322, R324). -/
def execSpiStatus (s : State) : Outcome State Fault Refusal := .next (if s.pwr.held then s else s.spiFrame.spiStatus)

/-- SPI_ID (R322): no bus access. -/
def execSpiId (s : State) : Outcome State Fault Refusal :=
  .next (if s.pwr.held then s
  else
    let s := s.spiFrame
    { s with spi := { s.spi with miso := beWord (s.reg .PWR_DEV_ID) } })

/-! ## The register window of the I2C target (R321) -/

/-- An access of the window ends: byte 137, and DATA after a read. -/
def State.i2cSettle (s : State) : State :=
  match s.i2c.busy with
  | some rd =>
    if (s.waitingOf .i2c).isEmpty then
      let r := s.reply .i2c
      let y := { s.i2c with busy := none, done := true, resp := respCode r.resp }
      { s with i2c := if rd then { y with data := r.lo.toNat } else y }
    else s
  | none => s

/-- A write of byte 136 of page 0xBF. -/
def State.i2cIssue (s : State) (v : Nat) : State :=
  if s.i2c.busy.isSome ∨ (s.waitingOf .i2c).isEmpty = false ∨ (v ≠ 1 ∧ v ≠ 2) then s.raise HIF_CAUSE.I2C_WIN_ERR
  else
    let s := { s with i2c := { s.i2c with busy := some (v == 1), done := false } }
    let op : BusOp := if v = 1 then .read32 else .write32 (BitVec.ofNat 32 s.i2c.data)
    (s.request .i2c op s.i2c.addr).i2cSettle

/-- I2C_WINDOW_ACCESS (R321). -/
def execI2cWindowAccess (value : BitVec 8) (s : State) : Outcome State Fault Refusal :=
  .next (if s.pwr.held then s else s.i2cIssue value.toNat)

/-- I2C_DOORBELL (R318, R330). -/
def execI2cDoorbell (s : State) : Outcome State Fault Refusal := .next (if s.pwr.held then s else s.ringBell .i2c s.i2c.sel)

/-! ## Requests that waited -/

/-- What a host interface does once a request of it has been answered. -/
def State.answered (s : State) (m : Master) : State :=
  match m with
  | .spi => s.spiNext
  | .i2c => s.i2cSettle
  | _ => s

/-- Whether a request may be served now: its control welt is UP, every channel on its way has a credit, and no earlier request
of the master to its 64 KiB block waits (R26, R30). -/
def State.servable (s : State) (r : Request) : Bool :=
  s.reachable r.addr && s.hasCredit r.src r.addr false &&
    ((s.waitingOf r.src).find? (fun x => x.addr / 0x10000 == r.addr / 0x10000)) == some r

/-- A request that waits gets its response. -/
def State.settleRequest (s : State) (r : Request) (y : BusReply) : State :=
  ({ s with waiting := s.waiting.erase r }.deliver r.src r.op r.addr r.chan y).settleDrains.answered r.src

/-- A request that waits goes to its target. -/
def State.serveWaiting (s : State) (r : Request) : State :=
  let o := s.fabric r.src r.op r.addr
  if s.hasCredit r.src r.addr true then o.st.settleRequest r o.reply
  else { o.st with waiting := o.st.waiting.map (fun x => if x = r then { r with got := some o.reply } else x) }

/-- RESPONSE_ARRIVAL (R25, R26, R30): to the `nth` request of a master that waits. -/
def execResponseArrival (src : Master) (nth : Fin 16) (s : State) : Outcome State Fault Refusal :=
  .next (match (s.waitingOf src)[nth.val]? with
  | none => s
  | some r =>
    if s.pwr.held then s
    else
      match r.got with
      | some y => if s.reachable r.addr ∧ s.hasCredit src r.addr true then s.settleRequest r y else s
      | none => if s.servable r then s.serveWaiting r else s)

/-- The TIMEOUT of a request (R33). Whether a write that no target is known to have accepted has taken effect is open. -/
def State.timeoutOf (s : State) (r : Request) : State :=
  let s := { s with waiting := s.waiting.erase r }.settleDrains
  let (x, s) := s.free
  let s := if isWrite r.op ∧ r.got = none ∧ x % 2 = 1 then (s.serve r.src r.op r.addr true none).st else s
  let d := r.addr / 0x10000000
  let s := if d = 1 ∨ d = 2 then s.raise WELT_CAUSE.TIMEOUT d else s
  let s := s.log 0x1005 sevWarn r.addr (srcId r.src + 256 * opCode r.op) r.tag
  (s.answer r.src r.addr .timeout).answered r.src

/-- WELT_REQ_TIMEOUT (R33): the `nth` request of a master that waits has had no response for 50 µs. -/
def execWeltReqTimeout (src : Master) (nth : Fin 16) (s : State) : Outcome State Fault Refusal :=
  .next (match (s.waitingOf src)[nth.val]? with
  | some r => if s.pwr.held = false ∧ 50 ≤ s.now - r.at_ then s.timeoutOf r else s
  | none => s)

/-- A request that an island has accepted and not completed is answered OFF by its gate. -/
def State.drainOff (s : State) (r : Request) : State :=
  let s := { s with waiting := s.waiting.erase r }
  let s := s.gateOff r.src (opCode r.op) r.addr
  (s.answer r.src r.addr .off (if isWrite r.op then 0 else 0xB10C0FF0)).answered r.src

/-- ISLAND_DRAIN_TIMEOUT (R35): 1 µs after an island has stopped accepting requests, those it has accepted and not completed
receive OFF, and the island goes where it was turned. -/
def execIslandDrainTimeout (island : BitVec 16) (s : State) : Outcome State Fault Refusal :=
  .next (
    match s.draining.find? (fun d => d.island == island.toNat) with
    | some d =>
      if s.pwr.held ∨ s.now < d.since + 1 then s
      else ((s.accepted d.island).foldl State.drainOff s).turnIsland d.island d.target
    | none => s)

end Sys2Proof.Machine
end

