-- ==== Sys2Proof/Machine/Cmis.lean ====
section
/-!
DEFINITION. Sys2Proof/Machine/Cmis.lean: transactions on the I2C target (R314, R438), the CMIS map that Aqique serves
(R315, R316, R328, R173) and the vendor pages (R317–R320). The byte positions of the standard pages are those of CMIS 5.2
(PRESUMED, log entry 103).
-/

namespace Sys2Proof.Machine

open Host

/-! ## Places in the map -/

/-- The key of a byte: bank, page, byte. -/
def cmisKey (b p n : Nat) : Nat := b * 0x10000 + p * 0x100 + n

/-- Change the image. -/
def State.setCmis (s : State) (v : CmisSt) : State := { s with cmis := v }

/-- A control or mask byte as the host wrote it. -/
def State.ctlByte (s : State) (k : Nat) : Nat := lookup 0 k s.cmis.ctl

/-- Store a control or mask byte. -/
def State.setCtl (s : State) (k v : Nat) : State := s.setCmis { s.cmis with ctl := writeAt natLt 0 k (v % 256) s.cmis.ctl }

/-- A monitor byte of the latest refresh. -/
def State.monByte (s : State) (k : Nat) : Nat := lookup 0 k s.cmis.mon

/-- Store a monitor byte. -/
def State.setMon (s : State) (k v : Nat) : State := s.setCmis { s.cmis with mon := writeAt natLt 0 k (v % 256) s.cmis.mon }

/-- A byte of latched flags. -/
def State.flagByte (s : State) (k : Nat) : Nat := lookup 0 k s.cmis.flags

/-- Store a byte of latched flags. -/
def State.setFlagByte (s : State) (k v : Nat) : State := s.setCmis { s.cmis with flags := writeAt natLt 0 k (v % 256) s.cmis.flags }

/-- Latch further flags of a byte. -/
def State.latchFlags (s : State) (k v : Nat) : State :=
  let old := s.flagByte k
  s.setFlagByte k (bitsWhere (fun n => bitOf old n || bitOf v n) 8)

/-- The mask byte of a byte of flags: bytes 31–36 for 8–13, page 10h 213–231 for page 11h 134–152. -/
def maskKey (k : Nat) : Nat := if k < 128 then k + 23 else k - 0x100 + 79

/-- HIF_CAUSE.CMIS_FLAG is set while a latched flag is unmasked, and Aqique clears it once none remains (R328). -/
def State.refreshCmisFlag (s : State) : State :=
  let live := s.cmis.flags.any (fun p => (List.range 8).any (fun n => bitOf p.2 n && !(bitOf (s.ctlByte (maskKey p.1)) n)))
  s.putFlag HIF_CAUSE.CMIS_FLAG live

/-! ## Module and data-path states (R315, R316) -/

/-- The module state: 1 LowPwr, 2 PwrUp, 3 Ready, 5 Fault. -/
def State.moduleState (s : State) : Nat :=
  if s.modeReady then 3
  else if s.pwrState = pwrFault then 5
  else if s.seqOn 2 0 then 2
  else 1

/-- A host lane's DataPathState: 1 Deactivated, 2 Init, 4 Activated. -/
def State.dataPath (s : State) (j : Nat) : Nat :=
  let st := (s.hostPort j).st
  if st = portAbsent ∨ st = portDown ∨ st = portFault then 1
  else if st = portConfiguring then 2
  else 4

/-- The byte whose halves are the codes of host lanes 2n and 2n + 1 of a bank. -/
def pairByte (f : Nat → Nat) (b n : Nat) : Nat := f (8 * b + 2 * n) % 16 + 16 * (f (8 * b + 2 * n + 1) % 16)

/-! ## The bytes a read returns (R314–R318) -/

/-- The byte at an address of the memory of MGMT, as the I2C master reads it; what an uncorrectable word gives is open. -/
def State.memByte (s : State) (a : Nat) : Nat × State :=
  match s.readWord (a / 8 * 8) 2 with
  | (some d, s) => (byteOf d.toNat (a % 8), s)
  | (none, s) =>
    let (x, s) := s.free
    (x % 256, s)

/-- Page 0xB0 (R318). -/
def State.mailboxByte (s : State) (n : Nat) : Nat × State :=
  if n < 160 then s.memByte (eyeletAddr s.i2c.sel + (n - 128))
  else
    (match n with
      | 160 => s.i2c.sel
      | 162 => eyeletCode (s.eyelet s.i2c.sel).st
      | 163 => min 255 (s.fld MBX_STAT.OUTSTANDING)
      | 164 => s.fld MBX_CR_PROD_PTR.INDEX 0 1
      | 165 => s.fld MBX_CR_PROD_PTR.PHASE 0 1
      | 166 => s.fld MBX_CR_CONS_PTR.INDEX 0 1
      | 167 => getBits (s.reg .MBX_CAUSE) 0 8
      | _ => 0, s)

/-- Page 0xB1: 8 entries of ring 1 from the consumer index on (R318). -/
def State.ringByte (s : State) (n : Nat) : Nat × State :=
  let i := (s.fld MBX_CR_CONS_PTR.INDEX 0 1 + (n - 128) / 16) % 256
  s.memByte (0x4025000 + 16 * i + (n - 128) % 16)

/-- Page 0xBF (R321). -/
def State.windowByte (s : State) (n : Nat) : Nat :=
  if n < 132 then byteOf s.i2c.addr (n - 128)
  else if n < 136 then byteOf s.i2c.data (n - 132)
  else if n = 137 then b2n s.i2c.busy.isSome + 2 * (s.i2c.resp % 8) + 128 * b2n s.i2c.done
  else 0

/-- Read flags: they clear (R328). -/
def State.takeFlags (s : State) (k : Nat) : Nat × State := (s.flagByte k, (s.setFlagByte k 0).refreshCmisFlag)

/-- A byte of the lower memory but for bytes 126 and 127 (R315). -/
def State.lowerByte (s : State) (n : Nat) : Nat × State :=
  if 8 ≤ n ∧ n ≤ 13 then s.takeFlags n
  else if 14 ≤ n ∧ n ≤ 17 then (s.monByte n, s)
  else if 26 ≤ n ∧ n ≤ 40 then
    (if n = 26 then
      bitsWhere (fun i => if i = 6 then s.pwr.allowHw else if i = 4 then s.pwr.swLow else i != 3 && bitOf (s.ctlByte 26) i) 8
     else s.ctlByte n, s)
  else
    (match n with
      | 1 => 0x52
      | 3 => 2 * s.moduleState + b2n (!(s.intN))
      | _ => (Config.cmisByte n).toNat, s)

/-- A byte of page 11h (R315, R316). -/
def State.laneByte (s : State) (b n : Nat) : Nat × State :=
  if n < 132 then (pairByte s.dataPath b (n - 128), s)
  else if 134 ≤ n ∧ n ≤ 152 then s.takeFlags (cmisKey b 0x11 n)
  else if 154 ≤ n ∧ n ≤ 201 then (s.monByte (cmisKey b 0x11 n), s)
  else if 202 ≤ n ∧ n ≤ 205 then (pairByte (fun j => s.cmis.status.getD j 0) b (n - 202), s)
  else ((Config.cmisByte (cmisKey b 0x11 n)).toNat, s)

/-- A byte of an upper page that Aqique serves. -/
def State.imageByte (s : State) (b p n : Nat) : Nat × State :=
  if p = 0x00 then
    (match s.cal.entries.find? (fun e => e.kind == 0x10 && e.index == 0) with
      | some e => e.data.getD (n - 128) 0
      | none => 0, s)
  else if p = 0x01 ∨ p = 0x02 then ((Config.cmisByte (cmisKey 0 p n)).toNat, s)
  else if p = 0x10 ∧ b < 2 then (s.ctlByte (cmisKey b p n), s)
  else if p = 0x11 ∧ b < 2 then s.laneByte b n
  else if (p = 0xB2 ∨ p = 0xB3) ∧ b = 0 ∨ p = 0xB4 ∧ b < 8 then
    ((lookup [] (16 * p + b) s.cmis.images).getD (n - 128) 0, s)
  else (0, s)

/-- The byte at an address of the map. Aqique's bytes read 0 until it is ready. -/
def State.mapByte (s : State) (n : Nat) : Nat × State :=
  let y := s.i2c
  if n = 126 then (y.bank, s)
  else if n = 127 then (y.page, s)
  else if 128 ≤ n ∧ y.page = 0xB0 then if y.bank = 0 then s.mailboxByte n else (0, s)
  else if 128 ≤ n ∧ y.page = 0xB1 then if y.bank = 0 then s.ringByte n else (0, s)
  else if 128 ≤ n ∧ y.page = 0xBF then (if y.bank = 0 then s.windowByte n else 0, s)
  else if s.flag MBX_STAT.READY = false then (0, s)
  else if n < 128 then s.lowerByte n
  else s.imageByte y.bank y.page n

/-- Read `n` consecutive bytes from the current address, which wraps from 255 to 0. -/
def State.i2cBytes : Nat → State → List Nat → List Nat × State
  | 0, s, out => (out.reverse, s)
  | n + 1, s, out =>
    let (v, s) := s.mapByte s.i2c.ptr
    State.i2cBytes n { s with i2c := { s.i2c with ptr := (s.i2c.ptr + 1) % 256 } } (v :: out)

/-- I2C_READ (R314): consecutive bytes from the current address on. -/
def execI2cRead (count : BitVec 12) (s : State) : Outcome State Fault Refusal :=
  .next (if s.pwr.held then s
  else
    let (out, s) := State.i2cBytes count.toNat s []
    { s with i2c := { s.i2c with out := out } })

/-! ## Writes (R314, R173, R318, R321) -/

/-- A write of byte 26: LowPwrAllowRequestHW, LowPwrRequestSW and SoftwareReset (R398, R397). -/
def State.writeControl (s : State) (v : Nat) : State :=
  let s := s.setCtl 26 v
  let s := { s with pwr := { s.pwr with allowHw := bitOf v 6, swLow := bitOf v 4 } }.powerCheck
  if bitOf v 3 ∧ s.pwr.resetDue = none then
    { s with pwr := { s.pwr with resetDue := some { source := 2, due := some s.now } } }
  else s

/-- Replace a field of a register value. -/
def withField (w : W32) (f : Fld) (v : Nat) : W32 := setBits w f.lo f.w v

/-- A byte of page 10h that holds one bit for each host lane of the bank: a field of HL_RX_EQ_CTL (R173). -/
def State.rxBits (s : State) (b v : Nat) (f : Fld) : State :=
  (List.range 8).foldl (fun (s : State) i =>
    let j := 8 * b + i
    if s.hostUsed j then s.rxEqWrite j (withField (s.reg .HL_RX_EQ_CTL j) f (b2n (bitOf v i))) else s) s

/-- A byte of page 10h that holds one code for each of two host lanes (R173): codes up to `top` are written by `put`. -/
def State.laneCodes (s : State) (b n v top : Nat) (put : State → Nat → Nat → State) : State :=
  [(8 * b + 2 * n, v % 16), (8 * b + 2 * n + 1, v / 16)].foldl (fun (s : State) x =>
    if s.hostUsed x.1 ∧ x.2 ≤ top then put s x.1 x.2 else s) s

/-- The output equaliser of a host lane with one or two fields changed. -/
def State.txFields (s : State) (j : Nat) (fs : List (Fld × Nat)) : State :=
  s.txEqWrite j (fs.foldl (fun w x => withField w x.1 x.2) (s.reg .HL_TX_EQ j))

/-- A write of a byte of page 10h: it is stored, and the host-lane controls act (R173). -/
def State.writeLanePage (s : State) (b n v : Nat) : State :=
  let s := s.setCtl (cmisKey b 0x10 n) v
  if n = 153 then s.rxBits b v HL_RX_EQ_CTL.ADAPT
  else if n = 134 then s.rxBits b v HL_RX_EQ_CTL.FREEZE
  else if 156 ≤ n ∧ n ≤ 159 then
    s.laneCodes b (n - 156) v 12 (fun s j c => s.rxEqWrite j (withField (s.reg .HL_RX_EQ_CTL j) HL_RX_EQ_CTL.CTLE_FIX (2 * c)))
  else if 162 ≤ n ∧ n ≤ 165 then
    s.laneCodes b (n - 162) v 7 (fun s j c => s.txFields j [(HL_TX_EQ.PRE1, c), (HL_TX_EQ.PRE2, 0)])
  else if 166 ≤ n ∧ n ≤ 169 then s.laneCodes b (n - 166) v 7 (fun s j c => s.txFields j [(HL_TX_EQ.POST1, 2 * c)])
  else if 170 ≤ n ∧ n ≤ 173 then s.laneCodes b (n - 170) v 3 (fun s j c => s.txFields j [(HL_TX_EQ.AMP, c)])
  else s

/-- A write of the eyelet window: ignored unless the eyelet is FREE (R318). -/
def State.writeEyelet (s : State) (n v : Nat) : State :=
  if (s.eyelet s.i2c.sel).st ≠ .free then s.raise HIF_CAUSE.I2C_WIN_ERR
  else
    let a := eyeletAddr s.i2c.sel + (n - 128)
    (s.mergeWord (a / 8 * 8) (BitVec.ofNat 64 (v * 2 ^ (8 * (a % 8)))) (2 ^ (a % 8)) 2).2

/-- Byte `n` of a 32-bit value replaced. -/
def putByte (w n v : Nat) : Nat := w - byteOf w n * 2 ^ (8 * n) + v % 256 * 2 ^ (8 * n)

/-- A write of one byte of the map. -/
def State.writeMap (s : State) (n v : Nat) : State :=
  let y := s.i2c
  if n = 126 then { s with i2c := { y with bank := v } }
  else if n = 127 then { s with i2c := { y with page := v } }
  else if 128 ≤ n ∧ y.page = 0xB0 ∧ y.bank = 0 then
    if n < 160 then s.writeEyelet n v
    else
      match n with
      | 160 => { s with i2c := { y with sel := v } }
      | 161 => s.ringBell .i2c y.sel
      | 166 => s.consumerWrite 1 (BitVec.ofNat 32 v)
      | _ => s
  else if 128 ≤ n ∧ y.page = 0xBF ∧ y.bank = 0 then
    if n < 132 then { s with i2c := { y with addr := putByte y.addr (n - 128) v } }
    else if n < 136 then { s with i2c := { y with data := putByte y.data (n - 132) v } }
    else if n = 136 then s.i2cIssue v
    else s
  else if s.flag MBX_STAT.READY = false then s
  else if n = 26 then s.writeControl v
  else if 27 ≤ n ∧ n ≤ 40 then (s.setCtl n v).refreshCmisFlag
  else if 128 ≤ n ∧ y.page = 0x10 ∧ y.bank < 2 then (s.writeLanePage y.bank n v).refreshCmisFlag
  else s

/-- Write consecutive bytes from the current address on. -/
def State.writeMapBytes (s : State) : List Nat → State
  | [] => s
  | v :: vs =>
    let s := s.writeMap s.i2c.ptr v
    State.writeMapBytes { s with i2c := { s.i2c with ptr := (s.i2c.ptr + 1) % 256 } } vs

/-- I2C_WRITE (R314, R438): the first 8 data bytes take effect at the STOP or repeated START; a write that ends otherwise is
discarded whole. -/
def execI2cWrite (offset : BitVec 8) (bytes : List (BitVec 8)) (ended : Bool) (s : State) : Outcome State Fault Refusal :=
  .next (if s.pwr.held ∨ ended = false then s
  else
    let s := { s with i2c := { s.i2c with ptr := offset.toNat } }
    s.writeMapBytes ((bytes.take 8).map (fun x => x.toNat)))

/-- I2C_BUS_TIMEOUT (R438): the target returns to idle; what the write under way carried is discarded. -/
def execI2cBusTimeout (s : State) : Outcome State Fault Refusal := .next s

/-! ## Data-path control (R316) -/

/-- The port of a host lane that a CMIS bank can express: one that does not cross. -/
def State.cmisPortOfHost (s : State) (j : Nat) : Option Nat :=
  (s.mode.active.portOfHost j).filter (fun p => !(s.mode.active.crossing p))

/-- The port of a media lane, under the same limit. -/
def State.cmisPortOfLine (s : State) (k : Nat) : Option Nat :=
  (s.mode.active.portOfLine k).filter (fun p => !(s.mode.active.crossing p))

/-- TX_EN of a port as DataPathDeinit of its host lanes and OutputDisableTx of its media lanes leave it. -/
def State.cmisTxEn (s : State) (m : Image) (p : Nat) : Bool :=
  !((m.hostLanes p).any (fun j => bitOf (s.ctlByte (cmisKey (j / 8) 0x10 128)) (j % 8))) &&
    !((m.lineLanes p).any (fun k => bitOf (s.ctlByte (cmisKey (k / 4) 0x10 130)) (k % 4)))

/-- Set the ConfigStatus of host lanes. -/
def State.setStatus (s : State) (js : List Nat) (v : Nat) : State :=
  s.setCmis { s.cmis with status := js.foldl (fun xs j => xs.set j v) s.cmis.status }

/-- A rejected configuration: ConfigStatus and CMIS_CONFIG_REJECTED. -/
def State.cmisReject (s : State) (b : Nat) (js : List Nat) (r : Reply) : State :=
  (s.setStatus js 2).log 0x0E07 sevInfo b r.status r.r0 r.r1

/-- Aqique's transaction for a staged image: MODE_BEGIN, staging, MODE_VALIDATE, MODE_APPLY. It is rejected while
DP_CONTROL is clear, with a status code that is open, or while another transaction is open. -/
def State.cmisApply (s : State) (b : Nat) (js : List Nat) (m : Image) : State :=
  if s.flag HIF_STAT.DP_CONTROL = false then
    let (x, s) := s.free
    s.cmisReject b js ⟨x % 2 ^ 16, 0, 0⟩
  else
    match s.mode.txn with
    | some t => s.cmisReject b js ⟨if t.own then 0x0302 else 0x0301, 0, 0⟩
    | none =>
      let id := s.mode.lastId % 0xFFFF + 1
      let t : Txn := { id := id, staged := m, touched := s.now, own := true }
      let s := { s with mode := { s.mode with lastId := id } }
      if s.modeReady = false then s.cmisReject b js ⟨0x0243, 0, 0⟩
      else
        let r := s.validate m
        if r.status ≠ 0 then ((s.rejected t r).setTxn none).cmisReject b js r
        else (s.startApply t none).setStatus js 1

/-- The staged image of a bank's data paths: each is a port, its size and its host group; size 0 removes it. -/
def State.cmisStage (s : State) (paths : List (Nat × Nat × Nat)) : Image :=
  let staged := paths.foldl (fun (m : Image) x =>
    let p := x.1
    let size := x.2.1
    let g := x.2.2
    let old := m.port p
    let kept := old.size != 0
    let d : PortDesc :=
      if size = 0 then {}
      else
        { size := size, hostGroup := g, inner := true, fecTerm := true, allowDisrupt := true, deskew := if 2 ≤ size then 3 else 0,
          frameView := kept && old.frameView, timeMode := if kept then old.timeMode else 0, loopback := 0 }
    { m with ports := m.ports.set p d }) s.mode.active
  paths.foldl (fun (m : Image) x =>
    if x.2.1 = 0 then m else { m with ports := m.ports.set x.1 { (m.port x.1) with txEn := s.cmisTxEn m x.1 } }) staged

/-- The data paths that a bank can express: port, size and host group. -/
def cmisPaths (bank : Fin 2) (paths : List (Fin 8 × Fin 4 × Fin 16)) : List (Nat × Nat × Nat) :=
  (paths.map (fun x => (x.1.val, x.2.1.val, x.2.2.val))).filter
    (fun x => x.1 / 4 == bank.val && (x.2.1 == 0 || x.2.2 / 8 == bank.val))

/-- The host lanes of data paths: those a removed port had, and those a staged one gets. -/
def State.cmisLanes (s : State) (xs : List (Nat × Nat × Nat)) : List Nat :=
  xs.flatMap (fun x => if x.2.1 = 0 then s.mode.active.hostLanes x.1 else (s.cmisStage xs).hostLanes x.1)

/-- CMIS_APPLY_DP_INIT (R316): the data paths that the bank can express. -/
def execCmisApplyDpInit (bank : Fin 2) (paths : List (Fin 8 × Fin 4 × Fin 16)) (s : State) : Outcome State Fault Refusal :=
  .next (if s.aqiqueRuns then
    let xs := cmisPaths bank paths
    s.cmisApply bank.val (s.cmisLanes xs) (s.cmisStage xs)
  else s)

/-- A port's TX_EN follows its lanes' bits, by a transaction where it changes. -/
def State.cmisFollow (s : State) (b p : Nat) : State :=
  let m := s.mode.active
  let v := s.cmisTxEn m p
  if (m.port p).txEn = v then s
  else s.cmisApply b (m.hostLanes p) { m with ports := m.ports.set p { (m.port p) with txEn := v } }

/-- Set or clear a bit of a control byte. -/
def State.setCtlBit (s : State) (k n : Nat) (v : Bool) : State :=
  let old := s.ctlByte k
  s.setCtl k (bitsWhere (fun i => if i = n then v else bitOf old i) 8)

/-- CMIS_DP_DEINIT (R316). -/
def execCmisDpDeinit (lane : Fin 16) (deinit : Bool) (s : State) : Outcome State Fault Refusal :=
  .next (if s.aqiqueRuns then
    let s := s.setCtlBit (cmisKey (lane.val / 8) 0x10 128) (lane.val % 8) deinit
    match s.cmisPortOfHost lane.val with
    | some p => s.cmisFollow (lane.val / 8) p
    | none => s
  else s)

/-- CMIS_OUTPUT_DISABLE (R316). -/
def execCmisOutputDisable (lane : Fin 8) (disable : Bool) (s : State) : Outcome State Fault Refusal :=
  .next (if s.aqiqueRuns then
    let s := s.setCtlBit (cmisKey (lane.val / 4) 0x10 130) (lane.val % 4) disable
    match s.cmisPortOfLine lane.val with
    | some p => s.cmisFollow (lane.val / 4) p
    | none => s
  else s)

/-! ## Monitors and flags (R314, R315) -/

/-- Store a 16-bit monitor, most significant byte first. -/
def State.setMon16 (s : State) (k v : Nat) : State := (s.setMon k (byteOf v 1)).setMon (k + 1) (byteOf v 0)

/-- The hottest zone, 2^-8 °C. -/
def State.hottestZone (s : State) : Int :=
  let ts := (List.range 3).map (fun z => s.sfld THM_ZONE_STAT.TEMP 0 z)
  32 * ts.foldl max (s.sfld THM_ZONE_STAT.TEMP 0 0)

/-- The lane monitors that the diagnostics map names (R371, kind 0x0011): records of 8 bytes. -/
def State.laneMonitors (s : State) : State :=
  match s.cal.entries.find? (fun e => e.kind == 0x11 && e.index == 0) with
  | none => s
  | some e =>
    (List.range (e.data.length / 8)).foldl (fun (s : State) i =>
      let r := (e.data.drop (8 * i)).take 8
      let n := leNat (r.take 2)
      let v := (s.wide .MON_CH_VAL 0 (r.getD 2 0)).toNat
      let x := (Config.cmisScale (BitVec.ofNat 24 v) (BitVec.ofNat 32 (leNat (r.drop 4)))).toNat
      if n < 48 then s.setMon16 (cmisKey (n / 24) 0x11 (154 + 2 * (n % 24))) x else s) s

/-- The bits of a bank's host lanes for which `f` holds. -/
def hostBits (b : Nat) (f : Nat → Bool) : Nat := bitsWhere (fun i => f (8 * b + i)) 8

/-- The bits of a bank's media lanes for which `f` holds. -/
def mediaBits (b : Nat) (f : Nat → Bool) : Nat := bitsWhere (fun i => f (4 * b + i)) 4

/-- Latch the flags of a bank: data-path state changes and faults, loss of signal and of lock of the host and line
receivers and of the alignment markers. -/
def State.laneFlags (s : State) (b : Nat) : State :=
  let s := s.latchFlags (cmisKey b 0x11 134) (hostBits b (fun j => s.cmis.states.getD j 0 != s.dataPath j))
  let s := s.latchFlags (cmisKey b 0x11 135)
    (mediaBits b (fun k => match s.mode.run.portOfLine k with | some p => (s.port p).st == portFault | none => false))
  let s := s.latchFlags (cmisKey b 0x11 136) (hostBits b (fun j => s.hostUsed j && !(s.flag HL_STAT.SIG_PRESENT j)))
  let s := s.latchFlags (cmisKey b 0x11 137) (hostBits b (fun j => s.hostUsed j && !(s.flag HL_STAT.CDR_LOCK j)))
  let s := s.latchFlags (cmisKey b 0x11 147) (mediaBits b (fun k => s.lineUsed k && !(s.flag LRX_STAT.SIG_PRESENT k)))
  s.latchFlags (cmisKey b 0x11 148)
    (mediaBits b (fun k => s.lineUsed k && !(s.flag LRX_STAT.CDR_LOCK k && s.flag LRX_STAT.AM_LOCK k)))

/-- Latch the module flags: state changes, temperature, loop faults. -/
def State.moduleFlags (s : State) : State :=
  let zone (f : Fld) : Bool := (List.range 3).any (fun z => s.flag f 0 z)
  let s := s.latchFlags 8 (b2n (s.cmis.device != s.moduleState))
  let s := s.latchFlags 9 (b2n (zone THM_ZONE_STAT.SHUT) + 4 * b2n (zone THM_ZONE_STAT.WARN || zone THM_ZONE_STAT.THROTTLE))
  s.latchFlags 13 (b2n ((List.range 48).any (fun l => s.flag TGT_LOOP_STAT.FB_FAULT 0 l)))

/-- CMIS_MONITOR_REFRESH (R314, R315, R328), with the supply monitor. -/
def execCmisMonitorRefresh (supply : BitVec 16) (s : State) : Outcome State Fault Refusal :=
  .next (if s.aqiqueRuns then
    let s := (s.setMon16 14 (unsigned 16 s.hottestZone)).setMon16 16 supply.toNat
    let s := (((s.laneMonitors).moduleFlags).laneFlags 0).laneFlags 1
    let s := s.setCmis { s.cmis with device := s.moduleState, states := (List.range 16).map s.dataPath }
    s.refreshCmisFlag
  else s)

/-! ## Vendor pages (R317, R319, R320) -/

/-- The `n` bytes of a value, most significant first. -/
def beBytes (n v : Nat) : List Nat := ((List.range n).map (fun i => byteOf v i)).reverse

/-- Page 0xB2. -/
def State.pageTime (s : State) : List Nat :=
  let d := s.primary
  let acc := (s.clock d).acc / nsUnit
  let lane := if s.source = 3 then s.fld TIME_SRC_CFG.LANE d else 0xFF
  let flags := b2n (s.flag TIME_STAT.TOD_VALID d) + 2 * b2n (s.flag TIME_STAT.HOLDOVER d) + 4 * b2n (s.throttling d) +
    8 * b2n (s.fld TIME_STAT.ALIGN (otherDie d) == 3) + 16 * b2n (s.flag TIME_PPS_CFG.PPS_EN 1)
  [s.todState d, s.source, lane, flags] ++ beBytes 2 (s.errEst d) ++ beBytes 6 (acc / 1000000000) ++
    beBytes 4 (acc % 1000000000) ++ beBytes 4 (s.fld TIME_OFFSET.OFFSET d) ++ beBytes 4 (s.fld TIME_FREQ.FREQ d) ++
    beBytes 2 (s.fld TIME_ALIGN_OFS.OFS (otherDie d))

/-- A lane's block of page 0xB3. -/
def State.pageInsoleLane (s : State) (k : Nat) : List Nat :=
  let far := (s.insl k).farFlags
  let x := s.time.xchs.getD k none
  let rtt : Int := match x with | some y => y.rtt | none => 0
  let theta : Int := match x with | some y => y.theta | none => 0
  let flags := b2n (s.flag INS_CFG.TTT_EN k) + 2 * b2n (bitOf far 0) + 4 * b2n (bitOf far 1) + 8 * b2n (bitOf far 3)
  [s.fld INS_STAT.LINK k, flags] ++ beBytes 2 (s.fld INS_METRIC.TRACK k) ++ beBytes 4 (unsigned 32 (floorShift rtt 12)) ++
    beBytes 4 (unsigned 32 (floorShift theta 12)) ++ beBytes 2 (s.fld INS_RX_TS_Q.SIGMA k) ++ beBytes 2 (s.fld INS_FOFS.FOFS k)

/-- Page 0xB3. -/
def State.pageInsole (s : State) : List Nat := (List.range 8).flatMap s.pageInsoleLane

/-- A lane's block of page 0xB4. -/
def State.pageRangingLane (s : State) (g k : Nat) : List Nat :=
  let r := s.rangingOf g
  let live := match s.xchAt k with | some t => decide (s.now - t ≤ 16000000) | none => false
  let member := (s.members g).contains k
  beBytes 4 (r.dOut.getD k 0) ++ beBytes 4 (r.dIn.getD k 0) ++ beBytes 4 (unsigned 32 (floorShift (s.asymmetry k) 12)) ++
    [b2n member + 2 * b2n (s.insLink k == insUp) + 4 * b2n live, r.track.getD k 0]

/-- Page 0xB4 of a fibre group. -/
def State.pageRanging (s : State) (g : Nat) : List Nat :=
  if s.mode.run.ranging.getD g false = false then []
  else
    let r := s.rangingOf g
    let flags := b2n r.some_ + 2 * b2n r.held + 4 * b2n r.coarse + 8 * b2n (decide (r.spread < 180)) + 16
    [flags, bitsWhere (fun k => (s.members g).contains k) 8] ++ beBytes 2 (min 65535 ((s.now - r.at_) / 1000000)) ++
      beBytes 4 r.lengthIn ++ beBytes 4 r.lengthOut ++ beBytes 2 r.sigma ++ beBytes 2 r.spread ++
      (List.range 8).flatMap (s.pageRangingLane g)

/-- VENDOR_PAGE_UPDATE (R317): Aqique replaces the image of page 0xB2, 0xB3 or 0xB4 (one bank) whole. -/
def execVendorPageUpdate (page : Fin 3) (bank : Fin 8) (s : State) : Outcome State Fault Refusal :=
  .next (if s.aqiqueRuns then
    let k := match page.val with | 0 => 16 * 0xB2 | 1 => 16 * 0xB3 | _ => 16 * 0xB4 + bank.val
    let image := match page.val with | 0 => s.pageTime | 1 => s.pageInsole | _ => s.pageRanging bank.val
    s.setCmis { s.cmis with images := writeAt natLt [] k image s.cmis.images }
  else s)

end Sys2Proof.Machine
end

