-- ==== Sys2Proof/Machine/Dispatch.lean ====
section
/-!
DEFINITION. Sys2Proof/Machine/Dispatch.lean: what each command does, one arm a command.
-/

namespace Sys2Proof.Machine

open Host

/-- The effect of a command on everything but the queue. -/
def exec (i : Instr) (s : State) : Host.Outcome State Fault Refusal :=
  match i with
  | .registerWrite src addr data => Sys2Proof.Machine.execRegisterWrite src addr data s
  | .rsLowWordRead src addr wide => Sys2Proof.Machine.execRsLowWordRead src addr wide s
  | .rcRead src addr => Sys2Proof.Machine.execRcRead src addr s
  | .queueRead src addr wide => Sys2Proof.Machine.execQueueRead src addr wide s
  | .memoryRead reader loc upset => Sys2Proof.Machine.execMemoryRead reader loc upset s
  | .memoryPartialWrite src addr wide data be => Sys2Proof.Machine.execMemoryPartialWrite src addr wide data be s
  | .memoryFullWrite src addr data => Sys2Proof.Machine.execMemoryFullWrite src addr data s
  | .mramRemapDone row => Sys2Proof.Machine.execMramRemapDone row s
  | .mramRowRefresh row => Sys2Proof.Machine.execMramRowRefresh row s
  | .scrubStep loc upset => Sys2Proof.Machine.execScrubStep loc upset s
  | .bucketLeak die region => Sys2Proof.Machine.execBucketLeak die region s
  | .responseArrival src nth => Sys2Proof.Machine.execResponseArrival src nth s
  | .weltReqTimeout src nth => Sys2Proof.Machine.execWeltReqTimeout src nth s
  | .islandDrainTimeout island => Sys2Proof.Machine.execIslandDrainTimeout island s
  | .flitReceive path data flips => Sys2Proof.Machine.execFlitReceive path data flips s
  | .creditReturn path cls n => Sys2Proof.Machine.execCreditReturn path cls n s
  | .replayRequest link toMgmt flit => Sys2Proof.Machine.execReplayRequest link toMgmt flit s
  | .replayBurst link die => Sys2Proof.Machine.execReplayBurst link die s
  | .linkRetrainDone link up => Sys2Proof.Machine.execLinkRetrainDone link up s
  | .weltRetrain die n => Sys2Proof.Machine.execWeltRetrain die n s
  | .weltAbEn die en => Sys2Proof.Machine.execWeltAbEn die en s
  | .interruptSummary die => Sys2Proof.Machine.execInterruptSummary die s
  | .pllLossOfLock die bit => Sys2Proof.Machine.execPllLossOfLock die bit s
  | .pllLock die bit => Sys2Proof.Machine.execPllLock die bit s
  | .refclkAbsent2us => Sys2Proof.Machine.execRefclkAbsent2us s
  | .refclkLost => Sys2Proof.Machine.execRefclkLost s
  | .refclkStartTimeout => Sys2Proof.Machine.execRefclkStartTimeout s
  | .modeBegin e => Sys2Proof.Machine.execModeBegin e s
  | .modeStagePort e => Sys2Proof.Machine.execModeStagePort e s
  | .modeStageLane e => Sys2Proof.Machine.execModeStageLane e s
  | .modeStageDie e => Sys2Proof.Machine.execModeStageDie e s
  | .modeStageFibre e => Sys2Proof.Machine.execModeStageFibre e s
  | .modeValidate e => Sys2Proof.Machine.execModeValidate e s
  | .modeApply e => Sys2Proof.Machine.execModeApply e s
  | .modeApplyComplete => Sys2Proof.Machine.execModeApplyComplete s
  | .modeAbort e => Sys2Proof.Machine.execModeAbort e s
  | .modeRead e => Sys2Proof.Machine.execModeRead e s
  | .modePortStatus e => Sys2Proof.Machine.execModePortStatus e s
  | .modeTxnExpired => Sys2Proof.Machine.execModeTxnExpired s
  | .sigDetectAssert k => Sys2Proof.Machine.execSigDetectAssert k s
  | .sigDetectDeassert k => Sys2Proof.Machine.execSigDetectDeassert k s
  | .wakePatternSeen k => Sys2Proof.Machine.execWakePatternSeen k s
  | .lrxDozeTimer k => Sys2Proof.Machine.execLrxDozeTimer k s
  | .cdrLockSet k fofs phase => Sys2Proof.Machine.execCdrLockSet k fofs phase s
  | .cdrLockClear k fofs phase => Sys2Proof.Machine.execCdrLockClear k fofs phase s
  | .lrxCoefWrite k off data => Sys2Proof.Machine.execLrxCoefWrite k off data s
  | .tapRecord k x => Sys2Proof.Machine.execTapRecord k x s
  | .lrxMonitorWindow k msq snr l0 l1 l2 l3 => Sys2Proof.Machine.execLrxMonitorWindow k msq snr l0 l1 l2 l3 s
  | .histStart k => Sys2Proof.Machine.execHistStart k s
  | .histDone k => Sys2Proof.Machine.execHistDone k s
  | .vnleFadeDone k => Sys2Proof.Machine.execVnleFadeDone k s
  | .calRxRun e => Sys2Proof.Machine.execCalRxRun e s
  | .calRxAbort e => Sys2Proof.Machine.execCalRxAbort e s
  | .calRxStatus e => Sys2Proof.Machine.execCalRxStatus e s
  | .calRxMeasureEnd k skew gain offset => Sys2Proof.Machine.execCalRxMeasureEnd k skew gain offset s
  | .calRxApplyEnd k => Sys2Proof.Machine.execCalRxApplyEnd k s
  | .adcTrimStep k n => Sys2Proof.Machine.execAdcTrimStep k n s
  | .lrxTtrimWrite k n data => Sys2Proof.Machine.execLrxTtrimWrite k n data s
  | .ltxSetFir e => Sys2Proof.Machine.execLtxSetFir e s
  | .ltxSetLevels e => Sys2Proof.Machine.execLtxSetLevels e s
  | .ltxCommit e => Sys2Proof.Machine.execLtxCommit e s
  | .commit k => Sys2Proof.Machine.execCommit k s
  | .ltxRampStep k => Sys2Proof.Machine.execLtxRampStep k s
  | .fastoffAssert => Sys2Proof.Machine.execFastoffAssert s
  | .fastoffRelease => Sys2Proof.Machine.execFastoffRelease s
  | .fastoffResume => Sys2Proof.Machine.execFastoffResume s
  | .ltxDozeTimer k => Sys2Proof.Machine.execLtxDozeTimer k s
  | .ltxWake k => Sys2Proof.Machine.execLtxWake k s
  | .ltxChkLock k start symbols => Sys2Proof.Machine.execLtxChkLock k start symbols s
  | .ltxChkLost k symbols => Sys2Proof.Machine.execLtxChkLost k symbols s
  | .ltxLbSlip k again block => Sys2Proof.Machine.execLtxLbSlip k again block s
  | .calTxRun e => Sys2Proof.Machine.execCalTxRun e s
  | .calTxAbort e => Sys2Proof.Machine.execCalTxAbort e s
  | .calTxStatus e => Sys2Proof.Machine.execCalTxStatus e s
  | .calTxMeasureEnd k skew => Sys2Proof.Machine.execCalTxMeasureEnd k skew s
  | .calTxApplyEnd k => Sys2Proof.Machine.execCalTxApplyEnd k s
  | .dacTrimStep k n => Sys2Proof.Machine.execDacTrimStep k n s
  | .ltxTtrimWrite k n data => Sys2Proof.Machine.execLtxTtrimWrite k n data s
  | .nop w => Sys2Proof.Machine.execNop w s
  | .mpy w => Sys2Proof.Machine.execMpy w s
  | .mac w => Sys2Proof.Machine.execMac w s
  | .msu w => Sys2Proof.Machine.execMsu w s
  | .add w => Sys2Proof.Machine.execAdd w s
  | .sub w => Sys2Proof.Machine.execSub w s
  | .clr w => Sys2Proof.Machine.execClr w s
  | .tfr w => Sys2Proof.Machine.execTfr w s
  | .asr w => Sys2Proof.Machine.execAsr w s
  | .asl w => Sys2Proof.Machine.execAsl w s
  | .abs w => Sys2Proof.Machine.execAbs w s
  | .neg w => Sys2Proof.Machine.execNeg w s
  | .cmp w => Sys2Proof.Machine.execCmp w s
  | .macss w => Sys2Proof.Machine.execMacss w s
  | .macsgn w => Sys2Proof.Machine.execMacsgn w s
  | .sta w => Sys2Proof.Machine.execSta w s
  | .stm w => Sys2Proof.Machine.execStm w s
  | .ldi w => Sys2Proof.Machine.execLdi w s
  | .shift w => Sys2Proof.Machine.execShift w s
  | .movr w => Sys2Proof.Machine.execMovr w s
  | .ext w => Sys2Proof.Machine.execExt w s
  | .logic w => Sys2Proof.Machine.execLogic w s
  | .mem w => Sys2Proof.Machine.execMem w s
  | .lda w => Sys2Proof.Machine.execLda w s
  | .adda w => Sys2Proof.Machine.execAdda w s
  | .mova w => Sys2Proof.Machine.execMova w s
  | .bra w => Sys2Proof.Machine.execBra w s
  | .call w => Sys2Proof.Machine.execCall w s
  | .ret w => Sys2Proof.Machine.execRet w s
  | .loop w => Sys2Proof.Machine.execLoop w s
  | .loopr w => Sys2Proof.Machine.execLoopr w s
  | .repeat w => Sys2Proof.Machine.execRepeat w s
  | .yield w => Sys2Proof.Machine.execYield w s
  | .yieldResume rack last cycles => Sys2Proof.Machine.execYieldResume rack last cycles s
  | .svc w => Sys2Proof.Machine.execSvc w s
  | .twin w bad => Sys2Proof.Machine.execTwin w bad s
  | .leave w => Sys2Proof.Machine.execLeave w s
  | .breq w same => Sys2Proof.Machine.execBreq w same s
  | .brsp w => Sys2Proof.Machine.execBrsp w s
  | .rackBusResponse rack last => Sys2Proof.Machine.execRackBusResponse rack last s
  | .movc w => Sys2Proof.Machine.execMovc w s
  | .movfc w => Sys2Proof.Machine.execMovfc w s
  | .rti w => Sys2Proof.Machine.execRti w s
  | .halt w => Sys2Proof.Machine.execHalt w s
  | .lastWatchdog rack last => Sys2Proof.Machine.execLastWatchdog rack last s
  | .rackRestart rack => Sys2Proof.Machine.execRackRestart rack s
  | .rackCtlHalt src rack data => Sys2Proof.Machine.execRackCtlHalt src rack data s
  | .tagSample rack last times => Sys2Proof.Machine.execTagSample rack last times s
  | .progWordWrite src rack word high data => Sys2Proof.Machine.execProgWordWrite src rack word high data s
  | .rackMemWrite src rack space loc data => Sys2Proof.Machine.execRackMemWrite src rack space loc data s
  | .rackHalt e => Sys2Proof.Machine.execRackHalt e s
  | .rackResume e => Sys2Proof.Machine.execRackResume e s
  | .rackStatus e => Sys2Proof.Machine.execRackStatus e s
  | .psetLoadBegin e => Sys2Proof.Machine.execPsetLoadBegin e s
  | .psetLoadEnd e => Sys2Proof.Machine.execPsetLoadEnd e s
  | .psetErase e => Sys2Proof.Machine.execPsetErase e s
  | .psetList e => Sys2Proof.Machine.execPsetList e s
  | .cntBankClear src die island data => Sys2Proof.Machine.execCntBankClear src die island data s
  | .cntRdStart src data => Sys2Proof.Machine.execCntRdStart src data s
  | .cntRdEntryResponse elapsed => Sys2Proof.Machine.execCntRdEntryResponse elapsed s
  | .cntListSet e => Sys2Proof.Machine.execCntListSet e s
  | .cntListRun e => Sys2Proof.Machine.execCntListRun e s
  | .cntBankSet e => Sys2Proof.Machine.execCntBankSet e s
  | .innerLockSet k blocks => Sys2Proof.Machine.execInnerLockSet k blocks s
  | .innerLockClear k blocks => Sys2Proof.Machine.execInnerLockClear k blocks s
  | .innerCodeword k word rel lesser => Sys2Proof.Machine.execInnerCodeword k word rel lesser s
  | .amLockSet host n lanes => Sys2Proof.Machine.execAmLockSet host n lanes s
  | .amLockClear host n => Sys2Proof.Machine.execAmLockClear host n s
  | .codewordDecode p fromHost errors blocks => Sys2Proof.Machine.execCodewordDecode p fromHost errors blocks s
  | .codewordEncode p toHost => Sys2Proof.Machine.execCodewordEncode p toHost s
  | .rateAdaptAdjust p fromHost insert place => Sys2Proof.Machine.execRateAdaptAdjust p fromHost insert place s
  | .fecSlip p fromHost => Sys2Proof.Machine.execFecSlip p fromHost s
  | .monitorSlip k => Sys2Proof.Machine.execMonitorSlip k s
  | .frameParse p fromHost fcsOk => Sys2Proof.Machine.execFrameParse p fromHost fcsOk s
  | .skewMeasurement p fromHost arrivals fill => Sys2Proof.Machine.execSkewMeasurement p fromHost arrivals fill s
  | .wakeFrameDiscard p fromHost len => Sys2Proof.Machine.execWakeFrameDiscard p fromHost len s
  | .statLatch p => Sys2Proof.Machine.execStatLatch p s
  | .statClear p => Sys2Proof.Machine.execStatClear p s
  | .fecInjCtlWrite p data => Sys2Proof.Machine.execFecInjCtlWrite p data s
  | .poolWindowWrite src die word data => Sys2Proof.Machine.execPoolWindowWrite src die word data s
  | .fecStatLatch e => Sys2Proof.Machine.execFecStatLatch e s
  | .fecPoolStatus e => Sys2Proof.Machine.execFecPoolStatus e s
  | .fecSkewReport e => Sys2Proof.Machine.execFecSkewReport e s
  | .hlTxEqWrite j data => Sys2Proof.Machine.execHlTxEqWrite j data s
  | .hlRxEqCtlWrite j data => Sys2Proof.Machine.execHlRxEqCtlWrite j data s
  | .hlCdrLockSet j fofs phase => Sys2Proof.Machine.execHlCdrLockSet j fofs phase s
  | .hlCdrLockClear j fofs phase => Sys2Proof.Machine.execHlCdrLockClear j fofs phase s
  | .hlAdaptDone j ctle h1 taps => Sys2Proof.Machine.execHlAdaptDone j ctle h1 taps s
  | .hlCtleTrack j step h1 taps => Sys2Proof.Machine.execHlCtleTrack j step h1 taps s
  | .hlSigAssert j => Sys2Proof.Machine.execHlSigAssert j s
  | .hlSigDeassert j => Sys2Proof.Machine.execHlSigDeassert j s
  | .hlWakeSeen j => Sys2Proof.Machine.execHlWakeSeen j s
  | .hlRxDozeTimer j => Sys2Proof.Machine.execHlRxDozeTimer j s
  | .hlTxDozeTimer j => Sys2Proof.Machine.execHlTxDozeTimer j s
  | .hlTxWake j => Sys2Proof.Machine.execHlTxWake j s
  | .hlWakeAmTimeout j => Sys2Proof.Machine.execHlWakeAmTimeout j s
  | .hlChkLock j start symbols => Sys2Proof.Machine.execHlChkLock j start symbols s
  | .hlChkLost j symbols => Sys2Proof.Machine.execHlChkLost j symbols s
  | .hlSlipWrite j data => Sys2Proof.Machine.execHlSlipWrite j data s
  | .captureStart j => Sys2Proof.Machine.execCaptureStart j s
  | .captureDone j words => Sys2Proof.Machine.execCaptureDone j words s
  | .hlLbSlip j again block => Sys2Proof.Machine.execHlLbSlip j again block s
  | .hlSetTxEq e => Sys2Proof.Machine.execHlSetTxEq e s
  | .hlSetRxEq e => Sys2Proof.Machine.execHlSetRxEq e s
  | .hlSlip e => Sys2Proof.Machine.execHlSlip e s
  | .hlCapture e => Sys2Proof.Machine.execHlCapture e s
  | .hlStatus e => Sys2Proof.Machine.execHlStatus e s
  | .insTimingLaunch k err => Sys2Proof.Machine.execInsTimingLaunch k err s
  | .insTxFrameDone k => Sys2Proof.Machine.execInsTxFrameDone k s
  | .insAckTimer k => Sys2Proof.Machine.execInsAckTimer k s
  | .insLinkPeriod k => Sys2Proof.Machine.execInsLinkPeriod k s
  | .insRampStep k => Sys2Proof.Machine.execInsRampStep k s
  | .insCodeDetect k energy => Sys2Proof.Machine.execInsCodeDetect k energy s
  | .insSyncDetect k hits => Sys2Proof.Machine.execInsSyncDetect k hits s
  | .insHeaderEnd k header => Sys2Proof.Machine.execInsHeaderEnd k header s
  | .insFrameReceived k header payload crc sigma => Sys2Proof.Machine.execInsFrameReceived k header payload crc sigma s
  | .insLockLoss k => Sys2Proof.Machine.execInsLockLoss k s
  | .insFofsMeasure k apart track energy => Sys2Proof.Machine.execInsFofsMeasure k apart track energy s
  | .insFofsMismatch k => Sys2Proof.Machine.execInsFofsMismatch k s
  | .insRxTimeout k => Sys2Proof.Machine.execInsRxTimeout k s
  | .insHoldEnd k => Sys2Proof.Machine.execInsHoldEnd k s
  | .insMsgRetx k => Sys2Proof.Machine.execInsMsgRetx k s
  | .insCreditTimeout k => Sys2Proof.Machine.execInsCreditTimeout k s
  | .insSlotWrite src k receive word data => Sys2Proof.Machine.execInsSlotWrite src k receive word data s
  | .insMsgSend e => Sys2Proof.Machine.execInsMsgSend e s
  | .insMsgRecv e => Sys2Proof.Machine.execInsMsgRecv e s
  | .insMsgRelease e => Sys2Proof.Machine.execInsMsgRelease e s
  | .insStatus e => Sys2Proof.Machine.execInsStatus e s
  | .insSetParam e => Sys2Proof.Machine.execInsSetParam e s
  | .insSearch e => Sys2Proof.Machine.execInsSearch e s
  | .insSearchDone k metrics => Sys2Proof.Machine.execInsSearchDone k metrics s
  | .ppsInEdge frac errA errB => Sys2Proof.Machine.execPpsInEdge frac errA errB s
  | .ppsInMiss => Sys2Proof.Machine.execPpsInMiss s
  | .hostValidityTimeout => Sys2Proof.Machine.execHostValidityTimeout s
  | .insoleSrcInvalid => Sys2Proof.Machine.execInsoleSrcInvalid s
  | .timeAlignSend => Sys2Proof.Machine.execTimeAlignSend s
  | .timeAlignMsg frac => Sys2Proof.Machine.execTimeAlignMsg frac s
  | .timeAlignTimeout => Sys2Proof.Machine.execTimeAlignTimeout s
  | .timeResResume die => Sys2Proof.Machine.execTimeResResume die s
  | .ptpEventMessage p fromHost x => Sys2Proof.Machine.execPtpEventMessage p fromHost x s
  | .ptpGeneralMessage p fromHost x => Sys2Proof.Machine.execPtpGeneralMessage p fromHost x s
  | .ctxExpire p => Sys2Proof.Machine.execCtxExpire p s
  | .rangeUpdate g fit => Sys2Proof.Machine.execRangeUpdate g fit s
  | .ppsOutRise => Sys2Proof.Machine.execPpsOutRise s
  | .ppsOutFall => Sys2Proof.Machine.execPpsOutFall s
  | .todTimeMessage => Sys2Proof.Machine.execTodTimeMessage s
  | .todNextMessage bytes => Sys2Proof.Machine.execTodNextMessage bytes s
  | .timeSetSource e => Sys2Proof.Machine.execTimeSetSource e s
  | .timeSet e => Sys2Proof.Machine.execTimeSet e s
  | .timeAdj e => Sys2Proof.Machine.execTimeAdj e s
  | .timeStatus e => Sys2Proof.Machine.execTimeStatus e s
  | .timeSetDelay e => Sys2Proof.Machine.execTimeSetDelay e s
  | .timeWlSet e => Sys2Proof.Machine.execTimeWlSet e s
  | .timeModelSet e => Sys2Proof.Machine.execTimeModelSet e s
  | .timeRangeReport e => Sys2Proof.Machine.execTimeRangeReport e s
  | .timeCtxFlush e => Sys2Proof.Machine.execTimeCtxFlush e s
  | .timePpsSet e => Sys2Proof.Machine.execTimePpsSet e s
  | .timeTodserSet e => Sys2Proof.Machine.execTimeTodserSet e s
  | .timePortSet e => Sys2Proof.Machine.execTimePortSet e s
  | .loopTick l => Sys2Proof.Machine.execLoopTick l s
  | .tgtModeRequest l data => Sys2Proof.Machine.execTgtModeRequest l data s
  | .tgtSpWrite l data => Sys2Proof.Machine.execTgtSpWrite l data s
  | .tgtLoopCfg e => Sys2Proof.Machine.execTgtLoopCfg e s
  | .tgtLoopGains e => Sys2Proof.Machine.execTgtLoopGains e s
  | .tgtLoopLimits e => Sys2Proof.Machine.execTgtLoopLimits e s
  | .tgtSetMode e => Sys2Proof.Machine.execTgtSetMode e s
  | .tgtSetSp e => Sys2Proof.Machine.execTgtSetSp e s
  | .tgtStatus e => Sys2Proof.Machine.execTgtStatus e s
  | .tgtClearFlags e => Sys2Proof.Machine.execTgtClearFlags e s
  | .cdacCfgWrite n data => Sys2Proof.Machine.execCdacCfgWrite n data s
  | .cdacCodeWrite n data => Sys2Proof.Machine.execCdacCodeWrite n data s
  | .softwareStrobe data => Sys2Proof.Machine.execSoftwareStrobe data s
  | .cdacCfg e => Sys2Proof.Machine.execCdacCfg e s
  | .cdacSetCode e => Sys2Proof.Machine.execCdacSetCode e s
  | .cdacGroup e => Sys2Proof.Machine.execCdacGroup e s
  | .cdacStrobe e => Sys2Proof.Machine.execCdacStrobe e s
  | .sineCfg e => Sys2Proof.Machine.execSineCfg e s
  | .penSet e => Sys2Proof.Machine.execPenSet e s
  | .cdacStatus e => Sys2Proof.Machine.execCdacStatus e s
  | .sineStop g => Sys2Proof.Machine.execSineStop g s
  | .cdacRefFault within => Sys2Proof.Machine.execCdacRefFault within s
  | .monConversion raw => Sys2Proof.Machine.execMonConversion raw s
  | .monPublish c => Sys2Proof.Machine.execMonPublish c s
  | .fadeEnd c => Sys2Proof.Machine.execFadeEnd c s
  | .chkFault => Sys2Proof.Machine.execChkFault s
  | .chkOk => Sys2Proof.Machine.execChkOk s
  | .run run => Sys2Proof.Machine.execRun run s
  | .slotCommit => Sys2Proof.Machine.execSlotCommit s
  | .slotTableApply => Sys2Proof.Machine.execSlotTableApply s
  | .odRequest src data => Sys2Proof.Machine.execOdRequest src data s
  | .diagStart data => Sys2Proof.Machine.execDiagStart data s
  | .diagDone => Sys2Proof.Machine.execDiagDone s
  | .monCalAverageDone => Sys2Proof.Machine.execMonCalAverageDone s
  | .firCommit c data => Sys2Proof.Machine.execFirCommit c data s
  | .monSlotSet e => Sys2Proof.Machine.execMonSlotSet e s
  | .monSlotCommit e => Sys2Proof.Machine.execMonSlotCommit e s
  | .monChCfg e => Sys2Proof.Machine.execMonChCfg e s
  | .monFirSet e => Sys2Proof.Machine.execMonFirSet e s
  | .monFirCommit e => Sys2Proof.Machine.execMonFirCommit e s
  | .monConvert e => Sys2Proof.Machine.execMonConvert e s
  | .monCalZero e => Sys2Proof.Machine.execMonCalZero e s
  | .monCalFs e => Sys2Proof.Machine.execMonCalFs e s
  | .monChkDiag e => Sys2Proof.Machine.execMonChkDiag e s
  | .monChkSet e => Sys2Proof.Machine.execMonChkSet e s
  | .monStatus e => Sys2Proof.Machine.execMonStatus e s
  | .i2cWrite offset bytes ended => Sys2Proof.Machine.execI2cWrite offset bytes ended s
  | .i2cRead count => Sys2Proof.Machine.execI2cRead count s
  | .i2cDoorbell => Sys2Proof.Machine.execI2cDoorbell s
  | .i2cWindowAccess value => Sys2Proof.Machine.execI2cWindowAccess value s
  | .i2cBusTimeout => Sys2Proof.Machine.execI2cBusTimeout s
  | .spiWrite addr words => Sys2Proof.Machine.execSpiWrite addr words s
  | .spiRead addr words => Sys2Proof.Machine.execSpiRead addr words s
  | .spiStatus => Sys2Proof.Machine.execSpiStatus s
  | .spiId => Sys2Proof.Machine.execSpiId s
  | .cmisApplyDpInit bank paths => Sys2Proof.Machine.execCmisApplyDpInit bank paths s
  | .cmisDpDeinit lane deinit => Sys2Proof.Machine.execCmisDpDeinit lane deinit s
  | .cmisOutputDisable lane disable => Sys2Proof.Machine.execCmisOutputDisable lane disable s
  | .cmisMonitorRefresh supply => Sys2Proof.Machine.execCmisMonitorRefresh supply s
  | .vendorPageUpdate page bank => Sys2Proof.Machine.execVendorPageUpdate page bank s
  | .doorbell src data => Sys2Proof.Machine.execDoorbell src data s
  | .commandBegin => Sys2Proof.Machine.execCommandBegin s
  | .completionPost e => Sys2Proof.Machine.execCompletionPost e s
  | .consumerIndexWrite src ring data => Sys2Proof.Machine.execConsumerIndexWrite src ring data s
  | .cmdTimeout e => Sys2Proof.Machine.execCmdTimeout e s
  | .mbxVersion e => Sys2Proof.Machine.execMbxVersion e s
  | .mbxEcho e => Sys2Proof.Machine.execMbxEcho e s
  | .hifWinOpen e => Sys2Proof.Machine.execHifWinOpen e s
  | .hifWinClose e => Sys2Proof.Machine.execHifWinClose e s
  | .cmisCtl e => Sys2Proof.Machine.execCmisCtl e s
  | .fwUpdateBegin e => Sys2Proof.Machine.execFwUpdateBegin e s
  | .fwUpdateChunk e fail => Sys2Proof.Machine.execFwUpdateChunk e fail s
  | .fwUpdateEnd e => Sys2Proof.Machine.execFwUpdateEnd e s
  | .fwActivate e => Sys2Proof.Machine.execFwActivate e s
  | .fwCommit e => Sys2Proof.Machine.execFwCommit e s
  | .fwStatus e => Sys2Proof.Machine.execFwStatus e s
  | .secStageOpen e => Sys2Proof.Machine.execSecStageOpen e s
  | .secCertApply e => Sys2Proof.Machine.execSecCertApply e s
  | .debugChallenge e => Sys2Proof.Machine.execDebugChallenge e s
  | .debugUnlock e => Sys2Proof.Machine.execDebugUnlock e s
  | .debugLock e => Sys2Proof.Machine.execDebugLock e s
  | .keyList e => Sys2Proof.Machine.execKeyList e s
  | .bootSelect => Sys2Proof.Machine.execBootSelect s
  | .recoveryGo src data fail => Sys2Proof.Machine.execRecoveryGo src data fail s
  | .bootWatchdog => Sys2Proof.Machine.execBootWatchdog s
  | .aqiqueReady => Sys2Proof.Machine.execAqiqueReady s
  | .lockstepMismatch pc => Sys2Proof.Machine.execLockstepMismatch pc s
  | .memStatus e => Sys2Proof.Machine.execMemStatus e s
  | .memBucketSet e => Sys2Proof.Machine.execMemBucketSet e s
  | .memHardList e => Sys2Proof.Machine.execMemHardList e s
  | .calStoreInfo e => Sys2Proof.Machine.execCalStoreInfo e s
  | .calStageOpen e => Sys2Proof.Machine.execCalStageOpen e s
  | .calStoreWrite e fate => Sys2Proof.Machine.execCalStoreWrite e fate s
  | .eventRecordArrival => Sys2Proof.Machine.execEventRecordArrival s
  | .flushAgeTimer => Sys2Proof.Machine.execFlushAgeTimer s
  | .ringRecordWrite fail => Sys2Proof.Machine.execRingRecordWrite fail s
  | .emergencyCopy => Sys2Proof.Machine.execEmergencyCopy s
  | .recorderClockAlign => Sys2Proof.Machine.execRecorderClockAlign s
  | .freezeLimit => Sys2Proof.Machine.execFreezeLimit s
  | .evrWinLatch src => Sys2Proof.Machine.execEvrWinLatch src s
  | .evrFreeze e => Sys2Proof.Machine.execEvrFreeze e s
  | .evrThaw e => Sys2Proof.Machine.execEvrThaw e s
  | .evrStatus e => Sys2Proof.Machine.execEvrStatus e s
  | .evrMark e => Sys2Proof.Machine.execEvrMark e s
  | .evrMarkTimeout e => Sys2Proof.Machine.execEvrMarkTimeout e s
  | .powerOnResetRelease => Sys2Proof.Machine.execPowerOnResetRelease s
  | .supplyLoss => Sys2Proof.Machine.execSupplyLoss s
  | .pfailAssert => Sys2Proof.Machine.execPfailAssert s
  | .pfailRelease => Sys2Proof.Machine.execPfailRelease s
  | .resetNAssert => Sys2Proof.Machine.execResetNAssert s
  | .softwareReset => Sys2Proof.Machine.execSoftwareReset s
  | .lpmodeChange high => Sys2Proof.Machine.execLpmodeChange high s
  | .lowPowerEntry => Sys2Proof.Machine.execLowPowerEntry s
  | .pgLoss n => Sys2Proof.Machine.execPgLoss n s
  | .penReleaseStep => Sys2Proof.Machine.execPenReleaseStep s
  | .restartStepDone seq obj => Sys2Proof.Machine.execRestartStepDone seq obj s
  | .restartStepTimeout seq obj dies => Sys2Proof.Machine.execRestartStepTimeout seq obj dies s
  | .lineWakeAmTimeout k => Sys2Proof.Machine.execLineWakeAmTimeout k s
  | .faultIslandOff => Sys2Proof.Machine.execFaultIslandOff s
  | .thmMeasurement n count => Sys2Proof.Machine.execThmMeasurement n count s
  | .wearMeasure ws => Sys2Proof.Machine.execWearMeasure ws s
  | .avsStep => Sys2Proof.Machine.execAvsStep s
  | .lifeMinute => Sys2Proof.Machine.execLifeMinute s
  | .lifeStore => Sys2Proof.Machine.execLifeStore s
  | .pwrStatus e => Sys2Proof.Machine.execPwrStatus e s
  | .pwrReset e => Sys2Proof.Machine.execPwrReset e s
  | .pwrLowpwr e => Sys2Proof.Machine.execPwrLowpwr e s
  | .pwrWearReport e => Sys2Proof.Machine.execPwrWearReport e s
  | .pwrLifeReport e => Sys2Proof.Machine.execPwrLifeReport e s
  | .thmStatus e => Sys2Proof.Machine.execThmStatus e s
  | .thmSetThresh e => Sys2Proof.Machine.execThmSetThresh e s
  | .thmMeasure e count => Sys2Proof.Machine.execThmMeasure e count s
  | .thmSensorRetire e => Sys2Proof.Machine.execThmSensorRetire e s
  | .hlBitSlip j => Sys2Proof.Machine.execHlBitSlip j s
  | .ditherSample => Sys2Proof.Machine.execDitherSample s
  | .resetNRelease => Sys2Proof.Machine.execResetNRelease s
  | .ltxClip k sub src => Sys2Proof.Machine.execLtxClip k sub src s

end Sys2Proof.Machine
end

