-- ==== Sys2Proof/Machine/Tick.lean ====
section
/-!
DEFINITION. Sys2Proof/Machine/Tick.lean: what a microsecond does while no command waits: time, the time-of-day counters
(R222, R225, R229), the cycle counts (R109, R135), the replay window (R31), the steps of interleave and skew trims (R79, R102), the millisecond shares of thermal counts (R418)
and the next step of Aqique's start-up table (R284).
-/

namespace Sys2Proof.Machine

/-! ## Clocks (R15, R17) -/

/-- The clock of an island, in 1/64 MHz; 0 while it does not run there. `x` chooses between the clocks of an island that has
several. -/
def State.islandRate (s : State) (id x : Nat) : Nat :=
  let d := id / 0x1000
  let n := id % 0x1000
  let pclk (k : Nat) : Nat :=
    if s.locked d (lpllBit k) = false then 0 else if s.flag LRX_CFG.INNER k then 113440 else 106250
  let hclk : Nat := if s.locked d 2 then 106250 else 0
  if s.island id ≠ .on then 0
  else if n = 0 then 10000
  else if n = 1 then 64000
  else if d = 0 then 51200
  else if n = 2 then (if x % 2 = 0 then hclk else pclk (4 * (d - 1) + x / 2 % 4))
  else if n = 3 then (if s.locked d 0 then 80000 else 0)
  else if n = 4 then pclk (4 * (d - 1) + x % 4)
  else if n < 0x20 then pclk (4 * (d - 1) + n % 4)
  else if n < 0x40 then hclk
  else if s.locked d 1 then 96000
  else 0

/-- Cycles of a clock of rate `r` in the microsecond that ends now. -/
def cyclesAt (r now : Nat) : Nat := r * now / 64 - r * (now - 1) / 64

/-- Event 0x01 of an island's bank: its clock cycles. Which of an island's clocks is counted is open. -/
def State.bankTick (s : State) (id : Nat) : State :=
  let (x, s) := s.free
  s.perf id 0x01 {} (cyclesAt (s.islandRate id x) s.now)

/-- A microsecond in which a message waits for a credit (R136): a request at the island it leaves from, a response at its target's.
Waits below a microsecond are not counted (DESIGN CHOICE, log entry 148). -/
def State.creditWait (s : State) (r : Request) : State :=
  let count (s : State) (id cls : Nat) : State :=
    let (x, s) := s.free
    s.perf id 0x07 { cls := some cls } (cyclesAt (s.islandRate id x) s.now)
  if s.reachable r.addr = false then s
  else
    match r.got with
    | none =>
      if s.hasCredit r.src r.addr false then s
      else match masterIsland r.src with | some i => count s i 0 | none => s
    | some _ =>
      if s.hasCredit r.src r.addr true then s
      else match blockAt r.addr with | some (b, _) => count s b.island 1 | none => s

/-- The banks with an enabled counter. -/
def State.banksOn (s : State) : List Nat := (s.regs.filter (fun p => p.1.reg == .CNT_BANK_CTL)).map (fun p => p.1.u)

/-- RACK_CYC_CNT and RACK_DUTY_GATED_CNT of a rack that runs. -/
def State.rackTick (s : State) (r : Nat) : State :=
  if s.island (rackIsland r) = .on ∧ s.locked (dieOfRack r) 1 then
    let s := s.inc .RACK_CYC_CNT r 0 1500
    match s.fld RACK_STAT.DUTY_EFF r with
    | 0 => s
    | 1 => s.inc .RACK_DUTY_GATED_CNT r 0 750
    | _ => s.inc .RACK_DUTY_GATED_CNT r 0 1125
  else s

/-! ## Time of day (R222, R225, R228, R229) -/

/-- The most a die's slew moves its counter in a microsecond, in 2^-48 ns: ±100 ppm, or ±10 ppm for the follower. -/
def State.slewMax (s : State) (d : Nat) : Nat := (if d = s.primary then 100 else 10) * nsUnit / 1000

/-- A die's counter moves by a microsecond at its rate, with a part of the correction that is still to be slewed. -/
def State.clockTick (s : State) (d : Nat) : State :=
  if s.timeRuns d = false then s
  else
    let c := s.clock d
    let m : Int := s.slewMax d
    let part := clampI (-m) m c.slew
    let rate : Int := 1000 * nsUnit + s.sfld TIME_FREQ.FREQ d * 2 ^ 36 / 1000000
    s.setClock d { c with acc := ((c.acc : Int) + rate + part).toNat, slew := c.slew - part }

/-! ## The tick -/

/-- A link's 1 ms window of replays ends. -/
def State.linkTick (s : State) (l : Nat) : State :=
  let v := s.link l
  let s := (linkEnds l).foldl (fun (s : State) e => s.put WELT_STAT.REPLAYS_1MS (min 255 v.window) e.1 e.2) s
  s.setLink l { v with window := 0 }

/-- What happens at each millisecond. -/
def State.milliTick (s : State) : State :=
  ((List.range 3).foldl (fun (s : State) l => s.linkTick l) s).thermalTick

/-- A microsecond in which no command waits. With reset held only time passes. -/
def State.idle (s : State) : State :=
  let s := { s with now := s.now + 1 }
  if s.pwr.held then s
  else
    let s := (s.clockTick 1).clockTick 2
    let s := (List.range 64).foldl (fun (s : State) r => s.rackTick r) s
    let s := (List.range 8).foldl (fun (s : State) k => (s.adcTick k).dacTick k) s
    let s := s.waiting.foldl State.creditWait s
    let s := s.banksOn.foldl (fun (s : State) id => s.bankTick id) s
    let s := if s.now % 1000 = 0 then s.milliTick else s
    if s.aqiqueRuns then s.scriptStep else s

end Sys2Proof.Machine
end

