-- ==== Sys2Proof/Safety.lean ====
section
/-!
DEFINITION. Sys2Proof/Safety.lean: the terms the statements use: what a command completes with, what it leaves alone, what
it means that a mailbox command runs, and the invariant of the block.
-/

namespace Sys2Proof

open Machine

/-! ## Completion -/

/-- The command answers a next state, and that state has the property. -/
def Completes (c : Instr) (s : State) (P : State → Prop) : Prop :=
  ∃ t, Machine.exec c s = .next t ∧ P t

/-- Aqique runs the command with this class and number for eyelet `e`: the eyelet has begun it, its turn has come, and its
handler has not started (R331, R332). -/
abbrev Runs (s : State) (e : Fin 256) (cls cmd : Nat) : Prop :=
  s.aqiqueRuns = true ∧ s.turnOf e = true ∧ (s.eyelet e).st = .running ∧ (s.eyelet e).started = false ∧ (s.eyelet e).reply = none ∧
    descByte (s.eyelet e).desc 2 = cls ∧ descByte (s.eyelet e).desc 3 = cmd

/-- The parameters of the command in eyelet `e`. -/
def Machine.State.params (s : State) (e : Fin 256) : Params := paramsOf (s.eyelet e).desc

/-- The state in which the handler of eyelet `e`'s command runs. -/
def Machine.State.begun (s : State) (e : Fin 256) : State := s.setEyelet e { s.eyelet e with started := true }

/-- The completion that eyelet `e` holds (R333): STATUS, RESULT0 and RESULT1. -/
abbrev Answered (t : State) (e : Fin 256) (status : Nat) (r0 r1 : Nat := 0) : Prop :=
  (t.eyelet e).reply = some ⟨status, r0, r1⟩

/-- Eyelet `e` has completed with success, whatever the result words. -/
def Succeeded (t : State) (e : Fin 256) : Prop := ∃ r0 r1, Answered t e 0 r0 r1

/-- The events that the command sent, after those that were on their way. -/
abbrev Logged (s t : State) (evs : List Event) : Prop := t.events = s.events ++ evs

/-- The command sent an event with this code, severity and parameters. -/
def Sent (s t : State) (code sev : Nat) (p0 p1 p2 p3 : Nat := 0) : Prop :=
  ∃ pre post, t.events = s.events ++ pre ++ ⟨code, sev, p0, p1, p2, p3, none⟩ :: post

/-- A saturating counter that has counted `n` more (R135). -/
def saturated (v : W48) (n : Nat := 1) : W48 := BitVec.ofNat 48 (min (v.toNat + n) cntMax)

/-- The reader has stored the entry under way, `elapsed` MCLK cycles after the one before it, with a RESP code and a value; the
run goes on, or it ends with DONE, the check of its span and the completion of the command that waits (R140, R141). -/
def ReaderStored (s t : State) (code value elapsed : Nat) : Prop :=
  let r := s.reader
  let span := r.elapsed + elapsed
  t.wide .CNT_RES 0 (64 * r.list + r.index) = BitVec.ofNat 256 (value + code * 2 ^ 56 + 2 ^ 63) ∧
  t.fld CNT_RD_STAT.ENTRIES = (r.index + 1) % 128 ∧
  (r.index + 1 < r.count →
    t.flag CNT_RD_STAT.BUSY = true ∧ t.reader = { r with index := r.index + 1, elapsed := span }) ∧
  (r.count ≤ r.index + 1 →
    t.flag CNT_RD_STAT.BUSY = false ∧ t.flag CNT_RD_STAT.DONE = true ∧ t.flag CNT_CAUSE.RD_DONE = true ∧
    t.wide .CNT_RD_T_LAST = s.wide .CNT_RD_T_FIRST + BitVec.ofNat 256 span ∧
    (span ≤ 360 * r.count → t.flag CNT_RD_STAT.SKEW_EXCEEDED = s.flag CNT_RD_STAT.SKEW_EXCEEDED) ∧
    (360 * r.count < span → t.flag CNT_RD_STAT.SKEW_EXCEEDED = true ∧ t.flag CNT_CAUSE.SKEW = true ∧
      Sent s t 0x1302 sevWarn r.list r.count (span % 2 ^ 32)) ∧
    (∀ w, r.waiter = some w → w.aqique = false → (s.eyelet w.eyelet).st = .running →
      (s.eyelet w.eyelet).serial = w.serial → (s.eyelet w.eyelet).reply = none →
      (t.eyelet w.eyelet).reply = some ⟨0, (t.reg .CNT_RD_STAT).toNat, span % 2 ^ 32⟩))

/-! ## Requests and instructions that run -/

/-- The island of the block at an address is on, so that its gate lets a request through (R34). -/
def Machine.State.serves (s : State) (a : Nat) : Bool :=
  match blockAt a with
  | some (b, _) => s.island b.island == .on
  | none => false

/-- The master can issue a request to the address, neither it nor its response has to wait, and the target serves it (R26, R27,
R30). -/
abbrev Issues (s : State) (m : Master) (a : Nat) : Prop :=
  s.canIssue m = true ∧ s.mustWait m a = false ∧ s.hasCredit m a true = true ∧ s.serves a = true

/-- The master may write all of what is at the address (R325, R346), and the write reaches it. -/
abbrev Writes (s : State) (m : Master) (a : Nat) : Prop :=
  Issues s m a ∧ (isHost m = true → s.hostPerm m a = .full) ∧ (m = .jtag → s.fld SEC_STAT.DEBUG_LEVEL = 2)

/-- The master's latest request was answered with OK. -/
abbrev Accepted (t : State) (m : Master) : Prop := (t.reply m).resp = .ok

/-- A register whose write has an effect of its own, beyond its access code. -/
def ownEffect (r : Reg) : Bool :=
  match r with
  | .WELT_CTL | .LRX_AFE_CTL | .LRX_CDR_CTL | .LRX_DET_CTL | .LRX_THR | .LRX_FFE_COEF | .LRX_VNLE_KERN | .LRX_ADC_TTRIM
  | .LRX_HIST_CTL | .LTX_CTL | .LTX_TEST_CTL | .LTX_DAC_TTRIM | .RACK_CTL | .CNT_BANK_CLR | .CNT_RD_CTL | .FEC_STAT_CTL
  | .FEC_INJ_CTL | .HL_RX_EQ_CTL | .HL_TX_EQ | .HL_SLIP | .HL_CAP_CTL | .INS_TX_CFG | .TIME_PPS_CFG | .TGT_LOOP_MODE | .TGT_LOOP_SP
  | .CDAC_STROBE | .CDAC_PEN | .CDAC_CFG | .CDAC_CODE | .CDAC_LIM | .CDAC_SAFE | .MON_CTL | .MON_CHK_CTL | .MON_OD_REQ
  | .MON_IN_ZERO | .MON_IN_GAIN | .MON_CH_CFG | .MON_CH_DEC | .MON_CH_CTL | .MON_FIRA | .MON_FIRB | .MBX_DOORBELL
  | .MBX_CR_CONS_PTR | .HIF_WIN_BASE | .HIF_WIN_LIMIT | .SEC_RECOVERY_LEN | .SEC_RECOVERY_CTL => true
  | r => isLoopRwl r

/-- The registers that count and report what the buses do (R135, R136): any request may change them. -/
def countsBus (r : Reg) : Bool := r == .CNT_VAL || r == .CNT_BANK_OVF || r == .CNT_CAUSE || r == .CNT_DIE_CAUSE

/-- The last at `w` issues the instruction word at its PC, which it may fetch (R117, R124). -/
abbrev Issuing (s : State) (w : LastAt) (word : W32) : Prop :=
  s.lastIssues w.rack w.last = true ∧
    ((s.last w.rack w.last).super = true ∨ 2048 ≤ (s.last w.rack w.last).pc.toNat) ∧
    (s.fetchLast w.rack (s.last w.rack w.last)).1 = some word

/-- The value of a data-register or memory operand of a last (R114, R115); none where the read traps. -/
def Machine.State.operandValue (s : State) (w : LastAt) (code : Nat) : Option W24 :=
  let y := s.last w.rack w.last
  if code < 8 then some (y.D code)
  else if y.protects (y.P (code - 8)) then none
  else
    match classify (s.word (dataAddr w.rack w.last (decide (12 ≤ code)) (y.P (code - 8)))) with
    | .clean d => some (d.setWidth 24)
    | .corrected d => some (d.setWidth 24)
    | _ => none

/-- The commands that can put the block into its reset state, or release it. -/
def isReset (c : Instr) : Bool :=
  match c with
  | .supplyLoss | .powerOnResetRelease | .resetNAssert | .resetNRelease | .softwareReset | .bootWatchdog => true
  | _ => false

/-- The command resets the block in this state (R392, R395, R339). -/
def TakesReset (c : Instr) (s : State) : Prop :=
  match c with
  | .supplyLoss => True
  | .resetNAssert => s.pwr.resetLow = false ∧ s.pwr.supplyLow = false
  | .softwareReset => s.pwr.held = false ∧ ∃ r due, s.pwr.resetDue = some r ∧ r.due = some due ∧ due ≤ s.now
  | .bootWatchdog => s.pwr.held = false ∧ s.pwr.boot = .started
  | _ => False

/-- In FAULT no step of the start-up, of the entry to READY or of an optics rail is under way. -/
def FaultQuiet (s : State) : Prop := s.pwrState = pwrFault → ∀ q ∈ s.pwr.seqs, 3 < q.num

/-! ## Frames -/

/-- The parts of the state beside the queue, the registers, the counters and the wide quantities. -/
inductive Part where
  | now | freeIx | mem | islands | events | offLogged | rate | snaps | replies | waiting | links | onDie | draining | pllArmed | mode
  | mbx | inits | pwr | sensors | life | aqReplies | ctl | opt | mon | lines | psets | racks | lasts | fec | shadow
  | fenced | hosts | ins | time | boot | stage | sec | denied | spi | i2c | cmis | cal | reader | evr
  deriving DecidableEq, Repr

/-- The part is the same in both states. -/
def Part.same (s t : State) : Part → Prop
  | .now => t.now = s.now
  | .freeIx => t.freeIx = s.freeIx
  | .mem => t.mem = s.mem
  | .islands => t.islands = s.islands
  | .events => t.events = s.events
  | .offLogged => t.offLogged = s.offLogged
  | .rate => t.rate = s.rate
  | .snaps => t.snaps = s.snaps
  | .replies => t.replies = s.replies
  | .waiting => t.waiting = s.waiting
  | .links => t.links = s.links
  | .onDie => t.onDie = s.onDie
  | .draining => t.draining = s.draining
  | .pllArmed => t.pllArmed = s.pllArmed
  | .mode => t.mode = s.mode
  | .mbx => t.mbx = s.mbx
  | .inits => t.inits = s.inits
  | .pwr => t.pwr = s.pwr
  | .sensors => t.sensors = s.sensors
  | .life => t.life = s.life
  | .aqReplies => t.aqReplies = s.aqReplies
  | .ctl => t.ctl = s.ctl
  | .opt => t.opt = s.opt
  | .mon => t.mon = s.mon
  | .lines => t.lines = s.lines
  | .psets => t.psets = s.psets
  | .racks => t.racks = s.racks
  | .lasts => t.lasts = s.lasts
  | .fec => t.fec = s.fec
  | .shadow => t.shadow = s.shadow
  | .fenced => t.fenced = s.fenced
  | .hosts => t.hosts = s.hosts
  | .ins => t.ins = s.ins
  | .time => t.time = s.time
  | .boot => t.boot = s.boot
  | .stage => t.stage = s.stage
  | .sec => t.sec = s.sec
  | .denied => t.denied = s.denied
  | .spi => t.spi = s.spi
  | .i2c => t.i2c = s.i2c
  | .cmis => t.cmis = s.cmis
  | .cal => t.cal = s.cal
  | .reader => t.reader = s.reader
  | .evr => t.evr = s.evr

/-- Every register, counter and wide quantity outside `rs` is the same in both states. -/
def SameRegs (rs : List Reg) (s t : State) : Prop :=
  ∀ r, r ∉ rs → ∀ u i, t.reg r u i = s.reg r u i ∧ t.cnt r u i = s.cnt r u i ∧ t.wide r u i = s.wide r u i

/-- Whenever the command answers a next state, it has left alone the queue, every part outside `ps` and every register,
counter and wide quantity outside `rs`. Memory is a part: a command without it in `ps` leaves every word as it was. -/
def Keeps (c : Instr) (ps : List Part) (rs : List Reg) : Prop :=
  ∀ s t, Machine.exec c s = .next t → t.pending = s.pending ∧ (∀ p, p ∉ ps → p.same s t) ∧ SameRegs rs s t

/-- The address that the STM or MEM instruction at a last's PC stores to (R114, R115); none for any other instruction. -/
def Machine.State.storesAt (s : State) (w : LastAt) : Option Nat :=
  let y := s.last w.rack w.last
  let at_ (ptr : Nat) : Nat := dataAddr w.rack w.last (decide (4 ≤ ptr)) (y.P ptr)
  match (s.fetchLast w.rack y).1.bind decodeLast with
  | some (.stm _ ptr _ _) => some (at_ ptr)
  | some (.mem true _ ptr _) => some (at_ ptr)
  | _ => none

/-- Every word of memory outside `here` is as it was, or it read correctable and has been written back with the same data
(R355, R359). -/
def SameWords (here : Nat → Prop) (s t : State) : Prop :=
  ∀ a, ¬ here a → t.word a = s.word a ∨ ∃ d, classify (s.word a) = .corrected d ∧ t.word a = protect d

/-- No address at all. -/
abbrev nowhere (_ : State) (_ : Nat) : Prop := False

/-- Whenever the command answers a next state, every word of memory that is not where it stores holds the data it held. -/
def KeepsWords (c : Instr) (here : State → Nat → Prop) : Prop :=
  ∀ s t, Machine.exec c s = .next t → SameWords (here s) s t

/-- Whenever the command answers a next state, the registers of `rs` have changed at the unit and index `here` only. -/
def KeepsElsewhere (c : Instr) (here : State → Nat → Nat → Prop) (rs : List Reg) : Prop :=
  ∀ s t, Machine.exec c s = .next t → ∀ r ∈ rs, ∀ u i, ¬ here s u i →
    t.reg r u i = s.reg r u i ∧ t.cnt r u i = s.cnt r u i ∧ t.wide r u i = s.wide r u i

/-- Whenever the command answers a next state, every last but the one at `w` is as it was. -/
def KeepsOtherLasts (c : Instr) (w : LastAt) : Prop :=
  ∀ s t, Machine.exec c s = .next t → ∀ r l, ¬ (r = w.rack.val ∧ l = w.last.val) → t.last r l = s.last r l

/-- What an instruction of a last that completes leaves alone: the queue, every other last, every part of the state but the
last, its rack's issue count, memory and its controllers and the event log, every register but the counters of the rack's
slots, of corrected errors and of the performance banks and `rs`, and every word but the one it stores to. -/
def IssueKeeps (w : LastAt) (rs : List Reg) (s t : State) : Prop :=
  t.pending = s.pending ∧ (∀ p, p ∉ [Part.lasts, .racks, .mem, .ctl, .freeIx, .events, .rate] → p.same s t) ∧
    SameRegs ([.RACK_SLOT_RET_CNT, .RACK_SLOT_WASTE_CNT, .RACK_SLOT_FRONT_CNT, .RACK_SLOT_BACK_CNT, .RACK_BANK_CONF_CNT,
      .RACK_BUS_WAIT_CNT, .CNT_VAL, .CNT_BANK_OVF, .CNT_CAUSE, .CNT_DIE_CAUSE, .MEM_CORR_CNT, .MEM_BKT_STAT,
      .MEM_CAUSE, .MEM_HARD, .MEM_STAT] ++ rs) s t ∧
    SameWords (fun a => s.storesAt w = some a) s t ∧
    ∀ r l, ¬ (r = w.rack.val ∧ l = w.last.val) → t.last r l = s.last r l

/-- What a request on the bus leaves alone beside what its own effect names: the queue, every part but the master's reply,
the event log and `ps`, every register but those that count bus traffic and `rs`, and every word outside `here`. -/
def BusKeeps (ps : List Part) (rs : List Reg) (here : Nat → Prop) (s t : State) : Prop :=
  t.pending = s.pending ∧ (∀ p, p ∉ .replies :: .events :: .rate :: ps → p.same s t) ∧
    SameRegs (.CNT_VAL :: .CNT_BANK_OVF :: .CNT_CAUSE :: .CNT_DIE_CAUSE :: rs) s t ∧ SameWords here s t

/-! ## The invariant -/

/-- Memory in its canonical form: byte addresses strictly rising. A word that nothing has written has an open value, so that
no listed value equals an unlisted one. -/
def Memory.wf : List (Nat × W72) → Bool
  | [] => true
  | [_] => true
  | (a, _) :: (b, w) :: m => decide (a < b) && Memory.wf ((b, w) :: m)

/-- The sparse maps of the state are in their canonical form: equal contents are equal data. -/
abbrev Machine.State.Canonical (s : State) : Prop :=
  canonical RKey.lt (fun k => k.reg.reset k.i) s.regs = true ∧
  canonical RKey.lt (fun _ => 0) s.cnts = true ∧
  canonical RKey.lt (fun _ => 0) s.wides = true ∧
  canonical natLt islandReset s.islands = true ∧
  canonical natLt (fun _ => ({} : Channel)) s.onDie = true ∧
  Memory.wf s.mem = true

/-- The block has the units the spec gives it: 3 links, 8 line lanes, 16 host lanes, 8 FEC ports, 8 insole lanes, 24
sensors, 48 loops, 8 sine generators, 32 monitor channels and inputs, 2 time-of-day counters, 2 firmware slots and 8 ports, and
what the time service keeps per line lane, fibre group, port and die, and the trackers per die. -/
abbrev Machine.State.Shaped (s : State) : Prop :=
  s.links.length = 3 ∧ s.lines.length = 8 ∧ s.hosts.length = 16 ∧ s.fec.length = 8 ∧ s.ins.length = 8 ∧
  s.sensors.length = 24 ∧ s.opt.loops.length = 48 ∧ s.opt.sines.length = 8 ∧ s.mon.chans.length = 32 ∧
  s.mon.ins.length = 32 ∧ s.time.clocks.length = 2 ∧ s.sec.slots.length = 2 ∧ s.mode.ports.length = 8 ∧
  s.time.sent.length = 8 ∧ s.time.xchs.length = 8 ∧ s.time.asym.length = 8 ∧ s.time.wl.length = 8 ∧
  s.time.ranging.length = 8 ∧ s.time.tsq.length = 8 ∧ s.time.twoAt.length = 8 ∧ s.time.ctxs.length = 2 ∧
  s.ctl.trackers.length = 3

/-- The invariant of the block. -/
abbrev Machine.State.Inv (s : State) : Prop := s.Canonical ∧ s.Shaped

end Sys2Proof
end

