-- ==== Sys2Proof/Certificates/Slice0/Obligations.lean ====
section
/-!
DEFINITION. Sys2Proof/Certificates/Slice0/Obligations.lean: the statements for the provers.
-/

open Sys2Proof Sys2Proof.Machine

/-- Lasts: MPY, MAC, MSU, ADD, SUB, CLR and TFR give their accumulator and flags. For each of MPY, MAC, MSU, ADD,
SUB, CLR and TFR: whenever a last issues the instruction and both operands deliver data (a data register, or an
accessible X or Y location that reads clean or corrected), the command answers a next state. There the
accumulator holds the exact result limited to 56 bits, SR has the Z, N, V and sticky AV of that result, and CAP
has written the value read for S1 into D[cd]; other accumulators and data registers keep their values. (R111,
R114, R115) -/
def Obligations.LastArithmeticResults : Prop :=
  (∀ (w : LastAt) (s : State) (word : W32) (a s1 s2 modx mody : Nat) (cap : Bool) (cd : Nat) (v1 v2 : W24),
    Issuing s w word → decodeLast word = some (.arith 0x1 a s1 s2 modx mody cap cd) →
    s.operandValue w s1 = some v1 → s.operandValue w s2 = some v2 →
    Completes (.mpy w) s fun t =>
      let x : Int := v1.toInt * v2.toInt;
      (t.last w.rack w.last).a = (s.last w.rack w.last).a.set a (BitVec.ofInt 56 (accSat x)) ∧
      (t.last w.rack w.last).sr = ((s.last w.rack w.last).accFlags x).sr ∧
      (t.last w.rack w.last).d = if cap then (s.last w.rack w.last).d.set cd v1 else (s.last w.rack w.last).d) ∧
  (∀ (w : LastAt) (s : State) (word : W32) (a s1 s2 modx mody : Nat) (cap : Bool) (cd : Nat) (v1 v2 : W24),
    Issuing s w word → decodeLast word = some (.arith 0x2 a s1 s2 modx mody cap cd) →
    s.operandValue w s1 = some v1 → s.operandValue w s2 = some v2 →
    Completes (.mac w) s fun t =>
      let x : Int := ((s.last w.rack w.last).A a).toInt + v1.toInt * v2.toInt;
      (t.last w.rack w.last).a = (s.last w.rack w.last).a.set a (BitVec.ofInt 56 (accSat x)) ∧
      (t.last w.rack w.last).sr = ((s.last w.rack w.last).accFlags x).sr ∧
      (t.last w.rack w.last).d = if cap then (s.last w.rack w.last).d.set cd v1 else (s.last w.rack w.last).d) ∧
  (∀ (w : LastAt) (s : State) (word : W32) (a s1 s2 modx mody : Nat) (cap : Bool) (cd : Nat) (v1 v2 : W24),
    Issuing s w word → decodeLast word = some (.arith 0x3 a s1 s2 modx mody cap cd) →
    s.operandValue w s1 = some v1 → s.operandValue w s2 = some v2 →
    Completes (.msu w) s fun t =>
      let x : Int := ((s.last w.rack w.last).A a).toInt - v1.toInt * v2.toInt;
      (t.last w.rack w.last).a = (s.last w.rack w.last).a.set a (BitVec.ofInt 56 (accSat x)) ∧
      (t.last w.rack w.last).sr = ((s.last w.rack w.last).accFlags x).sr ∧
      (t.last w.rack w.last).d = if cap then (s.last w.rack w.last).d.set cd v1 else (s.last w.rack w.last).d) ∧
  (∀ (w : LastAt) (s : State) (word : W32) (a s1 s2 modx mody : Nat) (cap : Bool) (cd : Nat) (v1 v2 : W24),
    Issuing s w word → decodeLast word = some (.arith 0x4 a s1 s2 modx mody cap cd) →
    s.operandValue w s1 = some v1 → s.operandValue w s2 = some v2 →
    Completes (.add w) s fun t =>
      let x : Int := ((s.last w.rack w.last).A a).toInt + aligned v1.toInt;
      (t.last w.rack w.last).a = (s.last w.rack w.last).a.set a (BitVec.ofInt 56 (accSat x)) ∧
      (t.last w.rack w.last).sr = ((s.last w.rack w.last).accFlags x).sr ∧
      (t.last w.rack w.last).d = if cap then (s.last w.rack w.last).d.set cd v1 else (s.last w.rack w.last).d) ∧
  (∀ (w : LastAt) (s : State) (word : W32) (a s1 s2 modx mody : Nat) (cap : Bool) (cd : Nat) (v1 v2 : W24),
    Issuing s w word → decodeLast word = some (.arith 0x5 a s1 s2 modx mody cap cd) →
    s.operandValue w s1 = some v1 → s.operandValue w s2 = some v2 →
    Completes (.sub w) s fun t =>
      let x : Int := ((s.last w.rack w.last).A a).toInt - aligned v1.toInt;
      (t.last w.rack w.last).a = (s.last w.rack w.last).a.set a (BitVec.ofInt 56 (accSat x)) ∧
      (t.last w.rack w.last).sr = ((s.last w.rack w.last).accFlags x).sr ∧
      (t.last w.rack w.last).d = if cap then (s.last w.rack w.last).d.set cd v1 else (s.last w.rack w.last).d) ∧
  (∀ (w : LastAt) (s : State) (word : W32) (a s1 s2 modx mody : Nat) (cap : Bool) (cd : Nat) (v1 v2 : W24),
    Issuing s w word → decodeLast word = some (.arith 0x6 a s1 s2 modx mody cap cd) →
    s.operandValue w s1 = some v1 → s.operandValue w s2 = some v2 →
    Completes (.clr w) s fun t =>
      let x : Int := 0;
      (t.last w.rack w.last).a = (s.last w.rack w.last).a.set a (BitVec.ofInt 56 (accSat x)) ∧
      (t.last w.rack w.last).sr = ((s.last w.rack w.last).accFlags x).sr ∧
      (t.last w.rack w.last).d = if cap then (s.last w.rack w.last).d.set cd v1 else (s.last w.rack w.last).d) ∧
  (∀ (w : LastAt) (s : State) (word : W32) (a s1 s2 modx mody : Nat) (cap : Bool) (cd : Nat) (v1 v2 : W24),
    Issuing s w word → decodeLast word = some (.arith 0x7 a s1 s2 modx mody cap cd) →
    s.operandValue w s1 = some v1 → s.operandValue w s2 = some v2 →
    Completes (.tfr w) s fun t =>
      let x : Int := aligned v1.toInt;
      (t.last w.rack w.last).a = (s.last w.rack w.last).a.set a (BitVec.ofInt 56 (accSat x)) ∧
      (t.last w.rack w.last).sr = ((s.last w.rack w.last).accFlags x).sr ∧
      (t.last w.rack w.last).d = if cap then (s.last w.rack w.last).d.set cd v1 else (s.last w.rack w.last).d)

/-- Lasts: ASR, ASL, ABS, NEG, CMP, MACSS, MACSGN and NOP give their result and flags. For each of ASR, ASL, ABS,
NEG, MACSS and MACSGN, as for the other ARITH instructions: the accumulator, the flags and CAP. CMP sets the
flags of A − S1 and leaves the accumulator; NOP leaves accumulators and SR and only carries out CAP. (R111, R114,
R115) -/
def Obligations.LastShiftAndSignResults : Prop :=
  (∀ (w : LastAt) (s : State) (word : W32) (a s1 s2 modx mody : Nat) (cap : Bool) (cd : Nat) (v1 v2 : W24),
    Issuing s w word → decodeLast word = some (.arith 0x8 a s1 s2 modx mody cap cd) →
    s.operandValue w s1 = some v1 → s.operandValue w s2 = some v2 →
    Completes (.asr w) s fun t =>
      let x : Int := floorShift ((s.last w.rack w.last).A a).toInt 1;
      (t.last w.rack w.last).a = (s.last w.rack w.last).a.set a (BitVec.ofInt 56 (accSat x)) ∧
      (t.last w.rack w.last).sr = ((s.last w.rack w.last).accFlags x).sr ∧
      (t.last w.rack w.last).d = if cap then (s.last w.rack w.last).d.set cd v1 else (s.last w.rack w.last).d) ∧
  (∀ (w : LastAt) (s : State) (word : W32) (a s1 s2 modx mody : Nat) (cap : Bool) (cd : Nat) (v1 v2 : W24),
    Issuing s w word → decodeLast word = some (.arith 0x9 a s1 s2 modx mody cap cd) →
    s.operandValue w s1 = some v1 → s.operandValue w s2 = some v2 →
    Completes (.asl w) s fun t =>
      let x : Int := ((s.last w.rack w.last).A a).toInt * 2;
      (t.last w.rack w.last).a = (s.last w.rack w.last).a.set a (BitVec.ofInt 56 (accSat x)) ∧
      (t.last w.rack w.last).sr = ((s.last w.rack w.last).accFlags x).sr ∧
      (t.last w.rack w.last).d = if cap then (s.last w.rack w.last).d.set cd v1 else (s.last w.rack w.last).d) ∧
  (∀ (w : LastAt) (s : State) (word : W32) (a s1 s2 modx mody : Nat) (cap : Bool) (cd : Nat) (v1 v2 : W24),
    Issuing s w word → decodeLast word = some (.arith 0xA a s1 s2 modx mody cap cd) →
    s.operandValue w s1 = some v1 → s.operandValue w s2 = some v2 →
    Completes (.abs w) s fun t =>
      let x : Int := ((((s.last w.rack w.last).A a).toInt.natAbs : Nat) : Int);
      (t.last w.rack w.last).a = (s.last w.rack w.last).a.set a (BitVec.ofInt 56 (accSat x)) ∧
      (t.last w.rack w.last).sr = ((s.last w.rack w.last).accFlags x).sr ∧
      (t.last w.rack w.last).d = if cap then (s.last w.rack w.last).d.set cd v1 else (s.last w.rack w.last).d) ∧
  (∀ (w : LastAt) (s : State) (word : W32) (a s1 s2 modx mody : Nat) (cap : Bool) (cd : Nat) (v1 v2 : W24),
    Issuing s w word → decodeLast word = some (.arith 0xB a s1 s2 modx mody cap cd) →
    s.operandValue w s1 = some v1 → s.operandValue w s2 = some v2 →
    Completes (.neg w) s fun t =>
      let x : Int := -((s.last w.rack w.last).A a).toInt;
      (t.last w.rack w.last).a = (s.last w.rack w.last).a.set a (BitVec.ofInt 56 (accSat x)) ∧
      (t.last w.rack w.last).sr = ((s.last w.rack w.last).accFlags x).sr ∧
      (t.last w.rack w.last).d = if cap then (s.last w.rack w.last).d.set cd v1 else (s.last w.rack w.last).d) ∧
  (∀ (w : LastAt) (s : State) (word : W32) (a s1 s2 modx mody : Nat) (cap : Bool) (cd : Nat) (v1 v2 : W24),
    Issuing s w word → decodeLast word = some (.arith 0xC a s1 s2 modx mody cap cd) →
    s.operandValue w s1 = some v1 → s.operandValue w s2 = some v2 →
    Completes (.cmp w) s fun t =>
      let x : Int := ((s.last w.rack w.last).A a).toInt - aligned v1.toInt;
      (t.last w.rack w.last).a = (s.last w.rack w.last).a ∧
      (t.last w.rack w.last).sr = ((s.last w.rack w.last).accFlags x).sr ∧
      (t.last w.rack w.last).d = if cap then (s.last w.rack w.last).d.set cd v1 else (s.last w.rack w.last).d) ∧
  (∀ (w : LastAt) (s : State) (word : W32) (a s1 s2 modx mody : Nat) (cap : Bool) (cd : Nat) (v1 v2 : W24),
    Issuing s w word → decodeLast word = some (.arith 0xD a s1 s2 modx mody cap cd) →
    s.operandValue w s1 = some v1 → s.operandValue w s2 = some v2 →
    Completes (.macss w) s fun t =>
      let x : Int :=
        ((s.last w.rack w.last).A a).toInt + sgn v1.toInt * sgn v2.toInt * (s.last w.rack w.last).mu.toInt;
      (t.last w.rack w.last).a = (s.last w.rack w.last).a.set a (BitVec.ofInt 56 (accSat x)) ∧
      (t.last w.rack w.last).sr = ((s.last w.rack w.last).accFlags x).sr ∧
      (t.last w.rack w.last).d = if cap then (s.last w.rack w.last).d.set cd v1 else (s.last w.rack w.last).d) ∧
  (∀ (w : LastAt) (s : State) (word : W32) (a s1 s2 modx mody : Nat) (cap : Bool) (cd : Nat) (v1 v2 : W24),
    Issuing s w word → decodeLast word = some (.arith 0xE a s1 s2 modx mody cap cd) →
    s.operandValue w s1 = some v1 → s.operandValue w s2 = some v2 →
    Completes (.macsgn w) s fun t =>
      let x : Int := ((s.last w.rack w.last).A a).toInt + sgn v1.toInt * aligned v2.toInt;
      (t.last w.rack w.last).a = (s.last w.rack w.last).a.set a (BitVec.ofInt 56 (accSat x)) ∧
      (t.last w.rack w.last).sr = ((s.last w.rack w.last).accFlags x).sr ∧
      (t.last w.rack w.last).d = if cap then (s.last w.rack w.last).d.set cd v1 else (s.last w.rack w.last).d) ∧
  (∀ (w : LastAt) (s : State) (word : W32) (a s1 s2 modx mody : Nat) (cap : Bool) (cd : Nat) (v1 v2 : W24),
    Issuing s w word → decodeLast word = some (.arith 0 a s1 s2 modx mody cap cd) →
    s.operandValue w s1 = some v1 → s.operandValue w s2 = some v2 →
    Completes (.nop w) s fun t =>
      (t.last w.rack w.last).a = (s.last w.rack w.last).a ∧
      (t.last w.rack w.last).sr = (s.last w.rack w.last).sr ∧
      (t.last w.rack w.last).d = if cap then (s.last w.rack w.last).d.set cd v1 else (s.last w.rack w.last).d)

/-- Lasts: STA, STM, LDI, SHIFT, MOVR, EXT, LOGIC and MEM write what R112 and R114 give. For each ACC instruction
that a last issues, with an accessible location where it stores or loads: the command answers a next state with
the data register, accumulator or X/Y location it names at the value the rules give, and with its flags. A SHIFT
by more than 55 places, an EXT outside WIDTH 1–24 or beyond bit 23, and MOVR from sources 12–15 complete with an
open value (the model gives it no number). (R112, R113, R114) -/
def Obligations.LastAccumulatorClassResults : Prop :=
  (∀ (w : LastAt) (s : State) (word : W32) (a d : Nat) (low : Bool),
    Issuing s w word → decodeLast word = some (.sta a d low) →
    Completes (.sta w) s fun t =>
      let v : W24 := BitVec.ofInt 24 (satSigned 24 (storeValue ((s.last w.rack w.last).A a) low));
      (t.last w.rack w.last).d = (s.last w.rack w.last).d.set d v ∧
      (t.last w.rack w.last).a = (s.last w.rack w.last).a ∧
      (t.last w.rack w.last).sr = ((s.last w.rack w.last).stored a low).2.sr) ∧
  (∀ (w : LastAt) (s : State) (word : W32) (a ptr mode : Nat) (low : Bool),
    Issuing s w word → decodeLast word = some (.stm a ptr mode low) →
    (s.last w.rack w.last).protects ((s.last w.rack w.last).P ptr) = false →
    Completes (.stm w) s fun t =>
      let v : W24 := BitVec.ofInt 24 (satSigned 24 (storeValue ((s.last w.rack w.last).A a) low));
      t.word (dataAddr w.rack w.last (decide (4 ≤ ptr)) ((s.last w.rack w.last).P ptr)) = protect (locWord v) ∧
      (t.last w.rack w.last).sr = ((s.last w.rack w.last).stored a low).2.sr) ∧
  (∀ (w : LastAt) (s : State) (word : W32) (d : Nat) (half : Bool) (value : Nat),
    Issuing s w word → decodeLast word = some (.ldi d half value) →
    Completes (.ldi w) s fun t =>
      (t.last w.rack w.last).d = (s.last w.rack w.last).d.set d (if half then ((s.last w.rack w.last).D d &&&
        0xFF0000) ||| BitVec.ofNat 24 value else BitVec.ofNat 24 (value * 256)) ∧
      (t.last w.rack w.last).sr = (s.last w.rack w.last).sr) ∧
  (∀ (w : LastAt) (s : State) (word : W32) (a : Nat) (right : Bool) (count : Nat),
    Issuing s w word → decodeLast word = some (.shift a right count) →
    Completes (.shift w) s fun t =>
      (count ≤ 55 →
       let x : Int :=
         if right then
           floorShift ((s.last w.rack w.last).A a).toInt count
         else
           ((s.last w.rack w.last).A a).toInt * 2 ^ count;
       (t.last w.rack w.last).a = (s.last w.rack w.last).a.set a (BitVec.ofInt 56 (accSat x)) ∧
       (t.last w.rack w.last).sr = ((s.last w.rack w.last).accFlags x).sr) ∧
      (55 < count →
       ∃ x : Int,
         (t.last w.rack w.last).a = (s.last w.rack w.last).a.set a (BitVec.ofInt 56 (accSat x)) ∧
         (t.last w.rack w.last).sr = ((s.last w.rack w.last).accFlags x).sr)) ∧
  (∀ (w : LastAt) (s : State) (word : W32) (d src : Nat),
    Issuing s w word → decodeLast word = some (.movr d src) →
    Completes (.movr w) s fun t =>
      (src < 12 → (t.last w.rack w.last).d = (s.last w.rack w.last).d.set d ((s.last w.rack w.last).t.getD src 0)) ∧
      (12 ≤ src → src < 16 → ∃ v, (t.last w.rack w.last).d = (s.last w.rack w.last).d.set d v) ∧
      (16 ≤ src → src < 20 →
       (t.last w.rack w.last).d = (s.last w.rack w.last).d.set d (((s.last w.rack w.last).A (src -
         16)).extractLsb' 23 24)) ∧
      (20 ≤ src → src < 24 →
       (t.last w.rack w.last).d = (s.last w.rack w.last).d.set d ((((s.last w.rack w.last).A (src -
         20)).extractLsb' 47 9).signExtend 24)) ∧
      (24 ≤ src → (t.last w.rack w.last).d = (s.last w.rack w.last).d.set d ((s.last w.rack w.last).D (src - 24)))) ∧
  (∀ (w : LastAt) (s : State) (word : W32) (dd ds pos width : Nat) (sgn : Bool),
    Issuing s w word → decodeLast word = some (.ext dd ds pos width sgn) →
    Completes (.ext w) s fun t =>
      (1 ≤ width → pos + width ≤ 24 →
       (t.last w.rack w.last).d = (s.last w.rack w.last).d.set dd (extField ((s.last w.rack w.last).D ds) pos
         width sgn) ∧
       (t.last w.rack w.last).sr = ((s.last w.rack w.last).flags24 (extField ((s.last w.rack w.last).D ds) pos
         width sgn)).sr) ∧
      (width = 0 ∨ 24 < pos + width →
       ∃ v,
         (t.last w.rack w.last).d = (s.last w.rack w.last).d.set dd v ∧
         (t.last w.rack w.last).sr = ((s.last w.rack w.last).flags24 v).sr)) ∧
  (∀ (w : LastAt) (s : State) (word : W32) (dd ds op : Nat),
    Issuing s w word → decodeLast word = some (.logic dd ds op) → op < 4 →
    Completes (.logic w) s fun t =>
      let v : W24 :=
        if op = 0 then (s.last w.rack w.last).D dd &&& (s.last w.rack w.last).D ds else if op = 1 then (s.last
          w.rack w.last).D dd ||| (s.last w.rack w.last).D ds else if op = 2 then (s.last w.rack w.last).D dd ^^^
          (s.last w.rack w.last).D ds else (s.last w.rack w.last).D dd &&& ~~~ ((s.last w.rack w.last).D ds);
      (t.last w.rack w.last).d = (s.last w.rack w.last).d.set dd v ∧
      (t.last w.rack w.last).sr = ((s.last w.rack w.last).flags24 v).sr) ∧
  (∀ (w : LastAt) (s : State) (word : W32) (store : Bool) (d ptr mode : Nat) (v : W24),
    Issuing s w word → decodeLast word = some (.mem store d ptr mode) →
    (s.last w.rack w.last).protects ((s.last w.rack w.last).P ptr) = false →
    (store = false → s.operandValue w (8 + ptr) = some v) →
    Completes (.mem w) s fun t =>
      if store then
        t.word (dataAddr w.rack w.last (decide (4 ≤ ptr)) ((s.last w.rack w.last).P ptr)) = protect (locWord
          ((s.last w.rack w.last).D d)) ∧
        (t.last w.rack w.last).d = (s.last w.rack w.last).d
      else
        (t.last w.rack w.last).d = (s.last w.rack w.last).d.set d v)

/-- Lasts: LDA, ADDA, MOVA, MOVC, MOVFC, RTI, HALT and SVC 0 have the effect of R113, R116, R124 and R127. For each
of these instructions that a last issues, in the mode that may run it: LDA, ADDA and MOVA leave the new pointer,
step or length on its way, unseen by the next two instructions; MOVC writes the control register (MU, AMODE and
VBR unseen by the next three); MOVFC delivers the value of a listed control register, when no slots are lost
before the issue; RTI restores PC and SR; HALT halts the last; SVC 0 in user mode takes its trap: TPC and TSR
saved, supervisor mode, the last halted, and RACK_SVC logged with D0. (R110, R113, R116, R124, R125, R127) -/
def Obligations.LastAddressAndSystemResults : Prop :=
  (∀ (w : LastAt) (s : State) (word : W32) (kind n value : Nat),
    Issuing s w word → decodeLast word = some (.lda kind n value) →
    Completes (.lda w) s fun t =>
      ⟨2, (if kind = 0 then LateReg.ptr n else if kind = 1 then .step n else .len n), (value) % (if kind = 0 ∨ kind = 1 then 1024 else 2048)⟩
        ∈ (t.last w.rack w.last).late) ∧
  (∀ (w : LastAt) (s : State) (word : W32) (n change : Nat),
    Issuing s w word → decodeLast word = some (.adda n change) →
    Completes (.adda w) s fun t =>
      (∀ v,
         (s.last w.rack w.last).stepped n (signed 11 change) = some v →
         ⟨2, LateReg.ptr n, v % 1024⟩ ∈ (t.last w.rack w.last).late) ∧
      ((s.last w.rack w.last).stepped n (signed 11 change) = none →
       ∃ x, ⟨2, LateReg.ptr n, x⟩ ∈ (t.last w.rack w.last).late)) ∧
  (∀ (w : LastAt) (s : State) (word : W32) (kind n d : Nat),
    Issuing s w word → decodeLast word = some (.mova kind n d) →
    Completes (.mova w) s fun t =>
      ⟨2, (if kind = 0 then LateReg.ptr n else if kind = 1 then .step n else .len n), (bitsOf ((s.last w.rack w.last).D d).toNat 0 11) % (if kind = 0 ∨ kind = 1 then 1024 else 2048)⟩
        ∈ (t.last w.rack w.last).late) ∧
  (∀ (w : LastAt) (s : State) (word : W32) (d n : Nat),
    Issuing s w word → decodeLast word = some (.movc d n) →
    ((s.last w.rack w.last).super = true ∨ n = 0 ∨ n = 3 ∨ n = 4) →
    Completes (.movc w) s fun t =>
      (n = 0 →
       (t.last w.rack w.last).sr = ((s.last w.rack w.last).sr &&& 0x100) ||| ((s.last w.rack w.last).D d &&& 0x77)) ∧
      (n = 3 → ⟨3, LateReg.mu, ((s.last w.rack w.last).D d).toNat⟩ ∈ (t.last w.rack w.last).late) ∧
      (n = 4 → ⟨3, LateReg.amode, ((s.last w.rack w.last).D d).toNat % 65536⟩ ∈ (t.last w.rack w.last).late) ∧
      (n = 8 → (t.last w.rack w.last).tpc = ((s.last w.rack w.last).D d).setWidth 14) ∧
      (n = 9 → (t.last w.rack w.last).tsr = (s.last w.rack w.last).D d) ∧
      (n = 10 → ⟨3, LateReg.vbr, ((s.last w.rack w.last).D d).toNat % 16384⟩ ∈ (t.last w.rack w.last).late)) ∧
  (∀ (w : LastAt) (s : State) (word : W32) (d n : Nat),
    Issuing s w word → decodeLast word = some (.movfc d n) →
    ((s.last w.rack w.last).super = true ∨ s.userReads w.rack n = true) →
    (n ≤ 4 ∨ (8 ≤ n ∧ n ≤ 11) ∨ (16 ≤ n ∧ n ≤ 20)) → w.front = 0 → w.back = 0 →
    (s.last w.rack w.last).interlock (.movfc d n) = 0 →
    Completes (.movfc w) s fun t =>
      (t.last w.rack w.last).d = (s.last w.rack w.last).d.set d (s.ctlRead w.rack w.last (s.last w.rack w.last)
        n).1 ∧
      (16 ≤ n → n ≤ 19 → (t.last w.rack w.last).chi = (s.cnt (slotCounter n) w.rack w.last).extractLsb' 24 24)) ∧
  (∀ (w : LastAt) (s : State) (word : W32),
    Issuing s w word → decodeLast word = some (.rti) → (s.last w.rack w.last).super = true →
    Completes (.rti w) s fun t =>
      (t.last w.rack w.last).pc = (s.last w.rack w.last).tpc ∧
      (t.last w.rack w.last).sr = (s.last w.rack w.last).tsr &&& srMask ∧ (t.last w.rack w.last).rep = none) ∧
  (∀ (w : LastAt) (s : State) (word : W32),
    Issuing s w word → decodeLast word = some (.halt) → (s.last w.rack w.last).super = true →
    Completes (.halt w) s fun t =>
      t.lastHalted w.rack w.last = true) ∧
  (∀ (w : LastAt) (s : State) (word : W32),
    Issuing s w word → decodeLast word = some (.svc 0) → (s.last w.rack w.last).super = false →
    (s.last w.rack w.last).rep = none →
    Completes (.svc w) s fun t =>
      (t.last w.rack w.last).tpc = (s.last w.rack w.last).pc ∧
      (t.last w.rack w.last).tsr = s.srRead w.rack (s.last w.rack w.last) ∧ (t.last w.rack w.last).super = true ∧
      t.lastHalted w.rack w.last = true ∧ Sent s t 0x0604 sevInfo w.rack w.last ((s.last w.rack w.last).D 0).toNat)

/-- Lasts: BRA, CALL, RET, LOOP, LOOPR, REPEAT, LEAVE, YIELD and TWIN move the PC and the stacks as R118–R126 say.
For each FLOW instruction that a last issues outside a REPEAT, with its condition holding and its stack neither
full nor empty: the PC, the call stack and the loop stack take the values of R118; REPEAT sets how often the next
instruction issues; YIELD suspends the last; TWIN with an unread record delivers the oldest one kept, or the
newest, into T0–T11. (R114, R118, R120, R126) -/
def Obligations.LastFlowResults : Prop :=
  (∀ (w : LastAt) (s : State) (word : W32) (c target : Nat),
    Issuing s w word → decodeLast word = some (.bra c target) → (s.last w.rack w.last).rep = none →
    s.cond w.rack (s.last w.rack w.last) c = some true → (s.last w.rack w.last).leavesLoop target = false →
    Completes (.bra w) s fun t =>
      (t.last w.rack w.last).pc = BitVec.ofNat 14 target) ∧
  (∀ (w : LastAt) (s : State) (word : W32) (c target : Nat),
    Issuing s w word → decodeLast word = some (.call c target) → (s.last w.rack w.last).rep = none →
    s.cond w.rack (s.last w.rack w.last) c = some true → (s.last w.rack w.last).leavesLoop target = false →
    (s.last w.rack w.last).calls.length < 8 →
    Completes (.call w) s fun t =>
      (t.last w.rack w.last).pc = BitVec.ofNat 14 target ∧
      (t.last w.rack w.last).calls = ((s.last w.rack w.last).pc + 1) :: (s.last w.rack w.last).calls) ∧
  (∀ (w : LastAt) (s : State) (word : W32) (c : Nat) (a : BitVec 14) (as : List (BitVec 14)),
    Issuing s w word → decodeLast word = some (.ret c) → (s.last w.rack w.last).rep = none →
    s.cond w.rack (s.last w.rack w.last) c = some true → (s.last w.rack w.last).calls = a :: as →
    Completes (.ret w) s fun t =>
      (t.last w.rack w.last).pc = a ∧ (t.last w.rack w.last).calls = as) ∧
  (∀ (w : LastAt) (s : State) (word : W32) (count last : Nat),
    Issuing s w word → decodeLast word = some (.loop count last) → (s.last w.rack w.last).rep = none → 0 < count →
    (s.last w.rack w.last).loops.length < 4 →
    Completes (.loop w) s fun t =>
      (t.last w.rack w.last).pc = BitVec.ofNat 14 (((s.last w.rack w.last).pc.toNat + 1) % 16384) ∧
      (t.last w.rack w.last).loops = ⟨((s.last w.rack w.last).pc.toNat + 1) % 16384, last, count⟩ :: (s.last
        w.rack w.last).loops) ∧
  (∀ (w : LastAt) (s : State) (word : W32) (d last : Nat),
    Issuing s w word → decodeLast word = some (.loopr d last) → (s.last w.rack w.last).rep = none →
    0 < bitsOf ((s.last w.rack w.last).D d).toNat 0 16 → (s.last w.rack w.last).loops.length < 4 →
    Completes (.loopr w) s fun t =>
      (t.last w.rack w.last).pc = BitVec.ofNat 14 (((s.last w.rack w.last).pc.toNat + 1) % 16384) ∧
      (t.last w.rack w.last).loops =
        ⟨((s.last w.rack w.last).pc.toNat + 1) % 16384, last, bitsOf ((s.last w.rack w.last).D d).toNat 0 16⟩ ::
        (s.last w.rack w.last).loops) ∧
  (∀ (w : LastAt) (s : State) (word : W32) (count : Nat),
    Issuing s w word → decodeLast word = some (.rep count) → (s.last w.rack w.last).rep = none → 0 < count →
    Completes (.repeat w) s fun t =>
      (t.last w.rack w.last).rep = some count ∧
      (t.last w.rack w.last).pc = BitVec.ofNat 14 (seqFrom (s.last w.rack w.last).loops (s.last w.rack
        w.last).pc.toNat).1) ∧
  (∀ (w : LastAt) (s : State) (word : W32) (c : Nat) (f : LoopFrame) (fs : List LoopFrame),
    Issuing s w word → decodeLast word = some (.leave c) → (s.last w.rack w.last).rep = none →
    s.cond w.rack (s.last w.rack w.last) c = some true → (s.last w.rack w.last).loops = f :: fs →
    Completes (.leave w) s fun t =>
      (t.last w.rack w.last).pc = BitVec.ofNat 14 (seqFrom fs f.last).1 ∧
      (t.last w.rack w.last).loops = (seqFrom fs f.last).2) ∧
  (∀ (w : LastAt) (s : State) (word : W32),
    Issuing s w word → decodeLast word = some (.yield) → (s.last w.rack w.last).rep = none →
    Completes (.yield w) s fun t =>
      (t.last w.rack w.last).yielding = true ∧ (t.last w.rack w.last).yieldAt = (s.rackOf w.rack).written ∧
      (t.last w.rack w.last).retired = 0) ∧
  (∀ (w : LastAt) (s : State) (word : W32) (newest : Bool),
    Issuing s w word → decodeLast word = some (.twin newest) → (s.last w.rack w.last).rep = none →
    (s.last w.rack w.last).seen < (s.rackOf w.rack).written →
    Completes (.twin w false) s fun t =>
      let q := s.rackOf w.rack;
      let n := if newest then q.written - 1 else max (s.last w.rack w.last).seen (q.written - 64);
      (t.last w.rack w.last).seen = n + 1 ∧
      (t.last w.rack w.last).t = q.taps.getD (q.written - 1 - n) (List.replicate 12 0))

/-- Racks: bus requests and responses, YIELD_RESUME, the watchdog, restart, RACK_CTL, tags and tap records. BREQ
puts the request into the last's slot and BRSP takes its response with E; RACK_BUS_RESPONSE carries out the
request whose turn it is, storing a shared-memory write, and answers it, or answers one carried out before;
YIELD_RESUME ends a suspension; LAST_WATCHDOG traps (user mode: PC saved, all eight lasts halted) or halts the
last; RACK_RESTART presets the lasts and runs them from the entry in user mode (the code of the monitor is not in
the spec: DEDUCED, log entry 144); a write of RACK_CTL halts exactly the lasts of its mask; TAG_SAMPLE queues the
record of the oldest tagged instruction, or counts it as lost and flags a full queue; TAP_RECORD adds the record
to the buffer of each running rack of its lane. Each answers a next state. (R119, R122, R123, R126, R127, R139)
-/
def Obligations.RackBusWatchdogAndTapResults : Prop :=
  (∀ (w : LastAt) (same : Bool) (s : State) (word : W32) (wr : Bool) (d : Nat) (be : Bool) (b off : Nat),
    Issuing s w word → decodeLast word = some (.breq wr d be b off) → (s.last w.rack w.last).bus = none →
    (s.last w.rack w.last).resp = none →
    ((s.last w.rack w.last).super = true ∨ wr = false ∨
     (portGroup (if be then (((s.last w.rack w.last).D b).toNat + off) % 2 ^ 18 else off)).all (fun g => bitOf
       (s.rackOf w.rack).portMask g) = true) →
    Completes (.breq w same) s fun t =>
      let age := if same then (s.rackOf w.rack).busAge else (s.rackOf w.rack).busAge + 1;
      (t.last w.rack w.last).bus = some
        ⟨if be then (((s.last w.rack w.last).D b).toNat + off) % 2 ^ 18 else off, wr, if wr then (s.last w.rack w.last).D d else 0, age, none⟩ ∧
      (t.last w.rack w.last).resp = none ∧ (t.rackOf w.rack).busAge = age) ∧
  (∀ (w : LastAt) (s : State) (word : W32) (d : Nat) (x : BusResp),
    Issuing s w word → decodeLast word = some (.brsp d) → (s.last w.rack w.last).resp = some x → x.bad = false →
    Completes (.brsp w) s fun t =>
      (t.last w.rack w.last).d = (s.last w.rack w.last).d.set d x.value ∧ (t.last w.rack w.last).bus = none ∧
      (t.last w.rack w.last).resp = none ∧
      (t.last w.rack w.last).sr = putBit24 (s.last w.rack w.last).sr srE x.error) ∧
  (∀ (rack : Fin 64) (last : Fin 8) (s : State) (q : BusReq),
    s.busWaits rack last = some q → s.busNext rack = some last.val → s.island (rackIsland rack) = .on →
    Completes (.rackBusResponse rack last) s fun t =>
      (t.last rack last).resp = some (s.rackBus rack q).1 ∧
      (q.addr < 2048 → q.write = true → t.word (sharedAddr rack q.addr) = protect (locWord q.data))) ∧
  (∀ (rack : Fin 64) (last : Fin 8) (s : State) (q : BusReq) (x : BusResp),
    (s.last rack last).bus = some q → q.got = some x → (s.last rack last).resp = none →
    s.island (rackIsland rack) = .on →
    Completes (.rackBusResponse rack last) s fun t =>
      (t.last rack last).resp = some x ∧ t.mem = s.mem) ∧
  (∀ (rack : Fin 64) (last : Fin 8) (cycles : Nat) (s : State),
    s.rackClocked rack = true → (s.last rack last).yielding = true → cycles ≤ 4096 →
    ((s.last rack last).yieldAt < (s.rackOf rack).written ∨ cycles = 4096) →
    Completes (.yieldResume rack last cycles) s fun t =>
      (t.last rack last).yielding = false) ∧
  (∀ (rack : Fin 64) (last : Fin 8) (s : State),
    s.rackClocked rack = true → s.lastHalted rack last = false → (s.last rack last).yielding = false →
    2 ^ 20 ≤ (s.last rack last).retired →
    Completes (.lastWatchdog rack last) s fun t =>
      (t.last rack last).retired = 0 ∧ t.lastHalted rack last = true ∧
      ((s.last rack last).super = false →
       (t.last rack last).tpc = (s.last rack last).pc ∧ t.fld RACK_STAT.HALTED rack = 0xFF) ∧
      ((s.last rack last).super = true → t.flag RACK_CAUSE.DTRAP rack = true)) ∧
  (∀ (rack : Fin 64) (s : State) (due : Nat),
    (s.rackOf rack).restart = some due → due ≤ s.now → s.island (rackIsland rack) = .on →
    Completes (.rackRestart rack) s fun t =>
      t.fld RACK_STAT.HALTED rack = 0 ∧ t.fld RACK_STAT.RUNNING rack = 0xFF ∧ (t.rackOf rack).restart = none ∧
      ∀ l < 8,
        (t.last rack l).pc = BitVec.ofNat 14 (s.rackOf rack).entry ∧ (t.last rack l).super = false ∧
        (t.last rack l).vbr = 0 ∧ (t.last rack l).d = List.replicate 8 0) ∧
  (∀ (src : Master) (rack : Fin 64) (data : W32) (s : State),
    Writes s src (Block.rack rack).base →
    Completes (.rackCtlHalt src rack data) s fun t =>
      t.fld RACK_STAT.HALTED rack = getBits data 0 8 ∧ t.fld RACK_STAT.RUNNING rack = 255 - getBits data 0 8 ∧
      t.fld RACK_CTL.HALT rack = getBits data 0 8 ∧ Accepted t src) ∧
  (∀ (rack : Fin 64) (last : Fin 8) (times : TagTimes) (s : State) (c : Issued) (cycles : W32) (rest : List (Nat ×
    Issued × W32)),
    s.island (rackIsland rack) = .on → (s.rackOf rack).tagged = (last.val, c, cycles) :: rest →
    Completes (.tagSample rack last times) s fun t =>
      (t.rackOf rack).tagged = rest ∧
      if (s.rackOf rack).tags.length < 16 then
        (t.rackOf rack).tags = (s.rackOf rack).tags ++ [tagWords last c cycles times] ∧
        t.fld RACK_TAG_STAT.COUNT rack = (s.rackOf rack).tags.length + 1
      else
        (t.rackOf rack).tags = (s.rackOf rack).tags ∧
        t.fld RACK_TAG_STAT.LOST rack = min (s.fld RACK_TAG_STAT.LOST rack + 1) 0xFFFF ∧
        t.flag RACK_CAUSE.TAG_FULL rack = true) ∧
  (∀ (k : Fin 8) (x : TapRecord) (s : State) (r : Nat),
    s.tapRuns k = true → r ∈ s.laneRacks k → s.rackClocked r = true → s.fld RACK_STAT.HALTED r ≠ 0xFF →
    Completes (.tapRecord k x) s fun t =>
      (t.rackOf r).written = (s.rackOf r).written + 1 ∧
      (t.rackOf r).taps = (s.tapRegs k x :: (s.rackOf r).taps).take 64)

/-- A register write follows the access codes, an RC read clears, a wide read latches and a queue read takes the
oldest entry. A write that reaches a register without an effect of its own replaces its RW bits, clears the W1C
bits written with 1 and ignores the others, and gets OK. A read of a register with RC bits returns it and clears
them. A read of the lowest word of a wide RS quantity latches all its words into the master's snapshot, and a
READ64 returns both words. A read of RACK_TAG_REC or TIME_TSQ_ENTRY takes the oldest entry into the snapshot.
(R7, R8, R9) -/
def Obligations.RegisterAccessResults : Prop :=
  (∀ (src : Master) (addr data : W32) (s : State) (b : Block) (off : Nat) (k : RKey) (n : Nat) (sh : Bool),
    Writes s src addr.toNat → addr.toNat % 4 = 0 → blockAt addr.toNat = some (b, off) → memKind b off = none →
    busReg b off = some (k, n, sh) → k.reg.words = 1 → ownEffect k.reg = false → countsBus k.reg = false →
    Completes (.registerWrite src addr data) s fun t =>
      let c := k.reg.access;
      let u := masterUnit src k;
      t.reg k.reg u k.i = ((s.reg k.reg u k.i &&& ~~~ c.rw) ||| (data &&& c.rw)) &&& ~~~ (data &&& c.w1c) ∧
      Accepted t src) ∧
  (∀ (src : Master) (addr : W32) (s : State) (b : Block) (off : Nat) (k : RKey) (n : Nat) (sh : Bool),
    Issues s src addr.toNat → addr.toNat % 4 = 0 → blockAt addr.toNat = some (b, off) → memKind b off = none →
    busReg b off = some (k, n, sh) → k.reg.words = 1 → k.reg.access.rc ≠ 0 →
    Completes (.rcRead src addr) s fun t =>
      t.reg k.reg k.u k.i = s.reg k.reg k.u k.i &&& ~~~ k.reg.access.rc ∧ Accepted t src ∧
      (t.reply src).lo = s.reg k.reg k.u k.i &&& ~~~ k.reg.access.wo) ∧
  (∀ (src : Master) (addr : W32) (wide : Bool) (s : State) (b : Block) (off : Nat) (k : RKey) (n : Nat) (sh :
    Bool),
    Issues s src addr.toNat →
    (if wide then addr.toNat % 8 = 0 ∧ (src = .cobbler ∨ src = .dma) else addr.toNat % 4 = 0) →
    blockAt addr.toNat = some (b, off) → memKind b off = none → busReg b off = some (k, n, sh) → n = 0 →
    k.reg.words ≠ 1 → isQueue k.reg = false → k.reg ≠ .EVR_WIN → k.reg ≠ .CNT_VAL →
    Completes (.rsLowWordRead src addr wide) s fun t =>
      let v := s.wideNow k sh;
      Accepted t src ∧ (t.reply src).lo = wideWord v 0 ∧ (wide = true → (t.reply src).hi = wideWord v 1) ∧
      (wide = false → t.snap src k sh = v)) ∧
  (∀ (src : Master) (addr : W32) (wide : Bool) (s : State) (b : Block) (off : Nat) (k : RKey) (n : Nat) (sh :
    Bool),
    Issues s src addr.toNat →
    (if wide then addr.toNat % 8 = 0 ∧ (src = .cobbler ∨ src = .dma) else addr.toNat % 4 = 0) →
    blockAt addr.toNat = some (b, off) → memKind b off = none → busReg b off = some (k, n, sh) → n = 0 →
    isQueue k.reg = true →
    Completes (.queueRead src addr wide) s fun t =>
      Accepted t src ∧
      t.snap src k sh = (if k.reg = .RACK_TAG_REC then (s.rackOf k.u).tags.headD 0 else (s.time.tsq.getD k.u
        []).headD 0) ∧
      (k.reg = .RACK_TAG_REC → (t.rackOf k.u).tags = (s.rackOf k.u).tags.drop 1) ∧
      (k.reg = .TIME_TSQ_ENTRY → t.time.tsq = s.time.tsq.set k.u ((s.time.tsq.getD k.u []).drop 1)))

/-- Reads and writes of protected memories: clean data, poison, merges, and the windows of pool, slots and racks. A
read of MGMT SRAM delivers a clean word's data, and DATA_ERR with a count for a poisoned one. A partial write
merges its bytes into clean data, or poisons an uncorrectable word and gets DATA_ERR; a full write stores fresh
check bits. A write to an open pool granule, a free transmit slot or a rack location of a halted last stores its
data; the low half of a program word is held for its master and the high half writes the whole word. (R134, R160,
R213, R354, R355, R356) -/
def Obligations.MemoryAccessResults : Prop :=
  (∀ (upset : W72) (s : State) (src : Master) (addr : W32) (d : W64),
    Issues s src addr.toNat → addr.toNat % 4 = 0 → 0x1000000 ≤ addr.toNat → addr.toNat < 0x1200000 →
    classify ((s.hit (cellOf addr.toNat) upset).word (cellOf addr.toNat)) = .clean d →
    Completes (.memoryRead (.bus src .word32) (.mapped addr) upset) s fun t =>
      Accepted t src ∧ (t.reply src).lo = d.extractLsb' (8 * (addr.toNat % 8)) 32 ∧
      t.word (cellOf addr.toNat) = (s.hit (cellOf addr.toNat) upset).word (cellOf addr.toNat)) ∧
  (∀ (upset : W72) (s : State) (src : Master) (addr : W32) (d : W64),
    Issues s src addr.toNat → addr.toNat % 4 = 0 → 0x1000000 ≤ addr.toNat → addr.toNat < 0x1200000 →
    (s.hit (cellOf addr.toNat) upset).word (cellOf addr.toNat) = poisoned d →
    Completes (.memoryRead (.bus src .word32) (.mapped addr) upset) s fun t =>
      (t.reply src).resp = .dataErr ∧
      t.cnt .MEM_UNCORR_CNT 0 = (if s.cnt .MEM_UNCORR_CNT 0 = BitVec.allOnes 48 then s.cnt .MEM_UNCORR_CNT 0 else
        s.cnt .MEM_UNCORR_CNT 0 + 1) ∧
      t.flag (MEM_CAUSE.UNCORR 0) 0 = true) ∧
  (∀ (src : Master) (addr : W32) (wide : Bool) (data : W64) (be : BitVec 8) (s : State) (old : W64),
    Writes s src addr.toNat →
    (if wide then addr.toNat % 8 = 0 ∧ (src = .cobbler ∨ src = .dma) ∧ be.toNat ≠ 0xFF else addr.toNat % 4 = 0) →
    0x1000000 ≤ addr.toNat → addr.toNat < 0x1200000 → classify (s.word (addr.toNat / 8 * 8)) = .clean old →
    Completes (.memoryPartialWrite src addr wide data be) s fun t =>
      let l :=
        if wide then
          laneOf true addr.toNat data be.toNat
        else
          laneOf false addr.toNat ((data.setWidth 32).setWidth 64) 15;
      Accepted t src ∧ t.word (addr.toNat / 8 * 8) = protect (mergeBytes old l.1 l.2)) ∧
  (∀ (src : Master) (addr : W32) (wide : Bool) (data : W64) (be : BitVec 8) (s : State),
    Writes s src addr.toNat →
    (if wide then addr.toNat % 8 = 0 ∧ (src = .cobbler ∨ src = .dma) ∧ be.toNat ≠ 0xFF else addr.toNat % 4 = 0) →
    0x1000000 ≤ addr.toNat → addr.toNat < 0x1200000 →
    (classify (s.word (addr.toNat / 8 * 8)) = .poison ∨ classify (s.word (addr.toNat / 8 * 8)) = .uncorrectable) →
    Completes (.memoryPartialWrite src addr wide data be) s fun t =>
      (t.reply src).resp = .dataErr ∧
      t.word (addr.toNat / 8 * 8) = poisoned (dataOf (s.word (addr.toNat / 8 * 8)))) ∧
  (∀ (src : Master) (addr : W32) (data : W64) (s : State),
    Writes s src addr.toNat → addr.toNat % 8 = 0 → (src = .cobbler ∨ src = .dma) → 0x1000000 ≤ addr.toNat →
    addr.toNat < 0x1200000 →
    Completes (.memoryFullWrite src addr data) s fun t =>
      Accepted t src ∧ t.word addr.toNat = protect data) ∧
  (∀ (src : Master) (die : Fin 2) (word : Fin 196608) (data : W64) (s : State),
    Writes s src ((Block.pool (die.val + 1)).base + 8 * word) → (src = .cobbler ∨ src = .dma) →
    s.granuleOpen (die.val + 1) (8 * word.val / 0x1000) = true →
    Completes (.poolWindowWrite src die word data) s fun t =>
      Accepted t src ∧ t.word ((Block.pool (die.val + 1)).base + 8 * word) = protect data) ∧
  (∀ (src : Master) (k : Fin 8) (word : Fin 256) (data : W64) (s : State),
    Writes s src (slotAddr k false 0 + 8 * word) → (src = .cobbler ∨ src = .dma) →
    s.slotOpen k false (word.val / 32) = true →
    Completes (.insSlotWrite src k false word data) s fun t =>
      Accepted t src ∧ t.word (slotAddr k false 0 + 8 * word) = protect data) ∧
  (∀ (src : Master) (rack : Fin 64) (space : RackSpace) (loc : Fin 2048) (data : W32) (s : State),
    Writes s src (spaceAddr rack space loc) → s.spaceOpen rack space = true →
    Completes (.rackMemWrite src rack space loc data) s fun t =>
      Accepted t src ∧ t.word (spaceAddr rack space loc) = protect (locWord (data.setWidth 24))) ∧
  (∀ (src : Master) (rack : Fin 64) (word : Fin 8192) (data : W32) (s : State),
    Writes s src (progAddr rack word) → isHost src = false → s.fld RACK_STAT.HALTED rack = 0xFF →
    Completes (.progWordWrite src rack word false data) s fun t =>
      Accepted t src ∧ (srcId src, word.val, data) ∈ (t.rackOf rack).lows ∧
      t.word (progAddr rack word) = s.word (progAddr rack word)) ∧
  (∀ (src : Master) (rack : Fin 64) (word : Fin 8192) (data : W32) (s : State) (m v : Nat) (lo : W32),
    Writes s src (progAddr rack word + 4) → isHost src = false → s.fld RACK_STAT.HALTED rack = 0xFF →
    (s.rackOf rack).lows.find? (fun x => x.1 == srcId src && x.2.1 == word.val) = some (m, v, lo) →
    Completes (.progWordWrite src rack word true data) s fun t =>
      Accepted t src ∧ t.word (progAddr rack word) = protect (data ++ lo))

/-- MRAM refresh and remap, scrubbing, the bucket leak and the memory commands have the effect of R359–R368. A
scheduled row refresh rewrites every correctable word of the row from corrected data; a finished remap moves the
row to the remapped ones and counts the spare; a scrub step writes a corrected word back; a bucket's level falls
by one per LEAK interval. MEM_STATUS, MEM_BUCKET_SET and MEM_HARD_LIST complete with their result words or set
the bucket. (R359, R360, R361, R363, R368) -/
def Obligations.MemoryUpkeepResults : Prop :=
  (∀ (row : Fin 8192) (s : State),
    s.ctl.copying.contains row.val = true →
    Completes (.mramRemapDone row) s fun t =>
      t.ctl.remapped = s.ctl.remapped ++ [row.val] ∧
      t.ctl.copying = s.ctl.copying.filter (fun r => r != row.val) ∧
      (64 ≤ s.ctl.remapped.length + 1 → t.flag MEM_STAT.SPARES_OUT 0 = true) ∧
      (s.ctl.remapped.length < 64 → t.fld MEM_STAT.SPARES_USED 0 = s.ctl.remapped.length + 1)) ∧
  (∀ (row : Fin 8192) (s : State),
    s.ctl.refresh.contains row.val = true →
    Completes (.mramRowRefresh row) s fun t =>
      t.ctl.refresh = s.ctl.refresh.filter (fun r => r != row.val) ∧
      ∀ i < 128,
        ∀ d,
          classify (s.word (0x2000000 + 1024 * row + 8 * i)) = .corrected d →
          t.word (0x2000000 + 1024 * row + 8 * i) = protect d) ∧
  (∀ (upset : W72) (s : State) (addr : W32),
    s.scrubbed (addr.toNat / 8 * 8) = true →
    Completes (.scrubStep (.mapped addr) upset) s fun t =>
      let w := (s.upset (addr.toNat / 8 * 8) upset).word (addr.toNat / 8 * 8);
      (∀ d, classify w = .corrected d → t.word (addr.toNat / 8 * 8) = protect d) ∧
      (classify w = .poison ∨ classify w = .uncorrectable →
       t.word (addr.toNat / 8 * 8) = w ∧
       ∀ die region,
         regionOf (addr.toNat / 8 * 8) = some (die, region) → t.flag (MEM_CAUSE.UNCORR region) die = true)) ∧
  (∀ (die : Fin 3) (region : Fin 8) (s : State),
    lookup 0 (regionUnit die region) s.ctl.leaked + 1000 * s.bucketLeak (regionUnit die region) ≤ s.now →
    Completes (.bucketLeak die region) s fun t =>
      t.fld MEM_BKT_STAT.LEVEL (regionUnit die region) = s.fld MEM_BKT_STAT.LEVEL (regionUnit die region) - 1 ∧
      lookup 0 (regionUnit die region) t.ctl.leaked = s.now) ∧
  (∀ (e : Fin 256) (s : State),
    Runs s e 0x03 0x01 → (s.params e).byte 0 ≤ 2 → (s.params e).zeroFrom 2 = true →
    s.regionThere ((s.params e).byte 0) ((s.params e).byte 1) = true →
    Completes (.memStatus e) s fun t =>
      let u := regionUnit ((s.params e).byte 0) ((s.params e).byte 1);
      Answered t e 0 (s.reg .MEM_BKT_STAT u).toNat ((s.cnt .MEM_UNCORR_CNT u).toNat % 2 ^ 32)) ∧
  (∀ (e : Fin 256) (s : State),
    Runs s e 0x03 0x02 → (s.params e).byte 0 ≤ 2 → (s.params e).byte 2 ≠ 0 → (s.params e).byte 3 = 0 →
    (s.params e).half 4 ≠ 0 → (s.params e).zeroFrom 6 = true →
    s.regionThere ((s.params e).byte 0) ((s.params e).byte 1) = true →
    Completes (.memBucketSet e) s fun t =>
      let u := regionUnit ((s.params e).byte 0) ((s.params e).byte 1);
      Answered t e 0 ∧ t.fld MEM_BKT_CFG.THRESH u = (s.params e).byte 2 ∧
      t.fld MEM_BKT_CFG.LEAK u = (s.params e).half 4) ∧
  (∀ (e : Fin 256) (s : State),
    Runs s e 0x03 0x03 → (s.params e).byte 0 ≤ 2 → (s.params e).byte 1 ≤ 15 → (s.params e).zeroFrom 2 = true →
    s.dieAnswers ((s.params e).byte 0) = true →
    Completes (.memHardList e) s fun t =>
      Answered t e 0 (s.reg .MEM_HARD ((s.params e).byte 0) ((s.params e).byte 1)).toNat (s.reg .MEM_STAT
        ((s.params e).byte 0)).toNat)

/-- SPI and I2C frames: writes reach their register, reads drive status and data, the register window answers. An
SPI WRITE frame of one word writes its register as R7 says; a READ frame drives the OK status byte and the word,
and the bytes it has driven come in fives; STATUS and ID drive what R322 says without a bus access. An access of
the I2C register window writes or reads the register and ends with DONE and the response. An I2C write sets bank,
page and control bytes, one that ends without a STOP has no effect, and a read delivers consecutive bytes. (R314,
R321, R322, R323, R324, R438) -/
def Obligations.HostInterfaceResults : Prop :=
  (∀ (addr : W32) (words : List W32) (s : State),
    s.pwr.held = false →
    Completes (.spiWrite addr words) s fun t =>
      t.spi.frame = none ∧ t.spi.miso = []) ∧
  (∀ (addr : W32) (s : State) (b : Block) (off : Nat) (k : RKey) (n : Nat) (sh : Bool) (d : W32),
    s.spiBusy = false → s.spi.posted = [] → Writes s .spi addr.toNat → addr.toNat % 4 = 0 →
    blockAt addr.toNat = some (b, off) → memKind b off = none → busReg b off = some (k, n, sh) → k.reg.words = 1 →
    ownEffect k.reg = false → countsBus k.reg = false → k.reg ≠ .HIF_SPI_STAT →
    Completes (.spiWrite addr [d]) s fun t =>
      let c := k.reg.access;
      let u := masterUnit .spi k;
      t.reg k.reg u k.i = ((s.reg k.reg u k.i &&& ~~~ c.rw) ||| (d &&& c.rw)) &&& ~~~ (d &&& c.w1c) ∧
      Accepted t .spi ∧ t.spi.posted = []) ∧
  (∀ (addr : W32) (s : State) (b : Block) (off : Nat) (k : RKey) (n : Nat) (sh : Bool),
    s.spiBusy = false → s.spi.posted = [] → Issues s .spi addr.toNat → addr.toNat % 4 = 0 →
    blockAt addr.toNat = some (b, off) → memKind b off = none → busReg b off = some (k, n, sh) → k.reg.words = 1 →
    countsBus k.reg = false → k.reg ≠ .MGMT_IRQ_TOP → k.reg ≠ .MGMT_IRQ_LOCAL → k.reg ≠ .MGMT_IRQ_INTN →
    Completes (.spiRead addr 1) s fun t =>
      t.spi.miso = statusByte 0 :: beWord (s.regNow .spi k &&& ~~~ k.reg.access.wo) ∧ t.spi.frame = none) ∧
  (∀ (addr : W32) (words : Fin 256) (s : State),
    s.pwr.held = false →
    Completes (.spiRead addr words) s fun t =>
      t.spi.miso.length % 5 = 0) ∧
  (∀ (s : State),
    s.pwr.held = false → s.spiBusy = false → s.spi.posted = [] →
    Completes .spiStatus s fun t =>
      t.spi.miso = statusByte (if s.flag HIF_SPI_STAT.ERR then s.fld HIF_SPI_STAT.RESP else 0) :: beWord (s.reg
        .HIF_SPI_STAT) ∧
      t.spi.frame = none) ∧
  (∀ (s : State),
    s.pwr.held = false →
    Completes .spiId s fun t =>
      t.spi.miso = beWord (s.reg .PWR_DEV_ID) ∧ t.regs = s.regs ∧ t.replies = s.replies) ∧
  (∀ (s : State) (b : Block) (off : Nat) (k : RKey) (n : Nat) (sh : Bool),
    s.i2c.busy = none → s.waitingOf .i2c = [] → Writes s .i2c s.i2c.addr → s.i2c.addr % 4 = 0 →
    blockAt s.i2c.addr = some (b, off) → memKind b off = none → busReg b off = some (k, n, sh) → k.reg.words = 1 →
    ownEffect k.reg = false → countsBus k.reg = false →
    Completes (.i2cWindowAccess 2) s fun t =>
      let c := k.reg.access;
      let u := masterUnit .i2c k;
      let d := BitVec.ofNat 32 s.i2c.data;
      t.reg k.reg u k.i = ((s.reg k.reg u k.i &&& ~~~ c.rw) ||| (d &&& c.rw)) &&& ~~~ (d &&& c.w1c) ∧
      t.i2c.done = true ∧ t.i2c.busy = none ∧ t.i2c.resp = 0) ∧
  (∀ (s : State) (b : Block) (off : Nat) (k : RKey) (n : Nat) (sh : Bool),
    s.i2c.busy = none → s.waitingOf .i2c = [] → Issues s .i2c s.i2c.addr → s.i2c.addr % 4 = 0 →
    blockAt s.i2c.addr = some (b, off) → memKind b off = none → busReg b off = some (k, n, sh) → k.reg.words = 1 →
    countsBus k.reg = false → k.reg ≠ .MGMT_IRQ_TOP → k.reg ≠ .MGMT_IRQ_LOCAL → k.reg ≠ .MGMT_IRQ_INTN →
    Completes (.i2cWindowAccess 1) s fun t =>
      t.i2c.data = (s.regNow .i2c k &&& ~~~ k.reg.access.wo).toNat ∧ t.i2c.done = true ∧ t.i2c.busy = none ∧
      t.i2c.resp = 0) ∧
  (∀ (s : State),
    Completes .i2cBusTimeout s fun t =>
      t = s) ∧
  (∀ (s : State) (b p : BitVec 8),
    s.pwr.held = false →
    Completes (.i2cWrite 126 [b, p] true) s fun t =>
      t.i2c.bank = b.toNat ∧ t.i2c.page = p.toNat ∧ t.i2c.ptr = 128) ∧
  (∀ (offset : BitVec 8) (bytes : List (BitVec 8)) (s : State),
    Completes (.i2cWrite offset bytes false) s fun t =>
      t = s) ∧
  (∀ (offset : BitVec 8) (s : State) (v : BitVec 8),
    s.pwr.held = false → s.flag MBX_STAT.READY = true → s.i2c.page = 0x10 → s.i2c.bank < 2 → 128 ≤ offset.toNat →
    offset.toNat < 134 →
    Completes (.i2cWrite offset [v] true) s fun t =>
      t.ctlByte (cmisKey s.i2c.bank 0x10 offset.toNat) = v.toNat) ∧
  (∀ (count : BitVec 12) (s : State),
    s.pwr.held = false → s.i2c.ptr < 256 →
    Completes (.i2cRead count) s fun t =>
      t.i2c.out.length = count.toNat ∧ t.i2c.ptr = (s.i2c.ptr + count.toNat) % 256) ∧
  (∀ (s : State),
    s.pwr.held = false → s.i2c.ptr = 126 →
    Completes (.i2cRead 2) s fun t =>
      t.i2c.out = [s.i2c.bank, s.i2c.page])

/-- A waiting request is answered by its response, a TIMEOUT or OFF, and an interrupt summary overwrites its
register. A request whose control welt is up again and whose channels have credits is served and leaves the
waiting ones, with the response of its target; one whose target has answered gets that answer. After 50 µs a
request is answered TIMEOUT, WELT_CAUSE.TIMEOUT is set for a core die and WELT_TIMEOUT is logged. 1 µs after an
island has stopped accepting requests, one it has accepted is answered OFF, a read with 0xB10C_0FF0. An interrupt
summary overwrites the die's 22 bits. (R25, R26, R30, R33, R35, R37) -/
def Obligations.WaitingRequestResults : Prop :=
  (∀ (src : Master) (nth : Fin 16) (s : State) (r : Request),
    (s.waitingOf src)[nth.val]? = some r → s.pwr.held = false →
    (src = .spi → s.spi.frame = none ∧ s.spi.posted = []) → r.got = none → s.servable r = true →
    s.hasCredit src r.addr true = true → s.draining = [] →
    Completes (.responseArrival src nth) s fun t =>
      t.waiting = s.waiting.erase r ∧ (t.reply src).resp = (s.fabric src r.op r.addr).resp) ∧
  (∀ (src : Master) (nth : Fin 16) (s : State) (r : Request) (y : BusReply),
    (s.waitingOf src)[nth.val]? = some r → s.pwr.held = false →
    (src = .spi → s.spi.frame = none ∧ s.spi.posted = []) → r.got = some y → s.reachable r.addr = true →
    s.hasCredit src r.addr true = true → s.draining = [] →
    Completes (.responseArrival src nth) s fun t =>
      t.waiting = s.waiting.erase r ∧ (t.reply src).resp = y.resp ∧ (t.reply src).lo = y.lo ∧
      (t.reply src).hi = y.hi) ∧
  (∀ (src : Master) (nth : Fin 16) (s : State) (r : Request),
    (s.waitingOf src)[nth.val]? = some r → s.pwr.held = false →
    (src = .spi → s.spi.frame = none ∧ s.spi.posted = []) → 50 ≤ s.now - r.at_ → s.draining = [] →
    Completes (.weltReqTimeout src nth) s fun t =>
      t.waiting = s.waiting.erase r ∧ (t.reply src).resp = .timeout ∧
      ((r.addr / 0x10000000 = 1 ∨ r.addr / 0x10000000 = 2) →
       t.flag WELT_CAUSE.TIMEOUT (r.addr / 0x10000000) = true) ∧
      Sent s t 0x1005 sevWarn r.addr (srcId src + 256 * opCode r.op) r.tag) ∧
  (∀ (island : BitVec 16) (s : State) (d : Drain) (r : Request),
    s.pwr.held = false → s.draining.find? (fun x => x.island == island.toNat) = some d → d.since + 1 ≤ s.now →
    s.accepted d.island = [r] → (r.src = .spi → s.spi.frame = none ∧ s.spi.posted = []) →
    Completes (.islandDrainTimeout island) s fun t =>
      t.waiting = s.waiting.erase r ∧ (t.reply r.src).resp = .off ∧
      (t.reply r.src).lo = (if isWrite r.op then 0 else 0xB10C0FF0) ∧ t.island island.toNat = d.target ∧
      t.draining = s.draining.filter (fun x => x.island != island.toNat)) ∧
  (∀ (die : Fin 2) (s : State),
    s.pwr.held = false → s.linkState die = 2 →
    Completes (.interruptSummary die) s fun t =>
      t.reg (if die = 0 then .MGMT_IRQ_CORE_A else .MGMT_IRQ_CORE_B) = BitVec.ofNat 32 (bitsWhere (s.corePends
        (die.val + 1)) 22))

/-- The mailbox: doorbell, begin, completion, consumer index, time-out and the commands of class 0x0E. A doorbell
on a FREE eyelet while READY is set copies the descriptor and queues the eyelet; COMMAND_BEGIN begins the oldest
and answers a bad descriptor with its code; COMPLETION_POST with room writes the entry, advances the producer
index and phase and frees the eyelet; a consumer write that does not pass the producer is taken; after 2 s a
command completes with 0x0604. MBX_VERSION, MBX_ECHO, HIF_WIN_OPEN, HIF_WIN_CLOSE and CMIS_CTL complete with
their results and act on the windows and DP_CONTROL. (R326, R327, R330, R332, R333, R335, R349) -/
def Obligations.MailboxResults : Prop :=
  (∀ (src : Master) (data : W32) (s : State),
    Writes s src 0x4020000 → (s.eyelet (getBits data 0 8)).st = .free → s.flag MBX_STAT.READY = true →
    Completes (.doorbell src data) s fun t =>
      (t.eyelet (getBits data 0 8)).st = .submitted ∧ (t.eyelet (getBits data 0 8)).serial = s.mbx.accepted ∧
      t.mbx.queue = s.mbx.queue ++ [(getBits data 0 8)] ∧
      ∀ ws,
        (s.readWords ((List.range 4).map (fun i => eyeletAddr ((getBits data 0 8)) + 8 * i))).1 = some ws →
        (t.eyelet (getBits data 0 8)).desc = BitVec.ofNat 256 (ws.foldr (fun w (x : Nat) => w.toNat + x * 2 ^ 64)
          0)) ∧
  (∀ (s : State),
    s.pwr.held = false → (s.eyelet s.i2c.sel).st = .free → s.flag MBX_STAT.READY = true →
    Completes .i2cDoorbell s fun t =>
      (t.eyelet s.i2c.sel).st = .submitted ∧ (t.eyelet s.i2c.sel).serial = s.mbx.accepted ∧
      t.mbx.queue = s.mbx.queue ++ [s.i2c.sel] ∧
      ∀ ws,
        (s.readWords ((List.range 4).map (fun i => eyeletAddr (s.i2c.sel) + 8 * i))).1 = some ws →
        (t.eyelet s.i2c.sel).desc = BitVec.ofNat 256 (ws.foldr (fun w (x : Nat) => w.toNat + x * 2 ^ 64) 0)) ∧
  (∀ (s : State) (e : Nat) (rest : List Nat),
    s.aqiqueRuns = true → s.mbx.queue = e :: rest →
    Completes .commandBegin s fun t =>
      t.mbx.queue = rest ∧ (t.eyelet e).st = .running ∧
      ((s.eyelet e).reply = none → descRefusal (s.eyelet e).desc = none → (t.eyelet e).reply = none) ∧
      (∀ c,
         (s.eyelet e).reply = none → descRefusal (s.eyelet e).desc = some c → (t.eyelet e).reply = some ⟨c, 0, 0⟩)) ∧
  (∀ (e : Fin 256) (s : State) (r : Reply),
    s.aqiqueRuns = true → (s.eyelet e).st = .running → (s.eyelet e).reply = some r →
    s.ringWait (ringOf (s.eyelet e)) = [] → s.ringUsed (ringOf (s.eyelet e)) < 255 →
    Completes (.completionPost e) s fun t =>
      let q := ringOf (s.eyelet e);
      let i := s.fld MBX_CR_PROD_PTR.INDEX 0 q;
      let p := s.fld MBX_CR_PROD_PTR.PHASE 0 q;
      t.eyelet e = {} ∧ t.fld MBX_CR_PROD_PTR.INDEX 0 q = (i + 1) % 256 ∧
      t.fld MBX_CR_PROD_PTR.PHASE 0 q = (if i = 255 then 1 - p else p) ∧
      t.word (0x4024000 + 0x1000 * q + 16 * i) = protect (entryWords e (s.eyelet e) r p).1 ∧
      t.word (0x4024000 + 0x1000 * q + 16 * i + 8) = protect (entryWords e (s.eyelet e) r p).2) ∧
  (∀ (src : Master) (ring : Fin 2) (data : W32) (s : State),
    Writes s src (0x4020014 + 8 * ring) →
    (getBits data 0 8 + 256 - s.fld MBX_CR_CONS_PTR.INDEX 0 ring) % 256 ≤ s.ringUsed ring →
    Completes (.consumerIndexWrite src ring data) s fun t =>
      t.fld MBX_CR_CONS_PTR.INDEX 0 ring = getBits data 0 8 ∧ Accepted t src) ∧
  (∀ (e : Fin 256) (s : State),
    ((s.eyelet e).st = .submitted ∨ (s.eyelet e).st = .running) → (s.eyelet e).reply = none →
    2000000 ≤ s.now - (s.eyelet e).accepted →
    Completes (.cmdTimeout e) s fun t =>
      Answered t e 0x0604 ∧ t.flag MBX_CAUSE.TIMEOUT = true ∧
      let b := descByte (s.eyelet e).desc;
      Sent s t 0x0E01 sevWarn e (b 2 * 256 + b 3) (b 0 + b 1 * 256)) ∧
  (∀ (e : Fin 256) (s : State),
    Runs s e 0x0E 0x01 → (s.params e).zeroFrom 0 = true →
    Completes (.mbxVersion e) s fun t =>
      Answered t e 0 (s.fwSlot (s.fld SEC_STAT.SLOT)).version (s.fld SEC_STAT.RUN_SVN + s.fld SEC_STAT.SLOT * 256
        + s.fld SEC_STAT.TRIAL * 512 + 0x0502 * 2 ^ 16)) ∧
  (∀ (e : Fin 256) (s : State),
    Runs s e 0x0E 0x02 → (s.params e).zeroFrom 8 = true →
    Completes (.mbxEcho e) s fun t =>
      Answered t e 0 ((s.params e).wordAt 0) ((s.params e).wordAt 4)) ∧
  (∀ (e : Fin 256) (s : State),
    Runs s e 0x0E 0x03 → 4 ≤ (s.params e).byte 0 → (s.params e).byte 0 ≤ 7 → (s.params e).byte 1 ≤ 3 →
    (s.params e).half 2 = 0 → (s.params e).zeroFrom 12 = true → (s.params e).wordAt 4 ≤ (s.params e).wordAt 8 →
    (s.params e).wordAt 4 % 8 = 0 → (s.params e).wordAt 8 % 8 = 0 →
    deniedRegions.any (fun r => decide ((s.params e).wordAt 4 ≤ r.2) && decide (r.1 ≤ (s.params e).wordAt 8 + 7))
      = false →
    Completes (.hifWinOpen e) s fun t =>
      let w := (s.params e).byte 0;
      Answered t e 0 ∧ t.flag HIF_WIN_BASE.EN 0 w = true ∧
      t.fld HIF_WIN_BASE.BASE 0 w = (s.params e).wordAt 4 / 8 ∧
      t.fld HIF_WIN_LIMIT.LIMIT 0 w = (s.params e).wordAt 8 / 8 ∧ bitOf (t.fld HIF_STAT.WIN_EN) w = true ∧
      Sent s t 0x0E05 sevInfo w ((s.params e).wordAt 4) ((s.params e).wordAt 8) ((s.params e).byte 1)) ∧
  (∀ (e : Fin 256) (s : State),
    Runs s e 0x0E 0x04 → 4 ≤ (s.params e).byte 0 → (s.params e).byte 0 ≤ 7 → (s.params e).zeroFrom 1 = true →
    Completes (.hifWinClose e) s fun t =>
      Answered t e 0 ∧ t.flag HIF_WIN_BASE.EN 0 ((s.params e).byte 0) = false ∧
      bitOf (t.fld HIF_STAT.WIN_EN) ((s.params e).byte 0) = false) ∧
  (∀ (e : Fin 256) (s : State),
    Runs s e 0x0E 0x05 → (s.params e).byte 0 ≤ 1 → (s.params e).zeroFrom 1 = true →
    Completes (.cmisCtl e) s fun t =>
      Answered t e 0 ∧ t.fld HIF_STAT.DP_CONTROL = (s.params e).byte 0)

/-- CMIS: data-path control, monitor refresh and vendor pages act on the image as R314–R317 say. ApplyDPInit is
rejected (ConfigStatus 2 of its host lanes, CMIS_CONFIG_REJECTED with the code) with DP_CONTROL clear, with a
transaction open, outside READY and ACTIVE, and when its image fails validation, and leaves the modes as they
were; otherwise it takes the next transaction ID, sets ConfigStatus 1 of its host lanes and its staged image is
applied. DataPathDeinit and OutputDisableTx store their bit, and the TX_EN of a port that the bank can express
follows by a transaction where it changes. A monitor refresh stores supply and hottest zone most significant byte
first and the module and data-path states, and latches the state, signal and lock flags; a vendor page update
replaces the page's image whole. The byte positions of the standard pages are those of CMIS 5.2 (PRESUMED, log
entry 103). (R314, R315, R316, R317) -/
def Obligations.CmisResults : Prop :=
  (∀ (bank : Fin 2) (paths : List (Fin 8 × Fin 4 × Fin 16)) (s : State),
    s.aqiqueRuns = true → s.flag HIF_STAT.DP_CONTROL = false →
    Completes (.cmisApplyDpInit bank paths) s fun t =>
      let xs := cmisPaths bank paths;
      let js := s.cmisLanes xs;
      t.cmis.status = js.foldl (fun ys j => ys.set j 2) s.cmis.status ∧ t.mode = s.mode ∧
      ∃ code, Sent s t 0x0E07 sevInfo bank code) ∧
  (∀ (bank : Fin 2) (paths : List (Fin 8 × Fin 4 × Fin 16)) (s : State) (x : Txn),
    s.aqiqueRuns = true → s.flag HIF_STAT.DP_CONTROL = true → s.mode.txn = some x →
    Completes (.cmisApplyDpInit bank paths) s fun t =>
      let xs := cmisPaths bank paths;
      let js := s.cmisLanes xs;
      t.cmis.status = js.foldl (fun ys j => ys.set j 2) s.cmis.status ∧ t.mode = s.mode ∧
      Sent s t 0x0E07 sevInfo bank (if x.own then 0x0302 else 0x0301)) ∧
  (∀ (bank : Fin 2) (paths : List (Fin 8 × Fin 4 × Fin 16)) (s : State),
    s.aqiqueRuns = true → s.flag HIF_STAT.DP_CONTROL = true → s.mode.txn = none → s.modeReady = false →
    Completes (.cmisApplyDpInit bank paths) s fun t =>
      let xs := cmisPaths bank paths;
      let js := s.cmisLanes xs;
      t.cmis.status = js.foldl (fun ys j => ys.set j 2) s.cmis.status ∧ t.mode.active = s.mode.active ∧
      t.mode.run = s.mode.run ∧ t.mode.txn = none ∧ Sent s t 0x0E07 sevInfo bank 0x0243) ∧
  (∀ (bank : Fin 2) (paths : List (Fin 8 × Fin 4 × Fin 16)) (s : State),
    s.aqiqueRuns = true → s.flag HIF_STAT.DP_CONTROL = true → s.mode.txn = none → s.modeReady = true →
    (State.validate { s with mode := { s.mode with lastId := s.mode.lastId % 0xFFFF + 1 } } (s.cmisStage
      (cmisPaths bank paths))).status ≠ 0 →
    Completes (.cmisApplyDpInit bank paths) s fun t =>
      let xs := cmisPaths bank paths;
      let js := s.cmisLanes xs;
      let r :=
        State.validate { s with mode := { s.mode with lastId := s.mode.lastId % 0xFFFF + 1 } } (s.cmisStage xs);
      t.cmis.status = js.foldl (fun ys j => ys.set j 2) s.cmis.status ∧ t.mode.active = s.mode.active ∧
      t.mode.run = s.mode.run ∧ t.mode.txn = none ∧ Sent s t 0x0E07 sevInfo bank r.status r.r0 r.r1) ∧
  (∀ (bank : Fin 2) (paths : List (Fin 8 × Fin 4 × Fin 16)) (s : State),
    s.aqiqueRuns = true → s.flag HIF_STAT.DP_CONTROL = true → s.mode.txn = none → s.modeReady = true →
    (State.validate { s with mode := { s.mode with lastId := s.mode.lastId % 0xFFFF + 1 } } (s.cmisStage
      (cmisPaths bank paths))).status = 0 →
    Completes (.cmisApplyDpInit bank paths) s fun t =>
      let xs := cmisPaths bank paths;
      let js := s.cmisLanes xs;
      t.cmis.status = js.foldl (fun ys j => ys.set j 1) s.cmis.status ∧
      t.mode.lastId = s.mode.lastId % 0xFFFF + 1 ∧ t.mode.run = s.cmisStage xs ∧
      t.mode.txn.any (fun y => y.id == t.mode.lastId && y.st == .applying && y.staged == s.cmisStage xs) = true) ∧
  (∀ (lane : Fin 16) (deinit : Bool) (s : State),
    s.aqiqueRuns = true →
    Completes (.cmisDpDeinit lane deinit) s fun t =>
      bitOf (t.ctlByte (cmisKey (lane.val / 8) 0x10 128)) ((lane.val % 8)) = deinit) ∧
  (∀ (lane : Fin 16) (deinit : Bool) (s : State),
    s.aqiqueRuns = true → s.cmisPortOfHost lane.val = none →
    Completes (.cmisDpDeinit lane deinit) s fun t =>
      t = (s.setCtlBit (cmisKey (lane.val / 8) 0x10 128) (lane.val % 8) deinit)) ∧
  (∀ (lane : Fin 16) (deinit : Bool) (s : State) (p : Nat),
    s.aqiqueRuns = true → s.cmisPortOfHost lane.val = some p →
    (s.setCtlBit (cmisKey (lane.val / 8) 0x10 128) (lane.val % 8) deinit).cmisTxEn s.mode.active p =
      (s.mode.active.port p).txEn →
    Completes (.cmisDpDeinit lane deinit) s fun t =>
      t = (s.setCtlBit (cmisKey (lane.val / 8) 0x10 128) (lane.val % 8) deinit)) ∧
  (∀ (lane : Fin 16) (deinit : Bool) (s : State) (p : Nat) (m : Image),
    s.aqiqueRuns = true → s.flag HIF_STAT.DP_CONTROL = true → s.mode.txn = none → s.modeReady = true →
    s.cmisPortOfHost lane.val = some p →
    (s.setCtlBit (cmisKey (lane.val / 8) 0x10 128) (lane.val % 8) deinit).cmisTxEn s.mode.active p ≠
      (s.mode.active.port p).txEn →
    m =
      { s.mode.active with ports := s.mode.active.ports.set p { s.mode.active.port p with txEn := (s.setCtlBit (cmisKey (lane.val / 8) 0x10 128) (lane.val % 8) deinit).cmisTxEn s.mode.active p } } →
    (State.validate
      { (s.setCtlBit (cmisKey (lane.val / 8) 0x10 128) (lane.val % 8) deinit) with mode := { s.mode with lastId := s.mode.lastId % 0xFFFF + 1 } }
      m).status = 0 →
    Completes (.cmisDpDeinit lane deinit) s fun t =>
      t.mode.run = m ∧ t.mode.lastId = s.mode.lastId % 0xFFFF + 1 ∧
      t.mode.txn.any (fun y => y.id == t.mode.lastId && y.st == .applying && y.staged == m) = true ∧
      t.cmis.status = (m.hostLanes p).foldl (fun ys j => ys.set j 1) s.cmis.status) ∧
  (∀ (lane : Fin 8) (disable : Bool) (s : State),
    s.aqiqueRuns = true →
    Completes (.cmisOutputDisable lane disable) s fun t =>
      bitOf (t.ctlByte (cmisKey (lane.val / 4) 0x10 130)) ((lane.val % 4)) = disable) ∧
  (∀ (lane : Fin 8) (disable : Bool) (s : State),
    s.aqiqueRuns = true → s.cmisPortOfLine lane.val = none →
    Completes (.cmisOutputDisable lane disable) s fun t =>
      t = (s.setCtlBit (cmisKey (lane.val / 4) 0x10 130) (lane.val % 4) disable)) ∧
  (∀ (lane : Fin 8) (disable : Bool) (s : State) (p : Nat),
    s.aqiqueRuns = true → s.cmisPortOfLine lane.val = some p →
    (s.setCtlBit (cmisKey (lane.val / 4) 0x10 130) (lane.val % 4) disable).cmisTxEn s.mode.active p =
      (s.mode.active.port p).txEn →
    Completes (.cmisOutputDisable lane disable) s fun t =>
      t = (s.setCtlBit (cmisKey (lane.val / 4) 0x10 130) (lane.val % 4) disable)) ∧
  (∀ (lane : Fin 8) (disable : Bool) (s : State) (p : Nat) (m : Image),
    s.aqiqueRuns = true → s.flag HIF_STAT.DP_CONTROL = true → s.mode.txn = none → s.modeReady = true →
    s.cmisPortOfLine lane.val = some p →
    (s.setCtlBit (cmisKey (lane.val / 4) 0x10 130) (lane.val % 4) disable).cmisTxEn s.mode.active p ≠
      (s.mode.active.port p).txEn →
    m =
      { s.mode.active with ports := s.mode.active.ports.set p { s.mode.active.port p with txEn := (s.setCtlBit (cmisKey (lane.val / 4) 0x10 130) (lane.val % 4) disable).cmisTxEn s.mode.active p } } →
    (State.validate
      { (s.setCtlBit (cmisKey (lane.val / 4) 0x10 130) (lane.val % 4) disable) with mode := { s.mode with lastId := s.mode.lastId % 0xFFFF + 1 } }
      m).status = 0 →
    Completes (.cmisOutputDisable lane disable) s fun t =>
      t.mode.run = m ∧ t.mode.lastId = s.mode.lastId % 0xFFFF + 1 ∧
      t.mode.txn.any (fun y => y.id == t.mode.lastId && y.st == .applying && y.staged == m) = true ∧
      t.cmis.status = (m.hostLanes p).foldl (fun ys j => ys.set j 1) s.cmis.status) ∧
  (∀ (supply : BitVec 16) (s : State),
    s.aqiqueRuns = true →
    Completes (.cmisMonitorRefresh supply) s fun t =>
      t.monByte 16 = byteOf supply.toNat 1 ∧ t.monByte 17 = byteOf supply.toNat 0 ∧
      t.monByte 14 = byteOf (unsigned 16 s.hottestZone) 1 ∧ t.monByte 15 = byteOf (unsigned 16 s.hottestZone) 0 ∧
      t.cmis.device = s.moduleState ∧ t.cmis.states = (List.range 16).map s.dataPath ∧
      bitOf (t.flagByte 8) 0 = (bitOf (s.flagByte 8) 0 || (s.cmis.device != s.moduleState)) ∧
      (∀ b < 2,
         ∀ i < 8,
           bitOf (t.flagByte (cmisKey b 0x11 134)) i = (bitOf (s.flagByte (cmisKey b 0x11 134)) i ||
             (s.cmis.states.getD (8 * b + i) 0 != s.dataPath (8 * b + i))) ∧
           bitOf (t.flagByte (cmisKey b 0x11 136)) i = (bitOf (s.flagByte (cmisKey b 0x11 136)) i || (s.hostUsed
             (8 * b + i) && !(s.flag HL_STAT.SIG_PRESENT (8 * b + i)))) ∧
           bitOf (t.flagByte (cmisKey b 0x11 137)) i = (bitOf (s.flagByte (cmisKey b 0x11 137)) i || (s.hostUsed
             (8 * b + i) && !(s.flag HL_STAT.CDR_LOCK (8 * b + i))))) ∧
      ∀ b < 2,
        ∀ i < 4,
          bitOf (t.flagByte (cmisKey b 0x11 147)) i = (bitOf (s.flagByte (cmisKey b 0x11 147)) i || (s.lineUsed (4
            * b + i) && !(s.flag LRX_STAT.SIG_PRESENT (4 * b + i)))) ∧
          bitOf (t.flagByte (cmisKey b 0x11 148)) i = (bitOf (s.flagByte (cmisKey b 0x11 148)) i || (s.lineUsed (4
            * b + i) && !(s.flag LRX_STAT.CDR_LOCK (4 * b + i) && s.flag LRX_STAT.AM_LOCK (4 * b + i))))) ∧
  (∀ (page : Fin 3) (bank : Fin 8) (s : State),
    s.aqiqueRuns = true →
    Completes (.vendorPageUpdate page bank) s fun t =>
      lookup [] (if page = 0 then 16 * 0xB2 else if page = 1 then 16 * 0xB3 else 16 * 0xB4 + bank.val)
        t.cmis.images = (if page = 0 then s.pageTime else if page = 1 then s.pageInsole else s.pageRanging bank))

/-- Welt links: flits use credits, replays resend, retraining and AB_EN move the link states of R22, R26, R31 and
R32. A new flit takes a credit of its class, and waits without one; a welt's sender keeps it. One that is sent
again comes from the replay buffer and moves the resend position, unless its error is uncorrectable; a single-bit
error on a welt is counted. Returned credits are added up to the pool. A replay request starts the resend and is
counted while the link is UP; eight within 1 ms retrain the link with the cause and event. A successful attempt
makes the link UP, a second failure of the core welt FAILED. RETRAIN and AB_EN act on the states that R22 and R31
give. (R22, R26, R31, R32) -/
def Obligations.WeltLinkResults : Prop :=
  (∀ (path : FlitPath) (data : W64) (flips : W72) (s : State),
    s.Shaped → s.carries path = true → (s.channel path).resend = none →
    0 < (s.channel path).credit ((s.channel path).nextClass data) →
    Completes (.flitReceive path data flips) s fun t =>
      let m := (s.channel path).nextClass data;
      (m ≠ .control → (t.channel path).credit m = (s.channel path).credit m - 1) ∧
      (t.channel path).follow = (m, if (s.channel path).follow.2 = 0 then lenOf data else (s.channel
        path).follow.2 - 1) ∧
      (keepsFlits path = true →
       (t.channel path).sent = (s.channel path).sent + 1 ∧ (t.channel path).replayed (s.channel path).sent = data) ∧
      ∀ l way,
        path = .welt l way →
        ∀ d,
          classify (protect data ^^^ flips) = .corrected d →
          ∀ e ∈ linkEnds l, t.cnt .WELT_CORR_CNT e.1 e.2 = saturated (s.cnt .WELT_CORR_CNT e.1 e.2)) ∧
  (∀ (path : FlitPath) (data : W64) (flips : W72) (s : State),
    s.carries path = true → (s.channel path).resend = none →
    (s.channel path).credit ((s.channel path).nextClass data) = 0 →
    Completes (.flitReceive path data flips) s fun t =>
      t = s) ∧
  (∀ (path : FlitPath) (data : W64) (flips : W72) (s : State) (i : Nat),
    s.Shaped → s.carries path = true → (s.channel path).resend = some i →
    Completes (.flitReceive path data flips) s fun t =>
      let w := protect ((s.channel path).replayed i) ^^^ flips;
      (flitLost w = true → t = s) ∧
      (flitLost w = false →
       (t.channel path) =
         { (s.channel path) with resend := if (s.channel path).sent ≤ i + 1 then none else some (i + 1) } ∧
       ∀ l way,
         path = .welt l way →
         ∀ d,
           classify w = .corrected d →
           ∀ e ∈ linkEnds l, t.cnt .WELT_CORR_CNT e.1 e.2 = saturated (s.cnt .WELT_CORR_CNT e.1 e.2))) ∧
  (∀ (path : FlitPath) (cls : MsgClass) (n : Fin 64) (s : State),
    s.Shaped →
    Completes (.creditReturn path cls n) s fun t =>
      (t.channel path) = (s.channel path).setCredit cls (min (pool cls) ((s.channel path).credit cls + n.val))) ∧
  (∀ (link : Fin 3) (toMgmt : Bool) (flit : Nat) (s : State),
    s.Shaped → flit < ((s.link link).dir toMgmt).sent → ((s.link link).dir toMgmt).sent ≤ flit + 64 →
    s.linkState link ≠ 0 → s.linkState link ≠ 4 →
    Completes (.replayRequest link toMgmt flit) s fun t =>
      ((t.link link).dir toMgmt) = { ((s.link link).dir toMgmt) with resend := some flit } ∧
      (s.linkState link = 2 →
       (t.link link).window = (s.link link).window + 1 ∧
       ∀ e ∈ linkEnds link, t.cnt .WELT_REPLAY_CNT e.1 e.2 = saturated (s.cnt .WELT_REPLAY_CNT e.1 e.2))) ∧
  (∀ (link : Fin 3) (die : Fin 2) (s : State),
    s.linkState link = 2 → 8 ≤ ((s.link link).times.filter (fun x => decide (s.now < x + 1000))).length →
    Completes (.replayBurst link die) s fun t =>
      let d := if link = 2 then die.val + 1 else link.val + 1;
      let n := if link = 2 then 1 else 0;
      t.linkState link = 3 ∧
      t.flag (if n = 0 then WELT_CAUSE.REPLAY_BURST_0 else WELT_CAUSE.REPLAY_BURST_1) d = true ∧
      Logged s t
        [⟨0x1002, sevWarn, d, n, ((s.link link).times.filter (fun x => decide (s.now < x + 1000))).length, 0, none⟩]) ∧
  (∀ (link : Fin 3) (s : State),
    (s.linkState link = 1 ∨ s.linkState link = 3) →
    Completes (.linkRetrainDone link true) s fun t =>
      t.linkState link = 2 ∧
      (s.linkState link = 3 →
       ∀ e ∈ linkEnds link, t.flag (if e.2 = 0 then WELT_CAUSE.RETRAIN_0 else WELT_CAUSE.RETRAIN_1) e.1 = true)) ∧
  (∀ (s : State),
    s.Shaped → (s.linkState 2 = 1 ∨ s.linkState 2 = 3) → s.pwr.seqs = [] →
    ((s.link 2).fromFailed = true ∨ 1 ≤ (s.link 2).failures) →
    Completes (.linkRetrainDone 2 false) s fun t =>
      t.linkState 2 = 4 ∧ t.flag WELT_CAUSE.FAILED_1 1 = true ∧ t.flag WELT_CAUSE.FAILED_1 2 = true ∧
      Sent s t 0x1004 sevErr 1 1) ∧
  (∀ (die n : Fin 2) (s : State),
    (s.linkState (if n = 1 then 2 else die.val) = 2 ∨ s.linkState (if n = 1 then 2 else die.val) = 3) →
    Completes (.weltRetrain die n) s fun t =>
      t.linkState (if n = 1 then 2 else die.val) = 3) ∧
  (∀ (die : Fin 2) (s : State),
    s.linkState 2 = 4 → s.flag WELT_CTL.AB_EN (die.val + 1) = true →
    Completes (.weltRetrain die 1) s fun t =>
      t.linkState 2 = 1) ∧
  (∀ (die : Fin 2) (en : Bool) (s : State),
    Completes (.weltAbEn die en) s fun t =>
      t.flag WELT_CTL.AB_EN (die.val + 1) = en ∧
      (en = true → s.linkState 2 = 0 → s.flag WELT_CTL.AB_EN (2 - die.val) = true → s.modeReady = true →
       t.linkState 2 = 1) ∧
      (en = false → s.linkState 2 ≠ 4 → t.linkState 2 = 0))

/-- PLL and REFCLK events set the lock and cause bits of R17–R19, and the losses that R19 calls fatal lead to
FAULT. A PLL that loses lock clears its CLK_LOCK bit and sets its cause; PLL_UNLOCK is logged, but for MPLL,
whose loss puts the device into FAULT. A PLL that may lock sets its bit; REFCLK that returns sets bit 8 of every
die. REFCLK absent for 2 µs clears bit 8 and sets the causes; lost, or never present at start-up, it puts the
device into FAULT. After an interrupt summary, every bit of the die's register shows in MGMT_IRQ_TOP. (R17, R18,
R19, R37) -/
def Obligations.ClockResults : Prop :=
  (∀ (die : Fin 3) (bit : Fin 8) (s : State),
    s.locked die bit = true → (die.val = 0 → bit.val < 2) →
    Completes (.pllLossOfLock die bit) s fun t =>
      t.locked die bit = false ∧ t.bit .CLK_CAUSE bit die = true ∧
      (die.val = 0 ∧ bit.val = 0 → t.fld PWR_STATE.STATE = 5) ∧
      (¬ (die.val = 0 ∧ bit.val = 0) → Sent s t 0x1401 sevWarn (alwaysOn die) bit)) ∧
  (∀ (die : Fin 3) (bit : Fin 9) (s : State),
    s.pwr.held = false → s.pllStarts die bit = true → bit.val ≠ 8 →
    Completes (.pllLock die bit) s fun t =>
      t.locked die bit = true) ∧
  (∀ (die : Fin 3) (s : State),
    s.pwr.held = false → s.seqOn 1 0 = false →
    Completes (.pllLock die 8) s fun t =>
      ∀ d < 3, t.locked d 8 = true) ∧
  (∀ (s : State),
    s.refclkSeen = true →
    Completes .refclkAbsent2us s fun t =>
      ∀ d < 3, t.locked d 8 = false ∧ t.bit .CLK_CAUSE 8 d = true) ∧
  (∀ (s : State),
    s.refclkSeen = true →
    Completes .refclkLost s fun t =>
      t.fld PWR_STATE.STATE = 5 ∧ ∀ d < 3, t.locked d 8 = false ∧ t.bit .CLK_CAUSE 8 d = true) ∧
  (∀ (s : State),
    s.pwr.held = false →
    s.pwr.seqs.any (fun q => q.num == 1 && q.step == 2 && decide (q.since + 10000 ≤ s.now)) = true →
    Completes .refclkStartTimeout s fun t =>
      t.fld PWR_STATE.STATE = 5 ∧ t.seqOn 1 0 = false) ∧
  (∀ (die : Fin 2) (s : State),
    s.pwr.held = false → s.linkState die = 2 →
    Completes (.interruptSummary die) s fun t =>
      (t.regNow .cobbler ⟨.MGMT_IRQ_TOP, 0, 0⟩) &&& t.reg (if die = 0 then .MGMT_IRQ_CORE_A else .MGMT_IRQ_CORE_B)
        = t.reg (if die = 0 then .MGMT_IRQ_CORE_A else .MGMT_IRQ_CORE_B))

/-- Line receivers: signal, clock recovery, doze, coefficients, monitors, histogram and fades as R68–R77 say.
SIG_PRESENT and CDR_LOCK set and clear with their causes, counts and events; the doze timer stops the receive
direction and puts its island into doze; a permitted coefficient write changes the RWL bits; a monitor window of
a lane that does not doze shows its values, the SNR read as 0 without lock; a histogram capture clears the bins,
counts one sample a tap record, of code or y, and ends with its 2^LEN samples; a finished fade restores VNLE_EFF.
(R68, R72, R73, R75, R76, R77) -/
def Obligations.LineReceiverResults : Prop :=
  (∀ (k : Fin 8) (s : State),
    s.lineUsed k = true → s.flag LRX_STAT.SIG_PRESENT k = false →
    Completes (.sigDetectAssert k) s fun t =>
      t.flag LRX_STAT.SIG_PRESENT k = true ∧ t.flag LRX_CAUSE.SIG_FOUND k = true ∧
      Logged s t [⟨0x0402, sevInfo, k, 0, 0, 0, none⟩] ∧ (s.flag LRX_STAT.DOZE k = true → t.seqOn 5 k = true)) ∧
  (∀ (k : Fin 8) (s : State),
    s.Shaped → s.lineUsed k = true → s.flag LRX_STAT.SIG_PRESENT k = true →
    Completes (.sigDetectDeassert k) s fun t =>
      t.flag LRX_STAT.SIG_PRESENT k = false ∧ t.flag LRX_CAUSE.SIG_LOST k = true ∧
      t.cnt .LRX_SIG_LOSS_CNT k = saturated (s.cnt .LRX_SIG_LOSS_CNT k) ∧ (t.line k).calRx = none ∧
      (s.quietLine k = false → Sent s t 0x0401 sevWarn k (s.reg .LRX_SIG_PWR k).toNat)) ∧
  (∀ (k : Fin 8) (s : State),
    s.lineUsed k = true → s.flag LRX_SIGDET_CTL.WAKE_EN k = true → s.flag LRX_STAT.WAKE_SEEN k = false →
    Completes (.wakePatternSeen k) s fun t =>
      t.flag LRX_STAT.WAKE_SEEN k = true ∧ Logged s t [⟨0x0402, sevInfo, k, 1, 0, 0, none⟩] ∧
      (s.flag LRX_STAT.DOZE k = true → t.seqOn 5 k = true)) ∧
  (∀ (k : Fin 8) (s : State),
    s.lineUsed k = true → s.flag LRX_SIGDET_CTL.WAKE_EN k = true → s.flag LRX_STAT.WAKE_SEEN k = true →
    Completes (.wakePatternSeen k) s fun t =>
      t.flag LRX_STAT.WAKE_SEEN k = true ∧ Logged s t [] ∧ (s.flag LRX_STAT.DOZE k = true → t.seqOn 5 k = true)) ∧
  (∀ (k : Fin 8) (s : State),
    s.lineUsed k = true → (s.mode.run.lane k).dozeRx ≠ 0 → s.rxHeld k = false →
    Completes (.lrxDozeTimer k) s fun t =>
      t.flag LRX_STAT.DOZE k = true ∧ t.flag LRX_STAT.CDR_LOCK k = false ∧
      (s.accepted (lineIsland k) = [] → s.seqFirst 6 k = false → t.island (lineIsland k) = .doze)) ∧
  (∀ (k : Fin 8) (fofs : BitVec 16) (phase : BitVec 8) (s : State),
    s.rxRuns k = true → s.flag LRX_STAT.CDR_LOCK k = false →
    Completes (.cdrLockSet k fofs phase) s fun t =>
      t.flag LRX_STAT.CDR_LOCK k = true ∧ t.flag LRX_CAUSE.CDR_LOCK k = true ∧
      (s.flag LRX_CDR_CTL.FREEZE k = false →
       t.fld LRX_CDR_FOFS.FOFS k = fofs.toNat ∧ t.fld LRX_CDR_FOFS.PHASE k = phase.toNat)) ∧
  (∀ (k : Fin 8) (fofs : BitVec 16) (phase : BitVec 8) (s : State),
    s.rxRuns k = true → s.flag LRX_STAT.CDR_LOCK k = true →
    Completes (.cdrLockClear k fofs phase) s fun t =>
      t.flag LRX_STAT.CDR_LOCK k = false ∧ t.flag LRX_CAUSE.CDR_UNLOCK k = true ∧
      t.cnt .LRX_CDR_UNLOCK_CNT k = saturated (s.cnt .LRX_CDR_UNLOCK_CNT k) ∧
      t.regNow .cobbler ⟨.LRX_SNR, k, 0⟩ = 0 ∧ t.reg .LRX_SNR k = s.reg .LRX_SNR k) ∧
  (∀ (k : Fin 8) (off : BitVec 15) (data : W32) (s : State) (r : Reg) (i w : Nat),
    s.lineUsed k = true → findReg layout_lane off.toNat = some (r, i, w) → isRxCoef r = true →
    s.racksHalted k = true →
    Completes (.lrxCoefWrite k off data) s fun t =>
      let m := r.access.rwl ||| r.access.rw;
      t.reg r k i = (s.reg r k i &&& ~~~ m) ||| (data &&& m)) ∧
  (∀ (k : Fin 8) (msq snr : BitVec 16) (l0 l1 l2 l3 : W32) (s : State),
    s.rxRuns k = true → s.island (lineIsland k) = .on →
    Completes (.lrxMonitorWindow k msq snr l0 l1 l2 l3) s fun t =>
      t.fld LRX_SIG_PWR.MSQ k = msq.toNat ∧ t.fld LRX_SNR.SNR k = snr.toNat ∧
      (s.flag LRX_STAT.CDR_LOCK k = false → t.regNow .cobbler ⟨.LRX_SNR, k, 0⟩ = 0) ∧
      (s.flag LRX_STAT.CDR_LOCK k = true → t.regNow .cobbler ⟨.LRX_SNR, k, 0⟩ = t.reg .LRX_SNR k) ∧
      t.reg .LRX_LEVEL k 0 = l0 ∧ t.reg .LRX_LEVEL k 1 = l1 ∧ t.reg .LRX_LEVEL k 2 = l2 ∧
      t.reg .LRX_LEVEL k 3 = l3) ∧
  (∀ (k : Fin 8) (s : State),
    s.Shaped → s.lineUsed k = true → s.flag LRX_HIST_STAT.BUSY k = false →
    Completes (.histStart k) s fun t =>
      t.flag LRX_HIST_STAT.BUSY k = true ∧ t.flag LRX_HIST_STAT.DONE k = false ∧
      (t.line k).histGoal = 2 ^ s.histLen k ∧ (t.line k).histTaken = 0 ∧
      ∀ b < 256, t.word (histAddr k b) = protect 0) ∧
  (∀ (k : Fin 8) (x : TapRecord) (s : State),
    s.Shaped → s.rxRuns k = true → s.flag LRX_HIST_STAT.BUSY k = true → (s.line k).histTaken < (s.line k).histGoal →
    Completes (.tapRecord k x) s fun t =>
      let code := x.codes.getD codesAhead 0;
      let v :=
        if s.flag LRX_HIST_CTL.SRC k then
          satSigned 8 (floorShift (s.lineY k (x.codes.map (fun c => c.toInt))) 6)
        else
          code.toInt;
      t.histBin k (v + 128).toNat = satN 32 (s.histBin k (v + 128).toNat + 1) ∧
      (t.line k).histTaken = (s.line k).histTaken + 1) ∧
  (∀ (k : Fin 8) (s : State),
    s.rxRuns k = true → s.flag LRX_HIST_STAT.BUSY k = true → (s.line k).histTaken = (s.line k).histGoal →
    Completes (.histDone k) s fun t =>
      t.flag LRX_HIST_STAT.BUSY k = false ∧ t.flag LRX_HIST_STAT.DONE k = true ∧
      t.flag LRX_CAUSE.HIST_DONE k = true ∧ t.mem = s.mem) ∧
  (∀ (k : Fin 8) (s : State) (f : Fade),
    s.Shaped → (s.line k).fade = some f → f ≠ .rampOut → (s.line k).fadeAt + 1000 ≤ s.now →
    Completes (.vnleFadeDone k) s fun t =>
      (t.line k).fade = none ∧
      (f = .fadeIn →
       t.flag LRX_CFG.VNLE_EFF k = true ∧ t.flag LRX_CAUSE.THROTTLE k = true ∧
       Logged s t [⟨0x0406, sevInfo, k, 2, 0, 0, none⟩]))

/-- Receive calibration: the commands and phases of R79–R84 move the trims, the phase, the rounds and the result.
CAL_RX_RUN with its checks met starts round 1 in MEASURE and completes later; CAL_RX_ABORT ends a run and answers
whether there was one; CAL_RX_STATUS answers the status words. The end of MEASURE converges with every delta 0,
or sets targets and begins APPLY; the end of APPLY begins the next round or ends the run. A trim step moves each
field one code towards its target at the sub-ADC's step instant; a target write acts at once without lock. (R79,
R80, R81, R82, R83, R84) -/
def Obligations.ReceiveCalibrationResults : Prop :=
  (∀ (e : Fin 256) (s : State),
    Runs s e 0x11 0x01 → s.Shaped → (s.params e).byte 0 ≤ 7 → s.lineUsed ((s.params e).byte 0) = true →
    s.applyHoldsLine ((s.params e).byte 0) = false → (s.params e).byte 1 ≠ 0 → (s.params e).byte 1 ≤ 7 →
    (s.params e).byte 2 ≠ 0 → (s.params e).byte 2 ≤ 8 → (s.params e).zeroFrom 3 = true →
    (s.line ((s.params e).byte 0)).calRx = none → s.calRxCheck ((s.params e).byte 0) = 0 →
    Completes (.calRxRun e) s fun t =>
      (t.line ((s.params e).byte 0)).calRx.map (fun r => (r.mask, r.rounds)) = some ((s.params e).byte 1,
        (s.params e).byte 2) ∧
      t.fld LRX_CAL_STAT.PHASE ((s.params e).byte 0) = 2 ∧ t.fld LRX_CAL_STAT.ROUND ((s.params e).byte 0) = 1 ∧
      t.flag LRX_STAT.CAL_BUSY ((s.params e).byte 0) = true ∧ (t.eyelet e).reply = none) ∧
  (∀ (e : Fin 256) (s : State),
    Runs s e 0x11 0x02 → s.Shaped → (s.params e).byte 0 ≤ 7 → s.applyHoldsLine ((s.params e).byte 0) = false →
    (s.params e).zeroFrom 1 = true →
    (∀ r, (s.line ((s.params e).byte 0)).calRx = some r → r.waiter.aqique = true ∨ r.waiter.eyelet ≠ e.val) →
    Completes (.calRxAbort e) s fun t =>
      Answered t e 0 (b2n (s.line ((s.params e).byte 0)).calRx.isSome) ∧
      (t.line ((s.params e).byte 0)).calRx = none) ∧
  (∀ (e : Fin 256) (s : State),
    Runs s e 0x11 0x03 → (s.params e).byte 0 ≤ 7 → s.applyHoldsLine ((s.params e).byte 0) = false →
    (s.params e).zeroFrom 1 = true →
    Completes (.calRxStatus e) s fun t =>
      Answered t e 0 (s.reg .LRX_CAL_STAT ((s.params e).byte 0)).toNat (s.reg .LRX_CAL_RESULT0 ((s.params e).byte
        0)).toNat) ∧
  (∀ (k : Fin 8) (skew gain offset : List Int) (s : State) (run : CalRun),
    s.Shaped → (s.line k).calRx = some run → s.fld LRX_CAL_STAT.PHASE k = 2 →
    Completes (.calRxMeasureEnd k skew gain offset) s fun t =>
      let n :=
        max (maxAbs (if bitOf run.mask 0 then calDeltas 128 8 offset else [])) (max (maxAbs (if bitOf run.mask 1
          then calDeltas 128 8 gain else [])) (maxAbs (if bitOf run.mask 2 then calDeltas 128 16 skew else [])));
      (n = 0 →
       (t.line k).calRx = none ∧ t.flag LRX_CAL_RESULT0.CONVERGED k = true ∧ t.fld LRX_CAL_STAT.CODE k = 0 ∧
       t.flag (CAL_CAUSE.RX_DONE (k.val % 4)) (dieOfLane k) = true) ∧
      (n ≠ 0 →
       t.fld LRX_CAL_STAT.PHASE k = 3 ∧
       (t.line k).calRx = some
         { run with periods := n, skewSpread := if bitOf run.mask 2 then satN 16 ((spreadOf 128 skew + 8) / 16) else 0, offsetSpread := if bitOf run.mask 0 then satN 16 ((spreadOf 128 offset + 128) / 256) else 0 } ∧
       ∀ i < 128,
         signed 8 (getBits (t.reg .LRX_ADC_TTRIM k i) 0 8) = (if bitOf run.mask 2 then satSigned 8 (signed 8
           (getBits (s.reg .LRX_ADC_TRIM k i) 0 8) + (calDeltas 128 16 skew).getD i 0) else signed 8 (getBits
           (s.reg .LRX_ADC_TTRIM k i) 0 8)) ∧
         signed 8 (getBits (t.reg .LRX_ADC_TTRIM k i) 8 8) = (if bitOf run.mask 1 then satSigned 8 (signed 8
           (getBits (s.reg .LRX_ADC_TRIM k i) 8 8) + (calDeltas 128 8 gain).getD i 0) else signed 8 (getBits
           (s.reg .LRX_ADC_TTRIM k i) 8 8)) ∧
         signed 6 (getBits (t.reg .LRX_ADC_TTRIM k i) 16 6) = (if bitOf run.mask 0 then satSigned 6 (signed 6
           (getBits (s.reg .LRX_ADC_TRIM k i) 16 6) + (calDeltas 128 8 offset).getD i 0) else signed 6 (getBits
           (s.reg .LRX_ADC_TTRIM k i) 16 6)))) ∧
  (∀ (k : Fin 8) (s : State) (run : CalRun),
    s.Shaped → (s.line k).calRx = some run → s.fld LRX_CAL_STAT.PHASE k = 3 → run.periods = 0 →
    s.trimsReached k run.mask = true →
    Completes (.calRxApplyEnd k) s fun t =>
      (s.fld LRX_CAL_STAT.ROUND k < run.rounds →
       t.fld LRX_CAL_STAT.PHASE k = 2 ∧ t.fld LRX_CAL_STAT.ROUND k = (s.fld LRX_CAL_STAT.ROUND k + 1) % 16) ∧
      (run.rounds ≤ s.fld LRX_CAL_STAT.ROUND k → (t.line k).calRx = none ∧ t.fld LRX_CAL_STAT.CODE k = 0) ∧
      t.fld LRX_CAL_RESULT0.ROUNDS_DONE k = satN LRX_CAL_RESULT0.ROUNDS_DONE.w (s.fld LRX_CAL_RESULT0.ROUNDS_DONE
        k + 1)) ∧
  (∀ (k : Fin 8) (n : Fin 128) (s : State),
    s.flag LRX_STAT.CDR_LOCK k = true → (s.line k).adc.due s.now n 128 = true →
    Completes (.adcTrimStep k n) s fun t =>
      t.reg .LRX_ADC_TRIM k n = (stepTrim (s.reg .LRX_ADC_TRIM k n) (s.reg .LRX_ADC_TTRIM k n)).1) ∧
  (∀ (k : Fin 8) (n : Fin 128) (data : W32) (s : State),
    s.lineUsed k = true → (s.line k).calRx = none →
    Completes (.lrxTtrimWrite k n data) s fun t =>
      let m := (Reg.access .LRX_ADC_TTRIM).rwl ||| (Reg.access .LRX_ADC_TTRIM).rw;
      let v := (s.reg .LRX_ADC_TTRIM k n &&& ~~~ m) ||| (data &&& m);
      t.reg .LRX_ADC_TTRIM k n = v ∧
      t.reg .LRX_ADC_TRIM k n = (if s.flag LRX_STAT.CDR_LOCK k then s.reg .LRX_ADC_TRIM k n else v))

/-- Transmit calibration: the commands and phases of R102–R105 move the skew trims, the phase, the rounds and the
result. As for the receiver: CAL_TX_RUN starts round 1 in MEASURE, CAL_TX_ABORT ends a run, CAL_TX_STATUS answers
the status words, MEASURE converges or begins APPLY, APPLY begins the next round or ends the run, a live output's
skew trim moves one code towards its target, and a target write acts at once on a squelched output. (R102, R103,
R104, R105) -/
def Obligations.TransmitCalibrationResults : Prop :=
  (∀ (e : Fin 256) (s : State),
    Runs s e 0x11 0x04 → s.Shaped → (s.params e).byte 0 ≤ 7 → s.lineUsed ((s.params e).byte 0) = true →
    s.applyHoldsLine ((s.params e).byte 0) = false → (s.params e).byte 1 = 0 → (s.params e).byte 2 ≠ 0 →
    (s.params e).byte 2 ≤ 8 → (s.params e).zeroFrom 3 = true → (s.line ((s.params e).byte 0)).calTx = none →
    s.calTxCheck ((s.params e).byte 0) = 0 →
    Completes (.calTxRun e) s fun t =>
      (t.line ((s.params e).byte 0)).calTx.map (fun r => r.rounds) = some ((s.params e).byte 2) ∧
      t.fld LTX_CAL_STAT.PHASE ((s.params e).byte 0) = 2 ∧ t.fld LTX_CAL_STAT.ROUND ((s.params e).byte 0) = 1 ∧
      t.flag LTX_STAT.CAL_BUSY ((s.params e).byte 0) = true ∧ (t.eyelet e).reply = none) ∧
  (∀ (e : Fin 256) (s : State),
    Runs s e 0x11 0x05 → s.Shaped → (s.params e).byte 0 ≤ 7 → s.lineUsed ((s.params e).byte 0) = true →
    s.applyHoldsLine ((s.params e).byte 0) = false → (s.params e).zeroFrom 1 = true →
    (∀ r, (s.line ((s.params e).byte 0)).calTx = some r → r.waiter.aqique = true ∨ r.waiter.eyelet ≠ e.val) →
    Completes (.calTxAbort e) s fun t =>
      Answered t e 0 (b2n (s.line ((s.params e).byte 0)).calTx.isSome) ∧
      (t.line ((s.params e).byte 0)).calTx = none) ∧
  (∀ (e : Fin 256) (s : State),
    Runs s e 0x11 0x06 → (s.params e).byte 0 ≤ 7 → s.lineUsed ((s.params e).byte 0) = true →
    s.applyHoldsLine ((s.params e).byte 0) = false → (s.params e).zeroFrom 1 = true →
    Completes (.calTxStatus e) s fun t =>
      Answered t e 0 (s.reg .LTX_CAL_STAT ((s.params e).byte 0)).toNat (s.reg .LTX_CAL_RESULT0 ((s.params e).byte
        0)).toNat) ∧
  (∀ (k : Fin 8) (skew : List Int) (s : State) (run : CalRun),
    s.Shaped → (s.line k).calTx = some run → s.fld LTX_CAL_STAT.PHASE k = 2 →
    Completes (.calTxMeasureEnd k skew) s fun t =>
      let n := maxAbs (calDeltas 64 16 skew);
      (n = 0 →
       (t.line k).calTx = none ∧ t.flag LTX_CAL_RESULT0.CONVERGED k = true ∧ t.fld LTX_CAL_STAT.CODE k = 0 ∧
       t.flag (CAL_CAUSE.TX_DONE (k.val % 4)) (dieOfLane k) = true) ∧
      (n ≠ 0 →
       t.fld LTX_CAL_STAT.PHASE k = 3 ∧
       (t.line k).calTx = some { run with periods := n, skewSpread := satN 16 ((spreadOf 64 skew + 8) / 16) } ∧
       ∀ i < 64,
         t.sfld LTX_DAC_TTRIM.SKEW k i = satSigned 8 (s.sfld LTX_DAC_TRIM.SKEW k i + (calDeltas 64 16 skew).getD i
           0))) ∧
  (∀ (k : Fin 8) (s : State) (run : CalRun),
    s.Shaped → (s.line k).calTx = some run → s.fld LTX_CAL_STAT.PHASE k = 3 → run.periods = 0 →
    s.dacReached k = true →
    Completes (.calTxApplyEnd k) s fun t =>
      (s.fld LTX_CAL_STAT.ROUND k < run.rounds →
       t.fld LTX_CAL_STAT.PHASE k = 2 ∧ t.fld LTX_CAL_STAT.ROUND k = (s.fld LTX_CAL_STAT.ROUND k + 1) % 16) ∧
      (run.rounds ≤ s.fld LTX_CAL_STAT.ROUND k → (t.line k).calTx = none ∧ t.fld LTX_CAL_STAT.CODE k = 0)) ∧
  (∀ (k : Fin 8) (n : Fin 64) (s : State),
    s.lineUsed k = true → s.fld LTX_SQ_STAT.REASON k = 0 → (s.line k).dac.due s.now n 64 = true →
    Completes (.dacTrimStep k n) s fun t =>
      t.reg .LTX_DAC_TRIM k n = (stepField (0, 8) (s.reg .LTX_DAC_TRIM k n) (s.reg .LTX_DAC_TTRIM k n)).1) ∧
  (∀ (k : Fin 8) (n : Fin 64) (data : W32) (s : State),
    s.lineUsed k = true → (s.line k).calTx = none →
    Completes (.ltxTtrimWrite k n data) s fun t =>
      let m := (Reg.access .LTX_DAC_TTRIM).rwl ||| (Reg.access .LTX_DAC_TTRIM).rw;
      let v := (s.reg .LTX_DAC_TTRIM k n &&& ~~~ m) ||| (data &&& m);
      t.reg .LTX_DAC_TTRIM k n = v ∧
      t.reg .LTX_DAC_TRIM k n = (if s.fld LTX_SQ_STAT.REASON k = 0 then s.reg .LTX_DAC_TRIM k n else v))

/-- Line transmitters: coefficients, levels, COMMIT, the ramp, clipping, doze, the checker and loopback slips of
R93–R101. LTX_SET_FIR and LTX_SET_LEVELS write the shadows; COMMIT starts a ramp of a live output and writes a
squelched one at once, and a ramp step gives old + (target − old) × step / 16 until the targets are reached. A
live output sends each symbol as R89 has it (Gray mapping, precoding, level table, FIR, insole addition, rounding
and saturation) and counts the saturated ones with CLIP; a loopback slip is counted with its cause; the doze
timer squelches the output and its island dozes; a wake starts the wake sequence; the checker locks on 128
symbols of its pattern, counts every symbol and error while locked, and loses lock with its cause and event.
(R89, R90, R91, R93, R94, R98, R100, R101) -/
def Obligations.LineTransmitterResults : Prop :=
  (∀ (e : Fin 256) (s : State),
    Runs s e 0x05 0x01 → (s.params e).byte 0 ≤ 7 → s.lineUsed ((s.params e).byte 0) = true →
    s.applyHoldsLine ((s.params e).byte 0) = false → (s.params e).byte 1 = 0 → (s.params e).allS12 2 7 = true →
    (s.params e).zeroFrom 16 = true →
    Completes (.ltxSetFir e) s fun t =>
      Answered t e 0 ∧
      ∀ n < 7, t.sfld LTX_FIR_COEF.COEF ((s.params e).byte 0) n = signed 16 ((s.params e).half (2 + 2 * n))) ∧
  (∀ (e : Fin 256) (s : State),
    Runs s e 0x05 0x02 → (s.params e).byte 0 ≤ 7 → s.lineUsed ((s.params e).byte 0) = true →
    s.applyHoldsLine ((s.params e).byte 0) = false → (s.params e).byte 1 + (s.params e).byte 2 ≤ 64 →
    (s.params e).byte 2 ≠ 0 → (s.params e).byte 2 ≤ 10 → (s.params e).byte 3 = 0 →
    (s.params e).allS12 4 ((s.params e).byte 2) = true →
    (s.params e).zeroFrom (4 + 2 * (s.params e).byte 2) = true →
    Completes (.ltxSetLevels e) s fun t =>
      Answered t e 0 ∧
      ∀ n < (s.params e).byte 2,
        t.sfld LTX_LUT.LEVEL ((s.params e).byte 0) ((s.params e).byte 1 + n) = signed 16 ((s.params e).half (4 + 2
          * n))) ∧
  (∀ (e : Fin 256) (s : State),
    Runs s e 0x05 0x03 → s.Shaped → (s.params e).byte 0 ≤ 7 → s.lineUsed ((s.params e).byte 0) = true →
    s.applyHoldsLine ((s.params e).byte 0) = false → (s.params e).zeroFrom 1 = true →
    Completes (.ltxCommit e) s fun t =>
      Answered t e 0 (b2n (s.fld LTX_SQ_STAT.REASON ((s.params e).byte 0) == 0)) ∧
      (s.fld LTX_SQ_STAT.REASON ((s.params e).byte 0) = 0 →
       t.flag LTX_STAT.RAMP ((s.params e).byte 0) = true ∧
       (t.line ((s.params e).byte 0)).ramp = some
         ⟨0, s.txActive ((s.params e).byte 0), s.txShadows ((s.params e).byte 0)⟩) ∧
      (s.fld LTX_SQ_STAT.REASON ((s.params e).byte 0) ≠ 0 →
       (∀ n < 7, t.fld LTX_FIR_ACT.COEF ((s.params e).byte 0) n = s.fld LTX_FIR_COEF.COEF ((s.params e).byte 0) n) ∧
       ∀ n < 64, t.fld LTX_LUT_ACT.LEVEL ((s.params e).byte 0) n = s.fld LTX_LUT.LEVEL ((s.params e).byte 0) n)) ∧
  (∀ (k : Fin 8) (s : State),
    s.Shaped → s.lineUsed k = true →
    Completes (.commit k) s fun t =>
      (s.fld LTX_SQ_STAT.REASON k = 0 →
       t.flag LTX_STAT.RAMP k = true ∧ (t.line k).ramp = some ⟨0, s.txActive k, s.txShadows k⟩) ∧
      (s.fld LTX_SQ_STAT.REASON k ≠ 0 →
       (∀ n < 7, t.fld LTX_FIR_ACT.COEF k n = s.fld LTX_FIR_COEF.COEF k n) ∧
       ∀ n < 64, t.fld LTX_LUT_ACT.LEVEL k n = s.fld LTX_LUT.LEVEL k n)) ∧
  (∀ (k : Fin 8) (s : State) (r : Ramp),
    s.Shaped → (s.line k).ramp = some r → r.from_.length = 71 → r.to_.length = 71 →
    Completes (.ltxRampStep k) s fun t =>
      (r.step < 15 →
       (t.line k).ramp = some { r with step := r.step + 1 } ∧
       ∀ n < 7,
         t.fld LTX_FIR_ACT.COEF k n = unsigned 12 (rampValue (r.from_.getD n 0) (r.to_.getD n 0) (r.step + 1))) ∧
      (15 ≤ r.step →
       (t.line k).ramp = none ∧ t.flag LTX_STAT.RAMP k = false ∧ t.flag LTX_CAUSE.RAMP_DONE k = true ∧
       ∀ n < 7, t.fld LTX_FIR_ACT.COEF k n = unsigned 12 (r.to_.getD n 0))) ∧
  (∀ (k : Fin 8) (sub : Fin 226875) (s : State) (x : BitVec 2),
    s.Shaped → s.txLive k = true → 3 ≤ (s.line k).tx.hist.length →
    Completes (.ltxClip k sub [x]) s fun t =>
      let y := (s.txSymbol k x).1;
      let h := (y :: (s.line k).tx.hist).take 9;
      let c := (List.range 7).map (fun n => s.sfld LTX_FIR_ACT.COEF k n);
      let lut := (List.range 64).map (fun n => s.sfld LTX_LUT_ACT.LEVEL k n);
      let out := txDac (txFir c lut h) (s.insSampleAt k (s.insBits k) (s.gridPos k sub - 3));
      (t.line k).tx.hist = h ∧ (t.line k).tx.dac = out.1 ∧
      t.cnt .LTX_CLIP_CNT k = saturated (s.cnt .LTX_CLIP_CNT k) (b2n out.2) ∧
      t.flag LTX_CAUSE.CLIP k = (s.flag LTX_CAUSE.CLIP k || out.2) ∧
      ((s.mode.run.lane k).txPattern = 0 → s.fld LTX_CFG.LOOPBACK k ≠ 3 →
       y = .sym (precode (grayOf x.toNat) (s.line k).tx.prev) ∧
       (t.line k).tx.prev = precode (grayOf x.toNat) (s.line k).tx.prev) ∧
      ((s.mode.run.lane k).txPattern = 0 → s.fld LTX_CFG.LOOPBACK k = 3 → y = .sym x.toNat)) ∧
  (∀ (k : Fin 8) (sub : Fin 226875) (src : List (BitVec 2)) (s : State),
    s.Shaped → s.txLive k = true →
    Completes (.ltxClip k sub src) s fun t =>
      ∃ n,
        n ≤ src.length ∧ t.cnt .LTX_CLIP_CNT k = saturated (s.cnt .LTX_CLIP_CNT k) n ∧
        t.flag LTX_CAUSE.CLIP k = (s.flag LTX_CAUSE.CLIP k || decide (0 < n)) ∧
        (t.line k).tx.hist.length = (if src = [] then (s.line k).tx.hist.length else min 9 ((s.line
          k).tx.hist.length + src.length))) ∧
  (∀ (k : Fin 8) (sub : Fin 226875) (src : List (BitVec 2)) (s : State),
    s.txLive k = false →
    Completes (.ltxClip k sub src) s fun t =>
      t = s) ∧
  (∀ (k : Fin 8) (s : State),
    s.lineUsed k = true → (s.mode.run.lane k).dozeTx ≠ 0 → s.flag LTX_STAT.DOZE k = false → s.insBusy k = false →
    Completes (.ltxDozeTimer k) s fun t =>
      t.flag LTX_STAT.DOZE k = true ∧ bitOf (t.fld LTX_SQ_STAT.REASON k) 5 = true ∧
      (s.accepted (lineIsland k) = [] → s.seqFirst 5 k = false → s.seqFirst 6 k = false →
       t.island (lineIsland k) = .doze)) ∧
  (∀ (k : Fin 8) (s : State),
    s.flag LTX_STAT.DOZE k = true →
    Completes (.ltxWake k) s fun t =>
      t.seqOn 6 k = true) ∧
  (∀ (k : Fin 8) (start : BitVec 31) (symbols : List (BitVec 2)) (s : State),
    s.Shaped → s.lineUsed k = true → (s.mode.run.lane k).rxCheck ≠ 0 → s.flag LTX_STAT.CHK_LOCK k = false →
    symbols.length = 128 →
    (patternSymbols (s.mode.run.lane k).rxCheck 128 start.toNat).1 = symbols.map (fun g => g.toNat) →
    Completes (.ltxChkLock k start symbols) s fun t =>
      t.flag LTX_STAT.CHK_LOCK k = true ∧
      (t.line k).chk.ref = (patternSymbols (s.mode.run.lane k).rxCheck 128 start.toNat).2 ∧
      (t.line k).chk.errs = []) ∧
  (∀ (k : Fin 8) (symbols : List (BitVec 2)) (s : State),
    s.Shaped → s.flag LTX_STAT.CHK_LOCK k = true →
    Completes (.ltxChkLost k symbols) s fun t =>
      let r := (s.line k).chk.run (s.mode.run.lane k).rxCheck symbols;
      let errs := saturated (s.cnt .LTX_CHK_ERR_CNT k) r.2.2.1;
      (t.line k).chk = r.1 ∧ t.cnt .LTX_CHK_ERR_CNT k = errs ∧
      t.cnt .LTX_CHK_SYM_CNT k = s.cnt .LTX_CHK_SYM_CNT k + BitVec.ofNat 48 r.2.1 ∧
      t.flag LTX_STAT.CHK_LOCK k = !r.2.2.2 ∧
      (r.2.2.2 = true → t.flag LTX_CAUSE.CHK_LOST k = true ∧ Sent s t 0x0504 sevWarn k (errs.toNat % 2 ^ 32))) ∧
  (∀ (k : Fin 8) (s : State) (g : BitVec 2),
    s.Shaped → s.flag LTX_STAT.CHK_LOCK k = true →
    grayOf (patternNext (s.mode.run.lane k).rxCheck (s.line k).chk.ref).1 = g.toNat →
    ((s.line k).chk.errs.filter (fun n => decide ((s.line k).chk.count < n + 1024))).length < 64 →
    Completes (.ltxChkLost k [g]) s fun t =>
      t.cnt .LTX_CHK_ERR_CNT k = s.cnt .LTX_CHK_ERR_CNT k ∧
      t.cnt .LTX_CHK_SYM_CNT k = s.cnt .LTX_CHK_SYM_CNT k + 1 ∧ t.flag LTX_STAT.CHK_LOCK k = true) ∧
  (∀ (k : Fin 8) (again : Bool) (block : List (BitVec 2)) (s : State) (p : Nat),
    s.mode.run.portOfLine k = some p → (s.mode.run.port p).loopback = 3 →
    Completes (.ltxLbSlip k again block) s fun t =>
      t.cnt .LTX_LB_SLIP_CNT k = saturated (s.cnt .LTX_LB_SLIP_CNT k) ∧ t.flag LTX_CAUSE.LB_SLIP k = true)

/-- Rack and program-set commands: halt, resume, status, load, erase and list answer and act as R132 and R133 say.
RACK_HALT halts the named racks that run, RACK_RESUME starts the named racks, each answering the racks it acted
on; RACK_STATUS answers the two status words. PSET_LOAD_BEGIN opens a staging region in SRAM; PSET_LOAD_END of an
image of the right layout stores it if its signature verifies and rejects it with 0x0501 and PSET_REJECTED if
not, and the staging region closes; PSET_ERASE of a set no image names removes it; PSET_LIST answers loaded and
built-in sets. (R130, R132, R133) -/
def Obligations.RackCommandResults : Prop :=
  (∀ (e : Fin 256) (s : State),
    Runs s e 0x06 0x01 → (s.params e).byte 0 ≤ 7 → s.lineUsed ((s.params e).byte 0) = true →
    s.applyHoldsLine ((s.params e).byte 0) = false → (s.params e).zeroFrom 2 = true →
    Completes (.rackHalt e) s fun t =>
      let rs :=
        s.namedRacks ((s.params e).byte 0) ((s.params e).byte 1) (fun r => s.fld RACK_STAT.HALTED r != 0xFF);
      Answered t e 0 (rackBits rs) ∧ ∀ r ∈ rs, t.fld RACK_STAT.HALTED r = 0xFF ∧ t.fld RACK_STAT.RUNNING r = 0) ∧
  (∀ (e : Fin 256) (s : State),
    Runs s e 0x06 0x02 → (s.params e).byte 0 ≤ 7 → s.lineUsed ((s.params e).byte 0) = true →
    s.applyHoldsLine ((s.params e).byte 0) = false → (s.params e).zeroFrom 2 = true →
    Completes (.rackResume e) s fun t =>
      let rs := s.namedRacks ((s.params e).byte 0) ((s.params e).byte 1) (fun _ => true);
      Answered t e 0 (rackBits rs) ∧ ∀ r ∈ rs, t.fld RACK_STAT.HALTED r = 0 ∧ t.fld RACK_STAT.RUNNING r = 0xFF) ∧
  (∀ (e : Fin 256) (s : State),
    Runs s e 0x06 0x03 → (s.params e).byte 0 ≤ 63 → (s.params e).zeroFrom 1 = true →
    s.lineUsed ((s.params e).byte 0 / 8) = true → s.applyHoldsLine ((s.params e).byte 0 / 8) = false →
    Completes (.rackStatus e) s fun t =>
      Answered t e 0 (s.reg .RACK_STAT ((s.params e).byte 0)).toNat (s.reg .RACK_PROG_ID ((s.params e).byte
        0)).toNat) ∧
  (∀ (e : Fin 256) (s : State),
    Runs s e 0x06 0x04 → isSetId ((s.params e).byte 0) = true → (s.params e).byte 1 = 0 →
    (s.params e).byte 2 = 0 → (s.params e).byte 3 = 0 → (s.params e).zeroFrom 8 = true →
    (s.params e).wordAt 4 ≤ 524288 → s.stage = none →
    Completes (.psetLoadBegin e) s fun t =>
      let n := (s.params e).wordAt 4;
      ∃ a,
        Answered t e 0 a n ∧ t.stage = some ⟨.pset ((s.params e).byte 0), a, n⟩ ∧ 0x1000000 ≤ a ∧
        a + n ≤ 0x1200000 ∧ a % 8 = 0 ∧ t.flag HIF_WIN_BASE.EN 0 2 = true) ∧
  (∀ (e : Fin 256) (s : State) (g : Stage) (img : List Nat) (key : Key),
    Runs s e 0x06 0x05 → isSetId ((s.params e).byte 0) = true → (s.params e).zeroFrom 1 = true →
    s.stage = some g → g.use = .pset ((s.params e).byte 0) →
    ((s.begun e).closeStage.readBytes g.addr g.len).1 = some img → imageOk img ((s.params e).byte 0) = true →
    s.storeUsed ((s.params e).byte 0) + img.length ≤ 1048576 → s.keyOf (fieldOf img 10 1) = some key →
    Completes (.psetLoadEnd e) s fun t =>
      let q : Machine.PSet := psetOf img;
      t.stage = none ∧
      (signedBy key img = true →
       Answered t e 0 ∧ t.psets = s.psets.filter (fun (x : Machine.PSet) => x.id != (s.params e).byte 0) ++ [q] ∧
       Sent s t 0x0605 sevInfo ((s.params e).byte 0) (fieldOf img 12 4)) ∧
      (signedBy key img = false →
       Answered t e 0x0501 0 2 ∧ t.psets = s.psets ∧ Sent s t 0x0606 sevWarn ((s.params e).byte 0) 0x0501 2)) ∧
  (∀ (e : Fin 256) (s : State),
    Runs s e 0x06 0x06 → isSetId ((s.params e).byte 0) = true → (s.params e).zeroFrom 1 = true →
    s.mode.active.namesSet ((s.params e).byte 0) = false → s.mode.txn = none →
    Completes (.psetErase e) s fun t =>
      Answered t e 0 ∧ t.psets = s.psets.filter (fun (x : Machine.PSet) => x.id != (s.params e).byte 0)) ∧
  (∀ (e : Fin 256) (s : State),
    Runs s e 0x06 0x07 → (s.params e).zeroFrom 0 = true →
    Completes (.psetList e) s fun t =>
      Answered t e 0 (bitsWhere (fun n => s.psets.any (fun q => q.id == 0x80 + n)) 16) 0x1E)

/-- Counter banks and the central reader: clear, start, entries, list and bank commands as R135–R141 say.
CNT_BANK_CLEAR clears the counters its mask names (one that counts register writes then counts this one) and
leaves the others. CNT_RD_START takes LIST and COUNT and starts a run with BUSY alone set and T_FIRST taken (MCLK
counts 800 a microsecond: DEDUCED, log entry 58), or ignores START: while BUSY, and for a COUNT outside 1–64 (log
entries 58, 147). Each entry stores its value and RESP: an RS quantity the 48 low bits of its READ64, without a
snapshot; a misaligned address, a queue register or no block DECODE and 0; an island that is off OFF and 0; one
unanswered for 50 µs TIMEOUT and 0. The last entry ends the run with DONE, T_LAST, the span check, its event, and
the completion of CNT_LIST_RUN. CNT_LIST_SET, CNT_LIST_RUN and CNT_BANK_SET write the list, start a run and set
up one counter, answer 0x0308 while BUSY and 0x0101 for parameters out of range. (R135, R136, R140, R141) -/
def Obligations.CounterCommandResults : Prop :=
  (∀ (src : Master) (die : Fin 3) (island : BitVec 8) (data : W32) (s : State),
    Writes s src ((Block.bank (islandId die island.toNat)).base + 4) → isIsland (islandId die island.toNat) = true →
    Completes (.cntBankClear src die island data) s fun t =>
      let u := islandId die island.toNat;
      Accepted t src ∧
      ∀ n < 8,
        (bitOf data.toNat n = true →
         t.cnt .CNT_VAL u n = 0 ∨
         (t.cnt .CNT_VAL u n = 1 ∧ bitOf (s.fld CNT_BANK_CTL.EN u) n = true ∧ s.fld CNT_SEL.EVENT u n = 3)) ∧
        (bitOf data.toNat n = false → bitOf (s.fld CNT_BANK_CTL.EN u) n = false →
         t.cnt .CNT_VAL u n = s.cnt .CNT_VAL u n)) ∧
  (∀ (src : Master) (data : W32) (s : State),
    Writes s src 0x40B0000 → s.flag CNT_RD_STAT.BUSY = false → getBits data 16 1 = 1 → 1 ≤ getBits data 8 7 →
    getBits data 8 7 ≤ 64 →
    Completes (.cntRdStart src data) s fun t =>
      Accepted t src ∧ t.reg .CNT_RD_STAT = 1 ∧ t.fld CNT_RD_CTL.LIST = getBits data 0 2 ∧
      t.fld CNT_RD_CTL.COUNT = getBits data 8 7 ∧
      t.reader = { list := getBits data 0 2, count := getBits data 8 7 } ∧
      t.wide .CNT_RD_T_FIRST = BitVec.ofNat 256 s.mclk) ∧
  (∀ (src : Master) (data : W32) (s : State),
    Writes s src 0x40B0000 →
    (s.flag CNT_RD_STAT.BUSY = true ∨ getBits data 16 1 = 0 ∨ getBits data 8 7 = 0 ∨ 64 < getBits data 8 7) →
    Completes (.cntRdStart src data) s fun t =>
      Accepted t src ∧ t.reg .CNT_RD_STAT = s.reg .CNT_RD_STAT ∧ t.fld CNT_RD_CTL.LIST = getBits data 0 2 ∧
      t.fld CNT_RD_CTL.COUNT = getBits data 8 7 ∧ t.reader = s.reader ∧
      t.wide .CNT_RD_T_FIRST = s.wide .CNT_RD_T_FIRST) ∧
  (∀ (elapsed : Nat) (s : State),
    s.pwr.held = false → s.flag CNT_RD_STAT.BUSY = true →
    ((s.reg .CNT_LIST 0 (64 * s.reader.list + s.reader.index)).toNat % 8 ≠ 0 ∨
     namesQueue ((s.reg .CNT_LIST 0 (64 * s.reader.list + s.reader.index)).toNat) = true) →
    Completes (.cntRdEntryResponse elapsed) s fun t =>
      ReaderStored s t 3 0 elapsed ∧ t.racks = s.racks ∧ t.time = s.time) ∧
  (∀ (elapsed : Nat) (s : State) (b : Block) (off : Nat) (k : RKey) (sh : Bool),
    s.pwr.held = false → s.flag CNT_RD_STAT.BUSY = true →
    (s.reg .CNT_LIST 0 (64 * s.reader.list + s.reader.index)).toNat % 8 = 0 → (s.waitingOf .cobbler).length < 16 →
    s.mustWait .cobbler ((s.reg .CNT_LIST 0 (64 * s.reader.list + s.reader.index)).toNat) = false →
    s.hasCredit .cobbler ((s.reg .CNT_LIST 0 (64 * s.reader.list + s.reader.index)).toNat) true = true →
    blockAt ((s.reg .CNT_LIST 0 (64 * s.reader.list + s.reader.index)).toNat) = some (b, off) →
    memKind b off = none → busReg b off = some (k, 0, sh) → k.reg.words ≠ 1 → isQueue k.reg = false →
    k.reg ≠ .EVR_WIN → k.reg ≠ .CNT_VAL → (s.island b.island = .on ∨ s.island b.island = .doze) →
    Completes (.cntRdEntryResponse elapsed) s fun t =>
      let v := s.wideNow k sh;
      ReaderStored s t 0 ((wideWord v 1 ++ wideWord v 0).toNat % 2 ^ 48) elapsed ∧ t.snaps = s.snaps) ∧
  (∀ (elapsed : Nat) (s : State) (b : Block) (off : Nat),
    s.pwr.held = false → s.flag CNT_RD_STAT.BUSY = true →
    (s.reg .CNT_LIST 0 (64 * s.reader.list + s.reader.index)).toNat % 8 = 0 →
    namesQueue ((s.reg .CNT_LIST 0 (64 * s.reader.list + s.reader.index)).toNat) = false →
    (s.waitingOf .cobbler).length < 16 →
    s.mustWait .cobbler ((s.reg .CNT_LIST 0 (64 * s.reader.list + s.reader.index)).toNat) = false →
    s.hasCredit .cobbler ((s.reg .CNT_LIST 0 (64 * s.reader.list + s.reader.index)).toNat) true = true →
    blockAt ((s.reg .CNT_LIST 0 (64 * s.reader.list + s.reader.index)).toNat) = some (b, off) →
    memKind b off = none → s.island b.island ≠ .on → s.island b.island ≠ .doze →
    Completes (.cntRdEntryResponse elapsed) s fun t =>
      ReaderStored s t 1 0 elapsed) ∧
  (∀ (elapsed : Nat) (s : State),
    s.pwr.held = false → s.flag CNT_RD_STAT.BUSY = true →
    (s.reg .CNT_LIST 0 (64 * s.reader.list + s.reader.index)).toNat % 8 = 0 →
    namesQueue ((s.reg .CNT_LIST 0 (64 * s.reader.list + s.reader.index)).toNat) = false →
    (s.waitingOf .cobbler).length < 16 →
    s.mustWait .cobbler ((s.reg .CNT_LIST 0 (64 * s.reader.list + s.reader.index)).toNat) = false →
    s.hasCredit .cobbler ((s.reg .CNT_LIST 0 (64 * s.reader.list + s.reader.index)).toNat) true = true →
    blockAt ((s.reg .CNT_LIST 0 (64 * s.reader.list + s.reader.index)).toNat) = none →
    Completes (.cntRdEntryResponse elapsed) s fun t =>
      ReaderStored s t 3 0 elapsed) ∧
  (∀ (elapsed : Nat) (s : State),
    s.pwr.held = false → s.flag CNT_RD_STAT.BUSY = true →
    (s.reg .CNT_LIST 0 (64 * s.reader.list + s.reader.index)).toNat % 8 = 0 →
    namesQueue ((s.reg .CNT_LIST 0 (64 * s.reader.list + s.reader.index)).toNat) = false →
    (s.waitingOf .cobbler).length < 16 →
    (s.mustWait .cobbler ((s.reg .CNT_LIST 0 (64 * s.reader.list + s.reader.index)).toNat) = true ∨
     s.hasCredit .cobbler ((s.reg .CNT_LIST 0 (64 * s.reader.list + s.reader.index)).toNat) true = false) →
    40000 ≤ elapsed →
    Completes (.cntRdEntryResponse elapsed) s fun t =>
      ReaderStored s t 4 0 elapsed) ∧
  (∀ (e : Fin 256) (s : State),
    Runs s e 0x13 0x01 → (s.params e).byte 0 ≤ 3 → (s.params e).byte 1 ≤ 63 → 1 ≤ (s.params e).byte 2 →
    (s.params e).byte 2 ≤ 5 → (s.params e).byte 1 + (s.params e).byte 2 ≤ 64 → (s.params e).byte 3 = 0 →
    (s.params e).zeroFrom (4 + 4 * (s.params e).byte 2) = true →
    Completes (.cntListSet e) s fun t =>
      (s.flag CNT_RD_STAT.BUSY = true → Answered t e 0x0308 ∧ ∀ i < 256, t.reg .CNT_LIST 0 i = s.reg .CNT_LIST 0 i) ∧
      (s.flag CNT_RD_STAT.BUSY = false →
       Answered t e 0 ∧
       (∀ i < (s.params e).byte 2,
          t.reg .CNT_LIST 0 (64 * (s.params e).byte 0 + (s.params e).byte 1 + i) = BitVec.ofNat 32 ((s.params
            e).wordAt (4 + 4 * i))) ∧
       ∀ i < 256,
         (i < 64 * (s.params e).byte 0 + (s.params e).byte 1 ∨
          64 * (s.params e).byte 0 + (s.params e).byte 1 + (s.params e).byte 2 ≤ i) →
         t.reg .CNT_LIST 0 i = s.reg .CNT_LIST 0 i)) ∧
  (∀ (e : Fin 256) (s : State),
    Runs s e 0x13 0x01 →
    (3 < (s.params e).byte 0 ∨ 63 < (s.params e).byte 1 ∨ (s.params e).byte 2 = 0 ∨ 5 < (s.params e).byte 2 ∨
     64 < (s.params e).byte 1 + (s.params e).byte 2) →
    Completes (.cntListSet e) s fun t =>
      Answered t e 0x0101 ∧ t.regs = s.regs) ∧
  (∀ (e : Fin 256) (s : State),
    Runs s e 0x13 0x02 → (s.params e).byte 0 ≤ 3 → 1 ≤ (s.params e).byte 1 → (s.params e).byte 1 ≤ 64 →
    (s.params e).zeroFrom 2 = true →
    Completes (.cntListRun e) s fun t =>
      (s.flag CNT_RD_STAT.BUSY = true → Answered t e 0x0308 ∧ t.reader = s.reader) ∧
      (s.flag CNT_RD_STAT.BUSY = false →
       t.reg .CNT_RD_STAT = 1 ∧
       t.reader =
         { list := (s.params e).byte 0, count := (s.params e).byte 1, waiter := some ⟨e, (s.eyelet e).serial, false⟩ } ∧
       t.wide .CNT_RD_T_FIRST = BitVec.ofNat 256 s.mclk ∧ (t.eyelet e).reply = none)) ∧
  (∀ (e : Fin 256) (s : State),
    Runs s e 0x13 0x02 → (3 < (s.params e).byte 0 ∨ (s.params e).byte 1 = 0 ∨ 64 < (s.params e).byte 1) →
    Completes (.cntListRun e) s fun t =>
      Answered t e 0x0101 ∧ t.reader = s.reader) ∧
  (∀ (e : Fin 256) (s : State),
    Runs s e 0x13 0x03 → (s.params e).byte 0 ≤ 2 →
    isIsland (islandId ((s.params e).byte 0) ((s.params e).byte 1)) = true → (s.params e).byte 2 ≤ 7 →
    (s.params e).byte 3 ≤ 3 → (s.params e).zeroFrom 16 = true →
    (s.island (islandId ((s.params e).byte 0) ((s.params e).byte 1)) = .on ∨
     s.island (islandId ((s.params e).byte 0) ((s.params e).byte 1)) = .doze) →
    Completes (.cntBankSet e) s fun t =>
      let u := islandId ((s.params e).byte 0) ((s.params e).byte 1);
      let n := (s.params e).byte 2;
      (s.flag CNT_RD_STAT.BUSY = true → Answered t e 0x0308 ∧ t.regs = s.regs ∧ t.cnts = s.cnts) ∧
      (s.flag CNT_RD_STAT.BUSY = false →
       Answered t e 0 ∧
       (∀ i < 8,
          bitOf (t.fld CNT_BANK_CTL.EN u) i = if i = n then bitOf ((s.params e).byte 3) 0 else bitOf (s.fld
            CNT_BANK_CTL.EN u) i) ∧
       (∀ i < 8,
          t.reg .CNT_SEL u i = if i = n then BitVec.ofNat 32 ((s.params e).wordAt 4) &&& (Reg.access .CNT_SEL).rw
            else s.reg .CNT_SEL u i) ∧
       (∀ i < 8,
          t.cnt .CNT_VAL u i = if i = n ∧ bitOf ((s.params e).byte 3) 1 = true then 0 else s.cnt .CNT_VAL u i) ∧
       t.reg .CNT_ADDR_LO u = (if (s.params e).wordAt 8 = 0 then s.reg .CNT_ADDR_LO u else BitVec.ofNat 32
         ((s.params e).wordAt 8)) ∧
       t.reg .CNT_ADDR_HI u = (if (s.params e).wordAt 12 = 0 then s.reg .CNT_ADDR_HI u else BitVec.ofNat 32
         ((s.params e).wordAt 12)))) ∧
  (∀ (e : Fin 256) (s : State),
    Runs s e 0x13 0x03 → (2 < (s.params e).byte 0 ∨ 7 < (s.params e).byte 2) →
    Completes (.cntBankSet e) s fun t =>
      Answered t e 0x0101 ∧ t.regs = s.regs ∧ t.cnts = s.cnts)

/-- Mode transactions: begin, stage, validate, abort, read, port status and expiry as R55–R57 and R65 say.
MODE_BEGIN opens a transaction with the next ID and the active image staged. A staging command with fields in
range replaces its descriptor and makes the transaction OPEN; MODE_VALIDATE answers what validation finds and
makes the transaction VALIDATED, or OPEN with MODE_REJECTED; MODE_ABORT discards it; MODE_READ answers 8 bytes of
a descriptor; MODE_PORT_STATUS a port's state and reason. After 10 s without a staging, validation or apply
command an open transaction expires and the mode stays. (R47, R48, R49, R55, R56, R57, R65) -/
def Obligations.TransactionResults : Prop :=
  (∀ (e : Fin 256) (s : State),
    Runs s e 0x15 0x01 → (s.params e).zeroFrom 0 = true → s.applying = false → s.mode.txn = none →
    Completes (.modeBegin e) s fun t =>
      let id := s.mode.lastId % 0xFFFF + 1;
      Answered t e 0 id ∧ t.mode.lastId = id ∧
      t.mode.txn = some { id := id, staged := s.mode.active, touched := s.now }) ∧
  (∀ (e : Fin 256) (s : State) (x : Txn) (n : Nat) (d : PortDesc),
    Runs s e 0x15 0x02 → s.applying = false → s.mode.expired.contains ((s.params e).half 0) = false →
    s.mode.txn = some x → x.id = (s.params e).half 0 → (s.params e).portDesc = some (n, d) →
    Completes (.modeStagePort e) s fun t =>
      Answered t e 0 ∧
      t.mode.txn = some
        { x with staged := { x.staged with ports := x.staged.ports.set n d }, st := .opened, touched := s.now }) ∧
  (∀ (e : Fin 256) (s : State) (x : Txn) (side : Bool) (n : Nat) (d : LaneDesc),
    Runs s e 0x15 0x03 → s.applying = false → s.mode.expired.contains ((s.params e).half 0) = false →
    s.mode.txn = some x → x.id = (s.params e).half 0 → (s.params e).laneDesc = some (side, n, d) →
    Completes (.modeStageLane e) s fun t =>
      Answered t e 0 ∧
      t.mode.txn = some
        { x with staged := (if side then { x.staged with host := x.staged.host.set n d } else { x.staged with line := x.staged.line.set n d }), st := .opened, touched := s.now }) ∧
  (∀ (e : Fin 256) (s : State) (x : Txn),
    Runs s e 0x15 0x04 → s.applying = false → s.mode.expired.contains ((s.params e).half 0) = false →
    s.mode.txn = some x → x.id = (s.params e).half 0 → (s.params e).byte 2 ≤ 1 → (s.params e).byte 3 ≤ 1 →
    (s.params e).zeroFrom 4 = true →
    Completes (.modeStageDie e) s fun t =>
      Answered t e 0 ∧
      t.mode.txn = some
        { x with staged := { x.staged with early := x.staged.early.set ((s.params e).byte 2) ((s.params e).byte 3 == 1) }, st := .opened, touched := s.now }) ∧
  (∀ (e : Fin 256) (s : State) (x : Txn),
    Runs s e 0x15 0x05 → s.applying = false → s.mode.expired.contains ((s.params e).half 0) = false →
    s.mode.txn = some x → x.id = (s.params e).half 0 → (s.params e).byte 2 ≤ 7 → (s.params e).byte 3 ≤ 1 →
    (s.params e).zeroFrom 4 = true →
    Completes (.modeStageFibre e) s fun t =>
      Answered t e 0 ∧
      t.mode.txn = some
        { x with staged := { x.staged with ranging := x.staged.ranging.set ((s.params e).byte 2) ((s.params e).byte 3 == 1) }, st := .opened, touched := s.now }) ∧
  (∀ (e : Fin 256) (s : State) (x : Txn),
    Runs s e 0x15 0x06 → s.applying = false → s.mode.expired.contains ((s.params e).half 0) = false →
    s.mode.txn = some x → x.id = (s.params e).half 0 → (s.params e).zeroFrom 2 = true → s.modeReady = true →
    Completes (.modeValidate e) s fun t =>
      let r := State.validate { s with mode := { s.mode with txn := some { x with touched := s.now } } } x.staged;
      Answered t e r.status r.r0 r.r1 ∧
      (r.status = 0 → t.mode.txn = some { x with st := .validated, touched := s.now } ∧ t.events = s.events) ∧
      (r.status ≠ 0 →
       t.mode.txn = some { x with st := .opened, touched := s.now } ∧
       Logged s t [⟨0x1502, sevInfo, x.id, r.status, r.r0, r.r1, none⟩])) ∧
  (∀ (e : Fin 256) (s : State) (x : Txn),
    Runs s e 0x15 0x08 → s.applying = false → s.mode.expired.contains ((s.params e).half 0) = false →
    s.mode.txn = some x → x.id = (s.params e).half 0 → (s.params e).zeroFrom 2 = true →
    Completes (.modeAbort e) s fun t =>
      Answered t e 0 ∧ t.mode.txn = none ∧ t.mode.active = s.mode.active) ∧
  (∀ (e : Fin 256) (s : State) (d : Nat),
    Runs s e 0x15 0x09 → (s.params e).byte 2 = 0 → (s.params e).half 0 = 0 → (s.params e).byte 5 ≤ 2 →
    (s.params e).zeroFrom 6 = true → s.mode.active.descBits 0 ((s.params e).byte 3) ((s.params e).byte 4) = some d →
    Completes (.modeRead e) s fun t =>
      Answered t e 0 (bitsOf d (64 * (s.params e).byte 5) 32) (bitsOf d (64 * (s.params e).byte 5 + 32) 32)) ∧
  (∀ (e : Fin 256) (s : State),
    Runs s e 0x15 0x0A → (s.params e).byte 0 ≤ 7 → (s.params e).zeroFrom 1 = true →
    Completes (.modePortStatus e) s fun t =>
      Answered t e 0 (s.port ((s.params e).byte 0)).st (s.port ((s.params e).byte 0)).reason) ∧
  (∀ (s : State) (x : Txn),
    s.mode.txn = some x → x.st ≠ .applying → 10000000 ≤ s.now - x.touched →
    Completes .modeTxnExpired s fun t =>
      t.mode.txn = none ∧ t.mode.expired = s.mode.expired ++ [x.id] ∧ t.mode.active = s.mode.active ∧
      Logged s t [⟨0x1504, sevWarn, x.id, 1, 0, 0, none⟩])

/-- A validated transaction is applied: the new image configures the device, and at the end it is the active one.
MODE_APPLY of a validated transaction whose image still validates begins the apply: the transaction is APPLYING
for the eyelet that waits and the staged image configures the device while the active one stays. Once what the
apply started has ended, the image becomes active, the transaction closes and MODE_APPLIED is logged, with
MODE_APPLY_FAULT where ports faulted. (R58, R60, R65) -/
def Obligations.ApplyResults : Prop :=
  (∀ (e : Fin 256) (s : State) (x : Txn),
    Runs s e 0x15 0x07 → s.applying = false → s.mode.expired.contains ((s.params e).half 0) = false →
    s.mode.txn = some x → x.id = (s.params e).half 0 → (s.params e).zeroFrom 2 = true → s.modeReady = true →
    x.st = .validated →
    (State.validate { s with mode := { s.mode with txn := some { x with touched := s.now } } } x.staged).status =
      0 →
    Completes (.modeApply e) s fun t =>
      t.applying = true ∧ t.mode.run = x.staged ∧ t.mode.active = s.mode.active ∧
      (t.mode.txn.map (fun y => (y.id, y.staged, y.waiter.map (fun w => w.eyelet)))) = some (x.id, x.staged, some
        e.val)) ∧
  (∀ (s : State) (x : Txn),
    s.mode.txn = some x → x.st = .applying → s.applyReady x = true →
    Completes .modeApplyComplete s fun t =>
      t.mode.txn = none ∧ t.mode.active = s.mode.run ∧ t.applying = false ∧
      Sent s t 0x1501 sevInfo x.id x.down x.hit ∧
      (x.faulted ≠ 0 → Sent s t 0x1505 sevErr x.id x.faulted x.firstFault))

/-- Locks, codewords, injection, slips and frames of the FEC/PCS move the bits, blocks and counters that R143–R154,
R165 and R175 give. INNER_LOCK sets on three matching sync blocks and clears after four that do not match,
AM_LOCK falling with it and counted for an UP port; AM_LOCK sets where the lane's PCS lanes are named once each
and no pattern runs; an inner codeword delivers the decoder's word and counts its corrected bits or one
uncorrectable; a decoded codeword passes its blocks on, as error control blocks where it is marked, and counts
itself, 1 to 15 corrected symbols with their lanes, or an uncorrectable one with its cause; an encoded one
carries the blocks that wait (Local Fault towards the host until the port is aligned) and is corrupted by a ONCE
injection, which clears EN and sets INJ_DONE; rate adaptation inserts or deletes an idle block between frames;
adjustments, slips and frames are counted. (R145, R146, R147, R148, R150, R151, R152, R154, R165, R175) -/
def Obligations.FecDatapathResults : Prop :=
  (∀ (k : Fin 8) (blocks : List (List (BitVec 2))) (s : State) (p : Nat),
    s.mode.run.portOfLine k = some p → (s.mode.run.port p).inner = true → s.flag LRX_STAT.CDR_LOCK k = true →
    blocks.length = 3 → blocks.all syncMatches = true →
    Completes (.innerLockSet k blocks) s fun t =>
      bitOf (t.fld FEC_PORT_STAT.INNER_LOCK p) (k - p) = true ∧
      ∀ n < 4, n ≠ k - p → bitOf (t.fld FEC_PORT_STAT.INNER_LOCK p) n = bitOf (s.fld FEC_PORT_STAT.INNER_LOCK p) n) ∧
  (∀ (k : Fin 8) (blocks : List (List (BitVec 2))) (s : State) (p : Nat),
    s.mode.run.portOfLine k = some p → bitOf (s.fld FEC_PORT_STAT.INNER_LOCK p) (k - p) = true →
    blocks.length = 4 → blocks.all (fun b => !(syncMatches b)) = true →
    Completes (.innerLockClear k blocks) s fun t =>
      bitOf (t.fld FEC_PORT_STAT.INNER_LOCK p) (k - p) = false ∧
      bitOf (t.fld FEC_PORT_STAT.AM_LOCK_L p) (k - p) = false ∧
      (s.quietLine k = false → Sent s t 0x0708 sevWarn p (k - p))) ∧
  (∀ (k : Fin 8) (word : BitVec 128) (rel : List (BitVec 3)) (lesser : Bool) (s : State) (p : Nat),
    s.Shaped → s.mode.run.portOfLine k = some p → bitOf (s.fld FEC_PORT_STAT.INNER_LOCK p) (k - p) = true →
    Completes (.innerCodeword k word rel lesser) s fun t =>
      let r := innerDecode word rel lesser;
      (t.line k).delivered = r.1 ∧
      (s.counting p = true → s.flag LRX_STAT.DOZE k = false →
       (∀ n,
          r.2 = some n → t.cnt .FEC_INNER_CORR_CNT p (k - p) = saturated (s.cnt .FEC_INNER_CORR_CNT p (k - p)) n) ∧
       (r.2 = none → t.cnt .FEC_INNER_UNCORR_CNT p (k - p) = saturated (s.cnt .FEC_INNER_UNCORR_CNT p (k - p))))) ∧
  (∀ (n : Fin 16) (lanes : List (Fin 32)) (s : State) (p : Nat),
    s.mode.run.portOfLine n = some p → s.flag LRX_STAT.CDR_LOCK n = true → (s.mode.run.lane n).txPattern = 0 →
    (s.mode.run.lane n).rxCheck = 0 →
    ((s.mode.run.port p).inner = false ∨ bitOf (s.fld FEC_PORT_STAT.INNER_LOCK p) (n - p) = true) →
    pcsOk (s.mode.run.port p).size (sizeLanes (s.mode.run.port p).size) lanes = true →
    Completes (.amLockSet false n lanes) s fun t =>
      bitOf (t.fld FEC_PORT_STAT.AM_LOCK_L p) (n - p) = true ∧ t.flag LRX_STAT.AM_LOCK n = true) ∧
  (∀ (n : Fin 16) (lanes : List (Fin 32)) (s : State) (p : Nat),
    s.Shaped → s.mode.run.portOfHost n = some p → s.flag HL_STAT.CDR_LOCK n = true →
    (s.mode.run.hlane n).rxCheck = 0 →
    pcsOk (s.mode.run.port p).size (2 * sizeLanes (s.mode.run.port p).size) lanes = true →
    Completes (.amLockSet true n lanes) s fun t =>
      bitOf (t.fld FEC_PORT_STAT.AM_LOCK_H p) (n - (s.mode.run.port p).hostGroup) = true ∧
      (t.fecDir p true).pcs.getD (n - (s.mode.run.port p).hostGroup) [] = lanes.map (fun x => x.val)) ∧
  (∀ (n : Fin 16) (s : State) (p : Nat),
    s.mode.run.portOfLine n = some p → bitOf (s.fld FEC_PORT_STAT.AM_LOCK_L p) (n - p) = true →
    Completes (.amLockClear false n) s fun t =>
      bitOf (t.fld FEC_PORT_STAT.AM_LOCK_L p) (n - p) = false ∧ t.flag LRX_STAT.AM_LOCK n = false ∧
      ((s.port p).st = portUp → t.cnt .FEC_AM_LOSS_CNT p (n - p) = saturated (s.cnt .FEC_AM_LOSS_CNT p (n - p)))) ∧
  (∀ (p : Fin 8) (errors : List (Fin 32)) (blocks : List (BitVec 66)) (s : State),
    s.Shaped → (s.mode.run.port p).size ≠ 0 → s.innerHeld p false = true →
    (s.deskewed p false = true ∧ s.dirLocked p false = true ∨ (s.fecOf p).wasAligned = true) →
    errors.all (fun x => decide (x.val < pcsCount (s.mode.run.port p).size)) = true →
    Completes (.codewordDecode p false errors blocks) s fun t =>
      let bad :=
        !(s.deskewed p false && s.dirLocked p false) || (s.fecDir p false).bad || decide (15 < errors.length);
      (s.terminates p = true → (s.mode.run.port p).loopback ≠ 2 → (s.mode.run.port p).loopback ≠ 4 →
       (t.fecDir p false).queue = (s.fecDir p false).queue ++ (if bad then blocks.map (fun _ => Config.errorBlock)
         else blocks)) ∧
      (s.counting p = true → s.dirDozes p false = false →
       t.cnt .FEC_LCW_CNT p = s.cnt .FEC_LCW_CNT p + 1 ∧
       (bad = false → 1 ≤ errors.length →
        t.cnt .FEC_LCW_CORR_CNT p = saturated (s.cnt .FEC_LCW_CORR_CNT p) ∧
        t.cnt .FEC_LSYM_CORR_CNT p 0 = saturated (s.cnt .FEC_LSYM_CORR_CNT p 0) errors.length ∧
        t.cnt .FEC_LCW_HIST_CNT p errors.length = saturated (s.cnt .FEC_LCW_HIST_CNT p errors.length) ∧
        ∀ i : Fin 8,
          t.cnt .FEC_LL_SYM_CNT p i.val = saturated (s.cnt .FEC_LL_SYM_CNT p i.val) (errors.countP (fun x =>
            laneOfPcs (s.fecDir p false).pcs x.val == some i.val))) ∧
       (bad = true →
        t.cnt .FEC_LCW_UNCORR_CNT p = saturated (s.cnt .FEC_LCW_UNCORR_CNT p) ∧
        t.flag (FEC_CAUSE.UNCORR (p.val % 4)) (dieOfPort p) = true))) ∧
  (∀ (p : Fin 8) (errors : List (Fin 32)) (blocks : List (BitVec 66)) (s : State),
    s.Shaped → (s.mode.run.port p).size ≠ 0 → s.innerHeld p true = true →
    (s.deskewed p true = true ∧ s.dirLocked p true = true ∨ (s.fecOf p).wasAligned = true) →
    errors.all (fun x => decide (x.val < pcsCount (s.mode.run.port p).size)) = true →
    Completes (.codewordDecode p true errors blocks) s fun t =>
      let bad :=
        !(s.deskewed p true && s.dirLocked p true) || (s.fecDir p true).bad || decide (15 < errors.length);
      (s.terminates p = true → (s.mode.run.port p).loopback ≠ 2 → (s.mode.run.port p).loopback ≠ 4 →
       (t.fecDir p true).queue = (s.fecDir p true).queue ++ (if bad then blocks.map (fun _ => Config.errorBlock)
         else blocks)) ∧
      (s.counting p = true → s.dirDozes p true = false →
       t.cnt .FEC_HCW_CNT p = s.cnt .FEC_HCW_CNT p + 1 ∧
       (bad = false → 1 ≤ errors.length →
        t.cnt .FEC_HCW_CORR_CNT p = saturated (s.cnt .FEC_HCW_CORR_CNT p) ∧
        t.cnt .FEC_HSYM_CORR_CNT p 0 = saturated (s.cnt .FEC_HSYM_CORR_CNT p 0) errors.length ∧
        ∀ i : Fin 8,
          t.cnt .FEC_HL_SYM_CNT p i.val = saturated (s.cnt .FEC_HL_SYM_CNT p i.val) (errors.countP (fun x =>
            laneOfPcs (s.fecDir p true).pcs x.val == some i.val))) ∧
       (bad = true →
        t.cnt .FEC_HCW_UNCORR_CNT p = saturated (s.cnt .FEC_HCW_UNCORR_CNT p) ∧
        t.flag (FEC_CAUSE.UNCORR (p.val % 4)) (dieOfPort p) = true))) ∧
  (∀ (p : Fin 8) (toHost : Bool) (s : State),
    s.Shaped → (s.mode.run.port p).size ≠ 0 → s.terminates p = true → s.flag FEC_INJ_CTL.EN p = true →
    s.flag FEC_INJ_CTL.DIR p = toHost → s.flag FEC_INJ_CTL.ONCE p = true →
    Completes (.codewordEncode p toHost) s fun t =>
      (t.fecDir p (!toHost)).sent = s.nextBlocks p toHost ∧
      (t.fecDir p (!toHost)).inverted = injectPositions (s.fld FEC_INJ_CTL.SYMBOLS p) ∧
      t.flag FEC_INJ_CTL.EN p = false ∧ t.flag (FEC_CAUSE.INJ_DONE (p.val % 4)) (dieOfPort p) = true) ∧
  (∀ (p : Fin 8) (toHost : Bool) (s : State),
    s.Shaped → (s.mode.run.port p).size ≠ 0 → s.terminates p = true → s.flag FEC_INJ_CTL.EN p = false →
    Completes (.codewordEncode p toHost) s fun t =>
      (t.fecDir p (!toHost)).sent = s.nextBlocks p toHost ∧
      (t.fecDir p (!toHost)).queue = (s.fecDir p (!toHost)).queue.drop 80 ∧ (t.fecDir p (!toHost)).inverted = [] ∧
      t.regs = s.regs) ∧
  (∀ (p : Fin 8) (s : State),
    s.Shaped → (s.mode.run.port p).size ≠ 0 → (s.fecOf p).aligned = false →
    Completes (.codewordEncode p true) s fun t =>
      (t.fecDir p false).sent = List.replicate 80 Config.localFault) ∧
  (∀ (p : Fin 8) (fromHost insert : Bool) (place : Nat) (s : State),
    s.Shaped → s.terminates p = true →
    (if insert then betweenFrames (s.fecDir p fromHost).queue place else (s.fecDir p fromHost).queue[place]? ==
      some Config.idleBlock) = true →
    Completes (.rateAdaptAdjust p fromHost insert place) s fun t =>
      (t.fecDir p fromHost).queue = (if insert then (s.fecDir p fromHost).queue.take place ++ Config.idleBlock ::
        (s.fecDir p fromHost).queue.drop place else (s.fecDir p fromHost).queue.eraseIdx place) ∧
      (s.counting p = true → s.dirDozes p fromHost = false → t.cnt .FEC_RA_ADJ_CNT p = s.cnt .FEC_RA_ADJ_CNT p + 1)) ∧
  (∀ (p : Fin 8) (fromHost : Bool) (s : State),
    s.Shaped → s.counting p = true → s.terminates p = true → s.dirDozes p fromHost = false →
    Completes (.fecSlip p fromHost) s fun t =>
      t.cnt .FEC_SLIP_CNT p = saturated (s.cnt .FEC_SLIP_CNT p) ∧
      t.flag (FEC_CAUSE.SLIP (p.val % 4)) (dieOfPort p) = true ∧ (t.fecDir p fromHost).queue = []) ∧
  (∀ (k : Fin 8) (s : State) (p : Nat),
    s.mode.run.portOfLine k = some p → s.terminates p = false → s.counting p = true →
    Completes (.monitorSlip k) s fun t =>
      t.cnt .FEC_SLIP_CNT p = saturated (s.cnt .FEC_SLIP_CNT p) ∧
      t.flag (FEC_CAUSE.SLIP (p % 4)) (dieOfPort p) = true) ∧
  (∀ (p : Fin 8) (fromHost fcsOk : Bool) (s : State),
    (s.mode.run.port p).frameView = true → s.counting p = true → s.dirDozes p fromHost = false →
    Completes (.frameParse p fromHost fcsOk) s fun t =>
      t.cnt .FEC_FRAME_CNT p = s.cnt .FEC_FRAME_CNT p + 1 ∧
      (fcsOk = false → t.cnt .FEC_FCS_ERR_CNT p = saturated (s.cnt .FEC_FCS_ERR_CNT p)) ∧
      (fcsOk = true → t.cnt .FEC_FCS_ERR_CNT p = s.cnt .FEC_FCS_ERR_CNT p))

/-- Deskew, discarded frames, latched and cleared statistics, error injection and the FEC commands act as R155–R166
say. A skew measurement shows the skew in whole ns rounded up (the rounding is the model's choice, log entry
131), deskews its direction within the budget (64 ns from the host) with the hold, guard and fill included, and
otherwise sets SKEW_OVER; a frame that meets a transmit restart waits while the hold towards the line has room,
and else is discarded and counted with its cause; STAT_LATCH copies every counter of the port to the shadow bank
and STAT_CLEAR zeroes the live ones; FEC_INJ_CTL takes a write on a terminating port and flags it otherwise;
FEC_STAT_LATCH, FEC_POOL_STATUS and FEC_SKEW_REPORT answer their words. (R155, R156, R161, R164, R165, R166) -/
def Obligations.FecStatisticsResults : Prop :=
  (∀ (p : Fin 8) (fromHost : Bool) (arrivals : List Nat) (fill : BitVec 8) (s : State),
    s.Shaped → ((s.port p).st = portAcquiring ∨ s.counting p = true) → s.dirLocked p fromHost = true →
    arrivals.length = pcsCount (s.mode.run.port p).size →
    Completes (.skewMeasurement p fromHost arrivals fill) s fun t =>
      let limit := if fromHost then 64 else s.fld FEC_SKEW.BUDGET p;
      let tooFar := decide (16 * limit < pcsSkew arrivals);
      let hold := if s.terminates p then (pcsHolds arrivals).foldl max 0 + clampN 32 96 fill.toNat else 0;
      (fromHost = false → t.fld FEC_SKEW.SKEW p = satN 16 ((pcsSkew arrivals + 15) / 16)) ∧
      t.deskewed p fromHost = (!tooFar) ∧ (t.fecDir p fromHost).tooFar = tooFar ∧
      (tooFar = false → t.fld (if fromHost then FEC_HOLD_HL.HOLD else FEC_HOLD_LH.HOLD) p = satN 20 hold) ∧
      (tooFar = true → t.flag FEC_PORT_STAT.SKEW_OVER p = true)) ∧
  (∀ (p : Fin 8) (len : Nat) (s : State),
    s.Shaped → s.txHeld p true = true → (s.fecDir p true).waiting + 8 * len ≤ wakeHold (s.mode.run.port p).size →
    (s.fecDir p true).waiting < wakeHold (s.mode.run.port p).size →
    Completes (.wakeFrameDiscard p true len) s fun t =>
      (t.fecDir p true).waiting = (s.fecDir p true).waiting + 8 * len ∧
      (t.fecDir p true).dropped = (s.fecDir p true).dropped ∧ t.cnts = s.cnts) ∧
  (∀ (p : Fin 8) (fromHost : Bool) (len : Nat) (s : State),
    s.Shaped → s.txHeld p fromHost = true →
    (fromHost = true →
     wakeHold (s.mode.run.port p).size < (s.fecDir p fromHost).waiting + 8 * len ∨
     wakeHold (s.mode.run.port p).size ≤ (s.fecDir p fromHost).waiting) →
    Completes (.wakeFrameDiscard p fromHost len) s fun t =>
      t.flag (FEC_CAUSE.WAKE_DROP (p.val % 4)) (dieOfPort p) = true ∧
      (t.fecDir p fromHost).dropped = (s.fecDir p fromHost).dropped + 1 ∧
      (s.counting p = true → s.dirDozes p fromHost = false →
       t.cnt .FEC_WAKE_DROP_CNT p = saturated (s.cnt .FEC_WAKE_DROP_CNT p))) ∧
  (∀ (p : Fin 8) (s : State),
    s.Canonical → (s.mode.run.port p).size ≠ 0 →
    Completes (.statLatch p) s fun t =>
      ∀ r i,
        layout_fecport.any (fun x => x.reg == r) = true →
        lookup 0 ⟨r, p.val, i⟩ t.shadow = s.cnt r p i ∧ t.cnt r p i = s.cnt r p i) ∧
  (∀ (p : Fin 8) (s : State),
    (s.mode.run.port p).size ≠ 0 →
    Completes (.statClear p) s fun t =>
      ∀ r i, layout_fecport.any (fun x => x.reg == r) = true → t.cnt r p i = 0) ∧
  (∀ (p : Fin 8) (data : W32) (s : State),
    s.Shaped → (s.mode.run.port p).size ≠ 0 → (s.mode.run.port p).fecTerm = true →
    Completes (.fecInjCtlWrite p data) s fun t =>
      let m := (Reg.access .FEC_INJ_CTL).rwl;
      t.reg .FEC_INJ_CTL p = (s.reg .FEC_INJ_CTL p &&& ~~~ m) ||| (data &&& m) ∧ (t.fecOf p).lh.encoded = 0 ∧
      (t.fecOf p).hl.encoded = 0) ∧
  (∀ (p : Fin 8) (data : W32) (s : State),
    (s.mode.run.port p).size ≠ 0 → (s.mode.run.port p).fecTerm = false →
    Completes (.fecInjCtlWrite p data) s fun t =>
      t.flag FEC_PORT_STAT.INJ_LOCK p = true ∧ t.reg .FEC_INJ_CTL p = s.reg .FEC_INJ_CTL p) ∧
  (∀ (e : Fin 256) (s : State),
    Runs s e 0x07 0x01 → (s.params e).byte 0 ≤ 7 → (s.params e).byte 1 ≤ 1 → (s.params e).zeroFrom 2 = true →
    (s.mode.active.port ((s.params e).byte 0)).size ≠ 0 → s.applyHolds ((s.params e).byte 0) = false → s.Canonical →
    Completes (.fecStatLatch e) s fun t =>
      Answered t e 0 ∧
      ∀ r i,
        layout_fecport.any (fun x => x.reg == r) = true →
        lookup 0 ⟨r, (s.params e).byte 0, i⟩ t.shadow = s.cnt r ((s.params e).byte 0) i ∧
        ((s.params e).byte 1 = 1 → t.cnt r ((s.params e).byte 0) i = 0)) ∧
  (∀ (e : Fin 256) (s : State),
    Runs s e 0x07 0x02 → (s.params e).byte 0 ≤ 1 → (s.params e).zeroFrom 1 = true →
    Completes (.fecPoolStatus e) s fun t =>
      Answered t e 0 (s.reg .FEC_POOL_STAT ((s.params e).byte 0 + 1)).toNat (s.reg .FEC_POOL_FENCED ((s.params
        e).byte 0 + 1)).toNat) ∧
  (∀ (e : Fin 256) (s : State),
    Runs s e 0x07 0x03 → (s.params e).byte 0 ≤ 7 → (s.params e).zeroFrom 1 = true →
    (s.mode.active.port ((s.params e).byte 0)).size ≠ 0 → s.applyHolds ((s.params e).byte 0) = false →
    Completes (.fecSkewReport e) s fun t =>
      Answered t e 0 (s.reg .FEC_SKEW ((s.params e).byte 0)).toNat (s.reg .FEC_HOLD_LH ((s.params e).byte
        0)).toNat)

/-- Host lanes: equalisers, clock recovery, signal detection, doze and wake as R170–R176 and R183–R187 say. A write
of HL_TX_EQ takes effect with POST1, PRE1 and PRE2 lowered in this order to a sum of 24, flagged by EQ_CLAMP; a
write of HL_RX_EQ_CTL with ADAPT and FREEZE clear holds the CTLE at CTLE_FIX, at most 24, and so does one with
ADAPT set until the search has moved it. Lock within 200 ppm, adaptation, tracking (at most a code a
millisecond), signal detection and the doze timers set and clear their bits with cause, count and event; a wake
starts its sequence; an AM time-out ends it and clears AM_LOCK_H. (R170, R171, R172, R174, R176, R184, R185,
R187) -/
def Obligations.HostLaneResults : Prop :=
  (∀ (j : Fin 16) (data : W32) (s : State),
    s.hostUsed j = true →
    Completes (.hlTxEqWrite j data) s fun t =>
      t.reg .HL_TX_EQ j = data &&& (Reg.access .HL_TX_EQ).rw ∧
      (let c := clampTaps (getBits data 0 6) (getBits data 8 6) (getBits data 16 6);
       t.fld HL_TX_EQ_EFF.PRE2 j = c.1 ∧ t.fld HL_TX_EQ_EFF.PRE1 j = c.2.1 ∧ t.fld HL_TX_EQ_EFF.POST1 j = c.2.2 ∧
       t.fld HL_TX_EQ_EFF.AMP j = getBits data 24 2) ∧
      (24 < getBits data 0 6 + getBits data 8 6 + getBits data 16 6 → t.flag HL_STAT.EQ_CLAMP j = true)) ∧
  (∀ (j : Fin 16) (data : W32) (s : State),
    s.hostUsed j = true →
    Completes (.hlRxEqCtlWrite j data) s fun t =>
      t.reg .HL_RX_EQ_CTL j = data &&& (Reg.access .HL_RX_EQ_CTL).rw ∧
      (getBits data 1 1 = 0 → getBits data 0 1 = 0 ∨ (s.hostLane j).searched = false →
       t.fld HL_RX_EQ_STAT.CTLE j = min 24 (getBits data 8 5)) ∧
      (getBits data 1 1 = 1 ∨ (getBits data 0 1 = 1 ∧ (s.hostLane j).searched = true) →
       t.fld HL_RX_EQ_STAT.CTLE j = s.fld HL_RX_EQ_STAT.CTLE j)) ∧
  (∀ (j : Fin 16) (fofs : BitVec 16) (phase : BitVec 8) (s : State),
    s.hostRuns j = true → (signed 16 fofs.toNat).natAbs ≤ 12800 →
    Completes (.hlCdrLockSet j fofs phase) s fun t =>
      t.flag HL_STAT.CDR_LOCK j = true ∧ (s.flag HL_STAT.CDR_LOCK j = false → t.flag HL_CAUSE.CDR_LOCK j = true) ∧
      t.fld HL_CDR_FOFS.FOFS j = fofs.toNat ∧ t.fld HL_CDR_FOFS.PHASE j = phase.toNat) ∧
  (∀ (j : Fin 16) (fofs : BitVec 16) (phase : BitVec 8) (s : State),
    s.hostRuns j = true → s.flag HL_STAT.CDR_LOCK j = true →
    Completes (.hlCdrLockClear j fofs phase) s fun t =>
      t.flag HL_STAT.CDR_LOCK j = false ∧ t.flag HL_STAT.ADAPT_DONE j = false ∧
      t.flag HL_CAUSE.CDR_UNLOCK j = true ∧ t.cnt .HL_CDR_UNLOCK_CNT j = saturated (s.cnt .HL_CDR_UNLOCK_CNT j) ∧
      t.fld HL_CDR_FOFS.FOFS j = fofs.toNat ∧ t.fld HL_CDR_FOFS.PHASE j = phase.toNat) ∧
  (∀ (j : Fin 16) (ctle : BitVec 5) (h1 : BitVec 10) (taps : List (BitVec 12)) (s : State),
    s.hostRuns j = true → s.flag HL_STAT.CDR_LOCK j = true → taps.length = 8 →
    Completes (.hlAdaptDone j ctle h1 taps) s fun t =>
      t.flag HL_STAT.ADAPT_DONE j = true ∧
      (s.flag HL_RX_EQ_CTL.FREEZE j = false →
       t.fld HL_RX_EQ_STAT.H1 j = h1.toNat ∧ (∀ n < 8, t.fld HL_RX_FFE.COEF j n = (taps.getD n 0).toNat) ∧
       (s.flag HL_RX_EQ_CTL.ADAPT j = true → s.flag HL_STAT.ADAPT_DONE j = false →
        t.fld HL_RX_EQ_STAT.CTLE j = min 24 ctle.toNat))) ∧
  (∀ (j : Fin 16) (step : Fin 3) (h1 : BitVec 10) (taps : List (BitVec 12)) (s : State),
    s.Shaped → s.hostRuns j = true → s.flag HL_STAT.CDR_LOCK j = true → s.flag HL_RX_EQ_CTL.FREEZE j = false →
    taps.length = 8 →
    Completes (.hlCtleTrack j step h1 taps) s fun t =>
      t.fld HL_RX_EQ_STAT.H1 j = h1.toNat ∧ (∀ n < 8, t.fld HL_RX_FFE.COEF j n = (taps.getD n 0).toNat) ∧
      (s.flag HL_RX_EQ_CTL.ADAPT j = true → step.val ≠ 0 → 1000 ≤ s.now - (s.hostLane j).ctleAt →
       t.fld HL_RX_EQ_STAT.CTLE j = min 24 (if step.val = 1 then s.fld HL_RX_EQ_STAT.CTLE j + 1 else s.fld
         HL_RX_EQ_STAT.CTLE j - 1) ∧
       (t.hostLane j).searched = true ∧ (t.hostLane j).ctleAt = s.now) ∧
      (step.val = 0 ∨ s.now - (s.hostLane j).ctleAt < 1000 ∨ s.flag HL_RX_EQ_CTL.ADAPT j = false →
       t.fld HL_RX_EQ_STAT.CTLE j = s.fld HL_RX_EQ_STAT.CTLE j)) ∧
  (∀ (j : Fin 16) (s : State),
    s.hostUsed j = true → s.flag HL_STAT.SIG_PRESENT j = false →
    Completes (.hlSigAssert j) s fun t =>
      t.flag HL_STAT.SIG_PRESENT j = true ∧ t.flag HL_CAUSE.SIG_FOUND j = true ∧
      Logged s t [⟨0x0802, sevInfo, j, 0, 0, 0, none⟩] ∧ (s.flag HL_STAT.RX_DOZE j = true → t.seqOn 7 j = true)) ∧
  (∀ (j : Fin 16) (s : State),
    s.hostUsed j = true → s.flag HL_STAT.SIG_PRESENT j = true →
    Completes (.hlSigDeassert j) s fun t =>
      t.flag HL_STAT.SIG_PRESENT j = false ∧ t.flag HL_CAUSE.SIG_LOST j = true ∧
      t.cnt .HL_SIG_LOSS_CNT j = saturated (s.cnt .HL_SIG_LOSS_CNT j) ∧
      (s.quietHost j = false → Logged s t [⟨0x0801, sevWarn, j, 0, 0, 0, none⟩])) ∧
  (∀ (j : Fin 16) (s : State),
    s.hostUsed j = true → s.flag HL_SIGDET_CTL.WAKE_EN j = true →
    Completes (.hlWakeSeen j) s fun t =>
      t.flag HL_STAT.WAKE_SEEN j = true ∧
      (s.flag HL_STAT.WAKE_SEEN j = false → Logged s t [⟨0x0802, sevInfo, j, 1, 0, 0, none⟩]) ∧
      (s.flag HL_STAT.RX_DOZE j = true → t.seqOn 7 j = true)) ∧
  (∀ (j : Fin 16) (s : State),
    s.dozeOk j = true → (s.mode.run.hlane j).dozeRx ≠ 0 → s.flag HL_STAT.RX_DOZE j = false → s.seqOn 7 j = false →
    Completes (.hlRxDozeTimer j) s fun t =>
      t.flag HL_STAT.RX_DOZE j = true ∧ t.flag HL_CAUSE.DOZE j = true ∧ t.flag HL_STAT.CDR_LOCK j = false ∧
      (s.accepted (hostIsland j) = [] → s.seqFirst 7 j = false → s.seqFirst 8 j = false →
       t.island (hostIsland j) = .doze)) ∧
  (∀ (j : Fin 16) (s : State),
    s.dozeOk j = true → (s.mode.run.hlane j).dozeTx ≠ 0 → s.flag HL_STAT.TX_DOZE j = false →
    Completes (.hlTxDozeTimer j) s fun t =>
      t.flag HL_STAT.TX_DOZE j = true ∧ t.flag HL_CAUSE.DOZE j = true ∧ t.flag HL_STAT.TX_IDLE j = true ∧
      (s.accepted (hostIsland j) = [] → s.seqFirst 7 j = false → s.seqFirst 8 j = false →
       t.island (hostIsland j) = .doze)) ∧
  (∀ (j : Fin 16) (s : State),
    s.flag HL_STAT.TX_DOZE j = true → s.seqOn 8 j = false →
    Completes (.hlTxWake j) s fun t =>
      t.seqOn 8 j = true ∧ t.flag HL_STAT.TX_DOZE j = true ∧
      (s.hostUsed j = true → bitOf (t.fld HL_IDLE_STAT.REASON j) 3 = true)) ∧
  (∀ (j : Fin 16) (s : State) (p : Nat),
    s.seqOn 7 j = true → s.flag HL_STAT.RX_DOZE j = false → s.mode.run.portOfHost j = some p →
    Completes (.hlWakeAmTimeout j) s fun t =>
      t.seqOn 7 j = false ∧ bitOf (t.fld FEC_PORT_STAT.AM_LOCK_H p) (j - (s.mode.run.port p).hostGroup) = false)

/-- Host lane checkers, bit slip, capture and the commands of class 0x08 act as R178–R182 and R189 say. A checker
locks on 128 pairs of its pattern, counts every pair and error while locked, and loses lock at the 64th error
within 1,024 with its cause and event; a RAW checker counts unlocked too, at the rotation of fewest errors;
HL_SLIP is writable in TEST only and each bit slip steps its counts and positions until both are 0; a capture
stores its 64 words in the window and sets DONE and CAP_DONE; a loopback slip is counted, and a repeated block is
sent once more. HL_SET_TX_EQ, HL_SET_RX_EQ and HL_STATUS complete with their words; HL_SLIP and HL_CAPTURE
complete when their work ends. (R178, R179, R180, R181, R182, R189) -/
def Obligations.HostLaneTestResults : Prop :=
  (∀ (j : Fin 16) (start : BitVec 31) (symbols : List (BitVec 2)) (s : State),
    s.Shaped → s.hostUsed j = true → (s.mode.run.hlane j).rxCheck ≠ 0 → s.flag HL_STAT.CHK_LOCK j = false →
    symbols.length = 129 →
    (s.hostPairs j (s.mode.run.hlane j).rxCheck 128 (if (s.mode.run.hlane j).rxCheck = 4 then start.toNat % 128
      else start.toNat)).1 = (s.rxPairs j symbols).take 128 →
    Completes (.hlChkLock j start symbols) s fun t =>
      t.flag HL_STAT.CHK_LOCK j = true ∧ (t.hostLane j).chk.count = 0 ∧ (t.hostLane j).chk.errs = [] ∧
      ((s.mode.run.hlane j).rxCheck = 4 → t.cnt .HL_CHK_SYM_CNT j = s.cnt .HL_CHK_SYM_CNT j + 128) ∧
      t.cnt .HL_CHK_ERR_CNT j = s.cnt .HL_CHK_ERR_CNT j) ∧
  (∀ (j : Fin 16) (symbols : List (BitVec 2)) (s : State),
    s.Shaped → s.flag HL_STAT.CHK_LOCK j = true →
    Completes (.hlChkLost j symbols) s fun t =>
      let r := s.hostCheck j (s.mode.run.hlane j).rxCheck (s.hostLane j).chk (s.rxPairs j symbols);
      (t.hostLane j).chk = r.1 ∧ t.cnt .HL_CHK_SYM_CNT j = s.cnt .HL_CHK_SYM_CNT j + BitVec.ofNat 48 r.2.1 ∧
      t.cnt .HL_CHK_ERR_CNT j = saturated (s.cnt .HL_CHK_ERR_CNT j) r.2.2.1 ∧
      (r.2.2.2 = false → t.flag HL_STAT.CHK_LOCK j = true) ∧
      (r.2.2.2 = true →
       t.flag HL_STAT.CHK_LOCK j = false ∧ t.flag HL_CAUSE.CHK_LOST j = true ∧
       Sent s t 0x0804 sevWarn j ((t.cnt .HL_CHK_ERR_CNT j).toNat % 2 ^ 32))) ∧
  (∀ (j : Fin 16) (symbols : List (BitVec 2)) (s : State),
    s.hostUsed j = true → (s.mode.run.hlane j).rxCheck = 4 → s.flag HL_STAT.CHK_LOCK j = false →
    Completes (.hlChkLost j symbols) s fun t =>
      t.flag HL_STAT.CHK_LOCK j = false ∧
      t.cnt .HL_CHK_SYM_CNT j = s.cnt .HL_CHK_SYM_CNT j + BitVec.ofNat 48 (s.rxPairs j symbols).length ∧
      t.cnt .HL_CHK_ERR_CNT j = saturated (s.cnt .HL_CHK_ERR_CNT j) (s.rawErrors j (s.rxPairs j symbols))) ∧
  (∀ (j : Fin 16) (data : W32) (s : State),
    s.hostUsed j = true → (s.hostPort j).st = portTest →
    Completes (.hlSlipWrite j data) s fun t =>
      t.reg .HL_SLIP j = data &&& (Reg.access .HL_SLIP).rwl) ∧
  (∀ (j : Fin 16) (data : W32) (s : State),
    s.hostUsed j = true → (s.hostPort j).st ≠ portTest →
    Completes (.hlSlipWrite j data) s fun t =>
      t.reg .HL_SLIP j = s.reg .HL_SLIP j ∧ t.flag HL_STAT.SLIP_LOCK j = true ∧ t.flag HL_CAUSE.LOCK j = true) ∧
  (∀ (j : Fin 16) (s : State),
    s.Shaped → (s.fld HL_SLIP.RX_N j ≠ 0 ∨ s.fld HL_SLIP.TX_N j ≠ 0) →
    Completes (.hlBitSlip j) s fun t =>
      t.fld HL_SLIP.RX_N j = s.fld HL_SLIP.RX_N j - 1 ∧ t.fld HL_SLIP.TX_N j = s.fld HL_SLIP.TX_N j - 1 ∧
      (s.fld HL_SLIP.RX_N j ≠ 0 →
       t.fld HL_SLIP_POS.RX_POS j = (s.fld HL_SLIP_POS.RX_POS j + 1) % 256 ∧ t.flag HL_STAT.CHK_LOCK j = false) ∧
      (s.fld HL_SLIP.TX_N j ≠ 0 → t.fld HL_SLIP_POS.TX_POS j = (s.fld HL_SLIP_POS.TX_POS j + 1) % 256) ∧
      (s.fld HL_SLIP.RX_N j ≤ 1 → s.fld HL_SLIP.TX_N j ≤ 1 → (t.hostLane j).slipWaiters = [])) ∧
  (∀ (j : Fin 16) (s : State),
    s.hostUsed j = true → s.flag HL_CAP_STAT.BUSY j = false → s.flag HL_STAT.CDR_LOCK j = true →
    Completes (.captureStart j) s fun t =>
      t.flag HL_CAP_STAT.BUSY j = true ∧ t.flag HL_CAP_STAT.DONE j = false) ∧
  (∀ (j : Fin 16) (words : List W32) (s : State),
    s.flag HL_CAP_STAT.BUSY j = true → words.length = 64 →
    Completes (.captureDone j words) s fun t =>
      t.flag HL_CAP_STAT.BUSY j = false ∧ t.flag HL_CAP_STAT.DONE j = true ∧ t.flag HL_CAUSE.CAP_DONE j = true ∧
      ∀ n < 64, t.word (captureAddr j + 4 * n) = protect ((words.getD n 0).setWidth 64)) ∧
  (∀ (j : Fin 16) (again : Bool) (block : List (BitVec 2)) (s : State) (p : Nat),
    s.mode.run.portOfHost j = some p → (s.mode.run.port p).loopback = 1 →
    Completes (.hlLbSlip j again block) s fun t =>
      t.cnt .HL_LB_SLIP_CNT j = saturated (s.cnt .HL_LB_SLIP_CNT j) ∧ t.flag HL_CAUSE.LB_SLIP j = true ∧
      (again = false → t.hosts = s.hosts) ∧
      (s.Shaped → again = true → s.flag HL_STAT.TX_IDLE j = false → (t.hostLane j).out.length = block.length)) ∧
  (∀ (e : Fin 256) (s : State),
    Runs s e 0x08 0x01 → (s.params e).byte 0 ≤ 15 → s.hostUsed ((s.params e).byte 0) = true →
    s.applyHoldsHost ((s.params e).byte 0) = false → (s.params e).byte 1 ≤ 63 → (s.params e).byte 2 ≤ 63 →
    (s.params e).byte 3 ≤ 63 → (s.params e).byte 4 ≤ 3 → (s.params e).zeroFrom 5 = true →
    Completes (.hlSetTxEq e) s fun t =>
      t.reg .HL_TX_EQ ((s.params e).byte 0) = (BitVec.ofNat 32 ((s.params e).byte 1 + 256 * (s.params e).byte 2 +
        65536 * (s.params e).byte 3 + 16777216 * (s.params e).byte 4)) ∧
      Answered t e 0 (t.reg .HL_TX_EQ_EFF ((s.params e).byte 0)).toNat ∧
      let c :=
        clampTaps (getBits (BitVec.ofNat 32 ((s.params e).byte 1 + 256 * (s.params e).byte 2 + 65536 * (s.params
          e).byte 3 + 16777216 * (s.params e).byte 4)) 0 6) (getBits (BitVec.ofNat 32 ((s.params e).byte 1 + 256 *
          (s.params e).byte 2 + 65536 * (s.params e).byte 3 + 16777216 * (s.params e).byte 4)) 8 6) (getBits
          (BitVec.ofNat 32 ((s.params e).byte 1 + 256 * (s.params e).byte 2 + 65536 * (s.params e).byte 3 +
          16777216 * (s.params e).byte 4)) 16 6);
      t.fld HL_TX_EQ_EFF.PRE2 ((s.params e).byte 0) = c.1 ∧
      t.fld HL_TX_EQ_EFF.PRE1 ((s.params e).byte 0) = c.2.1 ∧
      t.fld HL_TX_EQ_EFF.POST1 ((s.params e).byte 0) = c.2.2 ∧
      t.fld HL_TX_EQ_EFF.AMP ((s.params e).byte 0) = getBits (BitVec.ofNat 32 ((s.params e).byte 1 + 256 *
        (s.params e).byte 2 + 65536 * (s.params e).byte 3 + 16777216 * (s.params e).byte 4)) 24 2) ∧
  (∀ (e : Fin 256) (s : State),
    Runs s e 0x08 0x02 → (s.params e).byte 0 ≤ 15 → s.hostUsed ((s.params e).byte 0) = true →
    s.applyHoldsHost ((s.params e).byte 0) = false → (s.params e).byte 1 ≤ 3 → (s.params e).byte 2 ≤ 24 →
    (s.params e).zeroFrom 3 = true →
    Completes (.hlSetRxEq e) s fun t =>
      t.reg .HL_RX_EQ_CTL ((s.params e).byte 0) = (BitVec.ofNat 32 ((s.params e).byte 1 + 256 * (s.params e).byte
        2)) ∧
      Answered t e 0 (t.reg .HL_RX_EQ_STAT ((s.params e).byte 0)).toNat ∧
      ((s.params e).byte 1 = 0 → t.fld HL_RX_EQ_STAT.CTLE ((s.params e).byte 0) = (s.params e).byte 2) ∧
      ((s.params e).byte 1 = 1 → (s.hostLane ((s.params e).byte 0)).searched = false →
       t.fld HL_RX_EQ_STAT.CTLE ((s.params e).byte 0) = (s.params e).byte 2)) ∧
  (∀ (e : Fin 256) (s : State),
    Runs s e 0x08 0x03 → (s.params e).byte 0 ≤ 15 → s.hostUsed ((s.params e).byte 0) = true →
    s.applyHoldsHost ((s.params e).byte 0) = false → (s.params e).zeroFrom 3 = true →
    (s.hostPort ((s.params e).byte 0)).st = portTest → s.Shaped →
    Completes (.hlSlip e) s fun t =>
      t.reg .HL_SLIP ((s.params e).byte 0) = (BitVec.ofNat 32 ((s.params e).byte 1 + 256 * (s.params e).byte 2)) ∧
      (((s.params e).byte 1 = 0 ∧ (s.params e).byte 2 = 0) →
       Answered t e 0 (s.reg .HL_SLIP_POS ((s.params e).byte 0)).toNat) ∧
      (((s.params e).byte 1 ≠ 0 ∨ (s.params e).byte 2 ≠ 0) →
       (t.eyelet e).reply = none ∧
       (t.hostLane ((s.params e).byte 0)).slipWaiters = (s.hostLane ((s.params e).byte 0)).slipWaiters ++
         [⟨e, (s.eyelet e).serial, false⟩])) ∧
  (∀ (e : Fin 256) (s : State),
    Runs s e 0x08 0x04 → (s.params e).byte 0 ≤ 15 → s.hostUsed ((s.params e).byte 0) = true →
    s.applyHoldsHost ((s.params e).byte 0) = false → (s.params e).zeroFrom 1 = true →
    s.flag HL_STAT.CDR_LOCK ((s.params e).byte 0) = true → s.flag HL_CAP_STAT.BUSY ((s.params e).byte 0) = false →
    s.Shaped →
    Completes (.hlCapture e) s fun t =>
      t.flag HL_CAP_STAT.BUSY ((s.params e).byte 0) = true ∧
      (t.hostLane ((s.params e).byte 0)).capWaiter = some ⟨e, (s.eyelet e).serial, false⟩ ∧
      (t.eyelet e).reply = none) ∧
  (∀ (e : Fin 256) (s : State),
    Runs s e 0x08 0x05 → (s.params e).byte 0 ≤ 15 → s.hostUsed ((s.params e).byte 0) = true →
    s.applyHoldsHost ((s.params e).byte 0) = false → (s.params e).zeroFrom 1 = true →
    Completes (.hlStatus e) s fun t =>
      Answered t e 0 (s.reg .HL_STAT ((s.params e).byte 0)).toNat (s.reg .HL_IDLE_STAT ((s.params e).byte
        0)).toNat)

/-- The insole channel sends timing and LINK frames, ramps, acquires, captures and loses its link as R196–R212 say.
At an instant n/16 s of the die's time a timing launch keeps the departure time of its bit boundary and sends a
TIMING frame with the next TSEQ; a frame ends with its last bit, is counted, and a due LINK frame that fits is
sent next; acknowledgement, LINK period, ramp and time-outs act at their times. The best of 254 code phases
synchronises an acquiring receiver where it exceeds DETECT_THR; the best sync match of a bit starts a frame with
its arrival time, or captures one with the margin; a wrong LEN, a lock loss after 64 weak bits, an offset beyond
±200 ppm, a mismatch of 1 s, a time-out and the end of HOLD change the link, counters and causes as given. Ties
go to the lower phase, and the offset filter is of first order (the model's choices, log entries 132 and 133).
(R196, R199, R200, R202, R203, R204, R205, R206, R207, R209, R211, R212) -/
def Obligations.InsoleChannelResults : Prop :=
  (∀ (k : Fin 8) (err : Fin 52429) (s : State),
    s.Shaped → s.flag INS_CFG.TIMING_TX k = true → s.insCanSend k = true → s.timeRuns (dieOfLane k) = true →
    s.frameBit k = s.nextBit k → s.stampAt (dieOfLane k) (s.bitTicks k (s.nextBit k)) 0 % sixteenth < bitTime →
    Completes (.insTimingLaunch k err) s fun t =>
      let dep :=
        todBits (s.stampAt (dieOfLane k) (s.bitTicks k (s.nextBit k)) (s.lineErr (dieOfLane k) err) * 2 ^ 32);
      t.wide .INS_TX_TS k = BitVec.ofNat 256 dep ∧
      (t.insl k).sending = some ⟨.timing, s.insHeader k 2 32 0, s.timingPayload k dep, 0, s.nextBit k⟩ ∧
      (t.insl k).tseq = ((s.insl k).tseq + 1) % 65536) ∧
  (∀ (k : Fin 8) (s : State) (f : InsTxFrame),
    s.Shaped → (s.insl k).sending = some f → s.frameOver k f = true → s.throttling (dieOfLane k) = false →
    (s.insl k).linkDue = false → (s.insl k).linkIdle = false → (s.insl k).msgs = [] →
    Completes (.insTxFrameDone k) s fun t =>
      t.cnt .INS_TX_FRAME_CNT k = s.cnt .INS_TX_FRAME_CNT k + 1 ∧ (t.insl k).sending = none ∧
      (t.insl k).idleFrom = f.start + f.bits) ∧
  (∀ (k : Fin 8) (s : State) (f : InsTxFrame),
    s.Shaped → (s.insl k).sending = some f → s.frameOver k f = false →
    Completes (.insTxFrameDone k) s fun t =>
      t.ins = s.ins ∧ t.cnts = s.cnts) ∧
  (∀ (k : Fin 8) (s : State),
    s.Shaped → s.throttling (dieOfLane k) = false → s.insCanSend k = true → (s.insl k).linkDue = true →
    s.insFits k 8 = true →
    Completes (.insTxFrameDone k) s fun t =>
      (t.insl k).sending = some ⟨.link, s.insHeader k 1 8 0, s.linkPayload k, 0, s.frameBit k⟩ ∧
      (t.insl k).linkDue = false ∧ (t.insl k).linkIdle = false ∧ (t.insl k).linkAt = s.now) ∧
  (∀ (k : Fin 8) (s : State),
    s.Shaped → s.since (s.insl k).ackWait 20000 = true →
    Completes (.insAckTimer k) s fun t =>
      (t.insl k).linkDue = true) ∧
  (∀ (k : Fin 8) (s : State),
    s.Shaped → s.flag INS_CFG.INS_EN k = true → 250000 ≤ s.now - (s.insl k).linkAt →
    Completes (.insLinkPeriod k) s fun t =>
      (t.insl k).linkIdle = true) ∧
  (∀ (k : Fin 8) (s : State) (up : Bool),
    s.Shaped → (s.insl k).rampUp = some up → 125 * ((s.insl k).rampStep + 1) ≤ 2 * (s.now - (s.insl k).rampAt) →
    Completes (.insRampStep k) s fun t =>
      ((s.insl k).rampStep < 15 → (t.insl k).rampStep = (s.insl k).rampStep + 1 ∧ (t.insl k).rampUp = some up) ∧
      (15 ≤ (s.insl k).rampStep →
       (t.insl k).rampUp = none ∧ t.flag INS_STAT.RAMP k = false ∧
       (s.applyTxn.isSome = true ∨ (s.mode.run.lane k).ins = true → t.flag INS_STAT.TX_ON k = up))) ∧
  (∀ (k : Fin 8) (energy : List (BitVec 16)) (s : State),
    s.insLink k = insAcquiring → (s.insl k).search = none → fofsOut (s.sfld LRX_CDR_FOFS.FOFS k) = false →
    energy.length = 254 → s.detectThr k < (bestPhase energy).2 →
    Completes (.insCodeDetect k energy) s fun t =>
      t.insLink k = insSynced ∧ t.fld INS_CODE_PHASE.PHASE k = (bestPhase energy).1) ∧
  (∀ (k : Fin 8) (energy : List (BitVec 16)) (s : State),
    s.insLink k = insAcquiring → (bestPhase energy).2 ≤ s.detectThr k →
    Completes (.insCodeDetect k energy) s fun t =>
      t = s) ∧
  (∀ (k : Fin 8) (hits : List SyncHit) (s : State) (h : SyncHit),
    s.Shaped → insAcquiring ≤ s.insLink k → (s.insl k).search = none →
    (s.insLink k = insAcquiring → fofsOut (s.sfld LRX_CDR_FOFS.FOFS k) = false) → s.syncHit k hits = some h →
    Completes (.insSyncDetect k hits) s fun t =>
      let take :=
        s.flag INS_STAT.IN_FRAME k = false ∨ s.fld INS_METRIC.FRAME k + s.captureMargin k ≤ h.metric.toNat;
      t.insLink k = (if s.insLink k = insAcquiring then insSynced else s.insLink k) ∧
      t.flag INS_STAT.IN_FRAME k = true ∧
      (take →
       t.fld INS_CODE_PHASE.PHASE k = h.phase.val ∧ t.fld INS_METRIC.FRAME k = h.metric.toNat ∧
       t.flag INS_STAT.INVERTED k = (s.hitPolarity k h == some true) ∧
       (t.insl k).arrival = s.stampAt (dieOfLane k) h.frac (h.err - s.syncTicks k)) ∧
      (take → s.flag INS_STAT.IN_FRAME k = true →
       t.cnt .INS_SYNC_CAPTURED_CNT k = saturated (s.cnt .INS_SYNC_CAPTURED_CNT k) ∧
       t.flag (INS_CAUSE.CAPTURED (k.val % 4)) (dieOfLane k) = true)) ∧
  (∀ (k : Fin 8) (header : W32) (s : State),
    s.flag INS_STAT.IN_FRAME k = true → lenOk header = false →
    Completes (.insHeaderEnd k header) s fun t =>
      t.flag INS_STAT.IN_FRAME k = false ∧ t.cnt .INS_HDR_ERR_CNT k = saturated (s.cnt .INS_HDR_ERR_CNT k)) ∧
  (∀ (k : Fin 8) (s : State),
    s.insTracks k = true → 64 ≤ (s.insl k).low →
    Completes (.insLockLoss k) s fun t =>
      t.cnt .INS_LOCK_LOSS_CNT k = saturated (s.cnt .INS_LOCK_LOSS_CNT k) ∧ t.insLink k = insAcquiring ∧
      t.flag INS_STAT.IN_FRAME k = false ∧
      (s.insLink k = insUp → t.flag (INS_CAUSE.LINK_DOWN (k.val % 4)) (dieOfLane k) = true)) ∧
  (∀ (k : Fin 8) (s : State),
    (s.insl k).low < 64 →
    Completes (.insLockLoss k) s fun t =>
      t = s) ∧
  (∀ (k : Fin 8) (apart track : BitVec 16) (energy : List (BitVec 16)) (s : State),
    s.Shaped → s.insTracks k = true →
    Completes (.insFofsMeasure k apart track energy) s fun t =>
      let offset := (s.insl k).synth + signed 16 apart.toNat;
      (fofsOut offset = false →
       t.fld INS_FOFS.FOFS k = unsigned 16 (roundShift (fofsFilter (s.insl k).fofsAcc offset) 32) ∧
       t.fld INS_METRIC.TRACK k = track.toNat ∧ (t.insl k).synth = offset ∧
       (t.insl k).low = (if (track.toNat : Int) < s.detectThr k - 768 then (s.insl k).low + 1 else 0) ∧
       (s.flag INS_STAT.IN_FRAME k = false → 63 ≤ (s.insl k).bits → energy.length = 254 →
        t.fld INS_CODE_PHASE.PHASE k = (bestPhase energy).1)) ∧
      (fofsOut offset = true →
       t.insLink k = insAcquiring ∧ t.flag (INS_CAUSE.FOFS (k.val % 4)) (dieOfLane k) = true ∧
       Sent s t 0x0904 sevWarn k (unsigned 16 (clampI (-32768) 32767 offset)))) ∧
  (∀ (k : Fin 8) (s : State),
    s.Shaped → s.insTracks k = true → s.since (s.insl k).apart 1000000 = true →
    Completes (.insFofsMismatch k) s fun t =>
      t.flag (INS_CAUSE.FOFS (k.val % 4)) (dieOfLane k) = true ∧ (t.insl k).mismatch = true ∧
      ((s.insl k).mismatch = false →
       Logged s t [⟨0x0908, sevWarn, k, (s.reg .INS_FOFS k).toNat, (s.reg .LRX_CDR_FOFS k).toNat, 0, none⟩]) ∧
      ((s.insl k).mismatch = true → t.events = s.events)) ∧
  (∀ (k : Fin 8) (s : State),
    s.Shaped → s.since (s.insl k).good 1000000 = true →
    Completes (.insRxTimeout k) s fun t =>
      (t.insl k).good = none ∧ (t.insl k).rxOk = false ∧
      (s.insLink k = insUp →
       t.insLink k = insSynced ∧ t.flag (INS_CAUSE.LINK_DOWN (k.val % 4)) (dieOfLane k) = true ∧
       t.flag INS_STAT.HOLD k = true)) ∧
  (∀ (k : Fin 8) (s : State),
    s.Shaped → s.since (s.insl k).hold 500000 = true →
    Completes (.insHoldEnd k) s fun t =>
      (t.insl k).hold = none ∧ t.flag INS_STAT.HOLD k = false ∧
      (t.insl k).rxOk = (s.insTracks k && (s.insl k).good.any (fun g => decide (s.now - g < 1000000))))

/-- Insole frames received, messages and the commands of class 0x09 act as R198–R199 and R209–R219 say. A frame
with a bad CRC is counted and changes nothing else; a good LINK or TIMING frame shows the far end's flags or the
arrival time, and one with RX_OK brings a synchronised link UP; a MSG frame in sequence with a free slot is
stored and counted. A message unacknowledged for 250 ms after its fourth send ends with 0x0602 and takes the link
down, one never sent ends after 400 ms without credit with 0x0603; a completion sets MSG_DONE, a refused
INS_MSG_SEND too. The commands send, read and release messages, set parameters and search. (R199, R209, R213,
R214, R215, R216, R218, R219) -/
def Obligations.InsoleMessageResults : Prop :=
  (∀ (k : Fin 8) (header : W32) (payload : List (BitVec 8)) (crc : W32) (sigma : BitVec 16) (s : State),
    s.Shaped → s.flag INS_STAT.IN_FRAME k = true → s.insTracks k = true → lenOk header = true →
    payload.length = hdrLen header → crc ≠ frameFcs header (payload.map (fun b => b.toNat)) →
    Completes (.insFrameReceived k header payload crc sigma) s fun t =>
      t.flag INS_STAT.IN_FRAME k = false ∧ t.cnt .INS_CRC_ERR_CNT k = saturated (s.cnt .INS_CRC_ERR_CNT k) ∧
      t.ins = s.ins) ∧
  (∀ (k : Fin 8) (header : W32) (payload : List (BitVec 8)) (crc : W32) (sigma : BitVec 16) (s : State),
    s.Shaped → s.flag INS_STAT.IN_FRAME k = true → s.insTracks k = true → lenOk header = true →
    payload.length = hdrLen header → crc = frameFcs header (payload.map (fun b => b.toNat)) → hdrType header = 1 →
    Completes (.insFrameReceived k header payload crc sigma) s fun t =>
      t.flag INS_STAT.IN_FRAME k = false ∧ t.cnt .INS_RX_FRAME_CNT k = s.cnt .INS_RX_FRAME_CNT k + 1 ∧
      (t.insl k).good = some s.now ∧ t.flag INS_STAT.FAR_RX_OK k = hdrRxOk header ∧
      t.fld INS_MSG_STAT.FAR_CREDIT k = getBits header 24 3 ∧
      t.fld INS_STAT.FAR_LANE k = (payload.getD 0 0).toNat % 8 ∧
      t.flag INS_STAT.FAR_MSG k = bitOf (payload.getD 1 0).toNat 0 ∧
      t.flag INS_STAT.FAR_TTT k = bitOf (payload.getD 1 0).toNat 1 ∧
      t.flag INS_STAT.FAR_RANGING k = bitOf (payload.getD 1 0).toNat 2) ∧
  (∀ (k : Fin 8) (header : W32) (payload : List (BitVec 8)) (crc : W32) (sigma : BitVec 16) (s : State),
    s.Shaped → s.flag INS_STAT.IN_FRAME k = true → s.insTracks k = true → lenOk header = true →
    payload.length = hdrLen header → crc = frameFcs header (payload.map (fun b => b.toNat)) → hdrType header = 2 →
    Completes (.insFrameReceived k header payload crc sigma) s fun t =>
      t.flag INS_STAT.IN_FRAME k = false ∧ t.cnt .INS_RX_FRAME_CNT k = s.cnt .INS_RX_FRAME_CNT k + 1 ∧
      (t.insl k).good = some s.now ∧ t.flag INS_STAT.FAR_RX_OK k = hdrRxOk header ∧
      t.fld INS_MSG_STAT.FAR_CREDIT k = getBits header 24 3 ∧
      t.wide .INS_RX_TS k = BitVec.ofNat 256 (todBits ((s.insl k).arrival * 2 ^ 32)) ∧
      t.fld INS_RX_TS_Q.SIGMA k = s.sigmaOf k sigma.toNat ∧
      t.fld INS_RX_TS_Q.TSEQ k = (payload.getD 24 0).toNat + 256 * (payload.getD 25 0).toNat) ∧
  (∀ (k : Fin 8) (header : W32) (payload : List (BitVec 8)) (crc : W32) (sigma : BitVec 16) (s : State),
    s.Shaped → s.flag INS_STAT.IN_FRAME k = true → s.insTracks k = true → lenOk header = true →
    payload.length = hdrLen header → crc = frameFcs header (payload.map (fun b => b.toNat)) →
    s.insLink k = insSynced → hdrRxOk header = true → (1 ≤ hdrType header ∧ hdrType header ≤ 2) →
    Completes (.insFrameReceived k header payload crc sigma) s fun t =>
      t.insLink k = insUp ∧ t.flag (INS_CAUSE.LINK_UP (k.val % 4)) (dieOfLane k) = true ∧
      t.fld INS_MSG_STAT.NEXT_SEQ k = 0) ∧
  (∀ (k : Fin 8) (header : W32) (payload : List (BitVec 8)) (crc : W32) (sigma : BitVec 16) (s : State) (slot :
    Nat) (rest : List Nat),
    s.Shaped → s.flag INS_STAT.IN_FRAME k = true → s.insTracks k = true → lenOk header = true →
    payload.length = hdrLen header → crc = frameFcs header (payload.map (fun b => b.toNat)) → hdrType header = 3 →
    s.insLink k = insUp → hdrRxOk header = true → s.flag INS_CFG.MSG_EN k = true →
    getBits header 8 8 = (s.insl k).expect → (s.insl k).freeRx = slot :: rest → slot < 8 →
    Completes (.insFrameReceived k header payload crc sigma) s fun t =>
      t.flag INS_STAT.IN_FRAME k = false ∧ t.cnt .INS_RX_FRAME_CNT k = s.cnt .INS_RX_FRAME_CNT k + 1 ∧
      (t.insl k).good = some s.now ∧ t.flag INS_STAT.FAR_RX_OK k = hdrRxOk header ∧
      t.fld INS_MSG_STAT.FAR_CREDIT k = getBits header 24 3 ∧
      (t.insl k).rx = (s.insl k).rx ++ [⟨slot, payload.length, (s.insl k).expect⟩] ∧ (t.insl k).freeRx = rest ∧
      (t.insl k).expect = ((s.insl k).expect + 1) % 256 ∧ bitOf (t.fld INS_MSG_STAT.RX_FULL k) slot = true ∧
      t.flag (INS_CAUSE.MSG_RX (k.val % 4)) (dieOfLane k) = true ∧
      ∀ n < payload.length / 8,
        t.word (slotAddr k true slot + 8 * n) = protect (BitVec.ofNat 64 (leNat (((payload.map (fun b =>
          b.toNat)).drop (8 * n)).take 8)))) ∧
  (∀ (k : Fin 8) (s : State) (m : InsMsg),
    s.Shaped → (s.insl k).msgs.find? (fun x => s.unheard x) = some m → m.sends < 4 →
    Completes (.insMsgRetx k) s fun t =>
      (t.insl k).msgs = resendFrom (fun x => s.unheard x) (s.insl k).msgs) ∧
  (∀ (k : Fin 8) (s : State) (m : InsMsg),
    s.Shaped → (s.insl k).msgs.find? (fun x => s.unheard x) = some m → 4 ≤ m.sends → s.insLink k = insUp →
    Completes (.insMsgRetx k) s fun t =>
      t.insLink k = insSynced ∧ (t.insl k).msgs = [] ∧
      t.flag (INS_CAUSE.MSG_DONE (k.val % 4)) (dieOfLane k) = true ∧
      t.flag (INS_CAUSE.LINK_DOWN (k.val % 4)) (dieOfLane k) = true ∧
      (m.waiter.aqique = false → (s.eyelet m.waiter.eyelet).st = .running →
       (s.eyelet m.waiter.eyelet).serial = m.waiter.serial → (s.eyelet m.waiter.eyelet).reply = none →
       (t.eyelet m.waiter.eyelet).reply = some ⟨0x0602, m.seq, m.sends⟩)) ∧
  (∀ (k : Fin 8) (s : State) (m : InsMsg),
    s.Shaped → (s.insl k).msgs.find? (fun x => x.sends == 0 && decide (400000 ≤ s.now - x.since)) = some m →
    s.fld INS_MSG_STAT.FAR_CREDIT k ≤ (s.insl k).unacked →
    Completes (.insCreditTimeout k) s fun t =>
      (t.insl k).msgs = (s.insl k).msgs.filter (fun x => !(x.same m)) ∧
      bitOf (t.fld INS_MSG_STAT.TX_BUSY k) m.slot = false ∧
      t.flag (INS_CAUSE.MSG_DONE (k.val % 4)) (dieOfLane k) = true ∧
      t.cnt .INS_MSG_FAIL_CNT k = saturated (s.cnt .INS_MSG_FAIL_CNT k) ∧
      Logged s t [⟨0x0907, sevWarn, k, m.slot, 0x0603, 0, none⟩] ∧
      (m.waiter.aqique = false → (s.eyelet m.waiter.eyelet).st = .running →
       (s.eyelet m.waiter.eyelet).serial = m.waiter.serial → (s.eyelet m.waiter.eyelet).reply = none →
       (t.eyelet m.waiter.eyelet).reply = some ⟨0x0603, m.seq, m.sends⟩)) ∧
  (∀ (e : Fin 256) (s : State),
    Runs s e 0x09 0x01 → (s.params e).byte 0 ≤ 7 → s.Shaped → (s.params e).byte 1 ≤ 7 → 8 ≤ (s.params e).byte 2 →
    (s.params e).byte 2 ≤ 248 → (s.params e).zeroFrom 3 = true →
    s.flag INS_CFG.INS_EN ((s.params e).byte 0) = true → s.flag INS_CFG.MSG_EN ((s.params e).byte 0) = true →
    s.applyHoldsLine ((s.params e).byte 0) = false → s.insLink ((s.params e).byte 0) = insUp →
    s.flag INS_STAT.FAR_MSG ((s.params e).byte 0) = true →
    bitOf (s.fld INS_MSG_STAT.TX_BUSY ((s.params e).byte 0)) ((s.params e).byte 1) = false →
    s.flag INS_STAT.TX_PAUSED ((s.params e).byte 0) = false →
    Completes (.insMsgSend e) s fun t =>
      (t.insl ((s.params e).byte 0)).msgs = (s.insl ((s.params e).byte 0)).msgs ++
        [{ slot := (s.params e).byte 1, len := (s.params e).byte 2, waiter := ⟨e, (s.eyelet e).serial, false⟩, since := s.now }] ∧
      bitOf (t.fld INS_MSG_STAT.TX_BUSY ((s.params e).byte 0)) ((s.params e).byte 1) = true ∧
      (t.eyelet e).reply = none ∧
      (s.flag LTX_STAT.DOZE ((s.params e).byte 0) = true → t.seqOn 6 ((s.params e).byte 0) = true)) ∧
  (∀ (e : Fin 256) (s : State),
    Runs s e 0x09 0x01 → (s.params e).byte 0 ≤ 7 → (s.params e).byte 1 ≤ 7 → 8 ≤ (s.params e).byte 2 →
    (s.params e).byte 2 ≤ 248 → (s.params e).zeroFrom 3 = true →
    s.flag INS_CFG.INS_EN ((s.params e).byte 0) = true → s.flag INS_CFG.MSG_EN ((s.params e).byte 0) = true →
    s.applyHoldsLine ((s.params e).byte 0) = false → s.insLink ((s.params e).byte 0) ≠ insUp →
    s.island (islandId (dieOfLane ((s.params e).byte 0)) 0x04) = .on →
    Completes (.insMsgSend e) s fun t =>
      Answered t e 0x0229 ∧
      t.flag (INS_CAUSE.MSG_DONE ((s.params e).byte 0 % 4)) (dieOfLane ((s.params e).byte 0)) = true ∧
      (t.insl ((s.params e).byte 0)).msgs = (s.insl ((s.params e).byte 0)).msgs) ∧
  (∀ (e : Fin 256) (s : State) (m : InsRx) (rest : List InsRx),
    Runs s e 0x09 0x02 → (s.params e).byte 0 ≤ 7 → (s.params e).zeroFrom 1 = true →
    s.flag INS_CFG.INS_EN ((s.params e).byte 0) = true → s.flag INS_CFG.MSG_EN ((s.params e).byte 0) = true →
    s.applyHoldsLine ((s.params e).byte 0) = false → (s.insl ((s.params e).byte 0)).rx = m :: rest →
    Completes (.insMsgRecv e) s fun t =>
      Answered t e 0 (m.slot + 256 * m.len + 65536 * m.seq + 2 ^ 31)) ∧
  (∀ (e : Fin 256) (s : State),
    Runs s e 0x09 0x02 → (s.params e).byte 0 ≤ 7 → (s.params e).zeroFrom 1 = true →
    s.flag INS_CFG.INS_EN ((s.params e).byte 0) = true → s.flag INS_CFG.MSG_EN ((s.params e).byte 0) = true →
    s.applyHoldsLine ((s.params e).byte 0) = false → (s.insl ((s.params e).byte 0)).rx = [] →
    Completes (.insMsgRecv e) s fun t =>
      Answered t e 0 0) ∧
  (∀ (e : Fin 256) (s : State),
    Runs s e 0x09 0x03 → (s.params e).byte 0 ≤ 7 → s.Shaped → (s.params e).byte 1 ≤ 7 →
    (s.params e).zeroFrom 2 = true → s.flag INS_CFG.INS_EN ((s.params e).byte 0) = true →
    s.flag INS_CFG.MSG_EN ((s.params e).byte 0) = true → s.applyHoldsLine ((s.params e).byte 0) = false →
    (s.insl ((s.params e).byte 0)).rx.any (fun m => m.slot == (s.params e).byte 1) = true →
    Completes (.insMsgRelease e) s fun t =>
      Answered t e 0 ∧
      (t.insl ((s.params e).byte 0)).rx = (s.insl ((s.params e).byte 0)).rx.filter (fun m => m.slot != (s.params
        e).byte 1) ∧
      (t.insl ((s.params e).byte 0)).freeRx = (s.insl ((s.params e).byte 0)).freeRx ++ [(s.params e).byte 1] ∧
      bitOf (t.fld INS_MSG_STAT.RX_FULL ((s.params e).byte 0)) ((s.params e).byte 1) = false) ∧
  (∀ (e : Fin 256) (s : State),
    Runs s e 0x09 0x04 → (s.params e).byte 0 ≤ 7 → (s.params e).zeroFrom 1 = true →
    s.flag INS_CFG.INS_EN ((s.params e).byte 0) = true → s.applyHoldsLine ((s.params e).byte 0) = false →
    Completes (.insStatus e) s fun t =>
      Answered t e 0 (s.reg .INS_STAT ((s.params e).byte 0)).toNat (s.reg .INS_METRIC ((s.params e).byte 0)).toNat) ∧
  (∀ (e : Fin 256) (s : State),
    Runs s e 0x09 0x05 → (s.params e).byte 0 ≤ 7 →
    ((s.params e).byte 1 = 0 ∨ (48 ≤ (s.params e).byte 1 ∧ (s.params e).byte 1 ≤ 64)) → (s.params e).half 2 = 0 →
    (s.params e).wordAt 4 < 2 ^ 24 → bitsOf ((s.params e).wordAt 4) 3 5 = 0 → (s.params e).zeroFrom 8 = true →
    s.flag INS_CFG.INS_EN ((s.params e).byte 0) = true → s.applyHoldsLine ((s.params e).byte 0) = false →
    Completes (.insSetParam e) s fun t =>
      t.reg .INS_RX_CFG ((s.params e).byte 0) = BitVec.ofNat 32 ((s.params e).wordAt 4) ∧
      ((s.params e).byte 1 ≠ 0 → t.fld INS_TX_CFG.DEPTH ((s.params e).byte 0) = (s.params e).byte 1) ∧
      Answered t e 0 (t.reg .INS_TX_AMP ((s.params e).byte 0)).toNat) ∧
  (∀ (e : Fin 256) (s : State),
    Runs s e 0x09 0x06 → (s.params e).byte 0 ≤ 7 → s.Shaped → (s.params e).zeroFrom 1 = true →
    s.flag INS_CFG.INS_EN ((s.params e).byte 0) = true → s.applyHoldsLine ((s.params e).byte 0) = false →
    s.flag LRX_STAT.CDR_LOCK ((s.params e).byte 0) = true → (s.insl ((s.params e).byte 0)).search = none →
    Completes (.insSearch e) s fun t =>
      (t.insl ((s.params e).byte 0)).search = some ⟨e, (s.eyelet e).serial, false⟩ ∧
      (t.insl ((s.params e).byte 0)).searchAt = s.now ∧ t.flag INS_STAT.IN_FRAME ((s.params e).byte 0) = false ∧
      (t.eyelet e).reply = none) ∧
  (∀ (k : Fin 8) (metrics : List (BitVec 16)) (s : State) (w : Ticket),
    s.Shaped → (s.insl k).search = some w → 160000 ≤ s.now - (s.insl k).searchAt → (s.insl k).msgs = [] →
    Completes (.insSearchDone k metrics) s fun t =>
      (t.insl k).search = none ∧
      t.insLink k = (if insAcquiring ≤ s.insLink k then insAcquiring else s.insLink k) ∧
      (w.aqique = false → (s.eyelet w.eyelet).st = .running → (s.eyelet w.eyelet).serial = w.serial →
       (s.eyelet w.eyelet).reply = none →
       (t.eyelet w.eyelet).reply = some
         ⟨0, bitsWhere (fun n => decide (s.detectThr k < (metrics.getD n 0).toNat)) 8, (bestPhase metrics).1 + 65536 * (bestPhase metrics).2⟩))

/-- The time service: pulses, source loss, die alignment and the pulse and serial outputs act as R224–R230 and
R254–R256 say. A PPS edge is stamped within 250 ps on the dies whose time unit runs and gives the primary its
offset from the nearest second; a source that stops puts a LOCKED counter into HOLDOVER; the dies exchange
alignment messages and the follower shows the measured offset, and 10 ms without an exchange lose the alignment;
PPS_OUT rises in the microsecond of the shifted second and falls, a TIME message is sent 10 ms after it and a
NEXT message labels the next edge or counts an error. (R224, R226, R227, R228, R229, R230, R254, R255, R256) -/
def Obligations.TimeServiceResults : Prop :=
  (∀ (frac : Fin 65536000) (errA errB : Fin 32769) (s : State),
    s.source = 2 → s.timeRuns s.primary = true → s.time.pending = [] →
    s.flag TIME_SRC_CFG.SECS_RXD s.primary = false →
    Completes (.ppsInEdge frac errA errB) s fun t =>
      let r := s.ppsStamp s.primary frac (if s.primary = 1 then errA.val else errB.val) % (1000000000 * 65536);
      let x : Int := if 2 * r < 1000000000 * 65536 then -(r : Int) else ((1000000000 * 65536 - r : Nat) : Int);
      (s.timeRuns 1 = true →
       t.wide .TIME_PPS_IN_TS 1 = BitVec.ofNat 256 (todBits (s.ppsStamp 1 frac errA * 2 ^ 32))) ∧
      (s.timeRuns 2 = true →
       t.wide .TIME_PPS_IN_TS 2 = BitVec.ofNat 256 (todBits (s.ppsStamp 2 frac errB * 2 ^ 32))) ∧
      t.fld TIME_OFFSET.OFFSET s.primary = satCode 32 (floorShift x 8) ∧ t.time.label = none ∧
      (s.todState s.primary = todUnset → t.todState s.primary = todUnset)) ∧
  (∀ (s : State),
    s.source = 2 → s.timeRuns s.primary = true → s.since (s.clock s.primary).pulse 1500000 = true →
    Completes .ppsInMiss s fun t =>
      t.flag TIME_CAUSE.PPS_IN_MISS s.primary = true ∧
      (s.todState s.primary = todLocked → t.todState s.primary = todHoldover)) ∧
  (∀ (s : State),
    s.source = 1 → s.timeRuns s.primary = true →
    s.since (s.clock s.primary).valid (1000000 * s.hostTimeout s.primary) = true →
    Completes .hostValidityTimeout s fun t =>
      s.todState s.primary = todLocked → t.todState s.primary = todHoldover) ∧
  (∀ (s : State),
    s.source = 3 → s.timeRuns s.primary = true → s.time.usable = true →
    s.insoleBad (s.fld TIME_SRC_CFG.LANE s.primary) ≠ 0 →
    Completes .insoleSrcInvalid s fun t =>
      t.time.usable = false ∧ t.flag TIME_CAUSE.SRC_INVALID s.primary = true ∧
      (s.todState s.primary = todLocked → t.todState s.primary = todHoldover) ∧
      Sent s t 0x0A05 sevWarn (s.fld TIME_SRC_CFG.LANE s.primary) (s.insoleBad (s.fld TIME_SRC_CFG.LANE
        s.primary))) ∧
  (∀ (s : State),
    s.timeRuns s.primary = true → s.follower.any (fun f => s.timeRuns f) = true → s.fld WELT_STAT.STATE 1 1 ≠ 4 →
    1000 ≤ s.now - s.time.alignSent →
    Completes .timeAlignSend s fun t =>
      t.time.flight = s.time.flight ++ [(s.primary, s.stampAt s.primary 0 0)] ∧ t.time.alignSent = s.now) ∧
  (∀ (frac : Fin 65536000) (s : State) (sent : Nat) (rest : List (Nat × Nat)) (f : Nat),
    s.Shaped → s.time.flight = (s.primary, sent) :: rest → s.follower = some f → s.coreWeltUp = true →
    s.timeRuns f = true → s.timeRuns s.primary = true →
    Completes (.timeAlignMsg frac) s fun t =>
      t.time.flight = rest ++ [(f, s.stampAt f frac 0)] ∧ (t.clock f).t1 = sent ∧
      (t.clock f).t2 = s.stampAt f frac 0) ∧
  (∀ (frac : Fin 65536000) (s : State) (d sent : Nat) (rest : List (Nat × Nat)) (f : Nat),
    s.Shaped → s.time.flight = (d, sent) :: rest → d ≠ s.primary → s.follower = some f → s.coreWeltUp = true →
    s.timeRuns f = true → s.timeRuns s.primary = true →
    Completes (.timeAlignMsg frac) s fun t =>
      let x :=
        floorShift (((s.clock f).t1 - (s.clock f).t2 : Int) + ((s.stampAt s.primary frac 0 : Int) - sent)) 1;
      t.time.flight = rest ∧ t.fld TIME_ALIGN_OFS.OFS f = satCode 16 (roundShift (x * 1000) 16) ∧
      (t.clock f).alignAt = s.now) ∧
  (∀ (s : State) (f : Nat),
    s.follower = some f → 10000 ≤ s.now - (s.clock f).alignAt → s.fld TIME_STAT.ALIGN f ≠ 3 →
    Completes .timeAlignTimeout s fun t =>
      t.fld TIME_STAT.ALIGN f = 3 ∧ t.flag TIME_CAUSE.ALIGN_LOST f = true ∧
      t.cnt .TIME_ALIGN_LOSS_CNT f = saturated (s.cnt .TIME_ALIGN_LOSS_CNT f) ∧ t.time.flight = [] ∧
      Sent s t 0x0A03 sevWarn (f - 1) 1 ∧
      (s.todState s.primary = todLocked → s.timeRuns f = true → t.todState f = todHoldover)) ∧
  (∀ (die : Fin 2) (s : State),
    s.Shaped → (s.clock (die.val + 1)).resOff = true → s.locked (die.val + 1) 0 = true →
    (s.clock (die.val + 1)).relockAt + 1000 ≤ s.now →
    Completes (.timeResResume die) s fun t =>
      (t.clock (die.val + 1)).resOff = false) ∧
  (∀ (s : State),
    s.timeRuns 1 = true → s.flag TIME_PPS_CFG.PPS_EN 1 = true →
    (s.todState 1 = todLocked ∨ (s.todState 1 = todHoldover ∧ s.flag TIME_PPS_CFG.PPS_HOLD 1 = true)) →
    s.ppsPhase < 1001 → (s.time.ppsRise = none ∨ s.since s.time.ppsRise 500000 = true) →
    Completes .ppsOutRise s fun t =>
      t.time.ppsHigh = true ∧ t.time.ppsRise = some s.now) ∧
  (∀ (s : State),
    s.time.ppsHigh = true → s.since s.time.ppsRise (1000 * s.ppsWidth) = true →
    Completes .ppsOutFall s fun t =>
      t.time.ppsHigh = false) ∧
  (∀ (s : State),
    s.timeRuns 1 = true → s.flag TIME_TODSER_CFG.TX_EN 1 = true → 10000000 ≤ s.ppsPhase → s.ppsPhase < 10001001 →
    (s.time.serialAt = none ∨ s.since s.time.serialAt 500000 = true) →
    Completes .todTimeMessage s fun t =>
      t.time.serial = s.timeMessage ∧ t.time.mseq = (s.time.mseq + 1) % 65536 ∧ t.time.serialAt = some s.now) ∧
  (∀ (bytes : List (BitVec 8)) (s : State),
    s.timeRuns 1 = true → s.flag TIME_TODSER_CFG.RX_EN 1 = true → bytes.length = 24 →
    (bytes.map (fun x => x.toNat)).take 4 = [0x7E, 0xA1, 0x02, 18] →
    Completes (.todNextMessage bytes) s fun t =>
      let b := bytes.map (fun x => x.toNat);
      let good :=
        leNat (b.drop 22) = crc16 ((b.drop 2).take 20) ∧
        ∃ at_, (s.clock 1).pulse = some at_ ∧ 100000 ≤ s.now - at_ ∧ s.now - at_ ≤ 900000;
      (good → t.time.label = some (leNat ((b.drop 4).take 6))) ∧
      (¬ good →
       t.time.label = s.time.label ∧ t.cnt .TIME_TODRX_ERR_CNT 1 = saturated (s.cnt .TIME_TODRX_ERR_CNT 1) ∧
       t.flag TIME_CAUSE.TODRX_ERR 1 = true))

/-- Precision-time messages are corrected, held, matched, discarded or passed, and ranging results are kept, as
R236–R252 say. On a port in frame view a frame without a PTP message passes unchanged; a selected event message
passes (mode 0), is corrected by its residence (1), or passes with a context allocated (2, two-step Sync and
Delay_Req); one whose residence is not trusted leaves with a bad FCS under POLICY 0. A Follow_Up or Delay_Resp is
corrected from its context, which is freed, or discarded while the TPLL is not trusted; an orphan is discarded.
Contexts expire; ranging keeps the lengths and delays fitted (by least squares: the model's choice, log entry
135) or marks its results HELD. (R233, R236, R241, R243, R244, R245, R246, R252) -/
def Obligations.PtpAndRangingResults : Prop :=
  (∀ (p : Fin 8) (fromHost : Bool) (x : PtpPass) (s : State),
    s.flag TIME_PORT_CFG.FRAME_VIEW p = true → ptpOf (passBytes x) = none →
    Completes (.ptpEventMessage p fromHost x) s fun t =>
      lookup {} (2 * p.val + b2n (!fromHost)) t.time.out = ⟨(passBytes x), x.fcsOk⟩ ∧ t.regs = s.regs) ∧
  (∀ (p : Fin 8) (fromHost : Bool) (x : PtpPass) (s : State) (h : PtpAt),
    s.flag TIME_PORT_CFG.FRAME_VIEW p = true → ptpOf (passBytes x) = some h → ptpType (passBytes x) h ≤ 3 →
    s.msgSelected p (ptpType (passBytes x) h) = true → s.fld TIME_PORT_CFG.TIME_MODE p = 0 →
    Completes (.ptpEventMessage p fromHost x) s fun t =>
      lookup {} (2 * p.val + b2n (!fromHost)) t.time.out = ⟨(passBytes x), x.fcsOk⟩) ∧
  (∀ (p : Fin 8) (fromHost : Bool) (x : PtpPass) (s : State) (h : PtpAt),
    s.flag TIME_PORT_CFG.FRAME_VIEW p = true → ptpOf (passBytes x) = some h → ptpType (passBytes x) h ≤ 3 →
    s.msgSelected p (ptpType (passBytes x) h) = true → s.resTrusted (dieOfPort p) = true →
    (s.residence p fromHost x - s.predictedRes p fromHost x).natAbs ≤ 131072 → s.Shaped →
    s.fld TIME_PORT_CFG.TIME_MODE p = 1 →
    Completes (.ptpEventMessage p fromHost x) s fun t =>
      lookup {} (2 * p.val + b2n (!fromHost)) t.time.out =
        ⟨(ptpAdd (passBytes x) h (s.residence p fromHost x)).1, x.fcsOk⟩ ∧
      t.cnt .TIME_CORR_CNT p = s.cnt .TIME_CORR_CNT p + 1 ∧
      (s.flag TIME_PORT_CTL.TSQ_EN p = true → (s.time.tsq.getD p []).length < 128 →
       (t.time.tsq.getD p []).length = (s.time.tsq.getD p []).length + 1)) ∧
  (∀ (p : Fin 8) (fromHost : Bool) (x : PtpPass) (s : State) (h : PtpAt),
    s.flag TIME_PORT_CFG.FRAME_VIEW p = true → ptpOf (passBytes x) = some h → ptpType (passBytes x) h ≤ 3 →
    s.msgSelected p (ptpType (passBytes x) h) = true → s.resTrusted (dieOfPort p) = true →
    (s.residence p fromHost x - s.predictedRes p fromHost x).natAbs ≤ 131072 → s.Shaped →
    s.fld TIME_PORT_CFG.TIME_MODE p = 2 →
    (ptpType (passBytes x) h = 1 ∨ (ptpType (passBytes x) h = 0 ∧ ptpTwoStep (passBytes x) h = true)) →
    Completes (.ptpEventMessage p fromHost x) s fun t =>
      lookup {} (2 * p.val + b2n (!fromHost)) t.time.out = ⟨(passBytes x), x.fcsOk⟩ ∧
      ∃ cs : List Ctx,
        t.ctxsOf (dieOfPort p) = cs ++
          [⟨p, if ptpType (passBytes x) h = 0 then fromHost else !fromHost, ptpType (passBytes x) h == 1, ptpDomain (passBytes x) h, ptpSeq (passBytes x) h, ptpSource (passBytes x) h, s.residence p fromHost x, s.now⟩]) ∧
  (∀ (p : Fin 8) (fromHost : Bool) (x : PtpPass) (s : State) (h : PtpAt),
    s.flag TIME_PORT_CFG.FRAME_VIEW p = true → ptpOf (passBytes x) = some h → ptpType (passBytes x) h ≤ 3 →
    s.msgSelected p (ptpType (passBytes x) h) = true → s.resTrusted (dieOfPort p) = false →
    s.fld TIME_PORT_CFG.TIME_MODE p ≠ 0 → s.flag TIME_PORT_CTL.POLICY p = false →
    Completes (.ptpEventMessage p fromHost x) s fun t =>
      lookup {} (2 * p.val + b2n (!fromHost)) t.time.out = ⟨(passBytes x), false⟩ ∧
      t.cnt .TIME_DISCARD_CNT p = saturated (s.cnt .TIME_DISCARD_CNT p) ∧
      t.flag TIME_CAUSE.DISCARD (dieOfPort p) = true) ∧
  (∀ (p : Fin 8) (fromHost : Bool) (x : PtpPass) (s : State) (h : PtpAt) (c : Ctx),
    s.flag TIME_PORT_CFG.FRAME_VIEW p = true → ptpOf (passBytes x) = some h →
    (ptpType (passBytes x) h = 8 ∨ ptpType (passBytes x) h = 9) →
    s.msgSelected p (ptpType (passBytes x) h) = true → s.Shaped →
    (s.ctxsOf (dieOfPort p)).find? (fun y => y.same
      ⟨p, fromHost, ptpType (passBytes x) h == 9, ptpDomain (passBytes x) h, ptpSeq (passBytes x) h, if ptpType (passBytes x) h = 9 then ptpRequester (passBytes x) h else ptpSource (passBytes x) h, 0, 0⟩)
      = some c →
    x.bad = false → s.resTrusted (dieOfPort p) = true →
    Completes (.ptpGeneralMessage p fromHost x) s fun t =>
      lookup {} (2 * p.val + b2n (!fromHost)) t.time.out = ⟨(ptpAdd (passBytes x) h c.res).1, x.fcsOk⟩ ∧
      t.cnt .TIME_CORR_CNT p = s.cnt .TIME_CORR_CNT p + 1 ∧
      t.ctxsOf (dieOfPort p) = (s.ctxsOf (dieOfPort p)).filter (fun y => !(y.same
        ⟨p, fromHost, ptpType (passBytes x) h == 9, ptpDomain (passBytes x) h, ptpSeq (passBytes x) h, if ptpType (passBytes x) h = 9 then ptpRequester (passBytes x) h else ptpSource (passBytes x) h, 0, 0⟩))) ∧
  (∀ (p : Fin 8) (fromHost : Bool) (x : PtpPass) (s : State) (h : PtpAt) (c : Ctx),
    s.flag TIME_PORT_CFG.FRAME_VIEW p = true → ptpOf (passBytes x) = some h →
    (ptpType (passBytes x) h = 8 ∨ ptpType (passBytes x) h = 9) →
    s.msgSelected p (ptpType (passBytes x) h) = true → s.Shaped →
    (s.ctxsOf (dieOfPort p)).find? (fun y => y.same
      ⟨p, fromHost, ptpType (passBytes x) h == 9, ptpDomain (passBytes x) h, ptpSeq (passBytes x) h, if ptpType (passBytes x) h = 9 then ptpRequester (passBytes x) h else ptpSource (passBytes x) h, 0, 0⟩)
      = some c →
    x.bad = false → s.resTrusted (dieOfPort p) = false → s.flag TIME_PORT_CTL.POLICY p = false →
    Completes (.ptpGeneralMessage p fromHost x) s fun t =>
      lookup {} (2 * p.val + b2n (!fromHost)) t.time.out = ⟨(passBytes x), false⟩ ∧
      t.cnt .TIME_DISCARD_CNT p = saturated (s.cnt .TIME_DISCARD_CNT p) ∧
      t.ctxsOf (dieOfPort p) = (s.ctxsOf (dieOfPort p)).filter (fun y => !(y.same
        ⟨p, fromHost, ptpType (passBytes x) h == 9, ptpDomain (passBytes x) h, ptpSeq (passBytes x) h, if ptpType (passBytes x) h = 9 then ptpRequester (passBytes x) h else ptpSource (passBytes x) h, 0, 0⟩))) ∧
  (∀ (p : Fin 8) (fromHost : Bool) (x : PtpPass) (s : State) (h : PtpAt),
    s.flag TIME_PORT_CFG.FRAME_VIEW p = true → ptpOf (passBytes x) = some h →
    (ptpType (passBytes x) h = 8 ∨ ptpType (passBytes x) h = 9) →
    s.msgSelected p (ptpType (passBytes x) h) = true →
    (s.ctxsOf (dieOfPort p)).find? (fun y => y.same
      ⟨p, fromHost, ptpType (passBytes x) h == 9, ptpDomain (passBytes x) h, ptpSeq (passBytes x) h, if ptpType (passBytes x) h = 9 then ptpRequester (passBytes x) h else ptpSource (passBytes x) h, 0, 0⟩)
      = none →
    s.fld TIME_PORT_CFG.TIME_MODE p ≠ 2 →
    Completes (.ptpGeneralMessage p fromHost x) s fun t =>
      lookup {} (2 * p.val + b2n (!fromHost)) t.time.out = ⟨(passBytes x), x.fcsOk⟩) ∧
  (∀ (p : Fin 8) (fromHost : Bool) (x : PtpPass) (s : State) (h : PtpAt),
    s.flag TIME_PORT_CFG.FRAME_VIEW p = true → ptpOf (passBytes x) = some h →
    (ptpType (passBytes x) h = 8 ∨ ptpType (passBytes x) h = 9) →
    s.msgSelected p (ptpType (passBytes x) h) = true →
    (s.ctxsOf (dieOfPort p)).find? (fun y => y.same
      ⟨p, fromHost, ptpType (passBytes x) h == 9, ptpDomain (passBytes x) h, ptpSeq (passBytes x) h, if ptpType (passBytes x) h = 9 then ptpRequester (passBytes x) h else ptpSource (passBytes x) h, 0, 0⟩)
      = none →
    s.fld TIME_PORT_CFG.TIME_MODE p = 2 → s.orphanGrace p (ptpType (passBytes x) h) = false →
    s.flag TIME_PORT_CTL.POLICY p = false →
    Completes (.ptpGeneralMessage p fromHost x) s fun t =>
      lookup {} (2 * p.val + b2n (!fromHost)) t.time.out = ⟨(passBytes x), false⟩ ∧
      t.cnt .TIME_ORPHAN_CNT p = saturated (s.cnt .TIME_ORPHAN_CNT p) ∧
      t.cnt .TIME_DISCARD_CNT p = saturated (s.cnt .TIME_DISCARD_CNT p) ∧
      t.flag TIME_CAUSE.ORPHAN (dieOfPort p) = true) ∧
  (∀ (p : Fin 8) (s : State) (due : List Ctx),
    s.Shaped →
    due = (s.ctxsOf (dieOfPort p)).filter (fun c => c.port == p.val && decide (c.born + (if c.delayResp then
      s.ttlDr p else s.ttlFu p) ≤ s.now)) →
    due ≠ [] →
    Completes (.ctxExpire p) s fun t =>
      t.ctxsOf (dieOfPort p) = (s.ctxsOf (dieOfPort p)).filter (fun c => !(c.port == p.val && decide (c.born + (if
        c.delayResp then s.ttlDr p else s.ttlFu p) ≤ s.now))) ∧
      t.cnt .TIME_CTX_EXPIRE_CNT p = saturated (s.cnt .TIME_CTX_EXPIRE_CNT p) due.length) ∧
  (∀ (g : Fin 8) (fit : RangeFit) (s : State),
    s.Shaped → s.mode.run.ranging.getD g false = true →
    Completes (.rangeUpdate g fit) s fun t =>
      (s.heldWhy g ≠ 0 →
       (t.rangingOf g).held = (s.rangingOf g).some_ ∧ (t.rangingOf g).lengthIn = (s.rangingOf g).lengthIn ∧
       (t.rangingOf g).dIn = (s.rangingOf g).dIn) ∧
      (s.heldWhy g = 0 →
       (t.rangingOf g).some_ = true ∧ (t.rangingOf g).held = false ∧
       (t.rangingOf g).lengthIn = (s.rangeLengths g fit).1 ∧
       (t.rangingOf g).lengthOut = (s.rangeLengths g fit).2 ∧ (t.rangingOf g).sigma = fit.sigma.toNat ∧
       (t.rangingOf g).spread = s.spreadG g / 1000000 ∧ (t.rangingOf g).at_ = s.now ∧
       (t.rangingOf g).dIn = (List.range 8).map (fun k => (floorShift (s.delayIn g k fit) 12).toNat)))

/-- The time commands of class 0x0A set source, time, rate, delays, models, outputs and port settings as R224, R225
and R258 say. TIME_SET_SOURCE of a source makes its die the primary and restarts the counter in FREERUN if it was
set; TIME_SET sets or steps the counter, or waits for the next pulse under PPS_IN; TIME_ADJ limits the rate and
slews a small offset; the other commands answer the status, write delays, wavelengths, models, PPS, serial and
port settings, report ranging and free contexts. (R224, R225, R244, R250, R254, R255, R258) -/
def Obligations.TimeCommandResults : Prop :=
  (∀ (e : Fin 256) (s : State),
    Runs s e 0x0A 0x01 → s.Shaped → (s.fld PWR_STATE.STATE = 3 ∨ s.fld PWR_STATE.STATE = 4) →
    1 ≤ (s.params e).byte 0 → (s.params e).byte 0 ≤ 3 → (s.params e).byte 1 ≤ 1 →
    ((s.params e).byte 1 = 0 ∨ (s.params e).byte 0 ≤ 2) → (s.params e).byte 2 ≤ 7 →
    ((s.params e).byte 2 = 0 ∨ (s.params e).byte 0 = 3) → (s.params e).byte 3 ≤ 1 → (s.params e).byte 4 ≠ 0 →
    (s.params e).zeroFrom 5 = true →
    ((s.params e).byte 0 = 3 →
     s.lineUsed ((s.params e).byte 2) = true ∧ s.flag INS_CFG.TTT_EN ((s.params e).byte 2) = true) →
    Completes (.timeSetSource e) s fun t =>
      t.primary = (sourceDie ((s.params e).byte 0) ((s.params e).byte 1) ((s.params e).byte 2)) ∧
      t.source = (s.params e).byte 0 ∧
      t.fld TIME_SRC_CFG.LANE (sourceDie ((s.params e).byte 0) ((s.params e).byte 1) ((s.params e).byte 2)) =
        (s.params e).byte 2 ∧
      t.fld TIME_SRC_CFG.HOST_TIMEOUT (sourceDie ((s.params e).byte 0) ((s.params e).byte 1) ((s.params e).byte
        2)) = (s.params e).byte 4 ∧
      t.time.pending = [] ∧
      (s.timeRuns (sourceDie ((s.params e).byte 0) ((s.params e).byte 1) ((s.params e).byte 2)) = true →
       t.todState (sourceDie ((s.params e).byte 0) ((s.params e).byte 1) ((s.params e).byte 2)) = (if s.todState
         (sourceDie ((s.params e).byte 0) ((s.params e).byte 1) ((s.params e).byte 2)) = todUnset then todUnset
         else todFreerun)) ∧
      Answered t e 0 (t.reg .TIME_STAT (sourceDie ((s.params e).byte 0) ((s.params e).byte 1) ((s.params e).byte
        2))).toNat) ∧
  (∀ (e : Fin 256) (s : State),
    Runs s e 0x0A 0x02 → s.Shaped → ((s.params e).bits % 2 ^ 96) / 2 ^ 16 % 2 ^ 32 < 1000000000 →
    (s.params e).byte 12 ≤ 1 → (s.params e).zeroFrom 13 = true → s.source ≠ 2 → s.source ≠ 3 →
    s.timeRuns s.primary = true →
    Completes (.timeSet e) s fun t =>
      let x : Int := ((todTicks ((s.params e).bits % 2 ^ 96) : Int) - ((s.clock s.primary).acc / 2 ^ 32 : Nat));
      let step := s.unset s.primary = true ∨ 65536000 < x.natAbs;
      (step →
       (t.clock s.primary).acc = todTicks ((s.params e).bits % 2 ^ 96) * 2 ^ 32 + (s.clock s.primary).acc % 2 ^ 32) ∧
      (¬ step → (t.clock s.primary).acc = (s.clock s.primary).acc ∧ (t.clock s.primary).slew = x * 2 ^ 32) ∧
      Answered t e 0 (if s.unset s.primary = false ∧ 65536000 < x.natAbs then 1 else 0) ∧
      (s.source = 1 → (s.params e).byte 12 = 1 → t.todState s.primary = todLocked) ∧
      (s.source = 0 → s.todState s.primary = todUnset → t.todState s.primary = todFreerun)) ∧
  (∀ (e : Fin 256) (s : State),
    Runs s e 0x0A 0x02 → ((s.params e).bits % 2 ^ 96) / 2 ^ 16 % 2 ^ 32 < 1000000000 → (s.params e).byte 12 ≤ 1 →
    (s.params e).zeroFrom 13 = true → s.source = 2 →
    Completes (.timeSet e) s fun t =>
      t.time.pending = s.time.pending ++
        [⟨todTicks ((s.params e).bits % 2 ^ 96), (s.params e).byte 12 == 1, ⟨e, (s.eyelet e).serial, false⟩⟩] ∧
      (t.eyelet e).reply = none) ∧
  (∀ (e : Fin 256) (s : State),
    Runs s e 0x0A 0x03 → s.Shaped → (s.params e).byte 12 ≤ 3 → (s.params e).zeroFrom 13 = true → s.source = 1 →
    s.timeRuns s.primary = true →
    Completes (.timeAdj e) s fun t =>
      let x := signed 64 ((s.params e).dword 0);
      Answered t e 0 ∧
      (bitOf ((s.params e).byte 12) 1 = true →
       t.sfld TIME_FREQ.FREQ s.primary = clampI (-819200000) 819200000 (signed 32 ((s.params e).wordAt 8))) ∧
      (x.natAbs ≤ 65536000 →
       (t.clock s.primary).slew = x * 2 ^ 32 ∧ (t.clock s.primary).acc = (s.clock s.primary).acc) ∧
      (bitOf ((s.params e).byte 12) 0 = true → s.todState s.primary ≠ todUnset → t.todState s.primary = todLocked)) ∧
  (∀ (e : Fin 256) (s : State),
    Runs s e 0x0A 0x04 → (s.params e).byte 0 ≤ 1 → (s.params e).zeroFrom 1 = true →
    Completes (.timeStatus e) s fun t =>
      Answered t e 0 (s.reg .TIME_STAT ((s.params e).byte 0 + 1)).toNat (s.errEst ((s.params e).byte 0 + 1))) ∧
  (∀ (e : Fin 256) (s : State),
    Runs s e 0x0A 0x05 → (s.params e).byte 0 ≤ 5 → (s.params e).byte 1 ≤ 7 → (s.params e).byte 2 = 0 →
    (s.params e).byte 3 = 0 → (signed 32 ((s.params e).wordAt 4)).natAbs ≤ 10000000 →
    (s.params e).zeroFrom 8 = true →
    Completes (.timeSetDelay e) s fun t =>
      Answered t e 0 ∧
      ((s.params e).byte 0 = 0 →
       t.fld TIME_LANE_TXDLY.DLY (dieOfLane ((s.params e).byte 1)) ((s.params e).byte 1 % 4) = (s.params e).wordAt
         4) ∧
      ((s.params e).byte 0 = 1 →
       t.fld TIME_LANE_RXDLY.DLY (dieOfLane ((s.params e).byte 1)) ((s.params e).byte 1 % 4) = (s.params e).wordAt
         4) ∧
      ((s.params e).byte 0 = 2 →
       t.fld TIME_FAR_TXDLY.DLY (dieOfLane ((s.params e).byte 1)) ((s.params e).byte 1 % 4) = (s.params e).wordAt
         4) ∧
      ((s.params e).byte 0 = 3 →
       t.fld TIME_FAR_RXDLY.DLY (dieOfLane ((s.params e).byte 1)) ((s.params e).byte 1 % 4) = (s.params e).wordAt
         4) ∧
      ((s.params e).byte 0 = 4 → t.fld TIME_PORT_HDLY.HDLY ((s.params e).byte 1) = (s.params e).wordAt 4) ∧
      ((s.params e).byte 0 = 5 →
       t.time.asym = s.time.asym.set ((s.params e).byte 1) (signed 32 ((s.params e).wordAt 4)))) ∧
  (∀ (e : Fin 256) (s : State),
    Runs s e 0x0A 0x06 → s.Shaped → (s.params e).byte 0 ≤ 7 → (s.params e).byte 1 = 0 → (s.params e).byte 2 = 0 →
    (s.params e).byte 3 = 0 → (s.params e).zeroFrom 12 = true →
    (((s.params e).wordAt 4 = 0 ∧ (s.params e).wordAt 8 = 0) ∨
     (wavelengthOk ((s.params e).wordAt 4) = true ∧ wavelengthOk ((s.params e).wordAt 8) = true)) →
    Completes (.timeWlSet e) s fun t =>
      let k := (s.params e).byte 0;
      Answered t e 0 ∧
      t.time.wl = s.time.wl.set k (if (s.params e).wordAt 4 = 0 ∧ (s.params e).wordAt 8 = 0 then none else some
        ((s.params e).wordAt 4, (s.params e).wordAt 8)) ∧
      (s.lineUsed k = true → (s.mode.run.lane k).fibre < 8 → t.rangingOf (s.mode.run.lane k).fibre = {})) ∧
  (∀ (e : Fin 256) (s : State),
    Runs s e 0x0A 0x07 → s.Shaped → (s.params e).byte 0 ≤ 7 → (s.params e).byte 1 ≤ 1 → (s.params e).byte 2 = 0 →
    (s.params e).byte 3 = 0 → (s.params e).zeroFrom 20 = true →
    Completes (.timeModelSet e) s fun t =>
      Answered t e 0 ∧
      t.fibreModel ((s.params e).byte 0) ((s.params e).byte 1) =
        ⟨(s.params e).wordAt 4, (s.params e).wordAt 8, (s.params e).wordAt 12, (s.params e).wordAt 16⟩ ∧
      t.rangingOf ((s.params e).byte 0) = {}) ∧
  (∀ (e : Fin 256) (s : State),
    Runs s e 0x0A 0x08 → (s.params e).byte 0 ≤ 7 → (s.params e).byte 1 ≤ 7 → (s.params e).zeroFrom 2 = true →
    s.mode.run.ranging.getD ((s.params e).byte 0) false = true →
    (s.members ((s.params e).byte 0)).contains ((s.params e).byte 1) = true →
    (s.rangingOf ((s.params e).byte 0)).some_ = true →
    Completes (.timeRangeReport e) s fun t =>
      let r := s.rangingOf ((s.params e).byte 0);
      Answered t e 0 (r.dOut.getD ((s.params e).byte 1) 0 % 2 ^ 32) (unsigned 24 ((r.dOut.getD ((s.params e).byte
        1) 0 : Int) - r.dIn.getD ((s.params e).byte 1) 0) + b2n r.held * 2 ^ 24 + b2n r.coarse * 2 ^ 25 + b2n
        (decide (r.spread < 180)) * 2 ^ 26)) ∧
  (∀ (e : Fin 256) (s : State),
    Runs s e 0x0A 0x09 → s.Shaped → (s.params e).byte 0 ≤ 7 → (s.params e).zeroFrom 1 = true →
    s.portUsed ((s.params e).byte 0) = true → s.applyHolds ((s.params e).byte 0) = false →
    Completes (.timeCtxFlush e) s fun t =>
      let q := (s.params e).byte 0;
      Answered t e 0 (s.ctxCount q) ∧
      t.ctxsOf (dieOfPort q) = (s.ctxsOf (dieOfPort q)).filter (fun c => c.port != q)) ∧
  (∀ (e : Fin 256) (s : State),
    Runs s e 0x0A 0x0A → (s.fld PWR_STATE.STATE = 3 ∨ s.fld PWR_STATE.STATE = 4) → (s.params e).byte 0 ≤ 3 →
    (s.params e).byte 1 = 0 → (s.params e).half 2 ≠ 0 → (s.params e).half 2 ≤ 500 →
    (signed 32 ((s.params e).wordAt 4)).natAbs ≤ 500000 → (s.params e).zeroFrom 8 = true →
    Completes (.timePpsSet e) s fun t =>
      Answered t e 0 ∧
      ((s.params e).byte 0 % 2 = 1 →
       t.flag TIME_PPS_CFG.PPS_EN 1 = true ∧ t.fld TIME_PPS_CFG.PPS_HOLD 1 = (s.params e).byte 0 / 2 ∧
       t.fld TIME_PPS_CFG.WIDTH 1 = (s.params e).half 2 ∧ t.fld TIME_PPS_OFS.OFS 1 = (s.params e).wordAt 4) ∧
      ((s.params e).byte 0 % 2 = 0 → t.time.ppsHigh = false)) ∧
  (∀ (e : Fin 256) (s : State),
    Runs s e 0x0A 0x0B → (s.fld PWR_STATE.STATE = 3 ∨ s.fld PWR_STATE.STATE = 4) → (s.params e).byte 0 ≤ 3 →
    1 ≤ (s.params e).byte 1 → (s.params e).byte 1 ≤ 3 → (s.params e).byte 2 = 0 → (s.params e).byte 3 = 0 →
    (s.params e).byte 6 ≤ 1 → (s.params e).zeroFrom 7 = true →
    Completes (.timeTodserSet e) s fun t =>
      Answered t e 0 ∧ t.fld TIME_TODSER_CFG.BAUD 1 = (s.params e).byte 0 ∧
      t.fld TIME_TODSER_CFG.TX_EN 1 = (s.params e).byte 1 % 2 ∧
      t.fld TIME_TODSER_CFG.RX_EN 1 = (s.params e).byte 1 / 2 ∧
      t.fld TIME_UTC.UTC_OFFSET 1 = (s.params e).half 4 ∧ t.fld TIME_UTC.LEAP_PENDING 1 = (s.params e).byte 6) ∧
  (∀ (e : Fin 256) (s : State),
    Runs s e 0x0A 0x0C → (s.params e).byte 0 ≤ 7 → (s.params e).byte 1 ≤ 15 → (s.params e).byte 2 ≤ 3 →
    (s.params e).byte 3 = 0 → 1 ≤ (s.params e).half 4 → (s.params e).half 4 ≤ 1023 → 4 ≤ (s.params e).half 6 →
    (s.params e).half 6 ≤ 4092 → (s.params e).zeroFrom 8 = true → s.portUsed ((s.params e).byte 0) = true →
    s.applyHolds ((s.params e).byte 0) = false →
    Completes (.timePortSet e) s fun t =>
      let q := (s.params e).byte 0;
      Answered t e 0 ∧ t.fld TIME_PORT_CTL.MSG_MASK q = (s.params e).byte 1 ∧
      t.fld TIME_PORT_CTL.POLICY q = (s.params e).byte 2 % 2 ∧
      t.fld TIME_PORT_CTL.TSQ_EN q = (s.params e).byte 2 / 2 ∧
      t.fld TIME_PORT_CTL.TTL_FU q = (s.params e).half 4 ∧
      t.fld TIME_PORT_CTL.TTL_DR q = ((s.params e).half 6 + 3) / 4)

/-- Control loops: a tick computes the law, trips or outputs the manual code, and the loop commands write what
R264–R274 and R285 say. Once the engine comes to it and the outputs published by the tick have arrived, a MANUAL
loop outputs its limited code; an AUTO loop with good feedback ramps its set-point and computes error, integrator
and code by the law of R264 (no feed-forward), holding the integrator at a limit; feedback out of range trips it
to HOLD. Mode requests queue for the tick, set-points are clamped, and after FASTOFF the resumable loops are
asked to resume. The TGT commands write bindings, gains, limits and flags. (R261, R264, R266, R268, R270, R271,
R272, R274, R282, R285) -/
def Obligations.ControlLoopResults : Prop :=
  (∀ (l : Fin 48) (s : State),
    s.Shaped → s.opticsOn = true → s.tickDue l = true → (s.loop l).reqs = [] → s.loopMode l = loopManual →
    Completes (.loopTick l) s fun t =>
      t.fld TGT_LOOP_OUT.CODE 0 l = (clampI (s.outMin l) (s.outMax l) (s.fld TGT_LOOP_MAN.MAN_CODE 0 l)).toNat ∧
      t.sfld TGT_LOOP_PV.VALUE 0 l = (s.arrive l).fbY l ∧ (t.loop l).ticked = some s.now) ∧
  (∀ (l : Fin 48) (s : State),
    s.Shaped → s.opticsOn = true → s.tickDue l = true → (s.loop l).reqs = [] → s.loopMode l = loopAuto →
    (s.arrive l).chSeq (s.fbCh l) ≠ (s.loop l).seq →
    (s.fld TGT_LOOP_SHIFT.FROZEN_N 0 l = 0 ∨ s.fbRun l < s.fld TGT_LOOP_SHIFT.FROZEN_N 0 l) →
    s.sfld TGT_LOOP_FBMIN.LIMIT 0 l ≤ (s.arrive l).fbY l → (s.arrive l).fbY l ≤ s.sfld TGT_LOOP_FBMAX.LIMIT 0 l →
    Completes (.loopTick l) s fun t =>
      t.loopMode l = loopAuto ∧ t.flag TGT_LOOP_STAT.FB_OK 0 l = true ∧
      t.sfld TGT_LOOP_PV.VALUE 0 l = (s.arrive l).fbY l ∧
      (let y : Int :=
         (let r := s.sfld TGT_LOOP_RSP.VALUE 0 l;
          let g := s.sfld TGT_LOOP_SP.TARGET 0 l;
          let step : Int := max 1 (s.fld TGT_LOOP_RAMP.RAMP 0 l);
          if r < g then min (r + step) g else max (r - step) g);
       t.sfld TGT_LOOP_RSP.VALUE 0 l = y)) ∧
  (∀ (l : Fin 48) (s : State),
    s.Shaped → s.opticsOn = true → s.tickDue l = true → (s.loop l).reqs = [] → s.loopMode l = loopAuto →
    (s.arrive l).chSeq (s.fbCh l) ≠ (s.loop l).seq →
    (s.fld TGT_LOOP_SHIFT.FROZEN_N 0 l = 0 ∨ s.fbRun l < s.fld TGT_LOOP_SHIFT.FROZEN_N 0 l) →
    s.sfld TGT_LOOP_FBMIN.LIMIT 0 l ≤ (s.arrive l).fbY l → (s.arrive l).fbY l ≤ s.sfld TGT_LOOP_FBMAX.LIMIT 0 l →
    s.fld TGT_LOOP_CFG.FF_SRC 0 l = 0 →
    Completes (.loopTick l) s fun t =>
      let y := (s.arrive l).fbY l;
      let r : Int :=
        (let r := s.sfld TGT_LOOP_RSP.VALUE 0 l;
         let g := s.sfld TGT_LOOP_SP.TARGET 0 l;
         let step : Int := max 1 (s.fld TGT_LOOP_RAMP.RAMP 0 l);
         if r < g then min (r + step) g else max (r - step) g);
      let e := satSigned 24 (s.sigma l * (r - y));
      let di := (gain (s.sfld TGT_LOOP_KI.K 0 l) e (s.fld TGT_LOOP_SHIFT.SH_I 0 l)).1;
      let p := (gain (s.sfld TGT_LOOP_KP.K 0 l) e (s.fld TGT_LOOP_SHIFT.SH_P 0 l)).1;
      let d :=
        (gain (s.sfld TGT_LOOP_KD.K 0 l) (satSigned 24 ((s.loop l).ymPrev - satSigned 24 (s.sigma l * y))) (s.fld
          TGT_LOOP_SHIFT.SH_D 0 l)).1;
      let i := satSigned 56 (s.integ l + di);
      let c := conv (s.outMin l) (s.outMax l) (p + i + d);
      let hold := (c.hi = true ∧ 0 < di) ∨ (c.lo = true ∧ di < 0);
      t.sfld TGT_LOOP_ERR.VALUE 0 l = e ∧ t.integ l = (if hold then s.integ l else i) ∧
      t.fld TGT_LOOP_OUT.CODE 0 l = (if hold then (conv (s.outMin l) (s.outMax l) (p + s.integ l + d)).code.toNat
        else c.code.toNat)) ∧
  (∀ (l : Fin 48) (s : State),
    s.Shaped → s.opticsOn = true → s.tickDue l = true → (s.loop l).reqs = [] → s.loopMode l = loopAuto →
    (s.arrive l).fbY l < s.sfld TGT_LOOP_FBMIN.LIMIT 0 l →
    Completes (.loopTick l) s fun t =>
      t.loopMode l = loopHold ∧ t.fld TGT_LOOP_STAT.HOLD_REASON 0 l = 1 ∧
      t.flag TGT_LOOP_STAT.FB_FAULT 0 l = true ∧ t.flag TGT_LOOP_STAT.RANGE 0 l = true ∧
      t.flag TGT_CAUSE.FB_FAULT = true) ∧
  (∀ (s : State),
    s.Shaped → s.flag TGT_STAT.RESUME_PEND = true → s.flag CDAC_STAT.OVERRIDE = false → s.opt.resumeAt ≤ s.now →
    Completes .fastoffResume s fun t =>
      t.flag TGT_STAT.RESUME_PEND = false ∧
      ∀ l < 48,
        (s.resumable l = true → (t.loop l).reqs = (s.loop l).reqs ++ [{ mode := loopAuto, resume := true }]) ∧
        (s.resumable l = false → t.loop l = s.loop l)) ∧
  (∀ (l : Fin 48) (data : W32) (s : State),
    s.Shaped → s.opticsOn = true →
    Completes (.tgtModeRequest l data) s fun t =>
      (t.loop l).reqs = (s.loop l).reqs ++ [{ mode := getBits data 0 2 }]) ∧
  (∀ (l : Fin 48) (data : W32) (s : State),
    s.opticsOn = true →
    Completes (.tgtSpWrite l data) s fun t =>
      let x := signed 24 (getBits data 0 24);
      let c := clampI (s.sfld TGT_LOOP_SPMIN.LIMIT 0 l) (s.sfld TGT_LOOP_SPMAX.LIMIT 0 l) x;
      t.sfld TGT_LOOP_SP.TARGET 0 l = c ∧ (c ≠ x → t.flag TGT_LOOP_STAT.SP_CLAMP 0 l = true)) ∧
  (∀ (e : Fin 256) (s : State),
    Runs s e 0x0B 0x01 → ((s.params e).byte 0) ≤ 47 → (s.params e).byte 1 ≤ 31 →
    ((s.params e).byte 2 ≤ 31 ∨ (s.params e).byte 2 = 0xFF) → (s.params e).byte 3 ≤ 15 → 5 ≤ (s.params e).half 4 →
    (s.params e).half 4 ≤ 1000 → (s.params e).half 6 < (s.params e).half 4 → (s.params e).byte 8 ≤ 3 →
    (s.params e).byte 9 ≤ 47 → ((s.params e).byte 8 = 2 → (s.params e).byte 9 ≤ 31) →
    (s.params e).wordAt 12 ≤ 0x7FFFFF → (s.params e).zeroFrom 16 = true →
    s.loopMode ((s.params e).byte 0) = loopOpen →
    s.bindOk ((s.params e).byte 0) (if (s.params e).byte 2 = 0xFF then none else some ((s.params e).byte 2)) =
      true →
    Completes (.tgtLoopCfg e) s fun t =>
      let l := ((s.params e).byte 0);
      Answered t e 0 ∧ t.fbCh l = (s.params e).byte 1 ∧
      t.loopDac l = (if (s.params e).byte 2 = 0xFF then none else some ((s.params e).byte 2)) ∧
      t.flag TGT_LOOP_CFG.LASER 0 l = bitOf ((s.params e).byte 3) 0 ∧
      t.flag TGT_LOOP_CFG.POL 0 l = bitOf ((s.params e).byte 3) 1 ∧
      t.fld TGT_LOOP_TIME.PERIOD 0 l = (s.params e).half 4 ∧ t.fld TGT_LOOP_TIME.PHASE 0 l = (s.params e).half 6 ∧
      t.fld TGT_LOOP_SHIFT.FROZEN_N 0 l = (s.params e).half 10 ∧
      t.fld TGT_LOOP_RAMP.RAMP 0 l = (s.params e).wordAt 12) ∧
  (∀ (e : Fin 256) (s : State) (kp ki kd kf : Int),
    Runs s e 0x0B 0x02 → ((s.params e).byte 0) ≤ 47 → (s.params e).byte 1 = 0 → (s.params e).half 2 = 0 →
    (s.params e).byte 20 ≤ 15 → (s.params e).byte 21 ≤ 15 → (s.params e).byte 22 ≤ 15 →
    (s.params e).byte 23 ≤ 15 → (s.params e).s24 4 = some kp → (s.params e).s24 8 = some ki →
    (s.params e).s24 12 = some kd → (s.params e).s24 16 = some kf → s.loopUnlocked ((s.params e).byte 0) = true →
    Completes (.tgtLoopGains e) s fun t =>
      let l := ((s.params e).byte 0);
      Answered t e 0 ∧ t.sfld TGT_LOOP_KP.K 0 l = kp ∧ t.sfld TGT_LOOP_KI.K 0 l = ki ∧
      t.sfld TGT_LOOP_KD.K 0 l = kd ∧ t.sfld TGT_LOOP_KF.K 0 l = kf ∧
      t.fld TGT_LOOP_SHIFT.SH_P 0 l = (s.params e).byte 20 ∧
      t.fld TGT_LOOP_SHIFT.SH_I 0 l = (s.params e).byte 21 ∧
      t.fld TGT_LOOP_SHIFT.SH_D 0 l = (s.params e).byte 22 ∧ t.fld TGT_LOOP_SHIFT.SH_F 0 l = (s.params e).byte 23) ∧
  (∀ (e : Fin 256) (s : State) (a b c d : Int),
    Runs s e 0x0B 0x03 → ((s.params e).byte 0) ≤ 47 → (s.params e).byte 1 = 0 → (s.params e).half 2 = 0 →
    (s.params e).half 4 ≤ (s.params e).half 6 → (s.params e).half 6 ≤ 16383 → (s.params e).s24 8 = some a →
    (s.params e).s24 12 = some b → (s.params e).s24 16 = some c → (s.params e).s24 20 = some d →
    s.loopUnlocked ((s.params e).byte 0) = true →
    Completes (.tgtLoopLimits e) s fun t =>
      let l := ((s.params e).byte 0);
      Answered t e 0 ∧ t.fld TGT_LOOP_OUTLIM.OUT_MIN 0 l = (s.params e).half 4 ∧
      t.fld TGT_LOOP_OUTLIM.OUT_MAX 0 l = (s.params e).half 6 ∧ t.sfld TGT_LOOP_FBMIN.LIMIT 0 l = a ∧
      t.sfld TGT_LOOP_FBMAX.LIMIT 0 l = b ∧ t.sfld TGT_LOOP_SPMIN.LIMIT 0 l = c ∧
      t.sfld TGT_LOOP_SPMAX.LIMIT 0 l = d ∧
      t.sfld TGT_LOOP_RSP.VALUE 0 l = clampI c d (s.sfld TGT_LOOP_RSP.VALUE 0 l)) ∧
  (∀ (e : Fin 256) (s : State),
    Runs s e 0x0B 0x04 → s.Shaped → ((s.params e).byte 0) ≤ 47 → (s.params e).byte 1 ≤ 3 →
    (s.params e).byte 2 ≤ 1 → (s.params e).byte 3 = 0 → (s.params e).half 4 ≤ 16383 →
    (s.params e).zeroFrom 6 = true →
    Completes (.tgtSetMode e) s fun t =>
      (t.loop ((s.params e).byte 0)).reqs = (s.loop ((s.params e).byte 0)).reqs ++
        [⟨(s.params e).byte 1, if (s.params e).byte 2 = 1 then some ((s.params e).half 4) else none, some ⟨e, (s.eyelet e).serial, false⟩, false⟩] ∧
      (t.eyelet e).reply = none) ∧
  (∀ (e : Fin 256) (s : State) (x : Int),
    Runs s e 0x0B 0x05 → ((s.params e).byte 0) ≤ 47 → (s.params e).byte 1 = 0 → (s.params e).half 2 = 0 →
    (s.params e).zeroFrom 8 = true → (s.params e).s24 4 = some x →
    Completes (.tgtSetSp e) s fun t =>
      let c :=
        clampI (s.sfld TGT_LOOP_SPMIN.LIMIT 0 ((s.params e).byte 0)) (s.sfld TGT_LOOP_SPMAX.LIMIT 0 ((s.params
          e).byte 0)) x;
      t.sfld TGT_LOOP_SP.TARGET 0 ((s.params e).byte 0) = c ∧
      Answered t e 0 (unsigned 32 c) (b2n (decide (c ≠ x)))) ∧
  (∀ (e : Fin 256) (s : State),
    Runs s e 0x0B 0x06 → ((s.params e).byte 0) ≤ 47 → (s.params e).zeroFrom 1 = true →
    Completes (.tgtStatus e) s fun t =>
      Answered t e 0 (s.reg .TGT_LOOP_STAT 0 ((s.params e).byte 0)).toNat (s.reg .TGT_LOOP_OUT 0 ((s.params
        e).byte 0)).toNat) ∧
  (∀ (e : Fin 256) (s : State),
    Runs s e 0x0B 0x07 → ((s.params e).byte 0) ≤ 47 → (s.params e).byte 1 = 0 → (s.params e).half 2 = 0 →
    (s.params e).wordAt 4 % 65536 = 0 → (s.params e).wordAt 4 ≤ 0x1FFFFFF → (s.params e).zeroFrom 8 = true →
    Completes (.tgtClearFlags e) s fun t =>
      Answered t e 0 ∧
      t.reg .TGT_LOOP_STAT 0 ((s.params e).byte 0) = s.reg .TGT_LOOP_STAT 0 ((s.params e).byte 0) &&& ~~~
        BitVec.ofNat 32 ((s.params e).wordAt 4))

/-- Control DACs and sine generators: channel writes, strobes, commands, samples and the reference fault as
R275–R287 say. A write of CDAC_CFG keeps GAIN2 while EN is set, and flags it, and closes the clamp with EN clear;
a code is staged on a free channel, at once under IMMEDIATE, and refused with LOCK on an owned one; a strobe
loads the staged codes of a SOFTWARE group. The CDAC, SINE and PEN commands write their settings or answer the
status; a generator stops at a zero crossing, each sample advances every generator once, and a lost reference is
reported, and shown good when it returns. (R275, R276, R277, R278, R279, R283, R285, R287) -/
def Obligations.ControlDacResults : Prop :=
  (∀ (n : Fin 32) (data : W32) (s : State),
    s.opticsOn = true → n.val ≠ 31 →
    Completes (.cdacCfgWrite n data) s fun t =>
      let m := (Reg.access .CDAC_CFG).rw ||| (if s.flag CDAC_CFG.EN 0 n then 0 else (Reg.access .CDAC_CFG).rwl);
      t.reg .CDAC_CFG 0 n = (s.reg .CDAC_CFG 0 n &&& ~~~ m) ||| (data &&& m) ∧
      (t.flag CDAC_CFG.EN 0 n = false → t.flag CDAC_OUT.CLAMPED 0 n = true) ∧
      (s.flag CDAC_CFG.EN 0 n = true → s.fld CDAC_CFG.GAIN2 0 n ≠ getBits data 1 1 →
       t.flag CDAC_CH_STAT.LOCK 0 n = true ∧ t.flag CDAC_CAUSE.LOCK = true)) ∧
  (∀ (n : Fin 32) (data : W32) (s : State),
    s.opticsOn = true → (s.owner n = none ∧ n.val ≠ 31) →
    Completes (.cdacCodeWrite n data) s fun t =>
      t.fld CDAC_CODE.CODE 0 n = getBits data 0 14 ∧
      (s.groupSrc (n / 8) = 0 → t.fld CDAC_CH_STAT.BASE 0 n = getBits data 0 14)) ∧
  (∀ (n : Fin 32) (data : W32) (s : State),
    s.opticsOn = true → s.owner n ≠ none →
    Completes (.cdacCodeWrite n data) s fun t =>
      t.fld CDAC_CODE.CODE 0 n = s.fld CDAC_CODE.CODE 0 n ∧ t.flag CDAC_CH_STAT.LOCK 0 n = true ∧
      t.flag CDAC_CAUSE.LOCK = true) ∧
  (∀ (data : W32) (s : State),
    s.opticsOn = true →
    Completes (.softwareStrobe data) s fun t =>
      ∀ g < 4,
        bitOf data.toNat g = true → s.groupSrc g = 2 →
        ∀ i < 8, t.fld CDAC_CH_STAT.BASE 0 (8 * g + i) = s.fld CDAC_CODE.CODE 0 (8 * g + i)) ∧
  (∀ (e : Fin 256) (s : State),
    Runs s e 0x0C 0x01 → ((s.params e).byte 0) < 31 → (s.params e).byte 1 ≤ 31 → (s.params e).byte 2 ≤ 7 →
    (s.params e).byte 3 = 0 → (s.params e).half 4 ≤ 16383 → (s.params e).half 6 ≤ (s.params e).half 8 →
    (s.params e).half 8 ≤ 16383 → (s.params e).zeroFrom 10 = true →
    (s.flag CDAC_CFG.EN 0 ((s.params e).byte 0) = true →
     bitOf ((s.params e).byte 1) 1 = s.flag CDAC_CFG.GAIN2 0 ((s.params e).byte 0)) →
    (bitOf ((s.params e).byte 1) 2 = true ∨ s.laserOwned ((s.params e).byte 0) = false) →
    Completes (.cdacCfg e) s fun t =>
      let n := ((s.params e).byte 0);
      Answered t e 0 ∧ t.reg .CDAC_CFG 0 n = BitVec.ofNat 32 ((s.params e).byte 1 + (s.params e).byte 2 * 256) ∧
      t.fld CDAC_SAFE.SAFE_CODE 0 n = (s.params e).half 4 ∧ t.fld CDAC_LIM.CODE_MIN 0 n = (s.params e).half 6 ∧
      t.fld CDAC_LIM.CODE_MAX 0 n = (s.params e).half 8) ∧
  (∀ (e : Fin 256) (s : State),
    Runs s e 0x0C 0x02 → ((s.params e).byte 0) < 31 → (s.params e).byte 1 = 0 → (s.params e).half 2 ≤ 16383 →
    (s.params e).zeroFrom 4 = true → s.owner ((s.params e).byte 0) = none →
    Completes (.cdacSetCode e) s fun t =>
      Answered t e 0 ∧ t.fld CDAC_CODE.CODE 0 ((s.params e).byte 0) = (s.params e).half 2 ∧
      (s.groupSrc (((s.params e).byte 0) / 8) = 0 →
       t.fld CDAC_CH_STAT.BASE 0 ((s.params e).byte 0) = (s.params e).half 2)) ∧
  (∀ (e : Fin 256) (s : State),
    Runs s e 0x0C 0x03 → ((s.params e).byte 0) ≤ 3 → (s.params e).byte 1 ≤ 2 → (s.params e).byte 2 ≤ 47 →
    (s.params e).zeroFrom 3 = true →
    Completes (.cdacGroup e) s fun t =>
      Answered t e 0 ∧ t.fld CDAC_GROUP.SRC 0 ((s.params e).byte 0) = (s.params e).byte 1 ∧
      t.fld CDAC_GROUP.LOOP 0 ((s.params e).byte 0) = (s.params e).byte 2) ∧
  (∀ (e : Fin 256) (s : State),
    Runs s e 0x0C 0x04 → ((s.params e).byte 0) ≤ 15 → (s.params e).zeroFrom 1 = true →
    Completes (.cdacStrobe e) s fun t =>
      Answered t e 0 ∧
      ∀ g < 4,
        bitOf ((s.params e).byte 0) g = true → s.groupSrc g = 2 →
        ∀ i < 8, t.fld CDAC_CH_STAT.BASE 0 (8 * g + i) = s.fld CDAC_CODE.CODE 0 (8 * g + i)) ∧
  (∀ (e : Fin 256) (s : State),
    Runs s e 0x0C 0x05 → ((s.params e).byte 0) ≤ 7 → (s.params e).byte 1 ≤ 1 → (s.params e).half 2 = 0 →
    (s.params e).wordAt 4 ≤ 429496730 → (s.params e).half 8 ≤ 2047 → (s.params e).zeroFrom 12 = true →
    Completes (.sineCfg e) s fun t =>
      Answered t e 0 ∧ t.fld SINE_FTW.FTW 0 ((s.params e).byte 0) = (s.params e).wordAt 4 ∧
      t.fld SINE_AMP.AMP 0 ((s.params e).byte 0) = (s.params e).half 8 ∧
      t.fld SINE_AMP.PHASE0 0 ((s.params e).byte 0) = (s.params e).half 10 ∧
      t.fld SINE_CTL.EN 0 ((s.params e).byte 0) = (s.params e).byte 1) ∧
  (∀ (e : Fin 256) (s : State),
    Runs s e 0x0C 0x06 → ((s.params e).byte 0) ≤ 15 → (s.params e).byte 1 ≤ 15 → (s.params e).byte 2 ≤ 15 →
    (s.params e).zeroFrom 3 = true →
    Completes (.penSet e) s fun t =>
      (∀ n < 4,
         bitOf (t.fld CDAC_PEN.PEN) n = if bitOf ((s.params e).byte 0) n then bitOf ((s.params e).byte 1) n else
           bitOf (s.fld CDAC_PEN.PEN) n) ∧
      t.fld CDAC_PEN.FASTOFF_OFF = (s.params e).byte 2 ∧ Answered t e 0 (t.reg .CDAC_PEN_STAT).toNat) ∧
  (∀ (e : Fin 256) (s : State),
    Runs s e 0x0C 0x07 → ((s.params e).byte 0) ≤ 31 → (s.params e).zeroFrom 1 = true →
    Completes (.cdacStatus e) s fun t =>
      Answered t e 0 (s.reg .CDAC_OUT 0 ((s.params e).byte 0)).toNat (s.reg .CDAC_CH_STAT 0 ((s.params e).byte
        0)).toNat) ∧
  (∀ (g : Fin 8) (s : State),
    s.Shaped → s.opticsOn = true → (s.sine g).running = true → s.flag SINE_CTL.EN 0 g = false →
    sineCrosses (s.sine g).phase (s.ftw g) = true →
    Completes (.sineStop g) s fun t =>
      (t.sine g).running = false ∧ (t.sine g).sample = 0 ∧ t.flag SINE_STAT.RUNNING 0 g = false) ∧
  (∀ (s : State),
    s.opticsOn = true → s.flag CDAC_STAT.REF_OK = true →
    Completes (.cdacRefFault false) s fun t =>
      let m := bitsWhere (fun n => s.flag CDAC_CFG.EN 0 n) 32;
      t.flag CDAC_STAT.REF_OK = false ∧
      (m ≠ 0 → t.flag CDAC_CAUSE.REF_FAULT = true ∧ Logged s t [⟨0x0C03, sevErr, m, 0, 0, 0, none⟩])) ∧
  (∀ (s : State),
    s.opticsOn = true →
    Completes (.cdacRefFault true) s fun t =>
      t.flag CDAC_STAT.REF_OK = true ∧ t.events = s.events) ∧
  (∀ (s : State),
    s.Shaped → s.opticsOn = true → s.opt.sampledAt ≠ some s.now →
    Completes .ditherSample s fun t =>
      t.opt.sampledAt = some s.now ∧ t.opt.before = s.opt.sines ∧ ∀ g < 8, t.sine g = s.sineNext g)

/-- Monitoring: conversions, publications, fades, the check DAC, slot tables, diagnosis and calibration act as
R289–R308 say. A conversion records raw code, run length and corrected value of its slot's input, or completes
the on-demand request; an output is published with the next SEQ; a fade ends after 64 outputs; four failed or
passed comparisons set or clear CHK_FAULT; RUN starts and stops the converter and what waits for it; a validated
slot table takes effect at a frame boundary; a diagnosis and a calibration end with their results or are
rejected. (R289, R290, R291, R292, R295, R297, R298, R299, R300, R303, R308) -/
def Obligations.MonitorConversionResults : Prop :=
  (∀ (raw : BitVec 16) (s : State),
    s.Shaped → s.flag MON_STAT.RUNNING = true → s.mon.done ≠ some s.now → s.now ≠ 0 → s.opticsOn = true →
    s.mon.cur = none → s.mon.diag = none → bitOf (s.entryAt (s.now - 1)) 7 = true →
    Completes (.monConversion raw) s fun t =>
      let i := ((s.entryAt (s.now - 1)) % 32);
      let last := s.reg .MON_IN_LAST 0 i;
      let n :=
        if getBits last 16 16 ≠ 0 ∧ getBits last 0 16 = raw.toNat then satN 16 (getBits last 16 16 + 1) else 1;
      t.reg .MON_IN_LAST 0 i = BitVec.ofNat 32 (raw.toNat + n * 2 ^ 16) ∧
      (t.monIn i).x = some (s.corrected i raw.toNat) ∧
      (t.monIn i).raws = (raw.toNat :: (s.monIn i).raws).take 16 ∧ t.mon.done = some s.now ∧
      t.flag MON_STAT.RUNNING = s.flag MON_CTL.RUN ∧
      (s.flag MON_CTL.RUN = true → t.fld MON_STAT.SLOT = s.now % 32)) ∧
  (∀ (raw : BitVec 16) (s : State) (q : OdReq),
    s.Shaped → s.flag MON_STAT.RUNNING = true → s.mon.done ≠ some s.now → s.now ≠ 0 → s.opticsOn = true →
    s.mon.cur = some q →
    Completes (.monConversion raw) s fun t =>
      t.wide .MON_OD_RES 0 q.m = BitVec.ofNat 256 ((unsigned 24 (s.corrected q.input raw.toNat) + 2 ^ 31) +
        (raw.toNat + q.input * 2 ^ 16) * 2 ^ 32) ∧
      (∀ w : Ticket,
         q.waiter = some w →
         (w.aqique = false → (s.eyelet w.eyelet).st = .running → (s.eyelet w.eyelet).serial = w.serial →
          (s.eyelet w.eyelet).reply = none →
          (t.eyelet w.eyelet).reply = some
            ⟨0, (unsigned 24 (s.corrected q.input raw.toNat) + 2 ^ 31), (raw.toNat + q.input * 2 ^ 16)⟩))) ∧
  (∀ (c : Fin 32) (s : State) (at_ : Nat) (z : Int) (rest : List (Nat × Int)),
    s.Shaped → s.opticsOn = true → (s.chan c).outs = (at_, z) :: rest → at_ ≤ s.now →
    s.flag MON_CH_CFG.EN 0 c = true →
    Completes (.monPublish c) s fun t =>
      t.wide .MON_CH_VAL 0 c = BitVec.ofNat 256 (unsigned 24 z + ((s.wide .MON_CH_VAL 0 c).toNat / 2 ^ 32 % 2 ^ 32
        + 1) % 2 ^ 32 * 2 ^ 32) ∧
      (t.chan c).outs = rest ∧ t.flag MON_CH_STAT.WAITING 0 c = false) ∧
  (∀ (c : Fin 32) (s : State),
    s.flag MON_CH_STAT.FADING 0 c = true → s.fld MON_CH_STAT.FADE_STEP 0 c = 64 →
    Completes (.fadeEnd c) s fun t =>
      t.flag MON_CH_STAT.FADING 0 c = false ∧ t.flag MON_CH_STAT.ACTIVE 0 c = (!s.flag MON_CH_STAT.ACTIVE 0 c) ∧
      t.flag MON_CAUSE.FADE_DONE = true) ∧
  (∀ (s : State),
    s.fld MON_CHK_STAT.FAILS = 4 → s.flag MON_STAT.CHK_FAULT = false →
    Completes .chkFault s fun t =>
      t.flag MON_STAT.CHK_FAULT = true ∧ t.flag MON_CAUSE.CHK_FAULT = true ∧
      t.cnt .MON_CHK_FAIL_CNT = saturated (s.cnt .MON_CHK_FAIL_CNT) ∧
      Logged s t [⟨0x0D01, sevErr, 0, s.fld MON_CHK_STAT.RAW, 16 * s.fld MON_CHK_CTL.CODE, 0, none⟩]) ∧
  (∀ (s : State),
    s.mon.passes = 4 → s.flag MON_STAT.CHK_FAULT = true →
    Completes .chkOk s fun t =>
      t.flag MON_STAT.CHK_FAULT = false ∧ t.flag MON_CAUSE.CHK_OK = true ∧
      Logged s t [⟨0x0D02, sevInfo, 0, 0, 0, 0, none⟩]) ∧
  (∀ (s : State),
    s.opticsOn = true →
    Completes (.run true) s fun t =>
      t.flag MON_CTL.RUN = true ∧ (s.flag MON_CTL.RUN = false → t.flag MON_STAT.RUNNING = true)) ∧
  (∀ (s : State),
    s.opticsOn = true → s.flag MON_CTL.RUN = true →
    Completes (.run false) s fun t =>
      t.flag MON_CTL.RUN = false ∧ t.mon.cur = none ∧ t.mon.od = [] ∧ t.mon.cal = none ∧
      t.flag MON_STAT.RUNNING = s.flag MON_STAT.RUNNING) ∧
  (∀ (s : State),
    s.opticsOn = true → s.tableRefusal s.slotShadow = none →
    Completes .slotCommit s fun t =>
      t.mon.table = some s.slotShadow ∧ t.flag MON_STAT.SLOT_PEND = true) ∧
  (∀ (s : State) (code : Nat),
    s.opticsOn = true → s.tableRefusal s.slotShadow = some code →
    Completes .slotCommit s fun t =>
      t.flag MON_CAUSE.LOCK = true ∧ t.mon = s.mon) ∧
  (∀ (s : State) (tb : List Nat),
    s.mon.table = some tb → s.now % 32 = 0 →
    Completes .slotTableApply s fun t =>
      (∀ n < 32, t.reg .MON_SLOT 0 n = BitVec.ofNat 32 (tb.getD n 0)) ∧ t.mon.table = none ∧
      t.flag MON_STAT.SLOT_PEND = false ∧ t.flag MON_CAUSE.SLOT_APPLIED = true) ∧
  (∀ (data : W32) (s : State),
    s.opticsOn = true → getBits data 24 5 ≤ 23 → getBits data 16 1 = 1 →
    s.inputInUse (getBits data 24 5) = false → s.calBusy = false → s.hasSlot (getBits data 24 5) = true →
    Completes (.diagStart data) s fun t =>
      t.mon.diag = some { input := getBits data 24 5, since := s.nextConv, waiter := none } ∧
      t.flag MON_CHK_CTL.DIAG_EN = true ∧ t.fld MON_CHK_CTL.DIAG_INPUT = getBits data 24 5 ∧
      t.fld MON_CHK_CTL.CODE = getBits data 0 12) ∧
  (∀ (data : W32) (s : State),
    s.opticsOn = true → getBits data 24 5 ≤ 23 → getBits data 16 1 = 0 → s.mon.diag = none →
    Completes (.diagStart data) s fun t =>
      t.fld MON_CHK_CTL.CODE = getBits data 0 12 ∧ t.fld MON_CHK_CTL.DIAG_INPUT = getBits data 24 5 ∧
      t.mon.codeAt = some s.now) ∧
  (∀ (s : State) (d : Diag),
    s.mon.diag = some d → d.n = 16 →
    Completes .diagDone s fun t =>
      let v := (rcDiv (d.sum : Int) 16).toNat + d.base * 2 ^ 16;
      t.mon.diag = none ∧ t.reg .MON_DIAG_RES = BitVec.ofNat 32 v ∧ t.flag MON_CAUSE.DIAG_DONE = true ∧
      t.flag MON_STAT.DIAG = false ∧ t.flag MON_CHK_CTL.DIAG_EN = false ∧
      (∀ w : Ticket,
         d.waiter = some w →
         (w.aqique = false → (s.eyelet w.eyelet).st = .running → (s.eyelet w.eyelet).serial = w.serial →
          (s.eyelet w.eyelet).reply = none → (t.eyelet w.eyelet).reply = some ⟨0, v, 0⟩))) ∧
  (∀ (s : State) (k : MonCal),
    s.mon.cal = some k → k.n = 1024 → k.target = none → (rcDiv (k.sum : Int) 64).natAbs ≤ 131072 →
    k.clipped = false →
    Completes .monCalAverageDone s fun t =>
      t.mon.cal = none ∧ t.flag MON_STAT.CAL_BUSY = false ∧
      t.fld MON_IN_CAL.ZERO_PEND 0 k.input = unsigned 21 (rcDiv (k.sum : Int) 64) ∧
      t.flag MON_IN_CAL.ZERO_VALID 0 k.input = true ∧
      (k.waiter.aqique = false → (s.eyelet k.waiter.eyelet).st = .running →
       (s.eyelet k.waiter.eyelet).serial = k.waiter.serial → (s.eyelet k.waiter.eyelet).reply = none →
       (t.eyelet k.waiter.eyelet).reply = some ⟨0, unsigned 32 (rcDiv (k.sum : Int) 64), 0⟩)) ∧
  (∀ (s : State) (k : MonCal) (x : Nat) (span : Int),
    s.mon.cal = some k → k.n = 1024 → k.target = some x → s.flag MON_IN_CAL.ZERO_VALID 0 k.input = true →
    span = rcDiv (k.sum : Int) 64 - signed 21 (s.fld MON_IN_CAL.ZERO_PEND 0 k.input) → 131072 ≤ span →
    k.clipped = false → s.inputInUse k.input = false →
    Completes .monCalAverageDone s fun t =>
      t.mon.cal = none ∧
      t.fld MON_IN_GAIN.GAIN 0 k.input = (rcDiv ((x : Int) * 2 ^ 12) span.toNat).toNat % 2 ^ MON_IN_GAIN.GAIN.w ∧
      t.fld MON_IN_ZERO.ZERO 0 k.input = s.fld MON_IN_CAL.ZERO_PEND 0 k.input ∧ t.reg .MON_IN_CAL 0 k.input = 0 ∧
      t.flag MON_CAUSE.CAL_DONE = true) ∧
  (∀ (s : State) (k : MonCal),
    s.mon.cal = some k → k.n = 1024 → k.target = none → k.clipped = true →
    (rcDiv (k.sum : Int) 64).natAbs ≤ 131072 →
    Completes .monCalAverageDone s fun t =>
      t.mon.cal = none ∧ t.reg .MON_IN_CAL 0 k.input = 0 ∧ t.flag MON_CAUSE.CAL_REJECT = true ∧
      (k.waiter.aqique = false → (s.eyelet k.waiter.eyelet).st = .running →
       (s.eyelet k.waiter.eyelet).serial = k.waiter.serial → (s.eyelet k.waiter.eyelet).reply = none →
       (t.eyelet k.waiter.eyelet).reply = some ⟨0x023A, 0, 4⟩))

/-- On-demand requests, bank commits and the monitor commands of class 0x0D act as R290–R293 and R307–R311 say. A
write of MON_OD_REQ is accepted while RUN is set and the master has no request, and otherwise flagged; a bank
commit swaps at once, starts a fade or waits for the next output, and is refused during a fade. The MON commands
write slots, channels, taps and the check DAC, commit tables and banks, and begin conversions, calibrations and a
diagnosis that complete later. (R290, R292, R293, R297, R299, R306, R307, R308, R309, R310) -/
def Obligations.MonitorCommandResults : Prop :=
  (∀ (src : Master) (data : W32) (s : State),
    Writes s src 0x4060020 → srcId src ≤ 3 → s.odOf (srcId src) = none → s.flag MON_CTL.RUN = true →
    Completes (.odRequest src data) s fun t =>
      Accepted t src ∧ t.odOf (srcId src) = some ⟨srcId src, getBits data 0 5, none⟩ ∧
      bitOf (t.fld MON_OD_STAT.PENDING) (srcId src) = true) ∧
  (∀ (src : Master) (data : W32) (s : State) (q : OdReq),
    Writes s src 0x4060020 → srcId src ≤ 3 → s.odOf (srcId src) = some q →
    Completes (.odRequest src data) s fun t =>
      Accepted t src ∧ t.flag MON_CAUSE.OD_REJECT = true ∧ t.bit .MON_OD_STAT (8 + srcId src) = true ∧
      t.odOf (srcId src) = some q) ∧
  (∀ (src : Master) (data : W32) (s : State),
    Writes s src 0x4060020 → srcId src ≤ 3 → s.odOf (srcId src) = none → s.flag MON_CTL.RUN = false →
    Completes (.odRequest src data) s fun t =>
      Accepted t src ∧ t.bit .MON_OD_STAT (8 + srcId src) = true ∧ t.odOf (srcId src) = none ∧ t.mon = s.mon) ∧
  (∀ (c : Fin 32) (data : W32) (s : State),
    s.Shaped → s.opticsOn = true → getBits data 0 1 = 1 → s.flag MON_CH_STAT.FADING 0 c = false →
    Completes (.firCommit c data) s fun t =>
      ((s.flag MON_CH_STAT.WAITING 0 c = true ∨ s.flag MON_CH_CFG.EN 0 c = false) →
       t.flag MON_CH_STAT.ACTIVE 0 c = (!s.flag MON_CH_STAT.ACTIVE 0 c)) ∧
      (¬ (s.flag MON_CH_STAT.WAITING 0 c = true ∨ s.flag MON_CH_CFG.EN 0 c = false) →
       s.flag MON_CH_CFG.ROLE 0 c = true →
       t.flag MON_CH_STAT.FADING 0 c = true ∧ t.fld MON_CH_STAT.FADE_STEP 0 c = 0) ∧
      (¬ (s.flag MON_CH_STAT.WAITING 0 c = true ∨ s.flag MON_CH_CFG.EN 0 c = false) →
       s.flag MON_CH_CFG.ROLE 0 c = false → (t.chan c).swap = true)) ∧
  (∀ (c : Fin 32) (data : W32) (s : State),
    s.opticsOn = true → getBits data 0 1 = 1 → s.flag MON_CH_STAT.FADING 0 c = true →
    Completes (.firCommit c data) s fun t =>
      t.flag MON_CH_STAT.LOCK 0 c = true ∧ t.flag MON_CAUSE.LOCK = true ∧ t.mon = s.mon) ∧
  (∀ (e : Fin 256) (s : State),
    Runs s e 0x0D 0x01 → ((s.params e).byte 0) ≤ 31 → 1 ≤ (s.params e).byte 1 → (s.params e).byte 1 ≤ 22 →
    ((s.params e).byte 0) + (s.params e).byte 1 ≤ 32 → (s.params e).zeroFrom (2 + (s.params e).byte 1) = true →
    Completes (.monSlotSet e) s fun t =>
      Answered t e 0 ∧
      ∀ j < (s.params e).byte 1,
        t.reg .MON_SLOT_SH 0 (((s.params e).byte 0) + j) = BitVec.ofNat 32 ((s.params e).byte (2 + j)) &&& 0x9F) ∧
  (∀ (e : Fin 256) (s : State),
    Runs s e 0x0D 0x02 → (s.params e).zeroFrom 0 = true → s.tableRefusal s.slotShadow = none →
    Completes (.monSlotCommit e) s fun t =>
      t.mon.table = some s.slotShadow ∧ t.flag MON_STAT.SLOT_PEND = true ∧
      t.mon.tableWaiters = s.mon.tableWaiters ++ [⟨e, (s.eyelet e).serial, false⟩] ∧ (t.eyelet e).reply = none) ∧
  (∀ (e : Fin 256) (s : State),
    Runs s e 0x0D 0x03 → ((s.params e).byte 0) ≤ 31 → (s.params e).byte 1 ≤ 31 → (s.params e).byte 2 ≤ 15 →
    1 ≤ (s.params e).byte 3 → (s.params e).byte 3 ≤ 64 → 1 ≤ (s.params e).byte 4 → (s.params e).byte 4 ≤ 32 →
    (s.params e).byte 5 ≤ 15 → (s.params e).byte 6 ≤ 7 → 1 ≤ (s.params e).byte 7 → (s.params e).byte 7 ≤ 2 →
    (s.params e).zeroFrom 10 = true →
    s.chanRefusal ((s.params e).byte 0) (BitVec.ofNat 32 ((s.params e).byte 2 + (s.params e).byte 1 * 2 ^ 8 +
      (s.params e).byte 6 * 2 ^ 16 + ((s.params e).byte 7 - 1) * 2 ^ 19 + (s.params e).byte 5 * 2 ^ 20))
      (BitVec.ofNat 32 ((s.params e).byte 3 + (s.params e).byte 4 * 2 ^ 8)) = none →
    Completes (.monChCfg e) s fun t =>
      t.reg .MON_CH_CFG 0 ((s.params e).byte 0) = (BitVec.ofNat 32 ((s.params e).byte 2 + (s.params e).byte 1 * 2
        ^ 8 + (s.params e).byte 6 * 2 ^ 16 + ((s.params e).byte 7 - 1) * 2 ^ 19 + (s.params e).byte 5 * 2 ^ 20)) ∧
      t.reg .MON_CH_DEC 0 ((s.params e).byte 0) = (BitVec.ofNat 32 ((s.params e).byte 3 + (s.params e).byte 4 * 2
        ^ 8)) ∧
      t.fld MON_CH_PHASE.PHASE_OFS 0 ((s.params e).byte 0) = (s.params e).half 8 ∧
      Answered t e 0 (t.reg .MON_CH_PERIOD 0 ((s.params e).byte 0)).toNat (t.reg .MON_CH_GD 0 ((s.params e).byte
        0)).toNat) ∧
  (∀ (e : Fin 256) (s : State),
    Runs s e 0x0D 0x04 → ((s.params e).byte 0) ≤ 31 → (s.params e).byte 1 ≤ 30 → 1 ≤ (s.params e).byte 2 →
    (s.params e).byte 2 ≤ 5 → (s.params e).byte 1 + (s.params e).byte 2 ≤ 31 → (s.params e).byte 3 = 0 →
    (s.params e).zeroFrom (4 + 4 * (s.params e).byte 2) = true →
    (List.range ((s.params e).byte 2)).all (fun j => (tapParam (s.params e) (4 + 4 * j)).isSome) = true →
    s.flag MON_CH_STAT.FADING 0 ((s.params e).byte 0) = false →
    Completes (.monFirSet e) s fun t =>
      Answered t e 0 ∧
      ∀ j < (s.params e).byte 2,
        some (t.reg (if s.flag MON_CH_STAT.ACTIVE 0 ((s.params e).byte 0) then .MON_FIRA else .MON_FIRB) 0 (32 *
          ((s.params e).byte 0) + (s.params e).byte 1 + j)).toNat = tapParam (s.params e) (4 + 4 * j)) ∧
  (∀ (e : Fin 256) (s : State),
    Runs s e 0x0D 0x05 → s.Shaped → ((s.params e).byte 0) ≤ 31 → (s.params e).zeroFrom 1 = true →
    s.flag MON_CH_STAT.FADING 0 ((s.params e).byte 0) = false →
    Completes (.monFirCommit e) s fun t =>
      ((s.flag MON_CH_STAT.WAITING 0 ((s.params e).byte 0) = true ∨
        s.flag MON_CH_CFG.EN 0 ((s.params e).byte 0) = false) →
       t.flag MON_CH_STAT.ACTIVE 0 ((s.params e).byte 0) = (!s.flag MON_CH_STAT.ACTIVE 0 ((s.params e).byte 0))) ∧
      (¬ (s.flag MON_CH_STAT.WAITING 0 ((s.params e).byte 0) = true ∨ s.flag MON_CH_CFG.EN 0 ((s.params e).byte 0)
         = false) →
       s.flag MON_CH_CFG.ROLE 0 ((s.params e).byte 0) = true →
       t.flag MON_CH_STAT.FADING 0 ((s.params e).byte 0) = true ∧
       t.fld MON_CH_STAT.FADE_STEP 0 ((s.params e).byte 0) = 0) ∧
      (¬ (s.flag MON_CH_STAT.WAITING 0 ((s.params e).byte 0) = true ∨ s.flag MON_CH_CFG.EN 0 ((s.params e).byte 0)
         = false) →
       s.flag MON_CH_CFG.ROLE 0 ((s.params e).byte 0) = false → (t.chan ((s.params e).byte 0)).swap = true) ∧
      ((s.flag MON_CH_STAT.WAITING 0 ((s.params e).byte 0) = true ∨
        s.flag MON_CH_CFG.EN 0 ((s.params e).byte 0) = false) →
       Answered t e 0) ∧
      (¬ (s.flag MON_CH_STAT.WAITING 0 ((s.params e).byte 0) = true ∨ s.flag MON_CH_CFG.EN 0 ((s.params e).byte 0)
         = false) →
       (t.eyelet e).reply = none ∧
       (t.chan ((s.params e).byte 0)).waiters = (s.chan ((s.params e).byte 0)).waiters ++
         [⟨e, (s.eyelet e).serial, false⟩])) ∧
  (∀ (e : Fin 256) (s : State),
    Runs s e 0x0D 0x06 → ((s.params e).byte 0) ≤ 31 → (s.params e).zeroFrom 1 = true → s.flag MON_CTL.RUN = true →
    s.odOf 0 = none →
    Completes (.monConvert e) s fun t =>
      t.odOf 0 = some ⟨0, ((s.params e).byte 0), some ⟨e, (s.eyelet e).serial, false⟩⟩ ∧ (t.eyelet e).reply = none) ∧
  (∀ (e : Fin 256) (s : State),
    Runs s e 0x0D 0x07 → ((s.params e).byte 0) ≤ 23 → (s.params e).zeroFrom 1 = true →
    s.hasSlot ((s.params e).byte 0) = true → s.flag MON_CTL.RUN = true →
    s.inputInUse ((s.params e).byte 0) = false → s.calBusy = false →
    Completes (.monCalZero e) s fun t =>
      t.mon.cal = some
        { input := ((s.params e).byte 0), target := none, since := s.nextConv, waiter := ⟨e, (s.eyelet e).serial, false⟩ } ∧
      t.flag MON_STAT.CAL_BUSY = true ∧ (t.eyelet e).reply = none) ∧
  (∀ (e : Fin 256) (s : State),
    Runs s e 0x0D 0x08 → ((s.params e).byte 0) ≤ 23 → (s.params e).wordAt 0 < 256 → 1 ≤ (s.params e).wordAt 4 →
    (s.params e).wordAt 4 < 2 ^ 23 → (s.params e).zeroFrom 8 = true → s.hasSlot ((s.params e).byte 0) = true →
    s.flag MON_CTL.RUN = true → s.inputInUse ((s.params e).byte 0) = false → s.calBusy = false →
    Completes (.monCalFs e) s fun t =>
      t.mon.cal = some
        { input := ((s.params e).byte 0), target := some ((s.params e).wordAt 4), since := s.nextConv, waiter := ⟨e, (s.eyelet e).serial, false⟩ } ∧
      t.flag MON_STAT.CAL_BUSY = true ∧ (t.eyelet e).reply = none) ∧
  (∀ (e : Fin 256) (s : State),
    Runs s e 0x0D 0x09 → ((s.params e).byte 0) ≤ 23 → (s.params e).zeroFrom 1 = true →
    s.hasSlot ((s.params e).byte 0) = true → s.inputInUse ((s.params e).byte 0) = false → s.calBusy = false →
    Completes (.monChkDiag e) s fun t =>
      t.mon.diag = some
        { input := ((s.params e).byte 0), since := s.nextConv, waiter := some ⟨e, (s.eyelet e).serial, false⟩ } ∧
      t.flag MON_CHK_CTL.DIAG_EN = true ∧ (t.eyelet e).reply = none) ∧
  (∀ (e : Fin 256) (s : State),
    Runs s e 0x0D 0x0A → (s.params e).half 0 ≤ 4095 → (s.params e).half 2 ≤ 1023 → (s.params e).zeroFrom 4 = true →
    Completes (.monChkSet e) s fun t =>
      Answered t e 0 ∧ t.fld MON_CHK_CTL.CODE = (s.params e).half 0 ∧
      t.fld MON_CHK_TOL.TOL = (s.params e).half 2 ∧ t.mon.codeAt = some s.now) ∧
  (∀ (e : Fin 256) (s : State),
    Runs s e 0x0D 0x0B → ((s.params e).byte 0) ≤ 31 → (s.params e).zeroFrom 1 = true →
    Completes (.monStatus e) s fun t =>
      Answered t e 0 (s.chStat ((s.params e).byte 0)).toNat ((s.wide .MON_CH_VAL 0 ((s.params e).byte 0)).toNat %
        2 ^ 32))

/-- Device state: FASTOFF_N, rails, LPMODE, restart steps and their retries, FAULT and LOW_POWER act as R394–R407
say. FASTOFF_N asserted sets the override and drops the rails that follow it, and released ends the override; a
lost power-good enters FAULT with reason 7 and releases every rail; 1 ms after the entry to FAULT the core
islands go off, once their accepted requests have ended, and every control DAC clamps. LPMODE starts or gives up
the entry to READY; LOW_POWER applies the reset image, opens loops and turns core islands and PLLs off. Restart
steps advance, a missed step is retried once and a second miss of the entry to READY enters FAULT. (R281, R282,
R394, R398, R399, R400, R402, R403, R404, R407) -/
def Obligations.DeviceStateResults : Prop :=
  (∀ (s : State),
    s.flag PWR_STATE.FASTOFF = false → s.pwr.held = false →
    Completes .fastoffAssert s fun t =>
      t.flag PWR_STATE.FASTOFF = true ∧ t.flag PWR_CAUSE.FASTOFF_ON = true ∧ t.flag CDAC_STAT.OVERRIDE = true ∧
      t.cnt .PWR_FASTOFF_CNT = s.cnt .PWR_FASTOFF_CNT + 1 ∧
      (∀ n < 4,
         bitOf (t.fld CDAC_PEN_STAT.PIN) n = (bitOf (s.fld CDAC_PEN_STAT.PIN) n && s.penAllowed && bitOf (s.fld
           CDAC_PEN.PEN) n && !(bitOf (s.fld CDAC_PEN.FASTOFF_OFF) n))) ∧
      Sent s t 0x0104 sevWarn 1) ∧
  (∀ (s : State),
    s.flag PWR_STATE.FASTOFF = true → s.pwr.held = false →
    Completes .fastoffRelease s fun t =>
      t.flag PWR_STATE.FASTOFF = false ∧ t.flag PWR_CAUSE.FASTOFF_OFF = true ∧ t.flag CDAC_STAT.OVERRIDE = false ∧
      t.flag CDAC_CAUSE.OVERRIDE_OFF = true ∧ Sent s t 0x0104 sevWarn 0) ∧
  (∀ (n : Fin 4) (s : State),
    bitOf (s.fld PWR_PG_STAT.SUPERVISED) n = true → s.pwrState ≠ pwrFault →
    Completes (.pgLoss n) s fun t =>
      t.pwrState = pwrFault ∧ t.reg .PWR_FAULT_INFO = BitVec.ofNat 32 (7 + n.val * 256 + 2 ^ 31) ∧
      t.flag PWR_CAUSE.FAULT = true ∧ t.pwr.faultDue = true ∧ bitOf (t.fld PWR_PG_STAT.PG) n = false ∧
      t.flag PWR_CAUSE.PG_LOST = true ∧ t.fld CDAC_PEN_STAT.PIN = 0 ∧ Sent s t 0x0106 sevErr n.val) ∧
  (∀ (s : State) (n : Nat),
    n < 4 → s.penSpaced = true → bitOf (s.fld CDAC_PEN_STAT.PIN) n = true → bitOf s.penTarget n = false →
    (∀ m < 4, n < m → bitOf (s.fld CDAC_PEN_STAT.PIN) m = true → bitOf s.penTarget m = true) →
    Completes .penReleaseStep s fun t =>
      bitOf (t.fld CDAC_PEN_STAT.PIN) n = false ∧
      ∀ m < 4, m ≠ n → bitOf (t.fld CDAC_PEN_STAT.PIN) m = bitOf (s.fld CDAC_PEN_STAT.PIN) m) ∧
  (∀ (s : State),
    s.pwrState = pwrFault → s.pwr.faultDue = true → s.pwr.faultAt + 1000 ≤ s.now →
    Completes .faultIslandOff s fun t =>
      t.pwr.faultDue = false ∧ (∀ n < 32, t.flag CDAC_OUT.CLAMPED 0 n = true ∧ t.fld CDAC_OUT.CODE 0 n = 0) ∧
      (∀ k < 8, s.accepted (lineIsland k) = [] → t.island (lineIsland k) = .powerOff) ∧
      (∀ j < 16, s.accepted (hostIsland j) = [] → t.island (hostIsland j) = .powerOff) ∧
      (∀ r < 64, s.accepted (rackIsland r) = [] → t.island (rackIsland r) = .powerOff) ∧
      ∀ d < 3,
        d ≠ 0 → t.island (islandId d 2) ≠ .on ∧ t.island (islandId d 3) ≠ .on ∧ t.island (islandId d 4) ≠ .on) ∧
  (∀ (high : Bool) (s : State),
    Completes (.lpmodeChange high) s fun t =>
      t.flag PWR_STATE.LPMODE = high) ∧
  (∀ (s : State),
    s.pwrState = pwrLow → s.pwr.swLow = false → s.flag PWR_STATE.LP_REQ = false → s.zonesCool = true →
    Completes (.lpmodeChange false) s fun t =>
      t.flag PWR_STATE.LPMODE = false ∧ t.seqOn 2 0 = true) ∧
  (∀ (s : State),
    s.pwrState = pwrLow → s.pwr.allowHw = true →
    Completes (.lpmodeChange true) s fun t =>
      t.flag PWR_STATE.LPMODE = true ∧ t.seqOn 2 0 = false) ∧
  (∀ (s : State),
    s.modeReady = true → s.lowRequest = true → s.applying = false →
    Completes .lowPowerEntry s fun t =>
      t.pwrState = pwrLow ∧ t.mode.txn = none ∧ t.mode.active.portList = [] ∧
      (∀ l < 48, t.loopMode l = loopOpen) ∧ (∀ n < 32, t.flag CDAC_CFG.EN 0 n = false) ∧
      t.flag PWR_AVS_STAT.ACTIVE = false ∧
      (∀ k < 8, s.accepted (lineIsland k) = [] → t.island (lineIsland k) = .powerOff) ∧
      (∀ j < 16, s.accepted (hostIsland j) = [] → t.island (hostIsland j) = .powerOff) ∧
      (∀ r < 64, s.accepted (rackIsland r) = [] → t.island (rackIsland r) = .powerOff) ∧
      ∀ d < 3, ∀ b < 3, d ≠ 0 → t.locked d b = false) ∧
  (∀ (s : State) (q : Seq),
    s.pwr.seqs.find? (fun q => q.num == 1 && q.obj == 0) = some q → q.num = 1 → q.step = 5 → s.pwr.held = false →
    Completes (.restartStepDone 1 0) s fun t =>
      t.linkState 0 = 2 ∧ t.linkState 1 = 2 ∧ t.seqOn 1 0 = false) ∧
  (∀ (s : State) (q : Seq),
    s.pwr.seqs.find? (fun q => q.num == 2 && q.obj == 0) = some q → q.num = 2 → q.step = 8 → s.linkState 2 = 1 →
    s.pwr.held = false →
    Completes (.restartStepDone 2 0) s fun t =>
      t.linkState 2 = 2 ∧ t.pwrState = pwrReady ∧ t.reg .PWR_AVS_STAT = BitVec.ofNat 32 (8000 + 2 ^ 30) ∧
      t.flag CDAC_OUT.CLAMPED 0 31 = false ∧ t.seqOn 2 0 = false) ∧
  (∀ (n : Fin 16) (s : State) (q : Seq),
    n.val < 4 → s.pwr.seqs.find? (fun q => q.num == 3 && q.obj == n.val) = some q → q.num = 3 →
    bitOf (s.fld CDAC_PEN_STAT.PIN) n = true → s.pwr.held = false →
    Completes (.restartStepDone 3 n) s fun t =>
      bitOf (t.fld PWR_PG_STAT.PG) n = true ∧ bitOf (t.fld PWR_PG_STAT.SUPERVISED) n = true) ∧
  (∀ (n : Fin 16) (s : State) (q : Seq),
    n.val < 8 → s.pwr.seqs.find? (fun q => q.num == 4 && q.obj == n.val) = some q → q.num = 4 → s.pwr.held = false →
    Completes (.restartStepDone 4 n) s fun t =>
      t.locked (dieOfLane n) (lpllBit n) = true) ∧
  (∀ (n : Fin 16) (s : State) (q : Seq),
    n.val < 8 → s.pwr.seqs.find? (fun q => q.num == 5 && q.obj == n.val) = some q → q.num = 5 → q.step = 1 →
    s.pwr.held = false →
    Completes (.restartStepDone 5 n) s fun t =>
      t.flag LRX_STAT.DOZE n = false ∧ t.seqOn 5 n = true) ∧
  (∀ (seq : Fin 9) (obj : Fin 16) (dies : BitVec 3) (s : State) (q : Seq),
    s.pwr.seqs.find? (fun q => q.num == seq.val && q.obj == obj.val) = some q → s.pwr.held = false →
    q.retries = true → s.stepOverdue q = true → retryIslands q dies.toNat ≠ [] → (¬ (q.num = 1 ∧ q.step = 2)) →
    q.retried = false →
    Completes (.restartStepTimeout seq obj dies) s fun t =>
      t.cnt .PWR_RETRY_CNT = saturated (s.cnt .PWR_RETRY_CNT) ∧ t.flag PWR_CAUSE.RETRY = true ∧
      Logged s t ((retryIslands q dies.toNat).map (fun i =>
        ⟨0x0103, sevWarn, q.num * 256 + q.step, i, 0, 0, none⟩)) ∧
      { q with retried := true, since := s.now } ∈ t.pwr.seqs) ∧
  (∀ (seq : Fin 9) (obj : Fin 16) (dies : BitVec 3) (s : State) (q : Seq),
    s.pwr.seqs.find? (fun q => q.num == seq.val && q.obj == obj.val) = some q → s.pwr.held = false →
    q.retries = true → s.stepOverdue q = true → retryIslands q dies.toNat ≠ [] → q.num = 2 → q.retried = true →
    s.pwrState ≠ pwrFault →
    Completes (.restartStepTimeout seq obj dies) s fun t =>
      t.pwrState = pwrFault ∧ t.reg .PWR_FAULT_INFO = BitVec.ofNat 32 (9 + q.step * 256 + 2 ^ 31) ∧
      t.flag PWR_CAUSE.FAULT = true ∧ t.pwr.faultDue = true ∧ t.seqOn 2 0 = false) ∧
  (∀ (k : Fin 8) (s : State),
    s.pwr.seqs.any (fun q => q.num == 5 && q.obj == k.val && decide (q.trigger + 352 ≤ s.now)) = true →
    s.flag LRX_STAT.DOZE k = false → s.lineAm k = false →
    Completes (.lineWakeAmTimeout k) s fun t =>
      t.seqOn 5 k = false)

/-- Wear, voltage scaling, service life and the power commands of class 0x01 act as R416–R419 say. A wear
measurement records baselines first and later the degradation of each measured island; an AVS step moves the code
by at most 410 towards the computed voltage and flags the limit; each minute ages the device and counts powered
time, and Aqique stores both. PWR_STATUS, PWR_WEAR_REPORT and PWR_LIFE_REPORT answer their words; PWR_RESET makes
a reset due 100 ms later; PWR_LOWPWR completes at once or when the state it asks for is reached. (R395, R398,
R416, R417, R418, R419) -/
def Obligations.PowerLifeResults : Prop :=
  (∀ (s : State) (id : BitVec 16) (w w0 : Nat),
    s.aqiqueRuns = true → s.wearDue = true → isIsland id.toNat = true →
    s.life.base.find? (fun b => b.1 == id.toNat) = some (id.toNat, w0) →
    (s.island id.toNat = .on ∨ s.island id.toNat = .doze) →
    Completes (.wearMeasure [(id, w)]) s fun t =>
      t.life.base = s.life.base ∧ t.wearVal id.toNat = wearOf w0 w + 2 ^ 31) ∧
  (∀ (s : State) (id : BitVec 16) (w : Nat),
    s.aqiqueRuns = true → s.wearDue = true → isIsland id.toNat = true → s.life.base = [] →
    Completes (.wearMeasure [(id, w)]) s fun t =>
      t.life.base = [(id.toNat, w)]) ∧
  (∀ (s : State),
    s.modeReady = true → s.flag PWR_AVS_STAT.ACTIVE = true → s.pwr.avsAt + 1000000 ≤ s.now →
    Completes .avsStep s fun t =>
      let v4 := 4 * Config.avsV0.toNat + s.fld PWR_WEAR_WORST.D;
      let v := clampN 7000 8000 (v4 / 4);
      let want := min 16383 ((8000 - v) * 16384 / 1000);
      let now := s.fld PWR_AVS_STAT.CODE;
      let code := if now + 410 < want then now + 410 else if want + 410 < now then now - 410 else want;
      t.fld PWR_AVS_STAT.TARGET = v ∧ t.fld PWR_AVS_STAT.CODE = code ∧ t.fld CDAC_CODE.CODE 0 31 = code ∧
      t.fld CDAC_CH_STAT.BASE 0 31 = code ∧ t.flag PWR_AVS_STAT.LIMIT = decide (32000 < v4) ∧
      (32000 < v4 → t.flag PWR_CAUSE.WEAR_LIMIT = true)) ∧
  (∀ (s : State),
    s.pwr.held = false → s.pwr.minuteAt + 60000000 ≤ s.now →
    Completes .lifeMinute s fun t =>
      t.life.acc = s.life.acc + Config.ageing s.pwr.tempSum s.pwr.tempNum ∧
      t.wide .PWR_ONTIME = BitVec.ofNat 256 (((s.wide .PWR_ONTIME).toNat + 1) % 2 ^ 64) ∧
      t.wide .PWR_LIFE = BitVec.ofNat 256 (t.life.acc / 2 ^ 32 % 2 ^ 64)) ∧
  (∀ (s : State),
    s.aqiqueRuns = true → s.pwr.storeAt + 3600000000 ≤ s.now →
    Completes .lifeStore s fun t =>
      t.life.stored = s.life.acc ∧ t.life.storedOn = (s.wide .PWR_ONTIME).toNat ∧ t.pwr.storeAt = s.now) ∧
  (∀ (e : Fin 256) (s : State),
    Runs s e 0x01 0x01 → (s.params e).zeroFrom 0 = true →
    Completes (.pwrStatus e) s fun t =>
      Answered t e 0 (s.reg .PWR_STATE).toNat (s.reg .PWR_FAULT_INFO).toNat) ∧
  (∀ (e : Fin 256) (s : State),
    Runs s e 0x01 0x02 → ((s.params e).byte 0) = 0xA5 → (s.params e).zeroFrom 1 = true → s.pwr.resetDue = none →
    Completes (.pwrReset e) s fun t =>
      Answered t e 0 ∧ t.pwr.resetDue.map (fun r => (r.source, r.due)) = some (1, some (s.now + 100000))) ∧
  (∀ (e : Fin 256) (s : State),
    Runs s e 0x01 0x03 → ((s.params e).byte 0) = 1 → (s.params e).zeroFrom 1 = true → s.modeReady = true →
    s.inTransition = false →
    Completes (.pwrLowpwr e) s fun t =>
      t.flag PWR_STATE.LP_REQ = true ∧ t.pwr.lowWaiter = some ⟨e, (s.eyelet e).serial, false⟩ ∧
      (t.eyelet e).reply = none) ∧
  (∀ (e : Fin 256) (s : State),
    Runs s e 0x01 0x03 → ((s.params e).byte 0) = 0 → (s.params e).zeroFrom 1 = true → s.pwrState = pwrLow →
    s.pwr.swLow = false → (s.pwr.allowHw = false ∨ s.flag PWR_STATE.LPMODE = false) → s.zonesCool = true →
    s.inTransition = false →
    Completes (.pwrLowpwr e) s fun t =>
      t.flag PWR_STATE.LP_REQ = false ∧ t.seqOn 2 0 = true ∧
      t.pwr.lowWaiter = some ⟨e, (s.eyelet e).serial, false⟩ ∧ (t.eyelet e).reply = none) ∧
  (∀ (e : Fin 256) (s : State),
    Runs s e 0x01 0x03 → ((s.params e).byte 0) = 1 → (s.params e).zeroFrom 1 = true → s.pwrState = pwrLow →
    s.inTransition = false →
    Completes (.pwrLowpwr e) s fun t =>
      t.flag PWR_STATE.LP_REQ = true ∧ Answered t e 0 (t.reg .PWR_STATE).toNat) ∧
  (∀ (e : Fin 256) (s : State),
    Runs s e 0x01 0x04 → (s.params e).zeroFrom 2 = true → isIsland ((s.params e).half 0) = true →
    Completes (.pwrWearReport e) s fun t =>
      Answered t e 0 (s.wearVal ((s.params e).half 0)) (s.reg .PWR_AVS_STAT).toNat) ∧
  (∀ (e : Fin 256) (s : State),
    Runs s e 0x01 0x05 → (s.params e).zeroFrom 0 = true →
    Completes (.pwrLifeReport e) s fun t =>
      Answered t e 0 ((s.wide .PWR_LIFE).toNat / 60 % 2 ^ 32) ((s.wide .PWR_ONTIME).toNat / 60 % 2 ^ 32))

/-- Sensors and zones: every measurement is recorded or breaks the sensor, and the thermal commands complete in
every form as R408–R414 and R420 say. A due measurement records its count and how often it has repeated, and
shows its reading, or 150 °C of a sensor that is or becomes broken: in service, with a count out of band or 64
times the same. A break sets its cause, logs THM_SENSOR_BROKEN and, but in the boot ROM, enters FAULT; the zone
is at least as hot as each of its sensors in service. THM_STATUS answers the zone's words, THM_SET_THRESH writes
thresholds in order or answers 0x0241, THM_MEASURE does one measurement and answers it, and THM_SENSOR_RETIRE
checks format, key, signature, UID and the sensors left, in this order, and retires the sensor; parameters out of
range are refused with 0x0101. The conversion and the signature check are uninterpreted, so each outcome is
stated. (R408, R409, R410, R411, R412, R414, R420) -/
def Obligations.ThermalResults : Prop :=
  (∀ (n : Fin 24) (count : BitVec 20) (s : State),
    s.Shaped → s.pwr.held = false → s.sensorDue n = true →
    Completes (.thmMeasurement n count) s fun t =>
      let k := s.sensors.getD n {};
      let run := if k.run ≠ 0 ∧ k.count = count.toNat then min 64 (k.run + 1) else 1;
      let broke := !(s.retired n) && !(s.flag THM_TS.BROKEN 0 n) && (!(sensorInBand n count.toNat) || run == 64);
      let temp :=
        if s.flag THM_TS.BROKEN 0 n = true ∨ broke = true then
          0x4B0
        else
          unsigned 12 (sensorReading n count.toNat);
      t.fld THM_TS.TEMP 0 n = temp ∧ t.flag THM_TS.VALID 0 n = true ∧ t.flag THM_TS.RETIRED 0 n = s.retired n ∧
      t.flag THM_TS.BROKEN 0 n = (s.flag THM_TS.BROKEN 0 n || broke) ∧
      t.flag THM_TS.FAST 0 n = decide (8 * ((s.fld THM_ZONE_CFG.THROT 0 (zoneOf n) : Int) - 5) ≤ signed 12 temp) ∧
      (t.sensors.getD n {}).count = count.toNat ∧ (t.sensors.getD n {}).run = run ∧
      (broke = true →
       t.flag (THM_CAUSE.SENSOR (zoneOf n)) = true ∧ Sent s t 0x0204 sevErr n count.toNat ∧
       (s.inRom = false → t.pwrState = pwrFault)) ∧
      (t.sensors.getD n {}).at_ = some s.now) ∧
  (∀ (n : Fin 24) (count : BitVec 20) (s : State),
    s.Shaped → s.pwr.held = false → s.sensorDue n = true →
    Completes (.thmMeasurement n count) s fun t =>
      (∀ m ∈ zoneSensors (zoneOf n),
         s.retired m = false → t.flag THM_TS.VALID 0 m = true →
         t.sfld THM_TS.TEMP 0 m ≤ t.sfld THM_ZONE_STAT.TEMP 0 (zoneOf n))) ∧
  (∀ (n : Fin 24) (count : BitVec 20) (s : State),
    (s.pwr.held = true ∨ s.sensorDue n = false) →
    Completes (.thmMeasurement n count) s fun t =>
      t = s) ∧
  (∀ (e : Fin 256) (s : State),
    Runs s e 0x02 0x01 → ((s.params e).byte 0) ≤ 2 → (s.params e).zeroFrom 1 = true →
    Completes (.thmStatus e) s fun t =>
      Answered t e 0 (s.reg .THM_ZONE_STAT 0 ((s.params e).byte 0)).toNat (s.reg .THM_ZONE_CFG 0 ((s.params
        e).byte 0)).toNat ∧
      t.regs = s.regs) ∧
  (∀ (e : Fin 256) (s : State),
    Runs s e 0x02 0x01 → (2 < ((s.params e).byte 0) ∨ (s.params e).zeroFrom 1 = false) →
    Completes (.thmStatus e) s fun t =>
      Answered t e 0x0101 ∧ t.regs = s.regs) ∧
  (∀ (e : Fin 256) (s : State),
    Runs s e 0x02 0x02 → ((s.params e).byte 0) ≤ 2 → 60 ≤ (s.params e).byte 1 → (s.params e).byte 1 ≤ 115 →
    (s.params e).byte 1 + 5 ≤ (s.params e).byte 2 → (s.params e).byte 2 ≤ 120 →
    (s.params e).byte 2 + 5 ≤ (s.params e).byte 3 → (s.params e).byte 3 ≤ 125 → (s.params e).byte 4 ≤ 3 →
    (s.params e).zeroFrom 5 = true →
    (((s.params e).byte 0) = 2 ∨ ((s.params e).byte 1 ≤ 100 ∧ bitOf ((s.params e).byte 4) 0 = true) ∨
     s.mode.active.fullVnle (((s.params e).byte 0) + 1) = false) →
    Completes (.thmSetThresh e) s fun t =>
      Answered t e 0 ∧ t.fld THM_ZONE_CFG.WARN 0 ((s.params e).byte 0) = (s.params e).byte 1 ∧
      t.fld THM_ZONE_CFG.THROT 0 ((s.params e).byte 0) = (s.params e).byte 2 ∧
      t.fld THM_ZONE_CFG.SHUT 0 ((s.params e).byte 0) = (s.params e).byte 3 ∧
      t.flag THM_ZONE_CFG.WARN_EN 0 ((s.params e).byte 0) = bitOf ((s.params e).byte 4) 0 ∧
      t.flag THM_ZONE_CFG.THROT_EN 0 ((s.params e).byte 0) = bitOf ((s.params e).byte 4) 1) ∧
  (∀ (e : Fin 256) (s : State),
    Runs s e 0x02 0x02 → ((s.params e).byte 0) ≤ 2 → 60 ≤ (s.params e).byte 1 → (s.params e).byte 1 ≤ 115 →
    (s.params e).byte 1 + 5 ≤ (s.params e).byte 2 → (s.params e).byte 2 ≤ 120 →
    (s.params e).byte 2 + 5 ≤ (s.params e).byte 3 → (s.params e).byte 3 ≤ 125 → (s.params e).byte 4 ≤ 3 →
    (s.params e).zeroFrom 5 = true →
    (¬ (((s.params e).byte 0) = 2 ∨ ((s.params e).byte 1 ≤ 100 ∧ bitOf ((s.params e).byte 4) 0 = true) ∨
       s.mode.active.fullVnle (((s.params e).byte 0) + 1) = false)) →
    Completes (.thmSetThresh e) s fun t =>
      Answered t e 0x0241 ∧ t.regs = s.regs) ∧
  (∀ (e : Fin 256) (s : State),
    Runs s e 0x02 0x02 →
    (¬ (((s.params e).byte 0) ≤ 2 ∧ 60 ≤ (s.params e).byte 1 ∧ (s.params e).byte 1 ≤ 115 ∧ (s.params e).byte 1 + 5
       ≤ (s.params e).byte 2 ∧ (s.params e).byte 2 ≤ 120 ∧ (s.params e).byte 2 + 5 ≤ (s.params e).byte 3 ∧
       (s.params e).byte 3 ≤ 125 ∧ (s.params e).byte 4 ≤ 3 ∧ (s.params e).zeroFrom 5 = true)) →
    Completes (.thmSetThresh e) s fun t =>
      Answered t e 0x0101 ∧ t.regs = s.regs) ∧
  (∀ (e : Fin 256) (count : BitVec 20) (s : State),
    Runs s e 0x02 0x03 → s.Shaped → ((s.params e).byte 0) ≤ 23 → (s.params e).zeroFrom 1 = true →
    Completes (.thmMeasure e count) s fun t =>
      let n := ((s.params e).byte 0);
      let k := s.sensors.getD n {};
      let run := if k.run ≠ 0 ∧ k.count = count.toNat then min 64 (k.run + 1) else 1;
      let broke := !(s.retired n) && !(s.flag THM_TS.BROKEN 0 n) && (!(sensorInBand n count.toNat) || run == 64);
      let temp :=
        if s.flag THM_TS.BROKEN 0 n = true ∨ broke = true then
          0x4B0
        else
          unsigned 12 (sensorReading n count.toNat);
      t.fld THM_TS.TEMP 0 n = temp ∧ t.flag THM_TS.VALID 0 n = true ∧ t.flag THM_TS.RETIRED 0 n = s.retired n ∧
      t.flag THM_TS.BROKEN 0 n = (s.flag THM_TS.BROKEN 0 n || broke) ∧
      t.flag THM_TS.FAST 0 n = decide (8 * ((s.fld THM_ZONE_CFG.THROT 0 (zoneOf n) : Int) - 5) ≤ signed 12 temp) ∧
      (t.sensors.getD n {}).count = count.toNat ∧ (t.sensors.getD n {}).run = run ∧
      (broke = true →
       t.flag (THM_CAUSE.SENSOR (zoneOf n)) = true ∧ Sent s t 0x0204 sevErr n count.toNat ∧
       (s.inRom = false → t.pwrState = pwrFault)) ∧
      (t.sensors.getD n {}).at_ = (s.sensors.getD n {}).at_) ∧
  (∀ (e : Fin 256) (count : BitVec 20) (s : State),
    Runs s e 0x02 0x03 → s.Shaped → ((s.params e).byte 0) ≤ 23 → (s.params e).zeroFrom 1 = true →
    Completes (.thmMeasure e count) s fun t =>
      (∀ m ∈ zoneSensors (zoneOf ((s.params e).byte 0)),
         s.retired m = false → t.flag THM_TS.VALID 0 m = true →
         t.sfld THM_TS.TEMP 0 m ≤ t.sfld THM_ZONE_STAT.TEMP 0 (zoneOf ((s.params e).byte 0))) ∧
      (t.pwrState = s.pwrState → s.pwr.lowWaiter = none →
       Answered t e 0 (t.reg .THM_TS 0 ((s.params e).byte 0)).toNat)) ∧
  (∀ (e : Fin 256) (count : BitVec 20) (s : State),
    Runs s e 0x02 0x03 → (23 < ((s.params e).byte 0) ∨ (s.params e).zeroFrom 1 = false) →
    Completes (.thmMeasure e count) s fun t =>
      Answered t e 0x0101 ∧ t.regs = s.regs) ∧
  (∀ (e : Fin 256) (s : State) (g : Stage) (b : List Nat) (n : Nat),
    Runs s e 0x02 0x04 → (s.params e).zeroFrom 0 = true → s.stage = some g → g.use = .token →
    ((s.begun e).closeStage.readBytes g.addr 112).1 = some b → n = fieldOf b 6 1 →
    (fieldOf b 0 4 = 0x54525354 ∧ fieldOf b 4 2 = 1 ∧ fieldOf b 6 1 ≤ 23) →
    (fieldOf b 7 1 ≠ 0 ∨ s.sec.key0Revoked = false) →
    Completes (.thmSensorRetire e) s fun t =>
      let good := skogonSigned (fieldOf b 7 1) (b.take 0x10) (b.drop 0x10) = true;
      let mine := fieldOf b 8 8 = Config.uid.toNat;
      let enough :=
        zoneLeast (zoneOf n) ≤ ((zoneSensors (zoneOf n)).filter (fun m => !(s.retired m) && m != n)).length;
      t.stage = none ∧ (¬ good → Answered t e 0x0502 ∧ t.retired n = s.retired n) ∧
      (good → ¬ mine → Answered t e 0x0504 ∧ t.retired n = s.retired n) ∧
      (good → mine → ¬ enough → Answered t e 0x0242 ∧ t.retired n = s.retired n) ∧
      (good → mine → enough →
       Answered t e 0 ∧ t.retired n = true ∧ t.flag THM_TS.RETIRED 0 n = true ∧
       Sent s t 0x0205 sevInfo n (fieldOf b 7 1))) ∧
  (∀ (e : Fin 256) (s : State) (g : Stage) (b : List Nat),
    Runs s e 0x02 0x04 → (s.params e).zeroFrom 0 = true → s.stage = some g → g.use = .token →
    ((s.begun e).closeStage.readBytes g.addr 112).1 = some b →
    (¬ (fieldOf b 0 4 = 0x54525354 ∧ fieldOf b 4 2 = 1 ∧ fieldOf b 6 1 ≤ 23) ∨
     (fieldOf b 7 1 = 0 ∧ s.sec.key0Revoked = true)) →
    Completes (.thmSensorRetire e) s fun t =>
      t.stage = none ∧ (∀ m < 24, t.retired m = s.retired m) ∧
      Answered t e (if (fieldOf b 0 4 = 0x54525354 ∧ fieldOf b 4 2 = 1 ∧ fieldOf b 6 1 ≤ 23) then 0x0506 else
        0x0113)) ∧
  (∀ (e : Fin 256) (s : State),
    Runs s e 0x02 0x04 → (s.params e).zeroFrom 0 = true → (∀ g, s.stage = some g → g.use ≠ .token) →
    Completes (.thmSensorRetire e) s fun t =>
      Answered t e (if s.stage.isSome = true then 0x0312 else 0x0113) ∧ t.regs = s.regs) ∧
  (∀ (e : Fin 256) (s : State),
    Runs s e 0x02 0x04 → (s.params e).zeroFrom 0 = false →
    Completes (.thmSensorRetire e) s fun t =>
      Answered t e 0x0101 ∧ t.regs = s.regs)

/-- Resets, power failure, boot selection, recovery and the start of Aqique act as R339, R341, R373, R392, R393 and
R395 say. Each reset leaves the security store, program sets, spares, ring, retired sensors and stored life,
clears the rest, and records its kind; a pin reset, a software reset and the boot watchdog also keep the
emergency area. PFAIL_N is reported and abandons an update, and its release completes an abandoned store. The
boot ROM starts the ACTIVE or PENDING image that its checks accept, or enters recovery; GO writes slot A;
Aqique's start leads to LOW_POWER. Image signatures are an uninterpreted check. (R313, R336, R339, R341, R373,
R392, R393, R395, R396) -/
def Obligations.ResetAndBootResults : Prop :=
  (∀ (s : State),
    Completes .supplyLoss s fun t =>
      t.pwrState = 0 ∧ t.pwr.held = true ∧ t.pwr.supplyLow = true ∧ t.sec = s.sec ∧ t.psets = s.psets ∧
      t.ctl.remapped = s.ctl.remapped ∧ t.evr.ring = s.evr.ring ∧ t.evr.place = s.evr.place ∧
      t.reg .THM_RETIRED = s.reg .THM_RETIRED ∧ t.life.stored = s.life.stored ∧ t.mode = {} ∧ t.mbx = {} ∧
      t.stage = none ∧ t.events = [] ∧ t.evr.emg = [] ∧ t.boot.fails = 0 ∧ t.flag SEC_STAT.LOCKOUT = false ∧
      t.reg .PWR_RESET_INFO = BitVec.ofNat 32 (1 + 256 * 0)) ∧
  (∀ (s : State),
    s.pwr.supplyLow = true → s.pwr.resetLow = false → s.flag PWR_STATE.FASTOFF = false →
    s.flag PWR_STATE.PFAIL = false →
    Completes .powerOnResetRelease s fun t =>
      t.pwr.supplyLow = false ∧ t.pwr.held = false ∧ t.pwrState = pwrBoot ∧ t.now = 0 ∧ t.evr.clock = 0) ∧
  (∀ (s : State),
    s.pwr.resetLow = false → s.pwr.supplyLow = false →
    Completes .resetNAssert s fun t =>
      t.pwr.resetLow = true ∧ t.pwr.held = true ∧ t.sec = s.sec ∧ t.psets = s.psets ∧
      t.ctl.remapped = s.ctl.remapped ∧ t.evr.ring = s.evr.ring ∧ t.evr.place = s.evr.place ∧
      t.reg .THM_RETIRED = s.reg .THM_RETIRED ∧ t.life.stored = s.life.stored ∧ t.mode = {} ∧ t.mbx = {} ∧
      t.stage = none ∧ t.events = [] ∧ t.evr.emg = s.evr.emg ∧ t.boot.fails = s.boot.fails ∧
      t.flag SEC_STAT.LOCKOUT = s.flag SEC_STAT.LOCKOUT ∧ t.reg .PWR_RESET_INFO = BitVec.ofNat 32 (2 + 256 * 0)) ∧
  (∀ (s : State),
    s.pwr.resetLow = true → s.pwr.supplyLow = false → s.flag PWR_STATE.FASTOFF = false →
    s.flag PWR_STATE.PFAIL = false →
    Completes .resetNRelease s fun t =>
      t.pwr.resetLow = false ∧ t.pwr.held = false ∧ t.pwrState = pwrBoot ∧
      t.reg .PWR_RESET_INFO = s.reg .PWR_RESET_INFO) ∧
  (∀ (s : State) (r : ResetDue) (at_ : Nat),
    s.pwr.resetDue = some r → r.due = some at_ → at_ ≤ s.now → s.pwr.held = false →
    s.flag PWR_STATE.FASTOFF = false → s.flag PWR_STATE.PFAIL = false →
    Completes .softwareReset s fun t =>
      t.pwr.resetDue = none ∧ t.pwrState = pwrBoot ∧ t.sec = s.sec ∧ t.psets = s.psets ∧
      t.reg .THM_RETIRED = s.reg .THM_RETIRED ∧ t.life.stored = s.life.stored ∧ t.mode = {} ∧ t.mbx = {} ∧
      t.stage = none ∧ t.events = [] ∧
      (s.evrRuns = false →
       t.sec = s.sec ∧ t.psets = s.psets ∧ t.ctl.remapped = s.ctl.remapped ∧ t.evr.ring = s.evr.ring ∧
       t.evr.place = s.evr.place ∧ t.reg .THM_RETIRED = s.reg .THM_RETIRED ∧ t.life.stored = s.life.stored ∧
       t.evr.emg = s.evr.emg) ∧
      t.reg .PWR_RESET_INFO = BitVec.ofNat 32 (3 + 256 * r.source)) ∧
  (∀ (s : State),
    s.pwr.held = false → s.pwr.boot = .started → s.boot.startedAt + watchdogTime ≤ s.now →
    s.flag PWR_STATE.FASTOFF = false → s.flag PWR_STATE.PFAIL = false →
    Completes .bootWatchdog s fun t =>
      t.pwr.boot = .rom ∧ t.pwrState = pwrBoot ∧ t.sec = s.sec ∧ t.psets = s.psets ∧
      t.ctl.remapped = s.ctl.remapped ∧ t.evr.ring = s.evr.ring ∧ t.evr.place = s.evr.place ∧
      t.reg .THM_RETIRED = s.reg .THM_RETIRED ∧ t.life.stored = s.life.stored ∧ t.mode = {} ∧ t.mbx = {} ∧
      t.stage = none ∧ t.events = [] ∧ t.evr.emg = s.evr.emg ∧
      t.reg .PWR_RESET_INFO = BitVec.ofNat 32 (4 + 256 * 0)) ∧
  (∀ (s : State),
    s.flag PWR_STATE.PFAIL = false → s.pwr.held = false →
    Completes .pfailAssert s fun t =>
      t.flag PWR_STATE.PFAIL = true ∧ t.flag PWR_CAUSE.PFAIL = true ∧ t.boot.update = none ∧
      (s.boot.update.isSome = true → t.stage = none) ∧ Logged s t [⟨0x0105, sevWarn, 1, 0, 0, 0, none⟩]) ∧
  (∀ (s : State),
    s.flag PWR_STATE.PFAIL = true → s.pwr.held = false → s.cal.abandoned = none →
    Completes .pfailRelease s fun t =>
      t.flag PWR_STATE.PFAIL = false ∧ t.cal = s.cal ∧ Logged s t [⟨0x0105, sevWarn, 0, 0, 0, 0, none⟩]) ∧
  (∀ (s : State) (a : Abandoned),
    s.flag PWR_STATE.PFAIL = true → s.pwr.held = false → s.cal.abandoned = some a → a.waiter.aqique = false →
    (s.eyelet a.waiter.eyelet).st = .running → (s.eyelet a.waiter.eyelet).serial = a.waiter.serial →
    (s.eyelet a.waiter.eyelet).reply = none →
    Completes .pfailRelease s fun t =>
      t.flag PWR_STATE.PFAIL = false ∧ t.cal.abandoned = none ∧ t.cal.reported = a.bank :: s.cal.reported ∧
      (t.eyelet a.waiter.eyelet).reply = some ⟨0x0430, 0, 0⟩ ∧
      Logged s t [⟨0x0105, sevWarn, 0, 0, 0, 0, none⟩, ⟨0x1106, sevWarn, a.bank, a.seq, 2, 0, none⟩]) ∧
  (∀ (s : State),
    s.pwr.held = false → s.pwrState = pwrBoot → s.pwr.boot = .rom → s.seqOn 1 0 = false → s.sec.pending = none →
    Completes .bootSelect s fun t =>
      t.fld SEC_STAT.COUNTER = s.sec.counter % 256 ∧
      (∀ i,
         (s.refreshSec.checkImage (fwAddr s.sec.active)).1 = .ok i →
         t.pwr.boot = .started ∧ t.fld SEC_STAT.SLOT = s.sec.active % 2 ∧ t.flag SEC_STAT.TRIAL = false ∧
         t.fld SEC_STAT.RUN_SVN = i.svn % 256) ∧
      (∀ r,
         (s.refreshSec.checkImage (fwAddr s.sec.active)).1 = .error r →
         t.flag SEC_CAUSE.IMAGE_INVALID = true ∧
         (t.pwr.boot = .started ∨
          (t.pwr.boot = .recovery ∧ t.flag SEC_STAT.RECOVERY = true ∧ t.flag SEC_CAUSE.RECOVERY = true)))) ∧
  (∀ (s : State) (p : Nat),
    s.pwr.held = false → s.pwrState = pwrBoot → s.pwr.boot = .rom → s.seqOn 1 0 = false → s.sec.pending = some p →
    s.sec.tried = false →
    Completes .bootSelect s fun t =>
      t.sec.tried = true ∧ t.sec.pending = some p ∧
      (∀ i,
         (({ s.refreshSec with sec := { s.refreshSec.sec with tried := true } } : State).checkImage (fwAddr p)).1
           = .ok i →
         t.pwr.boot = .started ∧ t.fld SEC_STAT.SLOT = p % 2 ∧ t.flag SEC_STAT.TRIAL = true)) ∧
  (∀ (s : State) (p : Nat),
    s.pwr.held = false → s.pwrState = pwrBoot → s.pwr.boot = .rom → s.seqOn 1 0 = false → s.sec.pending = some p →
    s.sec.tried = true →
    Completes .bootSelect s fun t =>
      t.sec.pending = none ∧ t.flag SEC_CAUSE.FW_REVERTED = true) ∧
  (∀ (src : Master) (data : W32) (fail : Bool) (s : State),
    Writes s src 0x4090044 → s.flag SEC_STAT.RECOVERY = true → getBits data 0 1 = 1 →
    Completes (.recoveryGo src data fail) s fun t =>
      Accepted t src ∧
      (∀ r, (s.checkImage 0x1000000).1 = .error r → t.fld SEC_STAT.RECOVERY_ERR = r ∧ t.pwr.boot = s.pwr.boot) ∧
      (∀ i,
         (s.checkImage 0x1000000).1 = .ok i → i.bytes.length = s.fld SEC_RECOVERY_LEN.LEN →
         (fail = false →
          t.flag SEC_STAT.RECOVERY = false ∧ t.fld SEC_STAT.RECOVERY_ERR = 0 ∧ t.sec.active = 0 ∧
          t.sec.pending = none ∧ t.pwr.boot = .rom) ∧
         (fail = true → t.fld SEC_STAT.RECOVERY_ERR = 5 ∧ t.flag SEC_STAT.RECOVERY = true))) ∧
  (∀ (pc : W32) (s : State),
    s.pwr.held = false → s.cobblerStopped = false → (s.pwr.boot = .started ∨ s.pwr.boot = .ready) →
    s.pwrState ≠ pwrFault →
    Completes (.lockstepMismatch pc) s fun t =>
      t.pwrState = pwrFault ∧ t.reg .PWR_FAULT_INFO = BitVec.ofNat 32 (4 + 2 ^ 31) ∧ t.cobblerStopped = true) ∧
  (∀ (s : State),
    s.pwr.held = false → s.pwr.boot = .started → s.cobblerStopped = false →
    Completes .aqiqueReady s fun t =>
      t.pwr.boot = .ready ∧ t.flag MBX_STAT.READY = true ∧ t.flag MBX_CAUSE.READY = true ∧ t.pwr.swLow = false ∧
      t.pwr.allowHw = true ∧ t.boot.notes = [] ∧ t.flag HIF_STAT.CMIS_READY = true ∧
      (s.pwrState = pwrBoot → t.pwrState = pwrLow) ∧ (∀ d < 3, t.fld MEM_SCRUB_CTL.EN d = 0xFF))

/-- Firmware update, certificates, debug unlock and the calibration store act as R340–R349 and R370–R376 say. An
update opens a staging region and invalidates the spare slot, a chunk's words reach MRAM, its end marks the slot
VALID or answers what its checks refuse; activation makes it PENDING, a commit advances the counter. A
certificate registers a key, a token unlocks debug or counts a failure, each by an uninterpreted signature check
whose outcomes are both stated. A store write completes with its COMMIT word last and the new SEQ, or is
abandoned under PFAIL_N. (R340, R342, R343, R344, R347, R348, R349, R370, R372, R373, R376) -/
def Obligations.SecurityAndStoreResults : Prop :=
  (∀ (e : Fin 256) (s : State),
    Runs s e 0x0F 0x01 → (s.params e).wordAt 0 = 0 → (s.params e).zeroFrom 8 = true →
    (s.params e).wordAt 4 % 8 = 0 → 128 ≤ (s.params e).wordAt 4 → (s.params e).wordAt 4 ≤ 1048672 →
    s.flag SEC_STAT.TRIAL = false → s.boot.update = none → s.fld SEC_STAT.SLOT ≠ s.spareSlot → s.stage = none →
    s.sec.active ≤ 1 → s.sec.slots.length = 2 →
    Completes (.fwUpdateBegin e) s fun t =>
      ∃ a,
        Answered t e 0 a (64 + s.spareSlot * 2 ^ 16) ∧ t.stage = some ⟨.firmware, a, 65536⟩ ∧
        t.boot.update = some ((s.params e).wordAt 4) ∧ (t.fwSlot s.spareSlot).valid = false ∧
        t.sec.pending = none ∧ t.sec.active = s.sec.active) ∧
  (∀ (e : Fin 256) (s : State) (size : Nat) (g : Stage) (ws : List W64),
    Runs s e 0x0F 0x02 → s.boot.update = some size → s.stage = some g → (s.params e).wordAt 0 = 0 →
    (s.params e).zeroFrom 12 = true → (s.params e).wordAt 4 % 8 = 0 → (s.params e).wordAt 8 % 8 = 0 →
    (s.params e).wordAt 8 ≤ 65536 → (s.params e).wordAt 4 + (s.params e).wordAt 8 ≤ size →
    ((s.begun e).readWords ((List.range ((s.params e).wordAt 8 / 8)).map (fun i => g.addr + 8 * i))).1 = some ws →
    s.sec.active ≤ 1 → size ≤ 1048672 →
    Completes (.fwUpdateChunk e (none)) s fun t =>
      Answered t e 0 ∧
      ∀ i < (s.params e).wordAt 8 / 8,
        t.word ((fwAddr s.spareSlot) + (s.params e).wordAt 4 + 8 * i) = protect (ws.getD i 0)) ∧
  (∀ (e : Fin 256) (s : State),
    Runs s e 0x0F 0x03 → (s.params e).zeroFrom 0 = true → s.boot.update.isSome = true → s.sec.active ≤ 1 →
    s.sec.slots.length = 2 →
    Completes (.fwUpdateEnd e) s fun t =>
      (∀ r,
         ((s.begun e).checkImage (fwAddr s.spareSlot)).1 = .error r →
         Answered t e (endCode r) ∧ (r = 4 → t.flag SEC_CAUSE.AUTH_FAIL = true)) ∧
      (∀ i,
         ((s.begun e).checkImage (fwAddr s.spareSlot)).1 = .ok i →
         Answered t e 0 i.version i.svn ∧ t.fwSlot s.spareSlot = ⟨true, i.version, i.svn⟩ ∧ t.boot.update = none ∧
         t.stage = none)) ∧
  (∀ (e : Fin 256) (s : State),
    Runs s e 0x0F 0x04 → ((s.params e).byte 0) ≤ 1 → (s.params e).zeroFrom 1 = true →
    s.flag SEC_STAT.TRIAL = false → (s.fwSlot s.spareSlot).valid = true →
    Completes (.fwActivate e) s fun t =>
      Answered t e 0 ∧ t.sec.pending = some s.spareSlot ∧ t.sec.tried = false ∧
      (((s.params e).byte 0) = 1 → s.pwr.resetDue = none →
       t.pwr.resetDue = some { source := 3, due := none, serial := (s.eyelet e).serial }) ∧
      (((s.params e).byte 0) = 0 → t.pwr.resetDue = s.pwr.resetDue)) ∧
  (∀ (e : Fin 256) (s : State),
    Runs s e 0x0F 0x05 → (s.params e).zeroFrom 0 = true → s.flag SEC_STAT.TRIAL = true →
    Completes (.fwCommit e) s fun t =>
      let i := s.fld SEC_STAT.SLOT;
      let c := max s.sec.counter (s.fwSlot i).svn;
      Answered t e 0 c ∧ t.sec.active = i ∧ t.sec.pending = none ∧ t.sec.counter = c ∧
      t.flag SEC_STAT.TRIAL = false ∧ Logged s t [⟨0x0F04, sevInfo, i, (s.fwSlot i).version, c, 0, none⟩]) ∧
  (∀ (e : Fin 256) (s : State),
    Runs s e 0x0F 0x06 → (s.params e).zeroFrom 0 = true →
    Completes (.fwStatus e) s fun t =>
      Answered t e 0 (s.reg .SEC_STAT).toNat ((s.reg .SEC_IMG_A).toNat / 2 ^ 16 + (s.reg .SEC_IMG_B).toNat / 2 ^
        16 * 2 ^ 16)) ∧
  (∀ (e : Fin 256) (s : State),
    Runs s e 0x0F 0x07 → (s.params e).zeroFrom 0 = true → s.stage = none →
    Completes (.secStageOpen e) s fun t =>
      ∃ a, Answered t e 0 a ∧ t.stage = some ⟨.token, a, 4096⟩ ∧ 0x1000000 ≤ a ∧ a + 4096 ≤ 0x1200000) ∧
  (∀ (e : Fin 256) (s : State) (g : Stage) (b : List Nat),
    Runs s e 0x0F 0x08 → (s.params e).zeroFrom 0 = true → s.stage = some g → g.use = .token →
    ((s.begun e).closeStage.readBytes g.addr 216).1 = some b → fieldOf b 0 4 = 0x54524543 → fieldOf b 4 2 = 1 →
    fieldOf b 6 1 ≤ 3 → fieldOf b 7 1 = 1 → s.keyOf (fieldOf b 6 1) = none → fieldOf b 0xC 1 ≠ 0 →
    fieldOf b 0x10 8 = 0 →
    Completes (.secCertApply e) s fun t =>
      let good := skogonSigned (fieldOf b 0xC 1) (b.take 0x78) (b.drop 0x78) = true;
      t.stage = none ∧
      (good →
       Answered t e 0 ∧ t.keyOf (fieldOf b 6 1) = some ⟨fieldOf b 8 4, (b.drop 0x18).take 96⟩ ∧
       Sent s t 0x0F05 sevInfo (fieldOf b 6 1) 1 (fieldOf b 8 4)) ∧
      (¬ good → Answered t e 0x0502 ∧ t.sec.keys = s.sec.keys ∧ t.flag SEC_CAUSE.AUTH_FAIL = true)) ∧
  (∀ (e : Fin 256) (s : State),
    Runs s e 0x0F 0x09 → (s.params e).zeroFrom 0 = true → s.flag SEC_STAT.LOCKOUT = false →
    Completes (.debugChallenge e) s fun t =>
      let n := (t.wide .SEC_DBG_NONCE).toNat;
      n < 2 ^ 128 ∧ Answered t e 0 (n % 2 ^ 32) (n / 2 ^ 32 % 2 ^ 32) ∧ t.boot.nonce = true) ∧
  (∀ (e : Fin 256) (s : State) (g : Stage) (b : List Nat),
    Runs s e 0x0F 0x0A → s.flag SEC_STAT.LOCKOUT = false → (s.params e).zeroFrom 0 = true → s.stage = some g →
    g.use = .token → ((s.begun e).closeStage.readBytes g.addr 128).1 = some b → fieldOf b 0 4 = 0x4E4B5444 →
    fieldOf b 4 2 = 1 → (fieldOf b 6 1 = 1 ∨ fieldOf b 6 1 = 2) → fieldOf b 7 1 ≠ 0 →
    Completes (.debugUnlock e) s fun t =>
      let good :=
        skogonSigned (fieldOf b 7 1) (b.take 0x20) (b.drop 0x20) = true ∧ fieldOf b 8 8 = Config.uid.toNat ∧
        s.boot.nonce = true ∧ fieldOf b 0x10 16 = (s.wide .SEC_DBG_NONCE).toNat % 2 ^ 128;
      t.stage = none ∧ t.boot.nonce = false ∧
      (good → Answered t e 0 ∧ t.fld SEC_STAT.DEBUG_LEVEL = fieldOf b 6 1 ∧ t.flag SEC_CAUSE.DEBUG_UNLOCKED = true) ∧
      (¬ good →
       t.fld SEC_STAT.DEBUG_LEVEL = s.fld SEC_STAT.DEBUG_LEVEL ∧ t.boot.fails = s.boot.fails + 1 ∧
       t.flag SEC_CAUSE.AUTH_FAIL = true ∧ (4 ≤ s.boot.fails + 1 → t.flag SEC_STAT.LOCKOUT = true))) ∧
  (∀ (e : Fin 256) (s : State),
    Runs s e 0x0F 0x0B → (s.params e).zeroFrom 0 = true →
    Completes (.debugLock e) s fun t =>
      Answered t e 0 ∧ t.fld SEC_STAT.DEBUG_LEVEL = 0) ∧
  (∀ (e : Fin 256) (s : State),
    Runs s e 0x0F 0x0C → ((s.params e).byte 0) ≤ 3 → (s.params e).zeroFrom 1 = true →
    Completes (.keyList e) s fun t =>
      Answered t e 0 (s.reg .SEC_KEY_STAT).toNat (((s.keyOf ((s.params e).byte 0)).map (fun k => k.maker)).getD 0)) ∧
  (∀ (e : Fin 256) (s : State),
    Runs s e 0x11 0x07 → (s.params e).zeroFrom 0 = true →
    Completes (.calStoreInfo e) s fun t =>
      let valid := b2n s.cal.valid0 * 2 + b2n s.cal.valid1 * 4;
      let len := (s.cal.entries.flatMap CalEntry.bytes).length;
      (s.cal.loaded = none → Answered t e 0 0 valid) ∧
      ∀ bank seq, s.cal.loaded = some (bank, seq) → Answered t e 0 seq (bank + valid + len / 8 * 256)) ∧
  (∀ (e : Fin 256) (s : State),
    Runs s e 0x11 0x08 → (s.params e).zeroFrom 0 = true → s.stage = none →
    Completes (.calStageOpen e) s fun t =>
      ∃ a, Answered t e 0 a ∧ t.stage = some ⟨.calStore, a, 65536⟩ ∧ 0x1000000 ≤ a ∧ a + 65536 ≤ 0x1200000) ∧
  (∀ (e : Fin 256) (s : State) (es : List CalEntry) (len : Nat),
    Runs s e 0x11 0x09 → (s.params e).wordAt 0 % 2 = 0 → (s.params e).wordAt 0 < 256 → (s.params e).wordAt 4 = 0 →
    (s.params e).zeroFrom 8 = true → s.cal.abandoned = none → s.flag PWR_STATE.PFAIL = false →
    es = s.captured ((s.params e).wordAt 0) → len = (es.flatMap CalEntry.bytes).length → len ≤ 524224 →
    Completes (.calStoreWrite e .written) s fun t =>
      let bank := match s.cal.loaded with | some (b, _) => 1 - b | none => 0;
      let seq := nextSeq s.cal.loaded;
      Answered t e 0 seq len ∧ t.cal.entries = es ∧ t.cal.loaded = some (bank, seq) ∧ t.calValid bank = true ∧
      t.word (calBase bank + 0x38) = protect (calCommit seq) ∧ Sent s t 0x1105 sevInfo bank seq len) ∧
  (∀ (e : Fin 256) (fate : StoreFate) (s : State),
    Runs s e 0x11 0x09 → (s.params e).wordAt 0 % 2 = 0 → (s.params e).wordAt 0 < 256 → (s.params e).wordAt 4 = 0 →
    (s.params e).zeroFrom 8 = true → s.cal.abandoned = none → s.flag PWR_STATE.PFAIL = true →
    ((s.captured ((s.params e).wordAt 0)).flatMap CalEntry.bytes).length ≤ 524224 →
    Completes (.calStoreWrite e fate) s fun t =>
      (t.eyelet e).reply = none ∧ t.cal.loaded = s.cal.loaded ∧ t.cal.entries = s.cal.entries ∧
      ∃ bank, t.cal.abandoned = some ⟨bank, nextSeq s.cal.loaded, ⟨e, (s.eyelet e).serial, false⟩⟩)

/-- The event recorder: arrival, staging, flushing, emergency copies, clock, freeze, window and its commands act as
R379–R388 say. An event enters the FIFO and, while staging takes it, gets the next SEQ and four protected words,
or is dropped and counted when the FIFO is full. An Error, 16 records, 100 ms or a thaw start a flush; each ring
write moves the oldest record to the next slot, or marks a failing segment bad. Emergency records get a new SEQ;
the clock aligns within 1 us; the window latches by SEQ; EVR_FREEZE, EVR_THAW, EVR_STATUS and EVR_MARK answer as
stated, and a mark unstaged after 1 s completes. (R379, R380, R381, R382, R383, R384, R385, R386, R388) -/
def Obligations.RecorderResults : Prop :=
  (∀ (s : State) (ev : Event) (rest : List Event),
    s.evrRuns = true → s.flag EVR_STAT.DEGRADED = false → s.events = ev :: rest → s.evr.fifo.length < 64 →
    s.stageRoom = false →
    Completes .eventRecordArrival s fun t =>
      t.events = rest ∧ t.evr.fifo = s.evr.fifo ++ [⟨ev, s.evrTime, s.evr.rel⟩]) ∧
  (∀ (s : State) (ev : Event) (rest : List Event),
    s.evrRuns = true → s.flag EVR_STAT.DEGRADED = false → s.events = ev :: rest → s.evr.fifo = [] →
    s.evr.drops = none → s.flag EVR_STAT.STG_FAILED = false → s.evr.staged.length < 512 → ev.waiter = none →
    Completes .eventRecordArrival s fun t =>
      t.events = rest ∧ t.evr.fifo = [] ∧ t.evr.staged = s.evr.staged ++ [⟨s.evr.next, ev.sev, ev.code, s.now⟩] ∧
      t.evr.next = (s.evr.next + 1) % 2 ^ 32 ∧
      (∀ w < 4,
         t.word (stageWord s.evr.next w) = protect ((recordWords ⟨ev, s.evrTime, s.evr.rel⟩ 0 s.evr.next).getD w
           0)) ∧
      (t.fld EVR_FIFO_STAT.ENTRIES = 0) ∧
      ((16 ≤ s.evr.staged.length + 1 ∨ ev.sev = sevErr) → s.flag EVR_STAT.FROZEN = false →
       s.flag EVR_STAT.RING_FAILED = false → t.evr.flushing = true)) ∧
  (∀ (s : State) (ev : Event) (rest : List Event),
    s.evrRuns = true → s.flag EVR_STAT.DEGRADED = false → s.events = ev :: rest → 64 ≤ s.evr.fifo.length →
    ev.waiter = none →
    Completes .eventRecordArrival s fun t =>
      t.events = rest ∧ t.evr.fifo = s.evr.fifo ∧ t.flag EVR_CAUSE.DROPPED = true ∧
      t.cnt .EVR_DROP_CNT 0 (ev.code / 256) = saturated (s.cnt .EVR_DROP_CNT 0 (ev.code / 256))) ∧
  (∀ (s : State) (r : Staged) (rest : List Staged),
    s.evrRuns = true → s.flag EVR_STAT.FROZEN = false → s.flag EVR_STAT.RING_FAILED = false →
    s.evr.staged = r :: rest → r.at_ + 100000 ≤ s.now →
    Completes .flushAgeTimer s fun t =>
      t.evr.flushing = true ∧ t.evr.staged = s.evr.staged) ∧
  (∀ (s : State) (r : Staged) (rest : List Staged) (ws : List W64),
    s.evrRuns = true → (s.evr.written = none ∨ ∃ at_, s.evr.written = some at_ ∧ at_ + 20 ≤ s.now) →
    s.flag EVR_STAT.FROZEN = false → s.flag EVR_STAT.RING_FAILED = false → s.flag EVR_STAT.DEGRADED = false →
    s.evr.staged = r :: rest → r ∉ rest → s.evr.flushing = true → (s.readRecord (stageWord r.seq)).1 = some ws →
    s.evr.fifo = [] →
    Completes (.ringRecordWrite false) s fun t =>
      t.evr.staged = rest ∧ (∃ older, t.evr.ring = older ++ [(s.evr.place, r.seq)]) ∧ t.evr.written = some s.now ∧
      (∀ w < 4, t.word (ringWord s.evr.place w) = protect (ws.getD w 0)) ∧
      (s.evr.place % 512 ≠ 511 → t.evr.place = s.evr.place + 1) ∧ t.reg .EVR_FLUSHED_SEQ = BitVec.ofNat 32 r.seq ∧
      (rest = [] → t.evr.flushing = false)) ∧
  (∀ (s : State) (r : Staged) (rest : List Staged) (ws : List W64),
    s.evrRuns = true → (s.evr.written = none ∨ ∃ at_, s.evr.written = some at_ ∧ at_ + 20 ≤ s.now) →
    s.flag EVR_STAT.FROZEN = false → s.flag EVR_STAT.RING_FAILED = false → s.flag EVR_STAT.DEGRADED = false →
    s.evr.staged = r :: rest → s.evr.flushing = true → (s.readRecord (stageWord r.seq)).1 = some ws →
    s.evr.fifo = [] → s.evr.place < 32768 →
    Completes (.ringRecordWrite true) s fun t =>
      bitOf (t.wide .EVR_BAD_SEG).toNat (s.evr.place / 512) = true ∧ t.flag EVR_CAUSE.SEG_BAD = true ∧
      r ∈ t.evr.staged) ∧
  (∀ (s : State) (n : Nat),
    s.evrRuns = true → s.aqiqueRuns = true → s.flag EVR_STAT.DEGRADED = false → s.evr.emg = [n] → n < 4 →
    s.stageRoom = true → s.evr.staged.length < 512 →
    Completes .emergencyCopy s fun t =>
      t.evr.emg = [] ∧ bitOf (t.fld EVR_EMG_STAT.COPIED) n = true ∧ t.fld EVR_EMG_STAT.USED = 0 ∧
      t.evr.next = (s.evr.next + 1) % 2 ^ 32 ∧
      (t.evr.staged.map (·.seq)) = s.evr.staged.map (·.seq) ++ [s.evr.next]) ∧
  (∀ (s : State),
    s.aqiqueRuns = true → s.evr.aligned = none → s.timeRuns s.primary = true →
    (s.todState s.primary = todLocked ∨ s.todState s.primary = todHoldover) →
    Completes .recorderClockAlign s fun t =>
      t.evr.rel = false ∧ t.evr.aligned = some s.now ∧
      (let x : Int := t.evr.clock + 1000 * (s.now : Int) - ((s.clock s.primary).acc / nsUnit : Nat);
       -1000 ≤ x ∧ x ≤ 1000)) ∧
  (∀ (s : State),
    s.flag EVR_STAT.FROZEN = true → s.evr.limit ≠ 0 → s.evr.frozenAt + 1000000 * s.evr.limit ≤ s.now →
    Completes .freezeLimit s fun t =>
      t.flag EVR_STAT.FROZEN = false ∧ t.evr.limit = 0 ∧ Logged s t [⟨0x1206, sevInfo, 2, 0, 0, 0, none⟩] ∧
      (s.flag EVR_STAT.RING_FAILED = false → s.evr.staged ≠ [] → t.evr.flushing = true)) ∧
  (∀ (src : Master) (s : State),
    Issues s src 0x4070040 → s.flag EVR_STAT.DEGRADED = false → s.evrSeqs = [] →
    Completes (.evrWinLatch src) s fun t =>
      Accepted t src ∧ t.fld EVR_WIN_STAT.RESULT (srcId src) = 2 ∧
      t.reg .EVR_CURSOR (srcId src) = s.reg .EVR_CURSOR (srcId src)) ∧
  (∀ (src : Master) (s : State) (r : Staged) (ws : List W64),
    Issues s src 0x4070040 → s.flag EVR_STAT.DEGRADED = false → s.evr.staged = [r] → s.evr.ring = [] →
    r.seq = (s.reg .EVR_CURSOR (srcId src)).toNat → (s.readRecord (stageWord r.seq)).1 = some ws →
    Completes (.evrWinLatch src) s fun t =>
      Accepted t src ∧ t.fld EVR_WIN_STAT.RESULT (srcId src) = 0 ∧ (t.reply src).lo = (ws.getD 0 0).setWidth 32 ∧
      (s.flag EVR_WIN_CTL.AUTO_ADV (srcId src) = true →
       t.reg .EVR_CURSOR (srcId src) = s.reg .EVR_CURSOR (srcId src) + 1)) ∧
  (∀ (e : Fin 256) (s : State),
    Runs s e 0x12 0x01 → (s.params e).wordAt 0 = 0 → (s.params e).half 4 ≤ 3600 → (s.params e).zeroFrom 6 = true →
    Completes (.evrFreeze e) s fun t =>
      Answered t e 0 (s.reg .EVR_TAIL_SEQ).toNat (s.reg .EVR_HEAD_SEQ).toNat ∧ t.flag EVR_STAT.FROZEN = true ∧
      t.evr.limit = (s.params e).half 4 ∧ t.evr.frozenAt = s.now ∧ t.evr.flushing = false ∧
      Logged s t [⟨0x1205, sevInfo, (s.params e).half 4, 0, 0, 0, none⟩]) ∧
  (∀ (e : Fin 256) (s : State),
    Runs s e 0x12 0x02 → (s.params e).zeroFrom 0 = true →
    Completes (.evrThaw e) s fun t =>
      Answered t e 0 ∧ t.flag EVR_STAT.FROZEN = false ∧
      (s.flag EVR_STAT.FROZEN = true →
       Logged s t [⟨0x1206, sevInfo, 1, 0, 0, 0, none⟩] ∧
       (s.flag EVR_STAT.RING_FAILED = false → s.evr.staged ≠ [] → t.evr.flushing = true)) ∧
      (s.flag EVR_STAT.FROZEN = false → t.events = s.events)) ∧
  (∀ (e : Fin 256) (s : State),
    Runs s e 0x12 0x03 → (s.params e).zeroFrom 0 = true →
    Completes (.evrStatus e) s fun t =>
      Answered t e 0 (s.reg .EVR_STAT).toNat (s.reg .EVR_HEAD_SEQ).toNat) ∧
  (∀ (e : Fin 256) (s : State),
    Runs s e 0x12 0x04 → (s.params e).wordAt 0 = 0 → (s.params e).zeroFrom 20 = true →
    Completes (.evrMark e) s fun t =>
      (t.eyelet e).reply = none ∧
      Logged s t
        [⟨0x1207, sevInfo, (s.params e).wordAt 4, (s.params e).wordAt 8, (s.params e).wordAt 12, (s.params e).wordAt 16, some ⟨e, (s.eyelet e).serial, false⟩⟩]) ∧
  (∀ (e : Fin 256) (s : State),
    (s.eyelet e).st = .running → (s.eyelet e).started = true → (s.eyelet e).reply = none →
    descByte (s.eyelet e).desc 2 = 0x12 → descByte (s.eyelet e).desc 3 = 0x04 →
    (s.eyelet e).accepted + 1000000 ≤ s.now →
    Completes (.evrMarkTimeout e) s fun t =>
      Answered t e 0 0 2)

/-- A step runs the command at the front of the queue, and idles on an empty queue. When the queue of waiting
commands is not empty, a step is exec of its first command on the state with the rest of the queue. On an empty
queue the step is the block's microsecond of idling (the model's choice, log entries 1 and 2). (R289,
opcode_table.json) -/
def Obligations.StepRunsFront : Prop :=
  (∀ (c : Instr) (rest : List Instr) (s : State),
    s.pending = c :: rest → Machine.step s = Machine.exec c { s with pending := rest }) ∧
  ∀ s : State, s.pending = [] → Machine.step s = .next s.idle

/-- State.reset meets the invariant and holds the values the rules give for reset. State.reset meets the invariant:
canonical maps and the units of the block. In it no port is configured and every line lane has program set 0x01
(R50), every control loop is OPEN (R267), the thresholds of every zone are 100, 110 and 120 °C (R412), every
monitoring tap is 0 (R307), every counter is 0, and no command waits. As a device leaves Skogon (R445), slot A is
valid and ACTIVE with nothing PENDING, slot B is invalid, the anti-rollback counter is the SVN of slot A's image,
no key is stored and key 0 is not revoked, and no program set, retired sensor, lockout or wear baseline is
recorded. (R50, R267, R307, R412, R445) -/
def Obligations.ResetState : Prop :=
  State.reset.Inv ∧ State.reset.pending = [] ∧ State.reset.mode.active.portList = [] ∧
  (∀ k < 8, (State.reset.mode.active.lane k).progSet = 0x01) ∧
  (∀ l < 48, State.reset.loopMode l = loopOpen) ∧
  (∀ z < 3, State.reset.fld THM_ZONE_CFG.WARN 0 z = 100 ∧ State.reset.fld THM_ZONE_CFG.THROT 0 z = 110 ∧
    State.reset.fld THM_ZONE_CFG.SHUT 0 z = 120) ∧
  (∀ i, State.reset.reg .MON_FIRA 0 i = 0 ∧ State.reset.reg .MON_FIRB 0 i = 0) ∧
  (∀ r u i, State.reset.cnt r u i = 0) ∧
  State.reset.sec.active = 0 ∧ State.reset.sec.pending = none ∧ (State.reset.fwSlot 0).valid = true ∧
  (State.reset.fwSlot 1).valid = false ∧ State.reset.sec.counter = (State.reset.fwSlot 0).svn ∧ State.reset.sec.keys = [] ∧
  State.reset.sec.key0Revoked = false ∧ State.reset.psets = [] ∧ State.reset.reg .THM_RETIRED = 0 ∧
  State.reset.flag SEC_STAT.LOCKOUT = false ∧ State.reset.life.base = []

/-- Every step keeps the invariant: canonical maps, canonical memory and the units of the block. From every state
that meets the invariant, whether or not a run reaches it: if a step answers a next state, that state meets it
too. The invariant says that registers, counters, wide quantities and islands are listed in order and never at
their reset value, that memory lists each word once in rising order, and that every list of units has the length
the spec gives the block. (R4, R15, R110, R261, R408) -/
def Obligations.StepKeepsInvariant : Prop :=
  ∀ s t : State, s.Inv → Machine.step s = .next t → t.Inv

/-- Every command answers a next state and leaves the queue to the step. For every command and every state, exec
answers a next state, and the queue of waiting commands is as it was: no command stops the block and none is
refused. (R25, R114, R333) -/
def Obligations.EveryCommandAnswers : Prop :=
  ∀ (c : Instr) (s : State), ∃ t, Machine.exec c s = .next t ∧ t.pending = s.pending

/-- After any reset the line transmitters are squelched for NO_PORT with coefficients, levels and trims at reset.
Whenever a command resets the block (loss of supply, RESET_N, a software reset that is due, the boot watchdog),
every line transmitter is squelched with reason NO_PORT, its shadow and active coefficients and levels have their
reset values, its trims and target trims are 0, no pattern is generated or checked, and no commit ramp runs.
(R97, R395) -/
def Obligations.TransmitterAfterReset : Prop :=
  ∀ (c : Instr) (s t : State), TakesReset c s → Machine.exec c s = .next t → ∀ k < 8,
    t.fld LTX_SQ_STAT.REASON k = 1 ∧ t.flag LTX_STAT.ACTIVE k = false ∧
    (∀ n < 7, t.reg .LTX_FIR_COEF k n = (if n = 2 then 0x400 else 0) ∧ t.reg .LTX_FIR_ACT k n = (if n = 2 then 0x400 else 0)) ∧
    (∀ n < 64, t.sfld LTX_LUT.LEVEL k n = [-96, -32, 32, 96].getD (n / 4 % 4) 0 * 16 ∧
      t.reg .LTX_LUT_ACT k n = t.reg .LTX_LUT k n) ∧
    (∀ n < 64, t.reg .LTX_DAC_TRIM k n = 0 ∧ t.reg .LTX_DAC_TTRIM k n = 0) ∧
    t.fld LTX_CFG.PATTERN k = 0 ∧ t.fld LTX_CFG.CHECK k = 0 ∧ t.flag LTX_STAT.RAMP k = false ∧ (t.line k).ramp = none

/-- FAULT is left only through a reset. In FAULT no step of the start-up, of the entry to READY or of an optics
rail is under way, and every command keeps that so. From a state in FAULT with that property, every command that
is not a reset or its release leaves the device in FAULT. (R401, R400) -/
def Obligations.FaultEndsOnlyInReset : Prop :=
  (∀ (c : Instr) (s t : State), Machine.exec c s = .next t → FaultQuiet s → FaultQuiet t) ∧
  ∀ (c : Instr) (s t : State), Machine.exec c s = .next t → isReset c = false → FaultQuiet s → s.pwrState = pwrFault →
    t.pwrState = pwrFault

/-- MBX_STAT.READY sets only when Aqique has booted and clears only at a reset. Every command that is no reset
keeps READY once it is set. READY sets only by the row AQIQUE_READY, for a started image and so never in
recovery; MBX_CAUSE.READY is then set too, every word of the eyelet and ring memory has been written, and both
rings' pointers are at their reset values. (R336) -/
def Obligations.ReadySetByAqiqueOnly : Prop :=
  (∀ (c : Instr) (s t : State), Machine.exec c s = .next t → isReset c = false → s.flag MBX_STAT.READY = true →
    t.flag MBX_STAT.READY = true) ∧
  ∀ (c : Instr) (s t : State), Machine.exec c s = .next t → s.flag MBX_STAT.READY = false → t.flag MBX_STAT.READY = true →
    c = .aqiqueReady ∧ s.pwr.boot = .started ∧ s.pwr.boot ≠ .recovery ∧ t.pwr.boot = .ready ∧ t.flag MBX_CAUSE.READY = true ∧
    (∀ a, 0x4022000 ≤ a → a < 0x4026000 → t.wordWritten a = true) ∧
    ∀ ring < 2, t.reg .MBX_CR_PROD_PTR 0 ring = Reg.reset .MBX_CR_PROD_PTR ring ∧
      t.reg .MBX_CR_CONS_PTR 0 ring = Reg.reset .MBX_CR_CONS_PTR ring

/-- The anti-rollback counter never decreases, only FW_COMMIT advances it, and no older image passes the checks. No
command lowers the counter, and a command that changes it is an FW_COMMIT, which leaves the larger of the counter
and the SVN of the running slot. An image that passes the checks of the boot ROM and of FW_UPDATE_END has an SVN
no lower than the counter, and FW_UPDATE_END answers a lower one with 0x0503. (R340) -/
def Obligations.RollbackCounterNeverDecreases : Prop :=
  (∀ (c : Instr) (s t : State), Machine.exec c s = .next t → s.sec.counter ≤ t.sec.counter ∧
    (t.sec.counter ≠ s.sec.counter →
      (∃ e, c = .fwCommit e) ∧ t.sec.counter = max s.sec.counter (s.fwSlot (s.fld SEC_STAT.SLOT)).svn)) ∧
  (∀ (s : State) (a : Nat) (i : ImageInfo), (s.checkImage a).1 = .ok i → s.sec.counter ≤ i.svn) ∧ endCode 3 = 0x0503

/-- Failed unlocks are counted and logged, the fourth locks out, and only a power-up ends the lockout. A
DEBUG_UNLOCK with a token that can be read either succeeds or adds one to SEC_AUTH_FAIL_CNT and to the failures
since power-up and logs SEC_AUTH_FAIL; with four failures LOCKOUT sets. With LOCKOUT set, DEBUG_CHALLENGE and
DEBUG_UNLOCK answer 0x0505. No command but the loss of supply clears LOCKOUT or forgets a failure: RESET_N, a
software reset and the boot watchdog keep both. (R348) -/
def Obligations.LockoutUntilPowerUp : Prop :=
  (∀ (e : Fin 256) (s : State) (b : List Nat), Runs s e 0x0F 0x0A → (s.params e).zeroFrom 0 = true →
    s.flag SEC_STAT.LOCKOUT = false → ((s.begun e).takeToken 128).1 = .ok b →
    Completes (.debugUnlock e) s fun t => Answered t e 0 ∨
      (t.boot.fails = s.boot.fails + 1 ∧ t.cnt .SEC_AUTH_FAIL_CNT = saturated (s.cnt .SEC_AUTH_FAIL_CNT) ∧
        (∃ code, Sent s t 0x0F07 sevWarn 0x0A code) ∧ (4 ≤ s.boot.fails + 1 → t.flag SEC_STAT.LOCKOUT = true))) ∧
  (∀ (e : Fin 256) (s : State), (s.params e).zeroFrom 0 = true → s.flag SEC_STAT.LOCKOUT = true →
    (Runs s e 0x0F 0x09 → Completes (.debugChallenge e) s fun t => Answered t e 0x0505) ∧
    (Runs s e 0x0F 0x0A → Completes (.debugUnlock e) s fun t => Answered t e 0x0505)) ∧
  ∀ (c : Instr) (s t : State), Machine.exec c s = .next t → c ≠ .supplyLoss →
    (s.flag SEC_STAT.LOCKOUT = true → t.flag SEC_STAT.LOCKOUT = true) ∧ s.boot.fails ≤ t.boot.fails

/-- An access to a block that is off completes with OFF, reads 0xB10C_0FF0 and changes nothing of the block. For
every master that can issue the request without waiting, and every address of a block whose island has no clock,
no power or is in transition: a read of a permitted width answers OFF with 0xB10C_0FF0, and a permitted 32-bit
write answers OFF. Memory, and every register and part of the state outside the counters, the error captures, the
event on its way and the master's reply, is as it was. (R12) -/
def Obligations.OffIslandAnswersOff : Prop :=
  let quiet (s t : State) : Prop := (∀ p, p ∉ [Part.events, .offLogged, .rate, .replies] → p.same s t) ∧
    SameRegs [.CNT_VAL, .CNT_BANK_OVF, .CNT_CAUSE, .CNT_DIE_CAUSE, .WELT_ERR_ADDR, .WELT_ERR_INFO, .HIF_SPI_STAT, .HIF_SPI_ERR_ADDR,
        .HIF_CAUSE] s t
  ∀ (src : Master) (addr : W32) (s : State) (b : Block) (off : Nat), blockAt addr.toNat = some (b, off) →
    s.island b.island ≠ .on → s.island b.island ≠ .doze → s.canIssue src = true → s.mustWait src addr.toNat = false →
    (∀ wide, widthOk src (readOp wide) addr.toNat = true → Completes (.rsLowWordRead src addr wide) s fun t =>
      (t.reply src).resp = .off ∧ (t.reply src).lo = 0xB10C0FF0 ∧ quiet s t) ∧
    (∀ data, addr.toNat % 4 = 0 → (isHost src = true → s.hostPerm src addr.toNat ≠ .no) →
      (src = .jtag → s.fld SEC_STAT.DEBUG_LEVEL = 2) → Completes (.registerWrite src addr data) s fun t =>
      (t.reply src).resp = .off ∧ quiet s t)

/-- A master with a pending on-demand request has a further one rejected and flagged. A write to MON_OD_REQ by a
master whose request is pending is ignored: nothing is queued, its BUSY_REJ bit and MON_CAUSE.OD_REJECT set.
MON_CONVERT uses the cobbler's request: it completes with 0x030F while that request is pending, and otherwise
leaves the cobbler's request pending. (R293) -/
def Obligations.BusyOnDemandRequestRejected : Prop :=
  (∀ (src : Master) (data : W32) (s : State) (q : OdReq), Writes s src 0x4060020 → srcId src ≤ 3 →
    s.odOf (srcId src) = some q → Completes (.odRequest src data) s fun t =>
      t.mon.od = s.mon.od ∧ t.mon.cur = s.mon.cur ∧ t.bit .MON_OD_STAT (8 + srcId src) = true ∧ t.flag MON_CAUSE.OD_REJECT = true) ∧
  ∀ (e : Fin 256) (s : State), Runs s e 0x0D 0x06 → (s.params e).byte 0 ≤ 31 → (s.params e).zeroFrom 1 = true →
    s.flag MON_CTL.RUN = true →
    (∀ q, s.odOf 0 = some q → Completes (.monConvert e) s fun t => Answered t e 0x030F ∧ t.mon.od = s.mon.od) ∧
    (s.odOf 0 = none → Completes (.monConvert e) s fun t =>
      t.odOf 0 = some ⟨0, (s.params e).byte 0, some ⟨e, (s.eyelet e).serial, false⟩⟩)

/-- SEQ goes up by 1 modulo 2^32 for each record that enters staging, dropped events get none, readers order within
2^31. A record that enters staging (or, with staging failed, the ring itself) gets the next SEQ, and the next one
is that plus 1 modulo 2^32. An event that the recorder drops takes no SEQ. The window latches a SEQ by its
distance from the tail modulo 2^32: at 2^31 or more it is older than the tail (1), beyond the head newer (2), and
otherwise the record is read (0) or uncorrectable (3). (R380) -/
def Obligations.RecordsAreNumberedInOrder : Prop :=
  (∀ (s : State) (e : FifoEntry) (extra : Nat), (s.stageRecord e extra).evr.next = (s.evr.next + 1) % 2 ^ 32 ∧
    ∃ r, (s.stageRecord e extra).evr.staged.getLast? = some r ∧ r.seq = s.evr.next) ∧
  (∀ (s : State) (e : FifoEntry) (rest : List FifoEntry), s.evr.fifo = e :: rest →
    (s.flushFifo false).evr.next = (s.evr.next + 1) % 2 ^ 32 ∧
    ∃ p, (s.flushFifo false).evr.ring.getLast? = some p ∧ p.2 = s.evr.next) ∧
  (∀ (s : State) (e : Event), (s.evrDrop e).evr.next = s.evr.next ∧ (s.evrDrop e).evrSeqs = s.evrSeqs) ∧
  ∀ (s : State) (seq tail : Nat) (more : List Nat), s.flag EVR_STAT.DEGRADED = false → s.evrSeqs = tail :: more →
    let d := (seq + 2 ^ 32 - tail) % 2 ^ 32
    let h := (more.getLastD tail + 2 ^ 32 - tail) % 2 ^ 32
    (2 ^ 31 ≤ d → (s.evrLatch seq).1 = 1) ∧ (d < 2 ^ 31 → h < d → (s.evrLatch seq).1 = 2) ∧
    (d < 2 ^ 31 → d ≤ h → (s.evrLatch seq).1 = 0 ∨ (s.evrLatch seq).1 = 3)

/-- An error-statistics counter saturates and sets SAT once; a performance counter wraps with its overflow bit and
event. Counting n in an error-statistics counter leaves it at the sum or at all-ones; the count that brings it
there sets its block's SAT cause, and counts at all-ones change nothing. Counting n in a performance counter adds
modulo 2^48; a wrap of a bank's counter sets its overflow bit, any wrap sets OVF of the die's CNT cause, and
CNT_OVERFLOW is logged unless that island logged one within the last second. (R135, R142) -/
def Obligations.CountersSaturateOrWrap : Prop :=
  (∀ (s : State) (r : Reg) (u i n : Nat) (f : Fld) (fu : Nat), satField r u = some (f, fu) → 0 < n →
    (s.inc r u i n).cnt r u i = saturated (s.cnt r u i) n ∧
    ((s.cnt r u i).toNat = cntMax → s.inc r u i n = s) ∧
    ((s.cnt r u i).toNat < cntMax → cntMax ≤ (s.cnt r u i).toNat + n → (s.inc r u i n).flag f fu = true)) ∧
  ∀ (s : State) (r : Reg) (u i n : Nat), satField r u = none →
    (s.inc r u i n).cnt r u i = s.cnt r u i + BitVec.ofNat 48 n ∧
    ∀ b a, cntMax < (s.cnt r u i).toNat + n → counterHome ⟨r, u, i⟩ = some (b, a) →
      (r = .CNT_VAL → i < 32 → (s.inc r u i n).bit .CNT_BANK_OVF i u = true) ∧
      (b.die = 0 → (s.inc r u i n).flag CNT_CAUSE.OVF = true) ∧
      (b.die ≠ 0 → (s.inc r u i n).flag CNT_DIE_CAUSE.OVF b.die = true) ∧
      (s.rateOk 0x1301 b.island = true → Logged s (s.inc r u i n) [⟨0x1301, sevInfo, b.island, a, 0, 0, none⟩])

/-- A request on the bus changes its target, the reply and the bus counters, and nothing else. For each row that
makes a register or memory access, where its conditions for completing hold: the queue, every part of the state
but those named (the reply, the event log, a snapshot, a queue read from, ...), every register but the one
written or cleared, those that count bus traffic and those named, and every word of memory but the one written
are as they were; a register write changes its register at its own unit and index only; of a write that times out
before its target is known to have accepted it, whose own effect is open, the frame says nothing (log entry 20).
(R7, R8, R9, R27, R136, R354, R356) -/
def Obligations.BusCommandFrames : Prop :=
  (∀ (src : Master) (rack : Fin 64) (data : W32) (s : State),
    Writes s src (Block.rack rack).base →
    Completes (.rackCtlHalt src rack data) s fun t =>
      BusKeeps [.freeIx, .racks, .lasts] [.RACK_CTL, .RACK_STAT] (fun _ => False) s t) ∧
  (∀ (src : Master) (addr data : W32) (s : State) (b : Block) (off : Nat) (k : RKey) (n : Nat) (sh : Bool),
    Writes s src addr.toNat → addr.toNat % 4 = 0 → blockAt addr.toNat = some (b, off) → memKind b off = none →
    busReg b off = some (k, n, sh) → k.reg.words = 1 → ownEffect k.reg = false → countsBus k.reg = false →
    Completes (.registerWrite src addr data) s fun t =>
      BusKeeps [] [k.reg] (fun _ => False) s t ∧
      (∀ u i,
         ¬ (u = masterUnit src k ∧ i = k.i) →
         t.reg k.reg u i = s.reg k.reg u i ∧ t.cnt k.reg u i = s.cnt k.reg u i ∧
         t.wide k.reg u i = s.wide k.reg u i)) ∧
  (∀ (src : Master) (addr : W32) (s : State) (b : Block) (off : Nat) (k : RKey) (n : Nat) (sh : Bool),
    Issues s src addr.toNat → addr.toNat % 4 = 0 → blockAt addr.toNat = some (b, off) → memKind b off = none →
    busReg b off = some (k, n, sh) → k.reg.words = 1 → k.reg.access.rc ≠ 0 →
    Completes (.rcRead src addr) s fun t =>
      BusKeeps [] [k.reg] (fun _ => False) s t ∧
      (∀ u i,
         ¬ (u = k.u ∧ i = k.i) →
         t.reg k.reg u i = s.reg k.reg u i ∧ t.cnt k.reg u i = s.cnt k.reg u i ∧
         t.wide k.reg u i = s.wide k.reg u i)) ∧
  (∀ (src : Master) (addr : W32) (wide : Bool) (s : State) (b : Block) (off : Nat) (k : RKey) (n : Nat) (sh :
    Bool),
    Issues s src addr.toNat →
    (if wide then addr.toNat % 8 = 0 ∧ (src = .cobbler ∨ src = .dma) else addr.toNat % 4 = 0) →
    blockAt addr.toNat = some (b, off) → memKind b off = none → busReg b off = some (k, n, sh) → n = 0 →
    k.reg.words ≠ 1 → isQueue k.reg = false → k.reg ≠ .EVR_WIN → k.reg ≠ .CNT_VAL →
    Completes (.rsLowWordRead src addr wide) s fun t =>
      BusKeeps [.snaps] [] (fun _ => False) s t) ∧
  (∀ (src : Master) (addr : W32) (wide : Bool) (s : State) (b : Block) (off : Nat) (k : RKey) (n : Nat) (sh :
    Bool),
    Issues s src addr.toNat →
    (if wide then addr.toNat % 8 = 0 ∧ (src = .cobbler ∨ src = .dma) else addr.toNat % 4 = 0) →
    blockAt addr.toNat = some (b, off) → memKind b off = none → busReg b off = some (k, n, sh) → n = 0 →
    isQueue k.reg = true →
    Completes (.queueRead src addr wide) s fun t =>
      BusKeeps [.snaps, .racks, .time] [.RACK_TAG_STAT, .TIME_TSQ_STAT] (fun _ => False) s t) ∧
  (∀ (upset : W72) (s : State) (src : Master) (addr : W32) (d : W64),
    Issues s src addr.toNat → addr.toNat % 4 = 0 → 0x1000000 ≤ addr.toNat → addr.toNat < 0x1200000 →
    classify ((s.hit (cellOf addr.toNat) upset).word (cellOf addr.toNat)) = .clean d →
    Completes (.memoryRead (.bus src .word32) (.mapped addr) upset) s fun t =>
      BusKeeps [.mem, .ctl] [] (fun a => a = cellOf addr.toNat) s t) ∧
  (∀ (upset : W72) (s : State) (src : Master) (addr : W32) (d : W64),
    Issues s src addr.toNat → addr.toNat % 4 = 0 → 0x1000000 ≤ addr.toNat → addr.toNat < 0x1200000 →
    (s.hit (cellOf addr.toNat) upset).word (cellOf addr.toNat) = poisoned d →
    Completes (.memoryRead (.bus src .word32) (.mapped addr) upset) s fun t =>
      BusKeeps [.mem, .ctl, .freeIx] [.MEM_UNCORR_CNT, .MEM_ERR_LOC, .MEM_ERR_INFO, .MEM_CAUSE, .HIF_SPI_STAT,
        .HIF_SPI_ERR_ADDR, .HIF_CAUSE] (fun a => a = cellOf addr.toNat) s t) ∧
  (∀ (src : Master) (addr : W32) (wide : Bool) (data : W64) (be : BitVec 8) (s : State) (old : W64),
    Writes s src addr.toNat →
    (if wide then addr.toNat % 8 = 0 ∧ (src = .cobbler ∨ src = .dma) ∧ be.toNat ≠ 0xFF else addr.toNat % 4 = 0) →
    0x1000000 ≤ addr.toNat → addr.toNat < 0x1200000 → classify (s.word (addr.toNat / 8 * 8)) = .clean old →
    Completes (.memoryPartialWrite src addr wide data be) s fun t =>
      BusKeeps [.mem, .ctl] [] (fun a => a = addr.toNat / 8 * 8) s t) ∧
  (∀ (src : Master) (addr : W32) (wide : Bool) (data : W64) (be : BitVec 8) (s : State),
    Writes s src addr.toNat →
    (if wide then addr.toNat % 8 = 0 ∧ (src = .cobbler ∨ src = .dma) ∧ be.toNat ≠ 0xFF else addr.toNat % 4 = 0) →
    0x1000000 ≤ addr.toNat → addr.toNat < 0x1200000 →
    (classify (s.word (addr.toNat / 8 * 8)) = .poison ∨ classify (s.word (addr.toNat / 8 * 8)) = .uncorrectable) →
    Completes (.memoryPartialWrite src addr wide data be) s fun t =>
      BusKeeps [.mem, .ctl, .freeIx] [.MEM_UNCORR_CNT, .MEM_ERR_LOC, .MEM_ERR_INFO, .MEM_CAUSE, .HIF_SPI_STAT,
        .HIF_SPI_ERR_ADDR, .HIF_CAUSE] (fun a => a = addr.toNat / 8 * 8) s t) ∧
  (∀ (src : Master) (addr : W32) (data : W64) (s : State),
    Writes s src addr.toNat → addr.toNat % 8 = 0 → (src = .cobbler ∨ src = .dma) → 0x1000000 ≤ addr.toNat →
    addr.toNat < 0x1200000 →
    Completes (.memoryFullWrite src addr data) s fun t =>
      BusKeeps [.mem, .ctl] [] (fun a => a = addr.toNat) s t) ∧
  (∀ (src : Master) (die : Fin 2) (word : Fin 196608) (data : W64) (s : State),
    Writes s src ((Block.pool (die.val + 1)).base + 8 * word) → (src = .cobbler ∨ src = .dma) →
    s.granuleOpen (die.val + 1) (8 * word.val / 0x1000) = true →
    Completes (.poolWindowWrite src die word data) s fun t =>
      BusKeeps [.mem, .ctl] [] (fun a => a = (Block.pool (die.val + 1)).base + 8 * word) s t) ∧
  (∀ (src : Master) (k : Fin 8) (word : Fin 256) (data : W64) (s : State),
    Writes s src (slotAddr k false 0 + 8 * word) → (src = .cobbler ∨ src = .dma) →
    s.slotOpen k false (word.val / 32) = true →
    Completes (.insSlotWrite src k false word data) s fun t =>
      BusKeeps [.mem, .ctl] [] (fun a => a = slotAddr k false 0 + 8 * word) s t) ∧
  (∀ (src : Master) (rack : Fin 64) (space : RackSpace) (loc : Fin 2048) (data : W32) (s : State),
    Writes s src (spaceAddr rack space loc) → s.spaceOpen rack space = true →
    Completes (.rackMemWrite src rack space loc data) s fun t =>
      BusKeeps [.mem, .ctl] [] (fun a => a = spaceAddr rack space loc) s t) ∧
  (∀ (src : Master) (rack : Fin 64) (word : Fin 8192) (data : W32) (s : State),
    Writes s src (progAddr rack word) → isHost src = false → s.fld RACK_STAT.HALTED rack = 0xFF →
    Completes (.progWordWrite src rack word false data) s fun t =>
      BusKeeps [.racks] [] (fun _ => False) s t) ∧
  (∀ (src : Master) (rack : Fin 64) (word : Fin 8192) (data : W32) (s : State) (m v : Nat) (lo : W32),
    Writes s src (progAddr rack word + 4) → isHost src = false → s.fld RACK_STAT.HALTED rack = 0xFF →
    (s.rackOf rack).lows.find? (fun x => x.1 == srcId src && x.2.1 == word.val) = some (m, v, lo) →
    Completes (.progWordWrite src rack word true data) s fun t =>
      BusKeeps [.racks, .mem, .ctl, .lasts] [] (fun a => a = progAddr rack word) s t) ∧
  (∀ (addr : W32) (words : List W32) (s : State),
    s.pwr.held = false →
    Completes (.spiWrite addr words) s fun t =>
      BusKeeps [.spi] [] (fun _ => False) s t) ∧
  (∀ (addr : W32) (s : State) (b : Block) (off : Nat) (k : RKey) (n : Nat) (sh : Bool) (d : W32),
    s.spiBusy = false → s.spi.posted = [] → Writes s .spi addr.toNat → addr.toNat % 4 = 0 →
    blockAt addr.toNat = some (b, off) → memKind b off = none → busReg b off = some (k, n, sh) → k.reg.words = 1 →
    ownEffect k.reg = false → countsBus k.reg = false → k.reg ≠ .HIF_SPI_STAT →
    Completes (.spiWrite addr [d]) s fun t =>
      BusKeeps [.spi] [k.reg] (fun _ => False) s t ∧
      (∀ u i,
         ¬ (u = masterUnit .spi k ∧ i = k.i) →
         t.reg k.reg u i = s.reg k.reg u i ∧ t.cnt k.reg u i = s.cnt k.reg u i ∧
         t.wide k.reg u i = s.wide k.reg u i)) ∧
  (∀ (addr : W32) (s : State) (b : Block) (off : Nat) (k : RKey) (n : Nat) (sh : Bool),
    s.spiBusy = false → s.spi.posted = [] → Issues s .spi addr.toNat → addr.toNat % 4 = 0 →
    blockAt addr.toNat = some (b, off) → memKind b off = none → busReg b off = some (k, n, sh) → k.reg.words = 1 →
    countsBus k.reg = false → k.reg ≠ .MGMT_IRQ_TOP → k.reg ≠ .MGMT_IRQ_LOCAL → k.reg ≠ .MGMT_IRQ_INTN →
    Completes (.spiRead addr 1) s fun t =>
      BusKeeps [.spi] [k.reg] (fun _ => False) s t ∧
      (∀ u i,
         ¬ (u = k.u ∧ i = k.i) →
         t.reg k.reg u i = s.reg k.reg u i ∧ t.cnt k.reg u i = s.cnt k.reg u i ∧
         t.wide k.reg u i = s.wide k.reg u i)) ∧
  (∀ (s : State) (b : Block) (off : Nat) (k : RKey) (n : Nat) (sh : Bool),
    s.i2c.busy = none → s.waitingOf .i2c = [] → Writes s .i2c s.i2c.addr → s.i2c.addr % 4 = 0 →
    blockAt s.i2c.addr = some (b, off) → memKind b off = none → busReg b off = some (k, n, sh) → k.reg.words = 1 →
    ownEffect k.reg = false → countsBus k.reg = false →
    Completes (.i2cWindowAccess 2) s fun t =>
      BusKeeps [.i2c] [k.reg] (fun _ => False) s t ∧
      (∀ u i,
         ¬ (u = masterUnit .i2c k ∧ i = k.i) →
         t.reg k.reg u i = s.reg k.reg u i ∧ t.cnt k.reg u i = s.cnt k.reg u i ∧
         t.wide k.reg u i = s.wide k.reg u i)) ∧
  (∀ (s : State) (b : Block) (off : Nat) (k : RKey) (n : Nat) (sh : Bool),
    s.i2c.busy = none → s.waitingOf .i2c = [] → Issues s .i2c s.i2c.addr → s.i2c.addr % 4 = 0 →
    blockAt s.i2c.addr = some (b, off) → memKind b off = none → busReg b off = some (k, n, sh) → k.reg.words = 1 →
    countsBus k.reg = false → k.reg ≠ .MGMT_IRQ_TOP → k.reg ≠ .MGMT_IRQ_LOCAL → k.reg ≠ .MGMT_IRQ_INTN →
    Completes (.i2cWindowAccess 1) s fun t =>
      BusKeeps [.i2c] [k.reg] (fun _ => False) s t ∧
      (∀ u i,
         ¬ (u = k.u ∧ i = k.i) →
         t.reg k.reg u i = s.reg k.reg u i ∧ t.cnt k.reg u i = s.cnt k.reg u i ∧
         t.wide k.reg u i = s.wide k.reg u i)) ∧
  (∀ (s : State) (b p : BitVec 8),
    s.pwr.held = false →
    Completes (.i2cWrite 126 [b, p] true) s fun t =>
      BusKeeps [.i2c] [] (fun _ => False) s t) ∧
  (∀ (offset : BitVec 8) (s : State) (v : BitVec 8),
    s.pwr.held = false → s.flag MBX_STAT.READY = true → s.i2c.page = 0x10 → s.i2c.bank < 2 → 128 ≤ offset.toNat →
    offset.toNat < 134 →
    Completes (.i2cWrite offset [v] true) s fun t =>
      BusKeeps [.cmis, .i2c] [] (fun _ => False) s t) ∧
  (∀ (src : Master) (nth : Fin 16) (s : State) (r : Request),
    (s.waitingOf src)[nth.val]? = some r → s.pwr.held = false →
    (src = .spi → s.spi.frame = none ∧ s.spi.posted = []) → 50 ≤ s.now - r.at_ → s.draining = [] →
    (isWrite r.op = false ∨ r.got ≠ none) →
    Completes (.weltReqTimeout src nth) s fun t =>
      BusKeeps [.waiting, .freeIx, .offLogged, .spi, .i2c] [.WELT_ERR_ADDR, .WELT_ERR_INFO, .HIF_SPI_STAT,
        .HIF_SPI_ERR_ADDR, .HIF_CAUSE, .WELT_CAUSE] (fun _ => False) s t) ∧
  (∀ (island : BitVec 16) (s : State) (d : Drain) (r : Request),
    s.pwr.held = false → s.draining.find? (fun x => x.island == island.toNat) = some d → d.since + 1 ≤ s.now →
    s.accepted d.island = [r] → (r.src = .spi → s.spi.frame = none ∧ s.spi.posted = []) →
    Completes (.islandDrainTimeout island) s fun t =>
      BusKeeps [.islands, .draining, .waiting, .freeIx, .offLogged, .spi, .i2c] [.WELT_ERR_ADDR, .WELT_ERR_INFO,
        .HIF_SPI_STAT, .HIF_SPI_ERR_ADDR, .HIF_CAUSE] (fun _ => False) s t) ∧
  (∀ (src : Master) (data : W32) (s : State),
    Writes s src 0x4020000 → (s.eyelet (getBits data 0 8)).st = .free → s.flag MBX_STAT.READY = true →
    Completes (.doorbell src data) s fun t =>
      BusKeeps [.freeIx, .mem, .events, .rate, .mbx, .ctl, .fenced] [.CNT_BANK_CTL, .CNT_BANK_OVF, .CNT_CAUSE,
        .CNT_DIE_CAUSE, .CNT_VAL, .FEC_POOL_FENCED, .FEC_POOL_MAP, .FEC_POOL_STAT, .MBX_CAUSE, .MBX_DB_REJ_CNT,
        .MBX_DB_REJ_INFO, .MBX_EYELET_STATE, .MBX_STAT, .MEM_BKT_STAT, .MEM_CAUSE, .MEM_CORR_CNT, .MEM_ERR_INFO,
        .MEM_ERR_LOC, .MEM_HARD, .MEM_STAT, .MEM_UNCORR_CNT] (fun _ => False) s t) ∧
  (∀ (src : Master) (ring : Fin 2) (data : W32) (s : State),
    Writes s src (0x4020014 + 8 * ring) →
    (getBits data 0 8 + 256 - s.fld MBX_CR_CONS_PTR.INDEX 0 ring) % 256 ≤ s.ringUsed ring →
    Completes (.consumerIndexWrite src ring data) s fun t =>
      BusKeeps [.mbx, .mem, .ctl, .pwr] [.MBX_CR_PROD_PTR, .MBX_CR_CONS_PTR, .MBX_EYELET_STATE, .MBX_STAT,
        .MBX_CAUSE] (fun a => 0x4024000 ≤ a ∧ a < 0x4026000) s t) ∧
  (∀ (src : Master) (die : Fin 3) (island : BitVec 8) (data : W32) (s : State),
    Writes s src ((Block.bank (islandId die island.toNat)).base + 4) → isIsland (islandId die island.toNat) = true →
    Completes (.cntBankClear src die island data) s fun t =>
      BusKeeps [] [] (fun _ => False) s t) ∧
  (∀ (src : Master) (data : W32) (s : State),
    Writes s src 0x40B0000 → s.flag CNT_RD_STAT.BUSY = false → getBits data 16 1 = 1 → 1 ≤ getBits data 8 7 →
    getBits data 8 7 ≤ 64 →
    Completes (.cntRdStart src data) s fun t =>
      BusKeeps [.reader] [.CNT_RD_T_FIRST, .CNT_RD_STAT, .CNT_RD_CTL] (fun _ => False) s t) ∧
  (∀ (elapsed : Nat) (s : State),
    s.pwr.held = false → s.flag CNT_RD_STAT.BUSY = true →
    ((s.reg .CNT_LIST 0 (64 * s.reader.list + s.reader.index)).toNat % 8 ≠ 0 ∨
     namesQueue ((s.reg .CNT_LIST 0 (64 * s.reader.list + s.reader.index)).toNat) = true) →
    Completes (.cntRdEntryResponse elapsed) s fun t =>
      BusKeeps [.reader, .mbx, .aqReplies] [.CNT_RES, .CNT_RD_T_LAST, .CNT_RD_STAT] (fun _ => False) s t) ∧
  (∀ (elapsed : Nat) (s : State) (b : Block) (off : Nat) (k : RKey) (sh : Bool),
    s.pwr.held = false → s.flag CNT_RD_STAT.BUSY = true →
    (s.reg .CNT_LIST 0 (64 * s.reader.list + s.reader.index)).toNat % 8 = 0 → (s.waitingOf .cobbler).length < 16 →
    s.mustWait .cobbler ((s.reg .CNT_LIST 0 (64 * s.reader.list + s.reader.index)).toNat) = false →
    s.hasCredit .cobbler ((s.reg .CNT_LIST 0 (64 * s.reader.list + s.reader.index)).toNat) true = true →
    blockAt ((s.reg .CNT_LIST 0 (64 * s.reader.list + s.reader.index)).toNat) = some (b, off) →
    memKind b off = none → busReg b off = some (k, 0, sh) → k.reg.words ≠ 1 → isQueue k.reg = false →
    k.reg ≠ .EVR_WIN → k.reg ≠ .CNT_VAL → (s.island b.island = .on ∨ s.island b.island = .doze) →
    Completes (.cntRdEntryResponse elapsed) s fun t =>
      BusKeeps [.reader, .mbx, .aqReplies] [.CNT_RES, .CNT_RD_T_LAST, .CNT_RD_STAT] (fun _ => False) s t) ∧
  (∀ (src : Master) (data : W32) (s : State),
    Writes s src 0x4060020 → srcId src ≤ 3 → s.odOf (srcId src) = none → s.flag MON_CTL.RUN = true →
    Completes (.odRequest src data) s fun t =>
      BusKeeps [.mon] [.MON_OD_STAT, .MON_OD_RES] (fun _ => False) s t) ∧
  (∀ (src : Master) (data : W32) (fail : Bool) (s : State),
    Writes s src 0x4090044 → s.flag SEC_STAT.RECOVERY = true → getBits data 0 1 = 1 →
    Completes (.recoveryGo src data fail) s fun t =>
      BusKeeps [.freeIx, .mem, .events, .rate, .pwr, .ctl, .fenced, .sec] [.CNT_BANK_CTL, .CNT_BANK_OVF,
        .CNT_CAUSE, .CNT_DIE_CAUSE, .CNT_VAL, .FEC_POOL_FENCED, .FEC_POOL_MAP, .FEC_POOL_STAT, .MEM_BKT_STAT,
        .MEM_CAUSE, .MEM_CORR_CNT, .MEM_ERR_INFO, .MEM_ERR_LOC, .MEM_HARD, .MEM_STAT, .MEM_UNCORR_CNT, .SEC_CAUSE,
        .SEC_IMG_A, .SEC_IMG_B, .SEC_RECOVERY_CTL, .SEC_STAT] (fun a => fwAddr 0 ≤ a ∧ a < fwAddr 1) s t) ∧
  (∀ (src : Master) (s : State),
    Issues s src 0x4070040 → s.flag EVR_STAT.DEGRADED = false → s.evrSeqs = [] →
    Completes (.evrWinLatch src) s fun t =>
      BusKeeps [.freeIx, .mem, .events, .rate, .ctl, .fenced, .evr, .snaps] [.CNT_BANK_CTL, .CNT_BANK_OVF,
        .CNT_CAUSE, .CNT_DIE_CAUSE, .CNT_VAL, .EVR_CAUSE, .EVR_CURSOR, .EVR_DROP_CNT, .EVR_EMG, .EVR_EMG_STAT,
        .EVR_EN, .EVR_FIFO_STAT, .EVR_FLUSHED_SEQ, .EVR_HEAD_SEQ, .EVR_STAT, .EVR_TAIL_SEQ, .EVR_WIN_STAT,
        .FEC_POOL_FENCED, .FEC_POOL_MAP, .FEC_POOL_STAT, .MEM_BKT_STAT, .MEM_CAUSE, .MEM_CORR_CNT, .MEM_ERR_INFO,
        .MEM_ERR_LOC, .MEM_HARD, .MEM_STAT, .MEM_UNCORR_CNT, .MGMT_IRQ_TOP_EN] (fun _ => False) s t) ∧
  (∀ (src : Master) (s : State) (r : Staged) (ws : List W64),
    Issues s src 0x4070040 → s.flag EVR_STAT.DEGRADED = false → s.evr.staged = [r] → s.evr.ring = [] →
    r.seq = (s.reg .EVR_CURSOR (srcId src)).toNat → (s.readRecord (stageWord r.seq)).1 = some ws →
    Completes (.evrWinLatch src) s fun t =>
      BusKeeps [.freeIx, .mem, .events, .rate, .ctl, .fenced, .evr, .snaps] [.CNT_BANK_CTL, .CNT_BANK_OVF,
        .CNT_CAUSE, .CNT_DIE_CAUSE, .CNT_VAL, .EVR_CAUSE, .EVR_CURSOR, .EVR_DROP_CNT, .EVR_EMG, .EVR_EMG_STAT,
        .EVR_EN, .EVR_FIFO_STAT, .EVR_FLUSHED_SEQ, .EVR_HEAD_SEQ, .EVR_STAT, .EVR_TAIL_SEQ, .EVR_WIN_STAT,
        .FEC_POOL_FENCED, .FEC_POOL_MAP, .FEC_POOL_STAT, .MEM_BKT_STAT, .MEM_CAUSE, .MEM_CORR_CNT, .MEM_ERR_INFO,
        .MEM_ERR_LOC, .MEM_HARD, .MEM_STAT, .MEM_UNCORR_CNT, .MGMT_IRQ_TOP_EN] (fun _ => False) s t) ∧
  (∀ (src : Master) (nth : Fin 16) (s : State) (r : Request),
    (s.waitingOf src)[nth.val]? = some r → s.pwr.held = false →
    (src = .spi → s.spi.frame = none ∧ s.spi.posted = []) → r.got = none → s.servable r = true →
    s.hasCredit src r.addr true = true → s.draining = [] →
    Completes (.responseArrival src nth) s fun t =>
      t.pending = s.pending ∧
      ∀ p : Part,
        p ∉ ([.freeIx, .mem, .islands, .events, .offLogged, .rate, .snaps, .replies, .waiting, .links, .draining,
          .mode, .mbx, .pwr, .aqReplies, .ctl, .opt, .mon, .lines, .racks, .lasts, .fec, .shadow, .fenced, .hosts,
          .ins, .time, .sec, .denied, .spi, .i2c, .reader, .evr] : List Part) →
        p.same s t)

/-- An instruction of a last changes its own last, its rack and what it names, and stores where its pointer points.
An instruction that completes with its own effect changes its last, the word it stores to and the counters of
slots, errors and banks, and nothing else but what is named (HALT and SVC: the rack's control, status and trap
registers; TWIN: its overrun counter). For every instruction of the lasts, whatever it answers with (its result,
a trap, or nothing where the last does not issue): every other last, the registers of every other rack, every
part of the state and register not named, and every word of memory but the one that STM or a storing MEM names by
its pointer are as they were. (R110, R111, R114, R115, R117) -/
def Obligations.LastInstructionFrames : Prop :=
  let ps : List Part :=
    [.freeIx, .mem, .events, .rate, .mode, .mbx, .aqReplies, .ctl, .lines, .racks, .lasts, .fec, .fenced, .ins];
  let rs : List Reg :=
    [.CAL_CAUSE, .CNT_BANK_CTL, .CNT_BANK_OVF, .CNT_CAUSE, .CNT_DIE_CAUSE, .CNT_VAL, .FEC_CAUSE, .FEC_POOL_FENCED,
      .FEC_POOL_MAP, .FEC_POOL_STAT, .FEC_SKEW, .HL_IDLE_STAT, .HL_SLIP_POS, .HL_STAT, .INS_CAUSE, .INS_CFG,
      .INS_STAT, .INS_TX_AMP, .LTX_CAL_ABORT_CNT, .LTX_CAL_RESULT0, .LTX_CAL_RESULT1, .LTX_CAL_STAT, .LTX_CAUSE,
      .LTX_DAC_TRIM, .LTX_DAC_TTRIM, .LTX_FIR_ACT, .LTX_LUT_ACT, .LTX_SQ_STAT, .LTX_STAT, .MEM_BKT_STAT,
      .MEM_CAUSE, .MEM_CORR_CNT, .MEM_ERR_INFO, .MEM_ERR_LOC, .MEM_HARD, .MEM_STAT, .MEM_UNCORR_CNT,
      .RACK_BANK_CONF_CNT, .RACK_BUS_WAIT_CNT, .RACK_CAUSE, .RACK_CTL, .RACK_CYC_CNT, .RACK_LAST_TRAP,
      .RACK_SLOT_BACK_CNT, .RACK_SLOT_FRONT_CNT, .RACK_SLOT_RET_CNT, .RACK_SLOT_WASTE_CNT, .RACK_STAT,
      .RACK_TAG_CTL];
  let own : List Reg :=
    [.RACK_CAUSE, .RACK_CTL, .RACK_LAST_TRAP, .RACK_SLOT_FRONT_CNT, .RACK_SLOT_RET_CNT, .RACK_SLOT_WASTE_CNT,
      .RACK_STAT];
  let kept (c : LastAt → Instr) (more : List Reg) : Prop :=
    ∀ w,
      Keeps (c w) ps (rs ++ more) ∧ KeepsOtherLasts (c w) w ∧
      KeepsElsewhere (c w) (fun _ u _ => u = w.rack.val) own ∧ KeepsWords (c w) (fun s a => s.storesAt w = some a);
  kept .nop [] ∧ kept .mpy [] ∧ kept .mac [] ∧ kept .msu [] ∧ kept .add [] ∧ kept .sub [] ∧ kept .clr [] ∧
  kept .tfr [] ∧ kept .asr [] ∧ kept .asl [] ∧ kept .abs [] ∧ kept .neg [] ∧ kept .cmp [] ∧ kept .macss [] ∧
  kept .macsgn [] ∧ kept .sta [] ∧ kept .stm [] ∧ kept .ldi [] ∧ kept .shift [] ∧ kept .movr [] ∧ kept .ext [] ∧
  kept .logic [] ∧ kept .mem [] ∧ kept .lda [] ∧ kept .adda [] ∧ kept .mova [] ∧ kept .bra [] ∧ kept .call [] ∧
  kept .ret [] ∧ kept .loop [] ∧ kept .loopr [] ∧ kept .repeat [] ∧ kept .yield [] ∧ kept .svc [] ∧
  (∀ bad : Bool, kept (.twin · bad) [.RACK_TW_OVR_CNT]) ∧ kept .leave [] ∧
  (∀ same : Bool, kept (.breq · same) []) ∧ kept .brsp [] ∧ kept .movc [] ∧ kept .movfc [] ∧ kept .rti [] ∧
  kept .halt [] ∧
  (∀ (w : LastAt) (s : State) (word : W32) (a s1 s2 modx mody : Nat) (cap : Bool) (cd : Nat) (v1 v2 : W24),
    Issuing s w word → decodeLast word = some (.arith 0x1 a s1 s2 modx mody cap cd) →
    s.operandValue w s1 = some v1 → s.operandValue w s2 = some v2 →
    Completes (.mpy w) s fun t =>
      IssueKeeps w [] s t) ∧
  (∀ (w : LastAt) (s : State) (word : W32) (a s1 s2 modx mody : Nat) (cap : Bool) (cd : Nat) (v1 v2 : W24),
    Issuing s w word → decodeLast word = some (.arith 0x2 a s1 s2 modx mody cap cd) →
    s.operandValue w s1 = some v1 → s.operandValue w s2 = some v2 →
    Completes (.mac w) s fun t =>
      IssueKeeps w [] s t) ∧
  (∀ (w : LastAt) (s : State) (word : W32) (a s1 s2 modx mody : Nat) (cap : Bool) (cd : Nat) (v1 v2 : W24),
    Issuing s w word → decodeLast word = some (.arith 0x3 a s1 s2 modx mody cap cd) →
    s.operandValue w s1 = some v1 → s.operandValue w s2 = some v2 →
    Completes (.msu w) s fun t =>
      IssueKeeps w [] s t) ∧
  (∀ (w : LastAt) (s : State) (word : W32) (a s1 s2 modx mody : Nat) (cap : Bool) (cd : Nat) (v1 v2 : W24),
    Issuing s w word → decodeLast word = some (.arith 0x4 a s1 s2 modx mody cap cd) →
    s.operandValue w s1 = some v1 → s.operandValue w s2 = some v2 →
    Completes (.add w) s fun t =>
      IssueKeeps w [] s t) ∧
  (∀ (w : LastAt) (s : State) (word : W32) (a s1 s2 modx mody : Nat) (cap : Bool) (cd : Nat) (v1 v2 : W24),
    Issuing s w word → decodeLast word = some (.arith 0x5 a s1 s2 modx mody cap cd) →
    s.operandValue w s1 = some v1 → s.operandValue w s2 = some v2 →
    Completes (.sub w) s fun t =>
      IssueKeeps w [] s t) ∧
  (∀ (w : LastAt) (s : State) (word : W32) (a s1 s2 modx mody : Nat) (cap : Bool) (cd : Nat) (v1 v2 : W24),
    Issuing s w word → decodeLast word = some (.arith 0x6 a s1 s2 modx mody cap cd) →
    s.operandValue w s1 = some v1 → s.operandValue w s2 = some v2 →
    Completes (.clr w) s fun t =>
      IssueKeeps w [] s t) ∧
  (∀ (w : LastAt) (s : State) (word : W32) (a s1 s2 modx mody : Nat) (cap : Bool) (cd : Nat) (v1 v2 : W24),
    Issuing s w word → decodeLast word = some (.arith 0x7 a s1 s2 modx mody cap cd) →
    s.operandValue w s1 = some v1 → s.operandValue w s2 = some v2 →
    Completes (.tfr w) s fun t =>
      IssueKeeps w [] s t) ∧
  (∀ (w : LastAt) (s : State) (word : W32) (a s1 s2 modx mody : Nat) (cap : Bool) (cd : Nat) (v1 v2 : W24),
    Issuing s w word → decodeLast word = some (.arith 0x8 a s1 s2 modx mody cap cd) →
    s.operandValue w s1 = some v1 → s.operandValue w s2 = some v2 →
    Completes (.asr w) s fun t =>
      IssueKeeps w [] s t) ∧
  (∀ (w : LastAt) (s : State) (word : W32) (a s1 s2 modx mody : Nat) (cap : Bool) (cd : Nat) (v1 v2 : W24),
    Issuing s w word → decodeLast word = some (.arith 0x9 a s1 s2 modx mody cap cd) →
    s.operandValue w s1 = some v1 → s.operandValue w s2 = some v2 →
    Completes (.asl w) s fun t =>
      IssueKeeps w [] s t) ∧
  (∀ (w : LastAt) (s : State) (word : W32) (a s1 s2 modx mody : Nat) (cap : Bool) (cd : Nat) (v1 v2 : W24),
    Issuing s w word → decodeLast word = some (.arith 0xA a s1 s2 modx mody cap cd) →
    s.operandValue w s1 = some v1 → s.operandValue w s2 = some v2 →
    Completes (.abs w) s fun t =>
      IssueKeeps w [] s t) ∧
  (∀ (w : LastAt) (s : State) (word : W32) (a s1 s2 modx mody : Nat) (cap : Bool) (cd : Nat) (v1 v2 : W24),
    Issuing s w word → decodeLast word = some (.arith 0xB a s1 s2 modx mody cap cd) →
    s.operandValue w s1 = some v1 → s.operandValue w s2 = some v2 →
    Completes (.neg w) s fun t =>
      IssueKeeps w [] s t) ∧
  (∀ (w : LastAt) (s : State) (word : W32) (a s1 s2 modx mody : Nat) (cap : Bool) (cd : Nat) (v1 v2 : W24),
    Issuing s w word → decodeLast word = some (.arith 0xC a s1 s2 modx mody cap cd) →
    s.operandValue w s1 = some v1 → s.operandValue w s2 = some v2 →
    Completes (.cmp w) s fun t =>
      IssueKeeps w [] s t) ∧
  (∀ (w : LastAt) (s : State) (word : W32) (a s1 s2 modx mody : Nat) (cap : Bool) (cd : Nat) (v1 v2 : W24),
    Issuing s w word → decodeLast word = some (.arith 0xD a s1 s2 modx mody cap cd) →
    s.operandValue w s1 = some v1 → s.operandValue w s2 = some v2 →
    Completes (.macss w) s fun t =>
      IssueKeeps w [] s t) ∧
  (∀ (w : LastAt) (s : State) (word : W32) (a s1 s2 modx mody : Nat) (cap : Bool) (cd : Nat) (v1 v2 : W24),
    Issuing s w word → decodeLast word = some (.arith 0xE a s1 s2 modx mody cap cd) →
    s.operandValue w s1 = some v1 → s.operandValue w s2 = some v2 →
    Completes (.macsgn w) s fun t =>
      IssueKeeps w [] s t) ∧
  (∀ (w : LastAt) (s : State) (word : W32) (a s1 s2 modx mody : Nat) (cap : Bool) (cd : Nat) (v1 v2 : W24),
    Issuing s w word → decodeLast word = some (.arith 0 a s1 s2 modx mody cap cd) →
    s.operandValue w s1 = some v1 → s.operandValue w s2 = some v2 →
    Completes (.nop w) s fun t =>
      IssueKeeps w [] s t) ∧
  (∀ (w : LastAt) (s : State) (word : W32) (a d : Nat) (low : Bool),
    Issuing s w word → decodeLast word = some (.sta a d low) →
    Completes (.sta w) s fun t =>
      IssueKeeps w [] s t) ∧
  (∀ (w : LastAt) (s : State) (word : W32) (a ptr mode : Nat) (low : Bool),
    Issuing s w word → decodeLast word = some (.stm a ptr mode low) →
    (s.last w.rack w.last).protects ((s.last w.rack w.last).P ptr) = false →
    Completes (.stm w) s fun t =>
      IssueKeeps w [] s t) ∧
  (∀ (w : LastAt) (s : State) (word : W32) (d : Nat) (half : Bool) (value : Nat),
    Issuing s w word → decodeLast word = some (.ldi d half value) →
    Completes (.ldi w) s fun t =>
      IssueKeeps w [] s t) ∧
  (∀ (w : LastAt) (s : State) (word : W32) (a : Nat) (right : Bool) (count : Nat),
    Issuing s w word → decodeLast word = some (.shift a right count) →
    Completes (.shift w) s fun t =>
      IssueKeeps w [] s t) ∧
  (∀ (w : LastAt) (s : State) (word : W32) (d src : Nat),
    Issuing s w word → decodeLast word = some (.movr d src) →
    Completes (.movr w) s fun t =>
      IssueKeeps w [] s t) ∧
  (∀ (w : LastAt) (s : State) (word : W32) (dd ds pos width : Nat) (sgn : Bool),
    Issuing s w word → decodeLast word = some (.ext dd ds pos width sgn) →
    Completes (.ext w) s fun t =>
      IssueKeeps w [] s t) ∧
  (∀ (w : LastAt) (s : State) (word : W32) (dd ds op : Nat),
    Issuing s w word → decodeLast word = some (.logic dd ds op) → op < 4 →
    Completes (.logic w) s fun t =>
      IssueKeeps w [] s t) ∧
  (∀ (w : LastAt) (s : State) (word : W32) (store : Bool) (d ptr mode : Nat) (v : W24),
    Issuing s w word → decodeLast word = some (.mem store d ptr mode) →
    (s.last w.rack w.last).protects ((s.last w.rack w.last).P ptr) = false →
    (store = false → s.operandValue w (8 + ptr) = some v) →
    Completes (.mem w) s fun t =>
      IssueKeeps w [] s t) ∧
  (∀ (w : LastAt) (s : State) (word : W32) (kind n value : Nat),
    Issuing s w word → decodeLast word = some (.lda kind n value) →
    Completes (.lda w) s fun t =>
      IssueKeeps w [] s t) ∧
  (∀ (w : LastAt) (s : State) (word : W32) (n change : Nat),
    Issuing s w word → decodeLast word = some (.adda n change) →
    Completes (.adda w) s fun t =>
      IssueKeeps w [] s t) ∧
  (∀ (w : LastAt) (s : State) (word : W32) (kind n d : Nat),
    Issuing s w word → decodeLast word = some (.mova kind n d) →
    Completes (.mova w) s fun t =>
      IssueKeeps w [] s t) ∧
  (∀ (w : LastAt) (s : State) (word : W32) (d n : Nat),
    Issuing s w word → decodeLast word = some (.movc d n) →
    ((s.last w.rack w.last).super = true ∨ n = 0 ∨ n = 3 ∨ n = 4) →
    Completes (.movc w) s fun t =>
      IssueKeeps w [] s t) ∧
  (∀ (w : LastAt) (s : State) (word : W32) (d n : Nat),
    Issuing s w word → decodeLast word = some (.movfc d n) →
    ((s.last w.rack w.last).super = true ∨ s.userReads w.rack n = true) →
    (n ≤ 4 ∨ (8 ≤ n ∧ n ≤ 11) ∨ (16 ≤ n ∧ n ≤ 20)) → w.front = 0 → w.back = 0 →
    (s.last w.rack w.last).interlock (.movfc d n) = 0 →
    Completes (.movfc w) s fun t =>
      IssueKeeps w [] s t) ∧
  (∀ (w : LastAt) (s : State) (word : W32),
    Issuing s w word → decodeLast word = some (.rti) → (s.last w.rack w.last).super = true →
    Completes (.rti w) s fun t =>
      IssueKeeps w [] s t) ∧
  (∀ (w : LastAt) (s : State) (word : W32),
    Issuing s w word → decodeLast word = some (.halt) → (s.last w.rack w.last).super = true →
    Completes (.halt w) s fun t =>
      IssueKeeps w [.RACK_CTL, .RACK_STAT] s t) ∧
  (∀ (w : LastAt) (s : State) (word : W32),
    Issuing s w word → decodeLast word = some (.svc 0) → (s.last w.rack w.last).super = false →
    (s.last w.rack w.last).rep = none →
    Completes (.svc w) s fun t =>
      IssueKeeps w [.RACK_LAST_TRAP, .RACK_CAUSE, .RACK_CTL, .RACK_STAT] s t) ∧
  (∀ (w : LastAt) (s : State) (word : W32) (c target : Nat),
    Issuing s w word → decodeLast word = some (.bra c target) → (s.last w.rack w.last).rep = none →
    s.cond w.rack (s.last w.rack w.last) c = some true → (s.last w.rack w.last).leavesLoop target = false →
    Completes (.bra w) s fun t =>
      IssueKeeps w [] s t) ∧
  (∀ (w : LastAt) (s : State) (word : W32) (c target : Nat),
    Issuing s w word → decodeLast word = some (.call c target) → (s.last w.rack w.last).rep = none →
    s.cond w.rack (s.last w.rack w.last) c = some true → (s.last w.rack w.last).leavesLoop target = false →
    (s.last w.rack w.last).calls.length < 8 →
    Completes (.call w) s fun t =>
      IssueKeeps w [] s t) ∧
  (∀ (w : LastAt) (s : State) (word : W32) (c : Nat) (a : BitVec 14) (as : List (BitVec 14)),
    Issuing s w word → decodeLast word = some (.ret c) → (s.last w.rack w.last).rep = none →
    s.cond w.rack (s.last w.rack w.last) c = some true → (s.last w.rack w.last).calls = a :: as →
    Completes (.ret w) s fun t =>
      IssueKeeps w [] s t) ∧
  (∀ (w : LastAt) (s : State) (word : W32) (count last : Nat),
    Issuing s w word → decodeLast word = some (.loop count last) → (s.last w.rack w.last).rep = none → 0 < count →
    (s.last w.rack w.last).loops.length < 4 →
    Completes (.loop w) s fun t =>
      IssueKeeps w [] s t) ∧
  (∀ (w : LastAt) (s : State) (word : W32) (d last : Nat),
    Issuing s w word → decodeLast word = some (.loopr d last) → (s.last w.rack w.last).rep = none →
    0 < bitsOf ((s.last w.rack w.last).D d).toNat 0 16 → (s.last w.rack w.last).loops.length < 4 →
    Completes (.loopr w) s fun t =>
      IssueKeeps w [] s t) ∧
  (∀ (w : LastAt) (s : State) (word : W32) (count : Nat),
    Issuing s w word → decodeLast word = some (.rep count) → (s.last w.rack w.last).rep = none → 0 < count →
    Completes (.repeat w) s fun t =>
      IssueKeeps w [] s t) ∧
  (∀ (w : LastAt) (s : State) (word : W32) (c : Nat) (f : LoopFrame) (fs : List LoopFrame),
    Issuing s w word → decodeLast word = some (.leave c) → (s.last w.rack w.last).rep = none →
    s.cond w.rack (s.last w.rack w.last) c = some true → (s.last w.rack w.last).loops = f :: fs →
    Completes (.leave w) s fun t =>
      IssueKeeps w [] s t) ∧
  (∀ (w : LastAt) (s : State) (word : W32),
    Issuing s w word → decodeLast word = some (.yield) → (s.last w.rack w.last).rep = none →
    Completes (.yield w) s fun t =>
      IssueKeeps w [] s t) ∧
  (∀ (w : LastAt) (s : State) (word : W32) (newest : Bool),
    Issuing s w word → decodeLast word = some (.twin newest) → (s.last w.rack w.last).rep = none →
    (s.last w.rack w.last).seen < (s.rackOf w.rack).written →
    Completes (.twin w false) s fun t =>
      IssueKeeps w [.RACK_TW_OVR_CNT, .RACK_CAUSE] s t)

/-- Rows of the lanes, racks, ports and insole channel leave alone all but the parts and registers named. For every
row of the line lanes, calibration, racks, FEC ports, host lanes and insole lanes, whenever it answers a next
state: the queue and every part of the state and register not named with it are as they were, so are the
registers of every other lane, port or rack named, and every word of memory but those it stores to (histogram
bins, the capture window, a message slot, a rack's shared word). (R65, R77, R89, R110, R164, R181, R190, R199) -/
def Obligations.LaneCommandFrames : Prop :=
  let rs0 : List Reg :=
    [.CAL_CAUSE, .FEC_AM_LOSS_CNT, .FEC_CAUSE, .FEC_PORT_STAT, .FEC_SKEW, .HL_IDLE_STAT, .HL_SLIP_POS, .HL_STAT,
      .INS_CAUSE, .INS_CFG, .INS_STAT, .INS_TX_AMP, .LRX_ADC_TRIM, .LRX_ADC_TTRIM, .LRX_CAL_ABORT_CNT,
      .LRX_CAL_RESULT0, .LRX_CAL_RESULT1, .LRX_CAL_STAT, .LRX_CAUSE, .LRX_STAT, .LTX_CAL_ABORT_CNT,
      .LTX_CAL_RESULT0, .LTX_CAL_RESULT1, .LTX_CAL_STAT, .LTX_CAUSE, .LTX_DAC_TRIM, .LTX_DAC_TTRIM, .LTX_FIR_ACT,
      .LTX_LUT_ACT, .LTX_SQ_STAT, .LTX_STAT];
  (∀ (k : Fin 8),
     Keeps (.sigDetectAssert k) [.islands, .events, .draining, .pwr] [.LRX_CAUSE, .LRX_STAT] ∧
     KeepsElsewhere (.sigDetectAssert k) (fun _ u _ => u = k.val) [.LRX_CAUSE, .LRX_STAT]) ∧
  (∀ (k : Fin 8),
     Keeps (.sigDetectDeassert k) [.events, .rate, .mbx, .aqReplies, .lines] [.CAL_CAUSE, .LRX_ADC_TRIM,
       .LRX_ADC_TTRIM, .LRX_CAL_ABORT_CNT, .LRX_CAL_RESULT0, .LRX_CAL_RESULT1, .LRX_CAL_STAT, .LRX_CAUSE,
       .LRX_SIG_LOSS_CNT, .LRX_STAT] ∧
     KeepsElsewhere (.sigDetectDeassert k) (fun _ u _ => u = k.val) [.LRX_CAUSE, .LRX_SIG_LOSS_CNT, .LRX_STAT]) ∧
  (∀ (k : Fin 8),
     Keeps (.wakePatternSeen k) [.islands, .events, .draining, .pwr] [.LRX_STAT] ∧
     KeepsElsewhere (.wakePatternSeen k) (fun _ u _ => u = k.val) [.LRX_STAT]) ∧
  (∀ (k : Fin 8),
     Keeps (.lrxDozeTimer k) [.freeIx, .islands, .events, .rate, .draining, .mode, .mbx, .aqReplies, .lines, .fec,
       .ins] [.CAL_CAUSE, .FEC_AM_LOSS_CNT, .FEC_CAUSE, .FEC_PORT_STAT, .FEC_SKEW, .HL_IDLE_STAT, .HL_SLIP_POS,
       .HL_STAT, .INS_CAUSE, .INS_CFG, .INS_MSG_FAIL_CNT, .INS_MSG_STAT, .INS_STAT, .INS_TX_AMP, .LRX_ADC_TRIM,
       .LRX_ADC_TTRIM, .LRX_CAL_ABORT_CNT, .LRX_CAL_RESULT0, .LRX_CAL_RESULT1, .LRX_CAL_STAT, .LRX_CAUSE,
       .LRX_CDR_UNLOCK_CNT, .LRX_STAT, .LTX_CAL_ABORT_CNT, .LTX_CAL_RESULT0, .LTX_CAL_RESULT1, .LTX_CAL_STAT,
       .LTX_CAUSE, .LTX_DAC_TRIM, .LTX_DAC_TTRIM, .LTX_FIR_ACT, .LTX_LUT_ACT, .LTX_SQ_STAT, .LTX_STAT] ∧
     KeepsElsewhere (.lrxDozeTimer k) (fun _ u _ => u = k.val) [.LRX_STAT]) ∧
  (∀ (k : Fin 8) (fofs : BitVec 16) (phase : BitVec 8),
     Keeps (.cdrLockSet k fofs phase) [.events, .ins] [.INS_CAUSE, .INS_STAT, .LRX_CAUSE, .LRX_CDR_FOFS,
       .LRX_STAT] ∧
     KeepsElsewhere (.cdrLockSet k fofs phase) (fun _ u _ => u = k.val) [.LRX_CAUSE, .LRX_CDR_FOFS, .LRX_STAT]) ∧
  (∀ (k : Fin 8) (fofs : BitVec 16) (phase : BitVec 8),
     Keeps (.cdrLockClear k fofs phase) [.events, .rate, .mbx, .aqReplies, .lines, .ins] [.CAL_CAUSE, .INS_CAUSE,
       .INS_MSG_FAIL_CNT, .INS_MSG_STAT, .INS_STAT, .LRX_ADC_TRIM, .LRX_ADC_TTRIM, .LRX_CAL_ABORT_CNT,
       .LRX_CAL_RESULT0, .LRX_CAL_RESULT1, .LRX_CAL_STAT, .LRX_CAUSE, .LRX_CDR_FOFS, .LRX_CDR_UNLOCK_CNT,
       .LRX_STAT] ∧
     KeepsElsewhere (.cdrLockClear k fofs phase) (fun _ u _ => u = k.val) [.LRX_CAUSE, .LRX_CDR_FOFS,
       .LRX_CDR_UNLOCK_CNT, .LRX_STAT]) ∧
  (∀ (k : Fin 8) (off : BitVec 15) (data : W32),
     Keeps (.lrxCoefWrite k off data) [] [.LRX_AFE_CTL, .LRX_CAUSE, .LRX_CDR_CTL, .LRX_DET_CTL, .LRX_FFE_COEF,
       .LRX_STAT, .LRX_THR, .LRX_VNLE_KERN] ∧
     KeepsElsewhere (.lrxCoefWrite k off data) (fun _ u _ => u = k.val) [.LRX_FFE_COEF]) ∧
  (∀ (k : Fin 8) (x : TapRecord),
     Keeps (.tapRecord k x) [.mem, .lines, .racks] [] ∧
     KeepsWords (.tapRecord k x) (fun _ a => histAddr k 0 ≤ a ∧ a < histAddr k 256)) ∧
  (∀ (k : Fin 8) (msq snr : BitVec 16) (l0 l1 l2 l3 : W32),
     Keeps (.lrxMonitorWindow k msq snr l0 l1 l2 l3) [] [.LRX_LEVEL, .LRX_SIG_PWR, .LRX_SNR] ∧
     KeepsElsewhere (.lrxMonitorWindow k msq snr l0 l1 l2 l3) (fun _ u _ => u = k.val) [.LRX_LEVEL, .LRX_SIG_PWR,
       .LRX_SNR]) ∧
  (∀ (k : Fin 8),
     Keeps (.histStart k) [.mem, .lines] [.LRX_HIST_STAT] ∧
     KeepsWords (.histStart k) (fun _ a => histAddr k 0 ≤ a ∧ a < histAddr k 256) ∧
     KeepsElsewhere (.histStart k) (fun _ u _ => u = k.val) [.LRX_HIST_STAT]) ∧
  (∀ (k : Fin 8),
     Keeps (.histDone k) [] [.LRX_CAUSE, .LRX_HIST_STAT] ∧
     KeepsElsewhere (.histDone k) (fun _ u _ => u = k.val) [.LRX_CAUSE, .LRX_HIST_STAT]) ∧
  (∀ (k : Fin 8),
     Keeps (.vnleFadeDone k) [.events, .lines] [.LRX_CAUSE, .LRX_CFG, .LRX_STAT] ∧
     KeepsElsewhere (.vnleFadeDone k) (fun _ u _ => u = k.val) [.LRX_CAUSE, .LRX_CFG]) ∧
  (∀ (e : Fin 256),
     Keeps (.calRxRun e) [.events, .rate, .mbx, .aqReplies, .lines] [.CAL_CAUSE, .LRX_ADC_TRIM, .LRX_ADC_TTRIM,
       .LRX_CAL_ABORT_CNT, .LRX_CAL_RESULT0, .LRX_CAL_RESULT1, .LRX_CAL_STAT, .LRX_CAUSE, .LRX_STAT] ∧
     KeepsElsewhere (.calRxRun e) (fun s u _ => u = (s.params e).byte 0) [.LRX_CAL_STAT, .LRX_STAT]) ∧
  (∀ (e : Fin 256),
     Keeps (.calRxAbort e) [.events, .rate, .mbx, .aqReplies, .lines] [.CAL_CAUSE, .LRX_ADC_TRIM, .LRX_ADC_TTRIM,
       .LRX_CAL_ABORT_CNT, .LRX_CAL_RESULT0, .LRX_CAL_RESULT1, .LRX_CAL_STAT, .LRX_CAUSE, .LRX_STAT]) ∧
  (∀ (e : Fin 256), Keeps (.calRxStatus e) [.mbx, .aqReplies] []) ∧
  (∀ (k : Fin 8) (skew gain offset : List Int),
     Keeps (.calRxMeasureEnd k skew gain offset) [.events, .rate, .mbx, .aqReplies, .lines] [.CAL_CAUSE,
       .LRX_ADC_TRIM, .LRX_ADC_TTRIM, .LRX_CAL_ABORT_CNT, .LRX_CAL_RESULT0, .LRX_CAL_RESULT1, .LRX_CAL_STAT,
       .LRX_CAUSE, .LRX_STAT] ∧
     KeepsElsewhere (.calRxMeasureEnd k skew gain offset) (fun _ u _ => u = k.val) [.LRX_CAL_RESULT0,
       .LRX_CAL_STAT]) ∧
  (∀ (k : Fin 8),
     Keeps (.calRxApplyEnd k) [.events, .rate, .mbx, .aqReplies, .lines] [.CAL_CAUSE, .LRX_ADC_TRIM,
       .LRX_ADC_TTRIM, .LRX_CAL_ABORT_CNT, .LRX_CAL_RESULT0, .LRX_CAL_RESULT1, .LRX_CAL_STAT, .LRX_CAUSE,
       .LRX_STAT] ∧
     KeepsElsewhere (.calRxApplyEnd k) (fun _ u _ => u = k.val) [.LRX_CAL_RESULT0, .LRX_CAL_STAT]) ∧
  (∀ (k : Fin 8) (n : Fin 128),
     Keeps (.adcTrimStep k n) [.lines] [.LRX_ADC_TRIM, .LRX_CAL_RESULT0] ∧
     KeepsElsewhere (.adcTrimStep k n) (fun _ u _ => u = k.val) [.LRX_ADC_TRIM]) ∧
  (∀ (k : Fin 8) (n : Fin 128) (data : W32),
     Keeps (.lrxTtrimWrite k n data) [.lines] [.LRX_ADC_TRIM, .LRX_ADC_TTRIM, .LRX_CAUSE, .LRX_STAT] ∧
     KeepsElsewhere (.lrxTtrimWrite k n data) (fun _ u _ => u = k.val) [.LRX_ADC_TRIM, .LRX_ADC_TTRIM]) ∧
  (∀ (e : Fin 256),
     Keeps (.ltxSetFir e) [.mbx, .aqReplies] [.LTX_FIR_COEF] ∧
     KeepsElsewhere (.ltxSetFir e) (fun s u _ => u = (s.params e).byte 0) [.LTX_FIR_COEF]) ∧
  (∀ (e : Fin 256),
     Keeps (.ltxSetLevels e) [.mbx, .aqReplies] [.LTX_LUT] ∧
     KeepsElsewhere (.ltxSetLevels e) (fun s u _ => u = (s.params e).byte 0) [.LTX_LUT]) ∧
  (∀ (e : Fin 256),
     Keeps (.ltxCommit e) [.mbx, .aqReplies, .lines] [.INS_TX_AMP, .LTX_FIR_ACT, .LTX_LUT_ACT, .LTX_STAT]) ∧
  (∀ (k : Fin 8), Keeps (.commit k) [.lines] [.INS_TX_AMP, .LTX_FIR_ACT, .LTX_LUT_ACT, .LTX_STAT]) ∧
  (∀ (k : Fin 8),
     Keeps (.ltxRampStep k) [.lines] [.INS_TX_AMP, .LTX_CAUSE, .LTX_FIR_ACT, .LTX_LUT_ACT, .LTX_STAT] ∧
     KeepsElsewhere (.ltxRampStep k) (fun _ u _ => u = k.val) [.LTX_FIR_ACT, .LTX_LUT_ACT]) ∧
  (∀ (k : Fin 8),
     Keeps (.ltxDozeTimer k) [.freeIx, .islands, .events, .rate, .draining, .mbx, .aqReplies, .lines, .ins]
       [.CAL_CAUSE, .INS_CAUSE, .INS_CFG, .INS_STAT, .INS_TX_AMP, .LTX_CAL_ABORT_CNT, .LTX_CAL_RESULT0,
       .LTX_CAL_RESULT1, .LTX_CAL_STAT, .LTX_CAUSE, .LTX_DAC_TRIM, .LTX_DAC_TTRIM, .LTX_FIR_ACT, .LTX_LUT_ACT,
       .LTX_SQ_STAT, .LTX_STAT] ∧
     KeepsElsewhere (.ltxDozeTimer k) (fun _ u _ => u = k.val) [.LTX_SQ_STAT, .LTX_STAT]) ∧
  (∀ (k : Fin 8), Keeps (.ltxWake k) [.islands, .draining, .pwr] []) ∧
  (∀ (k : Fin 8) (start : BitVec 31) (symbols : List (BitVec 2)),
     Keeps (.ltxChkLock k start symbols) [.lines] [.LTX_STAT] ∧
     KeepsElsewhere (.ltxChkLock k start symbols) (fun _ u _ => u = k.val) [.LTX_STAT]) ∧
  (∀ (k : Fin 8) (symbols : List (BitVec 2)),
     Keeps (.ltxChkLost k symbols) [.events, .rate, .lines] [.CNT_BANK_OVF, .CNT_CAUSE, .CNT_DIE_CAUSE,
       .LTX_CAUSE, .LTX_CHK_ERR_CNT, .LTX_CHK_SYM_CNT, .LTX_STAT] ∧
     KeepsElsewhere (.ltxChkLost k symbols) (fun _ u _ => u = k.val) [.LTX_CHK_ERR_CNT, .LTX_CHK_SYM_CNT]) ∧
  (∀ (k : Fin 8) (again : Bool) (block : List (BitVec 2)),
     Keeps (.ltxLbSlip k again block) [.freeIx, .events, .rate, .lines] [.LTX_CAUSE, .LTX_CLIP_CNT,
       .LTX_LB_SLIP_CNT] ∧
     KeepsElsewhere (.ltxLbSlip k again block) (fun _ u _ => u = k.val) [.LTX_CAUSE, .LTX_LB_SLIP_CNT]) ∧
  (∀ (e : Fin 256),
     Keeps (.calTxRun e) [.events, .rate, .mbx, .aqReplies, .lines] [.CAL_CAUSE, .LTX_CAL_ABORT_CNT,
       .LTX_CAL_RESULT0, .LTX_CAL_RESULT1, .LTX_CAL_STAT, .LTX_CAUSE, .LTX_DAC_TRIM, .LTX_DAC_TTRIM, .LTX_STAT] ∧
     KeepsElsewhere (.calTxRun e) (fun s u _ => u = (s.params e).byte 0) [.LTX_CAL_STAT, .LTX_STAT]) ∧
  (∀ (e : Fin 256),
     Keeps (.calTxAbort e) [.events, .rate, .mbx, .aqReplies, .lines] [.CAL_CAUSE, .LTX_CAL_ABORT_CNT,
       .LTX_CAL_RESULT0, .LTX_CAL_RESULT1, .LTX_CAL_STAT, .LTX_CAUSE, .LTX_DAC_TRIM, .LTX_DAC_TTRIM, .LTX_STAT]) ∧
  (∀ (e : Fin 256), Keeps (.calTxStatus e) [.mbx, .aqReplies] []) ∧
  (∀ (k : Fin 8) (skew : List Int),
     Keeps (.calTxMeasureEnd k skew) [.events, .rate, .mbx, .aqReplies, .lines] [.CAL_CAUSE, .LTX_CAL_ABORT_CNT,
       .LTX_CAL_RESULT0, .LTX_CAL_RESULT1, .LTX_CAL_STAT, .LTX_CAUSE, .LTX_DAC_TRIM, .LTX_DAC_TTRIM, .LTX_STAT] ∧
     KeepsElsewhere (.calTxMeasureEnd k skew) (fun _ u _ => u = k.val) [.LTX_CAL_RESULT0, .LTX_CAL_STAT]) ∧
  (∀ (k : Fin 8),
     Keeps (.calTxApplyEnd k) [.events, .rate, .mbx, .aqReplies, .lines] [.CAL_CAUSE, .LTX_CAL_ABORT_CNT,
       .LTX_CAL_RESULT0, .LTX_CAL_RESULT1, .LTX_CAL_STAT, .LTX_CAUSE, .LTX_DAC_TRIM, .LTX_DAC_TTRIM, .LTX_STAT] ∧
     KeepsElsewhere (.calTxApplyEnd k) (fun _ u _ => u = k.val) [.LTX_CAL_RESULT0, .LTX_CAL_STAT]) ∧
  (∀ (k : Fin 8) (n : Fin 64),
     Keeps (.dacTrimStep k n) [.lines] [.LTX_CAL_RESULT0, .LTX_DAC_TRIM] ∧
     KeepsElsewhere (.dacTrimStep k n) (fun _ u _ => u = k.val) [.LTX_DAC_TRIM]) ∧
  (∀ (k : Fin 8) (n : Fin 64) (data : W32),
     Keeps (.ltxTtrimWrite k n data) [.lines] [.LTX_CAUSE, .LTX_DAC_TRIM, .LTX_DAC_TTRIM, .LTX_SQ_STAT, .LTX_STAT] ∧
     KeepsElsewhere (.ltxTtrimWrite k n data) (fun _ u _ => u = k.val) [.LTX_DAC_TRIM, .LTX_DAC_TTRIM]) ∧
  (∀ (rack : Fin 64) (last : Fin 8) (cycles : Nat),
     Keeps (.yieldResume rack last cycles) [.events, .rate, .lasts] [.CNT_BANK_OVF, .CNT_CAUSE, .CNT_DIE_CAUSE,
       .RACK_YIELD_CNT] ∧
     KeepsElsewhere (.yieldResume rack last cycles) (fun _ u _ => u = rack.val) [.RACK_YIELD_CNT]) ∧
  (∀ (rack : Fin 64) (last : Fin 8),
     Keeps (.rackBusResponse rack last) [.freeIx, .mem, .events, .rate, .ctl, .racks, .lasts, .fenced]
       [.CNT_BANK_CTL, .CNT_BANK_OVF, .CNT_CAUSE, .CNT_DIE_CAUSE, .CNT_VAL, .FEC_POOL_FENCED, .FEC_POOL_MAP,
       .FEC_POOL_STAT, .LRX_STAT, .MEM_BKT_STAT, .MEM_CAUSE, .MEM_CORR_CNT, .MEM_ERR_INFO, .MEM_ERR_LOC,
       .MEM_HARD, .MEM_STAT, .MEM_UNCORR_CNT, .RACK_REPORT] ∧
     KeepsWords (.rackBusResponse rack last) (fun s a => ∃ l q, (s.last rack l).bus = some q ∧ q.write = true ∧ a
       = sharedAddr rack q.addr)) ∧
  (∀ (rack : Fin 64) (last : Fin 8),
     Keeps (.lastWatchdog rack last) [.freeIx, .events, .rate, .mode, .mbx, .aqReplies, .lines, .racks, .lasts,
       .fec, .ins] [.CAL_CAUSE, .CNT_BANK_CTL, .CNT_BANK_OVF, .CNT_CAUSE, .CNT_DIE_CAUSE, .CNT_VAL, .FEC_CAUSE,
       .FEC_SKEW, .HL_IDLE_STAT, .HL_SLIP_POS, .HL_STAT, .INS_CAUSE, .INS_CFG, .INS_STAT, .INS_TX_AMP,
       .LTX_CAL_ABORT_CNT, .LTX_CAL_RESULT0, .LTX_CAL_RESULT1, .LTX_CAL_STAT, .LTX_CAUSE, .LTX_DAC_TRIM,
       .LTX_DAC_TTRIM, .LTX_FIR_ACT, .LTX_LUT_ACT, .LTX_SQ_STAT, .LTX_STAT, .RACK_CAUSE, .RACK_CTL,
       .RACK_LAST_TRAP, .RACK_STAT] ∧
     KeepsElsewhere (.lastWatchdog rack last) (fun _ u _ => u = rack.val) [.RACK_CAUSE, .RACK_CTL, .RACK_STAT]) ∧
  (∀ (rack : Fin 64),
     Keeps (.rackRestart rack) [.racks, .lasts] [.RACK_CTL, .RACK_STAT] ∧
     KeepsElsewhere (.rackRestart rack) (fun _ u _ => u = rack.val) [.RACK_CTL, .RACK_STAT]) ∧
  (∀ (rack : Fin 64) (last : Fin 8) (times : TagTimes),
     Keeps (.tagSample rack last times) [.racks] [.RACK_CAUSE, .RACK_TAG_STAT] ∧
     KeepsElsewhere (.tagSample rack last times) (fun _ u _ => u = rack.val) [.RACK_TAG_STAT]) ∧
  (∀ (e : Fin 256), Keeps (.rackHalt e) [.mbx, .aqReplies, .racks, .lasts] [.RACK_CTL, .RACK_STAT]) ∧
  (∀ (e : Fin 256), Keeps (.rackResume e) [.mbx, .aqReplies, .lasts] [.RACK_CTL, .RACK_STAT]) ∧
  (∀ (e : Fin 256), Keeps (.rackStatus e) [.mbx, .aqReplies] []) ∧
  (∀ (e : Fin 256),
     Keeps (.psetLoadBegin e) [.freeIx, .mem, .mbx, .inits, .aqReplies, .ctl, .stage] [.HIF_STAT, .HIF_WIN_BASE,
       .HIF_WIN_LIMIT] ∧
     KeepsWords (.psetLoadBegin e) (fun _ a => 0x1000000 ≤ a ∧ a < 0x1200000)) ∧
  (∀ (e : Fin 256),
     Keeps (.psetLoadEnd e) [.freeIx, .mem, .events, .rate, .mbx, .aqReplies, .ctl, .psets, .fenced, .stage]
       [.CNT_BANK_CTL, .CNT_BANK_OVF, .CNT_CAUSE, .CNT_DIE_CAUSE, .CNT_VAL, .FEC_POOL_FENCED, .FEC_POOL_MAP,
       .FEC_POOL_STAT, .HIF_STAT, .HIF_WIN_BASE, .MEM_BKT_STAT, .MEM_CAUSE, .MEM_CORR_CNT, .MEM_ERR_INFO,
       .MEM_ERR_LOC, .MEM_HARD, .MEM_STAT, .MEM_UNCORR_CNT] ∧
     KeepsWords (.psetLoadEnd e) nowhere) ∧
  (∀ (e : Fin 256), Keeps (.psetErase e) [.mbx, .aqReplies, .psets] []) ∧
  (∀ (e : Fin 256), Keeps (.psetList e) [.mbx, .aqReplies] []) ∧
  (∀ (k : Fin 8) (blocks : List (List (BitVec 2))), Keeps (.innerLockSet k blocks) [] [.FEC_PORT_STAT]) ∧
  (∀ (k : Fin 8) (blocks : List (List (BitVec 2))),
     Keeps (.innerLockClear k blocks) [.freeIx, .events, .rate, .mode, .mbx, .aqReplies, .lines, .fec, .ins] rs0) ∧
  (∀ (k : Fin 8) (word : BitVec 128) (rel : List (BitVec 3)) (lesser : Bool),
     Keeps (.innerCodeword k word rel lesser) [.events, .rate, .lines] [.FEC_CAUSE, .FEC_INNER_CORR_CNT,
       .FEC_INNER_UNCORR_CNT]) ∧
  (∀ (host : Bool) (n : Fin 16) (lanes : List (Fin 32)),
     Keeps (.amLockSet host n lanes) [.freeIx, .events, .rate, .mode, .mbx, .aqReplies, .lines, .fec, .ins]
       [.CAL_CAUSE, .FEC_CAUSE, .FEC_PORT_STAT, .FEC_SKEW, .HL_IDLE_STAT, .HL_SLIP_POS, .HL_STAT, .INS_CAUSE,
       .INS_CFG, .INS_STAT, .INS_TX_AMP, .LRX_STAT, .LTX_CAL_ABORT_CNT, .LTX_CAL_RESULT0, .LTX_CAL_RESULT1,
       .LTX_CAL_STAT, .LTX_CAUSE, .LTX_DAC_TRIM, .LTX_DAC_TTRIM, .LTX_FIR_ACT, .LTX_LUT_ACT, .LTX_SQ_STAT,
       .LTX_STAT]) ∧
  (∀ (host : Bool) (n : Fin 16),
     Keeps (.amLockClear host n) [.freeIx, .events, .rate, .mode, .mbx, .aqReplies, .lines, .fec, .ins] rs0) ∧
  (∀ (p : Fin 8) (fromHost : Bool) (errors : List (Fin 32)) (blocks : List (BitVec 66)),
     Keeps (.codewordDecode p fromHost errors blocks) [.events, .rate, .fec] [.CNT_BANK_OVF, .CNT_CAUSE,
       .CNT_DIE_CAUSE, .FEC_CAUSE, .FEC_HCW_CNT, .FEC_HCW_CORR_CNT, .FEC_HCW_UNCORR_CNT, .FEC_HL_SYM_CNT,
       .FEC_HSYM_CORR_CNT, .FEC_LCW_CNT, .FEC_LCW_CORR_CNT, .FEC_LCW_HIST_CNT, .FEC_LCW_UNCORR_CNT,
       .FEC_LL_SYM_CNT, .FEC_LSYM_CORR_CNT] ∧
     KeepsElsewhere (.codewordDecode p fromHost errors blocks) (fun _ u _ => u = p.val) [.FEC_HCW_CNT,
       .FEC_HCW_CORR_CNT, .FEC_HSYM_CORR_CNT, .FEC_LCW_CNT, .FEC_LCW_CORR_CNT, .FEC_LCW_HIST_CNT,
       .FEC_LSYM_CORR_CNT]) ∧
  (∀ (p : Fin 8) (toHost : Bool),
     Keeps (.codewordEncode p toHost) [.fec] [.FEC_CAUSE, .FEC_INJ_CTL] ∧
     KeepsElsewhere (.codewordEncode p toHost) (fun _ u _ => u = p.val) [.FEC_INJ_CTL]) ∧
  (∀ (p : Fin 8) (fromHost insert : Bool) (place : Nat),
     Keeps (.rateAdaptAdjust p fromHost insert place) [.events, .rate, .fec] [.CNT_BANK_OVF, .CNT_CAUSE,
       .CNT_DIE_CAUSE, .FEC_RA_ADJ_CNT] ∧
     KeepsElsewhere (.rateAdaptAdjust p fromHost insert place) (fun _ u _ => u = p.val) [.FEC_RA_ADJ_CNT]) ∧
  (∀ (p : Fin 8) (fromHost : Bool),
     Keeps (.fecSlip p fromHost) [.events, .rate, .fec] [.FEC_CAUSE, .FEC_SLIP_CNT] ∧
     KeepsElsewhere (.fecSlip p fromHost) (fun _ u _ => u = p.val) [.FEC_SLIP_CNT]) ∧
  (∀ (k : Fin 8), Keeps (.monitorSlip k) [.events, .rate] [.FEC_CAUSE, .FEC_SLIP_CNT]) ∧
  (∀ (p : Fin 8) (fromHost fcsOk : Bool),
     Keeps (.frameParse p fromHost fcsOk) [.events, .rate] [.CNT_BANK_OVF, .CNT_CAUSE, .CNT_DIE_CAUSE, .FEC_CAUSE,
       .FEC_FCS_ERR_CNT, .FEC_FRAME_CNT] ∧
     KeepsElsewhere (.frameParse p fromHost fcsOk) (fun _ u _ => u = p.val) [.FEC_FCS_ERR_CNT, .FEC_FRAME_CNT]) ∧
  (∀ (p : Fin 8) (fromHost : Bool) (arrivals : List Nat) (fill : BitVec 8),
     Keeps (.skewMeasurement p fromHost arrivals fill) [.freeIx, .events, .rate, .mode, .mbx, .aqReplies, .lines,
       .fec, .ins] [.CAL_CAUSE, .FEC_CAUSE, .FEC_HOLD_HL, .FEC_HOLD_LH, .FEC_PORT_STAT, .FEC_SKEW,
       .FEC_SKEW_OVER_CNT, .HL_IDLE_STAT, .HL_SLIP_POS, .HL_STAT, .INS_CAUSE, .INS_CFG, .INS_STAT, .INS_TX_AMP,
       .LTX_CAL_ABORT_CNT, .LTX_CAL_RESULT0, .LTX_CAL_RESULT1, .LTX_CAL_STAT, .LTX_CAUSE, .LTX_DAC_TRIM,
       .LTX_DAC_TTRIM, .LTX_FIR_ACT, .LTX_LUT_ACT, .LTX_SQ_STAT, .LTX_STAT] ∧
     KeepsElsewhere (.skewMeasurement p fromHost arrivals fill) (fun _ u _ => u = p.val) [.FEC_HOLD_LH,
       .FEC_PORT_STAT, .FEC_SKEW]) ∧
  (∀ (p : Fin 8) (fromHost : Bool) (len : Nat),
     Keeps (.wakeFrameDiscard p fromHost len) [.events, .rate, .fec] [.FEC_CAUSE, .FEC_WAKE_DROP_CNT] ∧
     KeepsElsewhere (.wakeFrameDiscard p fromHost len) (fun _ u _ => u = p.val) [.FEC_WAKE_DROP_CNT]) ∧
  (∀ (p : Fin 8), Keeps (.statLatch p) [.fec, .shadow] []) ∧
  (∀ (p : Fin 8),
     Keeps (.statClear p) [.fec, .shadow] [.FEC_AM_LOSS_CNT, .FEC_FCS_ERR_CNT, .FEC_FRAME_CNT, .FEC_HCW_CNT,
       .FEC_HCW_CORR_CNT, .FEC_HCW_UNCORR_CNT, .FEC_HL_SYM_CNT, .FEC_HOLD_HL, .FEC_HOLD_LH, .FEC_HSYM_CORR_CNT,
       .FEC_INJ_CTL, .FEC_INNER_CORR_CNT, .FEC_INNER_UNCORR_CNT, .FEC_LCW_CNT, .FEC_LCW_CORR_CNT,
       .FEC_LCW_HIST_CNT, .FEC_LCW_UNCORR_CNT, .FEC_LL_SYM_CNT, .FEC_LSYM_CORR_CNT, .FEC_PORT_CFG, .FEC_PORT_STAT,
       .FEC_RA_ADJ_CNT, .FEC_SKEW, .FEC_SKEW_OVER_CNT, .FEC_SLIP_CNT, .FEC_STAT_CTL, .FEC_WAKE_DROP_CNT]) ∧
  (∀ (p : Fin 8) (data : W32),
     Keeps (.fecInjCtlWrite p data) [.fec] [.FEC_INJ_CTL, .FEC_PORT_STAT] ∧
     KeepsElsewhere (.fecInjCtlWrite p data) (fun _ u _ => u = p.val) [.FEC_INJ_CTL, .FEC_PORT_STAT]) ∧
  (∀ (e : Fin 256),
     Keeps (.fecStatLatch e) [.mbx, .aqReplies, .fec, .shadow] [.FEC_AM_LOSS_CNT, .FEC_FCS_ERR_CNT,
       .FEC_FRAME_CNT, .FEC_HCW_CNT, .FEC_HCW_CORR_CNT, .FEC_HCW_UNCORR_CNT, .FEC_HL_SYM_CNT, .FEC_HOLD_HL,
       .FEC_HOLD_LH, .FEC_HSYM_CORR_CNT, .FEC_INJ_CTL, .FEC_INNER_CORR_CNT, .FEC_INNER_UNCORR_CNT, .FEC_LCW_CNT,
       .FEC_LCW_CORR_CNT, .FEC_LCW_HIST_CNT, .FEC_LCW_UNCORR_CNT, .FEC_LL_SYM_CNT, .FEC_LSYM_CORR_CNT,
       .FEC_PORT_CFG, .FEC_PORT_STAT, .FEC_RA_ADJ_CNT, .FEC_SKEW, .FEC_SKEW_OVER_CNT, .FEC_SLIP_CNT,
       .FEC_STAT_CTL, .FEC_WAKE_DROP_CNT]) ∧
  (∀ (e : Fin 256), Keeps (.fecPoolStatus e) [.mbx, .aqReplies] []) ∧
  (∀ (e : Fin 256), Keeps (.fecSkewReport e) [.mbx, .aqReplies] []) ∧
  (∀ (j : Fin 16) (data : W32),
     Keeps (.hlTxEqWrite j data) [] [.HL_STAT, .HL_TX_EQ, .HL_TX_EQ_EFF] ∧
     KeepsElsewhere (.hlTxEqWrite j data) (fun _ u _ => u = j.val) [.HL_STAT, .HL_TX_EQ, .HL_TX_EQ_EFF]) ∧
  (∀ (j : Fin 16) (data : W32),
     Keeps (.hlRxEqCtlWrite j data) [] [.HL_RX_EQ_CTL, .HL_RX_EQ_STAT] ∧
     KeepsElsewhere (.hlRxEqCtlWrite j data) (fun _ u _ => u = j.val) [.HL_RX_EQ_CTL, .HL_RX_EQ_STAT]) ∧
  (∀ (j : Fin 16) (fofs : BitVec 16) (phase : BitVec 8),
     Keeps (.hlCdrLockSet j fofs phase) [] [.HL_CAUSE, .HL_CDR_FOFS, .HL_STAT] ∧
     KeepsElsewhere (.hlCdrLockSet j fofs phase) (fun _ u _ => u = j.val) [.HL_CAUSE, .HL_CDR_FOFS, .HL_STAT]) ∧
  (∀ (j : Fin 16) (fofs : BitVec 16) (phase : BitVec 8),
     Keeps (.hlCdrLockClear j fofs phase) [.events, .rate] [.HL_CAUSE, .HL_CDR_FOFS, .HL_CDR_UNLOCK_CNT, .HL_STAT] ∧
     KeepsElsewhere (.hlCdrLockClear j fofs phase) (fun _ u _ => u = j.val) [.HL_CAUSE, .HL_CDR_FOFS,
       .HL_CDR_UNLOCK_CNT, .HL_STAT]) ∧
  (∀ (j : Fin 16) (ctle : BitVec 5) (h1 : BitVec 10) (taps : List (BitVec 12)),
     Keeps (.hlAdaptDone j ctle h1 taps) [.hosts] [.HL_RX_EQ_STAT, .HL_RX_FFE, .HL_STAT] ∧
     KeepsElsewhere (.hlAdaptDone j ctle h1 taps) (fun _ u _ => u = j.val) [.HL_RX_EQ_STAT, .HL_RX_FFE, .HL_STAT]) ∧
  (∀ (j : Fin 16) (step : Fin 3) (h1 : BitVec 10) (taps : List (BitVec 12)),
     Keeps (.hlCtleTrack j step h1 taps) [.hosts] [.HL_RX_EQ_STAT, .HL_RX_FFE] ∧
     KeepsElsewhere (.hlCtleTrack j step h1 taps) (fun _ u _ => u = j.val) [.HL_RX_EQ_STAT, .HL_RX_FFE]) ∧
  (∀ (j : Fin 16),
     Keeps (.hlSigAssert j) [.islands, .events, .draining, .pwr] [.HL_CAUSE, .HL_STAT] ∧
     KeepsElsewhere (.hlSigAssert j) (fun _ u _ => u = j.val) [.HL_CAUSE, .HL_STAT]) ∧
  (∀ (j : Fin 16),
     Keeps (.hlSigDeassert j) [.events, .rate] [.HL_CAUSE, .HL_SIG_LOSS_CNT, .HL_STAT] ∧
     KeepsElsewhere (.hlSigDeassert j) (fun _ u _ => u = j.val) [.HL_CAUSE, .HL_SIG_LOSS_CNT, .HL_STAT]) ∧
  (∀ (j : Fin 16),
     Keeps (.hlWakeSeen j) [.islands, .events, .draining, .pwr] [.HL_STAT] ∧
     KeepsElsewhere (.hlWakeSeen j) (fun _ u _ => u = j.val) [.HL_STAT]) ∧
  (∀ (j : Fin 16),
     Keeps (.hlRxDozeTimer j) [.islands, .events, .rate, .draining] [.HL_CAUSE, .HL_CDR_UNLOCK_CNT, .HL_STAT] ∧
     KeepsElsewhere (.hlRxDozeTimer j) (fun _ u _ => u = j.val) [.HL_CAUSE, .HL_STAT]) ∧
  (∀ (j : Fin 16),
     Keeps (.hlTxDozeTimer j) [.islands, .draining] [.HL_CAUSE, .HL_IDLE_STAT, .HL_STAT] ∧
     KeepsElsewhere (.hlTxDozeTimer j) (fun _ u _ => u = j.val) [.HL_CAUSE, .HL_IDLE_STAT, .HL_STAT]) ∧
  (∀ (j : Fin 16),
     Keeps (.hlTxWake j) [.islands, .draining, .pwr] [.HL_IDLE_STAT, .HL_STAT] ∧
     KeepsElsewhere (.hlTxWake j) (fun _ u _ => u = j.val) [.HL_IDLE_STAT, .HL_STAT]) ∧
  (∀ (j : Fin 16),
     Keeps (.hlWakeAmTimeout j) [.freeIx, .events, .rate, .mode, .mbx, .pwr, .aqReplies, .lines, .fec, .ins]
       [.CAL_CAUSE, .FEC_CAUSE, .FEC_PORT_STAT, .FEC_SKEW, .HL_IDLE_STAT, .HL_SLIP_POS, .HL_STAT, .INS_CAUSE,
       .INS_CFG, .INS_STAT, .INS_TX_AMP, .LTX_CAL_ABORT_CNT, .LTX_CAL_RESULT0, .LTX_CAL_RESULT1, .LTX_CAL_STAT,
       .LTX_CAUSE, .LTX_DAC_TRIM, .LTX_DAC_TTRIM, .LTX_FIR_ACT, .LTX_LUT_ACT, .LTX_SQ_STAT, .LTX_STAT]) ∧
  (∀ (j : Fin 16) (start : BitVec 31) (symbols : List (BitVec 2)),
     Keeps (.hlChkLock j start symbols) [.events, .rate, .hosts] [.CNT_BANK_OVF, .CNT_CAUSE, .CNT_DIE_CAUSE,
       .HL_CAUSE, .HL_CHK_ERR_CNT, .HL_CHK_SYM_CNT, .HL_STAT] ∧
     KeepsElsewhere (.hlChkLock j start symbols) (fun _ u _ => u = j.val) [.HL_CHK_SYM_CNT, .HL_STAT]) ∧
  (∀ (j : Fin 16) (symbols : List (BitVec 2)),
     Keeps (.hlChkLost j symbols) [.events, .rate, .hosts] [.CNT_BANK_OVF, .CNT_CAUSE, .CNT_DIE_CAUSE, .HL_CAUSE,
       .HL_CHK_ERR_CNT, .HL_CHK_SYM_CNT, .HL_STAT] ∧
     KeepsElsewhere (.hlChkLost j symbols) (fun _ u _ => u = j.val) [.HL_CHK_ERR_CNT, .HL_CHK_SYM_CNT]) ∧
  (∀ (j : Fin 16) (data : W32),
     Keeps (.hlSlipWrite j data) [.mbx, .aqReplies, .hosts] [.HL_CAUSE, .HL_SLIP, .HL_STAT] ∧
     KeepsElsewhere (.hlSlipWrite j data) (fun _ u _ => u = j.val) [.HL_CAUSE, .HL_SLIP, .HL_STAT]) ∧
  (∀ (j : Fin 16),
     Keeps (.captureStart j) [] [.HL_CAP_STAT] ∧
     KeepsElsewhere (.captureStart j) (fun _ u _ => u = j.val) [.HL_CAP_STAT]) ∧
  (∀ (j : Fin 16) (words : List W32),
     Keeps (.captureDone j words) [.mem, .mbx, .aqReplies, .hosts] [.HL_CAP_STAT, .HL_CAUSE] ∧
     KeepsWords (.captureDone j words) (fun _ a => captureAddr j ≤ a ∧ a < captureAddr j + 256) ∧
     KeepsElsewhere (.captureDone j words) (fun _ u _ => u = j.val) [.HL_CAP_STAT, .HL_CAUSE]) ∧
  (∀ (j : Fin 16) (again : Bool) (block : List (BitVec 2)),
     Keeps (.hlLbSlip j again block) [.freeIx, .events, .rate, .hosts] [.HL_CAUSE, .HL_LB_SLIP_CNT] ∧
     KeepsElsewhere (.hlLbSlip j again block) (fun _ u _ => u = j.val) [.HL_CAUSE, .HL_LB_SLIP_CNT]) ∧
  (∀ (e : Fin 256),
     Keeps (.hlSetTxEq e) [.mbx, .aqReplies] [.HL_STAT, .HL_TX_EQ, .HL_TX_EQ_EFF] ∧
     KeepsElsewhere (.hlSetTxEq e) (fun s u _ => u = (s.params e).byte 0) [.HL_STAT, .HL_TX_EQ, .HL_TX_EQ_EFF]) ∧
  (∀ (e : Fin 256),
     Keeps (.hlSetRxEq e) [.mbx, .aqReplies] [.HL_RX_EQ_CTL, .HL_RX_EQ_STAT] ∧
     KeepsElsewhere (.hlSetRxEq e) (fun s u _ => u = (s.params e).byte 0) [.HL_RX_EQ_CTL, .HL_RX_EQ_STAT]) ∧
  (∀ (e : Fin 256),
     Keeps (.hlSlip e) [.mbx, .aqReplies, .hosts] [.HL_CAUSE, .HL_SLIP, .HL_STAT] ∧
     KeepsElsewhere (.hlSlip e) (fun s u _ => u = (s.params e).byte 0) [.HL_SLIP]) ∧
  (∀ (e : Fin 256),
     Keeps (.hlCapture e) [.mbx, .aqReplies, .hosts] [.HL_CAP_STAT] ∧
     KeepsElsewhere (.hlCapture e) (fun s u _ => u = (s.params e).byte 0) [.HL_CAP_STAT]) ∧
  (∀ (e : Fin 256), Keeps (.hlStatus e) [.mbx, .aqReplies] []) ∧
  (∀ (k : Fin 8) (err : Fin 52429),
     Keeps (.insTimingLaunch k err) [.ins, .time] [.INS_TX_TS] ∧
     KeepsElsewhere (.insTimingLaunch k err) (fun _ u _ => u = k.val) [.INS_TX_TS]) ∧
  (∀ (k : Fin 8),
     Keeps (.insTxFrameDone k) [.freeIx, .mem, .events, .rate, .mbx, .aqReplies, .ctl, .fenced, .ins]
       [.CNT_BANK_CTL, .CNT_BANK_OVF, .CNT_CAUSE, .CNT_DIE_CAUSE, .CNT_VAL, .FEC_POOL_FENCED, .FEC_POOL_MAP,
       .FEC_POOL_STAT, .INS_CAUSE, .INS_CFG, .INS_MSG_FAIL_CNT, .INS_MSG_RETX_CNT, .INS_MSG_STAT, .INS_STAT,
       .INS_TX_FRAME_CNT, .MEM_BKT_STAT, .MEM_CAUSE, .MEM_CORR_CNT, .MEM_ERR_INFO, .MEM_ERR_LOC, .MEM_HARD,
       .MEM_STAT, .MEM_UNCORR_CNT] ∧
     KeepsWords (.insTxFrameDone k) nowhere ∧
     KeepsElsewhere (.insTxFrameDone k) (fun _ u _ => u = k.val) [.INS_TX_FRAME_CNT]) ∧
  (∀ (k : Fin 8), Keeps (.insAckTimer k) [.ins] []) ∧ (∀ (k : Fin 8), Keeps (.insLinkPeriod k) [.ins] []) ∧
  (∀ (k : Fin 8),
     Keeps (.insRampStep k) [.mem, .islands, .draining, .inits, .ctl, .ins] [.INS_CAUSE, .INS_CFG,
       .INS_CODE_PHASE, .INS_CRC_ERR_CNT, .INS_FOFS, .INS_HDR_ERR_CNT, .INS_IRQ_EN, .INS_LOCK_LOSS_CNT,
       .INS_METRIC, .INS_MSG_FAIL_CNT, .INS_MSG_RETX_CNT, .INS_MSG_STAT, .INS_RX_CFG, .INS_RX_DROP_CNT,
       .INS_RX_FRAME_CNT, .INS_RX_TS, .INS_RX_TS_Q, .INS_STAT, .INS_SYNC_CAPTURED_CNT, .INS_TX_AMP, .INS_TX_CFG,
       .INS_TX_FRAME_CNT, .INS_TX_TS] ∧
     KeepsWords (.insRampStep k) (fun _ a => 0x10000000 ≤ a)) ∧
  (∀ (k : Fin 8) (energy : List (BitVec 16)),
     Keeps (.insCodeDetect k energy) [.ins] [.INS_CODE_PHASE, .INS_STAT] ∧
     KeepsElsewhere (.insCodeDetect k energy) (fun _ u _ => u = k.val) [.INS_STAT]) ∧
  (∀ (k : Fin 8) (hits : List SyncHit),
     Keeps (.insSyncDetect k hits) [.events, .rate, .ins] [.INS_CAUSE, .INS_CODE_PHASE, .INS_METRIC, .INS_STAT,
       .INS_SYNC_CAPTURED_CNT, .LRX_CDR_FOFS] ∧
     KeepsElsewhere (.insSyncDetect k hits) (fun _ u _ => u = k.val) [.INS_CODE_PHASE, .INS_METRIC, .INS_STAT]) ∧
  (∀ (k : Fin 8) (header : W32),
     Keeps (.insHeaderEnd k header) [.events, .rate] [.INS_CAUSE, .INS_HDR_ERR_CNT, .INS_STAT] ∧
     KeepsElsewhere (.insHeaderEnd k header) (fun _ u _ => u = k.val) [.INS_HDR_ERR_CNT, .INS_STAT]) ∧
  (∀ (k : Fin 8) (header : W32) (payload : List (BitVec 8)) (crc : W32) (sigma : BitVec 16),
     Keeps (.insFrameReceived k header payload crc sigma) [.freeIx, .mem, .events, .rate, .mbx, .aqReplies, .ins,
       .time] [.CNT_BANK_OVF, .CNT_CAUSE, .CNT_DIE_CAUSE, .INS_CAUSE, .INS_CFG, .INS_CRC_ERR_CNT,
       .INS_HDR_ERR_CNT, .INS_METRIC, .INS_MSG_FAIL_CNT, .INS_MSG_STAT, .INS_RX_DROP_CNT, .INS_RX_FRAME_CNT,
       .INS_RX_TS, .INS_RX_TS_Q, .INS_STAT, .TIME_CAUSE, .TIME_FREQ, .TIME_OFFSET, .TIME_STAT, .TIME_STEP_CNT] ∧
     KeepsWords (.insFrameReceived k header payload crc sigma) (fun _ a => slotAddr k true 0 ≤ a ∧ a < slotAddr k
       true 0 + 0x800) ∧
     KeepsElsewhere (.insFrameReceived k header payload crc sigma) (fun _ u _ => u = k.val) [.INS_CRC_ERR_CNT,
       .INS_MSG_STAT, .INS_RX_FRAME_CNT, .INS_RX_TS_Q, .INS_STAT]) ∧
  (∀ (k : Fin 8),
     Keeps (.insLockLoss k) [.events, .rate, .mbx, .aqReplies, .ins] [.INS_CAUSE, .INS_LOCK_LOSS_CNT,
       .INS_MSG_FAIL_CNT, .INS_MSG_STAT, .INS_STAT, .LRX_CDR_FOFS] ∧
     KeepsElsewhere (.insLockLoss k) (fun _ u _ => u = k.val) [.INS_LOCK_LOSS_CNT, .INS_STAT]) ∧
  (∀ (k : Fin 8) (apart track : BitVec 16) (energy : List (BitVec 16)),
     Keeps (.insFofsMeasure k apart track energy) [.events, .rate, .mbx, .aqReplies, .ins] [.INS_CAUSE,
       .INS_CODE_PHASE, .INS_FOFS, .INS_METRIC, .INS_MSG_FAIL_CNT, .INS_MSG_STAT, .INS_STAT, .LRX_CDR_FOFS] ∧
     KeepsElsewhere (.insFofsMeasure k apart track energy) (fun _ u _ => u = k.val) [.INS_METRIC, .INS_STAT]) ∧
  (∀ (k : Fin 8), Keeps (.insFofsMismatch k) [.events, .ins] [.INS_CAUSE, .INS_FOFS, .LRX_CDR_FOFS]) ∧
  (∀ (k : Fin 8),
     Keeps (.insRxTimeout k) [.events, .rate, .mbx, .aqReplies, .ins] [.INS_CAUSE, .INS_MSG_FAIL_CNT,
       .INS_MSG_STAT, .INS_STAT] ∧
     KeepsElsewhere (.insRxTimeout k) (fun _ u _ => u = k.val) [.INS_STAT]) ∧
  (∀ (k : Fin 8), Keeps (.insHoldEnd k) [.ins] [.INS_STAT]) ∧
  (∀ (k : Fin 8),
     Keeps (.insMsgRetx k) [.events, .rate, .mbx, .aqReplies, .ins] [.INS_CAUSE, .INS_MSG_FAIL_CNT, .INS_MSG_STAT,
       .INS_STAT] ∧
     KeepsElsewhere (.insMsgRetx k) (fun _ u _ => u = k.val) [.INS_MSG_FAIL_CNT, .INS_STAT]) ∧
  (∀ (k : Fin 8),
     Keeps (.insCreditTimeout k) [.events, .rate, .mbx, .aqReplies, .ins] [.INS_CAUSE, .INS_MSG_FAIL_CNT,
       .INS_MSG_STAT] ∧
     KeepsElsewhere (.insCreditTimeout k) (fun _ u _ => u = k.val) [.INS_MSG_FAIL_CNT]) ∧
  (∀ (e : Fin 256),
     Keeps (.insMsgSend e) [.islands, .draining, .mbx, .pwr, .aqReplies, .ins] [.INS_CAUSE, .INS_MSG_STAT] ∧
     KeepsElsewhere (.insMsgSend e) (fun s u _ => u = (s.params e).byte 0) [.INS_MSG_STAT]) ∧
  (∀ (e : Fin 256), Keeps (.insMsgRecv e) [.mbx, .aqReplies] [.INS_CFG]) ∧
  (∀ (e : Fin 256), Keeps (.insMsgRelease e) [.mbx, .aqReplies, .ins] [.INS_CFG, .INS_MSG_STAT]) ∧
  (∀ (e : Fin 256), Keeps (.insStatus e) [.mbx, .aqReplies] []) ∧
  (∀ (e : Fin 256),
     Keeps (.insSetParam e) [.mbx, .aqReplies] [.INS_RX_CFG, .INS_TX_AMP, .INS_TX_CFG] ∧
     KeepsElsewhere (.insSetParam e) (fun s u _ => u = (s.params e).byte 0) [.INS_RX_CFG]) ∧
  (∀ (e : Fin 256), Keeps (.insSearch e) [.mbx, .aqReplies, .ins] [.INS_STAT]) ∧
  (∀ (k : Fin 8) (metrics : List (BitVec 16)),
     Keeps (.insSearchDone k metrics) [.events, .rate, .mbx, .aqReplies, .ins] [.INS_CAUSE, .INS_MSG_FAIL_CNT,
       .INS_MSG_STAT, .INS_STAT, .LRX_CDR_FOFS] ∧
     KeepsElsewhere (.insSearchDone k metrics) (fun _ u _ => u = k.val) [.INS_STAT]) ∧
  (∀ (j : Fin 16),
     Keeps (.hlBitSlip j) [.mbx, .aqReplies, .hosts] [.HL_SLIP, .HL_SLIP_POS, .HL_STAT] ∧
     KeepsElsewhere (.hlBitSlip j) (fun _ u _ => u = j.val) [.HL_SLIP, .HL_SLIP_POS]) ∧
  (∀ (k : Fin 8) (sub : Fin 226875) (src : List (BitVec 2)),
     Keeps (.ltxClip k sub src) [.freeIx, .events, .rate, .lines] [.LTX_CAUSE, .LTX_CLIP_CNT])

/-- Rows of time, counters, control loops, monitor and recorder leave alone all but the parts and registers named.
For every row of the time service, the counter lists, the control loops and DACs, the monitor and the event
recorder, whenever it answers a next state: the queue and every part of the state and register not named with it
are as they were, so are the registers of every other port, loop, channel or DAC named, and every word of memory
but the records it writes. (R140, R208, R243, R261, R293, R380) -/
def Obligations.ServiceCommandFrames : Prop :=
  let rs0 : List Reg :=
    [.PWR_STATE, .TIME_ALIGN_LOSS_CNT, .TIME_ALIGN_OFS, .TIME_CAUSE, .TIME_CF_SAT_CNT, .TIME_CORR_CNT,
      .TIME_CTX_ALLOC_CNT, .TIME_CTX_EVICT_CNT, .TIME_CTX_EXPIRE_CNT, .TIME_CTX_STAT, .TIME_DISCARD_CNT, .TIME_EN,
      .TIME_FAR_RXDLY, .TIME_FAR_TXDLY, .TIME_FREQ, .TIME_LANE_RXDLY, .TIME_LANE_TXDLY, .TIME_OFFSET,
      .TIME_ORPHAN_CNT, .TIME_PORT_CFG, .TIME_PORT_CTL, .TIME_PORT_HDLY, .TIME_PORT_STAT, .TIME_PPS_CFG,
      .TIME_PPS_IN_TS, .TIME_PPS_OFS, .TIME_RES_CHECK_CNT, .TIME_RES_LAST_HL, .TIME_RES_LAST_LH, .TIME_SRC_CFG,
      .TIME_STAT, .TIME_STEP_CNT, .TIME_TOD, .TIME_TODRX_ERR_CNT, .TIME_TODSER_CFG, .TIME_TSQ_ENTRY,
      .TIME_TSQ_STAT, .TIME_UTC];
  (Keeps .fastoffResume [.opt] [.TGT_STAT]) ∧
  (∀ (e : Fin 256), Keeps (.cntListSet e) [.mbx, .aqReplies] [.CNT_LIST]) ∧
  (∀ (e : Fin 256), Keeps (.cntListRun e) [.mbx, .aqReplies, .reader] [.CNT_RD_CTL, .CNT_RD_STAT, .CNT_RD_T_FIRST]) ∧
  (∀ (e : Fin 256),
     Keeps (.cntBankSet e) [.mbx, .aqReplies] [.CNT_ADDR_HI, .CNT_ADDR_LO, .CNT_BANK_CTL, .CNT_SEL, .CNT_VAL]) ∧
  (∀ (frac : Fin 65536000) (errA errB : Fin 32769),
     Keeps (.ppsInEdge frac errA errB) [.freeIx, .events, .rate, .mbx, .aqReplies, .time] [.CNT_BANK_OVF,
       .CNT_CAUSE, .CNT_DIE_CAUSE, .TIME_CAUSE, .TIME_FREQ, .TIME_OFFSET, .TIME_PPS_IN_TS, .TIME_STAT,
       .TIME_STEP_CNT]) ∧
  (Keeps .ppsInMiss [.events, .time] [.TIME_CAUSE, .TIME_STAT]) ∧
  (Keeps .hostValidityTimeout [.events, .time] [.TIME_CAUSE, .TIME_STAT]) ∧
  (Keeps .insoleSrcInvalid [.events, .time] [.TIME_CAUSE, .TIME_STAT]) ∧
  (Keeps .timeAlignSend [.freeIx, .events, .rate, .time] [.CNT_BANK_CTL, .CNT_BANK_OVF, .CNT_CAUSE,
     .CNT_DIE_CAUSE, .CNT_VAL]) ∧
  (∀ (frac : Fin 65536000),
     Keeps (.timeAlignMsg frac) [.freeIx, .events, .rate, .time] [.CNT_BANK_CTL, .CNT_BANK_OVF, .CNT_CAUSE,
       .CNT_DIE_CAUSE, .CNT_VAL, .TIME_ALIGN_OFS, .TIME_CAUSE, .TIME_FREQ, .TIME_STAT, .TIME_STEP_CNT]) ∧
  (Keeps .timeAlignTimeout [.events, .rate, .time] [.TIME_ALIGN_LOSS_CNT, .TIME_CAUSE, .TIME_STAT]) ∧
  (∀ (die : Fin 2), Keeps (.timeResResume die) [.time] []) ∧
  (∀ (p : Fin 8) (fromHost : Bool) (x : PtpPass),
     Keeps (.ptpEventMessage p fromHost x) [.events, .rate, .time] [.CNT_BANK_OVF, .CNT_CAUSE, .CNT_DIE_CAUSE,
       .TIME_CAUSE, .TIME_CF_SAT_CNT, .TIME_CORR_CNT, .TIME_CTX_ALLOC_CNT, .TIME_CTX_EVICT_CNT,
       .TIME_CTX_EXPIRE_CNT, .TIME_CTX_STAT, .TIME_DISCARD_CNT, .TIME_PORT_STAT, .TIME_RES_CHECK_CNT,
       .TIME_RES_LAST_HL, .TIME_RES_LAST_LH, .TIME_TSQ_STAT] ∧
     KeepsElsewhere (.ptpEventMessage p fromHost x) (fun _ u _ => u = p.val) [.TIME_CORR_CNT, .TIME_CTX_ALLOC_CNT,
       .TIME_DISCARD_CNT, .TIME_RES_CHECK_CNT, .TIME_RES_LAST_HL, .TIME_RES_LAST_LH]) ∧
  (∀ (p : Fin 8) (fromHost : Bool) (x : PtpPass),
     Keeps (.ptpGeneralMessage p fromHost x) [.freeIx, .events, .rate, .time] [.CNT_BANK_OVF, .CNT_CAUSE,
       .CNT_DIE_CAUSE, .MEM_CAUSE, .MEM_ERR_INFO, .MEM_ERR_LOC, .MEM_UNCORR_CNT, .TIME_CAUSE, .TIME_CF_SAT_CNT,
       .TIME_CORR_CNT, .TIME_CTX_STAT, .TIME_DISCARD_CNT, .TIME_ORPHAN_CNT, .TIME_PORT_STAT] ∧
     KeepsElsewhere (.ptpGeneralMessage p fromHost x) (fun _ u _ => u = p.val) [.TIME_CORR_CNT, .TIME_DISCARD_CNT,
       .TIME_ORPHAN_CNT]) ∧
  (∀ (p : Fin 8),
     Keeps (.ctxExpire p) [.events, .rate, .time] [.TIME_CAUSE, .TIME_CTX_EXPIRE_CNT, .TIME_CTX_STAT,
       .TIME_PORT_STAT] ∧
     KeepsElsewhere (.ctxExpire p) (fun _ u _ => u = p.val) [.TIME_CTX_EXPIRE_CNT]) ∧
  (∀ (g : Fin 8) (fit : RangeFit), Keeps (.rangeUpdate g fit) [.events, .time] []) ∧
  (Keeps .ppsOutRise [.time] []) ∧ (Keeps .ppsOutFall [.time] []) ∧ (Keeps .todTimeMessage [.time] []) ∧
  (∀ (bytes : List (BitVec 8)),
     Keeps (.todNextMessage bytes) [.events, .rate, .time] [.TIME_CAUSE, .TIME_TODRX_ERR_CNT]) ∧
  (∀ (e : Fin 256),
     Keeps (.timeSetSource e) [.mem, .islands, .events, .draining, .mbx, .aqReplies, .ctl, .time] [.INS_CFG,
       .PWR_STATE, .TIME_ALIGN_LOSS_CNT, .TIME_ALIGN_OFS, .TIME_CAUSE, .TIME_CF_SAT_CNT, .TIME_CORR_CNT,
       .TIME_CTX_ALLOC_CNT, .TIME_CTX_EVICT_CNT, .TIME_CTX_EXPIRE_CNT, .TIME_CTX_STAT, .TIME_DISCARD_CNT,
       .TIME_EN, .TIME_FAR_RXDLY, .TIME_FAR_TXDLY, .TIME_FREQ, .TIME_LANE_RXDLY, .TIME_LANE_TXDLY, .TIME_OFFSET,
       .TIME_ORPHAN_CNT, .TIME_PORT_CFG, .TIME_PORT_CTL, .TIME_PORT_HDLY, .TIME_PORT_STAT, .TIME_PPS_CFG,
       .TIME_PPS_IN_TS, .TIME_PPS_OFS, .TIME_RES_CHECK_CNT, .TIME_RES_LAST_HL, .TIME_RES_LAST_LH, .TIME_SRC_CFG,
       .TIME_STAT, .TIME_STEP_CNT, .TIME_TOD, .TIME_TODRX_ERR_CNT, .TIME_TODSER_CFG, .TIME_TSQ_ENTRY,
       .TIME_TSQ_STAT, .TIME_UTC] ∧
     KeepsWords (.timeSetSource e) (fun _ a => 0x100000000 ≤ a)) ∧
  (∀ (e : Fin 256),
     Keeps (.timeSet e) [.events, .rate, .mbx, .aqReplies, .time] [.CNT_BANK_OVF, .CNT_CAUSE, .CNT_DIE_CAUSE,
       .TIME_CAUSE, .TIME_STAT, .TIME_STEP_CNT]) ∧
  (∀ (e : Fin 256),
     Keeps (.timeAdj e) [.events, .rate, .mbx, .aqReplies, .time] [.CNT_BANK_OVF, .CNT_CAUSE, .CNT_DIE_CAUSE,
       .TIME_CAUSE, .TIME_FREQ, .TIME_STAT, .TIME_STEP_CNT]) ∧
  (∀ (e : Fin 256), Keeps (.timeStatus e) [.mbx, .aqReplies] []) ∧
  (∀ (e : Fin 256),
     Keeps (.timeSetDelay e) [.mbx, .aqReplies, .time] [.TIME_FAR_RXDLY, .TIME_FAR_TXDLY, .TIME_LANE_RXDLY,
       .TIME_LANE_TXDLY, .TIME_PORT_HDLY]) ∧
  (∀ (e : Fin 256), Keeps (.timeWlSet e) [.events, .mbx, .aqReplies, .time] []) ∧
  (∀ (e : Fin 256), Keeps (.timeModelSet e) [.events, .mbx, .aqReplies, .time] []) ∧
  (∀ (e : Fin 256), Keeps (.timeRangeReport e) [.mbx, .aqReplies] []) ∧
  (∀ (e : Fin 256), Keeps (.timeCtxFlush e) [.mbx, .aqReplies, .time] [.TIME_CTX_STAT, .TIME_PORT_STAT]) ∧
  (∀ (e : Fin 256),
     Keeps (.timePpsSet e) [.mem, .islands, .draining, .mbx, .aqReplies, .ctl, .time] rs0 ∧
     KeepsWords (.timePpsSet e) (fun _ a => 0x100000000 ≤ a)) ∧
  (∀ (e : Fin 256),
     Keeps (.timeTodserSet e) [.mem, .islands, .draining, .mbx, .aqReplies, .ctl, .time] rs0 ∧
     KeepsWords (.timeTodserSet e) (fun _ a => 0x100000000 ≤ a)) ∧
  (∀ (e : Fin 256), Keeps (.timePortSet e) [.mbx, .aqReplies] [.TIME_PORT_CTL]) ∧
  (∀ (l : Fin 48),
     Keeps (.loopTick l) [.events, .rate, .mbx, .aqReplies, .opt, .mon] [.CDAC_CH_STAT, .CDAC_CODE, .CDAC_OUT,
       .MON_CH_STAT, .MON_CH_VAL, .TGT_CAUSE, .TGT_LOOP_CHK, .TGT_LOOP_ERR, .TGT_LOOP_INTEG, .TGT_LOOP_MAN,
       .TGT_LOOP_MODE, .TGT_LOOP_OUT, .TGT_LOOP_PV, .TGT_LOOP_RSP, .TGT_LOOP_STAT] ∧
     KeepsElsewhere (.loopTick l) (fun _ _ i => i = l.val) [.TGT_LOOP_CHK, .TGT_LOOP_ERR, .TGT_LOOP_MODE,
       .TGT_LOOP_PV, .TGT_LOOP_STAT]) ∧
  (∀ (l : Fin 48) (data : W32), Keeps (.tgtModeRequest l data) [.opt] []) ∧
  (∀ (l : Fin 48) (data : W32),
     Keeps (.tgtSpWrite l data) [] [.TGT_LOOP_SP, .TGT_LOOP_STAT] ∧
     KeepsElsewhere (.tgtSpWrite l data) (fun _ _ i => i = l.val) [.TGT_LOOP_SP, .TGT_LOOP_STAT]) ∧
  (∀ (e : Fin 256),
     Keeps (.tgtLoopCfg e) [.mbx, .aqReplies] [.TGT_LOOP_CFG, .TGT_LOOP_RAMP, .TGT_LOOP_SHIFT, .TGT_LOOP_TIME] ∧
     KeepsElsewhere (.tgtLoopCfg e) (fun s _ i => i = (s.params e).byte 0) [.TGT_LOOP_CFG, .TGT_LOOP_RAMP,
       .TGT_LOOP_SHIFT, .TGT_LOOP_TIME]) ∧
  (∀ (e : Fin 256),
     Keeps (.tgtLoopGains e) [.mbx, .aqReplies] [.TGT_LOOP_KD, .TGT_LOOP_KF, .TGT_LOOP_KI, .TGT_LOOP_KP,
       .TGT_LOOP_SHIFT] ∧
     KeepsElsewhere (.tgtLoopGains e) (fun s _ i => i = (s.params e).byte 0) [.TGT_LOOP_KI, .TGT_LOOP_KP]) ∧
  (∀ (e : Fin 256),
     Keeps (.tgtLoopLimits e) [.mbx, .aqReplies] [.TGT_LOOP_FBMAX, .TGT_LOOP_FBMIN, .TGT_LOOP_OUTLIM,
       .TGT_LOOP_RSP, .TGT_LOOP_SPMAX, .TGT_LOOP_SPMIN, .TGT_LOOP_STAT] ∧
     KeepsElsewhere (.tgtLoopLimits e) (fun s _ i => i = (s.params e).byte 0) [.TGT_LOOP_FBMAX, .TGT_LOOP_FBMIN,
       .TGT_LOOP_OUTLIM, .TGT_LOOP_SPMAX, .TGT_LOOP_SPMIN]) ∧
  (∀ (e : Fin 256), Keeps (.tgtSetMode e) [.mbx, .aqReplies, .opt] []) ∧
  (∀ (e : Fin 256),
     Keeps (.tgtSetSp e) [.mbx, .aqReplies] [.TGT_LOOP_SP, .TGT_LOOP_STAT] ∧
     KeepsElsewhere (.tgtSetSp e) (fun s _ i => i = (s.params e).byte 0) [.TGT_LOOP_SP, .TGT_LOOP_STAT]) ∧
  (∀ (e : Fin 256), Keeps (.tgtStatus e) [.mbx, .aqReplies] []) ∧
  (∀ (e : Fin 256), Keeps (.tgtClearFlags e) [.mbx, .aqReplies] [.TGT_LOOP_STAT]) ∧
  (∀ (n : Fin 32) (data : W32),
     Keeps (.cdacCfgWrite n data) [.events] [.CDAC_CAUSE, .CDAC_CFG, .CDAC_CH_STAT, .CDAC_OUT, .TGT_CAUSE,
       .TGT_LOOP_MODE, .TGT_LOOP_STAT] ∧
     KeepsElsewhere (.cdacCfgWrite n data) (fun _ _ i => i = n.val) [.CDAC_CFG]) ∧
  (∀ (n : Fin 32) (data : W32),
     Keeps (.cdacCodeWrite n data) [.opt] [.CDAC_CAUSE, .CDAC_CH_STAT, .CDAC_CODE, .CDAC_OUT] ∧
     KeepsElsewhere (.cdacCodeWrite n data) (fun _ _ i => i = n.val) [.CDAC_CH_STAT, .CDAC_CODE]) ∧
  (∀ (data : W32), Keeps (.softwareStrobe data) [.opt] [.CDAC_CH_STAT, .CDAC_OUT]) ∧
  (∀ (e : Fin 256),
     Keeps (.cdacCfg e) [.events, .mbx, .aqReplies] [.CDAC_CFG, .CDAC_LIM, .CDAC_OUT, .CDAC_SAFE, .TGT_CAUSE,
       .TGT_LOOP_MODE, .TGT_LOOP_STAT] ∧
     KeepsElsewhere (.cdacCfg e) (fun s _ i => i = (s.params e).byte 0) [.CDAC_CFG, .CDAC_LIM, .CDAC_SAFE]) ∧
  (∀ (e : Fin 256),
     Keeps (.cdacSetCode e) [.mbx, .aqReplies, .opt] [.CDAC_CH_STAT, .CDAC_CODE, .CDAC_OUT] ∧
     KeepsElsewhere (.cdacSetCode e) (fun s _ i => i = (s.params e).byte 0) [.CDAC_CH_STAT, .CDAC_CODE]) ∧
  (∀ (e : Fin 256), Keeps (.cdacGroup e) [.mbx, .aqReplies] [.CDAC_GROUP]) ∧
  (∀ (e : Fin 256), Keeps (.cdacStrobe e) [.mbx, .aqReplies, .opt] [.CDAC_CH_STAT, .CDAC_OUT]) ∧
  (∀ (e : Fin 256),
     Keeps (.sineCfg e) [.mbx, .aqReplies] [.SINE_AMP, .SINE_CTL, .SINE_FTW] ∧
     KeepsElsewhere (.sineCfg e) (fun s _ i => i = (s.params e).byte 0) [.SINE_AMP, .SINE_CTL, .SINE_FTW]) ∧
  (∀ (e : Fin 256), Keeps (.penSet e) [.mbx, .pwr, .aqReplies] [.CDAC_PEN, .CDAC_PEN_STAT, .PWR_PG_STAT]) ∧
  (∀ (e : Fin 256), Keeps (.cdacStatus e) [.mbx, .aqReplies] []) ∧
  (∀ (g : Fin 8),
     Keeps (.sineStop g) [.opt, .mon] [.CDAC_OUT, .MON_CH_STAT, .MON_CH_VAL, .SINE_STAT] ∧
     KeepsElsewhere (.sineStop g) (fun _ _ i => i = g.val) [.SINE_STAT]) ∧
  (∀ (within : Bool), Keeps (.cdacRefFault within) [.events] [.CDAC_CAUSE, .CDAC_STAT]) ∧
  (∀ (raw : BitVec 16),
     Keeps (.monConversion raw) [.freeIx, .events, .rate, .mbx, .aqReplies, .mon] [.MON_CAUSE, .MON_CHK_FAIL_CNT,
       .MON_CHK_STAT, .MON_CH_STAT, .MON_IN_LAST, .MON_OD_RES, .MON_OD_STAT, .MON_SKIP_CNT, .MON_STAT]) ∧
  (∀ (c : Fin 32),
     Keeps (.monPublish c) [.mon] [.MON_CH_STAT, .MON_CH_VAL] ∧
     KeepsElsewhere (.monPublish c) (fun _ _ i => i = c.val) [.MON_CH_VAL]) ∧
  (∀ (c : Fin 32),
     Keeps (.fadeEnd c) [] [.MON_CAUSE, .MON_CH_STAT] ∧
     KeepsElsewhere (.fadeEnd c) (fun _ _ i => i = c.val) [.MON_CH_STAT]) ∧
  (Keeps .chkFault [.events, .rate] [.MON_CAUSE, .MON_CHK_FAIL_CNT, .MON_STAT]) ∧
  (Keeps .chkOk [.events] [.MON_CAUSE, .MON_STAT]) ∧
  (∀ (run : Bool), Keeps (.run run) [.mbx, .aqReplies, .mon] [.MON_CTL, .MON_OD_STAT, .MON_STAT]) ∧
  (Keeps .slotCommit [.mon] [.MON_CAUSE, .MON_STAT]) ∧
  (Keeps .slotTableApply [.freeIx, .events, .mbx, .aqReplies, .mon] [.MON_CAUSE, .MON_CH_GD, .MON_CH_PERIOD,
     .MON_CH_STAT, .MON_CH_VAL, .MON_IN_CAL, .MON_SLOT, .MON_STAT]) ∧
  (∀ (data : W32), Keeps (.diagStart data) [.mon] [.MON_CAUSE, .MON_CHK_CTL]) ∧
  (Keeps .diagDone [.mbx, .aqReplies, .mon] [.MON_CAUSE, .MON_CHK_CTL, .MON_DIAG_RES, .MON_STAT]) ∧
  (Keeps .monCalAverageDone [.events, .mbx, .aqReplies, .mon] [.MON_CAUSE, .MON_IN_CAL, .MON_IN_GAIN,
     .MON_IN_ZERO, .MON_STAT]) ∧
  (∀ (c : Fin 32) (data : W32),
     Keeps (.firCommit c data) [.mon] [.MON_CAUSE, .MON_CH_STAT] ∧
     KeepsElsewhere (.firCommit c data) (fun _ _ i => i = c.val) [.MON_CH_STAT]) ∧
  (∀ (e : Fin 256), Keeps (.monSlotSet e) [.mbx, .aqReplies] [.MON_SLOT_SH]) ∧
  (∀ (e : Fin 256), Keeps (.monSlotCommit e) [.mbx, .aqReplies, .mon] [.MON_CAUSE, .MON_STAT]) ∧
  (∀ (e : Fin 256),
     Keeps (.monChCfg e) [.freeIx, .mbx, .aqReplies, .mon] [.MON_CH_CFG, .MON_CH_DEC, .MON_CH_GD, .MON_CH_PERIOD,
       .MON_CH_PHASE, .MON_CH_STAT, .MON_CH_VAL] ∧
     KeepsElsewhere (.monChCfg e) (fun s _ i => i = (s.params e).byte 0) [.MON_CH_CFG, .MON_CH_DEC, .MON_CH_GD,
       .MON_CH_PERIOD, .MON_CH_PHASE]) ∧
  (∀ (e : Fin 256), Keeps (.monFirSet e) [.mbx, .aqReplies] [.MON_CH_STAT, .MON_FIRA, .MON_FIRB]) ∧
  (∀ (e : Fin 256),
     Keeps (.monFirCommit e) [.mbx, .aqReplies, .mon] [.MON_CAUSE, .MON_CH_STAT] ∧
     KeepsElsewhere (.monFirCommit e) (fun s _ i => i = (s.params e).byte 0) [.MON_CH_STAT]) ∧
  (∀ (e : Fin 256), Keeps (.monConvert e) [.mbx, .aqReplies, .mon] [.MON_OD_RES, .MON_OD_STAT]) ∧
  (∀ (e : Fin 256), Keeps (.monCalZero e) [.mbx, .aqReplies, .mon] [.MON_STAT]) ∧
  (∀ (e : Fin 256), Keeps (.monCalFs e) [.mbx, .aqReplies, .mon] [.MON_STAT]) ∧
  (∀ (e : Fin 256), Keeps (.monChkDiag e) [.mbx, .aqReplies, .mon] [.MON_CHK_CTL]) ∧
  (∀ (e : Fin 256), Keeps (.monChkSet e) [.mbx, .aqReplies, .mon] [.MON_CHK_CTL, .MON_CHK_TOL]) ∧
  (∀ (e : Fin 256), Keeps (.monStatus e) [.mbx, .aqReplies] []) ∧
  (Keeps .eventRecordArrival [.freeIx, .mem, .events, .rate, .mbx, .aqReplies, .ctl, .evr] [.EVR_CAUSE,
     .EVR_DROP_CNT, .EVR_EMG, .EVR_EMG_STAT, .EVR_FIFO_STAT, .EVR_FLUSHED_SEQ, .EVR_HEAD_SEQ, .EVR_STAT,
     .EVR_TAIL_SEQ] ∧
   KeepsWords .eventRecordArrival (fun _ a => ∃ q n, a = stageWord q n)) ∧
  (Keeps .flushAgeTimer [.evr] []) ∧
  (∀ (fail : Bool),
     Keeps (.ringRecordWrite fail) [.freeIx, .mem, .events, .rate, .mbx, .inits, .aqReplies, .ctl, .fenced, .evr]
       [.CNT_BANK_CTL, .CNT_BANK_OVF, .CNT_CAUSE, .CNT_DIE_CAUSE, .CNT_VAL, .EVR_BAD_SEG, .EVR_CAUSE,
       .EVR_DROP_CNT, .EVR_EMG, .EVR_EMG_STAT, .EVR_EN, .EVR_FIFO_STAT, .EVR_FLUSHED_SEQ, .EVR_HEAD_SEQ,
       .EVR_STAT, .EVR_TAIL_SEQ, .FEC_POOL_FENCED, .FEC_POOL_MAP, .FEC_POOL_STAT, .MEM_BKT_STAT, .MEM_CAUSE,
       .MEM_CORR_CNT, .MEM_ERR_INFO, .MEM_ERR_LOC, .MEM_HARD, .MEM_STAT, .MEM_UNCORR_CNT, .MGMT_IRQ_TOP_EN] ∧
     KeepsWords (.ringRecordWrite fail) (fun s a => (ringWord s.evr.place 0 ≤ a ∧ a < ringWord s.evr.place 4) ∨ ∃
       q n, a = stageWord q n)) ∧
  (Keeps .emergencyCopy [.mem, .mbx, .aqReplies, .ctl, .evr] [.EVR_EMG_STAT, .EVR_FIFO_STAT, .EVR_FLUSHED_SEQ,
     .EVR_HEAD_SEQ, .EVR_STAT, .EVR_TAIL_SEQ] ∧
   KeepsWords .emergencyCopy (fun _ a => ∃ q n, a = stageWord q n)) ∧
  (Keeps .recorderClockAlign [.freeIx, .evr] []) ∧ (Keeps .freezeLimit [.events, .evr] [.EVR_STAT]) ∧
  (∀ (e : Fin 256), Keeps (.evrFreeze e) [.events, .mbx, .aqReplies, .evr] [.EVR_STAT]) ∧
  (∀ (e : Fin 256), Keeps (.evrThaw e) [.events, .mbx, .aqReplies, .evr] [.EVR_STAT]) ∧
  (∀ (e : Fin 256), Keeps (.evrStatus e) [.mbx, .aqReplies] []) ∧
  (∀ (e : Fin 256), Keeps (.evrMark e) [.events, .mbx, .aqReplies] []) ∧
  (∀ (e : Fin 256), Keeps (.evrMarkTimeout e) [.mbx, .aqReplies] []) ∧
  (Keeps .ditherSample [.events, .rate, .opt, .mon] [.CDAC_CAUSE, .CDAC_CH_STAT, .CDAC_OUT, .MON_CH_STAT,
     .MON_CH_VAL, .SINE_STAT])

/-- Rows of clocks, links, power, mailbox, modes, security, boot and CMIS leave alone all but the parts and
registers named. For every row of the clocks, welt links, power, thermal and memory integrity, mailbox, modes,
security, boot, calibration store, host interface and CMIS, whenever it answers a next state: the queue and every
part of the state and register not named with it are as they were, and so is every word of memory but those it
writes or whose island it turns off; a reset keeps the queue, the program sets and MRAM. (R34, R50, R333, R340,
R358, R392, R395) -/
def Obligations.ManagementCommandFrames : Prop :=
  let rs0 : List Reg :=
    [.CAL_CAUSE, .CDAC_OUT, .CDAC_PEN_STAT, .EVR_CAUSE, .EVR_EMG, .EVR_EMG_STAT, .HL_IDLE_STAT, .HL_STAT,
      .INS_CAUSE, .INS_CFG, .INS_STAT, .INS_TX_AMP, .LTX_CAL_ABORT_CNT, .LTX_CAL_RESULT0, .LTX_CAL_RESULT1,
      .LTX_CAL_STAT, .LTX_CAUSE, .LTX_DAC_TRIM, .LTX_DAC_TTRIM, .LTX_FIR_ACT, .LTX_LUT_ACT, .LTX_SQ_STAT,
      .LTX_STAT, .MGMT_IRQ_TOP_EN, .PWR_AVS_STAT, .PWR_CAUSE, .PWR_EN, .PWR_FAULT_INFO, .PWR_PG_STAT, .PWR_STATE];
  let rs1 : List Reg :=
    [.CAL_CAUSE, .CLK_LOCK, .FEC_AM_LOSS_CNT, .FEC_CAUSE, .FEC_EN, .FEC_FCS_ERR_CNT, .FEC_FRAME_CNT, .FEC_HCW_CNT,
      .FEC_HCW_CORR_CNT, .FEC_HCW_UNCORR_CNT, .FEC_HL_SYM_CNT, .FEC_HOLD_HL, .FEC_HOLD_LH, .FEC_HSYM_CORR_CNT,
      .FEC_INJ_CTL, .FEC_INNER_CORR_CNT, .FEC_INNER_UNCORR_CNT, .FEC_LCW_CNT, .FEC_LCW_CORR_CNT,
      .FEC_LCW_HIST_CNT, .FEC_LCW_UNCORR_CNT, .FEC_LL_SYM_CNT, .FEC_LSYM_CORR_CNT, .FEC_POOL_FENCED,
      .FEC_POOL_MAP, .FEC_POOL_STAT, .FEC_PORT_CFG, .FEC_PORT_STAT, .FEC_RA_ADJ_CNT, .FEC_SKEW,
      .FEC_SKEW_OVER_CNT, .FEC_SLIP_CNT, .FEC_STAT_CTL, .FEC_WAKE_DROP_CNT, .HIF_STAT, .HIF_WIN_BASE,
      .HIF_WIN_LIMIT, .HL_CAP_CTL, .HL_CAP_STAT, .HL_CAUSE, .HL_CDR_FOFS, .HL_CDR_UNLOCK_CNT, .HL_CFG,
      .HL_CHK_ERR_CNT, .HL_CHK_SYM_CNT, .HL_EN, .HL_IDLE_STAT, .HL_LB_SLIP_CNT, .HL_RAW_PAT, .HL_RX_EQ_CTL,
      .HL_RX_EQ_STAT, .HL_RX_FFE, .HL_SIGDET_CTL, .HL_SIG_LOSS_CNT, .HL_SLIP, .HL_SLIP_POS, .HL_STAT, .HL_TX_EQ,
      .HL_TX_EQ_EFF, .HL_WAKE_CNT, .INS_CAUSE, .INS_CFG, .INS_MSG_FAIL_CNT, .INS_MSG_STAT, .INS_STAT, .INS_TX_AMP,
      .LRX_ADC_TRIM, .LRX_ADC_TTRIM, .LRX_AFE_CTL, .LRX_CAL_ABORT_CNT, .LRX_CAL_RESULT0, .LRX_CAL_RESULT1,
      .LRX_CAL_STAT, .LRX_CAUSE, .LRX_CDR_CTL, .LRX_CDR_FOFS, .LRX_CDR_UNLOCK_CNT, .LRX_CFG, .LRX_DET_CTL,
      .LRX_EN, .LRX_FFE_COEF, .LRX_HIST_CTL, .LRX_HIST_STAT, .LRX_LEVEL, .LRX_SIGDET_CTL, .LRX_SIG_LOSS_CNT,
      .LRX_SIG_PWR, .LRX_SNR, .LRX_STAT, .LRX_THR, .LRX_VNLE_KERN, .LTX_CAL_ABORT_CNT, .LTX_CAL_RESULT0,
      .LTX_CAL_RESULT1, .LTX_CAL_STAT, .LTX_CAUSE, .LTX_CFG, .LTX_CHK_ERR_CNT, .LTX_CHK_SYM_CNT, .LTX_CLIP_CNT,
      .LTX_CTL, .LTX_DAC_TRIM, .LTX_DAC_TTRIM, .LTX_EN, .LTX_FIR_ACT, .LTX_FIR_COEF, .LTX_LB_SLIP_CNT, .LTX_LUT,
      .LTX_LUT_ACT, .LTX_SQ_STAT, .LTX_STAT, .LTX_TEST_CTL, .PWR_STATE, .RACK_BANK_CONF_CNT, .RACK_BUS_WAIT_CNT,
      .RACK_CAUSE, .RACK_CTL, .RACK_CYC_CNT, .RACK_DUTY_GATED_CNT, .RACK_EN, .RACK_LAST_PC, .RACK_LAST_TRAP,
      .RACK_PROG_ID, .RACK_REPORT, .RACK_SLOT_BACK_CNT, .RACK_SLOT_FRONT_CNT, .RACK_SLOT_RET_CNT,
      .RACK_SLOT_WASTE_CNT, .RACK_STAT, .RACK_TAG_CTL, .RACK_TAG_REC, .RACK_TAG_STAT, .RACK_TW_OVR_CNT,
      .RACK_YIELD_CNT, .TIME_ALIGN_LOSS_CNT, .TIME_ALIGN_OFS, .TIME_CAUSE, .TIME_CF_SAT_CNT, .TIME_CORR_CNT,
      .TIME_CTX_ALLOC_CNT, .TIME_CTX_EVICT_CNT, .TIME_CTX_EXPIRE_CNT, .TIME_CTX_STAT, .TIME_DISCARD_CNT, .TIME_EN,
      .TIME_FAR_RXDLY, .TIME_FAR_TXDLY, .TIME_FREQ, .TIME_LANE_RXDLY, .TIME_LANE_TXDLY, .TIME_OFFSET,
      .TIME_ORPHAN_CNT, .TIME_PORT_CFG, .TIME_PORT_CTL, .TIME_PORT_HDLY, .TIME_PORT_STAT, .TIME_PPS_CFG,
      .TIME_PPS_IN_TS, .TIME_PPS_OFS, .TIME_RES_CHECK_CNT, .TIME_RES_LAST_HL, .TIME_RES_LAST_LH, .TIME_SRC_CFG,
      .TIME_STAT, .TIME_STEP_CNT, .TIME_TOD, .TIME_TODRX_ERR_CNT, .TIME_TODSER_CFG, .TIME_TSQ_ENTRY,
      .TIME_TSQ_STAT, .TIME_UTC, .WELT_AB_ALLOC];
  let rs2 : List Reg :=
    [.CAL_CAUSE, .CDAC_CAUSE, .CDAC_OUT, .CDAC_PEN_STAT, .CDAC_STAT, .CNT_BANK_OVF, .CNT_CAUSE, .CNT_DIE_CAUSE,
      .FEC_CAUSE, .FEC_SKEW, .HIF_STAT, .HIF_WIN_BASE, .HL_IDLE_STAT, .HL_SLIP_POS, .HL_STAT, .INS_CAUSE,
      .INS_CFG, .INS_STAT, .INS_TX_AMP, .LTX_CAL_ABORT_CNT, .LTX_CAL_RESULT0, .LTX_CAL_RESULT1, .LTX_CAL_STAT,
      .LTX_CAUSE, .LTX_DAC_TRIM, .LTX_DAC_TTRIM, .LTX_FIR_ACT, .LTX_LUT_ACT, .LTX_SQ_STAT, .LTX_STAT, .PWR_CAUSE,
      .PWR_FASTOFF_CNT, .PWR_PG_STAT, .PWR_STATE, .TGT_CAUSE, .TGT_LOOP_MODE, .TGT_LOOP_STAT, .TGT_STAT];
  let rs3 : List Reg :=
    [.CAL_CAUSE, .CDAC_OUT, .CDAC_PEN_STAT, .CLK_LOCK, .EVR_CAUSE, .EVR_EMG, .EVR_EMG_STAT, .HL_IDLE_STAT,
      .HL_STAT, .INS_CAUSE, .INS_CFG, .INS_STAT, .INS_TX_AMP, .LRX_CAUSE, .LRX_CFG, .LRX_STAT, .LTX_CAL_ABORT_CNT,
      .LTX_CAL_RESULT0, .LTX_CAL_RESULT1, .LTX_CAL_STAT, .LTX_CAUSE, .LTX_DAC_TRIM, .LTX_DAC_TTRIM, .LTX_FIR_ACT,
      .LTX_LUT_ACT, .LTX_SQ_STAT, .LTX_STAT, .MGMT_IRQ_TOP_EN, .PWR_AVS_STAT, .PWR_CAUSE, .PWR_EN,
      .PWR_FAULT_INFO, .PWR_PG_STAT, .PWR_STATE, .RACK_STAT, .THM_CAUSE, .THM_STAT, .THM_TS, .THM_ZONE_CFG,
      .THM_ZONE_STAT, .TIME_STAT];
  (∀ (row : Fin 8192),
     Keeps (.mramRemapDone row) [.mem, .ctl] [.MEM_STAT] ∧ KeepsWords (.mramRemapDone row) nowhere) ∧
  (∀ (row : Fin 8192), Keeps (.mramRowRefresh row) [.mem, .ctl] [] ∧ KeepsWords (.mramRowRefresh row) nowhere) ∧
  (∀ (loc : MemLoc) (upset : W72),
     Keeps (.scrubStep loc upset) [.freeIx, .mem, .events, .rate, .ctl, .fenced, .evr] [.CNT_BANK_CTL,
       .CNT_BANK_OVF, .CNT_CAUSE, .CNT_DIE_CAUSE, .CNT_VAL, .EVR_CAUSE, .EVR_EMG, .EVR_EMG_STAT, .EVR_EN,
       .EVR_STAT, .FEC_POOL_FENCED, .FEC_POOL_MAP, .FEC_POOL_STAT, .MEM_BKT_STAT, .MEM_CAUSE, .MEM_CORR_CNT,
       .MEM_ERR_INFO, .MEM_ERR_LOC, .MEM_HARD, .MEM_STAT, .MEM_UNCORR_CNT, .MGMT_IRQ_TOP_EN] ∧
     KeepsWords (.scrubStep loc upset) (fun _ a => a = locOf loc / 8 * 8 ∨ a = locOf loc)) ∧
  (∀ (die : Fin 3) (region : Fin 8), Keeps (.bucketLeak die region) [.ctl] [.MEM_BKT_STAT]) ∧
  (∀ (path : FlitPath) (data : W64) (flips : W72),
     Keeps (.flitReceive path data flips) [.events, .rate, .links, .onDie] [.WELT_CAUSE, .WELT_CORR_CNT]) ∧
  (∀ (path : FlitPath) (cls : MsgClass) (n : Fin 64), Keeps (.creditReturn path cls n) [.links, .onDie] []) ∧
  (∀ (link : Fin 3) (toMgmt : Bool) (flit : Nat),
     Keeps (.replayRequest link toMgmt flit) [.events, .rate, .links] [.WELT_CAUSE, .WELT_REPLAY_CNT]) ∧
  (∀ (link : Fin 3) (die : Fin 2), Keeps (.replayBurst link die) [.events, .links] [.WELT_CAUSE, .WELT_STAT]) ∧
  (∀ (link : Fin 3) (up : Bool),
     Keeps (.linkRetrainDone link up) [.freeIx, .events, .rate, .links, .mode, .mbx, .pwr, .aqReplies, .lines,
       .fec, .ins, .time, .evr] [.CAL_CAUSE, .CDAC_OUT, .CDAC_PEN_STAT, .EVR_CAUSE, .EVR_EMG, .EVR_EMG_STAT,
       .FEC_CAUSE, .FEC_PORT_STAT, .FEC_SKEW, .HL_IDLE_STAT, .HL_SLIP_POS, .HL_STAT, .INS_CAUSE, .INS_CFG,
       .INS_STAT, .INS_TX_AMP, .LTX_CAL_ABORT_CNT, .LTX_CAL_RESULT0, .LTX_CAL_RESULT1, .LTX_CAL_STAT, .LTX_CAUSE,
       .LTX_DAC_TRIM, .LTX_DAC_TTRIM, .LTX_FIR_ACT, .LTX_LUT_ACT, .LTX_SQ_STAT, .LTX_STAT, .MGMT_IRQ_TOP_EN,
       .PWR_AVS_STAT, .PWR_CAUSE, .PWR_EN, .PWR_FAULT_INFO, .PWR_PG_STAT, .PWR_STATE, .TIME_ALIGN_LOSS_CNT,
       .TIME_CAUSE, .TIME_STAT, .WELT_CAUSE, .WELT_STAT]) ∧
  (∀ (die n : Fin 2), Keeps (.weltRetrain die n) [.links] [.WELT_STAT]) ∧
  (∀ (die : Fin 2) (en : Bool),
     Keeps (.weltAbEn die en) [.freeIx, .events, .rate, .links, .mode, .mbx, .aqReplies, .lines, .fec, .ins]
       [.CAL_CAUSE, .FEC_CAUSE, .FEC_PORT_STAT, .FEC_SKEW, .HL_IDLE_STAT, .HL_SLIP_POS, .HL_STAT, .INS_CAUSE,
       .INS_CFG, .INS_STAT, .INS_TX_AMP, .LTX_CAL_ABORT_CNT, .LTX_CAL_RESULT0, .LTX_CAL_RESULT1, .LTX_CAL_STAT,
       .LTX_CAUSE, .LTX_DAC_TRIM, .LTX_DAC_TTRIM, .LTX_FIR_ACT, .LTX_LUT_ACT, .LTX_SQ_STAT, .LTX_STAT, .WELT_CTL,
       .WELT_STAT]) ∧
  (∀ (die : Fin 2),
     Keeps (.interruptSummary die) [.freeIx, .events, .rate] [.CNT_BANK_CTL, .CNT_BANK_OVF, .CNT_CAUSE,
       .CNT_DIE_CAUSE, .CNT_VAL, .MGMT_IRQ_CORE_A, .MGMT_IRQ_CORE_B]) ∧
  (∀ (die : Fin 3) (bit : Fin 8),
     Keeps (.pllLossOfLock die bit) [.freeIx, .islands, .events, .rate, .links, .mode, .mbx, .pwr, .aqReplies,
       .lines, .fec, .ins, .time, .evr] [.CAL_CAUSE, .CDAC_OUT, .CDAC_PEN_STAT, .CLK_CAUSE, .CLK_LOCK, .EVR_CAUSE,
       .EVR_EMG, .EVR_EMG_STAT, .FEC_AM_LOSS_CNT, .FEC_CAUSE, .FEC_PORT_STAT, .FEC_SKEW, .HL_CAUSE,
       .HL_CDR_UNLOCK_CNT, .HL_IDLE_STAT, .HL_SLIP_POS, .HL_STAT, .INS_CAUSE, .INS_CFG, .INS_MSG_FAIL_CNT,
       .INS_MSG_STAT, .INS_STAT, .INS_TX_AMP, .LRX_ADC_TRIM, .LRX_ADC_TTRIM, .LRX_CAL_ABORT_CNT, .LRX_CAL_RESULT0,
       .LRX_CAL_RESULT1, .LRX_CAL_STAT, .LRX_CAUSE, .LRX_CDR_UNLOCK_CNT, .LRX_STAT, .LTX_CAL_ABORT_CNT,
       .LTX_CAL_RESULT0, .LTX_CAL_RESULT1, .LTX_CAL_STAT, .LTX_CAUSE, .LTX_DAC_TRIM, .LTX_DAC_TTRIM, .LTX_FIR_ACT,
       .LTX_LUT_ACT, .LTX_SQ_STAT, .LTX_STAT, .MGMT_IRQ_TOP_EN, .PWR_AVS_STAT, .PWR_CAUSE, .PWR_EN,
       .PWR_FAULT_INFO, .PWR_PG_STAT, .PWR_STATE, .TIME_CAUSE, .TIME_STAT, .WELT_STAT]) ∧
  (∀ (die : Fin 3) (bit : Fin 9),
     Keeps (.pllLock die bit) [.freeIx, .islands, .events, .rate, .draining, .pllArmed, .mode, .mbx, .pwr,
       .aqReplies, .lines, .lasts, .fec, .ins, .time] [.CAL_CAUSE, .CLK_LOCK, .FEC_CAUSE, .FEC_SKEW,
       .HL_IDLE_STAT, .HL_SLIP_POS, .HL_STAT, .INS_CAUSE, .INS_CFG, .INS_STAT, .INS_TX_AMP, .LTX_CAL_ABORT_CNT,
       .LTX_CAL_RESULT0, .LTX_CAL_RESULT1, .LTX_CAL_STAT, .LTX_CAUSE, .LTX_DAC_TRIM, .LTX_DAC_TTRIM, .LTX_FIR_ACT,
       .LTX_LUT_ACT, .LTX_SQ_STAT, .LTX_STAT, .TIME_STAT]) ∧
  (Keeps .refclkAbsent2us [] [.CLK_CAUSE, .CLK_LOCK]) ∧
  (Keeps .refclkLost [.freeIx, .events, .rate, .mbx, .pwr, .aqReplies, .lines, .ins, .evr] [.CAL_CAUSE, .CDAC_OUT,
     .CDAC_PEN_STAT, .CLK_CAUSE, .CLK_LOCK, .EVR_CAUSE, .EVR_EMG, .EVR_EMG_STAT, .HL_IDLE_STAT, .HL_STAT,
     .INS_CAUSE, .INS_CFG, .INS_STAT, .INS_TX_AMP, .LTX_CAL_ABORT_CNT, .LTX_CAL_RESULT0, .LTX_CAL_RESULT1,
     .LTX_CAL_STAT, .LTX_CAUSE, .LTX_DAC_TRIM, .LTX_DAC_TTRIM, .LTX_FIR_ACT, .LTX_LUT_ACT, .LTX_SQ_STAT,
     .LTX_STAT, .MGMT_IRQ_TOP_EN, .PWR_AVS_STAT, .PWR_CAUSE, .PWR_EN, .PWR_FAULT_INFO, .PWR_PG_STAT, .PWR_STATE]) ∧
  (Keeps .refclkStartTimeout [.freeIx, .events, .rate, .mbx, .pwr, .aqReplies, .lines, .ins, .evr] rs0) ∧
  (∀ (e : Fin 256), Keeps (.modeBegin e) [.mode, .mbx, .aqReplies] []) ∧
  (∀ (e : Fin 256), Keeps (.modeStagePort e) [.mode, .mbx, .aqReplies] []) ∧
  (∀ (e : Fin 256), Keeps (.modeStageLane e) [.mode, .mbx, .aqReplies] []) ∧
  (∀ (e : Fin 256), Keeps (.modeStageDie e) [.mode, .mbx, .aqReplies] []) ∧
  (∀ (e : Fin 256), Keeps (.modeStageFibre e) [.mode, .mbx, .aqReplies] []) ∧
  (∀ (e : Fin 256), Keeps (.modeValidate e) [.events, .mode, .mbx, .aqReplies] []) ∧
  (∀ (e : Fin 256),
     Keeps (.modeApply e) [.freeIx, .mem, .islands, .events, .rate, .draining, .pllArmed, .mode, .mbx, .inits,
       .pwr, .aqReplies, .ctl, .lines, .racks, .lasts, .fec, .hosts, .ins, .time] rs1 ∧
     KeepsWords (.modeApply e) (fun _ a => 0x10000000 ≤ a)) ∧
  (Keeps .modeApplyComplete [.freeIx, .mem, .islands, .events, .rate, .draining, .mode, .mbx, .inits, .aqReplies,
     .ctl, .lines, .fec, .hosts, .ins, .time] [.CAL_CAUSE, .FEC_CAUSE, .FEC_PORT_CFG, .FEC_SKEW, .HL_CFG,
     .HL_IDLE_STAT, .HL_RX_EQ_CTL, .HL_RX_EQ_STAT, .HL_RX_FFE, .HL_SLIP_POS, .HL_STAT, .HL_TX_EQ, .HL_TX_EQ_EFF,
     .INS_CAUSE, .INS_CFG, .INS_CODE_PHASE, .INS_CRC_ERR_CNT, .INS_FOFS, .INS_HDR_ERR_CNT, .INS_IRQ_EN,
     .INS_LOCK_LOSS_CNT, .INS_METRIC, .INS_MSG_FAIL_CNT, .INS_MSG_RETX_CNT, .INS_MSG_STAT, .INS_RX_CFG,
     .INS_RX_DROP_CNT, .INS_RX_FRAME_CNT, .INS_RX_TS, .INS_RX_TS_Q, .INS_STAT, .INS_SYNC_CAPTURED_CNT,
     .INS_TX_AMP, .INS_TX_CFG, .INS_TX_FRAME_CNT, .INS_TX_TS, .LRX_CDR_FOFS, .LRX_CFG, .LRX_VNLE_KERN,
     .LTX_CAL_ABORT_CNT, .LTX_CAL_RESULT0, .LTX_CAL_RESULT1, .LTX_CAL_STAT, .LTX_CAUSE, .LTX_DAC_TRIM,
     .LTX_DAC_TTRIM, .LTX_FIR_ACT, .LTX_LUT_ACT, .LTX_SQ_STAT, .LTX_STAT, .PWR_CAUSE, .PWR_STATE, .TIME_CAUSE,
     .TIME_PORT_CFG, .TIME_PORT_STAT, .TIME_STAT] ∧
   KeepsWords .modeApplyComplete (fun _ a => 0x10000000 ≤ a)) ∧
  (∀ (e : Fin 256), Keeps (.modeAbort e) [.mode, .mbx, .aqReplies] []) ∧
  (∀ (e : Fin 256), Keeps (.modeRead e) [.mode, .mbx, .aqReplies] []) ∧
  (∀ (e : Fin 256), Keeps (.modePortStatus e) [.mbx, .aqReplies] []) ∧
  (Keeps .modeTxnExpired [.events, .mode] []) ∧
  (Keeps .fastoffAssert [.freeIx, .events, .rate, .mode, .mbx, .pwr, .aqReplies, .lines, .fec, .ins] [.CAL_CAUSE,
     .CDAC_CAUSE, .CDAC_OUT, .CDAC_PEN_STAT, .CDAC_STAT, .CNT_BANK_OVF, .CNT_CAUSE, .CNT_DIE_CAUSE, .FEC_CAUSE,
     .FEC_SKEW, .HL_IDLE_STAT, .HL_SLIP_POS, .HL_STAT, .INS_CAUSE, .INS_CFG, .INS_STAT, .INS_TX_AMP,
     .LTX_CAL_ABORT_CNT, .LTX_CAL_RESULT0, .LTX_CAL_RESULT1, .LTX_CAL_STAT, .LTX_CAUSE, .LTX_DAC_TRIM,
     .LTX_DAC_TTRIM, .LTX_FIR_ACT, .LTX_LUT_ACT, .LTX_SQ_STAT, .LTX_STAT, .PWR_CAUSE, .PWR_FASTOFF_CNT,
     .PWR_PG_STAT, .PWR_STATE, .TGT_CAUSE, .TGT_LOOP_MODE, .TGT_LOOP_STAT, .TGT_STAT]) ∧
  (Keeps .fastoffRelease [.freeIx, .events, .rate, .mode, .mbx, .pwr, .aqReplies, .opt, .lines, .fec, .ins]
     [.CAL_CAUSE, .CDAC_CAUSE, .CDAC_OUT, .CDAC_PEN_STAT, .CDAC_STAT, .FEC_CAUSE, .FEC_SKEW, .HL_IDLE_STAT,
     .HL_SLIP_POS, .HL_STAT, .INS_CAUSE, .INS_CFG, .INS_STAT, .INS_TX_AMP, .LTX_CAL_ABORT_CNT, .LTX_CAL_RESULT0,
     .LTX_CAL_RESULT1, .LTX_CAL_STAT, .LTX_CAUSE, .LTX_DAC_TRIM, .LTX_DAC_TTRIM, .LTX_FIR_ACT, .LTX_LUT_ACT,
     .LTX_SQ_STAT, .LTX_STAT, .PWR_CAUSE, .PWR_PG_STAT, .PWR_STATE, .TGT_STAT]) ∧
  (∀ (count : BitVec 12),
     Keeps (.i2cRead count) [.freeIx, .mem, .events, .rate, .ctl, .fenced, .i2c, .cmis] [.CNT_BANK_CTL,
       .CNT_BANK_OVF, .CNT_CAUSE, .CNT_DIE_CAUSE, .CNT_VAL, .FEC_POOL_FENCED, .FEC_POOL_MAP, .FEC_POOL_STAT,
       .HIF_CAUSE, .MEM_BKT_STAT, .MEM_CAUSE, .MEM_CORR_CNT, .MEM_ERR_INFO, .MEM_ERR_LOC, .MEM_HARD, .MEM_STAT,
       .MEM_UNCORR_CNT] ∧
     KeepsWords (.i2cRead count) nowhere) ∧
  (Keeps .i2cDoorbell [.freeIx, .mem, .events, .rate, .mbx, .ctl, .fenced] [.CNT_BANK_CTL, .CNT_BANK_OVF,
     .CNT_CAUSE, .CNT_DIE_CAUSE, .CNT_VAL, .FEC_POOL_FENCED, .FEC_POOL_MAP, .FEC_POOL_STAT, .MBX_CAUSE,
     .MBX_DB_REJ_CNT, .MBX_DB_REJ_INFO, .MBX_EYELET_STATE, .MBX_STAT, .MEM_BKT_STAT, .MEM_CAUSE, .MEM_CORR_CNT,
     .MEM_ERR_INFO, .MEM_ERR_LOC, .MEM_HARD, .MEM_STAT, .MEM_UNCORR_CNT] ∧
   KeepsWords .i2cDoorbell nowhere) ∧
  (Keeps .i2cBusTimeout [] []) ∧ (Keeps .spiStatus [.spi] []) ∧ (Keeps .spiId [.spi] []) ∧
  (∀ (bank : Fin 2) (paths : List (Fin 8 × Fin 4 × Fin 16)),
     Keeps (.cmisApplyDpInit bank paths) [.freeIx, .mem, .islands, .events, .rate, .draining, .pllArmed, .mode,
       .mbx, .inits, .pwr, .aqReplies, .ctl, .lines, .racks, .lasts, .fec, .hosts, .ins, .time, .cmis] rs1 ∧
     KeepsWords (.cmisApplyDpInit bank paths) (fun _ a => 0x10000000 ≤ a)) ∧
  (∀ (lane : Fin 16) (deinit : Bool),
     Keeps (.cmisDpDeinit lane deinit) [.freeIx, .mem, .islands, .events, .rate, .draining, .pllArmed, .mode,
       .mbx, .inits, .pwr, .aqReplies, .ctl, .lines, .racks, .lasts, .fec, .hosts, .ins, .time, .cmis] rs1 ∧
     KeepsWords (.cmisDpDeinit lane deinit) (fun _ a => 0x10000000 ≤ a)) ∧
  (∀ (lane : Fin 8) (disable : Bool),
     Keeps (.cmisOutputDisable lane disable) [.freeIx, .mem, .islands, .events, .rate, .draining, .pllArmed,
       .mode, .mbx, .inits, .pwr, .aqReplies, .ctl, .lines, .racks, .lasts, .fec, .hosts, .ins, .time, .cmis] rs1 ∧
     KeepsWords (.cmisOutputDisable lane disable) (fun _ a => 0x10000000 ≤ a)) ∧
  (∀ (supply : BitVec 16), Keeps (.cmisMonitorRefresh supply) [.cmis] [.HIF_CAUSE]) ∧
  (∀ (page : Fin 3) (bank : Fin 8), Keeps (.vendorPageUpdate page bank) [.cmis] []) ∧
  (Keeps .commandBegin [.mbx] [.MBX_EYELET_STATE, .MBX_STAT]) ∧
  (∀ (e : Fin 256),
     Keeps (.completionPost e) [.mem, .events, .mbx, .pwr, .ctl] [.MBX_CAUSE, .MBX_CR_PROD_PTR, .MBX_EYELET_STATE,
       .MBX_STAT] ∧
     KeepsWords (.completionPost e) (fun _ a => 0x4024000 ≤ a ∧ a < 0x4026000)) ∧
  (∀ (e : Fin 256),
     Keeps (.cmdTimeout e) [.events, .rate, .mbx] [.MBX_CAUSE, .MBX_EYELET_STATE, .MBX_STAT, .MBX_TIMEOUT_CNT]) ∧
  (∀ (e : Fin 256), Keeps (.mbxVersion e) [.mbx, .aqReplies] []) ∧
  (∀ (e : Fin 256), Keeps (.mbxEcho e) [.mbx, .aqReplies] []) ∧
  (∀ (e : Fin 256), Keeps (.hifWinOpen e) [.events, .mbx, .aqReplies] [.HIF_STAT, .HIF_WIN_BASE, .HIF_WIN_LIMIT]) ∧
  (∀ (e : Fin 256), Keeps (.hifWinClose e) [.mbx, .aqReplies] [.HIF_STAT, .HIF_WIN_BASE]) ∧
  (∀ (e : Fin 256), Keeps (.cmisCtl e) [.mbx, .aqReplies] [.HIF_STAT]) ∧
  (∀ (e : Fin 256),
     Keeps (.fwUpdateBegin e) [.freeIx, .mem, .mbx, .inits, .aqReplies, .ctl, .boot, .stage, .sec] [.HIF_STAT,
       .HIF_WIN_BASE, .HIF_WIN_LIMIT, .SEC_IMG_A, .SEC_IMG_B] ∧
     KeepsWords (.fwUpdateBegin e) (fun _ a => 0x1000000 ≤ a ∧ a < 0x1200000)) ∧
  (∀ (e : Fin 256) (fail : Option (Fin 8192)),
     Keeps (.fwUpdateChunk e fail) [.freeIx, .mem, .events, .rate, .mbx, .aqReplies, .ctl, .fenced]
       [.CNT_BANK_CTL, .CNT_BANK_OVF, .CNT_CAUSE, .CNT_DIE_CAUSE, .CNT_VAL, .FEC_POOL_FENCED, .FEC_POOL_MAP,
       .FEC_POOL_STAT, .MEM_BKT_STAT, .MEM_CAUSE, .MEM_CORR_CNT, .MEM_ERR_INFO, .MEM_ERR_LOC, .MEM_HARD,
       .MEM_STAT, .MEM_UNCORR_CNT] ∧
     KeepsWords (.fwUpdateChunk e fail) (fun s a => fwAddr s.spareSlot ≤ a ∧ a < fwAddr s.spareSlot + 0x200000)) ∧
  (∀ (e : Fin 256),
     Keeps (.fwUpdateEnd e) [.freeIx, .mem, .events, .rate, .mbx, .aqReplies, .ctl, .fenced, .boot, .stage, .sec]
       [.CNT_BANK_CTL, .CNT_BANK_OVF, .CNT_CAUSE, .CNT_DIE_CAUSE, .CNT_VAL, .FEC_POOL_FENCED, .FEC_POOL_MAP,
       .FEC_POOL_STAT, .HIF_STAT, .HIF_WIN_BASE, .MEM_BKT_STAT, .MEM_CAUSE, .MEM_CORR_CNT, .MEM_ERR_INFO,
       .MEM_ERR_LOC, .MEM_HARD, .MEM_STAT, .MEM_UNCORR_CNT, .SEC_CAUSE, .SEC_IMG_A, .SEC_IMG_B] ∧
     KeepsWords (.fwUpdateEnd e) nowhere) ∧
  (∀ (e : Fin 256), Keeps (.fwActivate e) [.mbx, .pwr, .aqReplies, .sec] []) ∧
  (∀ (e : Fin 256), Keeps (.fwCommit e) [.events, .mbx, .aqReplies, .sec] [.SEC_STAT]) ∧
  (∀ (e : Fin 256), Keeps (.fwStatus e) [.mbx, .aqReplies] []) ∧
  (∀ (e : Fin 256),
     Keeps (.secStageOpen e) [.freeIx, .mem, .mbx, .inits, .aqReplies, .ctl, .stage] [.HIF_STAT, .HIF_WIN_BASE,
       .HIF_WIN_LIMIT] ∧
     KeepsWords (.secStageOpen e) (fun _ a => 0x1000000 ≤ a ∧ a < 0x1200000)) ∧
  (∀ (e : Fin 256),
     Keeps (.secCertApply e) [.freeIx, .mem, .events, .rate, .mbx, .aqReplies, .ctl, .psets, .fenced, .stage,
       .sec] [.CNT_BANK_CTL, .CNT_BANK_OVF, .CNT_CAUSE, .CNT_DIE_CAUSE, .CNT_VAL, .FEC_POOL_FENCED, .FEC_POOL_MAP,
       .FEC_POOL_STAT, .HIF_STAT, .HIF_WIN_BASE, .MEM_BKT_STAT, .MEM_CAUSE, .MEM_CORR_CNT, .MEM_ERR_INFO,
       .MEM_ERR_LOC, .MEM_HARD, .MEM_STAT, .MEM_UNCORR_CNT, .SEC_CAUSE, .SEC_IMG_A, .SEC_IMG_B, .SEC_KEY_STAT,
       .SEC_STAT] ∧
     KeepsWords (.secCertApply e) nowhere) ∧
  (∀ (e : Fin 256), Keeps (.debugChallenge e) [.freeIx, .mbx, .aqReplies, .boot] [.SEC_DBG_NONCE]) ∧
  (∀ (e : Fin 256),
     Keeps (.debugUnlock e) [.freeIx, .mem, .events, .rate, .mbx, .aqReplies, .ctl, .fenced, .boot, .stage]
       [.CNT_BANK_CTL, .CNT_BANK_OVF, .CNT_CAUSE, .CNT_DIE_CAUSE, .CNT_VAL, .FEC_POOL_FENCED, .FEC_POOL_MAP,
       .FEC_POOL_STAT, .HIF_STAT, .HIF_WIN_BASE, .MEM_BKT_STAT, .MEM_CAUSE, .MEM_CORR_CNT, .MEM_ERR_INFO,
       .MEM_ERR_LOC, .MEM_HARD, .MEM_STAT, .MEM_UNCORR_CNT, .SEC_AUTH_FAIL_CNT, .SEC_CAUSE, .SEC_DBG_NONCE,
       .SEC_STAT] ∧
     KeepsWords (.debugUnlock e) nowhere) ∧
  (∀ (e : Fin 256), Keeps (.debugLock e) [.mbx, .aqReplies] [.SEC_STAT]) ∧
  (∀ (e : Fin 256), Keeps (.keyList e) [.mbx, .aqReplies] []) ∧
  (Keeps .bootSelect [.freeIx, .mem, .events, .rate, .mbx, .inits, .pwr, .aqReplies, .ctl, .lines, .fenced, .ins,
     .boot, .sec, .evr] [.CAL_CAUSE, .CDAC_OUT, .CDAC_PEN_STAT, .CNT_BANK_CTL, .CNT_BANK_OVF, .CNT_CAUSE,
     .CNT_DIE_CAUSE, .CNT_VAL, .EVR_CAUSE, .EVR_EMG, .EVR_EMG_STAT, .FEC_POOL_FENCED, .FEC_POOL_MAP,
     .FEC_POOL_STAT, .HL_IDLE_STAT, .HL_STAT, .INS_CAUSE, .INS_CFG, .INS_STAT, .INS_TX_AMP, .LTX_CAL_ABORT_CNT,
     .LTX_CAL_RESULT0, .LTX_CAL_RESULT1, .LTX_CAL_STAT, .LTX_CAUSE, .LTX_DAC_TRIM, .LTX_DAC_TTRIM, .LTX_FIR_ACT,
     .LTX_LUT_ACT, .LTX_SQ_STAT, .LTX_STAT, .MEM_BKT_STAT, .MEM_CAUSE, .MEM_CORR_CNT, .MEM_ERR_INFO, .MEM_ERR_LOC,
     .MEM_HARD, .MEM_STAT, .MEM_UNCORR_CNT, .MGMT_IRQ_TOP_EN, .PWR_AVS_STAT, .PWR_CAUSE, .PWR_EN, .PWR_FAULT_INFO,
     .PWR_PG_STAT, .PWR_STATE, .SEC_CAUSE, .SEC_EN, .SEC_IMG_A, .SEC_IMG_B, .SEC_KEY_STAT, .SEC_STAT] ∧
   KeepsWords .bootSelect (fun _ a => 0x1000000 ≤ a ∧ a < 0x1100100)) ∧
  ((∀ s t, Machine.exec .bootWatchdog s = .next t → t.pending = s.pending ∧ t.psets = s.psets) ∧
   KeepsWords .bootWatchdog (fun _ a => ¬ (0x2000000 ≤ a ∧ a < 0x2800000))) ∧
  (Keeps .aqiqueReady [.freeIx, .mem, .events, .rate, .links, .pllArmed, .mode, .mbx, .inits, .pwr, .aqReplies,
     .ctl, .mon, .lines, .fec, .fenced, .ins, .boot, .cal, .evr] [.CAL_CAUSE, .CLK_LOCK, .CNT_BANK_CTL,
     .CNT_BANK_OVF, .CNT_CAUSE, .CNT_DIE_CAUSE, .CNT_VAL, .EVR_FIFO_STAT, .EVR_FLUSHED_SEQ, .EVR_HEAD_SEQ,
     .EVR_STAT, .EVR_TAIL_SEQ, .FEC_CAUSE, .FEC_POOL_FENCED, .FEC_POOL_MAP, .FEC_POOL_STAT, .FEC_PORT_STAT,
     .FEC_SKEW, .HIF_EN, .HIF_STAT, .HL_IDLE_STAT, .HL_SLIP_POS, .HL_STAT, .INS_CAUSE, .INS_CFG, .INS_STAT,
     .INS_TX_AMP, .LTX_CAL_ABORT_CNT, .LTX_CAL_RESULT0, .LTX_CAL_RESULT1, .LTX_CAL_STAT, .LTX_CAUSE,
     .LTX_DAC_TRIM, .LTX_DAC_TTRIM, .LTX_FIR_ACT, .LTX_LUT_ACT, .LTX_SQ_STAT, .LTX_STAT, .MBX_CAUSE,
     .MBX_CR_CONS_PTR, .MBX_CR_PROD_PTR, .MBX_STAT, .MEM_BKT_STAT, .MEM_CAUSE, .MEM_CORR_CNT, .MEM_ERR_INFO,
     .MEM_ERR_LOC, .MEM_HARD, .MEM_SCRUB_CTL, .MEM_STAT, .MEM_UNCORR_CNT, .MGMT_IRQ_TOP_EN, .MON_CAUSE,
     .MON_CH_CFG, .MON_CH_DEC, .MON_CH_GD, .MON_CH_PERIOD, .MON_CH_PHASE, .MON_CH_STAT, .MON_CH_VAL, .MON_CTL,
     .MON_IN_GAIN, .MON_IN_ZERO, .MON_OD_STAT, .MON_SLOT_SH, .MON_STAT, .PWR_CAUSE, .PWR_RESET_INFO, .PWR_STATE,
     .WELT_CTL, .WELT_STAT] ∧
   KeepsWords .aqiqueReady (fun _ a => 0x4022000 ≤ a ∧ a < 0x4026000)) ∧
  (∀ (pc : W32),
     Keeps (.lockstepMismatch pc) [.freeIx, .events, .rate, .mbx, .pwr, .aqReplies, .lines, .ins, .evr] rs0) ∧
  (∀ (e : Fin 256), Keeps (.memStatus e) [.mbx, .aqReplies] []) ∧
  (∀ (e : Fin 256), Keeps (.memBucketSet e) [.mbx, .aqReplies] [.MEM_BKT_CFG]) ∧
  (∀ (e : Fin 256), Keeps (.memHardList e) [.mbx, .aqReplies] []) ∧
  (∀ (e : Fin 256), Keeps (.calStoreInfo e) [.mbx, .aqReplies] []) ∧
  (∀ (e : Fin 256),
     Keeps (.calStageOpen e) [.freeIx, .mem, .mbx, .inits, .aqReplies, .ctl, .stage] [.HIF_STAT, .HIF_WIN_BASE,
       .HIF_WIN_LIMIT] ∧
     KeepsWords (.calStageOpen e) (fun _ a => 0x1000000 ≤ a ∧ a < 0x1200000)) ∧
  (∀ (e : Fin 256) (fate : StoreFate),
     Keeps (.calStoreWrite e fate) [.freeIx, .mem, .events, .rate, .mbx, .aqReplies, .ctl, .fenced, .boot, .stage,
       .cal] [.CNT_BANK_CTL, .CNT_BANK_OVF, .CNT_CAUSE, .CNT_DIE_CAUSE, .CNT_VAL, .FEC_POOL_FENCED, .FEC_POOL_MAP,
       .FEC_POOL_STAT, .HIF_STAT, .HIF_WIN_BASE, .MEM_BKT_STAT, .MEM_CAUSE, .MEM_CORR_CNT, .MEM_ERR_INFO,
       .MEM_ERR_LOC, .MEM_HARD, .MEM_STAT, .MEM_UNCORR_CNT, .PWR_CAUSE, .PWR_STATE] ∧
     KeepsWords (.calStoreWrite e fate) (fun _ a => calBase 0 ≤ a ∧ a < calBase 2)) ∧
  (Keeps .powerOnResetRelease [.now, .freeIx, .events, .rate, .mode, .mbx, .pwr, .aqReplies, .lines, .fec, .ins,
     .boot, .stage, .evr] rs2) ∧
  ((∀ s t, Machine.exec .supplyLoss s = .next t → t.pending = s.pending ∧ t.psets = s.psets) ∧
   KeepsWords .supplyLoss (fun _ a => ¬ (0x2000000 ≤ a ∧ a < 0x2800000))) ∧
  (Keeps .pfailAssert [.events, .boot, .stage] [.HIF_STAT, .HIF_WIN_BASE, .PWR_CAUSE, .PWR_STATE]) ∧
  (Keeps .pfailRelease [.events, .mbx, .aqReplies, .cal] [.PWR_STATE]) ∧
  ((∀ s t, Machine.exec .resetNAssert s = .next t → t.pending = s.pending ∧ t.psets = s.psets) ∧
   KeepsWords .resetNAssert (fun _ a => ¬ (0x2000000 ≤ a ∧ a < 0x2800000))) ∧
  ((∀ s t, Machine.exec .softwareReset s = .next t → t.pending = s.pending ∧ t.psets = s.psets) ∧
   KeepsWords .softwareReset (fun _ a => ¬ (0x2000000 ≤ a ∧ a < 0x2800000))) ∧
  (∀ (high : Bool), Keeps (.lpmodeChange high) [.pllArmed, .mbx, .pwr, .aqReplies] [.CLK_LOCK, .PWR_STATE]) ∧
  (Keeps .lowPowerEntry [.freeIx, .mem, .islands, .events, .rate, .draining, .pllArmed, .mode, .mbx, .inits, .pwr,
     .aqReplies, .ctl, .opt, .mon, .lines, .racks, .lasts, .fec, .hosts, .ins, .time] [.CAL_CAUSE, .CDAC_CFG,
     .CDAC_OUT, .CDAC_PEN_STAT, .CLK_LOCK, .FEC_AM_LOSS_CNT, .FEC_CAUSE, .FEC_EN, .FEC_FCS_ERR_CNT,
     .FEC_FRAME_CNT, .FEC_HCW_CNT, .FEC_HCW_CORR_CNT, .FEC_HCW_UNCORR_CNT, .FEC_HL_SYM_CNT, .FEC_HOLD_HL,
     .FEC_HOLD_LH, .FEC_HSYM_CORR_CNT, .FEC_INJ_CTL, .FEC_INNER_CORR_CNT, .FEC_INNER_UNCORR_CNT, .FEC_LCW_CNT,
     .FEC_LCW_CORR_CNT, .FEC_LCW_HIST_CNT, .FEC_LCW_UNCORR_CNT, .FEC_LL_SYM_CNT, .FEC_LSYM_CORR_CNT,
     .FEC_POOL_FENCED, .FEC_POOL_MAP, .FEC_POOL_STAT, .FEC_PORT_CFG, .FEC_PORT_STAT, .FEC_RA_ADJ_CNT, .FEC_SKEW,
     .FEC_SKEW_OVER_CNT, .FEC_SLIP_CNT, .FEC_STAT_CTL, .FEC_WAKE_DROP_CNT, .HIF_STAT, .HIF_WIN_BASE,
     .HIF_WIN_LIMIT, .HL_CAP_CTL, .HL_CAP_STAT, .HL_CAUSE, .HL_CDR_FOFS, .HL_CDR_UNLOCK_CNT, .HL_CFG,
     .HL_CHK_ERR_CNT, .HL_CHK_SYM_CNT, .HL_EN, .HL_IDLE_STAT, .HL_LB_SLIP_CNT, .HL_RAW_PAT, .HL_RX_EQ_CTL,
     .HL_RX_EQ_STAT, .HL_RX_FFE, .HL_SIGDET_CTL, .HL_SIG_LOSS_CNT, .HL_SLIP, .HL_SLIP_POS, .HL_STAT, .HL_TX_EQ,
     .HL_TX_EQ_EFF, .HL_WAKE_CNT, .INS_CAUSE, .INS_CFG, .INS_CODE_PHASE, .INS_CRC_ERR_CNT, .INS_FOFS,
     .INS_HDR_ERR_CNT, .INS_IRQ_EN, .INS_LOCK_LOSS_CNT, .INS_METRIC, .INS_MSG_FAIL_CNT, .INS_MSG_RETX_CNT,
     .INS_MSG_STAT, .INS_RX_CFG, .INS_RX_DROP_CNT, .INS_RX_FRAME_CNT, .INS_RX_TS, .INS_RX_TS_Q, .INS_STAT,
     .INS_SYNC_CAPTURED_CNT, .INS_TX_AMP, .INS_TX_CFG, .INS_TX_FRAME_CNT, .INS_TX_TS, .LRX_ADC_TRIM,
     .LRX_ADC_TTRIM, .LRX_AFE_CTL, .LRX_CAL_ABORT_CNT, .LRX_CAL_RESULT0, .LRX_CAL_RESULT1, .LRX_CAL_STAT,
     .LRX_CAUSE, .LRX_CDR_CTL, .LRX_CDR_FOFS, .LRX_CDR_UNLOCK_CNT, .LRX_CFG, .LRX_DET_CTL, .LRX_EN, .LRX_FFE_COEF,
     .LRX_HIST_CTL, .LRX_HIST_STAT, .LRX_LEVEL, .LRX_SIGDET_CTL, .LRX_SIG_LOSS_CNT, .LRX_SIG_PWR, .LRX_SNR,
     .LRX_STAT, .LRX_THR, .LRX_VNLE_KERN, .LTX_CAL_ABORT_CNT, .LTX_CAL_RESULT0, .LTX_CAL_RESULT1, .LTX_CAL_STAT,
     .LTX_CAUSE, .LTX_CFG, .LTX_CHK_ERR_CNT, .LTX_CHK_SYM_CNT, .LTX_CLIP_CNT, .LTX_CTL, .LTX_DAC_TRIM,
     .LTX_DAC_TTRIM, .LTX_EN, .LTX_FIR_ACT, .LTX_FIR_COEF, .LTX_LB_SLIP_CNT, .LTX_LUT, .LTX_LUT_ACT, .LTX_SQ_STAT,
     .LTX_STAT, .LTX_TEST_CTL, .MON_CH_STAT, .MON_CH_VAL, .PWR_AVS_STAT, .PWR_CAUSE, .PWR_PG_STAT, .PWR_STATE,
     .RACK_BANK_CONF_CNT, .RACK_BUS_WAIT_CNT, .RACK_CAUSE, .RACK_CTL, .RACK_CYC_CNT, .RACK_DUTY_GATED_CNT,
     .RACK_EN, .RACK_LAST_PC, .RACK_LAST_TRAP, .RACK_PROG_ID, .RACK_REPORT, .RACK_SLOT_BACK_CNT,
     .RACK_SLOT_FRONT_CNT, .RACK_SLOT_RET_CNT, .RACK_SLOT_WASTE_CNT, .RACK_STAT, .RACK_TAG_CTL, .RACK_TAG_REC,
     .RACK_TAG_STAT, .RACK_TW_OVR_CNT, .RACK_YIELD_CNT, .SINE_CTL, .SINE_STAT, .TGT_CAUSE, .TGT_LOOP_MODE,
     .TGT_LOOP_STAT, .TIME_ALIGN_LOSS_CNT, .TIME_ALIGN_OFS, .TIME_CAUSE, .TIME_CF_SAT_CNT, .TIME_CORR_CNT,
     .TIME_CTX_ALLOC_CNT, .TIME_CTX_EVICT_CNT, .TIME_CTX_EXPIRE_CNT, .TIME_CTX_STAT, .TIME_DISCARD_CNT, .TIME_EN,
     .TIME_FAR_RXDLY, .TIME_FAR_TXDLY, .TIME_FREQ, .TIME_LANE_RXDLY, .TIME_LANE_TXDLY, .TIME_OFFSET,
     .TIME_ORPHAN_CNT, .TIME_PORT_CFG, .TIME_PORT_CTL, .TIME_PORT_HDLY, .TIME_PORT_STAT, .TIME_PPS_CFG,
     .TIME_PPS_IN_TS, .TIME_PPS_OFS, .TIME_RES_CHECK_CNT, .TIME_RES_LAST_HL, .TIME_RES_LAST_LH, .TIME_SRC_CFG,
     .TIME_STAT, .TIME_STEP_CNT, .TIME_TOD, .TIME_TODRX_ERR_CNT, .TIME_TODSER_CFG, .TIME_TSQ_ENTRY,
     .TIME_TSQ_STAT, .TIME_UTC, .WELT_AB_ALLOC] ∧
   KeepsWords .lowPowerEntry (fun _ a => 0x10000000 ≤ a)) ∧
  (∀ (n : Fin 4), Keeps (.pgLoss n) [.freeIx, .events, .rate, .mbx, .pwr, .aqReplies, .lines, .ins, .evr] rs0) ∧
  (Keeps .penReleaseStep [.pwr] [.CDAC_PEN_STAT, .PWR_PG_STAT]) ∧
  (∀ (seq : Fin 9) (obj : Fin 16),
     Keeps (.restartStepDone seq obj) [.freeIx, .mem, .islands, .events, .rate, .links, .draining, .pllArmed,
       .mode, .mbx, .pwr, .aqReplies, .ctl, .lines, .lasts, .fec, .hosts, .ins, .time] [.CAL_CAUSE, .CDAC_CFG,
       .CDAC_CH_STAT, .CDAC_CODE, .CDAC_OUT, .CDAC_PEN_STAT, .CLK_LOCK, .CNT_BANK_OVF, .CNT_CAUSE, .CNT_DIE_CAUSE,
       .FEC_CAUSE, .FEC_SKEW, .HL_CAUSE, .HL_IDLE_STAT, .HL_SLIP_POS, .HL_STAT, .HL_WAKE_CNT, .INS_CAUSE,
       .INS_CFG, .INS_STAT, .INS_TX_AMP, .LRX_STAT, .LTX_CAL_ABORT_CNT, .LTX_CAL_RESULT0, .LTX_CAL_RESULT1,
       .LTX_CAL_STAT, .LTX_CAUSE, .LTX_CLIP_CNT, .LTX_DAC_TRIM, .LTX_DAC_TTRIM, .LTX_FIR_ACT, .LTX_LUT_ACT,
       .LTX_SQ_STAT, .LTX_STAT, .PWR_AVS_STAT, .PWR_CAUSE, .PWR_PG_STAT, .PWR_STATE, .TIME_ALIGN_LOSS_CNT,
       .TIME_ALIGN_OFS, .TIME_CAUSE, .TIME_CF_SAT_CNT, .TIME_CORR_CNT, .TIME_CTX_ALLOC_CNT, .TIME_CTX_EVICT_CNT,
       .TIME_CTX_EXPIRE_CNT, .TIME_CTX_STAT, .TIME_DISCARD_CNT, .TIME_EN, .TIME_FAR_RXDLY, .TIME_FAR_TXDLY,
       .TIME_FREQ, .TIME_LANE_RXDLY, .TIME_LANE_TXDLY, .TIME_OFFSET, .TIME_ORPHAN_CNT, .TIME_PORT_CFG,
       .TIME_PORT_CTL, .TIME_PORT_HDLY, .TIME_PORT_STAT, .TIME_PPS_CFG, .TIME_PPS_IN_TS, .TIME_PPS_OFS,
       .TIME_RES_CHECK_CNT, .TIME_RES_LAST_HL, .TIME_RES_LAST_LH, .TIME_SRC_CFG, .TIME_STAT, .TIME_STEP_CNT,
       .TIME_TOD, .TIME_TODRX_ERR_CNT, .TIME_TODSER_CFG, .TIME_TSQ_ENTRY, .TIME_TSQ_STAT, .TIME_UTC, .WELT_CAUSE,
       .WELT_STAT] ∧
     KeepsWords (.restartStepDone seq obj) (fun _ a => 0x100000000 ≤ a)) ∧
  (∀ (seq : Fin 9) (obj : Fin 16) (dies : BitVec 3),
     Keeps (.restartStepTimeout seq obj dies) [.freeIx, .islands, .events, .rate, .draining, .pllArmed, .mode,
       .mbx, .pwr, .aqReplies, .lines, .fec, .ins, .evr] [.CAL_CAUSE, .CDAC_OUT, .CDAC_PEN_STAT, .CLK_LOCK,
       .EVR_CAUSE, .EVR_EMG, .EVR_EMG_STAT, .FEC_CAUSE, .FEC_SKEW, .HL_CAUSE, .HL_IDLE_STAT, .HL_SLIP_POS,
       .HL_STAT, .INS_CAUSE, .INS_CFG, .INS_STAT, .INS_TX_AMP, .LTX_CAL_ABORT_CNT, .LTX_CAL_RESULT0,
       .LTX_CAL_RESULT1, .LTX_CAL_STAT, .LTX_CAUSE, .LTX_DAC_TRIM, .LTX_DAC_TTRIM, .LTX_FIR_ACT, .LTX_LUT_ACT,
       .LTX_SQ_STAT, .LTX_STAT, .MGMT_IRQ_TOP_EN, .PWR_AVS_STAT, .PWR_CAUSE, .PWR_EN, .PWR_FAULT_INFO,
       .PWR_PG_STAT, .PWR_RETRY_CNT, .PWR_STATE]) ∧
  (∀ (k : Fin 8),
     Keeps (.lineWakeAmTimeout k) [.freeIx, .events, .rate, .mode, .mbx, .pwr, .aqReplies, .lines, .fec, .ins]
       [.CAL_CAUSE, .FEC_CAUSE, .FEC_SKEW, .HL_IDLE_STAT, .HL_SLIP_POS, .HL_STAT, .INS_CAUSE, .INS_CFG, .INS_STAT,
       .INS_TX_AMP, .LTX_CAL_ABORT_CNT, .LTX_CAL_RESULT0, .LTX_CAL_RESULT1, .LTX_CAL_STAT, .LTX_CAUSE,
       .LTX_DAC_TRIM, .LTX_DAC_TTRIM, .LTX_FIR_ACT, .LTX_LUT_ACT, .LTX_SQ_STAT, .LTX_STAT]) ∧
  (Keeps .faultIslandOff [.mem, .islands, .draining, .mbx, .inits, .pwr, .aqReplies, .ctl, .lines, .racks, .lasts,
     .fec, .hosts, .ins, .time] [.CDAC_OUT, .CLK_LOCK, .FEC_AM_LOSS_CNT, .FEC_CAUSE, .FEC_EN, .FEC_FCS_ERR_CNT,
     .FEC_FRAME_CNT, .FEC_HCW_CNT, .FEC_HCW_CORR_CNT, .FEC_HCW_UNCORR_CNT, .FEC_HL_SYM_CNT, .FEC_HOLD_HL,
     .FEC_HOLD_LH, .FEC_HSYM_CORR_CNT, .FEC_INJ_CTL, .FEC_INNER_CORR_CNT, .FEC_INNER_UNCORR_CNT, .FEC_LCW_CNT,
     .FEC_LCW_CORR_CNT, .FEC_LCW_HIST_CNT, .FEC_LCW_UNCORR_CNT, .FEC_LL_SYM_CNT, .FEC_LSYM_CORR_CNT,
     .FEC_POOL_FENCED, .FEC_POOL_MAP, .FEC_POOL_STAT, .FEC_PORT_CFG, .FEC_PORT_STAT, .FEC_RA_ADJ_CNT, .FEC_SKEW,
     .FEC_SKEW_OVER_CNT, .FEC_SLIP_CNT, .FEC_STAT_CTL, .FEC_WAKE_DROP_CNT, .HL_CAP_CTL, .HL_CAP_STAT, .HL_CAUSE,
     .HL_CDR_FOFS, .HL_CDR_UNLOCK_CNT, .HL_CFG, .HL_CHK_ERR_CNT, .HL_CHK_SYM_CNT, .HL_EN, .HL_IDLE_STAT,
     .HL_LB_SLIP_CNT, .HL_RAW_PAT, .HL_RX_EQ_CTL, .HL_RX_EQ_STAT, .HL_RX_FFE, .HL_SIGDET_CTL, .HL_SIG_LOSS_CNT,
     .HL_SLIP, .HL_SLIP_POS, .HL_STAT, .HL_TX_EQ, .HL_TX_EQ_EFF, .HL_WAKE_CNT, .INS_CAUSE, .INS_CFG,
     .INS_CODE_PHASE, .INS_CRC_ERR_CNT, .INS_FOFS, .INS_HDR_ERR_CNT, .INS_IRQ_EN, .INS_LOCK_LOSS_CNT, .INS_METRIC,
     .INS_MSG_FAIL_CNT, .INS_MSG_RETX_CNT, .INS_MSG_STAT, .INS_RX_CFG, .INS_RX_DROP_CNT, .INS_RX_FRAME_CNT,
     .INS_RX_TS, .INS_RX_TS_Q, .INS_STAT, .INS_SYNC_CAPTURED_CNT, .INS_TX_AMP, .INS_TX_CFG, .INS_TX_FRAME_CNT,
     .INS_TX_TS, .LRX_ADC_TRIM, .LRX_ADC_TTRIM, .LRX_AFE_CTL, .LRX_CAL_ABORT_CNT, .LRX_CAL_RESULT0,
     .LRX_CAL_RESULT1, .LRX_CAL_STAT, .LRX_CAUSE, .LRX_CDR_CTL, .LRX_CDR_FOFS, .LRX_CDR_UNLOCK_CNT, .LRX_CFG,
     .LRX_DET_CTL, .LRX_EN, .LRX_FFE_COEF, .LRX_HIST_CTL, .LRX_HIST_STAT, .LRX_LEVEL, .LRX_SIGDET_CTL,
     .LRX_SIG_LOSS_CNT, .LRX_SIG_PWR, .LRX_SNR, .LRX_STAT, .LRX_THR, .LRX_VNLE_KERN, .LTX_CAL_ABORT_CNT,
     .LTX_CAL_RESULT0, .LTX_CAL_RESULT1, .LTX_CAL_STAT, .LTX_CAUSE, .LTX_CFG, .LTX_CHK_ERR_CNT, .LTX_CHK_SYM_CNT,
     .LTX_CLIP_CNT, .LTX_CTL, .LTX_DAC_TRIM, .LTX_DAC_TTRIM, .LTX_EN, .LTX_FIR_ACT, .LTX_FIR_COEF,
     .LTX_LB_SLIP_CNT, .LTX_LUT, .LTX_LUT_ACT, .LTX_SQ_STAT, .LTX_STAT, .LTX_TEST_CTL, .RACK_BANK_CONF_CNT,
     .RACK_BUS_WAIT_CNT, .RACK_CAUSE, .RACK_CTL, .RACK_CYC_CNT, .RACK_DUTY_GATED_CNT, .RACK_EN, .RACK_LAST_PC,
     .RACK_LAST_TRAP, .RACK_PROG_ID, .RACK_REPORT, .RACK_SLOT_BACK_CNT, .RACK_SLOT_FRONT_CNT, .RACK_SLOT_RET_CNT,
     .RACK_SLOT_WASTE_CNT, .RACK_STAT, .RACK_TAG_CTL, .RACK_TAG_REC, .RACK_TAG_STAT, .RACK_TW_OVR_CNT,
     .RACK_YIELD_CNT, .TIME_ALIGN_LOSS_CNT, .TIME_ALIGN_OFS, .TIME_CAUSE, .TIME_CF_SAT_CNT, .TIME_CORR_CNT,
     .TIME_CTX_ALLOC_CNT, .TIME_CTX_EVICT_CNT, .TIME_CTX_EXPIRE_CNT, .TIME_CTX_STAT, .TIME_DISCARD_CNT, .TIME_EN,
     .TIME_FAR_RXDLY, .TIME_FAR_TXDLY, .TIME_FREQ, .TIME_LANE_RXDLY, .TIME_LANE_TXDLY, .TIME_OFFSET,
     .TIME_ORPHAN_CNT, .TIME_PORT_CFG, .TIME_PORT_CTL, .TIME_PORT_HDLY, .TIME_PORT_STAT, .TIME_PPS_CFG,
     .TIME_PPS_IN_TS, .TIME_PPS_OFS, .TIME_RES_CHECK_CNT, .TIME_RES_LAST_HL, .TIME_RES_LAST_LH, .TIME_SRC_CFG,
     .TIME_STAT, .TIME_STEP_CNT, .TIME_TOD, .TIME_TODRX_ERR_CNT, .TIME_TODSER_CFG, .TIME_TSQ_ENTRY,
     .TIME_TSQ_STAT, .TIME_UTC] ∧
   KeepsWords .faultIslandOff (fun _ a => 0x10000000 ≤ a)) ∧
  (∀ (n : Fin 24) (count : BitVec 20),
     Keeps (.thmMeasurement n count) [.freeIx, .events, .rate, .pllArmed, .mbx, .pwr, .sensors, .aqReplies,
       .lines, .ins, .evr] rs3) ∧
  (∀ (ws : List (BitVec 16 × Nat)), Keeps (.wearMeasure ws) [.pwr, .life] [.PWR_WEAR_WORST]) ∧
  (Keeps .avsStep [.events, .pwr] [.CDAC_CH_STAT, .CDAC_CODE, .CDAC_OUT, .PWR_AVS_STAT, .PWR_CAUSE]) ∧
  (Keeps .lifeMinute [.pwr, .life] [.PWR_LIFE, .PWR_ONTIME]) ∧ (Keeps .lifeStore [.pwr, .life] []) ∧
  (∀ (e : Fin 256), Keeps (.pwrStatus e) [.mbx, .aqReplies] []) ∧
  (∀ (e : Fin 256), Keeps (.pwrReset e) [.mbx, .pwr, .aqReplies] []) ∧
  (∀ (e : Fin 256), Keeps (.pwrLowpwr e) [.pllArmed, .mbx, .pwr, .aqReplies] [.CLK_LOCK, .PWR_STATE]) ∧
  (∀ (e : Fin 256), Keeps (.pwrWearReport e) [.mbx, .aqReplies] []) ∧
  (∀ (e : Fin 256), Keeps (.pwrLifeReport e) [.mbx, .aqReplies] []) ∧
  (∀ (e : Fin 256), Keeps (.thmStatus e) [.mbx, .aqReplies] []) ∧
  (∀ (e : Fin 256),
     Keeps (.thmSetThresh e) [.mbx, .aqReplies] [.THM_ZONE_CFG] ∧
     KeepsElsewhere (.thmSetThresh e) (fun s _ i => i = (s.params e).byte 0) [.THM_ZONE_CFG]) ∧
  (∀ (e : Fin 256) (count : BitVec 20),
     Keeps (.thmMeasure e count) [.freeIx, .events, .rate, .pllArmed, .mbx, .pwr, .sensors, .aqReplies, .lines,
       .ins, .evr] rs3) ∧
  (∀ (e : Fin 256),
     Keeps (.thmSensorRetire e) [.freeIx, .mem, .events, .rate, .mbx, .aqReplies, .ctl, .fenced, .stage]
       [.CNT_BANK_CTL, .CNT_BANK_OVF, .CNT_CAUSE, .CNT_DIE_CAUSE, .CNT_VAL, .FEC_POOL_FENCED, .FEC_POOL_MAP,
       .FEC_POOL_STAT, .HIF_STAT, .HIF_WIN_BASE, .MEM_BKT_STAT, .MEM_CAUSE, .MEM_CORR_CNT, .MEM_ERR_INFO,
       .MEM_ERR_LOC, .MEM_HARD, .MEM_STAT, .MEM_UNCORR_CNT, .THM_RETIRED, .THM_TS] ∧
     KeepsWords (.thmSensorRetire e) nowhere) ∧
  (Keeps .resetNRelease [.freeIx, .events, .rate, .mode, .mbx, .pwr, .aqReplies, .lines, .fec, .ins, .boot,
     .stage] rs2)
end

