-- ==== Sys2Proof/Laws/Store.lean ====
section
/-!
SUPPORT. Sys2Proof/Laws/Store.lean: what reading and writing a sparse map do, and that every write keeps its canonical
form.
-/

namespace Sys2Proof.Machine

section Maps

variable {κ α : Type}

@[simp] theorem lookup_nil [DecidableEq κ] (d : α) (k : κ) : lookup d k ([] : List (κ × α)) = d := rfl

theorem lookup_cons [DecidableEq κ] (d : α) (k k' : κ) (v : α) (m : List (κ × α)) :
    lookup d k ((k', v) :: m) = if k' = k then v else lookup d k m := rfl

@[simp] theorem lookup_insertAt_self [DecidableEq κ] (lt : κ → κ → Bool) (d : α) (k : κ) (v : α) (m : List (κ × α)) :
    lookup d k (insertAt lt k v m) = v := by
  induction m with
  | nil => simp [insertAt, lookup]
  | cons p m ih =>
    obtain ⟨k', v'⟩ := p
    simp only [insertAt]
    split
    · simp [lookup]
    · rename_i h
      split
      · simp [lookup]
      · simp [lookup, h, ih]

theorem lookup_insertAt_ne [DecidableEq κ] (lt : κ → κ → Bool) (d : α) {j k : κ} (h : j ≠ k) (v : α) (m : List (κ × α)) :
    lookup d j (insertAt lt k v m) = lookup d j m := by
  induction m with
  | nil => simp [insertAt, lookup, h.symm]
  | cons p m ih =>
    obtain ⟨k', v'⟩ := p
    simp only [insertAt]
    split
    · rename_i hk
      subst hk
      simp [lookup, h.symm]
    · split
      · simp [lookup, h.symm]
      · simp [lookup, ih]

@[simp] theorem lookup_eraseAt_self [DecidableEq κ] (d : α) (k : κ) (m : List (κ × α)) : lookup d k (eraseAt k m) = d := by
  induction m with
  | nil => rfl
  | cons p m ih =>
    obtain ⟨k', v'⟩ := p
    by_cases h : k' = k <;> simp [eraseAt, lookup, h, ih]

theorem lookup_eraseAt_ne [DecidableEq κ] (d : α) {j k : κ} (h : j ≠ k) (m : List (κ × α)) :
    lookup d j (eraseAt k m) = lookup d j m := by
  induction m with
  | nil => rfl
  | cons p m ih =>
    obtain ⟨k', v'⟩ := p
    by_cases h' : k' = k
    · subst h'; simp [eraseAt, lookup, h.symm, ih]
    · simp [eraseAt, lookup, h', ih]

/-- A read after a write to the same key gives the value written. -/
@[simp] theorem lookup_writeAt_self [DecidableEq κ] [DecidableEq α] (lt : κ → κ → Bool) (d : α) (k : κ) (v : α) (m : List (κ × α)) :
    lookup d k (writeAt lt d k v m) = v := by
  unfold writeAt
  split
  · rename_i h; simp [h]
  · simp

/-- A write leaves every other key alone. -/
theorem lookup_writeAt_ne [DecidableEq κ] [DecidableEq α] (lt : κ → κ → Bool) (d d' : α) {j k : κ} (h : j ≠ k) (v : α) (m : List (κ × α)) :
    lookup d' j (writeAt lt d k v m) = lookup d' j m := by
  unfold writeAt
  split
  · exact lookup_eraseAt_ne d' h m
  · exact lookup_insertAt_ne lt d' h v m

/-! ## The canonical form -/

/-- The same, as a proposition on lists: keys pairwise rising, no pair at its key's unlisted value. -/
theorem canonical_iff [DecidableEq α] {lt : κ → κ → Bool} (trans : ∀ a b c, lt a b = true → lt b c = true → lt a c = true)
    (d : κ → α) (m : List (κ × α)) :
    canonical lt d m = true ↔ m.Pairwise (fun a b => lt a.1 b.1 = true) ∧ ∀ p ∈ m, p.2 ≠ d p.1 := by
  induction m with
  | nil => simp [canonical]
  | cons p m ih =>
    obtain ⟨k, v⟩ := p
    cases m with
    | nil => simp [canonical]
    | cons q m =>
      obtain ⟨k', v'⟩ := q
      simp only [canonical, Bool.and_eq_true, decide_eq_true_eq, ih, List.pairwise_cons, List.mem_cons]
      constructor
      · rintro ⟨⟨hv, hk⟩, ⟨h1, h2⟩, h3⟩
        refine ⟨⟨?_, h1, h2⟩, ?_⟩
        · rintro p (rfl | hp)
          · exact hk
          · exact trans _ _ _ hk (h1 p hp)
        · rintro p (rfl | hp)
          · exact hv
          · exact h3 p hp
      · rintro ⟨⟨h0, h1, h2⟩, h3⟩
        exact ⟨⟨h3 _ (.inl rfl), h0 _ (.inl rfl)⟩, ⟨h1, h2⟩, fun p hp => h3 p (.inr hp)⟩

/-- Dropping pairs keeps the canonical form. -/
theorem canonical_filter [DecidableEq α] {lt : κ → κ → Bool} (trans : ∀ a b c, lt a b = true → lt b c = true → lt a c = true)
    {d : κ → α} {m : List (κ × α)} (h : canonical lt d m = true) (keep : κ × α → Bool) :
    canonical lt d (m.filter keep) = true := by
  rw [canonical_iff trans] at h ⊢
  exact ⟨h.1.filter keep, fun p hp => h.2 p (List.mem_of_mem_filter hp)⟩

theorem eraseAt_eq_filter [DecidableEq κ] (k : κ) (m : List (κ × α)) : eraseAt k m = m.filter (fun p => decide (p.1 ≠ k)) := by
  induction m with
  | nil => rfl
  | cons p m ih =>
    obtain ⟨k', v'⟩ := p
    by_cases h : k' = k <;> simp [eraseAt, h, ih]

theorem mem_insertAt [DecidableEq κ] {lt : κ → κ → Bool} {k : κ} {v : α} {m : List (κ × α)} {p : κ × α}
    (h : p ∈ insertAt lt k v m) : p = (k, v) ∨ p ∈ m := by
  induction m with
  | nil => simpa [insertAt] using h
  | cons q m ih =>
    obtain ⟨k', v'⟩ := q
    simp only [insertAt] at h
    split at h
    · rcases List.mem_cons.1 h with h | h
      · exact .inl h
      · exact .inr (.tail _ h)
    · split at h
      · rcases List.mem_cons.1 h with h | h
        · exact .inl h
        · exact .inr h
      · rcases List.mem_cons.1 h with h | h
        · exact .inr (h ▸ List.mem_cons_self)
        · rcases ih h with h | h
          · exact .inl h
          · exact .inr (.tail _ h)

/-- Inserting a value keeps the keys rising. -/
theorem pairwise_insertAt [DecidableEq κ] {lt : κ → κ → Bool} (trans : ∀ a b c, lt a b = true → lt b c = true → lt a c = true)
    (total : ∀ a b, a ≠ b → lt a b = false → lt b a = true) {k : κ} {v : α} {m : List (κ × α)}
    (h : m.Pairwise (fun a b => lt a.1 b.1 = true)) : (insertAt lt k v m).Pairwise (fun a b => lt a.1 b.1 = true) := by
  induction m with
  | nil => simp [insertAt]
  | cons q m ih =>
    obtain ⟨k', v'⟩ := q
    rw [List.pairwise_cons] at h
    simp only [insertAt]
    split
    · rename_i hk
      subst hk
      exact List.pairwise_cons.2 h
    · rename_i hk
      split
      · rename_i hl
        refine List.pairwise_cons.2 ⟨?_, List.pairwise_cons.2 h⟩
        intro p hp
        rcases List.mem_cons.1 hp with rfl | hp
        · exact hl
        · exact trans _ _ _ hl (h.1 p hp)
      · rename_i hl
        refine List.pairwise_cons.2 ⟨?_, ih h.2⟩
        intro p hp
        rcases mem_insertAt hp with rfl | hp
        · exact total _ _ (Ne.symm hk) (by simpa using hl)
        · exact h.1 p hp

/-- A write keeps the canonical form. -/
theorem canonical_writeAt [DecidableEq κ] [DecidableEq α] {lt : κ → κ → Bool} (trans : ∀ a b c, lt a b = true → lt b c = true → lt a c = true)
    (total : ∀ a b, a ≠ b → lt a b = false → lt b a = true) {d : κ → α} {m : List (κ × α)}
    (h : canonical lt d m = true) (k : κ) (v : α) : canonical lt d (writeAt lt (d k) k v m) = true := by
  unfold writeAt
  split
  · rw [eraseAt_eq_filter]
    exact canonical_filter trans h _
  · rename_i hv
    rw [canonical_iff trans] at h ⊢
    refine ⟨pairwise_insertAt trans total h.1, fun p hp => ?_⟩
    rcases mem_insertAt hp with rfl | hp
    · exact hv
    · exact h.2 p hp

end Maps

/-! ## The orders -/

theorem natLt_trans (a b c : Nat) (h : natLt a b = true) (h' : natLt b c = true) : natLt a c = true := by
  simp only [natLt, decide_eq_true_eq] at *
  omega

theorem natLt_total (a b : Nat) (h : a ≠ b) (h' : natLt a b = false) : natLt b a = true := by
  simp only [natLt, decide_eq_true_eq, decide_eq_false_iff_not] at *
  omega

theorem RKey.lt_iff (a b : RKey) : RKey.lt a b = true ↔
    a.reg.ctorIdx < b.reg.ctorIdx ∨ a.reg.ctorIdx = b.reg.ctorIdx ∧ (a.u < b.u ∨ a.u = b.u ∧ a.i < b.i) := by
  unfold RKey.lt
  repeat' split
  all_goals first
    | (simp only [decide_eq_true_eq]; omega)
    | (simp only [true_iff]; omega)
    | (simp only [Bool.false_eq_true, false_iff]; omega)

theorem RKey.lt_trans (a b c : RKey) (h : RKey.lt a b = true) (h' : RKey.lt b c = true) : RKey.lt a c = true := by
  rw [RKey.lt_iff] at *
  omega

theorem Reg.ctorIdx_injective {a b : Reg} (h : a.ctorIdx = b.ctorIdx) : a = b := by
  have := congrArg Reg.ofNat h
  rwa [Reg.ofNat_ctorIdx, Reg.ofNat_ctorIdx] at this

theorem RKey.lt_total (a b : RKey) (h : a ≠ b) (h' : RKey.lt a b = false) : RKey.lt b a = true := by
  have hn : ¬ RKey.lt a b = true := by simp [h']
  rw [RKey.lt_iff] at hn ⊢
  have : ¬ (a.reg.ctorIdx = b.reg.ctorIdx ∧ a.u = b.u ∧ a.i = b.i) := by
    rintro ⟨h1, h2, h3⟩
    apply h
    obtain ⟨_, _, _⟩ := a
    obtain ⟨_, _, _⟩ := b
    simp only at h1 h2 h3
    simp [Reg.ctorIdx_injective h1, h2, h3]
  omega

end Sys2Proof.Machine
end

