-- ==== Sys2Proof/Laws/Memory.lean ====
section
/-!
SUPPORT. Sys2Proof/Laws/Memory.lean: every operation over memory keeps its canonical form, and the same for the registers,
counters, wide quantities and islands.
-/

namespace Sys2Proof

open Machine

/-! ## Memory -/

theorem Memory.wf_iff (m : List (Nat × W72)) : Memory.wf m = true ↔ m.Pairwise (fun a b => natLt a.1 b.1 = true) := by
  induction m with
  | nil => simp [Memory.wf]
  | cons p m ih =>
    obtain ⟨a, v⟩ := p
    cases m with
    | nil => simp [Memory.wf]
    | cons q m =>
      obtain ⟨b, w⟩ := q
      simp only [Memory.wf, Bool.and_eq_true, decide_eq_true_eq, ih, List.pairwise_cons, List.mem_cons]
      constructor
      · rintro ⟨hab, h1, h2⟩
        refine ⟨?_, h1, h2⟩
        rintro p (rfl | hp)
        · simpa [natLt] using hab
        · exact natLt_trans _ _ _ (by simpa [natLt] using hab) (h1 p hp)
      · rintro ⟨h0, h1, h2⟩
        exact ⟨by simpa [natLt] using h0 _ (.inl rfl), h1, h2⟩

theorem Memory.wf_filter {m : List (Nat × W72)} (h : Memory.wf m = true) (keep : Nat × W72 → Bool) :
    Memory.wf (m.filter keep) = true := by
  rw [Memory.wf_iff] at h ⊢
  exact h.filter keep

/-- A stored word keeps the canonical form. -/
theorem Machine.State.setWord_wf {s : State} (h : Memory.wf s.mem = true) (a : Nat) (w : W72) :
    Memory.wf (s.setWord a w).mem = true := by
  rw [Memory.wf_iff] at h ⊢
  exact pairwise_insertAt natLt_trans natLt_total h

/-- Contents that are lost keep the canonical form. -/
theorem Machine.State.dropRange_wf {s : State} (h : Memory.wf s.mem = true) (lo hi : Nat) :
    Memory.wf (s.dropRange lo hi).mem = true := Memory.wf_filter h _

theorem Machine.State.initRange_wf {s : State} (h : Memory.wf s.mem = true) (lo hi : Nat) :
    Memory.wf (s.initRange lo hi).mem = true := Memory.wf_filter h _

theorem Machine.State.zeroRange_wf {s : State} (h : Memory.wf s.mem = true) (lo hi : Nat) :
    Memory.wf (s.zeroRange lo hi).mem = true := Memory.wf_filter h _

/-! ## Protected words (R353, R354, R357) -/

theorem Machine.dataOf_append (c : BitVec 8) (d : W64) : dataOf (c ++ d) = d := by
  unfold dataOf
  ext i hi
  simp only [BitVec.getElem_extractLsb', BitVec.getLsbD_append]
  rw [if_pos (by omega)]
  simp [BitVec.getLsbD_eq_getElem hi]

theorem Machine.checkOf_append (c : BitVec 8) (d : W64) : (c ++ d).extractLsb' 64 8 = c := by
  ext i hi
  simp only [BitVec.getElem_extractLsb', BitVec.getLsbD_append]
  rw [if_neg (by omega)]
  simp [BitVec.getLsbD_eq_getElem hi]

/-- A word that was written with its check bits reads clean. -/
theorem Machine.classify_protect (d : W64) : classify (protect d) = .clean d := by
  have h : (Config.secded d ++ d : W72).extractLsb' 64 8 = Config.secded d := checkOf_append _ _
  simp only [classify, protect, dataOf_append, h, BitVec.xor_self]
  rfl

/-- A poisoned word reads as poison. -/
theorem Machine.classify_poisoned (d : W64) : classify (poisoned d) = .poison := by
  have h : ((Config.secded d ^^^ 3) ++ d : W72).extractLsb' 64 8 = Config.secded d ^^^ 3 := checkOf_append _ _
  have e : Config.secded d ^^^ 3 ^^^ Config.secded d = 3 := by
    rw [BitVec.xor_comm, ← BitVec.xor_assoc, BitVec.xor_self, BitVec.zero_xor]
  simp only [classify, poisoned, dataOf_append, h, e]
  rfl

/-- A read of a clean word delivers its data and leaves every word as it is. -/
theorem Machine.State.readWord_clean {s : State} {a : Nat} {d : W64} (h : classify (s.word a) = .clean d) (src kind : Nat) :
    (s.readWord a src kind).1 = some d ∧ ∀ b, (s.readWord a src kind).2.word b = s.word b := by
  unfold State.readWord
  rw [h]
  cases regionOf a with
  | none => exact ⟨rfl, fun _ => rfl⟩
  | some p => exact ⟨rfl, fun _ => rfl⟩

/-- Reads of clean words deliver their data. -/
theorem Machine.State.readWords_clean (f : Nat → W64) :
    ∀ (as : List Nat) (s : State), (∀ a ∈ as, classify (s.word a) = .clean (f a)) → (s.readWords as).1 = some (as.map f) := by
  intro as
  induction as with
  | nil => intro s _; rfl
  | cons a as ih =>
    intro s h
    obtain ⟨h1, h2⟩ := State.readWord_clean (h a (List.mem_cons_self ..)) 15 1
    have h3 := ih (s.readWord a).2 (fun b hb => by rw [h2]; exact h b (List.mem_cons_of_mem _ hb))
    simp only [State.readWords, h1, h3, List.map_cons]

/-- Bytes of clean words. -/
theorem Machine.State.readBytes_clean (f : Nat → W64) (s : State) (a n : Nat)
    (h : ∀ b ∈ (List.range ((a + n + 7) / 8 - a / 8)).map (fun i => 8 * (a / 8 + i)), classify (s.word b) = .clean (f b)) :
    (s.readBytes a n).1 = some ((((((List.range ((a + n + 7) / 8 - a / 8)).map (fun i => 8 * (a / 8 + i))).map f).flatMap
      (fun d => (List.range 8).map (fun i => byteOf d.toNat i))).drop (a % 8)).take n) := by
  have h1 := State.readWords_clean f _ s h
  unfold State.readBytes
  generalize hr : s.readWords ((List.range ((a + n + 7) / 8 - a / 8)).map (fun i => 8 * (a / 8 + i))) = r at h1
  obtain ⟨x, t⟩ := r
  simp only at h1
  subst h1
  simp only [hr]

/-! ## The sparse maps -/

theorem Machine.State.setReg_canonical {s : State}
    (h : canonical RKey.lt (fun k => k.reg.reset k.i) s.regs = true) (r : Reg) (v : W32) (u i : Nat) :
    canonical RKey.lt (fun k => k.reg.reset k.i) (s.setReg r v u i).regs = true :=
  canonical_writeAt RKey.lt_trans RKey.lt_total (d := fun k : RKey => k.reg.reset k.i) h ⟨r, u, i⟩ v

theorem Machine.State.setCnt_canonical {s : State} (h : canonical RKey.lt (fun _ => 0) s.cnts = true) (r : Reg)
    (v : W48) (u i : Nat) : canonical RKey.lt (fun _ => 0) (s.setCnt r v u i).cnts = true :=
  canonical_writeAt RKey.lt_trans RKey.lt_total (d := fun _ : RKey => (0 : W48)) h ⟨r, u, i⟩ v

theorem Machine.State.setWide_canonical {s : State} (h : canonical RKey.lt (fun _ => 0) s.wides = true) (r : Reg)
    (v : Wide) (u i : Nat) : canonical RKey.lt (fun _ => 0) (s.setWide r v u i).wides = true :=
  canonical_writeAt RKey.lt_trans RKey.lt_total (d := fun _ : RKey => (0 : Wide)) h ⟨r, u, i⟩ v

theorem Machine.State.setIsland_canonical {s : State} (h : canonical natLt islandReset s.islands = true) (id : Nat)
    (v : IslandSt) : canonical natLt islandReset (s.setIsland id v).islands = true :=
  canonical_writeAt natLt_trans natLt_total (d := islandReset) h id v

theorem Machine.State.wipe_canonical {s : State}
    (h : canonical RKey.lt (fun k => k.reg.reset k.i) s.regs = true) (rows : List LRow) (u : Nat) :
    canonical RKey.lt (fun k => k.reg.reset k.i) (s.wipe rows u).regs = true := canonical_filter RKey.lt_trans h _

end Sys2Proof
end

