-- ==== Sys2Proof/Laws/State.lean ====
section
/-!
SUPPORT. Sys2Proof/Laws/State.lean: one lemma for each field and each update of the state: an update leaves the other
fields alone.
-/

namespace Sys2Proof.Machine

variable (s : State)

/-! ## setReg -/

section

variable (r : Reg) (v : W32) (u i : Nat)

@[simp] theorem State.setReg_pending : (s.setReg r v u i).pending = s.pending := rfl
@[simp] theorem State.setReg_now : (s.setReg r v u i).now = s.now := rfl
@[simp] theorem State.setReg_freeIx : (s.setReg r v u i).freeIx = s.freeIx := rfl
@[simp] theorem State.setReg_cnts : (s.setReg r v u i).cnts = s.cnts := rfl
@[simp] theorem State.setReg_wides : (s.setReg r v u i).wides = s.wides := rfl
@[simp] theorem State.setReg_mem : (s.setReg r v u i).mem = s.mem := rfl
@[simp] theorem State.setReg_islands : (s.setReg r v u i).islands = s.islands := rfl
@[simp] theorem State.setReg_events : (s.setReg r v u i).events = s.events := rfl
@[simp] theorem State.setReg_offLogged : (s.setReg r v u i).offLogged = s.offLogged := rfl
@[simp] theorem State.setReg_rate : (s.setReg r v u i).rate = s.rate := rfl
@[simp] theorem State.setReg_snaps : (s.setReg r v u i).snaps = s.snaps := rfl
@[simp] theorem State.setReg_replies : (s.setReg r v u i).replies = s.replies := rfl
@[simp] theorem State.setReg_waiting : (s.setReg r v u i).waiting = s.waiting := rfl
@[simp] theorem State.setReg_links : (s.setReg r v u i).links = s.links := rfl
@[simp] theorem State.setReg_onDie : (s.setReg r v u i).onDie = s.onDie := rfl
@[simp] theorem State.setReg_draining : (s.setReg r v u i).draining = s.draining := rfl
@[simp] theorem State.setReg_pllArmed : (s.setReg r v u i).pllArmed = s.pllArmed := rfl
@[simp] theorem State.setReg_mode : (s.setReg r v u i).mode = s.mode := rfl
@[simp] theorem State.setReg_mbx : (s.setReg r v u i).mbx = s.mbx := rfl
@[simp] theorem State.setReg_inits : (s.setReg r v u i).inits = s.inits := rfl
@[simp] theorem State.setReg_pwr : (s.setReg r v u i).pwr = s.pwr := rfl
@[simp] theorem State.setReg_sensors : (s.setReg r v u i).sensors = s.sensors := rfl
@[simp] theorem State.setReg_life : (s.setReg r v u i).life = s.life := rfl
@[simp] theorem State.setReg_aqReplies : (s.setReg r v u i).aqReplies = s.aqReplies := rfl
@[simp] theorem State.setReg_ctl : (s.setReg r v u i).ctl = s.ctl := rfl
@[simp] theorem State.setReg_opt : (s.setReg r v u i).opt = s.opt := rfl
@[simp] theorem State.setReg_mon : (s.setReg r v u i).mon = s.mon := rfl
@[simp] theorem State.setReg_lines : (s.setReg r v u i).lines = s.lines := rfl
@[simp] theorem State.setReg_psets : (s.setReg r v u i).psets = s.psets := rfl
@[simp] theorem State.setReg_racks : (s.setReg r v u i).racks = s.racks := rfl
@[simp] theorem State.setReg_lasts : (s.setReg r v u i).lasts = s.lasts := rfl
@[simp] theorem State.setReg_fec : (s.setReg r v u i).fec = s.fec := rfl
@[simp] theorem State.setReg_shadow : (s.setReg r v u i).shadow = s.shadow := rfl
@[simp] theorem State.setReg_fenced : (s.setReg r v u i).fenced = s.fenced := rfl
@[simp] theorem State.setReg_hosts : (s.setReg r v u i).hosts = s.hosts := rfl
@[simp] theorem State.setReg_ins : (s.setReg r v u i).ins = s.ins := rfl
@[simp] theorem State.setReg_time : (s.setReg r v u i).time = s.time := rfl
@[simp] theorem State.setReg_boot : (s.setReg r v u i).boot = s.boot := rfl
@[simp] theorem State.setReg_stage : (s.setReg r v u i).stage = s.stage := rfl
@[simp] theorem State.setReg_sec : (s.setReg r v u i).sec = s.sec := rfl
@[simp] theorem State.setReg_denied : (s.setReg r v u i).denied = s.denied := rfl
@[simp] theorem State.setReg_spi : (s.setReg r v u i).spi = s.spi := rfl
@[simp] theorem State.setReg_i2c : (s.setReg r v u i).i2c = s.i2c := rfl
@[simp] theorem State.setReg_cmis : (s.setReg r v u i).cmis = s.cmis := rfl
@[simp] theorem State.setReg_cal : (s.setReg r v u i).cal = s.cal := rfl
@[simp] theorem State.setReg_reader : (s.setReg r v u i).reader = s.reader := rfl
@[simp] theorem State.setReg_evr : (s.setReg r v u i).evr = s.evr := rfl

end

/-! ## put -/

section

variable (f : Fld) (v u i : Nat)

@[simp] theorem State.put_pending : (s.put f v u i).pending = s.pending := rfl
@[simp] theorem State.put_now : (s.put f v u i).now = s.now := rfl
@[simp] theorem State.put_freeIx : (s.put f v u i).freeIx = s.freeIx := rfl
@[simp] theorem State.put_cnts : (s.put f v u i).cnts = s.cnts := rfl
@[simp] theorem State.put_wides : (s.put f v u i).wides = s.wides := rfl
@[simp] theorem State.put_mem : (s.put f v u i).mem = s.mem := rfl
@[simp] theorem State.put_islands : (s.put f v u i).islands = s.islands := rfl
@[simp] theorem State.put_events : (s.put f v u i).events = s.events := rfl
@[simp] theorem State.put_offLogged : (s.put f v u i).offLogged = s.offLogged := rfl
@[simp] theorem State.put_rate : (s.put f v u i).rate = s.rate := rfl
@[simp] theorem State.put_snaps : (s.put f v u i).snaps = s.snaps := rfl
@[simp] theorem State.put_replies : (s.put f v u i).replies = s.replies := rfl
@[simp] theorem State.put_waiting : (s.put f v u i).waiting = s.waiting := rfl
@[simp] theorem State.put_links : (s.put f v u i).links = s.links := rfl
@[simp] theorem State.put_onDie : (s.put f v u i).onDie = s.onDie := rfl
@[simp] theorem State.put_draining : (s.put f v u i).draining = s.draining := rfl
@[simp] theorem State.put_pllArmed : (s.put f v u i).pllArmed = s.pllArmed := rfl
@[simp] theorem State.put_mode : (s.put f v u i).mode = s.mode := rfl
@[simp] theorem State.put_mbx : (s.put f v u i).mbx = s.mbx := rfl
@[simp] theorem State.put_inits : (s.put f v u i).inits = s.inits := rfl
@[simp] theorem State.put_pwr : (s.put f v u i).pwr = s.pwr := rfl
@[simp] theorem State.put_sensors : (s.put f v u i).sensors = s.sensors := rfl
@[simp] theorem State.put_life : (s.put f v u i).life = s.life := rfl
@[simp] theorem State.put_aqReplies : (s.put f v u i).aqReplies = s.aqReplies := rfl
@[simp] theorem State.put_ctl : (s.put f v u i).ctl = s.ctl := rfl
@[simp] theorem State.put_opt : (s.put f v u i).opt = s.opt := rfl
@[simp] theorem State.put_mon : (s.put f v u i).mon = s.mon := rfl
@[simp] theorem State.put_lines : (s.put f v u i).lines = s.lines := rfl
@[simp] theorem State.put_psets : (s.put f v u i).psets = s.psets := rfl
@[simp] theorem State.put_racks : (s.put f v u i).racks = s.racks := rfl
@[simp] theorem State.put_lasts : (s.put f v u i).lasts = s.lasts := rfl
@[simp] theorem State.put_fec : (s.put f v u i).fec = s.fec := rfl
@[simp] theorem State.put_shadow : (s.put f v u i).shadow = s.shadow := rfl
@[simp] theorem State.put_fenced : (s.put f v u i).fenced = s.fenced := rfl
@[simp] theorem State.put_hosts : (s.put f v u i).hosts = s.hosts := rfl
@[simp] theorem State.put_ins : (s.put f v u i).ins = s.ins := rfl
@[simp] theorem State.put_time : (s.put f v u i).time = s.time := rfl
@[simp] theorem State.put_boot : (s.put f v u i).boot = s.boot := rfl
@[simp] theorem State.put_stage : (s.put f v u i).stage = s.stage := rfl
@[simp] theorem State.put_sec : (s.put f v u i).sec = s.sec := rfl
@[simp] theorem State.put_denied : (s.put f v u i).denied = s.denied := rfl
@[simp] theorem State.put_spi : (s.put f v u i).spi = s.spi := rfl
@[simp] theorem State.put_i2c : (s.put f v u i).i2c = s.i2c := rfl
@[simp] theorem State.put_cmis : (s.put f v u i).cmis = s.cmis := rfl
@[simp] theorem State.put_cal : (s.put f v u i).cal = s.cal := rfl
@[simp] theorem State.put_reader : (s.put f v u i).reader = s.reader := rfl
@[simp] theorem State.put_evr : (s.put f v u i).evr = s.evr := rfl

end

/-! ## putFlag -/

section

variable (f : Fld) (v : Bool) (u i : Nat)

@[simp] theorem State.putFlag_pending : (s.putFlag f v u i).pending = s.pending := rfl
@[simp] theorem State.putFlag_now : (s.putFlag f v u i).now = s.now := rfl
@[simp] theorem State.putFlag_freeIx : (s.putFlag f v u i).freeIx = s.freeIx := rfl
@[simp] theorem State.putFlag_cnts : (s.putFlag f v u i).cnts = s.cnts := rfl
@[simp] theorem State.putFlag_wides : (s.putFlag f v u i).wides = s.wides := rfl
@[simp] theorem State.putFlag_mem : (s.putFlag f v u i).mem = s.mem := rfl
@[simp] theorem State.putFlag_islands : (s.putFlag f v u i).islands = s.islands := rfl
@[simp] theorem State.putFlag_events : (s.putFlag f v u i).events = s.events := rfl
@[simp] theorem State.putFlag_offLogged : (s.putFlag f v u i).offLogged = s.offLogged := rfl
@[simp] theorem State.putFlag_rate : (s.putFlag f v u i).rate = s.rate := rfl
@[simp] theorem State.putFlag_snaps : (s.putFlag f v u i).snaps = s.snaps := rfl
@[simp] theorem State.putFlag_replies : (s.putFlag f v u i).replies = s.replies := rfl
@[simp] theorem State.putFlag_waiting : (s.putFlag f v u i).waiting = s.waiting := rfl
@[simp] theorem State.putFlag_links : (s.putFlag f v u i).links = s.links := rfl
@[simp] theorem State.putFlag_onDie : (s.putFlag f v u i).onDie = s.onDie := rfl
@[simp] theorem State.putFlag_draining : (s.putFlag f v u i).draining = s.draining := rfl
@[simp] theorem State.putFlag_pllArmed : (s.putFlag f v u i).pllArmed = s.pllArmed := rfl
@[simp] theorem State.putFlag_mode : (s.putFlag f v u i).mode = s.mode := rfl
@[simp] theorem State.putFlag_mbx : (s.putFlag f v u i).mbx = s.mbx := rfl
@[simp] theorem State.putFlag_inits : (s.putFlag f v u i).inits = s.inits := rfl
@[simp] theorem State.putFlag_pwr : (s.putFlag f v u i).pwr = s.pwr := rfl
@[simp] theorem State.putFlag_sensors : (s.putFlag f v u i).sensors = s.sensors := rfl
@[simp] theorem State.putFlag_life : (s.putFlag f v u i).life = s.life := rfl
@[simp] theorem State.putFlag_aqReplies : (s.putFlag f v u i).aqReplies = s.aqReplies := rfl
@[simp] theorem State.putFlag_ctl : (s.putFlag f v u i).ctl = s.ctl := rfl
@[simp] theorem State.putFlag_opt : (s.putFlag f v u i).opt = s.opt := rfl
@[simp] theorem State.putFlag_mon : (s.putFlag f v u i).mon = s.mon := rfl
@[simp] theorem State.putFlag_lines : (s.putFlag f v u i).lines = s.lines := rfl
@[simp] theorem State.putFlag_psets : (s.putFlag f v u i).psets = s.psets := rfl
@[simp] theorem State.putFlag_racks : (s.putFlag f v u i).racks = s.racks := rfl
@[simp] theorem State.putFlag_lasts : (s.putFlag f v u i).lasts = s.lasts := rfl
@[simp] theorem State.putFlag_fec : (s.putFlag f v u i).fec = s.fec := rfl
@[simp] theorem State.putFlag_shadow : (s.putFlag f v u i).shadow = s.shadow := rfl
@[simp] theorem State.putFlag_fenced : (s.putFlag f v u i).fenced = s.fenced := rfl
@[simp] theorem State.putFlag_hosts : (s.putFlag f v u i).hosts = s.hosts := rfl
@[simp] theorem State.putFlag_ins : (s.putFlag f v u i).ins = s.ins := rfl
@[simp] theorem State.putFlag_time : (s.putFlag f v u i).time = s.time := rfl
@[simp] theorem State.putFlag_boot : (s.putFlag f v u i).boot = s.boot := rfl
@[simp] theorem State.putFlag_stage : (s.putFlag f v u i).stage = s.stage := rfl
@[simp] theorem State.putFlag_sec : (s.putFlag f v u i).sec = s.sec := rfl
@[simp] theorem State.putFlag_denied : (s.putFlag f v u i).denied = s.denied := rfl
@[simp] theorem State.putFlag_spi : (s.putFlag f v u i).spi = s.spi := rfl
@[simp] theorem State.putFlag_i2c : (s.putFlag f v u i).i2c = s.i2c := rfl
@[simp] theorem State.putFlag_cmis : (s.putFlag f v u i).cmis = s.cmis := rfl
@[simp] theorem State.putFlag_cal : (s.putFlag f v u i).cal = s.cal := rfl
@[simp] theorem State.putFlag_reader : (s.putFlag f v u i).reader = s.reader := rfl
@[simp] theorem State.putFlag_evr : (s.putFlag f v u i).evr = s.evr := rfl

end

/-! ## raise -/

section

variable (f : Fld) (u i : Nat)

@[simp] theorem State.raise_pending : (s.raise f u i).pending = s.pending := rfl
@[simp] theorem State.raise_now : (s.raise f u i).now = s.now := rfl
@[simp] theorem State.raise_freeIx : (s.raise f u i).freeIx = s.freeIx := rfl
@[simp] theorem State.raise_cnts : (s.raise f u i).cnts = s.cnts := rfl
@[simp] theorem State.raise_wides : (s.raise f u i).wides = s.wides := rfl
@[simp] theorem State.raise_mem : (s.raise f u i).mem = s.mem := rfl
@[simp] theorem State.raise_islands : (s.raise f u i).islands = s.islands := rfl
@[simp] theorem State.raise_events : (s.raise f u i).events = s.events := rfl
@[simp] theorem State.raise_offLogged : (s.raise f u i).offLogged = s.offLogged := rfl
@[simp] theorem State.raise_rate : (s.raise f u i).rate = s.rate := rfl
@[simp] theorem State.raise_snaps : (s.raise f u i).snaps = s.snaps := rfl
@[simp] theorem State.raise_replies : (s.raise f u i).replies = s.replies := rfl
@[simp] theorem State.raise_waiting : (s.raise f u i).waiting = s.waiting := rfl
@[simp] theorem State.raise_links : (s.raise f u i).links = s.links := rfl
@[simp] theorem State.raise_onDie : (s.raise f u i).onDie = s.onDie := rfl
@[simp] theorem State.raise_draining : (s.raise f u i).draining = s.draining := rfl
@[simp] theorem State.raise_pllArmed : (s.raise f u i).pllArmed = s.pllArmed := rfl
@[simp] theorem State.raise_mode : (s.raise f u i).mode = s.mode := rfl
@[simp] theorem State.raise_mbx : (s.raise f u i).mbx = s.mbx := rfl
@[simp] theorem State.raise_inits : (s.raise f u i).inits = s.inits := rfl
@[simp] theorem State.raise_pwr : (s.raise f u i).pwr = s.pwr := rfl
@[simp] theorem State.raise_sensors : (s.raise f u i).sensors = s.sensors := rfl
@[simp] theorem State.raise_life : (s.raise f u i).life = s.life := rfl
@[simp] theorem State.raise_aqReplies : (s.raise f u i).aqReplies = s.aqReplies := rfl
@[simp] theorem State.raise_ctl : (s.raise f u i).ctl = s.ctl := rfl
@[simp] theorem State.raise_opt : (s.raise f u i).opt = s.opt := rfl
@[simp] theorem State.raise_mon : (s.raise f u i).mon = s.mon := rfl
@[simp] theorem State.raise_lines : (s.raise f u i).lines = s.lines := rfl
@[simp] theorem State.raise_psets : (s.raise f u i).psets = s.psets := rfl
@[simp] theorem State.raise_racks : (s.raise f u i).racks = s.racks := rfl
@[simp] theorem State.raise_lasts : (s.raise f u i).lasts = s.lasts := rfl
@[simp] theorem State.raise_fec : (s.raise f u i).fec = s.fec := rfl
@[simp] theorem State.raise_shadow : (s.raise f u i).shadow = s.shadow := rfl
@[simp] theorem State.raise_fenced : (s.raise f u i).fenced = s.fenced := rfl
@[simp] theorem State.raise_hosts : (s.raise f u i).hosts = s.hosts := rfl
@[simp] theorem State.raise_ins : (s.raise f u i).ins = s.ins := rfl
@[simp] theorem State.raise_time : (s.raise f u i).time = s.time := rfl
@[simp] theorem State.raise_boot : (s.raise f u i).boot = s.boot := rfl
@[simp] theorem State.raise_stage : (s.raise f u i).stage = s.stage := rfl
@[simp] theorem State.raise_sec : (s.raise f u i).sec = s.sec := rfl
@[simp] theorem State.raise_denied : (s.raise f u i).denied = s.denied := rfl
@[simp] theorem State.raise_spi : (s.raise f u i).spi = s.spi := rfl
@[simp] theorem State.raise_i2c : (s.raise f u i).i2c = s.i2c := rfl
@[simp] theorem State.raise_cmis : (s.raise f u i).cmis = s.cmis := rfl
@[simp] theorem State.raise_cal : (s.raise f u i).cal = s.cal := rfl
@[simp] theorem State.raise_reader : (s.raise f u i).reader = s.reader := rfl
@[simp] theorem State.raise_evr : (s.raise f u i).evr = s.evr := rfl

end

/-! ## putBit -/

section

variable (r : Reg) (n : Nat) (v : Bool) (u : Nat)

@[simp] theorem State.putBit_pending : (s.putBit r n v u).pending = s.pending := rfl
@[simp] theorem State.putBit_now : (s.putBit r n v u).now = s.now := rfl
@[simp] theorem State.putBit_freeIx : (s.putBit r n v u).freeIx = s.freeIx := rfl
@[simp] theorem State.putBit_cnts : (s.putBit r n v u).cnts = s.cnts := rfl
@[simp] theorem State.putBit_wides : (s.putBit r n v u).wides = s.wides := rfl
@[simp] theorem State.putBit_mem : (s.putBit r n v u).mem = s.mem := rfl
@[simp] theorem State.putBit_islands : (s.putBit r n v u).islands = s.islands := rfl
@[simp] theorem State.putBit_events : (s.putBit r n v u).events = s.events := rfl
@[simp] theorem State.putBit_offLogged : (s.putBit r n v u).offLogged = s.offLogged := rfl
@[simp] theorem State.putBit_rate : (s.putBit r n v u).rate = s.rate := rfl
@[simp] theorem State.putBit_snaps : (s.putBit r n v u).snaps = s.snaps := rfl
@[simp] theorem State.putBit_replies : (s.putBit r n v u).replies = s.replies := rfl
@[simp] theorem State.putBit_waiting : (s.putBit r n v u).waiting = s.waiting := rfl
@[simp] theorem State.putBit_links : (s.putBit r n v u).links = s.links := rfl
@[simp] theorem State.putBit_onDie : (s.putBit r n v u).onDie = s.onDie := rfl
@[simp] theorem State.putBit_draining : (s.putBit r n v u).draining = s.draining := rfl
@[simp] theorem State.putBit_pllArmed : (s.putBit r n v u).pllArmed = s.pllArmed := rfl
@[simp] theorem State.putBit_mode : (s.putBit r n v u).mode = s.mode := rfl
@[simp] theorem State.putBit_mbx : (s.putBit r n v u).mbx = s.mbx := rfl
@[simp] theorem State.putBit_inits : (s.putBit r n v u).inits = s.inits := rfl
@[simp] theorem State.putBit_pwr : (s.putBit r n v u).pwr = s.pwr := rfl
@[simp] theorem State.putBit_sensors : (s.putBit r n v u).sensors = s.sensors := rfl
@[simp] theorem State.putBit_life : (s.putBit r n v u).life = s.life := rfl
@[simp] theorem State.putBit_aqReplies : (s.putBit r n v u).aqReplies = s.aqReplies := rfl
@[simp] theorem State.putBit_ctl : (s.putBit r n v u).ctl = s.ctl := rfl
@[simp] theorem State.putBit_opt : (s.putBit r n v u).opt = s.opt := rfl
@[simp] theorem State.putBit_mon : (s.putBit r n v u).mon = s.mon := rfl
@[simp] theorem State.putBit_lines : (s.putBit r n v u).lines = s.lines := rfl
@[simp] theorem State.putBit_psets : (s.putBit r n v u).psets = s.psets := rfl
@[simp] theorem State.putBit_racks : (s.putBit r n v u).racks = s.racks := rfl
@[simp] theorem State.putBit_lasts : (s.putBit r n v u).lasts = s.lasts := rfl
@[simp] theorem State.putBit_fec : (s.putBit r n v u).fec = s.fec := rfl
@[simp] theorem State.putBit_shadow : (s.putBit r n v u).shadow = s.shadow := rfl
@[simp] theorem State.putBit_fenced : (s.putBit r n v u).fenced = s.fenced := rfl
@[simp] theorem State.putBit_hosts : (s.putBit r n v u).hosts = s.hosts := rfl
@[simp] theorem State.putBit_ins : (s.putBit r n v u).ins = s.ins := rfl
@[simp] theorem State.putBit_time : (s.putBit r n v u).time = s.time := rfl
@[simp] theorem State.putBit_boot : (s.putBit r n v u).boot = s.boot := rfl
@[simp] theorem State.putBit_stage : (s.putBit r n v u).stage = s.stage := rfl
@[simp] theorem State.putBit_sec : (s.putBit r n v u).sec = s.sec := rfl
@[simp] theorem State.putBit_denied : (s.putBit r n v u).denied = s.denied := rfl
@[simp] theorem State.putBit_spi : (s.putBit r n v u).spi = s.spi := rfl
@[simp] theorem State.putBit_i2c : (s.putBit r n v u).i2c = s.i2c := rfl
@[simp] theorem State.putBit_cmis : (s.putBit r n v u).cmis = s.cmis := rfl
@[simp] theorem State.putBit_cal : (s.putBit r n v u).cal = s.cal := rfl
@[simp] theorem State.putBit_reader : (s.putBit r n v u).reader = s.reader := rfl
@[simp] theorem State.putBit_evr : (s.putBit r n v u).evr = s.evr := rfl

end

/-! ## bump -/

section

variable (f : Fld) (u i : Nat)

@[simp] theorem State.bump_pending : (s.bump f u i).pending = s.pending := rfl
@[simp] theorem State.bump_now : (s.bump f u i).now = s.now := rfl
@[simp] theorem State.bump_freeIx : (s.bump f u i).freeIx = s.freeIx := rfl
@[simp] theorem State.bump_cnts : (s.bump f u i).cnts = s.cnts := rfl
@[simp] theorem State.bump_wides : (s.bump f u i).wides = s.wides := rfl
@[simp] theorem State.bump_mem : (s.bump f u i).mem = s.mem := rfl
@[simp] theorem State.bump_islands : (s.bump f u i).islands = s.islands := rfl
@[simp] theorem State.bump_events : (s.bump f u i).events = s.events := rfl
@[simp] theorem State.bump_offLogged : (s.bump f u i).offLogged = s.offLogged := rfl
@[simp] theorem State.bump_rate : (s.bump f u i).rate = s.rate := rfl
@[simp] theorem State.bump_snaps : (s.bump f u i).snaps = s.snaps := rfl
@[simp] theorem State.bump_replies : (s.bump f u i).replies = s.replies := rfl
@[simp] theorem State.bump_waiting : (s.bump f u i).waiting = s.waiting := rfl
@[simp] theorem State.bump_links : (s.bump f u i).links = s.links := rfl
@[simp] theorem State.bump_onDie : (s.bump f u i).onDie = s.onDie := rfl
@[simp] theorem State.bump_draining : (s.bump f u i).draining = s.draining := rfl
@[simp] theorem State.bump_pllArmed : (s.bump f u i).pllArmed = s.pllArmed := rfl
@[simp] theorem State.bump_mode : (s.bump f u i).mode = s.mode := rfl
@[simp] theorem State.bump_mbx : (s.bump f u i).mbx = s.mbx := rfl
@[simp] theorem State.bump_inits : (s.bump f u i).inits = s.inits := rfl
@[simp] theorem State.bump_pwr : (s.bump f u i).pwr = s.pwr := rfl
@[simp] theorem State.bump_sensors : (s.bump f u i).sensors = s.sensors := rfl
@[simp] theorem State.bump_life : (s.bump f u i).life = s.life := rfl
@[simp] theorem State.bump_aqReplies : (s.bump f u i).aqReplies = s.aqReplies := rfl
@[simp] theorem State.bump_ctl : (s.bump f u i).ctl = s.ctl := rfl
@[simp] theorem State.bump_opt : (s.bump f u i).opt = s.opt := rfl
@[simp] theorem State.bump_mon : (s.bump f u i).mon = s.mon := rfl
@[simp] theorem State.bump_lines : (s.bump f u i).lines = s.lines := rfl
@[simp] theorem State.bump_psets : (s.bump f u i).psets = s.psets := rfl
@[simp] theorem State.bump_racks : (s.bump f u i).racks = s.racks := rfl
@[simp] theorem State.bump_lasts : (s.bump f u i).lasts = s.lasts := rfl
@[simp] theorem State.bump_fec : (s.bump f u i).fec = s.fec := rfl
@[simp] theorem State.bump_shadow : (s.bump f u i).shadow = s.shadow := rfl
@[simp] theorem State.bump_fenced : (s.bump f u i).fenced = s.fenced := rfl
@[simp] theorem State.bump_hosts : (s.bump f u i).hosts = s.hosts := rfl
@[simp] theorem State.bump_ins : (s.bump f u i).ins = s.ins := rfl
@[simp] theorem State.bump_time : (s.bump f u i).time = s.time := rfl
@[simp] theorem State.bump_boot : (s.bump f u i).boot = s.boot := rfl
@[simp] theorem State.bump_stage : (s.bump f u i).stage = s.stage := rfl
@[simp] theorem State.bump_sec : (s.bump f u i).sec = s.sec := rfl
@[simp] theorem State.bump_denied : (s.bump f u i).denied = s.denied := rfl
@[simp] theorem State.bump_spi : (s.bump f u i).spi = s.spi := rfl
@[simp] theorem State.bump_i2c : (s.bump f u i).i2c = s.i2c := rfl
@[simp] theorem State.bump_cmis : (s.bump f u i).cmis = s.cmis := rfl
@[simp] theorem State.bump_cal : (s.bump f u i).cal = s.cal := rfl
@[simp] theorem State.bump_reader : (s.bump f u i).reader = s.reader := rfl
@[simp] theorem State.bump_evr : (s.bump f u i).evr = s.evr := rfl

end

/-! ## setWide -/

section

variable (r : Reg) (v : Wide) (u i : Nat)

@[simp] theorem State.setWide_pending : (s.setWide r v u i).pending = s.pending := rfl
@[simp] theorem State.setWide_now : (s.setWide r v u i).now = s.now := rfl
@[simp] theorem State.setWide_freeIx : (s.setWide r v u i).freeIx = s.freeIx := rfl
@[simp] theorem State.setWide_regs : (s.setWide r v u i).regs = s.regs := rfl
@[simp] theorem State.setWide_cnts : (s.setWide r v u i).cnts = s.cnts := rfl
@[simp] theorem State.setWide_mem : (s.setWide r v u i).mem = s.mem := rfl
@[simp] theorem State.setWide_islands : (s.setWide r v u i).islands = s.islands := rfl
@[simp] theorem State.setWide_events : (s.setWide r v u i).events = s.events := rfl
@[simp] theorem State.setWide_offLogged : (s.setWide r v u i).offLogged = s.offLogged := rfl
@[simp] theorem State.setWide_rate : (s.setWide r v u i).rate = s.rate := rfl
@[simp] theorem State.setWide_snaps : (s.setWide r v u i).snaps = s.snaps := rfl
@[simp] theorem State.setWide_replies : (s.setWide r v u i).replies = s.replies := rfl
@[simp] theorem State.setWide_waiting : (s.setWide r v u i).waiting = s.waiting := rfl
@[simp] theorem State.setWide_links : (s.setWide r v u i).links = s.links := rfl
@[simp] theorem State.setWide_onDie : (s.setWide r v u i).onDie = s.onDie := rfl
@[simp] theorem State.setWide_draining : (s.setWide r v u i).draining = s.draining := rfl
@[simp] theorem State.setWide_pllArmed : (s.setWide r v u i).pllArmed = s.pllArmed := rfl
@[simp] theorem State.setWide_mode : (s.setWide r v u i).mode = s.mode := rfl
@[simp] theorem State.setWide_mbx : (s.setWide r v u i).mbx = s.mbx := rfl
@[simp] theorem State.setWide_inits : (s.setWide r v u i).inits = s.inits := rfl
@[simp] theorem State.setWide_pwr : (s.setWide r v u i).pwr = s.pwr := rfl
@[simp] theorem State.setWide_sensors : (s.setWide r v u i).sensors = s.sensors := rfl
@[simp] theorem State.setWide_life : (s.setWide r v u i).life = s.life := rfl
@[simp] theorem State.setWide_aqReplies : (s.setWide r v u i).aqReplies = s.aqReplies := rfl
@[simp] theorem State.setWide_ctl : (s.setWide r v u i).ctl = s.ctl := rfl
@[simp] theorem State.setWide_opt : (s.setWide r v u i).opt = s.opt := rfl
@[simp] theorem State.setWide_mon : (s.setWide r v u i).mon = s.mon := rfl
@[simp] theorem State.setWide_lines : (s.setWide r v u i).lines = s.lines := rfl
@[simp] theorem State.setWide_psets : (s.setWide r v u i).psets = s.psets := rfl
@[simp] theorem State.setWide_racks : (s.setWide r v u i).racks = s.racks := rfl
@[simp] theorem State.setWide_lasts : (s.setWide r v u i).lasts = s.lasts := rfl
@[simp] theorem State.setWide_fec : (s.setWide r v u i).fec = s.fec := rfl
@[simp] theorem State.setWide_shadow : (s.setWide r v u i).shadow = s.shadow := rfl
@[simp] theorem State.setWide_fenced : (s.setWide r v u i).fenced = s.fenced := rfl
@[simp] theorem State.setWide_hosts : (s.setWide r v u i).hosts = s.hosts := rfl
@[simp] theorem State.setWide_ins : (s.setWide r v u i).ins = s.ins := rfl
@[simp] theorem State.setWide_time : (s.setWide r v u i).time = s.time := rfl
@[simp] theorem State.setWide_boot : (s.setWide r v u i).boot = s.boot := rfl
@[simp] theorem State.setWide_stage : (s.setWide r v u i).stage = s.stage := rfl
@[simp] theorem State.setWide_sec : (s.setWide r v u i).sec = s.sec := rfl
@[simp] theorem State.setWide_denied : (s.setWide r v u i).denied = s.denied := rfl
@[simp] theorem State.setWide_spi : (s.setWide r v u i).spi = s.spi := rfl
@[simp] theorem State.setWide_i2c : (s.setWide r v u i).i2c = s.i2c := rfl
@[simp] theorem State.setWide_cmis : (s.setWide r v u i).cmis = s.cmis := rfl
@[simp] theorem State.setWide_cal : (s.setWide r v u i).cal = s.cal := rfl
@[simp] theorem State.setWide_reader : (s.setWide r v u i).reader = s.reader := rfl
@[simp] theorem State.setWide_evr : (s.setWide r v u i).evr = s.evr := rfl

end

/-! ## setCnt -/

section

variable (r : Reg) (v : W48) (u i : Nat)

@[simp] theorem State.setCnt_pending : (s.setCnt r v u i).pending = s.pending := rfl
@[simp] theorem State.setCnt_now : (s.setCnt r v u i).now = s.now := rfl
@[simp] theorem State.setCnt_freeIx : (s.setCnt r v u i).freeIx = s.freeIx := rfl
@[simp] theorem State.setCnt_regs : (s.setCnt r v u i).regs = s.regs := rfl
@[simp] theorem State.setCnt_wides : (s.setCnt r v u i).wides = s.wides := rfl
@[simp] theorem State.setCnt_mem : (s.setCnt r v u i).mem = s.mem := rfl
@[simp] theorem State.setCnt_islands : (s.setCnt r v u i).islands = s.islands := rfl
@[simp] theorem State.setCnt_events : (s.setCnt r v u i).events = s.events := rfl
@[simp] theorem State.setCnt_offLogged : (s.setCnt r v u i).offLogged = s.offLogged := rfl
@[simp] theorem State.setCnt_rate : (s.setCnt r v u i).rate = s.rate := rfl
@[simp] theorem State.setCnt_snaps : (s.setCnt r v u i).snaps = s.snaps := rfl
@[simp] theorem State.setCnt_replies : (s.setCnt r v u i).replies = s.replies := rfl
@[simp] theorem State.setCnt_waiting : (s.setCnt r v u i).waiting = s.waiting := rfl
@[simp] theorem State.setCnt_links : (s.setCnt r v u i).links = s.links := rfl
@[simp] theorem State.setCnt_onDie : (s.setCnt r v u i).onDie = s.onDie := rfl
@[simp] theorem State.setCnt_draining : (s.setCnt r v u i).draining = s.draining := rfl
@[simp] theorem State.setCnt_pllArmed : (s.setCnt r v u i).pllArmed = s.pllArmed := rfl
@[simp] theorem State.setCnt_mode : (s.setCnt r v u i).mode = s.mode := rfl
@[simp] theorem State.setCnt_mbx : (s.setCnt r v u i).mbx = s.mbx := rfl
@[simp] theorem State.setCnt_inits : (s.setCnt r v u i).inits = s.inits := rfl
@[simp] theorem State.setCnt_pwr : (s.setCnt r v u i).pwr = s.pwr := rfl
@[simp] theorem State.setCnt_sensors : (s.setCnt r v u i).sensors = s.sensors := rfl
@[simp] theorem State.setCnt_life : (s.setCnt r v u i).life = s.life := rfl
@[simp] theorem State.setCnt_aqReplies : (s.setCnt r v u i).aqReplies = s.aqReplies := rfl
@[simp] theorem State.setCnt_ctl : (s.setCnt r v u i).ctl = s.ctl := rfl
@[simp] theorem State.setCnt_opt : (s.setCnt r v u i).opt = s.opt := rfl
@[simp] theorem State.setCnt_mon : (s.setCnt r v u i).mon = s.mon := rfl
@[simp] theorem State.setCnt_lines : (s.setCnt r v u i).lines = s.lines := rfl
@[simp] theorem State.setCnt_psets : (s.setCnt r v u i).psets = s.psets := rfl
@[simp] theorem State.setCnt_racks : (s.setCnt r v u i).racks = s.racks := rfl
@[simp] theorem State.setCnt_lasts : (s.setCnt r v u i).lasts = s.lasts := rfl
@[simp] theorem State.setCnt_fec : (s.setCnt r v u i).fec = s.fec := rfl
@[simp] theorem State.setCnt_shadow : (s.setCnt r v u i).shadow = s.shadow := rfl
@[simp] theorem State.setCnt_fenced : (s.setCnt r v u i).fenced = s.fenced := rfl
@[simp] theorem State.setCnt_hosts : (s.setCnt r v u i).hosts = s.hosts := rfl
@[simp] theorem State.setCnt_ins : (s.setCnt r v u i).ins = s.ins := rfl
@[simp] theorem State.setCnt_time : (s.setCnt r v u i).time = s.time := rfl
@[simp] theorem State.setCnt_boot : (s.setCnt r v u i).boot = s.boot := rfl
@[simp] theorem State.setCnt_stage : (s.setCnt r v u i).stage = s.stage := rfl
@[simp] theorem State.setCnt_sec : (s.setCnt r v u i).sec = s.sec := rfl
@[simp] theorem State.setCnt_denied : (s.setCnt r v u i).denied = s.denied := rfl
@[simp] theorem State.setCnt_spi : (s.setCnt r v u i).spi = s.spi := rfl
@[simp] theorem State.setCnt_i2c : (s.setCnt r v u i).i2c = s.i2c := rfl
@[simp] theorem State.setCnt_cmis : (s.setCnt r v u i).cmis = s.cmis := rfl
@[simp] theorem State.setCnt_cal : (s.setCnt r v u i).cal = s.cal := rfl
@[simp] theorem State.setCnt_reader : (s.setCnt r v u i).reader = s.reader := rfl
@[simp] theorem State.setCnt_evr : (s.setCnt r v u i).evr = s.evr := rfl

end

/-! ## log -/

section

variable (c sev p0 p1 p2 p3 : Nat)

@[simp] theorem State.log_pending : (s.log c sev p0 p1 p2 p3).pending = s.pending := rfl
@[simp] theorem State.log_now : (s.log c sev p0 p1 p2 p3).now = s.now := rfl
@[simp] theorem State.log_freeIx : (s.log c sev p0 p1 p2 p3).freeIx = s.freeIx := rfl
@[simp] theorem State.log_regs : (s.log c sev p0 p1 p2 p3).regs = s.regs := rfl
@[simp] theorem State.log_cnts : (s.log c sev p0 p1 p2 p3).cnts = s.cnts := rfl
@[simp] theorem State.log_wides : (s.log c sev p0 p1 p2 p3).wides = s.wides := rfl
@[simp] theorem State.log_mem : (s.log c sev p0 p1 p2 p3).mem = s.mem := rfl
@[simp] theorem State.log_islands : (s.log c sev p0 p1 p2 p3).islands = s.islands := rfl
@[simp] theorem State.log_offLogged : (s.log c sev p0 p1 p2 p3).offLogged = s.offLogged := rfl
@[simp] theorem State.log_rate : (s.log c sev p0 p1 p2 p3).rate = s.rate := rfl
@[simp] theorem State.log_snaps : (s.log c sev p0 p1 p2 p3).snaps = s.snaps := rfl
@[simp] theorem State.log_replies : (s.log c sev p0 p1 p2 p3).replies = s.replies := rfl
@[simp] theorem State.log_waiting : (s.log c sev p0 p1 p2 p3).waiting = s.waiting := rfl
@[simp] theorem State.log_links : (s.log c sev p0 p1 p2 p3).links = s.links := rfl
@[simp] theorem State.log_onDie : (s.log c sev p0 p1 p2 p3).onDie = s.onDie := rfl
@[simp] theorem State.log_draining : (s.log c sev p0 p1 p2 p3).draining = s.draining := rfl
@[simp] theorem State.log_pllArmed : (s.log c sev p0 p1 p2 p3).pllArmed = s.pllArmed := rfl
@[simp] theorem State.log_mode : (s.log c sev p0 p1 p2 p3).mode = s.mode := rfl
@[simp] theorem State.log_mbx : (s.log c sev p0 p1 p2 p3).mbx = s.mbx := rfl
@[simp] theorem State.log_inits : (s.log c sev p0 p1 p2 p3).inits = s.inits := rfl
@[simp] theorem State.log_pwr : (s.log c sev p0 p1 p2 p3).pwr = s.pwr := rfl
@[simp] theorem State.log_sensors : (s.log c sev p0 p1 p2 p3).sensors = s.sensors := rfl
@[simp] theorem State.log_life : (s.log c sev p0 p1 p2 p3).life = s.life := rfl
@[simp] theorem State.log_aqReplies : (s.log c sev p0 p1 p2 p3).aqReplies = s.aqReplies := rfl
@[simp] theorem State.log_ctl : (s.log c sev p0 p1 p2 p3).ctl = s.ctl := rfl
@[simp] theorem State.log_opt : (s.log c sev p0 p1 p2 p3).opt = s.opt := rfl
@[simp] theorem State.log_mon : (s.log c sev p0 p1 p2 p3).mon = s.mon := rfl
@[simp] theorem State.log_lines : (s.log c sev p0 p1 p2 p3).lines = s.lines := rfl
@[simp] theorem State.log_psets : (s.log c sev p0 p1 p2 p3).psets = s.psets := rfl
@[simp] theorem State.log_racks : (s.log c sev p0 p1 p2 p3).racks = s.racks := rfl
@[simp] theorem State.log_lasts : (s.log c sev p0 p1 p2 p3).lasts = s.lasts := rfl
@[simp] theorem State.log_fec : (s.log c sev p0 p1 p2 p3).fec = s.fec := rfl
@[simp] theorem State.log_shadow : (s.log c sev p0 p1 p2 p3).shadow = s.shadow := rfl
@[simp] theorem State.log_fenced : (s.log c sev p0 p1 p2 p3).fenced = s.fenced := rfl
@[simp] theorem State.log_hosts : (s.log c sev p0 p1 p2 p3).hosts = s.hosts := rfl
@[simp] theorem State.log_ins : (s.log c sev p0 p1 p2 p3).ins = s.ins := rfl
@[simp] theorem State.log_time : (s.log c sev p0 p1 p2 p3).time = s.time := rfl
@[simp] theorem State.log_boot : (s.log c sev p0 p1 p2 p3).boot = s.boot := rfl
@[simp] theorem State.log_stage : (s.log c sev p0 p1 p2 p3).stage = s.stage := rfl
@[simp] theorem State.log_sec : (s.log c sev p0 p1 p2 p3).sec = s.sec := rfl
@[simp] theorem State.log_denied : (s.log c sev p0 p1 p2 p3).denied = s.denied := rfl
@[simp] theorem State.log_spi : (s.log c sev p0 p1 p2 p3).spi = s.spi := rfl
@[simp] theorem State.log_i2c : (s.log c sev p0 p1 p2 p3).i2c = s.i2c := rfl
@[simp] theorem State.log_cmis : (s.log c sev p0 p1 p2 p3).cmis = s.cmis := rfl
@[simp] theorem State.log_cal : (s.log c sev p0 p1 p2 p3).cal = s.cal := rfl
@[simp] theorem State.log_reader : (s.log c sev p0 p1 p2 p3).reader = s.reader := rfl
@[simp] theorem State.log_evr : (s.log c sev p0 p1 p2 p3).evr = s.evr := rfl

end

/-! ## setIsland -/

section

variable (id : Nat) (v : IslandSt)

@[simp] theorem State.setIsland_pending : (s.setIsland id v).pending = s.pending := rfl
@[simp] theorem State.setIsland_now : (s.setIsland id v).now = s.now := rfl
@[simp] theorem State.setIsland_freeIx : (s.setIsland id v).freeIx = s.freeIx := rfl
@[simp] theorem State.setIsland_regs : (s.setIsland id v).regs = s.regs := rfl
@[simp] theorem State.setIsland_cnts : (s.setIsland id v).cnts = s.cnts := rfl
@[simp] theorem State.setIsland_wides : (s.setIsland id v).wides = s.wides := rfl
@[simp] theorem State.setIsland_mem : (s.setIsland id v).mem = s.mem := rfl
@[simp] theorem State.setIsland_events : (s.setIsland id v).events = s.events := rfl
@[simp] theorem State.setIsland_offLogged : (s.setIsland id v).offLogged = s.offLogged := rfl
@[simp] theorem State.setIsland_rate : (s.setIsland id v).rate = s.rate := rfl
@[simp] theorem State.setIsland_snaps : (s.setIsland id v).snaps = s.snaps := rfl
@[simp] theorem State.setIsland_replies : (s.setIsland id v).replies = s.replies := rfl
@[simp] theorem State.setIsland_waiting : (s.setIsland id v).waiting = s.waiting := rfl
@[simp] theorem State.setIsland_links : (s.setIsland id v).links = s.links := rfl
@[simp] theorem State.setIsland_onDie : (s.setIsland id v).onDie = s.onDie := rfl
@[simp] theorem State.setIsland_draining : (s.setIsland id v).draining = s.draining := rfl
@[simp] theorem State.setIsland_pllArmed : (s.setIsland id v).pllArmed = s.pllArmed := rfl
@[simp] theorem State.setIsland_mode : (s.setIsland id v).mode = s.mode := rfl
@[simp] theorem State.setIsland_mbx : (s.setIsland id v).mbx = s.mbx := rfl
@[simp] theorem State.setIsland_inits : (s.setIsland id v).inits = s.inits := rfl
@[simp] theorem State.setIsland_pwr : (s.setIsland id v).pwr = s.pwr := rfl
@[simp] theorem State.setIsland_sensors : (s.setIsland id v).sensors = s.sensors := rfl
@[simp] theorem State.setIsland_life : (s.setIsland id v).life = s.life := rfl
@[simp] theorem State.setIsland_aqReplies : (s.setIsland id v).aqReplies = s.aqReplies := rfl
@[simp] theorem State.setIsland_ctl : (s.setIsland id v).ctl = s.ctl := rfl
@[simp] theorem State.setIsland_opt : (s.setIsland id v).opt = s.opt := rfl
@[simp] theorem State.setIsland_mon : (s.setIsland id v).mon = s.mon := rfl
@[simp] theorem State.setIsland_lines : (s.setIsland id v).lines = s.lines := rfl
@[simp] theorem State.setIsland_psets : (s.setIsland id v).psets = s.psets := rfl
@[simp] theorem State.setIsland_racks : (s.setIsland id v).racks = s.racks := rfl
@[simp] theorem State.setIsland_lasts : (s.setIsland id v).lasts = s.lasts := rfl
@[simp] theorem State.setIsland_fec : (s.setIsland id v).fec = s.fec := rfl
@[simp] theorem State.setIsland_shadow : (s.setIsland id v).shadow = s.shadow := rfl
@[simp] theorem State.setIsland_fenced : (s.setIsland id v).fenced = s.fenced := rfl
@[simp] theorem State.setIsland_hosts : (s.setIsland id v).hosts = s.hosts := rfl
@[simp] theorem State.setIsland_ins : (s.setIsland id v).ins = s.ins := rfl
@[simp] theorem State.setIsland_time : (s.setIsland id v).time = s.time := rfl
@[simp] theorem State.setIsland_boot : (s.setIsland id v).boot = s.boot := rfl
@[simp] theorem State.setIsland_stage : (s.setIsland id v).stage = s.stage := rfl
@[simp] theorem State.setIsland_sec : (s.setIsland id v).sec = s.sec := rfl
@[simp] theorem State.setIsland_denied : (s.setIsland id v).denied = s.denied := rfl
@[simp] theorem State.setIsland_spi : (s.setIsland id v).spi = s.spi := rfl
@[simp] theorem State.setIsland_i2c : (s.setIsland id v).i2c = s.i2c := rfl
@[simp] theorem State.setIsland_cmis : (s.setIsland id v).cmis = s.cmis := rfl
@[simp] theorem State.setIsland_cal : (s.setIsland id v).cal = s.cal := rfl
@[simp] theorem State.setIsland_reader : (s.setIsland id v).reader = s.reader := rfl
@[simp] theorem State.setIsland_evr : (s.setIsland id v).evr = s.evr := rfl

end

/-! ## setWord -/

section

variable (a : Nat) (w : W72)

@[simp] theorem State.setWord_pending : (s.setWord a w).pending = s.pending := rfl
@[simp] theorem State.setWord_now : (s.setWord a w).now = s.now := rfl
@[simp] theorem State.setWord_freeIx : (s.setWord a w).freeIx = s.freeIx := rfl
@[simp] theorem State.setWord_regs : (s.setWord a w).regs = s.regs := rfl
@[simp] theorem State.setWord_cnts : (s.setWord a w).cnts = s.cnts := rfl
@[simp] theorem State.setWord_wides : (s.setWord a w).wides = s.wides := rfl
@[simp] theorem State.setWord_islands : (s.setWord a w).islands = s.islands := rfl
@[simp] theorem State.setWord_events : (s.setWord a w).events = s.events := rfl
@[simp] theorem State.setWord_offLogged : (s.setWord a w).offLogged = s.offLogged := rfl
@[simp] theorem State.setWord_rate : (s.setWord a w).rate = s.rate := rfl
@[simp] theorem State.setWord_snaps : (s.setWord a w).snaps = s.snaps := rfl
@[simp] theorem State.setWord_replies : (s.setWord a w).replies = s.replies := rfl
@[simp] theorem State.setWord_waiting : (s.setWord a w).waiting = s.waiting := rfl
@[simp] theorem State.setWord_links : (s.setWord a w).links = s.links := rfl
@[simp] theorem State.setWord_onDie : (s.setWord a w).onDie = s.onDie := rfl
@[simp] theorem State.setWord_draining : (s.setWord a w).draining = s.draining := rfl
@[simp] theorem State.setWord_pllArmed : (s.setWord a w).pllArmed = s.pllArmed := rfl
@[simp] theorem State.setWord_mode : (s.setWord a w).mode = s.mode := rfl
@[simp] theorem State.setWord_mbx : (s.setWord a w).mbx = s.mbx := rfl
@[simp] theorem State.setWord_inits : (s.setWord a w).inits = s.inits := rfl
@[simp] theorem State.setWord_pwr : (s.setWord a w).pwr = s.pwr := rfl
@[simp] theorem State.setWord_sensors : (s.setWord a w).sensors = s.sensors := rfl
@[simp] theorem State.setWord_life : (s.setWord a w).life = s.life := rfl
@[simp] theorem State.setWord_aqReplies : (s.setWord a w).aqReplies = s.aqReplies := rfl
@[simp] theorem State.setWord_ctl : (s.setWord a w).ctl = s.ctl := rfl
@[simp] theorem State.setWord_opt : (s.setWord a w).opt = s.opt := rfl
@[simp] theorem State.setWord_mon : (s.setWord a w).mon = s.mon := rfl
@[simp] theorem State.setWord_lines : (s.setWord a w).lines = s.lines := rfl
@[simp] theorem State.setWord_psets : (s.setWord a w).psets = s.psets := rfl
@[simp] theorem State.setWord_racks : (s.setWord a w).racks = s.racks := rfl
@[simp] theorem State.setWord_lasts : (s.setWord a w).lasts = s.lasts := rfl
@[simp] theorem State.setWord_fec : (s.setWord a w).fec = s.fec := rfl
@[simp] theorem State.setWord_shadow : (s.setWord a w).shadow = s.shadow := rfl
@[simp] theorem State.setWord_fenced : (s.setWord a w).fenced = s.fenced := rfl
@[simp] theorem State.setWord_hosts : (s.setWord a w).hosts = s.hosts := rfl
@[simp] theorem State.setWord_ins : (s.setWord a w).ins = s.ins := rfl
@[simp] theorem State.setWord_time : (s.setWord a w).time = s.time := rfl
@[simp] theorem State.setWord_boot : (s.setWord a w).boot = s.boot := rfl
@[simp] theorem State.setWord_stage : (s.setWord a w).stage = s.stage := rfl
@[simp] theorem State.setWord_sec : (s.setWord a w).sec = s.sec := rfl
@[simp] theorem State.setWord_denied : (s.setWord a w).denied = s.denied := rfl
@[simp] theorem State.setWord_spi : (s.setWord a w).spi = s.spi := rfl
@[simp] theorem State.setWord_i2c : (s.setWord a w).i2c = s.i2c := rfl
@[simp] theorem State.setWord_cmis : (s.setWord a w).cmis = s.cmis := rfl
@[simp] theorem State.setWord_cal : (s.setWord a w).cal = s.cal := rfl
@[simp] theorem State.setWord_reader : (s.setWord a w).reader = s.reader := rfl
@[simp] theorem State.setWord_evr : (s.setWord a w).evr = s.evr := rfl

end

/-! ## respond -/

section

variable (m : Master) (r : Resp) (lo hi : W32)

@[simp] theorem State.respond_pending : (s.respond m r lo hi).pending = s.pending := rfl
@[simp] theorem State.respond_now : (s.respond m r lo hi).now = s.now := rfl
@[simp] theorem State.respond_freeIx : (s.respond m r lo hi).freeIx = s.freeIx := rfl
@[simp] theorem State.respond_regs : (s.respond m r lo hi).regs = s.regs := rfl
@[simp] theorem State.respond_cnts : (s.respond m r lo hi).cnts = s.cnts := rfl
@[simp] theorem State.respond_wides : (s.respond m r lo hi).wides = s.wides := rfl
@[simp] theorem State.respond_mem : (s.respond m r lo hi).mem = s.mem := rfl
@[simp] theorem State.respond_islands : (s.respond m r lo hi).islands = s.islands := rfl
@[simp] theorem State.respond_events : (s.respond m r lo hi).events = s.events := rfl
@[simp] theorem State.respond_offLogged : (s.respond m r lo hi).offLogged = s.offLogged := rfl
@[simp] theorem State.respond_rate : (s.respond m r lo hi).rate = s.rate := rfl
@[simp] theorem State.respond_snaps : (s.respond m r lo hi).snaps = s.snaps := rfl
@[simp] theorem State.respond_waiting : (s.respond m r lo hi).waiting = s.waiting := rfl
@[simp] theorem State.respond_links : (s.respond m r lo hi).links = s.links := rfl
@[simp] theorem State.respond_onDie : (s.respond m r lo hi).onDie = s.onDie := rfl
@[simp] theorem State.respond_draining : (s.respond m r lo hi).draining = s.draining := rfl
@[simp] theorem State.respond_pllArmed : (s.respond m r lo hi).pllArmed = s.pllArmed := rfl
@[simp] theorem State.respond_mode : (s.respond m r lo hi).mode = s.mode := rfl
@[simp] theorem State.respond_mbx : (s.respond m r lo hi).mbx = s.mbx := rfl
@[simp] theorem State.respond_inits : (s.respond m r lo hi).inits = s.inits := rfl
@[simp] theorem State.respond_pwr : (s.respond m r lo hi).pwr = s.pwr := rfl
@[simp] theorem State.respond_sensors : (s.respond m r lo hi).sensors = s.sensors := rfl
@[simp] theorem State.respond_life : (s.respond m r lo hi).life = s.life := rfl
@[simp] theorem State.respond_aqReplies : (s.respond m r lo hi).aqReplies = s.aqReplies := rfl
@[simp] theorem State.respond_ctl : (s.respond m r lo hi).ctl = s.ctl := rfl
@[simp] theorem State.respond_opt : (s.respond m r lo hi).opt = s.opt := rfl
@[simp] theorem State.respond_mon : (s.respond m r lo hi).mon = s.mon := rfl
@[simp] theorem State.respond_lines : (s.respond m r lo hi).lines = s.lines := rfl
@[simp] theorem State.respond_psets : (s.respond m r lo hi).psets = s.psets := rfl
@[simp] theorem State.respond_racks : (s.respond m r lo hi).racks = s.racks := rfl
@[simp] theorem State.respond_lasts : (s.respond m r lo hi).lasts = s.lasts := rfl
@[simp] theorem State.respond_fec : (s.respond m r lo hi).fec = s.fec := rfl
@[simp] theorem State.respond_shadow : (s.respond m r lo hi).shadow = s.shadow := rfl
@[simp] theorem State.respond_fenced : (s.respond m r lo hi).fenced = s.fenced := rfl
@[simp] theorem State.respond_hosts : (s.respond m r lo hi).hosts = s.hosts := rfl
@[simp] theorem State.respond_ins : (s.respond m r lo hi).ins = s.ins := rfl
@[simp] theorem State.respond_time : (s.respond m r lo hi).time = s.time := rfl
@[simp] theorem State.respond_boot : (s.respond m r lo hi).boot = s.boot := rfl
@[simp] theorem State.respond_stage : (s.respond m r lo hi).stage = s.stage := rfl
@[simp] theorem State.respond_sec : (s.respond m r lo hi).sec = s.sec := rfl
@[simp] theorem State.respond_denied : (s.respond m r lo hi).denied = s.denied := rfl
@[simp] theorem State.respond_spi : (s.respond m r lo hi).spi = s.spi := rfl
@[simp] theorem State.respond_i2c : (s.respond m r lo hi).i2c = s.i2c := rfl
@[simp] theorem State.respond_cmis : (s.respond m r lo hi).cmis = s.cmis := rfl
@[simp] theorem State.respond_cal : (s.respond m r lo hi).cal = s.cal := rfl
@[simp] theorem State.respond_reader : (s.respond m r lo hi).reader = s.reader := rfl
@[simp] theorem State.respond_evr : (s.respond m r lo hi).evr = s.evr := rfl

end

/-! ## setEyelet -/

section

variable (e : Nat) (v : Eyelet)

@[simp] theorem State.setEyelet_pending : (s.setEyelet e v).pending = s.pending := rfl
@[simp] theorem State.setEyelet_now : (s.setEyelet e v).now = s.now := rfl
@[simp] theorem State.setEyelet_freeIx : (s.setEyelet e v).freeIx = s.freeIx := rfl
@[simp] theorem State.setEyelet_regs : (s.setEyelet e v).regs = s.regs := rfl
@[simp] theorem State.setEyelet_cnts : (s.setEyelet e v).cnts = s.cnts := rfl
@[simp] theorem State.setEyelet_wides : (s.setEyelet e v).wides = s.wides := rfl
@[simp] theorem State.setEyelet_mem : (s.setEyelet e v).mem = s.mem := rfl
@[simp] theorem State.setEyelet_islands : (s.setEyelet e v).islands = s.islands := rfl
@[simp] theorem State.setEyelet_events : (s.setEyelet e v).events = s.events := rfl
@[simp] theorem State.setEyelet_offLogged : (s.setEyelet e v).offLogged = s.offLogged := rfl
@[simp] theorem State.setEyelet_rate : (s.setEyelet e v).rate = s.rate := rfl
@[simp] theorem State.setEyelet_snaps : (s.setEyelet e v).snaps = s.snaps := rfl
@[simp] theorem State.setEyelet_replies : (s.setEyelet e v).replies = s.replies := rfl
@[simp] theorem State.setEyelet_waiting : (s.setEyelet e v).waiting = s.waiting := rfl
@[simp] theorem State.setEyelet_links : (s.setEyelet e v).links = s.links := rfl
@[simp] theorem State.setEyelet_onDie : (s.setEyelet e v).onDie = s.onDie := rfl
@[simp] theorem State.setEyelet_draining : (s.setEyelet e v).draining = s.draining := rfl
@[simp] theorem State.setEyelet_pllArmed : (s.setEyelet e v).pllArmed = s.pllArmed := rfl
@[simp] theorem State.setEyelet_mode : (s.setEyelet e v).mode = s.mode := rfl
@[simp] theorem State.setEyelet_inits : (s.setEyelet e v).inits = s.inits := rfl
@[simp] theorem State.setEyelet_pwr : (s.setEyelet e v).pwr = s.pwr := rfl
@[simp] theorem State.setEyelet_sensors : (s.setEyelet e v).sensors = s.sensors := rfl
@[simp] theorem State.setEyelet_life : (s.setEyelet e v).life = s.life := rfl
@[simp] theorem State.setEyelet_aqReplies : (s.setEyelet e v).aqReplies = s.aqReplies := rfl
@[simp] theorem State.setEyelet_ctl : (s.setEyelet e v).ctl = s.ctl := rfl
@[simp] theorem State.setEyelet_opt : (s.setEyelet e v).opt = s.opt := rfl
@[simp] theorem State.setEyelet_mon : (s.setEyelet e v).mon = s.mon := rfl
@[simp] theorem State.setEyelet_lines : (s.setEyelet e v).lines = s.lines := rfl
@[simp] theorem State.setEyelet_psets : (s.setEyelet e v).psets = s.psets := rfl
@[simp] theorem State.setEyelet_racks : (s.setEyelet e v).racks = s.racks := rfl
@[simp] theorem State.setEyelet_lasts : (s.setEyelet e v).lasts = s.lasts := rfl
@[simp] theorem State.setEyelet_fec : (s.setEyelet e v).fec = s.fec := rfl
@[simp] theorem State.setEyelet_shadow : (s.setEyelet e v).shadow = s.shadow := rfl
@[simp] theorem State.setEyelet_fenced : (s.setEyelet e v).fenced = s.fenced := rfl
@[simp] theorem State.setEyelet_hosts : (s.setEyelet e v).hosts = s.hosts := rfl
@[simp] theorem State.setEyelet_ins : (s.setEyelet e v).ins = s.ins := rfl
@[simp] theorem State.setEyelet_time : (s.setEyelet e v).time = s.time := rfl
@[simp] theorem State.setEyelet_boot : (s.setEyelet e v).boot = s.boot := rfl
@[simp] theorem State.setEyelet_stage : (s.setEyelet e v).stage = s.stage := rfl
@[simp] theorem State.setEyelet_sec : (s.setEyelet e v).sec = s.sec := rfl
@[simp] theorem State.setEyelet_denied : (s.setEyelet e v).denied = s.denied := rfl
@[simp] theorem State.setEyelet_spi : (s.setEyelet e v).spi = s.spi := rfl
@[simp] theorem State.setEyelet_i2c : (s.setEyelet e v).i2c = s.i2c := rfl
@[simp] theorem State.setEyelet_cmis : (s.setEyelet e v).cmis = s.cmis := rfl
@[simp] theorem State.setEyelet_cal : (s.setEyelet e v).cal = s.cal := rfl
@[simp] theorem State.setEyelet_reader : (s.setEyelet e v).reader = s.reader := rfl
@[simp] theorem State.setEyelet_evr : (s.setEyelet e v).evr = s.evr := rfl

end

end Sys2Proof.Machine
end

