-- ==== Sys2Proof/Laws/Ops.lean ====
section
/-!
SUPPORT. Sys2Proof/Laws/Ops.lean: what the shared operations do: the value a write leaves, and that it leaves every
other register, counter, quantity, island, eyelet and word alone.
-/

namespace Sys2Proof.Machine

/-! ## Bit fields -/

theorem getBits_lt (x : W32) (lo w : Nat) : getBits x lo w < 2 ^ w := Nat.mod_lt _ (Nat.two_pow_pos w)

theorem testBit_fieldMask (lo w n : Nat) :
    (fieldMask lo w).toNat.testBit n = (decide (n < 32) && decide (lo ≤ n) && decide (n < lo + w)) := by
  simp only [fieldMask, BitVec.toNat_ofNat, Nat.testBit_mod_two_pow, Nat.testBit_shiftLeft,
    Nat.testBit_two_pow_sub_one]
  by_cases h1 : n < 32 <;> by_cases h2 : lo ≤ n <;> by_cases h3 : n < lo + w <;> simp [h1, h2, h3] <;> omega

theorem testBit_setBits (x : W32) (lo w v n : Nat) (h : n < 32) :
    (setBits x lo w v).toNat.testBit n =
      if lo ≤ n ∧ n < lo + w then v.testBit (n - lo) else x.toNat.testBit n := by
  have hx : ∀ y : W32, y.toNat.testBit n = y.getLsbD n := fun y => rfl
  rw [hx]
  simp only [setBits, BitVec.getLsbD_or, BitVec.getLsbD_and, BitVec.getLsbD_not, h, decide_true, Bool.true_and]
  rw [← hx, ← hx, testBit_fieldMask]
  simp only [BitVec.getLsbD_ofNat, Nat.testBit_shiftLeft, Nat.testBit_mod_two_pow, h, decide_true, Bool.true_and]
  by_cases h2 : lo ≤ n <;> by_cases h3 : n < lo + w <;> simp [h2, h3] <;> omega

/-- A field just written reads as the value's low bits. -/
theorem getBits_setBits_self (x : W32) {lo w : Nat} (v : Nat) (h : lo + w ≤ 32) :
    getBits (setBits x lo w v) lo w = v % 2 ^ w := by
  apply Nat.eq_of_testBit_eq
  intro n
  simp only [getBits, Nat.testBit_mod_two_pow, Nat.testBit_shiftRight]
  by_cases hn : n < w
  · rw [testBit_setBits _ _ _ _ _ (by omega)]
    have : lo ≤ lo + n ∧ lo + n < lo + w := by omega
    simp [hn, this]
  · simp [hn]

/-- A write leaves the other fields of its register alone. -/
theorem getBits_setBits_disjoint (x : W32) {lo w lo' w' : Nat} (v : Nat) (h : lo' + w' ≤ 32)
    (hd : lo + w ≤ lo' ∨ lo' + w' ≤ lo) : getBits (setBits x lo w v) lo' w' = getBits x lo' w' := by
  apply Nat.eq_of_testBit_eq
  intro n
  simp only [getBits, Nat.testBit_mod_two_pow, Nat.testBit_shiftRight]
  by_cases hn : n < w'
  · rw [testBit_setBits _ _ _ _ _ (by omega)]
    have : ¬ (lo ≤ lo' + n ∧ lo' + n < lo + w) := by omega
    simp [hn, this]
  · simp [hn]

/-- A field that fits its register. -/
def Fld.fits (f : Fld) : Bool := decide (f.lo + f.w ≤ 32)

/-- Two fields that share no bit of a register. -/
def Fld.apart (f g : Fld) : Bool :=
  decide (f.reg ≠ g.reg) || decide (f.lo + f.w ≤ g.lo) || decide (g.lo + g.w ≤ f.lo)

variable (s : State)

/-! ## Registers -/

@[simp] theorem State.reg_setReg_self (r : Reg) (v : W32) (u i : Nat) : (s.setReg r v u i).reg r u i = v := by
  simp [State.reg, State.setReg]

theorem State.reg_setReg_ne {r r' : Reg} {u u' i i' : Nat} (v : W32) (h : RKey.mk r' u' i' ≠ RKey.mk r u i) :
    (s.setReg r v u i).reg r' u' i' = s.reg r' u' i' := lookup_writeAt_ne _ _ _ h _ _

@[simp] theorem State.reg_setReg_reg {r r' : Reg} (h : r' ≠ r) (v : W32) (u u' i i' : Nat) :
    (s.setReg r v u i).reg r' u' i' = s.reg r' u' i' := s.reg_setReg_ne v (by simp [h])

theorem State.reg_setReg (r r' : Reg) (v : W32) (u u' i i' : Nat) : (s.setReg r v u i).reg r' u' i' =
    if r' = r ∧ u' = u ∧ i' = i then v else s.reg r' u' i' := by
  split
  · rename_i h
    obtain ⟨rfl, rfl, rfl⟩ := h
    simp
  · rename_i h
    exact s.reg_setReg_ne v (by simpa using h)

@[simp] theorem State.fld_put_self {f : Fld} (h : f.fits = true) (v u i : Nat) :
    (s.put f v u i).fld f u i = v % 2 ^ f.w := by
  simp only [Fld.fits, decide_eq_true_eq] at h
  simp [State.fld, State.put, getBits_setBits_self _ _ h]

/-- A field write leaves every other field of every unit alone. -/
@[simp] theorem State.fld_put_apart {f g : Fld} (hg : g.fits = true) (h : f.apart g = true) (v u i u' i' : Nat) :
    (s.put f v u i).fld g u' i' = s.fld g u' i' := by
  simp only [Fld.fits, decide_eq_true_eq] at hg
  simp only [State.fld, State.put, State.reg_setReg]
  split
  · rename_i hk
    obtain ⟨hr, rfl, rfl⟩ := hk
    rw [getBits_setBits_disjoint _ _ hg, hr]
    simpa [Fld.apart, hr, or_assoc] using h
  · rfl

theorem State.fld_put_unit {f : Fld} (g : Fld) (v : Nat) {u i u' i' : Nat} (h : u' ≠ u ∨ i' ≠ i) :
    (s.put f v u i).fld g u' i' = s.fld g u' i' := by
  simp only [State.fld, State.put, State.reg_setReg]
  split
  · rename_i hk
    omega
  · rfl

theorem State.fld_setReg {r : Reg} {f : Fld} (h : f.reg ≠ r) (v : W32) (u i u' i' : Nat) :
    (s.setReg r v u i).fld f u' i' = s.fld f u' i' := by
  simp [State.fld, h]

theorem State.reg_put {f : Fld} {r : Reg} (h : r ≠ f.reg) (v u i u' i' : Nat) :
    (s.put f v u i).reg r u' i' = s.reg r u' i' := by
  simp [State.put, h]

theorem State.raise_eq (f : Fld) (u i : Nat) : s.raise f u i = s.put f 1 u i := rfl

theorem State.putFlag_eq (f : Fld) (v : Bool) (u i : Nat) : s.putFlag f v u i = s.put f (b2n v) u i := rfl

theorem State.flag_eq (f : Fld) (u i : Nat) : s.flag f u i = (s.fld f u i == 1) := rfl

/-! ## Counters and wide quantities -/

theorem State.cnt_setCnt (r r' : Reg) (v : W48) (u u' i i' : Nat) : (s.setCnt r v u i).cnt r' u' i' =
    if r' = r ∧ u' = u ∧ i' = i then v else s.cnt r' u' i' := by
  split
  · rename_i h
    obtain ⟨rfl, rfl, rfl⟩ := h
    simp [State.cnt, State.setCnt]
  · rename_i h
    exact lookup_writeAt_ne _ _ _ (by simpa using h) _ _

theorem State.wide_setWide (r r' : Reg) (v : Wide) (u u' i i' : Nat) : (s.setWide r v u i).wide r' u' i' =
    if r' = r ∧ u' = u ∧ i' = i then v else s.wide r' u' i' := by
  split
  · rename_i h
    obtain ⟨rfl, rfl, rfl⟩ := h
    simp [State.wide, State.setWide]
  · rename_i h
    exact lookup_writeAt_ne _ _ _ (by simpa using h) _ _

/-! ## Islands, eyelets, words -/

theorem State.island_setIsland (id id' : Nat) (v : IslandSt) : (s.setIsland id v).island id' =
    if id' = id then v else s.island id' := by
  split
  · rename_i h
    subst h
    simp [State.island, State.setIsland]
  · rename_i h
    exact lookup_writeAt_ne _ _ _ h _ _

theorem State.eyelet_setEyelet (e e' : Nat) (v : Eyelet) : (s.setEyelet e v).eyelet e' =
    if e' = e then v else s.eyelet e' := by
  split
  · rename_i h
    subst h
    simp [State.eyelet, State.setEyelet]
  · rename_i h
    exact lookup_writeAt_ne _ _ _ h _ _

theorem find_insertAt (lt : Nat → Nat → Bool) (a a' : Nat) (w : W72) (m : List (Nat × W72)) :
    (insertAt lt a w m).find? (fun p => p.1 == a') = if a = a' then some (a, w) else m.find? (fun p => p.1 == a') := by
  induction m with
  | nil => by_cases h : a = a' <;> simp [insertAt, h]
  | cons p m ih =>
    obtain ⟨k, v⟩ := p
    by_cases h : a = a'
    · subst h
      simp only [insertAt]
      split
      · simp
      · rename_i hk
        split
        · simp
        · simp [ih, hk]
    · simp only [insertAt]
      split
      · rename_i hk
        subst hk
        simp [h]
      · split
        · simp [h]
        · by_cases hk : k = a' <;> simp [hk, ih, h]

/-- A read after a write to the same word gives what was written; every other word is left alone. -/
theorem State.word_setWord (a a' : Nat) (w : W72) : (s.setWord a w).word a' = if a' = a then w else s.word a' := by
  simp only [State.word, State.setWord, find_insertAt]
  by_cases h : a = a'
  · simp [h]
  · simp [h, Ne.symm h]

/-! ## What an operation does not touch -/

section

variable (r : Reg) (v : W32) (u i : Nat)

@[simp] theorem State.cnt_setReg (r' : Reg) (u' i' : Nat) : (s.setReg r v u i).cnt r' u' i' = s.cnt r' u' i' := rfl
@[simp] theorem State.wide_setReg (r' : Reg) (u' i' : Nat) : (s.setReg r v u i).wide r' u' i' = s.wide r' u' i' := rfl
@[simp] theorem State.island_setReg (id' : Nat) : (s.setReg r v u i).island id' = s.island id' := rfl
@[simp] theorem State.eyelet_setReg (e' : Nat) : (s.setReg r v u i).eyelet e' = s.eyelet e' := rfl
@[simp] theorem State.word_setReg (a' : Nat) : (s.setReg r v u i).word a' = s.word a' := rfl

end

section

variable (f : Fld) (v u i : Nat)

@[simp] theorem State.cnt_put (r' : Reg) (u' i' : Nat) : (s.put f v u i).cnt r' u' i' = s.cnt r' u' i' := rfl
@[simp] theorem State.wide_put (r' : Reg) (u' i' : Nat) : (s.put f v u i).wide r' u' i' = s.wide r' u' i' := rfl
@[simp] theorem State.island_put (id' : Nat) : (s.put f v u i).island id' = s.island id' := rfl
@[simp] theorem State.eyelet_put (e' : Nat) : (s.put f v u i).eyelet e' = s.eyelet e' := rfl
@[simp] theorem State.word_put (a' : Nat) : (s.put f v u i).word a' = s.word a' := rfl

end

section

variable (f : Fld) (v : Bool) (u i : Nat)

@[simp] theorem State.cnt_putFlag (r' : Reg) (u' i' : Nat) : (s.putFlag f v u i).cnt r' u' i' = s.cnt r' u' i' := rfl
@[simp] theorem State.wide_putFlag (r' : Reg) (u' i' : Nat) : (s.putFlag f v u i).wide r' u' i' = s.wide r' u' i' := rfl
@[simp] theorem State.island_putFlag (id' : Nat) : (s.putFlag f v u i).island id' = s.island id' := rfl
@[simp] theorem State.eyelet_putFlag (e' : Nat) : (s.putFlag f v u i).eyelet e' = s.eyelet e' := rfl
@[simp] theorem State.word_putFlag (a' : Nat) : (s.putFlag f v u i).word a' = s.word a' := rfl

end

section

variable (f : Fld) (u i : Nat)

@[simp] theorem State.cnt_raise (r' : Reg) (u' i' : Nat) : (s.raise f u i).cnt r' u' i' = s.cnt r' u' i' := rfl
@[simp] theorem State.wide_raise (r' : Reg) (u' i' : Nat) : (s.raise f u i).wide r' u' i' = s.wide r' u' i' := rfl
@[simp] theorem State.island_raise (id' : Nat) : (s.raise f u i).island id' = s.island id' := rfl
@[simp] theorem State.eyelet_raise (e' : Nat) : (s.raise f u i).eyelet e' = s.eyelet e' := rfl
@[simp] theorem State.word_raise (a' : Nat) : (s.raise f u i).word a' = s.word a' := rfl

end

section

variable (r : Reg) (n : Nat) (v : Bool) (u : Nat)

@[simp] theorem State.cnt_putBit (r' : Reg) (u' i' : Nat) : (s.putBit r n v u).cnt r' u' i' = s.cnt r' u' i' := rfl
@[simp] theorem State.wide_putBit (r' : Reg) (u' i' : Nat) : (s.putBit r n v u).wide r' u' i' = s.wide r' u' i' := rfl
@[simp] theorem State.island_putBit (id' : Nat) : (s.putBit r n v u).island id' = s.island id' := rfl
@[simp] theorem State.eyelet_putBit (e' : Nat) : (s.putBit r n v u).eyelet e' = s.eyelet e' := rfl
@[simp] theorem State.word_putBit (a' : Nat) : (s.putBit r n v u).word a' = s.word a' := rfl

end

section

variable (f : Fld) (u i : Nat)

@[simp] theorem State.cnt_bump (r' : Reg) (u' i' : Nat) : (s.bump f u i).cnt r' u' i' = s.cnt r' u' i' := rfl
@[simp] theorem State.wide_bump (r' : Reg) (u' i' : Nat) : (s.bump f u i).wide r' u' i' = s.wide r' u' i' := rfl
@[simp] theorem State.island_bump (id' : Nat) : (s.bump f u i).island id' = s.island id' := rfl
@[simp] theorem State.eyelet_bump (e' : Nat) : (s.bump f u i).eyelet e' = s.eyelet e' := rfl
@[simp] theorem State.word_bump (a' : Nat) : (s.bump f u i).word a' = s.word a' := rfl

end

section

variable (r : Reg) (v : Wide) (u i : Nat)

@[simp] theorem State.reg_setWide (r' : Reg) (u' i' : Nat) : (s.setWide r v u i).reg r' u' i' = s.reg r' u' i' := rfl
@[simp] theorem State.fld_setWide (f' : Fld) (u' i' : Nat) : (s.setWide r v u i).fld f' u' i' = s.fld f' u' i' := rfl
@[simp] theorem State.flag_setWide (f' : Fld) (u' i' : Nat) : (s.setWide r v u i).flag f' u' i' = s.flag f' u' i' := rfl
@[simp] theorem State.sfld_setWide (f' : Fld) (u' i' : Nat) : (s.setWide r v u i).sfld f' u' i' = s.sfld f' u' i' := rfl
@[simp] theorem State.cnt_setWide (r' : Reg) (u' i' : Nat) : (s.setWide r v u i).cnt r' u' i' = s.cnt r' u' i' := rfl
@[simp] theorem State.island_setWide (id' : Nat) : (s.setWide r v u i).island id' = s.island id' := rfl
@[simp] theorem State.eyelet_setWide (e' : Nat) : (s.setWide r v u i).eyelet e' = s.eyelet e' := rfl
@[simp] theorem State.word_setWide (a' : Nat) : (s.setWide r v u i).word a' = s.word a' := rfl
@[simp] theorem State.aqiqueRuns_setWide : (s.setWide r v u i).aqiqueRuns = s.aqiqueRuns := rfl

end

section

variable (r : Reg) (v : W48) (u i : Nat)

@[simp] theorem State.reg_setCnt (r' : Reg) (u' i' : Nat) : (s.setCnt r v u i).reg r' u' i' = s.reg r' u' i' := rfl
@[simp] theorem State.fld_setCnt (f' : Fld) (u' i' : Nat) : (s.setCnt r v u i).fld f' u' i' = s.fld f' u' i' := rfl
@[simp] theorem State.flag_setCnt (f' : Fld) (u' i' : Nat) : (s.setCnt r v u i).flag f' u' i' = s.flag f' u' i' := rfl
@[simp] theorem State.sfld_setCnt (f' : Fld) (u' i' : Nat) : (s.setCnt r v u i).sfld f' u' i' = s.sfld f' u' i' := rfl
@[simp] theorem State.wide_setCnt (r' : Reg) (u' i' : Nat) : (s.setCnt r v u i).wide r' u' i' = s.wide r' u' i' := rfl
@[simp] theorem State.island_setCnt (id' : Nat) : (s.setCnt r v u i).island id' = s.island id' := rfl
@[simp] theorem State.eyelet_setCnt (e' : Nat) : (s.setCnt r v u i).eyelet e' = s.eyelet e' := rfl
@[simp] theorem State.word_setCnt (a' : Nat) : (s.setCnt r v u i).word a' = s.word a' := rfl
@[simp] theorem State.aqiqueRuns_setCnt : (s.setCnt r v u i).aqiqueRuns = s.aqiqueRuns := rfl

end

section

variable (c sev p0 p1 p2 p3 : Nat)

@[simp] theorem State.reg_log (r' : Reg) (u' i' : Nat) : (s.log c sev p0 p1 p2 p3).reg r' u' i' = s.reg r' u' i' := rfl
@[simp] theorem State.fld_log (f' : Fld) (u' i' : Nat) : (s.log c sev p0 p1 p2 p3).fld f' u' i' = s.fld f' u' i' := rfl
@[simp] theorem State.flag_log (f' : Fld) (u' i' : Nat) : (s.log c sev p0 p1 p2 p3).flag f' u' i' = s.flag f' u' i' := rfl
@[simp] theorem State.sfld_log (f' : Fld) (u' i' : Nat) : (s.log c sev p0 p1 p2 p3).sfld f' u' i' = s.sfld f' u' i' := rfl
@[simp] theorem State.cnt_log (r' : Reg) (u' i' : Nat) : (s.log c sev p0 p1 p2 p3).cnt r' u' i' = s.cnt r' u' i' := rfl
@[simp] theorem State.wide_log (r' : Reg) (u' i' : Nat) : (s.log c sev p0 p1 p2 p3).wide r' u' i' = s.wide r' u' i' := rfl
@[simp] theorem State.island_log (id' : Nat) : (s.log c sev p0 p1 p2 p3).island id' = s.island id' := rfl
@[simp] theorem State.eyelet_log (e' : Nat) : (s.log c sev p0 p1 p2 p3).eyelet e' = s.eyelet e' := rfl
@[simp] theorem State.word_log (a' : Nat) : (s.log c sev p0 p1 p2 p3).word a' = s.word a' := rfl
@[simp] theorem State.aqiqueRuns_log : (s.log c sev p0 p1 p2 p3).aqiqueRuns = s.aqiqueRuns := rfl

end

section

variable (id : Nat) (v : IslandSt)

@[simp] theorem State.reg_setIsland (r' : Reg) (u' i' : Nat) : (s.setIsland id v).reg r' u' i' = s.reg r' u' i' := rfl
@[simp] theorem State.fld_setIsland (f' : Fld) (u' i' : Nat) : (s.setIsland id v).fld f' u' i' = s.fld f' u' i' := rfl
@[simp] theorem State.flag_setIsland (f' : Fld) (u' i' : Nat) : (s.setIsland id v).flag f' u' i' = s.flag f' u' i' := rfl
@[simp] theorem State.sfld_setIsland (f' : Fld) (u' i' : Nat) : (s.setIsland id v).sfld f' u' i' = s.sfld f' u' i' := rfl
@[simp] theorem State.cnt_setIsland (r' : Reg) (u' i' : Nat) : (s.setIsland id v).cnt r' u' i' = s.cnt r' u' i' := rfl
@[simp] theorem State.wide_setIsland (r' : Reg) (u' i' : Nat) : (s.setIsland id v).wide r' u' i' = s.wide r' u' i' := rfl
@[simp] theorem State.eyelet_setIsland (e' : Nat) : (s.setIsland id v).eyelet e' = s.eyelet e' := rfl
@[simp] theorem State.word_setIsland (a' : Nat) : (s.setIsland id v).word a' = s.word a' := rfl
@[simp] theorem State.aqiqueRuns_setIsland : (s.setIsland id v).aqiqueRuns = s.aqiqueRuns := rfl

end

section

variable (a : Nat) (w : W72)

@[simp] theorem State.reg_setWord (r' : Reg) (u' i' : Nat) : (s.setWord a w).reg r' u' i' = s.reg r' u' i' := rfl
@[simp] theorem State.fld_setWord (f' : Fld) (u' i' : Nat) : (s.setWord a w).fld f' u' i' = s.fld f' u' i' := rfl
@[simp] theorem State.flag_setWord (f' : Fld) (u' i' : Nat) : (s.setWord a w).flag f' u' i' = s.flag f' u' i' := rfl
@[simp] theorem State.sfld_setWord (f' : Fld) (u' i' : Nat) : (s.setWord a w).sfld f' u' i' = s.sfld f' u' i' := rfl
@[simp] theorem State.cnt_setWord (r' : Reg) (u' i' : Nat) : (s.setWord a w).cnt r' u' i' = s.cnt r' u' i' := rfl
@[simp] theorem State.wide_setWord (r' : Reg) (u' i' : Nat) : (s.setWord a w).wide r' u' i' = s.wide r' u' i' := rfl
@[simp] theorem State.island_setWord (id' : Nat) : (s.setWord a w).island id' = s.island id' := rfl
@[simp] theorem State.eyelet_setWord (e' : Nat) : (s.setWord a w).eyelet e' = s.eyelet e' := rfl
@[simp] theorem State.aqiqueRuns_setWord : (s.setWord a w).aqiqueRuns = s.aqiqueRuns := rfl

end

section

variable (m : Master) (r : Resp) (lo hi : W32)

@[simp] theorem State.reg_respond (r' : Reg) (u' i' : Nat) : (s.respond m r lo hi).reg r' u' i' = s.reg r' u' i' := rfl
@[simp] theorem State.fld_respond (f' : Fld) (u' i' : Nat) : (s.respond m r lo hi).fld f' u' i' = s.fld f' u' i' := rfl
@[simp] theorem State.flag_respond (f' : Fld) (u' i' : Nat) : (s.respond m r lo hi).flag f' u' i' = s.flag f' u' i' := rfl
@[simp] theorem State.sfld_respond (f' : Fld) (u' i' : Nat) : (s.respond m r lo hi).sfld f' u' i' = s.sfld f' u' i' := rfl
@[simp] theorem State.cnt_respond (r' : Reg) (u' i' : Nat) : (s.respond m r lo hi).cnt r' u' i' = s.cnt r' u' i' := rfl
@[simp] theorem State.wide_respond (r' : Reg) (u' i' : Nat) : (s.respond m r lo hi).wide r' u' i' = s.wide r' u' i' := rfl
@[simp] theorem State.island_respond (id' : Nat) : (s.respond m r lo hi).island id' = s.island id' := rfl
@[simp] theorem State.eyelet_respond (e' : Nat) : (s.respond m r lo hi).eyelet e' = s.eyelet e' := rfl
@[simp] theorem State.word_respond (a' : Nat) : (s.respond m r lo hi).word a' = s.word a' := rfl
@[simp] theorem State.aqiqueRuns_respond : (s.respond m r lo hi).aqiqueRuns = s.aqiqueRuns := rfl

end

section

variable (e : Nat) (v : Eyelet)

@[simp] theorem State.reg_setEyelet (r' : Reg) (u' i' : Nat) : (s.setEyelet e v).reg r' u' i' = s.reg r' u' i' := rfl
@[simp] theorem State.fld_setEyelet (f' : Fld) (u' i' : Nat) : (s.setEyelet e v).fld f' u' i' = s.fld f' u' i' := rfl
@[simp] theorem State.flag_setEyelet (f' : Fld) (u' i' : Nat) : (s.setEyelet e v).flag f' u' i' = s.flag f' u' i' := rfl
@[simp] theorem State.sfld_setEyelet (f' : Fld) (u' i' : Nat) : (s.setEyelet e v).sfld f' u' i' = s.sfld f' u' i' := rfl
@[simp] theorem State.cnt_setEyelet (r' : Reg) (u' i' : Nat) : (s.setEyelet e v).cnt r' u' i' = s.cnt r' u' i' := rfl
@[simp] theorem State.wide_setEyelet (r' : Reg) (u' i' : Nat) : (s.setEyelet e v).wide r' u' i' = s.wide r' u' i' := rfl
@[simp] theorem State.island_setEyelet (id' : Nat) : (s.setEyelet e v).island id' = s.island id' := rfl
@[simp] theorem State.word_setEyelet (a' : Nat) : (s.setEyelet e v).word a' = s.word a' := rfl
@[simp] theorem State.aqiqueRuns_setEyelet : (s.setEyelet e v).aqiqueRuns = s.aqiqueRuns := rfl

end

end Sys2Proof.Machine
end

