-- ==== Sys2Proof/Laws/Units.lean ====
section
/-!
SUPPORT. Sys2Proof/Laws/Units.lean: changing the record of one unit (a lane, a port, a modem, a loop, a link, a rack, a last)
leaves that unit with the new record, every other unit with its own, and the registers, counters, quantities, islands, words
and eyelets alone.
-/

namespace Sys2Proof.Machine

variable (s : State)

theorem getD_set_self {α : Type} (l : List α) (k : Nat) (v d : α) (h : k < l.length) : (l.set k v).getD k d = v := by
  simp [List.getD, h]

theorem getD_set_ne {α : Type} (l : List α) {j k : Nat} (v d : α) (h : j ≠ k) : (l.set k v).getD j d = l.getD j d := by
  simp [List.getD, Ne.symm h]


/-! ## setLine -/

theorem State.line_setLine_self (k : Nat) (v : LineLane) (h : k < s.lines.length) : (s.setLine k v).line k = v := getD_set_self _ _ _ _ h

theorem State.line_setLine_ne (k : Nat) (v : LineLane) {j : Nat} (h : j ≠ k) : (s.setLine k v).line j = s.line j := getD_set_ne _ _ _ h

@[simp] theorem State.reg_setLine (k : Nat) (v : LineLane) (r : Reg) (u i : Nat) : (s.setLine k v).reg r u i = s.reg r u i := rfl
@[simp] theorem State.fld_setLine (k : Nat) (v : LineLane) (f : Fld) (u i : Nat) : (s.setLine k v).fld f u i = s.fld f u i := rfl
@[simp] theorem State.flag_setLine (k : Nat) (v : LineLane) (f : Fld) (u i : Nat) : (s.setLine k v).flag f u i = s.flag f u i := rfl
@[simp] theorem State.sfld_setLine (k : Nat) (v : LineLane) (f : Fld) (u i : Nat) : (s.setLine k v).sfld f u i = s.sfld f u i := rfl
@[simp] theorem State.cnt_setLine (k : Nat) (v : LineLane) (r : Reg) (u i : Nat) : (s.setLine k v).cnt r u i = s.cnt r u i := rfl
@[simp] theorem State.wide_setLine (k : Nat) (v : LineLane) (r : Reg) (u i : Nat) : (s.setLine k v).wide r u i = s.wide r u i := rfl
@[simp] theorem State.island_setLine (k : Nat) (v : LineLane) (id : Nat) : (s.setLine k v).island id = s.island id := rfl
@[simp] theorem State.word_setLine (k : Nat) (v : LineLane) (a : Nat) : (s.setLine k v).word a = s.word a := rfl
@[simp] theorem State.eyelet_setLine (k : Nat) (v : LineLane) (e : Nat) : (s.setLine k v).eyelet e = s.eyelet e := rfl

/-! ## setHostLane -/

theorem State.hostLane_setHostLane_self (k : Nat) (v : HostLane) (h : k < s.hosts.length) : (s.setHostLane k v).hostLane k = v := getD_set_self _ _ _ _ h

theorem State.hostLane_setHostLane_ne (k : Nat) (v : HostLane) {j : Nat} (h : j ≠ k) : (s.setHostLane k v).hostLane j = s.hostLane j := getD_set_ne _ _ _ h

@[simp] theorem State.reg_setHostLane (k : Nat) (v : HostLane) (r : Reg) (u i : Nat) : (s.setHostLane k v).reg r u i = s.reg r u i := rfl
@[simp] theorem State.fld_setHostLane (k : Nat) (v : HostLane) (f : Fld) (u i : Nat) : (s.setHostLane k v).fld f u i = s.fld f u i := rfl
@[simp] theorem State.flag_setHostLane (k : Nat) (v : HostLane) (f : Fld) (u i : Nat) : (s.setHostLane k v).flag f u i = s.flag f u i := rfl
@[simp] theorem State.sfld_setHostLane (k : Nat) (v : HostLane) (f : Fld) (u i : Nat) : (s.setHostLane k v).sfld f u i = s.sfld f u i := rfl
@[simp] theorem State.cnt_setHostLane (k : Nat) (v : HostLane) (r : Reg) (u i : Nat) : (s.setHostLane k v).cnt r u i = s.cnt r u i := rfl
@[simp] theorem State.wide_setHostLane (k : Nat) (v : HostLane) (r : Reg) (u i : Nat) : (s.setHostLane k v).wide r u i = s.wide r u i := rfl
@[simp] theorem State.island_setHostLane (k : Nat) (v : HostLane) (id : Nat) : (s.setHostLane k v).island id = s.island id := rfl
@[simp] theorem State.word_setHostLane (k : Nat) (v : HostLane) (a : Nat) : (s.setHostLane k v).word a = s.word a := rfl
@[simp] theorem State.eyelet_setHostLane (k : Nat) (v : HostLane) (e : Nat) : (s.setHostLane k v).eyelet e = s.eyelet e := rfl

/-! ## setFec -/

theorem State.fecOf_setFec_self (k : Nat) (v : FecPort) (h : k < s.fec.length) : (s.setFec k v).fecOf k = v := getD_set_self _ _ _ _ h

theorem State.fecOf_setFec_ne (k : Nat) (v : FecPort) {j : Nat} (h : j ≠ k) : (s.setFec k v).fecOf j = s.fecOf j := getD_set_ne _ _ _ h

@[simp] theorem State.reg_setFec (k : Nat) (v : FecPort) (r : Reg) (u i : Nat) : (s.setFec k v).reg r u i = s.reg r u i := rfl
@[simp] theorem State.fld_setFec (k : Nat) (v : FecPort) (f : Fld) (u i : Nat) : (s.setFec k v).fld f u i = s.fld f u i := rfl
@[simp] theorem State.flag_setFec (k : Nat) (v : FecPort) (f : Fld) (u i : Nat) : (s.setFec k v).flag f u i = s.flag f u i := rfl
@[simp] theorem State.sfld_setFec (k : Nat) (v : FecPort) (f : Fld) (u i : Nat) : (s.setFec k v).sfld f u i = s.sfld f u i := rfl
@[simp] theorem State.cnt_setFec (k : Nat) (v : FecPort) (r : Reg) (u i : Nat) : (s.setFec k v).cnt r u i = s.cnt r u i := rfl
@[simp] theorem State.wide_setFec (k : Nat) (v : FecPort) (r : Reg) (u i : Nat) : (s.setFec k v).wide r u i = s.wide r u i := rfl
@[simp] theorem State.island_setFec (k : Nat) (v : FecPort) (id : Nat) : (s.setFec k v).island id = s.island id := rfl
@[simp] theorem State.word_setFec (k : Nat) (v : FecPort) (a : Nat) : (s.setFec k v).word a = s.word a := rfl
@[simp] theorem State.eyelet_setFec (k : Nat) (v : FecPort) (e : Nat) : (s.setFec k v).eyelet e = s.eyelet e := rfl

/-! ## setInsl -/

theorem State.insl_setInsl_self (k : Nat) (v : InsLane) (h : k < s.ins.length) : (s.setInsl k v).insl k = v := getD_set_self _ _ _ _ h

theorem State.insl_setInsl_ne (k : Nat) (v : InsLane) {j : Nat} (h : j ≠ k) : (s.setInsl k v).insl j = s.insl j := getD_set_ne _ _ _ h

@[simp] theorem State.reg_setInsl (k : Nat) (v : InsLane) (r : Reg) (u i : Nat) : (s.setInsl k v).reg r u i = s.reg r u i := rfl
@[simp] theorem State.fld_setInsl (k : Nat) (v : InsLane) (f : Fld) (u i : Nat) : (s.setInsl k v).fld f u i = s.fld f u i := rfl
@[simp] theorem State.flag_setInsl (k : Nat) (v : InsLane) (f : Fld) (u i : Nat) : (s.setInsl k v).flag f u i = s.flag f u i := rfl
@[simp] theorem State.sfld_setInsl (k : Nat) (v : InsLane) (f : Fld) (u i : Nat) : (s.setInsl k v).sfld f u i = s.sfld f u i := rfl
@[simp] theorem State.cnt_setInsl (k : Nat) (v : InsLane) (r : Reg) (u i : Nat) : (s.setInsl k v).cnt r u i = s.cnt r u i := rfl
@[simp] theorem State.wide_setInsl (k : Nat) (v : InsLane) (r : Reg) (u i : Nat) : (s.setInsl k v).wide r u i = s.wide r u i := rfl
@[simp] theorem State.island_setInsl (k : Nat) (v : InsLane) (id : Nat) : (s.setInsl k v).island id = s.island id := rfl
@[simp] theorem State.word_setInsl (k : Nat) (v : InsLane) (a : Nat) : (s.setInsl k v).word a = s.word a := rfl
@[simp] theorem State.eyelet_setInsl (k : Nat) (v : InsLane) (e : Nat) : (s.setInsl k v).eyelet e = s.eyelet e := rfl

/-! ## setLoop -/

theorem State.loop_setLoop_self (k : Nat) (v : Loop) (h : k < s.opt.loops.length) : (s.setLoop k v).loop k = v := getD_set_self _ _ _ _ h

theorem State.loop_setLoop_ne (k : Nat) (v : Loop) {j : Nat} (h : j ≠ k) : (s.setLoop k v).loop j = s.loop j := getD_set_ne _ _ _ h

@[simp] theorem State.reg_setLoop (k : Nat) (v : Loop) (r : Reg) (u i : Nat) : (s.setLoop k v).reg r u i = s.reg r u i := rfl
@[simp] theorem State.fld_setLoop (k : Nat) (v : Loop) (f : Fld) (u i : Nat) : (s.setLoop k v).fld f u i = s.fld f u i := rfl
@[simp] theorem State.flag_setLoop (k : Nat) (v : Loop) (f : Fld) (u i : Nat) : (s.setLoop k v).flag f u i = s.flag f u i := rfl
@[simp] theorem State.sfld_setLoop (k : Nat) (v : Loop) (f : Fld) (u i : Nat) : (s.setLoop k v).sfld f u i = s.sfld f u i := rfl
@[simp] theorem State.cnt_setLoop (k : Nat) (v : Loop) (r : Reg) (u i : Nat) : (s.setLoop k v).cnt r u i = s.cnt r u i := rfl
@[simp] theorem State.wide_setLoop (k : Nat) (v : Loop) (r : Reg) (u i : Nat) : (s.setLoop k v).wide r u i = s.wide r u i := rfl
@[simp] theorem State.island_setLoop (k : Nat) (v : Loop) (id : Nat) : (s.setLoop k v).island id = s.island id := rfl
@[simp] theorem State.word_setLoop (k : Nat) (v : Loop) (a : Nat) : (s.setLoop k v).word a = s.word a := rfl
@[simp] theorem State.eyelet_setLoop (k : Nat) (v : Loop) (e : Nat) : (s.setLoop k v).eyelet e = s.eyelet e := rfl

/-! ## setLink -/

theorem State.link_setLink_self (k : Nat) (v : Link) (h : k < s.links.length) : (s.setLink k v).link k = v := getD_set_self _ _ _ _ h

theorem State.link_setLink_ne (k : Nat) (v : Link) {j : Nat} (h : j ≠ k) : (s.setLink k v).link j = s.link j := getD_set_ne _ _ _ h

@[simp] theorem State.reg_setLink (k : Nat) (v : Link) (r : Reg) (u i : Nat) : (s.setLink k v).reg r u i = s.reg r u i := rfl
@[simp] theorem State.fld_setLink (k : Nat) (v : Link) (f : Fld) (u i : Nat) : (s.setLink k v).fld f u i = s.fld f u i := rfl
@[simp] theorem State.flag_setLink (k : Nat) (v : Link) (f : Fld) (u i : Nat) : (s.setLink k v).flag f u i = s.flag f u i := rfl
@[simp] theorem State.sfld_setLink (k : Nat) (v : Link) (f : Fld) (u i : Nat) : (s.setLink k v).sfld f u i = s.sfld f u i := rfl
@[simp] theorem State.cnt_setLink (k : Nat) (v : Link) (r : Reg) (u i : Nat) : (s.setLink k v).cnt r u i = s.cnt r u i := rfl
@[simp] theorem State.wide_setLink (k : Nat) (v : Link) (r : Reg) (u i : Nat) : (s.setLink k v).wide r u i = s.wide r u i := rfl
@[simp] theorem State.island_setLink (k : Nat) (v : Link) (id : Nat) : (s.setLink k v).island id = s.island id := rfl
@[simp] theorem State.word_setLink (k : Nat) (v : Link) (a : Nat) : (s.setLink k v).word a = s.word a := rfl
@[simp] theorem State.eyelet_setLink (k : Nat) (v : Link) (e : Nat) : (s.setLink k v).eyelet e = s.eyelet e := rfl

/-! ## setRack -/

theorem State.rackOf_setRack_self (k : Nat) (v : RackSt) : (s.setRack k v).rackOf k = v := lookup_writeAt_self _ _ _ _ _

theorem State.rackOf_setRack_ne (k : Nat) (v : RackSt) {j : Nat} (h : j ≠ k) : (s.setRack k v).rackOf j = s.rackOf j := lookup_writeAt_ne _ _ _ h _ _

@[simp] theorem State.reg_setRack (k : Nat) (v : RackSt) (r : Reg) (u i : Nat) : (s.setRack k v).reg r u i = s.reg r u i := rfl
@[simp] theorem State.fld_setRack (k : Nat) (v : RackSt) (f : Fld) (u i : Nat) : (s.setRack k v).fld f u i = s.fld f u i := rfl
@[simp] theorem State.flag_setRack (k : Nat) (v : RackSt) (f : Fld) (u i : Nat) : (s.setRack k v).flag f u i = s.flag f u i := rfl
@[simp] theorem State.sfld_setRack (k : Nat) (v : RackSt) (f : Fld) (u i : Nat) : (s.setRack k v).sfld f u i = s.sfld f u i := rfl
@[simp] theorem State.cnt_setRack (k : Nat) (v : RackSt) (r : Reg) (u i : Nat) : (s.setRack k v).cnt r u i = s.cnt r u i := rfl
@[simp] theorem State.wide_setRack (k : Nat) (v : RackSt) (r : Reg) (u i : Nat) : (s.setRack k v).wide r u i = s.wide r u i := rfl
@[simp] theorem State.island_setRack (k : Nat) (v : RackSt) (id : Nat) : (s.setRack k v).island id = s.island id := rfl
@[simp] theorem State.word_setRack (k : Nat) (v : RackSt) (a : Nat) : (s.setRack k v).word a = s.word a := rfl
@[simp] theorem State.eyelet_setRack (k : Nat) (v : RackSt) (e : Nat) : (s.setRack k v).eyelet e = s.eyelet e := rfl

/-! ## setClock -/

theorem State.clock_setClock_self (d : Nat) (v : Clock) (h : d - 1 < s.time.clocks.length) : (s.setClock d v).clock d = v :=
  getD_set_self _ _ _ _ h

theorem State.clock_setClock_ne (d : Nat) (v : Clock) {e : Nat} (h : e - 1 ≠ d - 1) : (s.setClock d v).clock e = s.clock e :=
  getD_set_ne _ _ _ h

@[simp] theorem State.reg_setClock (d : Nat) (x : Clock) (r : Reg) (u i : Nat) : (s.setClock d x).reg r u i = s.reg r u i := rfl
@[simp] theorem State.fld_setClock (d : Nat) (x : Clock) (f : Fld) (u i : Nat) : (s.setClock d x).fld f u i = s.fld f u i := rfl
@[simp] theorem State.flag_setClock (d : Nat) (x : Clock) (f : Fld) (u i : Nat) : (s.setClock d x).flag f u i = s.flag f u i := rfl
@[simp] theorem State.sfld_setClock (d : Nat) (x : Clock) (f : Fld) (u i : Nat) : (s.setClock d x).sfld f u i = s.sfld f u i := rfl
@[simp] theorem State.cnt_setClock (d : Nat) (x : Clock) (r : Reg) (u i : Nat) : (s.setClock d x).cnt r u i = s.cnt r u i := rfl
@[simp] theorem State.wide_setClock (d : Nat) (x : Clock) (r : Reg) (u i : Nat) : (s.setClock d x).wide r u i = s.wide r u i := rfl
@[simp] theorem State.island_setClock (d : Nat) (x : Clock) (n : Nat) : (s.setClock d x).island n = s.island n := rfl
@[simp] theorem State.word_setClock (d : Nat) (x : Clock) (a : Nat) : (s.setClock d x).word a = s.word a := rfl
@[simp] theorem State.eyelet_setClock (d : Nat) (x : Clock) (e : Nat) : (s.setClock d x).eyelet e = s.eyelet e := rfl

/-! ## setLast -/

theorem State.last_setLast_self (r l : Nat) (v : Last) : (s.setLast r l v).last r l = v := lookup_writeAt_self _ _ _ _ _

theorem State.last_setLast_ne (r l : Nat) (v : Last) {r' l' : Nat} (h : 8 * r' + l' ≠ 8 * r + l) :
    (s.setLast r l v).last r' l' = s.last r' l' := lookup_writeAt_ne _ _ _ h _ _

@[simp] theorem State.reg_setLast (r l : Nat) (x : Last) (q : Reg) (u i : Nat) : (s.setLast r l x).reg q u i = s.reg q u i := rfl
@[simp] theorem State.fld_setLast (r l : Nat) (x : Last) (f : Fld) (u i : Nat) : (s.setLast r l x).fld f u i = s.fld f u i := rfl
@[simp] theorem State.flag_setLast (r l : Nat) (x : Last) (f : Fld) (u i : Nat) : (s.setLast r l x).flag f u i = s.flag f u i := rfl
@[simp] theorem State.sfld_setLast (r l : Nat) (x : Last) (f : Fld) (u i : Nat) : (s.setLast r l x).sfld f u i = s.sfld f u i := rfl
@[simp] theorem State.cnt_setLast (r l : Nat) (x : Last) (q : Reg) (u i : Nat) : (s.setLast r l x).cnt q u i = s.cnt q u i := rfl
@[simp] theorem State.wide_setLast (r l : Nat) (x : Last) (q : Reg) (u i : Nat) : (s.setLast r l x).wide q u i = s.wide q u i := rfl
@[simp] theorem State.island_setLast (r l : Nat) (x : Last) (id : Nat) : (s.setLast r l x).island id = s.island id := rfl
@[simp] theorem State.word_setLast (r l : Nat) (x : Last) (a : Nat) : (s.setLast r l x).word a = s.word a := rfl
@[simp] theorem State.eyelet_setLast (r l : Nat) (x : Last) (e : Nat) : (s.setLast r l x).eyelet e = s.eyelet e := rfl

end Sys2Proof.Machine
end

