-- ==== Sys2Proof/WellFormed.lean ====
section
/-!
DEFINITION. Sys2Proof/WellFormed.lean: which commands the outside world can send: operands that the types leave too wide.
-/

namespace Sys2Proof

/-- A tap record has the 255 codes about its symbol and four metrics (R71, R119). -/
def TapRecord.wf (x : TapRecord) : Bool := decide (x.codes.length = 255) && decide (x.metrics.length = 4)

/-- A fit has an arrival, a round trip and a TRACK metric for each line lane (R251, R253). -/
def RangeFit.wf (x : RangeFit) : Bool :=
  decide (x.arrive.length = 8) && decide (x.rtt.length = 8) && decide (x.track.length = 8)

/-- Whether a command's operands have the form that its row gives them: an estimate for each of the 128 sub-ADCs (R81) or 64
sub-DACs (R103); the 128 symbols of a lock (R100) and of an elastic buffer's block (R101); the 64 symbols of each sync block
(R144, R145) and the 128 bits of an inner codeword (R146); each PCS lane named once (R143); at most 544 symbols in error, and
the 80 blocks of a codeword (R150); at most 32 PCS lanes (R155); eight feed-forward taps (R170); the 129 symbols that hold 128
pairs (R178) and the 64 of an elastic buffer (R182); 64 capture words (R181); the 254 code phases (R202) with the 4,064 chips
of SYNC (R205); the eight sequences of a search (R208); a payload as long as the header says (R199); a TOD message of 24 bytes
(R256); an I2C write of at most 8 bytes (R314); accesses of at least one byte or word (R314, R322); data paths and islands
named once (R316, R416). -/
def Instr.wf (i : Instr) : Bool :=
  match i with
  | .tapRecord _ x => x.wf
  | .calRxMeasureEnd _ skew gain offset => decide (skew.length = 128) && decide (gain.length = 128) && decide (offset.length = 128)
  | .ltxChkLock _ _ symbols => decide (symbols.length = 128)
  | .ltxLbSlip _ _ block => decide (block.length = 128)
  | .calTxMeasureEnd _ skew => decide (skew.length = 64)
  | .innerLockSet _ blocks => decide (blocks.length = 3) && blocks.all (fun b => decide (b.length = 64))
  | .innerLockClear _ blocks => decide (blocks.length = 4) && blocks.all (fun b => decide (b.length = 64))
  | .innerCodeword _ _ rel _ => decide (rel.length = 128)
  | .amLockSet _ _ lanes => decide lanes.Nodup
  | .codewordDecode _ _ errors blocks => decide (errors.length ≤ 544) && decide (blocks.length = 80)
  | .skewMeasurement _ _ arrivals _ => decide (arrivals.length ≤ 32)
  | .hlAdaptDone _ _ _ taps => decide (taps.length = 8)
  | .hlCtleTrack _ _ _ taps => decide (taps.length = 8)
  | .hlChkLock _ _ symbols => decide (symbols.length = 129)
  | .captureDone _ words => decide (words.length = 64)
  | .hlLbSlip _ _ block => decide (block.length = 64)
  | .insCodeDetect _ energy => decide (energy.length = 254)
  | .insSyncDetect _ hits => hits.all (fun h => decide (h.chips.length = 4064))
  | .insFrameReceived _ header payload _ _ => decide (payload.length = (header.toNat >>> 16) % 2 ^ 8)
  | .insFofsMeasure _ _ _ energy => decide (energy.length = 254)
  | .insSearchDone _ metrics => decide (metrics.length = 8)
  | .rangeUpdate _ fit => fit.wf
  | .todNextMessage bytes => decide (bytes.length = 24)
  | .i2cWrite _ bytes _ => decide (bytes.length ≤ 8)
  | .i2cRead count => decide (count ≠ 0)
  | .spiWrite _ words => decide (words ≠ [])
  | .spiRead _ words => decide (words ≠ 0)
  | .cmisApplyDpInit _ paths => decide ((paths.map (fun p => p.1)).Nodup)
  | .wearMeasure ws => decide ((ws.map (fun p => p.1)).Nodup)
  | .registerWrite .. | .rsLowWordRead .. | .rcRead .. | .queueRead .. | .memoryRead .. | .memoryPartialWrite ..
  | .memoryFullWrite .. | .mramRemapDone .. | .mramRowRefresh .. | .scrubStep .. | .bucketLeak ..
  | .responseArrival .. | .weltReqTimeout .. | .islandDrainTimeout .. | .flitReceive .. | .creditReturn ..
  | .replayRequest .. | .replayBurst .. | .linkRetrainDone .. | .weltRetrain .. | .weltAbEn ..
  | .interruptSummary .. | .pllLossOfLock .. | .pllLock .. | .refclkAbsent2us .. | .refclkLost ..
  | .refclkStartTimeout .. | .modeBegin .. | .modeStagePort .. | .modeStageLane .. | .modeStageDie ..
  | .modeStageFibre .. | .modeValidate .. | .modeApply .. | .modeApplyComplete .. | .modeAbort .. | .modeRead ..
  | .modePortStatus .. | .modeTxnExpired .. | .sigDetectAssert .. | .sigDetectDeassert .. | .wakePatternSeen ..
  | .lrxDozeTimer .. | .cdrLockSet .. | .cdrLockClear .. | .lrxCoefWrite .. | .lrxMonitorWindow .. | .histStart ..
  | .histDone .. | .vnleFadeDone .. | .calRxRun .. | .calRxAbort .. | .calRxStatus .. | .calRxApplyEnd ..
  | .adcTrimStep .. | .lrxTtrimWrite .. | .ltxSetFir .. | .ltxSetLevels .. | .ltxCommit .. | .commit ..
  | .ltxRampStep .. | .fastoffAssert .. | .fastoffRelease .. | .fastoffResume .. | .ltxDozeTimer .. | .ltxWake ..
  | .ltxChkLost .. | .calTxRun .. | .calTxAbort .. | .calTxStatus .. | .calTxApplyEnd .. | .dacTrimStep ..
  | .ltxTtrimWrite .. | .nop .. | .mpy .. | .mac .. | .msu .. | .add .. | .sub .. | .clr .. | .tfr .. | .asr ..
  | .asl .. | .abs .. | .neg .. | .cmp .. | .macss .. | .macsgn .. | .sta .. | .stm .. | .ldi .. | .shift ..
  | .movr .. | .ext .. | .logic .. | .mem .. | .lda .. | .adda .. | .mova .. | .bra .. | .call .. | .ret ..
  | .loop .. | .loopr .. | .repeat .. | .yield .. | .yieldResume .. | .svc .. | .twin .. | .leave .. | .breq ..
  | .brsp .. | .rackBusResponse .. | .movc .. | .movfc .. | .rti .. | .halt .. | .lastWatchdog .. | .rackRestart ..
  | .rackCtlHalt .. | .tagSample .. | .progWordWrite .. | .rackMemWrite .. | .rackHalt .. | .rackResume ..
  | .rackStatus .. | .psetLoadBegin .. | .psetLoadEnd .. | .psetErase .. | .psetList .. | .cntBankClear ..
  | .cntRdStart .. | .cntRdEntryResponse .. | .cntListSet .. | .cntListRun .. | .cntBankSet .. | .amLockClear ..
  | .codewordEncode .. | .rateAdaptAdjust .. | .fecSlip .. | .monitorSlip .. | .frameParse ..
  | .wakeFrameDiscard .. | .statLatch .. | .statClear .. | .fecInjCtlWrite .. | .poolWindowWrite ..
  | .fecStatLatch .. | .fecPoolStatus .. | .fecSkewReport .. | .hlTxEqWrite .. | .hlRxEqCtlWrite ..
  | .hlCdrLockSet .. | .hlCdrLockClear .. | .hlSigAssert .. | .hlSigDeassert .. | .hlWakeSeen ..
  | .hlRxDozeTimer .. | .hlTxDozeTimer .. | .hlTxWake .. | .hlWakeAmTimeout .. | .hlChkLost .. | .hlSlipWrite ..
  | .captureStart .. | .hlSetTxEq .. | .hlSetRxEq .. | .hlSlip .. | .hlCapture .. | .hlStatus ..
  | .insTimingLaunch .. | .insTxFrameDone .. | .insAckTimer .. | .insLinkPeriod .. | .insRampStep ..
  | .insHeaderEnd .. | .insLockLoss .. | .insFofsMismatch .. | .insRxTimeout .. | .insHoldEnd .. | .insMsgRetx ..
  | .insCreditTimeout .. | .insSlotWrite .. | .insMsgSend .. | .insMsgRecv .. | .insMsgRelease .. | .insStatus ..
  | .insSetParam .. | .insSearch .. | .ppsInEdge .. | .ppsInMiss .. | .hostValidityTimeout ..
  | .insoleSrcInvalid .. | .timeAlignSend .. | .timeAlignMsg .. | .timeAlignTimeout .. | .timeResResume ..
  | .ptpEventMessage .. | .ptpGeneralMessage .. | .ctxExpire .. | .ppsOutRise .. | .ppsOutFall ..
  | .todTimeMessage .. | .timeSetSource .. | .timeSet .. | .timeAdj .. | .timeStatus .. | .timeSetDelay ..
  | .timeWlSet .. | .timeModelSet .. | .timeRangeReport .. | .timeCtxFlush .. | .timePpsSet .. | .timeTodserSet ..
  | .timePortSet .. | .loopTick .. | .tgtModeRequest .. | .tgtSpWrite .. | .tgtLoopCfg .. | .tgtLoopGains ..
  | .tgtLoopLimits .. | .tgtSetMode .. | .tgtSetSp .. | .tgtStatus .. | .tgtClearFlags .. | .cdacCfgWrite ..
  | .cdacCodeWrite .. | .softwareStrobe .. | .cdacCfg .. | .cdacSetCode .. | .cdacGroup .. | .cdacStrobe ..
  | .sineCfg .. | .penSet .. | .cdacStatus .. | .sineStop .. | .cdacRefFault .. | .monConversion ..
  | .monPublish .. | .fadeEnd .. | .chkFault .. | .chkOk .. | .run .. | .slotCommit .. | .slotTableApply ..
  | .odRequest .. | .diagStart .. | .diagDone .. | .monCalAverageDone .. | .firCommit .. | .monSlotSet ..
  | .monSlotCommit .. | .monChCfg .. | .monFirSet .. | .monFirCommit .. | .monConvert .. | .monCalZero ..
  | .monCalFs .. | .monChkDiag .. | .monChkSet .. | .monStatus .. | .i2cDoorbell .. | .i2cWindowAccess ..
  | .i2cBusTimeout .. | .spiStatus .. | .spiId .. | .cmisDpDeinit .. | .cmisOutputDisable ..
  | .cmisMonitorRefresh .. | .vendorPageUpdate .. | .doorbell .. | .commandBegin .. | .completionPost ..
  | .consumerIndexWrite .. | .cmdTimeout .. | .mbxVersion .. | .mbxEcho .. | .hifWinOpen .. | .hifWinClose ..
  | .cmisCtl .. | .fwUpdateBegin .. | .fwUpdateChunk .. | .fwUpdateEnd .. | .fwActivate .. | .fwCommit ..
  | .fwStatus .. | .secStageOpen .. | .secCertApply .. | .debugChallenge .. | .debugUnlock .. | .debugLock ..
  | .keyList .. | .bootSelect .. | .recoveryGo .. | .bootWatchdog .. | .aqiqueReady .. | .lockstepMismatch ..
  | .memStatus .. | .memBucketSet .. | .memHardList .. | .calStoreInfo .. | .calStageOpen .. | .calStoreWrite ..
  | .eventRecordArrival .. | .flushAgeTimer .. | .ringRecordWrite .. | .emergencyCopy .. | .recorderClockAlign ..
  | .freezeLimit .. | .evrWinLatch .. | .evrFreeze .. | .evrThaw .. | .evrStatus .. | .evrMark ..
  | .evrMarkTimeout .. | .powerOnResetRelease .. | .supplyLoss .. | .pfailAssert .. | .pfailRelease ..
  | .resetNAssert .. | .softwareReset .. | .lpmodeChange .. | .lowPowerEntry .. | .pgLoss .. | .penReleaseStep ..
  | .restartStepDone .. | .restartStepTimeout .. | .lineWakeAmTimeout .. | .faultIslandOff .. | .thmMeasurement ..
  | .avsStep .. | .lifeMinute .. | .lifeStore .. | .pwrStatus .. | .pwrReset .. | .pwrLowpwr .. | .pwrWearReport ..
  | .pwrLifeReport .. | .thmStatus .. | .thmSetThresh .. | .thmMeasure .. | .thmSensorRetire .. | .hlBitSlip ..
  | .ditherSample .. | .resetNRelease .. | .ltxClip .. => true

end Sys2Proof
end

