-- ==== Sys2Proof/Tests/Slice0.lean ====
section
/-!
SUPPORT. Sys2Proof/Tests/Slice0.lean: small states, a witness for every clause of every statement, the WellFormed smoke tests
and a few of the spec's own numbers.
-/

set_option maxRecDepth 100000
set_option Elab.async false
set_option linter.unusedVariables false

namespace Sys2Proof.Tests

open Machine

/-! ## Small states -/

/-- `s` with the field of every end of every welt link at UP, so that both core dies can be reached. -/
def welted (s : State) : State :=
  ((((s.put WELT_STAT.STATE 2 1 0).put WELT_STAT.STATE 2 2 0).put WELT_STAT.STATE 2 1 1).put WELT_STAT.STATE 2 2 1)

/-- Rack 0 clocked, its lasts running, with last 0 as given; the word is in the loop cache at its PC. -/
def rackAt (word : W32) (y : Last) : State :=
  ((((State.reset.setIsland 0x1040 .on).setReg .CLK_LOCK 0x1FF 1).put RACK_STAT.HALTED 0 0).put RACK_STAT.RUNNING 0xFF 0).setLast 0 0
    { y with cache := [(y.pc.toNat, word)] }

/-- A descriptor with this class, command and parameter bytes (R329). -/
def descOf (cls cmd : Nat) (bytes : List Nat) : BitVec 256 :=
  BitVec.ofNat 256 (cls * 2 ^ 16 + cmd * 2 ^ 24 + leNat bytes * 2 ^ 64)

/-- Aqique runs and eyelet 1 has begun this command. -/
def withCmd (s : State) (cls cmd : Nat) (bytes : List Nat) : State :=
  (s.raise MBX_STAT.READY).setEyelet 1 { st := .running, desc := descOf cls cmd bytes }

/-- Aqique runs. -/
def aq : State := State.reset.raise MBX_STAT.READY

/-- `withCmd` from reset. -/
def cmdAt (cls cmd : Nat) (bytes : List Nat) : State := withCmd State.reset cls cmd bytes

/-- A mode with port 0 as given in state `st`. -/
def modeOf (d : PortDesc) (st : Nat) (line : LaneDesc := { progSet := 1, fibre := 0xFF }) (host : LaneDesc := {}) : ModeSt :=
  let m : Image := { ports := d :: List.replicate 7 {}, line := line :: List.replicate 7 { progSet := 1, fibre := 0xFF },
                     host := host :: List.replicate 15 {} }
  { active := m, run := m, ports := ⟨st, 0⟩ :: List.replicate 7 {} }

/-- Port 0 as given in state `st`. -/
def ported (d : PortDesc) (st : Nat) : State := { State.reset with mode := modeOf d st }

/-- `s` with port 0, of one line lane, UP. -/
def onLine (s : State) : State := { s with mode := modeOf { size := 1 } 4 }

/-- Line lane 0 is used. -/
def lined : State := onLine State.reset

/-- `s` with VNLE on all four line lanes of die 1. -/
def fullVnled (s : State) : State :=
  { s with mode := { active := { line := List.replicate 4 { vnle := true } ++ List.replicate 4 {} } } }

/-- `s` at another time. -/
def atTime (s : State) (now : Nat) : State := { s with now := now }

/-- The outputs of the search correlator for SYNC of lane 0, one bit after the other. -/
def syncChips : List Int :=
  (List.range 4064).map (fun n => if goldChip 0 (n % 127) != (lsbBits syncBytes).getD (n / 127) false then -9 else 9)

/-- A detection of SYNC at phase 7. -/
def syncSeen : SyncHit := ⟨7, 0x7000, syncChips, 100, 3⟩

/-- The PLLs of die 1 are locked. -/
def plls (s : State) : State := s.setReg .CLK_LOCK 0x1FF 1

/-- Lane 0 has a TIMING frame to launch. -/
def launching : State :=
  atTime ((((plls State.reset).setIsland (islandId 1 3) .on).raise INS_CFG.TIMING_TX 0).raise INS_STAT.TX_ON 0) 60

/-- Line lane 0 runs. -/
def rxrun : State := plls lined

/-- Line lane 0 of an UP port has doze timers. -/
def dozing : State :=
  { State.reset with mode := modeOf { size := 1, fecTerm := true } 4 { progSet := 1, fibre := 0xFF, dozeRx := 5, dozeTx := 5 } }

/-- Line lane 0 checks a pattern. -/
def checking : State := { State.reset with mode := modeOf { size := 1 } 5 { progSet := 1, fibre := 0xFF, rxCheck := 1 } }

/-- Port 0 is in line loopback. -/
def looped : State := ported { size := 1, loopback := 3 } 5

/-- The host lanes of port 0 run. -/
def hosted : State := plls (ported { size := 1, fecTerm := true } 4)

/-- Host lane 0 of an UP port has doze timers. -/
def hostDozing : State :=
  { State.reset with mode := modeOf { size := 1, fecTerm := true } 4 (host := { dozeRx := 5, dozeTx := 5 }) }

/-- Host lane 0 checks a raw pattern. -/
def rawChecking : State := { State.reset with mode := modeOf { size := 1 } 5 (host := { rxCheck := 4 }) }

/-- The tap records of line lane 0 reach rack 0, which runs. -/
def tapping : State :=
  { ((State.reset.setIsland 0x1040 .on).setReg .CLK_LOCK 0x1FF 1).put RACK_STAT.HALTED 0 0 with mode := modeOf { size := 1 } 4 }

/-- READY for modes, with CMIS data-path control. -/
def moded : State := (aq.put PWR_STATE.STATE 3).raise HIF_STAT.DP_CONTROL

/-- `moded` with port 0 in its active mode, whose TX_EN is as given. -/
def cmisPort (en : Bool) : State :=
  let m : Image := { (modeOf { size := 1, txEn := en, inner := true, fecTerm := true, allowDisrupt := true } 4).run with }
  { moded with mode := { moded.mode with active := m, run := m, ports := ⟨4, 0⟩ :: List.replicate 7 {} } }

/-- The time units of both core dies run. -/
def timed : State :=
  (((State.reset.setIsland 0x1003 .on).setIsland 0x2003 .on).setReg .CLK_LOCK 0x1FF 1).setReg .CLK_LOCK 0x1FF 2

/-- A command of class 0x0A with the time units running and the device READY. -/
def timedCmd (cmd : Nat) (bytes : List Nat) : State := withCmd (timed.put PWR_STATE.STATE 3) 0x0A cmd bytes

/-- Fibre group 0 ranges over line lane 0 and has a result. -/
def ranged : State :=
  let m : Image := { (modeOf { size := 1 } 4 { progSet := 1, fibre := 0 }).run with ranging := true :: List.replicate 7 false }
  { timedCmd 0x08 [0, 0] with mode := { modeOf { size := 1 } 4 with run := m }, time := { ranging := { some_ := true } :: List.replicate 7 {} } }

/-- Port 0 in frame view, with a timing mode and every message selected. -/
def ptpPort1 (mode : Nat) : State :=
  ((timed.raise TIME_PORT_CFG.FRAME_VIEW 0).put TIME_PORT_CFG.TIME_MODE mode 0).put TIME_PORT_CTL.MSG_MASK 15 0

/-- A precision-time message of a type over Ethernet. -/
def passOf (ty : BitVec 8) : PtpPass :=
  { frame := List.replicate 12 0 ++ [0x88, 0xF7, ty, 2, 0, 44] ++ List.replicate 50 0, fcsOk := true, lane := 0,
    pcs := 0, raw := 12781813, wait := 0, frac := 0, err := 26214 }

/-- The boot ROM runs and has no step of the start-up before it. -/
def booting : State := { State.reset with pwr := {} }

/-- The recorder runs. -/
def recording : State := aq.setReg .CLK_LOCK 0x1FF 0

/-- A record in staging, with a flush under way. -/
def flushable : State :=
  let s : State := { recording with evr := { staged := [⟨0, 1, 0x105, 0⟩], flushing := true } }
  (List.range 4).foldl (fun (s : State) w => s.setWord (stageWord 0 w) (protect (BitVec.ofNat 64 (w + 1)))) s

/-- `s` with these bytes at the start of the SRAM, as protected words. -/
def withBytes (s : State) (bytes : List Nat) : State :=
  (List.range ((bytes.length + 7) / 8)).foldl (fun (s : State) i =>
    s.setWord (0x1000000 + 8 * i) (protect (BitVec.ofNat 64 (leNat ((bytes.drop (8 * i)).take 8))))) s

/-- `s` with a token in an open staging region. -/
def tokenAt (s : State) (bytes : List Nat) : State :=
  { withBytes s bytes with stage := some ⟨.token, 0x1000000, 4096⟩ }

/-- A token that retires sensor 3 (R414). -/
def retireToken : List Nat := [0x54, 0x53, 0x52, 0x54, 1, 0, 3, 1] ++ List.replicate 104 0

/-- A certificate of key slot 1 (R344). -/
def certToken : List Nat := [0x43, 0x45, 0x52, 0x54, 1, 0, 1, 1, 0, 0, 0, 0, 1] ++ List.replicate 203 0

/-- A token that unlocks debug level 1 (R347). -/
def unlockToken : List Nat := [0x44, 0x54, 0x4B, 0x4E, 1, 0, 1, 1] ++ List.replicate 120 0

/-- A firmware chunk of two words. -/
def chunkAt : State :=
  let s : State := { cmdAt 0x0F 0x02 [0, 0, 0, 0, 0, 0, 0, 0, 16] with
    boot := { update := some 4096 }, stage := some ⟨.firmware, 0x1000000, 65536⟩ }
  (s.setWord 0x1000000 (protect 7)).setWord 0x1000008 (protect 9)

/-- A customer program set without racks (R133). -/
def psetImage : List Nat :=
  [0x42, 0x58, 0x50, 0x53, 1, 0, 0x80] ++ List.replicate 233 0

/-- The program set's key. -/
def psetKey : Key := ⟨0, []⟩

/-- The program set in an open staging region, with its key registered. -/
def psetAt : State :=
  { withBytes (cmdAt 0x06 0x05 [0x80]) psetImage with
    stage := some ⟨.pset 0x80, 0x1000000, 240⟩, sec := { keys := [(0, psetKey)] } }

/-- A free transmit slot of line lane 0. -/
def slotFree : State := welted ((State.reset.setIsland 0x1004 .on).raise INS_CFG.MSG_EN 0)

/-- A word in the SRAM that scrubbing takes. -/
def scrubbing : State := (State.reset.setWord 0x1000000 (protect 7)).put MEM_SCRUB_CTL.EN 0xFF 0

/-- Line lane 0 is used and its racks are halted. -/
def rackless : State := (List.range 8).foldl (fun (s : State) r => s.put RACK_STAT.HALTED 0xFF r) lined

/-! ## Reads of words that have been written -/

/-- Word `i` of what `withBytes` stores. -/
def wordOf (bytes : List Nat) (i : Nat) : W64 := BitVec.ofNat 64 (leNat ((bytes.drop (8 * i)).take 8))

theorem word_foldl_setWord (g : Nat → W72) (s : State) (n i : Nat) (hi : i < n) :
    ((List.range n).foldl (fun (s : State) j => s.setWord (0x1000000 + 8 * j) (g j)) s).word (0x1000000 + 8 * i) = g i := by
  induction n with
  | zero => omega
  | succ n ih =>
    rw [List.range_succ, List.foldl_append]
    simp only [List.foldl_cons, List.foldl_nil]
    by_cases h : i = n
    · subst h; rw [State.word_setWord, if_pos rfl]
    · rw [State.word_setWord, if_neg (by omega)]; exact ih (by omega)

theorem withBytes_word (s : State) (bytes : List Nat) (i : Nat) (hi : i < (bytes.length + 7) / 8) :
    (withBytes s bytes).word (0x1000000 + 8 * i) = protect (wordOf bytes i) :=
  word_foldl_setWord (fun i => protect (wordOf bytes i)) s _ i hi

theorem word_closed (s : State) (e : Fin 256) (a : Nat) : ((s.begun e).closeStage).word a = s.word a := rfl

theorem word_token (s : State) (bytes : List Nat) (a : Nat) : (tokenAt s bytes).word a = (withBytes s bytes).word a := rfl

theorem word_staged (s : State) (g : Option Stage) (k : SecSt) (a : Nat) :
    ({ s with stage := g, sec := k } : State).word a = s.word a := rfl

theorem word_pset (a : Nat) : psetAt.word a = (withBytes (cmdAt 0x06 0x05 [0x80]) psetImage).word a := by
  unfold psetAt
  rw [word_staged]

/-- The bytes at a word boundary where the words are clean. -/
theorem readBytes_at {s : State} {bytes : List Nat} (a n : Nat) (ha : a % 8 = 0)
    (h : ∀ i, i < (n + 7) / 8 → s.word (a + 8 * i) = protect (wordOf bytes i)) :
    (s.readBytes a n).1 = some ((((List.range ((n + 7) / 8)).map (wordOf bytes)).flatMap
      (fun d => (List.range 8).map (fun i => byteOf d.toNat i))).take n) := by
  have e : (a + n + 7) / 8 - a / 8 = (n + 7) / 8 := by omega
  have m : (List.range ((n + 7) / 8)).map (fun i => 8 * (a / 8 + i)) =
      (List.range ((n + 7) / 8)).map (fun i => a + 8 * i) := List.map_congr_left (fun i _ => by omega)
  rw [State.readBytes_clean (fun b => wordOf bytes ((b - a) / 8)) s a n, e, m, List.map_map, ha, List.drop_zero]
  · have c : (List.range ((n + 7) / 8)).map ((fun b => wordOf bytes ((b - a) / 8)) ∘ fun i => a + 8 * i) =
        (List.range ((n + 7) / 8)).map (wordOf bytes) := List.map_congr_left (fun i _ => by
          rw [Function.comp_apply, show (a + 8 * i - a) / 8 = i by omega])
    rw [c]
  · rw [e, m]
    intro b hb
    obtain ⟨i, hi, rfl⟩ := List.mem_map.1 hb
    rw [h i (List.mem_range.1 hi), classify_protect, show (a + 8 * i - a) / 8 = i by omega]

theorem unlock_bytes : (((tokenAt (cmdAt 0x0F 0x0A []) unlockToken).begun 1).closeStage.readBytes 0x1000000 128).1 =
    some unlockToken :=
  (readBytes_at 0x1000000 128 rfl (fun i hi => by
    rw [word_closed, word_token]
    exact withBytes_word (cmdAt 0x0F 0x0A []) unlockToken i hi)).trans
    (by decide +kernel)

theorem retire_bytes : (((tokenAt (cmdAt 0x02 0x04 []) retireToken).begun 1).closeStage.readBytes 0x1000000 112).1 =
    some retireToken :=
  (readBytes_at 0x1000000 112 rfl (fun i hi => by
    rw [word_closed, word_token]
    exact withBytes_word (cmdAt 0x02 0x04 []) retireToken i hi)).trans
    (by decide +kernel)

theorem blank_bytes : (((tokenAt (cmdAt 0x02 0x04 []) (List.replicate 112 0)).begun 1).closeStage.readBytes 0x1000000 112).1 =
    some (List.replicate 112 0) :=
  (readBytes_at 0x1000000 112 rfl (fun i hi => by
    rw [word_closed, word_token]
    exact withBytes_word (cmdAt 0x02 0x04 []) (List.replicate 112 0) i hi)).trans
    (by decide +kernel)

theorem cert_bytes : (((tokenAt (cmdAt 0x0F 0x08 []) certToken).begun 1).closeStage.readBytes 0x1000000 216).1 =
    some certToken :=
  (readBytes_at 0x1000000 216 rfl (fun i hi => by
    rw [word_closed, word_token]
    exact withBytes_word (cmdAt 0x0F 0x08 []) certToken i hi)).trans
    (by decide +kernel)

theorem pset_bytes : ((psetAt.begun 1).closeStage.readBytes 0x1000000 240).1 = some psetImage :=
  (readBytes_at 0x1000000 240 rfl (fun i hi => by
    rw [word_closed, word_pset]
    exact withBytes_word (cmdAt 0x06 0x05 [0x80]) psetImage i hi)).trans
    (by decide +kernel)

theorem chunk_words : ((chunkAt.begun 1).readWords ((List.range 2).map (fun i => 0x1000000 + 8 * i))).1 = some [7, 9] := by
  rw [State.readWords_clean (fun a => if a = 0x1000000 then 7 else 9)]
  · rfl
  · intro a ha
    obtain ⟨i, hi, rfl⟩ := List.mem_map.1 ha
    have hi := List.mem_range.1 hi
    interval_cases i
    · exact classify_protect 7
    · exact classify_protect 9

theorem flushable_hard (w : Nat) (hw : w < 4) :
    flushable.readHard (stageWord 0 w) = (some (BitVec.ofNat 64 (w + 1)), flushable) := by
  have h : classify (flushable.word (stageWord 0 w)) = .clean (BitVec.ofNat 64 (w + 1)) := by
    interval_cases w <;> exact classify_protect _
  have t : flushable.thirdHit (stageWord 0 w) = false := by unfold State.thirdHit; rw [h]
  unfold State.readHard State.readWord
  rw [t, h]
  interval_cases w <;> rfl

theorem flushable_record : (flushable.readRecord (stageWord 0)).1 = some [1, 2, 3, 4] := by
  have f := flushable_hard
  unfold State.readRecord
  simp only [show List.range 4 = [0, 1, 2, 3] from rfl, List.foldl_cons, List.foldl_nil, f 0 (by omega), f 1 (by omega),
    f 2 (by omega), f 3 (by omega)]
  rfl

theorem sram_clean : classify ((State.reset.setWord 0x1000000 (protect 7)).word 0x1000000) = .clean 7 := classify_protect 7

theorem sram_poison : classify ((State.reset.setWord 0x1000000 (poisoned 7)).word 0x1000000) = .poison :=
  classify_poisoned 7

theorem takeToken_bytes {s : State} {g : Stage} {n : Nat} {b : List Nat} (h : s.stage = some g) (hu : g.use = .token)
    (hb : (s.closeStage.readBytes g.addr n).1 = some b) : (s.takeToken n).1 = .ok b := by
  unfold State.takeToken
  rw [h]
  simp only [hu, ne_eq, not_true_eq_false, if_false]
  generalize s.closeStage.readBytes g.addr n = x at hb
  obtain ⟨y, t⟩ := x
  simp only at hb
  subst hb
  rfl

theorem take_unlock : (((tokenAt (cmdAt 0x0F 0x0A []) unlockToken).begun 1).takeToken 128).1 = .ok unlockToken :=
  takeToken_bytes (g := ⟨.token, 0x1000000, 4096⟩) rfl rfl unlock_bytes

theorem finish_reg (s : State) (t : Ticket) (r : Reply) (q : Reg) (u i : Nat) : (s.finish t r).reg q u i = s.reg q u i := by
  unfold State.finish
  split
  · rfl
  · simp only
    split <;> rfl

theorem lowDone_reg (s : State) (q : Reg) (u i : Nat) : s.lowDone.reg q u i = s.reg q u i := by
  unfold State.lowDone
  split
  · exact finish_reg ..
  · rfl

theorem stopPll_reg (s : State) (d b : Nat) (u i : Nat) : (s.stopPll d b).reg .MBX_STAT u i = s.reg .MBX_STAT u i := by
  show ((s.putBit .CLK_LOCK b false d).reg .MBX_STAT u i) = _
  simp [State.putBit]

theorem stopCorePlls_reg (s : State) (u i : Nat) : s.stopCorePlls.reg .MBX_STAT u i = s.reg .MBX_STAT u i := by
  simp [State.stopCorePlls, stopPll_reg]

theorem powerCheck_reg (s : State) : s.powerCheck.reg .MBX_STAT = s.reg .MBX_STAT := by
  unfold State.powerCheck
  split
  · rfl
  · split
    · split
      · rw [lowDone_reg, stopCorePlls_reg]; rfl
      · rfl
    · split
      · unfold State.startSeq
        split <;> rfl
      · rfl

theorem toPwr_reg (s : State) (st : Nat) : (s.toPwr st).reg .MBX_STAT = s.reg .MBX_STAT := by
  unfold State.toPwr
  simp only
  split
  · rfl
  · simp [State.raise_eq, State.reg_put, PWR_STATE.STATE, PWR_CAUSE.STATE]

/-- Aqique's start-up sets READY. -/
theorem aqique_ready {s : State} (h : s.pwr.held = false ∧ s.pwr.boot = .started ∧ s.cobblerStopped = false) :
    ∃ t, Machine.exec .aqiqueReady s = .next t ∧ t.flag MBX_STAT.READY = true := by
  show ∃ t, execAqiqueReady s = .next t ∧ t.flag MBX_STAT.READY = true
  unfold execAqiqueReady
  rw [if_pos h]
  refine ⟨_, rfl, ?_⟩
  have hx : ∀ x : State, ((x.raise MBX_STAT.READY).raise MBX_CAUSE.READY).flag MBX_STAT.READY = true := fun x => by
    simp [State.raise_eq, State.flag_eq, Fld.fits, Fld.apart, MBX_STAT.READY, MBX_CAUSE.READY]
  extract_lets
  rename_i z
  have hz : z.flag MBX_STAT.READY = true := hx _
  split
  · simp only [State.flag, State.fld, powerCheck_reg, toPwr_reg] at hz ⊢
    exact hz
  · exact hz

theorem hit_zero (s : State) (a : Nat) : s.hit a 0 = s := by unfold State.hit State.upset; simp

/-! ## Every hypothesis is met (each theorem names its statement) -/

theorem met_LastArithmeticResults :
  (∃ (w : LastAt) (s : State) (word : W32) (a s1 s2 modx mody : Nat) (cap : Bool) (cd : Nat) (v1 v2 : W24),
     (Issuing s w word) ∧ (decodeLast word = some (.arith 0x1 a s1 s2 modx mody cap cd)) ∧
     (s.operandValue w s1 = some v1) ∧ (s.operandValue w s2 = some v2)) ∧
  (∃ (w : LastAt) (s : State) (word : W32) (a s1 s2 modx mody : Nat) (cap : Bool) (cd : Nat) (v1 v2 : W24),
     (Issuing s w word) ∧ (decodeLast word = some (.arith 0x2 a s1 s2 modx mody cap cd)) ∧
     (s.operandValue w s1 = some v1) ∧ (s.operandValue w s2 = some v2)) ∧
  (∃ (w : LastAt) (s : State) (word : W32) (a s1 s2 modx mody : Nat) (cap : Bool) (cd : Nat) (v1 v2 : W24),
     (Issuing s w word) ∧ (decodeLast word = some (.arith 0x3 a s1 s2 modx mody cap cd)) ∧
     (s.operandValue w s1 = some v1) ∧ (s.operandValue w s2 = some v2)) ∧
  (∃ (w : LastAt) (s : State) (word : W32) (a s1 s2 modx mody : Nat) (cap : Bool) (cd : Nat) (v1 v2 : W24),
     (Issuing s w word) ∧ (decodeLast word = some (.arith 0x4 a s1 s2 modx mody cap cd)) ∧
     (s.operandValue w s1 = some v1) ∧ (s.operandValue w s2 = some v2)) ∧
  (∃ (w : LastAt) (s : State) (word : W32) (a s1 s2 modx mody : Nat) (cap : Bool) (cd : Nat) (v1 v2 : W24),
     (Issuing s w word) ∧ (decodeLast word = some (.arith 0x5 a s1 s2 modx mody cap cd)) ∧
     (s.operandValue w s1 = some v1) ∧ (s.operandValue w s2 = some v2)) ∧
  (∃ (w : LastAt) (s : State) (word : W32) (a s1 s2 modx mody : Nat) (cap : Bool) (cd : Nat) (v1 v2 : W24),
     (Issuing s w word) ∧ (decodeLast word = some (.arith 0x6 a s1 s2 modx mody cap cd)) ∧
     (s.operandValue w s1 = some v1) ∧ (s.operandValue w s2 = some v2)) ∧
  (∃ (w : LastAt) (s : State) (word : W32) (a s1 s2 modx mody : Nat) (cap : Bool) (cd : Nat) (v1 v2 : W24),
     (Issuing s w word) ∧ (decodeLast word = some (.arith 0x7 a s1 s2 modx mody cap cd)) ∧
     (s.operandValue w s1 = some v1) ∧ (s.operandValue w s2 = some v2)) :=
  ⟨⟨{ rack := 0, last := 0 }, rackAt 0x02090000 { d := [0, 3, 5, 0, 0, 0, 0, 0], a := [7, 0, 0, 0], mu := 9 }, 0x02090000, 0, 1, 2, 0, 0, false, 0, 3, 5, by decide +kernel⟩,
    ⟨{ rack := 0, last := 0 }, rackAt 0x04090000 { d := [0, 3, 5, 0, 0, 0, 0, 0], a := [7, 0, 0, 0], mu := 9 }, 0x04090000, 0, 1, 2, 0, 0, false, 0, 3, 5, by decide +kernel⟩,
    ⟨{ rack := 0, last := 0 }, rackAt 0x06090000 { d := [0, 3, 5, 0, 0, 0, 0, 0], a := [7, 0, 0, 0], mu := 9 }, 0x06090000, 0, 1, 2, 0, 0, false, 0, 3, 5, by decide +kernel⟩,
    ⟨{ rack := 0, last := 0 }, rackAt 0x08090000 { d := [0, 3, 5, 0, 0, 0, 0, 0], a := [7, 0, 0, 0], mu := 9 }, 0x08090000, 0, 1, 2, 0, 0, false, 0, 3, 5, by decide +kernel⟩,
    ⟨{ rack := 0, last := 0 }, rackAt 0x0A090000 { d := [0, 3, 5, 0, 0, 0, 0, 0], a := [7, 0, 0, 0], mu := 9 }, 0x0A090000, 0, 1, 2, 0, 0, false, 0, 3, 5, by decide +kernel⟩,
    ⟨{ rack := 0, last := 0 }, rackAt 0x0C090000 { d := [0, 3, 5, 0, 0, 0, 0, 0], a := [7, 0, 0, 0], mu := 9 }, 0x0C090000, 0, 1, 2, 0, 0, false, 0, 3, 5, by decide +kernel⟩,
    ⟨{ rack := 0, last := 0 }, rackAt 0x0E090000 { d := [0, 3, 5, 0, 0, 0, 0, 0], a := [7, 0, 0, 0], mu := 9 }, 0x0E090000, 0, 1, 2, 0, 0, false, 0, 3, 5, by decide +kernel⟩⟩

theorem met_LastShiftAndSignResults :
  (∃ (w : LastAt) (s : State) (word : W32) (a s1 s2 modx mody : Nat) (cap : Bool) (cd : Nat) (v1 v2 : W24),
     (Issuing s w word) ∧ (decodeLast word = some (.arith 0x8 a s1 s2 modx mody cap cd)) ∧
     (s.operandValue w s1 = some v1) ∧ (s.operandValue w s2 = some v2)) ∧
  (∃ (w : LastAt) (s : State) (word : W32) (a s1 s2 modx mody : Nat) (cap : Bool) (cd : Nat) (v1 v2 : W24),
     (Issuing s w word) ∧ (decodeLast word = some (.arith 0x9 a s1 s2 modx mody cap cd)) ∧
     (s.operandValue w s1 = some v1) ∧ (s.operandValue w s2 = some v2)) ∧
  (∃ (w : LastAt) (s : State) (word : W32) (a s1 s2 modx mody : Nat) (cap : Bool) (cd : Nat) (v1 v2 : W24),
     (Issuing s w word) ∧ (decodeLast word = some (.arith 0xA a s1 s2 modx mody cap cd)) ∧
     (s.operandValue w s1 = some v1) ∧ (s.operandValue w s2 = some v2)) ∧
  (∃ (w : LastAt) (s : State) (word : W32) (a s1 s2 modx mody : Nat) (cap : Bool) (cd : Nat) (v1 v2 : W24),
     (Issuing s w word) ∧ (decodeLast word = some (.arith 0xB a s1 s2 modx mody cap cd)) ∧
     (s.operandValue w s1 = some v1) ∧ (s.operandValue w s2 = some v2)) ∧
  (∃ (w : LastAt) (s : State) (word : W32) (a s1 s2 modx mody : Nat) (cap : Bool) (cd : Nat) (v1 v2 : W24),
     (Issuing s w word) ∧ (decodeLast word = some (.arith 0xC a s1 s2 modx mody cap cd)) ∧
     (s.operandValue w s1 = some v1) ∧ (s.operandValue w s2 = some v2)) ∧
  (∃ (w : LastAt) (s : State) (word : W32) (a s1 s2 modx mody : Nat) (cap : Bool) (cd : Nat) (v1 v2 : W24),
     (Issuing s w word) ∧ (decodeLast word = some (.arith 0xD a s1 s2 modx mody cap cd)) ∧
     (s.operandValue w s1 = some v1) ∧ (s.operandValue w s2 = some v2)) ∧
  (∃ (w : LastAt) (s : State) (word : W32) (a s1 s2 modx mody : Nat) (cap : Bool) (cd : Nat) (v1 v2 : W24),
     (Issuing s w word) ∧ (decodeLast word = some (.arith 0xE a s1 s2 modx mody cap cd)) ∧
     (s.operandValue w s1 = some v1) ∧ (s.operandValue w s2 = some v2)) ∧
  (∃ (w : LastAt) (s : State) (word : W32) (a s1 s2 modx mody : Nat) (cap : Bool) (cd : Nat) (v1 v2 : W24),
     (Issuing s w word) ∧ (decodeLast word = some (.arith 0 a s1 s2 modx mody cap cd)) ∧
     (s.operandValue w s1 = some v1) ∧ (s.operandValue w s2 = some v2)) :=
  ⟨⟨{ rack := 0, last := 0 }, rackAt 0x10090000 { d := [0, 3, 5, 0, 0, 0, 0, 0], a := [7, 0, 0, 0], mu := 9 }, 0x10090000, 0, 1, 2, 0, 0, false, 0, 3, 5, by decide +kernel⟩,
    ⟨{ rack := 0, last := 0 }, rackAt 0x12090000 { d := [0, 3, 5, 0, 0, 0, 0, 0], a := [7, 0, 0, 0], mu := 9 }, 0x12090000, 0, 1, 2, 0, 0, false, 0, 3, 5, by decide +kernel⟩,
    ⟨{ rack := 0, last := 0 }, rackAt 0x14090000 { d := [0, 3, 5, 0, 0, 0, 0, 0], a := [7, 0, 0, 0], mu := 9 }, 0x14090000, 0, 1, 2, 0, 0, false, 0, 3, 5, by decide +kernel⟩,
    ⟨{ rack := 0, last := 0 }, rackAt 0x16090000 { d := [0, 3, 5, 0, 0, 0, 0, 0], a := [7, 0, 0, 0], mu := 9 }, 0x16090000, 0, 1, 2, 0, 0, false, 0, 3, 5, by decide +kernel⟩,
    ⟨{ rack := 0, last := 0 }, rackAt 0x18090000 { d := [0, 3, 5, 0, 0, 0, 0, 0], a := [7, 0, 0, 0], mu := 9 }, 0x18090000, 0, 1, 2, 0, 0, false, 0, 3, 5, by decide +kernel⟩,
    ⟨{ rack := 0, last := 0 }, rackAt 0x1A090000 { d := [0, 3, 5, 0, 0, 0, 0, 0], a := [7, 0, 0, 0], mu := 9 }, 0x1A090000, 0, 1, 2, 0, 0, false, 0, 3, 5, by decide +kernel⟩,
    ⟨{ rack := 0, last := 0 }, rackAt 0x1C090000 { d := [0, 3, 5, 0, 0, 0, 0, 0], a := [7, 0, 0, 0], mu := 9 }, 0x1C090000, 0, 1, 2, 0, 0, false, 0, 3, 5, by decide +kernel⟩,
    ⟨{ rack := 0, last := 0 }, rackAt 0x00090000 { d := [0, 3, 5, 0, 0, 0, 0, 0] }, 0x00090000, 0, 1, 2, 0, 0, false, 0, 3, 5, by decide +kernel⟩⟩

theorem met_LastAccumulatorClassResults :
  (∃ (w : LastAt) (s : State) (word : W32) (a d : Nat) (low : Bool),
     (Issuing s w word) ∧ (decodeLast word = some (.sta a d low))) ∧
  (∃ (w : LastAt) (s : State) (word : W32) (a ptr mode : Nat) (low : Bool),
     (Issuing s w word) ∧ (decodeLast word = some (.stm a ptr mode low)) ∧
     ((s.last w.rack w.last).protects ((s.last w.rack w.last).P ptr) = false)) ∧
  (∃ (w : LastAt) (s : State) (word : W32) (d : Nat) (half : Bool) (value : Nat),
     (Issuing s w word) ∧ (decodeLast word = some (.ldi d half value))) ∧
  (∃ (w : LastAt) (s : State) (word : W32) (a : Nat) (right : Bool) (count : Nat),
     (Issuing s w word) ∧ (decodeLast word = some (.shift a right count))) ∧
  (∃ (w : LastAt) (s : State) (word : W32) (d src : Nat),
     (Issuing s w word) ∧ (decodeLast word = some (.movr d src))) ∧
  (∃ (w : LastAt) (s : State) (word : W32) (dd ds pos width : Nat) (sgn : Bool),
     (Issuing s w word) ∧ (decodeLast word = some (.ext dd ds pos width sgn))) ∧
  (∃ (w : LastAt) (s : State) (word : W32) (dd ds op : Nat),
     (Issuing s w word) ∧ (decodeLast word = some (.logic dd ds op)) ∧ (op < 4)) ∧
  (∃ (w : LastAt) (s : State) (word : W32) (store : Bool) (d ptr mode : Nat) (v : W24),
     (Issuing s w word) ∧ (decodeLast word = some (.mem store d ptr mode)) ∧
     ((s.last w.rack w.last).protects ((s.last w.rack w.last).P ptr) = false) ∧
     (store = false → s.operandValue w (8 + ptr) = some v)) :=
  ⟨⟨{ rack := 0, last := 0 }, rackAt 0x20200000 { a := [7, 0, 0, 0] }, 0x20200000, 0, 1, false, by decide +kernel⟩,
    ⟨{ rack := 0, last := 0 }, rackAt 0x24200000 { a := [7, 0, 0, 0] }, 0x24200000, 0, 1, 0, false, by decide +kernel⟩,
    ⟨{ rack := 0, last := 0 }, rackAt 0x28801234 {}, 0x28801234, 1, false, 0x1234, by decide +kernel⟩,
    ⟨{ rack := 0, last := 0 }, rackAt 0x2C040000 { a := [7, 0, 0, 0] }, 0x2C040000, 0, false, 4, by decide +kernel⟩,
    ⟨{ rack := 0, last := 0 }, rackAt 0x30C00000 { a := [7, 0, 0, 0] }, 0x30C00000, 1, 16, by decide +kernel⟩,
    ⟨{ rack := 0, last := 0 }, rackAt 0x34A22000 {}, 0x34A22000, 1, 2, 4, 8, false, by decide +kernel⟩,
    ⟨{ rack := 0, last := 0 }, rackAt 0x38AC0000 { d := [0, 7, 5, 0, 0, 0, 0, 0] }, 0x38AC0000, 1, 2, 3, by decide +kernel⟩,
    ⟨{ rack := 0, last := 0 }, rackAt 0x3E400000 { d := [0, 7, 5, 0, 0, 0, 0, 0] }, 0x3E400000, true, 1, 0, 0, 0, by decide +kernel⟩⟩

theorem met_LastAddressAndSystemResults :
  (∃ (w : LastAt) (s : State) (word : W32) (kind n value : Nat),
     (Issuing s w word) ∧ (decodeLast word = some (.lda kind n value))) ∧
  (∃ (w : LastAt) (s : State) (word : W32) (n change : Nat),
     (Issuing s w word) ∧ (decodeLast word = some (.adda n change))) ∧
  (∃ (w : LastAt) (s : State) (word : W32) (kind n d : Nat),
     (Issuing s w word) ∧ (decodeLast word = some (.mova kind n d))) ∧
  (∃ (w : LastAt) (s : State) (word : W32) (d n : Nat),
     (Issuing s w word) ∧ (decodeLast word = some (.movc d n)) ∧
     (((s.last w.rack w.last).super = true ∨ n = 0 ∨ n = 3 ∨ n = 4))) ∧
  (∃ (w : LastAt) (s : State) (word : W32) (d n : Nat),
     (Issuing s w word) ∧ (decodeLast word = some (.movfc d n)) ∧
     (((s.last w.rack w.last).super = true ∨ s.userReads w.rack n = true)) ∧
     ((n ≤ 4 ∨ (8 ≤ n ∧ n ≤ 11) ∨ (16 ≤ n ∧ n ≤ 20))) ∧ (w.front = 0) ∧ (w.back = 0) ∧
     ((s.last w.rack w.last).interlock (.movfc d n) = 0)) ∧
  (∃ (w : LastAt) (s : State) (word : W32),
     (Issuing s w word) ∧ (decodeLast word = some (.rti)) ∧ ((s.last w.rack w.last).super = true)) ∧
  (∃ (w : LastAt) (s : State) (word : W32),
     (Issuing s w word) ∧ (decodeLast word = some (.halt)) ∧ ((s.last w.rack w.last).super = true)) ∧
  (∃ (w : LastAt) (s : State) (word : W32),
     (Issuing s w word) ∧ (decodeLast word = some (.svc 0)) ∧ ((s.last w.rack w.last).super = false) ∧
     ((s.last w.rack w.last).rep = none)) :=
  ⟨⟨{ rack := 0, last := 0 }, rackAt 0x42800005 {}, 0x42800005, 1, 2, 5, by decide +kernel⟩,
    ⟨{ rack := 0, last := 0 }, rackAt 0x48800005 {}, 0x48800005, 2, 5, by decide +kernel⟩,
    ⟨{ rack := 0, last := 0 }, rackAt 0x50880000 { d := [0, 7, 5, 0, 0, 0, 0, 0] }, 0x50880000, 0, 2, 1, by decide +kernel⟩,
    ⟨{ rack := 0, last := 0 }, rackAt 0xA0400008 { d := [0, 7, 5, 0, 0, 0, 0, 0] }, 0xA0400008, 1, 8, by decide +kernel⟩,
    ⟨{ rack := 0, last := 0 }, rackAt 0xA2400002 {}, 0xA2400002, 1, 2, by decide +kernel⟩,
    ⟨{ rack := 0, last := 0 }, rackAt 0xA4000000 { tpc := 0x900 }, 0xA4000000, by decide +kernel⟩,
    ⟨{ rack := 0, last := 0 }, rackAt 0xA6000000 {}, 0xA6000000, by decide +kernel⟩,
    ⟨{ rack := 0, last := 0 }, rackAt 0x6E000000 { pc := 0x900, sr := 0 }, 0x6E000000, by decide +kernel⟩⟩

theorem met_LastFlowResults :
  (∃ (w : LastAt) (s : State) (word : W32) (c target : Nat),
     (Issuing s w word) ∧ (decodeLast word = some (.bra c target)) ∧ ((s.last w.rack w.last).rep = none) ∧
     (s.cond w.rack (s.last w.rack w.last) c = some true) ∧ ((s.last w.rack w.last).leavesLoop target = false)) ∧
  (∃ (w : LastAt) (s : State) (word : W32) (c target : Nat),
     (Issuing s w word) ∧ (decodeLast word = some (.call c target)) ∧ ((s.last w.rack w.last).rep = none) ∧
     (s.cond w.rack (s.last w.rack w.last) c = some true) ∧ ((s.last w.rack w.last).leavesLoop target = false) ∧
     ((s.last w.rack w.last).calls.length < 8)) ∧
  (∃ (w : LastAt) (s : State) (word : W32) (c : Nat) (a : BitVec 14) (as : List (BitVec 14)),
     (Issuing s w word) ∧ (decodeLast word = some (.ret c)) ∧ ((s.last w.rack w.last).rep = none) ∧
     (s.cond w.rack (s.last w.rack w.last) c = some true) ∧ ((s.last w.rack w.last).calls = a :: as)) ∧
  (∃ (w : LastAt) (s : State) (word : W32) (count last : Nat),
     (Issuing s w word) ∧ (decodeLast word = some (.loop count last)) ∧ ((s.last w.rack w.last).rep = none) ∧
     (0 < count) ∧ ((s.last w.rack w.last).loops.length < 4)) ∧
  (∃ (w : LastAt) (s : State) (word : W32) (d last : Nat),
     (Issuing s w word) ∧ (decodeLast word = some (.loopr d last)) ∧ ((s.last w.rack w.last).rep = none) ∧
     (0 < bitsOf ((s.last w.rack w.last).D d).toNat 0 16) ∧ ((s.last w.rack w.last).loops.length < 4)) ∧
  (∃ (w : LastAt) (s : State) (word : W32) (count : Nat),
     (Issuing s w word) ∧ (decodeLast word = some (.rep count)) ∧ ((s.last w.rack w.last).rep = none) ∧
     (0 < count)) ∧
  (∃ (w : LastAt) (s : State) (word : W32) (c : Nat) (f : LoopFrame) (fs : List LoopFrame),
     (Issuing s w word) ∧ (decodeLast word = some (.leave c)) ∧ ((s.last w.rack w.last).rep = none) ∧
     (s.cond w.rack (s.last w.rack w.last) c = some true) ∧ ((s.last w.rack w.last).loops = f :: fs)) ∧
  (∃ (w : LastAt) (s : State) (word : W32),
     (Issuing s w word) ∧ (decodeLast word = some (.yield)) ∧ ((s.last w.rack w.last).rep = none)) ∧
  (∃ (w : LastAt) (s : State) (word : W32) (newest : Bool),
     (Issuing s w word) ∧ (decodeLast word = some (.twin newest)) ∧ ((s.last w.rack w.last).rep = none) ∧
     ((s.last w.rack w.last).seen < (s.rackOf w.rack).written)) :=
  ⟨⟨{ rack := 0, last := 0 }, rackAt 0x60000123 {}, 0x60000123, 0, 0x123, by decide +kernel⟩,
    ⟨{ rack := 0, last := 0 }, rackAt 0x62000123 {}, 0x62000123, 0, 0x123, by decide +kernel⟩,
    ⟨{ rack := 0, last := 0 }, rackAt 0x64000000 { calls := [7, 9] }, 0x64000000, 0, 7, [9], by decide +kernel⟩,
    ⟨{ rack := 0, last := 0 }, rackAt 0x66014009 {}, 0x66014009, 5, 9, by decide +kernel⟩,
    ⟨{ rack := 0, last := 0 }, rackAt 0x68400009 { d := [0, 7, 5, 0, 0, 0, 0, 0] }, 0x68400009, 1, 9, by decide +kernel⟩,
    ⟨{ rack := 0, last := 0 }, rackAt 0x6A014000 {}, 0x6A014000, 5, by decide +kernel⟩,
    ⟨{ rack := 0, last := 0 }, rackAt 0x72000000 { loops := [⟨0, 5, 3⟩] }, 0x72000000, 0, ⟨0, 5, 3⟩, [], by decide +kernel⟩,
    ⟨{ rack := 0, last := 0 }, rackAt 0x6C000000 {}, 0x6C000000, by decide +kernel⟩,
    ⟨{ rack := 0, last := 0 }, (rackAt 0x70000000 {}).setRack 0 { written := 1, taps := [[1]] }, 0x70000000, false, by decide +kernel⟩⟩

theorem met_RackBusWatchdogAndTapResults :
  (∃ (w : LastAt) (same : Bool) (s : State) (word : W32) (wr : Bool) (d : Nat) (be : Bool) (b off : Nat),
     (Issuing s w word) ∧ (decodeLast word = some (.breq wr d be b off)) ∧ ((s.last w.rack w.last).bus = none) ∧
     ((s.last w.rack w.last).resp = none) ∧
     (((s.last w.rack w.last).super = true ∨ wr = false ∨
       (portGroup (if be then (((s.last w.rack w.last).D b).toNat + off) % 2 ^ 18 else off)).all (fun g => bitOf
         (s.rackOf w.rack).portMask g) = true))) ∧
  (∃ (w : LastAt) (s : State) (word : W32) (d : Nat) (x : BusResp),
     (Issuing s w word) ∧ (decodeLast word = some (.brsp d)) ∧ ((s.last w.rack w.last).resp = some x) ∧
     (x.bad = false)) ∧
  (∃ (rack : Fin 64) (last : Fin 8) (s : State) (q : BusReq),
     (s.busWaits rack last = some q) ∧ (s.busNext rack = some last.val) ∧ (s.island (rackIsland rack) = .on)) ∧
  (∃ (rack : Fin 64) (last : Fin 8) (s : State) (q : BusReq) (x : BusResp),
     ((s.last rack last).bus = some q) ∧ (q.got = some x) ∧ ((s.last rack last).resp = none) ∧
     (s.island (rackIsland rack) = .on)) ∧
  (∃ (rack : Fin 64) (last : Fin 8) (cycles : Nat) (s : State),
     (s.rackClocked rack = true) ∧ ((s.last rack last).yielding = true) ∧ (cycles ≤ 4096) ∧
     (((s.last rack last).yieldAt < (s.rackOf rack).written ∨ cycles = 4096))) ∧
  (∃ (rack : Fin 64) (last : Fin 8) (s : State),
     (s.rackClocked rack = true) ∧ (s.lastHalted rack last = false) ∧ ((s.last rack last).yielding = false) ∧
     (2 ^ 20 ≤ (s.last rack last).retired)) ∧
  (∃ (rack : Fin 64) (s : State) (due : Nat),
     ((s.rackOf rack).restart = some due) ∧ (due ≤ s.now) ∧ (s.island (rackIsland rack) = .on)) ∧
  (∃ (src : Master) (rack : Fin 64) (data : W32) (s : State), (Writes s src (Block.rack rack).base)) ∧
  (∃ (rack : Fin 64) (last : Fin 8) (times : TagTimes) (s : State) (c : Issued) (cycles : W32) (rest : List (Nat ×
     Issued × W32)),
     (s.island (rackIsland rack) = .on) ∧ ((s.rackOf rack).tagged = (last.val, c, cycles) :: rest)) ∧
  (∃ (k : Fin 8) (x : TapRecord) (s : State) (r : Nat),
     (s.tapRuns k = true) ∧ (r ∈ s.laneRacks k) ∧ (s.rackClocked r = true) ∧ (s.fld RACK_STAT.HALTED r ≠ 0xFF)) :=
  ⟨⟨{ rack := 0, last := 0 }, false, rackAt 0x89000005 { d := [0, 7, 5, 0, 0, 0, 0, 0] }, 0x89000005, true, 1, false, 0, 5, by decide +kernel⟩,
    ⟨{ rack := 0, last := 0 }, rackAt 0x91000000 { bus := some ⟨5, false, 0, 0, none⟩, resp := some { value := 6 } }, 0x91000000, 1, { value := 6 }, by decide +kernel⟩,
    ⟨0, 0, rackAt 0 { bus := some ⟨5, true, 9, 0, none⟩ }, ⟨5, true, 9, 0, none⟩, by decide +kernel⟩,
    ⟨0, 0, rackAt 0 { bus := some ⟨5, true, 9, 0, some { value := 6 }⟩ }, ⟨5, true, 9, 0, some { value := 6 }⟩, { value := 6 }, by decide +kernel⟩,
    ⟨0, 0, 4096, rackAt 0 { yielding := true }, by decide +kernel⟩,
    ⟨0, 0, rackAt 0 { retired := 0x100000 }, by decide +kernel⟩,
    ⟨0, (rackAt 0 {}).setRack 0 { restart := some 0 }, 0, by decide +kernel⟩,
    ⟨.cobbler, 0, 0x0F, welted (rackAt 0 {}), by decide +kernel⟩,
    ⟨0, 0, ⟨1, 2, 3, 0, 4⟩, (rackAt 0 {}).setRack 0 { tagged := [(0, { pc := 9 }, 7)] }, { pc := 9 }, 7, [], by decide +kernel⟩,
    ⟨0, ⟨1, 0, false, 0, [], 0, []⟩, tapping, 0, by decide +kernel⟩⟩

theorem met_RegisterAccessResults :
  (∃ (src : Master) (addr data : W32) (s : State) (b : Block) (off : Nat) (k : RKey) (n : Nat) (sh : Bool),
     (Writes s src addr.toNat) ∧ (addr.toNat % 4 = 0) ∧ (blockAt addr.toNat = some (b, off)) ∧
     (memKind b off = none) ∧ (busReg b off = some (k, n, sh)) ∧ (k.reg.words = 1) ∧ (ownEffect k.reg = false) ∧
     (countsBus k.reg = false)) ∧
  (∃ (src : Master) (addr : W32) (s : State) (b : Block) (off : Nat) (k : RKey) (n : Nat) (sh : Bool),
     (Issues s src addr.toNat) ∧ (addr.toNat % 4 = 0) ∧ (blockAt addr.toNat = some (b, off)) ∧
     (memKind b off = none) ∧ (busReg b off = some (k, n, sh)) ∧ (k.reg.words = 1) ∧ (k.reg.access.rc ≠ 0)) ∧
  (∃ (src : Master) (addr : W32) (wide : Bool) (s : State) (b : Block) (off : Nat) (k : RKey) (n : Nat) (sh :
     Bool),
     (Issues s src addr.toNat) ∧
     ((if wide then addr.toNat % 8 = 0 ∧ (src = .cobbler ∨ src = .dma) else addr.toNat % 4 = 0)) ∧
     (blockAt addr.toNat = some (b, off)) ∧ (memKind b off = none) ∧ (busReg b off = some (k, n, sh)) ∧ (n = 0) ∧
     (k.reg.words ≠ 1) ∧ (isQueue k.reg = false) ∧ (k.reg ≠ .EVR_WIN) ∧ (k.reg ≠ .CNT_VAL)) ∧
  (∃ (src : Master) (addr : W32) (wide : Bool) (s : State) (b : Block) (off : Nat) (k : RKey) (n : Nat) (sh :
     Bool),
     (Issues s src addr.toNat) ∧
     ((if wide then addr.toNat % 8 = 0 ∧ (src = .cobbler ∨ src = .dma) else addr.toNat % 4 = 0)) ∧
     (blockAt addr.toNat = some (b, off)) ∧ (memKind b off = none) ∧ (busReg b off = some (k, n, sh)) ∧ (n = 0) ∧
     (isQueue k.reg = true)) :=
  ⟨⟨.cobbler, 0x400000c, 3, State.reset, .pwr, 0xc, ⟨.PWR_EN, 0, 0⟩, 0, false, by decide +kernel⟩,
    ⟨.cobbler, 0x10800004, welted ((State.reset.setIsland 0x1010 .on).setReg .LRX_STAT 0x41 0), .line 0, 0x4, ⟨.LRX_STAT, 0, 0⟩, 0, false, by decide +kernel⟩,
    ⟨.cobbler, 0x4000040, false, State.reset.setWide .PWR_LIFE 0x100000002 0, .pwr, 0x40, ⟨.PWR_LIFE, 0, 0⟩, 0, false, by decide +kernel⟩,
    ⟨.cobbler, 0x12000030, true, welted ((rackAt 0 {}).setRack 0 { tags := [5, 6] }), .rack 0, 0x30, ⟨.RACK_TAG_REC, 0, 0⟩, 0, false, by decide +kernel⟩⟩

theorem met_MemoryAccessResults :
  (∃ (upset : W72) (s : State) (src : Master) (addr : W32) (d : W64),
     (Issues s src addr.toNat) ∧ (addr.toNat % 4 = 0) ∧ (0x1000000 ≤ addr.toNat) ∧ (addr.toNat < 0x1200000) ∧
     (classify ((s.hit (cellOf addr.toNat) upset).word (cellOf addr.toNat)) = .clean d)) ∧
  (∃ (upset : W72) (s : State) (src : Master) (addr : W32) (d : W64),
     (Issues s src addr.toNat) ∧ (addr.toNat % 4 = 0) ∧ (0x1000000 ≤ addr.toNat) ∧ (addr.toNat < 0x1200000) ∧
     ((s.hit (cellOf addr.toNat) upset).word (cellOf addr.toNat) = poisoned d)) ∧
  (∃ (src : Master) (addr : W32) (wide : Bool) (data : W64) (be : BitVec 8) (s : State) (old : W64),
     (Writes s src addr.toNat) ∧
     ((if wide then addr.toNat % 8 = 0 ∧ (src = .cobbler ∨ src = .dma) ∧ be.toNat ≠ 0xFF else addr.toNat % 4 = 0)) ∧
     (0x1000000 ≤ addr.toNat) ∧ (addr.toNat < 0x1200000) ∧ (classify (s.word (addr.toNat / 8 * 8)) = .clean old)) ∧
  (∃ (src : Master) (addr : W32) (wide : Bool) (data : W64) (be : BitVec 8) (s : State),
     (Writes s src addr.toNat) ∧
     ((if wide then addr.toNat % 8 = 0 ∧ (src = .cobbler ∨ src = .dma) ∧ be.toNat ≠ 0xFF else addr.toNat % 4 = 0)) ∧
     (0x1000000 ≤ addr.toNat) ∧ (addr.toNat < 0x1200000) ∧
     ((classify (s.word (addr.toNat / 8 * 8)) = .poison ∨ classify (s.word (addr.toNat / 8 * 8)) = .uncorrectable))) ∧
  (∃ (src : Master) (addr : W32) (data : W64) (s : State),
     (Writes s src addr.toNat) ∧ (addr.toNat % 8 = 0) ∧ ((src = .cobbler ∨ src = .dma)) ∧
     (0x1000000 ≤ addr.toNat) ∧ (addr.toNat < 0x1200000)) ∧
  (∃ (src : Master) (die : Fin 2) (word : Fin 196608) (data : W64) (s : State),
     (Writes s src ((Block.pool (die.val + 1)).base + 8 * word)) ∧ ((src = .cobbler ∨ src = .dma)) ∧
     (s.granuleOpen (die.val + 1) (8 * word.val / 0x1000) = true)) ∧
  (∃ (src : Master) (k : Fin 8) (word : Fin 256) (data : W64) (s : State),
     (Writes s src (slotAddr k false 0 + 8 * word)) ∧ ((src = .cobbler ∨ src = .dma)) ∧
     (s.slotOpen k false (word.val / 32) = true)) ∧
  (∃ (src : Master) (rack : Fin 64) (space : RackSpace) (loc : Fin 2048) (data : W32) (s : State),
     (Writes s src (spaceAddr rack space loc)) ∧ (s.spaceOpen rack space = true)) ∧
  (∃ (src : Master) (rack : Fin 64) (word : Fin 8192) (data : W32) (s : State),
     (Writes s src (progAddr rack word)) ∧ (isHost src = false) ∧ (s.fld RACK_STAT.HALTED rack = 0xFF)) ∧
  (∃ (src : Master) (rack : Fin 64) (word : Fin 8192) (data : W32) (s : State) (m v : Nat) (lo : W32),
     (Writes s src (progAddr rack word + 4)) ∧ (isHost src = false) ∧ (s.fld RACK_STAT.HALTED rack = 0xFF) ∧
     ((s.rackOf rack).lows.find? (fun x => x.1 == srcId src && x.2.1 == word.val) = some (m, v, lo))) :=
  ⟨⟨0, State.reset.setWord 0x1000000 (protect 7), .cobbler, 0x1000004, 7, (by decide +kernel), (by decide +kernel), (by decide +kernel), (by decide +kernel), (by rw [hit_zero]; exact sram_clean)⟩,
    ⟨0, State.reset.setWord 0x1000000 (poisoned 7), .cobbler, 0x1000004, 7, (by decide +kernel), (by decide +kernel), (by decide +kernel), (by decide +kernel), (by rw [hit_zero]; rfl)⟩,
    ⟨.cobbler, 0x1000004, false, 9, 0, State.reset.setWord 0x1000000 (protect 7), 7, (by decide +kernel), (by decide +kernel), (by decide +kernel), (by decide +kernel), sram_clean⟩,
    ⟨.cobbler, 0x1000004, false, 9, 0, State.reset.setWord 0x1000000 (poisoned 7), (by decide +kernel), (by decide +kernel), (by decide +kernel), (by decide +kernel), (.inl sram_poison)⟩,
    ⟨.dma, 0x1000008, 9, State.reset, by decide +kernel⟩,
    ⟨.dma, 0, 5, 9, welted (State.reset.setIsland 0x1002 .on), by decide +kernel⟩,
    ⟨.dma, 0, 5, 9, slotFree, by decide +kernel⟩,
    ⟨.cobbler, 0, .x 0, 5, 9, welted ((rackAt 0 {}).put RACK_STAT.HALTED 0xFF 0), by decide +kernel⟩,
    ⟨.cobbler, 0, 5, 9, welted ((rackAt 0 {}).put RACK_STAT.HALTED 0xFF 0), by decide +kernel⟩,
    ⟨.cobbler, 0, 5, 9, welted (((rackAt 0 {}).put RACK_STAT.HALTED 0xFF 0).setRack 0 { lows := [(0, 5, 8)] }), 0, 5, 8, by decide +kernel⟩⟩

theorem met_MemoryUpkeepResults :
  (∃ (row : Fin 8192) (s : State), (s.ctl.copying.contains row.val = true)) ∧
  (∃ (row : Fin 8192) (s : State), (s.ctl.refresh.contains row.val = true)) ∧
  (∃ (upset : W72) (s : State) (addr : W32), (s.scrubbed (addr.toNat / 8 * 8) = true)) ∧
  (∃ (die : Fin 3) (region : Fin 8) (s : State),
     (lookup 0 (regionUnit die region) s.ctl.leaked + 1000 * s.bucketLeak (regionUnit die region) ≤ s.now)) ∧
  (∃ (e : Fin 256) (s : State),
     (Runs s e 0x03 0x01) ∧ ((s.params e).byte 0 ≤ 2) ∧ ((s.params e).zeroFrom 2 = true) ∧
     (s.regionThere ((s.params e).byte 0) ((s.params e).byte 1) = true)) ∧
  (∃ (e : Fin 256) (s : State),
     (Runs s e 0x03 0x02) ∧ ((s.params e).byte 0 ≤ 2) ∧ ((s.params e).byte 2 ≠ 0) ∧ ((s.params e).byte 3 = 0) ∧
     ((s.params e).half 4 ≠ 0) ∧ ((s.params e).zeroFrom 6 = true) ∧
     (s.regionThere ((s.params e).byte 0) ((s.params e).byte 1) = true)) ∧
  (∃ (e : Fin 256) (s : State),
     (Runs s e 0x03 0x03) ∧ ((s.params e).byte 0 ≤ 2) ∧ ((s.params e).byte 1 ≤ 15) ∧
     ((s.params e).zeroFrom 2 = true) ∧ (s.dieAnswers ((s.params e).byte 0) = true)) :=
  ⟨⟨3, { State.reset with ctl := { copying := [3] } }, by decide +kernel⟩,
    ⟨3, { State.reset with ctl := { refresh := [3] } }, by decide +kernel⟩,
    ⟨0, scrubbing, 0x1000000, by decide +kernel⟩,
    ⟨0, 1, { State.reset with now := 10000000 }, by decide +kernel⟩,
    ⟨1, cmdAt 0x03 0x01 [0, 2], by decide +kernel⟩,
    ⟨1, cmdAt 0x03 0x02 [0, 2, 5, 0, 7, 0], by decide +kernel⟩,
    ⟨1, cmdAt 0x03 0x03 [0, 2], by decide +kernel⟩⟩

theorem met_HostInterfaceResults :
  (∃ (addr : W32) (words : List W32) (s : State), (s.pwr.held = false)) ∧
  (∃ (addr : W32) (s : State) (b : Block) (off : Nat) (k : RKey) (n : Nat) (sh : Bool) (d : W32),
     (s.spiBusy = false) ∧ (s.spi.posted = []) ∧ (Writes s .spi addr.toNat) ∧ (addr.toNat % 4 = 0) ∧
     (blockAt addr.toNat = some (b, off)) ∧ (memKind b off = none) ∧ (busReg b off = some (k, n, sh)) ∧
     (k.reg.words = 1) ∧ (ownEffect k.reg = false) ∧ (countsBus k.reg = false) ∧ (k.reg ≠ .HIF_SPI_STAT)) ∧
  (∃ (addr : W32) (s : State) (b : Block) (off : Nat) (k : RKey) (n : Nat) (sh : Bool),
     (s.spiBusy = false) ∧ (s.spi.posted = []) ∧ (Issues s .spi addr.toNat) ∧ (addr.toNat % 4 = 0) ∧
     (blockAt addr.toNat = some (b, off)) ∧ (memKind b off = none) ∧ (busReg b off = some (k, n, sh)) ∧
     (k.reg.words = 1) ∧ (countsBus k.reg = false) ∧ (k.reg ≠ .MGMT_IRQ_TOP) ∧ (k.reg ≠ .MGMT_IRQ_LOCAL) ∧
     (k.reg ≠ .MGMT_IRQ_INTN)) ∧
  (∃ (addr : W32) (words : Fin 256) (s : State), (s.pwr.held = false)) ∧
  (∃ (s : State), (s.pwr.held = false) ∧ (s.spiBusy = false) ∧ (s.spi.posted = [])) ∧
  (∃ (s : State), (s.pwr.held = false)) ∧
  (∃ (s : State) (b : Block) (off : Nat) (k : RKey) (n : Nat) (sh : Bool),
     (s.i2c.busy = none) ∧ (s.waitingOf .i2c = []) ∧ (Writes s .i2c s.i2c.addr) ∧ (s.i2c.addr % 4 = 0) ∧
     (blockAt s.i2c.addr = some (b, off)) ∧ (memKind b off = none) ∧ (busReg b off = some (k, n, sh)) ∧
     (k.reg.words = 1) ∧ (ownEffect k.reg = false) ∧ (countsBus k.reg = false)) ∧
  (∃ (s : State) (b : Block) (off : Nat) (k : RKey) (n : Nat) (sh : Bool),
     (s.i2c.busy = none) ∧ (s.waitingOf .i2c = []) ∧ (Issues s .i2c s.i2c.addr) ∧ (s.i2c.addr % 4 = 0) ∧
     (blockAt s.i2c.addr = some (b, off)) ∧ (memKind b off = none) ∧ (busReg b off = some (k, n, sh)) ∧
     (k.reg.words = 1) ∧ (countsBus k.reg = false) ∧ (k.reg ≠ .MGMT_IRQ_TOP) ∧ (k.reg ≠ .MGMT_IRQ_LOCAL) ∧
     (k.reg ≠ .MGMT_IRQ_INTN)) ∧
  (∃ (s : State) (b p : BitVec 8), (s.pwr.held = false)) ∧
  (∃ (offset : BitVec 8) (s : State) (v : BitVec 8),
     (s.pwr.held = false) ∧ (s.flag MBX_STAT.READY = true) ∧ (s.i2c.page = 0x10) ∧ (s.i2c.bank < 2) ∧
     (128 ≤ offset.toNat) ∧ (offset.toNat < 134)) ∧
  (∃ (count : BitVec 12) (s : State), (s.pwr.held = false) ∧ (s.i2c.ptr < 256)) ∧
  (∃ (s : State), (s.pwr.held = false) ∧ (s.i2c.ptr = 126)) :=
  ⟨⟨0, [], State.reset, by decide +kernel⟩,
    ⟨0x400000c, State.reset, .pwr, 0xc, ⟨.PWR_EN, 0, 0⟩, 0, false, 3, by decide +kernel⟩,
    ⟨0x10800004, welted ((State.reset.setIsland 0x1010 .on).setReg .LRX_STAT 0x41 0), .line 0, 0x4, ⟨.LRX_STAT, 0, 0⟩, 0, false, by decide +kernel⟩,
    ⟨0, 0, State.reset, by decide +kernel⟩,
    ⟨State.reset, by decide +kernel⟩,
    ⟨State.reset, by decide +kernel⟩,
    ⟨{ State.reset with i2c := { addr := 0x400000c, data := 3 } }, .pwr, 0xc, ⟨.PWR_EN, 0, 0⟩, 0, false, by decide +kernel⟩,
    ⟨{ welted ((State.reset.setIsland 0x1010 .on).setReg .LRX_STAT 0x41 0) with i2c := { addr := 0x10800004 } }, .line 0, 0x4, ⟨.LRX_STAT, 0, 0⟩, 0, false, by decide +kernel⟩,
    ⟨State.reset, 1, 0x10, by decide +kernel⟩,
    ⟨130, { cmdAt 1 1 [] with i2c := { page := 0x10 } }, 5, by decide +kernel⟩,
    ⟨2, State.reset, by decide +kernel⟩,
    ⟨{ State.reset with i2c := { ptr := 126 } }, by decide +kernel⟩⟩

theorem met_WaitingRequestResults :
  (∃ (src : Master) (nth : Fin 16) (s : State) (r : Request),
     ((s.waitingOf src)[nth.val]? = some r) ∧ (s.pwr.held = false) ∧
     ((src = .spi → s.spi.frame = none ∧ s.spi.posted = [])) ∧ (r.got = none) ∧ (s.servable r = true) ∧
     (s.hasCredit src r.addr true = true) ∧ (s.draining = [])) ∧
  (∃ (src : Master) (nth : Fin 16) (s : State) (r : Request) (y : BusReply),
     ((s.waitingOf src)[nth.val]? = some r) ∧ (s.pwr.held = false) ∧
     ((src = .spi → s.spi.frame = none ∧ s.spi.posted = [])) ∧ (r.got = some y) ∧ (s.reachable r.addr = true) ∧
     (s.hasCredit src r.addr true = true) ∧ (s.draining = [])) ∧
  (∃ (src : Master) (nth : Fin 16) (s : State) (r : Request),
     ((s.waitingOf src)[nth.val]? = some r) ∧ (s.pwr.held = false) ∧
     ((src = .spi → s.spi.frame = none ∧ s.spi.posted = [])) ∧ (50 ≤ s.now - r.at_) ∧ (s.draining = [])) ∧
  (∃ (island : BitVec 16) (s : State) (d : Drain) (r : Request),
     (s.pwr.held = false) ∧ (s.draining.find? (fun x => x.island == island.toNat) = some d) ∧
     (d.since + 1 ≤ s.now) ∧ (s.accepted d.island = [r]) ∧
     ((r.src = .spi → s.spi.frame = none ∧ s.spi.posted = []))) ∧
  (∃ (die : Fin 2) (s : State), (s.pwr.held = false) ∧ (s.linkState die = 2)) :=
  ⟨⟨.cobbler, 0, { welted State.reset with waiting := [⟨.cobbler, 0, .read32, 0x10000000, 0, 0, none⟩], now := 100 }, ⟨.cobbler, 0, .read32, 0x10000000, 0, 0, none⟩, by decide +kernel⟩,
    ⟨.cobbler, 0, { welted State.reset with waiting := [⟨.cobbler, 0, .read32, 0x10000000, 0, 0, some { resp := .ok, lo := 7 }⟩], now := 100 }, ⟨.cobbler, 0, .read32, 0x10000000, 0, 0, some { resp := .ok, lo := 7 }⟩, { resp := .ok, lo := 7 }, by decide +kernel⟩,
    ⟨.cobbler, 0, { welted State.reset with waiting := [⟨.cobbler, 0, .read32, 0x10000000, 0, 0, none⟩], now := 100 }, ⟨.cobbler, 0, .read32, 0x10000000, 0, 0, none⟩, by decide +kernel⟩,
    ⟨0x1010, { welted State.reset with waiting := [⟨.cobbler, 0, .read32, 0x10800000, 0, 0, some { resp := .ok, lo := 7 }⟩], now := 100, draining := [⟨0x1010, .powerOff, 0⟩] }, ⟨0x1010, .powerOff, 0⟩, ⟨.cobbler, 0, .read32, 0x10800000, 0, 0, some { resp := .ok, lo := 7 }⟩, by decide +kernel⟩,
    ⟨0, welted State.reset, by decide +kernel⟩⟩

theorem met_MailboxResults :
  (∃ (src : Master) (data : W32) (s : State),
     (Writes s src 0x4020000) ∧ ((s.eyelet (getBits data 0 8)).st = .free) ∧ (s.flag MBX_STAT.READY = true)) ∧
  (∃ (s : State), (s.pwr.held = false) ∧ ((s.eyelet s.i2c.sel).st = .free) ∧ (s.flag MBX_STAT.READY = true)) ∧
  (∃ (s : State) (e : Nat) (rest : List Nat), (s.aqiqueRuns = true) ∧ (s.mbx.queue = e :: rest)) ∧
  (∃ (e : Fin 256) (s : State) (r : Reply),
     (s.aqiqueRuns = true) ∧ ((s.eyelet e).st = .running) ∧ ((s.eyelet e).reply = some r) ∧
     (s.ringWait (ringOf (s.eyelet e)) = []) ∧ (s.ringUsed (ringOf (s.eyelet e)) < 255)) ∧
  (∃ (src : Master) (ring : Fin 2) (data : W32) (s : State),
     (Writes s src (0x4020014 + 8 * ring)) ∧
     ((getBits data 0 8 + 256 - s.fld MBX_CR_CONS_PTR.INDEX 0 ring) % 256 ≤ s.ringUsed ring)) ∧
  (∃ (e : Fin 256) (s : State),
     (((s.eyelet e).st = .submitted ∨ (s.eyelet e).st = .running)) ∧ ((s.eyelet e).reply = none) ∧
     (2000000 ≤ s.now - (s.eyelet e).accepted)) ∧
  (∃ (e : Fin 256) (s : State), (Runs s e 0x0E 0x01) ∧ ((s.params e).zeroFrom 0 = true)) ∧
  (∃ (e : Fin 256) (s : State), (Runs s e 0x0E 0x02) ∧ ((s.params e).zeroFrom 8 = true)) ∧
  (∃ (e : Fin 256) (s : State),
     (Runs s e 0x0E 0x03) ∧ (4 ≤ (s.params e).byte 0) ∧ ((s.params e).byte 0 ≤ 7) ∧ ((s.params e).byte 1 ≤ 3) ∧
     ((s.params e).half 2 = 0) ∧ ((s.params e).zeroFrom 12 = true) ∧
     ((s.params e).wordAt 4 ≤ (s.params e).wordAt 8) ∧ ((s.params e).wordAt 4 % 8 = 0) ∧
     ((s.params e).wordAt 8 % 8 = 0) ∧
     (deniedRegions.any (fun r => decide ((s.params e).wordAt 4 ≤ r.2) && decide (r.1 ≤ (s.params e).wordAt 8 +
        7)) = false)) ∧
  (∃ (e : Fin 256) (s : State),
     (Runs s e 0x0E 0x04) ∧ (4 ≤ (s.params e).byte 0) ∧ ((s.params e).byte 0 ≤ 7) ∧
     ((s.params e).zeroFrom 1 = true)) ∧
  (∃ (e : Fin 256) (s : State),
     (Runs s e 0x0E 0x05) ∧ ((s.params e).byte 0 ≤ 1) ∧ ((s.params e).zeroFrom 1 = true)) :=
  ⟨⟨.cobbler, 3, aq, by decide +kernel⟩,
    ⟨aq, by decide +kernel⟩,
    ⟨{ aq with mbx := { aq.mbx with queue := [1] } }, 1, [], by decide +kernel⟩,
    ⟨1, aq.setEyelet 1 { st := .running, reply := some ⟨0, 1, 2⟩ }, ⟨0, 1, 2⟩, by decide +kernel⟩,
    ⟨.cobbler, 1, 0, aq, by decide +kernel⟩,
    ⟨1, { aq.setEyelet 1 { st := .running } with now := 3000000 }, by decide +kernel⟩,
    ⟨1, cmdAt 0x0E 0x01 [], by decide +kernel⟩,
    ⟨1, cmdAt 0x0E 0x02 [1, 2], by decide +kernel⟩,
    ⟨1, cmdAt 0x0E 0x03 [4, 1, 0, 0, 0, 0, 0, 0x10, 0x10, 0, 0, 0x10], by decide +kernel⟩,
    ⟨1, cmdAt 0x0E 0x04 [5], by decide +kernel⟩,
    ⟨1, cmdAt 0x0E 0x05 [1], by decide +kernel⟩⟩

theorem met_CmisResults :
  (∃ (bank : Fin 2) (paths : List (Fin 8 × Fin 4 × Fin 16)) (s : State),
     (s.aqiqueRuns = true) ∧ (s.flag HIF_STAT.DP_CONTROL = false)) ∧
  (∃ (bank : Fin 2) (paths : List (Fin 8 × Fin 4 × Fin 16)) (s : State) (x : Txn),
     (s.aqiqueRuns = true) ∧ (s.flag HIF_STAT.DP_CONTROL = true) ∧ (s.mode.txn = some x)) ∧
  (∃ (bank : Fin 2) (paths : List (Fin 8 × Fin 4 × Fin 16)) (s : State),
     (s.aqiqueRuns = true) ∧ (s.flag HIF_STAT.DP_CONTROL = true) ∧ (s.mode.txn = none) ∧ (s.modeReady = false)) ∧
  (∃ (bank : Fin 2) (paths : List (Fin 8 × Fin 4 × Fin 16)) (s : State),
     (s.aqiqueRuns = true) ∧ (s.flag HIF_STAT.DP_CONTROL = true) ∧ (s.mode.txn = none) ∧ (s.modeReady = true) ∧
     ((State.validate { s with mode := { s.mode with lastId := s.mode.lastId % 0xFFFF + 1 } } (s.cmisStage
        (cmisPaths bank paths))).status ≠ 0)) ∧
  (∃ (bank : Fin 2) (paths : List (Fin 8 × Fin 4 × Fin 16)) (s : State),
     (s.aqiqueRuns = true) ∧ (s.flag HIF_STAT.DP_CONTROL = true) ∧ (s.mode.txn = none) ∧ (s.modeReady = true) ∧
     ((State.validate { s with mode := { s.mode with lastId := s.mode.lastId % 0xFFFF + 1 } } (s.cmisStage
        (cmisPaths bank paths))).status = 0)) ∧
  (∃ (lane : Fin 16) (deinit : Bool) (s : State), (s.aqiqueRuns = true)) ∧
  (∃ (lane : Fin 16) (deinit : Bool) (s : State), (s.aqiqueRuns = true) ∧ (s.cmisPortOfHost lane.val = none)) ∧
  (∃ (lane : Fin 16) (deinit : Bool) (s : State) (p : Nat),
     (s.aqiqueRuns = true) ∧ (s.cmisPortOfHost lane.val = some p) ∧
     ((s.setCtlBit (cmisKey (lane.val / 8) 0x10 128) (lane.val % 8) deinit).cmisTxEn s.mode.active p =
        (s.mode.active.port p).txEn)) ∧
  (∃ (lane : Fin 16) (deinit : Bool) (s : State) (p : Nat) (m : Image),
     (s.aqiqueRuns = true) ∧ (s.flag HIF_STAT.DP_CONTROL = true) ∧ (s.mode.txn = none) ∧ (s.modeReady = true) ∧
     (s.cmisPortOfHost lane.val = some p) ∧
     ((s.setCtlBit (cmisKey (lane.val / 8) 0x10 128) (lane.val % 8) deinit).cmisTxEn s.mode.active p ≠
        (s.mode.active.port p).txEn) ∧
     (m =
        { s.mode.active with ports := s.mode.active.ports.set p { s.mode.active.port p with txEn := (s.setCtlBit (cmisKey (lane.val / 8) 0x10 128) (lane.val % 8) deinit).cmisTxEn s.mode.active p } }) ∧
     ((State.validate
        { (s.setCtlBit (cmisKey (lane.val / 8) 0x10 128) (lane.val % 8) deinit) with mode := { s.mode with lastId := s.mode.lastId % 0xFFFF + 1 } }
        m).status = 0)) ∧
  (∃ (lane : Fin 8) (disable : Bool) (s : State), (s.aqiqueRuns = true)) ∧
  (∃ (lane : Fin 8) (disable : Bool) (s : State), (s.aqiqueRuns = true) ∧ (s.cmisPortOfLine lane.val = none)) ∧
  (∃ (lane : Fin 8) (disable : Bool) (s : State) (p : Nat),
     (s.aqiqueRuns = true) ∧ (s.cmisPortOfLine lane.val = some p) ∧
     ((s.setCtlBit (cmisKey (lane.val / 4) 0x10 130) (lane.val % 4) disable).cmisTxEn s.mode.active p =
        (s.mode.active.port p).txEn)) ∧
  (∃ (lane : Fin 8) (disable : Bool) (s : State) (p : Nat) (m : Image),
     (s.aqiqueRuns = true) ∧ (s.flag HIF_STAT.DP_CONTROL = true) ∧ (s.mode.txn = none) ∧ (s.modeReady = true) ∧
     (s.cmisPortOfLine lane.val = some p) ∧
     ((s.setCtlBit (cmisKey (lane.val / 4) 0x10 130) (lane.val % 4) disable).cmisTxEn s.mode.active p ≠
        (s.mode.active.port p).txEn) ∧
     (m =
        { s.mode.active with ports := s.mode.active.ports.set p { s.mode.active.port p with txEn := (s.setCtlBit (cmisKey (lane.val / 4) 0x10 130) (lane.val % 4) disable).cmisTxEn s.mode.active p } }) ∧
     ((State.validate
        { (s.setCtlBit (cmisKey (lane.val / 4) 0x10 130) (lane.val % 4) disable) with mode := { s.mode with lastId := s.mode.lastId % 0xFFFF + 1 } }
        m).status = 0)) ∧
  (∃ (supply : BitVec 16) (s : State), (s.aqiqueRuns = true)) ∧
  (∃ (page : Fin 3) (bank : Fin 8) (s : State), (s.aqiqueRuns = true)) :=
  ⟨⟨0, [(0, 1, 0)], aq, by decide +kernel⟩,
    ⟨0, [(0, 0, 0)], { aq.put HIF_STAT.DP_CONTROL 1 with mode := { aq.mode with txn := some { id := 5 } } }, { id := 5 }, by decide +kernel⟩,
    ⟨0, [(0, 1, 0)], aq.put HIF_STAT.DP_CONTROL 1, by decide +kernel⟩,
    ⟨0, [(0, 2, 1)], moded, by decide +kernel⟩,
    ⟨0, [], moded, by decide +kernel⟩,
    ⟨0, true, aq, by decide +kernel⟩,
    ⟨0, true, aq, by decide +kernel⟩,
    ⟨0, true, cmisPort false, 0, by decide +kernel⟩,
    ⟨0, true, cmisPort true, 0, (cmisPort false).mode.active, by decide +kernel⟩,
    ⟨0, true, aq, by decide +kernel⟩,
    ⟨0, true, aq, by decide +kernel⟩,
    ⟨0, true, cmisPort false, 0, by decide +kernel⟩,
    ⟨0, true, cmisPort true, 0, (cmisPort false).mode.active, by decide +kernel⟩,
    ⟨0x1234, aq, by decide +kernel⟩,
    ⟨1, 0, aq, by decide +kernel⟩⟩

theorem met_WeltLinkResults :
  (∃ (path : FlitPath) (data : W64) (flips : W72) (s : State),
     (s.Shaped) ∧ (s.carries path = true) ∧ ((s.channel path).resend = none) ∧
     (0 < (s.channel path).credit ((s.channel path).nextClass data))) ∧
  (∃ (path : FlitPath) (data : W64) (flips : W72) (s : State),
     (s.carries path = true) ∧ ((s.channel path).resend = none) ∧
     ((s.channel path).credit ((s.channel path).nextClass data) = 0)) ∧
  (∃ (path : FlitPath) (data : W64) (flips : W72) (s : State) (i : Nat),
     (s.Shaped) ∧ (s.carries path = true) ∧ ((s.channel path).resend = some i)) ∧
  (∃ (path : FlitPath) (cls : MsgClass) (n : Fin 64) (s : State), (s.Shaped)) ∧
  (∃ (link : Fin 3) (toMgmt : Bool) (flit : Nat) (s : State),
     (s.Shaped) ∧ (flit < ((s.link link).dir toMgmt).sent) ∧ (((s.link link).dir toMgmt).sent ≤ flit + 64) ∧
     (s.linkState link ≠ 0) ∧ (s.linkState link ≠ 4)) ∧
  (∃ (link : Fin 3) (die : Fin 2) (s : State),
     (s.linkState link = 2) ∧ (8 ≤ ((s.link link).times.filter (fun x => decide (s.now < x + 1000))).length)) ∧
  (∃ (link : Fin 3) (s : State), ((s.linkState link = 1 ∨ s.linkState link = 3))) ∧
  (∃ (s : State),
     (s.Shaped) ∧ ((s.linkState 2 = 1 ∨ s.linkState 2 = 3)) ∧ (s.pwr.seqs = []) ∧
     (((s.link 2).fromFailed = true ∨ 1 ≤ (s.link 2).failures))) ∧
  (∃ (die n : Fin 2) (s : State),
     ((s.linkState (if n = 1 then 2 else die.val) = 2 ∨ s.linkState (if n = 1 then 2 else die.val) = 3))) ∧
  (∃ (die : Fin 2) (s : State), (s.linkState 2 = 4) ∧ (s.flag WELT_CTL.AB_EN (die.val + 1) = true)) :=
  ⟨⟨.welt 0 true, 5, 0, welted State.reset, by decide +kernel⟩,
    ⟨.welt 0 true, 5, 0, (welted State.reset).setWay 0 true { credReq := 0 }, by decide +kernel⟩,
    ⟨.welt 0 true, 5, 0, (welted State.reset).setWay 0 true { sent := 9, resend := some 3 }, 3, by decide +kernel⟩,
    ⟨.island 0x1002 false, .request, 3, State.reset, by decide +kernel⟩,
    ⟨0, false, 3, (welted State.reset).setWay 0 false { sent := 9 }, by decide +kernel⟩,
    ⟨0, 0, (welted State.reset).setLink 0 { times := List.replicate 8 0 }, by decide +kernel⟩,
    ⟨1, (welted State.reset).setLinkState 1 3, by decide +kernel⟩,
    ⟨{ ((welted State.reset).setLinkState 2 3).setLink 2 { failures := 1 } with pwr := {} }, by decide +kernel⟩,
    ⟨0, 0, welted State.reset, by decide +kernel⟩,
    ⟨0, ((welted State.reset).setLinkState 2 4).raise WELT_CTL.AB_EN 1, by decide +kernel⟩⟩

theorem met_ClockResults :
  (∃ (die : Fin 3) (bit : Fin 8) (s : State), (s.locked die bit = true) ∧ ((die.val = 0 → bit.val < 2))) ∧
  (∃ (die : Fin 3) (bit : Fin 9) (s : State), (s.pwr.held = false) ∧ (s.pllStarts die bit = true) ∧ (bit.val ≠ 8)) ∧
  (∃ (die : Fin 3) (s : State), (s.pwr.held = false) ∧ (s.seqOn 1 0 = false)) ∧
  (∃ (s : State), (s.refclkSeen = true)) ∧
  (∃ (s : State), (s.refclkSeen = true)) ∧
  (∃ (s : State),
     (s.pwr.held = false) ∧
     (s.pwr.seqs.any (fun q => q.num == 1 && q.step == 2 && decide (q.since + 10000 ≤ s.now)) = true)) ∧
  (∃ (die : Fin 2) (s : State), (s.pwr.held = false) ∧ (s.linkState die = 2)) :=
  ⟨⟨1, 0, State.reset.setReg .CLK_LOCK 0x1FF 1, by decide +kernel⟩,
    ⟨0, 0, { State.reset with pllArmed := [1, 0, 0] }, by decide +kernel⟩,
    ⟨0, { State.reset with pwr := {} }, by decide +kernel⟩,
    ⟨{ State.reset with pwr := {} }, by decide +kernel⟩,
    ⟨{ State.reset with pwr := {} }, by decide +kernel⟩,
    ⟨{ State.reset with pwr := { seqs := [{ num := 1, step := 2 }] }, now := 10000 }, by decide +kernel⟩,
    ⟨0, welted State.reset, by decide +kernel⟩⟩

theorem met_LineReceiverResults :
  (∃ (k : Fin 8) (s : State), (s.lineUsed k = true) ∧ (s.flag LRX_STAT.SIG_PRESENT k = false)) ∧
  (∃ (k : Fin 8) (s : State), (s.Shaped) ∧ (s.lineUsed k = true) ∧ (s.flag LRX_STAT.SIG_PRESENT k = true)) ∧
  (∃ (k : Fin 8) (s : State),
     (s.lineUsed k = true) ∧ (s.flag LRX_SIGDET_CTL.WAKE_EN k = true) ∧ (s.flag LRX_STAT.WAKE_SEEN k = false)) ∧
  (∃ (k : Fin 8) (s : State),
     (s.lineUsed k = true) ∧ (s.flag LRX_SIGDET_CTL.WAKE_EN k = true) ∧ (s.flag LRX_STAT.WAKE_SEEN k = true)) ∧
  (∃ (k : Fin 8) (s : State), (s.lineUsed k = true) ∧ ((s.mode.run.lane k).dozeRx ≠ 0) ∧ (s.rxHeld k = false)) ∧
  (∃ (k : Fin 8) (fofs : BitVec 16) (phase : BitVec 8) (s : State),
     (s.rxRuns k = true) ∧ (s.flag LRX_STAT.CDR_LOCK k = false)) ∧
  (∃ (k : Fin 8) (fofs : BitVec 16) (phase : BitVec 8) (s : State),
     (s.rxRuns k = true) ∧ (s.flag LRX_STAT.CDR_LOCK k = true)) ∧
  (∃ (k : Fin 8) (off : BitVec 15) (data : W32) (s : State) (r : Reg) (i w : Nat),
     (s.lineUsed k = true) ∧ (findReg layout_lane off.toNat = some (r, i, w)) ∧ (isRxCoef r = true) ∧
     (s.racksHalted k = true)) ∧
  (∃ (k : Fin 8) (msq snr : BitVec 16) (l0 l1 l2 l3 : W32) (s : State),
     (s.rxRuns k = true) ∧ (s.island (lineIsland k) = .on)) ∧
  (∃ (k : Fin 8) (s : State), (s.Shaped) ∧ (s.lineUsed k = true) ∧ (s.flag LRX_HIST_STAT.BUSY k = false)) ∧
  (∃ (k : Fin 8) (x : TapRecord) (s : State),
     (s.Shaped) ∧ (s.rxRuns k = true) ∧ (s.flag LRX_HIST_STAT.BUSY k = true) ∧
     ((s.line k).histTaken < (s.line k).histGoal)) ∧
  (∃ (k : Fin 8) (s : State),
     (s.rxRuns k = true) ∧ (s.flag LRX_HIST_STAT.BUSY k = true) ∧ ((s.line k).histTaken = (s.line k).histGoal)) ∧
  (∃ (k : Fin 8) (s : State) (f : Fade),
     (s.Shaped) ∧ ((s.line k).fade = some f) ∧ (f ≠ .rampOut) ∧ ((s.line k).fadeAt + 1000 ≤ s.now)) :=
  ⟨⟨0, lined, by decide +kernel⟩,
    ⟨0, lined.raise LRX_STAT.SIG_PRESENT 0, by decide +kernel⟩,
    ⟨0, lined.raise LRX_SIGDET_CTL.WAKE_EN 0, by decide +kernel⟩,
    ⟨0, (lined.raise LRX_SIGDET_CTL.WAKE_EN 0).raise LRX_STAT.WAKE_SEEN 0, by decide +kernel⟩,
    ⟨0, dozing, by decide +kernel⟩,
    ⟨0, 5, 6, rxrun, by decide +kernel⟩,
    ⟨0, 5, 6, rxrun.raise LRX_STAT.CDR_LOCK 0, by decide +kernel⟩,
    ⟨0, 0x100, 9, rackless, .LRX_FFE_COEF, 0, 0, by decide +kernel⟩,
    ⟨0, 1, 2, 3, 4, 5, 6, rxrun.setIsland (lineIsland 0) .on, by decide +kernel⟩,
    ⟨0, lined, by decide +kernel⟩,
    ⟨0, ⟨1, 0, false, 0, [], 0, []⟩, (rxrun.raise LRX_HIST_STAT.BUSY 0).setLine 0 { histGoal := 5 }, by decide +kernel⟩,
    ⟨0, (rxrun.raise LRX_HIST_STAT.BUSY 0).setLine 0 { histGoal := 5, histTaken := 5 }, by decide +kernel⟩,
    ⟨0, { State.reset.setLine 0 { fade := some .fadeIn } with now := 1000 }, .fadeIn, by decide +kernel⟩⟩

theorem met_ReceiveCalibrationResults :
  (∃ (e : Fin 256) (s : State),
     (Runs s e 0x11 0x01) ∧ (s.Shaped) ∧ ((s.params e).byte 0 ≤ 7) ∧ (s.lineUsed ((s.params e).byte 0) = true) ∧
     (s.applyHoldsLine ((s.params e).byte 0) = false) ∧ ((s.params e).byte 1 ≠ 0) ∧ ((s.params e).byte 1 ≤ 7) ∧
     ((s.params e).byte 2 ≠ 0) ∧ ((s.params e).byte 2 ≤ 8) ∧ ((s.params e).zeroFrom 3 = true) ∧
     ((s.line ((s.params e).byte 0)).calRx = none) ∧ (s.calRxCheck ((s.params e).byte 0) = 0)) ∧
  (∃ (e : Fin 256) (s : State),
     (Runs s e 0x11 0x02) ∧ (s.Shaped) ∧ ((s.params e).byte 0 ≤ 7) ∧
     (s.applyHoldsLine ((s.params e).byte 0) = false) ∧ ((s.params e).zeroFrom 1 = true) ∧
     (∀ r, (s.line ((s.params e).byte 0)).calRx = some r → r.waiter.aqique = true ∨ r.waiter.eyelet ≠ e.val)) ∧
  (∃ (e : Fin 256) (s : State),
     (Runs s e 0x11 0x03) ∧ ((s.params e).byte 0 ≤ 7) ∧ (s.applyHoldsLine ((s.params e).byte 0) = false) ∧
     ((s.params e).zeroFrom 1 = true)) ∧
  (∃ (k : Fin 8) (skew gain offset : List Int) (s : State) (run : CalRun),
     (s.Shaped) ∧ ((s.line k).calRx = some run) ∧ (s.fld LRX_CAL_STAT.PHASE k = 2)) ∧
  (∃ (k : Fin 8) (s : State) (run : CalRun),
     (s.Shaped) ∧ ((s.line k).calRx = some run) ∧ (s.fld LRX_CAL_STAT.PHASE k = 3) ∧ (run.periods = 0) ∧
     (s.trimsReached k run.mask = true)) ∧
  (∃ (k : Fin 8) (n : Fin 128) (s : State),
     (s.flag LRX_STAT.CDR_LOCK k = true) ∧ ((s.line k).adc.due s.now n 128 = true)) ∧
  (∃ (k : Fin 8) (n : Fin 128) (data : W32) (s : State), (s.lineUsed k = true) ∧ ((s.line k).calRx = none)) :=
  ⟨⟨1, (onLine (cmdAt 0x11 0x01 [0, 7, 3])).setReg .LRX_STAT 7 0, by decide +kernel⟩,
    ⟨1, onLine (cmdAt 0x11 0x02 [0]), by decide +kernel⟩,
    ⟨1, onLine (cmdAt 0x11 0x03 [0]), by decide +kernel⟩,
    ⟨0, [], [], [], (State.reset.setLine 0 { calRx := some { mask := 7, rounds := 2, waiter := {} } }).put LRX_CAL_STAT.PHASE 2 0, { mask := 7, rounds := 2, waiter := {} }, by decide +kernel⟩,
    ⟨0, (State.reset.setLine 0 { calRx := some { mask := 7, rounds := 2, waiter := {} } }).put LRX_CAL_STAT.PHASE 3 0, { mask := 7, rounds := 2, waiter := {} }, by decide +kernel⟩,
    ⟨0, 5, atTime (((State.reset.raise LRX_STAT.CDR_LOCK 0).setReg .LRX_ADC_TTRIM 0x10FF02 0 5).setLine 0 { adc := { at_ := 7, len := 256 } }) 17, by decide +kernel⟩,
    ⟨0, 5, 9, lined, by decide +kernel⟩⟩

theorem met_TransmitCalibrationResults :
  (∃ (e : Fin 256) (s : State),
     (Runs s e 0x11 0x04) ∧ (s.Shaped) ∧ ((s.params e).byte 0 ≤ 7) ∧ (s.lineUsed ((s.params e).byte 0) = true) ∧
     (s.applyHoldsLine ((s.params e).byte 0) = false) ∧ ((s.params e).byte 1 = 0) ∧ ((s.params e).byte 2 ≠ 0) ∧
     ((s.params e).byte 2 ≤ 8) ∧ ((s.params e).zeroFrom 3 = true) ∧
     ((s.line ((s.params e).byte 0)).calTx = none) ∧ (s.calTxCheck ((s.params e).byte 0) = 0)) ∧
  (∃ (e : Fin 256) (s : State),
     (Runs s e 0x11 0x05) ∧ (s.Shaped) ∧ ((s.params e).byte 0 ≤ 7) ∧ (s.lineUsed ((s.params e).byte 0) = true) ∧
     (s.applyHoldsLine ((s.params e).byte 0) = false) ∧ ((s.params e).zeroFrom 1 = true) ∧
     (∀ r, (s.line ((s.params e).byte 0)).calTx = some r → r.waiter.aqique = true ∨ r.waiter.eyelet ≠ e.val)) ∧
  (∃ (e : Fin 256) (s : State),
     (Runs s e 0x11 0x06) ∧ ((s.params e).byte 0 ≤ 7) ∧ (s.lineUsed ((s.params e).byte 0) = true) ∧
     (s.applyHoldsLine ((s.params e).byte 0) = false) ∧ ((s.params e).zeroFrom 1 = true)) ∧
  (∃ (k : Fin 8) (skew : List Int) (s : State) (run : CalRun),
     (s.Shaped) ∧ ((s.line k).calTx = some run) ∧ (s.fld LTX_CAL_STAT.PHASE k = 2)) ∧
  (∃ (k : Fin 8) (s : State) (run : CalRun),
     (s.Shaped) ∧ ((s.line k).calTx = some run) ∧ (s.fld LTX_CAL_STAT.PHASE k = 3) ∧ (run.periods = 0) ∧
     (s.dacReached k = true)) ∧
  (∃ (k : Fin 8) (n : Fin 64) (s : State),
     (s.lineUsed k = true) ∧ (s.fld LTX_SQ_STAT.REASON k = 0) ∧ ((s.line k).dac.due s.now n 64 = true)) ∧
  (∃ (k : Fin 8) (n : Fin 64) (data : W32) (s : State), (s.lineUsed k = true) ∧ ((s.line k).calTx = none)) :=
  ⟨⟨1, ((onLine (cmdAt 0x11 0x04 [0, 0, 3])).setReg .CLK_LOCK 0x1FF 1).put LTX_SQ_STAT.REASON 0 0, by decide +kernel⟩,
    ⟨1, onLine (cmdAt 0x11 0x05 [0]), by decide +kernel⟩,
    ⟨1, onLine (cmdAt 0x11 0x06 [0]), by decide +kernel⟩,
    ⟨0, [], (State.reset.setLine 0 { calTx := some { mask := 4, rounds := 2, waiter := {} } }).put LTX_CAL_STAT.PHASE 2 0, { mask := 4, rounds := 2, waiter := {} }, by decide +kernel⟩,
    ⟨0, (State.reset.setLine 0 { calTx := some { mask := 4, rounds := 2, waiter := {} } }).put LTX_CAL_STAT.PHASE 3 0, { mask := 4, rounds := 2, waiter := {} }, by decide +kernel⟩,
    ⟨0, 5, atTime (((lined.put LTX_SQ_STAT.REASON 0 0).setReg .LTX_DAC_TTRIM 3 0 5).setLine 0 { dac := { at_ := 7, len := 1024 } }) 87, by decide +kernel⟩,
    ⟨0, 5, 9, lined, by decide +kernel⟩⟩

theorem met_LineTransmitterResults :
  (∃ (e : Fin 256) (s : State),
     (Runs s e 0x05 0x01) ∧ ((s.params e).byte 0 ≤ 7) ∧ (s.lineUsed ((s.params e).byte 0) = true) ∧
     (s.applyHoldsLine ((s.params e).byte 0) = false) ∧ ((s.params e).byte 1 = 0) ∧
     ((s.params e).allS12 2 7 = true) ∧ ((s.params e).zeroFrom 16 = true)) ∧
  (∃ (e : Fin 256) (s : State),
     (Runs s e 0x05 0x02) ∧ ((s.params e).byte 0 ≤ 7) ∧ (s.lineUsed ((s.params e).byte 0) = true) ∧
     (s.applyHoldsLine ((s.params e).byte 0) = false) ∧ ((s.params e).byte 1 + (s.params e).byte 2 ≤ 64) ∧
     ((s.params e).byte 2 ≠ 0) ∧ ((s.params e).byte 2 ≤ 10) ∧ ((s.params e).byte 3 = 0) ∧
     ((s.params e).allS12 4 ((s.params e).byte 2) = true) ∧
     ((s.params e).zeroFrom (4 + 2 * (s.params e).byte 2) = true)) ∧
  (∃ (e : Fin 256) (s : State),
     (Runs s e 0x05 0x03) ∧ (s.Shaped) ∧ ((s.params e).byte 0 ≤ 7) ∧ (s.lineUsed ((s.params e).byte 0) = true) ∧
     (s.applyHoldsLine ((s.params e).byte 0) = false) ∧ ((s.params e).zeroFrom 1 = true)) ∧
  (∃ (k : Fin 8) (s : State), (s.Shaped) ∧ (s.lineUsed k = true)) ∧
  (∃ (k : Fin 8) (s : State) (r : Ramp),
     (s.Shaped) ∧ ((s.line k).ramp = some r) ∧ (r.from_.length = 71) ∧ (r.to_.length = 71)) ∧
  (∃ (k : Fin 8) (sub : Fin 226875) (s : State) (x : BitVec 2),
     (s.Shaped) ∧ (s.txLive k = true) ∧ (3 ≤ (s.line k).tx.hist.length)) ∧
  (∃ (k : Fin 8) (sub : Fin 226875) (src : List (BitVec 2)) (s : State), (s.Shaped) ∧ (s.txLive k = true)) ∧
  (∃ (k : Fin 8) (sub : Fin 226875) (src : List (BitVec 2)) (s : State), (s.txLive k = false)) ∧
  (∃ (k : Fin 8) (s : State),
     (s.lineUsed k = true) ∧ ((s.mode.run.lane k).dozeTx ≠ 0) ∧ (s.flag LTX_STAT.DOZE k = false) ∧
     (s.insBusy k = false)) ∧
  (∃ (k : Fin 8) (s : State), (s.flag LTX_STAT.DOZE k = true)) ∧
  (∃ (k : Fin 8) (start : BitVec 31) (symbols : List (BitVec 2)) (s : State),
     (s.Shaped) ∧ (s.lineUsed k = true) ∧ ((s.mode.run.lane k).rxCheck ≠ 0) ∧
     (s.flag LTX_STAT.CHK_LOCK k = false) ∧ (symbols.length = 128) ∧
     ((patternSymbols (s.mode.run.lane k).rxCheck 128 start.toNat).1 = symbols.map (fun g => g.toNat))) ∧
  (∃ (k : Fin 8) (symbols : List (BitVec 2)) (s : State), (s.Shaped) ∧ (s.flag LTX_STAT.CHK_LOCK k = true)) ∧
  (∃ (k : Fin 8) (s : State) (g : BitVec 2),
     (s.Shaped) ∧ (s.flag LTX_STAT.CHK_LOCK k = true) ∧
     (grayOf (patternNext (s.mode.run.lane k).rxCheck (s.line k).chk.ref).1 = g.toNat) ∧
     (((s.line k).chk.errs.filter (fun n => decide ((s.line k).chk.count < n + 1024))).length < 64)) ∧
  (∃ (k : Fin 8) (again : Bool) (block : List (BitVec 2)) (s : State) (p : Nat),
     (s.mode.run.portOfLine k = some p) ∧ ((s.mode.run.port p).loopback = 3)) :=
  ⟨⟨1, onLine (cmdAt 0x05 0x01 [0, 0, 1, 0, 0xFF, 0xFF]), by decide +kernel⟩,
    ⟨1, onLine (cmdAt 0x05 0x02 [0, 3, 2, 0, 1, 0, 0xFF, 0xFF]), by decide +kernel⟩,
    ⟨1, onLine (cmdAt 0x05 0x03 [0]), by decide +kernel⟩,
    ⟨0, lined, by decide +kernel⟩,
    ⟨0, State.reset.setLine 0 { ramp := some ⟨3, List.replicate 71 0, List.replicate 71 16⟩ }, ⟨3, List.replicate 71 0, List.replicate 71 16⟩, by decide +kernel⟩,
    ⟨0, 9, (lined.put LTX_SQ_STAT.REASON 0 0).setLine 0 { tx := { hist := [.sym 1, .sym 2, .sym 3] } }, 2, by decide +kernel⟩,
    ⟨0, 9, [2, 1], lined.put LTX_SQ_STAT.REASON 0 0, by decide +kernel⟩,
    ⟨0, 9, [2, 1], State.reset, by decide +kernel⟩,
    ⟨0, dozing, by decide +kernel⟩,
    ⟨0, State.reset.raise LTX_STAT.DOZE 0, by decide +kernel⟩,
    ⟨0, 1, (patternSymbols 1 128 1).1.map (fun g => BitVec.ofNat 2 g), checking, by decide +kernel⟩,
    ⟨0, [1, 2, 3], checking.raise LTX_STAT.CHK_LOCK 0, by decide +kernel⟩,
    ⟨0, (checking.raise LTX_STAT.CHK_LOCK 0).setLine 0 { chk := { ref := 0 } }, 0, by decide +kernel⟩,
    ⟨0, false, [], looped, 0, by decide +kernel⟩⟩

theorem met_RackCommandResults :
  (∃ (e : Fin 256) (s : State),
     (Runs s e 0x06 0x01) ∧ ((s.params e).byte 0 ≤ 7) ∧ (s.lineUsed ((s.params e).byte 0) = true) ∧
     (s.applyHoldsLine ((s.params e).byte 0) = false) ∧ ((s.params e).zeroFrom 2 = true)) ∧
  (∃ (e : Fin 256) (s : State),
     (Runs s e 0x06 0x02) ∧ ((s.params e).byte 0 ≤ 7) ∧ (s.lineUsed ((s.params e).byte 0) = true) ∧
     (s.applyHoldsLine ((s.params e).byte 0) = false) ∧ ((s.params e).zeroFrom 2 = true)) ∧
  (∃ (e : Fin 256) (s : State),
     (Runs s e 0x06 0x03) ∧ ((s.params e).byte 0 ≤ 63) ∧ ((s.params e).zeroFrom 1 = true) ∧
     (s.lineUsed ((s.params e).byte 0 / 8) = true) ∧ (s.applyHoldsLine ((s.params e).byte 0 / 8) = false)) ∧
  (∃ (e : Fin 256) (s : State),
     (Runs s e 0x06 0x04) ∧ (isSetId ((s.params e).byte 0) = true) ∧ ((s.params e).byte 1 = 0) ∧
     ((s.params e).byte 2 = 0) ∧ ((s.params e).byte 3 = 0) ∧ ((s.params e).zeroFrom 8 = true) ∧
     ((s.params e).wordAt 4 ≤ 524288) ∧ (s.stage = none)) ∧
  (∃ (e : Fin 256) (s : State) (g : Stage) (img : List Nat) (key : Key),
     (Runs s e 0x06 0x05) ∧ (isSetId ((s.params e).byte 0) = true) ∧ ((s.params e).zeroFrom 1 = true) ∧
     (s.stage = some g) ∧ (g.use = .pset ((s.params e).byte 0)) ∧
     (((s.begun e).closeStage.readBytes g.addr g.len).1 = some img) ∧ (imageOk img ((s.params e).byte 0) = true) ∧
     (s.storeUsed ((s.params e).byte 0) + img.length ≤ 1048576) ∧ (s.keyOf (fieldOf img 10 1) = some key)) ∧
  (∃ (e : Fin 256) (s : State),
     (Runs s e 0x06 0x06) ∧ (isSetId ((s.params e).byte 0) = true) ∧ ((s.params e).zeroFrom 1 = true) ∧
     (s.mode.active.namesSet ((s.params e).byte 0) = false) ∧ (s.mode.txn = none)) ∧
  (∃ (e : Fin 256) (s : State), (Runs s e 0x06 0x07) ∧ ((s.params e).zeroFrom 0 = true)) :=
  ⟨⟨1, onLine (cmdAt 0x06 0x01 [0, 1]), by decide +kernel⟩,
    ⟨1, onLine (cmdAt 0x06 0x02 [0, 1]), by decide +kernel⟩,
    ⟨1, onLine (cmdAt 0x06 0x03 [0]), by decide +kernel⟩,
    ⟨1, cmdAt 0x06 0x04 [0x80, 0, 0, 0, 240], by decide +kernel⟩,
    ⟨1, psetAt, ⟨.pset 0x80, 0x1000000, 240⟩, psetImage, psetKey, (by decide +kernel), (by decide +kernel), (by decide +kernel), (by decide +kernel), (by decide +kernel), pset_bytes, (by decide +kernel), (by decide +kernel), (by decide +kernel)⟩,
    ⟨1, cmdAt 0x06 0x06 [0x80], by decide +kernel⟩,
    ⟨1, cmdAt 0x06 0x07 [], by decide +kernel⟩⟩

theorem met_CounterCommandResults :
  (∃ (src : Master) (die : Fin 3) (island : BitVec 8) (data : W32) (s : State),
     (Writes s src ((Block.bank (islandId die island.toNat)).base + 4)) ∧
     (isIsland (islandId die island.toNat) = true)) ∧
  (∃ (src : Master) (data : W32) (s : State),
     (Writes s src 0x40B0000) ∧ (s.flag CNT_RD_STAT.BUSY = false) ∧ (getBits data 16 1 = 1) ∧
     (1 ≤ getBits data 8 7) ∧ (getBits data 8 7 ≤ 64)) ∧
  (∃ (src : Master) (data : W32) (s : State),
     (Writes s src 0x40B0000) ∧
     ((s.flag CNT_RD_STAT.BUSY = true ∨ getBits data 16 1 = 0 ∨ getBits data 8 7 = 0 ∨ 64 < getBits data 8 7))) ∧
  (∃ (elapsed : Nat) (s : State),
     (s.pwr.held = false) ∧ (s.flag CNT_RD_STAT.BUSY = true) ∧
     (((s.reg .CNT_LIST 0 (64 * s.reader.list + s.reader.index)).toNat % 8 ≠ 0 ∨
       namesQueue ((s.reg .CNT_LIST 0 (64 * s.reader.list + s.reader.index)).toNat) = true))) ∧
  (∃ (elapsed : Nat) (s : State) (b : Block) (off : Nat) (k : RKey) (sh : Bool),
     (s.pwr.held = false) ∧ (s.flag CNT_RD_STAT.BUSY = true) ∧
     ((s.reg .CNT_LIST 0 (64 * s.reader.list + s.reader.index)).toNat % 8 = 0) ∧
     ((s.waitingOf .cobbler).length < 16) ∧
     (s.mustWait .cobbler ((s.reg .CNT_LIST 0 (64 * s.reader.list + s.reader.index)).toNat) = false) ∧
     (s.hasCredit .cobbler ((s.reg .CNT_LIST 0 (64 * s.reader.list + s.reader.index)).toNat) true = true) ∧
     (blockAt ((s.reg .CNT_LIST 0 (64 * s.reader.list + s.reader.index)).toNat) = some (b, off)) ∧
     (memKind b off = none) ∧ (busReg b off = some (k, 0, sh)) ∧ (k.reg.words ≠ 1) ∧ (isQueue k.reg = false) ∧
     (k.reg ≠ .EVR_WIN) ∧ (k.reg ≠ .CNT_VAL) ∧ ((s.island b.island = .on ∨ s.island b.island = .doze))) ∧
  (∃ (elapsed : Nat) (s : State) (b : Block) (off : Nat),
     (s.pwr.held = false) ∧ (s.flag CNT_RD_STAT.BUSY = true) ∧
     ((s.reg .CNT_LIST 0 (64 * s.reader.list + s.reader.index)).toNat % 8 = 0) ∧
     (namesQueue ((s.reg .CNT_LIST 0 (64 * s.reader.list + s.reader.index)).toNat) = false) ∧
     ((s.waitingOf .cobbler).length < 16) ∧
     (s.mustWait .cobbler ((s.reg .CNT_LIST 0 (64 * s.reader.list + s.reader.index)).toNat) = false) ∧
     (s.hasCredit .cobbler ((s.reg .CNT_LIST 0 (64 * s.reader.list + s.reader.index)).toNat) true = true) ∧
     (blockAt ((s.reg .CNT_LIST 0 (64 * s.reader.list + s.reader.index)).toNat) = some (b, off)) ∧
     (memKind b off = none) ∧ (s.island b.island ≠ .on) ∧ (s.island b.island ≠ .doze)) ∧
  (∃ (elapsed : Nat) (s : State),
     (s.pwr.held = false) ∧ (s.flag CNT_RD_STAT.BUSY = true) ∧
     ((s.reg .CNT_LIST 0 (64 * s.reader.list + s.reader.index)).toNat % 8 = 0) ∧
     (namesQueue ((s.reg .CNT_LIST 0 (64 * s.reader.list + s.reader.index)).toNat) = false) ∧
     ((s.waitingOf .cobbler).length < 16) ∧
     (s.mustWait .cobbler ((s.reg .CNT_LIST 0 (64 * s.reader.list + s.reader.index)).toNat) = false) ∧
     (s.hasCredit .cobbler ((s.reg .CNT_LIST 0 (64 * s.reader.list + s.reader.index)).toNat) true = true) ∧
     (blockAt ((s.reg .CNT_LIST 0 (64 * s.reader.list + s.reader.index)).toNat) = none)) ∧
  (∃ (elapsed : Nat) (s : State),
     (s.pwr.held = false) ∧ (s.flag CNT_RD_STAT.BUSY = true) ∧
     ((s.reg .CNT_LIST 0 (64 * s.reader.list + s.reader.index)).toNat % 8 = 0) ∧
     (namesQueue ((s.reg .CNT_LIST 0 (64 * s.reader.list + s.reader.index)).toNat) = false) ∧
     ((s.waitingOf .cobbler).length < 16) ∧
     ((s.mustWait .cobbler ((s.reg .CNT_LIST 0 (64 * s.reader.list + s.reader.index)).toNat) = true ∨
       s.hasCredit .cobbler ((s.reg .CNT_LIST 0 (64 * s.reader.list + s.reader.index)).toNat) true = false)) ∧
     (40000 ≤ elapsed)) ∧
  (∃ (e : Fin 256) (s : State),
     (Runs s e 0x13 0x01) ∧ ((s.params e).byte 0 ≤ 3) ∧ ((s.params e).byte 1 ≤ 63) ∧ (1 ≤ (s.params e).byte 2) ∧
     ((s.params e).byte 2 ≤ 5) ∧ ((s.params e).byte 1 + (s.params e).byte 2 ≤ 64) ∧ ((s.params e).byte 3 = 0) ∧
     ((s.params e).zeroFrom (4 + 4 * (s.params e).byte 2) = true)) ∧
  (∃ (e : Fin 256) (s : State),
     (Runs s e 0x13 0x01) ∧
     ((3 < (s.params e).byte 0 ∨ 63 < (s.params e).byte 1 ∨ (s.params e).byte 2 = 0 ∨ 5 < (s.params e).byte 2 ∨
       64 < (s.params e).byte 1 + (s.params e).byte 2))) ∧
  (∃ (e : Fin 256) (s : State),
     (Runs s e 0x13 0x02) ∧ ((s.params e).byte 0 ≤ 3) ∧ (1 ≤ (s.params e).byte 1) ∧ ((s.params e).byte 1 ≤ 64) ∧
     ((s.params e).zeroFrom 2 = true)) ∧
  (∃ (e : Fin 256) (s : State),
     (Runs s e 0x13 0x02) ∧ ((3 < (s.params e).byte 0 ∨ (s.params e).byte 1 = 0 ∨ 64 < (s.params e).byte 1))) ∧
  (∃ (e : Fin 256) (s : State),
     (Runs s e 0x13 0x03) ∧ ((s.params e).byte 0 ≤ 2) ∧
     (isIsland (islandId ((s.params e).byte 0) ((s.params e).byte 1)) = true) ∧ ((s.params e).byte 2 ≤ 7) ∧
     ((s.params e).byte 3 ≤ 3) ∧ ((s.params e).zeroFrom 16 = true) ∧
     ((s.island (islandId ((s.params e).byte 0) ((s.params e).byte 1)) = .on ∨
       s.island (islandId ((s.params e).byte 0) ((s.params e).byte 1)) = .doze))) ∧
  (∃ (e : Fin 256) (s : State), (Runs s e 0x13 0x03) ∧ ((2 < (s.params e).byte 0 ∨ 7 < (s.params e).byte 2))) :=
  ⟨⟨.cobbler, 0, 2, 3, State.reset.setCnt .CNT_VAL 9 2 1, by decide +kernel⟩,
    ⟨.cobbler, 0x10201, State.reset, by decide +kernel⟩,
    ⟨.cobbler, 0x10201, State.reset.setReg .CNT_RD_STAT 1, by decide +kernel⟩,
    ⟨10, { (State.reset.setReg .CNT_RD_STAT 1).setReg .CNT_LIST 4 with reader := { count := 1 } }, by decide +kernel⟩,
    ⟨10, { ((State.reset.setReg .CNT_RD_STAT 1).setReg .CNT_LIST 0x4000040).setWide .PWR_LIFE 0x100000002 with reader := { count := 2 } }, .pwr, 0x40, ⟨.PWR_LIFE, 0, 0⟩, false, by decide +kernel⟩,
    ⟨10, { welted ((State.reset.setReg .CNT_RD_STAT 1).setReg .CNT_LIST 0x10800000) with reader := { count := 2 } }, .line 0, 0, by decide +kernel⟩,
    ⟨10, { (State.reset.setReg .CNT_RD_STAT 1).setReg .CNT_LIST 0x30000000 with reader := { count := 2 } }, by decide +kernel⟩,
    ⟨40000, { ((State.reset.put WELT_STAT.STATE 0 1 0).setReg .CNT_RD_STAT 1).setReg .CNT_LIST 0x10800000 with reader := { count := 2 } }, by decide +kernel⟩,
    ⟨1, cmdAt 0x13 0x01 [1, 2, 2, 0, 8, 0, 0, 4, 16, 0, 0, 4], by decide +kernel⟩,
    ⟨1, cmdAt 0x13 0x01 [4, 2, 2, 0], by decide +kernel⟩,
    ⟨1, cmdAt 0x13 0x02 [1, 2], by decide +kernel⟩,
    ⟨1, cmdAt 0x13 0x02 [1, 65], by decide +kernel⟩,
    ⟨1, cmdAt 0x13 0x03 [0, 2, 1, 3, 6, 0, 0, 0, 0, 0, 0, 4, 0, 0, 0, 5], by decide +kernel⟩,
    ⟨1, cmdAt 0x13 0x03 [3], by decide +kernel⟩⟩

theorem met_TransactionResults :
  (∃ (e : Fin 256) (s : State),
     (Runs s e 0x15 0x01) ∧ ((s.params e).zeroFrom 0 = true) ∧ (s.applying = false) ∧ (s.mode.txn = none)) ∧
  (∃ (e : Fin 256) (s : State) (x : Txn) (n : Nat) (d : PortDesc),
     (Runs s e 0x15 0x02) ∧ (s.applying = false) ∧ (s.mode.expired.contains ((s.params e).half 0) = false) ∧
     (s.mode.txn = some x) ∧ (x.id = (s.params e).half 0) ∧ ((s.params e).portDesc = some (n, d))) ∧
  (∃ (e : Fin 256) (s : State) (x : Txn) (side : Bool) (n : Nat) (d : LaneDesc),
     (Runs s e 0x15 0x03) ∧ (s.applying = false) ∧ (s.mode.expired.contains ((s.params e).half 0) = false) ∧
     (s.mode.txn = some x) ∧ (x.id = (s.params e).half 0) ∧ ((s.params e).laneDesc = some (side, n, d))) ∧
  (∃ (e : Fin 256) (s : State) (x : Txn),
     (Runs s e 0x15 0x04) ∧ (s.applying = false) ∧ (s.mode.expired.contains ((s.params e).half 0) = false) ∧
     (s.mode.txn = some x) ∧ (x.id = (s.params e).half 0) ∧ ((s.params e).byte 2 ≤ 1) ∧
     ((s.params e).byte 3 ≤ 1) ∧ ((s.params e).zeroFrom 4 = true)) ∧
  (∃ (e : Fin 256) (s : State) (x : Txn),
     (Runs s e 0x15 0x05) ∧ (s.applying = false) ∧ (s.mode.expired.contains ((s.params e).half 0) = false) ∧
     (s.mode.txn = some x) ∧ (x.id = (s.params e).half 0) ∧ ((s.params e).byte 2 ≤ 7) ∧
     ((s.params e).byte 3 ≤ 1) ∧ ((s.params e).zeroFrom 4 = true)) ∧
  (∃ (e : Fin 256) (s : State) (x : Txn),
     (Runs s e 0x15 0x06) ∧ (s.applying = false) ∧ (s.mode.expired.contains ((s.params e).half 0) = false) ∧
     (s.mode.txn = some x) ∧ (x.id = (s.params e).half 0) ∧ ((s.params e).zeroFrom 2 = true) ∧
     (s.modeReady = true)) ∧
  (∃ (e : Fin 256) (s : State) (x : Txn),
     (Runs s e 0x15 0x08) ∧ (s.applying = false) ∧ (s.mode.expired.contains ((s.params e).half 0) = false) ∧
     (s.mode.txn = some x) ∧ (x.id = (s.params e).half 0) ∧ ((s.params e).zeroFrom 2 = true)) ∧
  (∃ (e : Fin 256) (s : State) (d : Nat),
     (Runs s e 0x15 0x09) ∧ ((s.params e).byte 2 = 0) ∧ ((s.params e).half 0 = 0) ∧ ((s.params e).byte 5 ≤ 2) ∧
     ((s.params e).zeroFrom 6 = true) ∧
     (s.mode.active.descBits 0 ((s.params e).byte 3) ((s.params e).byte 4) = some d)) ∧
  (∃ (e : Fin 256) (s : State),
     (Runs s e 0x15 0x0A) ∧ ((s.params e).byte 0 ≤ 7) ∧ ((s.params e).zeroFrom 1 = true)) ∧
  (∃ (s : State) (x : Txn), (s.mode.txn = some x) ∧ (x.st ≠ .applying) ∧ (10000000 ≤ s.now - x.touched)) :=
  ⟨⟨1, cmdAt 0x15 0x01 [], by decide +kernel⟩,
    ⟨1, { cmdAt 0x15 0x02 [5, 0, 2] with mode := { txn := some { id := 5 } } }, { id := 5 }, 2, {}, by decide +kernel⟩,
    ⟨1, { cmdAt 0x15 0x03 [5, 0, 0x81] with mode := { txn := some { id := 5 } } }, { id := 5 }, true, 1, {}, by decide +kernel⟩,
    ⟨1, { cmdAt 0x15 0x04 [5, 0, 1, 1] with mode := { txn := some { id := 5 } } }, { id := 5 }, by decide +kernel⟩,
    ⟨1, { cmdAt 0x15 0x05 [5, 0, 1, 1] with mode := { txn := some { id := 5 } } }, { id := 5 }, by decide +kernel⟩,
    ⟨1, { (cmdAt 0x15 0x06 [5]).put PWR_STATE.STATE 3 with mode := { txn := some { id := 5 } } }, { id := 5 }, by decide +kernel⟩,
    ⟨1, { cmdAt 0x15 0x08 [5] with mode := { txn := some { id := 5 } } }, { id := 5 }, by decide +kernel⟩,
    ⟨1, cmdAt 0x15 0x09 [0, 0, 0, 1, 2, 0], 0x20000, by decide +kernel⟩,
    ⟨1, cmdAt 0x15 0x0A [3], by decide +kernel⟩,
    ⟨{ State.reset with mode := { txn := some { id := 5 } }, now := 10000000 }, { id := 5 }, by decide +kernel⟩⟩

theorem met_ApplyResults :
  (∃ (e : Fin 256) (s : State) (x : Txn),
     (Runs s e 0x15 0x07) ∧ (s.applying = false) ∧ (s.mode.expired.contains ((s.params e).half 0) = false) ∧
     (s.mode.txn = some x) ∧ (x.id = (s.params e).half 0) ∧ ((s.params e).zeroFrom 2 = true) ∧
     (s.modeReady = true) ∧ (x.st = .validated) ∧
     ((State.validate { s with mode := { s.mode with txn := some { x with touched := s.now } } } x.staged).status
        = 0)) ∧
  (∃ (s : State) (x : Txn), (s.mode.txn = some x) ∧ (x.st = .applying) ∧ (s.applyReady x = true)) :=
  ⟨⟨1, { (cmdAt 0x15 0x07 [5]).put PWR_STATE.STATE 3 with mode := { txn := some { id := 5, st := .validated } } }, { id := 5, st := .validated }, by decide +kernel⟩,
    ⟨{ (State.reset.put PWR_STATE.STATE 3) with mode := { txn := some { id := 5, st := .applying } } }, { id := 5, st := .applying }, by decide +kernel⟩⟩

theorem met_FecDatapathResults :
  (∃ (k : Fin 8) (blocks : List (List (BitVec 2))) (s : State) (p : Nat),
     (s.mode.run.portOfLine k = some p) ∧ ((s.mode.run.port p).inner = true) ∧
     (s.flag LRX_STAT.CDR_LOCK k = true) ∧ (blocks.length = 3) ∧ (blocks.all syncMatches = true)) ∧
  (∃ (k : Fin 8) (blocks : List (List (BitVec 2))) (s : State) (p : Nat),
     (s.mode.run.portOfLine k = some p) ∧ (bitOf (s.fld FEC_PORT_STAT.INNER_LOCK p) (k - p) = true) ∧
     (blocks.length = 4) ∧ (blocks.all (fun b => !(syncMatches b)) = true)) ∧
  (∃ (k : Fin 8) (word : BitVec 128) (rel : List (BitVec 3)) (lesser : Bool) (s : State) (p : Nat),
     (s.Shaped) ∧ (s.mode.run.portOfLine k = some p) ∧ (bitOf (s.fld FEC_PORT_STAT.INNER_LOCK p) (k - p) = true)) ∧
  (∃ (n : Fin 16) (lanes : List (Fin 32)) (s : State) (p : Nat),
     (s.mode.run.portOfLine n = some p) ∧ (s.flag LRX_STAT.CDR_LOCK n = true) ∧
     ((s.mode.run.lane n).txPattern = 0) ∧ ((s.mode.run.lane n).rxCheck = 0) ∧
     (((s.mode.run.port p).inner = false ∨ bitOf (s.fld FEC_PORT_STAT.INNER_LOCK p) (n - p) = true)) ∧
     (pcsOk (s.mode.run.port p).size (sizeLanes (s.mode.run.port p).size) lanes = true)) ∧
  (∃ (n : Fin 16) (lanes : List (Fin 32)) (s : State) (p : Nat),
     (s.Shaped) ∧ (s.mode.run.portOfHost n = some p) ∧ (s.flag HL_STAT.CDR_LOCK n = true) ∧
     ((s.mode.run.hlane n).rxCheck = 0) ∧
     (pcsOk (s.mode.run.port p).size (2 * sizeLanes (s.mode.run.port p).size) lanes = true)) ∧
  (∃ (n : Fin 16) (s : State) (p : Nat),
     (s.mode.run.portOfLine n = some p) ∧ (bitOf (s.fld FEC_PORT_STAT.AM_LOCK_L p) (n - p) = true)) ∧
  (∃ (p : Fin 8) (errors : List (Fin 32)) (blocks : List (BitVec 66)) (s : State),
     (s.Shaped) ∧ ((s.mode.run.port p).size ≠ 0) ∧ (s.innerHeld p false = true) ∧
     ((s.deskewed p false = true ∧ s.dirLocked p false = true ∨ (s.fecOf p).wasAligned = true)) ∧
     (errors.all (fun x => decide (x.val < pcsCount (s.mode.run.port p).size)) = true)) ∧
  (∃ (p : Fin 8) (errors : List (Fin 32)) (blocks : List (BitVec 66)) (s : State),
     (s.Shaped) ∧ ((s.mode.run.port p).size ≠ 0) ∧ (s.innerHeld p true = true) ∧
     ((s.deskewed p true = true ∧ s.dirLocked p true = true ∨ (s.fecOf p).wasAligned = true)) ∧
     (errors.all (fun x => decide (x.val < pcsCount (s.mode.run.port p).size)) = true)) ∧
  (∃ (p : Fin 8) (toHost : Bool) (s : State),
     (s.Shaped) ∧ ((s.mode.run.port p).size ≠ 0) ∧ (s.terminates p = true) ∧ (s.flag FEC_INJ_CTL.EN p = true) ∧
     (s.flag FEC_INJ_CTL.DIR p = toHost) ∧ (s.flag FEC_INJ_CTL.ONCE p = true)) ∧
  (∃ (p : Fin 8) (toHost : Bool) (s : State),
     (s.Shaped) ∧ ((s.mode.run.port p).size ≠ 0) ∧ (s.terminates p = true) ∧ (s.flag FEC_INJ_CTL.EN p = false)) ∧
  (∃ (p : Fin 8) (s : State), (s.Shaped) ∧ ((s.mode.run.port p).size ≠ 0) ∧ ((s.fecOf p).aligned = false)) ∧
  (∃ (p : Fin 8) (fromHost insert : Bool) (place : Nat) (s : State),
     (s.Shaped) ∧ (s.terminates p = true) ∧
     ((if insert then betweenFrames (s.fecDir p fromHost).queue place else (s.fecDir p fromHost).queue[place]? ==
        some Config.idleBlock) = true)) ∧
  (∃ (p : Fin 8) (fromHost : Bool) (s : State),
     (s.Shaped) ∧ (s.counting p = true) ∧ (s.terminates p = true) ∧ (s.dirDozes p fromHost = false)) ∧
  (∃ (k : Fin 8) (s : State) (p : Nat),
     (s.mode.run.portOfLine k = some p) ∧ (s.terminates p = false) ∧ (s.counting p = true)) ∧
  (∃ (p : Fin 8) (fromHost fcsOk : Bool) (s : State),
     ((s.mode.run.port p).frameView = true) ∧ (s.counting p = true) ∧ (s.dirDozes p fromHost = false)) :=
  ⟨⟨0, List.replicate 3 ((bitSymbols innerSync).map (BitVec.ofNat 2)), (ported { size := 1, fecTerm := true, frameView := true, inner := true } 4).raise LRX_STAT.CDR_LOCK 0, 0, by decide +kernel⟩,
    ⟨0, List.replicate 4 [], (ported { size := 1, fecTerm := true, frameView := true, inner := true } 4).put FEC_PORT_STAT.INNER_LOCK 1 0, 0, by decide +kernel⟩,
    ⟨0, 5, [3], true, (ported { size := 1, fecTerm := true, frameView := true, inner := true } 4).put FEC_PORT_STAT.INNER_LOCK 1 0, 0, by decide +kernel⟩,
    ⟨0, (List.finRange 16).map (fun i => Fin.mk i.val (by omega)), ((ported { size := 1, fecTerm := true, frameView := true, inner := true } 4).put FEC_PORT_STAT.INNER_LOCK 1 0).raise LRX_STAT.CDR_LOCK 0, 0, by decide +kernel⟩,
    ⟨1, (List.finRange 8).map (fun i => Fin.mk i.val (by omega)), (ported { size := 1, fecTerm := true, frameView := true, inner := true } 4).raise HL_STAT.CDR_LOCK 1, 0, by decide +kernel⟩,
    ⟨0, (ported { size := 1, fecTerm := true, frameView := true, inner := true } 4).put FEC_PORT_STAT.AM_LOCK_L 1 0, 0, by decide +kernel⟩,
    ⟨0, [0, 0], [7], (((ported { size := 1, fecTerm := true, frameView := true, inner := true } 4).put FEC_PORT_STAT.INNER_LOCK 1 0).raise FEC_PORT_STAT.DESKEWED_LH 0).put FEC_PORT_STAT.AM_LOCK_L 1 0, by decide +kernel⟩,
    ⟨0, [0, 0], [7], (((ported { size := 1, fecTerm := true, frameView := true, inner := true } 4).put FEC_PORT_STAT.INNER_LOCK 1 0).raise FEC_PORT_STAT.DESKEWED_HL 0).put FEC_PORT_STAT.AM_LOCK_H 3 0, by decide +kernel⟩,
    ⟨0, false, (ported { size := 1, fecTerm := true, frameView := true, inner := true } 4).setReg .FEC_INJ_CTL 0x3000003 0, by decide +kernel⟩,
    ⟨0, false, ported { size := 1, fecTerm := true, frameView := true, inner := true } 4, by decide +kernel⟩,
    ⟨0, ported { size := 1 } 3, by decide +kernel⟩,
    ⟨0, false, true, 0, ported { size := 1, fecTerm := true, frameView := true, inner := true } 4, by decide +kernel⟩,
    ⟨0, false, ported { size := 1, fecTerm := true, frameView := true, inner := true } 4, by decide +kernel⟩,
    ⟨0, ported { size := 1 } 4, 0, by decide +kernel⟩,
    ⟨0, false, false, ported { size := 1, fecTerm := true, frameView := true, inner := true } 4, by decide +kernel⟩⟩

theorem met_FecStatisticsResults :
  (∃ (p : Fin 8) (fromHost : Bool) (arrivals : List Nat) (fill : BitVec 8) (s : State),
     (s.Shaped) ∧ (((s.port p).st = portAcquiring ∨ s.counting p = true)) ∧ (s.dirLocked p fromHost = true) ∧
     (arrivals.length = pcsCount (s.mode.run.port p).size)) ∧
  (∃ (p : Fin 8) (len : Nat) (s : State),
     (s.Shaped) ∧ (s.txHeld p true = true) ∧
     ((s.fecDir p true).waiting + 8 * len ≤ wakeHold (s.mode.run.port p).size) ∧
     ((s.fecDir p true).waiting < wakeHold (s.mode.run.port p).size)) ∧
  (∃ (p : Fin 8) (fromHost : Bool) (len : Nat) (s : State),
     (s.Shaped) ∧ (s.txHeld p fromHost = true) ∧
     ((fromHost = true →
       wakeHold (s.mode.run.port p).size < (s.fecDir p fromHost).waiting + 8 * len ∨
       wakeHold (s.mode.run.port p).size ≤ (s.fecDir p fromHost).waiting))) ∧
  (∃ (p : Fin 8) (s : State), (s.Canonical) ∧ ((s.mode.run.port p).size ≠ 0)) ∧
  (∃ (p : Fin 8) (s : State), ((s.mode.run.port p).size ≠ 0)) ∧
  (∃ (p : Fin 8) (data : W32) (s : State),
     (s.Shaped) ∧ ((s.mode.run.port p).size ≠ 0) ∧ ((s.mode.run.port p).fecTerm = true)) ∧
  (∃ (p : Fin 8) (data : W32) (s : State), ((s.mode.run.port p).size ≠ 0) ∧ ((s.mode.run.port p).fecTerm = false)) ∧
  (∃ (e : Fin 256) (s : State),
     (Runs s e 0x07 0x01) ∧ ((s.params e).byte 0 ≤ 7) ∧ ((s.params e).byte 1 ≤ 1) ∧
     ((s.params e).zeroFrom 2 = true) ∧ ((s.mode.active.port ((s.params e).byte 0)).size ≠ 0) ∧
     (s.applyHolds ((s.params e).byte 0) = false) ∧ (s.Canonical)) ∧
  (∃ (e : Fin 256) (s : State),
     (Runs s e 0x07 0x02) ∧ ((s.params e).byte 0 ≤ 1) ∧ ((s.params e).zeroFrom 1 = true)) ∧
  (∃ (e : Fin 256) (s : State),
     (Runs s e 0x07 0x03) ∧ ((s.params e).byte 0 ≤ 7) ∧ ((s.params e).zeroFrom 1 = true) ∧
     ((s.mode.active.port ((s.params e).byte 0)).size ≠ 0) ∧ (s.applyHolds ((s.params e).byte 0) = false)) :=
  ⟨⟨0, false, List.replicate 15 5 ++ [9], 40, ((ported { size := 1, fecTerm := true, frameView := true, inner := true } 4).put FEC_PORT_STAT.AM_LOCK_L 1 0).put FEC_SKEW.BUDGET 64 0, by decide +kernel⟩,
    ⟨0, 64, (ported { size := 1, fecTerm := true, frameView := true, inner := true } 4).raise LTX_STAT.DOZE 0, by decide +kernel⟩,
    ⟨0, true, 6000, (ported { size := 1, fecTerm := true, frameView := true, inner := true } 4).raise LTX_STAT.DOZE 0, by decide +kernel⟩,
    ⟨0, ported { size := 1, fecTerm := true, frameView := true, inner := true } 4, by decide +kernel⟩,
    ⟨0, ported { size := 1, fecTerm := true, frameView := true, inner := true } 4, by decide +kernel⟩,
    ⟨0, 5, ported { size := 1, fecTerm := true, frameView := true, inner := true } 4, by decide +kernel⟩,
    ⟨0, 5, ported { size := 1 } 4, by decide +kernel⟩,
    ⟨1, onLine (cmdAt 0x07 0x01 [0, 1]), by decide +kernel⟩,
    ⟨1, cmdAt 0x07 0x02 [1], by decide +kernel⟩,
    ⟨1, onLine (cmdAt 0x07 0x03 [0]), by decide +kernel⟩⟩

theorem met_HostLaneResults :
  (∃ (j : Fin 16) (data : W32) (s : State), (s.hostUsed j = true)) ∧
  (∃ (j : Fin 16) (data : W32) (s : State), (s.hostUsed j = true)) ∧
  (∃ (j : Fin 16) (fofs : BitVec 16) (phase : BitVec 8) (s : State),
     (s.hostRuns j = true) ∧ ((signed 16 fofs.toNat).natAbs ≤ 12800)) ∧
  (∃ (j : Fin 16) (fofs : BitVec 16) (phase : BitVec 8) (s : State),
     (s.hostRuns j = true) ∧ (s.flag HL_STAT.CDR_LOCK j = true)) ∧
  (∃ (j : Fin 16) (ctle : BitVec 5) (h1 : BitVec 10) (taps : List (BitVec 12)) (s : State),
     (s.hostRuns j = true) ∧ (s.flag HL_STAT.CDR_LOCK j = true) ∧ (taps.length = 8)) ∧
  (∃ (j : Fin 16) (step : Fin 3) (h1 : BitVec 10) (taps : List (BitVec 12)) (s : State),
     (s.Shaped) ∧ (s.hostRuns j = true) ∧ (s.flag HL_STAT.CDR_LOCK j = true) ∧
     (s.flag HL_RX_EQ_CTL.FREEZE j = false) ∧ (taps.length = 8)) ∧
  (∃ (j : Fin 16) (s : State), (s.hostUsed j = true) ∧ (s.flag HL_STAT.SIG_PRESENT j = false)) ∧
  (∃ (j : Fin 16) (s : State), (s.hostUsed j = true) ∧ (s.flag HL_STAT.SIG_PRESENT j = true)) ∧
  (∃ (j : Fin 16) (s : State), (s.hostUsed j = true) ∧ (s.flag HL_SIGDET_CTL.WAKE_EN j = true)) ∧
  (∃ (j : Fin 16) (s : State),
     (s.dozeOk j = true) ∧ ((s.mode.run.hlane j).dozeRx ≠ 0) ∧ (s.flag HL_STAT.RX_DOZE j = false) ∧
     (s.seqOn 7 j = false)) ∧
  (∃ (j : Fin 16) (s : State),
     (s.dozeOk j = true) ∧ ((s.mode.run.hlane j).dozeTx ≠ 0) ∧ (s.flag HL_STAT.TX_DOZE j = false)) ∧
  (∃ (j : Fin 16) (s : State), (s.flag HL_STAT.TX_DOZE j = true) ∧ (s.seqOn 8 j = false)) ∧
  (∃ (j : Fin 16) (s : State) (p : Nat),
     (s.seqOn 7 j = true) ∧ (s.flag HL_STAT.RX_DOZE j = false) ∧ (s.mode.run.portOfHost j = some p)) :=
  ⟨⟨0, 0x21E1005, hosted, by decide +kernel⟩,
    ⟨0, 0x1F00, hosted, by decide +kernel⟩,
    ⟨0, 5, 6, hosted, by decide +kernel⟩,
    ⟨0, 5, 6, hosted.raise HL_STAT.CDR_LOCK 0, by decide +kernel⟩,
    ⟨0, 30, 5, [1, 2, 3, 4, 5, 6, 7, 8], hosted.raise HL_STAT.CDR_LOCK 0, by decide +kernel⟩,
    ⟨0, 1, 5, [1, 2, 3, 4, 5, 6, 7, 8], atTime ((hosted.raise HL_STAT.CDR_LOCK 0).raise HL_RX_EQ_CTL.ADAPT 0) 1000, by decide +kernel⟩,
    ⟨0, hosted, by decide +kernel⟩,
    ⟨0, hosted.raise HL_STAT.SIG_PRESENT 0, by decide +kernel⟩,
    ⟨0, hosted.raise HL_SIGDET_CTL.WAKE_EN 0, by decide +kernel⟩,
    ⟨0, hostDozing, by decide +kernel⟩,
    ⟨0, hostDozing, by decide +kernel⟩,
    ⟨0, hosted.raise HL_STAT.TX_DOZE 0, by decide +kernel⟩,
    ⟨0, hosted.startSeq 7 0, 0, by decide +kernel⟩⟩

theorem met_HostLaneTestResults :
  (∃ (j : Fin 16) (start : BitVec 31) (symbols : List (BitVec 2)) (s : State),
     (s.Shaped) ∧ (s.hostUsed j = true) ∧ ((s.mode.run.hlane j).rxCheck ≠ 0) ∧
     (s.flag HL_STAT.CHK_LOCK j = false) ∧ (symbols.length = 129) ∧
     ((s.hostPairs j (s.mode.run.hlane j).rxCheck 128 (if (s.mode.run.hlane j).rxCheck = 4 then start.toNat % 128
        else start.toNat)).1 = (s.rxPairs j symbols).take 128)) ∧
  (∃ (j : Fin 16) (symbols : List (BitVec 2)) (s : State), (s.Shaped) ∧ (s.flag HL_STAT.CHK_LOCK j = true)) ∧
  (∃ (j : Fin 16) (symbols : List (BitVec 2)) (s : State),
     (s.hostUsed j = true) ∧ ((s.mode.run.hlane j).rxCheck = 4) ∧ (s.flag HL_STAT.CHK_LOCK j = false)) ∧
  (∃ (j : Fin 16) (data : W32) (s : State), (s.hostUsed j = true) ∧ ((s.hostPort j).st = portTest)) ∧
  (∃ (j : Fin 16) (data : W32) (s : State), (s.hostUsed j = true) ∧ ((s.hostPort j).st ≠ portTest)) ∧
  (∃ (j : Fin 16) (s : State), (s.Shaped) ∧ ((s.fld HL_SLIP.RX_N j ≠ 0 ∨ s.fld HL_SLIP.TX_N j ≠ 0))) ∧
  (∃ (j : Fin 16) (s : State),
     (s.hostUsed j = true) ∧ (s.flag HL_CAP_STAT.BUSY j = false) ∧ (s.flag HL_STAT.CDR_LOCK j = true)) ∧
  (∃ (j : Fin 16) (words : List W32) (s : State), (s.flag HL_CAP_STAT.BUSY j = true) ∧ (words.length = 64)) ∧
  (∃ (j : Fin 16) (again : Bool) (block : List (BitVec 2)) (s : State) (p : Nat),
     (s.mode.run.portOfHost j = some p) ∧ ((s.mode.run.port p).loopback = 1)) ∧
  (∃ (e : Fin 256) (s : State),
     (Runs s e 0x08 0x01) ∧ ((s.params e).byte 0 ≤ 15) ∧ (s.hostUsed ((s.params e).byte 0) = true) ∧
     (s.applyHoldsHost ((s.params e).byte 0) = false) ∧ ((s.params e).byte 1 ≤ 63) ∧ ((s.params e).byte 2 ≤ 63) ∧
     ((s.params e).byte 3 ≤ 63) ∧ ((s.params e).byte 4 ≤ 3) ∧ ((s.params e).zeroFrom 5 = true)) ∧
  (∃ (e : Fin 256) (s : State),
     (Runs s e 0x08 0x02) ∧ ((s.params e).byte 0 ≤ 15) ∧ (s.hostUsed ((s.params e).byte 0) = true) ∧
     (s.applyHoldsHost ((s.params e).byte 0) = false) ∧ ((s.params e).byte 1 ≤ 3) ∧ ((s.params e).byte 2 ≤ 24) ∧
     ((s.params e).zeroFrom 3 = true)) ∧
  (∃ (e : Fin 256) (s : State),
     (Runs s e 0x08 0x03) ∧ ((s.params e).byte 0 ≤ 15) ∧ (s.hostUsed ((s.params e).byte 0) = true) ∧
     (s.applyHoldsHost ((s.params e).byte 0) = false) ∧ ((s.params e).zeroFrom 3 = true) ∧
     ((s.hostPort ((s.params e).byte 0)).st = portTest) ∧ (s.Shaped)) ∧
  (∃ (e : Fin 256) (s : State),
     (Runs s e 0x08 0x04) ∧ ((s.params e).byte 0 ≤ 15) ∧ (s.hostUsed ((s.params e).byte 0) = true) ∧
     (s.applyHoldsHost ((s.params e).byte 0) = false) ∧ ((s.params e).zeroFrom 1 = true) ∧
     (s.flag HL_STAT.CDR_LOCK ((s.params e).byte 0) = true) ∧
     (s.flag HL_CAP_STAT.BUSY ((s.params e).byte 0) = false) ∧ (s.Shaped)) ∧
  (∃ (e : Fin 256) (s : State),
     (Runs s e 0x08 0x05) ∧ ((s.params e).byte 0 ≤ 15) ∧ (s.hostUsed ((s.params e).byte 0) = true) ∧
     (s.applyHoldsHost ((s.params e).byte 0) = false) ∧ ((s.params e).zeroFrom 1 = true)) :=
  ⟨⟨0, 0, List.replicate 129 0, rawChecking, by decide +kernel⟩,
    ⟨0, [0, 1], hosted.raise HL_STAT.CHK_LOCK 0, by decide +kernel⟩,
    ⟨0, [0, 1], rawChecking, by decide +kernel⟩,
    ⟨0, 0x302, ported { size := 1 } 5, by decide +kernel⟩,
    ⟨0, 0x302, hosted, by decide +kernel⟩,
    ⟨0, State.reset.setReg .HL_SLIP 0x102 0, by decide +kernel⟩,
    ⟨0, hosted.raise HL_STAT.CDR_LOCK 0, by decide +kernel⟩,
    ⟨0, List.replicate 64 3, State.reset.raise HL_CAP_STAT.BUSY 0, by decide +kernel⟩,
    ⟨0, false, [], ported { size := 1, loopback := 1 } 5, 0, by decide +kernel⟩,
    ⟨1, { cmdAt 0x08 0x01 [0, 5, 6, 30, 2] with mode := (ported { size := 1 } 5).mode }, by decide +kernel⟩,
    ⟨1, { cmdAt 0x08 0x02 [0, 0, 24] with mode := (ported { size := 1 } 5).mode }, by decide +kernel⟩,
    ⟨1, { cmdAt 0x08 0x03 [0, 2, 3] with mode := (ported { size := 1 } 5).mode }, by decide +kernel⟩,
    ⟨1, State.raise ({ cmdAt 0x08 0x04 [0] with mode := (ported { size := 1 } 5).mode }) HL_STAT.CDR_LOCK 0, by decide +kernel⟩,
    ⟨1, { cmdAt 0x08 0x05 [0] with mode := (ported { size := 1 } 5).mode }, by decide +kernel⟩⟩

theorem met_InsoleChannelResults :
  (∃ (k : Fin 8) (err : Fin 52429) (s : State),
     (s.Shaped) ∧ (s.flag INS_CFG.TIMING_TX k = true) ∧ (s.insCanSend k = true) ∧
     (s.timeRuns (dieOfLane k) = true) ∧ (s.frameBit k = s.nextBit k) ∧
     (s.stampAt (dieOfLane k) (s.bitTicks k (s.nextBit k)) 0 % sixteenth < bitTime)) ∧
  (∃ (k : Fin 8) (s : State) (f : InsTxFrame),
     (s.Shaped) ∧ ((s.insl k).sending = some f) ∧ (s.frameOver k f = true) ∧
     (s.throttling (dieOfLane k) = false) ∧ ((s.insl k).linkDue = false) ∧ ((s.insl k).linkIdle = false) ∧
     ((s.insl k).msgs = [])) ∧
  (∃ (k : Fin 8) (s : State) (f : InsTxFrame),
     (s.Shaped) ∧ ((s.insl k).sending = some f) ∧ (s.frameOver k f = false)) ∧
  (∃ (k : Fin 8) (s : State),
     (s.Shaped) ∧ (s.throttling (dieOfLane k) = false) ∧ (s.insCanSend k = true) ∧ ((s.insl k).linkDue = true) ∧
     (s.insFits k 8 = true)) ∧
  (∃ (k : Fin 8) (s : State), (s.Shaped) ∧ (s.since (s.insl k).ackWait 20000 = true)) ∧
  (∃ (k : Fin 8) (s : State), (s.Shaped) ∧ (s.flag INS_CFG.INS_EN k = true) ∧ (250000 ≤ s.now - (s.insl k).linkAt)) ∧
  (∃ (k : Fin 8) (s : State) (up : Bool),
     (s.Shaped) ∧ ((s.insl k).rampUp = some up) ∧
     (125 * ((s.insl k).rampStep + 1) ≤ 2 * (s.now - (s.insl k).rampAt))) ∧
  (∃ (k : Fin 8) (energy : List (BitVec 16)) (s : State),
     (s.insLink k = insAcquiring) ∧ ((s.insl k).search = none) ∧ (fofsOut (s.sfld LRX_CDR_FOFS.FOFS k) = false) ∧
     (energy.length = 254) ∧ (s.detectThr k < (bestPhase energy).2)) ∧
  (∃ (k : Fin 8) (energy : List (BitVec 16)) (s : State),
     (s.insLink k = insAcquiring) ∧ ((bestPhase energy).2 ≤ s.detectThr k)) ∧
  (∃ (k : Fin 8) (hits : List SyncHit) (s : State) (h : SyncHit),
     (s.Shaped) ∧ (insAcquiring ≤ s.insLink k) ∧ ((s.insl k).search = none) ∧
     ((s.insLink k = insAcquiring → fofsOut (s.sfld LRX_CDR_FOFS.FOFS k) = false)) ∧ (s.syncHit k hits = some h)) ∧
  (∃ (k : Fin 8) (header : W32) (s : State), (s.flag INS_STAT.IN_FRAME k = true) ∧ (lenOk header = false)) ∧
  (∃ (k : Fin 8) (s : State), (s.insTracks k = true) ∧ (64 ≤ (s.insl k).low)) ∧
  (∃ (k : Fin 8) (s : State), ((s.insl k).low < 64)) ∧
  (∃ (k : Fin 8) (apart track : BitVec 16) (energy : List (BitVec 16)) (s : State),
     (s.Shaped) ∧ (s.insTracks k = true)) ∧
  (∃ (k : Fin 8) (s : State), (s.Shaped) ∧ (s.insTracks k = true) ∧ (s.since (s.insl k).apart 1000000 = true)) ∧
  (∃ (k : Fin 8) (s : State), (s.Shaped) ∧ (s.since (s.insl k).good 1000000 = true)) ∧
  (∃ (k : Fin 8) (s : State), (s.Shaped) ∧ (s.since (s.insl k).hold 500000 = true)) :=
  ⟨⟨0, 9, launching, by decide +kernel⟩,
    ⟨0, atTime (State.reset.setInsl 0 { sending := some ⟨.link, 0, [], 0, 0⟩ }) 700, ⟨.link, 0, [], 0, 0⟩, by decide +kernel⟩,
    ⟨0, State.reset.setInsl 0 { sending := some ⟨.link, 0, [], 0, 0⟩ }, ⟨.link, 0, [], 0, 0⟩, by decide +kernel⟩,
    ⟨0, (State.reset.setInsl 0 { linkDue := true }).raise INS_STAT.TX_ON 0, by decide +kernel⟩,
    ⟨0, atTime (State.reset.setInsl 0 { ackWait := some 7 }) 20007, by decide +kernel⟩,
    ⟨0, atTime (State.reset.raise INS_CFG.INS_EN 0) 250000, by decide +kernel⟩,
    ⟨0, atTime (State.reset.setInsl 0 { rampUp := some true, rampStep := 14 }) 1000, true, by decide +kernel⟩,
    ⟨0, 0x7FFF :: List.replicate 253 5, State.reset.put INS_STAT.LINK 2 0, by decide +kernel⟩,
    ⟨0, List.replicate 254 0, State.reset.put INS_STAT.LINK 2 0, by decide +kernel⟩,
    ⟨0, [syncSeen], State.reset.put INS_STAT.LINK 3 0, syncSeen, by decide +kernel⟩,
    ⟨0, 0x10090000, State.reset.raise INS_STAT.IN_FRAME 0, by decide +kernel⟩,
    ⟨0, (State.reset.put INS_STAT.LINK 4 0).setInsl 0 { low := 64 }, by decide +kernel⟩,
    ⟨0, State.reset.put INS_STAT.LINK 4 0, by decide +kernel⟩,
    ⟨0, 5, 7, [9], State.reset.put INS_STAT.LINK 3 0, by decide +kernel⟩,
    ⟨0, atTime ((State.reset.put INS_STAT.LINK 3 0).setInsl 0 { apart := some 7 }) 1000007, by decide +kernel⟩,
    ⟨0, atTime ((State.reset.put INS_STAT.LINK 4 0).setInsl 0 { good := some 7 }) 1000007, by decide +kernel⟩,
    ⟨0, atTime (State.reset.setInsl 0 { hold := some 7, good := some 7 }) 500007, by decide +kernel⟩⟩

theorem met_InsoleMessageResults :
  (∃ (k : Fin 8) (header : W32) (payload : List (BitVec 8)) (crc : W32) (sigma : BitVec 16) (s : State),
     (s.Shaped) ∧ (s.flag INS_STAT.IN_FRAME k = true) ∧ (s.insTracks k = true) ∧ (lenOk header = true) ∧
     (payload.length = hdrLen header) ∧ (crc ≠ frameFcs header (payload.map (fun b => b.toNat)))) ∧
  (∃ (k : Fin 8) (header : W32) (payload : List (BitVec 8)) (crc : W32) (sigma : BitVec 16) (s : State),
     (s.Shaped) ∧ (s.flag INS_STAT.IN_FRAME k = true) ∧ (s.insTracks k = true) ∧ (lenOk header = true) ∧
     (payload.length = hdrLen header) ∧ (crc = frameFcs header (payload.map (fun b => b.toNat))) ∧
     (hdrType header = 1)) ∧
  (∃ (k : Fin 8) (header : W32) (payload : List (BitVec 8)) (crc : W32) (sigma : BitVec 16) (s : State),
     (s.Shaped) ∧ (s.flag INS_STAT.IN_FRAME k = true) ∧ (s.insTracks k = true) ∧ (lenOk header = true) ∧
     (payload.length = hdrLen header) ∧ (crc = frameFcs header (payload.map (fun b => b.toNat))) ∧
     (hdrType header = 2)) ∧
  (∃ (k : Fin 8) (header : W32) (payload : List (BitVec 8)) (crc : W32) (sigma : BitVec 16) (s : State),
     (s.Shaped) ∧ (s.flag INS_STAT.IN_FRAME k = true) ∧ (s.insTracks k = true) ∧ (lenOk header = true) ∧
     (payload.length = hdrLen header) ∧ (crc = frameFcs header (payload.map (fun b => b.toNat))) ∧
     (s.insLink k = insSynced) ∧ (hdrRxOk header = true) ∧ ((1 ≤ hdrType header ∧ hdrType header ≤ 2))) ∧
  (∃ (k : Fin 8) (header : W32) (payload : List (BitVec 8)) (crc : W32) (sigma : BitVec 16) (s : State) (slot :
     Nat) (rest : List Nat),
     (s.Shaped) ∧ (s.flag INS_STAT.IN_FRAME k = true) ∧ (s.insTracks k = true) ∧ (lenOk header = true) ∧
     (payload.length = hdrLen header) ∧ (crc = frameFcs header (payload.map (fun b => b.toNat))) ∧
     (hdrType header = 3) ∧ (s.insLink k = insUp) ∧ (hdrRxOk header = true) ∧ (s.flag INS_CFG.MSG_EN k = true) ∧
     (getBits header 8 8 = (s.insl k).expect) ∧ ((s.insl k).freeRx = slot :: rest) ∧ (slot < 8)) ∧
  (∃ (k : Fin 8) (s : State) (m : InsMsg),
     (s.Shaped) ∧ ((s.insl k).msgs.find? (fun x => s.unheard x) = some m) ∧ (m.sends < 4)) ∧
  (∃ (k : Fin 8) (s : State) (m : InsMsg),
     (s.Shaped) ∧ ((s.insl k).msgs.find? (fun x => s.unheard x) = some m) ∧ (4 ≤ m.sends) ∧ (s.insLink k = insUp)) ∧
  (∃ (k : Fin 8) (s : State) (m : InsMsg),
     (s.Shaped) ∧ ((s.insl k).msgs.find? (fun x => x.sends == 0 && decide (400000 ≤ s.now - x.since)) = some m) ∧
     (s.fld INS_MSG_STAT.FAR_CREDIT k ≤ (s.insl k).unacked)) ∧
  (∃ (e : Fin 256) (s : State),
     (Runs s e 0x09 0x01) ∧ ((s.params e).byte 0 ≤ 7) ∧ (s.Shaped) ∧ ((s.params e).byte 1 ≤ 7) ∧
     (8 ≤ (s.params e).byte 2) ∧ ((s.params e).byte 2 ≤ 248) ∧ ((s.params e).zeroFrom 3 = true) ∧
     (s.flag INS_CFG.INS_EN ((s.params e).byte 0) = true) ∧ (s.flag INS_CFG.MSG_EN ((s.params e).byte 0) = true) ∧
     (s.applyHoldsLine ((s.params e).byte 0) = false) ∧ (s.insLink ((s.params e).byte 0) = insUp) ∧
     (s.flag INS_STAT.FAR_MSG ((s.params e).byte 0) = true) ∧
     (bitOf (s.fld INS_MSG_STAT.TX_BUSY ((s.params e).byte 0)) ((s.params e).byte 1) = false) ∧
     (s.flag INS_STAT.TX_PAUSED ((s.params e).byte 0) = false)) ∧
  (∃ (e : Fin 256) (s : State),
     (Runs s e 0x09 0x01) ∧ ((s.params e).byte 0 ≤ 7) ∧ ((s.params e).byte 1 ≤ 7) ∧ (8 ≤ (s.params e).byte 2) ∧
     ((s.params e).byte 2 ≤ 248) ∧ ((s.params e).zeroFrom 3 = true) ∧
     (s.flag INS_CFG.INS_EN ((s.params e).byte 0) = true) ∧ (s.flag INS_CFG.MSG_EN ((s.params e).byte 0) = true) ∧
     (s.applyHoldsLine ((s.params e).byte 0) = false) ∧ (s.insLink ((s.params e).byte 0) ≠ insUp) ∧
     (s.island (islandId (dieOfLane ((s.params e).byte 0)) 0x04) = .on)) ∧
  (∃ (e : Fin 256) (s : State) (m : InsRx) (rest : List InsRx),
     (Runs s e 0x09 0x02) ∧ ((s.params e).byte 0 ≤ 7) ∧ ((s.params e).zeroFrom 1 = true) ∧
     (s.flag INS_CFG.INS_EN ((s.params e).byte 0) = true) ∧ (s.flag INS_CFG.MSG_EN ((s.params e).byte 0) = true) ∧
     (s.applyHoldsLine ((s.params e).byte 0) = false) ∧ ((s.insl ((s.params e).byte 0)).rx = m :: rest)) ∧
  (∃ (e : Fin 256) (s : State),
     (Runs s e 0x09 0x02) ∧ ((s.params e).byte 0 ≤ 7) ∧ ((s.params e).zeroFrom 1 = true) ∧
     (s.flag INS_CFG.INS_EN ((s.params e).byte 0) = true) ∧ (s.flag INS_CFG.MSG_EN ((s.params e).byte 0) = true) ∧
     (s.applyHoldsLine ((s.params e).byte 0) = false) ∧ ((s.insl ((s.params e).byte 0)).rx = [])) ∧
  (∃ (e : Fin 256) (s : State),
     (Runs s e 0x09 0x03) ∧ ((s.params e).byte 0 ≤ 7) ∧ (s.Shaped) ∧ ((s.params e).byte 1 ≤ 7) ∧
     ((s.params e).zeroFrom 2 = true) ∧ (s.flag INS_CFG.INS_EN ((s.params e).byte 0) = true) ∧
     (s.flag INS_CFG.MSG_EN ((s.params e).byte 0) = true) ∧ (s.applyHoldsLine ((s.params e).byte 0) = false) ∧
     ((s.insl ((s.params e).byte 0)).rx.any (fun m => m.slot == (s.params e).byte 1) = true)) ∧
  (∃ (e : Fin 256) (s : State),
     (Runs s e 0x09 0x04) ∧ ((s.params e).byte 0 ≤ 7) ∧ ((s.params e).zeroFrom 1 = true) ∧
     (s.flag INS_CFG.INS_EN ((s.params e).byte 0) = true) ∧ (s.applyHoldsLine ((s.params e).byte 0) = false)) ∧
  (∃ (e : Fin 256) (s : State),
     (Runs s e 0x09 0x05) ∧ ((s.params e).byte 0 ≤ 7) ∧
     (((s.params e).byte 1 = 0 ∨ (48 ≤ (s.params e).byte 1 ∧ (s.params e).byte 1 ≤ 64))) ∧
     ((s.params e).half 2 = 0) ∧ ((s.params e).wordAt 4 < 2 ^ 24) ∧ (bitsOf ((s.params e).wordAt 4) 3 5 = 0) ∧
     ((s.params e).zeroFrom 8 = true) ∧ (s.flag INS_CFG.INS_EN ((s.params e).byte 0) = true) ∧
     (s.applyHoldsLine ((s.params e).byte 0) = false)) ∧
  (∃ (e : Fin 256) (s : State),
     (Runs s e 0x09 0x06) ∧ ((s.params e).byte 0 ≤ 7) ∧ (s.Shaped) ∧ ((s.params e).zeroFrom 1 = true) ∧
     (s.flag INS_CFG.INS_EN ((s.params e).byte 0) = true) ∧ (s.applyHoldsLine ((s.params e).byte 0) = false) ∧
     (s.flag LRX_STAT.CDR_LOCK ((s.params e).byte 0) = true) ∧ ((s.insl ((s.params e).byte 0)).search = none)) ∧
  (∃ (k : Fin 8) (metrics : List (BitVec 16)) (s : State) (w : Ticket),
     (s.Shaped) ∧ ((s.insl k).search = some w) ∧ (160000 ≤ s.now - (s.insl k).searchAt) ∧ ((s.insl k).msgs = [])) :=
  ⟨⟨0, 0x18080000, [7, 3, 0, 0, 0, 0, 0, 0], 0, 3, ((State.reset.put INS_STAT.LINK 3 0).raise INS_STAT.IN_FRAME 0), by decide +kernel⟩,
    ⟨0, 0x1A080000, [7, 3, 0, 0, 0, 0, 0, 0], frameFcs 0x1A080000 (([7, 3, 0, 0, 0, 0, 0, 0] : List (BitVec 8)).map (fun b => b.toNat)), 3, ((State.reset.put INS_STAT.LINK 3 0).raise INS_STAT.IN_FRAME 0), by decide +kernel⟩,
    ⟨0, 0x28200000, List.replicate 32 5, frameFcs 0x28200000 ((List.replicate 32 5 : List (BitVec 8)).map (fun b => b.toNat)), 3, ((State.reset.put INS_STAT.LINK 3 0).raise INS_STAT.IN_FRAME 0), by decide +kernel⟩,
    ⟨0, 0x18080000, [7, 3, 0, 0, 0, 0, 0, 0], frameFcs 0x18080000 (([7, 3, 0, 0, 0, 0, 0, 0] : List (BitVec 8)).map (fun b => b.toNat)), 3, ((State.reset.put INS_STAT.LINK 3 0).raise INS_STAT.IN_FRAME 0), by decide +kernel⟩,
    ⟨0, 0x38080000, [7, 3, 0, 0, 0, 0, 0, 0], frameFcs 0x38080000 (([7, 3, 0, 0, 0, 0, 0, 0] : List (BitVec 8)).map (fun b => b.toNat)), 3, ((State.reset.put INS_STAT.LINK 4 0).raise INS_STAT.IN_FRAME 0).raise INS_CFG.MSG_EN 0, 0, [1, 2, 3, 4, 5, 6, 7], by decide +kernel⟩,
    ⟨0, atTime (State.reset.setInsl 0 { msgs := [{ slot := 0, len := 8, sends := 1, waiter := ⟨1, 0, false⟩, sentAt := some 0 }] }) 250000, { slot := 0, len := 8, sends := 1, waiter := ⟨1, 0, false⟩, sentAt := some 0 }, by decide +kernel⟩,
    ⟨0, atTime ((State.reset.setInsl 0 { msgs := [{ slot := 0, len := 8, sends := 4, waiter := ⟨1, 0, false⟩, sentAt := some 0 }] }).put INS_STAT.LINK 4 0) 250000, { slot := 0, len := 8, sends := 4, waiter := ⟨1, 0, false⟩, sentAt := some 0 }, by decide +kernel⟩,
    ⟨0, atTime (State.reset.setInsl 0 { msgs := [{ slot := 0, len := 8, sends := 0, waiter := ⟨1, 0, false⟩ }] }) 400000, { slot := 0, len := 8, sends := 0, waiter := ⟨1, 0, false⟩ }, by decide +kernel⟩,
    ⟨1, (((cmdAt 0x09 0x01 [0, 2, 16]).setReg .INS_CFG 3 0).setReg .INS_STAT 0x204 0), by decide +kernel⟩,
    ⟨1, ((((cmdAt 0x09 0x01 [0, 2, 16]).setReg .INS_CFG 3 0).setReg .INS_STAT 0x203 0)).setIsland (islandId 1 4) .on, by decide +kernel⟩,
    ⟨1, (((cmdAt 0x09 0x02 [0]).setReg .INS_CFG 3 0).setReg .INS_STAT 4 0).setInsl 0 { rx := [⟨0, 8, 0⟩] }, ⟨0, 8, 0⟩, [], by decide +kernel⟩,
    ⟨1, (((cmdAt 0x09 0x02 [0]).setReg .INS_CFG 3 0).setReg .INS_STAT 4 0), by decide +kernel⟩,
    ⟨1, (((cmdAt 0x09 0x03 [0]).setReg .INS_CFG 3 0).setReg .INS_STAT 4 0).setInsl 0 { rx := [⟨0, 8, 0⟩] }, by decide +kernel⟩,
    ⟨1, (((cmdAt 0x09 0x04 [0]).setReg .INS_CFG 3 0).setReg .INS_STAT 4 0), by decide +kernel⟩,
    ⟨1, (((cmdAt 0x09 0x05 [0, 0, 0, 0, 2, 9, 9]).setReg .INS_CFG 3 0).setReg .INS_STAT 4 0), by decide +kernel⟩,
    ⟨1, (((cmdAt 0x09 0x06 [0]).setReg .INS_CFG 3 0).setReg .INS_STAT 4 0).raise LRX_STAT.CDR_LOCK 0, by decide +kernel⟩,
    ⟨0, [3, 1, 7, 0, 0, 0, 0, 0], atTime ((State.reset.setInsl 0 { search := some ⟨1, 0, false⟩ }).put INS_STAT.LINK 3 0) 160000, ⟨1, 0, false⟩, by decide +kernel⟩⟩

theorem met_TimeServiceResults :
  (∃ (frac : Fin 65536000) (errA errB : Fin 32769) (s : State),
     (s.source = 2) ∧ (s.timeRuns s.primary = true) ∧ (s.time.pending = []) ∧
     (s.flag TIME_SRC_CFG.SECS_RXD s.primary = false)) ∧
  (∃ (s : State),
     (s.source = 2) ∧ (s.timeRuns s.primary = true) ∧ (s.since (s.clock s.primary).pulse 1500000 = true)) ∧
  (∃ (s : State),
     (s.source = 1) ∧ (s.timeRuns s.primary = true) ∧
     (s.since (s.clock s.primary).valid (1000000 * s.hostTimeout s.primary) = true)) ∧
  (∃ (s : State),
     (s.source = 3) ∧ (s.timeRuns s.primary = true) ∧ (s.time.usable = true) ∧
     (s.insoleBad (s.fld TIME_SRC_CFG.LANE s.primary) ≠ 0)) ∧
  (∃ (s : State),
     (s.timeRuns s.primary = true) ∧ (s.follower.any (fun f => s.timeRuns f) = true) ∧
     (s.fld WELT_STAT.STATE 1 1 ≠ 4) ∧ (1000 ≤ s.now - s.time.alignSent)) ∧
  (∃ (frac : Fin 65536000) (s : State) (sent : Nat) (rest : List (Nat × Nat)) (f : Nat),
     (s.Shaped) ∧ (s.time.flight = (s.primary, sent) :: rest) ∧ (s.follower = some f) ∧ (s.coreWeltUp = true) ∧
     (s.timeRuns f = true) ∧ (s.timeRuns s.primary = true)) ∧
  (∃ (frac : Fin 65536000) (s : State) (d sent : Nat) (rest : List (Nat × Nat)) (f : Nat),
     (s.Shaped) ∧ (s.time.flight = (d, sent) :: rest) ∧ (d ≠ s.primary) ∧ (s.follower = some f) ∧
     (s.coreWeltUp = true) ∧ (s.timeRuns f = true) ∧ (s.timeRuns s.primary = true)) ∧
  (∃ (s : State) (f : Nat),
     (s.follower = some f) ∧ (10000 ≤ s.now - (s.clock f).alignAt) ∧ (s.fld TIME_STAT.ALIGN f ≠ 3)) ∧
  (∃ (die : Fin 2) (s : State),
     (s.Shaped) ∧ ((s.clock (die.val + 1)).resOff = true) ∧ (s.locked (die.val + 1) 0 = true) ∧
     ((s.clock (die.val + 1)).relockAt + 1000 ≤ s.now)) ∧
  (∃ (s : State),
     (s.timeRuns 1 = true) ∧ (s.flag TIME_PPS_CFG.PPS_EN 1 = true) ∧
     ((s.todState 1 = todLocked ∨ (s.todState 1 = todHoldover ∧ s.flag TIME_PPS_CFG.PPS_HOLD 1 = true))) ∧
     (s.ppsPhase < 1001) ∧ ((s.time.ppsRise = none ∨ s.since s.time.ppsRise 500000 = true))) ∧
  (∃ (s : State), (s.time.ppsHigh = true) ∧ (s.since s.time.ppsRise (1000 * s.ppsWidth) = true)) ∧
  (∃ (s : State),
     (s.timeRuns 1 = true) ∧ (s.flag TIME_TODSER_CFG.TX_EN 1 = true) ∧ (10000000 ≤ s.ppsPhase) ∧
     (s.ppsPhase < 10001001) ∧ ((s.time.serialAt = none ∨ s.since s.time.serialAt 500000 = true))) ∧
  (∃ (bytes : List (BitVec 8)) (s : State),
     (s.timeRuns 1 = true) ∧ (s.flag TIME_TODSER_CFG.RX_EN 1 = true) ∧ (bytes.length = 24) ∧
     ((bytes.map (fun x => x.toNat)).take 4 = [0x7E, 0xA1, 0x02, 18])) :=
  ⟨⟨100, 5, 9, ((timed).put TIME_SRC_CFG.SOURCE 2 1), by decide +kernel⟩,
    ⟨{ (((timed).put TIME_SRC_CFG.SOURCE 2 1).put TIME_STAT.STATE 3 1).setClock 1 { pulse := some 0 } with now := 1500000 }, by decide +kernel⟩,
    ⟨{ (((timed).put TIME_SRC_CFG.SOURCE 1 1).put TIME_STAT.STATE 3 1).setClock 1 { valid := some 0 } with now := 300000000 }, by decide +kernel⟩,
    ⟨((timed).put TIME_SRC_CFG.SOURCE 3 1).setUsable true, by decide +kernel⟩,
    ⟨atTime timed 1000, by decide +kernel⟩,
    ⟨100, { welted timed with time := { flight := [(1, 7)] } }, 7, [], 2, by decide +kernel⟩,
    ⟨100, { welted timed with time := { flight := [(2, 7)] } }, 2, 7, [], 2, by decide +kernel⟩,
    ⟨{ timed with now := 10000 }, 2, by decide +kernel⟩,
    ⟨0, { timed.setClock 1 { resOff := true } with now := 1000 }, by decide +kernel⟩,
    ⟨(timed.raise TIME_PPS_CFG.PPS_EN 1).put TIME_STAT.STATE 3 1, by decide +kernel⟩,
    ⟨{ timed with time := { ppsHigh := true, ppsRise := some 0 }, now := 500000 }, by decide +kernel⟩,
    ⟨(timed.raise TIME_TODSER_CFG.TX_EN 1).setClock 1 { acc := 10000000 * 2 ^ 48 }, by decide +kernel⟩,
    ⟨[0x7E, 0xA1, 0x02, 18] ++ List.replicate 20 0, timed.raise TIME_TODSER_CFG.RX_EN 1, by decide +kernel⟩⟩

theorem met_PtpAndRangingResults :
  (∃ (p : Fin 8) (fromHost : Bool) (x : PtpPass) (s : State),
     (s.flag TIME_PORT_CFG.FRAME_VIEW p = true) ∧ (ptpOf (passBytes x) = none)) ∧
  (∃ (p : Fin 8) (fromHost : Bool) (x : PtpPass) (s : State) (h : PtpAt),
     (s.flag TIME_PORT_CFG.FRAME_VIEW p = true) ∧ (ptpOf (passBytes x) = some h) ∧ (ptpType (passBytes x) h ≤ 3) ∧
     (s.msgSelected p (ptpType (passBytes x) h) = true) ∧ (s.fld TIME_PORT_CFG.TIME_MODE p = 0)) ∧
  (∃ (p : Fin 8) (fromHost : Bool) (x : PtpPass) (s : State) (h : PtpAt),
     (s.flag TIME_PORT_CFG.FRAME_VIEW p = true) ∧ (ptpOf (passBytes x) = some h) ∧ (ptpType (passBytes x) h ≤ 3) ∧
     (s.msgSelected p (ptpType (passBytes x) h) = true) ∧ (s.resTrusted (dieOfPort p) = true) ∧
     ((s.residence p fromHost x - s.predictedRes p fromHost x).natAbs ≤ 131072) ∧ (s.Shaped) ∧
     (s.fld TIME_PORT_CFG.TIME_MODE p = 1)) ∧
  (∃ (p : Fin 8) (fromHost : Bool) (x : PtpPass) (s : State) (h : PtpAt),
     (s.flag TIME_PORT_CFG.FRAME_VIEW p = true) ∧ (ptpOf (passBytes x) = some h) ∧ (ptpType (passBytes x) h ≤ 3) ∧
     (s.msgSelected p (ptpType (passBytes x) h) = true) ∧ (s.resTrusted (dieOfPort p) = true) ∧
     ((s.residence p fromHost x - s.predictedRes p fromHost x).natAbs ≤ 131072) ∧ (s.Shaped) ∧
     (s.fld TIME_PORT_CFG.TIME_MODE p = 2) ∧
     ((ptpType (passBytes x) h = 1 ∨ (ptpType (passBytes x) h = 0 ∧ ptpTwoStep (passBytes x) h = true)))) ∧
  (∃ (p : Fin 8) (fromHost : Bool) (x : PtpPass) (s : State) (h : PtpAt),
     (s.flag TIME_PORT_CFG.FRAME_VIEW p = true) ∧ (ptpOf (passBytes x) = some h) ∧ (ptpType (passBytes x) h ≤ 3) ∧
     (s.msgSelected p (ptpType (passBytes x) h) = true) ∧ (s.resTrusted (dieOfPort p) = false) ∧
     (s.fld TIME_PORT_CFG.TIME_MODE p ≠ 0) ∧ (s.flag TIME_PORT_CTL.POLICY p = false)) ∧
  (∃ (p : Fin 8) (fromHost : Bool) (x : PtpPass) (s : State) (h : PtpAt) (c : Ctx),
     (s.flag TIME_PORT_CFG.FRAME_VIEW p = true) ∧ (ptpOf (passBytes x) = some h) ∧
     ((ptpType (passBytes x) h = 8 ∨ ptpType (passBytes x) h = 9)) ∧
     (s.msgSelected p (ptpType (passBytes x) h) = true) ∧ (s.Shaped) ∧
     ((s.ctxsOf (dieOfPort p)).find? (fun y => y.same
        ⟨p, fromHost, ptpType (passBytes x) h == 9, ptpDomain (passBytes x) h, ptpSeq (passBytes x) h, if ptpType (passBytes x) h = 9 then ptpRequester (passBytes x) h else ptpSource (passBytes x) h, 0, 0⟩)
        = some c) ∧
     (x.bad = false) ∧ (s.resTrusted (dieOfPort p) = true)) ∧
  (∃ (p : Fin 8) (fromHost : Bool) (x : PtpPass) (s : State) (h : PtpAt) (c : Ctx),
     (s.flag TIME_PORT_CFG.FRAME_VIEW p = true) ∧ (ptpOf (passBytes x) = some h) ∧
     ((ptpType (passBytes x) h = 8 ∨ ptpType (passBytes x) h = 9)) ∧
     (s.msgSelected p (ptpType (passBytes x) h) = true) ∧ (s.Shaped) ∧
     ((s.ctxsOf (dieOfPort p)).find? (fun y => y.same
        ⟨p, fromHost, ptpType (passBytes x) h == 9, ptpDomain (passBytes x) h, ptpSeq (passBytes x) h, if ptpType (passBytes x) h = 9 then ptpRequester (passBytes x) h else ptpSource (passBytes x) h, 0, 0⟩)
        = some c) ∧
     (x.bad = false) ∧ (s.resTrusted (dieOfPort p) = false) ∧ (s.flag TIME_PORT_CTL.POLICY p = false)) ∧
  (∃ (p : Fin 8) (fromHost : Bool) (x : PtpPass) (s : State) (h : PtpAt),
     (s.flag TIME_PORT_CFG.FRAME_VIEW p = true) ∧ (ptpOf (passBytes x) = some h) ∧
     ((ptpType (passBytes x) h = 8 ∨ ptpType (passBytes x) h = 9)) ∧
     (s.msgSelected p (ptpType (passBytes x) h) = true) ∧
     ((s.ctxsOf (dieOfPort p)).find? (fun y => y.same
        ⟨p, fromHost, ptpType (passBytes x) h == 9, ptpDomain (passBytes x) h, ptpSeq (passBytes x) h, if ptpType (passBytes x) h = 9 then ptpRequester (passBytes x) h else ptpSource (passBytes x) h, 0, 0⟩)
        = none) ∧
     (s.fld TIME_PORT_CFG.TIME_MODE p ≠ 2)) ∧
  (∃ (p : Fin 8) (fromHost : Bool) (x : PtpPass) (s : State) (h : PtpAt),
     (s.flag TIME_PORT_CFG.FRAME_VIEW p = true) ∧ (ptpOf (passBytes x) = some h) ∧
     ((ptpType (passBytes x) h = 8 ∨ ptpType (passBytes x) h = 9)) ∧
     (s.msgSelected p (ptpType (passBytes x) h) = true) ∧
     ((s.ctxsOf (dieOfPort p)).find? (fun y => y.same
        ⟨p, fromHost, ptpType (passBytes x) h == 9, ptpDomain (passBytes x) h, ptpSeq (passBytes x) h, if ptpType (passBytes x) h = 9 then ptpRequester (passBytes x) h else ptpSource (passBytes x) h, 0, 0⟩)
        = none) ∧
     (s.fld TIME_PORT_CFG.TIME_MODE p = 2) ∧ (s.orphanGrace p (ptpType (passBytes x) h) = false) ∧
     (s.flag TIME_PORT_CTL.POLICY p = false)) ∧
  (∃ (p : Fin 8) (s : State) (due : List Ctx),
     (s.Shaped) ∧
     (due = (s.ctxsOf (dieOfPort p)).filter (fun c => c.port == p.val && decide (c.born + (if c.delayResp then
        s.ttlDr p else s.ttlFu p) ≤ s.now))) ∧
     (due ≠ [])) ∧
  (∃ (g : Fin 8) (fit : RangeFit) (s : State), (s.Shaped) ∧ (s.mode.run.ranging.getD g false = true)) :=
  ⟨⟨0, false, { passOf 0 with frame := [] }, ptpPort1 1, by decide +kernel⟩,
    ⟨0, false, passOf 0, (ptpPort1 0), ⟨14, none⟩, by decide +kernel⟩,
    ⟨0, false, passOf 0, (ptpPort1 1), ⟨14, none⟩, by decide +kernel⟩,
    ⟨0, false, passOf 1, (ptpPort1 2), ⟨14, none⟩, by decide +kernel⟩,
    ⟨0, false, passOf 0, (ptpPort1 1).setClock 1 { resOff := true }, ⟨14, none⟩, by decide +kernel⟩,
    ⟨0, false, passOf 8, { ptpPort1 2 with time := { ctxs := [[⟨0, false, false, 0, 0, 0, 5, 0⟩], []] } }, ⟨14, none⟩, ⟨0, false, false, 0, 0, 0, 5, 0⟩, by decide +kernel⟩,
    ⟨0, false, passOf 8, State.setClock { ptpPort1 2 with time := { ctxs := [[⟨0, false, false, 0, 0, 0, 5, 0⟩], []] } } 1 { resOff := true }, ⟨14, none⟩, ⟨0, false, false, 0, 0, 0, 5, 0⟩, by decide +kernel⟩,
    ⟨0, false, passOf 8, (ptpPort1 1), ⟨14, none⟩, by decide +kernel⟩,
    ⟨0, false, passOf 8, (ptpPort1 2), ⟨14, none⟩, by decide +kernel⟩,
    ⟨0, { ptpPort1 2 with time := { ctxs := [[⟨0, false, false, 0, 0, 0, 5, 0⟩], []] }, now := 100000000 }, [⟨0, false, false, 0, 0, 0, 5, 0⟩], by decide +kernel⟩,
    ⟨0, ⟨[], [], 0, []⟩, { timed with mode := { run := { ranging := [true] } } }, by decide +kernel⟩⟩

theorem met_TimeCommandResults :
  (∃ (e : Fin 256) (s : State),
     (Runs s e 0x0A 0x01) ∧ (s.Shaped) ∧ ((s.fld PWR_STATE.STATE = 3 ∨ s.fld PWR_STATE.STATE = 4)) ∧
     (1 ≤ (s.params e).byte 0) ∧ ((s.params e).byte 0 ≤ 3) ∧ ((s.params e).byte 1 ≤ 1) ∧
     (((s.params e).byte 1 = 0 ∨ (s.params e).byte 0 ≤ 2)) ∧ ((s.params e).byte 2 ≤ 7) ∧
     (((s.params e).byte 2 = 0 ∨ (s.params e).byte 0 = 3)) ∧ ((s.params e).byte 3 ≤ 1) ∧
     ((s.params e).byte 4 ≠ 0) ∧ ((s.params e).zeroFrom 5 = true) ∧
     (((s.params e).byte 0 = 3 →
       s.lineUsed ((s.params e).byte 2) = true ∧ s.flag INS_CFG.TTT_EN ((s.params e).byte 2) = true))) ∧
  (∃ (e : Fin 256) (s : State),
     (Runs s e 0x0A 0x02) ∧ (s.Shaped) ∧ (((s.params e).bits % 2 ^ 96) / 2 ^ 16 % 2 ^ 32 < 1000000000) ∧
     ((s.params e).byte 12 ≤ 1) ∧ ((s.params e).zeroFrom 13 = true) ∧ (s.source ≠ 2) ∧ (s.source ≠ 3) ∧
     (s.timeRuns s.primary = true)) ∧
  (∃ (e : Fin 256) (s : State),
     (Runs s e 0x0A 0x02) ∧ (((s.params e).bits % 2 ^ 96) / 2 ^ 16 % 2 ^ 32 < 1000000000) ∧
     ((s.params e).byte 12 ≤ 1) ∧ ((s.params e).zeroFrom 13 = true) ∧ (s.source = 2)) ∧
  (∃ (e : Fin 256) (s : State),
     (Runs s e 0x0A 0x03) ∧ (s.Shaped) ∧ ((s.params e).byte 12 ≤ 3) ∧ ((s.params e).zeroFrom 13 = true) ∧
     (s.source = 1) ∧ (s.timeRuns s.primary = true)) ∧
  (∃ (e : Fin 256) (s : State),
     (Runs s e 0x0A 0x04) ∧ ((s.params e).byte 0 ≤ 1) ∧ ((s.params e).zeroFrom 1 = true)) ∧
  (∃ (e : Fin 256) (s : State),
     (Runs s e 0x0A 0x05) ∧ ((s.params e).byte 0 ≤ 5) ∧ ((s.params e).byte 1 ≤ 7) ∧ ((s.params e).byte 2 = 0) ∧
     ((s.params e).byte 3 = 0) ∧ ((signed 32 ((s.params e).wordAt 4)).natAbs ≤ 10000000) ∧
     ((s.params e).zeroFrom 8 = true)) ∧
  (∃ (e : Fin 256) (s : State),
     (Runs s e 0x0A 0x06) ∧ (s.Shaped) ∧ ((s.params e).byte 0 ≤ 7) ∧ ((s.params e).byte 1 = 0) ∧
     ((s.params e).byte 2 = 0) ∧ ((s.params e).byte 3 = 0) ∧ ((s.params e).zeroFrom 12 = true) ∧
     ((((s.params e).wordAt 4 = 0 ∧ (s.params e).wordAt 8 = 0) ∨
       (wavelengthOk ((s.params e).wordAt 4) = true ∧ wavelengthOk ((s.params e).wordAt 8) = true)))) ∧
  (∃ (e : Fin 256) (s : State),
     (Runs s e 0x0A 0x07) ∧ (s.Shaped) ∧ ((s.params e).byte 0 ≤ 7) ∧ ((s.params e).byte 1 ≤ 1) ∧
     ((s.params e).byte 2 = 0) ∧ ((s.params e).byte 3 = 0) ∧ ((s.params e).zeroFrom 20 = true)) ∧
  (∃ (e : Fin 256) (s : State),
     (Runs s e 0x0A 0x08) ∧ ((s.params e).byte 0 ≤ 7) ∧ ((s.params e).byte 1 ≤ 7) ∧
     ((s.params e).zeroFrom 2 = true) ∧ (s.mode.run.ranging.getD ((s.params e).byte 0) false = true) ∧
     ((s.members ((s.params e).byte 0)).contains ((s.params e).byte 1) = true) ∧
     ((s.rangingOf ((s.params e).byte 0)).some_ = true)) ∧
  (∃ (e : Fin 256) (s : State),
     (Runs s e 0x0A 0x09) ∧ (s.Shaped) ∧ ((s.params e).byte 0 ≤ 7) ∧ ((s.params e).zeroFrom 1 = true) ∧
     (s.portUsed ((s.params e).byte 0) = true) ∧ (s.applyHolds ((s.params e).byte 0) = false)) ∧
  (∃ (e : Fin 256) (s : State),
     (Runs s e 0x0A 0x0A) ∧ ((s.fld PWR_STATE.STATE = 3 ∨ s.fld PWR_STATE.STATE = 4)) ∧
     ((s.params e).byte 0 ≤ 3) ∧ ((s.params e).byte 1 = 0) ∧ ((s.params e).half 2 ≠ 0) ∧
     ((s.params e).half 2 ≤ 500) ∧ ((signed 32 ((s.params e).wordAt 4)).natAbs ≤ 500000) ∧
     ((s.params e).zeroFrom 8 = true)) ∧
  (∃ (e : Fin 256) (s : State),
     (Runs s e 0x0A 0x0B) ∧ ((s.fld PWR_STATE.STATE = 3 ∨ s.fld PWR_STATE.STATE = 4)) ∧
     ((s.params e).byte 0 ≤ 3) ∧ (1 ≤ (s.params e).byte 1) ∧ ((s.params e).byte 1 ≤ 3) ∧
     ((s.params e).byte 2 = 0) ∧ ((s.params e).byte 3 = 0) ∧ ((s.params e).byte 6 ≤ 1) ∧
     ((s.params e).zeroFrom 7 = true)) ∧
  (∃ (e : Fin 256) (s : State),
     (Runs s e 0x0A 0x0C) ∧ ((s.params e).byte 0 ≤ 7) ∧ ((s.params e).byte 1 ≤ 15) ∧ ((s.params e).byte 2 ≤ 3) ∧
     ((s.params e).byte 3 = 0) ∧ (1 ≤ (s.params e).half 4) ∧ ((s.params e).half 4 ≤ 1023) ∧
     (4 ≤ (s.params e).half 6) ∧ ((s.params e).half 6 ≤ 4092) ∧ ((s.params e).zeroFrom 8 = true) ∧
     (s.portUsed ((s.params e).byte 0) = true) ∧ (s.applyHolds ((s.params e).byte 0) = false)) :=
  ⟨⟨1, (timedCmd 0x01 [2, 1, 0, 1, 30]), by decide +kernel⟩,
    ⟨1, (timedCmd 0x02 [0, 0, 5, 0, 0, 0, 1]), by decide +kernel⟩,
    ⟨1, (timedCmd 0x02 [0, 0, 5, 0, 0, 0, 1]).put TIME_SRC_CFG.SOURCE 2 1, by decide +kernel⟩,
    ⟨1, (timedCmd 0x03 [5, 0, 0, 0, 0, 0, 0, 0, 9, 0, 0, 0, 3]).put TIME_SRC_CFG.SOURCE 1 1, by decide +kernel⟩,
    ⟨1, (timedCmd 0x04 [1]), by decide +kernel⟩,
    ⟨1, (timedCmd 0x05 [1, 2, 0, 0, 7]), by decide +kernel⟩,
    ⟨1, (timedCmd 0x06 [1]), by decide +kernel⟩,
    ⟨1, (timedCmd 0x07 [1, 1, 0, 0, 5, 0, 0, 0, 6]), by decide +kernel⟩,
    ⟨1, ranged, by decide +kernel⟩,
    ⟨1, onLine (cmdAt 0x0A 0x09 [0]), by decide +kernel⟩,
    ⟨1, (timedCmd 0x0A [3, 0, 10]), by decide +kernel⟩,
    ⟨1, (timedCmd 0x0B [1, 3, 0, 0, 37, 0, 1]), by decide +kernel⟩,
    ⟨1, onLine (cmdAt 0x0A 0x0C [0, 15, 3, 0, 9, 0, 10]), by decide +kernel⟩⟩

theorem met_ControlLoopResults :
  (∃ (l : Fin 48) (s : State),
     (s.Shaped) ∧ (s.opticsOn = true) ∧ (s.tickDue l = true) ∧ ((s.loop l).reqs = []) ∧
     (s.loopMode l = loopManual)) ∧
  (∃ (l : Fin 48) (s : State),
     (s.Shaped) ∧ (s.opticsOn = true) ∧ (s.tickDue l = true) ∧ ((s.loop l).reqs = []) ∧
     (s.loopMode l = loopAuto) ∧ ((s.arrive l).chSeq (s.fbCh l) ≠ (s.loop l).seq) ∧
     ((s.fld TGT_LOOP_SHIFT.FROZEN_N 0 l = 0 ∨ s.fbRun l < s.fld TGT_LOOP_SHIFT.FROZEN_N 0 l)) ∧
     (s.sfld TGT_LOOP_FBMIN.LIMIT 0 l ≤ (s.arrive l).fbY l) ∧
     ((s.arrive l).fbY l ≤ s.sfld TGT_LOOP_FBMAX.LIMIT 0 l)) ∧
  (∃ (l : Fin 48) (s : State),
     (s.Shaped) ∧ (s.opticsOn = true) ∧ (s.tickDue l = true) ∧ ((s.loop l).reqs = []) ∧
     (s.loopMode l = loopAuto) ∧ ((s.arrive l).chSeq (s.fbCh l) ≠ (s.loop l).seq) ∧
     ((s.fld TGT_LOOP_SHIFT.FROZEN_N 0 l = 0 ∨ s.fbRun l < s.fld TGT_LOOP_SHIFT.FROZEN_N 0 l)) ∧
     (s.sfld TGT_LOOP_FBMIN.LIMIT 0 l ≤ (s.arrive l).fbY l) ∧
     ((s.arrive l).fbY l ≤ s.sfld TGT_LOOP_FBMAX.LIMIT 0 l) ∧ (s.fld TGT_LOOP_CFG.FF_SRC 0 l = 0)) ∧
  (∃ (l : Fin 48) (s : State),
     (s.Shaped) ∧ (s.opticsOn = true) ∧ (s.tickDue l = true) ∧ ((s.loop l).reqs = []) ∧
     (s.loopMode l = loopAuto) ∧ ((s.arrive l).fbY l < s.sfld TGT_LOOP_FBMIN.LIMIT 0 l)) ∧
  (∃ (s : State),
     (s.Shaped) ∧ (s.flag TGT_STAT.RESUME_PEND = true) ∧ (s.flag CDAC_STAT.OVERRIDE = false) ∧
     (s.opt.resumeAt ≤ s.now)) ∧
  (∃ (l : Fin 48) (data : W32) (s : State), (s.Shaped) ∧ (s.opticsOn = true)) ∧
  (∃ (l : Fin 48) (data : W32) (s : State), (s.opticsOn = true)) ∧
  (∃ (e : Fin 256) (s : State),
     (Runs s e 0x0B 0x01) ∧ (((s.params e).byte 0) ≤ 47) ∧ ((s.params e).byte 1 ≤ 31) ∧
     (((s.params e).byte 2 ≤ 31 ∨ (s.params e).byte 2 = 0xFF)) ∧ ((s.params e).byte 3 ≤ 15) ∧
     (5 ≤ (s.params e).half 4) ∧ ((s.params e).half 4 ≤ 1000) ∧ ((s.params e).half 6 < (s.params e).half 4) ∧
     ((s.params e).byte 8 ≤ 3) ∧ ((s.params e).byte 9 ≤ 47) ∧
     (((s.params e).byte 8 = 2 → (s.params e).byte 9 ≤ 31)) ∧ ((s.params e).wordAt 12 ≤ 0x7FFFFF) ∧
     ((s.params e).zeroFrom 16 = true) ∧ (s.loopMode ((s.params e).byte 0) = loopOpen) ∧
     (s.bindOk ((s.params e).byte 0) (if (s.params e).byte 2 = 0xFF then none else some ((s.params e).byte 2)) =
        true)) ∧
  (∃ (e : Fin 256) (s : State) (kp ki kd kf : Int),
     (Runs s e 0x0B 0x02) ∧ (((s.params e).byte 0) ≤ 47) ∧ ((s.params e).byte 1 = 0) ∧ ((s.params e).half 2 = 0) ∧
     ((s.params e).byte 20 ≤ 15) ∧ ((s.params e).byte 21 ≤ 15) ∧ ((s.params e).byte 22 ≤ 15) ∧
     ((s.params e).byte 23 ≤ 15) ∧ ((s.params e).s24 4 = some kp) ∧ ((s.params e).s24 8 = some ki) ∧
     ((s.params e).s24 12 = some kd) ∧ ((s.params e).s24 16 = some kf) ∧
     (s.loopUnlocked ((s.params e).byte 0) = true)) ∧
  (∃ (e : Fin 256) (s : State) (a b c d : Int),
     (Runs s e 0x0B 0x03) ∧ (((s.params e).byte 0) ≤ 47) ∧ ((s.params e).byte 1 = 0) ∧ ((s.params e).half 2 = 0) ∧
     ((s.params e).half 4 ≤ (s.params e).half 6) ∧ ((s.params e).half 6 ≤ 16383) ∧ ((s.params e).s24 8 = some a) ∧
     ((s.params e).s24 12 = some b) ∧ ((s.params e).s24 16 = some c) ∧ ((s.params e).s24 20 = some d) ∧
     (s.loopUnlocked ((s.params e).byte 0) = true)) ∧
  (∃ (e : Fin 256) (s : State),
     (Runs s e 0x0B 0x04) ∧ (s.Shaped) ∧ (((s.params e).byte 0) ≤ 47) ∧ ((s.params e).byte 1 ≤ 3) ∧
     ((s.params e).byte 2 ≤ 1) ∧ ((s.params e).byte 3 = 0) ∧ ((s.params e).half 4 ≤ 16383) ∧
     ((s.params e).zeroFrom 6 = true)) ∧
  (∃ (e : Fin 256) (s : State) (x : Int),
     (Runs s e 0x0B 0x05) ∧ (((s.params e).byte 0) ≤ 47) ∧ ((s.params e).byte 1 = 0) ∧ ((s.params e).half 2 = 0) ∧
     ((s.params e).zeroFrom 8 = true) ∧ ((s.params e).s24 4 = some x)) ∧
  (∃ (e : Fin 256) (s : State),
     (Runs s e 0x0B 0x06) ∧ (((s.params e).byte 0) ≤ 47) ∧ ((s.params e).zeroFrom 1 = true)) ∧
  (∃ (e : Fin 256) (s : State),
     (Runs s e 0x0B 0x07) ∧ (((s.params e).byte 0) ≤ 47) ∧ ((s.params e).byte 1 = 0) ∧ ((s.params e).half 2 = 0) ∧
     ((s.params e).wordAt 4 % 65536 = 0) ∧ ((s.params e).wordAt 4 ≤ 0x1FFFFFF) ∧ ((s.params e).zeroFrom 8 = true)) :=
  ⟨⟨0, ((State.reset.setIsland 0x05 .on).put TGT_LOOP_STAT.MODE 1 0 0), by decide +kernel⟩,
    ⟨0, ((((State.reset.setIsland 0x05 .on).put TGT_LOOP_STAT.MODE 2 0 0).setWide .MON_CH_VAL 0x100000005 0 0).put TGT_LOOP_FBMAX.LIMIT 100 0 0).put TGT_LOOP_OUTLIM.OUT_MAX 9 0 0, by decide +kernel⟩,
    ⟨0, ((((State.reset.setIsland 0x05 .on).put TGT_LOOP_STAT.MODE 2 0 0).setWide .MON_CH_VAL 0x100000005 0 0).put TGT_LOOP_FBMAX.LIMIT 100 0 0).put TGT_LOOP_OUTLIM.OUT_MAX 9 0 0, by decide +kernel⟩,
    ⟨0, ((State.reset.setIsland 0x05 .on).put TGT_LOOP_STAT.MODE 2 0 0).put TGT_LOOP_FBMIN.LIMIT 100 0 0, by decide +kernel⟩,
    ⟨State.reset.raise TGT_STAT.RESUME_PEND, by decide +kernel⟩,
    ⟨3, 2, State.reset, by decide +kernel⟩,
    ⟨3, 2, State.reset, by decide +kernel⟩,
    ⟨1, cmdAt 0x0B 0x01 [3, 4, 5, 3, 10, 0, 2], by decide +kernel⟩,
    ⟨1, cmdAt 0x0B 0x02 [3, 0, 0, 0, 5, 0, 0, 0, 255, 255, 255, 255], 5, -1, 0, 0, by decide +kernel⟩,
    ⟨1, cmdAt 0x0B 0x03 [3, 0, 0, 0, 5, 0, 9, 0, 0, 0, 0, 0, 0, 0, 0, 0, 255, 255, 255, 255, 7], 0, 0, -1, 7, by decide +kernel⟩,
    ⟨1, cmdAt 0x0B 0x04 [3, 1, 1, 0, 5], by decide +kernel⟩,
    ⟨1, cmdAt 0x0B 0x05 [3, 0, 0, 0, 5], 5, by decide +kernel⟩,
    ⟨1, cmdAt 0x0B 0x06 [3], by decide +kernel⟩,
    ⟨1, cmdAt 0x0B 0x07 [3, 0, 0, 0, 0, 0, 1], by decide +kernel⟩⟩

theorem met_ControlDacResults :
  (∃ (n : Fin 32) (data : W32) (s : State), (s.opticsOn = true) ∧ (n.val ≠ 31)) ∧
  (∃ (n : Fin 32) (data : W32) (s : State), (s.opticsOn = true) ∧ ((s.owner n = none ∧ n.val ≠ 31))) ∧
  (∃ (n : Fin 32) (data : W32) (s : State), (s.opticsOn = true) ∧ (s.owner n ≠ none)) ∧
  (∃ (data : W32) (s : State), (s.opticsOn = true)) ∧
  (∃ (e : Fin 256) (s : State),
     (Runs s e 0x0C 0x01) ∧ (((s.params e).byte 0) < 31) ∧ ((s.params e).byte 1 ≤ 31) ∧
     ((s.params e).byte 2 ≤ 7) ∧ ((s.params e).byte 3 = 0) ∧ ((s.params e).half 4 ≤ 16383) ∧
     ((s.params e).half 6 ≤ (s.params e).half 8) ∧ ((s.params e).half 8 ≤ 16383) ∧
     ((s.params e).zeroFrom 10 = true) ∧
     ((s.flag CDAC_CFG.EN 0 ((s.params e).byte 0) = true →
       bitOf ((s.params e).byte 1) 1 = s.flag CDAC_CFG.GAIN2 0 ((s.params e).byte 0))) ∧
     ((bitOf ((s.params e).byte 1) 2 = true ∨ s.laserOwned ((s.params e).byte 0) = false))) ∧
  (∃ (e : Fin 256) (s : State),
     (Runs s e 0x0C 0x02) ∧ (((s.params e).byte 0) < 31) ∧ ((s.params e).byte 1 = 0) ∧
     ((s.params e).half 2 ≤ 16383) ∧ ((s.params e).zeroFrom 4 = true) ∧ (s.owner ((s.params e).byte 0) = none)) ∧
  (∃ (e : Fin 256) (s : State),
     (Runs s e 0x0C 0x03) ∧ (((s.params e).byte 0) ≤ 3) ∧ ((s.params e).byte 1 ≤ 2) ∧ ((s.params e).byte 2 ≤ 47) ∧
     ((s.params e).zeroFrom 3 = true)) ∧
  (∃ (e : Fin 256) (s : State),
     (Runs s e 0x0C 0x04) ∧ (((s.params e).byte 0) ≤ 15) ∧ ((s.params e).zeroFrom 1 = true)) ∧
  (∃ (e : Fin 256) (s : State),
     (Runs s e 0x0C 0x05) ∧ (((s.params e).byte 0) ≤ 7) ∧ ((s.params e).byte 1 ≤ 1) ∧ ((s.params e).half 2 = 0) ∧
     ((s.params e).wordAt 4 ≤ 429496730) ∧ ((s.params e).half 8 ≤ 2047) ∧ ((s.params e).zeroFrom 12 = true)) ∧
  (∃ (e : Fin 256) (s : State),
     (Runs s e 0x0C 0x06) ∧ (((s.params e).byte 0) ≤ 15) ∧ ((s.params e).byte 1 ≤ 15) ∧
     ((s.params e).byte 2 ≤ 15) ∧ ((s.params e).zeroFrom 3 = true)) ∧
  (∃ (e : Fin 256) (s : State),
     (Runs s e 0x0C 0x07) ∧ (((s.params e).byte 0) ≤ 31) ∧ ((s.params e).zeroFrom 1 = true)) ∧
  (∃ (g : Fin 8) (s : State),
     (s.Shaped) ∧ (s.opticsOn = true) ∧ ((s.sine g).running = true) ∧ (s.flag SINE_CTL.EN 0 g = false) ∧
     (sineCrosses (s.sine g).phase (s.ftw g) = true)) ∧
  (∃ (s : State), (s.opticsOn = true) ∧ (s.flag CDAC_STAT.REF_OK = true)) ∧
  (∃ (s : State), (s.opticsOn = true)) ∧
  (∃ (s : State), (s.Shaped) ∧ (s.opticsOn = true) ∧ (s.opt.sampledAt ≠ some s.now)) :=
  ⟨⟨2, 6, State.reset, by decide +kernel⟩,
    ⟨2, 6, State.reset, by decide +kernel⟩,
    ⟨0, 6, (State.reset.setReg .TGT_LOOP_CFG 0 0 0).put TGT_LOOP_STAT.MODE 1 0 0, by decide +kernel⟩,
    ⟨2, (State.reset.put CDAC_GROUP.SRC 2 0 1).put CDAC_CODE.CODE 7 0 9, by decide +kernel⟩,
    ⟨1, cmdAt 0x0C 0x01 [3, 7, 1, 0, 5, 0, 6, 0, 7], by decide +kernel⟩,
    ⟨1, cmdAt 0x0C 0x02 [3, 0, 9], by decide +kernel⟩,
    ⟨1, cmdAt 0x0C 0x03 [3, 1, 9], by decide +kernel⟩,
    ⟨1, (cmdAt 0x0C 0x04 [2]).put CDAC_GROUP.SRC 2 0 1, by decide +kernel⟩,
    ⟨1, cmdAt 0x0C 0x05 [3, 1, 0, 0, 9, 0, 0, 0, 5, 0, 6], by decide +kernel⟩,
    ⟨1, cmdAt 0x0C 0x06 [3, 1, 2], by decide +kernel⟩,
    ⟨1, cmdAt 0x0C 0x07 [3], by decide +kernel⟩,
    ⟨1, { State.reset.put SINE_FTW.FTW 429496730 0 1 with opt := { sines := [{}, { running := true, phase := 4294967295 }, {}, {}, {}, {}, {}, {}] } }, by decide +kernel⟩,
    ⟨State.reset.raise CDAC_STAT.REF_OK, by decide +kernel⟩,
    ⟨State.reset, by decide +kernel⟩,
    ⟨State.reset.setIsland 0x05 .on, by decide +kernel⟩⟩

theorem met_MonitorConversionResults :
  (∃ (raw : BitVec 16) (s : State),
     (s.Shaped) ∧ (s.flag MON_STAT.RUNNING = true) ∧ (s.mon.done ≠ some s.now) ∧ (s.now ≠ 0) ∧
     (s.opticsOn = true) ∧ (s.mon.cur = none) ∧ (s.mon.diag = none) ∧ (bitOf (s.entryAt (s.now - 1)) 7 = true)) ∧
  (∃ (raw : BitVec 16) (s : State) (q : OdReq),
     (s.Shaped) ∧ (s.flag MON_STAT.RUNNING = true) ∧ (s.mon.done ≠ some s.now) ∧ (s.now ≠ 0) ∧
     (s.opticsOn = true) ∧ (s.mon.cur = some q)) ∧
  (∃ (c : Fin 32) (s : State) (at_ : Nat) (z : Int) (rest : List (Nat × Int)),
     (s.Shaped) ∧ (s.opticsOn = true) ∧ ((s.chan c).outs = (at_, z) :: rest) ∧ (at_ ≤ s.now) ∧
     (s.flag MON_CH_CFG.EN 0 c = true)) ∧
  (∃ (c : Fin 32) (s : State), (s.flag MON_CH_STAT.FADING 0 c = true) ∧ (s.fld MON_CH_STAT.FADE_STEP 0 c = 64)) ∧
  (∃ (s : State), (s.fld MON_CHK_STAT.FAILS = 4) ∧ (s.flag MON_STAT.CHK_FAULT = false)) ∧
  (∃ (s : State), (s.mon.passes = 4) ∧ (s.flag MON_STAT.CHK_FAULT = true)) ∧
  (∃ (s : State), (s.opticsOn = true)) ∧
  (∃ (s : State), (s.opticsOn = true) ∧ (s.flag MON_CTL.RUN = true)) ∧
  (∃ (s : State), (s.opticsOn = true) ∧ (s.tableRefusal s.slotShadow = none)) ∧
  (∃ (s : State) (code : Nat), (s.opticsOn = true) ∧ (s.tableRefusal s.slotShadow = some code)) ∧
  (∃ (s : State) (tb : List Nat), (s.mon.table = some tb) ∧ (s.now % 32 = 0)) ∧
  (∃ (data : W32) (s : State),
     (s.opticsOn = true) ∧ (getBits data 24 5 ≤ 23) ∧ (getBits data 16 1 = 1) ∧
     (s.inputInUse (getBits data 24 5) = false) ∧ (s.calBusy = false) ∧ (s.hasSlot (getBits data 24 5) = true)) ∧
  (∃ (data : W32) (s : State),
     (s.opticsOn = true) ∧ (getBits data 24 5 ≤ 23) ∧ (getBits data 16 1 = 0) ∧ (s.mon.diag = none)) ∧
  (∃ (s : State) (d : Diag), (s.mon.diag = some d) ∧ (d.n = 16)) ∧
  (∃ (s : State) (k : MonCal),
     (s.mon.cal = some k) ∧ (k.n = 1024) ∧ (k.target = none) ∧ ((rcDiv (k.sum : Int) 64).natAbs ≤ 131072) ∧
     (k.clipped = false)) ∧
  (∃ (s : State) (k : MonCal) (x : Nat) (span : Int),
     (s.mon.cal = some k) ∧ (k.n = 1024) ∧ (k.target = some x) ∧ (s.flag MON_IN_CAL.ZERO_VALID 0 k.input = true) ∧
     (span = rcDiv (k.sum : Int) 64 - signed 21 (s.fld MON_IN_CAL.ZERO_PEND 0 k.input)) ∧ (131072 ≤ span) ∧
     (k.clipped = false) ∧ (s.inputInUse k.input = false)) ∧
  (∃ (s : State) (k : MonCal),
     (s.mon.cal = some k) ∧ (k.n = 1024) ∧ (k.target = none) ∧ (k.clipped = true) ∧
     ((rcDiv (k.sum : Int) 64).natAbs ≤ 131072)) :=
  ⟨⟨0x1234, { (((State.reset.setIsland 0x05 .on).raise MON_STAT.RUNNING).setReg .MON_SLOT 0x83 0 4) with now := 5 }, by decide +kernel⟩,
    ⟨0x1234, { (((State.reset.setIsland 0x05 .on).raise MON_STAT.RUNNING).setReg .MON_SLOT 0x83 0 4) with now := 6, mon := { cur := some ⟨0, 3, none⟩ } }, ⟨0, 3, none⟩, by decide +kernel⟩,
    ⟨1, { (State.reset.setChan 1 { outs := [(3, -5)] }).raise MON_CH_CFG.EN 0 1 with now := 3 }, 3, -5, [], by decide +kernel⟩,
    ⟨1, (State.reset.raise MON_CH_STAT.FADING 0 1).put MON_CH_STAT.FADE_STEP 64 0 1, by decide +kernel⟩,
    ⟨State.reset.put MON_CHK_STAT.FAILS 4, by decide +kernel⟩,
    ⟨{ State.reset.raise MON_STAT.CHK_FAULT with mon := { passes := 4 } }, by decide +kernel⟩,
    ⟨State.reset, by decide +kernel⟩,
    ⟨State.reset.raise MON_CTL.RUN, by decide +kernel⟩,
    ⟨State.reset, by decide +kernel⟩,
    ⟨(State.reset.raise MON_CH_CFG.EN 0 1).setReg .MON_SLOT_SH 0 0 0, 0x239, by decide +kernel⟩,
    ⟨{ State.reset with mon := { table := some [0x81] } }, [0x81], by decide +kernel⟩,
    ⟨0x3010005, (((State.reset.setIsland 0x05 .on).raise MON_STAT.RUNNING).setReg .MON_SLOT 0x83 0 4), by decide +kernel⟩,
    ⟨0x3000005, (((State.reset.setIsland 0x05 .on).raise MON_STAT.RUNNING).setReg .MON_SLOT 0x83 0 4), by decide +kernel⟩,
    ⟨{ State.reset with mon := { diag := some { input := 3, since := 0, n := 16, sum := 160, waiter := none } } }, { input := 3, since := 0, n := 16, sum := 160, waiter := none }, by decide +kernel⟩,
    ⟨{ State.reset with mon := { cal := some { input := 3, target := none, since := 0, n := 1024, sum := 640, waiter := ⟨1, 0, false⟩ } } }, { input := 3, target := none, since := 0, n := 1024, sum := 640, waiter := ⟨1, 0, false⟩ }, by decide +kernel⟩,
    ⟨{ State.reset.raise MON_IN_CAL.ZERO_VALID 0 3 with mon := { cal := some { input := 3, target := some 9, since := 0, n := 1024, sum := 8388608, waiter := ⟨1, 0, false⟩ } } }, { input := 3, target := some 9, since := 0, n := 1024, sum := 8388608, waiter := ⟨1, 0, false⟩ }, 9, 131072, by decide +kernel⟩,
    ⟨{ State.reset with mon := { cal := some { input := 3, target := none, since := 0, n := 1024, sum := 640, clipped := true, waiter := ⟨1, 0, false⟩ } } }, { input := 3, target := none, since := 0, n := 1024, sum := 640, clipped := true, waiter := ⟨1, 0, false⟩ }, by decide +kernel⟩⟩

theorem met_MonitorCommandResults :
  (∃ (src : Master) (data : W32) (s : State),
     (Writes s src 0x4060020) ∧ (srcId src ≤ 3) ∧ (s.odOf (srcId src) = none) ∧ (s.flag MON_CTL.RUN = true)) ∧
  (∃ (src : Master) (data : W32) (s : State) (q : OdReq),
     (Writes s src 0x4060020) ∧ (srcId src ≤ 3) ∧ (s.odOf (srcId src) = some q)) ∧
  (∃ (src : Master) (data : W32) (s : State),
     (Writes s src 0x4060020) ∧ (srcId src ≤ 3) ∧ (s.odOf (srcId src) = none) ∧ (s.flag MON_CTL.RUN = false)) ∧
  (∃ (c : Fin 32) (data : W32) (s : State),
     (s.Shaped) ∧ (s.opticsOn = true) ∧ (getBits data 0 1 = 1) ∧ (s.flag MON_CH_STAT.FADING 0 c = false)) ∧
  (∃ (c : Fin 32) (data : W32) (s : State),
     (s.opticsOn = true) ∧ (getBits data 0 1 = 1) ∧ (s.flag MON_CH_STAT.FADING 0 c = true)) ∧
  (∃ (e : Fin 256) (s : State),
     (Runs s e 0x0D 0x01) ∧ (((s.params e).byte 0) ≤ 31) ∧ (1 ≤ (s.params e).byte 1) ∧
     ((s.params e).byte 1 ≤ 22) ∧ (((s.params e).byte 0) + (s.params e).byte 1 ≤ 32) ∧
     ((s.params e).zeroFrom (2 + (s.params e).byte 1) = true)) ∧
  (∃ (e : Fin 256) (s : State),
     (Runs s e 0x0D 0x02) ∧ ((s.params e).zeroFrom 0 = true) ∧ (s.tableRefusal s.slotShadow = none)) ∧
  (∃ (e : Fin 256) (s : State),
     (Runs s e 0x0D 0x03) ∧ (((s.params e).byte 0) ≤ 31) ∧ ((s.params e).byte 1 ≤ 31) ∧
     ((s.params e).byte 2 ≤ 15) ∧ (1 ≤ (s.params e).byte 3) ∧ ((s.params e).byte 3 ≤ 64) ∧
     (1 ≤ (s.params e).byte 4) ∧ ((s.params e).byte 4 ≤ 32) ∧ ((s.params e).byte 5 ≤ 15) ∧
     ((s.params e).byte 6 ≤ 7) ∧ (1 ≤ (s.params e).byte 7) ∧ ((s.params e).byte 7 ≤ 2) ∧
     ((s.params e).zeroFrom 10 = true) ∧
     (s.chanRefusal ((s.params e).byte 0) (BitVec.ofNat 32 ((s.params e).byte 2 + (s.params e).byte 1 * 2 ^ 8 +
        (s.params e).byte 6 * 2 ^ 16 + ((s.params e).byte 7 - 1) * 2 ^ 19 + (s.params e).byte 5 * 2 ^ 20))
        (BitVec.ofNat 32 ((s.params e).byte 3 + (s.params e).byte 4 * 2 ^ 8)) = none)) ∧
  (∃ (e : Fin 256) (s : State),
     (Runs s e 0x0D 0x04) ∧ (((s.params e).byte 0) ≤ 31) ∧ ((s.params e).byte 1 ≤ 30) ∧
     (1 ≤ (s.params e).byte 2) ∧ ((s.params e).byte 2 ≤ 5) ∧ ((s.params e).byte 1 + (s.params e).byte 2 ≤ 31) ∧
     ((s.params e).byte 3 = 0) ∧ ((s.params e).zeroFrom (4 + 4 * (s.params e).byte 2) = true) ∧
     ((List.range ((s.params e).byte 2)).all (fun j => (tapParam (s.params e) (4 + 4 * j)).isSome) = true) ∧
     (s.flag MON_CH_STAT.FADING 0 ((s.params e).byte 0) = false)) ∧
  (∃ (e : Fin 256) (s : State),
     (Runs s e 0x0D 0x05) ∧ (s.Shaped) ∧ (((s.params e).byte 0) ≤ 31) ∧ ((s.params e).zeroFrom 1 = true) ∧
     (s.flag MON_CH_STAT.FADING 0 ((s.params e).byte 0) = false)) ∧
  (∃ (e : Fin 256) (s : State),
     (Runs s e 0x0D 0x06) ∧ (((s.params e).byte 0) ≤ 31) ∧ ((s.params e).zeroFrom 1 = true) ∧
     (s.flag MON_CTL.RUN = true) ∧ (s.odOf 0 = none)) ∧
  (∃ (e : Fin 256) (s : State),
     (Runs s e 0x0D 0x07) ∧ (((s.params e).byte 0) ≤ 23) ∧ ((s.params e).zeroFrom 1 = true) ∧
     (s.hasSlot ((s.params e).byte 0) = true) ∧ (s.flag MON_CTL.RUN = true) ∧
     (s.inputInUse ((s.params e).byte 0) = false) ∧ (s.calBusy = false)) ∧
  (∃ (e : Fin 256) (s : State),
     (Runs s e 0x0D 0x08) ∧ (((s.params e).byte 0) ≤ 23) ∧ ((s.params e).wordAt 0 < 256) ∧
     (1 ≤ (s.params e).wordAt 4) ∧ ((s.params e).wordAt 4 < 2 ^ 23) ∧ ((s.params e).zeroFrom 8 = true) ∧
     (s.hasSlot ((s.params e).byte 0) = true) ∧ (s.flag MON_CTL.RUN = true) ∧
     (s.inputInUse ((s.params e).byte 0) = false) ∧ (s.calBusy = false)) ∧
  (∃ (e : Fin 256) (s : State),
     (Runs s e 0x0D 0x09) ∧ (((s.params e).byte 0) ≤ 23) ∧ ((s.params e).zeroFrom 1 = true) ∧
     (s.hasSlot ((s.params e).byte 0) = true) ∧ (s.inputInUse ((s.params e).byte 0) = false) ∧ (s.calBusy = false)) ∧
  (∃ (e : Fin 256) (s : State),
     (Runs s e 0x0D 0x0A) ∧ ((s.params e).half 0 ≤ 4095) ∧ ((s.params e).half 2 ≤ 1023) ∧
     ((s.params e).zeroFrom 4 = true)) ∧
  (∃ (e : Fin 256) (s : State),
     (Runs s e 0x0D 0x0B) ∧ (((s.params e).byte 0) ≤ 31) ∧ ((s.params e).zeroFrom 1 = true)) :=
  ⟨⟨.spi, 3, (State.reset.setIsland 0x05 .on).raise MON_CTL.RUN, by decide +kernel⟩,
    ⟨.spi, 3, { (State.reset.setIsland 0x05 .on) with mon := { od := [⟨1, 2, none⟩] } }, ⟨1, 2, none⟩, by decide +kernel⟩,
    ⟨.spi, 3, State.reset.setIsland 0x05 .on, by decide +kernel⟩,
    ⟨1, 1, State.reset, by decide +kernel⟩,
    ⟨1, 1, State.reset.raise MON_CH_STAT.FADING 0 1, by decide +kernel⟩,
    ⟨1, cmdAt 0x0D 0x01 [3, 2, 0x81, 0x82], by decide +kernel⟩,
    ⟨1, cmdAt 0x0D 0x02 [], by decide +kernel⟩,
    ⟨1, cmdAt 0x0D 0x03 [3, 2, 0, 4, 5, 6, 7, 1, 9], by decide +kernel⟩,
    ⟨1, cmdAt 0x0D 0x04 [3, 2, 2, 0, 5, 0, 0, 0, 6], by decide +kernel⟩,
    ⟨1, cmdAt 0x0D 0x05 [3], by decide +kernel⟩,
    ⟨1, (((cmdAt 0x0D 0x06 [3]).raise MON_CTL.RUN).setReg .MON_SLOT 0x83 0 4), by decide +kernel⟩,
    ⟨1, (((cmdAt 0x0D 0x07 [3]).raise MON_CTL.RUN).setReg .MON_SLOT 0x83 0 4), by decide +kernel⟩,
    ⟨1, (((cmdAt 0x0D 0x08 [3, 0, 0, 0, 9]).raise MON_CTL.RUN).setReg .MON_SLOT 0x83 0 4), by decide +kernel⟩,
    ⟨1, (((cmdAt 0x0D 0x09 [3]).raise MON_CTL.RUN).setReg .MON_SLOT 0x83 0 4), by decide +kernel⟩,
    ⟨1, cmdAt 0x0D 0x0A [5, 0, 6], by decide +kernel⟩,
    ⟨1, cmdAt 0x0D 0x0B [3], by decide +kernel⟩⟩

theorem met_DeviceStateResults :
  (∃ (s : State), (s.flag PWR_STATE.FASTOFF = false) ∧ (s.pwr.held = false)) ∧
  (∃ (s : State), (s.flag PWR_STATE.FASTOFF = true) ∧ (s.pwr.held = false)) ∧
  (∃ (n : Fin 4) (s : State), (bitOf (s.fld PWR_PG_STAT.SUPERVISED) n = true) ∧ (s.pwrState ≠ pwrFault)) ∧
  (∃ (s : State) (n : Nat),
     (n < 4) ∧ (s.penSpaced = true) ∧ (bitOf (s.fld CDAC_PEN_STAT.PIN) n = true) ∧ (bitOf s.penTarget n = false) ∧
     (∀ m < 4, n < m → bitOf (s.fld CDAC_PEN_STAT.PIN) m = true → bitOf s.penTarget m = true)) ∧
  (∃ (s : State), (s.pwrState = pwrFault) ∧ (s.pwr.faultDue = true) ∧ (s.pwr.faultAt + 1000 ≤ s.now)) ∧
  (∃ (s : State),
     (s.pwrState = pwrLow) ∧ (s.pwr.swLow = false) ∧ (s.flag PWR_STATE.LP_REQ = false) ∧ (s.zonesCool = true)) ∧
  (∃ (s : State), (s.pwrState = pwrLow) ∧ (s.pwr.allowHw = true)) ∧
  (∃ (s : State), (s.modeReady = true) ∧ (s.lowRequest = true) ∧ (s.applying = false)) ∧
  (∃ (s : State) (q : Seq),
     (s.pwr.seqs.find? (fun q => q.num == 1 && q.obj == 0) = some q) ∧ (q.num = 1) ∧ (q.step = 5) ∧
     (s.pwr.held = false)) ∧
  (∃ (s : State) (q : Seq),
     (s.pwr.seqs.find? (fun q => q.num == 2 && q.obj == 0) = some q) ∧ (q.num = 2) ∧ (q.step = 8) ∧
     (s.linkState 2 = 1) ∧ (s.pwr.held = false)) ∧
  (∃ (n : Fin 16) (s : State) (q : Seq),
     (n.val < 4) ∧ (s.pwr.seqs.find? (fun q => q.num == 3 && q.obj == n.val) = some q) ∧ (q.num = 3) ∧
     (bitOf (s.fld CDAC_PEN_STAT.PIN) n = true) ∧ (s.pwr.held = false)) ∧
  (∃ (n : Fin 16) (s : State) (q : Seq),
     (n.val < 8) ∧ (s.pwr.seqs.find? (fun q => q.num == 4 && q.obj == n.val) = some q) ∧ (q.num = 4) ∧
     (s.pwr.held = false)) ∧
  (∃ (n : Fin 16) (s : State) (q : Seq),
     (n.val < 8) ∧ (s.pwr.seqs.find? (fun q => q.num == 5 && q.obj == n.val) = some q) ∧ (q.num = 5) ∧
     (q.step = 1) ∧ (s.pwr.held = false)) ∧
  (∃ (seq : Fin 9) (obj : Fin 16) (dies : BitVec 3) (s : State) (q : Seq),
     (s.pwr.seqs.find? (fun q => q.num == seq.val && q.obj == obj.val) = some q) ∧ (s.pwr.held = false) ∧
     (q.retries = true) ∧ (s.stepOverdue q = true) ∧ (retryIslands q dies.toNat ≠ []) ∧
     (¬ (q.num = 1 ∧ q.step = 2)) ∧ (q.retried = false)) ∧
  (∃ (seq : Fin 9) (obj : Fin 16) (dies : BitVec 3) (s : State) (q : Seq),
     (s.pwr.seqs.find? (fun q => q.num == seq.val && q.obj == obj.val) = some q) ∧ (s.pwr.held = false) ∧
     (q.retries = true) ∧ (s.stepOverdue q = true) ∧ (retryIslands q dies.toNat ≠ []) ∧ (q.num = 2) ∧
     (q.retried = true) ∧ (s.pwrState ≠ pwrFault)) ∧
  (∃ (k : Fin 8) (s : State),
     (s.pwr.seqs.any (fun q => q.num == 5 && q.obj == k.val && decide (q.trigger + 352 ≤ s.now)) = true) ∧
     (s.flag LRX_STAT.DOZE k = false) ∧ (s.lineAm k = false)) :=
  ⟨⟨State.reset, by decide +kernel⟩,
    ⟨State.reset.raise PWR_STATE.FASTOFF, by decide +kernel⟩,
    ⟨2, State.reset.put PWR_PG_STAT.SUPERVISED 4, by decide +kernel⟩,
    ⟨State.reset.put CDAC_PEN_STAT.PIN 6, 2, by decide +kernel⟩,
    ⟨{ State.reset.put PWR_STATE.STATE 5 with pwr := { faultDue := true }, now := 1000 }, by decide +kernel⟩,
    ⟨State.reset.put PWR_STATE.STATE 2, by decide +kernel⟩,
    ⟨State.reset.put PWR_STATE.STATE 2, by decide +kernel⟩,
    ⟨(State.reset.put PWR_STATE.STATE 3).raise PWR_STATE.LP_REQ, by decide +kernel⟩,
    ⟨{ State.reset with pwr := { seqs := [{ num := 1, obj := 0, step := 5 }] } }, { num := 1, obj := 0, step := 5 }, by decide +kernel⟩,
    ⟨{ ((State.reset.put WELT_STAT.STATE 1 1 1).put WELT_STAT.STATE 1 2 1) with pwr := { seqs := [{ num := 2, obj := 0, step := 8 }] } }, { num := 2, obj := 0, step := 8 }, by decide +kernel⟩,
    ⟨1, { State.reset.put CDAC_PEN_STAT.PIN 2 with pwr := { seqs := [{ num := 3, obj := 1, step := 1 }] } }, { num := 3, obj := 1, step := 1 }, by decide +kernel⟩,
    ⟨1, { State.reset with pwr := { seqs := [{ num := 4, obj := 1, step := 1 }] } }, { num := 4, obj := 1, step := 1 }, by decide +kernel⟩,
    ⟨1, { State.reset.raise LRX_STAT.DOZE 1 with pwr := { seqs := [{ num := 5, obj := 1, step := 1 }] } }, { num := 5, obj := 1, step := 1 }, by decide +kernel⟩,
    ⟨1, 0, 1, atTime { State.reset with pwr := { seqs := [{ num := 1, obj := 0, step := 3 }] } } 1000000000, { num := 1, obj := 0, step := 3 }, by decide +kernel⟩,
    ⟨2, 0, 2, atTime { State.reset with pwr := { seqs := [{ num := 2, obj := 0, step := 7, retried := true }] } } 1000000000, { num := 2, obj := 0, step := 7, retried := true }, by decide +kernel⟩,
    ⟨1, atTime { State.reset with pwr := { seqs := [{ num := 5, obj := 1, step := 2 }] } } 352, by decide +kernel⟩⟩

theorem met_PowerLifeResults :
  (∃ (s : State) (id : BitVec 16) (w w0 : Nat),
     (s.aqiqueRuns = true) ∧ (s.wearDue = true) ∧ (isIsland id.toNat = true) ∧
     (s.life.base.find? (fun b => b.1 == id.toNat) = some (id.toNat, w0)) ∧
     ((s.island id.toNat = .on ∨ s.island id.toNat = .doze))) ∧
  (∃ (s : State) (id : BitVec 16) (w : Nat),
     (s.aqiqueRuns = true) ∧ (s.wearDue = true) ∧ (isIsland id.toNat = true) ∧ (s.life.base = [])) ∧
  (∃ (s : State), (s.modeReady = true) ∧ (s.flag PWR_AVS_STAT.ACTIVE = true) ∧ (s.pwr.avsAt + 1000000 ≤ s.now)) ∧
  (∃ (s : State), (s.pwr.held = false) ∧ (s.pwr.minuteAt + 60000000 ≤ s.now)) ∧
  (∃ (s : State), (s.aqiqueRuns = true) ∧ (s.pwr.storeAt + 3600000000 ≤ s.now)) ∧
  (∃ (e : Fin 256) (s : State), (Runs s e 0x01 0x01) ∧ ((s.params e).zeroFrom 0 = true)) ∧
  (∃ (e : Fin 256) (s : State),
     (Runs s e 0x01 0x02) ∧ (((s.params e).byte 0) = 0xA5) ∧ ((s.params e).zeroFrom 1 = true) ∧
     (s.pwr.resetDue = none)) ∧
  (∃ (e : Fin 256) (s : State),
     (Runs s e 0x01 0x03) ∧ (((s.params e).byte 0) = 1) ∧ ((s.params e).zeroFrom 1 = true) ∧
     (s.modeReady = true) ∧ (s.inTransition = false)) ∧
  (∃ (e : Fin 256) (s : State),
     (Runs s e 0x01 0x03) ∧ (((s.params e).byte 0) = 0) ∧ ((s.params e).zeroFrom 1 = true) ∧
     (s.pwrState = pwrLow) ∧ (s.pwr.swLow = false) ∧ ((s.pwr.allowHw = false ∨ s.flag PWR_STATE.LPMODE = false)) ∧
     (s.zonesCool = true) ∧ (s.inTransition = false)) ∧
  (∃ (e : Fin 256) (s : State),
     (Runs s e 0x01 0x03) ∧ (((s.params e).byte 0) = 1) ∧ ((s.params e).zeroFrom 1 = true) ∧
     (s.pwrState = pwrLow) ∧ (s.inTransition = false)) ∧
  (∃ (e : Fin 256) (s : State),
     (Runs s e 0x01 0x04) ∧ ((s.params e).zeroFrom 2 = true) ∧ (isIsland ((s.params e).half 0) = true)) ∧
  (∃ (e : Fin 256) (s : State), (Runs s e 0x01 0x05) ∧ ((s.params e).zeroFrom 0 = true)) :=
  ⟨⟨{ aq with life := { base := [(0x1000, 100)] } }, 0x1000, 90, 100, by decide +kernel⟩,
    ⟨aq, 0x1000, 90, by decide +kernel⟩,
    ⟨atTime ((State.reset.put PWR_STATE.STATE 3).raise PWR_AVS_STAT.ACTIVE) 1000000, by decide +kernel⟩,
    ⟨atTime State.reset 60000000, by decide +kernel⟩,
    ⟨atTime aq 3600000000, by decide +kernel⟩,
    ⟨1, cmdAt 0x01 0x01 [], by decide +kernel⟩,
    ⟨1, cmdAt 0x01 0x02 [0xA5], by decide +kernel⟩,
    ⟨1, (cmdAt 0x01 0x03 [1]).put PWR_STATE.STATE 3, by decide +kernel⟩,
    ⟨1, (cmdAt 0x01 0x03 [0]).put PWR_STATE.STATE 2, by decide +kernel⟩,
    ⟨1, (cmdAt 0x01 0x03 [1]).put PWR_STATE.STATE 2, by decide +kernel⟩,
    ⟨1, cmdAt 0x01 0x04 [0, 0x10], by decide +kernel⟩,
    ⟨1, cmdAt 0x01 0x05 [], by decide +kernel⟩⟩

theorem met_ThermalResults :
  (∃ (n : Fin 24) (count : BitVec 20) (s : State), (s.Shaped) ∧ (s.pwr.held = false) ∧ (s.sensorDue n = true)) ∧
  (∃ (n : Fin 24) (count : BitVec 20) (s : State), (s.Shaped) ∧ (s.pwr.held = false) ∧ (s.sensorDue n = true)) ∧
  (∃ (n : Fin 24) (count : BitVec 20) (s : State), ((s.pwr.held = true ∨ s.sensorDue n = false))) ∧
  (∃ (e : Fin 256) (s : State),
     (Runs s e 0x02 0x01) ∧ (((s.params e).byte 0) ≤ 2) ∧ ((s.params e).zeroFrom 1 = true)) ∧
  (∃ (e : Fin 256) (s : State),
     (Runs s e 0x02 0x01) ∧ ((2 < ((s.params e).byte 0) ∨ (s.params e).zeroFrom 1 = false))) ∧
  (∃ (e : Fin 256) (s : State),
     (Runs s e 0x02 0x02) ∧ (((s.params e).byte 0) ≤ 2) ∧ (60 ≤ (s.params e).byte 1) ∧
     ((s.params e).byte 1 ≤ 115) ∧ ((s.params e).byte 1 + 5 ≤ (s.params e).byte 2) ∧ ((s.params e).byte 2 ≤ 120) ∧
     ((s.params e).byte 2 + 5 ≤ (s.params e).byte 3) ∧ ((s.params e).byte 3 ≤ 125) ∧ ((s.params e).byte 4 ≤ 3) ∧
     ((s.params e).zeroFrom 5 = true) ∧
     ((((s.params e).byte 0) = 2 ∨ ((s.params e).byte 1 ≤ 100 ∧ bitOf ((s.params e).byte 4) 0 = true) ∨
       s.mode.active.fullVnle (((s.params e).byte 0) + 1) = false))) ∧
  (∃ (e : Fin 256) (s : State),
     (Runs s e 0x02 0x02) ∧ (((s.params e).byte 0) ≤ 2) ∧ (60 ≤ (s.params e).byte 1) ∧
     ((s.params e).byte 1 ≤ 115) ∧ ((s.params e).byte 1 + 5 ≤ (s.params e).byte 2) ∧ ((s.params e).byte 2 ≤ 120) ∧
     ((s.params e).byte 2 + 5 ≤ (s.params e).byte 3) ∧ ((s.params e).byte 3 ≤ 125) ∧ ((s.params e).byte 4 ≤ 3) ∧
     ((s.params e).zeroFrom 5 = true) ∧
     (¬ (((s.params e).byte 0) = 2 ∨ ((s.params e).byte 1 ≤ 100 ∧ bitOf ((s.params e).byte 4) 0 = true) ∨
        s.mode.active.fullVnle (((s.params e).byte 0) + 1) = false))) ∧
  (∃ (e : Fin 256) (s : State),
     (Runs s e 0x02 0x02) ∧
     (¬ (((s.params e).byte 0) ≤ 2 ∧ 60 ≤ (s.params e).byte 1 ∧ (s.params e).byte 1 ≤ 115 ∧ (s.params e).byte 1 +
        5 ≤ (s.params e).byte 2 ∧ (s.params e).byte 2 ≤ 120 ∧ (s.params e).byte 2 + 5 ≤ (s.params e).byte 3 ∧
        (s.params e).byte 3 ≤ 125 ∧ (s.params e).byte 4 ≤ 3 ∧ (s.params e).zeroFrom 5 = true))) ∧
  (∃ (e : Fin 256) (count : BitVec 20) (s : State),
     (Runs s e 0x02 0x03) ∧ (s.Shaped) ∧ (((s.params e).byte 0) ≤ 23) ∧ ((s.params e).zeroFrom 1 = true)) ∧
  (∃ (e : Fin 256) (count : BitVec 20) (s : State),
     (Runs s e 0x02 0x03) ∧ (s.Shaped) ∧ (((s.params e).byte 0) ≤ 23) ∧ ((s.params e).zeroFrom 1 = true)) ∧
  (∃ (e : Fin 256) (count : BitVec 20) (s : State),
     (Runs s e 0x02 0x03) ∧ ((23 < ((s.params e).byte 0) ∨ (s.params e).zeroFrom 1 = false))) ∧
  (∃ (e : Fin 256) (s : State) (g : Stage) (b : List Nat) (n : Nat),
     (Runs s e 0x02 0x04) ∧ ((s.params e).zeroFrom 0 = true) ∧ (s.stage = some g) ∧ (g.use = .token) ∧
     (((s.begun e).closeStage.readBytes g.addr 112).1 = some b) ∧ (n = fieldOf b 6 1) ∧
     ((fieldOf b 0 4 = 0x54525354 ∧ fieldOf b 4 2 = 1 ∧ fieldOf b 6 1 ≤ 23)) ∧
     ((fieldOf b 7 1 ≠ 0 ∨ s.sec.key0Revoked = false))) ∧
  (∃ (e : Fin 256) (s : State) (g : Stage) (b : List Nat),
     (Runs s e 0x02 0x04) ∧ ((s.params e).zeroFrom 0 = true) ∧ (s.stage = some g) ∧ (g.use = .token) ∧
     (((s.begun e).closeStage.readBytes g.addr 112).1 = some b) ∧
     ((¬ (fieldOf b 0 4 = 0x54525354 ∧ fieldOf b 4 2 = 1 ∧ fieldOf b 6 1 ≤ 23) ∨
       (fieldOf b 7 1 = 0 ∧ s.sec.key0Revoked = true)))) ∧
  (∃ (e : Fin 256) (s : State),
     (Runs s e 0x02 0x04) ∧ ((s.params e).zeroFrom 0 = true) ∧ ((∀ g, s.stage = some g → g.use ≠ .token))) ∧
  (∃ (e : Fin 256) (s : State), (Runs s e 0x02 0x04) ∧ ((s.params e).zeroFrom 0 = false)) :=
  ⟨⟨3, 7, State.reset, by decide +kernel⟩,
    ⟨3, 7, State.reset, by decide +kernel⟩,
    ⟨3, 7, { State.reset with pwr := { held := true } }, by decide +kernel⟩,
    ⟨1, cmdAt 0x02 0x01 [1], by decide +kernel⟩,
    ⟨1, cmdAt 0x02 0x01 [3], by decide +kernel⟩,
    ⟨1, cmdAt 0x02 0x02 [1, 90, 100, 110, 3], by decide +kernel⟩,
    ⟨1, fullVnled (cmdAt 0x02 0x02 [0, 110, 115, 120, 3]), by decide +kernel⟩,
    ⟨1, cmdAt 0x02 0x02 [1, 90, 94, 110, 3], by decide +kernel⟩,
    ⟨1, 7, cmdAt 0x02 0x03 [3], by decide +kernel⟩,
    ⟨1, 7, cmdAt 0x02 0x03 [3], by decide +kernel⟩,
    ⟨1, 7, cmdAt 0x02 0x03 [24], by decide +kernel⟩,
    ⟨1, tokenAt (cmdAt 0x02 0x04 []) retireToken, ⟨.token, 0x1000000, 4096⟩, retireToken, 3, (by decide +kernel), (by decide +kernel), (by decide +kernel), (by decide +kernel), retire_bytes, (by decide +kernel), (by decide +kernel), (by decide +kernel)⟩,
    ⟨1, tokenAt (cmdAt 0x02 0x04 []) (List.replicate 112 0), ⟨.token, 0x1000000, 4096⟩, List.replicate 112 0, (by decide +kernel), (by decide +kernel), (by decide +kernel), (by decide +kernel), blank_bytes, (by decide +kernel)⟩,
    ⟨1, cmdAt 0x02 0x04 [], by decide +kernel⟩,
    ⟨1, cmdAt 0x02 0x04 [1], by decide +kernel⟩⟩

theorem met_ResetAndBootResults :
  (∃ (s : State),
     (s.pwr.supplyLow = true) ∧ (s.pwr.resetLow = false) ∧ (s.flag PWR_STATE.FASTOFF = false) ∧
     (s.flag PWR_STATE.PFAIL = false)) ∧
  (∃ (s : State), (s.pwr.resetLow = false) ∧ (s.pwr.supplyLow = false)) ∧
  (∃ (s : State),
     (s.pwr.resetLow = true) ∧ (s.pwr.supplyLow = false) ∧ (s.flag PWR_STATE.FASTOFF = false) ∧
     (s.flag PWR_STATE.PFAIL = false)) ∧
  (∃ (s : State) (r : ResetDue) (at_ : Nat),
     (s.pwr.resetDue = some r) ∧ (r.due = some at_) ∧ (at_ ≤ s.now) ∧ (s.pwr.held = false) ∧
     (s.flag PWR_STATE.FASTOFF = false) ∧ (s.flag PWR_STATE.PFAIL = false)) ∧
  (∃ (s : State),
     (s.pwr.held = false) ∧ (s.pwr.boot = .started) ∧ (s.boot.startedAt + watchdogTime ≤ s.now) ∧
     (s.flag PWR_STATE.FASTOFF = false) ∧ (s.flag PWR_STATE.PFAIL = false)) ∧
  (∃ (s : State), (s.flag PWR_STATE.PFAIL = false) ∧ (s.pwr.held = false)) ∧
  (∃ (s : State), (s.flag PWR_STATE.PFAIL = true) ∧ (s.pwr.held = false) ∧ (s.cal.abandoned = none)) ∧
  (∃ (s : State) (a : Abandoned),
     (s.flag PWR_STATE.PFAIL = true) ∧ (s.pwr.held = false) ∧ (s.cal.abandoned = some a) ∧
     (a.waiter.aqique = false) ∧ ((s.eyelet a.waiter.eyelet).st = .running) ∧
     ((s.eyelet a.waiter.eyelet).serial = a.waiter.serial) ∧ ((s.eyelet a.waiter.eyelet).reply = none)) ∧
  (∃ (s : State),
     (s.pwr.held = false) ∧ (s.pwrState = pwrBoot) ∧ (s.pwr.boot = .rom) ∧ (s.seqOn 1 0 = false) ∧
     (s.sec.pending = none)) ∧
  (∃ (s : State) (p : Nat),
     (s.pwr.held = false) ∧ (s.pwrState = pwrBoot) ∧ (s.pwr.boot = .rom) ∧ (s.seqOn 1 0 = false) ∧
     (s.sec.pending = some p) ∧ (s.sec.tried = false)) ∧
  (∃ (s : State) (p : Nat),
     (s.pwr.held = false) ∧ (s.pwrState = pwrBoot) ∧ (s.pwr.boot = .rom) ∧ (s.seqOn 1 0 = false) ∧
     (s.sec.pending = some p) ∧ (s.sec.tried = true)) ∧
  (∃ (src : Master) (data : W32) (fail : Bool) (s : State),
     (Writes s src 0x4090044) ∧ (s.flag SEC_STAT.RECOVERY = true) ∧ (getBits data 0 1 = 1)) ∧
  (∃ (pc : W32) (s : State),
     (s.pwr.held = false) ∧ (s.cobblerStopped = false) ∧ ((s.pwr.boot = .started ∨ s.pwr.boot = .ready)) ∧
     (s.pwrState ≠ pwrFault)) ∧
  (∃ (s : State), (s.pwr.held = false) ∧ (s.pwr.boot = .started) ∧ (s.cobblerStopped = false)) :=
  ⟨⟨{ State.reset with pwr := { held := true, supplyLow := true } }, by decide +kernel⟩,
    ⟨State.reset.raise SEC_STAT.LOCKOUT, by decide +kernel⟩,
    ⟨{ State.reset with pwr := { held := true, resetLow := true } }, by decide +kernel⟩,
    ⟨{ State.reset with now := 5, pwr := { resetDue := some { source := 1, due := some 5 } } }, { source := 1, due := some 5 }, 5, by decide +kernel⟩,
    ⟨{ State.reset with pwr := { boot := .started }, now := 5000000 }, by decide +kernel⟩,
    ⟨{ State.reset with boot := { update := some 4096 }, stage := some ⟨.firmware, 0x1000000, 65536⟩ }, by decide +kernel⟩,
    ⟨State.reset.raise PWR_STATE.PFAIL, by decide +kernel⟩,
    ⟨{ (cmdAt 0x11 0x09 []).raise PWR_STATE.PFAIL with cal := { abandoned := some ⟨0, 1, ⟨1, 0, false⟩⟩ } }, ⟨0, 1, ⟨1, 0, false⟩⟩, by decide +kernel⟩,
    ⟨booting, by decide +kernel⟩,
    ⟨{ booting with sec := { pending := some 1 } }, 1, by decide +kernel⟩,
    ⟨{ booting with sec := { pending := some 1, tried := true } }, 1, by decide +kernel⟩,
    ⟨.spi, 1, false, State.reset.raise SEC_STAT.RECOVERY, by decide +kernel⟩,
    ⟨9, { State.reset with pwr := { boot := .started } }, by decide +kernel⟩,
    ⟨{ State.reset with pwr := { boot := .started } }, by decide +kernel⟩⟩

theorem met_SecurityAndStoreResults :
  (∃ (e : Fin 256) (s : State),
     (Runs s e 0x0F 0x01) ∧ ((s.params e).wordAt 0 = 0) ∧ ((s.params e).zeroFrom 8 = true) ∧
     ((s.params e).wordAt 4 % 8 = 0) ∧ (128 ≤ (s.params e).wordAt 4) ∧ ((s.params e).wordAt 4 ≤ 1048672) ∧
     (s.flag SEC_STAT.TRIAL = false) ∧ (s.boot.update = none) ∧ (s.fld SEC_STAT.SLOT ≠ s.spareSlot) ∧
     (s.stage = none) ∧ (s.sec.active ≤ 1) ∧ (s.sec.slots.length = 2)) ∧
  (∃ (e : Fin 256) (s : State) (size : Nat) (g : Stage) (ws : List W64),
     (Runs s e 0x0F 0x02) ∧ (s.boot.update = some size) ∧ (s.stage = some g) ∧ ((s.params e).wordAt 0 = 0) ∧
     ((s.params e).zeroFrom 12 = true) ∧ ((s.params e).wordAt 4 % 8 = 0) ∧ ((s.params e).wordAt 8 % 8 = 0) ∧
     ((s.params e).wordAt 8 ≤ 65536) ∧ ((s.params e).wordAt 4 + (s.params e).wordAt 8 ≤ size) ∧
     (((s.begun e).readWords ((List.range ((s.params e).wordAt 8 / 8)).map (fun i => g.addr + 8 * i))).1 = some ws) ∧
     (s.sec.active ≤ 1) ∧ (size ≤ 1048672)) ∧
  (∃ (e : Fin 256) (s : State),
     (Runs s e 0x0F 0x03) ∧ ((s.params e).zeroFrom 0 = true) ∧ (s.boot.update.isSome = true) ∧
     (s.sec.active ≤ 1) ∧ (s.sec.slots.length = 2)) ∧
  (∃ (e : Fin 256) (s : State),
     (Runs s e 0x0F 0x04) ∧ (((s.params e).byte 0) ≤ 1) ∧ ((s.params e).zeroFrom 1 = true) ∧
     (s.flag SEC_STAT.TRIAL = false) ∧ ((s.fwSlot s.spareSlot).valid = true)) ∧
  (∃ (e : Fin 256) (s : State),
     (Runs s e 0x0F 0x05) ∧ ((s.params e).zeroFrom 0 = true) ∧ (s.flag SEC_STAT.TRIAL = true)) ∧
  (∃ (e : Fin 256) (s : State), (Runs s e 0x0F 0x06) ∧ ((s.params e).zeroFrom 0 = true)) ∧
  (∃ (e : Fin 256) (s : State), (Runs s e 0x0F 0x07) ∧ ((s.params e).zeroFrom 0 = true) ∧ (s.stage = none)) ∧
  (∃ (e : Fin 256) (s : State) (g : Stage) (b : List Nat),
     (Runs s e 0x0F 0x08) ∧ ((s.params e).zeroFrom 0 = true) ∧ (s.stage = some g) ∧ (g.use = .token) ∧
     (((s.begun e).closeStage.readBytes g.addr 216).1 = some b) ∧ (fieldOf b 0 4 = 0x54524543) ∧
     (fieldOf b 4 2 = 1) ∧ (fieldOf b 6 1 ≤ 3) ∧ (fieldOf b 7 1 = 1) ∧ (s.keyOf (fieldOf b 6 1) = none) ∧
     (fieldOf b 0xC 1 ≠ 0) ∧ (fieldOf b 0x10 8 = 0)) ∧
  (∃ (e : Fin 256) (s : State),
     (Runs s e 0x0F 0x09) ∧ ((s.params e).zeroFrom 0 = true) ∧ (s.flag SEC_STAT.LOCKOUT = false)) ∧
  (∃ (e : Fin 256) (s : State) (g : Stage) (b : List Nat),
     (Runs s e 0x0F 0x0A) ∧ (s.flag SEC_STAT.LOCKOUT = false) ∧ ((s.params e).zeroFrom 0 = true) ∧
     (s.stage = some g) ∧ (g.use = .token) ∧ (((s.begun e).closeStage.readBytes g.addr 128).1 = some b) ∧
     (fieldOf b 0 4 = 0x4E4B5444) ∧ (fieldOf b 4 2 = 1) ∧ ((fieldOf b 6 1 = 1 ∨ fieldOf b 6 1 = 2)) ∧
     (fieldOf b 7 1 ≠ 0)) ∧
  (∃ (e : Fin 256) (s : State), (Runs s e 0x0F 0x0B) ∧ ((s.params e).zeroFrom 0 = true)) ∧
  (∃ (e : Fin 256) (s : State),
     (Runs s e 0x0F 0x0C) ∧ (((s.params e).byte 0) ≤ 3) ∧ ((s.params e).zeroFrom 1 = true)) ∧
  (∃ (e : Fin 256) (s : State), (Runs s e 0x11 0x07) ∧ ((s.params e).zeroFrom 0 = true)) ∧
  (∃ (e : Fin 256) (s : State), (Runs s e 0x11 0x08) ∧ ((s.params e).zeroFrom 0 = true) ∧ (s.stage = none)) ∧
  (∃ (e : Fin 256) (s : State) (es : List CalEntry) (len : Nat),
     (Runs s e 0x11 0x09) ∧ ((s.params e).wordAt 0 % 2 = 0) ∧ ((s.params e).wordAt 0 < 256) ∧
     ((s.params e).wordAt 4 = 0) ∧ ((s.params e).zeroFrom 8 = true) ∧ (s.cal.abandoned = none) ∧
     (s.flag PWR_STATE.PFAIL = false) ∧ (es = s.captured ((s.params e).wordAt 0)) ∧
     (len = (es.flatMap CalEntry.bytes).length) ∧ (len ≤ 524224)) ∧
  (∃ (e : Fin 256) (fate : StoreFate) (s : State),
     (Runs s e 0x11 0x09) ∧ ((s.params e).wordAt 0 % 2 = 0) ∧ ((s.params e).wordAt 0 < 256) ∧
     ((s.params e).wordAt 4 = 0) ∧ ((s.params e).zeroFrom 8 = true) ∧ (s.cal.abandoned = none) ∧
     (s.flag PWR_STATE.PFAIL = true) ∧
     (((s.captured ((s.params e).wordAt 0)).flatMap CalEntry.bytes).length ≤ 524224)) :=
  ⟨⟨1, cmdAt 0x0F 0x01 [0, 0, 0, 0, 0, 16], by decide +kernel⟩,
    ⟨1, chunkAt, 4096, ⟨.firmware, 0x1000000, 65536⟩, [7, 9], (by decide +kernel), (by decide +kernel), (by decide +kernel), (by decide +kernel), (by decide +kernel), (by decide +kernel), (by decide +kernel), (by decide +kernel), (by decide +kernel), chunk_words, (by decide +kernel), (by decide +kernel)⟩,
    ⟨1, { cmdAt 0x0F 0x03 [] with boot := { update := some 4096 } }, by decide +kernel⟩,
    ⟨1, { cmdAt 0x0F 0x04 [1] with sec := { slots := [{}, ⟨true, 1, 1⟩] } }, by decide +kernel⟩,
    ⟨1, { (cmdAt 0x0F 0x05 []).raise SEC_STAT.TRIAL with sec := { counter := 1, slots := [⟨true, 9, 3⟩, {}] } }, by decide +kernel⟩,
    ⟨1, cmdAt 0x0F 0x06 [], by decide +kernel⟩,
    ⟨1, cmdAt 0x0F 0x07 [], by decide +kernel⟩,
    ⟨1, tokenAt (cmdAt 0x0F 0x08 []) certToken, ⟨.token, 0x1000000, 4096⟩, certToken, (by decide +kernel), (by decide +kernel), (by decide +kernel), (by decide +kernel), cert_bytes, (by decide +kernel), (by decide +kernel), (by decide +kernel), (by decide +kernel), (by decide +kernel), (by decide +kernel), (by decide +kernel)⟩,
    ⟨1, cmdAt 0x0F 0x09 [], by decide +kernel⟩,
    ⟨1, tokenAt (cmdAt 0x0F 0x0A []) unlockToken, ⟨.token, 0x1000000, 4096⟩, unlockToken, (by decide +kernel), (by decide +kernel), (by decide +kernel), (by decide +kernel), (by decide +kernel), unlock_bytes, (by decide +kernel), (by decide +kernel), (by decide +kernel), (by decide +kernel)⟩,
    ⟨1, (cmdAt 0x0F 0x0B []).put SEC_STAT.DEBUG_LEVEL 2, by decide +kernel⟩,
    ⟨1, cmdAt 0x0F 0x0C [2], by decide +kernel⟩,
    ⟨1, cmdAt 0x11 0x07 [], by decide +kernel⟩,
    ⟨1, cmdAt 0x11 0x08 [], by decide +kernel⟩,
    ⟨1, cmdAt 0x11 0x09 [], [], 0, by decide +kernel⟩,
    ⟨1, .written, (cmdAt 0x11 0x09 []).raise PWR_STATE.PFAIL, by decide +kernel⟩⟩

theorem met_RecorderResults :
  (∃ (s : State) (ev : Event) (rest : List Event),
     (s.evrRuns = true) ∧ (s.flag EVR_STAT.DEGRADED = false) ∧ (s.events = ev :: rest) ∧
     (s.evr.fifo.length < 64) ∧ (s.stageRoom = false)) ∧
  (∃ (s : State) (ev : Event) (rest : List Event),
     (s.evrRuns = true) ∧ (s.flag EVR_STAT.DEGRADED = false) ∧ (s.events = ev :: rest) ∧ (s.evr.fifo = []) ∧
     (s.evr.drops = none) ∧ (s.flag EVR_STAT.STG_FAILED = false) ∧ (s.evr.staged.length < 512) ∧
     (ev.waiter = none)) ∧
  (∃ (s : State) (ev : Event) (rest : List Event),
     (s.evrRuns = true) ∧ (s.flag EVR_STAT.DEGRADED = false) ∧ (s.events = ev :: rest) ∧
     (64 ≤ s.evr.fifo.length) ∧ (ev.waiter = none)) ∧
  (∃ (s : State) (r : Staged) (rest : List Staged),
     (s.evrRuns = true) ∧ (s.flag EVR_STAT.FROZEN = false) ∧ (s.flag EVR_STAT.RING_FAILED = false) ∧
     (s.evr.staged = r :: rest) ∧ (r.at_ + 100000 ≤ s.now)) ∧
  (∃ (s : State) (r : Staged) (rest : List Staged) (ws : List W64),
     (s.evrRuns = true) ∧ ((s.evr.written = none ∨ ∃ at_, s.evr.written = some at_ ∧ at_ + 20 ≤ s.now)) ∧
     (s.flag EVR_STAT.FROZEN = false) ∧ (s.flag EVR_STAT.RING_FAILED = false) ∧
     (s.flag EVR_STAT.DEGRADED = false) ∧ (s.evr.staged = r :: rest) ∧ (r ∉ rest) ∧ (s.evr.flushing = true) ∧
     ((s.readRecord (stageWord r.seq)).1 = some ws) ∧ (s.evr.fifo = [])) ∧
  (∃ (s : State) (r : Staged) (rest : List Staged) (ws : List W64),
     (s.evrRuns = true) ∧ ((s.evr.written = none ∨ ∃ at_, s.evr.written = some at_ ∧ at_ + 20 ≤ s.now)) ∧
     (s.flag EVR_STAT.FROZEN = false) ∧ (s.flag EVR_STAT.RING_FAILED = false) ∧
     (s.flag EVR_STAT.DEGRADED = false) ∧ (s.evr.staged = r :: rest) ∧ (s.evr.flushing = true) ∧
     ((s.readRecord (stageWord r.seq)).1 = some ws) ∧ (s.evr.fifo = []) ∧ (s.evr.place < 32768)) ∧
  (∃ (s : State) (n : Nat),
     (s.evrRuns = true) ∧ (s.aqiqueRuns = true) ∧ (s.flag EVR_STAT.DEGRADED = false) ∧ (s.evr.emg = [n]) ∧
     (n < 4) ∧ (s.stageRoom = true) ∧ (s.evr.staged.length < 512)) ∧
  (∃ (s : State),
     (s.aqiqueRuns = true) ∧ (s.evr.aligned = none) ∧ (s.timeRuns s.primary = true) ∧
     ((s.todState s.primary = todLocked ∨ s.todState s.primary = todHoldover))) ∧
  (∃ (s : State),
     (s.flag EVR_STAT.FROZEN = true) ∧ (s.evr.limit ≠ 0) ∧ (s.evr.frozenAt + 1000000 * s.evr.limit ≤ s.now)) ∧
  (∃ (src : Master) (s : State), (Issues s src 0x4070040) ∧ (s.flag EVR_STAT.DEGRADED = false) ∧ (s.evrSeqs = [])) ∧
  (∃ (src : Master) (s : State) (r : Staged) (ws : List W64),
     (Issues s src 0x4070040) ∧ (s.flag EVR_STAT.DEGRADED = false) ∧ (s.evr.staged = [r]) ∧ (s.evr.ring = []) ∧
     (r.seq = (s.reg .EVR_CURSOR (srcId src)).toNat) ∧ ((s.readRecord (stageWord r.seq)).1 = some ws)) ∧
  (∃ (e : Fin 256) (s : State),
     (Runs s e 0x12 0x01) ∧ ((s.params e).wordAt 0 = 0) ∧ ((s.params e).half 4 ≤ 3600) ∧
     ((s.params e).zeroFrom 6 = true)) ∧
  (∃ (e : Fin 256) (s : State), (Runs s e 0x12 0x02) ∧ ((s.params e).zeroFrom 0 = true)) ∧
  (∃ (e : Fin 256) (s : State), (Runs s e 0x12 0x03) ∧ ((s.params e).zeroFrom 0 = true)) ∧
  (∃ (e : Fin 256) (s : State),
     (Runs s e 0x12 0x04) ∧ ((s.params e).wordAt 0 = 0) ∧ ((s.params e).zeroFrom 20 = true)) ∧
  (∃ (e : Fin 256) (s : State),
     ((s.eyelet e).st = .running) ∧ ((s.eyelet e).started = true) ∧ ((s.eyelet e).reply = none) ∧
     (descByte (s.eyelet e).desc 2 = 0x12) ∧ (descByte (s.eyelet e).desc 3 = 0x04) ∧
     ((s.eyelet e).accepted + 1000000 ≤ s.now)) :=
  ⟨⟨{ recording.raise EVR_STAT.STG_FAILED with events := [⟨0x0105, 1, 1, 0, 0, 0, none⟩] }, ⟨0x0105, 1, 1, 0, 0, 0, none⟩, [], by decide +kernel⟩,
    ⟨{ recording with events := [⟨0x0105, 1, 1, 0, 0, 0, none⟩] }, ⟨0x0105, 1, 1, 0, 0, 0, none⟩, [], by decide +kernel⟩,
    ⟨{ recording with events := [⟨0x0105, 1, 1, 0, 0, 0, none⟩], evr := { fifo := List.replicate 64 ⟨⟨0x0105, 1, 1, 0, 0, 0, none⟩, 0, true⟩ } }, ⟨0x0105, 1, 1, 0, 0, 0, none⟩, [], by decide +kernel⟩,
    ⟨{ recording with now := 100000, evr := { staged := [⟨0, 1, 0x105, 0⟩] } }, ⟨0, 1, 0x105, 0⟩, [], by decide +kernel⟩,
    ⟨flushable, ⟨0, 1, 0x105, 0⟩, [], [1, 2, 3, 4], (by decide +kernel), (by decide +kernel), (by decide +kernel), (by decide +kernel), (by decide +kernel), (by decide +kernel), (by decide +kernel), (by decide +kernel), flushable_record, (by decide +kernel)⟩,
    ⟨flushable, ⟨0, 1, 0x105, 0⟩, [], [1, 2, 3, 4], (by decide +kernel), (by decide +kernel), (by decide +kernel), (by decide +kernel), (by decide +kernel), (by decide +kernel), (by decide +kernel), flushable_record, (by decide +kernel), (by decide +kernel)⟩,
    ⟨{ recording with evr := { emg := [2] } }, 2, by decide +kernel⟩,
    ⟨(timed.raise MBX_STAT.READY).put TIME_STAT.STATE 3 1, by decide +kernel⟩,
    ⟨{ recording.raise EVR_STAT.FROZEN with now := 5000000, evr := { limit := 5, frozenAt := 0 } }, by decide +kernel⟩,
    ⟨.spi, recording, by decide +kernel⟩,
    ⟨.spi, flushable, ⟨0, 1, 0x105, 0⟩, [1, 2, 3, 4], (by decide +kernel), (by decide +kernel), (by decide +kernel), (by decide +kernel), (by decide +kernel), flushable_record⟩,
    ⟨1, cmdAt 0x12 0x01 [0, 0, 0, 0, 9], by decide +kernel⟩,
    ⟨1, (cmdAt 0x12 0x02 []).raise EVR_STAT.FROZEN, by decide +kernel⟩,
    ⟨1, cmdAt 0x12 0x03 [], by decide +kernel⟩,
    ⟨1, cmdAt 0x12 0x04 [0, 0, 0, 0, 9], by decide +kernel⟩,
    ⟨1, { (cmdAt 0x12 0x04 []).begun 1 with now := 1000000 }, by decide +kernel⟩⟩

theorem met_StepRunsFront :
  (∃ (c : Instr) (rest : List Instr) (s : State), s.pending = c :: rest) ∧
  (∃ s : State, s.pending = []) :=
  ⟨⟨.fastoffAssert, [], { State.reset with pending := [.fastoffAssert] }, by decide⟩,
    ⟨State.reset, by decide⟩⟩

theorem met_StepKeepsInvariant :
  (∃ s t : State, s.Inv ∧ Machine.step s = .next t) :=
  ⟨State.reset, _, by decide +kernel, rfl⟩

theorem met_TransmitterAfterReset :
  (∃ (c : Instr) (s t : State), TakesReset c s ∧ Machine.exec c s = .next t) :=
  ⟨.supplyLoss, State.reset, _, trivial, rfl⟩

theorem met_FaultEndsOnlyInReset :
  (∃ (c : Instr) (s t : State), Machine.exec c s = .next t ∧ FaultQuiet s) ∧
  (∃ (c : Instr) (s t : State),
     Machine.exec c s = .next t ∧ isReset c = false ∧ FaultQuiet s ∧ s.pwrState = pwrFault) :=
  ⟨⟨.lifeStore, State.reset, _, rfl, by unfold FaultQuiet; decide +kernel⟩,
    ⟨.lifeStore, { State.reset.put PWR_STATE.STATE 5 with pwr := {} }, _, rfl, rfl, by unfold FaultQuiet; decide +kernel, by decide +kernel⟩⟩

theorem met_ReadySetByAqiqueOnly :
  (∃ (c : Instr) (s t : State), Machine.exec c s = .next t ∧ isReset c = false ∧ s.flag MBX_STAT.READY = true) ∧
  (∃ (c : Instr) (s t : State),
     Machine.exec c s = .next t ∧ s.flag MBX_STAT.READY = false ∧ t.flag MBX_STAT.READY = true) :=
  ⟨⟨.lifeStore, aq, _, rfl, rfl, by decide⟩,
    let ⟨t, h, r⟩ := aqique_ready (s := { State.reset with pwr := { boot := .started } }) (by decide +kernel);
      ⟨.aqiqueReady, _, t, h, by decide +kernel, r⟩⟩

theorem met_RollbackCounterNeverDecreases :
  (∃ (c : Instr) (s t : State), Machine.exec c s = .next t) :=
  ⟨.lifeStore, State.reset, _, rfl⟩

theorem met_LockoutUntilPowerUp :
  (∃ (e : Fin 256) (s : State) (b : List Nat),
     Runs s e 0x0F 0x0A ∧ (s.params e).zeroFrom 0 = true ∧ s.flag SEC_STAT.LOCKOUT = false ∧
     ((s.begun e).takeToken 128).1 = .ok b) ∧
  (∃ (e : Fin 256) (s : State),
     (s.params e).zeroFrom 0 = true ∧ s.flag SEC_STAT.LOCKOUT = true ∧ Runs s e 0x0F 0x09) ∧
  (∃ (e : Fin 256) (s : State),
     (s.params e).zeroFrom 0 = true ∧ s.flag SEC_STAT.LOCKOUT = true ∧ Runs s e 0x0F 0x0A) ∧
  (∃ (c : Instr) (s t : State), Machine.exec c s = .next t ∧ c ≠ .supplyLoss ∧ s.flag SEC_STAT.LOCKOUT = true) :=
  ⟨⟨1, tokenAt (cmdAt 0x0F 0x0A []) unlockToken, unlockToken, by decide +kernel, by decide +kernel, by decide +kernel, take_unlock⟩,
    ⟨1, (cmdAt 0x0F 0x09 []).raise SEC_STAT.LOCKOUT, by decide⟩,
    ⟨1, (cmdAt 0x0F 0x0A []).raise SEC_STAT.LOCKOUT, by decide⟩,
    ⟨.lifeStore, State.reset.raise SEC_STAT.LOCKOUT, _, rfl, by decide, by decide⟩⟩

theorem met_OffIslandAnswersOff :
  (∃ (src : Master) (addr : W32) (s : State) (b : Block) (off : Nat) (wide : Bool),
     blockAt addr.toNat = some (b, off) ∧ s.island b.island ≠ .on ∧ s.island b.island ≠ .doze ∧
     s.canIssue src = true ∧ s.mustWait src addr.toNat = false ∧ widthOk src (readOp wide) addr.toNat = true) ∧
  (∃ (src : Master) (addr : W32) (s : State) (b : Block) (off : Nat),
     blockAt addr.toNat = some (b, off) ∧ s.island b.island ≠ .on ∧ s.island b.island ≠ .doze ∧
     s.canIssue src = true ∧ s.mustWait src addr.toNat = false ∧ addr.toNat % 4 = 0 ∧
     (isHost src = true → s.hostPerm src addr.toNat ≠ .no) ∧ (src = .jtag → s.fld SEC_STAT.DEBUG_LEVEL = 2)) :=
  ⟨⟨.cobbler, 0x10800004, welted State.reset, .line 0, 0x4, false, by decide +kernel⟩,
    ⟨.cobbler, 0x10800004, welted State.reset, .line 0, 0x4, by decide +kernel⟩⟩

theorem met_BusyOnDemandRequestRejected :
  (∃ (src : Master) (s : State) (q : OdReq), Writes s src 0x4060020 ∧ srcId src ≤ 3 ∧ s.odOf (srcId src) = some q) ∧
  (∃ (e : Fin 256) (s : State) (q : OdReq),
     Runs s e 0x0D 0x06 ∧ (s.params e).byte 0 ≤ 31 ∧ (s.params e).zeroFrom 1 = true ∧ s.flag MON_CTL.RUN = true ∧
     s.odOf 0 = some q) ∧
  (∃ (e : Fin 256) (s : State),
     Runs s e 0x0D 0x06 ∧ (s.params e).byte 0 ≤ 31 ∧ (s.params e).zeroFrom 1 = true ∧ s.flag MON_CTL.RUN = true ∧
     s.odOf 0 = none) :=
  ⟨⟨.spi, { State.reset.setIsland 0x05 .on with mon := { od := [⟨1, 2, none⟩] } }, ⟨1, 2, none⟩, by decide +kernel⟩,
    ⟨1, { (cmdAt 0x0D 0x06 [3]).raise MON_CTL.RUN with mon := { od := [⟨0, 2, none⟩] } }, ⟨0, 2, none⟩, by decide +kernel⟩,
    ⟨1, (cmdAt 0x0D 0x06 [3]).raise MON_CTL.RUN, by decide +kernel⟩⟩

theorem met_RecordsAreNumberedInOrder :
  (∃ (s : State) (e : FifoEntry) (rest : List FifoEntry), s.evr.fifo = e :: rest) ∧
  (∃ (s : State) (seq tail : Nat) (more : List Nat),
     s.flag EVR_STAT.DEGRADED = false ∧ s.evrSeqs = tail :: more ∧ 2 ^ 31 ≤ (seq + 2 ^ 32 - tail) % 2 ^ 32) ∧
  (∃ (s : State) (seq tail : Nat) (more : List Nat),
     s.flag EVR_STAT.DEGRADED = false ∧ s.evrSeqs = tail :: more ∧ (seq + 2 ^ 32 - tail) % 2 ^ 32 < 2 ^ 31 ∧
     (more.getLastD tail + 2 ^ 32 - tail) % 2 ^ 32 < (seq + 2 ^ 32 - tail) % 2 ^ 32) ∧
  (∃ (s : State) (seq tail : Nat) (more : List Nat),
     s.flag EVR_STAT.DEGRADED = false ∧ s.evrSeqs = tail :: more ∧
     (seq + 2 ^ 32 - tail) % 2 ^ 32 ≤ (more.getLastD tail + 2 ^ 32 - tail) % 2 ^ 32) :=
  ⟨⟨{ State.reset with evr := { fifo := [⟨⟨0x105, 1, 1, 0, 0, 0, none⟩, 0, true⟩] } }, _, _, rfl⟩,
    ⟨{ State.reset with evr := { ring := [(0, 5)] } }, 4, 5, [], by decide⟩,
    ⟨{ State.reset with evr := { ring := [(0, 5)] } }, 6, 5, [], by decide⟩,
    ⟨{ State.reset with evr := { ring := [(0, 5)] } }, 5, 5, [], by decide⟩⟩

theorem met_CountersSaturateOrWrap :
  (∃ (s : State) (r : Reg) (u i n : Nat) (f : Fld) (fu : Nat),
     satField r u = some (f, fu) ∧ 0 < n ∧ (s.cnt r u i).toNat < cntMax ∧ cntMax ≤ (s.cnt r u i).toNat + n) ∧
  (∃ (s : State) (r : Reg) (u i n b a : _),
     satField r u = none ∧ cntMax < (s.cnt r u i).toNat + n ∧ counterHome ⟨r, u, i⟩ = some (b, a) ∧
     s.rateOk 0x1301 b.island = true) :=
  ⟨⟨State.reset.setCnt .PWR_RETRY_CNT (BitVec.ofNat 48 (2 ^ 48 - 2)), .PWR_RETRY_CNT, 0, 0, 1, _, _, rfl, by decide +kernel⟩,
    ⟨State.reset.setCnt .PWR_FASTOFF_CNT (BitVec.ofNat 48 (2 ^ 48 - 1)), .PWR_FASTOFF_CNT, 0, 0, 1, _, _, rfl, by decide +kernel, rfl, by decide +kernel⟩⟩

theorem met_BusCommandFrames :
  (∃ (src : Master) (rack : Fin 64) (data : W32) (s : State), (Writes s src (Block.rack rack).base)) ∧
  (∃ (src : Master) (addr data : W32) (s : State) (b : Block) (off : Nat) (k : RKey) (n : Nat) (sh : Bool),
     (Writes s src addr.toNat) ∧ (addr.toNat % 4 = 0) ∧ (blockAt addr.toNat = some (b, off)) ∧
     (memKind b off = none) ∧ (busReg b off = some (k, n, sh)) ∧ (k.reg.words = 1) ∧ (ownEffect k.reg = false) ∧
     (countsBus k.reg = false)) ∧
  (∃ (src : Master) (addr : W32) (s : State) (b : Block) (off : Nat) (k : RKey) (n : Nat) (sh : Bool),
     (Issues s src addr.toNat) ∧ (addr.toNat % 4 = 0) ∧ (blockAt addr.toNat = some (b, off)) ∧
     (memKind b off = none) ∧ (busReg b off = some (k, n, sh)) ∧ (k.reg.words = 1) ∧ (k.reg.access.rc ≠ 0)) ∧
  (∃ (src : Master) (addr : W32) (wide : Bool) (s : State) (b : Block) (off : Nat) (k : RKey) (n : Nat) (sh :
     Bool),
     (Issues s src addr.toNat) ∧
     ((if wide then addr.toNat % 8 = 0 ∧ (src = .cobbler ∨ src = .dma) else addr.toNat % 4 = 0)) ∧
     (blockAt addr.toNat = some (b, off)) ∧ (memKind b off = none) ∧ (busReg b off = some (k, n, sh)) ∧ (n = 0) ∧
     (k.reg.words ≠ 1) ∧ (isQueue k.reg = false) ∧ (k.reg ≠ .EVR_WIN) ∧ (k.reg ≠ .CNT_VAL)) ∧
  (∃ (src : Master) (addr : W32) (wide : Bool) (s : State) (b : Block) (off : Nat) (k : RKey) (n : Nat) (sh :
     Bool),
     (Issues s src addr.toNat) ∧
     ((if wide then addr.toNat % 8 = 0 ∧ (src = .cobbler ∨ src = .dma) else addr.toNat % 4 = 0)) ∧
     (blockAt addr.toNat = some (b, off)) ∧ (memKind b off = none) ∧ (busReg b off = some (k, n, sh)) ∧ (n = 0) ∧
     (isQueue k.reg = true)) ∧
  (∃ (upset : W72) (s : State) (src : Master) (addr : W32) (d : W64),
     (Issues s src addr.toNat) ∧ (addr.toNat % 4 = 0) ∧ (0x1000000 ≤ addr.toNat) ∧ (addr.toNat < 0x1200000) ∧
     (classify ((s.hit (cellOf addr.toNat) upset).word (cellOf addr.toNat)) = .clean d)) ∧
  (∃ (upset : W72) (s : State) (src : Master) (addr : W32) (d : W64),
     (Issues s src addr.toNat) ∧ (addr.toNat % 4 = 0) ∧ (0x1000000 ≤ addr.toNat) ∧ (addr.toNat < 0x1200000) ∧
     ((s.hit (cellOf addr.toNat) upset).word (cellOf addr.toNat) = poisoned d)) ∧
  (∃ (src : Master) (addr : W32) (wide : Bool) (data : W64) (be : BitVec 8) (s : State) (old : W64),
     (Writes s src addr.toNat) ∧
     ((if wide then addr.toNat % 8 = 0 ∧ (src = .cobbler ∨ src = .dma) ∧ be.toNat ≠ 0xFF else addr.toNat % 4 = 0)) ∧
     (0x1000000 ≤ addr.toNat) ∧ (addr.toNat < 0x1200000) ∧ (classify (s.word (addr.toNat / 8 * 8)) = .clean old)) ∧
  (∃ (src : Master) (addr : W32) (wide : Bool) (data : W64) (be : BitVec 8) (s : State),
     (Writes s src addr.toNat) ∧
     ((if wide then addr.toNat % 8 = 0 ∧ (src = .cobbler ∨ src = .dma) ∧ be.toNat ≠ 0xFF else addr.toNat % 4 = 0)) ∧
     (0x1000000 ≤ addr.toNat) ∧ (addr.toNat < 0x1200000) ∧
     ((classify (s.word (addr.toNat / 8 * 8)) = .poison ∨ classify (s.word (addr.toNat / 8 * 8)) = .uncorrectable))) ∧
  (∃ (src : Master) (addr : W32) (data : W64) (s : State),
     (Writes s src addr.toNat) ∧ (addr.toNat % 8 = 0) ∧ ((src = .cobbler ∨ src = .dma)) ∧
     (0x1000000 ≤ addr.toNat) ∧ (addr.toNat < 0x1200000)) ∧
  (∃ (src : Master) (die : Fin 2) (word : Fin 196608) (data : W64) (s : State),
     (Writes s src ((Block.pool (die.val + 1)).base + 8 * word)) ∧ ((src = .cobbler ∨ src = .dma)) ∧
     (s.granuleOpen (die.val + 1) (8 * word.val / 0x1000) = true)) ∧
  (∃ (src : Master) (k : Fin 8) (word : Fin 256) (data : W64) (s : State),
     (Writes s src (slotAddr k false 0 + 8 * word)) ∧ ((src = .cobbler ∨ src = .dma)) ∧
     (s.slotOpen k false (word.val / 32) = true)) ∧
  (∃ (src : Master) (rack : Fin 64) (space : RackSpace) (loc : Fin 2048) (data : W32) (s : State),
     (Writes s src (spaceAddr rack space loc)) ∧ (s.spaceOpen rack space = true)) ∧
  (∃ (src : Master) (rack : Fin 64) (word : Fin 8192) (data : W32) (s : State),
     (Writes s src (progAddr rack word)) ∧ (isHost src = false) ∧ (s.fld RACK_STAT.HALTED rack = 0xFF)) ∧
  (∃ (src : Master) (rack : Fin 64) (word : Fin 8192) (data : W32) (s : State) (m v : Nat) (lo : W32),
     (Writes s src (progAddr rack word + 4)) ∧ (isHost src = false) ∧ (s.fld RACK_STAT.HALTED rack = 0xFF) ∧
     ((s.rackOf rack).lows.find? (fun x => x.1 == srcId src && x.2.1 == word.val) = some (m, v, lo))) ∧
  (∃ (addr : W32) (words : List W32) (s : State), (s.pwr.held = false)) ∧
  (∃ (addr : W32) (s : State) (b : Block) (off : Nat) (k : RKey) (n : Nat) (sh : Bool) (d : W32),
     (s.spiBusy = false) ∧ (s.spi.posted = []) ∧ (Writes s .spi addr.toNat) ∧ (addr.toNat % 4 = 0) ∧
     (blockAt addr.toNat = some (b, off)) ∧ (memKind b off = none) ∧ (busReg b off = some (k, n, sh)) ∧
     (k.reg.words = 1) ∧ (ownEffect k.reg = false) ∧ (countsBus k.reg = false) ∧ (k.reg ≠ .HIF_SPI_STAT)) ∧
  (∃ (addr : W32) (s : State) (b : Block) (off : Nat) (k : RKey) (n : Nat) (sh : Bool),
     (s.spiBusy = false) ∧ (s.spi.posted = []) ∧ (Issues s .spi addr.toNat) ∧ (addr.toNat % 4 = 0) ∧
     (blockAt addr.toNat = some (b, off)) ∧ (memKind b off = none) ∧ (busReg b off = some (k, n, sh)) ∧
     (k.reg.words = 1) ∧ (countsBus k.reg = false) ∧ (k.reg ≠ .MGMT_IRQ_TOP) ∧ (k.reg ≠ .MGMT_IRQ_LOCAL) ∧
     (k.reg ≠ .MGMT_IRQ_INTN)) ∧
  (∃ (s : State) (b : Block) (off : Nat) (k : RKey) (n : Nat) (sh : Bool),
     (s.i2c.busy = none) ∧ (s.waitingOf .i2c = []) ∧ (Writes s .i2c s.i2c.addr) ∧ (s.i2c.addr % 4 = 0) ∧
     (blockAt s.i2c.addr = some (b, off)) ∧ (memKind b off = none) ∧ (busReg b off = some (k, n, sh)) ∧
     (k.reg.words = 1) ∧ (ownEffect k.reg = false) ∧ (countsBus k.reg = false)) ∧
  (∃ (s : State) (b : Block) (off : Nat) (k : RKey) (n : Nat) (sh : Bool),
     (s.i2c.busy = none) ∧ (s.waitingOf .i2c = []) ∧ (Issues s .i2c s.i2c.addr) ∧ (s.i2c.addr % 4 = 0) ∧
     (blockAt s.i2c.addr = some (b, off)) ∧ (memKind b off = none) ∧ (busReg b off = some (k, n, sh)) ∧
     (k.reg.words = 1) ∧ (countsBus k.reg = false) ∧ (k.reg ≠ .MGMT_IRQ_TOP) ∧ (k.reg ≠ .MGMT_IRQ_LOCAL) ∧
     (k.reg ≠ .MGMT_IRQ_INTN)) ∧
  (∃ (s : State) (b p : BitVec 8), (s.pwr.held = false)) ∧
  (∃ (offset : BitVec 8) (s : State) (v : BitVec 8),
     (s.pwr.held = false) ∧ (s.flag MBX_STAT.READY = true) ∧ (s.i2c.page = 0x10) ∧ (s.i2c.bank < 2) ∧
     (128 ≤ offset.toNat) ∧ (offset.toNat < 134)) ∧
  (∃ (src : Master) (nth : Fin 16) (s : State) (r : Request),
     ((s.waitingOf src)[nth.val]? = some r) ∧ (s.pwr.held = false) ∧
     ((src = .spi → s.spi.frame = none ∧ s.spi.posted = [])) ∧ (50 ≤ s.now - r.at_) ∧ (s.draining = []) ∧
     ((isWrite r.op = false ∨ r.got ≠ none))) ∧
  (∃ (island : BitVec 16) (s : State) (d : Drain) (r : Request),
     (s.pwr.held = false) ∧ (s.draining.find? (fun x => x.island == island.toNat) = some d) ∧
     (d.since + 1 ≤ s.now) ∧ (s.accepted d.island = [r]) ∧
     ((r.src = .spi → s.spi.frame = none ∧ s.spi.posted = []))) ∧
  (∃ (src : Master) (data : W32) (s : State),
     (Writes s src 0x4020000) ∧ ((s.eyelet (getBits data 0 8)).st = .free) ∧ (s.flag MBX_STAT.READY = true)) ∧
  (∃ (src : Master) (ring : Fin 2) (data : W32) (s : State),
     (Writes s src (0x4020014 + 8 * ring)) ∧
     ((getBits data 0 8 + 256 - s.fld MBX_CR_CONS_PTR.INDEX 0 ring) % 256 ≤ s.ringUsed ring)) ∧
  (∃ (src : Master) (die : Fin 3) (island : BitVec 8) (data : W32) (s : State),
     (Writes s src ((Block.bank (islandId die island.toNat)).base + 4)) ∧
     (isIsland (islandId die island.toNat) = true)) ∧
  (∃ (src : Master) (data : W32) (s : State),
     (Writes s src 0x40B0000) ∧ (s.flag CNT_RD_STAT.BUSY = false) ∧ (getBits data 16 1 = 1) ∧
     (1 ≤ getBits data 8 7) ∧ (getBits data 8 7 ≤ 64)) ∧
  (∃ (elapsed : Nat) (s : State),
     (s.pwr.held = false) ∧ (s.flag CNT_RD_STAT.BUSY = true) ∧
     (((s.reg .CNT_LIST 0 (64 * s.reader.list + s.reader.index)).toNat % 8 ≠ 0 ∨
       namesQueue ((s.reg .CNT_LIST 0 (64 * s.reader.list + s.reader.index)).toNat) = true))) ∧
  (∃ (elapsed : Nat) (s : State) (b : Block) (off : Nat) (k : RKey) (sh : Bool),
     (s.pwr.held = false) ∧ (s.flag CNT_RD_STAT.BUSY = true) ∧
     ((s.reg .CNT_LIST 0 (64 * s.reader.list + s.reader.index)).toNat % 8 = 0) ∧
     ((s.waitingOf .cobbler).length < 16) ∧
     (s.mustWait .cobbler ((s.reg .CNT_LIST 0 (64 * s.reader.list + s.reader.index)).toNat) = false) ∧
     (s.hasCredit .cobbler ((s.reg .CNT_LIST 0 (64 * s.reader.list + s.reader.index)).toNat) true = true) ∧
     (blockAt ((s.reg .CNT_LIST 0 (64 * s.reader.list + s.reader.index)).toNat) = some (b, off)) ∧
     (memKind b off = none) ∧ (busReg b off = some (k, 0, sh)) ∧ (k.reg.words ≠ 1) ∧ (isQueue k.reg = false) ∧
     (k.reg ≠ .EVR_WIN) ∧ (k.reg ≠ .CNT_VAL) ∧ ((s.island b.island = .on ∨ s.island b.island = .doze))) ∧
  (∃ (src : Master) (data : W32) (s : State),
     (Writes s src 0x4060020) ∧ (srcId src ≤ 3) ∧ (s.odOf (srcId src) = none) ∧ (s.flag MON_CTL.RUN = true)) ∧
  (∃ (src : Master) (data : W32) (fail : Bool) (s : State),
     (Writes s src 0x4090044) ∧ (s.flag SEC_STAT.RECOVERY = true) ∧ (getBits data 0 1 = 1)) ∧
  (∃ (src : Master) (s : State), (Issues s src 0x4070040) ∧ (s.flag EVR_STAT.DEGRADED = false) ∧ (s.evrSeqs = [])) ∧
  (∃ (src : Master) (s : State) (r : Staged) (ws : List W64),
     (Issues s src 0x4070040) ∧ (s.flag EVR_STAT.DEGRADED = false) ∧ (s.evr.staged = [r]) ∧ (s.evr.ring = []) ∧
     (r.seq = (s.reg .EVR_CURSOR (srcId src)).toNat) ∧ ((s.readRecord (stageWord r.seq)).1 = some ws)) ∧
  (∃ (src : Master) (nth : Fin 16) (s : State) (r : Request),
     ((s.waitingOf src)[nth.val]? = some r) ∧ (s.pwr.held = false) ∧
     ((src = .spi → s.spi.frame = none ∧ s.spi.posted = [])) ∧ (r.got = none) ∧ (s.servable r = true) ∧
     (s.hasCredit src r.addr true = true) ∧ (s.draining = [])) :=
  ⟨⟨.cobbler, 0, 0x0F, welted (rackAt 0 {}), by decide +kernel⟩,
    ⟨.cobbler, 0x400000c, 3, State.reset, .pwr, 0xc, ⟨.PWR_EN, 0, 0⟩, 0, false, by decide +kernel⟩,
    ⟨.cobbler, 0x10800004, welted ((State.reset.setIsland 0x1010 .on).setReg .LRX_STAT 0x41 0), .line 0, 0x4, ⟨.LRX_STAT, 0, 0⟩, 0, false, by decide +kernel⟩,
    ⟨.cobbler, 0x4000040, false, State.reset.setWide .PWR_LIFE 0x100000002 0, .pwr, 0x40, ⟨.PWR_LIFE, 0, 0⟩, 0, false, by decide +kernel⟩,
    ⟨.cobbler, 0x12000030, true, welted ((rackAt 0 {}).setRack 0 { tags := [5, 6] }), .rack 0, 0x30, ⟨.RACK_TAG_REC, 0, 0⟩, 0, false, by decide +kernel⟩,
    ⟨0, State.reset.setWord 0x1000000 (protect 7), .cobbler, 0x1000004, 7, (by decide +kernel), (by decide +kernel), (by decide +kernel), (by decide +kernel), (by rw [hit_zero]; exact sram_clean)⟩,
    ⟨0, State.reset.setWord 0x1000000 (poisoned 7), .cobbler, 0x1000004, 7, (by decide +kernel), (by decide +kernel), (by decide +kernel), (by decide +kernel), (by rw [hit_zero]; rfl)⟩,
    ⟨.cobbler, 0x1000004, false, 9, 0, State.reset.setWord 0x1000000 (protect 7), 7, (by decide +kernel), (by decide +kernel), (by decide +kernel), (by decide +kernel), sram_clean⟩,
    ⟨.cobbler, 0x1000004, false, 9, 0, State.reset.setWord 0x1000000 (poisoned 7), (by decide +kernel), (by decide +kernel), (by decide +kernel), (by decide +kernel), (.inl sram_poison)⟩,
    ⟨.dma, 0x1000008, 9, State.reset, by decide +kernel⟩,
    ⟨.dma, 0, 5, 9, welted (State.reset.setIsland 0x1002 .on), by decide +kernel⟩,
    ⟨.dma, 0, 5, 9, slotFree, by decide +kernel⟩,
    ⟨.cobbler, 0, .x 0, 5, 9, welted ((rackAt 0 {}).put RACK_STAT.HALTED 0xFF 0), by decide +kernel⟩,
    ⟨.cobbler, 0, 5, 9, welted ((rackAt 0 {}).put RACK_STAT.HALTED 0xFF 0), by decide +kernel⟩,
    ⟨.cobbler, 0, 5, 9, welted (((rackAt 0 {}).put RACK_STAT.HALTED 0xFF 0).setRack 0 { lows := [(0, 5, 8)] }), 0, 5, 8, by decide +kernel⟩,
    ⟨0, [], State.reset, by decide +kernel⟩,
    ⟨0x400000c, State.reset, .pwr, 0xc, ⟨.PWR_EN, 0, 0⟩, 0, false, 3, by decide +kernel⟩,
    ⟨0x10800004, welted ((State.reset.setIsland 0x1010 .on).setReg .LRX_STAT 0x41 0), .line 0, 0x4, ⟨.LRX_STAT, 0, 0⟩, 0, false, by decide +kernel⟩,
    ⟨{ State.reset with i2c := { addr := 0x400000c, data := 3 } }, .pwr, 0xc, ⟨.PWR_EN, 0, 0⟩, 0, false, by decide +kernel⟩,
    ⟨{ welted ((State.reset.setIsland 0x1010 .on).setReg .LRX_STAT 0x41 0) with i2c := { addr := 0x10800004 } }, .line 0, 0x4, ⟨.LRX_STAT, 0, 0⟩, 0, false, by decide +kernel⟩,
    ⟨State.reset, 1, 0x10, by decide +kernel⟩,
    ⟨130, { cmdAt 1 1 [] with i2c := { page := 0x10 } }, 5, by decide +kernel⟩,
    ⟨.cobbler, 0, { welted State.reset with waiting := [⟨.cobbler, 0, .read32, 0x10000000, 0, 0, none⟩], now := 100 }, ⟨.cobbler, 0, .read32, 0x10000000, 0, 0, none⟩, by decide +kernel⟩,
    ⟨0x1010, { welted State.reset with waiting := [⟨.cobbler, 0, .read32, 0x10800000, 0, 0, some { resp := .ok, lo := 7 }⟩], now := 100, draining := [⟨0x1010, .powerOff, 0⟩] }, ⟨0x1010, .powerOff, 0⟩, ⟨.cobbler, 0, .read32, 0x10800000, 0, 0, some { resp := .ok, lo := 7 }⟩, by decide +kernel⟩,
    ⟨.cobbler, 3, aq, by decide +kernel⟩,
    ⟨.cobbler, 1, 0, aq, by decide +kernel⟩,
    ⟨.cobbler, 0, 2, 3, State.reset.setCnt .CNT_VAL 9 2 1, by decide +kernel⟩,
    ⟨.cobbler, 0x10201, State.reset, by decide +kernel⟩,
    ⟨10, { (State.reset.setReg .CNT_RD_STAT 1).setReg .CNT_LIST 4 with reader := { count := 1 } }, by decide +kernel⟩,
    ⟨10, { ((State.reset.setReg .CNT_RD_STAT 1).setReg .CNT_LIST 0x4000040).setWide .PWR_LIFE 0x100000002 with reader := { count := 2 } }, .pwr, 0x40, ⟨.PWR_LIFE, 0, 0⟩, false, by decide +kernel⟩,
    ⟨.spi, 3, (State.reset.setIsland 0x05 .on).raise MON_CTL.RUN, by decide +kernel⟩,
    ⟨.spi, 1, false, State.reset.raise SEC_STAT.RECOVERY, by decide +kernel⟩,
    ⟨.spi, recording, by decide +kernel⟩,
    ⟨.spi, flushable, ⟨0, 1, 0x105, 0⟩, [1, 2, 3, 4], (by decide +kernel), (by decide +kernel), (by decide +kernel), (by decide +kernel), (by decide +kernel), flushable_record⟩,
    ⟨.cobbler, 0, { welted State.reset with waiting := [⟨.cobbler, 0, .read32, 0x10000000, 0, 0, none⟩], now := 100 }, ⟨.cobbler, 0, .read32, 0x10000000, 0, 0, none⟩, by decide +kernel⟩⟩

theorem met_LastInstructionFrames :
  (∃ (w : LastAt) (s : State) (word : W32) (a s1 s2 modx mody : Nat) (cap : Bool) (cd : Nat) (v1 v2 : W24),
     (Issuing s w word) ∧ (decodeLast word = some (.arith 0x1 a s1 s2 modx mody cap cd)) ∧
     (s.operandValue w s1 = some v1) ∧ (s.operandValue w s2 = some v2)) ∧
  (∃ (w : LastAt) (s : State) (word : W32) (a s1 s2 modx mody : Nat) (cap : Bool) (cd : Nat) (v1 v2 : W24),
     (Issuing s w word) ∧ (decodeLast word = some (.arith 0x2 a s1 s2 modx mody cap cd)) ∧
     (s.operandValue w s1 = some v1) ∧ (s.operandValue w s2 = some v2)) ∧
  (∃ (w : LastAt) (s : State) (word : W32) (a s1 s2 modx mody : Nat) (cap : Bool) (cd : Nat) (v1 v2 : W24),
     (Issuing s w word) ∧ (decodeLast word = some (.arith 0x3 a s1 s2 modx mody cap cd)) ∧
     (s.operandValue w s1 = some v1) ∧ (s.operandValue w s2 = some v2)) ∧
  (∃ (w : LastAt) (s : State) (word : W32) (a s1 s2 modx mody : Nat) (cap : Bool) (cd : Nat) (v1 v2 : W24),
     (Issuing s w word) ∧ (decodeLast word = some (.arith 0x4 a s1 s2 modx mody cap cd)) ∧
     (s.operandValue w s1 = some v1) ∧ (s.operandValue w s2 = some v2)) ∧
  (∃ (w : LastAt) (s : State) (word : W32) (a s1 s2 modx mody : Nat) (cap : Bool) (cd : Nat) (v1 v2 : W24),
     (Issuing s w word) ∧ (decodeLast word = some (.arith 0x5 a s1 s2 modx mody cap cd)) ∧
     (s.operandValue w s1 = some v1) ∧ (s.operandValue w s2 = some v2)) ∧
  (∃ (w : LastAt) (s : State) (word : W32) (a s1 s2 modx mody : Nat) (cap : Bool) (cd : Nat) (v1 v2 : W24),
     (Issuing s w word) ∧ (decodeLast word = some (.arith 0x6 a s1 s2 modx mody cap cd)) ∧
     (s.operandValue w s1 = some v1) ∧ (s.operandValue w s2 = some v2)) ∧
  (∃ (w : LastAt) (s : State) (word : W32) (a s1 s2 modx mody : Nat) (cap : Bool) (cd : Nat) (v1 v2 : W24),
     (Issuing s w word) ∧ (decodeLast word = some (.arith 0x7 a s1 s2 modx mody cap cd)) ∧
     (s.operandValue w s1 = some v1) ∧ (s.operandValue w s2 = some v2)) ∧
  (∃ (w : LastAt) (s : State) (word : W32) (a s1 s2 modx mody : Nat) (cap : Bool) (cd : Nat) (v1 v2 : W24),
     (Issuing s w word) ∧ (decodeLast word = some (.arith 0x8 a s1 s2 modx mody cap cd)) ∧
     (s.operandValue w s1 = some v1) ∧ (s.operandValue w s2 = some v2)) ∧
  (∃ (w : LastAt) (s : State) (word : W32) (a s1 s2 modx mody : Nat) (cap : Bool) (cd : Nat) (v1 v2 : W24),
     (Issuing s w word) ∧ (decodeLast word = some (.arith 0x9 a s1 s2 modx mody cap cd)) ∧
     (s.operandValue w s1 = some v1) ∧ (s.operandValue w s2 = some v2)) ∧
  (∃ (w : LastAt) (s : State) (word : W32) (a s1 s2 modx mody : Nat) (cap : Bool) (cd : Nat) (v1 v2 : W24),
     (Issuing s w word) ∧ (decodeLast word = some (.arith 0xA a s1 s2 modx mody cap cd)) ∧
     (s.operandValue w s1 = some v1) ∧ (s.operandValue w s2 = some v2)) ∧
  (∃ (w : LastAt) (s : State) (word : W32) (a s1 s2 modx mody : Nat) (cap : Bool) (cd : Nat) (v1 v2 : W24),
     (Issuing s w word) ∧ (decodeLast word = some (.arith 0xB a s1 s2 modx mody cap cd)) ∧
     (s.operandValue w s1 = some v1) ∧ (s.operandValue w s2 = some v2)) ∧
  (∃ (w : LastAt) (s : State) (word : W32) (a s1 s2 modx mody : Nat) (cap : Bool) (cd : Nat) (v1 v2 : W24),
     (Issuing s w word) ∧ (decodeLast word = some (.arith 0xC a s1 s2 modx mody cap cd)) ∧
     (s.operandValue w s1 = some v1) ∧ (s.operandValue w s2 = some v2)) ∧
  (∃ (w : LastAt) (s : State) (word : W32) (a s1 s2 modx mody : Nat) (cap : Bool) (cd : Nat) (v1 v2 : W24),
     (Issuing s w word) ∧ (decodeLast word = some (.arith 0xD a s1 s2 modx mody cap cd)) ∧
     (s.operandValue w s1 = some v1) ∧ (s.operandValue w s2 = some v2)) ∧
  (∃ (w : LastAt) (s : State) (word : W32) (a s1 s2 modx mody : Nat) (cap : Bool) (cd : Nat) (v1 v2 : W24),
     (Issuing s w word) ∧ (decodeLast word = some (.arith 0xE a s1 s2 modx mody cap cd)) ∧
     (s.operandValue w s1 = some v1) ∧ (s.operandValue w s2 = some v2)) ∧
  (∃ (w : LastAt) (s : State) (word : W32) (a s1 s2 modx mody : Nat) (cap : Bool) (cd : Nat) (v1 v2 : W24),
     (Issuing s w word) ∧ (decodeLast word = some (.arith 0 a s1 s2 modx mody cap cd)) ∧
     (s.operandValue w s1 = some v1) ∧ (s.operandValue w s2 = some v2)) ∧
  (∃ (w : LastAt) (s : State) (word : W32) (a d : Nat) (low : Bool),
     (Issuing s w word) ∧ (decodeLast word = some (.sta a d low))) ∧
  (∃ (w : LastAt) (s : State) (word : W32) (a ptr mode : Nat) (low : Bool),
     (Issuing s w word) ∧ (decodeLast word = some (.stm a ptr mode low)) ∧
     ((s.last w.rack w.last).protects ((s.last w.rack w.last).P ptr) = false)) ∧
  (∃ (w : LastAt) (s : State) (word : W32) (d : Nat) (half : Bool) (value : Nat),
     (Issuing s w word) ∧ (decodeLast word = some (.ldi d half value))) ∧
  (∃ (w : LastAt) (s : State) (word : W32) (a : Nat) (right : Bool) (count : Nat),
     (Issuing s w word) ∧ (decodeLast word = some (.shift a right count))) ∧
  (∃ (w : LastAt) (s : State) (word : W32) (d src : Nat),
     (Issuing s w word) ∧ (decodeLast word = some (.movr d src))) ∧
  (∃ (w : LastAt) (s : State) (word : W32) (dd ds pos width : Nat) (sgn : Bool),
     (Issuing s w word) ∧ (decodeLast word = some (.ext dd ds pos width sgn))) ∧
  (∃ (w : LastAt) (s : State) (word : W32) (dd ds op : Nat),
     (Issuing s w word) ∧ (decodeLast word = some (.logic dd ds op)) ∧ (op < 4)) ∧
  (∃ (w : LastAt) (s : State) (word : W32) (store : Bool) (d ptr mode : Nat) (v : W24),
     (Issuing s w word) ∧ (decodeLast word = some (.mem store d ptr mode)) ∧
     ((s.last w.rack w.last).protects ((s.last w.rack w.last).P ptr) = false) ∧
     (store = false → s.operandValue w (8 + ptr) = some v)) ∧
  (∃ (w : LastAt) (s : State) (word : W32) (kind n value : Nat),
     (Issuing s w word) ∧ (decodeLast word = some (.lda kind n value))) ∧
  (∃ (w : LastAt) (s : State) (word : W32) (n change : Nat),
     (Issuing s w word) ∧ (decodeLast word = some (.adda n change))) ∧
  (∃ (w : LastAt) (s : State) (word : W32) (kind n d : Nat),
     (Issuing s w word) ∧ (decodeLast word = some (.mova kind n d))) ∧
  (∃ (w : LastAt) (s : State) (word : W32) (d n : Nat),
     (Issuing s w word) ∧ (decodeLast word = some (.movc d n)) ∧
     (((s.last w.rack w.last).super = true ∨ n = 0 ∨ n = 3 ∨ n = 4))) ∧
  (∃ (w : LastAt) (s : State) (word : W32) (d n : Nat),
     (Issuing s w word) ∧ (decodeLast word = some (.movfc d n)) ∧
     (((s.last w.rack w.last).super = true ∨ s.userReads w.rack n = true)) ∧
     ((n ≤ 4 ∨ (8 ≤ n ∧ n ≤ 11) ∨ (16 ≤ n ∧ n ≤ 20))) ∧ (w.front = 0) ∧ (w.back = 0) ∧
     ((s.last w.rack w.last).interlock (.movfc d n) = 0)) ∧
  (∃ (w : LastAt) (s : State) (word : W32),
     (Issuing s w word) ∧ (decodeLast word = some (.rti)) ∧ ((s.last w.rack w.last).super = true)) ∧
  (∃ (w : LastAt) (s : State) (word : W32),
     (Issuing s w word) ∧ (decodeLast word = some (.halt)) ∧ ((s.last w.rack w.last).super = true)) ∧
  (∃ (w : LastAt) (s : State) (word : W32),
     (Issuing s w word) ∧ (decodeLast word = some (.svc 0)) ∧ ((s.last w.rack w.last).super = false) ∧
     ((s.last w.rack w.last).rep = none)) ∧
  (∃ (w : LastAt) (s : State) (word : W32) (c target : Nat),
     (Issuing s w word) ∧ (decodeLast word = some (.bra c target)) ∧ ((s.last w.rack w.last).rep = none) ∧
     (s.cond w.rack (s.last w.rack w.last) c = some true) ∧ ((s.last w.rack w.last).leavesLoop target = false)) ∧
  (∃ (w : LastAt) (s : State) (word : W32) (c target : Nat),
     (Issuing s w word) ∧ (decodeLast word = some (.call c target)) ∧ ((s.last w.rack w.last).rep = none) ∧
     (s.cond w.rack (s.last w.rack w.last) c = some true) ∧ ((s.last w.rack w.last).leavesLoop target = false) ∧
     ((s.last w.rack w.last).calls.length < 8)) ∧
  (∃ (w : LastAt) (s : State) (word : W32) (c : Nat) (a : BitVec 14) (as : List (BitVec 14)),
     (Issuing s w word) ∧ (decodeLast word = some (.ret c)) ∧ ((s.last w.rack w.last).rep = none) ∧
     (s.cond w.rack (s.last w.rack w.last) c = some true) ∧ ((s.last w.rack w.last).calls = a :: as)) ∧
  (∃ (w : LastAt) (s : State) (word : W32) (count last : Nat),
     (Issuing s w word) ∧ (decodeLast word = some (.loop count last)) ∧ ((s.last w.rack w.last).rep = none) ∧
     (0 < count) ∧ ((s.last w.rack w.last).loops.length < 4)) ∧
  (∃ (w : LastAt) (s : State) (word : W32) (d last : Nat),
     (Issuing s w word) ∧ (decodeLast word = some (.loopr d last)) ∧ ((s.last w.rack w.last).rep = none) ∧
     (0 < bitsOf ((s.last w.rack w.last).D d).toNat 0 16) ∧ ((s.last w.rack w.last).loops.length < 4)) ∧
  (∃ (w : LastAt) (s : State) (word : W32) (count : Nat),
     (Issuing s w word) ∧ (decodeLast word = some (.rep count)) ∧ ((s.last w.rack w.last).rep = none) ∧
     (0 < count)) ∧
  (∃ (w : LastAt) (s : State) (word : W32) (c : Nat) (f : LoopFrame) (fs : List LoopFrame),
     (Issuing s w word) ∧ (decodeLast word = some (.leave c)) ∧ ((s.last w.rack w.last).rep = none) ∧
     (s.cond w.rack (s.last w.rack w.last) c = some true) ∧ ((s.last w.rack w.last).loops = f :: fs)) ∧
  (∃ (w : LastAt) (s : State) (word : W32),
     (Issuing s w word) ∧ (decodeLast word = some (.yield)) ∧ ((s.last w.rack w.last).rep = none)) ∧
  (∃ (w : LastAt) (s : State) (word : W32) (newest : Bool),
     (Issuing s w word) ∧ (decodeLast word = some (.twin newest)) ∧ ((s.last w.rack w.last).rep = none) ∧
     ((s.last w.rack w.last).seen < (s.rackOf w.rack).written)) ∧
  (∃ s t : State, Machine.exec (.mpy { rack := 0, last := 0 }) s = .next t) :=
  ⟨⟨{ rack := 0, last := 0 }, rackAt 0x02090000 { d := [0, 3, 5, 0, 0, 0, 0, 0], a := [7, 0, 0, 0], mu := 9 }, 0x02090000, 0, 1, 2, 0, 0, false, 0, 3, 5, by decide +kernel⟩,
    ⟨{ rack := 0, last := 0 }, rackAt 0x04090000 { d := [0, 3, 5, 0, 0, 0, 0, 0], a := [7, 0, 0, 0], mu := 9 }, 0x04090000, 0, 1, 2, 0, 0, false, 0, 3, 5, by decide +kernel⟩,
    ⟨{ rack := 0, last := 0 }, rackAt 0x06090000 { d := [0, 3, 5, 0, 0, 0, 0, 0], a := [7, 0, 0, 0], mu := 9 }, 0x06090000, 0, 1, 2, 0, 0, false, 0, 3, 5, by decide +kernel⟩,
    ⟨{ rack := 0, last := 0 }, rackAt 0x08090000 { d := [0, 3, 5, 0, 0, 0, 0, 0], a := [7, 0, 0, 0], mu := 9 }, 0x08090000, 0, 1, 2, 0, 0, false, 0, 3, 5, by decide +kernel⟩,
    ⟨{ rack := 0, last := 0 }, rackAt 0x0A090000 { d := [0, 3, 5, 0, 0, 0, 0, 0], a := [7, 0, 0, 0], mu := 9 }, 0x0A090000, 0, 1, 2, 0, 0, false, 0, 3, 5, by decide +kernel⟩,
    ⟨{ rack := 0, last := 0 }, rackAt 0x0C090000 { d := [0, 3, 5, 0, 0, 0, 0, 0], a := [7, 0, 0, 0], mu := 9 }, 0x0C090000, 0, 1, 2, 0, 0, false, 0, 3, 5, by decide +kernel⟩,
    ⟨{ rack := 0, last := 0 }, rackAt 0x0E090000 { d := [0, 3, 5, 0, 0, 0, 0, 0], a := [7, 0, 0, 0], mu := 9 }, 0x0E090000, 0, 1, 2, 0, 0, false, 0, 3, 5, by decide +kernel⟩,
    ⟨{ rack := 0, last := 0 }, rackAt 0x10090000 { d := [0, 3, 5, 0, 0, 0, 0, 0], a := [7, 0, 0, 0], mu := 9 }, 0x10090000, 0, 1, 2, 0, 0, false, 0, 3, 5, by decide +kernel⟩,
    ⟨{ rack := 0, last := 0 }, rackAt 0x12090000 { d := [0, 3, 5, 0, 0, 0, 0, 0], a := [7, 0, 0, 0], mu := 9 }, 0x12090000, 0, 1, 2, 0, 0, false, 0, 3, 5, by decide +kernel⟩,
    ⟨{ rack := 0, last := 0 }, rackAt 0x14090000 { d := [0, 3, 5, 0, 0, 0, 0, 0], a := [7, 0, 0, 0], mu := 9 }, 0x14090000, 0, 1, 2, 0, 0, false, 0, 3, 5, by decide +kernel⟩,
    ⟨{ rack := 0, last := 0 }, rackAt 0x16090000 { d := [0, 3, 5, 0, 0, 0, 0, 0], a := [7, 0, 0, 0], mu := 9 }, 0x16090000, 0, 1, 2, 0, 0, false, 0, 3, 5, by decide +kernel⟩,
    ⟨{ rack := 0, last := 0 }, rackAt 0x18090000 { d := [0, 3, 5, 0, 0, 0, 0, 0], a := [7, 0, 0, 0], mu := 9 }, 0x18090000, 0, 1, 2, 0, 0, false, 0, 3, 5, by decide +kernel⟩,
    ⟨{ rack := 0, last := 0 }, rackAt 0x1A090000 { d := [0, 3, 5, 0, 0, 0, 0, 0], a := [7, 0, 0, 0], mu := 9 }, 0x1A090000, 0, 1, 2, 0, 0, false, 0, 3, 5, by decide +kernel⟩,
    ⟨{ rack := 0, last := 0 }, rackAt 0x1C090000 { d := [0, 3, 5, 0, 0, 0, 0, 0], a := [7, 0, 0, 0], mu := 9 }, 0x1C090000, 0, 1, 2, 0, 0, false, 0, 3, 5, by decide +kernel⟩,
    ⟨{ rack := 0, last := 0 }, rackAt 0x00090000 { d := [0, 3, 5, 0, 0, 0, 0, 0] }, 0x00090000, 0, 1, 2, 0, 0, false, 0, 3, 5, by decide +kernel⟩,
    ⟨{ rack := 0, last := 0 }, rackAt 0x20200000 { a := [7, 0, 0, 0] }, 0x20200000, 0, 1, false, by decide +kernel⟩,
    ⟨{ rack := 0, last := 0 }, rackAt 0x24200000 { a := [7, 0, 0, 0] }, 0x24200000, 0, 1, 0, false, by decide +kernel⟩,
    ⟨{ rack := 0, last := 0 }, rackAt 0x28801234 {}, 0x28801234, 1, false, 0x1234, by decide +kernel⟩,
    ⟨{ rack := 0, last := 0 }, rackAt 0x2C040000 { a := [7, 0, 0, 0] }, 0x2C040000, 0, false, 4, by decide +kernel⟩,
    ⟨{ rack := 0, last := 0 }, rackAt 0x30C00000 { a := [7, 0, 0, 0] }, 0x30C00000, 1, 16, by decide +kernel⟩,
    ⟨{ rack := 0, last := 0 }, rackAt 0x34A22000 {}, 0x34A22000, 1, 2, 4, 8, false, by decide +kernel⟩,
    ⟨{ rack := 0, last := 0 }, rackAt 0x38AC0000 { d := [0, 7, 5, 0, 0, 0, 0, 0] }, 0x38AC0000, 1, 2, 3, by decide +kernel⟩,
    ⟨{ rack := 0, last := 0 }, rackAt 0x3E400000 { d := [0, 7, 5, 0, 0, 0, 0, 0] }, 0x3E400000, true, 1, 0, 0, 0, by decide +kernel⟩,
    ⟨{ rack := 0, last := 0 }, rackAt 0x42800005 {}, 0x42800005, 1, 2, 5, by decide +kernel⟩,
    ⟨{ rack := 0, last := 0 }, rackAt 0x48800005 {}, 0x48800005, 2, 5, by decide +kernel⟩,
    ⟨{ rack := 0, last := 0 }, rackAt 0x50880000 { d := [0, 7, 5, 0, 0, 0, 0, 0] }, 0x50880000, 0, 2, 1, by decide +kernel⟩,
    ⟨{ rack := 0, last := 0 }, rackAt 0xA0400008 { d := [0, 7, 5, 0, 0, 0, 0, 0] }, 0xA0400008, 1, 8, by decide +kernel⟩,
    ⟨{ rack := 0, last := 0 }, rackAt 0xA2400002 {}, 0xA2400002, 1, 2, by decide +kernel⟩,
    ⟨{ rack := 0, last := 0 }, rackAt 0xA4000000 { tpc := 0x900 }, 0xA4000000, by decide +kernel⟩,
    ⟨{ rack := 0, last := 0 }, rackAt 0xA6000000 {}, 0xA6000000, by decide +kernel⟩,
    ⟨{ rack := 0, last := 0 }, rackAt 0x6E000000 { pc := 0x900, sr := 0 }, 0x6E000000, by decide +kernel⟩,
    ⟨{ rack := 0, last := 0 }, rackAt 0x60000123 {}, 0x60000123, 0, 0x123, by decide +kernel⟩,
    ⟨{ rack := 0, last := 0 }, rackAt 0x62000123 {}, 0x62000123, 0, 0x123, by decide +kernel⟩,
    ⟨{ rack := 0, last := 0 }, rackAt 0x64000000 { calls := [7, 9] }, 0x64000000, 0, 7, [9], by decide +kernel⟩,
    ⟨{ rack := 0, last := 0 }, rackAt 0x66014009 {}, 0x66014009, 5, 9, by decide +kernel⟩,
    ⟨{ rack := 0, last := 0 }, rackAt 0x68400009 { d := [0, 7, 5, 0, 0, 0, 0, 0] }, 0x68400009, 1, 9, by decide +kernel⟩,
    ⟨{ rack := 0, last := 0 }, rackAt 0x6A014000 {}, 0x6A014000, 5, by decide +kernel⟩,
    ⟨{ rack := 0, last := 0 }, rackAt 0x72000000 { loops := [⟨0, 5, 3⟩] }, 0x72000000, 0, ⟨0, 5, 3⟩, [], by decide +kernel⟩,
    ⟨{ rack := 0, last := 0 }, rackAt 0x6C000000 {}, 0x6C000000, by decide +kernel⟩,
    ⟨{ rack := 0, last := 0 }, (rackAt 0x70000000 {}).setRack 0 { written := 1, taps := [[1]] }, 0x70000000, false, by decide +kernel⟩,
    ⟨State.reset, _, rfl⟩⟩

theorem met_LaneCommandFrames :
  (∃ s t : State, Machine.exec (.sigDetectAssert 0) s = .next t) :=
  ⟨State.reset, _, rfl⟩

theorem met_ServiceCommandFrames :
  (∃ s t : State, Machine.exec (.monPublish 0) s = .next t) :=
  ⟨State.reset, _, rfl⟩

theorem met_ManagementCommandFrames :
  (∃ s t : State, Machine.exec (.supplyLoss) s = .next t) :=
  ⟨State.reset, _, rfl⟩

/-! ## WellFormed refuses an ill-formed term of each check -/

/-- A tap record of six codes. -/
def shortTap : TapRecord :=
  { block := 0, rel := 0, am := false, known := 0, codes := List.replicate 6 0, before := 0, metrics := List.replicate 4 0 }

/-- A detection with chips missing. -/
def shortHit : SyncHit := { phase := 0, metric := 0, chips := [], frac := 0, err := 0 }

theorem test_wf_tapRecord : Instr.wf (.tapRecord 0 shortTap) = false := by decide
theorem test_wf_tapRecord_metrics : Instr.wf (.tapRecord 0 { shortTap with codes := List.replicate 255 0, metrics := [] }) = false := by
  decide +kernel
theorem test_wf_calRxMeasureEnd : Instr.wf (.calRxMeasureEnd 0 [] (List.replicate 128 0) (List.replicate 128 0)) = false := by
  decide
theorem test_wf_ltxChkLock : Instr.wf (.ltxChkLock 0 0 [3]) = false := by decide
theorem test_wf_ltxLbSlip : Instr.wf (.ltxLbSlip 0 true []) = false := by decide
theorem test_wf_calTxMeasureEnd : Instr.wf (.calTxMeasureEnd 0 []) = false := by decide
theorem test_wf_innerLockSet : Instr.wf (.innerLockSet 0 [[], [], []]) = false := by decide
theorem test_wf_innerLockClear : Instr.wf (.innerLockClear 0 (List.replicate 3 (List.replicate 64 0))) = false := by decide
theorem test_wf_innerCodeword : Instr.wf (.innerCodeword 0 0 (List.replicate 127 7) false) = false := by decide +kernel
theorem test_wf_amLockSet : Instr.wf (.amLockSet false 0 [4, 4]) = false := by decide
theorem test_wf_codewordDecode :
    Instr.wf (.codewordDecode 0 false (List.replicate 545 0) (List.replicate 80 0)) = false := by decide +kernel
theorem test_wf_codewordDecode_blocks : Instr.wf (.codewordDecode 0 false [] []) = false := by decide
theorem test_wf_skewMeasurement : Instr.wf (.skewMeasurement 0 false (List.replicate 33 0) 0) = false := by decide
theorem test_wf_hlAdaptDone : Instr.wf (.hlAdaptDone 0 0 0 [0]) = false := by decide
theorem test_wf_hlCtleTrack : Instr.wf (.hlCtleTrack 0 0 0 []) = false := by decide
theorem test_wf_hlChkLock : Instr.wf (.hlChkLock 0 4 []) = false := by decide
theorem test_wf_hlLbSlip : Instr.wf (.hlLbSlip 0 false []) = false := by decide
theorem test_wf_captureDone : Instr.wf (.captureDone 0 [1]) = false := by decide
theorem test_wf_insCodeDetect : Instr.wf (.insCodeDetect 0 [1]) = false := by decide
theorem test_wf_insSyncDetect : Instr.wf (.insSyncDetect 0 [shortHit]) = false := by decide
theorem test_wf_insFrameReceived : Instr.wf (.insFrameReceived 0 0x10000 [] 0 0) = false := by decide
theorem test_wf_insFofsMeasure : Instr.wf (.insFofsMeasure 0 0 0 []) = false := by decide
theorem test_wf_insSearchDone : Instr.wf (.insSearchDone 0 [1, 2]) = false := by decide
theorem test_wf_rangeUpdate : Instr.wf (.rangeUpdate 0 ⟨[], List.replicate 8 0, 0, List.replicate 8 0⟩) = false := by decide
theorem test_wf_todNextMessage : Instr.wf (.todNextMessage []) = false := by decide
theorem test_wf_i2cWrite : Instr.wf (.i2cWrite 0 (List.replicate 9 0) true) = false := by decide
theorem test_wf_i2cRead : Instr.wf (.i2cRead 0) = false := by decide
theorem test_wf_spiWrite : Instr.wf (.spiWrite 0 []) = false := by decide
theorem test_wf_spiRead : Instr.wf (.spiRead 0 0) = false := by decide
theorem test_wf_cmisApplyDpInit : Instr.wf (.cmisApplyDpInit 0 [(1, 0, 0), (1, 1, 0)]) = false := by decide
theorem test_wf_wearMeasure : Instr.wf (.wearMeasure [(1, 0), (1, 5)]) = false := by decide
theorem test_wf_registerWrite : Instr.wf (.registerWrite .cobbler 0 0) = true := by decide

/-! ## The spec's own numbers -/

/-- Form H of an accumulator (the table under R112). -/
def formH (a : BitVec 56) : W24 × Bool :=
  let (v, y) := ({ a := [a, 0, 0, 0] } : Last).stored 0 false
  (v, y.sr.getLsbD srS)

theorem test_formH_half : formH 0x000091A2C00000 = (0x012346, false) := by decide
theorem test_formH_minus_half : formH 0xFFFFFFFFC00000 = (0x000000, false) := by decide
theorem test_formH_below_half : formH 0xFFFFFFFFBFFFFF = (0xFFFFFF, false) := by decide
theorem test_formH_one : formH 0x00400000000000 = (0x7FFFFF, true) := by decide

/-- The word 0x0000_0000 is a NOP (R114), and its class codes 0b110 and 0b111 spell nothing. -/
theorem test_decode_nop : (decodeLast 0).map LInstr.isNop = some true := by decide
theorem test_decode_class6 : decodeLast 0xC0000000 = none ∧ decodeLast 0xE0000000 = none := by decide

/-- A read of a block that is off returns 0xB10C_0FF0 (R12). -/
theorem test_off_read : (match Machine.exec (.rsLowWordRead .cobbler 0x10800004 false) (welted State.reset) with
    | .next t => ((t.reply .cobbler).resp, (t.reply .cobbler).lo)
    | _ => (.ok, 0)) = (.off, 0xB10C0FF0) := by decide +kernel

/-- An unlisted island is off at reset; a write to a register the host owns arrives (R7, R325). -/
theorem test_register_write : (match Machine.exec (.registerWrite .cobbler 0x400000c 3) State.reset with
    | .next t => (t.reg .PWR_EN, (t.reply .cobbler).resp)
    | _ => (0, .off)) = (3, .ok) := by decide +kernel

/-- A command on an empty ring: a class without commands answers 0x0104 (R329). -/
theorem test_unknown_class : descRefusal (descOf 0x04 0x01 [] ||| (1#256 <<< 40)) = some 0x0104 := by decide +kernel

end Sys2Proof.Tests
end

/-!
PROOFS. Every step keeps the invariant of the block (O45). One lemma for each operation of the model, in the model's
order: `State.Wf.op` says that `op` keeps the invariant. An operation's lemma is put together from those of the
operations it calls, by the combinators for branches, loops and shared intermediate states. Only the operations that
write one of the lists of the invariant have an argument of their own.
-/

namespace Sys2Proof.Machine

open Host

variable {s : State}

/-- The invariant of the block, as a structure: two states that meet it are then compared as states, and not by the
invariant's clauses. -/
structure State.Wf (s : State) : Prop where
  inv : s.Inv

/-! ## Branches, loops and results -/

/-- An intermediate state that a proof speaks of several times. -/
theorem State.Wf.via {x t : State} (hx : x.Wf) (f : x.Wf → t.Wf) : t.Wf := f hx

/-- The state of an answer. -/
theorem State.Wf.snd {α : Type} {x : α} (h : s.Wf) : (x, s).2.Wf := h

theorem State.Wf.ite {c : Prop} {d : Decidable c} {a b : State} (ha : a.Wf) (hb : b.Wf) : (if c then a else b).Wf := by
  split
  · exact ha
  · exact hb

theorem State.Wf.iteSnd {α : Type} {c : Prop} {d : Decidable c} {a b : α × State} (ha : a.2.Wf) (hb : b.2.Wf) :
    (if c then a else b).2.Wf := by
  split
  · exact ha
  · exact hb

theorem State.Wf.iteSnd2 {α β : Type} {c : Prop} {d : Decidable c} {a b : α × β × State} (ha : a.2.2.Wf)
    (hb : b.2.2.Wf) :
    (if c then a else b).2.2.Wf := by
  split
  · exact ha
  · exact hb

theorem State.Wf.iteSt {c : Prop} {d : Decidable c} {a b : BusOut} (ha : a.st.Wf) (hb : b.st.Wf) :
    (if c then a else b).st.Wf := by
  split
  · exact ha
  · exact hb

theorem State.Wf.foldl {α : Type} {l : List α} {f : State → α → State} (h : s.Wf) (hf : ∀ t x, t.Wf → (f t x).Wf) :
    (l.foldl f s).Wf := by
  induction l generalizing s with
  | nil => exact h
  | cons x l ih => exact ih (hf s x h)

/-- A loop that carries a result beside the state. -/
theorem State.Wf.foldlSnd {α β : Type} {l : List β} {f : α × State → β → α × State} {z : α × State} (h : z.2.Wf)
    (hf : ∀ z x, z.2.Wf → (f z x).2.Wf) : (l.foldl f z).2.Wf := by
  induction l generalizing z with
  | nil => exact h
  | cons x l ih => exact ih (hf z x h)

/-- The state of a result that a match has taken apart. -/
theorem State.Wf.of_pair {α : Type} {p : α × State} {x : α} {t : State} (e : p = (x, t)) (h : p.2.Wf) : t.Wf := by
  subst e
  exact h

/-- Whatever next state an outcome gives meets the invariant. -/
def NextWf (o : Outcome State Fault Refusal) : Prop := ∀ t, o = .next t → t.Wf

theorem NextWf.next (h : s.Wf) : NextWf (.next s) := by
  rintro _ ⟨⟩
  exact h

/-- The state that the effect of an instruction ends in meets the invariant. -/
def LOut.Wf : LOut → Prop
  | .done _ s | .goto _ _ s | .skip _ _ s | .stop _ s | .stall s | .trap _ _ s => s.Wf

theorem LOut.Wf.ite {c : Prop} {d : Decidable c} {a b : LOut} (ha : a.Wf) (hb : b.Wf) : (if c then a else b).Wf := by
  split
  · exact ha
  · exact hb

/-- The effect that a command picks for an instruction keeps the invariant. -/
def PickWf : Option Body → Prop
  | some f => ∀ s y, s.Wf → (f s y).Wf
  | none => True

theorem PickWf.some {f : Body} (h : ∀ s y, s.Wf → (f s y).Wf) : PickWf (some f) := h

theorem PickWf.none : PickWf none := trivial

theorem PickWf.ite {c : Prop} {d : Decidable c} {a b : Option Body} (ha : PickWf a) (hb : PickWf b) :
    PickWf (if c then a else b) := by
  split
  · exact ha
  · exact hb

/-! ## New values of single fields -/

theorem State.Wf.withPwr {x : PwrSt} (h : s.Wf) : State.Wf { s with pwr := x } := ⟨h.inv⟩
theorem State.Wf.withI2c {x : I2cSt} (h : s.Wf) : State.Wf { s with i2c := x } := ⟨h.inv⟩
theorem State.Wf.withCal {x : CalSt} (h : s.Wf) : State.Wf { s with cal := x } := ⟨h.inv⟩
theorem State.Wf.withBoot {x : BootSt} (h : s.Wf) : State.Wf { s with boot := x } := ⟨h.inv⟩
theorem State.Wf.withSpi {x : SpiSt} (h : s.Wf) : State.Wf { s with spi := x } := ⟨h.inv⟩
theorem State.Wf.withWaiting {x : List Request} (h : s.Wf) : State.Wf { s with waiting := x } := ⟨h.inv⟩
theorem State.Wf.withMbx {x : MbxSt} (h : s.Wf) : State.Wf { s with mbx := x } := ⟨h.inv⟩
theorem State.Wf.withPsets {x : List PSet} (h : s.Wf) : State.Wf { s with psets := x } := ⟨h.inv⟩
theorem State.Wf.withEvents {x : List Event} (h : s.Wf) : State.Wf { s with events := x } := ⟨h.inv⟩
theorem State.Wf.withStage {x : Option Stage} (h : s.Wf) : State.Wf { s with stage := x } := ⟨h.inv⟩
theorem State.Wf.withReplies {x : List (Nat × BusReply)} (h : s.Wf) : State.Wf { s with replies := x } := ⟨h.inv⟩
theorem State.Wf.withReader {x : ReaderSt} (h : s.Wf) : State.Wf { s with reader := x } := ⟨h.inv⟩
theorem State.Wf.withLife {x : LifeSt} (h : s.Wf) : State.Wf { s with life := x } := ⟨h.inv⟩
theorem State.Wf.withPllArmed {x : List Nat} (h : s.Wf) : State.Wf { s with pllArmed := x } := ⟨h.inv⟩
theorem State.Wf.withDraining {x : List Drain} (h : s.Wf) : State.Wf { s with draining := x } := ⟨h.inv⟩
theorem State.Wf.withAqReplies {x : List (Nat × Reply)} (h : s.Wf) : State.Wf { s with aqReplies := x } := ⟨h.inv⟩
theorem State.Wf.withSnaps {x : List Snap} (h : s.Wf) : State.Wf { s with snaps := x } := ⟨h.inv⟩
theorem State.Wf.withShadow {x : List (RKey × W48)} (h : s.Wf) : State.Wf { s with shadow := x } := ⟨h.inv⟩
theorem State.Wf.withRate {x : List (Nat × Nat)} (h : s.Wf) : State.Wf { s with rate := x } := ⟨h.inv⟩
theorem State.Wf.withRacks {x : List (Nat × RackSt)} (h : s.Wf) : State.Wf { s with racks := x } := ⟨h.inv⟩
theorem State.Wf.withOffLogged {x : List Nat} (h : s.Wf) : State.Wf { s with offLogged := x } := ⟨h.inv⟩
theorem State.Wf.withNow {x : Nat} (h : s.Wf) : State.Wf { s with now := x } := ⟨h.inv⟩
theorem State.Wf.withLasts {x : List (Nat × Last)} (h : s.Wf) : State.Wf { s with lasts := x } := ⟨h.inv⟩
theorem State.Wf.withInits {x : List Init} (h : s.Wf) : State.Wf { s with inits := x } := ⟨h.inv⟩
theorem State.Wf.withFreeIx {x : Nat} (h : s.Wf) : State.Wf { s with freeIx := x } := ⟨h.inv⟩
theorem State.Wf.withFenced {x : List Nat} (h : s.Wf) : State.Wf { s with fenced := x } := ⟨h.inv⟩
theorem State.Wf.withEvr {x : EvrSt} (h : s.Wf) : State.Wf { s with evr := x } := ⟨h.inv⟩
theorem State.Wf.withDenied {x : List Nat} (h : s.Wf) : State.Wf { s with denied := x } := ⟨h.inv⟩
theorem State.Wf.withCmis {x : CmisSt} (h : s.Wf) : State.Wf { s with cmis := x } := ⟨h.inv⟩
theorem State.Wf.withPwrLife {x : PwrSt} {y : LifeSt} (h : s.Wf) : State.Wf { s with pwr := x, life := y } := ⟨h.inv⟩
theorem State.Wf.withPwrBoot {x : PwrSt} {y : BootSt} (h : s.Wf) : State.Wf { s with pwr := x, boot := y } := ⟨h.inv⟩
theorem State.Wf.withNowEvr {x : Nat} {y : EvrSt} (h : s.Wf) : State.Wf { s with now := x, evr := y } := ⟨h.inv⟩
theorem State.Wf.withMbxPwr {x : MbxSt} {y : PwrSt} (h : s.Wf) : State.Wf { s with mbx := x, pwr := y } := ⟨h.inv⟩
theorem State.Wf.withFreeIxInits {x : Nat} {y : List Init} (h : s.Wf) :
    State.Wf { s with freeIx := x, inits := y } := ⟨h.inv⟩
theorem State.Wf.withEventsBoot {x : List Event} {y : BootSt} (h : s.Wf) :
    State.Wf { s with events := x, boot := y } := ⟨h.inv⟩

/-- A new record of the modes with as many ports. -/
theorem State.Wf.withMode {x : ModeSt} (h : s.Wf) (hx : s.mode.ports.length = 8 → x.ports.length = 8) :
    State.Wf { s with mode := x } := by
  obtain ⟨hc, h1, h2, h3, h4, h5, h6, h7, h8, h9, h10, h11, h12, hm, hrest⟩ := h
  exact ⟨hc, h1, h2, h3, h4, h5, h6, h7, h8, h9, h10, h11, h12, hx hm, hrest⟩

/-- New state of the memory controllers with the trackers of as many dies. -/
theorem State.Wf.withCtl {x : MemSt} (h : s.Wf) (hx : s.ctl.trackers.length = 3 → x.trackers.length = 3) :
    State.Wf { s with ctl := x } := by
  obtain ⟨hc, h1, h2, h3, h4, h5, h6, h7, h8, h9, h10, h11, h12, h13, h14, h15, h16, h17, h18, h19, h20, h21, ht⟩ := h
  exact ⟨hc, h1, h2, h3, h4, h5, h6, h7, h8, h9, h10, h11, h12, h13, h14, h15, h16, h17, h18, h19, h20, h21, hx ht⟩

/-- A new record of the security store with as many firmware slots. -/
theorem State.Wf.withSec {x : SecSt} (h : s.Wf) (hx : s.sec.slots.length = 2 → x.slots.length = 2) :
    State.Wf { s with sec := x } := by
  obtain ⟨hc, h1, h2, h3, h4, h5, h6, h7, h8, h9, h10, h11, hs, hrest⟩ := h
  exact ⟨hc, h1, h2, h3, h4, h5, h6, h7, h8, h9, h10, h11, hx hs, hrest⟩

/-- Both at once: the security store with its firmware slots, and the boot record. -/
theorem State.Wf.withBootSec {x : BootSt} {y : SecSt} (h : s.Wf) (hy : s.sec.slots.length = 2 → y.slots.length = 2) :
    State.Wf { s with boot := x, sec := y } := ⟨(h.withSec hy).inv⟩

/-- Optics control has its loops and generators. -/
abbrev OptSt.Shaped (x : OptSt) : Prop := x.loops.length = 48 ∧ x.sines.length = 8

/-- New state of optics control with as many loops and generators. -/
theorem State.Wf.withOpt {x : OptSt} (h : s.Wf) (hx : s.opt.Shaped → x.Shaped) : State.Wf { s with opt := x } := by
  obtain ⟨hc, h1, h2, h3, h4, h5, h6, hl, hs, hrest⟩ := h
  obtain ⟨hl', hs'⟩ := hx ⟨hl, hs⟩
  exact ⟨hc, h1, h2, h3, h4, h5, h6, hl', hs', hrest⟩

/-- The monitor has its channels and inputs. -/
abbrev MonSt.Shaped (x : MonSt) : Prop := x.chans.length = 32 ∧ x.ins.length = 32

/-- New state of the monitor with as many channels and inputs. -/
theorem State.Wf.withMon {x : MonSt} (h : s.Wf) (hx : s.mon.Shaped → x.Shaped) : State.Wf { s with mon := x } := by
  obtain ⟨hc, h1, h2, h3, h4, h5, h6, h7, h8, hn, hi, hrest⟩ := h
  obtain ⟨hn', hi'⟩ := hx ⟨hn, hi⟩
  exact ⟨hc, h1, h2, h3, h4, h5, h6, h7, h8, hn', hi', hrest⟩

/-- The time service keeps a record for each die, line lane, fibre group and port. -/
abbrev TimeSt.Shaped (x : TimeSt) : Prop :=
  x.clocks.length = 2 ∧ x.sent.length = 8 ∧ x.xchs.length = 8 ∧ x.asym.length = 8 ∧ x.wl.length = 8 ∧
  x.ranging.length = 8 ∧ x.tsq.length = 8 ∧ x.twoAt.length = 8 ∧ x.ctxs.length = 2

/-- A die's contexts go, and the stamps of its ports. -/
theorem TimeSt.Shaped.dropDie {x : TimeSt} {d : Nat} {f : Nat → List Wide} (hx : x.Shaped) :
    TimeSt.Shaped { x with ctxs := x.ctxs.set d [], tsq := (List.range 8).map f } := by
  obtain ⟨hc, hs, hy, ha, hw, hr, -, ht, hg⟩ := hx
  exact ⟨hc, hs, hy, ha, hw, hr, by simp, ht, by simpa using hg⟩

section

variable {x : TimeSt} {n : Nat} (hx : x.Shaped)
include hx

theorem TimeSt.Shaped.setClock {v} : TimeSt.Shaped { x with clocks := x.clocks.set n v } := by
  simpa [TimeSt.Shaped] using hx

theorem TimeSt.Shaped.setSent {v} : TimeSt.Shaped { x with sent := x.sent.set n v } := by
  simpa [TimeSt.Shaped] using hx

theorem TimeSt.Shaped.setXch {v} : TimeSt.Shaped { x with xchs := x.xchs.set n v } := by
  simpa [TimeSt.Shaped] using hx

theorem TimeSt.Shaped.setAsym {v} : TimeSt.Shaped { x with asym := x.asym.set n v } := by
  simpa [TimeSt.Shaped] using hx

theorem TimeSt.Shaped.setWl {v} : TimeSt.Shaped { x with wl := x.wl.set n v } := by
  simpa [TimeSt.Shaped] using hx

theorem TimeSt.Shaped.setRanging {v} : TimeSt.Shaped { x with ranging := x.ranging.set n v } := by
  simpa [TimeSt.Shaped] using hx

theorem TimeSt.Shaped.setTsq {v} : TimeSt.Shaped { x with tsq := x.tsq.set n v } := by
  simpa [TimeSt.Shaped] using hx

theorem TimeSt.Shaped.setTwoAt {v} : TimeSt.Shaped { x with twoAt := x.twoAt.set n v } := by
  simpa [TimeSt.Shaped] using hx

theorem TimeSt.Shaped.setCtxs {v} : TimeSt.Shaped { x with ctxs := x.ctxs.set n v } := by
  simpa [TimeSt.Shaped] using hx

end

/-- New state of the time service with as many records. -/
theorem State.Wf.withTime {x : TimeSt} (h : s.Wf) (hx : s.time.Shaped → x.Shaped) : State.Wf { s with time := x } := by
  obtain ⟨hcan, h1, h2, h3, h4, h5, h6, h7, h8, h9, h10, hc, h12, h13, hs, hy, ha, hw, hr, hq, ht, hg, h22⟩ := h
  obtain ⟨hc', hs', hy', ha', hw', hr', hq', ht', hg'⟩ := hx ⟨hc, hs, hy, ha, hw, hr, hq, ht, hg⟩
  exact ⟨hcan, h1, h2, h3, h4, h5, h6, h7, h8, h9, h10, hc', h12, h13, hs', hy', ha', hw', hr', hq', ht', hg', h22⟩

/-- Fewer counters. -/
theorem State.Wf.filterCnts {keep : RKey × W48 → Bool} (h : s.Wf) : State.Wf { s with cnts := s.cnts.filter keep } := by
  obtain ⟨⟨hr, hc, hrest⟩, hsh⟩ := h
  exact ⟨⟨hr, canonical_filter RKey.lt_trans hc keep, hrest⟩, hsh⟩

/-- New measurements of a sensor. -/
theorem State.Wf.setSensors {n v} (h : s.Wf) : State.Wf { s with sensors := s.sensors.set n v } :=
  ⟨h.inv.1, by simpa [State.Shaped] using h.inv.2⟩

/-! ## Ops -/

theorem State.Wf.setReg {r v u i} (h : s.Wf) : (s.setReg r v u i).Wf := by
  obtain ⟨⟨hr, hrest⟩, hsh⟩ := h
  exact ⟨⟨State.setReg_canonical hr r v u i, hrest⟩, hsh⟩

theorem State.Wf.put {f v u i} (h : s.Wf) : (s.put f v u i).Wf := by
  unfold State.put
  exact .setReg h

theorem State.Wf.putFlag {f v u i} (h : s.Wf) : (s.putFlag f v u i).Wf := by
  unfold State.putFlag
  exact .put h

theorem State.Wf.raise {f u i} (h : s.Wf) : (s.raise f u i).Wf := by
  unfold State.raise
  exact .put h

theorem State.Wf.putBit {r n v u} (h : s.Wf) : (s.putBit r n v u).Wf := by
  unfold State.putBit
  exact .setReg h

theorem State.Wf.setWide {r v u i} (h : s.Wf) : (s.setWide r v u i).Wf := by
  obtain ⟨⟨hr, hc, hw, hrest⟩, hsh⟩ := h
  exact ⟨⟨hr, hc, State.setWide_canonical hw r v u i, hrest⟩, hsh⟩

theorem State.Wf.setCnt {r v u i} (h : s.Wf) : (s.setCnt r v u i).Wf := by
  obtain ⟨⟨hr, hc, hrest⟩, hsh⟩ := h
  exact ⟨⟨hr, State.setCnt_canonical hc r v u i, hrest⟩, hsh⟩

theorem State.Wf.log {code sev p0 p1 p2 p3} (h : s.Wf) : (s.log code sev p0 p1 p2 p3).Wf := by
  unfold State.log
  exact .withEvents h

theorem State.Wf.logRate {obj code sev p0 p1 p2 p3} (h : s.Wf) : (s.logRate obj code sev p0 p1 p2 p3).Wf := by
  unfold State.logRate
  exact .ite (.withRate (.log h)) h

theorem State.Wf.free (h : s.Wf) : s.free.2.Wf := by
  unfold State.free
  exact .snd (.withFreeIx h)

theorem State.Wf.cntOverflow {r u i} (h : s.Wf) : (s.cntOverflow r u i).Wf := by
  unfold State.cntOverflow
  split
  · exact h
  · exact .logRate (.ite (.raise (.ite (.setReg h) h)) (.raise (.ite (.setReg h) h)))

theorem State.Wf.inc {r u i n} (h : s.Wf) : (s.inc r u i n).Wf := by
  unfold State.inc
  extract_lets
  split
  · exact .ite h (.ite (.setCnt h) (.raise (.setCnt h)))
  · exact .ite (.setCnt h) (.cntOverflow (.setCnt h))

theorem State.Wf.bump {f u i} (h : s.Wf) : (s.bump f u i).Wf := by
  unfold State.bump
  exact .put h

theorem State.Wf.setIsland {id v} (h : s.Wf) : (s.setIsland id v).Wf := by
  obtain ⟨⟨hr, hc, hw, hi, hrest⟩, hsh⟩ := h
  exact ⟨⟨hr, hc, hw, State.setIsland_canonical hi id v, hrest⟩, hsh⟩

theorem State.Wf.turnIsland {id' v} (h : s.Wf) : (s.turnIsland id' v).Wf := by
  unfold State.turnIsland
  exact .ite (.withDraining (.setIsland h)) (.withDraining (.setIsland h))

theorem State.Wf.settleDrains (h : s.Wf) : s.settleDrains.Wf := by
  unfold State.settleDrains
  exact .foldl h fun _ _ hf => .ite (.turnIsland hf) hf

theorem State.Wf.setWord {a w} (h : s.Wf) : (s.setWord a w).Wf := by
  obtain ⟨⟨hr, hc, hw, hi, hd, hm⟩, hsh⟩ := h
  exact ⟨⟨hr, hc, hw, hi, hd, State.setWord_wf hm a w⟩, hsh⟩

/-- Words that lose their contents, with the trackers' entries for them. -/
theorem State.Wf.dropWords {keep : Nat × W72 → Bool} {f : List (Nat × Nat) → List (Nat × Nat)} {is : List Init}
    (h : s.Wf) :
    State.Wf { s with mem := s.mem.filter keep, inits := is, ctl := { s.ctl with trackers := s.ctl.trackers.map f } } := by
  obtain ⟨⟨hr, hc, hw, hi, hd, hm⟩, hsh⟩ := h
  exact ⟨⟨hr, hc, hw, hi, hd, Memory.wf_filter hm keep⟩, by simpa [State.Shaped] using hsh⟩

theorem State.Wf.dropRange {lo hi} (h : s.Wf) : (s.dropRange lo hi).Wf := .dropWords h

theorem State.Wf.initRange {lo hi} (h : s.Wf) : (s.initRange lo hi).Wf := by
  unfold State.initRange
  exact .withFreeIxInits (.dropRange h)

theorem State.Wf.zeroRange {lo hi} (h : s.Wf) : (s.zeroRange lo hi).Wf := by
  unfold State.zeroRange
  exact .withInits (.dropRange h)

theorem State.Wf.wipe {rows u} (h : s.Wf) : (s.wipe rows u).Wf := by
  obtain ⟨⟨hr, hc, hw, hrest⟩, hsh⟩ := h
  exact ⟨⟨canonical_filter RKey.lt_trans hr _, canonical_filter RKey.lt_trans hc _, canonical_filter RKey.lt_trans hw _,
    hrest⟩, hsh⟩

theorem State.Wf.respond {m r lo hi} (h : s.Wf) : (s.respond m r lo hi).Wf := by
  unfold State.respond
  exact .withReplies h

theorem State.Wf.setEyelet {e v} (h : s.Wf) : (s.setEyelet e v).Wf := by
  unfold State.setEyelet
  exact .withMbx h

theorem State.Wf.finish {t r} (h : s.Wf) : (s.finish t r).Wf := by
  unfold State.finish
  exact .ite (.withAqReplies h) (.ite (.setEyelet h) h)

theorem State.Wf.runCmd {e cls cmd} {f : Handler} (h : s.Wf) (hf : ∀ p t s, s.Wf → (f p t s).2.Wf) :
    (s.runCmd e cls cmd f).Wf := by
  unfold State.runCmd
  refine .ite ?_ h
  extract_lets t
  have hs := hf (paramsOf (s.eyelet e).desc) t _
    (h.setEyelet (e := e) (v := { s.eyelet e with started := true }))
  split
  · next _ _ e => exact .finish (.of_pair e hs)
  · next _ e => exact .of_pair e hs

/-! ## Perf -/

theorem State.Wf.perfPriv {u n g} (h : s.Wf) : (s.perfPriv u n g).2.Wf := by
  unfold State.perfPriv
  split
  · exact h
  · split
    · exact h
    · exact h
    · exact h
    · exact .free h

theorem State.Wf.perfOne {u code g k n} (h : s.Wf) : (s.perfOne u code g k n).Wf := by
  unfold State.perfOne
  exact .ite (.ite (.inc (.perfPriv h)) (.perfPriv h)) h

theorem State.Wf.perf {u code g k} (h : s.Wf) : (s.perf u code g k).Wf := by
  unfold State.perf
  exact .ite h (.foldl h fun _ _ hf => .perfOne hf)

/-! ## Access -/

theorem State.Wf.capture447 {m a r} (h : s.Wf) : (s.capture447 m a r).Wf := by
  unfold State.capture447
  exact .ite h (.setReg (.setReg h))

theorem State.Wf.captureSpi {m a r} (h : s.Wf) : (s.captureSpi m a r).Wf := by
  unfold State.captureSpi
  exact .ite h (.raise (.setReg (.raise (.put h))))

theorem State.Wf.answer {m a r lo hi} (h : s.Wf) : (s.answer m a r lo hi).Wf := by
  unfold State.answer
  exact .respond (.captureSpi (.capture447 h))

theorem State.Wf.gateOff {m op a} (h : s.Wf) : (s.gateOff m op a).Wf := by
  unfold State.gateOff
  exact .ite (.perf h) (.log (.withOffLogged (.perf h)))

theorem State.Wf.refuse {m a} (h : s.Wf) : (s.refuse m a).Wf := by
  unfold State.refuse
  extract_lets s1
  have h1 : s1.Wf := .respond (.captureSpi h)
  refine .ite ?_ h1
  exact .ite (.inc (.raise h1)) (.log (.withDenied (.inc (.raise h1))))

theorem State.Wf.openWindow {w base limit flags} (h : s.Wf) : (s.openWindow w base limit flags).Wf := by
  unfold State.openWindow
  exact .put (.setReg (.setReg h))

theorem State.Wf.closeWindow {w} (h : s.Wf) : (s.closeWindow w).Wf := by
  unfold State.closeWindow
  exact .put (.put h)

theorem State.Wf.openStage {use len} (h : s.Wf) : (s.openStage use len).2.Wf := by
  unfold State.openStage
  exact .withStage (.openWindow (.initRange (.free h)))

theorem State.Wf.closeStage (h : s.Wf) : s.closeStage.Wf := by
  unfold State.closeStage
  exact .withStage (.closeWindow h)

/-! ## Ports -/

theorem State.Wf.setLine {k v} (h : s.Wf) : (s.setLine k v).Wf :=
  ⟨h.inv.1, by simpa [State.setLine, State.Shaped] using h.inv.2⟩

theorem State.Wf.endCalRx {k code check} (h : s.Wf) : (s.endCalRx k code check).Wf := by
  unfold State.endCalRx
  split
  · exact h
  · refine .finish (.ite (.log (.raise (.setReg (.put (.put (.putFlag (.setLine h))))))) ?_)
    exact .log (.inc (.raise (.ite (.setReg (.put (.put (.putFlag (.setLine h))))) (.foldl (.setReg (.put (.put
        (.putFlag (.setLine h))))) fun _ _ hf => .setReg hf))))

theorem State.Wf.endCalTx {k code check} (h : s.Wf) : (s.endCalTx k code check).Wf := by
  unfold State.endCalTx
  split
  · exact h
  · refine .finish (.ite (.log (.raise (.setReg (.put (.put (.putFlag (.setLine h))))))) ?_)
    exact .log (.inc (.raise (.ite (.setReg (.put (.put (.putFlag (.setLine h))))) (.foldl (.setReg (.put (.put
        (.putFlag (.setLine h))))) fun _ _ hf => .setReg hf))))

theorem State.Wf.monitorCalRx {k} (h : s.Wf) : (s.monitorCalRx k).Wf := by
  unfold State.monitorCalRx
  exact .ite h (.endCalRx h)

theorem State.Wf.refreshAmp {k} (h : s.Wf) : (s.refreshAmp k).Wf := by
  unfold State.refreshAmp
  exact .ite (.put h) h

theorem State.Wf.setTxActive {k xs} (h : s.Wf) : (s.setTxActive k xs).Wf := by
  unfold State.setTxActive
  exact .foldl (.foldl h fun _ _ hf => .put hf) fun _ _ hf1 => .put hf1

theorem State.Wf.endRamp {k} (h : s.Wf) : (s.endRamp k).Wf := by
  unfold State.endRamp
  split
  · exact h
  · exact .refreshAmp (.raise (.put (.setLine (.setTxActive h))))

theorem State.Wf.snapTxTrims {k} (h : s.Wf) : (s.snapTxTrims k).Wf := by
  unfold State.snapTxTrims
  exact .foldl h fun _ _ hf => .setReg hf

theorem State.Wf.setInsl {k v} (h : s.Wf) : (s.setInsl k v).Wf :=
  ⟨h.inv.1, by simpa [State.setInsl, State.Shaped] using h.inv.2⟩

theorem State.Wf.insRamp {k up} (h : s.Wf) : (s.insRamp k up).Wf := by
  unfold State.insRamp
  extract_lets
  split
  · exact .ite h (.setInsl h)
  · exact .ite h (.putFlag (.putFlag (.setInsl h)))

theorem State.Wf.insPause {k} (h : s.Wf) : (s.insPause k).Wf := by
  unfold State.insPause
  exact .ite (.insRamp (.log (.raise (.putFlag h)))) h

theorem State.Wf.startGrid {k} (h : s.Wf) : (s.startGrid k).Wf := by
  unfold State.startGrid
  exact .setInsl (.free h)

theorem State.Wf.insRelease {k} (h : s.Wf) : (s.insRelease k).Wf := by
  unfold State.insRelease
  exact .ite (.ite (.insPause (.startGrid h)) (.insRamp (.startGrid h))) h

theorem State.Wf.refreshLine {k} (h : s.Wf) : (s.refreshLine k).Wf := by
  unfold State.refreshLine
  refine .ite ?_ ?_
  · exact .snapTxTrims (.endCalTx (.endRamp (.log (.raise (.putFlag (.put h))))))
  · exact .ite (.insRelease (.log (.raise (.putFlag (.setLine (.put h)))))) (.put h)

theorem State.Wf.refreshLines {ks} (h : s.Wf) : (s.refreshLines ks).Wf := by
  unfold State.refreshLines
  exact .foldl h fun _ _ hf => .refreshLine hf

theorem State.Wf.refreshHost {j} (h : s.Wf) : (s.refreshHost j).Wf := by
  unfold State.refreshHost
  exact .putFlag (.put h)

theorem State.Wf.refreshHosts {js} (h : s.Wf) : (s.refreshHosts js).Wf := by
  unfold State.refreshHosts
  exact .foldl h fun _ _ hf => .refreshHost hf

theorem State.Wf.putPort {p st reason} (h : s.Wf) : (s.putPort p st reason).Wf := h.withMode (by simp)

theorem State.Wf.setPort {p st reason} (h : s.Wf) : (s.setPort p st reason).Wf := by
  unfold State.setPort
  refine .ite h ?_
  exact .refreshHosts (.refreshLines (.ite (.foldl (.log (.putPort h)) fun _ _ hf => .setReg hf) (.log (.putPort h))))

theorem State.Wf.restPort {p reason} (h : s.Wf) : (s.restPort p reason).Wf := by
  unfold State.restPort
  exact .ite (.setPort h) (.ite (.setPort h) (.ite (.setPort h) (.ite (.setPort h) (.setPort h))))

theorem State.Wf.refreshDuty {k} (h : s.Wf) : (s.refreshDuty k).Wf := by
  unfold State.refreshDuty
  exact .foldl (.put h) fun _ _ hf => .put hf

theorem State.Wf.startFade {k f} (h : s.Wf) : (s.startFade k f).Wf := by
  unfold State.startFade
  exact .setLine h

theorem State.Wf.refreshOptions {k} (h : s.Wf) : (s.refreshOptions k).Wf := by
  unfold State.refreshOptions
  refine .ite ?_ ?_
  · exact .ite h (.log (.raise (.raise (.ite (.put (.startFade (.putFlag h))) (.putFlag h)))))
  · exact .via (.ite (.log (.raise (.put h))) h) fun h1 => .ite (.ite h1 (.startFade h1)) (.putFlag h1)

theorem State.Wf.refreshThrottle {d} (h : s.Wf) : (s.refreshThrottle d).Wf := by
  unfold State.refreshThrottle
  exact .foldl h fun _ _ hf => .refreshDuty (.refreshOptions hf)

/-! ## Links -/

theorem State.Wf.insMsgDone {k code m} (h : s.Wf) : (s.insMsgDone k code m).Wf := by
  unfold State.insMsgDone
  exact .finish (.ite (.raise (.put h)) (.log (.inc (.raise (.put h)))))

theorem State.Wf.insFlush {k code} (h : s.Wf) : (s.insFlush k code).Wf := by
  unfold State.insFlush
  exact .foldl (.setInsl h) fun _ _ hf => .insMsgDone hf

theorem State.Wf.setRxOk {k v} (h : s.Wf) : (s.setRxOk k v).Wf := by
  unfold State.setRxOk
  exact .ite h (.setInsl h)

theorem State.Wf.insLeave {k st reason code} (h : s.Wf) : (s.insLeave k st reason code).Wf := by
  unfold State.insLeave
  refine .ite ?_ (.put h)
  exact .insFlush (.setInsl (.setRxOk (.putFlag (.setInsl (.ite (.raise (.put h)) (.log (.raise (.put h))))))))

theorem State.Wf.insRxStop {k} (h : s.Wf) : (s.insRxStop k).Wf := by
  unfold State.insRxStop
  exact .ite h (.setRxOk (.putFlag (.insLeave h)))

theorem State.Wf.insSeed {k} (h : s.Wf) : (s.insSeed k).Wf := by
  unfold State.insSeed
  exact .setInsl (.put h)

theorem State.Wf.insAcquire {k} (h : s.Wf) : (s.insAcquire k).Wf := by
  unfold State.insAcquire
  exact .ite (.log (.raise (.insSeed h))) (.insSeed h)

theorem State.Wf.insRxStart {k} (h : s.Wf) : (s.insRxStart k).Wf := by
  unfold State.insRxStart
  exact .ite (.insAcquire h) h

theorem State.Wf.startSeq {num obj step} (h : s.Wf) : (s.startSeq num obj step).Wf := by
  unfold State.startSeq
  exact .ite h (.withPwr h)

theorem State.Wf.endSeq {num obj} (h : s.Wf) : (s.endSeq num obj).Wf := by
  unfold State.endSeq
  exact .withPwr h

theorem State.Wf.refreshLineIsland {k} (h : s.Wf) : (s.refreshLineIsland k).Wf := by
  unfold State.refreshLineIsland
  exact .ite (.turnIsland h) h

theorem State.Wf.refreshHostIsland {j} (h : s.Wf) : (s.refreshHostIsland j).Wf := by
  unfold State.refreshHostIsland
  exact .ite (.turnIsland h) h

theorem State.Wf.wakeLineRx {k} (h : s.Wf) : (s.wakeLineRx k).Wf := by
  unfold State.wakeLineRx
  exact .ite (.refreshLineIsland (.startSeq h)) h

theorem State.Wf.wakeLineTx {k} (h : s.Wf) : (s.wakeLineTx k).Wf := by
  unfold State.wakeLineTx
  exact .ite (.refreshLineIsland (.startSeq h)) h

theorem State.Wf.wakeHostRx {j} (h : s.Wf) : (s.wakeHostRx j).Wf := by
  unfold State.wakeHostRx
  exact .ite (.refreshHostIsland (.startSeq h)) h

theorem State.Wf.wakeHostTx {j} (h : s.Wf) : (s.wakeHostTx j).Wf := by
  unfold State.wakeHostTx
  exact .ite (.refreshHost (.put (.refreshHostIsland (.startSeq h)))) h

theorem State.Wf.wakeHostRxPort {j} (h : s.Wf) : (s.wakeHostRxPort j).Wf := by
  unfold State.wakeHostRxPort
  split
  · exact h
  · exact .foldl h fun _ _ hf => .wakeHostRx hf

theorem State.Wf.setFec {p v} (h : s.Wf) : (s.setFec p v).Wf :=
  ⟨h.inv.1, by simpa [State.setFec, State.Shaped] using h.inv.2⟩

theorem State.Wf.setDir {p fromHost v} (h : s.Wf) : (s.setDir p fromHost v).Wf := by
  unfold State.setDir
  exact .setFec h

theorem State.Wf.putPcs {p fromHost i xs} (h : s.Wf) : (s.putPcs p fromHost i xs).Wf := by
  unfold State.putPcs
  exact .setDir h

theorem State.Wf.refreshAlign {p} (h : s.Wf) : (s.refreshAlign p).Wf := by
  unfold State.refreshAlign
  refine .ite ?_ (.ite (.setPort (.setFec h)) (.setFec h))
  exact .ite (.setPort (.log (.raise (.setFec h)))) (.log (.raise (.setFec h)))

theorem State.Wf.portTo {p st reason} (h : s.Wf) : (s.portTo p st reason).Wf := by
  unfold State.portTo
  exact .refreshAlign (.setPort h)

theorem State.Wf.portRest {p reason} (h : s.Wf) : (s.portRest p reason).Wf := by
  unfold State.portRest
  exact .refreshAlign (.restPort h)

theorem State.Wf.putAmLine {p i v} (h : s.Wf) : (s.putAmLine p i v).Wf := by
  unfold State.putAmLine
  exact .putFlag (.put h)

theorem State.Wf.amLostLine {k} (h : s.Wf) : (s.amLostLine k).Wf := by
  unfold State.amLostLine
  split
  · exact h
  · refine .ite ?_ h
    exact .via (.ite (.inc (.putPcs (.putAmLine h))) (.putPcs (.putAmLine h))) fun h1 => .refreshAlign
        (.monitorCalRx (.ite (.ite (.raise h1) h1) (.log (.ite (.raise h1) h1))))

theorem State.Wf.amLostHost {j} (h : s.Wf) : (s.amLostHost j).Wf := by
  unfold State.amLostHost
  split
  · exact h
  · refine .ite ?_ h
    exact .via (.putPcs (.put h)) fun h1 => .refreshAlign (.ite (.ite (.raise h1) h1) (.log (.ite (.raise h1) h1)))

theorem State.Wf.innerLost {k} (h : s.Wf) : (s.innerLost k).Wf := by
  unfold State.innerLost
  split
  · exact h
  · exact .ite (.amLostLine (.ite (.put h) (.log (.put h)))) (.amLostLine h)

theorem State.Wf.snapRxTrims {k} (h : s.Wf) : (s.snapRxTrims k).Wf := by
  unfold State.snapRxTrims
  exact .foldl h fun _ _ hf => .setReg hf

theorem State.Wf.cdrLostLine {k} (h : s.Wf) : (s.cdrLostLine k).Wf := by
  unfold State.cdrLostLine
  refine .ite ?_ h
  exact .insRxStop (.snapRxTrims (.monitorCalRx (.ite (.inc (.raise (.putFlag h))) (.log (.inc (.raise (.putFlag
      h)))))))

theorem State.Wf.dozeLineRx {k} (h : s.Wf) : (s.dozeLineRx k).Wf := by
  unfold State.dozeLineRx
  exact .refreshLineIsland (.insRxStop (.innerLost (.cdrLostLine (.putFlag h))))

theorem State.Wf.cdrLostHost {j} (h : s.Wf) : (s.cdrLostHost j).Wf := by
  unfold State.cdrLostHost
  refine .ite ?_ h
  exact .ite (.inc (.raise (.putFlag (.putFlag h)))) (.log (.inc (.raise (.putFlag (.putFlag h)))))

/-! ## Fec -/

theorem State.Wf.execInnerLockSet {k blocks} (h : s.Wf) : NextWf (Machine.execInnerLockSet k blocks s) := by
  unfold Machine.execInnerLockSet
  refine .next ?_
  split
  · exact h
  · exact .ite (.put h) h

theorem State.Wf.execInnerLockClear {k blocks} (h : s.Wf) : NextWf (Machine.execInnerLockClear k blocks s) := by
  unfold Machine.execInnerLockClear
  refine .next ?_
  split
  · exact h
  · exact .ite (.innerLost h) h

theorem State.Wf.execInnerCodeword {k word rel lesser} (h : s.Wf) : NextWf (Machine.execInnerCodeword k word rel
    lesser s) := by
  unfold Machine.execInnerCodeword
  refine .next ?_
  split
  · exact h
  · refine .ite ?_ h
    split
    refine .ite ?_ (.setLine h)
    split <;> exact .inc (.setLine h)

theorem State.Wf.execAmLockSet {host n lanes} (h : s.Wf) : NextWf (Machine.execAmLockSet host n lanes s) := by
  unfold Machine.execAmLockSet
  refine .next (.ite ?_ ?_)
  · split
    · exact h
    · exact .ite (.refreshAlign (.put (.putPcs h))) h
  · split
    · exact h
    · exact .ite (.refreshAlign (.putAmLine (.putPcs h))) h

theorem State.Wf.markCodeword {p fromHost} (h : s.Wf) : (s.markCodeword p fromHost).Wf := by
  unfold State.markCodeword
  exact .ite (.raise (.inc h)) (.ite (.setDir (.logRate (.raise (.inc h)))) (.setDir (.raise (.inc h))))

theorem State.Wf.pushBlocks {p fromHost bs} (h : s.Wf) : (s.pushBlocks p fromHost bs).Wf := by
  unfold State.pushBlocks
  exact .foldl h fun _ _ hf => .setDir hf

theorem State.Wf.execCodewordDecode {p fromHost errors blocks} (h : s.Wf) : NextWf (Machine.execCodewordDecode p
    fromHost errors blocks s) := by
  unfold Machine.execCodewordDecode
  refine .next (.ite ?_ h)
  extract_lets _ _ _ _ s1
  have h1 : s1.Wf := .ite (.pushBlocks (.setDir h)) (.setDir h)
  refine .ite h1 (.ite (.markCodeword (.inc h1)) (.ite (.inc h1) ?_))
  refine .foldl (.ite (.inc (.inc (.inc h1))) (.inc (.inc (.inc (.inc h1))))) fun _ _ hf => ?_
  split
  · exact .inc hf
  · exact hf

theorem State.Wf.slip {p} (h : s.Wf) : (s.slip p).Wf := by
  unfold State.slip
  exact .ite (.logRate (.raise (.inc h))) h

theorem State.Wf.execMonitorSlip {k} (h : s.Wf) : NextWf (Machine.execMonitorSlip k s) := by
  unfold Machine.execMonitorSlip
  refine .next ?_
  split
  · exact h
  · exact .ite h (.slip h)

theorem State.Wf.refreshSkewOver {p} (h : s.Wf) : (s.refreshSkewOver p).Wf := by
  unfold State.refreshSkewOver
  exact .putFlag (.putFlag h)

theorem State.Wf.execSkewMeasurement {p fromHost arrivals fill} (h : s.Wf) : NextWf (Machine.execSkewMeasurement p
    fromHost arrivals fill s) := by
  unfold Machine.execSkewMeasurement
  refine .next (.ite ?_ h)
  exact .via (.refreshSkewOver (.setDir (.ite h (.put h)))) fun h1 => .refreshAlign (.ite (.ite (.putFlag h1) (.log
      (.inc (.raise (.putFlag h1))))) (.put (.setDir (.putFlag h1))))

theorem State.Wf.execWakeFrameDiscard {p fromHost len} (h : s.Wf) : NextWf (Machine.execWakeFrameDiscard p fromHost
    len s) := by
  unfold Machine.execWakeFrameDiscard
  exact .next (.ite (.ite (.setDir h) (.ite (.inc (.raise (.setDir h))) (.raise (.setDir h)))) h)

theorem State.Wf.endRestart {p fromHost} (h : s.Wf) : (s.endRestart p fromHost).Wf := by
  unfold State.endRestart
  exact .ite h (.ite (.setDir h) (.log (.setDir h)))

theorem State.Wf.statLatch {p} (h : s.Wf) : (s.statLatch p).Wf := by
  unfold State.statLatch
  exact .withShadow h

theorem State.Wf.statClear {p} (h : s.Wf) : (s.statClear p).Wf := by
  unfold State.statClear
  exact .setFec (.filterCnts h)

theorem State.Wf.statCtlWrite {p data} (h : s.Wf) : (s.statCtlWrite p data).Wf := by
  unfold State.statCtlWrite
  exact .ite (.statClear (.ite (.statLatch h) h)) (.ite (.statLatch h) h)

theorem State.Wf.injCtlWrite {p data} (h : s.Wf) : (s.injCtlWrite p data).Wf := by
  unfold State.injCtlWrite
  exact .ite (.setFec (.setReg h)) (.raise h)

theorem State.Wf.refreshPool {d} (h : s.Wf) : (s.refreshPool d).Wf := by
  unfold State.refreshPool
  exact .put (.put (.put h))

theorem State.Wf.allocGranule {d p use lane index} (h : s.Wf) : (s.allocGranule d p use lane index).Wf := by
  unfold State.allocGranule
  split
  · exact h
  · exact .initRange (.setReg h)

theorem State.Wf.allocPort {p uses} (h : s.Wf) : (s.allocPort p uses).Wf := by
  unfold State.allocPort
  exact .refreshPool (.foldl h fun _ _ hf => .allocGranule hf)

theorem State.Wf.releasePort {p uses} (h : s.Wf) : (s.releasePort p uses).Wf := by
  unfold State.releasePort
  exact .refreshPool (.foldl h fun _ _ hf => .ite (.setReg hf) hf)

theorem State.Wf.fence {d g} (h : s.Wf) : (s.fence d g).Wf := by
  unfold State.fence
  exact .ite h (.log (.refreshPool (.raise (.withFenced h))))

theorem State.Wf.cmdStatLatch {p x} (h : s.Wf) : (Machine.cmdStatLatch p x s).2.Wf := by
  unfold Machine.cmdStatLatch
  exact .iteSnd h (.iteSnd h (.iteSnd h (.snd (.statCtlWrite h))))

theorem State.Wf.cmdPoolStatus {p x} (h : s.Wf) : (Machine.cmdPoolStatus p x s).2.Wf := by
  unfold Machine.cmdPoolStatus
  exact .iteSnd h h

theorem State.Wf.cmdSkewReport {p x} (h : s.Wf) : (Machine.cmdSkewReport p x s).2.Wf := by
  unfold Machine.cmdSkewReport
  exact .iteSnd h (.iteSnd h (.iteSnd h h))

/-! ## Memory -/

theorem State.Wf.loseBuried {id} (h : s.Wf) : (s.loseBuried id).Wf := .dropWords h

theorem State.Wf.setTracker {die v} (h : s.Wf) : (s.setTracker die v).Wf := h.withCtl (by simp)

theorem State.Wf.untrack {die a} (h : s.Wf) : (s.untrack die a).Wf := by
  unfold State.untrack
  exact .setTracker h

theorem State.Wf.hardError {die region a} (h : s.Wf) : (s.hardError die region a).Wf := by
  unfold State.hardError
  extract_lets _ _ _ _ s1
  have h1 : s1.Wf := .raise (.ite (.put (.setReg h)) (.raise h))
  refine .ite ?_ ?_
  · exact .ite (.log h1) (.ite (.log (.withCtl h1 id)) (.log (.log h1)))
  · exact .ite (.log (.withCtl h1 id)) (.ite (.log (.fence h1)) (.log h1))

theorem State.Wf.track {die region a} (h : s.Wf) : (s.track die region a).Wf := by
  unfold State.track
  extract_lets
  split
  · exact .setTracker h
  · exact .ite (.hardError (.untrack h)) (.setTracker h)

theorem State.Wf.countCorrected {a} (h : s.Wf) : (s.countCorrected a).Wf := by
  unfold State.countCorrected
  split
  · exact h
  · exact .track (.ite (.log (.raise (.bump (.put (.perf (.inc h)))))) (.put (.perf (.inc h))))

theorem State.Wf.countUncorrectable {a src kind poison} (h : s.Wf) : (s.countUncorrectable a src kind poison).Wf := by
  unfold State.countUncorrectable
  split
  · exact h
  · exact .logRate (.ite (.raise (.inc h)) (.raise (.putFlag (.putFlag (.put (.put (.setReg (.raise (.inc h)))))))))

theorem State.Wf.writeBack {a d} (h : s.Wf) : (s.writeBack a d).Wf := by
  unfold State.writeBack
  exact .ite (.ite h (.withCtl h id)) (.setWord h)

theorem State.Wf.readWord {a src kind} (h : s.Wf) : (s.readWord a src kind).2.Wf := by
  unfold State.readWord
  split
  · split
    · exact .snd (.untrack h)
    · exact h
  · exact .snd (.writeBack (.countCorrected h))
  · exact .snd (.countUncorrectable h)
  · exact .snd (.countUncorrectable h)

theorem State.Wf.readWords {as} (h : s.Wf) : (s.readWords as).2.Wf := by
  induction as generalizing s with
  | nil => exact h
  | cons a as ih =>
    rw [State.readWords]
    split
    next e =>
    split
    next e' =>
    have ht : State.Wf _ := .of_pair e' (ih (.of_pair e h.readWord))
    split
    · exact ht
    · exact ht

theorem State.Wf.writeWord {a d} (h : s.Wf) : (s.writeWord a d).Wf := by
  unfold State.writeWord
  extract_lets
  split
  · exact .untrack (.setWord h)
  · exact .setWord h

theorem State.Wf.mergeWord {a d be src} (h : s.Wf) : (s.mergeWord a d be src).2.Wf := by
  unfold State.mergeWord
  refine .iteSnd (.snd (.writeWord h)) ?_
  split
  · exact .snd (.writeWord h)
  · exact .snd (.setWord (.countCorrected h))
  · exact .snd (.setWord (.countUncorrectable h))
  · exact .snd (.setWord (.countUncorrectable h))

/-! ## Operands -/

theorem State.Wf.setLast {r l v} (h : s.Wf) : (s.setLast r l v).Wf := by
  unfold State.setLast
  exact .withLasts h

theorem State.Wf.setRack {r v} (h : s.Wf) : (s.setRack r v).Wf := by
  unfold State.setRack
  exact .withRacks h

theorem State.Wf.nextPtr {y n mode} (h : s.Wf) : (s.nextPtr y n mode).2.Wf := by
  unfold State.nextPtr
  refine .iteSnd h ?_
  split
  · exact h
  · exact .free h

theorem State.Wf.readAt {r l y n} (h : s.Wf) : (s.readAt r l y n).2.Wf := by
  unfold State.readAt
  refine .iteSnd h ?_
  split
  · next _ _ e =>
    have h1 := State.Wf.of_pair e (.readWord h)
    exact .snd h1
  · next _ e1 =>
    have h2 := State.Wf.of_pair e1 (.readWord h)
    exact .snd h2

theorem State.Wf.operand {r l y code modx mody} (h : s.Wf) : (s.operand r l y code modx mody).2.Wf := by
  unfold State.operand
  refine .iteSnd h ?_
  extract_lets
  split
  · next _ _ e =>
    have h1 := State.Wf.of_pair e (.readAt h)
    exact .nextPtr h1
  · next _ _ e1 =>
    have h2 := State.Wf.of_pair e1 (.readAt h)
    exact .snd h2

theorem State.Wf.operands {r l y s1 s2 modx mody} (h : s.Wf) : (s.operands r l y s1 s2 modx mody).2.Wf := by
  unfold State.operands
  split
  · next _ _ e =>
    have h1 := State.Wf.of_pair e (.operand h)
    exact .snd h1
  · next _ _ _ e3 =>
    have h4 := State.Wf.of_pair e3 (.operand h)
    refine .iteSnd (.snd h4) ?_
    split
    · next _ _ e1 =>
      have h2 := State.Wf.of_pair e1 (.operand h4)
      exact .snd h2
    · next _ _ _ e2 =>
      have h3 := State.Wf.of_pair e2 (.operand h4)
      exact .snd h3

/-! ## Flags -/

theorem State.Wf.condOf {r y c} (h : s.Wf) : (s.condOf r y c).2.Wf := by
  unfold State.condOf
  split
  · exact h
  · exact .free h

/-! ## LineRx -/

theorem State.Wf.execSigDetectDeassert {k} (h : s.Wf) : NextWf (Machine.execSigDetectDeassert k s) := by
  unfold Machine.execSigDetectDeassert
  exact .next (.ite (.monitorCalRx (.ite (.inc (.raise (.putFlag h))) (.log (.inc (.raise (.putFlag h)))))) h)

theorem State.Wf.putFofs {k fofs phase} (h : s.Wf) : (s.putFofs k fofs phase).Wf := by
  unfold State.putFofs
  exact .ite h (.ite (.log (.raise (.put (.put h)))) (.put (.put h)))

theorem State.Wf.writeRwl {r u i data} (h : s.Wf) : (s.writeRwl r u i data).Wf := by
  unfold State.writeRwl
  exact .setReg h

theorem State.Wf.coefWrite {k r i data} (h : s.Wf) : (s.coefWrite k r i data).Wf := by
  unfold State.coefWrite
  exact .ite (.writeRwl h) (.raise (.raise h))

theorem State.Wf.execLrxCoefWrite {k off data} (h : s.Wf) : NextWf (Machine.execLrxCoefWrite k off data s) := by
  unfold Machine.execLrxCoefWrite
  refine .next (.ite ?_ h)
  split
  · exact .ite (.coefWrite h) h
  · exact h

theorem State.Wf.setHistBin {k b n} (h : s.Wf) : (s.setHistBin k b n).Wf := by
  unfold State.setHistBin
  exact .setWord h

theorem State.Wf.histStart {k} (h : s.Wf) : (s.histStart k).Wf := by
  unfold State.histStart
  exact .ite h (.putFlag (.putFlag (.setLine (.foldl h fun _ _ hf => .setHistBin hf))))

theorem State.Wf.histSample {k code y} (h : s.Wf) : (s.histSample k code y).Wf := by
  unfold State.histSample
  exact .ite (.setLine (.setHistBin h)) h

theorem State.Wf.execVnleFadeDone {k} (h : s.Wf) : NextWf (Machine.execVnleFadeDone k s) := by
  unfold Machine.execVnleFadeDone
  refine .next (.ite h ?_)
  split
  · exact h
  · exact h
  · exact .setLine h
  · exact .ite (.log (.raise (.putFlag (.setLine h)))) (.putFlag (.log (.raise (.putFlag (.setLine h)))))

theorem State.Wf.targetField {k n f d} (h : s.Wf) : (s.targetField k n f d).Wf := by
  unfold State.targetField
  exact .ite (.setReg h) (.raise (.setReg h))

theorem State.Wf.targetAll {k selected f ds} (h : s.Wf) : (s.targetAll k selected f ds).Wf := by
  unfold State.targetAll
  exact .ite (.foldl h fun _ _ hf => .targetField hf) h

theorem State.Wf.cmdCalRxRun {p t} (h : s.Wf) : (Machine.cmdCalRxRun p t s).2.Wf := by
  unfold Machine.cmdCalRxRun
  refine .iteSnd h (.iteSnd h (.iteSnd h (.iteSnd h ?_)))
  exact .iteSnd (.snd (.endCalRx (.put (.put (.put (.setReg (.setLine h))))))) (.snd (.putFlag (.put (.put (.put
      (.put (.put (.setReg (.setLine h)))))))))

theorem State.Wf.cmdCalRxAbort {p x} (h : s.Wf) : (Machine.cmdCalRxAbort p x s).2.Wf := by
  unfold Machine.cmdCalRxAbort
  exact .iteSnd h (.iteSnd h (.iteSnd (.snd (.endCalRx h)) h))

theorem State.Wf.cmdCalRxStatus {p x} (h : s.Wf) : (Machine.cmdCalRxStatus p x s).2.Wf := by
  unfold Machine.cmdCalRxStatus
  exact .iteSnd h (.iteSnd h h)

theorem State.Wf.startTrims {k} (h : s.Wf) : (s.startTrims k).Wf := by
  unfold State.startTrims
  exact .setLine h

theorem State.Wf.execCalRxMeasureEnd {k skew gain offset} (h : s.Wf) : NextWf (Machine.execCalRxMeasureEnd k skew
    gain offset s) := by
  unfold Machine.execCalRxMeasureEnd
  refine .next ?_
  split
  · exact h
  · refine .ite ?_ h
    refine .ite (.endCalRx (.raise (.setLine h))) ?_
    exact .startTrims (.put (.targetAll (.targetAll (.targetAll (.setLine h)))))

theorem State.Wf.execCalRxApplyEnd {k} (h : s.Wf) : NextWf (Machine.execCalRxApplyEnd k s) := by
  unfold Machine.execCalRxApplyEnd
  refine .next ?_
  split
  · exact h
  · exact .ite (.ite (.put (.put (.bump h))) (.endCalRx (.bump h))) h

theorem State.Wf.adcTick {k} (h : s.Wf) : (s.adcTick k).Wf := by
  unfold State.adcTick
  refine .ite h ?_
  split
  · exact .ite (.startTrims (.setLine h)) (.ite (.setLine h) (.startTrims h))
  · exact .ite (.setLine h) (.startTrims h)

theorem State.Wf.ttrimWrite {k n data} (h : s.Wf) : (s.ttrimWrite k n data).Wf := by
  unfold State.ttrimWrite
  exact .ite (.raise (.raise h)) (.ite (.startTrims (.writeRwl h)) (.setReg (.writeRwl h)))

/-! ## Lasts -/

theorem State.Wf.toNewest {r mask} (h : s.Wf) : (s.toNewest r mask).Wf := by
  unfold State.toNewest
  exact .foldl h fun _ _ hf => .ite (.setLast hf) hf

theorem State.Wf.setHalt {r mask} (h : s.Wf) : (s.setHalt r mask).Wf := by
  unfold State.setHalt
  exact .toNewest (.put (.put (.put (.put h))))

theorem State.Wf.haltLast {r l} (h : s.Wf) : (s.haltLast r l).Wf := by
  unfold State.haltLast
  exact .setHalt h

theorem State.Wf.applyFault {p event} (h : s.Wf) : (s.applyFault p event).Wf := by
  unfold State.applyFault
  split
  · exact .portTo (.withMode h id)
  · exact h

theorem State.Wf.loadTrap {r event} (h : s.Wf) : (s.loadTrap r event).Wf := by
  unfold State.loadTrap
  split
  · exact .ite (.applyFault h) h
  · exact h

theorem State.Wf.slot {cnt code r l user n} (h : s.Wf) : (s.slot cnt code r l user n).Wf := by
  unfold State.slot
  exact .ite h (.perf (.inc h))

theorem State.Wf.slotRet {r l user} (h : s.Wf) : (s.slotRet r l user).Wf := by
  unfold State.slotRet
  exact .slot h

theorem State.Wf.slotWaste {r l user} (h : s.Wf) : (s.slotWaste r l user).Wf := by
  unfold State.slotWaste
  exact .slot h

theorem State.Wf.slotFront {r l user n} (h : s.Wf) : (s.slotFront r l user n).Wf := by
  unfold State.slotFront
  exact .slot h

theorem State.Wf.slotBack {r l user n} (h : s.Wf) : (s.slotBack r l user n).Wf := by
  unfold State.slotBack
  exact .slot h

theorem State.Wf.monitorTrap {r l vector pc} (h : s.Wf) : (s.monitorTrap r l vector pc).Wf := by
  unfold State.monitorTrap
  exact .loadTrap (.ite (.log (.setRack (.setHalt (.log h)))) (.setRack (.setHalt (.log h))))

theorem State.Wf.takeTrap {r l vector low} (h : s.Wf) : (s.takeTrap r l vector low).Wf := by
  unfold State.takeTrap
  exact .perf (.raise (.setReg (.setLast h)))

theorem State.Wf.trapLast {r l vector low} (h : s.Wf) : (s.trapLast r l vector low).Wf := by
  unfold State.trapLast
  refine .ite ?_ ?_
  · exact .loadTrap (.log (.raise (.put (.haltLast h))))
  · exact .ite (.log (.haltLast (.takeTrap h))) (.monitorTrap (.takeTrap h))

theorem State.Wf.fetchLast {r y} (h : s.Wf) : (s.fetchLast r y).2.Wf := by
  unfold State.fetchLast
  split
  · exact h
  · split
    · next _ _ e =>
      have h1 := State.Wf.of_pair e (.readWord h)
      exact .snd h1
    · next _ e1 =>
      have h2 := State.Wf.of_pair e1 (.readWord h)
      exact .snd h2

theorem State.Wf.lostSlots {w user stalls} (h : s.Wf) : (s.lostSlots w user stalls).Wf := by
  unfold State.lostSlots
  exact .inc (.inc (.slotBack (.slotFront h)))

theorem State.Wf.tagStart {r} (h : s.Wf) : (s.tagStart r).Wf := by
  unfold State.tagStart
  exact .setRack (.free h)

theorem State.Wf.countIssue {r l c} (h : s.Wf) : (s.countIssue r l c).Wf := by
  unfold State.countIssue
  exact .ite (.ite (.tagStart (.setRack (.ite (.perf h) h))) (.setRack (.ite (.perf h) h))) (.ite (.perf h) h)

theorem State.Wf.complete {r l user i y} (h : s.Wf) : (s.complete r l user i y).Wf := by
  unfold State.complete
  exact .ite (.slotWaste (.setLast h)) (.slotRet (.setLast h))

theorem LOut.Wf.settle {r l user i c} {o : LOut} (h : o.Wf) : (State.settle r l user i c o).Wf := by
  cases o with
  | stall t => exact .slotBack h
  | trap v low t => exact .slotWaste (.setLast (.trapLast (.countIssue (.setLast h))))
  | done y t => exact .slotFront (.complete (.countIssue h))
  | goto pc y t => exact .slotFront (.complete (.countIssue h))
  | skip pc y t => exact .complete (.countIssue h)
  | stop y t => exact .haltLast (.complete (.countIssue h))

theorem State.Wf.issue {w pick} (h : s.Wf) (hp : ∀ i, PickWf (pick i)) : (s.issue w pick).Wf := by
  unfold State.issue
  refine .ite h (.ite (LOut.Wf.settle h.lostSlots) ?_)
  split
  · next _ e => exact LOut.Wf.settle (o := .fail _ _) (.lostSlots (.of_pair e h.fetchLast))
  · next word t e =>
    have ht : t.Wf := .of_pair e h.fetchLast
    split
    · exact LOut.Wf.settle (o := .fail _ _) ht.lostSlots
    · next i _ =>
      have hi := hp i
      split
      · exact h
      · next body hb =>
        rw [hb] at hi
        exact LOut.Wf.settle (.ite (.setLast (.lostSlots ht)) (hi _ _ (.setLast (.lostSlots ht))))

theorem PickWf.arithBody {r l op f keep i} : PickWf (Machine.arithBody r l op f keep i) := by
  unfold Machine.arithBody
  split
  · refine .ite .none (.some fun s y h => ?_)
    split
    · next _ _ e => exact State.Wf.of_pair e h.operands
    · next _ _ _ _ e => exact State.Wf.of_pair e h.operands
  · exact .none

theorem State.Wf.execNop {w} (h : s.Wf) : NextWf (Machine.execNop w s) := by
  unfold Machine.execNop
  refine .next (.issue h fun _ => ?_)
  split
  · refine .some fun _ _ hf => ?_
    split
    · next _ _ e =>
      have h1 := State.Wf.of_pair e (.operands hf)
      exact h1
    · next _ _ _ _ e1 =>
      have h2 := State.Wf.of_pair e1 (.operands hf)
      exact h2
  · exact .none

theorem State.Wf.execSta {w} (h : s.Wf) : NextWf (Machine.execSta w s) := by
  unfold Machine.execSta
  refine .next (.issue h fun _ => ?_)
  split
  · exact .some fun _ _ hf => hf
  · exact .none

theorem State.Wf.writeAtPtr {r l y n mode v} (h : s.Wf) : (s.writeAtPtr r l y n mode v).2.Wf := by
  unfold State.writeAtPtr
  exact .iteSnd h (.nextPtr (.writeWord h))

theorem State.Wf.execStm {w} (h : s.Wf) : NextWf (Machine.execStm w s) := by
  unfold Machine.execStm
  refine .next (.issue h fun _ => ?_)
  split
  · refine .some fun _ _ hf => ?_
    split
    split
    · next _ _ e =>
      have h1 := State.Wf.of_pair e (.writeAtPtr hf)
      exact h1
    · next _ _ e1 =>
      have h2 := State.Wf.of_pair e1 (.writeAtPtr hf)
      exact h2
  · exact .none

theorem State.Wf.execLdi {w} (h : s.Wf) : NextWf (Machine.execLdi w s) := by
  unfold Machine.execLdi
  refine .next (.issue h fun _ => ?_)
  split
  · exact .some fun _ _ hf => hf
  · exact .none

theorem State.Wf.execShift {w} (h : s.Wf) : NextWf (Machine.execShift w s) := by
  unfold Machine.execShift
  refine .next (.issue h fun _ => ?_)
  split
  · exact .some fun _ _ hf => .ite (.free hf) (.ite hf hf)
  · exact .none

theorem State.Wf.execMovr {w} (h : s.Wf) : NextWf (Machine.execMovr w s) := by
  unfold Machine.execMovr
  refine .next (.issue h fun _ => ?_)
  split
  · exact .some fun _ _ hf => .ite hf (.ite (.free hf) (.ite hf (.ite hf hf)))
  · exact .none

theorem State.Wf.execExt {w} (h : s.Wf) : NextWf (Machine.execExt w s) := by
  unfold Machine.execExt
  refine .next (.issue h fun _ => ?_)
  split
  · exact .some fun _ _ hf => .ite (.free hf) hf
  · exact .none

theorem State.Wf.execLogic {w} (h : s.Wf) : NextWf (Machine.execLogic w s) := by
  unfold Machine.execLogic
  refine .next (.issue h fun _ => ?_)
  split
  · exact .some fun _ _ hf => hf
  · exact .none

theorem State.Wf.execMem {w} (h : s.Wf) : NextWf (Machine.execMem w s) := by
  unfold Machine.execMem
  refine .next (.issue h fun _ => ?_)
  split
  · refine .some fun _ _ hf => ?_
    refine .ite ?_ ?_
    · split
      · next _ _ e =>
        have h1 := State.Wf.of_pair e (.writeAtPtr hf)
        exact h1
      · next _ _ e1 =>
        have h2 := State.Wf.of_pair e1 (.writeAtPtr hf)
        exact h2
    · split
      · next _ _ e2 =>
        have h3 := State.Wf.of_pair e2 (.readAt hf)
        exact h3
      · next _ _ e3 =>
        have h4 := State.Wf.of_pair e3 (.readAt hf)
        exact .nextPtr h4
  · exact .none

theorem State.Wf.execLda {w} (h : s.Wf) : NextWf (Machine.execLda w s) := by
  unfold Machine.execLda
  refine .next (.issue h fun _ => ?_)
  split
  · exact .some fun _ _ hf => hf
  · exact .none

theorem State.Wf.execAdda {w} (h : s.Wf) : NextWf (Machine.execAdda w s) := by
  unfold Machine.execAdda
  refine .next (.issue h fun _ => ?_)
  split
  · refine .some fun _ _ hf => ?_
    split
    · exact hf
    · exact .free hf
  · exact .none

theorem State.Wf.execMova {w} (h : s.Wf) : NextWf (Machine.execMova w s) := by
  unfold Machine.execMova
  refine .next (.issue h fun _ => ?_)
  split
  · exact .some fun _ _ hf => hf
  · exact .none

theorem State.Wf.execBra {w} (h : s.Wf) : NextWf (Machine.execBra w s) := by
  unfold Machine.execBra
  refine .next (.issue h fun _ => ?_)
  split
  · exact .some fun _ _ hf => .ite (.condOf hf) (.ite (.condOf hf) (.condOf hf))
  · exact .none

theorem State.Wf.execCall {w} (h : s.Wf) : NextWf (Machine.execCall w s) := by
  unfold Machine.execCall
  refine .next (.issue h fun _ => ?_)
  split
  · exact .some fun _ _ hf => .ite (.condOf hf) (.ite (.condOf hf) (.condOf hf))
  · exact .none

theorem State.Wf.execRet {w} (h : s.Wf) : NextWf (Machine.execRet w s) := by
  unfold Machine.execRet
  refine .next (.issue h fun _ => ?_)
  split
  · refine .some fun _ _ hf => ?_
    split
    next _ _ e =>
    have h1 := State.Wf.of_pair e (.condOf hf)
    refine .ite h1 ?_
    split <;> exact h1
  · exact .none

theorem LOut.Wf.beginLoop {count last y} (h : s.Wf) : (Machine.beginLoop count last s y).Wf := by
  unfold Machine.beginLoop
  exact .ite h (.ite h h)

theorem State.Wf.execLoop {w} (h : s.Wf) : NextWf (Machine.execLoop w s) := by
  unfold Machine.execLoop
  refine .next (.issue h fun _ => ?_)
  split
  · exact .some fun _ _ hf => .beginLoop hf
  · exact .none

theorem State.Wf.execLoopr {w} (h : s.Wf) : NextWf (Machine.execLoopr w s) := by
  unfold Machine.execLoopr
  refine .next (.issue h fun _ => ?_)
  split
  · exact .some fun _ _ hf => .beginLoop hf
  · exact .none

theorem State.Wf.execRepeat {w} (h : s.Wf) : NextWf (Machine.execRepeat w s) := by
  unfold Machine.execRepeat
  refine .next (.issue h fun _ => ?_)
  split
  · exact .some fun _ _ hf => .ite hf hf
  · exact .none

theorem State.Wf.execYield {w} (h : s.Wf) : NextWf (Machine.execYield w s) := by
  unfold Machine.execYield
  refine .next (.issue h fun _ => ?_)
  split
  · exact .some fun _ _ hf => hf
  · exact .none

theorem State.Wf.execSvc {w} (h : s.Wf) : NextWf (Machine.execSvc w s) := by
  unfold Machine.execSvc
  refine .next (.issue h fun _ => ?_)
  split
  · exact .some fun _ _ hf => .ite hf hf
  · exact .none

theorem State.Wf.execLeave {w} (h : s.Wf) : NextWf (Machine.execLeave w s) := by
  unfold Machine.execLeave
  refine .next (.issue h fun _ => ?_)
  split
  · refine .some fun _ _ hf => ?_
    split
    next _ _ e =>
    have h1 := State.Wf.of_pair e (.condOf hf)
    split <;> exact h1
  · exact .none

theorem State.Wf.execTapRecord {k x} (h : s.Wf) : NextWf (Machine.execTapRecord k x s) := by
  unfold Machine.execTapRecord
  exact .next (.ite (.foldl (.ite (.histSample h) h) fun _ _ hf => .setRack hf) (.ite (.histSample h) h))

theorem State.Wf.tapLost {r l n} (h : s.Wf) : (s.tapLost r l n).Wf := by
  unfold State.tapLost
  exact .ite h (.raise (.inc h))

theorem State.Wf.execTwin {w bad} (h : s.Wf) : NextWf (Machine.execTwin w bad s) := by
  unfold Machine.execTwin
  refine .next (.issue h fun _ => ?_)
  split
  · refine .some fun _ _ hf => ?_
    exact .ite hf (.ite (.setLast (.tapLost (.countUncorrectable (.free (.tapLost hf))))) (.perf (.tapLost hf)))
  · exact .none

theorem State.Wf.execBreq {w same} (h : s.Wf) : NextWf (Machine.execBreq w same s) := by
  unfold Machine.execBreq
  refine .next (.issue h fun _ => ?_)
  split
  · exact .some fun _ _ hf => .ite hf (.ite hf (.setRack (.perf hf)))
  · exact .none

theorem State.Wf.execBrsp {w} (h : s.Wf) : NextWf (Machine.execBrsp w s) := by
  unfold Machine.execBrsp
  refine .next (.issue h fun _ => ?_)
  split
  · refine .some fun _ _ hf => ?_
    split
    · exact hf
    · exact hf
    · exact .ite (.setLast hf) hf
  · exact .none

theorem State.Wf.portWrite {k p v} (h : s.Wf) : (s.portWrite k p v).Wf := by
  unfold State.portWrite
  exact .ite h (.put h)

theorem State.Wf.noteBack {r a} (h : s.Wf) : (s.noteBack r a).Wf := by
  unfold State.noteBack
  exact .ite h (.setRack h)

theorem State.Wf.rackBus {r q} (h : s.Wf) : (s.rackBus r q).2.Wf := by
  unfold State.rackBus
  refine .iteSnd ?_ ?_
  · refine .iteSnd (.snd (.writeWord h)) ?_
    split
    · next _ _ e =>
      have h1 := State.Wf.of_pair e (.readWord h)
      exact .snd h1
    · next _ e1 =>
      have h2 := State.Wf.of_pair e1 (.readWord h)
      exact .snd h2
  · refine .iteSnd (.iteSnd (.snd (.ite (.setReg h) h)) h) (.iteSnd (.iteSnd h h) (.iteSnd (.iteSnd h h) ?_))
    split
    · exact h
    · exact .iteSnd (.iteSnd (.snd (.ite (.portWrite h) h)) h) (.snd (.noteBack h))

theorem State.Wf.busAccept {r l q} (h : s.Wf) : (s.busAccept r l q).Wf := by
  unfold State.busAccept
  exact .setLast (.rackBus h)

theorem State.Wf.busUpTo {r l n} (h : s.Wf) : (s.busUpTo r l n).Wf := by
  induction n generalizing s with
  | zero => exact h
  | succ n ih =>
    rw [State.busUpTo]
    split
    · split
      · exact ih h.busAccept
      · exact h
    · exact h

theorem State.Wf.execRackBusResponse {rack last} (h : s.Wf) : NextWf (Machine.execRackBusResponse rack last s) := by
  unfold Machine.execRackBusResponse
  refine .next (.ite ?_ h)
  extract_lets
  split
  · exact .setLast (.busUpTo h)
  · exact .busUpTo h

theorem State.Wf.ctlRead {r l y n} (h : s.Wf) : (s.ctlRead r l y n).2.2.Wf := by
  unfold State.ctlRead
  split
  · exact h
  · exact h
  · exact h
  · exact h
  · exact h
  · exact h
  · exact h
  · exact h
  · exact h
  · exact h
  · exact .iteSnd2 h (.free h)

theorem State.Wf.execMovc {w} (h : s.Wf) : NextWf (Machine.execMovc w s) := by
  unfold Machine.execMovc
  refine .next (.issue h fun _ => ?_)
  split
  · exact .some fun _ _ hf => .ite hf hf
  · exact .none

theorem State.Wf.execMovfc {w} (h : s.Wf) : NextWf (Machine.execMovfc w s) := by
  unfold Machine.execMovfc
  refine .next (.issue h fun _ => ?_)
  split
  · exact .some fun _ _ hf => .ite hf (.ctlRead hf)
  · exact .none

theorem State.Wf.execRti {w} (h : s.Wf) : NextWf (Machine.execRti w s) := by
  unfold Machine.execRti
  refine .next (.issue h fun _ => ?_)
  split
  · exact .some fun _ _ hf => .ite hf hf
  · exact .none

theorem State.Wf.execHalt {w} (h : s.Wf) : NextWf (Machine.execHalt w s) := by
  unfold Machine.execHalt
  refine .next (.issue h fun _ => ?_)
  split
  · exact .some fun _ _ hf => .ite hf hf
  · exact .none

theorem State.Wf.startRack {r} (h : s.Wf) : (s.startRack r).Wf := by
  unfold State.startRack
  exact .toNewest (.setHalt (.setRack (.foldl h fun _ _ hf => .setLast hf)))

theorem State.Wf.execRackRestart {rack} (h : s.Wf) : NextWf (Machine.execRackRestart rack s) := by
  unfold Machine.execRackRestart
  refine .next ?_
  split
  · exact .ite (.startRack h) h
  · exact h

theorem State.Wf.rackCtlWrite {r data} (h : s.Wf) : (s.rackCtlWrite r data).Wf := by
  unfold State.rackCtlWrite
  exact .setHalt (.put (.ite (.tagStart (.put h)) (.put h)))

theorem State.Wf.execTagSample {rack last times} (h : s.Wf) : NextWf (Machine.execTagSample rack last times s) := by
  unfold Machine.execTagSample
  refine .next ?_
  extract_lets
  split
  · exact .ite (.ite (.put (.setRack h)) (.raise (.bump (.setRack h)))) h
  · exact h

/-! ## Racks -/

theorem State.Wf.memLock {r} (h : s.Wf) : (s.memLock r).Wf := by
  unfold State.memLock
  exact .raise (.raise h)

theorem State.Wf.uncache {r word} (h : s.Wf) : (s.uncache r word).Wf := by
  unfold State.uncache
  exact .foldl h fun _ _ hf => .ite (.setLast hf) hf

theorem State.Wf.progWrite {src r word high data} (h : s.Wf) : (s.progWrite src r word high data).2.Wf := by
  unfold State.progWrite
  refine .iteSnd (.snd (.memLock h)) (.iteSnd (.snd (.setRack h)) ?_)
  split
  · exact h
  · exact .snd (.uncache (.writeWord (.setRack h)))

theorem State.Wf.readBytes {a n} (h : s.Wf) : (s.readBytes a n).2.Wf := by
  unfold State.readBytes
  extract_lets
  split
  · next _ e =>
    have h1 := State.Wf.of_pair e (.readWords h)
    exact .snd h1
  · next _ _ e1 =>
    have h2 := State.Wf.of_pair e1 (.readWords h)
    exact .snd h2

theorem State.Wf.writeTables {r es} (h : s.Wf) : (s.writeTables r es).Wf := by
  unfold State.writeTables
  exact .foldl (.zeroRange h) fun _ _ hf => .foldl hf fun _ _ hf1 => .foldl hf1 fun _ _ hf2 => .writeWord hf2

theorem State.Wf.loadRack {r id'} (h : s.Wf) : (s.loadRack r id').Wf := by
  unfold State.loadRack
  refine .startRack (.put (.put ?_))
  split
  · exact .put (.putFlag (.setRack (.writeTables (.foldl (.initRange (.setHalt h)) fun _ _ hf => .writeWord hf))))
  · exact .put (.putFlag (.setRack (.writeTables (.initRange (.initRange (.setHalt h))))))

theorem State.Wf.rackOff {r} (h : s.Wf) : (s.rackOff r).Wf := by
  unfold State.rackOff
  exact .foldl (.setRack (.loseBuried (.dropRange (.wipe (.turnIsland h))))) fun _ _ hf => .setLast hf

theorem State.Wf.rackOn {r} (h : s.Wf) : (s.rackOn r).Wf := by
  unfold State.rackOn
  exact .ite h (.turnIsland h)

theorem State.Wf.holdRack {r} (h : s.Wf) : (s.holdRack r).Wf := by
  unfold State.holdRack
  exact .setRack (.setHalt h)

theorem State.Wf.cmdRackHalt {p x} (h : s.Wf) : (Machine.cmdRackHalt p x s).2.Wf := by
  unfold Machine.cmdRackHalt
  exact .iteSnd h (.iteSnd h (.iteSnd h (.snd (.foldl h fun _ _ hf => .holdRack hf))))

theorem State.Wf.cmdRackResume {p x} (h : s.Wf) : (Machine.cmdRackResume p x s).2.Wf := by
  unfold Machine.cmdRackResume
  exact .iteSnd h (.iteSnd h (.iteSnd h (.snd (.foldl h fun _ _ hf => .setHalt hf))))

theorem State.Wf.cmdRackStatus {p x} (h : s.Wf) : (Machine.cmdRackStatus p x s).2.Wf := by
  unfold Machine.cmdRackStatus
  exact .iteSnd h (.iteSnd h (.iteSnd h h))

theorem State.Wf.cmdPsetLoadBegin {p x} (h : s.Wf) : (Machine.cmdPsetLoadBegin p x s).2.Wf := by
  unfold Machine.cmdPsetLoadBegin
  exact .iteSnd h (.iteSnd h (.iteSnd h (.openStage h)))

theorem State.Wf.psetReject {id' code r1} (h : s.Wf) : (s.psetReject id' code r1).2.Wf := by
  unfold State.psetReject
  exact .snd (.log h)

theorem State.Wf.cmdPsetLoadEnd {p x} (h : s.Wf) : (Machine.cmdPsetLoadEnd p x s).2.Wf := by
  unfold Machine.cmdPsetLoadEnd
  refine .iteSnd h ?_
  split
  · exact h
  · refine .iteSnd h ?_
    split
    next _ _ e =>
    have h1 := State.Wf.of_pair e (.readBytes (.closeStage h))
    split
    · exact .psetReject h1
    · refine .iteSnd (.psetReject h1) (.iteSnd (.psetReject h1) ?_)
      split
      · exact .psetReject h1
      · exact .iteSnd (.psetReject h1) (.snd (.log (.withPsets h1)))

theorem State.Wf.cmdPsetErase {p x} (h : s.Wf) : (Machine.cmdPsetErase p x s).2.Wf := by
  unfold Machine.cmdPsetErase
  exact .iteSnd h (.iteSnd h (.snd (.withPsets h)))

theorem State.Wf.cmdPsetList {p x} (h : s.Wf) : (Machine.cmdPsetList p x s).2.Wf := by
  unfold Machine.cmdPsetList
  exact .iteSnd h h

/-! ## Time -/

theorem State.Wf.setClock {d v} (h : s.Wf) : (s.setClock d v).Wf := h.withTime fun hx => hx.setClock

theorem State.Wf.refreshPps (h : s.Wf) : s.refreshPps.Wf := by
  unfold State.refreshPps
  exact .ite h (.withTime h id)

theorem State.Wf.putTod {d st} (h : s.Wf) : (s.putTod d st).Wf := by
  unfold State.putTod
  refine .ite h ?_
  exact .via (.ite (.setClock h) h) fun h1 => .refreshPps (.log (.putFlag (.putFlag (.raise (.put (.ite (.setClock
      (.ite (.setClock h1) h1)) (.ite (.setClock h1) h1)))))))

theorem State.Wf.setTod {d st} (h : s.Wf) : (s.setTod d st).Wf := by
  unfold State.setTod
  exact .ite (.putTod (.putTod h)) (.putTod h)

theorem State.Wf.stepClock {d x} (h : s.Wf) : (s.stepClock d x).Wf := by
  unfold State.stepClock
  exact .ite (.withTime (.setClock h) id) (.log (.raise (.inc (.withTime (.setClock h) id))))

theorem State.Wf.correct {d x} (h : s.Wf) : (s.correct d x).Wf := by
  unfold State.correct
  exact .ite (.stepClock h) (.setClock h)

theorem State.Wf.putFreq {d f} (h : s.Wf) : (s.putFreq d f).Wf := by
  unfold State.putFreq
  exact .put h

theorem State.Wf.servoSlew {d x} (h : s.Wf) : (s.servoSlew d x).Wf := by
  unfold State.servoSlew
  exact .setClock (.putFreq (.free (.free h)))

theorem State.Wf.servo {d x hold} (h : s.Wf) : (s.servo d x hold).Wf := by
  unfold State.servo
  extract_lets _ _ _ _ _ _ s1
  have h1 : s1.Wf := .ite (.ite (.put (.setClock h)) (.stepClock (.put (.setClock h)))) (.servoSlew (.put (.setClock
      h)))
  exact .ite (.ite (.setTod h1) h1) (.ite (.ite (.setTod h1) h1) (.setTod h1))

theorem State.Wf.setTime {d time late} (h : s.Wf) : (s.setTime d time late).2.Wf := by
  unfold State.setTime
  exact .iteSnd h (.iteSnd (.snd (.stepClock h)) (.snd (.correct h)))

theorem State.Wf.hostState {d valid set} (h : s.Wf) : (s.hostState d valid set).Wf := by
  unfold State.hostState
  exact .ite (.ite (.setClock h) (.setTod (.setClock h))) (.ite (.setTod h) h)

theorem State.Wf.stampPps {d frac err} (h : s.Wf) : (s.stampPps d frac err).Wf := by
  unfold State.stampPps
  exact .ite (.setClock (.setWide h)) h

theorem State.Wf.takePending {d edge} (h : s.Wf) : (s.takePending d edge).Wf := by
  unfold State.takePending
  exact .foldl (.setClock (.withTime h id)) fun _ _ hf => .finish (.ite (.setTime hf) (.setTod (.setTime hf)))

theorem State.Wf.execPpsInEdge {frac errA errB} (h : s.Wf) : NextWf (Machine.execPpsInEdge frac errA errB s) := by
  unfold Machine.execPpsInEdge
  refine .next ?_
  extract_lets _ _ _ _ _ s1
  have h1 : s1.Wf := .withTime (.stampPps (.stampPps h)) id
  refine .ite h1 (.ite (.takePending h1) ?_)
  split
  · exact .servo h1
  · exact .ite (.put h1) (.servo h1)

theorem State.Wf.sourceLost {d} (h : s.Wf) : (s.sourceLost d).Wf := by
  unfold State.sourceLost
  exact .ite (.setTod h) h

theorem State.Wf.setUsable {v} (h : s.Wf) : (s.setUsable v).Wf := by
  unfold State.setUsable
  exact .withTime h id

theorem State.Wf.keepSent {k tseq dep} (h : s.Wf) : (s.keepSent k tseq dep).Wf :=
  h.withTime fun hx => hx.setSent

theorem State.Wf.keepSeen {k far here} (h : s.Wf) : (s.keepSeen k far here).Wf := by
  unfold State.keepSeen
  exact .withTime h id

theorem State.Wf.turnaround {k x} (h : s.Wf) : (s.turnaround k x).2.Wf := by
  unfold State.turnaround
  split
  next _ _ e =>
  have h1 := State.Wf.of_pair e (.free h)
  extract_lets
  split
  · exact .iteSnd (.snd h1) (.snd h1)
  · exact .snd h1

theorem State.Wf.exchange {k arrival payload} (h : s.Wf) : (s.exchange k arrival payload).Wf := by
  unfold State.exchange
  extract_lets _ _ s1
  have h2 : s1.Wf := .ite (.keepSeen h) h
  split
  · exact h2
  · refine .ite h2 ?_
    exact .via (.withTime (.turnaround h2) (·.setXch)) fun h1 => .ite h1 (.ite h1 (.ite (.setUsable h1) (.servo
        (.setUsable h1))))

theorem State.Wf.sendAlign {d frac} (h : s.Wf) : (s.sendAlign d frac).Wf := by
  unfold State.sendAlign
  exact .perf (.withTime h id)

theorem State.Wf.aligned {f t1 t2 t3 t4} (h : s.Wf) : (s.aligned f t1 t2 t3 t4).Wf := by
  unfold State.aligned
  exact .via (.setClock (.put h)) fun h2 => .via (.ite (.stepClock (.ite (.setClock (.put h2)) h2)) (.setClock (.put
      (.free (.ite (.setClock (.put h2)) h2))))) fun h1 => .ite (.putTod (.ite (.log (.put h1)) h1)) (.ite (.log
      (.put h1)) h1)

theorem State.Wf.execTimeAlignMsg {frac} (h : s.Wf) : NextWf (Machine.execTimeAlignMsg frac s) := by
  unfold Machine.execTimeAlignMsg
  refine .next ?_
  split
  · exact .ite h (.ite (.sendAlign (.setClock (.perf (.withTime h id)))) (.aligned (.perf (.withTime h id))))
  · exact h

theorem State.Wf.alignLost {reason} (h : s.Wf) : (s.alignLost reason).Wf := by
  unfold State.alignLost
  split
  · exact h
  · refine .ite h ?_
    exact .ite (.putTod (.setClock (.withTime (.log (.inc (.raise (.put h)))) id))) (.setClock (.withTime (.log
        (.inc (.raise (.put h)))) id))

theorem State.Wf.execTimeAlignTimeout (h : s.Wf) : NextWf (Machine.execTimeAlignTimeout s) := by
  unfold Machine.execTimeAlignTimeout
  refine .next ?_
  split
  · exact .ite (.alignLost h) h
  · exact h

theorem State.Wf.tpllLost {d} (h : s.Wf) : (s.tpllLost d).Wf := by
  unfold State.tpllLost
  exact .setTod (.foldl (.setClock (.raise (.putFlag h))) fun _ _ hf => .setInsl hf)

theorem State.Wf.tpllLocked {d} (h : s.Wf) : (s.tpllLocked d).Wf := by
  unfold State.tpllLocked
  exact .setClock (.putFlag h)

theorem State.Wf.refreshTimeIsland {d} (h : s.Wf) : (s.refreshTimeIsland d).Wf := by
  unfold State.refreshTimeIsland
  refine .ite ?_ ?_
  · exact .setClock (.ite (.put (.putFlag (.putFlag (.putFlag (.turnIsland h))))) (.put (.put (.put (.put (.put
      (.put (.put (.putFlag (.putFlag (.putFlag (.turnIsland h))))))))))))
  · refine .ite ?_ h
    exact .withTime (.refreshPps (.foldl (.wipe (.setClock (.loseBuried (.turnIsland h)))) fun _ _ hf => .wipe hf))
        (·.dropDie)

theorem State.Wf.release {p fromHost f ok} (h : s.Wf) : (s.release p fromHost f ok).Wf := by
  unfold State.release
  exact .withTime h id

theorem State.Wf.uncorrectable {p fromHost f ok} (h : s.Wf) : (s.uncorrectable p fromHost f ok).Wf := by
  unfold State.uncorrectable
  exact .ite (.release h) (.release (.logRate (.raise (.inc h))))

theorem State.Wf.putLastRes {p fromHost res} (h : s.Wf) : (s.putLastRes p fromHost res).Wf := by
  unfold State.putLastRes
  exact .setReg h

theorem State.Wf.correctFrame {p fromHost f ok h' res} (h : s.Wf) : (s.correctFrame p fromHost f ok h' res).Wf := by
  unfold State.correctFrame
  exact .release (.ite (.raise (.inc (.inc h))) (.inc h))

theorem State.Wf.checkedRes {p fromHost x} (h : s.Wf) : (s.checkedRes p fromHost x).2.Wf := by
  unfold State.checkedRes
  exact .iteSnd h (.iteSnd (.snd (.logRate (.raise (.inc (.putLastRes h))))) (.snd (.putLastRes h)))

theorem State.Wf.queueStamp {p fromHost f h' x} (h : s.Wf) : (s.queueStamp p fromHost f h' x).Wf := by
  unfold State.queueStamp
  exact .ite h (.ite (.raise (.bump h)) (.put (.withTime h (·.setTsq))))

theorem State.Wf.setCtxs {d cs} (h : s.Wf) : (s.setCtxs d cs).Wf := by
  unfold State.setCtxs
  exact .foldl (.put (.put (.withTime h fun hx => hx.setCtxs))) fun _ _ hf =>
    .ite (.putFlag (.put hf)) (.put hf)

theorem State.Wf.freeCtxs {p} (h : s.Wf) : (s.freeCtxs p).Wf := by
  unfold State.freeCtxs
  exact .setCtxs h

theorem State.Wf.evict {d} (h : s.Wf) : (s.evict d).Wf := by
  unfold State.evict
  exact .ite h (.logRate (.raise (.inc (.setCtxs h))))

theorem State.Wf.allocCtx {c} (h : s.Wf) : (s.allocCtx c).Wf := by
  unfold State.allocCtx
  exact .inc (.setCtxs (.ite (.inc (.setCtxs h)) (.evict h)))

theorem State.Wf.eventMessage {p fromHost f h' x} (h : s.Wf) : (s.eventMessage p fromHost f h' x).Wf := by
  unfold State.eventMessage
  refine .ite (.release (.queueStamp h)) ?_
  split
  · next _ e =>
    have h1 := State.Wf.of_pair e (.checkedRes (.queueStamp h))
    exact .uncorrectable h1
  · next _ _ e1 =>
    have h2 := State.Wf.of_pair e1 (.checkedRes (.queueStamp h))
    exact .ite (.release (.allocCtx h2)) (.correctFrame h2)

theorem State.Wf.execPtpEventMessage {p fromHost x} (h : s.Wf) : NextWf (Machine.execPtpEventMessage p fromHost x s)
    := by
  unfold Machine.execPtpEventMessage
  refine .next (.ite ?_ h)
  extract_lets
  split
  · exact .ite (.eventMessage h) (.release h)
  · exact .release h

theorem State.Wf.generalMessage {p fromHost f h' x} (h : s.Wf) : (s.generalMessage p fromHost f h' x).Wf := by
  unfold State.generalMessage
  extract_lets
  split
  · refine .ite ?_ ?_
    · exact .uncorrectable (.countUncorrectable (.free (.setCtxs h)))
    · exact .ite (.uncorrectable (.setCtxs h)) (.correctFrame (.setCtxs h))
  · exact .ite (.release h) (.uncorrectable (.raise (.inc h)))

theorem State.Wf.execPtpGeneralMessage {p fromHost x} (h : s.Wf) : NextWf (Machine.execPtpGeneralMessage p fromHost
    x s) := by
  unfold Machine.execPtpGeneralMessage
  refine .next (.ite ?_ h)
  extract_lets
  split
  · exact .ite (.generalMessage h) (.release h)
  · exact .release h

theorem State.Wf.setRanging {g v} (h : s.Wf) : (s.setRanging g v).Wf := h.withTime fun hx => hx.setRanging

theorem State.Wf.rangeClear {g} (h : s.Wf) : (s.rangeClear g).Wf := by
  unfold State.rangeClear
  exact .ite h (.setRanging (.ite (.log h) h))

theorem State.Wf.execRangeUpdate {g fit} (h : s.Wf) : NextWf (Machine.execRangeUpdate g fit s) := by
  unfold Machine.execRangeUpdate
  refine .next (.ite (.ite (.setRanging (.ite (.log h) h)) ?_) h)
  extract_lets
  split
  · exact .setRanging h
  · exact .log (.setRanging h)

theorem State.Wf.putBoth {f v} (h : s.Wf) : (s.putBoth f v).Wf := by
  unfold State.putBoth
  exact .put (.put h)

theorem State.Wf.cmdTimeSetSource {p x} (h : s.Wf) : (Machine.cmdTimeSetSource p x s).2.Wf := by
  unfold Machine.cmdTimeSetSource
  refine .iteSnd h (.iteSnd h ?_)
  exact .snd (.refreshTimeIsland (.refreshTimeIsland (.foldl (.withTime (.setUsable (.foldl (.putBoth (.putBoth
      (.putBoth (.putBoth (.putBoth (.putBoth h)))))) fun _ _ hf => .ite (.setClock (.put (.putFlag (.putFlag hf))))
      (.putTod (.setClock (.put (.putFlag (.putFlag hf))))))) id) fun _ _ hf1 => .finish hf1)))

theorem State.Wf.cmdTimeSet {p t} (h : s.Wf) : (Machine.cmdTimeSet p t s).2.Wf := by
  unfold Machine.cmdTimeSet
  exact .iteSnd h (.iteSnd h (.iteSnd (.snd (.withTime h id)) (.hostState (.setTime h))))

theorem State.Wf.cmdTimeAdj {p x} (h : s.Wf) : (Machine.cmdTimeAdj p x s).2.Wf := by
  unfold Machine.cmdTimeAdj
  exact .iteSnd h (.iteSnd h (.snd (.hostState (.correct (.ite (.putFreq h) h)))))

theorem State.Wf.cmdTimeStatus {p x} (h : s.Wf) : (Machine.cmdTimeStatus p x s).2.Wf := by
  unfold Machine.cmdTimeStatus
  exact .iteSnd h h

theorem State.Wf.cmdTimeSetDelay {p x} (h : s.Wf) : (Machine.cmdTimeSetDelay p x s).2.Wf := by
  unfold Machine.cmdTimeSetDelay
  refine .iteSnd h ?_
  split
  · exact .snd (.put h)
  · exact .snd (.put h)
  · exact .snd (.put h)
  · exact .snd (.put h)
  · exact .snd (.put h)
  · exact .snd (.withTime h (·.setAsym))

theorem State.Wf.cmdTimeWlSet {p x} (h : s.Wf) : (Machine.cmdTimeWlSet p x s).2.Wf := by
  unfold Machine.cmdTimeWlSet
  exact .iteSnd h (.snd (.ite (.rangeClear (.withTime h (·.setWl))) (.withTime h (·.setWl))))

theorem State.Wf.cmdTimeModelSet {p x} (h : s.Wf) : (Machine.cmdTimeModelSet p x s).2.Wf := by
  unfold Machine.cmdTimeModelSet
  exact .iteSnd h (.snd (.rangeClear (.withTime h id)))

theorem State.Wf.cmdTimeRangeReport {p x} (h : s.Wf) : (Machine.cmdTimeRangeReport p x s).2.Wf := by
  unfold Machine.cmdTimeRangeReport
  exact .iteSnd h (.iteSnd h (.iteSnd h h))

theorem State.Wf.cmdTimeCtxFlush {p x} (h : s.Wf) : (Machine.cmdTimeCtxFlush p x s).2.Wf := by
  unfold Machine.cmdTimeCtxFlush
  exact .iteSnd h (.iteSnd h (.iteSnd h (.snd (.freeCtxs h))))

theorem State.Wf.cmdTimePpsSet {p x} (h : s.Wf) : (Machine.cmdTimePpsSet p x s).2.Wf := by
  unfold Machine.cmdTimePpsSet
  exact .iteSnd h (.snd (.refreshTimeIsland (.refreshPps (.put (.put (.put (.put h)))))))

theorem State.Wf.cmdTimeTodserSet {p x} (h : s.Wf) : (Machine.cmdTimeTodserSet p x s).2.Wf := by
  unfold Machine.cmdTimeTodserSet
  exact .iteSnd h (.snd (.refreshTimeIsland (.put (.put (.put (.put (.put h)))))))

theorem State.Wf.cmdTimePortSet {p x} (h : s.Wf) : (Machine.cmdTimePortSet p x s).2.Wf := by
  unfold Machine.cmdTimePortSet
  exact .iteSnd h (.iteSnd h (.iteSnd h (.snd (.put (.put (.put (.put (.put h))))))))

/-! ## Recorder -/

theorem State.Wf.setEvr {e} (h : s.Wf) : (s.setEvr e).Wf := by
  unfold State.setEvr
  exact .withEvr h

theorem State.Wf.writeRecord {loc ws} (h : s.Wf) : (s.writeRecord loc ws).Wf := by
  unfold State.writeRecord
  exact .foldl h fun _ _ hf => .writeWord hf

theorem State.Wf.refreshEvr (h : s.Wf) : s.refreshEvr.Wf := by
  unfold State.refreshEvr
  exact .ite (.put (.put (.put (.setReg (.setReg (.setReg h)))))) (.put (.put (.setReg (.setReg (.setReg h)))))

theorem State.Wf.emergency {code sev p0 p1 p2 p3} (h : s.Wf) : (s.emergency code sev p0 p1 p2 p3).Wf := by
  unfold State.emergency
  exact .raise (.put (.put (.setWide (.free (.setEvr (.ite h (.bump h)))))))

theorem State.Wf.evrDegrade (h : s.Wf) : s.evrDegrade.Wf := by
  unfold State.evrDegrade
  exact .ite h (.emergency (.putBit (.putBit (.raise (.raise h)))))

theorem State.Wf.stagingFailed (h : s.Wf) : s.stagingFailed.Wf := by
  unfold State.stagingFailed
  exact .ite (.evrDegrade (.raise h)) (.raise h)

theorem State.Wf.stagingFault {r} (h : s.Wf) : (s.stagingFault r).Wf := by
  unfold State.stagingFault
  exact .ite (.stagingFailed (.emergency (.raise (.raise (.setEvr (.inc h)))))) (.emergency (.raise (.raise (.setEvr
      (.inc h)))))

theorem State.Wf.readHard {a src kind} (h : s.Wf) : (s.readHard a src kind).2.Wf := by
  unfold State.readHard
  exact .ite (.stagingFailed (.readWord h)) (.readWord h)

theorem State.Wf.readRecord {loc} (h : s.Wf) : (s.readRecord loc).2.Wf := by
  unfold State.readRecord
  refine .foldlSnd h fun z w hz => ?_
  split
  next _ t e =>
  have ht : t.Wf := .of_pair e hz.readHard
  split
  · exact ht
  · exact ht

theorem State.Wf.evrKick (h : s.Wf) : s.evrKick.Wf := by
  unfold State.evrKick
  exact .ite h (.setEvr h)

theorem State.Wf.marked {w seq} (h : s.Wf) : (s.marked w seq).Wf := by
  unfold State.marked
  split
  · exact .finish h
  · exact h

theorem State.Wf.stageRecord {e extra} (h : s.Wf) : (s.stageRecord e extra).Wf := by
  unfold State.stageRecord
  exact .marked (.ite (.evrKick (.setEvr (.writeRecord (.ite h (.setEvr h))))) (.setEvr (.writeRecord (.ite h
      (.setEvr h)))))

theorem State.Wf.evrSummary (h : s.Wf) : s.evrSummary.Wf := by
  unfold State.evrSummary
  split
  · exact h
  · exact .setEvr h

theorem State.Wf.evrDrain {n} (h : s.Wf) : (State.evrDrain n s).Wf := by
  induction n generalizing s with
  | zero => exact h
  | succ n ih =>
    rw [State.evrDrain]
    split
    · exact h
    · exact .ite (ih (.stageRecord (.evrSummary (.setEvr h)))) h

theorem State.Wf.evrDrop {e} (h : s.Wf) : (s.evrDrop e).Wf := by
  unfold State.evrDrop
  extract_lets
  split
  · exact .finish (.setEvr (.raise (.inc h)))
  · exact .setEvr (.raise (.inc h))

theorem State.Wf.evrArrive {e} (h : s.Wf) : (s.evrArrive e).Wf := by
  unfold State.evrArrive
  refine .ite ?_ ?_
  · exact .ite (.emergency h) (.evrDrop h)
  · exact .ite (.evrDrop h) (.evrDrain (.refreshEvr (.setEvr h)))

theorem State.Wf.ringPut {seq ws} (h : s.Wf) : (s.ringPut seq ws).Wf := by
  unfold State.ringPut
  exact .setEvr (.writeRecord h)

theorem State.Wf.ringFail (h : s.Wf) : s.ringFail.Wf := by
  unfold State.ringFail
  extract_lets _ _ _ _ _ s1
  have h1 : s1.Wf := .log (.raise (.put (.setWide (.initRange h))))
  split
  · exact .setEvr (.setEvr h1)
  · exact .ite (.evrDegrade (.setEvr (.raise (.setEvr h1)))) (.evrDrain (.setEvr (.raise (.setEvr h1))))

theorem State.Wf.flushOne {r fail} (h : s.Wf) : (s.flushOne r fail).Wf := by
  unfold State.flushOne
  split
  · next _ e =>
    have h1 := State.Wf.of_pair e (.readRecord h)
    exact .stagingFault h1
  · next _ _ e1 =>
    have h2 := State.Wf.of_pair e1 (.readRecord h)
    exact .ite (.ringFail h2) (.setEvr (.ringPut h2))

theorem State.Wf.flushEnd (h : s.Wf) : s.flushEnd.Wf := by
  unfold State.flushEnd
  exact .ite (.setEvr h) h

theorem State.Wf.flushFifo {fail} (h : s.Wf) : (s.flushFifo fail).Wf := by
  unfold State.flushFifo
  split
  · exact h
  · exact .ite (.ringFail h) (.marked (.ringPut (.evrSummary (.setEvr h))))

theorem State.Wf.flushAll (h : s.Wf) : s.flushAll.Wf := by
  unfold State.flushAll
  exact .ite (.setEvr (.putFlag h)) (.refreshEvr (.flushEnd (.foldl (.setEvr (.putFlag h)) fun _ _ hf => .flushOne
      hf)))

theorem State.Wf.thaw {why} (h : s.Wf) : (s.thaw why).Wf := by
  unfold State.thaw
  exact .ite (.evrKick (.log (.setEvr (.putFlag h)))) h

theorem State.Wf.evrLatch {seq} (h : s.Wf) : (s.evrLatch seq).2.2.Wf := by
  unfold State.evrLatch
  refine .iteSnd2 h ?_
  split
  · exact h
  · refine .iteSnd2 h (.iteSnd2 h ?_)
    split
    · exact h
    · split
      · next _ _ e =>
        have h1 := State.Wf.of_pair e (.readRecord h)
        exact .snd h1
      · next _ e1 =>
        have h2 := State.Wf.of_pair e1 (.readRecord h)
        split
        · exact .snd (.refreshEvr (.stagingFault h2))
        · exact .snd h2

theorem State.Wf.winLatch {m} (h : s.Wf) : (s.winLatch m).2.Wf := by
  unfold State.winLatch
  exact .ite (.setReg (.put (.evrLatch h))) (.put (.evrLatch h))

theorem State.Wf.execEventRecordArrival (h : s.Wf) : NextWf (Machine.execEventRecordArrival s) := by
  unfold Machine.execEventRecordArrival
  refine .next (.ite ?_ h)
  split
  · exact h
  · exact .refreshEvr (.evrArrive (.withEvents h))

theorem State.Wf.execFlushAgeTimer (h : s.Wf) : NextWf (Machine.execFlushAgeTimer s) := by
  unfold Machine.execFlushAgeTimer
  refine .next ?_
  split
  · exact .ite (.evrKick h) h
  · exact h

theorem State.Wf.execRingRecordWrite {fail} (h : s.Wf) : NextWf (Machine.execRingRecordWrite fail s) := by
  unfold Machine.execRingRecordWrite
  refine .next (.ite h ?_)
  split
  · exact .ite (.refreshEvr (.evrDrain (.flushEnd (.flushOne h)))) h
  · exact .ite (.refreshEvr (.flushFifo h)) h

theorem State.Wf.emergencyCopy {slot} (h : s.Wf) : (s.emergencyCopy slot).Wf := by
  unfold State.emergencyCopy
  exact .ite (.put (.put (.setEvr (.stageRecord h)))) h

theorem State.Wf.cmdEvrFreeze {p x} (h : s.Wf) : (Machine.cmdEvrFreeze p x s).2.Wf := by
  unfold Machine.cmdEvrFreeze
  exact .iteSnd h (.snd (.log (.setEvr (.raise h))))

theorem State.Wf.cmdEvrThaw {p x} (h : s.Wf) : (Machine.cmdEvrThaw p x s).2.Wf := by
  unfold Machine.cmdEvrThaw
  exact .iteSnd h (.snd (.thaw h))

theorem State.Wf.cmdEvrStatus {p x} (h : s.Wf) : (Machine.cmdEvrStatus p x s).2.Wf := by
  unfold Machine.cmdEvrStatus
  exact .iteSnd h h

theorem State.Wf.cmdEvrMark {p w} (h : s.Wf) : (Machine.cmdEvrMark p w s).2.Wf := by
  unfold Machine.cmdEvrMark
  exact .iteSnd h (.snd (.withEvents h))

/-! ## Integrity -/

theorem State.Wf.upset {a upset} (h : s.Wf) : (s.upset a upset).Wf := by
  unfold State.upset
  exact .ite h (.setWord h)

theorem State.Wf.scrub {a} (h : s.Wf) : (s.scrub a).Wf := by
  unfold State.scrub
  extract_lets
  split
  · exact .setWord (.readHard h)
  · exact .readHard h

theorem State.Wf.rewriteRow {row} (h : s.Wf) : (s.rewriteRow row).Wf := by
  unfold State.rewriteRow
  refine .foldl h fun _ _ hf => ?_
  extract_lets
  split
  · exact .setWord hf
  · exact hf

theorem State.Wf.execMramRemapDone {row} (h : s.Wf) : NextWf (Machine.execMramRemapDone row s) := by
  unfold Machine.execMramRemapDone
  exact .next (.ite (.ite (.raise (.put (.rewriteRow (.withCtl h id)))) (.put (.rewriteRow (.withCtl h id)))) h)

theorem State.Wf.cmdMemStatus {p x} (h : s.Wf) : (Machine.cmdMemStatus p x s).2.Wf := by
  unfold Machine.cmdMemStatus
  exact .iteSnd h (.iteSnd h h)

theorem State.Wf.cmdMemBucketSet {p x} (h : s.Wf) : (Machine.cmdMemBucketSet p x s).2.Wf := by
  unfold Machine.cmdMemBucketSet
  exact .iteSnd h (.iteSnd h (.snd (.put (.put h))))

theorem State.Wf.cmdMemHardList {p x} (h : s.Wf) : (Machine.cmdMemHardList p x s).2.Wf := by
  unfold Machine.cmdMemHardList
  exact .iteSnd h (.iteSnd h h)

/-! ## LineTx -/

theorem State.Wf.commit {k} (h : s.Wf) : (s.commit k).Wf := by
  unfold State.commit
  exact .ite (.putFlag (.setLine h)) (.refreshAmp (.setTxActive h))

theorem State.Wf.cmdSetFir {p x} (h : s.Wf) : (Machine.cmdSetFir p x s).2.Wf := by
  unfold Machine.cmdSetFir
  exact .iteSnd h (.iteSnd h (.iteSnd h (.snd (.foldl h fun _ _ hf => .put hf))))

theorem State.Wf.cmdSetLevels {p x} (h : s.Wf) : (Machine.cmdSetLevels p x s).2.Wf := by
  unfold Machine.cmdSetLevels
  exact .iteSnd h (.iteSnd h (.iteSnd h (.snd (.foldl h fun _ _ hf => .put hf))))

theorem State.Wf.cmdCommit {p x} (h : s.Wf) : (Machine.cmdCommit p x s).2.Wf := by
  unfold Machine.cmdCommit
  exact .iteSnd h (.iteSnd h (.iteSnd h (.snd (.commit h))))

theorem State.Wf.execLtxRampStep {k} (h : s.Wf) : NextWf (Machine.execLtxRampStep k s) := by
  unfold Machine.execLtxRampStep
  refine .next ?_
  split
  · exact h
  · exact .ite (.setLine (.setTxActive h)) (.endRamp h)

theorem State.Wf.patternPair {k} (h : s.Wf) : (s.patternPair k).2.Wf := by
  unfold State.patternPair
  extract_lets
  split
  next _ _ e =>
  have h1 := State.Wf.of_pair e (by
    split
    · exact h
    · exact .free h
  )
  exact .snd (.setLine h1)

theorem State.Wf.txSymbol {k src} (h : s.Wf) : (s.txSymbol k src).2.Wf := by
  unfold State.txSymbol
  exact .iteSnd h (.setLine (.iteSnd (.patternPair h) h))

theorem State.Wf.txSymbols {k xs} (h : s.Wf) : (s.txSymbols k xs).2.Wf := by
  induction xs generalizing s with
  | nil => exact h
  | cons x xs ih =>
    rw [State.txSymbols]
    exact ih h.txSymbol

theorem State.Wf.clipped {k n} (h : s.Wf) : (s.clipped k n).Wf := by
  unfold State.clipped
  exact .ite h (.logRate (.raise (.inc h)))

theorem State.Wf.txSend {k sub xs} (h : s.Wf) : (s.txSend k sub xs).Wf := by
  unfold State.txSend
  exact .clipped (.setLine h)

theorem State.Wf.txWakePattern {k} (h : s.Wf) : (s.txWakePattern k).Wf := by
  unfold State.txWakePattern
  exact .ite (.txSend h) h

theorem State.Wf.execLtxChkLost {k symbols} (h : s.Wf) : NextWf (Machine.execLtxChkLost k symbols s) := by
  unfold Machine.execLtxChkLost
  exact .next (.ite (.ite (.log (.raise (.putFlag (.inc (.inc (.setLine h)))))) (.inc (.inc (.setLine h)))) h)

theorem State.Wf.execLtxLbSlip {k again block} (h : s.Wf) : NextWf (Machine.execLtxLbSlip k again block s) := by
  unfold Machine.execLtxLbSlip
  refine .next ?_
  split
  · exact .ite (.ite (.txSend (.txSymbols (.raise (.inc h)))) (.raise (.inc h))) h
  · exact h

theorem State.Wf.cmdCalTxRun {p t} (h : s.Wf) : (Machine.cmdCalTxRun p t s).2.Wf := by
  unfold Machine.cmdCalTxRun
  refine .iteSnd h (.iteSnd h (.iteSnd h (.iteSnd h ?_)))
  exact .iteSnd (.snd (.endCalTx (.put (.put (.put (.setReg (.setLine h))))))) (.snd (.putFlag (.put (.put (.put
      (.put (.put (.setReg (.setLine h)))))))))

theorem State.Wf.cmdCalTxAbort {p x} (h : s.Wf) : (Machine.cmdCalTxAbort p x s).2.Wf := by
  unfold Machine.cmdCalTxAbort
  exact .iteSnd h (.iteSnd h (.iteSnd h (.iteSnd (.snd (.endCalTx h)) h)))

theorem State.Wf.cmdCalTxStatus {p x} (h : s.Wf) : (Machine.cmdCalTxStatus p x s).2.Wf := by
  unfold Machine.cmdCalTxStatus
  exact .iteSnd h (.iteSnd h (.iteSnd h h))

theorem State.Wf.dacTarget {k n d} (h : s.Wf) : (s.dacTarget k n d).Wf := by
  unfold State.dacTarget
  exact .ite (.put h) (.raise (.put h))

theorem State.Wf.startDacTrims {k} (h : s.Wf) : (s.startDacTrims k).Wf := by
  unfold State.startDacTrims
  exact .setLine h

theorem State.Wf.execCalTxMeasureEnd {k skew} (h : s.Wf) : NextWf (Machine.execCalTxMeasureEnd k skew s) := by
  unfold Machine.execCalTxMeasureEnd
  refine .next ?_
  split
  · exact h
  · refine .ite ?_ h
    refine .ite (.endCalTx (.raise (.setLine h))) ?_
    exact .startDacTrims (.put (.foldl (.setLine h) fun _ _ hf => .dacTarget hf))

theorem State.Wf.execCalTxApplyEnd {k} (h : s.Wf) : NextWf (Machine.execCalTxApplyEnd k s) := by
  unfold Machine.execCalTxApplyEnd
  refine .next ?_
  split
  · exact h
  · exact .ite (.ite (.put (.put (.bump h))) (.endCalTx (.bump h))) h

theorem State.Wf.dacTick {k} (h : s.Wf) : (s.dacTick k).Wf := by
  unfold State.dacTick
  refine .ite h ?_
  split
  · exact .ite (.startDacTrims (.setLine h)) (.ite (.setLine h) (.startDacTrims h))
  · exact .ite (.setLine h) (.startDacTrims h)

theorem State.Wf.dacTtrimWrite {k n data} (h : s.Wf) : (s.dacTtrimWrite k n data).Wf := by
  unfold State.dacTtrimWrite
  exact .ite (.raise (.raise h)) (.ite (.startDacTrims (.writeRwl h)) (.setReg (.writeRwl h)))

theorem State.Wf.testCtlWrite {k data} (h : s.Wf) : (s.testCtlWrite k data).Wf := by
  unfold State.testCtlWrite
  exact .ite (.writeRwl h) (.raise (.raise h))

/-! ## HostLane -/

theorem State.Wf.setHostLane {j v} (h : s.Wf) : (s.setHostLane j v).Wf :=
  ⟨h.inv.1, by simpa [State.setHostLane, State.Shaped] using h.inv.2⟩

theorem State.Wf.applyTxEq {j} (h : s.Wf) : (s.applyTxEq j).Wf := by
  unfold State.applyTxEq
  exact .ite (.raise (.put (.put (.put (.setReg h))))) (.put (.put (.put (.setReg h))))

theorem State.Wf.txEqWrite {j data} (h : s.Wf) : (s.txEqWrite j data).Wf := by
  unfold State.txEqWrite
  exact .applyTxEq (.setReg h)

theorem State.Wf.rxEqWrite {j data} (h : s.Wf) : (s.rxEqWrite j data).Wf := by
  unfold State.rxEqWrite
  exact .ite (.setReg h) (.put (.setReg h))

theorem State.Wf.putHostFofs {j fofs phase} (h : s.Wf) : (s.putHostFofs j fofs phase).Wf := by
  unfold State.putHostFofs
  exact .put (.put h)

theorem State.Wf.adaptTaps {j h1 taps} (h : s.Wf) : (s.adaptTaps j h1 taps).Wf := by
  unfold State.adaptTaps
  refine .ite h (.foldl (.put h) fun _ _ hf => ?_)
  split
  · exact .put hf
  · exact hf

theorem State.Wf.moveCtle {j code} (h : s.Wf) : (s.moveCtle j code).Wf := by
  unfold State.moveCtle
  exact .ite (.setHostLane (.put h)) h

theorem State.Wf.hostPair {j} (h : s.Wf) : (s.hostPair j).2.Wf := by
  unfold State.hostPair
  extract_lets
  split
  next _ _ e =>
  have h1 := State.Wf.of_pair e (by
    split
    · exact h
    · exact .iteSnd h (.free h)
  )
  split
  extract_lets
  split <;> exact .snd (.setHostLane h1)

theorem State.Wf.hostSymbol {j src} (h : s.Wf) : (s.hostSymbol j src).2.Wf := by
  unfold State.hostSymbol
  exact .iteSnd h (.iteSnd h (.hostPair h))

theorem State.Wf.hostLevels {j vs} (h : s.Wf) : (s.hostLevels j vs).Wf := by
  unfold State.hostLevels
  exact .setHostLane h

theorem State.Wf.hostSend {j src} (h : s.Wf) : (s.hostSend j src).Wf := by
  unfold State.hostSend
  exact .ite h (.hostLevels (.foldlSnd h fun _ _ hz => .hostSymbol hz))

theorem State.Wf.hostWakePattern {j} (h : s.Wf) : (s.hostWakePattern j).Wf := by
  unfold State.hostWakePattern
  exact .ite h (.hostLevels h)

theorem State.Wf.execHlSigAssert {j} (h : s.Wf) : NextWf (Machine.execHlSigAssert j s) := by
  unfold Machine.execHlSigAssert
  exact .next (.ite (.ite (.wakeHostRxPort (.log (.raise (.raise h)))) (.log (.raise (.raise h)))) h)

theorem State.Wf.execHlWakeSeen {j} (h : s.Wf) : NextWf (Machine.execHlWakeSeen j s) := by
  unfold Machine.execHlWakeSeen
  exact .next (.ite (.ite (.wakeHostRxPort (.ite h (.log (.raise h)))) (.ite h (.log (.raise h)))) h)

theorem State.Wf.countChk {j symbols errors} (h : s.Wf) : (s.countChk j symbols errors).Wf := by
  unfold State.countChk
  exact .inc (.inc h)

theorem State.Wf.execHlChkLost {j symbols} (h : s.Wf) : NextWf (Machine.execHlChkLost j symbols s) := by
  unfold Machine.execHlChkLost
  refine .next (.ite ?_ (.ite (.countChk h) h))
  exact .ite (.log (.raise (.putFlag (.countChk (.setHostLane h))))) (.countChk (.setHostLane h))

theorem State.Wf.slipDone {j} (h : s.Wf) : (s.slipDone j).Wf := by
  unfold State.slipDone
  exact .ite (.foldl (.setHostLane h) fun _ _ hf => .finish hf) h

theorem State.Wf.slipWrite {j data} (h : s.Wf) : (s.slipWrite j data).Wf := by
  unfold State.slipWrite
  exact .ite (.slipDone (.setReg h)) (.raise (.raise h))

theorem State.Wf.execHlBitSlip {j} (h : s.Wf) : NextWf (Machine.execHlBitSlip j s) := by
  unfold Machine.execHlBitSlip
  refine .next (.ite h ?_)
  exact .slipDone (.ite (.ite h (.putFlag (.put (.put h)))) (.setHostLane (.put (.put (.ite h (.putFlag (.put (.put
      h))))))))

theorem State.Wf.captureStart {j} (h : s.Wf) : (s.captureStart j).Wf := by
  unfold State.captureStart
  exact .ite h (.putFlag (.putFlag h))

theorem State.Wf.execCaptureDone {j words} (h : s.Wf) : NextWf (Machine.execCaptureDone j words s) := by
  unfold Machine.execCaptureDone
  refine .next (.ite ?_ h)
  extract_lets
  split
  · exact .raise (.putFlag (.putFlag (.foldl h fun _ _ hf => .setWord hf)))
  · exact .finish (.setHostLane (.raise (.putFlag (.putFlag (.foldl h fun _ _ hf => .setWord hf)))))

theorem State.Wf.execHlLbSlip {j again block} (h : s.Wf) : NextWf (Machine.execHlLbSlip j again block s) := by
  unfold Machine.execHlLbSlip
  refine .next ?_
  split
  · refine .ite ?_ h
    exact .ite (.hostSend (.logRate (.raise (.inc h)))) (.logRate (.raise (.inc h)))
  · exact h

theorem State.Wf.hostCmd {j} {x : Answer × State} (h : s.Wf) (hx : x.2.Wf) : (s.hostCmd j x).2.Wf := by
  unfold State.hostCmd
  exact .iteSnd h (.iteSnd h hx)

theorem State.Wf.cmdSetTxEq {p x} (h : s.Wf) : (Machine.cmdSetTxEq p x s).2.Wf := by
  unfold Machine.cmdSetTxEq
  exact .iteSnd h (.hostCmd h (.snd (.txEqWrite h)))

theorem State.Wf.cmdSetRxEq {p x} (h : s.Wf) : (Machine.cmdSetRxEq p x s).2.Wf := by
  unfold Machine.cmdSetRxEq
  exact .iteSnd h (.hostCmd h (.snd (.rxEqWrite h)))

theorem State.Wf.cmdHlSlip {p t} (h : s.Wf) : (Machine.cmdHlSlip p t s).2.Wf := by
  unfold Machine.cmdHlSlip
  exact .iteSnd h (.hostCmd h (.iteSnd h (.snd (.slipWrite (.setHostLane h)))))

theorem State.Wf.cmdHlCapture {p t} (h : s.Wf) : (Machine.cmdHlCapture p t s).2.Wf := by
  unfold Machine.cmdHlCapture
  exact .iteSnd h (.hostCmd h (.iteSnd h (.iteSnd h (.snd (.captureStart (.setHostLane h))))))

theorem State.Wf.cmdHlStatus {p x} (h : s.Wf) : (Machine.cmdHlStatus p x s).2.Wf := by
  unfold Machine.cmdHlStatus
  exact .iteSnd h (.hostCmd h h)

/-! ## Insole -/

theorem State.Wf.slotBytes {k slot n} (h : s.Wf) : (s.slotBytes k slot n).2.Wf := by
  unfold State.slotBytes
  split
  · next _ e =>
    have h1 := State.Wf.of_pair e (.readWords h)
    exact .snd h1
  · next _ _ e1 =>
    have h2 := State.Wf.of_pair e1 (.readWords h)
    exact .snd h2

theorem State.Wf.storeSlot {k slot bytes} (h : s.Wf) : (s.storeSlot k slot bytes).Wf := by
  unfold State.storeSlot
  exact .foldl h fun _ _ hf => .setWord hf

theorem State.Wf.insStart {k f} (h : s.Wf) : (s.insStart k f).Wf := by
  unfold State.insStart
  exact .setInsl h

theorem State.Wf.sendMsg {k m} (h : s.Wf) : (s.sendMsg k m).Wf := by
  unfold State.sendMsg
  split
  · next _ e =>
    have h1 := State.Wf.of_pair e (.slotBytes h)
    exact .insMsgDone (.setInsl h1)
  · next _ _ e1 =>
    have h2 := State.Wf.of_pair e1 (.slotBytes h)
    exact .insStart (.setInsl (.ite (.put h2) (.inc h2)))

theorem State.Wf.insNext {k} (h : s.Wf) : (s.insNext k).Wf := by
  unfold State.insNext
  refine .ite h (.ite (.ite (.setInsl (.insStart h)) h) ?_)
  split
  · exact .ite (.sendMsg h) h
  · exact .ite (.setInsl (.insStart h)) h

theorem State.Wf.insResume {k} (h : s.Wf) : (s.insResume k).Wf := by
  unfold State.insResume
  refine .ite ?_ h
  exact .ite (.log (.raise (.putFlag h))) (.insRamp (.log (.raise (.putFlag h))))

theorem State.Wf.refreshPause {d} (h : s.Wf) : (s.refreshPause d).Wf := by
  unfold State.refreshPause
  exact .foldl h fun _ _ hf => .ite (.insPause hf) (.insResume hf)

theorem State.Wf.insSent {k f} (h : s.Wf) : (s.insSent k f).Wf := by
  unfold State.insSent
  exact .inc (.setInsl h)

theorem State.Wf.execInsTxFrameDone {k} (h : s.Wf) : NextWf (Machine.execInsTxFrameDone k s) := by
  unfold Machine.execInsTxFrameDone
  refine .next (.ite h ?_)
  extract_lets s1
  have h1 : s1.Wf := by
    unfold s1
    split
    · exact h
    · exact .insSent h
  exact .ite (.insPause h1) (.insNext h1)

theorem State.Wf.insIslandOn {d} (h : s.Wf) : (s.insIslandOn d).Wf := by
  unfold State.insIslandOn
  exact .ite (.turnIsland h) h

theorem State.Wf.insIslandOff {d} (h : s.Wf) : (s.insIslandOff d).Wf := by
  unfold State.insIslandOff
  exact .ite h (.ite (.turnIsland h) (.dropRange (.foldl (.wipe (.turnIsland h)) fun _ _ hf => .setInsl (.wipe hf))))

theorem State.Wf.execInsRampStep {k} (h : s.Wf) : NextWf (Machine.execInsRampStep k s) := by
  unfold Machine.execInsRampStep
  refine .next ?_
  split
  · exact h
  · refine .ite h (.ite (.setInsl h) ?_)
    exact .ite (.insIslandOff (.putFlag (.putFlag (.setInsl h)))) (.putFlag (.putFlag (.setInsl h)))

theorem State.Wf.refreshRxOk {k} (h : s.Wf) : (s.refreshRxOk k).Wf := by
  unfold State.refreshRxOk
  exact .setRxOk h

theorem State.Wf.insSync {k} (h : s.Wf) : (s.insSync k).Wf := by
  unfold State.insSync
  exact .refreshRxOk (.put h)

theorem State.Wf.insFrame {k phase metric inverted arrival} (h : s.Wf) : (s.insFrame k phase metric inverted
    arrival).Wf := by
  unfold State.insFrame
  exact .putFlag (.putFlag (.setInsl (.put (.put h))))

theorem State.Wf.execInsSyncDetect {k hits} (h : s.Wf) : NextWf (Machine.execInsSyncDetect k hits s) := by
  unfold Machine.execInsSyncDetect
  refine .next (.ite ?_ h)
  split
  · exact h
  · exact .via (.ite (.insSync h) h) fun h1 => .ite (.insFrame h1) (.ite (.insFrame (.logRate (.raise (.inc h1)))) h1)

theorem State.Wf.insAck {k ack} (h : s.Wf) : (s.insAck k ack).Wf := by
  unfold State.insAck
  exact .foldl (.setInsl h) fun _ _ hf => .insMsgDone hf

theorem State.Wf.insMsgIn {k seq payload} (h : s.Wf) : (s.insMsgIn k seq payload).Wf := by
  unfold State.insMsgIn
  refine .ite h (.ite ?_ (.ite (.setInsl h) h))
  split
  · exact .inc h
  · exact .raise (.put (.setInsl (.storeSlot h)))

theorem State.Wf.insGoUp {k} (h : s.Wf) : (s.insGoUp k).Wf := by
  unfold State.insGoUp
  exact .log (.raise (.setInsl (.put (.put h))))

theorem State.Wf.insGoodFrame {k h' payload sigma} (h : s.Wf) : (s.insGoodFrame k h' payload sigma).Wf := by
  unfold State.insGoodFrame
  extract_lets _ _ _ s1 _ _ _ _ _ _ s2
  have h3 : s1.Wf := .put (.putFlag (.setInsl (.inc h)))
  have h2 : s2.Wf := by
    refine .ite ?_ ?_
    · exact .putFlag (.putFlag (.putFlag (.put h3)))
    · exact .ite (.exchange (.setInsl (.put (.put (.setWide h3))))) h3
  exact .via (.ite (.insGoUp h2) (.ite (.insLeave h2) h2)) fun h1 => .refreshRxOk (.ite (.ite (.insMsgIn (.insAck
      h1)) (.insAck h1)) h1)

theorem State.Wf.execInsFrameReceived {k header payload crc sigma} (h : s.Wf) : NextWf (Machine.execInsFrameReceived
    k header payload crc sigma s) := by
  unfold Machine.execInsFrameReceived
  exact .next (.ite (.ite (.inc (.putFlag h)) (.ite (.inc (.putFlag h)) (.insGoodFrame (.putFlag h)))) h)

theorem State.Wf.insReacquire {k} (h : s.Wf) : (s.insReacquire k).Wf := by
  unfold State.insReacquire
  exact .refreshRxOk (.putFlag (.insLeave h))

theorem State.Wf.insRetrack {k energy} (h : s.Wf) : (s.insRetrack k energy).Wf := by
  unfold State.insRetrack
  exact .ite (.setInsl h) (.ite (.setInsl h) (.setInsl (.put h)))

theorem State.Wf.execInsFofsMeasure {k apart track energy} (h : s.Wf) : NextWf (Machine.execInsFofsMeasure k apart
    track energy s) := by
  unfold Machine.execInsFofsMeasure
  refine .next (.ite (.ite ?_ ?_) h)
  · exact .log (.raise (.insSeed (.insReacquire h)))
  · exact .insRetrack (.setInsl (.put (.put h)))

theorem State.Wf.execInsMsgRetx {k} (h : s.Wf) : NextWf (Machine.execInsMsgRetx k s) := by
  unfold Machine.execInsMsgRetx
  refine .next ?_
  split
  · exact h
  · exact .ite (.setInsl h) (.refreshRxOk (.insLeave (.insMsgDone (.setInsl h))))

theorem State.Wf.execInsCreditTimeout {k} (h : s.Wf) : NextWf (Machine.execInsCreditTimeout k s) := by
  unfold Machine.execInsCreditTimeout
  refine .next ?_
  split
  · exact h
  · exact .ite h (.insMsgDone (.setInsl h))

theorem State.Wf.sendMessage {p t} (h : s.Wf) : (Machine.sendMessage p t s).2.Wf := by
  unfold Machine.sendMessage
  refine .iteSnd h (.iteSnd h (.iteSnd h (.iteSnd h ?_)))
  exact .iteSnd h (.iteSnd h (.iteSnd h (.snd (.wakeLineTx (.put (.setInsl h))))))

theorem State.Wf.cmdMsgSend {p t} (h : s.Wf) : (Machine.cmdMsgSend p t s).2.Wf := by
  unfold Machine.cmdMsgSend
  extract_lets
  split
  · next _ e =>
    have h1 := State.Wf.of_pair e (.sendMessage h)
    exact .snd h1
  · next _ _ e1 =>
    have h2 := State.Wf.of_pair e1 (.sendMessage h)
    exact .snd (.ite (.raise h2) h2)

theorem State.Wf.cmdMsgRecv {p x} (h : s.Wf) : (Machine.cmdMsgRecv p x s).2.Wf := by
  unfold Machine.cmdMsgRecv
  refine .iteSnd h (.iteSnd h (.iteSnd h ?_))
  split <;> exact h

theorem State.Wf.cmdMsgRelease {p x} (h : s.Wf) : (Machine.cmdMsgRelease p x s).2.Wf := by
  unfold Machine.cmdMsgRelease
  exact .iteSnd h (.iteSnd h (.iteSnd h (.iteSnd (.snd (.put (.setInsl h))) h)))

theorem State.Wf.cmdInsStatus {p x} (h : s.Wf) : (Machine.cmdInsStatus p x s).2.Wf := by
  unfold Machine.cmdInsStatus
  exact .iteSnd h (.iteSnd h (.iteSnd h h))

theorem State.Wf.cmdInsSetParam {p x} (h : s.Wf) : (Machine.cmdInsSetParam p x s).2.Wf := by
  unfold Machine.cmdInsSetParam
  exact .iteSnd h (.iteSnd h (.iteSnd h (.snd (.ite (.setReg h) (.refreshAmp (.put (.setReg h)))))))

theorem State.Wf.cmdInsSearch {p t} (h : s.Wf) : (Machine.cmdInsSearch p t s).2.Wf := by
  unfold Machine.cmdInsSearch
  exact .iteSnd h (.iteSnd h (.iteSnd h (.iteSnd h (.iteSnd h (.snd (.putFlag (.setInsl h)))))))

theorem State.Wf.execInsSearchDone {k metrics} (h : s.Wf) : NextWf (Machine.execInsSearchDone k metrics s) := by
  unfold Machine.execInsSearchDone
  refine .next ?_
  split
  · exact h
  · exact .ite h (.finish (.ite (.insAcquire (.insReacquire (.setInsl h))) (.setInsl h)))

theorem State.Wf.insDown {k} (h : s.Wf) : (s.insDown k).Wf := by
  unfold State.insDown
  exact .ite h (.putFlag (.putFlag (.setInsl (.insFlush (.insRxStop h)))))

theorem State.Wf.insCut {k} (h : s.Wf) : (s.insCut k).Wf := by
  unfold State.insCut
  exact .ite (.setInsl h) h

theorem State.Wf.insDisable {k} (h : s.Wf) : (s.insDisable k).Wf := by
  unfold State.insDisable
  refine .ite h (.insRamp (.setRxOk (.setInsl (.insCut ?_))))
  split
  · exact .finish (.setInsl (.putFlag (.insFlush (.insLeave h))))
  · exact .putFlag (.insFlush (.insLeave h))

theorem State.Wf.insEnable {k} (h : s.Wf) : (s.insEnable k).Wf := by
  unfold State.insEnable
  exact .via (.refreshAmp (.insRxStart (.ite (.put h) h))) fun h1 => .ite h1 (.ite (.insPause (.startGrid h1))
      (.insRamp (.startGrid h1)))

/-! ## Modes -/

theorem State.Wf.toPwr {st} (h : s.Wf) : (s.toPwr st).Wf := by
  unfold State.toPwr
  exact .ite h (.log (.raise (.put h)))

theorem State.Wf.setTxn {t} (h : s.Wf) : (s.setTxn t).Wf := by
  unfold State.setTxn
  exact .withMode h id

theorem State.Wf.named {id'} (h : s.Wf) : (s.named id').2.Wf := by
  unfold State.named
  refine .iteSnd (.snd (.withMode h id)) ?_
  split
  · exact .iteSnd h h
  · exact h

theorem State.Wf.inTxn {p touch f} (h : s.Wf) (hf : ∀ t s, s.Wf → (f t s).2.Wf) : (s.inTxn p touch f).2.Wf := by
  unfold State.inTxn
  refine .iteSnd h ?_
  split
  · next _ _ e => exact .of_pair e h.named
  · next _ _ e => exact hf _ _ (.setTxn (.of_pair e h.named))

theorem State.Wf.staging {p f} (h : s.Wf) : (s.staging p f).2.Wf := by
  unfold State.staging
  refine .inTxn h fun _ _ hf => ?_
  split <;> exact .snd (.setTxn hf)

theorem State.Wf.cmdModeBegin {p x} (h : s.Wf) : (Machine.cmdModeBegin p x s).2.Wf := by
  unfold Machine.cmdModeBegin
  exact .iteSnd h (.iteSnd h (.iteSnd h (.snd (.withMode h id))))

theorem State.Wf.cmdStagePort {p x} (h : s.Wf) : (Machine.cmdStagePort p x s).2.Wf := by
  unfold Machine.cmdStagePort
  exact .staging h

theorem State.Wf.cmdStageLane {p x} (h : s.Wf) : (Machine.cmdStageLane p x s).2.Wf := by
  unfold Machine.cmdStageLane
  exact .staging h

theorem State.Wf.cmdStageDie {p x} (h : s.Wf) : (Machine.cmdStageDie p x s).2.Wf := by
  unfold Machine.cmdStageDie
  exact .staging h

theorem State.Wf.cmdStageFibre {p x} (h : s.Wf) : (Machine.cmdStageFibre p x s).2.Wf := by
  unfold Machine.cmdStageFibre
  exact .staging h

theorem State.Wf.rejected {t r} (h : s.Wf) : (s.rejected t r).Wf := by
  unfold State.rejected
  exact .log (.setTxn h)

theorem State.Wf.cmdModeValidate {p x} (h : s.Wf) : (Machine.cmdModeValidate p x s).2.Wf := by
  unfold Machine.cmdModeValidate
  exact .inTxn h fun _ _ hf => .iteSnd hf (.iteSnd hf (.iteSnd (.snd (.rejected hf)) (.snd (.setTxn hf))))

theorem State.Wf.cmdModeAbort {p x} (h : s.Wf) : (Machine.cmdModeAbort p x s).2.Wf := by
  unfold Machine.cmdModeAbort
  exact .inTxn h fun _ _ hf => .iteSnd hf (.snd (.setTxn hf))

theorem State.Wf.cmdModeRead {p x} (h : s.Wf) : (Machine.cmdModeRead p x s).2.Wf := by
  unfold Machine.cmdModeRead
  extract_lets part answer
  have hanswer : ∀ m t, t.Wf → (answer m t).2.Wf := by
    intro m t ht
    unfold answer
    split
    · exact ht
    · exact ht
  refine .iteSnd h (.iteSnd (.iteSnd h (hanswer _ _ h)) ?_)
  split
  · next e => exact State.Wf.of_pair e h.named
  · next e => exact hanswer _ _ (.of_pair e h.named)

theorem State.Wf.cmdModePortStatus {p x} (h : s.Wf) : (Machine.cmdModePortStatus p x s).2.Wf := by
  unfold Machine.cmdModePortStatus
  exact .iteSnd h h

theorem State.Wf.loadCal {kind index o r n u} (h : s.Wf) : (s.loadCal kind index o r n u).Wf := by
  unfold State.loadCal
  refine .foldl h fun _ _ hf => ?_
  split
  · exact .setReg hf
  · exact hf

theorem State.Wf.lineOff {k} (h : s.Wf) : (s.lineOff k).Wf := by
  unfold State.lineOff
  exact .setLine (.loseBuried (.dropRange (.wipe (.turnIsland (.putBit (.endSeq (.endSeq (.endSeq (.foldl h fun _ _
      hf => .ite hf (.rackOff hf))))))))))

theorem State.Wf.dropWaiters {j} (h : s.Wf) : (s.dropWaiters j).Wf := by
  unfold State.dropWaiters
  extract_lets _ _ s1
  have h1 : s1.Wf := .foldl (.setHostLane h) fun _ _ hf => .finish hf
  split
  · exact .finish h1
  · exact h1

theorem State.Wf.hostOff {j} (h : s.Wf) : (s.hostOff j).Wf := by
  unfold State.hostOff
  exact .loseBuried (.dropRange (.wipe (.turnIsland (.endSeq (.endSeq (.dropWaiters h))))))

theorem State.Wf.refreshFecIsland {d} (h : s.Wf) : (s.refreshFecIsland d).Wf := by
  unfold State.refreshFecIsland
  refine .ite ?_ ?_
  · exact .refreshPool (.foldl (.turnIsland h) fun _ _ hf => .ite (.raise hf) hf)
  · refine .ite ?_ h
    exact .loseBuried (.dropRange (.foldl (.wipe (.turnIsland h)) fun _ _ hf1 => .setFec (.wipe hf1)))

theorem State.Wf.clearLocks {p} (h : s.Wf) : (s.clearLocks p).Wf := by
  unfold State.clearLocks
  exact .setFec (.putFlag (.setReg h))

theorem State.Wf.portDownStep {p} (h : s.Wf) : (s.portDownStep p).Wf := by
  unfold State.portDownStep
  exact .clearLocks (.freeCtxs (.foldl (.foldl (.setPort h) fun _ _ hf => .insDown hf) fun _ _ hf1 => .dropWaiters
      hf1))

theorem State.Wf.refreshSlots (h : s.Wf) : s.refreshSlots.Wf := by
  unfold State.refreshSlots
  exact .put (.put (.put (.put h)))

theorem State.Wf.zeroKernels {k} (h : s.Wf) : (s.zeroKernels k).Wf := by
  unfold State.zeroKernels
  exact .foldl h fun _ _ hf => .put hf

theorem State.Wf.configOptions {k} (h : s.Wf) : (s.configOptions k).Wf := by
  unfold State.configOptions
  exact .via (.putFlag (.putFlag (.putFlag h))) fun h1 => .ite (.setLine (.putFlag (.zeroKernels h1))) (.ite
      (.setLine h1) h1)

theorem State.Wf.removeVnle {k} (h : s.Wf) : (s.removeVnle k).Wf := by
  unfold State.removeVnle
  exact .ite (.setLine (.putFlag (.zeroKernels h))) h

theorem State.Wf.retune {k} (h : s.Wf) : (s.retune k).Wf := by
  unfold State.retune
  exact .refreshLine (.startSeq (.withPllArmed (.putBit h)))

theorem State.Wf.renewLine {k first} (h : s.Wf) : (s.renewLine k first).Wf := by
  unfold State.renewLine
  exact .setTxActive (.loadCal (.loadCal (.snapTxTrims (.snapRxTrims (.ite (.loadCal (.loadCal (.putFlag (.putFlag
      (.putFlag h))))) (.putFlag (.putFlag (.putFlag h))))))))

theorem State.Wf.configLine {old k renew} (h : s.Wf) : (s.configLine old k renew).Wf := by
  unfold State.configLine
  extract_lets
  split
  · exact h
  · exact .via (.ite (.turnIsland h) h) fun h2 => .via (.put (.put (.put (.put (.configOptions (.ite (.renewLine
      (.putFlag (.putFlag (.ite (.retune h2) h2)))) (.putFlag (.putFlag (.ite (.retune h2) h2))))))))) fun h1 =>
      .refreshLine (.ite (.wakeLineTx (.ite (.wakeLineRx h1) h1)) (.ite (.wakeLineRx h1) h1))

theorem State.Wf.noteLoaded {rs} (h : s.Wf) : (s.noteLoaded rs).Wf := by
  unfold State.noteLoaded
  split
  · exact .setTxn h
  · exact h

theorem State.Wf.configRacks {old k renew} (h : s.Wf) : (s.configRacks old k renew).Wf := by
  unfold State.configRacks
  exact .via (.foldl h fun _ _ hf => .ite hf (.rackOff hf)) fun h1 => .refreshDuty (.ite (.noteLoaded (.foldl h1 fun
      _ _ hf1 => .loadRack (.rackOn hf1))) h1)

theorem State.Wf.setHost {j renew} (h : s.Wf) : (s.setHost j renew).Wf := by
  unfold State.setHost
  extract_lets
  split
  · exact h
  · refine .refreshHost (.ite ?_ (.put (.put (.put h))))
    exact .setHostLane (.foldl (.put (.put (.rxEqWrite (.txEqWrite (.putFlag (.putFlag (.putFlag (.put (.put (.put
        h)))))))))) fun _ _ hf => .put hf)

theorem State.Wf.noteLate {j renew} (h : s.Wf) : (s.noteLate j renew).Wf := by
  unfold State.noteLate
  split
  · exact .setTxn h
  · exact h

theorem State.Wf.configHost {j renew wake} (h : s.Wf) : (s.configHost j renew wake).Wf := by
  unfold State.configHost
  refine .ite h ?_
  exact .via (.ite (.wakeHostRxPort (.ite (.turnIsland h) h)) (.ite (.turnIsland h) h)) fun h1 => .ite (.noteLate
      (.ite (.wakeHostTx h1) h1)) (.setHost (.ite (.wakeHostTx h1) h1))

theorem State.Wf.configDelays (h : s.Wf) : s.configDelays.Wf := by
  unfold State.configDelays
  refine .foldl h fun _ _ h1 => .ite (.refreshTimeIsland h1) ?_
  refine .foldl (.foldl (.refreshTimeIsland h1) fun t k ht => ?_) fun _ _ h2 => .loadCal h2
  extract_lets put
  have hput : ∀ t f n, t.Wf → (put t f n).Wf := by
    intro t f n ht
    unfold put
    split
    · exact .setReg ht
    · exact ht
  exact hput _ _ _ (hput _ _ _ ht)

theorem State.Wf.configSlots {old} (h : s.Wf) : (s.configSlots old).Wf := by
  unfold State.configSlots
  exact .foldl (.foldl h fun _ _ hf => .ite (.put (.setInsl (.initRange hf))) hf) fun _ _ hf1 => .ite (.openWindow
      hf1) (.closeWindow hf1)

theorem State.Wf.configPool {old renewed} (h : s.Wf) : (s.configPool old renewed).Wf := by
  unfold State.configPool
  exact .foldl (.foldl h fun _ _ hf => .releasePort hf) fun _ _ hf1 => .allocPort hf1

theorem State.Wf.applyBegin {t} (h : s.Wf) : (s.applyBegin t).Wf := by
  unfold State.applyBegin
  exact .refreshSlots (.foldl (.configPool (.configDelays (.configSlots (.foldl (.foldl (.foldl (.foldl (.withMode
      (.foldl (.foldl (.withMode (.foldl (.foldl (.foldl (.setTxn h) fun _ _ hf => .endCalTx (.endCalRx hf)) fun _ _
      hf1 => .portDownStep hf1) fun _ _ hf2 => .releasePort hf2) id) fun _ _ hf3 => .ite (.lineOff (.putFlag hf3))
      hf3) fun _ _ hf4 => .ite (.hostOff hf4) hf4) id) fun _ _ hf5 => .setPort hf5) fun _ _ hf6 => .insIslandOn
      (.refreshFecIsland (.refreshThrottle hf6))) fun _ _ hf7 => .ite (.clearLocks (.setPort hf7)) hf7) fun _ _ hf8
      => .foldl (.foldl hf8 fun _ _ hf9 => .configRacks (.configLine hf9)) fun _ _ hf10 => .configHost hf10)))) fun
      _ _ hf11 => .withMode hf11 id)

theorem State.Wf.configFec {old p renew} (h : s.Wf) : (s.configFec old p renew).Wf := by
  unfold State.configFec
  extract_lets _ _ _ s1 _ _ s2
  have h2 : s1.Wf := .put (.put (.putFlag (.putFlag (.putFlag (.putFlag h)))))
  have h1 : s2.Wf := .ite (.filterCnts (.ite (.statClear (.put h2)) (.put h2))) (.ite (.statClear (.put h2)) (.put h2))
  refine .ite h1 ?_
  exact .putFlag (.ite (.withTime (.putFlag (.putFlag (.put h1))) (·.setTwoAt)) (.putFlag (.putFlag (.put h1))))

theorem State.Wf.configIns {old k renew} (h : s.Wf) : (s.configIns old k renew).Wf := by
  unfold State.configIns
  exact .via (.ite (.insDisable h) h) fun h1 => .ite (.insEnable (.put (.putFlag (.putFlag (.putFlag (.putFlag
      (.putFlag (.ite (.insFlush h1) h1)))))))) (.put (.putFlag (.putFlag (.putFlag (.putFlag (.putFlag (.ite
      (.insFlush h1) h1)))))))

theorem State.Wf.configTime {old down} (h : s.Wf) : (s.configTime old down).Wf := by
  unfold State.configTime
  exact .via (.foldl h fun _ _ hf => .ite (.rangeClear hf) hf) fun h1 => .ite (.sourceLost h1) h1

theorem State.Wf.applyEnd {t} (h : s.Wf) : (s.applyEnd t).Wf := by
  unfold State.applyEnd
  extract_lets _ _ _ s1
  have h1 : s1.Wf := .ite (.log (.withMode h id)) (.log (.log (.withMode h id)))
  split
  · exact .finish (.ite (.toPwr h1) h1)
  · exact .ite (.toPwr h1) h1

theorem State.Wf.applyFinish {t} (h : s.Wf) : (s.applyFinish t).Wf := by
  unfold State.applyFinish
  exact .applyEnd (.foldl (.foldl (.configTime (.foldl (.foldl (.foldl (.foldl h fun _ _ hf => .ite hf (.setHost
      hf)) fun _ _ hf1 => .removeVnle hf1) fun _ _ hf2 => .configFec hf2) fun _ _ hf3 => .configIns hf3)) fun _ _
      hf4 => .insIslandOff hf4) fun _ _ hf5 => .ite hf5 (.ite (.portRest hf5) hf5))

theorem State.Wf.startApply {t w} (h : s.Wf) : (s.startApply t w).Wf := by
  unfold State.startApply
  exact .applyBegin h

theorem State.Wf.cmdModeApply {p w} (h : s.Wf) : (Machine.cmdModeApply p w s).2.Wf := by
  unfold Machine.cmdModeApply
  refine .inTxn h fun _ _ hf => ?_
  exact .iteSnd hf (.iteSnd hf (.iteSnd hf (.iteSnd (.snd (.rejected hf)) (.snd (.startApply hf)))))

theorem State.Wf.execModeApplyComplete (h : s.Wf) : NextWf (Machine.execModeApplyComplete s) := by
  unfold Machine.execModeApplyComplete
  refine .next ?_
  split
  · exact .ite (.applyFinish h) h
  · exact h

theorem State.Wf.applyResetImage (h : s.Wf) : s.applyResetImage.Wf := by
  unfold State.applyResetImage
  extract_lets
  split
  · exact .applyFinish (.startApply h)
  · exact .startApply h

theorem State.Wf.expireTxn {reason} (h : s.Wf) : (s.expireTxn reason).Wf := by
  unfold State.expireTxn
  split
  · exact .ite h (.log (.withMode h id))
  · exact h

theorem State.Wf.execModeTxnExpired (h : s.Wf) : NextWf (Machine.execModeTxnExpired s) := by
  unfold Machine.execModeTxnExpired
  refine .next ?_
  split
  · exact .ite (.expireTxn h) h
  · exact h

/-! ## Dacs -/

theorem State.Wf.refreshDac {n} (h : s.Wf) : (s.refreshDac n).Wf := by
  unfold State.refreshDac
  exact .put (.putFlag (.putFlag (.put h)))

theorem State.Wf.refreshDacs {ns} (h : s.Wf) : (s.refreshDacs ns).Wf := by
  unfold State.refreshDacs
  exact .foldl h fun _ _ hf => .refreshDac hf

theorem State.Wf.loadChannel {n} (h : s.Wf) : (s.loadChannel n).Wf := by
  unfold State.loadChannel
  exact .refreshDac (.ite (.putFlag (.withOpt (.put h) id)) (.withOpt (.put h) id))

theorem State.Wf.strobe {g} (h : s.Wf) : (s.strobe g).Wf := by
  unfold State.strobe
  exact .foldl h fun _ _ hf => .loadChannel hf

theorem State.Wf.stageCode {n code} (h : s.Wf) : (s.stageCode n code).Wf := by
  unfold State.stageCode
  exact .ite (.loadChannel (.put h)) (.put h)

theorem State.Wf.clampChannel {n} (h : s.Wf) : (s.clampChannel n).Wf := by
  unfold State.clampChannel
  exact .refreshDac (.putFlag h)

theorem State.Wf.disableChannel {n} (h : s.Wf) : (s.disableChannel n).Wf := by
  unfold State.disableChannel
  exact .clampChannel (.putFlag h)

theorem State.Wf.setLoopMode {l mode reason why} (h : s.Wf) : (s.setLoopMode l mode reason why).Wf := by
  unfold State.setLoopMode
  extract_lets _ _ _ _ s1
  have h1 : s1.Wf := .ite (.put (.put (.put h))) (.log (.put (.put (.put h))))
  split
  · exact .refreshDac (.ite (.raise h1) h1)
  · exact .ite (.raise h1) h1

theorem State.Wf.setLoop {l v} (h : s.Wf) : (s.setLoop l v).Wf := h.withOpt (by simp [OptSt.Shaped])

theorem State.Wf.setPens {v} (h : s.Wf) : (s.setPens v).Wf := by
  unfold State.setPens
  exact .put (.put (.put h))

theorem State.Wf.penNext (h : s.Wf) : s.penNext.Wf := by
  unfold State.penNext
  refine .ite h ?_
  split
  · exact h
  · exact .withPwr (.setPens h)

theorem State.Wf.penCancel (h : s.Wf) : s.penCancel.Wf := by
  unfold State.penCancel
  exact .withPwr h

theorem State.Wf.penDropAll (h : s.Wf) : s.penDropAll.Wf := by
  unfold State.penDropAll
  exact .penCancel (.setPens h)

theorem State.Wf.penDropOne (h : s.Wf) : s.penDropOne.Wf := by
  unfold State.penDropOne
  split
  · exact h
  · exact .ite (.withPwr (.penCancel (.setPens h))) h

theorem State.Wf.overrideLoop {l} (h : s.Wf) : (s.overrideLoop l).Wf := by
  unfold State.overrideLoop
  split
  · exact h
  · exact .ite (.setLoopMode h) h

theorem State.Wf.overrideOn (h : s.Wf) : s.overrideOn.Wf := by
  unfold State.overrideOn
  exact .log (.foldl (.refreshDacs (.putFlag (.raise (.raise (.raise h))))) fun _ _ hf => .overrideLoop hf)

theorem State.Wf.overrideOff (h : s.Wf) : s.overrideOff.Wf := by
  unfold State.overrideOff
  exact .log (.refreshDacs (.withOpt (.putFlag (.raise (.put (.put h)))) id))

/-! ## Channels -/

theorem State.Wf.setChan {c v} (h : s.Wf) : (s.setChan c v).Wf := h.withMon (by simp [MonSt.Shaped])

theorem State.Wf.refreshChan {c} (h : s.Wf) : (s.refreshChan c).Wf := by
  unfold State.refreshChan
  extract_lets
  split
  next _ _ e =>
  have h1 := State.Wf.of_pair e (by
    split
    · exact h
    · exact .free h
  )
  exact .put (.put h1)

theorem State.Wf.restartChan {c} (h : s.Wf) : (s.restartChan c).Wf := by
  unfold State.restartChan
  exact .setChan (.setWide (.raise h))

theorem State.Wf.refreshRef {c} (h : s.Wf) : (s.refreshRef c).Wf := by
  unfold State.refreshRef
  exact .ite (.setChan (.putFlag h)) (.ite (.restartChan (.putFlag h)) (.putFlag h))

theorem State.Wf.refChanged {g} (h : s.Wf) : (s.refChanged g).Wf := by
  unfold State.refChanged
  exact .foldl h fun _ _ hf => .ite (.refreshRef hf) hf

theorem State.Wf.setChanCfg {c cfg dec} (h : s.Wf) : (s.setChanCfg c cfg dec).Wf := by
  unfold State.setChanCfg
  exact .via (.setReg (.setReg h)) fun h1 => .refreshChan (.refreshRef (.ite (.ite (.restartChan h1) h1) (.setChan
      (.put (.ite (.restartChan h1) h1)))))

theorem State.Wf.chanLock {c} (h : s.Wf) : (s.chanLock c).Wf := by
  unfold State.chanLock
  exact .raise (.raise h)

theorem State.Wf.chanWrite {c cfg dec} (h : s.Wf) : (s.chanWrite c cfg dec).Wf := by
  unfold State.chanWrite
  split
  · exact .setChanCfg h
  · exact .chanLock h

theorem State.Wf.reduce {c stage x} (h : s.Wf) : (s.reduce c stage x).2.Wf := by
  unfold State.reduce
  exact .iteSnd h (.snd (.ite (.logRate (.raise (.raise h))) (.raise h)))

theorem State.Wf.bankOut {bank c} (h : s.Wf) : (s.bankOut bank c).2.Wf := by
  unfold State.bankOut
  exact .reduce (.ite h (.reduce h))

theorem State.Wf.commitDone {c fade} (h : s.Wf) : (s.commitDone c fade).Wf := by
  unfold State.commitDone
  exact .foldl (.setChan h) fun _ _ hf => .finish hf

theorem State.Wf.swapBanks {c} (h : s.Wf) : (s.swapBanks c).Wf := by
  unfold State.swapBanks
  exact .putFlag h

theorem State.Wf.chanOutput {c} (h : s.Wf) : (s.chanOutput c).2.Wf := by
  unfold State.chanOutput
  extract_lets _ s1
  have h1 : s1.Wf := .ite (.commitDone (.swapBanks (.setChan h))) h
  exact .iteSnd (.bankOut (.bankOut (.put (.ite (.commitDone h1) h1)))) (.bankOut h1)

theorem State.Wf.mixed {c phase x} (h : s.Wf) : (s.mixed c phase x).2.Wf := by
  unfold State.mixed
  exact .iteSnd (.reduce h) h

theorem State.Wf.feedChan {c t m sine x} (h : s.Wf) : (s.feedChan c t m sine x).Wf := by
  unfold State.feedChan
  refine .ite h ?_
  split
  next _ _ e1 =>
  have h2 := State.Wf.of_pair e1 (.mixed h)
  refine .ite ?_ (.setChan h2)
  extract_lets
  split
  next _ _ e =>
  have h1 := State.Wf.of_pair e (.reduce (.setChan h2))
  exact .ite (.setChan (.chanOutput (.setChan h1))) (.setChan h1)

theorem State.Wf.publish {c} (h : s.Wf) : (s.publish c).Wf := by
  unfold State.publish
  split
  · exact h
  · exact .ite (.setWide (.put (.setChan h))) h

theorem State.Wf.fadeEnd {c} (h : s.Wf) : (s.fadeEnd c).Wf := by
  unfold State.fadeEnd
  exact .ite (.raise (.swapBanks (.put (.put h)))) h

theorem State.Wf.bankCommit {c} (h : s.Wf) : (s.bankCommit c).2.Wf := by
  unfold State.bankCommit
  refine .iteSnd (.snd (.chanLock h)) (.iteSnd (.snd (.swapBanks h)) ?_)
  exact .iteSnd (.snd (.put (.raise h))) (.snd (.setChan h))

theorem State.Wf.tapWrite {bank i data} (h : s.Wf) : (s.tapWrite bank i data).Wf := by
  unfold State.tapWrite
  exact .ite (.setReg h) (.chanLock h)

/-! ## Optics -/

theorem State.Wf.loopLock {l} (h : s.Wf) : (s.loopLock l).Wf := by
  unfold State.loopLock
  exact .raise (.raise h)

theorem State.Wf.reclampRamp {l} (h : s.Wf) : (s.reclampRamp l).Wf := by
  unfold State.reclampRamp
  exact .put h

theorem State.Wf.refreshRamping {l} (h : s.Wf) : (s.refreshRamping l).Wf := by
  unfold State.refreshRamping
  exact .putFlag h

theorem State.Wf.loopRegWrite {r l data} (h : s.Wf) : (s.loopRegWrite r l data).Wf := by
  unfold State.loopRegWrite
  refine .ite ?_ (.loopLock h)
  exact .ite (.refreshRamping (.reclampRamp (.ite (.setReg h) (.loopLock (.setReg h))))) (.ite (.setReg h)
      (.loopLock (.setReg h)))

theorem State.Wf.writeTarget {l x} (h : s.Wf) : (s.writeTarget l x).Wf := by
  unfold State.writeTarget
  exact .refreshRamping (.ite (.put h) (.raise (.put h)))

theorem State.Wf.requestMode {l q} (h : s.Wf) : (s.requestMode l q).Wf := by
  unfold State.requestMode
  exact .setLoop h

theorem State.Wf.applyChannelCfg {n v} (h : s.Wf) : (s.applyChannelCfg n v).Wf := by
  unfold State.applyChannelCfg
  extract_lets _ _ s1
  have h1 : s1.Wf := .ite (.refreshDac (.ite (.putFlag (.setReg h)) (.setReg h))) (.clampChannel (.ite (.putFlag
      (.setReg h)) (.setReg h)))
  split
  · exact .ite (.overrideLoop h1) h1
  · exact h1

theorem State.Wf.channelCfgWrite {n data} (h : s.Wf) : (s.channelCfgWrite n data).Wf := by
  unfold State.channelCfgWrite
  exact .ite (.raise (.raise (.applyChannelCfg h))) (.applyChannelCfg h)

theorem State.Wf.channelCodeWrite {n data} (h : s.Wf) : (s.channelCodeWrite n data).Wf := by
  unfold State.channelCodeWrite
  exact .ite (.raise (.raise h)) (.stageCode h)

theorem State.Wf.softStrobe {mask} (h : s.Wf) : (s.softStrobe mask).Wf := by
  unfold State.softStrobe
  exact .foldl h fun _ _ hf => .ite (.strobe hf) hf

theorem State.Wf.penWrite {data} (h : s.Wf) : (s.penWrite data).Wf := by
  unfold State.penWrite
  exact .penNext (.penDropOne (.setReg h))

/-- A new record of a generator. -/
theorem State.Wf.setSines {g v} (h : s.Wf) : State.Wf { s with opt := { s.opt with sines := s.opt.sines.set g v } } :=
  h.withOpt (by simp [OptSt.Shaped])

theorem State.Wf.setSine {g v} (h : s.Wf) : (s.setSine g v).Wf := by
  unfold State.setSine
  exact .ite (.put (.putFlag (.setSines h))) (.refChanged (.put (.putFlag (.setSines h))))

theorem State.Wf.opticsOff (h : s.Wf) : s.opticsOff.Wf := by
  unfold State.opticsOff
  exact .foldl (.foldl (.foldl h fun _ _ hf => .ite hf (.setLoopMode hf)) fun _ _ hf1 => .disableChannel hf1) fun _
      _ hf2 => .setSine (.put hf2)

theorem State.Wf.reportClip {n} (h : s.Wf) : (s.reportClip n).Wf := by
  unfold State.reportClip
  exact .ite (.logRate (.ite h (.raise (.raise h)))) h

theorem State.Wf.setInteg {l x} (h : s.Wf) : (s.setInteg l x).Wf := by
  unfold State.setInteg
  exact .setWide h

theorem State.Wf.satFlag {f l on} (h : s.Wf) : (s.satFlag f l on).Wf := by
  unfold State.satFlag
  exact .ite (.logRate (.raise (.raise h))) h

theorem State.Wf.loadResult {l c sat} (h : s.Wf) : (s.loadResult l c sat).Wf := by
  unfold State.loadResult
  extract_lets
  split
  · exact .stageCode (.put (.put (.setLoop (.satFlag (.satFlag (.satFlag h))))))
  · exact .put (.put (.setLoop (.satFlag (.satFlag (.satFlag h)))))

theorem State.Wf.computeLoop {l} (h : s.Wf) : (s.computeLoop l).Wf := by
  unfold State.computeLoop
  exact .loadResult (.setLoop (.setInteg (.put h)))

theorem State.Wf.rampStep {l} (h : s.Wf) : (s.rampStep l).Wf := by
  unfold State.rampStep
  exact .refreshRamping (.put h)

theorem State.Wf.enterAuto {l n why} (h : s.Wf) : (s.enterAuto l n why).Wf := by
  unfold State.enterAuto
  exact .loadResult (.setLoopMode (.put (.setLoop (.setInteg (.put (.refreshRamping (.ite (.put h) h)))))))

theorem State.Wf.applyRequest {l fails q} (h : s.Wf) : (s.applyRequest l fails q).2.Wf := by
  unfold State.applyRequest
  extract_lets
  split
  · exact .snd (.setLoopMode h)
  · exact .iteSnd h (.iteSnd h (.snd (.setLoopMode h)))
  · split
    · exact h
    · exact .iteSnd h (.snd (.setLoopMode (.put h)))
  · refine .iteSnd h (.iteSnd h ?_)
    split
    · exact h
    · exact .iteSnd h (.iteSnd h (.iteSnd h (.snd (.enterAuto h))))

theorem State.Wf.applyRequests {l fails qs} (h : s.Wf) : (s.applyRequests l fails qs).Wf := by
  induction qs generalizing s with
  | nil => exact h
  | cons q qs ih =>
    rw [State.applyRequests]
    refine ih ?_
    split
    · exact .applyRequest h
    · exact .finish (.applyRequest h)

theorem State.Wf.tripLoop {l fails} (h : s.Wf) : (s.tripLoop l fails).Wf := by
  unfold State.tripLoop
  extract_lets _ s1
  have h2 : s1.Wf := by
    unfold s1
    split
    · exact .ite (.refreshDac (.put (.withOpt (.put (.put h)) id))) h
    · exact h
  exact .via (.ite (.raise (.raise (.setLoopMode h2))) (.raise (.setLoopMode h2))) fun h1 => .log (.raise (.ite
      (.raise (.ite (.raise h1) h1)) (.ite (.raise h1) h1)))

theorem State.Wf.tickStrobes {l} (h : s.Wf) : (s.tickStrobes l).Wf := by
  unfold State.tickStrobes
  exact .ite (.foldl h fun _ _ hf => .ite (.strobe hf) hf) h

theorem State.Wf.serveTick (h : s.Wf) : s.serveTick.Wf := by
  unfold State.serveTick
  exact .withOpt h id

theorem State.Wf.arrive {l} (h : s.Wf) : (s.arrive l).Wf := by
  unfold State.arrive
  exact .ite (.publish (.publish h)) (.publish h)

theorem State.Wf.loopTick {l} (h : s.Wf) : (s.loopTick l).Wf := by
  unfold State.loopTick
  extract_lets _ _ _ _ _ _ _ _ _ _ _ _ _ _ s1
  have h1 : s1.Wf := .applyRequests (.setLoop (.ite (.tripLoop (.putFlag (.put (.serveTick (.setLoop (.put (.put
      (.arrive h)))))))) (.putFlag (.put (.serveTick (.setLoop (.put (.put (.arrive h)))))))))
  refine .tickStrobes (.ite (.computeLoop (.rampStep h1)) (.ite ?_ h1))
  extract_lets
  split
  · exact .stageCode (.put h1)
  · exact .put h1

theorem State.Wf.cmdLoopCfg {p x} (h : s.Wf) : (Machine.cmdLoopCfg p x s).2.Wf := by
  unfold Machine.cmdLoopCfg
  exact .iteSnd h (.iteSnd h (.iteSnd h (.iteSnd h (.snd (.put (.put (.setReg (.setReg h))))))))

theorem State.Wf.cmdLoopGains {p x} (h : s.Wf) : (Machine.cmdLoopGains p x s).2.Wf := by
  unfold Machine.cmdLoopGains
  refine .iteSnd h ?_
  split
  · exact .iteSnd h (.snd (.put (.put (.put (.put (.put (.put (.put (.put h)))))))))
  · exact h

theorem State.Wf.cmdLoopLimits {p x} (h : s.Wf) : (Machine.cmdLoopLimits p x s).2.Wf := by
  unfold Machine.cmdLoopLimits
  refine .iteSnd h ?_
  split
  · exact .iteSnd h (.snd (.refreshRamping (.reclampRamp (.put (.put (.put (.put (.setReg h))))))))
  · exact h

theorem State.Wf.cmdSetMode {p t} (h : s.Wf) : (Machine.cmdSetMode p t s).2.Wf := by
  unfold Machine.cmdSetMode
  exact .iteSnd h (.snd (.requestMode h))

theorem State.Wf.cmdSetSp {p x} (h : s.Wf) : (Machine.cmdSetSp p x s).2.Wf := by
  unfold Machine.cmdSetSp
  refine .iteSnd h ?_
  split
  · exact h
  · exact .snd (.writeTarget h)

theorem State.Wf.cmdTgtStatus {p x} (h : s.Wf) : (Machine.cmdTgtStatus p x s).2.Wf := by
  unfold Machine.cmdTgtStatus
  exact .iteSnd h h

theorem State.Wf.cmdClearFlags {p x} (h : s.Wf) : (Machine.cmdClearFlags p x s).2.Wf := by
  unfold Machine.cmdClearFlags
  exact .iteSnd h (.snd (.setReg h))

theorem State.Wf.cmdCdacCfg {p x} (h : s.Wf) : (Machine.cmdCdacCfg p x s).2.Wf := by
  unfold Machine.cmdCdacCfg
  exact .iteSnd h (.iteSnd h (.iteSnd h (.iteSnd h (.snd (.applyChannelCfg (.setReg (.put h)))))))

theorem State.Wf.cmdSetCode {p x} (h : s.Wf) : (Machine.cmdSetCode p x s).2.Wf := by
  unfold Machine.cmdSetCode
  exact .iteSnd h (.iteSnd h (.snd (.stageCode h)))

theorem State.Wf.cmdGroup {p x} (h : s.Wf) : (Machine.cmdGroup p x s).2.Wf := by
  unfold Machine.cmdGroup
  exact .iteSnd h (.snd (.setReg h))

theorem State.Wf.cmdStrobe {p x} (h : s.Wf) : (Machine.cmdStrobe p x s).2.Wf := by
  unfold Machine.cmdStrobe
  exact .iteSnd h (.snd (.softStrobe h))

theorem State.Wf.cmdSineCfg {p x} (h : s.Wf) : (Machine.cmdSineCfg p x s).2.Wf := by
  unfold Machine.cmdSineCfg
  exact .iteSnd h (.snd (.put (.setReg (.put h))))

theorem State.Wf.cmdPenSet {p x} (h : s.Wf) : (Machine.cmdPenSet p x s).2.Wf := by
  unfold Machine.cmdPenSet
  exact .iteSnd h (.snd (.penWrite h))

theorem State.Wf.cmdCdacStatus {p x} (h : s.Wf) : (Machine.cmdCdacStatus p x s).2.Wf := by
  unfold Machine.cmdCdacStatus
  exact .iteSnd h h

theorem State.Wf.execDitherSample (h : s.Wf) : NextWf (Machine.execDitherSample s) := by
  unfold Machine.execDitherSample
  refine .next (.ite ?_ h)
  exact .foldl (.foldl (.withOpt h id) fun _ _ hf => .setSine hf) fun _ _ hf1 => .refreshDac (.reportClip hf1)

/-! ## Faults -/

theorem State.Wf.avsStop (h : s.Wf) : s.avsStop.Wf := by
  unfold State.avsStop
  exact .put h

theorem State.Wf.lowDone (h : s.Wf) : s.lowDone.Wf := by
  unfold State.lowDone
  split
  · exact .finish (.withPwr h)
  · exact h

theorem State.Wf.enterFault {reason info own} (h : s.Wf) : (s.enterFault reason info own).Wf := by
  unfold State.enterFault
  refine .ite ?_ ?_
  · split
    · exact .log h
    · exact h
  · refine .lowDone ?_
    split
    · exact .emergency (.emergency (.putBit (.putBit (.raise (.avsStop (.withPwr (.withPwr (.penDropAll
        (.refreshDacs (.refreshHosts (.refreshLines (.setReg (.toPwr h)))))))))))))
    · exact .emergency (.putBit (.putBit (.raise (.avsStop (.withPwr (.withPwr (.penDropAll (.refreshDacs
        (.refreshHosts (.refreshLines (.setReg (.toPwr h))))))))))))

theorem State.Wf.timeOff {d} (h : s.Wf) : (s.timeOff d).Wf := by
  unfold State.timeOff
  refine .ite ?_ h
  exact .withTime (.foldl (.wipe (.setClock (.loseBuried (.turnIsland h)))) fun _ _ hf => .wipe hf) (·.dropDie)

theorem State.Wf.insoleOff {d} (h : s.Wf) : (s.insoleOff d).Wf := by
  unfold State.insoleOff
  refine .ite ?_ h
  exact .dropRange (.foldl (.wipe (.turnIsland h)) fun _ _ hf => .setInsl (.wipe hf))

theorem State.Wf.fecOff {d} (h : s.Wf) : (s.fecOff d).Wf := by
  unfold State.fecOff
  refine .ite ?_ h
  exact .loseBuried (.dropRange (.foldl (.wipe (.turnIsland h)) fun _ _ hf => .setFec (.wipe hf)))

theorem State.Wf.coreIslandsOff (h : s.Wf) : s.coreIslandsOff.Wf := by
  unfold State.coreIslandsOff
  exact .foldl (.foldl (.foldl (.foldl h fun _ _ hf => .ite hf (.lineOff hf)) fun _ _ hf1 => .ite hf1 (.hostOff
      hf1)) fun _ _ hf2 => .ite hf2 (.rackOff hf2)) fun _ _ hf3 => .timeOff (.insoleOff (.fecOff hf3))

theorem State.Wf.recoverPort {p reason} (h : s.Wf) : (s.recoverPort p reason).Wf := by
  unfold State.recoverPort
  exact .ite (.refreshLines (.portRest h)) h

theorem State.Wf.dropPort {p reason} (h : s.Wf) : (s.dropPort p reason).Wf := by
  unfold State.dropPort
  exact .ite (.portTo h) (.ite (.refreshLines h) h)

theorem State.Wf.fastoffOn (h : s.Wf) : s.fastoffOn.Wf := by
  unfold State.fastoffOn
  exact .log (.inc (.foldl (.refreshLines (.penDropAll (.overrideOn (.raise (.raise h))))) fun _ _ hf => .dropPort
      hf))

theorem State.Wf.execFastoffRelease (h : s.Wf) : NextWf (Machine.execFastoffRelease s) := by
  unfold Machine.execFastoffRelease
  refine .next (.ite (.ite (.put h) ?_) h)
  exact .foldl (.refreshLines (.penNext (.overrideOff (.log (.raise (.put h)))))) fun _ _ hf => .recoverPort hf

/-! ## Clocks -/

theorem State.Wf.setArmed {d b v} (h : s.Wf) : (s.setArmed d b v).Wf := by
  unfold State.setArmed
  exact .withPllArmed h

theorem State.Wf.stopPll {d b} (h : s.Wf) : (s.stopPll d b).Wf := by
  unfold State.stopPll
  exact .setArmed (.putBit h)

theorem State.Wf.mclkGone (h : s.Wf) : s.mclkGone.Wf := by
  unfold State.mclkGone
  exact .foldl h fun _ _ hf => .ite (.setIsland hf) hf

theorem State.Wf.mclkBack (h : s.Wf) : s.mclkBack.Wf := by
  unfold State.mclkBack
  exact .foldl h fun _ _ hf => .ite (.turnIsland hf) hf

theorem State.Wf.lockPll {d b} (h : s.Wf) : (s.lockPll d b).Wf := by
  unfold State.lockPll
  refine .ite h ?_
  extract_lets _ s1
  have h1 : s1.Wf := .setArmed (.putBit h)
  refine .ite (.ite (.mclkBack h1) h1) (.ite (.ite (.tpllLocked h1) h1) ?_)
  refine .ite (.foldl h1 fun _ _ hf => .toNewest hf) ?_
  refine .ite ?_ ?_
  · exact .ite (.foldl (.refreshHosts h1) fun _ _ hf1 => .recoverPort hf1) (.refreshHosts h1)
  · refine .ite ?_ h1
    extract_lets
    split
    · exact .recoverPort (.refreshLine (.endSeq h1))
    · exact .refreshLine (.endSeq h1)

theorem State.Wf.setLink {l v} (h : s.Wf) : (s.setLink l v).Wf :=
  ⟨h.inv.1, by simpa [State.setLink, State.Shaped] using h.inv.2⟩

theorem State.Wf.setLinkState {l st} (h : s.Wf) : (s.setLinkState l st).Wf := by
  unfold State.setLinkState
  exact .foldl h fun _ _ hf => .put hf

theorem State.Wf.retrain {l} (h : s.Wf) : (s.retrain l).Wf := by
  unfold State.retrain
  exact .setLink (.setLinkState h)

theorem State.Wf.linkFailed {l} (h : s.Wf) : (s.linkFailed l).Wf := by
  unfold State.linkFailed
  refine .ite ?_ (.enterFault (.setLink (.setLinkState h)))
  exact .alignLost (.foldl (.foldl (.log (.raise (.raise (.setLink (.setLinkState h))))) fun _ _ hf => .dropPort hf)
      fun _ _ hf1 => .foldl hf1 fun _ _ hf2 => .amLostHost hf2)

theorem State.Wf.linkUp {l} (h : s.Wf) : (s.linkUp l).Wf := by
  unfold State.linkUp
  exact .via (.ite (.foldl (.setLink (.setLinkState h)) fun _ _ hf => .raise hf) (.setLink (.setLinkState h))) fun
      h1 => .ite (.foldl h1 fun _ _ hf1 => .recoverPort hf1) h1

theorem State.Wf.linkAttemptFailed {l} (h : s.Wf) : (s.linkAttemptFailed l).Wf := by
  unfold State.linkAttemptFailed
  exact .ite h (.ite (.linkFailed h) (.setLink h))

theorem State.Wf.trainCore {fromFailed} (h : s.Wf) : (s.trainCore fromFailed).Wf := by
  unfold State.trainCore
  exact .setLink (.setLinkState h)

theorem State.Wf.weltRetrain {d n} (h : s.Wf) : (s.weltRetrain d n).Wf := by
  unfold State.weltRetrain
  extract_lets
  split
  · exact .setLink h
  · exact .retrain h
  · exact .retrain h
  · exact .ite (.trainCore h) h
  · exact h

theorem State.Wf.weltAbEn {d en} (h : s.Wf) : (s.weltAbEn d en).Wf := by
  unfold State.weltAbEn
  refine .ite (.ite (.trainCore (.putFlag h)) (.putFlag h)) (.ite (.putFlag h) ?_)
  exact .foldl (.setLinkState (.putFlag h)) fun _ _ hf => .foldl hf fun _ _ hf1 => .amLostHost hf1

theorem State.Wf.setWay {l toMgmt c} (h : s.Wf) : (s.setWay l toMgmt c).Wf := by
  unfold State.setWay
  exact .setLink h

theorem State.Wf.setChannel {p c} (h : s.Wf) : (s.setChannel p c).Wf := by
  unfold State.setChannel
  split
  · exact .setWay h
  · obtain ⟨⟨hr, hc, hw, hi, hd, hm⟩, hsh⟩ := h
    exact ⟨⟨hr, hc, hw, hi, canonical_writeAt natLt_trans natLt_total (d := fun _ => ({} : Channel)) hd _ _, hm⟩, hsh⟩

theorem State.Wf.countFlit {p w} (h : s.Wf) : (s.countFlit p w).Wf := by
  unfold State.countFlit
  split
  · exact .foldl h fun _ _ hf => .inc hf
  · exact h

theorem State.Wf.execFlitReceive {path data flips} (h : s.Wf) : NextWf (Machine.execFlitReceive path data flips s)
    := by
  unfold Machine.execFlitReceive
  refine .next (.ite h ?_)
  split <;> exact .ite h (.countFlit (.setChannel h))

theorem State.Wf.execReplayRequest {link toMgmt flit} (h : s.Wf) : NextWf (Machine.execReplayRequest link toMgmt
    flit s) := by
  unfold Machine.execReplayRequest
  exact .next (.ite (.ite (.foldl (.setLink (.setWay h)) fun _ _ hf => .inc hf) (.setWay h)) h)

theorem State.Wf.lpllLost {k} (h : s.Wf) : (s.lpllLost k).Wf := by
  unfold State.lpllLost
  refine .startSeq (.insDown (.amLostLine (.innerLost (.cdrLostLine (.refreshLine ?_)))))
  split
  · exact .dropPort h
  · exact h

theorem State.Wf.hpllLost {d} (h : s.Wf) : (s.hpllLost d).Wf := by
  unfold State.hpllLost
  exact .foldl (.foldl (.refreshHosts (.foldl h fun _ _ hf => .dropPort hf)) fun _ _ hf1 => .amLostHost
      (.cdrLostHost hf1)) fun _ _ hf2 => .refreshAlign (.put (.put hf2))

theorem State.Wf.retrainIfUp {l} (h : s.Wf) : (s.retrainIfUp l).Wf := by
  unfold State.retrainIfUp
  exact .ite (.retrain h) h

theorem State.Wf.pllLost {d b} (h : s.Wf) : (s.pllLost d b).Wf := by
  unfold State.pllLost
  refine .ite (.mclkGone (.enterFault (.putBit (.putBit h)))) ?_
  extract_lets s1
  have h1 : s1.Wf := .log (.putBit (.putBit h))
  refine .ite (.retrainIfUp (.retrainIfUp h1)) (.ite (.ite (.tpllLost h1) h1) (.ite (.hpllLost h1) ?_))
  exact .ite (.retrainIfUp (.retrainIfUp h1)) (.ite (.lpllLost h1) h1)

theorem State.Wf.setRefclk {v} (h : s.Wf) : (s.setRefclk v).Wf := by
  unfold State.setRefclk
  exact .foldl h fun _ _ hf => .putBit hf

theorem State.Wf.refclkNever (h : s.Wf) : s.refclkNever.Wf := by
  unfold State.refclkNever
  exact .enterFault (.endSeq h)

/-! ## Monitor -/

theorem State.Wf.setMonIn {i v} (h : s.Wf) : (s.setMonIn i v).Wf := h.withMon (by simp [MonSt.Shaped])

theorem State.Wf.monInWrite {r i data} (h : s.Wf) : (s.monInWrite r i data).Wf := by
  unfold State.monInWrite
  exact .ite (.raise h) (.setReg h)

theorem State.Wf.refreshOd (h : s.Wf) : s.refreshOd.Wf := by
  unfold State.refreshOd
  exact .put h

theorem State.Wf.odAccept {m input w} (h : s.Wf) : (s.odAccept m input w).Wf := by
  unfold State.odAccept
  exact .refreshOd (.withMon (.setWide h) id)

theorem State.Wf.odWrite {m data} (h : s.Wf) : (s.odWrite m data).Wf := by
  unfold State.odWrite
  exact .ite (.raise (.putBit h)) (.ite (.odAccept h) (.putBit h))

theorem State.Wf.odDone {q code} (h : s.Wf) : (s.odDone q code).Wf := by
  unfold State.odDone
  extract_lets
  split
  · exact .finish (.setWide h)
  · exact .setWide h

theorem State.Wf.odStop (h : s.Wf) : s.odStop.Wf := by
  unfold State.odStop
  refine .foldl (.refreshOd (.withMon h id)) fun _ _ hf => ?_
  split
  · exact .finish hf
  · exact hf

theorem State.Wf.setRun {run} (h : s.Wf) : (s.setRun run).Wf := by
  unfold State.setRun
  extract_lets _ s1
  have h1 : s1.Wf := .putFlag h
  refine .ite (.ite h1 (.withMon (.put (.raise h1)) id)) (.ite ?_ h1)
  extract_lets
  split
  · exact .finish (.put (.withMon (.odStop h1) id))
  · exact .odStop h1

theorem State.Wf.slotCommit {w} (h : s.Wf) : (s.slotCommit w).2.Wf := by
  unfold State.slotCommit
  extract_lets
  split
  · exact .snd (.raise h)
  · exact .snd (.raise (.withMon h id))

theorem State.Wf.calReject {k reason p2} (h : s.Wf) : (s.calReject k reason p2).Wf := by
  unfold State.calReject
  exact .finish (.log (.raise (.setReg (.put (.withMon h id)))))

theorem State.Wf.tableApply (h : s.Wf) : s.tableApply.Wf := by
  unfold State.tableApply
  split
  · exact h
  · refine .ite h ?_
    extract_lets _ _ _ _ _ _ s4 s5
    have h4 : s4.Wf := .foldl (.raise (.put (.withMon (.foldl h fun _ _ hf => .setReg hf) fun hx => hx)))
      fun _ _ hf => .ite hf (.refreshChan (.ite (.restartChan hf) hf))
    have h5 : s5.Wf := by
      unfold s5
      split
      · exact .ite h4 (.calReject (.free h4))
      · exact h4
    exact .foldl h5 fun _ _ hf => .finish hf

theorem State.Wf.setChkCode {code} (h : s.Wf) : (s.setChkCode code).Wf := by
  unfold State.setChkCode
  exact .withMon (.put h) id

theorem State.Wf.diagBegin {i w} (h : s.Wf) : (s.diagBegin i w).Wf := by
  unfold State.diagBegin
  exact .withMon (.put (.raise h)) id

theorem State.Wf.chkWrite {data} (h : s.Wf) : (s.chkWrite data).Wf := by
  unfold State.chkWrite
  exact .via (.setChkCode h) fun h1 => .ite (.ite h1 (.raise h1)) (.ite (.diagBegin h1) (.put h1))

theorem State.Wf.chkFaulted (h : s.Wf) : s.chkFaulted.Wf := by
  unfold State.chkFaulted
  exact .ite (.log (.inc (.raise (.raise h)))) h

theorem State.Wf.chkPassed (h : s.Wf) : s.chkPassed.Wf := by
  unfold State.chkPassed
  exact .ite (.log (.raise (.put h))) h

theorem State.Wf.chkCompare {code} (h : s.Wf) : (s.chkCompare code).Wf := by
  unfold State.chkCompare
  exact .via (.put (.chkPassed (.chkFaulted h))) fun h1 =>
    .ite h1 (.ite (.withMon (.put h1) id) (.withMon (.put h1) id))

theorem State.Wf.feed {i t x} (h : s.Wf) : (s.feed i t x).Wf := by
  unfold State.feed
  exact .foldl h fun _ _ hf => .ite (.feedChan hf) hf

theorem State.Wf.repeatSample {i t} (h : s.Wf) : (s.repeatSample i t).Wf := by
  unfold State.repeatSample
  extract_lets
  split
  · exact .feed (.inc h)
  · exact .feed (.free (.inc h))

theorem State.Wf.diagTake {d code} (h : s.Wf) : (s.diagTake d code).Wf := by
  unfold State.diagTake
  extract_lets xs _ _ _ s1
  have h1 : s1.Wf := .ite (.ite (.withMon h.raise fun hx => hx) (.withMon h.free.raise fun hx => hx)) h
  split
  · exact .withMon h1 fun hx => hx
  · exact h1

theorem State.Wf.calTake {i t code} (h : s.Wf) : (s.calTake i t code).Wf := by
  unfold State.calTake
  split
  · exact .ite (.withMon h id) h
  · exact h

theorem State.Wf.convert {i t code} (h : s.Wf) : (s.convert i t code).Wf := by
  unfold State.convert
  exact .feed (.ite (.chkCompare (.calTake (.setMonIn (.setReg h)))) (.calTake (.setMonIn (.setReg h))))

theorem State.Wf.conversionEnd {t code} (h : s.Wf) : (s.conversionEnd t code).Wf := by
  unfold State.conversionEnd
  extract_lets
  split
  · extract_lets s1
    have h1 : s1.Wf := .refreshOd (.odDone (.withMon h fun hx => hx))
    exact .ite h1.repeatSample h1.inc
  · refine .ite h.chkCompare ?_
    split
    · exact .ite h.diagTake.repeatSample h.convert
    · exact h.convert

theorem State.Wf.conversionStart (h : s.Wf) : s.conversionStart.Wf := by
  unfold State.conversionStart
  extract_lets
  split
  · exact .withMon (.put h) id
  · exact .put h

theorem State.Wf.calDone {k} (h : s.Wf) : (s.calDone k).Wf := by
  unfold State.calDone
  extract_lets
  split
  · exact .ite (.calReject h) (.ite (.calReject h) (.finish (.raise (.put (.put (.withMon h id))))))
  · refine .ite (.calReject h) (.ite (.calReject h) (.ite (.calReject h) ?_))
    exact .ite (.finish (.put (.withMon h id))) (.finish (.log (.raise (.setReg (.put (.put (.put (.withMon h
        id))))))))

theorem State.Wf.calStart {i target t} (h : s.Wf) : (s.calStart i target t).2.Wf := by
  unfold State.calStart
  exact .iteSnd h (.iteSnd h (.iteSnd h (.iteSnd h (.snd (.raise (.withMon h id))))))

theorem State.Wf.cmdMonSlotSet {p x} (h : s.Wf) : (Machine.cmdMonSlotSet p x s).2.Wf := by
  unfold Machine.cmdMonSlotSet
  exact .iteSnd h (.snd (.foldl h fun _ _ hf => .setReg hf))

theorem State.Wf.cmdMonSlotCommit {p t} (h : s.Wf) : (Machine.cmdMonSlotCommit p t s).2.Wf := by
  unfold Machine.cmdMonSlotCommit
  refine .iteSnd h ?_
  split
  · next _ _ e =>
    have h1 := State.Wf.of_pair e (.slotCommit h)
    exact .snd h1
  · next _ e1 =>
    have h2 := State.Wf.of_pair e1 (.slotCommit h)
    exact .snd h2

theorem State.Wf.cmdMonChCfg {p x} (h : s.Wf) : (Machine.cmdMonChCfg p x s).2.Wf := by
  unfold Machine.cmdMonChCfg
  refine .iteSnd h ?_
  extract_lets
  split
  · exact h
  · exact .snd (.put (.setChanCfg h))

theorem State.Wf.cmdMonFirSet {p x} (h : s.Wf) : (Machine.cmdMonFirSet p x s).2.Wf := by
  unfold Machine.cmdMonFirSet
  exact .iteSnd h (.iteSnd h (.snd (.foldl h fun _ _ hf => .setReg hf)))

theorem State.Wf.cmdMonFirCommit {p t} (h : s.Wf) : (Machine.cmdMonFirCommit p t s).2.Wf := by
  unfold Machine.cmdMonFirCommit
  refine .iteSnd h ?_
  split
  · next _ e =>
    have h1 := State.Wf.of_pair e (.bankCommit h)
    exact .snd h1
  · next _ e1 =>
    have h2 := State.Wf.of_pair e1 (.bankCommit h)
    exact .snd h2
  · next _ e2 =>
    have h3 := State.Wf.of_pair e2 (.bankCommit h)
    exact .snd (.setChan h3)

theorem State.Wf.cmdMonConvert {p t} (h : s.Wf) : (Machine.cmdMonConvert p t s).2.Wf := by
  unfold Machine.cmdMonConvert
  exact .iteSnd h (.iteSnd h (.iteSnd h (.snd (.odAccept h))))

theorem State.Wf.cmdMonCalZero {p t} (h : s.Wf) : (Machine.cmdMonCalZero p t s).2.Wf := by
  unfold Machine.cmdMonCalZero
  exact .iteSnd h (.calStart h)

theorem State.Wf.cmdMonCalFs {p t} (h : s.Wf) : (Machine.cmdMonCalFs p t s).2.Wf := by
  unfold Machine.cmdMonCalFs
  exact .iteSnd h (.calStart h)

theorem State.Wf.cmdMonChkDiag {p t} (h : s.Wf) : (Machine.cmdMonChkDiag p t s).2.Wf := by
  unfold Machine.cmdMonChkDiag
  exact .iteSnd h (.iteSnd h (.iteSnd h (.snd (.diagBegin h))))

theorem State.Wf.cmdMonChkSet {p x} (h : s.Wf) : (Machine.cmdMonChkSet p x s).2.Wf := by
  unfold Machine.cmdMonChkSet
  exact .iteSnd h (.snd (.put (.setChkCode h)))

theorem State.Wf.cmdMonStatus {p x} (h : s.Wf) : (Machine.cmdMonStatus p x s).2.Wf := by
  unfold Machine.cmdMonStatus
  exact .iteSnd h h

theorem State.Wf.execMonConversion {raw} (h : s.Wf) : NextWf (Machine.execMonConversion raw s) := by
  unfold Machine.execMonConversion
  refine .next (.ite ?_ h)
  exact .ite (.conversionStart (.withMon (.conversionEnd h) id)) (.put (.withMon (.conversionEnd h) id))

theorem State.Wf.execDiagDone (h : s.Wf) : NextWf (Machine.execDiagDone s) := by
  unfold Machine.execDiagDone
  refine .next ?_
  split
  · refine .ite ?_ h
    extract_lets
    split
    · exact .finish (.raise (.setReg (.put (.put (.withMon h id)))))
    · exact .raise (.setReg (.put (.put (.withMon h id))))
  · exact h

theorem State.Wf.execMonCalAverageDone (h : s.Wf) : NextWf (Machine.execMonCalAverageDone s) := by
  unfold Machine.execMonCalAverageDone
  refine .next ?_
  split
  · exact .ite (.calDone h) h
  · exact h

/-! ## Power -/

theorem State.Wf.stopCorePlls (h : s.Wf) : s.stopCorePlls.Wf := by
  unfold State.stopCorePlls
  exact .foldl h fun _ _ hf => .foldl hf fun _ _ hf1 => .stopPll hf1

theorem State.Wf.powerCheck (h : s.Wf) : s.powerCheck.Wf := by
  unfold State.powerCheck
  exact .ite h (.ite (.ite (.lowDone (.stopCorePlls (.endSeq h))) h) (.ite (.startSeq h) h))

theorem State.Wf.execLowPowerEntry (h : s.Wf) : NextWf (Machine.execLowPowerEntry s) := by
  unfold Machine.execLowPowerEntry
  refine .next (.ite ?_ h)
  exact .powerCheck (.lowDone (.withPwr (.stopCorePlls (.coreIslandsOff (.penDropOne (.penCancel (.toPwr (.avsStop
      (.opticsOff (.applyResetImage (.expireTxn h)))))))))))

theorem State.Wf.avsStart (h : s.Wf) : s.avsStart.Wf := by
  unfold State.avsStart
  exact .withPwr (.setReg (.refreshDac (.putFlag (.put (.put (.setReg h))))))

theorem State.Wf.enterReady (h : s.Wf) : s.enterReady.Wf := by
  unfold State.enterReady
  exact .via (.foldl (.avsStart (.toPwr h)) fun _ _ hf => .refreshTimeIsland hf) fun h1 => .lowDone (.ite (.withPwr
      h1) h1)

theorem State.Wf.scriptCompleted {n status} (h : s.Wf) : (s.scriptCompleted n status).Wf := by
  unfold State.scriptCompleted
  exact .ite (.withPwr h) (.log (.raise (.withPwr h)))

/-- The handlers that the start-up table calls keep the invariant. -/
theorem State.Wf.scriptHandler {cls cmd p t} {f : Handler} (h : s.Wf) (e : Machine.scriptHandler cls cmd = some f) :
    (f p t s).2.Wf := by
  unfold Machine.scriptHandler at e
  split at e
  · cases e
    exact .cmdLoopCfg h
  · cases e
    exact .cmdLoopGains h
  · cases e
    exact .cmdLoopLimits h
  · cases e
    exact .cmdSetMode h
  · cases e
    exact .cmdSetSp h
  · cases e
    exact .cmdTgtStatus h
  · cases e
    exact .cmdClearFlags h
  · cases e
    exact .cmdCdacCfg h
  · cases e
    exact .cmdSetCode h
  · cases e
    exact .cmdGroup h
  · cases e
    exact .cmdStrobe h
  · cases e
    exact .cmdSineCfg h
  · cases e
    exact .cmdPenSet h
  · cases e
    exact .cmdCdacStatus h
  · cases e

theorem State.Wf.scriptStep (h : s.Wf) : s.scriptStep.Wf := by
  unfold State.scriptStep
  split
  · exact h
  · refine .ite ?_ ?_
    · split
      · exact h
      · exact .scriptCompleted (.withAqReplies h)
    · split
      · exact .withPwr h
      · split
        · exact h.scriptCompleted
        · next hf =>
          split
          · next e => exact .scriptCompleted (.of_pair e (h.scriptHandler hf))
          · next e => exact .withPwr (.of_pair e (h.scriptHandler hf))

theorem State.Wf.setSeq {num obj f} (h : s.Wf) : (s.setSeq num obj f).Wf := by
  unfold State.setSeq
  exact .withPwr h

theorem State.Wf.nextStep {num obj} (h : s.Wf) : (s.nextStep num obj).Wf := by
  unfold State.nextStep
  exact .setSeq h

theorem State.Wf.startupDone {step} (h : s.Wf) : (s.startupDone step).Wf := by
  unfold State.startupDone
  split
  · exact .nextStep h
  · exact .nextStep (.setRefclk h)
  · exact .nextStep (.lockPll h)
  · exact .nextStep (.lockPll (.lockPll (.lockPll h)))
  · exact .endSeq (.linkUp (.linkUp h))

theorem State.Wf.readyDone {step} (h : s.Wf) : (s.readyDone step).Wf := by
  unfold State.readyDone
  split
  · exact .nextStep h
  · exact .via (.foldl h fun _ _ hf => .foldl hf fun _ _ hf1 => .lockPll hf1) fun h1 => .nextStep (.ite h1
      (.trainCore h1))
  · exact .enterReady (.endSeq (.ite (.linkUp h) h))

theorem State.Wf.railDone {q} (h : s.Wf) : (s.railDone q).Wf := by
  unfold State.railDone
  exact .ite (.penNext (.endSeq (.put (.put h)))) (.ite (.setSeq (.setPens h)) h)

theorem State.Wf.lineRxDone {k step} (h : s.Wf) : (s.lineRxDone k step).Wf := by
  unfold State.lineRxDone
  split
  · exact .refreshLineIsland (.nextStep (.putFlag h))
  · exact .ite (.nextStep h) h
  · exact .ite (.endSeq h) h

theorem State.Wf.portRestarted {p toLine} (h : s.Wf) : (s.portRestarted p toLine).Wf := by
  unfold State.portRestarted
  split
  · exact .endRestart h
  · exact h

theorem State.Wf.lineTxDone {k step} (h : s.Wf) : (s.lineTxDone k step).Wf := by
  unfold State.lineTxDone
  split
  · exact .refreshLineIsland (.nextStep h)
  · exact .nextStep (.txWakePattern (.refreshLine (.refreshLineIsland (.putFlag h))))
  · exact .portRestarted (.endSeq h)

theorem State.Wf.hostRestarted {num j} (h : s.Wf) : (s.hostRestarted num j).Wf := by
  unfold State.hostRestarted
  exact .inc (.endSeq h)

theorem State.Wf.hostRxDone {j step} (h : s.Wf) : (s.hostRxDone j step).Wf := by
  unfold State.hostRxDone
  split
  · exact .refreshHostIsland (.nextStep (.raise (.putFlag h)))
  · exact .ite (.nextStep h) h
  · split
    · exact .ite (.hostRestarted h) h
    · exact .endSeq h

theorem State.Wf.hostTxDone {j step} (h : s.Wf) : (s.hostTxDone j step).Wf := by
  unfold State.hostTxDone
  split
  · exact .refreshHostIsland (.nextStep h)
  · exact .hostWakePattern (.nextStep (.refreshHost (.put (.refreshHostIsland (.raise (.putFlag h))))))
  · exact .portRestarted (.hostRestarted h)

theorem State.Wf.execRestartStepDone {seq obj} (h : s.Wf) : NextWf (Machine.execRestartStepDone seq obj s) := by
  unfold Machine.execRestartStepDone
  refine .next ?_
  extract_lets
  split
  · exact h
  · refine .ite h ?_
    split
    · exact .startupDone h
    · exact .readyDone h
    · exact .railDone h
    · exact .lockPll h
    · exact .lineRxDone h
    · exact .lineTxDone h
    · exact .hostRxDone h
    · exact .hostTxDone h

theorem State.Wf.undoStep {q dies} (h : s.Wf) : (s.undoStep q dies).Wf := by
  unfold State.undoStep
  split
  · exact .ite (.stopPll h) (.ite (.foldl h fun _ _ hf => .stopPll hf) h)
  · exact .ite (.foldl h fun _ _ hf1 => .foldl hf1 fun _ _ hf2 => .stopPll hf2) h
  · exact .setPens h
  · exact .stopPll h
  · exact h

theorem State.Wf.lanePortFault {p event reason} (h : s.Wf) : (s.lanePortFault p event reason).Wf := by
  unfold State.lanePortFault
  split
  · exact h
  · exact .ite (.applyFault h) (.portTo h)

theorem State.Wf.endRestartIdle {q} (h : s.Wf) : (s.endRestartIdle q).Wf := by
  unfold State.endRestartIdle
  exact .ite (.refreshHost (.put h)) h

theorem State.Wf.stepFailed {q} (h : s.Wf) : (s.stepFailed q).Wf := by
  unfold State.stepFailed
  split
  · exact .enterFault (.endSeq h)
  · exact .enterFault (.endSeq h)
  · exact .enterFault h
  · exact .lanePortFault (.endSeq h)
  · exact .lanePortFault (.refreshLineIsland (.endSeq h))
  · exact .lanePortFault (.portRestarted (.refreshLineIsland (.endSeq h)))
  · exact .lanePortFault (.log (.raise (.refreshHostIsland (.endRestartIdle (.endSeq h)))))

theorem State.Wf.execRestartStepTimeout {seq obj dies} (h : s.Wf) : NextWf (Machine.execRestartStepTimeout seq obj
    dies s) := by
  unfold Machine.execRestartStepTimeout
  refine .next ?_
  split
  · exact h
  · refine .ite h (.ite (.refclkNever h) (.ite (.stepFailed h) ?_))
    exact .setSeq (.undoStep (.foldl (.raise (.inc h)) fun _ _ hf => .log hf))

theorem State.Wf.execLineWakeAmTimeout {k} (h : s.Wf) : NextWf (Machine.execLineWakeAmTimeout k s) := by
  unfold Machine.execLineWakeAmTimeout
  refine .next (.ite ?_ h)
  extract_lets
  split
  · exact .refreshAlign (.endSeq h)
  · exact .endSeq h

theorem State.Wf.execWearMeasure {ws} (h : s.Wf) : NextWf (Machine.execWearMeasure ws s) := by
  unfold Machine.execWearMeasure
  refine .next (.ite h (.setReg (.foldl (.ite (.withLife (.withPwr h)) (.withPwr h)) fun _ _ hf => ?_)))
  split
  · exact .ite (.withLife hf) hf
  · exact hf

theorem State.Wf.execAvsStep (h : s.Wf) : NextWf (Machine.execAvsStep s) := by
  unfold Machine.execAvsStep
  refine .next (.ite ?_ h)
  exact .ite (.ite (.raise (.putFlag (.refreshDac (.put (.put (.put (.put (.withPwr h)))))))) (.log (.withPwr
      (.raise (.putFlag (.refreshDac (.put (.put (.put (.put (.withPwr h))))))))))) (.putFlag (.refreshDac (.put
      (.put (.put (.put (.withPwr h)))))))

theorem State.Wf.refreshLife (h : s.Wf) : s.refreshLife.Wf := by
  unfold State.refreshLife
  exact .setWide h

theorem State.Wf.cmdPwrStatus {p x} (h : s.Wf) : (Machine.cmdPwrStatus p x s).2.Wf := by
  unfold Machine.cmdPwrStatus
  exact .iteSnd h h

theorem State.Wf.cmdPwrReset {p x} (h : s.Wf) : (Machine.cmdPwrReset p x s).2.Wf := by
  unfold Machine.cmdPwrReset
  exact .iteSnd h (.iteSnd h (.snd (.withPwr h)))

theorem State.Wf.cmdPwrLowpwr {p t} (h : s.Wf) : (Machine.cmdPwrLowpwr p t s).2.Wf := by
  unfold Machine.cmdPwrLowpwr
  exact .iteSnd h (.iteSnd h (.iteSnd (.snd (.withPwr (.powerCheck (.put h)))) (.snd (.powerCheck (.put h)))))

theorem State.Wf.cmdPwrWearReport {p x} (h : s.Wf) : (Machine.cmdPwrWearReport p x s).2.Wf := by
  unfold Machine.cmdPwrWearReport
  exact .iteSnd h h

theorem State.Wf.cmdPwrLifeReport {p x} (h : s.Wf) : (Machine.cmdPwrLifeReport p x s).2.Wf := by
  unfold Machine.cmdPwrLifeReport
  exact .iteSnd h h

/-! ## Thermal -/

theorem State.Wf.zoneActions {z} (h : s.Wf) : (s.zoneActions z).Wf := by
  unfold State.zoneActions
  exact .ite h (.refreshPause (.putFlag (.refreshThrottle h)))

theorem State.Wf.refreshZone {z} (h : s.Wf) : (s.refreshZone z).Wf := by
  unfold State.refreshZone
  split
  · exact h
  · exact .via (.ite (.ite (.put (.put (.setReg h))) (.log (.raise (.put (.put (.setReg h)))))) (.raise (.ite (.put
      (.put (.setReg h))) (.log (.raise (.put (.put (.setReg h)))))))) fun h4 => .via (.ite (.log (.ite (.log h4)
      h4)) (.ite (.log h4) h4)) fun h3 => .via (.ite (.log (.ite (.log h3) h3)) (.ite (.log h3) h3)) fun h2 => .via
      (.ite (.ite h2 (.zoneActions h2)) (.raise (.ite h2 (.zoneActions h2)))) fun h1 => .ite (.ite (.log h1)
      (.enterFault (.log h1))) h1

theorem State.Wf.measure {n count} (h : s.Wf) : (s.measure n count).Wf := by
  unfold State.measure
  extract_lets _ _ _ _ _ _ _ s1
  have h1 : s1.Wf := .raise (.put (.setSensors h))
  refine .powerCheck (.refreshZone (.ite ?_ (.putFlag (.putFlag h1))))
  exact .ite (.log (.raise (.raise (.putFlag (.putFlag h1))))) (.enterFault (.log (.raise (.raise (.putFlag
      (.putFlag h1))))))

theorem State.Wf.cmdThmStatus {p x} (h : s.Wf) : (Machine.cmdThmStatus p x s).2.Wf := by
  unfold Machine.cmdThmStatus
  exact .iteSnd h h

theorem State.Wf.cmdThmSetThresh {p x} (h : s.Wf) : (Machine.cmdThmSetThresh p x s).2.Wf := by
  unfold Machine.cmdThmSetThresh
  exact .iteSnd h (.iteSnd h (.snd (.setReg h)))

theorem State.Wf.cmdThmMeasure {count p x} (h : s.Wf) : (Machine.cmdThmMeasure count p x s).2.Wf := by
  unfold Machine.cmdThmMeasure
  exact .iteSnd h (.snd (.measure h))

theorem State.Wf.thermalTick (h : s.Wf) : s.thermalTick.Wf := by
  unfold State.thermalTick
  exact .withPwr (.foldl h fun _ _ hf => .ite (.inc hf) hf)

/-! ## CalStore -/

theorem State.Wf.pfailOn (h : s.Wf) : s.pfailOn.Wf := by
  unfold State.pfailOn
  exact .ite (.closeStage (.withBoot (.log (.raise (.raise h))))) (.log (.raise (.raise h)))

theorem State.Wf.execPfailRelease (h : s.Wf) : NextWf (Machine.execPfailRelease s) := by
  unfold Machine.execPfailRelease
  refine .next (.ite (.ite (.put h) ?_) h)
  extract_lets
  split
  · exact .log (.put h)
  · exact .finish (.log (.withCal (.log (.put h))))

theorem State.Wf.setCalValid {bank v} (h : s.Wf) : (s.setCalValid bank v).Wf := by
  unfold State.setCalValid
  exact .withCal h

theorem State.Wf.storeWords {ws} (h : s.Wf) : (s.storeWords ws).Wf := by
  unfold State.storeWords
  exact .foldl h fun _ _ hf => .writeWord hf

theorem State.Wf.storeEntries {es fate t} (h : s.Wf) : (s.storeEntries es fate t).2.Wf := by
  unfold State.storeEntries
  refine .iteSnd (.snd (.withCal (.setCalValid (.storeWords (.withCal h))))) ?_
  split
  · exact .pfailOn (.withCal (.setCalValid (.storeWords (.withCal h))))
  · exact .setWord (.free (.setCalValid (.storeWords (.withCal h))))
  · exact .snd (.log (.withCal (.setCalValid (.storeWords (.withCal h)))))

theorem State.Wf.stagedEntries {len} (h : s.Wf) : (s.stagedEntries len).2.Wf := by
  unfold State.stagedEntries
  refine .iteSnd ?_ ?_
  · refine .snd ?_
    split
    · exact .ite (.closeStage h) h
    · exact h
  · split
    · exact h
    · refine .iteSnd h ?_
      split
      · next _ e =>
        have h1 := State.Wf.of_pair e (.readBytes (.closeStage h))
        exact .snd h1
      · next _ _ e1 =>
        have h2 := State.Wf.of_pair e1 (.readBytes (.closeStage h))
        split <;> exact .snd h2

theorem State.Wf.cmdCalWrite {fate p t} (h : s.Wf) : (Machine.cmdCalWrite fate p t s).2.Wf := by
  unfold Machine.cmdCalWrite
  refine .iteSnd h (.iteSnd h ?_)
  split
  · next _ _ e =>
    have h1 := State.Wf.of_pair e (.stagedEntries h)
    exact .snd h1
  · next _ _ e1 =>
    have h2 := State.Wf.of_pair e1 (.stagedEntries h)
    exact .iteSnd (.snd h2) (.storeEntries h2)

theorem State.Wf.cmdCalInfo {p x} (h : s.Wf) : (Machine.cmdCalInfo p x s).2.Wf := by
  unfold Machine.cmdCalInfo
  refine .iteSnd h ?_
  extract_lets
  split <;> exact h

theorem State.Wf.cmdCalStage {p x} (h : s.Wf) : (Machine.cmdCalStage p x s).2.Wf := by
  unfold Machine.cmdCalStage
  exact .iteSnd h (.iteSnd h (.openStage h))

theorem State.Wf.readBank {bank} (h : s.Wf) : (s.readBank bank).2.Wf := by
  unfold State.readBank
  extract_lets
  split
  · next _ e =>
    have h1 := State.Wf.of_pair e (.readWord h)
    exact .snd h1
  · next _ _ e4 =>
    have h5 := State.Wf.of_pair e4 (.readWord h)
    refine .iteSnd (.snd h5) ?_
    split
    next _ _ e3 =>
    have h4 := State.Wf.of_pair e3 (.readBytes h5)
    refine .iteSnd (.snd h4) (.iteSnd (.snd h4) (.iteSnd (.snd h4) ?_))
    split
    · next _ e1 =>
      have h2 := State.Wf.of_pair e1 (.readBytes h4)
      exact .snd h2
    · next _ _ e2 =>
      have h3 := State.Wf.of_pair e2 (.readBytes h4)
      refine .iteSnd (.snd h3) ?_
      split <;> exact .snd h3

theorem State.Wf.dropBank {bank f} (h : s.Wf) : (s.dropBank bank f).Wf := by
  unfold State.dropBank
  split
  · exact .writeWord (.ite (.ite h (.log h)) (.log h))
  · exact h

theorem State.Wf.loadStore (h : s.Wf) : s.loadStore.Wf := by
  unfold State.loadStore
  split
  next e0 =>
  have h0 := State.Wf.of_pair e0 h.readBank
  split
  next e1 =>
  have h1 := State.Wf.of_pair e1 h0.readBank
  extract_lets _ _ _ best
  generalize best = found
  split
  · exact .log (.withCal (.dropBank (.dropBank h1)))
  · exact .log (.withCal (.dropBank (.dropBank h1)))

/-! ## Security -/

theorem State.Wf.storeBytes {n a bs} (h : s.Wf) : (State.storeBytes n s a bs).Wf := by
  induction n generalizing s a bs with
  | zero => exact h
  | succ n ih =>
    cases bs with
    | nil => exact h
    | cons b bs =>
      rw [State.storeBytes]
      exact ih (.ite (.writeWord h) (.mergeWord h))

theorem State.Wf.loadImage {a copy} (h : s.Wf) : (s.loadImage a copy).2.Wf := by
  unfold State.loadImage
  split
  · next _ e =>
    have h1 := State.Wf.of_pair e (.readBytes h)
    exact .snd h1
  · next _ _ e3 =>
    have h4 := State.Wf.of_pair e3 (.readBytes h)
    refine .iteSnd (.snd h4) (.iteSnd (.snd h4) (.iteSnd (.snd h4) ?_))
    split
    · next _ e1 =>
      have h2 := State.Wf.of_pair e1 (.readBytes h4)
      exact .snd (.raise h2)
    · next _ _ e2 =>
      have h3 := State.Wf.of_pair e2 (.readBytes h4)
      exact .iteSnd (.snd (.ite (.storeBytes h3) h3)) (.snd (.raise (.ite (.storeBytes h3) h3)))

theorem State.Wf.checkImage {a} (h : s.Wf) : (s.checkImage a).2.Wf := by
  unfold State.checkImage
  exact .loadImage h

theorem State.Wf.setFwSlot {i v} (h : s.Wf) : (s.setFwSlot i v).Wf := by
  unfold State.setFwSlot
  exact .setReg (.withSec h (by simp))

theorem State.Wf.refreshSec (h : s.Wf) : s.refreshSec.Wf := by
  unfold State.refreshSec
  exact .put (.put (.putFlag (.foldl h fun _ _ hf => .setFwSlot hf)))

theorem State.Wf.cmdFwBegin {p x} (h : s.Wf) : (Machine.cmdFwBegin p x s).2.Wf := by
  unfold Machine.cmdFwBegin
  exact .iteSnd h (.iteSnd h (.iteSnd h (.openStage (.withBootSec (.setFwSlot h) id))))

theorem State.Wf.cmdFwChunk {fail p x} (h : s.Wf) : (Machine.cmdFwChunk fail p x s).2.Wf := by
  unfold Machine.cmdFwChunk
  extract_lets
  split
  · refine .iteSnd h ?_
    split
    · next _ e =>
      have h1 := State.Wf.of_pair e (.readWords h)
      exact .snd h1
    · next _ _ e1 =>
      have h3 := State.Wf.of_pair e1 (.readWords h)
      exact .via (.foldl h3 fun _ _ hf => .writeWord hf) fun h2 => .iteSnd (.setWord (.free h2)) (.snd h2)
  · exact .iteSnd h h

theorem State.Wf.cmdFwEnd {p x} (h : s.Wf) : (Machine.cmdFwEnd p x s).2.Wf := by
  unfold Machine.cmdFwEnd
  refine .iteSnd h (.iteSnd h ?_)
  split
  · next _ _ e =>
    have h1 := State.Wf.of_pair e (.checkImage h)
    exact .snd h1
  · next _ _ e1 =>
    have h2 := State.Wf.of_pair e1 (.checkImage h)
    exact .snd (.closeStage (.withBoot (.setFwSlot h2)))

theorem State.Wf.cmdFwActivate {p t} (h : s.Wf) : (Machine.cmdFwActivate p t s).2.Wf := by
  unfold Machine.cmdFwActivate
  exact .iteSnd h (.iteSnd h (.iteSnd (.snd (.withPwr (.withSec h id))) (.snd (.withSec h id))))

theorem State.Wf.cmdFwCommit {p x} (h : s.Wf) : (Machine.cmdFwCommit p x s).2.Wf := by
  unfold Machine.cmdFwCommit
  exact .iteSnd h (.iteSnd h (.snd (.log (.put (.put (.withSec h id))))))

theorem State.Wf.cmdFwStatus {p x} (h : s.Wf) : (Machine.cmdFwStatus p x s).2.Wf := by
  unfold Machine.cmdFwStatus
  exact .iteSnd h h

theorem State.Wf.cmdSecStage {p x} (h : s.Wf) : (Machine.cmdSecStage p x s).2.Wf := by
  unfold Machine.cmdSecStage
  exact .iteSnd h (.iteSnd h (.openStage h))

theorem State.Wf.takeToken {n} (h : s.Wf) : (s.takeToken n).2.Wf := by
  unfold State.takeToken
  split
  · exact h
  · refine .iteSnd h ?_
    split
    · next _ e =>
      have h1 := State.Wf.of_pair e (.readBytes (.closeStage h))
      exact .snd h1
    · next _ _ e1 =>
      have h2 := State.Wf.of_pair e1 (.readBytes (.closeStage h))
      exact .snd h2

theorem State.Wf.unverify {slot} (h : s.Wf) : (s.unverify slot).Wf := by
  unfold State.unverify
  exact .withPsets h

theorem State.Wf.applyCert {kind slot maker key} (h : s.Wf) : (s.applyCert kind slot maker key).Wf := by
  unfold State.applyCert
  refine .log (.refreshSec ?_)
  split
  · exact .withSec h id
  · exact .unverify (.withSec h id)
  · exact .unverify (.withSec h id)
  · exact .withSec h id

theorem State.Wf.cmdCertApply {p x} (h : s.Wf) : (Machine.cmdCertApply p x s).2.Wf := by
  unfold Machine.cmdCertApply
  refine .iteSnd h ?_
  split
  · next _ _ e =>
    have h1 := State.Wf.of_pair e (.takeToken h)
    exact .snd h1
  · next _ _ e1 =>
    have h2 := State.Wf.of_pair e1 (.takeToken h)
    refine .iteSnd ?_ ?_
    · exact .snd (.ite (.raise h2) h2)
    · exact .iteSnd (.snd h2) (.snd (.applyCert h2))

theorem State.Wf.cmdDebugChallenge {p x} (h : s.Wf) : (Machine.cmdDebugChallenge p x s).2.Wf := by
  unfold Machine.cmdDebugChallenge
  exact .iteSnd h (.iteSnd h (.setWide (.withBoot (.free h))))

theorem State.Wf.unlockFailed {code} (h : s.Wf) : (s.unlockFailed code).Wf := by
  unfold State.unlockFailed
  exact .ite (.raise (.log (.raise (.inc (.withBoot h))))) (.log (.raise (.inc (.withBoot h))))

theorem State.Wf.cmdDebugUnlock {p x} (h : s.Wf) : (Machine.cmdDebugUnlock p x s).2.Wf := by
  unfold Machine.cmdDebugUnlock
  refine .iteSnd h (.iteSnd h ?_)
  split
  · next _ _ e =>
    have h1 := State.Wf.of_pair e (.takeToken h)
    exact .iteSnd (.snd h1) (.snd (.unlockFailed (.setWide (.withBoot h1))))
  · next _ _ e1 =>
    have h2 := State.Wf.of_pair e1 (.takeToken h)
    exact .iteSnd (.snd (.unlockFailed (.setWide (.withBoot h2)))) (.snd (.log (.raise (.put (.setWide (.withBoot
        h2))))))

theorem State.Wf.cmdDebugLock {p x} (h : s.Wf) : (Machine.cmdDebugLock p x s).2.Wf := by
  unfold Machine.cmdDebugLock
  exact .iteSnd (.snd (.put h)) h

theorem State.Wf.cmdKeyList {p x} (h : s.Wf) : (Machine.cmdKeyList p x s).2.Wf := by
  unfold Machine.cmdKeyList
  exact .iteSnd h h

theorem State.Wf.cmdSensorRetire {p x} (h : s.Wf) : (Machine.cmdSensorRetire p x s).2.Wf := by
  unfold Machine.cmdSensorRetire
  refine .iteSnd h ?_
  split
  · next _ _ e =>
    have h1 := State.Wf.of_pair e (.takeToken h)
    exact .snd h1
  · next _ _ e1 =>
    have h2 := State.Wf.of_pair e1 (.takeToken h)
    exact .iteSnd (.snd h2) (.iteSnd (.snd h2) (.snd (.log (.raise (.putBit h2)))))

/-! ## Boot -/

theorem State.Wf.keepRegs {s0 power} (h : s.Wf) : (s.keepRegs s0 power).Wf := by
  unfold State.keepRegs
  extract_lets _ _ _ _ _ s6 s7 s8
  have h6 : s6.Wf := .putFlag (.putFlag (.putFlag (.setWide (.setWide (.foldl (.setReg (.setWide (.ite h
    (.foldl (.setReg h) fun _ _ h1 => .setWide h1)))) fun _ _ h2 => .ite (.raise h2) h2)))))
  have h7 : s7.Wf := .ite h6 (.putFlag h6)
  exact .refreshSec (.ite h7 (.raise h7))

theorem State.Wf.resetTo {kind source} (h : s.Wf) : (s.resetTo kind source).Wf := by
  unfold State.resetTo
  refine .setReg (.keepRegs ?_)
  obtain ⟨⟨-, -, -, -, -, hm⟩, -, -, -, -, -, -, -, -, -, -, -, hsec, -⟩ := h
  exact ⟨⟨rfl, rfl, rfl, rfl, rfl, Memory.wf_filter hm _⟩, rfl, rfl, rfl, rfl, rfl, rfl, rfl, rfl, rfl, rfl, rfl, hsec,
    rfl, rfl, rfl, rfl, rfl, rfl, rfl, rfl, rfl, rfl⟩

theorem State.Wf.releaseReset (h : s.Wf) : s.releaseReset.Wf := by
  unfold State.releaseReset
  exact .via (.put (.withPwr h)) fun h1 => .ite (.pfailOn (.ite (.fastoffOn h1) h1)) (.ite (.fastoffOn h1) h1)

theorem State.Wf.execPowerOnResetRelease (h : s.Wf) : NextWf (Machine.execPowerOnResetRelease s) := by
  unfold Machine.execPowerOnResetRelease
  exact .next (.ite (.ite (.withNowEvr (.withPwr h)) (.releaseReset (.withNowEvr (.withPwr h)))) h)

theorem State.Wf.execSoftwareReset (h : s.Wf) : NextWf (Machine.execSoftwareReset s) := by
  unfold Machine.execSoftwareReset
  refine .next ?_
  split
  · exact h
  · exact .ite h (.releaseReset (.resetTo (.ite (.flushAll h) h)))

theorem State.Wf.startImage {a} (h : s.Wf) : (s.startImage a).2.Wf := by
  unfold State.startImage
  exact .loadImage h

theorem State.Wf.note {code sev p0 p1 p2 p3} (h : s.Wf) : (s.note code sev p0 p1 p2 p3).Wf := by
  unfold State.note
  exact .withBoot h

theorem State.Wf.faultBroken (h : s.Wf) : s.faultBroken.Wf := by
  unfold State.faultBroken
  split
  · exact .enterFault h
  · exact h

theorem State.Wf.booted {slot i trial} (h : s.Wf) : (s.booted slot i trial).Wf := by
  unfold State.booted
  exact .faultBroken (.withPwrBoot (.note (.put (.putFlag (.put (.setFwSlot h))))))

theorem State.Wf.enterRecovery {ra rb} (h : s.Wf) : (s.enterRecovery ra rb).Wf := by
  unfold State.enterRecovery
  exact .withPwr (.initRange (.emergency (.putBit (.putBit (.raise (.raise h))))))

theorem State.Wf.bootFailed (h : s.Wf) : s.bootFailed.Wf := by
  unfold State.bootFailed
  exact .raise h

theorem State.Wf.bootActive (h : s.Wf) : s.bootActive.Wf := by
  unfold State.bootActive
  extract_lets
  split
  · next _ _ e =>
    have h1 := State.Wf.of_pair e (.startImage h)
    exact .booted h1
  · next _ _ e3 =>
    have h4 := State.Wf.of_pair e3 (.startImage h)
    split
    · next _ _ e1 =>
      have h2 := State.Wf.of_pair e1 (.startImage (.bootFailed h4))
      exact .booted (.note h2)
    · next _ _ e2 =>
      have h3 := State.Wf.of_pair e2 (.startImage (.bootFailed h4))
      exact .ite (.enterRecovery (.bootFailed h3)) (.enterRecovery (.bootFailed h3))

theorem State.Wf.bootSelect (h : s.Wf) : s.bootSelect.Wf := by
  unfold State.bootSelect
  extract_lets s1
  have h3 : s1.Wf := .refreshSec h
  split
  · exact .bootActive h3
  · refine .ite (.bootActive (.note (.raise (.withSec h3 id)))) ?_
    extract_lets
    split
    · next _ _ e =>
      have h1 := State.Wf.of_pair e (.startImage (.withSec h3 id))
      exact .booted h1
    · next _ _ e1 =>
      have h2 := State.Wf.of_pair e1 (.startImage (.withSec h3 id))
      exact .bootActive (.bootFailed h2)

theorem State.Wf.recoveryGo {fail} (h : s.Wf) : (s.recoveryGo fail).Wf := by
  unfold State.recoveryGo
  split
  · next _ _ e =>
    have h1 := State.Wf.of_pair e (.checkImage h)
    exact .put h1
  · next _ _ e1 =>
    have h2 := State.Wf.of_pair e1 (.checkImage h)
    refine .ite (.put h2) (.ite (.put (.setWord (.free (.storeBytes h2)))) ?_)
    exact .put (.put (.withPwr (.setFwSlot (.withSec (.storeBytes h2) id))))

theorem State.Wf.monSetup {d} (h : s.Wf) : (s.monSetup d).Wf := by
  unfold State.monSetup
  exact .ite (.cmdMonSlotSet h) (.ite (.cmdMonChCfg h) h)

theorem State.Wf.startMonitor (h : s.Wf) : s.startMonitor.Wf := by
  unfold State.startMonitor
  extract_lets s1 s2
  have h1 : s1.Wf := by
    refine .foldl h fun t i ht => ?_
    extract_lets load
    have hload : ∀ t n r, t.Wf → (load t n r).Wf := by
      intro t n r ht
      unfold load
      split
      · exact .setReg ht
      · exact ht
    exact hload _ _ _ (hload _ _ _ ht)
  have h2 : s2.Wf := by
    unfold s2
    split
    · exact .slotCommit (.foldl h1 fun _ _ h2 => .monSetup h2)
    · exact h1
  exact .setRun h2

theorem State.Wf.startRecorder (h : s.Wf) : s.startRecorder.Wf := by
  unfold State.startRecorder
  exact .refreshEvr (.ite (.raise (.put (.setEvr h))) (.put (.setEvr h)))

theorem State.Wf.execAqiqueReady (h : s.Wf) : NextWf (Machine.execAqiqueReady s) := by
  unfold Machine.execAqiqueReady
  refine .next (.ite ?_ h)
  exact .ite (.powerCheck (.toPwr (.raise (.raise (.weltAbEn (.weltAbEn (.foldl (.startMonitor (.loadStore
      (.withEventsBoot (.log (.startRecorder (.raise (.raise (.putBit (.setReg (.setReg (.setReg (.setReg (.setReg
      (.initRange (.withMbxPwr h))))))))))))))) fun _ _ hf => .put hf))))))) (.raise (.raise (.weltAbEn (.weltAbEn
      (.foldl (.startMonitor (.loadStore (.withEventsBoot (.log (.startRecorder (.raise (.raise (.putBit (.setReg
      (.setReg (.setReg (.setReg (.setReg (.initRange (.withMbxPwr h))))))))))))))) fun _ _ hf => .put hf)))))

/-! ## Counters -/

theorem State.Wf.bankClear {u mask} (h : s.Wf) : (s.bankClear u mask).Wf := by
  unfold State.bankClear
  exact .foldl h fun _ _ hf => .ite (.setCnt hf) hf

theorem State.Wf.readerStart {list count w} (h : s.Wf) : (s.readerStart list count w).Wf := by
  unfold State.readerStart
  exact .ite h (.setWide (.setReg (.withReader h)))

theorem State.Wf.readerCtl {data} (h : s.Wf) : (s.readerCtl data).Wf := by
  unfold State.readerCtl
  exact .ite (.readerStart (.put (.put h))) (.put (.put h))

theorem State.Wf.readerEnd (h : s.Wf) : s.readerEnd.Wf := by
  unfold State.readerEnd
  extract_lets _ _ _ _ s1
  have h1 : s1.Wf := .ite (.log (.raise (.raise (.setWide (.raise (.raise (.putFlag h))))))) (.setWide (.raise
      (.raise (.putFlag h))))
  split
  · exact .finish h1
  · exact h1

theorem State.Wf.readerStore {code value elapsed} (h : s.Wf) : (s.readerStore code value elapsed).Wf := by
  unfold State.readerStore
  exact .ite (.readerEnd (.put (.withReader (.setWide h)))) (.put (.withReader (.setWide h)))

theorem State.Wf.cmdCntListSet {p x} (h : s.Wf) : (Machine.cmdCntListSet p x s).2.Wf := by
  unfold Machine.cmdCntListSet
  exact .iteSnd h (.iteSnd h (.snd (.foldl h fun _ _ hf => .setReg hf)))

theorem State.Wf.cmdCntListRun {p w} (h : s.Wf) : (Machine.cmdCntListRun p w s).2.Wf := by
  unfold Machine.cmdCntListRun
  exact .iteSnd h (.iteSnd h (.snd (.readerStart (.put (.put h)))))

theorem State.Wf.cmdCntBankSet {p x} (h : s.Wf) : (Machine.cmdCntBankSet p x s).2.Wf := by
  unfold Machine.cmdCntBankSet
  refine .iteSnd h (.iteSnd h (.iteSnd h ?_))
  exact .via (.ite (.setReg h) (.setReg (.setReg h))) fun h1 => .snd (.putBit (.ite (.setCnt (.ite h1 (.setReg h1)))
      (.ite h1 (.setReg h1))))

/-! ## Mbx -/

theorem State.Wf.putEyelet {e v} (h : s.Wf) : (s.putEyelet e v).Wf := by
  unfold State.putEyelet
  exact .put (.put (.setEyelet h))

theorem State.Wf.rejectBell {m e reason} (h : s.Wf) : (s.rejectBell m e reason).Wf := by
  unfold State.rejectBell
  exact .logRate (.inc (.raise (.setReg h)))

theorem State.Wf.ringBell {m e} (h : s.Wf) : (s.ringBell m e).Wf := by
  unfold State.ringBell
  refine .ite h.rejectBell (.ite h.rejectBell ?_)
  split
  next e => exact .putEyelet (.withMbx (.of_pair e h.readWords))

theorem State.Wf.execCommandBegin (h : s.Wf) : NextWf (Machine.execCommandBegin s) := by
  unfold Machine.execCommandBegin
  refine .next (.ite ?_ h)
  split
  · exact h
  · extract_lets
    split
    · exact .setEyelet (.putEyelet (.withMbx h))
    · exact .putEyelet (.withMbx h)

theorem State.Wf.armReset {serial} (h : s.Wf) : (s.armReset serial).Wf := by
  unfold State.armReset
  split
  · exact .ite (.withPwr h) h
  · exact h

theorem State.Wf.postEntry {e} (h : s.Wf) : (s.postEntry e).Wf := by
  unfold State.postEntry
  exact .armReset (.putEyelet (.ite (.raise (.put (.put (.writeWord (.writeWord h))))) (.put (.put (.writeWord
      (.writeWord h))))))

theorem State.Wf.setRing {r w full} (h : s.Wf) : (s.setRing r w full).Wf := by
  unfold State.setRing
  exact .withMbx h

theorem State.Wf.execCompletionPost {e} (h : s.Wf) : NextWf (Machine.execCompletionPost e s) := by
  unfold Machine.execCompletionPost
  exact .next (.ite (.ite (.postEntry h) (.setRing (.ite (.raise (.putEyelet h)) (.log (.raise (.putEyelet h)))))) h)

theorem State.Wf.drainRing {n r} (h : s.Wf) : (State.drainRing n s r).Wf := by
  induction n generalizing s with
  | zero => exact h
  | succ n ih =>
    rw [State.drainRing]
    split
    · exact .ite (.setRing h) h
    · exact .ite (ih (.postEntry (.setRing h))) h

theorem State.Wf.consumerWrite {r data} (h : s.Wf) : (s.consumerWrite r data).Wf := by
  unfold State.consumerWrite
  exact .ite (.raise h) (.ite (.drainRing (.put h)) (.put h))

theorem State.Wf.cmdMbxVersion {p x} (h : s.Wf) : (Machine.cmdMbxVersion p x s).2.Wf := by
  unfold Machine.cmdMbxVersion
  exact .iteSnd h h

theorem State.Wf.cmdMbxEcho {p x} (h : s.Wf) : (Machine.cmdMbxEcho p x s).2.Wf := by
  unfold Machine.cmdMbxEcho
  exact .iteSnd h h

theorem State.Wf.cmdWinOpen {p x} (h : s.Wf) : (Machine.cmdWinOpen p x s).2.Wf := by
  unfold Machine.cmdWinOpen
  exact .iteSnd h (.iteSnd h (.snd (.log (.openWindow h))))

theorem State.Wf.cmdWinClose {p x} (h : s.Wf) : (Machine.cmdWinClose p x s).2.Wf := by
  unfold Machine.cmdWinClose
  exact .iteSnd h (.snd (.closeWindow h))

theorem State.Wf.cmdCmisCtl {p x} (h : s.Wf) : (Machine.cmdCmisCtl p x s).2.Wf := by
  unfold Machine.cmdCmisCtl
  exact .iteSnd h (.snd (.put h))

/-! ## RegRead -/

theorem State.Wf.setSnap {m k shadow w} (h : s.Wf) : (s.setSnap m k shadow w).Wf := by
  unfold State.setSnap
  exact .withSnaps h

theorem State.Wf.takeEntry {k} (h : s.Wf) : (s.takeEntry k).2.Wf := by
  unfold State.takeEntry
  exact .iteSnd (.snd (.put (.setRack h))) (.snd (.put (.withTime h (·.setTsq))))

theorem State.Wf.lowLatch {m k shadow} (h : s.Wf) : (s.lowLatch m k shadow).2.Wf := by
  unfold State.lowLatch
  exact .iteSnd (.takeEntry h) (.iteSnd (.winLatch h) h)

theorem State.Wf.readWide {m k n shadow} (h : s.Wf) : (s.readWide m k n shadow).2.Wf := by
  unfold State.readWide
  exact .iteSnd (.setSnap (.lowLatch h)) h

theorem State.Wf.readLow64 {m k shadow} (h : s.Wf) : (s.readLow64 m k shadow).2.Wf := by
  unfold State.readLow64
  exact .iteSnd (.setSnap (.takeEntry h)) (.iteSnd (.evrLatch h) h)

theorem State.Wf.readReg {m b off} (h : s.Wf) : (s.readReg m b off).2.Wf := by
  unfold State.readReg
  split
  · exact h
  · exact .iteSnd (.snd (.ite h (.setReg h))) (.readWide h)

theorem State.Wf.readHalf {m b off} (h : s.Wf) : (s.readHalf m b off).2.Wf := by
  unfold State.readHalf
  split
  · exact .iteSnd (.readReg h) h
  · exact h
  · exact h

theorem State.Wf.readReg64 {m b off} (h : s.Wf) : (s.readReg64 m b off).2.Wf := by
  unfold State.readReg64
  split
  · exact .iteSnd (.readHalf (.readHalf h)) (.readLow64 h)
  · exact .readHalf (.readHalf h)

theorem State.Wf.readMem {m b a} (h : s.Wf) : (s.readMem m b a).2.Wf := by
  unfold State.readMem
  exact .iteSnd h (.readWord h)

theorem State.Wf.readMem32 {m b k a} (h : s.Wf) : (s.readMem32 m b k a).2.Wf := by
  unfold State.readMem32
  split <;> exact .readMem h

theorem State.Wf.readMem64 {m b k a} (h : s.Wf) : (s.readMem64 m b k a).2.Wf := by
  unfold State.readMem64
  split
  · exact .readMem h
  · split
    next _ _ e1 =>
    have h2 := State.Wf.of_pair e1 (.readMem32 h)
    split
    next _ _ e =>
    have h1 := State.Wf.of_pair e (.readMem32 h2)
    split <;> exact .snd h1

/-! ## RegWrite -/

theorem State.Wf.writePlain {m k data full} (h : s.Wf) : (s.writePlain m k data full).Wf := by
  unfold State.writePlain
  exact .setReg h

theorem State.Wf.refreshWindows (h : s.Wf) : s.refreshWindows.Wf := by
  unfold State.refreshWindows
  exact .put h

theorem State.Wf.recoveryWrite {k data fail} (h : s.Wf) : (s.recoveryWrite k data fail).Wf := by
  unfold State.recoveryWrite
  refine .ite (.raise h) (.ite (.setReg h) (.ite h ?_))
  split
  · exact .recoveryGo h
  · exact .recoveryGo (.free h)

theorem State.Wf.weltCtlWrite {d data} (h : s.Wf) : (s.weltCtlWrite d data).Wf := by
  unfold State.weltCtlWrite
  exact .ite (.weltRetrain (.ite (.weltRetrain (.weltAbEn h)) (.weltAbEn h))) (.ite (.weltRetrain (.weltAbEn h))
      (.weltAbEn h))

/-- The state that a register's own effect leaves, where it has one, meets the invariant. -/
def EffectWf : Option (Resp × State) → Prop
  | some x => x.2.Wf
  | none => True

theorem EffectWf.ite {c : Prop} {d : Decidable c} {a b : Option (Resp × State)} (ha : EffectWf a) (hb : EffectWf b) :
    EffectWf (if c then a else b) := by
  split
  · exact ha
  · exact hb

theorem EffectWf.getD {o : Option (Resp × State)} {x : Resp × State} (ho : EffectWf o) (hx : x.2.Wf) :
    (o.getD x).2.Wf := by
  cases o with
  | none => exact hx
  | some y => exact ho

theorem EffectWf.writeSpecial {m k data fail} (h : s.Wf) : EffectWf (s.writeSpecial m k data fail) := by
  unfold State.writeSpecial
  extract_lets u i ok
  have hok : ∀ t, t.Wf → EffectWf (ok t) := fun _ ht => ht
  split
  · exact hok _ (.weltCtlWrite h)
  · exact hok _ (.coefWrite h)
  · exact hok _ (.coefWrite h)
  · exact hok _ (.coefWrite h)
  · exact hok _ (.coefWrite h)
  · exact hok _ (.coefWrite h)
  · exact hok _ (.coefWrite h)
  · exact hok _ (.ttrimWrite h)
  · exact hok _ (.ite (.histStart (.writePlain h)) (.writePlain h))
  · exact hok _ (.ite (.commit h) h)
  · exact hok _ (.testCtlWrite h)
  · exact hok _ (.dacTtrimWrite h)
  · exact hok _ (.rackCtlWrite h)
  · exact hok _ (.bankClear h)
  · exact hok _ (.readerCtl h)
  · exact hok _ (.statCtlWrite h)
  · exact hok _ (.injCtlWrite h)
  · exact hok _ (.rxEqWrite h)
  · exact hok _ (.txEqWrite h)
  · exact hok _ (.slipWrite h)
  · exact hok _ (.ite (.captureStart h) h)
  · exact hok _ (.refreshAmp (.writePlain h))
  · exact hok _ (.refreshPps (.writePlain h))
  · exact hok _ (.requestMode h)
  · exact hok _ (.writeTarget h)
  · exact hok _ (.softStrobe h)
  · exact hok _ (.penWrite h)
  · exact hok _ (.channelCfgWrite h)
  · exact hok _ (.channelCodeWrite h)
  · exact hok _ (.refreshDac (.writePlain h))
  · exact hok _ (.refreshDac (.writePlain h))
  · exact hok _ (.ite (.slotCommit (.setRun h)) (.setRun h))
  · exact hok _ (.chkWrite h)
  · exact .ite h (hok _ (.odWrite h))
  · exact hok _ (.monInWrite h)
  · exact hok _ (.monInWrite h)
  · exact hok _ (.chanWrite h)
  · exact hok _ (.chanWrite h)
  · exact hok _ (.ite (.bankCommit h) h)
  · exact hok _ (.tapWrite h)
  · exact hok _ (.tapWrite h)
  · exact hok _ (.ringBell h)
  · exact hok _ (.consumerWrite h)
  · exact .ite h (hok _ (.refreshWindows (.writePlain h)))
  · exact .ite h (hok _ (.refreshWindows (.writePlain h)))
  · exact hok _ (.recoveryWrite h)
  · exact hok _ (.recoveryWrite h)
  · exact .ite (hok _ (.loopRegWrite h)) trivial

theorem State.Wf.writeReg {m b off data full fail} (h : s.Wf) : (s.writeReg m b off data full fail).2.Wf := by
  unfold State.writeReg
  split
  · exact h
  · exact .iteSnd h (.iteSnd (.writePlain h) (EffectWf.getD (.writeSpecial h) (.writePlain h)))

theorem State.Wf.writeCell {m a wide data be} (h : s.Wf) : (s.writeCell m a wide data be).2.Wf := by
  unfold State.writeCell
  exact .mergeWord h

theorem State.Wf.writeLoc {r a data} (h : s.Wf) : (s.writeLoc r a data).Wf := by
  unfold State.writeLoc
  exact .ite (.writeWord h) (.memLock h)

theorem State.Wf.writeRack {m r off a wide data be} (h : s.Wf) : (s.writeRack m r off a wide data be).2.Wf := by
  unfold State.writeRack
  refine .iteSnd (.iteSnd h (.iteSnd h.progWrite (.iteSnd (.snd h.memLock) ?_))) (.iteSnd (.snd h.writeLoc) (.snd ?_))
  · split
    next e => exact .snd (.uncache (.of_pair e h.writeCell))
  · exact .ite (.ite h h.writeLoc) (.writeLoc (.ite h h.writeLoc))

theorem State.Wf.writeMem {m b off a wide data be} (h : s.Wf) : (s.writeMem m b off a wide data be).2.Wf := by
  unfold State.writeMem
  split
  · exact h
  · exact .writeCell h
  · exact .writeCell h
  · exact .iteSnd h (.writeCell h)
  · exact .iteSnd h (.writeCell h)
  · exact .iteSnd (.writeCell h) h
  · exact .writeRack h
  · exact h

/-! ## Bus -/

theorem State.Wf.readBurst {m b k a n} (h : s.Wf) : (s.readBurst m b k a n).2.Wf := by
  induction n generalizing s a with
  | zero => exact h
  | succ n ih =>
    rw [State.readBurst]
    split
    next e =>
    split
    next e' =>
    have ht : State.Wf _ := .of_pair e' (ih (.of_pair e h.readMem64))
    split
    · exact ht
    · exact ht

theorem State.Wf.serveMem {m op b k off a} (h : s.Wf) : (s.serveMem m op b k off a).st.Wf := by
  unfold State.serveMem
  split
  · split
    · next _ _ e =>
      have h1 := State.Wf.of_pair e (.readMem32 h)
      exact h1
    · next _ e1 =>
      have h2 := State.Wf.of_pair e1 (.readMem32 h)
      exact h2
  · split
    · next _ _ e2 =>
      have h3 := State.Wf.of_pair e2 (.readMem64 h)
      exact h3
    · next _ e3 =>
      have h4 := State.Wf.of_pair e3 (.readMem64 h)
      exact h4
  · split
    · next _ _ e4 =>
      have h5 := State.Wf.of_pair e4 (.readBurst h)
      exact h5
    · next _ e5 =>
      have h6 := State.Wf.of_pair e5 (.readBurst h)
      exact h6
  · exact .writeMem h
  · exact .writeMem h
  · exact h

theorem State.Wf.serveReg {m op b off a full fail} (h : s.Wf) : (s.serveReg m op b off a full fail).st.Wf := by
  unfold State.serveReg
  extract_lets
  split
  · exact .perf (.readReg h)
  · exact .perf (.readReg64 h)
  · exact .perf (.writeReg h)
  · exact h

theorem State.Wf.countMessages {m target} (h : s.Wf) : (s.countMessages m target).Wf := by
  unfold State.countMessages
  refine .ite h ?_
  extract_lets
  split
  · exact .perf (.perf (.perf (.perf h)))
  · exact .perf (.perf h)

theorem State.Wf.serve {m op a full fail} (h : s.Wf) : (s.serve m op a full fail).st.Wf := by
  unfold State.serve
  split
  · exact h
  · extract_lets
    split
    · exact .iteSt (.serveMem (.countMessages h)) (.gateOff h)
    · exact .iteSt (.serveReg (.countMessages h)) (.gateOff h)

theorem State.Wf.fabric {m op a fail} (h : s.Wf) : (s.fabric m op a fail).st.Wf := by
  unfold State.fabric
  exact .capture447 (.serve h)

theorem State.Wf.haltDma {chan a} (h : s.Wf) : (s.haltDma chan a).Wf := by
  unfold State.haltDma
  exact .ite h (.log (.withCtl h id))

theorem State.Wf.deliver {m op a chan r} (h : s.Wf) : (s.deliver m op a chan r).Wf := by
  unfold State.deliver
  exact .via (.respond (.captureSpi h)) fun h1 => .ite (.haltDma (.ite h1 (.withReplies h1))) (.ite h1 (.withReplies
      h1))

theorem State.Wf.enqueue {m op a chan got} (h : s.Wf) : (s.enqueue m op a chan got).Wf := by
  unfold State.enqueue
  exact .withWaiting (.free h)

theorem State.Wf.issueTo {m op a chan fail} (h : s.Wf) : (s.issueTo m op a chan fail).Wf := by
  unfold State.issueTo
  exact .ite (.deliver (.fabric h)) (.enqueue (.fabric h))

theorem State.Wf.requestOn {chan m op a fail} (h : s.Wf) : (s.requestOn chan m op a fail).Wf := by
  unfold State.requestOn
  exact .ite h (.ite (.refuse h) (.ite (.answer h) (.ite (.answer h) (.ite (.enqueue h) (.issueTo h)))))

theorem State.Wf.request {m op a fail} (h : s.Wf) : (s.request m op a fail).Wf := by
  unfold State.request
  exact .requestOn h

theorem State.Wf.hit {a x} (h : s.Wf) : (s.hit a x).Wf := by
  unfold State.hit
  exact .ite (.upset h) h

theorem State.Wf.dmaRead {c a wide} (h : s.Wf) : (s.dmaRead c a wide).Wf := by
  unfold State.dmaRead
  exact .ite (.requestOn h) h

theorem State.Wf.execMemoryRead {reader loc upset} (h : s.Wf) : NextWf (Machine.execMemoryRead reader loc upset s)
    := by
  unfold Machine.execMemoryRead
  refine .next (.ite h ?_)
  split
  · exact .request (.hit h)
  · exact .dmaRead (.hit h)
  · refine .ite ?_ h
    split
    · next _ _ e =>
      have h1 := State.Wf.of_pair e (.readWord (.hit h))
      exact h1
    · next _ e1 =>
      have h2 := State.Wf.of_pair e1 (.readWord (.hit h))
      exact .withPwr (.emergency h2)
  · refine .ite ?_ h
    split
    · next _ _ e2 =>
      have h3 := State.Wf.of_pair e2 (.readHard (.hit h))
      exact h3
    · next _ e3 =>
      have h4 := State.Wf.of_pair e3 (.readHard (.hit h))
      split
      · exact .refreshEvr (.stagingFault h4)
      · exact h4
  · refine .ite ?_ h
    split
    · next _ _ e4 =>
      have h5 := State.Wf.of_pair e4 (.readWord (.hit h))
      exact .ite h5 (.setDir h5)
    · next _ e5 =>
      have h6 := State.Wf.of_pair e5 (.readWord (.hit h))
      exact .setDir h6
  · exact h

theorem State.Wf.execCntRdEntryResponse {elapsed} (h : s.Wf) : NextWf (Machine.execCntRdEntryResponse elapsed s) := by
  unfold Machine.execCntRdEntryResponse
  refine .next (.ite h (.ite (.readerStore (.capture447 h)) (.ite (.readerStore h) (.ite h ?_))))
  exact .ite (.ite h (.readerStore (.capture447 (.log (.free (.ite (.raise h) h)))))) (.readerStore (.fabric h))

/-! ## Hif -/

theorem State.Wf.setSpi {v} (h : s.Wf) : (s.setSpi v).Wf := by
  unfold State.setSpi
  exact .put (.withSpi h)

theorem State.Wf.driveWord (h : s.Wf) : s.driveWord.Wf := by
  unfold State.driveWord
  exact .withSpi h

theorem State.Wf.spiWord {a d} (h : s.Wf) : (s.spiWord a d).Wf := by
  unfold State.spiWord
  exact .ite (.request h) (.ite (.setSpi h) (.inc (.raise (.raise h))))

theorem State.Wf.spiWords {a ds} (h : s.Wf) : (s.spiWords a ds).Wf := by
  induction ds generalizing s a with
  | nil => exact h
  | cons d ds ih =>
    rw [State.spiWords]
    exact ih h.spiWord

theorem State.Wf.spiDrain {n} (h : s.Wf) : (State.spiDrain n s).Wf := by
  induction n generalizing s with
  | zero => exact h
  | succ n ih =>
    rw [State.spiDrain]
    refine .ite h ?_
    split
    · exact h
    · exact ih (.request (.setSpi h))

theorem State.Wf.spiRead {n a} (h : s.Wf) : (State.spiRead n s a).Wf := by
  induction n generalizing s a with
  | zero => exact .withSpi h
  | succ n ih =>
    rw [State.spiRead]
    exact .ite (.withSpi h) (.ite (.withSpi h.request) (ih (.driveWord h.request)))

theorem State.Wf.spiStatus (h : s.Wf) : s.spiStatus.Wf := by
  unfold State.spiStatus
  exact .ite (.withSpi h) (.withSpi h)

theorem State.Wf.spiNext (h : s.Wf) : s.spiNext.Wf := by
  unfold State.spiNext
  split
  · exact .spiRead (.driveWord h)
  · exact .spiRead (.spiDrain h)
  · exact .spiStatus (.spiDrain h)
  · exact .spiDrain h

theorem State.Wf.spiFrame (h : s.Wf) : s.spiFrame.Wf := by
  unfold State.spiFrame
  exact .withSpi h

theorem State.Wf.i2cSettle (h : s.Wf) : s.i2cSettle.Wf := by
  unfold State.i2cSettle
  split
  · exact .ite (.withI2c h) h
  · exact h

theorem State.Wf.i2cIssue {v} (h : s.Wf) : (s.i2cIssue v).Wf := by
  unfold State.i2cIssue
  exact .ite (.raise h) (.i2cSettle (.request (.withI2c h)))

theorem State.Wf.answered {m} (h : s.Wf) : (s.answered m).Wf := by
  unfold State.answered
  split
  · exact .spiNext h
  · exact .i2cSettle h
  · exact h

theorem State.Wf.settleRequest {r y} (h : s.Wf) : (s.settleRequest r y).Wf := by
  unfold State.settleRequest
  exact .answered (.settleDrains (.deliver (.withWaiting h)))

theorem State.Wf.serveWaiting {r} (h : s.Wf) : (s.serveWaiting r).Wf := by
  unfold State.serveWaiting
  exact .ite (.settleRequest (.fabric h)) (.withWaiting (.fabric h))

theorem State.Wf.execResponseArrival {src nth} (h : s.Wf) : NextWf (Machine.execResponseArrival src nth s) := by
  unfold Machine.execResponseArrival
  refine .next ?_
  split
  · exact h
  · refine .ite h ?_
    split
    · exact .ite (.settleRequest h) h
    · exact .ite (.serveWaiting h) h

theorem State.Wf.timeoutOf {r} (h : s.Wf) : (s.timeoutOf r).Wf := by
  unfold State.timeoutOf
  exact .via (.settleDrains (.withWaiting h)) fun h1 => .answered (.answer (.log (.ite (.raise (.ite (.serve (.free
      h1)) (.free h1))) (.ite (.serve (.free h1)) (.free h1)))))

theorem State.Wf.execWeltReqTimeout {src nth} (h : s.Wf) : NextWf (Machine.execWeltReqTimeout src nth s) := by
  unfold Machine.execWeltReqTimeout
  refine .next ?_
  split
  · exact .ite (.timeoutOf h) h
  · exact h

theorem State.Wf.drainOff {r} (h : s.Wf) : (s.drainOff r).Wf := by
  unfold State.drainOff
  exact .answered (.answer (.gateOff (.withWaiting h)))

theorem State.Wf.execIslandDrainTimeout {island} (h : s.Wf) : NextWf (Machine.execIslandDrainTimeout island s) := by
  unfold Machine.execIslandDrainTimeout
  refine .next ?_
  split
  · exact .ite h (.turnIsland (.foldl h fun _ _ hf => .drainOff hf))
  · exact h

/-! ## Cmis -/

theorem State.Wf.setCmis {v} (h : s.Wf) : (s.setCmis v).Wf := by
  unfold State.setCmis
  exact .withCmis h

theorem State.Wf.setCtl {k v} (h : s.Wf) : (s.setCtl k v).Wf := by
  unfold State.setCtl
  exact .setCmis h

theorem State.Wf.setMon {k v} (h : s.Wf) : (s.setMon k v).Wf := by
  unfold State.setMon
  exact .setCmis h

theorem State.Wf.setFlagByte {k v} (h : s.Wf) : (s.setFlagByte k v).Wf := by
  unfold State.setFlagByte
  exact .setCmis h

theorem State.Wf.latchFlags {k v} (h : s.Wf) : (s.latchFlags k v).Wf := by
  unfold State.latchFlags
  exact .setFlagByte h

theorem State.Wf.refreshCmisFlag (h : s.Wf) : s.refreshCmisFlag.Wf := by
  unfold State.refreshCmisFlag
  exact .putFlag h

theorem State.Wf.memByte {a} (h : s.Wf) : (s.memByte a).2.Wf := by
  unfold State.memByte
  split
  · next _ _ e =>
    have h1 := State.Wf.of_pair e (.readWord h)
    exact .snd h1
  · next _ e1 =>
    have h2 := State.Wf.of_pair e1 (.readWord h)
    exact .free h2

theorem State.Wf.mailboxByte {n} (h : s.Wf) : (s.mailboxByte n).2.Wf := by
  unfold State.mailboxByte
  exact .iteSnd (.memByte h) h

theorem State.Wf.ringByte {n} (h : s.Wf) : (s.ringByte n).2.Wf := by
  unfold State.ringByte
  exact .memByte h

theorem State.Wf.takeFlags {k} (h : s.Wf) : (s.takeFlags k).2.Wf := by
  unfold State.takeFlags
  exact .snd (.refreshCmisFlag (.setFlagByte h))

theorem State.Wf.lowerByte {n} (h : s.Wf) : (s.lowerByte n).2.Wf := by
  unfold State.lowerByte
  exact .iteSnd (.takeFlags h) (.iteSnd h (.iteSnd h h))

theorem State.Wf.laneByte {b n} (h : s.Wf) : (s.laneByte b n).2.Wf := by
  unfold State.laneByte
  exact .iteSnd h (.iteSnd (.takeFlags h) (.iteSnd h (.iteSnd h h)))

theorem State.Wf.imageByte {b p n} (h : s.Wf) : (s.imageByte b p n).2.Wf := by
  unfold State.imageByte
  exact .iteSnd h (.iteSnd h (.iteSnd h (.iteSnd (.laneByte h) (.iteSnd h h))))

theorem State.Wf.mapByte {n} (h : s.Wf) : (s.mapByte n).2.Wf := by
  unfold State.mapByte
  refine .iteSnd h (.iteSnd h (.iteSnd (.iteSnd (.mailboxByte h) h) (.iteSnd (.iteSnd (.ringByte h) h) ?_)))
  exact .iteSnd h (.iteSnd h (.iteSnd (.lowerByte h) (.imageByte h)))

theorem State.Wf.i2cBytes {n out} (h : s.Wf) : (State.i2cBytes n s out).2.Wf := by
  induction n generalizing s out with
  | zero => exact h
  | succ n ih =>
    rw [State.i2cBytes]
    split
    next e => exact ih (.withI2c (.of_pair e h.mapByte))

theorem State.Wf.writeControl {v} (h : s.Wf) : (s.writeControl v).Wf := by
  unfold State.writeControl
  exact .ite (.withPwr (.powerCheck (.withPwr (.setCtl h)))) (.powerCheck (.withPwr (.setCtl h)))

theorem State.Wf.rxBits {b v f} (h : s.Wf) : (s.rxBits b v f).Wf := by
  unfold State.rxBits
  exact .foldl h fun _ _ hf => .ite (.rxEqWrite hf) hf

theorem State.Wf.laneCodes {b n v top put} (h : s.Wf) (hp : ∀ t j c, t.Wf → (put t j c).Wf) :
    (s.laneCodes b n v top put).Wf := by
  unfold State.laneCodes
  exact .foldl h fun _ _ h1 => .ite (hp _ _ _ h1) h1

theorem State.Wf.txFields {j fs} (h : s.Wf) : (s.txFields j fs).Wf := by
  unfold State.txFields
  exact .txEqWrite h

theorem State.Wf.writeLanePage {b n v} (h : s.Wf) : (s.writeLanePage b n v).Wf := by
  unfold State.writeLanePage
  extract_lets s1
  have h1 : s1.Wf := .setCtl h
  refine .ite (.rxBits h1) (.ite (.rxBits h1) (.ite (.laneCodes h1 fun _ _ _ hf => .rxEqWrite hf) ?_))
  refine .ite (.laneCodes h1 fun _ _ _ hf1 => .txFields hf1) ?_
  refine .ite ?_ ?_
  · exact .laneCodes h1 fun _ _ _ hf2 => .txFields hf2
  · exact .ite (.laneCodes h1 fun _ _ _ hf3 => .txFields hf3) h1

theorem State.Wf.writeEyelet {n v} (h : s.Wf) : (s.writeEyelet n v).Wf := by
  unfold State.writeEyelet
  exact .ite (.raise h) (.mergeWord h)

theorem State.Wf.writeMap {n v} (h : s.Wf) : (s.writeMap n v).Wf := by
  unfold State.writeMap
  refine .ite (.withI2c h) (.ite (.withI2c h) (.ite ?_ ?_))
  · refine .ite (.writeEyelet h) ?_
    split
    · exact .withI2c h
    · exact .ringBell h
    · exact .consumerWrite h
    · exact h
  · refine .ite ?_ ?_
    · exact .ite (.withI2c h) (.ite (.withI2c h) (.ite (.i2cIssue h) h))
    · refine .ite h (.ite (.writeControl h) (.ite (.refreshCmisFlag (.setCtl h)) ?_))
      exact .ite (.refreshCmisFlag (.writeLanePage h)) h

theorem State.Wf.writeMapBytes {vs} (h : s.Wf) : (s.writeMapBytes vs).Wf := by
  induction vs generalizing s with
  | nil => exact h
  | cons v vs ih =>
    rw [State.writeMapBytes]
    exact ih (.withI2c h.writeMap)

theorem State.Wf.setStatus {js v} (h : s.Wf) : (s.setStatus js v).Wf := by
  unfold State.setStatus
  exact .setCmis h

theorem State.Wf.cmisReject {b js r} (h : s.Wf) : (s.cmisReject b js r).Wf := by
  unfold State.cmisReject
  exact .log (.setStatus h)

theorem State.Wf.cmisApply {b js m} (h : s.Wf) : (s.cmisApply b js m).Wf := by
  unfold State.cmisApply
  refine .ite (.cmisReject (.free h)) ?_
  split
  · exact .cmisReject h
  · refine .ite (.cmisReject (.withMode h id)) ?_
    exact .ite (.cmisReject (.setTxn (.rejected (.withMode h id)))) (.setStatus (.startApply (.withMode h id)))

theorem State.Wf.cmisFollow {b p} (h : s.Wf) : (s.cmisFollow b p).Wf := by
  unfold State.cmisFollow
  exact .ite h (.cmisApply h)

theorem State.Wf.setCtlBit {k n v} (h : s.Wf) : (s.setCtlBit k n v).Wf := by
  unfold State.setCtlBit
  exact .setCtl h

theorem State.Wf.execCmisDpDeinit {lane deinit} (h : s.Wf) : NextWf (Machine.execCmisDpDeinit lane deinit s) := by
  unfold Machine.execCmisDpDeinit
  refine .next (.ite ?_ h)
  extract_lets
  split
  · exact .cmisFollow (.setCtlBit h)
  · exact .setCtlBit h

theorem State.Wf.execCmisOutputDisable {lane disable} (h : s.Wf) : NextWf (Machine.execCmisOutputDisable lane
    disable s) := by
  unfold Machine.execCmisOutputDisable
  refine .next (.ite ?_ h)
  extract_lets
  split
  · exact .cmisFollow (.setCtlBit h)
  · exact .setCtlBit h

theorem State.Wf.setMon16 {k v} (h : s.Wf) : (s.setMon16 k v).Wf := by
  unfold State.setMon16
  exact .setMon (.setMon h)

theorem State.Wf.laneMonitors (h : s.Wf) : s.laneMonitors.Wf := by
  unfold State.laneMonitors
  split
  · exact h
  · exact .foldl h fun _ _ hf => .ite (.setMon16 hf) hf

theorem State.Wf.laneFlags {b} (h : s.Wf) : (s.laneFlags b).Wf := by
  unfold State.laneFlags
  exact .latchFlags (.latchFlags (.latchFlags (.latchFlags (.latchFlags (.latchFlags h)))))

theorem State.Wf.moduleFlags (h : s.Wf) : s.moduleFlags.Wf := by
  unfold State.moduleFlags
  exact .latchFlags (.latchFlags (.latchFlags h))

theorem State.Wf.execCmisMonitorRefresh {supply} (h : s.Wf) : NextWf (Machine.execCmisMonitorRefresh supply s) := by
  unfold Machine.execCmisMonitorRefresh
  refine .next (.ite ?_ h)
  exact .refreshCmisFlag (.setCmis (.laneFlags (.laneFlags (.moduleFlags (.laneMonitors (.setMon16 (.setMon16 h)))))))

/-! ## Tick -/

theorem State.Wf.bankTick {id'} (h : s.Wf) : (s.bankTick id').Wf := by
  unfold State.bankTick
  exact .perf (.free h)

theorem State.Wf.creditWait {r} (h : s.Wf) : (s.creditWait r).Wf := by
  unfold State.creditWait
  refine .ite h ?_
  split
  · refine .ite h ?_
    split
    · exact .perf (.free h)
    · exact h
  · refine .ite h ?_
    split
    · exact .perf (.free h)
    · exact h

theorem State.Wf.rackTick {r} (h : s.Wf) : (s.rackTick r).Wf := by
  unfold State.rackTick
  refine .ite ?_ h
  extract_lets
  split
  · exact .inc h
  · exact .inc (.inc h)
  · exact .inc (.inc h)

theorem State.Wf.clockTick {d} (h : s.Wf) : (s.clockTick d).Wf := by
  unfold State.clockTick
  exact .ite h (.setClock h)

theorem State.Wf.linkTick {l} (h : s.Wf) : (s.linkTick l).Wf := by
  unfold State.linkTick
  exact .setLink (.foldl h fun _ _ hf => .put hf)

theorem State.Wf.milliTick (h : s.Wf) : s.milliTick.Wf := by
  unfold State.milliTick
  exact .thermalTick (.foldl h fun _ _ hf => .linkTick hf)

theorem State.Wf.idle (h : s.Wf) : s.idle.Wf := by
  unfold State.idle
  refine .ite (.withNow h) ?_
  exact .via (.foldl (.foldl (.foldl (.foldl (.clockTick (.clockTick (.withNow h))) fun _ _ hf => .rackTick hf) fun
      _ _ hf1 => .dacTick (.adcTick hf1)) fun _ _ hf2 => .creditWait hf2) fun _ _ hf3 => .bankTick hf3) fun h1 =>
      .ite (.scriptStep (.ite (.milliTick h1) h1)) (.ite (.milliTick h1) h1)

/-! ## Commands and steps -/

/-- Every command keeps the invariant. -/
theorem NextWf.exec {i} (h : s.Wf) : NextWf (Machine.exec i s) :=
  match i with
  | .registerWrite _ _ _ => .next (.request h)
  | .rsLowWordRead _ _ _ => .next (.request h)
  | .rcRead _ _ => .next (.request h)
  | .queueRead _ _ _ => .next (.request h)
  | .memoryRead _ _ _ => h.execMemoryRead
  | .memoryPartialWrite _ _ _ _ _ => .next (.request h)
  | .memoryFullWrite _ _ _ => .next (.request h)
  | .mramRemapDone _ => h.execMramRemapDone
  | .mramRowRefresh _ => .next (.ite (.rewriteRow (.withCtl h id)) h)
  | .scrubStep _ _ => .next (.ite (.scrub (.upset h)) h)
  | .bucketLeak _ _ => .next (.ite h (.put (.withCtl h id)))
  | .responseArrival _ _ => h.execResponseArrival
  | .weltReqTimeout _ _ => h.execWeltReqTimeout
  | .islandDrainTimeout _ => h.execIslandDrainTimeout
  | .flitReceive _ _ _ => h.execFlitReceive
  | .creditReturn _ _ _ => .next (.setChannel h)
  | .replayRequest _ _ _ => h.execReplayRequest
  | .replayBurst _ _ => .next (.ite (.retrain (.log (.raise h))) h)
  | .linkRetrainDone _ _ => .next (.ite (.ite (.linkUp h) (.linkAttemptFailed h)) h)
  | .weltRetrain _ _ => .next (.weltRetrain h)
  | .weltAbEn _ _ => .next (.weltAbEn h)
  | .interruptSummary _ => .next (.ite (.setReg (.perf (.perf h))) h)
  | .pllLossOfLock _ _ => .next (.ite (.pllLost h) h)
  | .pllLock _ _ => .next (.ite h (.ite (.ite h (.setRefclk h)) (.ite (.lockPll h) h)))
  | .refclkAbsent2us => .next (.ite (.foldl (.setRefclk h) fun _ _ hf => .putBit hf) h)
  | .refclkLost => .next (.ite (.enterFault (.foldl (.setRefclk h) fun _ _ hf => .putBit hf)) h)
  | .refclkStartTimeout => .next (.ite (.refclkNever h) h)
  | .modeBegin _ => .next (.runCmd h fun _ _ _ hf => .cmdModeBegin hf)
  | .modeStagePort _ => .next (.runCmd h fun _ _ _ hf => .cmdStagePort hf)
  | .modeStageLane _ => .next (.runCmd h fun _ _ _ hf => .cmdStageLane hf)
  | .modeStageDie _ => .next (.runCmd h fun _ _ _ hf => .cmdStageDie hf)
  | .modeStageFibre _ => .next (.runCmd h fun _ _ _ hf => .cmdStageFibre hf)
  | .modeValidate _ => .next (.runCmd h fun _ _ _ hf => .cmdModeValidate hf)
  | .modeApply _ => .next (.runCmd h fun _ _ _ hf => .cmdModeApply hf)
  | .modeApplyComplete => h.execModeApplyComplete
  | .modeAbort _ => .next (.runCmd h fun _ _ _ hf => .cmdModeAbort hf)
  | .modeRead _ => .next (.runCmd h fun _ _ _ hf => .cmdModeRead hf)
  | .modePortStatus _ => .next (.runCmd h fun _ _ _ hf => .cmdModePortStatus hf)
  | .modeTxnExpired => h.execModeTxnExpired
  | .sigDetectAssert _ => .next (.ite (.wakeLineRx (.log (.raise (.raise h)))) h)
  | .sigDetectDeassert _ => h.execSigDetectDeassert
  | .wakePatternSeen _ => .next (.ite (.wakeLineRx (.ite h (.log (.raise h)))) h)
  | .lrxDozeTimer _ => .next (.ite (.dozeLineRx h) h)
  | .cdrLockSet _ _ _ => .next (.ite (.insRxStart (.raise (.raise (.putFofs h)))) h)
  | .cdrLockClear _ _ _ => .next (.ite (.cdrLostLine (.putFofs h)) h)
  | .lrxCoefWrite _ _ _ => h.execLrxCoefWrite
  | .tapRecord _ _ => h.execTapRecord
  | .lrxMonitorWindow _ _ _ _ _ _ _ => .next (.ite (.setReg (.setReg (.setReg (.setReg (.put (.put h)))))) h)
  | .histStart _ => .next (.ite (.histStart h) h)
  | .histDone _ => .next (.ite (.raise (.putFlag (.putFlag h))) h)
  | .vnleFadeDone _ => h.execVnleFadeDone
  | .calRxRun _ => .next (.runCmd h fun _ _ _ hf => .cmdCalRxRun hf)
  | .calRxAbort _ => .next (.runCmd h fun _ _ _ hf => .cmdCalRxAbort hf)
  | .calRxStatus _ => .next (.runCmd h fun _ _ _ hf => .cmdCalRxStatus hf)
  | .calRxMeasureEnd _ _ _ _ => h.execCalRxMeasureEnd
  | .calRxApplyEnd _ => h.execCalRxApplyEnd
  | .adcTrimStep _ _ => .next (.ite (.ite (.put (.setLine (.setReg h))) (.setLine (.setReg h))) h)
  | .lrxTtrimWrite _ _ _ => .next (.ite (.ttrimWrite h) h)
  | .ltxSetFir _ => .next (.runCmd h fun _ _ _ hf => .cmdSetFir hf)
  | .ltxSetLevels _ => .next (.runCmd h fun _ _ _ hf => .cmdSetLevels hf)
  | .ltxCommit _ => .next (.runCmd h fun _ _ _ hf => .cmdCommit hf)
  | .commit _ => .next (.ite (.commit h) h)
  | .ltxRampStep _ => h.execLtxRampStep
  | .fastoffAssert => .next (.ite h (.ite (.raise h) (.fastoffOn h)))
  | .fastoffRelease => h.execFastoffRelease
  | .fastoffResume => .next (.ite (.foldl (.putFlag h) fun _ _ hf => .ite (.requestMode hf) hf) h)
  | .ltxDozeTimer _ => .next (.ite (.setInsl (.refreshLineIsland (.refreshLine (.putFlag h)))) h)
  | .ltxWake _ => .next (.wakeLineTx h)
  | .ltxChkLock _ _ _ => .next (.ite (.putFlag (.setLine h)) h)
  | .ltxChkLost _ _ => h.execLtxChkLost
  | .ltxLbSlip _ _ _ => h.execLtxLbSlip
  | .calTxRun _ => .next (.runCmd h fun _ _ _ hf => .cmdCalTxRun hf)
  | .calTxAbort _ => .next (.runCmd h fun _ _ _ hf => .cmdCalTxAbort hf)
  | .calTxStatus _ => .next (.runCmd h fun _ _ _ hf => .cmdCalTxStatus hf)
  | .calTxMeasureEnd _ _ => h.execCalTxMeasureEnd
  | .calTxApplyEnd _ => h.execCalTxApplyEnd
  | .dacTrimStep _ _ => .next (.ite (.ite (.put (.setLine (.setReg h))) (.setLine (.setReg h))) h)
  | .ltxTtrimWrite _ _ _ => .next (.ite (.dacTtrimWrite h) h)
  | .nop _ => h.execNop
  | .mpy _ => .next (.issue h fun _ => .arithBody)
  | .mac _ => .next (.issue h fun _ => .arithBody)
  | .msu _ => .next (.issue h fun _ => .arithBody)
  | .add _ => .next (.issue h fun _ => .arithBody)
  | .sub _ => .next (.issue h fun _ => .arithBody)
  | .clr _ => .next (.issue h fun _ => .arithBody)
  | .tfr _ => .next (.issue h fun _ => .arithBody)
  | .asr _ => .next (.issue h fun _ => .arithBody)
  | .asl _ => .next (.issue h fun _ => .arithBody)
  | .abs _ => .next (.issue h fun _ => .arithBody)
  | .neg _ => .next (.issue h fun _ => .arithBody)
  | .cmp _ => .next (.issue h fun _ => .arithBody)
  | .macss _ => .next (.issue h fun _ => .arithBody)
  | .macsgn _ => .next (.issue h fun _ => .arithBody)
  | .sta _ => h.execSta
  | .stm _ => h.execStm
  | .ldi _ => h.execLdi
  | .shift _ => h.execShift
  | .movr _ => h.execMovr
  | .ext _ => h.execExt
  | .logic _ => h.execLogic
  | .mem _ => h.execMem
  | .lda _ => h.execLda
  | .adda _ => h.execAdda
  | .mova _ => h.execMova
  | .bra _ => h.execBra
  | .call _ => h.execCall
  | .ret _ => h.execRet
  | .loop _ => h.execLoop
  | .loopr _ => h.execLoopr
  | .repeat _ => h.execRepeat
  | .yield _ => h.execYield
  | .yieldResume _ _ _ => .next (.ite (.inc (.setLast h)) h)
  | .svc _ => h.execSvc
  | .twin _ _ => h.execTwin
  | .leave _ => h.execLeave
  | .breq _ _ => h.execBreq
  | .brsp _ => h.execBrsp
  | .rackBusResponse _ _ => h.execRackBusResponse
  | .movc _ => h.execMovc
  | .movfc _ => h.execMovfc
  | .rti _ => h.execRti
  | .halt _ => h.execHalt
  | .lastWatchdog _ _ => .next (.ite (.trapLast (.setLast h)) h)
  | .rackRestart _ => h.execRackRestart
  | .rackCtlHalt _ _ _ => .next (.request h)
  | .tagSample _ _ _ => h.execTagSample
  | .progWordWrite _ _ _ _ _ => .next (.request h)
  | .rackMemWrite _ _ _ _ _ => .next (.request h)
  | .rackHalt _ => .next (.runCmd h fun _ _ _ hf => .cmdRackHalt hf)
  | .rackResume _ => .next (.runCmd h fun _ _ _ hf => .cmdRackResume hf)
  | .rackStatus _ => .next (.runCmd h fun _ _ _ hf => .cmdRackStatus hf)
  | .psetLoadBegin _ => .next (.runCmd h fun _ _ _ hf => .cmdPsetLoadBegin hf)
  | .psetLoadEnd _ => .next (.runCmd h fun _ _ _ hf => .cmdPsetLoadEnd hf)
  | .psetErase _ => .next (.runCmd h fun _ _ _ hf => .cmdPsetErase hf)
  | .psetList _ => .next (.runCmd h fun _ _ _ hf => .cmdPsetList hf)
  | .cntBankClear _ _ _ _ => .next (.request h)
  | .cntRdStart _ _ => .next (.request h)
  | .cntRdEntryResponse _ => h.execCntRdEntryResponse
  | .cntListSet _ => .next (.runCmd h fun _ _ _ hf => .cmdCntListSet hf)
  | .cntListRun _ => .next (.runCmd h fun _ _ _ hf => .cmdCntListRun hf)
  | .cntBankSet _ => .next (.runCmd h fun _ _ _ hf => .cmdCntBankSet hf)
  | .innerLockSet _ _ => h.execInnerLockSet
  | .innerLockClear _ _ => h.execInnerLockClear
  | .innerCodeword _ _ _ _ => h.execInnerCodeword
  | .amLockSet _ _ _ => h.execAmLockSet
  | .amLockClear _ _ => .next (.ite (.ite h (.amLostHost h)) (.amLostLine h))
  | .codewordDecode _ _ _ _ => h.execCodewordDecode
  | .codewordEncode _ _ => .next (.ite (.ite (.raise (.putFlag (.setDir h))) (.setDir h)) h)
  | .rateAdaptAdjust _ _ _ _ => .next (.ite (.ite (.inc (.setDir h)) (.setDir h)) h)
  | .fecSlip _ _ => .next (.ite (.slip (.setDir h)) h)
  | .monitorSlip _ => h.execMonitorSlip
  | .frameParse _ _ _ => .next (.ite (.ite (.inc h) (.inc (.inc h))) h)
  | .skewMeasurement _ _ _ _ => h.execSkewMeasurement
  | .wakeFrameDiscard _ _ _ => h.execWakeFrameDiscard
  | .statLatch _ => .next (.ite (.statCtlWrite h) h)
  | .statClear _ => .next (.ite (.statCtlWrite h) h)
  | .fecInjCtlWrite _ _ => .next (.ite (.injCtlWrite h) h)
  | .poolWindowWrite _ _ _ _ => .next (.request h)
  | .fecStatLatch _ => .next (.runCmd h fun _ _ _ hf => .cmdStatLatch hf)
  | .fecPoolStatus _ => .next (.runCmd h fun _ _ _ hf => .cmdPoolStatus hf)
  | .fecSkewReport _ => .next (.runCmd h fun _ _ _ hf => .cmdSkewReport hf)
  | .hlTxEqWrite _ _ => .next (.ite (.txEqWrite h) h)
  | .hlRxEqCtlWrite _ _ => .next (.ite (.rxEqWrite h) h)
  | .hlCdrLockSet _ _ _ => .next (.ite (.ite (.putHostFofs h) (.raise (.raise (.putHostFofs h)))) h)
  | .hlCdrLockClear _ _ _ => .next (.ite (.cdrLostHost (.putHostFofs h)) h)
  | .hlAdaptDone _ _ _ _ => .next (.ite (.raise (.adaptTaps (.ite h (.moveCtle h)))) h)
  | .hlCtleTrack _ _ _ _ => .next (.ite (.ite (.adaptTaps h) (.moveCtle (.adaptTaps h))) h)
  | .hlSigAssert _ => h.execHlSigAssert
  | .hlSigDeassert _ => .next (.ite (.ite (.inc (.raise (.putFlag h))) (.log (.inc (.raise (.putFlag h))))) h)
  | .hlWakeSeen _ => h.execHlWakeSeen
  | .hlRxDozeTimer _ => .next (.ite (.refreshHostIsland (.cdrLostHost (.raise (.putFlag h)))) h)
  | .hlTxDozeTimer _ => .next (.ite (.refreshHostIsland (.refreshHost (.raise (.putFlag h)))) h)
  | .hlTxWake _ => .next (.wakeHostTx h)
  | .hlWakeAmTimeout _ => .next (.ite (.amLostHost (.endSeq h)) h)
  | .hlChkLock _ _ _ => .next (.ite (.raise (.setHostLane (.ite (.countChk h) h))) h)
  | .hlChkLost _ _ => h.execHlChkLost
  | .hlSlipWrite _ _ => .next (.ite (.slipWrite h) h)
  | .captureStart _ => .next (.ite (.captureStart h) h)
  | .captureDone _ _ => h.execCaptureDone
  | .hlLbSlip _ _ _ => h.execHlLbSlip
  | .hlSetTxEq _ => .next (.runCmd h fun _ _ _ hf => .cmdSetTxEq hf)
  | .hlSetRxEq _ => .next (.runCmd h fun _ _ _ hf => .cmdSetRxEq hf)
  | .hlSlip _ => .next (.runCmd h fun _ _ _ hf => .cmdHlSlip hf)
  | .hlCapture _ => .next (.runCmd h fun _ _ _ hf => .cmdHlCapture hf)
  | .hlStatus _ => .next (.runCmd h fun _ _ _ hf => .cmdHlStatus hf)
  | .insTimingLaunch _ _ => .next (.ite (.setInsl (.keepSent (.insStart (.setWide h)))) h)
  | .insTxFrameDone _ => h.execInsTxFrameDone
  | .insAckTimer _ => .next (.ite (.setInsl h) h)
  | .insLinkPeriod _ => .next (.ite (.setInsl h) h)
  | .insRampStep _ => h.execInsRampStep
  | .insCodeDetect _ _ => .next (.ite (.insSync (.put h)) h)
  | .insSyncDetect _ _ => h.execInsSyncDetect
  | .insHeaderEnd _ _ => .next (.ite (.inc (.putFlag h)) h)
  | .insFrameReceived _ _ _ _ _ => h.execInsFrameReceived
  | .insLockLoss _ => .next (.ite (.insAcquire (.insReacquire (.inc h))) h)
  | .insFofsMeasure _ _ _ _ => h.execInsFofsMeasure
  | .insFofsMismatch _ => .next (.ite (.ite (.raise h) (.log (.setInsl (.raise h)))) h)
  | .insRxTimeout _ => .next (.ite (.refreshRxOk (.ite (.insLeave (.setInsl h)) (.setInsl h))) h)
  | .insHoldEnd _ => .next (.ite (.refreshRxOk (.putFlag (.setInsl h))) h)
  | .insMsgRetx _ => h.execInsMsgRetx
  | .insCreditTimeout _ => h.execInsCreditTimeout
  | .insSlotWrite _ _ _ _ _ => .next (.request h)
  | .insMsgSend _ => .next (.runCmd h fun _ _ _ hf => .cmdMsgSend hf)
  | .insMsgRecv _ => .next (.runCmd h fun _ _ _ hf => .cmdMsgRecv hf)
  | .insMsgRelease _ => .next (.runCmd h fun _ _ _ hf => .cmdMsgRelease hf)
  | .insStatus _ => .next (.runCmd h fun _ _ _ hf => .cmdInsStatus hf)
  | .insSetParam _ => .next (.runCmd h fun _ _ _ hf => .cmdInsSetParam hf)
  | .insSearch _ => .next (.runCmd h fun _ _ _ hf => .cmdInsSearch hf)
  | .insSearchDone _ _ => h.execInsSearchDone
  | .ppsInEdge _ _ _ => h.execPpsInEdge
  | .ppsInMiss => .next (.ite (.sourceLost (.raise h)) h)
  | .hostValidityTimeout => .next (.ite (.sourceLost h) h)
  | .insoleSrcInvalid => .next (.ite (.sourceLost (.log (.raise (.setUsable h)))) h)
  | .timeAlignSend => .next (.ite (.sendAlign (.withTime h id)) h)
  | .timeAlignMsg _ => h.execTimeAlignMsg
  | .timeAlignTimeout => h.execTimeAlignTimeout
  | .timeResResume _ => .next (.ite (.setClock h) h)
  | .ptpEventMessage _ _ _ => h.execPtpEventMessage
  | .ptpGeneralMessage _ _ _ => h.execPtpGeneralMessage
  | .ctxExpire _ => .next (.ite h (.inc (.setCtxs h)))
  | .rangeUpdate _ _ => h.execRangeUpdate
  | .ppsOutRise => .next (.ite (.withTime h id) h)
  | .ppsOutFall => .next (.ite (.withTime h id) h)
  | .todTimeMessage => .next (.ite (.withTime h id) h)
  | .todNextMessage _ => .next (.ite (.ite h (.ite (.withTime h id) (.raise (.inc h)))) h)
  | .timeSetSource _ => .next (.runCmd h fun _ _ _ hf => .cmdTimeSetSource hf)
  | .timeSet _ => .next (.runCmd h fun _ _ _ hf => .cmdTimeSet hf)
  | .timeAdj _ => .next (.runCmd h fun _ _ _ hf => .cmdTimeAdj hf)
  | .timeStatus _ => .next (.runCmd h fun _ _ _ hf => .cmdTimeStatus hf)
  | .timeSetDelay _ => .next (.runCmd h fun _ _ _ hf => .cmdTimeSetDelay hf)
  | .timeWlSet _ => .next (.runCmd h fun _ _ _ hf => .cmdTimeWlSet hf)
  | .timeModelSet _ => .next (.runCmd h fun _ _ _ hf => .cmdTimeModelSet hf)
  | .timeRangeReport _ => .next (.runCmd h fun _ _ _ hf => .cmdTimeRangeReport hf)
  | .timeCtxFlush _ => .next (.runCmd h fun _ _ _ hf => .cmdTimeCtxFlush hf)
  | .timePpsSet _ => .next (.runCmd h fun _ _ _ hf => .cmdTimePpsSet hf)
  | .timeTodserSet _ => .next (.runCmd h fun _ _ _ hf => .cmdTimeTodserSet hf)
  | .timePortSet _ => .next (.runCmd h fun _ _ _ hf => .cmdTimePortSet hf)
  | .loopTick _ => .next (.ite (.loopTick h) h)
  | .tgtModeRequest _ _ => .next (.ite (.requestMode h) h)
  | .tgtSpWrite _ _ => .next (.ite (.writeTarget h) h)
  | .tgtLoopCfg _ => .next (.runCmd h fun _ _ _ hf => .cmdLoopCfg hf)
  | .tgtLoopGains _ => .next (.runCmd h fun _ _ _ hf => .cmdLoopGains hf)
  | .tgtLoopLimits _ => .next (.runCmd h fun _ _ _ hf => .cmdLoopLimits hf)
  | .tgtSetMode _ => .next (.runCmd h fun _ _ _ hf => .cmdSetMode hf)
  | .tgtSetSp _ => .next (.runCmd h fun _ _ _ hf => .cmdSetSp hf)
  | .tgtStatus _ => .next (.runCmd h fun _ _ _ hf => .cmdTgtStatus hf)
  | .tgtClearFlags _ => .next (.runCmd h fun _ _ _ hf => .cmdClearFlags hf)
  | .cdacCfgWrite _ _ => .next (.ite (.channelCfgWrite h) h)
  | .cdacCodeWrite _ _ => .next (.ite (.channelCodeWrite h) h)
  | .softwareStrobe _ => .next (.ite (.softStrobe h) h)
  | .cdacCfg _ => .next (.runCmd h fun _ _ _ hf => .cmdCdacCfg hf)
  | .cdacSetCode _ => .next (.runCmd h fun _ _ _ hf => .cmdSetCode hf)
  | .cdacGroup _ => .next (.runCmd h fun _ _ _ hf => .cmdGroup hf)
  | .cdacStrobe _ => .next (.runCmd h fun _ _ _ hf => .cmdStrobe hf)
  | .sineCfg _ => .next (.runCmd h fun _ _ _ hf => .cmdSineCfg hf)
  | .penSet _ => .next (.runCmd h fun _ _ _ hf => .cmdPenSet hf)
  | .cdacStatus _ => .next (.runCmd h fun _ _ _ hf => .cmdCdacStatus hf)
  | .sineStop _ => .next (.ite (.refreshDacs (.setSine h)) h)
  | .cdacRefFault _ => .next (.ite h (.ite (.raise h) (.ite (.ite (.put h) (.log (.raise (.put h)))) h)))
  | .monConversion _ => h.execMonConversion
  | .monPublish _ => .next (.ite (.publish h) h)
  | .fadeEnd _ => .next (.fadeEnd h)
  | .chkFault => .next (.chkFaulted h)
  | .chkOk => .next (.chkPassed h)
  | .run _ => .next (.ite (.setRun h) h)
  | .slotCommit => .next (.ite (.slotCommit h) h)
  | .slotTableApply => .next (.tableApply h)
  | .odRequest _ _ => .next (.request h)
  | .diagStart _ => .next (.ite (.chkWrite h) h)
  | .diagDone => h.execDiagDone
  | .monCalAverageDone => h.execMonCalAverageDone
  | .firCommit _ _ => .next (.ite (.bankCommit h) h)
  | .monSlotSet _ => .next (.runCmd h fun _ _ _ hf => .cmdMonSlotSet hf)
  | .monSlotCommit _ => .next (.runCmd h fun _ _ _ hf => .cmdMonSlotCommit hf)
  | .monChCfg _ => .next (.runCmd h fun _ _ _ hf => .cmdMonChCfg hf)
  | .monFirSet _ => .next (.runCmd h fun _ _ _ hf => .cmdMonFirSet hf)
  | .monFirCommit _ => .next (.runCmd h fun _ _ _ hf => .cmdMonFirCommit hf)
  | .monConvert _ => .next (.runCmd h fun _ _ _ hf => .cmdMonConvert hf)
  | .monCalZero _ => .next (.runCmd h fun _ _ _ hf => .cmdMonCalZero hf)
  | .monCalFs _ => .next (.runCmd h fun _ _ _ hf => .cmdMonCalFs hf)
  | .monChkDiag _ => .next (.runCmd h fun _ _ _ hf => .cmdMonChkDiag hf)
  | .monChkSet _ => .next (.runCmd h fun _ _ _ hf => .cmdMonChkSet hf)
  | .monStatus _ => .next (.runCmd h fun _ _ _ hf => .cmdMonStatus hf)
  | .i2cWrite _ _ _ => .next (.ite h (.writeMapBytes (.withI2c h)))
  | .i2cRead _ => .next (.ite h (.withI2c (.i2cBytes h)))
  | .i2cDoorbell => .next (.ite h (.ringBell h))
  | .i2cWindowAccess _ => .next (.ite h (.i2cIssue h))
  | .i2cBusTimeout => .next h
  | .spiWrite _ _ => .next (.ite h (.spiWords (.spiFrame h)))
  | .spiRead _ _ => .next (.ite h (.spiRead (.spiFrame h)))
  | .spiStatus => .next (.ite h (.spiStatus (.spiFrame h)))
  | .spiId => .next (.ite h (.withSpi (.spiFrame h)))
  | .cmisApplyDpInit _ _ => .next (.ite (.cmisApply h) h)
  | .cmisDpDeinit _ _ => h.execCmisDpDeinit
  | .cmisOutputDisable _ _ => h.execCmisOutputDisable
  | .cmisMonitorRefresh _ => h.execCmisMonitorRefresh
  | .vendorPageUpdate _ _ => .next (.ite (.setCmis h) h)
  | .doorbell _ _ => .next (.request h)
  | .commandBegin => h.execCommandBegin
  | .completionPost _ => h.execCompletionPost
  | .consumerIndexWrite _ _ _ => .next (.request h)
  | .cmdTimeout _ => .next (.ite (.log (.raise (.inc (.putEyelet (.withMbx h))))) h)
  | .mbxVersion _ => .next (.runCmd h fun _ _ _ hf => .cmdMbxVersion hf)
  | .mbxEcho _ => .next (.runCmd h fun _ _ _ hf => .cmdMbxEcho hf)
  | .hifWinOpen _ => .next (.runCmd h fun _ _ _ hf => .cmdWinOpen hf)
  | .hifWinClose _ => .next (.runCmd h fun _ _ _ hf => .cmdWinClose hf)
  | .cmisCtl _ => .next (.runCmd h fun _ _ _ hf => .cmdCmisCtl hf)
  | .fwUpdateBegin _ => .next (.runCmd h fun _ _ _ hf => .cmdFwBegin hf)
  | .fwUpdateChunk _ _ => .next (.runCmd h fun _ _ _ hf => .cmdFwChunk hf)
  | .fwUpdateEnd _ => .next (.runCmd h fun _ _ _ hf => .cmdFwEnd hf)
  | .fwActivate _ => .next (.runCmd h fun _ _ _ hf => .cmdFwActivate hf)
  | .fwCommit _ => .next (.runCmd h fun _ _ _ hf => .cmdFwCommit hf)
  | .fwStatus _ => .next (.runCmd h fun _ _ _ hf => .cmdFwStatus hf)
  | .secStageOpen _ => .next (.runCmd h fun _ _ _ hf => .cmdSecStage hf)
  | .secCertApply _ => .next (.runCmd h fun _ _ _ hf => .cmdCertApply hf)
  | .debugChallenge _ => .next (.runCmd h fun _ _ _ hf => .cmdDebugChallenge hf)
  | .debugUnlock _ => .next (.runCmd h fun _ _ _ hf => .cmdDebugUnlock hf)
  | .debugLock _ => .next (.runCmd h fun _ _ _ hf => .cmdDebugLock hf)
  | .keyList _ => .next (.runCmd h fun _ _ _ hf => .cmdKeyList hf)
  | .bootSelect => .next (.ite (.bootSelect h) h)
  | .recoveryGo _ _ _ => .next (.request h)
  | .bootWatchdog => .next (.ite (.releaseReset (.resetTo h)) h)
  | .aqiqueReady => h.execAqiqueReady
  | .lockstepMismatch _ => .next (.ite (.enterFault h) h)
  | .memStatus _ => .next (.runCmd h fun _ _ _ hf => .cmdMemStatus hf)
  | .memBucketSet _ => .next (.runCmd h fun _ _ _ hf => .cmdMemBucketSet hf)
  | .memHardList _ => .next (.runCmd h fun _ _ _ hf => .cmdMemHardList hf)
  | .calStoreInfo _ => .next (.runCmd h fun _ _ _ hf => .cmdCalInfo hf)
  | .calStageOpen _ => .next (.runCmd h fun _ _ _ hf => .cmdCalStage hf)
  | .calStoreWrite _ _ => .next (.runCmd h fun _ _ _ hf => .cmdCalWrite hf)
  | .eventRecordArrival => h.execEventRecordArrival
  | .flushAgeTimer => h.execFlushAgeTimer
  | .ringRecordWrite _ => h.execRingRecordWrite
  | .emergencyCopy => .next (.ite (.refreshEvr (.foldl h fun _ _ hf => .emergencyCopy hf)) h)
  | .recorderClockAlign => .next (.ite (.setEvr (.free h)) h)
  | .freezeLimit => .next (.ite (.thaw h) h)
  | .evrWinLatch _ => .next (.request h)
  | .evrFreeze _ => .next (.runCmd h fun _ _ _ hf => .cmdEvrFreeze hf)
  | .evrThaw _ => .next (.runCmd h fun _ _ _ hf => .cmdEvrThaw hf)
  | .evrStatus _ => .next (.runCmd h fun _ _ _ hf => .cmdEvrStatus hf)
  | .evrMark _ => .next (.runCmd h fun _ _ _ hf => .cmdEvrMark hf)
  | .evrMarkTimeout _ => .next (.ite (.finish h) h)
  | .powerOnResetRelease => h.execPowerOnResetRelease
  | .supplyLoss => .next (.put (.resetTo (.withPwr h)))
  | .pfailAssert => .next (.ite h (.ite (.raise h) (.pfailOn h)))
  | .pfailRelease => h.execPfailRelease
  | .resetNAssert => .next (.ite h (.ite (.withPwr h) (.resetTo (.withPwr h))))
  | .softwareReset => h.execSoftwareReset
  | .lpmodeChange _ => .next (.powerCheck (.putFlag h))
  | .lowPowerEntry => h.execLowPowerEntry
  | .pgLoss _ => .next (.ite (.enterFault (.log (.raise (.put h)))) h)
  | .penReleaseStep => .next (.penDropOne h)
  | .restartStepDone _ _ => h.execRestartStepDone
  | .restartStepTimeout _ _ _ => h.execRestartStepTimeout
  | .lineWakeAmTimeout _ => h.execLineWakeAmTimeout
  | .faultIslandOff => .next (.ite (.coreIslandsOff (.foldl (.withPwr h) fun _ _ hf => .clampChannel hf)) h)
  | .thmMeasurement _ _ => .next (.ite h (.measure (.setSensors h)))
  | .wearMeasure _ => h.execWearMeasure
  | .avsStep => h.execAvsStep
  | .lifeMinute => .next (.ite h (.refreshLife (.setWide (.withPwrLife (.withPwr h)))))
  | .lifeStore => .next (.ite (.withPwrLife h) h)
  | .pwrStatus _ => .next (.runCmd h fun _ _ _ hf => .cmdPwrStatus hf)
  | .pwrReset _ => .next (.runCmd h fun _ _ _ hf => .cmdPwrReset hf)
  | .pwrLowpwr _ => .next (.runCmd h fun _ _ _ hf => .cmdPwrLowpwr hf)
  | .pwrWearReport _ => .next (.runCmd h fun _ _ _ hf => .cmdPwrWearReport hf)
  | .pwrLifeReport _ => .next (.runCmd h fun _ _ _ hf => .cmdPwrLifeReport hf)
  | .thmStatus _ => .next (.runCmd h fun _ _ _ hf => .cmdThmStatus hf)
  | .thmSetThresh _ => .next (.runCmd h fun _ _ _ hf => .cmdThmSetThresh hf)
  | .thmMeasure _ _ => .next (.runCmd h fun _ _ _ hf => .cmdThmMeasure hf)
  | .thmSensorRetire _ => .next (.runCmd h fun _ _ _ hf => .cmdSensorRetire hf)
  | .hlBitSlip _ => h.execHlBitSlip
  | .ditherSample => h.execDitherSample
  | .resetNRelease => .next (.ite (.ite (.withPwr h) (.releaseReset (.withPwr h))) h)
  | .ltxClip _ _ _ => .next (.ite (.txSend (.txSymbols h)) h)

theorem NextWf.step (h : s.Wf) : NextWf (Machine.step s) := by
  unfold Machine.step
  split
  · exact .next h.idle
  · exact .exec ⟨h.inv⟩

/-- Settles O45, command by command: `NextWf.exec` has an arm for each, and `State.Wf.idle` is the step of an empty
queue. -/
theorem stepKeepsInvariant : Obligations.StepKeepsInvariant := by
  unfold Obligations.StepKeepsInvariant
  intro s t h e
  exact (NextWf.step ⟨h⟩ t e).inv

end Sys2Proof.Machine

/-!
PROOFS. An access to a block that is off (O52): its response may have to wait for a credit.
-/

namespace Sys2Proof.Machine

/-- The control welt to core die 1 is UP and line lane 0 is off, and no credit is left for a response on the channel to the
cobbler's island (R26). -/
def responseStarved : State :=
  (State.reset.put WELT_STAT.STATE 2 1 0).setChannel (.island 0x02 false) { credRsp := 0 }

/-- The gate has answered the cobbler's read, and the cobbler has no reply yet. -/
theorem reply_of_read_responseStarved {t : State}
    (e : Machine.exec (.rsLowWordRead .cobbler 0x10800004 false) responseStarved = .next t) :
    (t.reply .cobbler).resp = .ok := by
  cases e
  decide +kernel

/-- Refutes O52: a request that need not wait reaches its target, yet its response waits where a channel of the way back has
no credit (`State.issueTo`), so the master has no OFF yet. The cobbler reads line lane 0, which is off, and the channel to
its own island has no credit for responses. -/
theorem not_offIslandAnswersOff : ¬ Obligations.OffIslandAnswersOff := by
  unfold Obligations.OffIslandAnswersOff
  intro h
  obtain ⟨hread, -⟩ := h .cobbler 0x10800004 responseStarved (.line 0) 0x4 (by decide +kernel) (by decide +kernel)
    (by decide +kernel) (by decide +kernel) (by decide +kernel)
  obtain ⟨t, ht, hoff, -⟩ := hread false (by decide +kernel)
  rw [reply_of_read_responseStarved ht] at hoff
  exact absurd hoff (by decide)

end Sys2Proof.Machine

/-!
PROOFS. The results of register accesses (O7): the reserved bits of MGMT's clock enables.
-/

namespace Sys2Proof.Machine

/-- Bits [7:2] of CLK_EN are reserved on MGMT (R17): a write of the code's bits [8:0] leaves them 0. -/
theorem reg_clkEn_of_registerWrite_reset {t : State}
    (e : Machine.exec (.registerWrite .cobbler 0x4000108 0x1FF) State.reset = .next t) :
    t.reg .CLK_EN 0 0 = 0x103 := by
  cases e
  decide +kernel

/-- Refutes O7: a write follows the access codes of the register's instance (`RKey.access`), and on MGMT bits [7:2] of CLK_EN
are reserved (R17), while the statement takes the codes of the register, which hold bits [8:0]. Out of reset the cobbler
writes 0x1FF there and 0x103 stands. -/
theorem not_registerAccessResults : ¬ Obligations.RegisterAccessResults := by
  unfold Obligations.RegisterAccessResults
  rintro ⟨hwrite, -⟩
  obtain ⟨t, ht, hreg, -⟩ := hwrite .cobbler 0x4000108 0x1FF State.reset .pwr 0x108 ⟨.CLK_EN, 0, 0⟩ 0 false
    (by decide +kernel) (by decide) (by decide +kernel) (by decide) (by decide +kernel) (by decide) (by decide) (by decide)
  have hread := (reg_clkEn_of_registerWrite_reset ht).symm.trans hreg
  exact absurd hread (by decide +kernel)

end Sys2Proof.Machine

/-!
PROOFS. The results of waiting requests (O11): an interrupt summary is itself counted by the performance counters.
-/

namespace Sys2Proof.Machine

/-- The control welt to core die 1 is UP. A counter of the die's always-on island counts the messages that leave it (R136)
and is about to wrap, and the die's OVF cause is enabled (R135). -/
def summaryCounted : State :=
  (((State.reset.put WELT_STAT.STATE 2 1 0).put CNT_BANK_CTL.EN 1 0x1000).put CNT_SEL.EVENT 0x05 0x1000).setCnt .CNT_VAL
    (BitVec.ofNat 48 cntMax) 0x1000 |>.raise CNT_DIE_EN.OVF 1

/-- The summary shows the OVF cause that its own message has set. -/
theorem irqCoreA_of_interruptSummary_summaryCounted {t : State}
    (e : Machine.exec (.interruptSummary 0) summaryCounted = .next t) : t.reg .MGMT_IRQ_CORE_A = 0x80000 := by
  cases e
  decide +kernel

/-- Refutes O11 in its last clause: `execInterruptSummary` counts the summary's message at both islands (R136) before it
takes the die's bits, so a counter that wraps there sets a bit that the state before the command does not have. -/
theorem not_waitingRequestResults : ¬ Obligations.WaitingRequestResults := by
  unfold Obligations.WaitingRequestResults
  rintro ⟨-, -, -, -, hsummary⟩
  obtain ⟨t, ht, hreg⟩ := hsummary 0 summaryCounted (by decide +kernel) (by decide +kernel)
  rw [if_pos rfl, irqCoreA_of_interruptSummary_summaryCounted ht] at hreg
  exact absurd hreg (by decide +kernel)

end Sys2Proof.Machine

/-!
PROOFS. What every operation of the model leaves alone: the queue of commands (O46), and, for the clocks and the welt links
(O15, O14), the events already logged and the registers that show locks, links and the device state. One lemma per operation,
in the order of the model; from `Perf` on, the sections bear the names of the model's files.
-/

namespace Sys2Proof.Machine

open Host

/-- The registers of PLL locks, welt links and the device state (R17, R22, R31, R399). -/
def watched (r : Reg) : Bool :=
  match r with
  | .CLK_LOCK | .CLK_CAUSE | .WELT_CTL | .WELT_STAT | .WELT_CAUSE | .PWR_STATE => true
  | _ => false

/-- What an operation that leads from `s₀` to `s` has left alone: the queue of commands; where `ev` holds, the events on their
way to the recorder, which it may only add to; where `wt` holds, the watched registers. A lemma about an operation that writes
a watched register has `false` for `wt`, and the lemmas that use it inherit that. -/
structure Kept (s₀ s : State) (ev wt : Bool) : Prop where
  pending : s.pending = s₀.pending
  events : ev = true → s₀.events <+: s.events
  regs : wt = true → ∀ r, watched r = true → ∀ u i, s.reg r u i = s₀.reg r u i

variable {ev wt : Bool} {s₀ s : State}

theorem Kept.refl : Kept s s ev wt := ⟨rfl, fun _ => List.prefix_rfl, fun _ _ _ _ _ => rfl⟩

/-! ## Branches, loops and results -/

theorem Kept.via {x t : State} (hx : Kept s₀ x ev wt) (f : Kept s₀ x ev wt → Kept s₀ t ev wt) : Kept s₀ t ev wt := f hx

theorem Kept.snd {α : Type} {x : α} (h : Kept s₀ s ev wt) : Kept s₀ (x, s).2 ev wt := h

theorem Kept.ite {c : Prop} {d : Decidable c} {a b : State} (ha : Kept s₀ a ev wt) (hb : Kept s₀ b ev wt) :
    Kept s₀ (if c then a else b) ev wt := by
  split
  · exact ha
  · exact hb

theorem Kept.iteSnd {α : Type} {c : Prop} {d : Decidable c} {a b : α × State} (ha : Kept s₀ a.2 ev wt) (hb : Kept s₀ b.2 ev wt) :
    Kept s₀ (if c then a else b).2 ev wt := by
  split
  · exact ha
  · exact hb

theorem Kept.iteSnd2 {α β : Type} {c : Prop} {d : Decidable c} {a b : α × β × State} (ha : Kept s₀ a.2.2 ev wt)
    (hb : Kept s₀ b.2.2 ev wt) : Kept s₀ (if c then a else b).2.2 ev wt := by
  split
  · exact ha
  · exact hb

theorem Kept.iteSt {c : Prop} {d : Decidable c} {a b : BusOut} (ha : Kept s₀ a.st ev wt) (hb : Kept s₀ b.st ev wt) :
    Kept s₀ (if c then a else b).st ev wt := by
  split
  · exact ha
  · exact hb

theorem Kept.foldl {α : Type} {xs : List α} {f : State → α → State} (h : Kept s₀ s ev wt)
    (hf : ∀ t x, Kept s₀ t ev wt → Kept s₀ (f t x) ev wt) : Kept s₀ (xs.foldl f s) ev wt := by
  induction xs generalizing s with
  | nil => exact h
  | cons x xs ih => exact ih (hf s x h)

theorem Kept.foldlSnd {α β : Type} {xs : List β} {f : α × State → β → α × State} {y : α × State} (h : Kept s₀ y.2 ev wt)
    (hf : ∀ y x, Kept s₀ y.2 ev wt → Kept s₀ (f y x).2 ev wt) : Kept s₀ (xs.foldl f y).2 ev wt := by
  induction xs generalizing y with
  | nil => exact h
  | cons x xs ih => exact ih (hf y x h)

theorem Kept.of_pair {α : Type} {p : α × State} {x : α} {t : State} (e : p = (x, t)) (h : Kept s₀ p.2 ev wt) :
    Kept s₀ t ev wt := by
  subst e
  exact h

/-- A command answers a next state that has left alone what `Kept` says. -/
def NextKept (ev wt : Bool) (s₀ : State) (o : Outcome State Fault Refusal) : Prop := ∃ t, o = .next t ∧ Kept s₀ t ev wt

theorem NextKept.next (h : Kept s₀ s ev wt) : NextKept ev wt s₀ (.next s) := ⟨s, rfl, h⟩

/-- So has every outcome of an instruction of a last. -/
def OutKept (ev wt : Bool) (s₀ : State) : LOut → Prop
  | .done _ s | .goto _ _ s | .skip _ _ s | .stop _ s | .stall s | .trap _ _ s => Kept s₀ s ev wt

theorem OutKept.ite {c : Prop} {d : Decidable c} {a b : LOut} (ha : OutKept ev wt s₀ a) (hb : OutKept ev wt s₀ b) :
    OutKept ev wt s₀ (if c then a else b) := by
  split
  · exact ha
  · exact hb

/-- So has the body that an instruction word selects, from every state. -/
def PickKept (ev wt : Bool) (s₀ : State) : Option Body → Prop
  | some f => ∀ s y, Kept s₀ s ev wt → OutKept ev wt s₀ (f s y)
  | none => True

theorem PickKept.some {f : Body} (h : ∀ s y, Kept s₀ s ev wt → OutKept ev wt s₀ (f s y)) : PickKept ev wt s₀ (some f) := h

theorem PickKept.none : PickKept ev wt s₀ none := trivial

theorem PickKept.ite {c : Prop} {d : Decidable c} {a b : Option Body} (ha : PickKept ev wt s₀ a) (hb : PickKept ev wt s₀ b) :
    PickKept ev wt s₀ (if c then a else b) := by
  split
  · exact ha
  · exact hb

/-! ## New values of single fields -/

theorem Kept.withPwr {x : PwrSt} (h : Kept s₀ s ev wt) :
    Kept s₀ { s with pwr := x } ev wt := ⟨h.pending, h.events, h.regs⟩
theorem Kept.withI2c {x : I2cSt} (h : Kept s₀ s ev wt) :
    Kept s₀ { s with i2c := x } ev wt := ⟨h.pending, h.events, h.regs⟩
theorem Kept.withCal {x : CalSt} (h : Kept s₀ s ev wt) :
    Kept s₀ { s with cal := x } ev wt := ⟨h.pending, h.events, h.regs⟩
theorem Kept.withBoot {x : BootSt} (h : Kept s₀ s ev wt) :
    Kept s₀ { s with boot := x } ev wt := ⟨h.pending, h.events, h.regs⟩
theorem Kept.withSpi {x : SpiSt} (h : Kept s₀ s ev wt) :
    Kept s₀ { s with spi := x } ev wt := ⟨h.pending, h.events, h.regs⟩
theorem Kept.withWaiting {x : List Request} (h : Kept s₀ s ev wt) :
    Kept s₀ { s with waiting := x } ev wt := ⟨h.pending, h.events, h.regs⟩
theorem Kept.withMbx {x : MbxSt} (h : Kept s₀ s ev wt) :
    Kept s₀ { s with mbx := x } ev wt := ⟨h.pending, h.events, h.regs⟩
theorem Kept.withPsets {x : List PSet} (h : Kept s₀ s ev wt) :
    Kept s₀ { s with psets := x } ev wt := ⟨h.pending, h.events, h.regs⟩
theorem Kept.withStage {x : Option Stage} (h : Kept s₀ s ev wt) :
    Kept s₀ { s with stage := x } ev wt := ⟨h.pending, h.events, h.regs⟩
theorem Kept.withReplies {x : List (Nat × BusReply)} (h : Kept s₀ s ev wt) :
    Kept s₀ { s with replies := x } ev wt := ⟨h.pending, h.events, h.regs⟩
theorem Kept.withReader {x : ReaderSt} (h : Kept s₀ s ev wt) :
    Kept s₀ { s with reader := x } ev wt := ⟨h.pending, h.events, h.regs⟩
theorem Kept.withLife {x : LifeSt} (h : Kept s₀ s ev wt) :
    Kept s₀ { s with life := x } ev wt := ⟨h.pending, h.events, h.regs⟩
theorem Kept.withPllArmed {x : List Nat} (h : Kept s₀ s ev wt) :
    Kept s₀ { s with pllArmed := x } ev wt := ⟨h.pending, h.events, h.regs⟩
theorem Kept.withDraining {x : List Drain} (h : Kept s₀ s ev wt) :
    Kept s₀ { s with draining := x } ev wt := ⟨h.pending, h.events, h.regs⟩
theorem Kept.withAqReplies {x : List (Nat × Reply)} (h : Kept s₀ s ev wt) :
    Kept s₀ { s with aqReplies := x } ev wt := ⟨h.pending, h.events, h.regs⟩
theorem Kept.withSnaps {x : List Snap} (h : Kept s₀ s ev wt) :
    Kept s₀ { s with snaps := x } ev wt := ⟨h.pending, h.events, h.regs⟩
theorem Kept.withShadow {x : List (RKey × W48)} (h : Kept s₀ s ev wt) :
    Kept s₀ { s with shadow := x } ev wt := ⟨h.pending, h.events, h.regs⟩
theorem Kept.withRate {x : List (Nat × Nat)} (h : Kept s₀ s ev wt) :
    Kept s₀ { s with rate := x } ev wt := ⟨h.pending, h.events, h.regs⟩
theorem Kept.withRacks {x : List (Nat × RackSt)} (h : Kept s₀ s ev wt) :
    Kept s₀ { s with racks := x } ev wt := ⟨h.pending, h.events, h.regs⟩
theorem Kept.withOffLogged {x : List Nat} (h : Kept s₀ s ev wt) :
    Kept s₀ { s with offLogged := x } ev wt := ⟨h.pending, h.events, h.regs⟩
theorem Kept.withLasts {x : List (Nat × Last)} (h : Kept s₀ s ev wt) :
    Kept s₀ { s with lasts := x } ev wt := ⟨h.pending, h.events, h.regs⟩
theorem Kept.withFenced {x : List Nat} (h : Kept s₀ s ev wt) :
    Kept s₀ { s with fenced := x } ev wt := ⟨h.pending, h.events, h.regs⟩
theorem Kept.withEvr {x : EvrSt} (h : Kept s₀ s ev wt) :
    Kept s₀ { s with evr := x } ev wt := ⟨h.pending, h.events, h.regs⟩
theorem Kept.withDenied {x : List Nat} (h : Kept s₀ s ev wt) :
    Kept s₀ { s with denied := x } ev wt := ⟨h.pending, h.events, h.regs⟩
theorem Kept.withCmis {x : CmisSt} (h : Kept s₀ s ev wt) :
    Kept s₀ { s with cmis := x } ev wt := ⟨h.pending, h.events, h.regs⟩
theorem Kept.withPwrLife {x : PwrSt} {y : LifeSt} (h : Kept s₀ s ev wt) :
    Kept s₀ { s with pwr := x, life := y } ev wt := ⟨h.pending, h.events, h.regs⟩
theorem Kept.withPwrBoot {x : PwrSt} {y : BootSt} (h : Kept s₀ s ev wt) :
    Kept s₀ { s with pwr := x, boot := y } ev wt := ⟨h.pending, h.events, h.regs⟩
theorem Kept.withNowEvr {x : Nat} {y : EvrSt} (h : Kept s₀ s ev wt) :
    Kept s₀ { s with now := x, evr := y } ev wt := ⟨h.pending, h.events, h.regs⟩
theorem Kept.withMbxPwr {x : MbxSt} {y : PwrSt} (h : Kept s₀ s ev wt) :
    Kept s₀ { s with mbx := x, pwr := y } ev wt := ⟨h.pending, h.events, h.regs⟩
theorem Kept.withMode {x : ModeSt} (h : Kept s₀ s ev wt) :
    Kept s₀ { s with mode := x } ev wt := ⟨h.pending, h.events, h.regs⟩
theorem Kept.withCtl {x : MemSt} (h : Kept s₀ s ev wt) :
    Kept s₀ { s with ctl := x } ev wt := ⟨h.pending, h.events, h.regs⟩
theorem Kept.withSec {x : SecSt} (h : Kept s₀ s ev wt) :
    Kept s₀ { s with sec := x } ev wt := ⟨h.pending, h.events, h.regs⟩
theorem Kept.withBootSec {x : BootSt} {y : SecSt} (h : Kept s₀ s ev wt) :
    Kept s₀ { s with boot := x, sec := y } ev wt := ⟨h.pending, h.events, h.regs⟩
theorem Kept.withOpt {x : OptSt} (h : Kept s₀ s ev wt) :
    Kept s₀ { s with opt := x } ev wt := ⟨h.pending, h.events, h.regs⟩
theorem Kept.withMon {x : MonSt} (h : Kept s₀ s ev wt) :
    Kept s₀ { s with mon := x } ev wt := ⟨h.pending, h.events, h.regs⟩
theorem Kept.withTime {x : TimeSt} (h : Kept s₀ s ev wt) :
    Kept s₀ { s with time := x } ev wt := ⟨h.pending, h.events, h.regs⟩

/-- New events on their way. -/
theorem Kept.withEvents {x : List Event} (h : Kept s₀ s false wt) : Kept s₀ { s with events := x } false wt :=
  ⟨h.pending, nofun, h.regs⟩

theorem Kept.withEventsBoot {x : List Event} {y : BootSt} (h : Kept s₀ s false wt) :
    Kept s₀ { s with events := x, boot := y } false wt :=
  ⟨h.pending, nofun, h.regs⟩

/-! ## The shared operations -/

theorem Kept.addEvent {x : Event} (h : Kept s₀ s ev wt) : Kept s₀ { s with events := s.events ++ [x] } ev wt :=
  ⟨h.pending, fun hl => (h.events hl).trans (List.prefix_append _ _), h.regs⟩

theorem Kept.setRegAny {r v u i} (h : Kept s₀ s ev false) :
    Kept s₀ (s.setReg r v u i) ev false := ⟨h.pending, h.events, nofun⟩

theorem Kept.putAny {f v u i} (h : Kept s₀ s ev false) : Kept s₀ (s.put f v u i) ev false := h.setRegAny
theorem Kept.putFlagAny {f v u i} (h : Kept s₀ s ev false) : Kept s₀ (s.putFlag f v u i) ev false := h.setRegAny
theorem Kept.raiseAny {f u i} (h : Kept s₀ s ev false) : Kept s₀ (s.raise f u i) ev false := h.setRegAny
theorem Kept.setReg {r v u i} (h : Kept s₀ s ev wt) : Kept s₀ (s.setReg r v u i) ev (!watched r && wt) :=
  ⟨h.pending, h.events, fun hw r' hr' u' i' => by
    simp only [Bool.and_eq_true, Bool.not_eq_true'] at hw
    obtain ⟨hr, hw⟩ := hw
    rw [State.reg_setReg_reg s (by rintro rfl; simp_all), h.regs hw r' hr']⟩

theorem Kept.put {f v u i} (h : Kept s₀ s ev wt) : Kept s₀ (s.put f v u i) ev (!watched f.reg && wt) := h.setReg

theorem Kept.putFlag {f v u i} (h : Kept s₀ s ev wt) : Kept s₀ (s.putFlag f v u i) ev (!watched f.reg && wt) := h.setReg

theorem Kept.raise {f u i} (h : Kept s₀ s ev wt) : Kept s₀ (s.raise f u i) ev (!watched f.reg && wt) := h.setReg

theorem Kept.putBit {r n v u} (h : Kept s₀ s ev wt) : Kept s₀ (s.putBit r n v u) ev (!watched r && wt) := h.setReg

theorem Kept.setWide {r v u i} (h : Kept s₀ s ev wt) : Kept s₀ (s.setWide r v u i) ev wt := ⟨h.pending, h.events, h.regs⟩

theorem Kept.setCnt {r v u i} (h : Kept s₀ s ev wt) : Kept s₀ (s.setCnt r v u i) ev wt := ⟨h.pending, h.events, h.regs⟩

theorem Kept.log {code sev p0 p1 p2 p3} (h : Kept s₀ s ev wt) : Kept s₀ (s.log code sev p0 p1 p2 p3) ev wt := h.addEvent

theorem Kept.logRate {obj code sev p0 p1 p2 p3} (h : Kept s₀ s ev wt) :
    Kept s₀ (s.logRate obj code sev p0 p1 p2 p3) ev wt := by
  unfold State.logRate
  exact .ite (.withRate (.log h)) h

theorem Kept.free (h : Kept s₀ s ev wt) : Kept s₀ s.free.2 ev wt := ⟨h.pending, h.events, h.regs⟩

theorem Kept.cntOverflow {r u i} (h : Kept s₀ s ev wt) : Kept s₀ (s.cntOverflow r u i) ev wt := by
  unfold State.cntOverflow
  split
  · exact h
  · exact .logRate (.ite (.raise (.ite (.setReg h) h)) (.raise (.ite (.setReg h) h)))

/-- A counter's saturation sets no watched register. -/
def quietCnt (r : Reg) (u : Nat) : Bool := (satField r u).all (fun p => !watched p.1.reg)

theorem Kept.incAny {r u i n} (h : Kept s₀ s ev false) : Kept s₀ (s.inc r u i n) ev false := by
  unfold State.inc
  extract_lets
  split
  · exact .ite h (.ite (.setCnt h) (.raiseAny (.setCnt h)))
  · exact .ite (.setCnt h) (.cntOverflow (.setCnt h))

theorem Kept.inc {r u i n} (h : Kept s₀ s ev wt) : Kept s₀ (s.inc r u i n) ev (quietCnt r u && wt) := by
  cases hq : quietCnt r u with
  | false => exact .incAny ⟨h.pending, h.events, nofun⟩
  | true =>
    unfold State.inc
    extract_lets
    split
    · next f fu e =>
      have hf : watched f.reg = false := by simpa [quietCnt, e] using hq
      have hs : ∀ v, Kept s₀ ((s.setCnt r v u i).raise f fu) ev (true && wt) := fun v => by
        simpa [hf] using Kept.raise (f := f) (u := fu) (i := 0) (h.setCnt (r := r) (v := v) (u := u) (i := i))
      exact .ite h (.ite (.setCnt h) (hs _))
    · exact .ite (.setCnt h) (.cntOverflow (.setCnt h))

theorem Kept.bump {f u i} (h : Kept s₀ s ev wt) : Kept s₀ (s.bump f u i) ev (!watched f.reg && wt) := h.setReg

theorem Kept.setIsland {id v} (h : Kept s₀ s ev wt) : Kept s₀ (s.setIsland id v) ev wt := ⟨h.pending, h.events, h.regs⟩

theorem Kept.turnIsland {id' v} (h : Kept s₀ s ev wt) : Kept s₀ (s.turnIsland id' v) ev wt := by
  unfold State.turnIsland
  exact .ite (.withDraining (.setIsland h)) (.withDraining (.setIsland h))

theorem Kept.settleDrains (h : Kept s₀ s ev wt) : Kept s₀ s.settleDrains ev wt := by
  unfold State.settleDrains
  exact .foldl h fun _ _ hf => .ite (.turnIsland hf) hf

theorem Kept.setWord {a v} (h : Kept s₀ s ev wt) : Kept s₀ (s.setWord a v) ev wt := ⟨h.pending, h.events, h.regs⟩

theorem Kept.dropRange {lo hi} (h : Kept s₀ s ev wt) : Kept s₀ (s.dropRange lo hi) ev wt := ⟨h.pending, h.events, h.regs⟩

theorem Kept.initRange {lo hi} (h : Kept s₀ s ev wt) : Kept s₀ (s.initRange lo hi) ev wt := ⟨h.pending, h.events, h.regs⟩

theorem Kept.zeroRange {lo hi} (h : Kept s₀ s ev wt) : Kept s₀ (s.zeroRange lo hi) ev wt := ⟨h.pending, h.events, h.regs⟩

theorem lookup_filter {κ α : Type} [DecidableEq κ] (d : α) (k : κ) (keep : κ → Bool) (hk : keep k = true) (m : List (κ × α)) :
    lookup d k (m.filter fun p => keep p.1) = lookup d k m := by
  induction m with
  | nil => rfl
  | cons p m ih =>
    obtain ⟨k', v⟩ := p
    by_cases h : k' = k
    · subst h
      simp [hk, lookup]
    · by_cases h' : keep k' = true <;> simp [h', lookup, h, ih]

theorem Kept.wipe {rows u} (h : Kept s₀ s ev wt) :
    Kept s₀ (s.wipe rows u) ev (rows.all (fun r => !watched r.reg) && wt) :=
  ⟨h.pending, h.events, fun hw r hg u' i' => by
    rw [Bool.and_eq_true] at hw
    obtain ⟨hr, hw⟩ := hw
    rw [← h.regs hw r hg]
    refine lookup_filter _ _ (fun k : RKey => k.u != u || !(rows.any (fun r => r.reg == k.reg))) ?_ _
    have hn : rows.any (fun x => x.reg == r) = false := by
      simp only [List.all_eq_true, Bool.not_eq_true', List.any_eq_false, beq_iff_eq] at hr ⊢
      rintro x hx rfl
      simp [hr x hx] at hg
    simp [hn]⟩

theorem Kept.respond {m r lo hi} (h : Kept s₀ s ev wt) :
    Kept s₀ (s.respond m r lo hi) ev wt := ⟨h.pending, h.events, h.regs⟩

theorem Kept.setEyelet {e v} (h : Kept s₀ s ev wt) : Kept s₀ (s.setEyelet e v) ev wt := ⟨h.pending, h.events, h.regs⟩

theorem Kept.filterCnts {keep : RKey × W48 → Bool} (h : Kept s₀ s ev wt) :
    Kept s₀ { s with cnts := s.cnts.filter keep } ev wt := ⟨h.pending, h.events, h.regs⟩

theorem Kept.setSensors {n v} (h : Kept s₀ s ev wt) :
    Kept s₀ { s with sensors := s.sensors.set n v } ev wt := ⟨h.pending, h.events, h.regs⟩

theorem Kept.finish {t r} (h : Kept s₀ s ev wt) : Kept s₀ (s.finish t r) ev wt := by
  unfold State.finish
  exact .ite (.withAqReplies h) (.ite (.setEyelet h) h)

theorem Kept.runCmd {e cls cmd} {f : Handler} (h : Kept s₀ s ev wt) (hf : ∀ p t s, Kept s₀ s ev wt → Kept s₀ (f p t s).2 ev wt) :
    Kept s₀ (s.runCmd e cls cmd f) ev wt := by
  unfold State.runCmd
  refine .ite ?_ h
  extract_lets t
  have hs := hf (paramsOf (s.eyelet e).desc) t _
    (h.setEyelet (e := e) (v := { s.eyelet e with started := true }))
  split
  · next _ _ e => exact .finish (.of_pair e hs)
  · next _ e => exact .of_pair e hs

/-! ## Perf -/

theorem Kept.perfPriv {u n g} (h : Kept s₀ s ev wt) : Kept s₀ (s.perfPriv u n g).2 ev wt := by
  unfold State.perfPriv
  split
  · exact h
  · split
    · exact h
    · exact h
    · exact h
    · exact .free h

theorem Kept.perfOne {u code g k n} (h : Kept s₀ s ev wt) : Kept s₀ (s.perfOne u code g k n) ev wt := by
  unfold State.perfOne
  exact .ite (.ite (.inc (.perfPriv h)) (.perfPriv h)) h

theorem Kept.perf {u code g k} (h : Kept s₀ s ev wt) : Kept s₀ (s.perf u code g k) ev wt := by
  unfold State.perf
  exact .ite h (.foldl h fun _ _ hf => .perfOne hf)

/-! ## Access -/

theorem Kept.capture447 {m a r} (h : Kept s₀ s ev wt) : Kept s₀ (s.capture447 m a r) ev wt := by
  unfold State.capture447
  exact .ite h (.setReg (.setReg h))

theorem Kept.captureSpi {m a r} (h : Kept s₀ s ev wt) : Kept s₀ (s.captureSpi m a r) ev wt := by
  unfold State.captureSpi
  exact .ite h (.raise (.setReg (.raise (.put h))))

theorem Kept.answer {m a r lo hi} (h : Kept s₀ s ev wt) : Kept s₀ (s.answer m a r lo hi) ev wt := by
  unfold State.answer
  exact .respond (.captureSpi (.capture447 h))

theorem Kept.gateOff {m op a} (h : Kept s₀ s ev wt) : Kept s₀ (s.gateOff m op a) ev wt := by
  unfold State.gateOff
  exact .ite (.perf h) (.log (.withOffLogged (.perf h)))

theorem Kept.refuse {m a} (h : Kept s₀ s ev wt) : Kept s₀ (s.refuse m a) ev wt := by
  unfold State.refuse
  extract_lets s1
  have h1 : Kept s₀ s1 ev wt := .respond (.captureSpi h)
  refine .ite ?_ h1
  exact .ite (.inc (.raise h1)) (.log (.withDenied (.inc (.raise h1))))

theorem Kept.openWindow {w base limit flags} (h : Kept s₀ s ev wt) : Kept s₀ (s.openWindow w base limit flags) ev wt := by
  unfold State.openWindow
  exact .put (.setReg (.setReg h))

theorem Kept.closeWindow {w} (h : Kept s₀ s ev wt) : Kept s₀ (s.closeWindow w) ev wt := by
  unfold State.closeWindow
  exact .put (.put h)

theorem Kept.openStage {use len} (h : Kept s₀ s ev wt) : Kept s₀ (s.openStage use len).2 ev wt := by
  unfold State.openStage
  exact .withStage (.openWindow (.initRange (.free h)))

theorem Kept.closeStage (h : Kept s₀ s ev wt) : Kept s₀ s.closeStage ev wt := by
  unfold State.closeStage
  exact .withStage (.closeWindow h)

/-! ## Ports -/

theorem Kept.setLine {k v} (h : Kept s₀ s ev wt) : Kept s₀ (s.setLine k v) ev wt := ⟨h.pending, h.events, h.regs⟩

theorem Kept.endCalRx {k code check} (h : Kept s₀ s ev wt) : Kept s₀ (s.endCalRx k code check) ev wt := by
  unfold State.endCalRx
  split
  · exact h
  · refine .finish (.ite (.log (.raise (.setReg (.put (.put (.putFlag (.setLine h))))))) ?_)
    exact .log (.inc (.raise (.ite (.setReg (.put (.put (.putFlag (.setLine h))))) (.foldl (.setReg (.put (.put
        (.putFlag (.setLine h))))) fun _ _ hf => .setReg hf))))

theorem Kept.endCalTx {k code check} (h : Kept s₀ s ev wt) : Kept s₀ (s.endCalTx k code check) ev wt := by
  unfold State.endCalTx
  split
  · exact h
  · refine .finish (.ite (.log (.raise (.setReg (.put (.put (.putFlag (.setLine h))))))) ?_)
    exact .log (.inc (.raise (.ite (.setReg (.put (.put (.putFlag (.setLine h))))) (.foldl (.setReg (.put (.put
        (.putFlag (.setLine h))))) fun _ _ hf => .setReg hf))))

theorem Kept.monitorCalRx {k} (h : Kept s₀ s ev wt) : Kept s₀ (s.monitorCalRx k) ev wt := by
  unfold State.monitorCalRx
  exact .ite h (.endCalRx h)

theorem Kept.refreshAmp {k} (h : Kept s₀ s ev wt) : Kept s₀ (s.refreshAmp k) ev wt := by
  unfold State.refreshAmp
  exact .ite (.put h) h

theorem Kept.setTxActive {k xs} (h : Kept s₀ s ev wt) : Kept s₀ (s.setTxActive k xs) ev wt := by
  unfold State.setTxActive
  exact .foldl (.foldl h fun _ _ hf => .put hf) fun _ _ hf1 => .put hf1

theorem Kept.endRamp {k} (h : Kept s₀ s ev wt) : Kept s₀ (s.endRamp k) ev wt := by
  unfold State.endRamp
  split
  · exact h
  · exact .refreshAmp (.raise (.put (.setLine (.setTxActive h))))

theorem Kept.snapTxTrims {k} (h : Kept s₀ s ev wt) : Kept s₀ (s.snapTxTrims k) ev wt := by
  unfold State.snapTxTrims
  exact .foldl h fun _ _ hf => .setReg hf

theorem Kept.setInsl {k v} (h : Kept s₀ s ev wt) : Kept s₀ (s.setInsl k v) ev wt := ⟨h.pending, h.events, h.regs⟩

theorem Kept.insRamp {k up} (h : Kept s₀ s ev wt) : Kept s₀ (s.insRamp k up) ev wt := by
  unfold State.insRamp
  extract_lets
  split
  · exact .ite h (.setInsl h)
  · exact .ite h (.putFlag (.putFlag (.setInsl h)))

theorem Kept.insPause {k} (h : Kept s₀ s ev wt) : Kept s₀ (s.insPause k) ev wt := by
  unfold State.insPause
  exact .ite (.insRamp (.log (.raise (.putFlag h)))) h

theorem Kept.startGrid {k} (h : Kept s₀ s ev wt) : Kept s₀ (s.startGrid k) ev wt := by
  unfold State.startGrid
  exact .setInsl (.free h)

theorem Kept.insRelease {k} (h : Kept s₀ s ev wt) : Kept s₀ (s.insRelease k) ev wt := by
  unfold State.insRelease
  exact .ite (.ite (.insPause (.startGrid h)) (.insRamp (.startGrid h))) h

theorem Kept.refreshLine {k} (h : Kept s₀ s ev wt) : Kept s₀ (s.refreshLine k) ev wt := by
  unfold State.refreshLine
  refine .ite ?_ ?_
  · exact .snapTxTrims (.endCalTx (.endRamp (.log (.raise (.putFlag (.put h))))))
  · exact .ite (.insRelease (.log (.raise (.putFlag (.setLine (.put h)))))) (.put h)

theorem Kept.refreshLines {ks} (h : Kept s₀ s ev wt) : Kept s₀ (s.refreshLines ks) ev wt := by
  unfold State.refreshLines
  exact .foldl h fun _ _ hf => .refreshLine hf

theorem Kept.refreshHost {j} (h : Kept s₀ s ev wt) : Kept s₀ (s.refreshHost j) ev wt := by
  unfold State.refreshHost
  exact .putFlag (.put h)

theorem Kept.refreshHosts {js} (h : Kept s₀ s ev wt) : Kept s₀ (s.refreshHosts js) ev wt := by
  unfold State.refreshHosts
  exact .foldl h fun _ _ hf => .refreshHost hf

theorem Kept.putPort {p st reason} (h : Kept s₀ s ev wt) : Kept s₀ (s.putPort p st reason) ev wt := h.withMode

theorem Kept.setPort {p st reason} (h : Kept s₀ s ev wt) : Kept s₀ (s.setPort p st reason) ev wt := by
  unfold State.setPort
  refine .ite h ?_
  exact .refreshHosts (.refreshLines (.ite (.foldl (.log (.putPort h)) fun _ _ hf => .setReg hf) (.log (.putPort h))))

theorem Kept.restPort {p reason} (h : Kept s₀ s ev wt) : Kept s₀ (s.restPort p reason) ev wt := by
  unfold State.restPort
  exact .ite (.setPort h) (.ite (.setPort h) (.ite (.setPort h) (.ite (.setPort h) (.setPort h))))

theorem Kept.refreshDuty {k} (h : Kept s₀ s ev wt) : Kept s₀ (s.refreshDuty k) ev wt := by
  unfold State.refreshDuty
  exact .foldl (.put h) fun _ _ hf => .put hf

theorem Kept.startFade {k f} (h : Kept s₀ s ev wt) : Kept s₀ (s.startFade k f) ev wt := by
  unfold State.startFade
  exact .setLine h

theorem Kept.refreshOptions {k} (h : Kept s₀ s ev wt) : Kept s₀ (s.refreshOptions k) ev wt := by
  unfold State.refreshOptions
  refine .ite ?_ ?_
  · exact .ite h (.log (.raise (.raise (.ite (.put (.startFade (.putFlag h))) (.putFlag h)))))
  · exact .via (.ite (.log (.raise (.put h))) h) fun h1 => .ite (.ite h1 (.startFade h1)) (.putFlag h1)

theorem Kept.refreshThrottle {d} (h : Kept s₀ s ev wt) : Kept s₀ (s.refreshThrottle d) ev wt := by
  unfold State.refreshThrottle
  exact .foldl h fun _ _ hf => .refreshDuty (.refreshOptions hf)

/-! ## Links -/

theorem Kept.insMsgDone {k code m} (h : Kept s₀ s ev wt) : Kept s₀ (s.insMsgDone k code m) ev wt := by
  unfold State.insMsgDone
  exact .finish (.ite (.raise (.put h)) (.log (.inc (.raise (.put h)))))

theorem Kept.insFlush {k code} (h : Kept s₀ s ev wt) : Kept s₀ (s.insFlush k code) ev wt := by
  unfold State.insFlush
  exact .foldl (.setInsl h) fun _ _ hf => .insMsgDone hf

theorem Kept.setRxOk {k v} (h : Kept s₀ s ev wt) : Kept s₀ (s.setRxOk k v) ev wt := by
  unfold State.setRxOk
  exact .ite h (.setInsl h)

theorem Kept.insLeave {k st reason code} (h : Kept s₀ s ev wt) : Kept s₀ (s.insLeave k st reason code) ev wt := by
  unfold State.insLeave
  refine .ite ?_ (.put h)
  exact .insFlush (.setInsl (.setRxOk (.putFlag (.setInsl (.ite (.raise (.put h)) (.log (.raise (.put h))))))))

theorem Kept.insRxStop {k} (h : Kept s₀ s ev wt) : Kept s₀ (s.insRxStop k) ev wt := by
  unfold State.insRxStop
  exact .ite h (.setRxOk (.putFlag (.insLeave h)))

theorem Kept.insSeed {k} (h : Kept s₀ s ev wt) : Kept s₀ (s.insSeed k) ev wt := by
  unfold State.insSeed
  exact .setInsl (.put h)

theorem Kept.insAcquire {k} (h : Kept s₀ s ev wt) : Kept s₀ (s.insAcquire k) ev wt := by
  unfold State.insAcquire
  exact .ite (.log (.raise (.insSeed h))) (.insSeed h)

theorem Kept.insRxStart {k} (h : Kept s₀ s ev wt) : Kept s₀ (s.insRxStart k) ev wt := by
  unfold State.insRxStart
  exact .ite (.insAcquire h) h

theorem Kept.startSeq {num obj step} (h : Kept s₀ s ev wt) : Kept s₀ (s.startSeq num obj step) ev wt := by
  unfold State.startSeq
  exact .ite h (.withPwr h)

theorem Kept.endSeq {num obj} (h : Kept s₀ s ev wt) : Kept s₀ (s.endSeq num obj) ev wt := by
  unfold State.endSeq
  exact .withPwr h

theorem Kept.refreshLineIsland {k} (h : Kept s₀ s ev wt) : Kept s₀ (s.refreshLineIsland k) ev wt := by
  unfold State.refreshLineIsland
  exact .ite (.turnIsland h) h

theorem Kept.refreshHostIsland {j} (h : Kept s₀ s ev wt) : Kept s₀ (s.refreshHostIsland j) ev wt := by
  unfold State.refreshHostIsland
  exact .ite (.turnIsland h) h

theorem Kept.wakeLineRx {k} (h : Kept s₀ s ev wt) : Kept s₀ (s.wakeLineRx k) ev wt := by
  unfold State.wakeLineRx
  exact .ite (.refreshLineIsland (.startSeq h)) h

theorem Kept.wakeLineTx {k} (h : Kept s₀ s ev wt) : Kept s₀ (s.wakeLineTx k) ev wt := by
  unfold State.wakeLineTx
  exact .ite (.refreshLineIsland (.startSeq h)) h

theorem Kept.wakeHostRx {j} (h : Kept s₀ s ev wt) : Kept s₀ (s.wakeHostRx j) ev wt := by
  unfold State.wakeHostRx
  exact .ite (.refreshHostIsland (.startSeq h)) h

theorem Kept.wakeHostTx {j} (h : Kept s₀ s ev wt) : Kept s₀ (s.wakeHostTx j) ev wt := by
  unfold State.wakeHostTx
  exact .ite (.refreshHost (.put (.refreshHostIsland (.startSeq h)))) h

theorem Kept.wakeHostRxPort {j} (h : Kept s₀ s ev wt) : Kept s₀ (s.wakeHostRxPort j) ev wt := by
  unfold State.wakeHostRxPort
  split
  · exact h
  · exact .foldl h fun _ _ hf => .wakeHostRx hf

theorem Kept.setFec {p v} (h : Kept s₀ s ev wt) : Kept s₀ (s.setFec p v) ev wt := ⟨h.pending, h.events, h.regs⟩

theorem Kept.setDir {p fromHost v} (h : Kept s₀ s ev wt) : Kept s₀ (s.setDir p fromHost v) ev wt := by
  unfold State.setDir
  exact .setFec h

theorem Kept.putPcs {p fromHost i xs} (h : Kept s₀ s ev wt) : Kept s₀ (s.putPcs p fromHost i xs) ev wt := by
  unfold State.putPcs
  exact .setDir h

theorem Kept.refreshAlign {p} (h : Kept s₀ s ev wt) : Kept s₀ (s.refreshAlign p) ev wt := by
  unfold State.refreshAlign
  refine .ite ?_ (.ite (.setPort (.setFec h)) (.setFec h))
  exact .ite (.setPort (.log (.raise (.setFec h)))) (.log (.raise (.setFec h)))

theorem Kept.portTo {p st reason} (h : Kept s₀ s ev wt) : Kept s₀ (s.portTo p st reason) ev wt := by
  unfold State.portTo
  exact .refreshAlign (.setPort h)

theorem Kept.portRest {p reason} (h : Kept s₀ s ev wt) : Kept s₀ (s.portRest p reason) ev wt := by
  unfold State.portRest
  exact .refreshAlign (.restPort h)

theorem Kept.putAmLine {p i v} (h : Kept s₀ s ev wt) : Kept s₀ (s.putAmLine p i v) ev wt := by
  unfold State.putAmLine
  exact .putFlag (.put h)

theorem Kept.amLostLine {k} (h : Kept s₀ s ev wt) : Kept s₀ (s.amLostLine k) ev wt := by
  unfold State.amLostLine
  split
  · exact h
  · refine .ite ?_ h
    exact .via (.ite (.inc (.putPcs (.putAmLine h))) (.putPcs (.putAmLine h))) fun h1 => .refreshAlign
        (.monitorCalRx (.ite (.ite (.raise h1) h1) (.log (.ite (.raise h1) h1))))

theorem Kept.amLostHost {j} (h : Kept s₀ s ev wt) : Kept s₀ (s.amLostHost j) ev wt := by
  unfold State.amLostHost
  split
  · exact h
  · refine .ite ?_ h
    exact .via (.putPcs (.put h)) fun h1 => .refreshAlign (.ite (.ite (.raise h1) h1) (.log (.ite (.raise h1) h1)))

theorem Kept.innerLost {k} (h : Kept s₀ s ev wt) : Kept s₀ (s.innerLost k) ev wt := by
  unfold State.innerLost
  split
  · exact h
  · exact .ite (.amLostLine (.ite (.put h) (.log (.put h)))) (.amLostLine h)

theorem Kept.snapRxTrims {k} (h : Kept s₀ s ev wt) : Kept s₀ (s.snapRxTrims k) ev wt := by
  unfold State.snapRxTrims
  exact .foldl h fun _ _ hf => .setReg hf

theorem Kept.cdrLostLine {k} (h : Kept s₀ s ev wt) : Kept s₀ (s.cdrLostLine k) ev wt := by
  unfold State.cdrLostLine
  refine .ite ?_ h
  exact .insRxStop (.snapRxTrims (.monitorCalRx (.ite (.inc (.raise (.putFlag h))) (.log (.inc (.raise (.putFlag
      h)))))))

theorem Kept.dozeLineRx {k} (h : Kept s₀ s ev wt) : Kept s₀ (s.dozeLineRx k) ev wt := by
  unfold State.dozeLineRx
  exact .refreshLineIsland (.insRxStop (.innerLost (.cdrLostLine (.putFlag h))))

theorem Kept.cdrLostHost {j} (h : Kept s₀ s ev wt) : Kept s₀ (s.cdrLostHost j) ev wt := by
  unfold State.cdrLostHost
  refine .ite ?_ h
  exact .ite (.inc (.raise (.putFlag (.putFlag h)))) (.log (.inc (.raise (.putFlag (.putFlag h)))))

/-! ## Fec -/

theorem Kept.execInnerLockSet {k blocks} (h : Kept s₀ s ev wt) :
    NextKept ev wt s₀ (Machine.execInnerLockSet k blocks s) := by
  unfold Machine.execInnerLockSet
  refine .next ?_
  split
  · exact h
  · exact .ite (.put h) h

theorem Kept.execInnerLockClear {k blocks} (h : Kept s₀ s ev wt) :
    NextKept ev wt s₀ (Machine.execInnerLockClear k blocks s) := by
  unfold Machine.execInnerLockClear
  refine .next ?_
  split
  · exact h
  · exact .ite (.innerLost h) h

theorem Kept.execInnerCodeword {k word rel lesser} (h : Kept s₀ s ev wt) :
    NextKept ev wt s₀ (Machine.execInnerCodeword k word rel
    lesser s) := by
  unfold Machine.execInnerCodeword
  refine .next ?_
  split
  · exact h
  · refine .ite ?_ h
    split
    refine .ite ?_ (.setLine h)
    split <;> exact .inc (.setLine h)

theorem Kept.execAmLockSet {host n lanes} (h : Kept s₀ s ev wt) :
    NextKept ev wt s₀ (Machine.execAmLockSet host n lanes s) := by
  unfold Machine.execAmLockSet
  refine .next (.ite ?_ ?_)
  · split
    · exact h
    · exact .ite (.refreshAlign (.put (.putPcs h))) h
  · split
    · exact h
    · exact .ite (.refreshAlign (.putAmLine (.putPcs h))) h

theorem Kept.markCodeword {p fromHost} (h : Kept s₀ s ev false) : Kept s₀ (s.markCodeword p fromHost) ev false := by
  unfold State.markCodeword
  exact .ite (.raise (.incAny h)) (.ite (.setDir (.logRate (.raise (.incAny h)))) (.setDir (.raise (.incAny h))))

theorem Kept.pushBlocks {p fromHost bs} (h : Kept s₀ s ev wt) : Kept s₀ (s.pushBlocks p fromHost bs) ev wt := by
  unfold State.pushBlocks
  exact .foldl h fun _ _ hf => .setDir hf

theorem Kept.execCodewordDecode {p fromHost errors blocks} (h : Kept s₀ s ev false) :
    NextKept ev false s₀ (Machine.execCodewordDecode p
    fromHost errors blocks s) := by
  unfold Machine.execCodewordDecode
  refine .next (.ite ?_ h)
  extract_lets _ _ _ _ s1
  have h1 : Kept s₀ s1 ev false := .ite (.pushBlocks (.setDir h)) (.setDir h)
  refine .ite h1 (.ite (.markCodeword (.incAny h1)) (.ite (.incAny h1) ?_))
  refine .foldl (.ite (.incAny (.incAny (.incAny h1))) (.incAny (.incAny (.incAny (.incAny h1))))) fun _ _ hf => ?_
  split
  · exact .incAny hf
  · exact hf

theorem Kept.slip {p} (h : Kept s₀ s ev wt) : Kept s₀ (s.slip p) ev wt := by
  unfold State.slip
  exact .ite (.logRate (.raise (.inc h))) h

theorem Kept.execMonitorSlip {k} (h : Kept s₀ s ev wt) : NextKept ev wt s₀ (Machine.execMonitorSlip k s) := by
  unfold Machine.execMonitorSlip
  refine .next ?_
  split
  · exact h
  · exact .ite h (.slip h)

theorem Kept.refreshSkewOver {p} (h : Kept s₀ s ev wt) : Kept s₀ (s.refreshSkewOver p) ev wt := by
  unfold State.refreshSkewOver
  exact .putFlag (.putFlag h)

theorem Kept.execSkewMeasurement {p fromHost arrivals fill} (h : Kept s₀ s ev false) :
    NextKept ev false s₀ (Machine.execSkewMeasurement p
    fromHost arrivals fill s) := by
  unfold Machine.execSkewMeasurement
  refine .next (.ite ?_ h)
  exact .via (.refreshSkewOver (.setDir (.ite h (.put h)))) fun h1 => .refreshAlign (.ite (.ite (.putFlagAny h1) (.log
      (.inc (.raise (.putFlagAny h1))))) (.putAny (.setDir (.putFlagAny h1))))

theorem Kept.execWakeFrameDiscard {p fromHost len} (h : Kept s₀ s ev wt) :
    NextKept ev wt s₀ (Machine.execWakeFrameDiscard p fromHost
    len s) := by
  unfold Machine.execWakeFrameDiscard
  exact .next (.ite (.ite (.setDir h) (.ite (.inc (.raise (.setDir h))) (.raise (.setDir h)))) h)

theorem Kept.endRestart {p fromHost} (h : Kept s₀ s ev wt) : Kept s₀ (s.endRestart p fromHost) ev wt := by
  unfold State.endRestart
  exact .ite h (.ite (.setDir h) (.log (.setDir h)))

theorem Kept.statLatch {p} (h : Kept s₀ s ev wt) : Kept s₀ (s.statLatch p) ev wt := by
  unfold State.statLatch
  exact .withShadow h

theorem Kept.statClear {p} (h : Kept s₀ s ev wt) : Kept s₀ (s.statClear p) ev wt := by
  unfold State.statClear
  exact .setFec (.filterCnts h)

theorem Kept.statCtlWrite {p data} (h : Kept s₀ s ev wt) : Kept s₀ (s.statCtlWrite p data) ev wt := by
  unfold State.statCtlWrite
  exact .ite (.statClear (.ite (.statLatch h) h)) (.ite (.statLatch h) h)

theorem Kept.injCtlWrite {p data} (h : Kept s₀ s ev wt) : Kept s₀ (s.injCtlWrite p data) ev wt := by
  unfold State.injCtlWrite
  exact .ite (.setFec (.setReg h)) (.raise h)

theorem Kept.refreshPool {d} (h : Kept s₀ s ev wt) : Kept s₀ (s.refreshPool d) ev wt := by
  unfold State.refreshPool
  exact .put (.put (.put h))

theorem Kept.allocGranule {d p use lane index} (h : Kept s₀ s ev wt) :
    Kept s₀ (s.allocGranule d p use lane index) ev wt := by
  unfold State.allocGranule
  split
  · exact h
  · exact .initRange (.setReg h)

theorem Kept.allocPort {p uses} (h : Kept s₀ s ev wt) : Kept s₀ (s.allocPort p uses) ev wt := by
  unfold State.allocPort
  exact .refreshPool (.foldl h fun _ _ hf => .allocGranule hf)

theorem Kept.releasePort {p uses} (h : Kept s₀ s ev wt) : Kept s₀ (s.releasePort p uses) ev wt := by
  unfold State.releasePort
  exact .refreshPool (.foldl h fun _ _ hf => .ite (.setReg hf) hf)

theorem Kept.fence {d g} (h : Kept s₀ s ev wt) : Kept s₀ (s.fence d g) ev wt := by
  unfold State.fence
  exact .ite h (.log (.refreshPool (.raise (.withFenced h))))

theorem Kept.cmdStatLatch {p x} (h : Kept s₀ s ev wt) : Kept s₀ (Machine.cmdStatLatch p x s).2 ev wt := by
  unfold Machine.cmdStatLatch
  exact .iteSnd h (.iteSnd h (.iteSnd h (.snd (.statCtlWrite h))))

theorem Kept.cmdPoolStatus {p x} (h : Kept s₀ s ev wt) : Kept s₀ (Machine.cmdPoolStatus p x s).2 ev wt := by
  unfold Machine.cmdPoolStatus
  exact .iteSnd h h

theorem Kept.cmdSkewReport {p x} (h : Kept s₀ s ev wt) : Kept s₀ (Machine.cmdSkewReport p x s).2 ev wt := by
  unfold Machine.cmdSkewReport
  exact .iteSnd h (.iteSnd h (.iteSnd h h))

/-! ## Memory -/

theorem Kept.loseBuried {id} (h : Kept s₀ s ev wt) : Kept s₀ (s.loseBuried id) ev wt := ⟨h.pending, h.events, h.regs⟩

theorem Kept.setTracker {die v} (h : Kept s₀ s ev wt) : Kept s₀ (s.setTracker die v) ev wt := h.withCtl

theorem Kept.untrack {die a} (h : Kept s₀ s ev wt) : Kept s₀ (s.untrack die a) ev wt := by
  unfold State.untrack
  exact .setTracker h

theorem Kept.hardError {die region a} (h : Kept s₀ s ev wt) : Kept s₀ (s.hardError die region a) ev wt := by
  unfold State.hardError
  extract_lets _ _ _ _ s1
  have h1 : Kept s₀ s1 ev wt := .raise (.ite (.put (.setReg h)) (.raise h))
  refine .ite ?_ ?_
  · exact .ite (.log h1) (.ite (.log (.withCtl h1)) (.log (.log h1)))
  · exact .ite (.log (.withCtl h1)) (.ite (.log (.fence h1)) (.log h1))

theorem Kept.track {die region a} (h : Kept s₀ s ev wt) : Kept s₀ (s.track die region a) ev wt := by
  unfold State.track
  extract_lets
  split
  · exact .setTracker h
  · exact .ite (.hardError (.untrack h)) (.setTracker h)

theorem Kept.countCorrected {a} (h : Kept s₀ s ev wt) : Kept s₀ (s.countCorrected a) ev wt := by
  unfold State.countCorrected
  split
  · exact h
  · exact .track (.ite (.log (.raise (.bump (.put (.perf (.inc h)))))) (.put (.perf (.inc h))))

theorem Kept.countUncorrectable {a src kind poison} (h : Kept s₀ s ev wt) :
    Kept s₀ (s.countUncorrectable a src kind poison) ev wt := by
  unfold State.countUncorrectable
  split
  · exact h
  · exact .logRate (.ite (.raise (.inc h)) (.raise (.putFlag (.putFlag (.put (.put (.setReg (.raise (.inc h)))))))))

theorem Kept.writeBack {a d} (h : Kept s₀ s ev wt) : Kept s₀ (s.writeBack a d) ev wt := by
  unfold State.writeBack
  exact .ite (.ite h (.withCtl h)) (.setWord h)

theorem Kept.readWord {a src kind} (h : Kept s₀ s ev wt) : Kept s₀ (s.readWord a src kind).2 ev wt := by
  unfold State.readWord
  split
  · split
    · exact .snd (.untrack h)
    · exact h
  · exact .snd (.writeBack (.countCorrected h))
  · exact .snd (.countUncorrectable h)
  · exact .snd (.countUncorrectable h)

theorem Kept.readWords {as} (h : Kept s₀ s ev wt) : Kept s₀ (s.readWords as).2 ev wt := by
  induction as generalizing s with
  | nil => exact h
  | cons a as ih =>
    rw [State.readWords]
    split
    next e =>
    split
    next e' =>
    have ht : Kept s₀ _ ev wt := .of_pair e' (ih (.of_pair e h.readWord))
    split
    · exact ht
    · exact ht

theorem Kept.writeWord {a d} (h : Kept s₀ s ev wt) : Kept s₀ (s.writeWord a d) ev wt := by
  unfold State.writeWord
  extract_lets
  split
  · exact .untrack (.setWord h)
  · exact .setWord h

theorem Kept.mergeWord {a d be src} (h : Kept s₀ s ev wt) : Kept s₀ (s.mergeWord a d be src).2 ev wt := by
  unfold State.mergeWord
  refine .iteSnd (.snd (.writeWord h)) ?_
  split
  · exact .snd (.writeWord h)
  · exact .snd (.setWord (.countCorrected h))
  · exact .snd (.setWord (.countUncorrectable h))
  · exact .snd (.setWord (.countUncorrectable h))

/-! ## Operands -/

theorem Kept.setLast {r l v} (h : Kept s₀ s ev wt) : Kept s₀ (s.setLast r l v) ev wt := by
  unfold State.setLast
  exact .withLasts h

theorem Kept.setRack {r v} (h : Kept s₀ s ev wt) : Kept s₀ (s.setRack r v) ev wt := by
  unfold State.setRack
  exact .withRacks h

theorem Kept.nextPtr {y n mode} (h : Kept s₀ s ev wt) : Kept s₀ (s.nextPtr y n mode).2 ev wt := by
  unfold State.nextPtr
  refine .iteSnd h ?_
  split
  · exact h
  · exact .free h

theorem Kept.readAt {r l y n} (h : Kept s₀ s ev wt) : Kept s₀ (s.readAt r l y n).2 ev wt := by
  unfold State.readAt
  refine .iteSnd h ?_
  split
  · next _ _ e =>
    have h1 := Kept.of_pair e (.readWord h)
    exact .snd h1
  · next _ e1 =>
    have h2 := Kept.of_pair e1 (.readWord h)
    exact .snd h2

theorem Kept.operand {r l y code modx mody} (h : Kept s₀ s ev wt) : Kept s₀ (s.operand r l y code modx mody).2 ev wt := by
  unfold State.operand
  refine .iteSnd h ?_
  extract_lets
  split
  · next _ _ e =>
    have h1 := Kept.of_pair e (.readAt h)
    exact .nextPtr h1
  · next _ _ e1 =>
    have h2 := Kept.of_pair e1 (.readAt h)
    exact .snd h2

theorem Kept.operands {r l y s1 s2 modx mody} (h : Kept s₀ s ev wt) :
    Kept s₀ (s.operands r l y s1 s2 modx mody).2 ev wt := by
  unfold State.operands
  split
  · next _ _ e =>
    have h1 := Kept.of_pair e (.operand h)
    exact .snd h1
  · next _ _ _ e3 =>
    have h4 := Kept.of_pair e3 (.operand h)
    refine .iteSnd (.snd h4) ?_
    split
    · next _ _ e1 =>
      have h2 := Kept.of_pair e1 (.operand h4)
      exact .snd h2
    · next _ _ _ e2 =>
      have h3 := Kept.of_pair e2 (.operand h4)
      exact .snd h3

/-! ## Flags -/

theorem Kept.condOf {r y c} (h : Kept s₀ s ev wt) : Kept s₀ (s.condOf r y c).2 ev wt := by
  unfold State.condOf
  split
  · exact h
  · exact .free h

/-! ## LineRx -/

theorem Kept.execSigDetectDeassert {k} (h : Kept s₀ s ev wt) : NextKept ev wt s₀ (Machine.execSigDetectDeassert k s) := by
  unfold Machine.execSigDetectDeassert
  exact .next (.ite (.monitorCalRx (.ite (.inc (.raise (.putFlag h))) (.log (.inc (.raise (.putFlag h)))))) h)

theorem Kept.putFofs {k fofs phase} (h : Kept s₀ s ev wt) : Kept s₀ (s.putFofs k fofs phase) ev wt := by
  unfold State.putFofs
  exact .ite h (.ite (.log (.raise (.put (.put h)))) (.put (.put h)))

theorem Kept.writeRwl {r u i data} (h : Kept s₀ s ev false) : Kept s₀ (s.writeRwl r u i data) ev false := by
  unfold State.writeRwl
  exact .setRegAny h

theorem Kept.coefWrite {k r i data} (h : Kept s₀ s ev false) : Kept s₀ (s.coefWrite k r i data) ev false := by
  unfold State.coefWrite
  exact .ite (.writeRwl h) (.raise (.raise h))

theorem Kept.execLrxCoefWrite {k off data} (h : Kept s₀ s ev false) :
    NextKept ev false s₀ (Machine.execLrxCoefWrite k off data s) := by
  unfold Machine.execLrxCoefWrite
  refine .next (.ite ?_ h)
  split
  · exact .ite (.coefWrite h) h
  · exact h

theorem Kept.setHistBin {k b n} (h : Kept s₀ s ev wt) : Kept s₀ (s.setHistBin k b n) ev wt := by
  unfold State.setHistBin
  exact .setWord h

theorem Kept.histStart {k} (h : Kept s₀ s ev wt) : Kept s₀ (s.histStart k) ev wt := by
  unfold State.histStart
  exact .ite h (.putFlag (.putFlag (.setLine (.foldl h fun _ _ hf => .setHistBin hf))))

theorem Kept.histSample {k code y} (h : Kept s₀ s ev wt) : Kept s₀ (s.histSample k code y) ev wt := by
  unfold State.histSample
  exact .ite (.setLine (.setHistBin h)) h

theorem Kept.execVnleFadeDone {k} (h : Kept s₀ s ev wt) : NextKept ev wt s₀ (Machine.execVnleFadeDone k s) := by
  unfold Machine.execVnleFadeDone
  refine .next (.ite h ?_)
  split
  · exact h
  · exact h
  · exact .setLine h
  · exact .ite (.log (.raise (.putFlag (.setLine h)))) (.putFlag (.log (.raise (.putFlag (.setLine h)))))

theorem Kept.targetField {k n f d} (h : Kept s₀ s ev wt) : Kept s₀ (s.targetField k n f d) ev wt := by
  unfold State.targetField
  exact .ite (.setReg h) (.raise (.setReg h))

theorem Kept.targetAll {k selected f ds} (h : Kept s₀ s ev wt) : Kept s₀ (s.targetAll k selected f ds) ev wt := by
  unfold State.targetAll
  exact .ite (.foldl h fun _ _ hf => .targetField hf) h

theorem Kept.cmdCalRxRun {p t} (h : Kept s₀ s ev wt) : Kept s₀ (Machine.cmdCalRxRun p t s).2 ev wt := by
  unfold Machine.cmdCalRxRun
  refine .iteSnd h (.iteSnd h (.iteSnd h (.iteSnd h ?_)))
  exact .iteSnd (.snd (.endCalRx (.put (.put (.put (.setReg (.setLine h))))))) (.snd (.putFlag (.put (.put (.put
      (.put (.put (.setReg (.setLine h)))))))))

theorem Kept.cmdCalRxAbort {p x} (h : Kept s₀ s ev wt) : Kept s₀ (Machine.cmdCalRxAbort p x s).2 ev wt := by
  unfold Machine.cmdCalRxAbort
  exact .iteSnd h (.iteSnd h (.iteSnd (.snd (.endCalRx h)) h))

theorem Kept.cmdCalRxStatus {p x} (h : Kept s₀ s ev wt) : Kept s₀ (Machine.cmdCalRxStatus p x s).2 ev wt := by
  unfold Machine.cmdCalRxStatus
  exact .iteSnd h (.iteSnd h h)

theorem Kept.startTrims {k} (h : Kept s₀ s ev wt) : Kept s₀ (s.startTrims k) ev wt := by
  unfold State.startTrims
  exact .setLine h

theorem Kept.execCalRxMeasureEnd {k skew gain offset} (h : Kept s₀ s ev wt) :
    NextKept ev wt s₀ (Machine.execCalRxMeasureEnd k skew
    gain offset s) := by
  unfold Machine.execCalRxMeasureEnd
  refine .next ?_
  split
  · exact h
  · refine .ite ?_ h
    refine .ite (.endCalRx (.raise (.setLine h))) ?_
    exact .startTrims (.put (.targetAll (.targetAll (.targetAll (.setLine h)))))

theorem Kept.execCalRxApplyEnd {k} (h : Kept s₀ s ev wt) : NextKept ev wt s₀ (Machine.execCalRxApplyEnd k s) := by
  unfold Machine.execCalRxApplyEnd
  refine .next ?_
  split
  · exact h
  · exact .ite (.ite (.put (.put (.bump h))) (.endCalRx (.bump h))) h

theorem Kept.ttrimWrite {k n data} (h : Kept s₀ s ev false) : Kept s₀ (s.ttrimWrite k n data) ev false := by
  unfold State.ttrimWrite
  exact .ite (.raise (.raise h)) (.ite (.startTrims (.writeRwl h)) (.setReg (.writeRwl h)))

/-! ## Lasts -/

theorem Kept.toNewest {r mask} (h : Kept s₀ s ev wt) : Kept s₀ (s.toNewest r mask) ev wt := by
  unfold State.toNewest
  exact .foldl h fun _ _ hf => .ite (.setLast hf) hf

theorem Kept.setHalt {r mask} (h : Kept s₀ s ev wt) : Kept s₀ (s.setHalt r mask) ev wt := by
  unfold State.setHalt
  exact .toNewest (.put (.put (.put (.put h))))

theorem Kept.haltLast {r l} (h : Kept s₀ s ev wt) : Kept s₀ (s.haltLast r l) ev wt := by
  unfold State.haltLast
  exact .setHalt h

theorem Kept.applyFault {p event} (h : Kept s₀ s ev wt) : Kept s₀ (s.applyFault p event) ev wt := by
  unfold State.applyFault
  split
  · exact .portTo (.withMode h)
  · exact h

theorem Kept.loadTrap {r event} (h : Kept s₀ s ev wt) : Kept s₀ (s.loadTrap r event) ev wt := by
  unfold State.loadTrap
  split
  · exact .ite (.applyFault h) h
  · exact h

theorem Kept.slot {cnt code r l user n} (h : Kept s₀ s ev false) : Kept s₀ (s.slot cnt code r l user n) ev false := by
  unfold State.slot
  exact .ite h (.perf (.incAny h))

theorem Kept.slotRet {r l user} (h : Kept s₀ s ev false) : Kept s₀ (s.slotRet r l user) ev false := by
  unfold State.slotRet
  exact .slot h

theorem Kept.slotWaste {r l user} (h : Kept s₀ s ev false) : Kept s₀ (s.slotWaste r l user) ev false := by
  unfold State.slotWaste
  exact .slot h

theorem Kept.slotFront {r l user n} (h : Kept s₀ s ev false) : Kept s₀ (s.slotFront r l user n) ev false := by
  unfold State.slotFront
  exact .slot h

theorem Kept.slotBack {r l user n} (h : Kept s₀ s ev false) : Kept s₀ (s.slotBack r l user n) ev false := by
  unfold State.slotBack
  exact .slot h

theorem Kept.monitorTrap {r l vector pc} (h : Kept s₀ s ev wt) : Kept s₀ (s.monitorTrap r l vector pc) ev wt := by
  unfold State.monitorTrap
  exact .loadTrap (.ite (.log (.setRack (.setHalt (.log h)))) (.setRack (.setHalt (.log h))))

theorem Kept.takeTrap {r l vector low} (h : Kept s₀ s ev wt) : Kept s₀ (s.takeTrap r l vector low) ev wt := by
  unfold State.takeTrap
  exact .perf (.raise (.setReg (.setLast h)))

theorem Kept.trapLast {r l vector low} (h : Kept s₀ s ev wt) : Kept s₀ (s.trapLast r l vector low) ev wt := by
  unfold State.trapLast
  refine .ite ?_ ?_
  · exact .loadTrap (.log (.raise (.put (.haltLast h))))
  · exact .ite (.log (.haltLast (.takeTrap h))) (.monitorTrap (.takeTrap h))

theorem Kept.fetchLast {r y} (h : Kept s₀ s ev wt) : Kept s₀ (s.fetchLast r y).2 ev wt := by
  unfold State.fetchLast
  split
  · exact h
  · split
    · next _ _ e =>
      have h1 := Kept.of_pair e (.readWord h)
      exact .snd h1
    · next _ e1 =>
      have h2 := Kept.of_pair e1 (.readWord h)
      exact .snd h2

theorem Kept.lostSlots {w user stalls} (h : Kept s₀ s ev false) : Kept s₀ (s.lostSlots w user stalls) ev false := by
  unfold State.lostSlots
  exact .inc (.inc (.slotBack (.slotFront h)))

theorem Kept.tagStart {r} (h : Kept s₀ s ev wt) : Kept s₀ (s.tagStart r) ev wt := by
  unfold State.tagStart
  exact .setRack (.free h)

theorem Kept.countIssue {r l c} (h : Kept s₀ s ev wt) : Kept s₀ (s.countIssue r l c) ev wt := by
  unfold State.countIssue
  exact .ite (.ite (.tagStart (.setRack (.ite (.perf h) h))) (.setRack (.ite (.perf h) h))) (.ite (.perf h) h)

theorem Kept.complete {r l user i y} (h : Kept s₀ s ev false) : Kept s₀ (s.complete r l user i y) ev false := by
  unfold State.complete
  exact .ite (.slotWaste (.setLast h)) (.slotRet (.setLast h))

theorem OutKept.settle {r l user i c} {o : LOut} (h : OutKept ev false s₀ o) :
    Kept s₀ (State.settle r l user i c o) ev false := by
  cases o with
  | stall t => exact .slotBack h
  | trap v low t => exact .slotWaste (.setLast (.trapLast (.countIssue (.setLast h))))
  | done y t => exact .slotFront (.complete (.countIssue h))
  | goto pc y t => exact .slotFront (.complete (.countIssue h))
  | skip pc y t => exact .complete (.countIssue h)
  | stop y t => exact .haltLast (.complete (.countIssue h))

theorem Kept.issue {w pick} (h : Kept s₀ s ev false) (hp : ∀ i, PickKept ev false s₀ (pick i)) :
    Kept s₀ (s.issue w pick) ev false := by
  unfold State.issue
  refine .ite h (.ite (OutKept.settle h.lostSlots) ?_)
  split
  · next _ e => exact OutKept.settle (o := .fail _ _) (.lostSlots (.of_pair e h.fetchLast))
  · next word t e =>
    have ht : Kept s₀ t ev false := .of_pair e h.fetchLast
    split
    · exact OutKept.settle (o := .fail _ _) ht.lostSlots
    · next i _ =>
      have hi := hp i
      split
      · exact h
      · next body hb =>
        rw [hb] at hi
        exact OutKept.settle (.ite (.setLast (.lostSlots ht)) (hi _ _ (.setLast (.lostSlots ht))))

theorem PickKept.arithBody {r l op f keep i} : PickKept ev wt s₀ (Machine.arithBody r l op f keep i) := by
  unfold Machine.arithBody
  split
  · refine .ite .none (.some fun s y h => ?_)
    split
    · next _ _ e => exact Kept.of_pair e h.operands
    · next _ _ _ _ e => exact Kept.of_pair e h.operands
  · exact .none

theorem Kept.execNop {w} (h : Kept s₀ s ev false) : NextKept ev false s₀ (Machine.execNop w s) := by
  unfold Machine.execNop
  refine .next (.issue h fun _ => ?_)
  split
  · refine .some fun _ _ hf => ?_
    split
    · next _ _ e =>
      have h1 := Kept.of_pair e (.operands hf)
      exact h1
    · next _ _ _ _ e1 =>
      have h2 := Kept.of_pair e1 (.operands hf)
      exact h2
  · exact .none

theorem Kept.execSta {w} (h : Kept s₀ s ev false) : NextKept ev false s₀ (Machine.execSta w s) := by
  unfold Machine.execSta
  refine .next (.issue h fun _ => ?_)
  split
  · exact .some fun _ _ hf => hf
  · exact .none

theorem Kept.writeAtPtr {r l y n mode v} (h : Kept s₀ s ev wt) : Kept s₀ (s.writeAtPtr r l y n mode v).2 ev wt := by
  unfold State.writeAtPtr
  exact .iteSnd h (.nextPtr (.writeWord h))

theorem Kept.execStm {w} (h : Kept s₀ s ev false) : NextKept ev false s₀ (Machine.execStm w s) := by
  unfold Machine.execStm
  refine .next (.issue h fun _ => ?_)
  split
  · refine .some fun _ _ hf => ?_
    split
    split
    · next _ _ e =>
      have h1 := Kept.of_pair e (.writeAtPtr hf)
      exact h1
    · next _ _ e1 =>
      have h2 := Kept.of_pair e1 (.writeAtPtr hf)
      exact h2
  · exact .none

theorem Kept.execLdi {w} (h : Kept s₀ s ev false) : NextKept ev false s₀ (Machine.execLdi w s) := by
  unfold Machine.execLdi
  refine .next (.issue h fun _ => ?_)
  split
  · exact .some fun _ _ hf => hf
  · exact .none

theorem Kept.execShift {w} (h : Kept s₀ s ev false) : NextKept ev false s₀ (Machine.execShift w s) := by
  unfold Machine.execShift
  refine .next (.issue h fun _ => ?_)
  split
  · exact .some fun _ _ hf => .ite (.free hf) (.ite hf hf)
  · exact .none

theorem Kept.execMovr {w} (h : Kept s₀ s ev false) : NextKept ev false s₀ (Machine.execMovr w s) := by
  unfold Machine.execMovr
  refine .next (.issue h fun _ => ?_)
  split
  · exact .some fun _ _ hf => .ite hf (.ite (.free hf) (.ite hf (.ite hf hf)))
  · exact .none

theorem Kept.execExt {w} (h : Kept s₀ s ev false) : NextKept ev false s₀ (Machine.execExt w s) := by
  unfold Machine.execExt
  refine .next (.issue h fun _ => ?_)
  split
  · exact .some fun _ _ hf => .ite (.free hf) hf
  · exact .none

theorem Kept.execLogic {w} (h : Kept s₀ s ev false) : NextKept ev false s₀ (Machine.execLogic w s) := by
  unfold Machine.execLogic
  refine .next (.issue h fun _ => ?_)
  split
  · exact .some fun _ _ hf => hf
  · exact .none

theorem Kept.execMem {w} (h : Kept s₀ s ev false) : NextKept ev false s₀ (Machine.execMem w s) := by
  unfold Machine.execMem
  refine .next (.issue h fun _ => ?_)
  split
  · refine .some fun _ _ hf => ?_
    refine .ite ?_ ?_
    · split
      · next _ _ e =>
        have h1 := Kept.of_pair e (.writeAtPtr hf)
        exact h1
      · next _ _ e1 =>
        have h2 := Kept.of_pair e1 (.writeAtPtr hf)
        exact h2
    · split
      · next _ _ e2 =>
        have h3 := Kept.of_pair e2 (.readAt hf)
        exact h3
      · next _ _ e3 =>
        have h4 := Kept.of_pair e3 (.readAt hf)
        exact .nextPtr h4
  · exact .none

theorem Kept.execLda {w} (h : Kept s₀ s ev false) : NextKept ev false s₀ (Machine.execLda w s) := by
  unfold Machine.execLda
  refine .next (.issue h fun _ => ?_)
  split
  · exact .some fun _ _ hf => hf
  · exact .none

theorem Kept.execAdda {w} (h : Kept s₀ s ev false) : NextKept ev false s₀ (Machine.execAdda w s) := by
  unfold Machine.execAdda
  refine .next (.issue h fun _ => ?_)
  split
  · refine .some fun _ _ hf => ?_
    split
    · exact hf
    · exact .free hf
  · exact .none

theorem Kept.execMova {w} (h : Kept s₀ s ev false) : NextKept ev false s₀ (Machine.execMova w s) := by
  unfold Machine.execMova
  refine .next (.issue h fun _ => ?_)
  split
  · exact .some fun _ _ hf => hf
  · exact .none

theorem Kept.execBra {w} (h : Kept s₀ s ev false) : NextKept ev false s₀ (Machine.execBra w s) := by
  unfold Machine.execBra
  refine .next (.issue h fun _ => ?_)
  split
  · exact .some fun _ _ hf => .ite (.condOf hf) (.ite (.condOf hf) (.condOf hf))
  · exact .none

theorem Kept.execCall {w} (h : Kept s₀ s ev false) : NextKept ev false s₀ (Machine.execCall w s) := by
  unfold Machine.execCall
  refine .next (.issue h fun _ => ?_)
  split
  · exact .some fun _ _ hf => .ite (.condOf hf) (.ite (.condOf hf) (.condOf hf))
  · exact .none

theorem Kept.execRet {w} (h : Kept s₀ s ev false) : NextKept ev false s₀ (Machine.execRet w s) := by
  unfold Machine.execRet
  refine .next (.issue h fun _ => ?_)
  split
  · refine .some fun _ _ hf => ?_
    split
    next _ _ e =>
    have h1 := Kept.of_pair e (.condOf hf)
    refine .ite h1 ?_
    split <;> exact h1
  · exact .none

theorem OutKept.beginLoop {count last y} (h : Kept s₀ s ev wt) : OutKept ev wt s₀ (Machine.beginLoop count last s y) := by
  unfold Machine.beginLoop
  exact .ite h (.ite h h)

theorem Kept.execLoop {w} (h : Kept s₀ s ev false) : NextKept ev false s₀ (Machine.execLoop w s) := by
  unfold Machine.execLoop
  refine .next (.issue h fun _ => ?_)
  split
  · exact .some fun _ _ hf => .beginLoop hf
  · exact .none

theorem Kept.execLoopr {w} (h : Kept s₀ s ev false) : NextKept ev false s₀ (Machine.execLoopr w s) := by
  unfold Machine.execLoopr
  refine .next (.issue h fun _ => ?_)
  split
  · exact .some fun _ _ hf => .beginLoop hf
  · exact .none

theorem Kept.execRepeat {w} (h : Kept s₀ s ev false) : NextKept ev false s₀ (Machine.execRepeat w s) := by
  unfold Machine.execRepeat
  refine .next (.issue h fun _ => ?_)
  split
  · exact .some fun _ _ hf => .ite hf hf
  · exact .none

theorem Kept.execYield {w} (h : Kept s₀ s ev false) : NextKept ev false s₀ (Machine.execYield w s) := by
  unfold Machine.execYield
  refine .next (.issue h fun _ => ?_)
  split
  · exact .some fun _ _ hf => hf
  · exact .none

theorem Kept.execSvc {w} (h : Kept s₀ s ev false) : NextKept ev false s₀ (Machine.execSvc w s) := by
  unfold Machine.execSvc
  refine .next (.issue h fun _ => ?_)
  split
  · exact .some fun _ _ hf => .ite hf hf
  · exact .none

theorem Kept.execLeave {w} (h : Kept s₀ s ev false) : NextKept ev false s₀ (Machine.execLeave w s) := by
  unfold Machine.execLeave
  refine .next (.issue h fun _ => ?_)
  split
  · refine .some fun _ _ hf => ?_
    split
    next _ _ e =>
    have h1 := Kept.of_pair e (.condOf hf)
    split <;> exact h1
  · exact .none

theorem Kept.execTapRecord {k x} (h : Kept s₀ s ev wt) : NextKept ev wt s₀ (Machine.execTapRecord k x s) := by
  unfold Machine.execTapRecord
  exact .next (.ite (.foldl (.ite (.histSample h) h) fun _ _ hf => .setRack hf) (.ite (.histSample h) h))

theorem Kept.tapLost {r l n} (h : Kept s₀ s ev wt) : Kept s₀ (s.tapLost r l n) ev wt := by
  unfold State.tapLost
  exact .ite h (.raise (.inc h))

theorem Kept.execTwin {w bad} (h : Kept s₀ s ev false) : NextKept ev false s₀ (Machine.execTwin w bad s) := by
  unfold Machine.execTwin
  refine .next (.issue h fun _ => ?_)
  split
  · refine .some fun _ _ hf => ?_
    exact .ite hf (.ite (.setLast (.tapLost (.countUncorrectable (.free (.tapLost hf))))) (.perf (.tapLost hf)))
  · exact .none

theorem Kept.execBreq {w same} (h : Kept s₀ s ev false) : NextKept ev false s₀ (Machine.execBreq w same s) := by
  unfold Machine.execBreq
  refine .next (.issue h fun _ => ?_)
  split
  · exact .some fun _ _ hf => .ite hf (.ite hf (.setRack (.perf hf)))
  · exact .none

theorem Kept.execBrsp {w} (h : Kept s₀ s ev false) : NextKept ev false s₀ (Machine.execBrsp w s) := by
  unfold Machine.execBrsp
  refine .next (.issue h fun _ => ?_)
  split
  · refine .some fun _ _ hf => ?_
    split
    · exact hf
    · exact hf
    · exact .ite (.setLast hf) hf
  · exact .none

theorem Kept.portWrite {k p v} (h : Kept s₀ s ev false) : Kept s₀ (s.portWrite k p v) ev false := by
  unfold State.portWrite
  exact .ite h (.putAny h)

theorem Kept.noteBack {r a} (h : Kept s₀ s ev wt) : Kept s₀ (s.noteBack r a) ev wt := by
  unfold State.noteBack
  exact .ite h (.setRack h)

theorem Kept.rackBus {r q} (h : Kept s₀ s ev false) : Kept s₀ (s.rackBus r q).2 ev false := by
  unfold State.rackBus
  refine .iteSnd ?_ ?_
  · refine .iteSnd (.snd (.writeWord h)) ?_
    split
    · next _ _ e =>
      have h1 := Kept.of_pair e (.readWord h)
      exact .snd h1
    · next _ e1 =>
      have h2 := Kept.of_pair e1 (.readWord h)
      exact .snd h2
  · refine .iteSnd (.iteSnd (.snd (.ite (.setReg h) h)) h) (.iteSnd (.iteSnd h h) (.iteSnd (.iteSnd h h) ?_))
    split
    · exact h
    · exact .iteSnd (.iteSnd (.snd (.ite (.portWrite h) h)) h) (.snd (.noteBack h))

theorem Kept.busAccept {r l q} (h : Kept s₀ s ev false) : Kept s₀ (s.busAccept r l q) ev false := by
  unfold State.busAccept
  exact .setLast (.rackBus h)

theorem Kept.busUpTo {r l n} (h : Kept s₀ s ev false) : Kept s₀ (s.busUpTo r l n) ev false := by
  induction n generalizing s with
  | zero => exact h
  | succ n ih =>
    rw [State.busUpTo]
    split
    · split
      · exact ih h.busAccept
      · exact h
    · exact h

theorem Kept.execRackBusResponse {rack last} (h : Kept s₀ s ev false) :
    NextKept ev false s₀ (Machine.execRackBusResponse rack last s) := by
  unfold Machine.execRackBusResponse
  refine .next (.ite ?_ h)
  extract_lets
  split
  · exact .setLast (.busUpTo h)
  · exact .busUpTo h

theorem Kept.ctlRead {r l y n} (h : Kept s₀ s ev wt) : Kept s₀ (s.ctlRead r l y n).2.2 ev wt := by
  unfold State.ctlRead
  split
  · exact h
  · exact h
  · exact h
  · exact h
  · exact h
  · exact h
  · exact h
  · exact h
  · exact h
  · exact h
  · exact .iteSnd2 h (.free h)

theorem Kept.execMovc {w} (h : Kept s₀ s ev false) : NextKept ev false s₀ (Machine.execMovc w s) := by
  unfold Machine.execMovc
  refine .next (.issue h fun _ => ?_)
  split
  · exact .some fun _ _ hf => .ite hf hf
  · exact .none

theorem Kept.execMovfc {w} (h : Kept s₀ s ev false) : NextKept ev false s₀ (Machine.execMovfc w s) := by
  unfold Machine.execMovfc
  refine .next (.issue h fun _ => ?_)
  split
  · exact .some fun _ _ hf => .ite hf (.ctlRead hf)
  · exact .none

theorem Kept.execRti {w} (h : Kept s₀ s ev false) : NextKept ev false s₀ (Machine.execRti w s) := by
  unfold Machine.execRti
  refine .next (.issue h fun _ => ?_)
  split
  · exact .some fun _ _ hf => .ite hf hf
  · exact .none

theorem Kept.execHalt {w} (h : Kept s₀ s ev false) : NextKept ev false s₀ (Machine.execHalt w s) := by
  unfold Machine.execHalt
  refine .next (.issue h fun _ => ?_)
  split
  · exact .some fun _ _ hf => .ite hf hf
  · exact .none

theorem Kept.startRack {r} (h : Kept s₀ s ev wt) : Kept s₀ (s.startRack r) ev wt := by
  unfold State.startRack
  exact .toNewest (.setHalt (.setRack (.foldl h fun _ _ hf => .setLast hf)))

theorem Kept.execRackRestart {rack} (h : Kept s₀ s ev wt) : NextKept ev wt s₀ (Machine.execRackRestart rack s) := by
  unfold Machine.execRackRestart
  refine .next ?_
  split
  · exact .ite (.startRack h) h
  · exact h

theorem Kept.rackCtlWrite {r data} (h : Kept s₀ s ev wt) : Kept s₀ (s.rackCtlWrite r data) ev wt := by
  unfold State.rackCtlWrite
  exact .setHalt (.put (.ite (.tagStart (.put h)) (.put h)))

theorem Kept.execTagSample {rack last times} (h : Kept s₀ s ev wt) :
    NextKept ev wt s₀ (Machine.execTagSample rack last times s) := by
  unfold Machine.execTagSample
  refine .next ?_
  extract_lets
  split
  · exact .ite (.ite (.put (.setRack h)) (.raise (.bump (.setRack h)))) h
  · exact h

/-! ## Racks -/

theorem Kept.memLock {r} (h : Kept s₀ s ev wt) : Kept s₀ (s.memLock r) ev wt := by
  unfold State.memLock
  exact .raise (.raise h)

theorem Kept.uncache {r word} (h : Kept s₀ s ev wt) : Kept s₀ (s.uncache r word) ev wt := by
  unfold State.uncache
  exact .foldl h fun _ _ hf => .ite (.setLast hf) hf

theorem Kept.progWrite {src r word high data} (h : Kept s₀ s ev wt) :
    Kept s₀ (s.progWrite src r word high data).2 ev wt := by
  unfold State.progWrite
  refine .iteSnd (.snd (.memLock h)) (.iteSnd (.snd (.setRack h)) ?_)
  split
  · exact h
  · exact .snd (.uncache (.writeWord (.setRack h)))

theorem Kept.readBytes {a n} (h : Kept s₀ s ev wt) : Kept s₀ (s.readBytes a n).2 ev wt := by
  unfold State.readBytes
  extract_lets
  split
  · next _ e =>
    have h1 := Kept.of_pair e (.readWords h)
    exact .snd h1
  · next _ _ e1 =>
    have h2 := Kept.of_pair e1 (.readWords h)
    exact .snd h2

theorem Kept.writeTables {r es} (h : Kept s₀ s ev wt) : Kept s₀ (s.writeTables r es) ev wt := by
  unfold State.writeTables
  exact .foldl (.zeroRange h) fun _ _ hf => .foldl hf fun _ _ hf1 => .foldl hf1 fun _ _ hf2 => .writeWord hf2

theorem Kept.loadRack {r id'} (h : Kept s₀ s ev wt) : Kept s₀ (s.loadRack r id') ev wt := by
  unfold State.loadRack
  refine .startRack (.put (.put ?_))
  split
  · exact .put (.putFlag (.setRack (.writeTables (.foldl (.initRange (.setHalt h)) fun _ _ hf => .writeWord hf))))
  · exact .put (.putFlag (.setRack (.writeTables (.initRange (.initRange (.setHalt h))))))

theorem Kept.rackOff {r} (h : Kept s₀ s ev wt) : Kept s₀ (s.rackOff r) ev wt := by
  unfold State.rackOff
  exact .foldl (.setRack (.loseBuried (.dropRange (.wipe (.turnIsland h))))) fun _ _ hf => .setLast hf

theorem Kept.rackOn {r} (h : Kept s₀ s ev wt) : Kept s₀ (s.rackOn r) ev wt := by
  unfold State.rackOn
  exact .ite h (.turnIsland h)

theorem Kept.holdRack {r} (h : Kept s₀ s ev wt) : Kept s₀ (s.holdRack r) ev wt := by
  unfold State.holdRack
  exact .setRack (.setHalt h)

theorem Kept.cmdRackHalt {p x} (h : Kept s₀ s ev wt) : Kept s₀ (Machine.cmdRackHalt p x s).2 ev wt := by
  unfold Machine.cmdRackHalt
  exact .iteSnd h (.iteSnd h (.iteSnd h (.snd (.foldl h fun _ _ hf => .holdRack hf))))

theorem Kept.cmdRackResume {p x} (h : Kept s₀ s ev wt) : Kept s₀ (Machine.cmdRackResume p x s).2 ev wt := by
  unfold Machine.cmdRackResume
  exact .iteSnd h (.iteSnd h (.iteSnd h (.snd (.foldl h fun _ _ hf => .setHalt hf))))

theorem Kept.cmdRackStatus {p x} (h : Kept s₀ s ev wt) : Kept s₀ (Machine.cmdRackStatus p x s).2 ev wt := by
  unfold Machine.cmdRackStatus
  exact .iteSnd h (.iteSnd h (.iteSnd h h))

theorem Kept.cmdPsetLoadBegin {p x} (h : Kept s₀ s ev wt) : Kept s₀ (Machine.cmdPsetLoadBegin p x s).2 ev wt := by
  unfold Machine.cmdPsetLoadBegin
  exact .iteSnd h (.iteSnd h (.iteSnd h (.openStage h)))

theorem Kept.psetReject {id' code r1} (h : Kept s₀ s ev wt) : Kept s₀ (s.psetReject id' code r1).2 ev wt := by
  unfold State.psetReject
  exact .snd (.log h)

theorem Kept.cmdPsetLoadEnd {p x} (h : Kept s₀ s ev wt) : Kept s₀ (Machine.cmdPsetLoadEnd p x s).2 ev wt := by
  unfold Machine.cmdPsetLoadEnd
  refine .iteSnd h ?_
  split
  · exact h
  · refine .iteSnd h ?_
    split
    next _ _ e =>
    have h1 := Kept.of_pair e (.readBytes (.closeStage h))
    split
    · exact .psetReject h1
    · refine .iteSnd (.psetReject h1) (.iteSnd (.psetReject h1) ?_)
      split
      · exact .psetReject h1
      · exact .iteSnd (.psetReject h1) (.snd (.log (.withPsets h1)))

theorem Kept.cmdPsetErase {p x} (h : Kept s₀ s ev wt) : Kept s₀ (Machine.cmdPsetErase p x s).2 ev wt := by
  unfold Machine.cmdPsetErase
  exact .iteSnd h (.iteSnd h (.snd (.withPsets h)))

theorem Kept.cmdPsetList {p x} (h : Kept s₀ s ev wt) : Kept s₀ (Machine.cmdPsetList p x s).2 ev wt := by
  unfold Machine.cmdPsetList
  exact .iteSnd h h

/-! ## Time -/

theorem Kept.setClock {d v} (h : Kept s₀ s ev wt) : Kept s₀ (s.setClock d v) ev wt := h.withTime

theorem Kept.refreshPps (h : Kept s₀ s ev wt) : Kept s₀ s.refreshPps ev wt := by
  unfold State.refreshPps
  exact .ite h (.withTime h)

theorem Kept.putTod {d st} (h : Kept s₀ s ev wt) : Kept s₀ (s.putTod d st) ev wt := by
  unfold State.putTod
  refine .ite h ?_
  exact .via (.ite (.setClock h) h) fun h1 => .refreshPps (.log (.putFlag (.putFlag (.raise (.put (.ite (.setClock
      (.ite (.setClock h1) h1)) (.ite (.setClock h1) h1)))))))

theorem Kept.setTod {d st} (h : Kept s₀ s ev wt) : Kept s₀ (s.setTod d st) ev wt := by
  unfold State.setTod
  exact .ite (.putTod (.putTod h)) (.putTod h)

theorem Kept.stepClock {d x} (h : Kept s₀ s ev wt) : Kept s₀ (s.stepClock d x) ev wt := by
  unfold State.stepClock
  exact .ite (.withTime (.setClock h)) (.log (.raise (.inc (.withTime (.setClock h)))))

theorem Kept.correct {d x} (h : Kept s₀ s ev wt) : Kept s₀ (s.correct d x) ev wt := by
  unfold State.correct
  exact .ite (.stepClock h) (.setClock h)

theorem Kept.putFreq {d f} (h : Kept s₀ s ev wt) : Kept s₀ (s.putFreq d f) ev wt := by
  unfold State.putFreq
  exact .put h

theorem Kept.servoSlew {d x} (h : Kept s₀ s ev wt) : Kept s₀ (s.servoSlew d x) ev wt := by
  unfold State.servoSlew
  exact .setClock (.putFreq (.free (.free h)))

theorem Kept.servo {d x hold} (h : Kept s₀ s ev wt) : Kept s₀ (s.servo d x hold) ev wt := by
  unfold State.servo
  extract_lets _ _ _ _ _ _ s1
  have h1 : Kept s₀ s1 ev wt :=
  .ite (.ite (.put (.setClock h)) (.stepClock (.put (.setClock h)))) (.servoSlew (.put (.setClock
      h)))
  exact .ite (.ite (.setTod h1) h1) (.ite (.ite (.setTod h1) h1) (.setTod h1))

theorem Kept.setTime {d time late} (h : Kept s₀ s ev wt) : Kept s₀ (s.setTime d time late).2 ev wt := by
  unfold State.setTime
  exact .iteSnd h (.iteSnd (.snd (.stepClock h)) (.snd (.correct h)))

theorem Kept.hostState {d valid set} (h : Kept s₀ s ev wt) : Kept s₀ (s.hostState d valid set) ev wt := by
  unfold State.hostState
  exact .ite (.ite (.setClock h) (.setTod (.setClock h))) (.ite (.setTod h) h)

theorem Kept.stampPps {d frac err} (h : Kept s₀ s ev wt) : Kept s₀ (s.stampPps d frac err) ev wt := by
  unfold State.stampPps
  exact .ite (.setClock (.setWide h)) h

theorem Kept.takePending {d edge} (h : Kept s₀ s ev wt) : Kept s₀ (s.takePending d edge) ev wt := by
  unfold State.takePending
  exact .foldl (.setClock (.withTime h)) fun _ _ hf => .finish (.ite (.setTime hf) (.setTod (.setTime hf)))

theorem Kept.execPpsInEdge {frac errA errB} (h : Kept s₀ s ev wt) :
    NextKept ev wt s₀ (Machine.execPpsInEdge frac errA errB s) := by
  unfold Machine.execPpsInEdge
  refine .next ?_
  extract_lets _ _ _ _ _ s1
  have h1 : Kept s₀ s1 ev wt := .withTime (.stampPps (.stampPps h))
  refine .ite h1 (.ite (.takePending h1) ?_)
  split
  · exact .servo h1
  · exact .ite (.put h1) (.servo h1)

theorem Kept.sourceLost {d} (h : Kept s₀ s ev wt) : Kept s₀ (s.sourceLost d) ev wt := by
  unfold State.sourceLost
  exact .ite (.setTod h) h

theorem Kept.setUsable {v} (h : Kept s₀ s ev wt) : Kept s₀ (s.setUsable v) ev wt := by
  unfold State.setUsable
  exact .withTime h

theorem Kept.keepSent {k tseq dep} (h : Kept s₀ s ev wt) : Kept s₀ (s.keepSent k tseq dep) ev wt :=
  h.withTime

theorem Kept.keepSeen {k far here} (h : Kept s₀ s ev wt) : Kept s₀ (s.keepSeen k far here) ev wt := by
  unfold State.keepSeen
  exact .withTime h

theorem Kept.turnaround {k x} (h : Kept s₀ s ev wt) : Kept s₀ (s.turnaround k x).2 ev wt := by
  unfold State.turnaround
  split
  next _ _ e =>
  have h1 := Kept.of_pair e (.free h)
  extract_lets
  split
  · exact .iteSnd (.snd h1) (.snd h1)
  · exact .snd h1

theorem Kept.exchange {k arrival payload} (h : Kept s₀ s ev wt) : Kept s₀ (s.exchange k arrival payload) ev wt := by
  unfold State.exchange
  extract_lets _ _ s1
  have h2 : Kept s₀ s1 ev wt := .ite (.keepSeen h) h
  split
  · exact h2
  · refine .ite h2 ?_
    exact .via (.withTime (.turnaround h2)) fun h1 => .ite h1 (.ite h1 (.ite (.setUsable h1) (.servo
        (.setUsable h1))))

theorem Kept.sendAlign {d frac} (h : Kept s₀ s ev wt) : Kept s₀ (s.sendAlign d frac) ev wt := by
  unfold State.sendAlign
  exact .perf (.withTime h)

theorem Kept.aligned {f t1 t2 t3 t4} (h : Kept s₀ s ev wt) : Kept s₀ (s.aligned f t1 t2 t3 t4) ev wt := by
  unfold State.aligned
  exact .via (.setClock (.put h)) fun h2 => .via (.ite (.stepClock (.ite (.setClock (.put h2)) h2)) (.setClock (.put
      (.free (.ite (.setClock (.put h2)) h2))))) fun h1 => .ite (.putTod (.ite (.log (.put h1)) h1)) (.ite (.log
      (.put h1)) h1)

theorem Kept.execTimeAlignMsg {frac} (h : Kept s₀ s ev wt) : NextKept ev wt s₀ (Machine.execTimeAlignMsg frac s) := by
  unfold Machine.execTimeAlignMsg
  refine .next ?_
  split
  · exact .ite h (.ite (.sendAlign (.setClock (.perf (.withTime h)))) (.aligned (.perf (.withTime h))))
  · exact h

theorem Kept.alignLost {reason} (h : Kept s₀ s ev wt) : Kept s₀ (s.alignLost reason) ev wt := by
  unfold State.alignLost
  split
  · exact h
  · refine .ite h ?_
    exact .ite (.putTod (.setClock (.withTime (.log (.inc (.raise (.put h))))))) (.setClock (.withTime (.log
        (.inc (.raise (.put h))))))

theorem Kept.execTimeAlignTimeout (h : Kept s₀ s ev wt) : NextKept ev wt s₀ (Machine.execTimeAlignTimeout s) := by
  unfold Machine.execTimeAlignTimeout
  refine .next ?_
  split
  · exact .ite (.alignLost h) h
  · exact h

theorem Kept.tpllLost {d} (h : Kept s₀ s ev wt) : Kept s₀ (s.tpllLost d) ev wt := by
  unfold State.tpllLost
  exact .setTod (.foldl (.setClock (.raise (.putFlag h))) fun _ _ hf => .setInsl hf)

theorem Kept.tpllLocked {d} (h : Kept s₀ s ev wt) : Kept s₀ (s.tpllLocked d) ev wt := by
  unfold State.tpllLocked
  exact .setClock (.putFlag h)

theorem Kept.refreshTimeIsland {d} (h : Kept s₀ s ev wt) : Kept s₀ (s.refreshTimeIsland d) ev wt := by
  unfold State.refreshTimeIsland
  refine .ite ?_ ?_
  · exact .setClock (.ite (.put (.putFlag (.putFlag (.putFlag (.turnIsland h))))) (.put (.put (.put (.put (.put
      (.put (.put (.putFlag (.putFlag (.putFlag (.turnIsland h))))))))))))
  · refine .ite ?_ h
    exact .withTime (.refreshPps (.foldl (.wipe (.setClock (.loseBuried (.turnIsland h)))) fun _ _ hf => .wipe hf))

theorem Kept.release {p fromHost f ok} (h : Kept s₀ s ev wt) : Kept s₀ (s.release p fromHost f ok) ev wt := by
  unfold State.release
  exact .withTime h

theorem Kept.uncorrectable {p fromHost f ok} (h : Kept s₀ s ev wt) : Kept s₀ (s.uncorrectable p fromHost f ok) ev wt := by
  unfold State.uncorrectable
  exact .ite (.release h) (.release (.logRate (.raise (.inc h))))

theorem Kept.putLastRes {p fromHost res} (h : Kept s₀ s ev false) : Kept s₀ (s.putLastRes p fromHost res) ev false := by
  unfold State.putLastRes
  exact .setRegAny h

theorem Kept.correctFrame {p fromHost f ok h' res} (h : Kept s₀ s ev wt) :
    Kept s₀ (s.correctFrame p fromHost f ok h' res) ev wt := by
  unfold State.correctFrame
  exact .release (.ite (.raise (.inc (.inc h))) (.inc h))

theorem Kept.checkedRes {p fromHost x} (h : Kept s₀ s ev false) : Kept s₀ (s.checkedRes p fromHost x).2 ev false := by
  unfold State.checkedRes
  exact .iteSnd h (.iteSnd (.snd (.logRate (.raise (.inc (.putLastRes h))))) (.snd (.putLastRes h)))

theorem Kept.queueStamp {p fromHost f h' x} (h : Kept s₀ s ev wt) : Kept s₀ (s.queueStamp p fromHost f h' x) ev wt := by
  unfold State.queueStamp
  exact .ite h (.ite (.raise (.bump h)) (.put (.withTime h)))

theorem Kept.setCtxs {d cs} (h : Kept s₀ s ev wt) : Kept s₀ (s.setCtxs d cs) ev wt := by
  unfold State.setCtxs
  exact .foldl (.put (.put (.withTime h))) fun _ _ hf =>
    .ite (.putFlag (.put hf)) (.put hf)

theorem Kept.freeCtxs {p} (h : Kept s₀ s ev wt) : Kept s₀ (s.freeCtxs p) ev wt := by
  unfold State.freeCtxs
  exact .setCtxs h

theorem Kept.evict {d} (h : Kept s₀ s ev wt) : Kept s₀ (s.evict d) ev wt := by
  unfold State.evict
  exact .ite h (.logRate (.raise (.inc (.setCtxs h))))

theorem Kept.allocCtx {c} (h : Kept s₀ s ev wt) : Kept s₀ (s.allocCtx c) ev wt := by
  unfold State.allocCtx
  exact .inc (.setCtxs (.ite (.inc (.setCtxs h)) (.evict h)))

theorem Kept.eventMessage {p fromHost f h' x} (h : Kept s₀ s ev false) :
    Kept s₀ (s.eventMessage p fromHost f h' x) ev false := by
  unfold State.eventMessage
  refine .ite (.release (.queueStamp h)) ?_
  split
  · next _ e =>
    have h1 := Kept.of_pair e (.checkedRes (.queueStamp h))
    exact .uncorrectable h1
  · next _ _ e1 =>
    have h2 := Kept.of_pair e1 (.checkedRes (.queueStamp h))
    exact .ite (.release (.allocCtx h2)) (.correctFrame h2)

theorem Kept.execPtpEventMessage {p fromHost x} (h : Kept s₀ s ev false) :
    NextKept ev false s₀ (Machine.execPtpEventMessage p fromHost x s)
    := by
  unfold Machine.execPtpEventMessage
  refine .next (.ite ?_ h)
  extract_lets
  split
  · exact .ite (.eventMessage h) (.release h)
  · exact .release h

theorem Kept.generalMessage {p fromHost f h' x} (h : Kept s₀ s ev wt) :
    Kept s₀ (s.generalMessage p fromHost f h' x) ev wt := by
  unfold State.generalMessage
  extract_lets
  split
  · refine .ite ?_ ?_
    · exact .uncorrectable (.countUncorrectable (.free (.setCtxs h)))
    · exact .ite (.uncorrectable (.setCtxs h)) (.correctFrame (.setCtxs h))
  · exact .ite (.release h) (.uncorrectable (.raise (.inc h)))

theorem Kept.execPtpGeneralMessage {p fromHost x} (h : Kept s₀ s ev wt) :
    NextKept ev wt s₀ (Machine.execPtpGeneralMessage p fromHost
    x s) := by
  unfold Machine.execPtpGeneralMessage
  refine .next (.ite ?_ h)
  extract_lets
  split
  · exact .ite (.generalMessage h) (.release h)
  · exact .release h

theorem Kept.setRanging {g v} (h : Kept s₀ s ev wt) : Kept s₀ (s.setRanging g v) ev wt := h.withTime

theorem Kept.rangeClear {g} (h : Kept s₀ s ev wt) : Kept s₀ (s.rangeClear g) ev wt := by
  unfold State.rangeClear
  exact .ite h (.setRanging (.ite (.log h) h))

theorem Kept.execRangeUpdate {g fit} (h : Kept s₀ s ev wt) : NextKept ev wt s₀ (Machine.execRangeUpdate g fit s) := by
  unfold Machine.execRangeUpdate
  refine .next (.ite (.ite (.setRanging (.ite (.log h) h)) ?_) h)
  extract_lets
  split
  · exact .setRanging h
  · exact .log (.setRanging h)

theorem Kept.putBoth {f v} (h : Kept s₀ s ev false) : Kept s₀ (s.putBoth f v) ev false := by
  unfold State.putBoth
  exact .putAny (.putAny h)

theorem Kept.cmdTimeSetSource {p x} (h : Kept s₀ s ev false) : Kept s₀ (Machine.cmdTimeSetSource p x s).2 ev false := by
  unfold Machine.cmdTimeSetSource
  refine .iteSnd h (.iteSnd h ?_)
  exact .snd (.refreshTimeIsland (.refreshTimeIsland (.foldl (.withTime (.setUsable (.foldl (.putBoth (.putBoth
      (.putBoth (.putBoth (.putBoth (.putBoth h)))))) fun _ _ hf => .ite (.setClock (.put (.putFlag (.putFlag hf))))
      (.putTod (.setClock (.put (.putFlag (.putFlag hf)))))))) fun _ _ hf1 => .finish hf1)))

theorem Kept.cmdTimeSet {p t} (h : Kept s₀ s ev wt) : Kept s₀ (Machine.cmdTimeSet p t s).2 ev wt := by
  unfold Machine.cmdTimeSet
  exact .iteSnd h (.iteSnd h (.iteSnd (.snd (.withTime h)) (.hostState (.setTime h))))

theorem Kept.cmdTimeAdj {p x} (h : Kept s₀ s ev wt) : Kept s₀ (Machine.cmdTimeAdj p x s).2 ev wt := by
  unfold Machine.cmdTimeAdj
  exact .iteSnd h (.iteSnd h (.snd (.hostState (.correct (.ite (.putFreq h) h)))))

theorem Kept.cmdTimeStatus {p x} (h : Kept s₀ s ev wt) : Kept s₀ (Machine.cmdTimeStatus p x s).2 ev wt := by
  unfold Machine.cmdTimeStatus
  exact .iteSnd h h

theorem Kept.cmdTimeSetDelay {p x} (h : Kept s₀ s ev wt) : Kept s₀ (Machine.cmdTimeSetDelay p x s).2 ev wt := by
  unfold Machine.cmdTimeSetDelay
  refine .iteSnd h ?_
  split
  · exact .snd (.put h)
  · exact .snd (.put h)
  · exact .snd (.put h)
  · exact .snd (.put h)
  · exact .snd (.put h)
  · exact .snd (.withTime h)

theorem Kept.cmdTimeWlSet {p x} (h : Kept s₀ s ev wt) : Kept s₀ (Machine.cmdTimeWlSet p x s).2 ev wt := by
  unfold Machine.cmdTimeWlSet
  exact .iteSnd h (.snd (.ite (.rangeClear (.withTime h)) (.withTime h)))

theorem Kept.cmdTimeModelSet {p x} (h : Kept s₀ s ev wt) : Kept s₀ (Machine.cmdTimeModelSet p x s).2 ev wt := by
  unfold Machine.cmdTimeModelSet
  exact .iteSnd h (.snd (.rangeClear (.withTime h)))

theorem Kept.cmdTimeRangeReport {p x} (h : Kept s₀ s ev wt) : Kept s₀ (Machine.cmdTimeRangeReport p x s).2 ev wt := by
  unfold Machine.cmdTimeRangeReport
  exact .iteSnd h (.iteSnd h (.iteSnd h h))

theorem Kept.cmdTimeCtxFlush {p x} (h : Kept s₀ s ev wt) : Kept s₀ (Machine.cmdTimeCtxFlush p x s).2 ev wt := by
  unfold Machine.cmdTimeCtxFlush
  exact .iteSnd h (.iteSnd h (.iteSnd h (.snd (.freeCtxs h))))

theorem Kept.cmdTimePpsSet {p x} (h : Kept s₀ s ev wt) : Kept s₀ (Machine.cmdTimePpsSet p x s).2 ev wt := by
  unfold Machine.cmdTimePpsSet
  exact .iteSnd h (.snd (.refreshTimeIsland (.refreshPps (.put (.put (.put (.put h)))))))

theorem Kept.cmdTimeTodserSet {p x} (h : Kept s₀ s ev wt) : Kept s₀ (Machine.cmdTimeTodserSet p x s).2 ev wt := by
  unfold Machine.cmdTimeTodserSet
  exact .iteSnd h (.snd (.refreshTimeIsland (.put (.put (.put (.put (.put h)))))))

theorem Kept.cmdTimePortSet {p x} (h : Kept s₀ s ev wt) : Kept s₀ (Machine.cmdTimePortSet p x s).2 ev wt := by
  unfold Machine.cmdTimePortSet
  exact .iteSnd h (.iteSnd h (.iteSnd h (.snd (.put (.put (.put (.put (.put h))))))))

/-! ## Recorder -/

theorem Kept.setEvr {e} (h : Kept s₀ s ev wt) : Kept s₀ (s.setEvr e) ev wt := by
  unfold State.setEvr
  exact .withEvr h

theorem Kept.writeRecord {loc ws} (h : Kept s₀ s ev wt) : Kept s₀ (s.writeRecord loc ws) ev wt := by
  unfold State.writeRecord
  exact .foldl h fun _ _ hf => .writeWord hf

theorem Kept.refreshEvr (h : Kept s₀ s ev wt) : Kept s₀ s.refreshEvr ev wt := by
  unfold State.refreshEvr
  exact .ite (.put (.put (.put (.setReg (.setReg (.setReg h)))))) (.put (.put (.setReg (.setReg (.setReg h)))))

theorem Kept.emergency {code sev p0 p1 p2 p3} (h : Kept s₀ s ev wt) :
    Kept s₀ (s.emergency code sev p0 p1 p2 p3) ev wt := by
  unfold State.emergency
  exact .raise (.put (.put (.setWide (.free (.setEvr (.ite h (.bump h)))))))

theorem Kept.evrDegrade (h : Kept s₀ s ev wt) : Kept s₀ s.evrDegrade ev wt := by
  unfold State.evrDegrade
  exact .ite h (.emergency (.putBit (.putBit (.raise (.raise h)))))

theorem Kept.stagingFailed (h : Kept s₀ s ev wt) : Kept s₀ s.stagingFailed ev wt := by
  unfold State.stagingFailed
  exact .ite (.evrDegrade (.raise h)) (.raise h)

theorem Kept.stagingFault {r} (h : Kept s₀ s ev wt) : Kept s₀ (s.stagingFault r) ev wt := by
  unfold State.stagingFault
  exact .ite (.stagingFailed (.emergency (.raise (.raise (.setEvr (.inc h)))))) (.emergency (.raise (.raise (.setEvr
      (.inc h)))))

theorem Kept.readHard {a src kind} (h : Kept s₀ s ev wt) : Kept s₀ (s.readHard a src kind).2 ev wt := by
  unfold State.readHard
  exact .ite (.stagingFailed (.readWord h)) (.readWord h)

theorem Kept.readRecord {loc} (h : Kept s₀ s ev wt) : Kept s₀ (s.readRecord loc).2 ev wt := by
  unfold State.readRecord
  refine .foldlSnd h fun z w hz => ?_
  split
  next _ t e =>
  have ht : Kept s₀ t ev wt := .of_pair e hz.readHard
  split
  · exact ht
  · exact ht

theorem Kept.evrKick (h : Kept s₀ s ev wt) : Kept s₀ s.evrKick ev wt := by
  unfold State.evrKick
  exact .ite h (.setEvr h)

theorem Kept.marked {w seq} (h : Kept s₀ s ev wt) : Kept s₀ (s.marked w seq) ev wt := by
  unfold State.marked
  split
  · exact .finish h
  · exact h

theorem Kept.stageRecord {e extra} (h : Kept s₀ s ev wt) : Kept s₀ (s.stageRecord e extra) ev wt := by
  unfold State.stageRecord
  exact .marked (.ite (.evrKick (.setEvr (.writeRecord (.ite h (.setEvr h))))) (.setEvr (.writeRecord (.ite h
      (.setEvr h)))))

theorem Kept.evrSummary (h : Kept s₀ s ev wt) : Kept s₀ s.evrSummary ev wt := by
  unfold State.evrSummary
  split
  · exact h
  · exact .setEvr h

theorem Kept.evrDrain {n} (h : Kept s₀ s ev wt) : Kept s₀ (State.evrDrain n s) ev wt := by
  induction n generalizing s with
  | zero => exact h
  | succ n ih =>
    rw [State.evrDrain]
    split
    · exact h
    · exact .ite (ih (.stageRecord (.evrSummary (.setEvr h)))) h

theorem Kept.evrDrop {e} (h : Kept s₀ s ev wt) : Kept s₀ (s.evrDrop e) ev wt := by
  unfold State.evrDrop
  extract_lets
  split
  · exact .finish (.setEvr (.raise (.inc h)))
  · exact .setEvr (.raise (.inc h))

theorem Kept.evrArrive {e} (h : Kept s₀ s ev wt) : Kept s₀ (s.evrArrive e) ev wt := by
  unfold State.evrArrive
  refine .ite ?_ ?_
  · exact .ite (.emergency h) (.evrDrop h)
  · exact .ite (.evrDrop h) (.evrDrain (.refreshEvr (.setEvr h)))

theorem Kept.ringPut {seq ws} (h : Kept s₀ s ev wt) : Kept s₀ (s.ringPut seq ws) ev wt := by
  unfold State.ringPut
  exact .setEvr (.writeRecord h)

theorem Kept.ringFail (h : Kept s₀ s ev wt) : Kept s₀ s.ringFail ev wt := by
  unfold State.ringFail
  extract_lets _ _ _ _ _ s1
  have h1 : Kept s₀ s1 ev wt := .log (.raise (.put (.setWide (.initRange h))))
  split
  · exact .setEvr (.setEvr h1)
  · exact .ite (.evrDegrade (.setEvr (.raise (.setEvr h1)))) (.evrDrain (.setEvr (.raise (.setEvr h1))))

theorem Kept.flushOne {r fail} (h : Kept s₀ s ev wt) : Kept s₀ (s.flushOne r fail) ev wt := by
  unfold State.flushOne
  split
  · next _ e =>
    have h1 := Kept.of_pair e (.readRecord h)
    exact .stagingFault h1
  · next _ _ e1 =>
    have h2 := Kept.of_pair e1 (.readRecord h)
    exact .ite (.ringFail h2) (.setEvr (.ringPut h2))

theorem Kept.flushEnd (h : Kept s₀ s ev wt) : Kept s₀ s.flushEnd ev wt := by
  unfold State.flushEnd
  exact .ite (.setEvr h) h

theorem Kept.flushFifo {fail} (h : Kept s₀ s ev wt) : Kept s₀ (s.flushFifo fail) ev wt := by
  unfold State.flushFifo
  split
  · exact h
  · exact .ite (.ringFail h) (.marked (.ringPut (.evrSummary (.setEvr h))))

theorem Kept.flushAll (h : Kept s₀ s ev wt) : Kept s₀ s.flushAll ev wt := by
  unfold State.flushAll
  exact .ite (.setEvr (.putFlag h)) (.refreshEvr (.flushEnd (.foldl (.setEvr (.putFlag h)) fun _ _ hf => .flushOne
      hf)))

theorem Kept.thaw {why} (h : Kept s₀ s ev wt) : Kept s₀ (s.thaw why) ev wt := by
  unfold State.thaw
  exact .ite (.evrKick (.log (.setEvr (.putFlag h)))) h

theorem Kept.evrLatch {seq} (h : Kept s₀ s ev wt) : Kept s₀ (s.evrLatch seq).2.2 ev wt := by
  unfold State.evrLatch
  refine .iteSnd2 h ?_
  split
  · exact h
  · refine .iteSnd2 h (.iteSnd2 h ?_)
    split
    · exact h
    · split
      · next _ _ e =>
        have h1 := Kept.of_pair e (.readRecord h)
        exact .snd h1
      · next _ e1 =>
        have h2 := Kept.of_pair e1 (.readRecord h)
        split
        · exact .snd (.refreshEvr (.stagingFault h2))
        · exact .snd h2

theorem Kept.winLatch {m} (h : Kept s₀ s ev wt) : Kept s₀ (s.winLatch m).2 ev wt := by
  unfold State.winLatch
  exact .ite (.setReg (.put (.evrLatch h))) (.put (.evrLatch h))

theorem Kept.execEventRecordArrival (h : Kept s₀ s false wt) :
    NextKept false wt s₀ (Machine.execEventRecordArrival s) := by
  unfold Machine.execEventRecordArrival
  refine .next (.ite ?_ h)
  split
  · exact h
  · exact .refreshEvr (.evrArrive (.withEvents h))

theorem Kept.execFlushAgeTimer (h : Kept s₀ s ev wt) : NextKept ev wt s₀ (Machine.execFlushAgeTimer s) := by
  unfold Machine.execFlushAgeTimer
  refine .next ?_
  split
  · exact .ite (.evrKick h) h
  · exact h

theorem Kept.execRingRecordWrite {fail} (h : Kept s₀ s ev wt) :
    NextKept ev wt s₀ (Machine.execRingRecordWrite fail s) := by
  unfold Machine.execRingRecordWrite
  refine .next (.ite h ?_)
  split
  · exact .ite (.refreshEvr (.evrDrain (.flushEnd (.flushOne h)))) h
  · exact .ite (.refreshEvr (.flushFifo h)) h

theorem Kept.emergencyCopy {slot} (h : Kept s₀ s ev wt) : Kept s₀ (s.emergencyCopy slot) ev wt := by
  unfold State.emergencyCopy
  exact .ite (.put (.put (.setEvr (.stageRecord h)))) h

theorem Kept.cmdEvrFreeze {p x} (h : Kept s₀ s ev wt) : Kept s₀ (Machine.cmdEvrFreeze p x s).2 ev wt := by
  unfold Machine.cmdEvrFreeze
  exact .iteSnd h (.snd (.log (.setEvr (.raise h))))

theorem Kept.cmdEvrThaw {p x} (h : Kept s₀ s ev wt) : Kept s₀ (Machine.cmdEvrThaw p x s).2 ev wt := by
  unfold Machine.cmdEvrThaw
  exact .iteSnd h (.snd (.thaw h))

theorem Kept.cmdEvrStatus {p x} (h : Kept s₀ s ev wt) : Kept s₀ (Machine.cmdEvrStatus p x s).2 ev wt := by
  unfold Machine.cmdEvrStatus
  exact .iteSnd h h

theorem Kept.cmdEvrMark {p w} (h : Kept s₀ s false wt) : Kept s₀ (Machine.cmdEvrMark p w s).2 false wt := by
  unfold Machine.cmdEvrMark
  exact .iteSnd h (.snd (.withEvents h))

/-! ## Integrity -/

theorem Kept.upset {a upset} (h : Kept s₀ s ev wt) : Kept s₀ (s.upset a upset) ev wt := by
  unfold State.upset
  exact .ite h (.setWord h)

theorem Kept.scrub {a} (h : Kept s₀ s ev wt) : Kept s₀ (s.scrub a) ev wt := by
  unfold State.scrub
  extract_lets
  split
  · exact .setWord (.readHard h)
  · exact .readHard h

theorem Kept.rewriteRow {row} (h : Kept s₀ s ev wt) : Kept s₀ (s.rewriteRow row) ev wt := by
  unfold State.rewriteRow
  refine .foldl h fun _ _ hf => ?_
  extract_lets
  split
  · exact .setWord hf
  · exact hf

theorem Kept.execMramRemapDone {row} (h : Kept s₀ s ev wt) : NextKept ev wt s₀ (Machine.execMramRemapDone row s) := by
  unfold Machine.execMramRemapDone
  exact .next (.ite (.ite (.raise (.put (.rewriteRow (.withCtl h)))) (.put (.rewriteRow (.withCtl h)))) h)

theorem Kept.cmdMemStatus {p x} (h : Kept s₀ s ev wt) : Kept s₀ (Machine.cmdMemStatus p x s).2 ev wt := by
  unfold Machine.cmdMemStatus
  exact .iteSnd h (.iteSnd h h)

theorem Kept.cmdMemBucketSet {p x} (h : Kept s₀ s ev wt) : Kept s₀ (Machine.cmdMemBucketSet p x s).2 ev wt := by
  unfold Machine.cmdMemBucketSet
  exact .iteSnd h (.iteSnd h (.snd (.put (.put h))))

theorem Kept.cmdMemHardList {p x} (h : Kept s₀ s ev wt) : Kept s₀ (Machine.cmdMemHardList p x s).2 ev wt := by
  unfold Machine.cmdMemHardList
  exact .iteSnd h (.iteSnd h h)

/-! ## LineTx -/

theorem Kept.commit {k} (h : Kept s₀ s ev wt) : Kept s₀ (s.commit k) ev wt := by
  unfold State.commit
  exact .ite (.putFlag (.setLine h)) (.refreshAmp (.setTxActive h))

theorem Kept.cmdSetFir {p x} (h : Kept s₀ s ev wt) : Kept s₀ (Machine.cmdSetFir p x s).2 ev wt := by
  unfold Machine.cmdSetFir
  exact .iteSnd h (.iteSnd h (.iteSnd h (.snd (.foldl h fun _ _ hf => .put hf))))

theorem Kept.cmdSetLevels {p x} (h : Kept s₀ s ev wt) : Kept s₀ (Machine.cmdSetLevels p x s).2 ev wt := by
  unfold Machine.cmdSetLevels
  exact .iteSnd h (.iteSnd h (.iteSnd h (.snd (.foldl h fun _ _ hf => .put hf))))

theorem Kept.cmdCommit {p x} (h : Kept s₀ s ev wt) : Kept s₀ (Machine.cmdCommit p x s).2 ev wt := by
  unfold Machine.cmdCommit
  exact .iteSnd h (.iteSnd h (.iteSnd h (.snd (.commit h))))

theorem Kept.execLtxRampStep {k} (h : Kept s₀ s ev wt) : NextKept ev wt s₀ (Machine.execLtxRampStep k s) := by
  unfold Machine.execLtxRampStep
  refine .next ?_
  split
  · exact h
  · exact .ite (.setLine (.setTxActive h)) (.endRamp h)

theorem Kept.patternPair {k} (h : Kept s₀ s ev wt) : Kept s₀ (s.patternPair k).2 ev wt := by
  unfold State.patternPair
  extract_lets
  split
  next _ _ e =>
  have h1 := Kept.of_pair e (by
    split
    · exact h
    · exact .free h
  )
  exact .snd (.setLine h1)

theorem Kept.txSymbol {k src} (h : Kept s₀ s ev wt) : Kept s₀ (s.txSymbol k src).2 ev wt := by
  unfold State.txSymbol
  exact .iteSnd h (.setLine (.iteSnd (.patternPair h) h))

theorem Kept.txSymbols {k xs} (h : Kept s₀ s ev wt) : Kept s₀ (s.txSymbols k xs).2 ev wt := by
  induction xs generalizing s with
  | nil => exact h
  | cons x xs ih =>
    rw [State.txSymbols]
    exact ih h.txSymbol

theorem Kept.clipped {k n} (h : Kept s₀ s ev wt) : Kept s₀ (s.clipped k n) ev wt := by
  unfold State.clipped
  exact .ite h (.logRate (.raise (.inc h)))

theorem Kept.txSend {k sub xs} (h : Kept s₀ s ev wt) : Kept s₀ (s.txSend k sub xs) ev wt := by
  unfold State.txSend
  exact .clipped (.setLine h)

theorem Kept.txWakePattern {k} (h : Kept s₀ s ev wt) : Kept s₀ (s.txWakePattern k) ev wt := by
  unfold State.txWakePattern
  exact .ite (.txSend h) h

theorem Kept.execLtxChkLost {k symbols} (h : Kept s₀ s ev wt) :
    NextKept ev wt s₀ (Machine.execLtxChkLost k symbols s) := by
  unfold Machine.execLtxChkLost
  exact .next (.ite (.ite (.log (.raise (.putFlag (.inc (.inc (.setLine h)))))) (.inc (.inc (.setLine h)))) h)

theorem Kept.execLtxLbSlip {k again block} (h : Kept s₀ s ev wt) :
    NextKept ev wt s₀ (Machine.execLtxLbSlip k again block s) := by
  unfold Machine.execLtxLbSlip
  refine .next ?_
  split
  · exact .ite (.ite (.txSend (.txSymbols (.raise (.inc h)))) (.raise (.inc h))) h
  · exact h

theorem Kept.cmdCalTxRun {p t} (h : Kept s₀ s ev wt) : Kept s₀ (Machine.cmdCalTxRun p t s).2 ev wt := by
  unfold Machine.cmdCalTxRun
  refine .iteSnd h (.iteSnd h (.iteSnd h (.iteSnd h ?_)))
  exact .iteSnd (.snd (.endCalTx (.put (.put (.put (.setReg (.setLine h))))))) (.snd (.putFlag (.put (.put (.put
      (.put (.put (.setReg (.setLine h)))))))))

theorem Kept.cmdCalTxAbort {p x} (h : Kept s₀ s ev wt) : Kept s₀ (Machine.cmdCalTxAbort p x s).2 ev wt := by
  unfold Machine.cmdCalTxAbort
  exact .iteSnd h (.iteSnd h (.iteSnd h (.iteSnd (.snd (.endCalTx h)) h)))

theorem Kept.cmdCalTxStatus {p x} (h : Kept s₀ s ev wt) : Kept s₀ (Machine.cmdCalTxStatus p x s).2 ev wt := by
  unfold Machine.cmdCalTxStatus
  exact .iteSnd h (.iteSnd h (.iteSnd h h))

theorem Kept.dacTarget {k n d} (h : Kept s₀ s ev wt) : Kept s₀ (s.dacTarget k n d) ev wt := by
  unfold State.dacTarget
  exact .ite (.put h) (.raise (.put h))

theorem Kept.startDacTrims {k} (h : Kept s₀ s ev wt) : Kept s₀ (s.startDacTrims k) ev wt := by
  unfold State.startDacTrims
  exact .setLine h

theorem Kept.execCalTxMeasureEnd {k skew} (h : Kept s₀ s ev wt) :
    NextKept ev wt s₀ (Machine.execCalTxMeasureEnd k skew s) := by
  unfold Machine.execCalTxMeasureEnd
  refine .next ?_
  split
  · exact h
  · refine .ite ?_ h
    refine .ite (.endCalTx (.raise (.setLine h))) ?_
    exact .startDacTrims (.put (.foldl (.setLine h) fun _ _ hf => .dacTarget hf))

theorem Kept.execCalTxApplyEnd {k} (h : Kept s₀ s ev wt) : NextKept ev wt s₀ (Machine.execCalTxApplyEnd k s) := by
  unfold Machine.execCalTxApplyEnd
  refine .next ?_
  split
  · exact h
  · exact .ite (.ite (.put (.put (.bump h))) (.endCalTx (.bump h))) h

theorem Kept.dacTtrimWrite {k n data} (h : Kept s₀ s ev false) : Kept s₀ (s.dacTtrimWrite k n data) ev false := by
  unfold State.dacTtrimWrite
  exact .ite (.raise (.raise h)) (.ite (.startDacTrims (.writeRwl h)) (.setReg (.writeRwl h)))

theorem Kept.testCtlWrite {k data} (h : Kept s₀ s ev false) : Kept s₀ (s.testCtlWrite k data) ev false := by
  unfold State.testCtlWrite
  exact .ite (.writeRwl h) (.raise (.raise h))

/-! ## HostLane -/

theorem Kept.setHostLane {j v} (h : Kept s₀ s ev wt) : Kept s₀ (s.setHostLane j v) ev wt := ⟨h.pending, h.events, h.regs⟩

theorem Kept.applyTxEq {j} (h : Kept s₀ s ev wt) : Kept s₀ (s.applyTxEq j) ev wt := by
  unfold State.applyTxEq
  exact .ite (.raise (.put (.put (.put (.setReg h))))) (.put (.put (.put (.setReg h))))

theorem Kept.txEqWrite {j data} (h : Kept s₀ s ev wt) : Kept s₀ (s.txEqWrite j data) ev wt := by
  unfold State.txEqWrite
  exact .applyTxEq (.setReg h)

theorem Kept.rxEqWrite {j data} (h : Kept s₀ s ev wt) : Kept s₀ (s.rxEqWrite j data) ev wt := by
  unfold State.rxEqWrite
  exact .ite (.setReg h) (.put (.setReg h))

theorem Kept.putHostFofs {j fofs phase} (h : Kept s₀ s ev wt) : Kept s₀ (s.putHostFofs j fofs phase) ev wt := by
  unfold State.putHostFofs
  exact .put (.put h)

theorem Kept.adaptTaps {j h1 taps} (h : Kept s₀ s ev wt) : Kept s₀ (s.adaptTaps j h1 taps) ev wt := by
  unfold State.adaptTaps
  refine .ite h (.foldl (.put h) fun _ _ hf => ?_)
  split
  · exact .put hf
  · exact hf

theorem Kept.moveCtle {j code} (h : Kept s₀ s ev wt) : Kept s₀ (s.moveCtle j code) ev wt := by
  unfold State.moveCtle
  exact .ite (.setHostLane (.put h)) h

theorem Kept.hostPair {j} (h : Kept s₀ s ev wt) : Kept s₀ (s.hostPair j).2 ev wt := by
  unfold State.hostPair
  extract_lets
  split
  next _ _ e =>
  have h1 := Kept.of_pair e (by
    split
    · exact h
    · exact .iteSnd h (.free h)
  )
  split
  extract_lets
  split <;> exact .snd (.setHostLane h1)

theorem Kept.hostSymbol {j src} (h : Kept s₀ s ev wt) : Kept s₀ (s.hostSymbol j src).2 ev wt := by
  unfold State.hostSymbol
  exact .iteSnd h (.iteSnd h (.hostPair h))

theorem Kept.hostLevels {j vs} (h : Kept s₀ s ev wt) : Kept s₀ (s.hostLevels j vs) ev wt := by
  unfold State.hostLevels
  exact .setHostLane h

theorem Kept.hostSend {j src} (h : Kept s₀ s ev wt) : Kept s₀ (s.hostSend j src) ev wt := by
  unfold State.hostSend
  exact .ite h (.hostLevels (.foldlSnd h fun _ _ hz => .hostSymbol hz))

theorem Kept.hostWakePattern {j} (h : Kept s₀ s ev wt) : Kept s₀ (s.hostWakePattern j) ev wt := by
  unfold State.hostWakePattern
  exact .ite h (.hostLevels h)

theorem Kept.execHlSigAssert {j} (h : Kept s₀ s ev wt) : NextKept ev wt s₀ (Machine.execHlSigAssert j s) := by
  unfold Machine.execHlSigAssert
  exact .next (.ite (.ite (.wakeHostRxPort (.log (.raise (.raise h)))) (.log (.raise (.raise h)))) h)

theorem Kept.execHlWakeSeen {j} (h : Kept s₀ s ev wt) : NextKept ev wt s₀ (Machine.execHlWakeSeen j s) := by
  unfold Machine.execHlWakeSeen
  exact .next (.ite (.ite (.wakeHostRxPort (.ite h (.log (.raise h)))) (.ite h (.log (.raise h)))) h)

theorem Kept.countChk {j symbols errors} (h : Kept s₀ s ev wt) : Kept s₀ (s.countChk j symbols errors) ev wt := by
  unfold State.countChk
  exact .inc (.inc h)

theorem Kept.execHlChkLost {j symbols} (h : Kept s₀ s ev wt) : NextKept ev wt s₀ (Machine.execHlChkLost j symbols s) := by
  unfold Machine.execHlChkLost
  refine .next (.ite ?_ (.ite (.countChk h) h))
  exact .ite (.log (.raise (.putFlag (.countChk (.setHostLane h))))) (.countChk (.setHostLane h))

theorem Kept.slipDone {j} (h : Kept s₀ s ev wt) : Kept s₀ (s.slipDone j) ev wt := by
  unfold State.slipDone
  exact .ite (.foldl (.setHostLane h) fun _ _ hf => .finish hf) h

theorem Kept.slipWrite {j data} (h : Kept s₀ s ev wt) : Kept s₀ (s.slipWrite j data) ev wt := by
  unfold State.slipWrite
  exact .ite (.slipDone (.setReg h)) (.raise (.raise h))

theorem Kept.execHlBitSlip {j} (h : Kept s₀ s ev wt) : NextKept ev wt s₀ (Machine.execHlBitSlip j s) := by
  unfold Machine.execHlBitSlip
  refine .next (.ite h ?_)
  exact .slipDone (.ite (.ite h (.putFlag (.put (.put h)))) (.setHostLane (.put (.put (.ite h (.putFlag (.put (.put
      h))))))))

theorem Kept.captureStart {j} (h : Kept s₀ s ev wt) : Kept s₀ (s.captureStart j) ev wt := by
  unfold State.captureStart
  exact .ite h (.putFlag (.putFlag h))

theorem Kept.execCaptureDone {j words} (h : Kept s₀ s ev wt) : NextKept ev wt s₀ (Machine.execCaptureDone j words s) := by
  unfold Machine.execCaptureDone
  refine .next (.ite ?_ h)
  extract_lets
  split
  · exact .raise (.putFlag (.putFlag (.foldl h fun _ _ hf => .setWord hf)))
  · exact .finish (.setHostLane (.raise (.putFlag (.putFlag (.foldl h fun _ _ hf => .setWord hf)))))

theorem Kept.execHlLbSlip {j again block} (h : Kept s₀ s ev wt) :
    NextKept ev wt s₀ (Machine.execHlLbSlip j again block s) := by
  unfold Machine.execHlLbSlip
  refine .next ?_
  split
  · refine .ite ?_ h
    exact .ite (.hostSend (.logRate (.raise (.inc h)))) (.logRate (.raise (.inc h)))
  · exact h

theorem Kept.hostCmd {j} {x : Answer × State} (h : Kept s₀ s ev wt) (hx : Kept s₀ x.2 ev wt) :
    Kept s₀ (s.hostCmd j x).2 ev wt := by
  unfold State.hostCmd
  exact .iteSnd h (.iteSnd h hx)

theorem Kept.cmdSetTxEq {p x} (h : Kept s₀ s ev wt) : Kept s₀ (Machine.cmdSetTxEq p x s).2 ev wt := by
  unfold Machine.cmdSetTxEq
  exact .iteSnd h (.hostCmd h (.snd (.txEqWrite h)))

theorem Kept.cmdSetRxEq {p x} (h : Kept s₀ s ev wt) : Kept s₀ (Machine.cmdSetRxEq p x s).2 ev wt := by
  unfold Machine.cmdSetRxEq
  exact .iteSnd h (.hostCmd h (.snd (.rxEqWrite h)))

theorem Kept.cmdHlSlip {p t} (h : Kept s₀ s ev wt) : Kept s₀ (Machine.cmdHlSlip p t s).2 ev wt := by
  unfold Machine.cmdHlSlip
  exact .iteSnd h (.hostCmd h (.iteSnd h (.snd (.slipWrite (.setHostLane h)))))

theorem Kept.cmdHlCapture {p t} (h : Kept s₀ s ev wt) : Kept s₀ (Machine.cmdHlCapture p t s).2 ev wt := by
  unfold Machine.cmdHlCapture
  exact .iteSnd h (.hostCmd h (.iteSnd h (.iteSnd h (.snd (.captureStart (.setHostLane h))))))

theorem Kept.cmdHlStatus {p x} (h : Kept s₀ s ev wt) : Kept s₀ (Machine.cmdHlStatus p x s).2 ev wt := by
  unfold Machine.cmdHlStatus
  exact .iteSnd h (.hostCmd h h)

/-! ## Insole -/

theorem Kept.slotBytes {k slot n} (h : Kept s₀ s ev wt) : Kept s₀ (s.slotBytes k slot n).2 ev wt := by
  unfold State.slotBytes
  split
  · next _ e =>
    have h1 := Kept.of_pair e (.readWords h)
    exact .snd h1
  · next _ _ e1 =>
    have h2 := Kept.of_pair e1 (.readWords h)
    exact .snd h2

theorem Kept.storeSlot {k slot bytes} (h : Kept s₀ s ev wt) : Kept s₀ (s.storeSlot k slot bytes) ev wt := by
  unfold State.storeSlot
  exact .foldl h fun _ _ hf => .setWord hf

theorem Kept.insStart {k f} (h : Kept s₀ s ev wt) : Kept s₀ (s.insStart k f) ev wt := by
  unfold State.insStart
  exact .setInsl h

theorem Kept.sendMsg {k m} (h : Kept s₀ s ev wt) : Kept s₀ (s.sendMsg k m) ev wt := by
  unfold State.sendMsg
  split
  · next _ e =>
    have h1 := Kept.of_pair e (.slotBytes h)
    exact .insMsgDone (.setInsl h1)
  · next _ _ e1 =>
    have h2 := Kept.of_pair e1 (.slotBytes h)
    exact .insStart (.setInsl (.ite (.put h2) (.inc h2)))

theorem Kept.insNext {k} (h : Kept s₀ s ev wt) : Kept s₀ (s.insNext k) ev wt := by
  unfold State.insNext
  refine .ite h (.ite (.ite (.setInsl (.insStart h)) h) ?_)
  split
  · exact .ite (.sendMsg h) h
  · exact .ite (.setInsl (.insStart h)) h

theorem Kept.insResume {k} (h : Kept s₀ s ev wt) : Kept s₀ (s.insResume k) ev wt := by
  unfold State.insResume
  refine .ite ?_ h
  exact .ite (.log (.raise (.putFlag h))) (.insRamp (.log (.raise (.putFlag h))))

theorem Kept.refreshPause {d} (h : Kept s₀ s ev wt) : Kept s₀ (s.refreshPause d) ev wt := by
  unfold State.refreshPause
  exact .foldl h fun _ _ hf => .ite (.insPause hf) (.insResume hf)

theorem Kept.insSent {k f} (h : Kept s₀ s ev wt) : Kept s₀ (s.insSent k f) ev wt := by
  unfold State.insSent
  exact .inc (.setInsl h)

theorem Kept.execInsTxFrameDone {k} (h : Kept s₀ s ev wt) : NextKept ev wt s₀ (Machine.execInsTxFrameDone k s) := by
  unfold Machine.execInsTxFrameDone
  refine .next (.ite h ?_)
  extract_lets s1
  have h1 : Kept s₀ s1 ev wt := by
    unfold s1
    split
    · exact h
    · exact .insSent h
  exact .ite (.insPause h1) (.insNext h1)

theorem Kept.insIslandOn {d} (h : Kept s₀ s ev wt) : Kept s₀ (s.insIslandOn d) ev wt := by
  unfold State.insIslandOn
  exact .ite (.turnIsland h) h

theorem Kept.insIslandOff {d} (h : Kept s₀ s ev wt) : Kept s₀ (s.insIslandOff d) ev wt := by
  unfold State.insIslandOff
  exact .ite h (.ite (.turnIsland h) (.dropRange (.foldl (.wipe (.turnIsland h)) fun _ _ hf => .setInsl (.wipe hf))))

theorem Kept.execInsRampStep {k} (h : Kept s₀ s ev wt) : NextKept ev wt s₀ (Machine.execInsRampStep k s) := by
  unfold Machine.execInsRampStep
  refine .next ?_
  split
  · exact h
  · refine .ite h (.ite (.setInsl h) ?_)
    exact .ite (.insIslandOff (.putFlag (.putFlag (.setInsl h)))) (.putFlag (.putFlag (.setInsl h)))

theorem Kept.refreshRxOk {k} (h : Kept s₀ s ev wt) : Kept s₀ (s.refreshRxOk k) ev wt := by
  unfold State.refreshRxOk
  exact .setRxOk h

theorem Kept.insSync {k} (h : Kept s₀ s ev wt) : Kept s₀ (s.insSync k) ev wt := by
  unfold State.insSync
  exact .refreshRxOk (.put h)

theorem Kept.insFrame {k phase metric inverted arrival} (h : Kept s₀ s ev wt) :
    Kept s₀ (s.insFrame k phase metric inverted
    arrival) ev wt := by
  unfold State.insFrame
  exact .putFlag (.putFlag (.setInsl (.put (.put h))))

theorem Kept.execInsSyncDetect {k hits} (h : Kept s₀ s ev wt) :
    NextKept ev wt s₀ (Machine.execInsSyncDetect k hits s) := by
  unfold Machine.execInsSyncDetect
  refine .next (.ite ?_ h)
  split
  · exact h
  · exact .via (.ite (.insSync h) h) fun h1 => .ite (.insFrame h1) (.ite (.insFrame (.logRate (.raise (.inc h1)))) h1)

theorem Kept.insAck {k ack} (h : Kept s₀ s ev wt) : Kept s₀ (s.insAck k ack) ev wt := by
  unfold State.insAck
  exact .foldl (.setInsl h) fun _ _ hf => .insMsgDone hf

theorem Kept.insMsgIn {k seq payload} (h : Kept s₀ s ev wt) : Kept s₀ (s.insMsgIn k seq payload) ev wt := by
  unfold State.insMsgIn
  refine .ite h (.ite ?_ (.ite (.setInsl h) h))
  split
  · exact .inc h
  · exact .raise (.put (.setInsl (.storeSlot h)))

theorem Kept.insGoUp {k} (h : Kept s₀ s ev wt) : Kept s₀ (s.insGoUp k) ev wt := by
  unfold State.insGoUp
  exact .log (.raise (.setInsl (.put (.put h))))

theorem Kept.insGoodFrame {k h' payload sigma} (h : Kept s₀ s ev wt) :
    Kept s₀ (s.insGoodFrame k h' payload sigma) ev wt := by
  unfold State.insGoodFrame
  extract_lets _ _ _ s1 _ _ _ _ _ _ s2
  have h3 : Kept s₀ s1 ev wt := .put (.putFlag (.setInsl (.inc h)))
  have h2 : Kept s₀ s2 ev wt := by
    refine .ite ?_ ?_
    · exact .putFlag (.putFlag (.putFlag (.put h3)))
    · exact .ite (.exchange (.setInsl (.put (.put (.setWide h3))))) h3
  exact .via (.ite (.insGoUp h2) (.ite (.insLeave h2) h2)) fun h1 => .refreshRxOk (.ite (.ite (.insMsgIn (.insAck
      h1)) (.insAck h1)) h1)

theorem Kept.execInsFrameReceived {k header payload crc sigma} (h : Kept s₀ s ev wt) :
    NextKept ev wt s₀ (Machine.execInsFrameReceived
    k header payload crc sigma s) := by
  unfold Machine.execInsFrameReceived
  exact .next (.ite (.ite (.inc (.putFlag h)) (.ite (.inc (.putFlag h)) (.insGoodFrame (.putFlag h)))) h)

theorem Kept.insReacquire {k} (h : Kept s₀ s ev wt) : Kept s₀ (s.insReacquire k) ev wt := by
  unfold State.insReacquire
  exact .refreshRxOk (.putFlag (.insLeave h))

theorem Kept.insRetrack {k energy} (h : Kept s₀ s ev wt) : Kept s₀ (s.insRetrack k energy) ev wt := by
  unfold State.insRetrack
  exact .ite (.setInsl h) (.ite (.setInsl h) (.setInsl (.put h)))

theorem Kept.execInsFofsMeasure {k apart track energy} (h : Kept s₀ s ev wt) :
    NextKept ev wt s₀ (Machine.execInsFofsMeasure k apart
    track energy s) := by
  unfold Machine.execInsFofsMeasure
  refine .next (.ite (.ite ?_ ?_) h)
  · exact .log (.raise (.insSeed (.insReacquire h)))
  · exact .insRetrack (.setInsl (.put (.put h)))

theorem Kept.execInsMsgRetx {k} (h : Kept s₀ s ev wt) : NextKept ev wt s₀ (Machine.execInsMsgRetx k s) := by
  unfold Machine.execInsMsgRetx
  refine .next ?_
  split
  · exact h
  · exact .ite (.setInsl h) (.refreshRxOk (.insLeave (.insMsgDone (.setInsl h))))

theorem Kept.execInsCreditTimeout {k} (h : Kept s₀ s ev wt) : NextKept ev wt s₀ (Machine.execInsCreditTimeout k s) := by
  unfold Machine.execInsCreditTimeout
  refine .next ?_
  split
  · exact h
  · exact .ite h (.insMsgDone (.setInsl h))

theorem Kept.sendMessage {p t} (h : Kept s₀ s ev wt) : Kept s₀ (Machine.sendMessage p t s).2 ev wt := by
  unfold Machine.sendMessage
  refine .iteSnd h (.iteSnd h (.iteSnd h (.iteSnd h ?_)))
  exact .iteSnd h (.iteSnd h (.iteSnd h (.snd (.wakeLineTx (.put (.setInsl h))))))

theorem Kept.cmdMsgSend {p t} (h : Kept s₀ s ev wt) : Kept s₀ (Machine.cmdMsgSend p t s).2 ev wt := by
  unfold Machine.cmdMsgSend
  extract_lets
  split
  · next _ e =>
    have h1 := Kept.of_pair e (.sendMessage h)
    exact .snd h1
  · next _ _ e1 =>
    have h2 := Kept.of_pair e1 (.sendMessage h)
    exact .snd (.ite (.raise h2) h2)

theorem Kept.cmdMsgRecv {p x} (h : Kept s₀ s ev wt) : Kept s₀ (Machine.cmdMsgRecv p x s).2 ev wt := by
  unfold Machine.cmdMsgRecv
  refine .iteSnd h (.iteSnd h (.iteSnd h ?_))
  split <;> exact h

theorem Kept.cmdMsgRelease {p x} (h : Kept s₀ s ev wt) : Kept s₀ (Machine.cmdMsgRelease p x s).2 ev wt := by
  unfold Machine.cmdMsgRelease
  exact .iteSnd h (.iteSnd h (.iteSnd h (.iteSnd (.snd (.put (.setInsl h))) h)))

theorem Kept.cmdInsStatus {p x} (h : Kept s₀ s ev wt) : Kept s₀ (Machine.cmdInsStatus p x s).2 ev wt := by
  unfold Machine.cmdInsStatus
  exact .iteSnd h (.iteSnd h (.iteSnd h h))

theorem Kept.cmdInsSetParam {p x} (h : Kept s₀ s ev wt) : Kept s₀ (Machine.cmdInsSetParam p x s).2 ev wt := by
  unfold Machine.cmdInsSetParam
  exact .iteSnd h (.iteSnd h (.iteSnd h (.snd (.ite (.setReg h) (.refreshAmp (.put (.setReg h)))))))

theorem Kept.cmdInsSearch {p t} (h : Kept s₀ s ev wt) : Kept s₀ (Machine.cmdInsSearch p t s).2 ev wt := by
  unfold Machine.cmdInsSearch
  exact .iteSnd h (.iteSnd h (.iteSnd h (.iteSnd h (.iteSnd h (.snd (.putFlag (.setInsl h)))))))

theorem Kept.execInsSearchDone {k metrics} (h : Kept s₀ s ev wt) :
    NextKept ev wt s₀ (Machine.execInsSearchDone k metrics s) := by
  unfold Machine.execInsSearchDone
  refine .next ?_
  split
  · exact h
  · exact .ite h (.finish (.ite (.insAcquire (.insReacquire (.setInsl h))) (.setInsl h)))

theorem Kept.insDown {k} (h : Kept s₀ s ev wt) : Kept s₀ (s.insDown k) ev wt := by
  unfold State.insDown
  exact .ite h (.putFlag (.putFlag (.setInsl (.insFlush (.insRxStop h)))))

theorem Kept.insCut {k} (h : Kept s₀ s ev wt) : Kept s₀ (s.insCut k) ev wt := by
  unfold State.insCut
  exact .ite (.setInsl h) h

theorem Kept.insDisable {k} (h : Kept s₀ s ev wt) : Kept s₀ (s.insDisable k) ev wt := by
  unfold State.insDisable
  refine .ite h (.insRamp (.setRxOk (.setInsl (.insCut ?_))))
  split
  · exact .finish (.setInsl (.putFlag (.insFlush (.insLeave h))))
  · exact .putFlag (.insFlush (.insLeave h))

theorem Kept.insEnable {k} (h : Kept s₀ s ev wt) : Kept s₀ (s.insEnable k) ev wt := by
  unfold State.insEnable
  exact .via (.refreshAmp (.insRxStart (.ite (.put h) h))) fun h1 => .ite h1 (.ite (.insPause (.startGrid h1))
      (.insRamp (.startGrid h1)))

/-! ## Modes -/

theorem Kept.toPwr {st} (h : Kept s₀ s ev false) : Kept s₀ (s.toPwr st) ev false := by
  unfold State.toPwr
  exact .ite h (.log (.raise (.put h)))

theorem Kept.setTxn {t} (h : Kept s₀ s ev wt) : Kept s₀ (s.setTxn t) ev wt := by
  unfold State.setTxn
  exact .withMode h

theorem Kept.named {id'} (h : Kept s₀ s ev wt) : Kept s₀ (s.named id').2 ev wt := by
  unfold State.named
  refine .iteSnd (.snd (.withMode h)) ?_
  split
  · exact .iteSnd h h
  · exact h

theorem Kept.inTxn {p touch f} (h : Kept s₀ s ev wt) (hf : ∀ t s, Kept s₀ s ev wt → Kept s₀ (f t s).2 ev wt) :
    Kept s₀ (s.inTxn p touch f).2 ev wt := by
  unfold State.inTxn
  refine .iteSnd h ?_
  split
  · next _ _ e => exact .of_pair e h.named
  · next _ _ e => exact hf _ _ (.setTxn (.of_pair e h.named))

theorem Kept.staging {p f} (h : Kept s₀ s ev wt) : Kept s₀ (s.staging p f).2 ev wt := by
  unfold State.staging
  refine .inTxn h fun _ _ hf => ?_
  split <;> exact .snd (.setTxn hf)

theorem Kept.cmdModeBegin {p x} (h : Kept s₀ s ev wt) : Kept s₀ (Machine.cmdModeBegin p x s).2 ev wt := by
  unfold Machine.cmdModeBegin
  exact .iteSnd h (.iteSnd h (.iteSnd h (.snd (.withMode h))))

theorem Kept.cmdStagePort {p x} (h : Kept s₀ s ev wt) : Kept s₀ (Machine.cmdStagePort p x s).2 ev wt := by
  unfold Machine.cmdStagePort
  exact .staging h

theorem Kept.cmdStageLane {p x} (h : Kept s₀ s ev wt) : Kept s₀ (Machine.cmdStageLane p x s).2 ev wt := by
  unfold Machine.cmdStageLane
  exact .staging h

theorem Kept.cmdStageDie {p x} (h : Kept s₀ s ev wt) : Kept s₀ (Machine.cmdStageDie p x s).2 ev wt := by
  unfold Machine.cmdStageDie
  exact .staging h

theorem Kept.cmdStageFibre {p x} (h : Kept s₀ s ev wt) : Kept s₀ (Machine.cmdStageFibre p x s).2 ev wt := by
  unfold Machine.cmdStageFibre
  exact .staging h

theorem Kept.rejected {t r} (h : Kept s₀ s ev wt) : Kept s₀ (s.rejected t r) ev wt := by
  unfold State.rejected
  exact .log (.setTxn h)

theorem Kept.cmdModeValidate {p x} (h : Kept s₀ s ev wt) : Kept s₀ (Machine.cmdModeValidate p x s).2 ev wt := by
  unfold Machine.cmdModeValidate
  exact .inTxn h fun _ _ hf => .iteSnd hf (.iteSnd hf (.iteSnd (.snd (.rejected hf)) (.snd (.setTxn hf))))

theorem Kept.cmdModeAbort {p x} (h : Kept s₀ s ev wt) : Kept s₀ (Machine.cmdModeAbort p x s).2 ev wt := by
  unfold Machine.cmdModeAbort
  exact .inTxn h fun _ _ hf => .iteSnd hf (.snd (.setTxn hf))

theorem Kept.cmdModeRead {p x} (h : Kept s₀ s ev wt) : Kept s₀ (Machine.cmdModeRead p x s).2 ev wt := by
  unfold Machine.cmdModeRead
  extract_lets part answer
  have hanswer : ∀ m t, Kept s₀ t ev wt → Kept s₀ (answer m t).2 ev wt := by
    intro m t ht
    unfold answer
    split
    · exact ht
    · exact ht
  refine .iteSnd h (.iteSnd (.iteSnd h (hanswer _ _ h)) ?_)
  split
  · next e => exact Kept.of_pair e h.named
  · next e => exact hanswer _ _ (.of_pair e h.named)

theorem Kept.cmdModePortStatus {p x} (h : Kept s₀ s ev wt) : Kept s₀ (Machine.cmdModePortStatus p x s).2 ev wt := by
  unfold Machine.cmdModePortStatus
  exact .iteSnd h h

theorem Kept.loadCal {kind index o r n u} (h : Kept s₀ s ev false) : Kept s₀ (s.loadCal kind index o r n u) ev false := by
  unfold State.loadCal
  refine .foldl h fun _ _ hf => ?_
  split
  · exact .setRegAny hf
  · exact hf

theorem Kept.lineOff {k} (h : Kept s₀ s ev false) : Kept s₀ (s.lineOff k) ev false := by
  unfold State.lineOff
  exact .setLine (.loseBuried (.dropRange (.wipe (.turnIsland (.putBit (.endSeq (.endSeq (.endSeq (.foldl h fun _ _
      hf => .ite hf (.rackOff hf))))))))))

theorem Kept.dropWaiters {j} (h : Kept s₀ s ev wt) : Kept s₀ (s.dropWaiters j) ev wt := by
  unfold State.dropWaiters
  extract_lets _ _ s1
  have h1 : Kept s₀ s1 ev wt := .foldl (.setHostLane h) fun _ _ hf => .finish hf
  split
  · exact .finish h1
  · exact h1

theorem Kept.hostOff {j} (h : Kept s₀ s ev wt) : Kept s₀ (s.hostOff j) ev wt := by
  unfold State.hostOff
  exact .loseBuried (.dropRange (.wipe (.turnIsland (.endSeq (.endSeq (.dropWaiters h))))))

theorem Kept.refreshFecIsland {d} (h : Kept s₀ s ev wt) : Kept s₀ (s.refreshFecIsland d) ev wt := by
  unfold State.refreshFecIsland
  refine .ite ?_ ?_
  · exact .refreshPool (.foldl (.turnIsland h) fun _ _ hf => .ite (.raise hf) hf)
  · refine .ite ?_ h
    exact .loseBuried (.dropRange (.foldl (.wipe (.turnIsland h)) fun _ _ hf1 => .setFec (.wipe hf1)))

theorem Kept.clearLocks {p} (h : Kept s₀ s ev wt) : Kept s₀ (s.clearLocks p) ev wt := by
  unfold State.clearLocks
  exact .setFec (.putFlag (.setReg h))

theorem Kept.portDownStep {p} (h : Kept s₀ s ev wt) : Kept s₀ (s.portDownStep p) ev wt := by
  unfold State.portDownStep
  exact .clearLocks (.freeCtxs (.foldl (.foldl (.setPort h) fun _ _ hf => .insDown hf) fun _ _ hf1 => .dropWaiters
      hf1))

theorem Kept.refreshSlots (h : Kept s₀ s ev wt) : Kept s₀ s.refreshSlots ev wt := by
  unfold State.refreshSlots
  exact .put (.put (.put (.put h)))

theorem Kept.zeroKernels {k} (h : Kept s₀ s ev wt) : Kept s₀ (s.zeroKernels k) ev wt := by
  unfold State.zeroKernels
  exact .foldl h fun _ _ hf => .put hf

theorem Kept.configOptions {k} (h : Kept s₀ s ev wt) : Kept s₀ (s.configOptions k) ev wt := by
  unfold State.configOptions
  exact .via (.putFlag (.putFlag (.putFlag h))) fun h1 => .ite (.setLine (.putFlag (.zeroKernels h1))) (.ite
      (.setLine h1) h1)

theorem Kept.removeVnle {k} (h : Kept s₀ s ev wt) : Kept s₀ (s.removeVnle k) ev wt := by
  unfold State.removeVnle
  exact .ite (.setLine (.putFlag (.zeroKernels h))) h

theorem Kept.retune {k} (h : Kept s₀ s ev false) : Kept s₀ (s.retune k) ev false := by
  unfold State.retune
  exact .refreshLine (.startSeq (.withPllArmed (.putBit h)))

theorem Kept.renewLine {k first} (h : Kept s₀ s ev false) : Kept s₀ (s.renewLine k first) ev false := by
  unfold State.renewLine
  exact .setTxActive (.loadCal (.loadCal (.snapTxTrims (.snapRxTrims (.ite (.loadCal (.loadCal (.putFlag (.putFlag
      (.putFlag h))))) (.putFlag (.putFlag (.putFlag h))))))))

theorem Kept.configLine {old k renew} (h : Kept s₀ s ev false) : Kept s₀ (s.configLine old k renew) ev false := by
  unfold State.configLine
  extract_lets
  split
  · exact h
  · exact .via (.ite (.turnIsland h) h) fun h2 => .via (.put (.put (.put (.put (.configOptions (.ite (.renewLine
      (.putFlag (.putFlag (.ite (.retune h2) h2)))) (.putFlag (.putFlag (.ite (.retune h2) h2))))))))) fun h1 =>
      .refreshLine (.ite (.wakeLineTx (.ite (.wakeLineRx h1) h1)) (.ite (.wakeLineRx h1) h1))

theorem Kept.noteLoaded {rs} (h : Kept s₀ s ev wt) : Kept s₀ (s.noteLoaded rs) ev wt := by
  unfold State.noteLoaded
  split
  · exact .setTxn h
  · exact h

theorem Kept.configRacks {old k renew} (h : Kept s₀ s ev wt) : Kept s₀ (s.configRacks old k renew) ev wt := by
  unfold State.configRacks
  exact .via (.foldl h fun _ _ hf => .ite hf (.rackOff hf)) fun h1 => .refreshDuty (.ite (.noteLoaded (.foldl h1 fun
      _ _ hf1 => .loadRack (.rackOn hf1))) h1)

theorem Kept.setHost {j renew} (h : Kept s₀ s ev wt) : Kept s₀ (s.setHost j renew) ev wt := by
  unfold State.setHost
  extract_lets
  split
  · exact h
  · refine .refreshHost (.ite ?_ (.put (.put (.put h))))
    exact .setHostLane (.foldl (.put (.put (.rxEqWrite (.txEqWrite (.putFlag (.putFlag (.putFlag (.put (.put (.put
        h)))))))))) fun _ _ hf => .put hf)

theorem Kept.noteLate {j renew} (h : Kept s₀ s ev wt) : Kept s₀ (s.noteLate j renew) ev wt := by
  unfold State.noteLate
  split
  · exact .setTxn h
  · exact h

theorem Kept.configHost {j renew wake} (h : Kept s₀ s ev wt) : Kept s₀ (s.configHost j renew wake) ev wt := by
  unfold State.configHost
  refine .ite h ?_
  exact .via (.ite (.wakeHostRxPort (.ite (.turnIsland h) h)) (.ite (.turnIsland h) h)) fun h1 => .ite (.noteLate
      (.ite (.wakeHostTx h1) h1)) (.setHost (.ite (.wakeHostTx h1) h1))

theorem Kept.configDelays (h : Kept s₀ s ev false) : Kept s₀ s.configDelays ev false := by
  unfold State.configDelays
  refine .foldl h fun _ _ h1 => .ite (.refreshTimeIsland h1) ?_
  refine .foldl (.foldl (.refreshTimeIsland h1) fun t k ht => ?_) fun _ _ h2 => .loadCal h2
  extract_lets put
  have hput : ∀ t f n, Kept s₀ t ev false → Kept s₀ (put t f n) ev false := by
    intro t f n ht
    unfold put
    split
    · exact .setRegAny ht
    · exact ht
  exact hput _ _ _ (hput _ _ _ ht)

theorem Kept.configSlots {old} (h : Kept s₀ s ev wt) : Kept s₀ (s.configSlots old) ev wt := by
  unfold State.configSlots
  exact .foldl (.foldl h fun _ _ hf => .ite (.put (.setInsl (.initRange hf))) hf) fun _ _ hf1 => .ite (.openWindow
      hf1) (.closeWindow hf1)

theorem Kept.configPool {old renewed} (h : Kept s₀ s ev wt) : Kept s₀ (s.configPool old renewed) ev wt := by
  unfold State.configPool
  exact .foldl (.foldl h fun _ _ hf => .releasePort hf) fun _ _ hf1 => .allocPort hf1

theorem Kept.applyBegin {t} (h : Kept s₀ s ev false) : Kept s₀ (s.applyBegin t) ev false := by
  unfold State.applyBegin
  exact .refreshSlots (.foldl (.configPool (.configDelays (.configSlots (.foldl (.foldl (.foldl (.foldl (.withMode
      (.foldl (.foldl (.withMode (.foldl (.foldl (.foldl (.setTxn h) fun _ _ hf => .endCalTx (.endCalRx hf)) fun _ _
      hf1 => .portDownStep hf1) fun _ _ hf2 => .releasePort hf2)) fun _ _ hf3 => .ite (.lineOff (.putFlag hf3))
      hf3) fun _ _ hf4 => .ite (.hostOff hf4) hf4)) fun _ _ hf5 => .setPort hf5) fun _ _ hf6 => .insIslandOn
      (.refreshFecIsland (.refreshThrottle hf6))) fun _ _ hf7 => .ite (.clearLocks (.setPort hf7)) hf7) fun _ _ hf8
      => .foldl (.foldl hf8 fun _ _ hf9 => .configRacks (.configLine hf9)) fun _ _ hf10 => .configHost hf10)))) fun
      _ _ hf11 => .withMode hf11)

theorem Kept.configFec {old p renew} (h : Kept s₀ s ev wt) : Kept s₀ (s.configFec old p renew) ev wt := by
  unfold State.configFec
  extract_lets _ _ _ s1 _ _ s2
  have h2 : Kept s₀ s1 ev wt := .put (.put (.putFlag (.putFlag (.putFlag (.putFlag h)))))
  have h1 : Kept s₀ s2 ev wt :=
  .ite (.filterCnts (.ite (.statClear (.put h2)) (.put h2))) (.ite (.statClear (.put h2)) (.put h2))
  refine .ite h1 ?_
  exact .putFlag (.ite (.withTime (.putFlag (.putFlag (.put h1)))) (.putFlag (.putFlag (.put h1))))

theorem Kept.configIns {old k renew} (h : Kept s₀ s ev wt) : Kept s₀ (s.configIns old k renew) ev wt := by
  unfold State.configIns
  exact .via (.ite (.insDisable h) h) fun h1 => .ite (.insEnable (.put (.putFlag (.putFlag (.putFlag (.putFlag
      (.putFlag (.ite (.insFlush h1) h1)))))))) (.put (.putFlag (.putFlag (.putFlag (.putFlag (.putFlag (.ite
      (.insFlush h1) h1)))))))

theorem Kept.configTime {old down} (h : Kept s₀ s ev wt) : Kept s₀ (s.configTime old down) ev wt := by
  unfold State.configTime
  exact .via (.foldl h fun _ _ hf => .ite (.rangeClear hf) hf) fun h1 => .ite (.sourceLost h1) h1

theorem Kept.applyEnd {t} (h : Kept s₀ s ev false) : Kept s₀ (s.applyEnd t) ev false := by
  unfold State.applyEnd
  extract_lets _ _ _ s1
  have h1 : Kept s₀ s1 ev false := .ite (.log (.withMode h)) (.log (.log (.withMode h)))
  split
  · exact .finish (.ite (.toPwr h1) h1)
  · exact .ite (.toPwr h1) h1

theorem Kept.applyFinish {t} (h : Kept s₀ s ev false) : Kept s₀ (s.applyFinish t) ev false := by
  unfold State.applyFinish
  exact .applyEnd (.foldl (.foldl (.configTime (.foldl (.foldl (.foldl (.foldl h fun _ _ hf => .ite hf (.setHost
      hf)) fun _ _ hf1 => .removeVnle hf1) fun _ _ hf2 => .configFec hf2) fun _ _ hf3 => .configIns hf3)) fun _ _
      hf4 => .insIslandOff hf4) fun _ _ hf5 => .ite hf5 (.ite (.portRest hf5) hf5))

theorem Kept.startApply {t w} (h : Kept s₀ s ev false) : Kept s₀ (s.startApply t w) ev false := by
  unfold State.startApply
  exact .applyBegin h

theorem Kept.cmdModeApply {p w} (h : Kept s₀ s ev false) : Kept s₀ (Machine.cmdModeApply p w s).2 ev false := by
  unfold Machine.cmdModeApply
  refine .inTxn h fun _ _ hf => ?_
  exact .iteSnd hf (.iteSnd hf (.iteSnd hf (.iteSnd (.snd (.rejected hf)) (.snd (.startApply hf)))))

theorem Kept.execModeApplyComplete (h : Kept s₀ s ev false) : NextKept ev false s₀ (Machine.execModeApplyComplete s) := by
  unfold Machine.execModeApplyComplete
  refine .next ?_
  split
  · exact .ite (.applyFinish h) h
  · exact h

theorem Kept.applyResetImage (h : Kept s₀ s ev false) : Kept s₀ s.applyResetImage ev false := by
  unfold State.applyResetImage
  extract_lets
  split
  · exact .applyFinish (.startApply h)
  · exact .startApply h

theorem Kept.expireTxn {reason} (h : Kept s₀ s ev wt) : Kept s₀ (s.expireTxn reason) ev wt := by
  unfold State.expireTxn
  split
  · exact .ite h (.log (.withMode h))
  · exact h

theorem Kept.execModeTxnExpired (h : Kept s₀ s ev wt) : NextKept ev wt s₀ (Machine.execModeTxnExpired s) := by
  unfold Machine.execModeTxnExpired
  refine .next ?_
  split
  · exact .ite (.expireTxn h) h
  · exact h

/-! ## Dacs -/

theorem Kept.refreshDac {n} (h : Kept s₀ s ev wt) : Kept s₀ (s.refreshDac n) ev wt := by
  unfold State.refreshDac
  exact .put (.putFlag (.putFlag (.put h)))

theorem Kept.refreshDacs {ns} (h : Kept s₀ s ev wt) : Kept s₀ (s.refreshDacs ns) ev wt := by
  unfold State.refreshDacs
  exact .foldl h fun _ _ hf => .refreshDac hf

theorem Kept.loadChannel {n} (h : Kept s₀ s ev wt) : Kept s₀ (s.loadChannel n) ev wt := by
  unfold State.loadChannel
  exact .refreshDac (.ite (.putFlag (.withOpt (.put h))) (.withOpt (.put h)))

theorem Kept.strobe {g} (h : Kept s₀ s ev wt) : Kept s₀ (s.strobe g) ev wt := by
  unfold State.strobe
  exact .foldl h fun _ _ hf => .loadChannel hf

theorem Kept.stageCode {n code} (h : Kept s₀ s ev wt) : Kept s₀ (s.stageCode n code) ev wt := by
  unfold State.stageCode
  exact .ite (.loadChannel (.put h)) (.put h)

theorem Kept.clampChannel {n} (h : Kept s₀ s ev wt) : Kept s₀ (s.clampChannel n) ev wt := by
  unfold State.clampChannel
  exact .refreshDac (.putFlag h)

theorem Kept.disableChannel {n} (h : Kept s₀ s ev wt) : Kept s₀ (s.disableChannel n) ev wt := by
  unfold State.disableChannel
  exact .clampChannel (.putFlag h)

theorem Kept.setLoopMode {l mode reason why} (h : Kept s₀ s ev wt) : Kept s₀ (s.setLoopMode l mode reason why) ev wt := by
  unfold State.setLoopMode
  extract_lets _ _ _ _ s1
  have h1 : Kept s₀ s1 ev wt := .ite (.put (.put (.put h))) (.log (.put (.put (.put h))))
  split
  · exact .refreshDac (.ite (.raise h1) h1)
  · exact .ite (.raise h1) h1

theorem Kept.setLoop {l v} (h : Kept s₀ s ev wt) : Kept s₀ (s.setLoop l v) ev wt := h.withOpt

theorem Kept.setPens {v} (h : Kept s₀ s ev wt) : Kept s₀ (s.setPens v) ev wt := by
  unfold State.setPens
  exact .put (.put (.put h))

theorem Kept.penNext (h : Kept s₀ s ev wt) : Kept s₀ s.penNext ev wt := by
  unfold State.penNext
  refine .ite h ?_
  split
  · exact h
  · exact .withPwr (.setPens h)

theorem Kept.penCancel (h : Kept s₀ s ev wt) : Kept s₀ s.penCancel ev wt := by
  unfold State.penCancel
  exact .withPwr h

theorem Kept.penDropAll (h : Kept s₀ s ev wt) : Kept s₀ s.penDropAll ev wt := by
  unfold State.penDropAll
  exact .penCancel (.setPens h)

theorem Kept.penDropOne (h : Kept s₀ s ev wt) : Kept s₀ s.penDropOne ev wt := by
  unfold State.penDropOne
  split
  · exact h
  · exact .ite (.withPwr (.penCancel (.setPens h))) h

theorem Kept.overrideLoop {l} (h : Kept s₀ s ev wt) : Kept s₀ (s.overrideLoop l) ev wt := by
  unfold State.overrideLoop
  split
  · exact h
  · exact .ite (.setLoopMode h) h

theorem Kept.overrideOn (h : Kept s₀ s ev wt) : Kept s₀ s.overrideOn ev wt := by
  unfold State.overrideOn
  exact .log (.foldl (.refreshDacs (.putFlag (.raise (.raise (.raise h))))) fun _ _ hf => .overrideLoop hf)

theorem Kept.overrideOff (h : Kept s₀ s ev wt) : Kept s₀ s.overrideOff ev wt := by
  unfold State.overrideOff
  exact .log (.refreshDacs (.withOpt (.putFlag (.raise (.put (.put h))))))

/-! ## Channels -/

theorem Kept.setChan {c v} (h : Kept s₀ s ev wt) : Kept s₀ (s.setChan c v) ev wt := h.withMon

theorem Kept.refreshChan {c} (h : Kept s₀ s ev wt) : Kept s₀ (s.refreshChan c) ev wt := by
  unfold State.refreshChan
  extract_lets
  split
  next _ _ e =>
  have h1 := Kept.of_pair e (by
    split
    · exact h
    · exact .free h
  )
  exact .put (.put h1)

theorem Kept.restartChan {c} (h : Kept s₀ s ev wt) : Kept s₀ (s.restartChan c) ev wt := by
  unfold State.restartChan
  exact .setChan (.setWide (.raise h))

theorem Kept.refreshRef {c} (h : Kept s₀ s ev wt) : Kept s₀ (s.refreshRef c) ev wt := by
  unfold State.refreshRef
  exact .ite (.setChan (.putFlag h)) (.ite (.restartChan (.putFlag h)) (.putFlag h))

theorem Kept.refChanged {g} (h : Kept s₀ s ev wt) : Kept s₀ (s.refChanged g) ev wt := by
  unfold State.refChanged
  exact .foldl h fun _ _ hf => .ite (.refreshRef hf) hf

theorem Kept.setChanCfg {c cfg dec} (h : Kept s₀ s ev wt) : Kept s₀ (s.setChanCfg c cfg dec) ev wt := by
  unfold State.setChanCfg
  exact .via (.setReg (.setReg h)) fun h1 => .refreshChan (.refreshRef (.ite (.ite (.restartChan h1) h1) (.setChan
      (.put (.ite (.restartChan h1) h1)))))

theorem Kept.chanLock {c} (h : Kept s₀ s ev wt) : Kept s₀ (s.chanLock c) ev wt := by
  unfold State.chanLock
  exact .raise (.raise h)

theorem Kept.chanWrite {c cfg dec} (h : Kept s₀ s ev wt) : Kept s₀ (s.chanWrite c cfg dec) ev wt := by
  unfold State.chanWrite
  split
  · exact .setChanCfg h
  · exact .chanLock h

theorem Kept.reduce {c stage x} (h : Kept s₀ s ev wt) : Kept s₀ (s.reduce c stage x).2 ev wt := by
  unfold State.reduce
  exact .iteSnd h (.snd (.ite (.logRate (.raise (.raise h))) (.raise h)))

theorem Kept.bankOut {bank c} (h : Kept s₀ s ev wt) : Kept s₀ (s.bankOut bank c).2 ev wt := by
  unfold State.bankOut
  exact .reduce (.ite h (.reduce h))

theorem Kept.commitDone {c fade} (h : Kept s₀ s ev wt) : Kept s₀ (s.commitDone c fade) ev wt := by
  unfold State.commitDone
  exact .foldl (.setChan h) fun _ _ hf => .finish hf

theorem Kept.swapBanks {c} (h : Kept s₀ s ev wt) : Kept s₀ (s.swapBanks c) ev wt := by
  unfold State.swapBanks
  exact .putFlag h

theorem Kept.chanOutput {c} (h : Kept s₀ s ev wt) : Kept s₀ (s.chanOutput c).2 ev wt := by
  unfold State.chanOutput
  extract_lets _ s1
  have h1 : Kept s₀ s1 ev wt := .ite (.commitDone (.swapBanks (.setChan h))) h
  exact .iteSnd (.bankOut (.bankOut (.put (.ite (.commitDone h1) h1)))) (.bankOut h1)

theorem Kept.mixed {c phase x} (h : Kept s₀ s ev wt) : Kept s₀ (s.mixed c phase x).2 ev wt := by
  unfold State.mixed
  exact .iteSnd (.reduce h) h

theorem Kept.feedChan {c t m sine x} (h : Kept s₀ s ev wt) : Kept s₀ (s.feedChan c t m sine x) ev wt := by
  unfold State.feedChan
  refine .ite h ?_
  split
  next _ _ e1 =>
  have h2 := Kept.of_pair e1 (.mixed h)
  refine .ite ?_ (.setChan h2)
  extract_lets
  split
  next _ _ e =>
  have h1 := Kept.of_pair e (.reduce (.setChan h2))
  exact .ite (.setChan (.chanOutput (.setChan h1))) (.setChan h1)

theorem Kept.publish {c} (h : Kept s₀ s ev wt) : Kept s₀ (s.publish c) ev wt := by
  unfold State.publish
  split
  · exact h
  · exact .ite (.setWide (.put (.setChan h))) h

theorem Kept.fadeEnd {c} (h : Kept s₀ s ev wt) : Kept s₀ (s.fadeEnd c) ev wt := by
  unfold State.fadeEnd
  exact .ite (.raise (.swapBanks (.put (.put h)))) h

theorem Kept.bankCommit {c} (h : Kept s₀ s ev wt) : Kept s₀ (s.bankCommit c).2 ev wt := by
  unfold State.bankCommit
  refine .iteSnd (.snd (.chanLock h)) (.iteSnd (.snd (.swapBanks h)) ?_)
  exact .iteSnd (.snd (.put (.raise h))) (.snd (.setChan h))

theorem Kept.tapWrite {bank i data} (h : Kept s₀ s ev false) : Kept s₀ (s.tapWrite bank i data) ev false := by
  unfold State.tapWrite
  exact .ite (.setRegAny h) (.chanLock h)

/-! ## Optics -/

theorem Kept.loopLock {l} (h : Kept s₀ s ev wt) : Kept s₀ (s.loopLock l) ev wt := by
  unfold State.loopLock
  exact .raise (.raise h)

theorem Kept.reclampRamp {l} (h : Kept s₀ s ev wt) : Kept s₀ (s.reclampRamp l) ev wt := by
  unfold State.reclampRamp
  exact .put h

theorem Kept.refreshRamping {l} (h : Kept s₀ s ev wt) : Kept s₀ (s.refreshRamping l) ev wt := by
  unfold State.refreshRamping
  exact .putFlag h

theorem Kept.loopRegWrite {r l data} (h : Kept s₀ s ev false) : Kept s₀ (s.loopRegWrite r l data) ev false := by
  unfold State.loopRegWrite
  refine .ite ?_ (.loopLock h)
  exact .ite (.refreshRamping (.reclampRamp (.ite (.setRegAny h) (.loopLock (.setRegAny h))))) (.ite (.setRegAny h)
      (.loopLock (.setRegAny h)))

theorem Kept.writeTarget {l x} (h : Kept s₀ s ev wt) : Kept s₀ (s.writeTarget l x) ev wt := by
  unfold State.writeTarget
  exact .refreshRamping (.ite (.put h) (.raise (.put h)))

theorem Kept.requestMode {l q} (h : Kept s₀ s ev wt) : Kept s₀ (s.requestMode l q) ev wt := by
  unfold State.requestMode
  exact .setLoop h

theorem Kept.applyChannelCfg {n v} (h : Kept s₀ s ev wt) : Kept s₀ (s.applyChannelCfg n v) ev wt := by
  unfold State.applyChannelCfg
  extract_lets _ _ s1
  have h1 : Kept s₀ s1 ev wt :=
  .ite (.refreshDac (.ite (.putFlag (.setReg h)) (.setReg h))) (.clampChannel (.ite (.putFlag
      (.setReg h)) (.setReg h)))
  split
  · exact .ite (.overrideLoop h1) h1
  · exact h1

theorem Kept.channelCfgWrite {n data} (h : Kept s₀ s ev wt) : Kept s₀ (s.channelCfgWrite n data) ev wt := by
  unfold State.channelCfgWrite
  exact .ite (.raise (.raise (.applyChannelCfg h))) (.applyChannelCfg h)

theorem Kept.channelCodeWrite {n data} (h : Kept s₀ s ev wt) : Kept s₀ (s.channelCodeWrite n data) ev wt := by
  unfold State.channelCodeWrite
  exact .ite (.raise (.raise h)) (.stageCode h)

theorem Kept.softStrobe {mask} (h : Kept s₀ s ev wt) : Kept s₀ (s.softStrobe mask) ev wt := by
  unfold State.softStrobe
  exact .foldl h fun _ _ hf => .ite (.strobe hf) hf

theorem Kept.penWrite {data} (h : Kept s₀ s ev wt) : Kept s₀ (s.penWrite data) ev wt := by
  unfold State.penWrite
  exact .penNext (.penDropOne (.setReg h))

/-- A new record of a generator. -/
theorem Kept.setSines {g v} (h : Kept s₀ s ev wt) :
    Kept s₀ { s with opt := { s.opt with sines := s.opt.sines.set g v } } ev wt :=
  h.withOpt

theorem Kept.setSine {g v} (h : Kept s₀ s ev wt) : Kept s₀ (s.setSine g v) ev wt := by
  unfold State.setSine
  exact .ite (.put (.putFlag (.setSines h))) (.refChanged (.put (.putFlag (.setSines h))))

theorem Kept.opticsOff (h : Kept s₀ s ev wt) : Kept s₀ s.opticsOff ev wt := by
  unfold State.opticsOff
  exact .foldl (.foldl (.foldl h fun _ _ hf => .ite hf (.setLoopMode hf)) fun _ _ hf1 => .disableChannel hf1) fun _
      _ hf2 => .setSine (.put hf2)

theorem Kept.reportClip {n} (h : Kept s₀ s ev wt) : Kept s₀ (s.reportClip n) ev wt := by
  unfold State.reportClip
  exact .ite (.logRate (.ite h (.raise (.raise h)))) h

theorem Kept.setInteg {l x} (h : Kept s₀ s ev wt) : Kept s₀ (s.setInteg l x) ev wt := by
  unfold State.setInteg
  exact .setWide h

theorem Kept.satFlag {f l on} (h : Kept s₀ s ev false) : Kept s₀ (s.satFlag f l on) ev false := by
  unfold State.satFlag
  exact .ite (.logRate (.raise (.raiseAny h))) h

theorem Kept.loadResult {l c sat} (h : Kept s₀ s ev false) : Kept s₀ (s.loadResult l c sat) ev false := by
  unfold State.loadResult
  extract_lets
  split
  · exact .stageCode (.put (.put (.setLoop (.satFlag (.satFlag (.satFlag h))))))
  · exact .put (.put (.setLoop (.satFlag (.satFlag (.satFlag h)))))

theorem Kept.computeLoop {l} (h : Kept s₀ s ev false) : Kept s₀ (s.computeLoop l) ev false := by
  unfold State.computeLoop
  exact .loadResult (.setLoop (.setInteg (.put h)))

theorem Kept.rampStep {l} (h : Kept s₀ s ev wt) : Kept s₀ (s.rampStep l) ev wt := by
  unfold State.rampStep
  exact .refreshRamping (.put h)

theorem Kept.enterAuto {l n why} (h : Kept s₀ s ev false) : Kept s₀ (s.enterAuto l n why) ev false := by
  unfold State.enterAuto
  exact .loadResult (.setLoopMode (.put (.setLoop (.setInteg (.put (.refreshRamping (.ite (.put h) h)))))))

theorem Kept.applyRequest {l fails q} (h : Kept s₀ s ev false) : Kept s₀ (s.applyRequest l fails q).2 ev false := by
  unfold State.applyRequest
  extract_lets
  split
  · exact .snd (.setLoopMode h)
  · exact .iteSnd h (.iteSnd h (.snd (.setLoopMode h)))
  · split
    · exact h
    · exact .iteSnd h (.snd (.setLoopMode (.put h)))
  · refine .iteSnd h (.iteSnd h ?_)
    split
    · exact h
    · exact .iteSnd h (.iteSnd h (.iteSnd h (.snd (.enterAuto h))))

theorem Kept.applyRequests {l fails qs} (h : Kept s₀ s ev false) : Kept s₀ (s.applyRequests l fails qs) ev false := by
  induction qs generalizing s with
  | nil => exact h
  | cons q qs ih =>
    rw [State.applyRequests]
    refine ih ?_
    split
    · exact .applyRequest h
    · exact .finish (.applyRequest h)

theorem Kept.tripLoop {l fails} (h : Kept s₀ s ev wt) : Kept s₀ (s.tripLoop l fails) ev wt := by
  unfold State.tripLoop
  extract_lets _ s1
  have h2 : Kept s₀ s1 ev wt := by
    unfold s1
    split
    · exact .ite (.refreshDac (.put (.withOpt (.put (.put h))))) h
    · exact h
  exact .via (.ite (.raise (.raise (.setLoopMode h2))) (.raise (.setLoopMode h2))) fun h1 => .log (.raise (.ite
      (.raise (.ite (.raise h1) h1)) (.ite (.raise h1) h1)))

theorem Kept.tickStrobes {l} (h : Kept s₀ s ev wt) : Kept s₀ (s.tickStrobes l) ev wt := by
  unfold State.tickStrobes
  exact .ite (.foldl h fun _ _ hf => .ite (.strobe hf) hf) h

theorem Kept.serveTick (h : Kept s₀ s ev wt) : Kept s₀ s.serveTick ev wt := by
  unfold State.serveTick
  exact .withOpt h

theorem Kept.arrive {l} (h : Kept s₀ s ev wt) : Kept s₀ (s.arrive l) ev wt := by
  unfold State.arrive
  exact .ite (.publish (.publish h)) (.publish h)

theorem Kept.loopTick {l} (h : Kept s₀ s ev false) : Kept s₀ (s.loopTick l) ev false := by
  unfold State.loopTick
  extract_lets _ _ _ _ _ _ _ _ _ _ _ _ _ _ s1
  have h1 : Kept s₀ s1 ev false :=
  .applyRequests (.setLoop (.ite (.tripLoop (.putFlag (.put (.serveTick (.setLoop (.put (.put
      (.arrive h)))))))) (.putFlag (.put (.serveTick (.setLoop (.put (.put (.arrive h)))))))))
  refine .tickStrobes (.ite (.computeLoop (.rampStep h1)) (.ite ?_ h1))
  extract_lets
  split
  · exact .stageCode (.put h1)
  · exact .put h1

theorem Kept.cmdLoopCfg {p x} (h : Kept s₀ s ev wt) : Kept s₀ (Machine.cmdLoopCfg p x s).2 ev wt := by
  unfold Machine.cmdLoopCfg
  exact .iteSnd h (.iteSnd h (.iteSnd h (.iteSnd h (.snd (.put (.put (.setReg (.setReg h))))))))

theorem Kept.cmdLoopGains {p x} (h : Kept s₀ s ev wt) : Kept s₀ (Machine.cmdLoopGains p x s).2 ev wt := by
  unfold Machine.cmdLoopGains
  refine .iteSnd h ?_
  split
  · exact .iteSnd h (.snd (.put (.put (.put (.put (.put (.put (.put (.put h)))))))))
  · exact h

theorem Kept.cmdLoopLimits {p x} (h : Kept s₀ s ev wt) : Kept s₀ (Machine.cmdLoopLimits p x s).2 ev wt := by
  unfold Machine.cmdLoopLimits
  refine .iteSnd h ?_
  split
  · exact .iteSnd h (.snd (.refreshRamping (.reclampRamp (.put (.put (.put (.put (.setReg h))))))))
  · exact h

theorem Kept.cmdSetMode {p t} (h : Kept s₀ s ev wt) : Kept s₀ (Machine.cmdSetMode p t s).2 ev wt := by
  unfold Machine.cmdSetMode
  exact .iteSnd h (.snd (.requestMode h))

theorem Kept.cmdSetSp {p x} (h : Kept s₀ s ev wt) : Kept s₀ (Machine.cmdSetSp p x s).2 ev wt := by
  unfold Machine.cmdSetSp
  refine .iteSnd h ?_
  split
  · exact h
  · exact .snd (.writeTarget h)

theorem Kept.cmdTgtStatus {p x} (h : Kept s₀ s ev wt) : Kept s₀ (Machine.cmdTgtStatus p x s).2 ev wt := by
  unfold Machine.cmdTgtStatus
  exact .iteSnd h h

theorem Kept.cmdClearFlags {p x} (h : Kept s₀ s ev wt) : Kept s₀ (Machine.cmdClearFlags p x s).2 ev wt := by
  unfold Machine.cmdClearFlags
  exact .iteSnd h (.snd (.setReg h))

theorem Kept.cmdCdacCfg {p x} (h : Kept s₀ s ev wt) : Kept s₀ (Machine.cmdCdacCfg p x s).2 ev wt := by
  unfold Machine.cmdCdacCfg
  exact .iteSnd h (.iteSnd h (.iteSnd h (.iteSnd h (.snd (.applyChannelCfg (.setReg (.put h)))))))

theorem Kept.cmdSetCode {p x} (h : Kept s₀ s ev wt) : Kept s₀ (Machine.cmdSetCode p x s).2 ev wt := by
  unfold Machine.cmdSetCode
  exact .iteSnd h (.iteSnd h (.snd (.stageCode h)))

theorem Kept.cmdGroup {p x} (h : Kept s₀ s ev wt) : Kept s₀ (Machine.cmdGroup p x s).2 ev wt := by
  unfold Machine.cmdGroup
  exact .iteSnd h (.snd (.setReg h))

theorem Kept.cmdStrobe {p x} (h : Kept s₀ s ev wt) : Kept s₀ (Machine.cmdStrobe p x s).2 ev wt := by
  unfold Machine.cmdStrobe
  exact .iteSnd h (.snd (.softStrobe h))

theorem Kept.cmdSineCfg {p x} (h : Kept s₀ s ev wt) : Kept s₀ (Machine.cmdSineCfg p x s).2 ev wt := by
  unfold Machine.cmdSineCfg
  exact .iteSnd h (.snd (.put (.setReg (.put h))))

theorem Kept.cmdPenSet {p x} (h : Kept s₀ s ev wt) : Kept s₀ (Machine.cmdPenSet p x s).2 ev wt := by
  unfold Machine.cmdPenSet
  exact .iteSnd h (.snd (.penWrite h))

theorem Kept.cmdCdacStatus {p x} (h : Kept s₀ s ev wt) : Kept s₀ (Machine.cmdCdacStatus p x s).2 ev wt := by
  unfold Machine.cmdCdacStatus
  exact .iteSnd h h

theorem Kept.execDitherSample (h : Kept s₀ s ev wt) : NextKept ev wt s₀ (Machine.execDitherSample s) := by
  unfold Machine.execDitherSample
  refine .next (.ite ?_ h)
  exact .foldl (.foldl (.withOpt h) fun _ _ hf => .setSine hf) fun _ _ hf1 => .refreshDac (.reportClip hf1)

/-! ## Faults -/

theorem Kept.avsStop (h : Kept s₀ s ev wt) : Kept s₀ s.avsStop ev wt := by
  unfold State.avsStop
  exact .put h

theorem Kept.lowDone (h : Kept s₀ s ev wt) : Kept s₀ s.lowDone ev wt := by
  unfold State.lowDone
  split
  · exact .finish (.withPwr h)
  · exact h

/-- Entry to FAULT writes no watched register but the device state. -/
theorem Kept.enterFault_of_toPwr {reason info own} (h : Kept s₀ (s.toPwr pwrFault) ev wt) :
    Kept s₀ (s.enterFault reason info own) ev wt := by
  unfold State.enterFault
  split
  · next hf =>
    rw [State.toPwr, if_pos hf] at h
    split
    · exact .log h
    · exact h
  · refine .lowDone ?_
    split
    · exact .emergency (.emergency (.putBit (.putBit (.raise (.avsStop (.withPwr (.withPwr (.penDropAll
        (.refreshDacs (.refreshHosts (.refreshLines (.setReg h))))))))))))
    · exact .emergency (.putBit (.putBit (.raise (.avsStop (.withPwr (.withPwr (.penDropAll (.refreshDacs
        (.refreshHosts (.refreshLines (.setReg h)))))))))))

theorem Kept.enterFault {reason info own} (h : Kept s₀ s ev false) :
    Kept s₀ (s.enterFault reason info own) ev false := .enterFault_of_toPwr (.toPwr h)

theorem Kept.timeOff {d} (h : Kept s₀ s ev wt) : Kept s₀ (s.timeOff d) ev wt := by
  unfold State.timeOff
  refine .ite ?_ h
  exact .withTime (.foldl (.wipe (.setClock (.loseBuried (.turnIsland h)))) fun _ _ hf => .wipe hf)

theorem Kept.insoleOff {d} (h : Kept s₀ s ev wt) : Kept s₀ (s.insoleOff d) ev wt := by
  unfold State.insoleOff
  refine .ite ?_ h
  exact .dropRange (.foldl (.wipe (.turnIsland h)) fun _ _ hf => .setInsl (.wipe hf))

theorem Kept.fecOff {d} (h : Kept s₀ s ev wt) : Kept s₀ (s.fecOff d) ev wt := by
  unfold State.fecOff
  refine .ite ?_ h
  exact .loseBuried (.dropRange (.foldl (.wipe (.turnIsland h)) fun _ _ hf => .setFec (.wipe hf)))

theorem Kept.coreIslandsOff (h : Kept s₀ s ev false) : Kept s₀ s.coreIslandsOff ev false := by
  unfold State.coreIslandsOff
  exact .foldl (.foldl (.foldl (.foldl h fun _ _ hf => .ite hf (.lineOff hf)) fun _ _ hf1 => .ite hf1 (.hostOff
      hf1)) fun _ _ hf2 => .ite hf2 (.rackOff hf2)) fun _ _ hf3 => .timeOff (.insoleOff (.fecOff hf3))

theorem Kept.recoverPort {p reason} (h : Kept s₀ s ev wt) : Kept s₀ (s.recoverPort p reason) ev wt := by
  unfold State.recoverPort
  exact .ite (.refreshLines (.portRest h)) h

theorem Kept.dropPort {p reason} (h : Kept s₀ s ev wt) : Kept s₀ (s.dropPort p reason) ev wt := by
  unfold State.dropPort
  exact .ite (.portTo h) (.ite (.refreshLines h) h)

theorem Kept.fastoffOn (h : Kept s₀ s ev false) : Kept s₀ s.fastoffOn ev false := by
  unfold State.fastoffOn
  exact .log (.inc (.foldl (.refreshLines (.penDropAll (.overrideOn (.raise (.raise h))))) fun _ _ hf => .dropPort
      hf))

theorem Kept.execFastoffRelease (h : Kept s₀ s ev false) : NextKept ev false s₀ (Machine.execFastoffRelease s) := by
  unfold Machine.execFastoffRelease
  refine .next (.ite (.ite (.put h) ?_) h)
  exact .foldl (.refreshLines (.penNext (.overrideOff (.log (.raise (.put h)))))) fun _ _ hf => .recoverPort hf

/-! ## Clocks -/

theorem Kept.setArmed {d b v} (h : Kept s₀ s ev wt) : Kept s₀ (s.setArmed d b v) ev wt := by
  unfold State.setArmed
  exact .withPllArmed h

theorem Kept.stopPll {d b} (h : Kept s₀ s ev false) : Kept s₀ (s.stopPll d b) ev false := by
  unfold State.stopPll
  exact .setArmed (.putBit h)

theorem Kept.mclkGone (h : Kept s₀ s ev wt) : Kept s₀ s.mclkGone ev wt := by
  unfold State.mclkGone
  exact .foldl h fun _ _ hf => .ite (.setIsland hf) hf

theorem Kept.mclkBack (h : Kept s₀ s ev wt) : Kept s₀ s.mclkBack ev wt := by
  unfold State.mclkBack
  exact .foldl h fun _ _ hf => .ite (.turnIsland hf) hf

/-- A PLL that locks, from the change of its bit on. -/
theorem Kept.lockPll_of_set {d b} (hl : s.locked d b = false)
    (h : Kept s₀ ((s.putBit .CLK_LOCK b true d).setArmed d b true) ev wt) : Kept s₀ (s.lockPll d b) ev wt := by
  unfold State.lockPll
  extract_lets
  rw [if_neg (by simp [hl])]
  refine .ite (.ite (.mclkBack h) h) (.ite (.ite (.tpllLocked h) h) (.ite (.foldl h fun _ _ hf => .toNewest hf) ?_))
  refine .ite (.ite (.foldl (.refreshHosts h) fun _ _ hf => .recoverPort hf) (.refreshHosts h)) (.ite ?_ h)
  split
  · exact .recoverPort (.refreshLine (.endSeq h))
  · exact .refreshLine (.endSeq h)

theorem Kept.lockPll {d b} (h : Kept s₀ s ev false) : Kept s₀ (s.lockPll d b) ev false := by
  cases hl : s.locked d b with
  | true =>
    rw [State.lockPll, if_pos hl]
    exact h
  | false => exact .lockPll_of_set hl (.setArmed (.putBit h))

theorem Kept.setLink {l v} (h : Kept s₀ s ev wt) : Kept s₀ (s.setLink l v) ev wt := ⟨h.pending, h.events, h.regs⟩

theorem Kept.setLinkState {l st} (h : Kept s₀ s ev false) : Kept s₀ (s.setLinkState l st) ev false := by
  unfold State.setLinkState
  exact .foldl h fun _ _ hf => .put hf

theorem Kept.retrain {l} (h : Kept s₀ s ev false) : Kept s₀ (s.retrain l) ev false := by
  unfold State.retrain
  exact .setLink (.setLinkState h)

/-- A core welt that FAILED, before the ports that use it are DOWN. -/
def State.shownFailed (s : State) : State :=
  let s' := (s.setLinkState 2 4).setLink 2 { (s.link 2) with failures := 0, fromFailed := false }
  ((s'.raise WELT_CAUSE.FAILED_1 1).raise WELT_CAUSE.FAILED_1 2).log 0x1004 sevErr 1 1

theorem Kept.linkFailed_of_shownFailed (h : Kept s₀ s.shownFailed ev wt) : Kept s₀ (s.linkFailed 2) ev wt := by
  unfold State.linkFailed
  rw [if_pos rfl]
  extract_lets s1 s2 s3 s4 s5
  change Kept s₀ s3 ev wt at h
  exact .alignLost (.foldl (.foldl h fun _ _ hf => .dropPort hf) fun _ _ hf => .foldl hf fun _ _ hg => .amLostHost hg)

theorem Kept.linkFailed {l} (h : Kept s₀ s ev false) : Kept s₀ (s.linkFailed l) ev false := by
  by_cases hl : l = 2
  · subst hl
    exact .linkFailed_of_shownFailed (.log (.raise (.raise (.setLink (.setLinkState h)))))
  · rw [State.linkFailed, if_neg hl]
    exact .enterFault (.setLink (.setLinkState h))

/-- A link that comes UP, before its ports recover. -/
def State.shownUp (s : State) (l : Nat) : State :=
  let s' := (s.setLinkState l 2).setLink l { (s.link l) with failures := 0, fromFailed := false, times := [] }
  if s.linkState l = 3 then
    (linkEnds l).foldl (fun (s : State) e => s.raise (if e.2 = 0 then WELT_CAUSE.RETRAIN_0 else WELT_CAUSE.RETRAIN_1) e.1) s'
  else s'

theorem Kept.linkUp_of_shownUp {l} (h : Kept s₀ (s.shownUp l) ev wt) : Kept s₀ (s.linkUp l) ev wt := by
  unfold State.linkUp
  exact .ite (.foldl h fun _ _ hf => .recoverPort hf) h

theorem Kept.linkUp {l} (h : Kept s₀ s ev false) : Kept s₀ (s.linkUp l) ev false := by
  refine .linkUp_of_shownUp ?_
  unfold State.shownUp
  exact .ite (.foldl (.setLink (.setLinkState h)) fun _ _ hf => .raiseAny hf) (.setLink (.setLinkState h))

theorem Kept.linkAttemptFailed {l} (h : Kept s₀ s ev false) : Kept s₀ (s.linkAttemptFailed l) ev false := by
  unfold State.linkAttemptFailed
  exact .ite h (.ite (.linkFailed h) (.setLink h))

theorem Kept.trainCore {fromFailed} (h : Kept s₀ s ev false) : Kept s₀ (s.trainCore fromFailed) ev false := by
  unfold State.trainCore
  exact .setLink (.setLinkState h)

theorem Kept.weltRetrain {d n} (h : Kept s₀ s ev false) : Kept s₀ (s.weltRetrain d n) ev false := by
  unfold State.weltRetrain
  extract_lets
  split
  · exact .setLink h
  · exact .retrain h
  · exact .retrain h
  · exact .ite (.trainCore h) h
  · exact h

theorem Kept.weltAbEn {d en} (h : Kept s₀ s ev false) : Kept s₀ (s.weltAbEn d en) ev false := by
  unfold State.weltAbEn
  refine .ite (.ite (.trainCore (.putFlag h)) (.putFlag h)) (.ite (.putFlag h) ?_)
  exact .foldl (.setLinkState (.putFlag h)) fun _ _ hf => .foldl hf fun _ _ hf1 => .amLostHost hf1

theorem Kept.setWay {l toMgmt c} (h : Kept s₀ s ev wt) : Kept s₀ (s.setWay l toMgmt c) ev wt := by
  unfold State.setWay
  exact .setLink h

theorem Kept.setChannel {p c} (h : Kept s₀ s ev wt) : Kept s₀ (s.setChannel p c) ev wt := by
  unfold State.setChannel
  split
  · exact .setWay h
  · exact ⟨h.pending, h.events, h.regs⟩

theorem Kept.countFlit {p w} (h : Kept s₀ s ev false) : Kept s₀ (s.countFlit p w) ev false := by
  unfold State.countFlit
  split
  · exact .foldl h fun _ _ hf => .inc hf
  · exact h

theorem Kept.execFlitReceive {path data flips} (h : Kept s₀ s ev false) :
    NextKept ev false s₀ (Machine.execFlitReceive path data flips s)
    := by
  unfold Machine.execFlitReceive
  refine .next (.ite h ?_)
  split <;> exact .ite h (.countFlit (.setChannel h))

theorem Kept.execReplayRequest {link toMgmt flit} (h : Kept s₀ s ev false) :
    NextKept ev false s₀ (Machine.execReplayRequest link toMgmt
    flit s) := by
  unfold Machine.execReplayRequest
  exact .next (.ite (.ite (.foldl (.setLink (.setWay h)) fun _ _ hf => .inc hf) (.setWay h)) h)

theorem Kept.lpllLost {k} (h : Kept s₀ s ev wt) : Kept s₀ (s.lpllLost k) ev wt := by
  unfold State.lpllLost
  refine .startSeq (.insDown (.amLostLine (.innerLost (.cdrLostLine (.refreshLine ?_)))))
  split
  · exact .dropPort h
  · exact h

theorem Kept.hpllLost {d} (h : Kept s₀ s ev wt) : Kept s₀ (s.hpllLost d) ev wt := by
  unfold State.hpllLost
  exact .foldl (.foldl (.refreshHosts (.foldl h fun _ _ hf => .dropPort hf)) fun _ _ hf1 => .amLostHost
      (.cdrLostHost hf1)) fun _ _ hf2 => .refreshAlign (.put (.put hf2))

theorem Kept.retrainIfUp {l} (h : Kept s₀ s ev false) : Kept s₀ (s.retrainIfUp l) ev false := by
  unfold State.retrainIfUp
  exact .ite (.retrain h) h

/-- A loss that is not MPLL's, from its event on. -/
theorem Kept.pllLost_of_log {d b} (hb : ¬ (d = 0 ∧ b = 0))
    (h : Kept s₀ (((s.putBit .CLK_LOCK b false d).putBit .CLK_CAUSE b true d).log 0x1401 sevWarn (alwaysOn d) b) ev false) :
    Kept s₀ (s.pllLost d b) ev false := by
  unfold State.pllLost
  extract_lets
  rw [if_neg hb]
  refine .ite (.retrainIfUp (.retrainIfUp h)) (.ite (.ite (.tpllLost h) h) (.ite (.hpllLost h) ?_))
  exact .ite (.retrainIfUp (.retrainIfUp h)) (.ite (.lpllLost h) h)

theorem Kept.pllLost {d b} (h : Kept s₀ s ev false) : Kept s₀ (s.pllLost d b) ev false := by
  by_cases hb : d = 0 ∧ b = 0
  · rw [State.pllLost, if_pos hb]
    exact .mclkGone (.enterFault (.putBit (.putBit h)))
  · exact .pllLost_of_log hb (.log (.putBit (.putBit h)))

theorem Kept.setRefclk {v} (h : Kept s₀ s ev false) : Kept s₀ (s.setRefclk v) ev false := by
  unfold State.setRefclk
  exact .foldl h fun _ _ hf => .putBit hf

theorem Kept.refclkNever (h : Kept s₀ s ev false) : Kept s₀ s.refclkNever ev false := by
  unfold State.refclkNever
  exact .enterFault (.endSeq h)

/-! ## Monitor -/

theorem Kept.setMonIn {i v} (h : Kept s₀ s ev wt) : Kept s₀ (s.setMonIn i v) ev wt := h.withMon

theorem Kept.monInWrite {r i data} (h : Kept s₀ s ev false) : Kept s₀ (s.monInWrite r i data) ev false := by
  unfold State.monInWrite
  exact .ite (.raise h) (.setRegAny h)

theorem Kept.refreshOd (h : Kept s₀ s ev wt) : Kept s₀ s.refreshOd ev wt := by
  unfold State.refreshOd
  exact .put h

theorem Kept.odAccept {m input w} (h : Kept s₀ s ev wt) : Kept s₀ (s.odAccept m input w) ev wt := by
  unfold State.odAccept
  exact .refreshOd (.withMon (.setWide h))

theorem Kept.odWrite {m data} (h : Kept s₀ s ev wt) : Kept s₀ (s.odWrite m data) ev wt := by
  unfold State.odWrite
  exact .ite (.raise (.putBit h)) (.ite (.odAccept h) (.putBit h))

theorem Kept.odDone {q code} (h : Kept s₀ s ev wt) : Kept s₀ (s.odDone q code) ev wt := by
  unfold State.odDone
  extract_lets
  split
  · exact .finish (.setWide h)
  · exact .setWide h

theorem Kept.odStop (h : Kept s₀ s ev wt) : Kept s₀ s.odStop ev wt := by
  unfold State.odStop
  refine .foldl (.refreshOd (.withMon h)) fun _ _ hf => ?_
  split
  · exact .finish hf
  · exact hf

theorem Kept.setRun {run} (h : Kept s₀ s ev wt) : Kept s₀ (s.setRun run) ev wt := by
  unfold State.setRun
  extract_lets _ s1
  have h1 : Kept s₀ s1 ev wt := .putFlag h
  refine .ite (.ite h1 (.withMon (.put (.raise h1)))) (.ite ?_ h1)
  extract_lets
  split
  · exact .finish (.put (.withMon (.odStop h1)))
  · exact .odStop h1

theorem Kept.slotCommit {w} (h : Kept s₀ s ev wt) : Kept s₀ (s.slotCommit w).2 ev wt := by
  unfold State.slotCommit
  extract_lets
  split
  · exact .snd (.raise h)
  · exact .snd (.raise (.withMon h))

theorem Kept.calReject {k reason p2} (h : Kept s₀ s ev wt) : Kept s₀ (s.calReject k reason p2) ev wt := by
  unfold State.calReject
  exact .finish (.log (.raise (.setReg (.put (.withMon h)))))

theorem Kept.tableApply (h : Kept s₀ s ev wt) : Kept s₀ s.tableApply ev wt := by
  unfold State.tableApply
  split
  · exact h
  · refine .ite h ?_
    extract_lets _ _ _ _ _ _ s4 s5
    have h4 : Kept s₀ s4 ev wt := .foldl (.raise (.put (.withMon (.foldl h fun _ _ hf => .setReg hf))))
      fun _ _ hf => .ite hf (.refreshChan (.ite (.restartChan hf) hf))
    have h5 : Kept s₀ s5 ev wt := by
      unfold s5
      split
      · exact .ite h4 (.calReject (.free h4))
      · exact h4
    exact .foldl h5 fun _ _ hf => .finish hf

theorem Kept.setChkCode {code} (h : Kept s₀ s ev wt) : Kept s₀ (s.setChkCode code) ev wt := by
  unfold State.setChkCode
  exact .withMon (.put h)

theorem Kept.diagBegin {i w} (h : Kept s₀ s ev wt) : Kept s₀ (s.diagBegin i w) ev wt := by
  unfold State.diagBegin
  exact .withMon (.put (.raise h))

theorem Kept.chkWrite {data} (h : Kept s₀ s ev wt) : Kept s₀ (s.chkWrite data) ev wt := by
  unfold State.chkWrite
  exact .via (.setChkCode h) fun h1 => .ite (.ite h1 (.raise h1)) (.ite (.diagBegin h1) (.put h1))

theorem Kept.chkFaulted (h : Kept s₀ s ev wt) : Kept s₀ s.chkFaulted ev wt := by
  unfold State.chkFaulted
  exact .ite (.log (.inc (.raise (.raise h)))) h

theorem Kept.chkPassed (h : Kept s₀ s ev wt) : Kept s₀ s.chkPassed ev wt := by
  unfold State.chkPassed
  exact .ite (.log (.raise (.put h))) h

theorem Kept.chkCompare {code} (h : Kept s₀ s ev wt) : Kept s₀ (s.chkCompare code) ev wt := by
  unfold State.chkCompare
  exact .via (.put (.chkPassed (.chkFaulted h))) fun h1 =>
    .ite h1 (.ite (.withMon (.put h1)) (.withMon (.put h1)))

theorem Kept.feed {i t x} (h : Kept s₀ s ev wt) : Kept s₀ (s.feed i t x) ev wt := by
  unfold State.feed
  exact .foldl h fun _ _ hf => .ite (.feedChan hf) hf

theorem Kept.repeatSample {i t} (h : Kept s₀ s ev wt) : Kept s₀ (s.repeatSample i t) ev wt := by
  unfold State.repeatSample
  extract_lets
  split
  · exact .feed (.inc h)
  · exact .feed (.free (.inc h))

theorem Kept.diagTake {d code} (h : Kept s₀ s ev wt) : Kept s₀ (s.diagTake d code) ev wt := by
  unfold State.diagTake
  extract_lets xs _ _ _ s1
  have h1 : Kept s₀ s1 ev wt := .ite (.ite (.withMon h.raise) (.withMon h.free.raise)) h
  split
  · exact .withMon h1
  · exact h1

theorem Kept.calTake {i t code} (h : Kept s₀ s ev wt) : Kept s₀ (s.calTake i t code) ev wt := by
  unfold State.calTake
  split
  · exact .ite (.withMon h) h
  · exact h

theorem Kept.convert {i t code} (h : Kept s₀ s ev wt) : Kept s₀ (s.convert i t code) ev wt := by
  unfold State.convert
  exact .feed (.ite (.chkCompare (.calTake (.setMonIn (.setReg h)))) (.calTake (.setMonIn (.setReg h))))

theorem Kept.conversionEnd {t code} (h : Kept s₀ s ev wt) : Kept s₀ (s.conversionEnd t code) ev wt := by
  unfold State.conversionEnd
  extract_lets
  split
  · extract_lets s1
    have h1 : Kept s₀ s1 ev wt := .refreshOd (.odDone (.withMon h))
    exact .ite h1.repeatSample h1.inc
  · refine .ite h.chkCompare ?_
    split
    · exact .ite h.diagTake.repeatSample h.convert
    · exact h.convert

theorem Kept.conversionStart (h : Kept s₀ s ev wt) : Kept s₀ s.conversionStart ev wt := by
  unfold State.conversionStart
  extract_lets
  split
  · exact .withMon (.put h)
  · exact .put h

theorem Kept.calDone {k} (h : Kept s₀ s ev wt) : Kept s₀ (s.calDone k) ev wt := by
  unfold State.calDone
  extract_lets
  split
  · exact .ite (.calReject h) (.ite (.calReject h) (.finish (.raise (.put (.put (.withMon h))))))
  · refine .ite (.calReject h) (.ite (.calReject h) (.ite (.calReject h) ?_))
    exact .ite (.finish (.put (.withMon h))) (.finish (.log (.raise (.setReg (.put (.put (.put (.withMon h))))))))

theorem Kept.calStart {i target t} (h : Kept s₀ s ev wt) : Kept s₀ (s.calStart i target t).2 ev wt := by
  unfold State.calStart
  exact .iteSnd h (.iteSnd h (.iteSnd h (.iteSnd h (.snd (.raise (.withMon h))))))

theorem Kept.cmdMonSlotSet {p x} (h : Kept s₀ s ev wt) : Kept s₀ (Machine.cmdMonSlotSet p x s).2 ev wt := by
  unfold Machine.cmdMonSlotSet
  exact .iteSnd h (.snd (.foldl h fun _ _ hf => .setReg hf))

theorem Kept.cmdMonSlotCommit {p t} (h : Kept s₀ s ev wt) : Kept s₀ (Machine.cmdMonSlotCommit p t s).2 ev wt := by
  unfold Machine.cmdMonSlotCommit
  refine .iteSnd h ?_
  split
  · next _ _ e =>
    have h1 := Kept.of_pair e (.slotCommit h)
    exact .snd h1
  · next _ e1 =>
    have h2 := Kept.of_pair e1 (.slotCommit h)
    exact .snd h2

theorem Kept.cmdMonChCfg {p x} (h : Kept s₀ s ev wt) : Kept s₀ (Machine.cmdMonChCfg p x s).2 ev wt := by
  unfold Machine.cmdMonChCfg
  refine .iteSnd h ?_
  extract_lets
  split
  · exact h
  · exact .snd (.put (.setChanCfg h))

theorem Kept.cmdMonFirSet {p x} (h : Kept s₀ s ev false) : Kept s₀ (Machine.cmdMonFirSet p x s).2 ev false := by
  unfold Machine.cmdMonFirSet
  exact .iteSnd h (.iteSnd h (.snd (.foldl h fun _ _ hf => .setRegAny hf)))

theorem Kept.cmdMonFirCommit {p t} (h : Kept s₀ s ev wt) : Kept s₀ (Machine.cmdMonFirCommit p t s).2 ev wt := by
  unfold Machine.cmdMonFirCommit
  refine .iteSnd h ?_
  split
  · next _ e =>
    have h1 := Kept.of_pair e (.bankCommit h)
    exact .snd h1
  · next _ e1 =>
    have h2 := Kept.of_pair e1 (.bankCommit h)
    exact .snd h2
  · next _ e2 =>
    have h3 := Kept.of_pair e2 (.bankCommit h)
    exact .snd (.setChan h3)

theorem Kept.cmdMonConvert {p t} (h : Kept s₀ s ev wt) : Kept s₀ (Machine.cmdMonConvert p t s).2 ev wt := by
  unfold Machine.cmdMonConvert
  exact .iteSnd h (.iteSnd h (.iteSnd h (.snd (.odAccept h))))

theorem Kept.cmdMonCalZero {p t} (h : Kept s₀ s ev wt) : Kept s₀ (Machine.cmdMonCalZero p t s).2 ev wt := by
  unfold Machine.cmdMonCalZero
  exact .iteSnd h (.calStart h)

theorem Kept.cmdMonCalFs {p t} (h : Kept s₀ s ev wt) : Kept s₀ (Machine.cmdMonCalFs p t s).2 ev wt := by
  unfold Machine.cmdMonCalFs
  exact .iteSnd h (.calStart h)

theorem Kept.cmdMonChkDiag {p t} (h : Kept s₀ s ev wt) : Kept s₀ (Machine.cmdMonChkDiag p t s).2 ev wt := by
  unfold Machine.cmdMonChkDiag
  exact .iteSnd h (.iteSnd h (.iteSnd h (.snd (.diagBegin h))))

theorem Kept.cmdMonChkSet {p x} (h : Kept s₀ s ev wt) : Kept s₀ (Machine.cmdMonChkSet p x s).2 ev wt := by
  unfold Machine.cmdMonChkSet
  exact .iteSnd h (.snd (.put (.setChkCode h)))

theorem Kept.cmdMonStatus {p x} (h : Kept s₀ s ev wt) : Kept s₀ (Machine.cmdMonStatus p x s).2 ev wt := by
  unfold Machine.cmdMonStatus
  exact .iteSnd h h

theorem Kept.execMonConversion {raw} (h : Kept s₀ s ev wt) : NextKept ev wt s₀ (Machine.execMonConversion raw s) := by
  unfold Machine.execMonConversion
  refine .next (.ite ?_ h)
  exact .ite (.conversionStart (.withMon (.conversionEnd h))) (.put (.withMon (.conversionEnd h)))

theorem Kept.execDiagDone (h : Kept s₀ s ev wt) : NextKept ev wt s₀ (Machine.execDiagDone s) := by
  unfold Machine.execDiagDone
  refine .next ?_
  split
  · refine .ite ?_ h
    extract_lets
    split
    · exact .finish (.raise (.setReg (.put (.put (.withMon h)))))
    · exact .raise (.setReg (.put (.put (.withMon h))))
  · exact h

theorem Kept.execMonCalAverageDone (h : Kept s₀ s ev wt) : NextKept ev wt s₀ (Machine.execMonCalAverageDone s) := by
  unfold Machine.execMonCalAverageDone
  refine .next ?_
  split
  · exact .ite (.calDone h) h
  · exact h

/-! ## Power -/

theorem Kept.stopCorePlls (h : Kept s₀ s ev false) : Kept s₀ s.stopCorePlls ev false := by
  unfold State.stopCorePlls
  exact .foldl h fun _ _ hf => .foldl hf fun _ _ hf1 => .stopPll hf1

theorem Kept.powerCheck (h : Kept s₀ s ev false) : Kept s₀ s.powerCheck ev false := by
  unfold State.powerCheck
  exact .ite h (.ite (.ite (.lowDone (.stopCorePlls (.endSeq h))) h) (.ite (.startSeq h) h))

theorem Kept.execLowPowerEntry (h : Kept s₀ s ev false) : NextKept ev false s₀ (Machine.execLowPowerEntry s) := by
  unfold Machine.execLowPowerEntry
  refine .next (.ite ?_ h)
  exact .powerCheck (.lowDone (.withPwr (.stopCorePlls (.coreIslandsOff (.penDropOne (.penCancel (.toPwr (.avsStop
      (.opticsOff (.applyResetImage (.expireTxn h)))))))))))

theorem Kept.avsStart (h : Kept s₀ s ev wt) : Kept s₀ s.avsStart ev wt := by
  unfold State.avsStart
  exact .withPwr (.setReg (.refreshDac (.putFlag (.put (.put (.setReg h))))))

theorem Kept.enterReady (h : Kept s₀ s ev false) : Kept s₀ s.enterReady ev false := by
  unfold State.enterReady
  exact .via (.foldl (.avsStart (.toPwr h)) fun _ _ hf => .refreshTimeIsland hf) fun h1 => .lowDone (.ite (.withPwr
      h1) h1)

theorem Kept.setSeq {num obj f} (h : Kept s₀ s ev wt) : Kept s₀ (s.setSeq num obj f) ev wt := by
  unfold State.setSeq
  exact .withPwr h

theorem Kept.nextStep {num obj} (h : Kept s₀ s ev wt) : Kept s₀ (s.nextStep num obj) ev wt := by
  unfold State.nextStep
  exact .setSeq h

theorem Kept.startupDone {step} (h : Kept s₀ s ev false) : Kept s₀ (s.startupDone step) ev false := by
  unfold State.startupDone
  split
  · exact .nextStep h
  · exact .nextStep (.setRefclk h)
  · exact .nextStep (.lockPll h)
  · exact .nextStep (.lockPll (.lockPll (.lockPll h)))
  · exact .endSeq (.linkUp (.linkUp h))

theorem Kept.readyDone {step} (h : Kept s₀ s ev false) : Kept s₀ (s.readyDone step) ev false := by
  unfold State.readyDone
  split
  · exact .nextStep h
  · exact .via (.foldl h fun _ _ hf => .foldl hf fun _ _ hf1 => .lockPll hf1) fun h1 => .nextStep (.ite h1
      (.trainCore h1))
  · exact .enterReady (.endSeq (.ite (.linkUp h) h))

theorem Kept.railDone {q} (h : Kept s₀ s ev wt) : Kept s₀ (s.railDone q) ev wt := by
  unfold State.railDone
  exact .ite (.penNext (.endSeq (.put (.put h)))) (.ite (.setSeq (.setPens h)) h)

theorem Kept.lineRxDone {k step} (h : Kept s₀ s ev wt) : Kept s₀ (s.lineRxDone k step) ev wt := by
  unfold State.lineRxDone
  split
  · exact .refreshLineIsland (.nextStep (.putFlag h))
  · exact .ite (.nextStep h) h
  · exact .ite (.endSeq h) h

theorem Kept.portRestarted {p toLine} (h : Kept s₀ s ev wt) : Kept s₀ (s.portRestarted p toLine) ev wt := by
  unfold State.portRestarted
  split
  · exact .endRestart h
  · exact h

theorem Kept.lineTxDone {k step} (h : Kept s₀ s ev wt) : Kept s₀ (s.lineTxDone k step) ev wt := by
  unfold State.lineTxDone
  split
  · exact .refreshLineIsland (.nextStep h)
  · exact .nextStep (.txWakePattern (.refreshLine (.refreshLineIsland (.putFlag h))))
  · exact .portRestarted (.endSeq h)

theorem Kept.hostRestarted {num j} (h : Kept s₀ s ev wt) : Kept s₀ (s.hostRestarted num j) ev wt := by
  unfold State.hostRestarted
  exact .inc (.endSeq h)

theorem Kept.hostRxDone {j step} (h : Kept s₀ s ev wt) : Kept s₀ (s.hostRxDone j step) ev wt := by
  unfold State.hostRxDone
  split
  · exact .refreshHostIsland (.nextStep (.raise (.putFlag h)))
  · exact .ite (.nextStep h) h
  · split
    · exact .ite (.hostRestarted h) h
    · exact .endSeq h

theorem Kept.hostTxDone {j step} (h : Kept s₀ s ev wt) : Kept s₀ (s.hostTxDone j step) ev wt := by
  unfold State.hostTxDone
  split
  · exact .refreshHostIsland (.nextStep h)
  · exact .hostWakePattern (.nextStep (.refreshHost (.put (.refreshHostIsland (.raise (.putFlag h))))))
  · exact .portRestarted (.hostRestarted h)

theorem Kept.execRestartStepDone {seq obj} (h : Kept s₀ s ev false) :
    NextKept ev false s₀ (Machine.execRestartStepDone seq obj s) := by
  unfold Machine.execRestartStepDone
  refine .next ?_
  extract_lets
  split
  · exact h
  · refine .ite h ?_
    split
    · exact .startupDone h
    · exact .readyDone h
    · exact .railDone h
    · exact .lockPll h
    · exact .lineRxDone h
    · exact .lineTxDone h
    · exact .hostRxDone h
    · exact .hostTxDone h

theorem Kept.undoStep {q dies} (h : Kept s₀ s ev false) : Kept s₀ (s.undoStep q dies) ev false := by
  unfold State.undoStep
  split
  · exact .ite (.stopPll h) (.ite (.foldl h fun _ _ hf => .stopPll hf) h)
  · exact .ite (.foldl h fun _ _ hf1 => .foldl hf1 fun _ _ hf2 => .stopPll hf2) h
  · exact .setPens h
  · exact .stopPll h
  · exact h

theorem Kept.lanePortFault {p event reason} (h : Kept s₀ s ev wt) : Kept s₀ (s.lanePortFault p event reason) ev wt := by
  unfold State.lanePortFault
  split
  · exact h
  · exact .ite (.applyFault h) (.portTo h)

theorem Kept.endRestartIdle {q} (h : Kept s₀ s ev wt) : Kept s₀ (s.endRestartIdle q) ev wt := by
  unfold State.endRestartIdle
  exact .ite (.refreshHost (.put h)) h

theorem Kept.stepFailed {q} (h : Kept s₀ s ev false) : Kept s₀ (s.stepFailed q) ev false := by
  unfold State.stepFailed
  split
  · exact .enterFault (.endSeq h)
  · exact .enterFault (.endSeq h)
  · exact .enterFault h
  · exact .lanePortFault (.endSeq h)
  · exact .lanePortFault (.refreshLineIsland (.endSeq h))
  · exact .lanePortFault (.portRestarted (.refreshLineIsland (.endSeq h)))
  · exact .lanePortFault (.log (.raise (.refreshHostIsland (.endRestartIdle (.endSeq h)))))

theorem Kept.execRestartStepTimeout {seq obj dies} (h : Kept s₀ s ev false) :
    NextKept ev false s₀ (Machine.execRestartStepTimeout seq obj
    dies s) := by
  unfold Machine.execRestartStepTimeout
  refine .next ?_
  split
  · exact h
  · refine .ite h (.ite (.refclkNever h) (.ite (.stepFailed h) ?_))
    exact .setSeq (.undoStep (.foldl (.raise (.inc h)) fun _ _ hf => .log hf))

theorem Kept.execLineWakeAmTimeout {k} (h : Kept s₀ s ev wt) : NextKept ev wt s₀ (Machine.execLineWakeAmTimeout k s) := by
  unfold Machine.execLineWakeAmTimeout
  refine .next (.ite ?_ h)
  extract_lets
  split
  · exact .refreshAlign (.endSeq h)
  · exact .endSeq h

theorem Kept.execWearMeasure {ws} (h : Kept s₀ s ev wt) : NextKept ev wt s₀ (Machine.execWearMeasure ws s) := by
  unfold Machine.execWearMeasure
  refine .next (.ite h (.setReg (.foldl (.ite (.withLife (.withPwr h)) (.withPwr h)) fun _ _ hf => ?_)))
  split
  · exact .ite (.withLife hf) hf
  · exact hf

theorem Kept.execAvsStep (h : Kept s₀ s ev wt) : NextKept ev wt s₀ (Machine.execAvsStep s) := by
  unfold Machine.execAvsStep
  refine .next (.ite ?_ h)
  exact .ite (.ite (.raise (.putFlag (.refreshDac (.put (.put (.put (.put (.withPwr h)))))))) (.log (.withPwr
      (.raise (.putFlag (.refreshDac (.put (.put (.put (.put (.withPwr h))))))))))) (.putFlag (.refreshDac (.put
      (.put (.put (.put (.withPwr h)))))))

theorem Kept.refreshLife (h : Kept s₀ s ev wt) : Kept s₀ s.refreshLife ev wt := by
  unfold State.refreshLife
  exact .setWide h

theorem Kept.cmdPwrStatus {p x} (h : Kept s₀ s ev wt) : Kept s₀ (Machine.cmdPwrStatus p x s).2 ev wt := by
  unfold Machine.cmdPwrStatus
  exact .iteSnd h h

theorem Kept.cmdPwrReset {p x} (h : Kept s₀ s ev wt) : Kept s₀ (Machine.cmdPwrReset p x s).2 ev wt := by
  unfold Machine.cmdPwrReset
  exact .iteSnd h (.iteSnd h (.snd (.withPwr h)))

theorem Kept.cmdPwrLowpwr {p t} (h : Kept s₀ s ev false) : Kept s₀ (Machine.cmdPwrLowpwr p t s).2 ev false := by
  unfold Machine.cmdPwrLowpwr
  exact .iteSnd h (.iteSnd h (.iteSnd (.snd (.withPwr (.powerCheck (.put h)))) (.snd (.powerCheck (.put h)))))

theorem Kept.cmdPwrWearReport {p x} (h : Kept s₀ s ev wt) : Kept s₀ (Machine.cmdPwrWearReport p x s).2 ev wt := by
  unfold Machine.cmdPwrWearReport
  exact .iteSnd h h

theorem Kept.cmdPwrLifeReport {p x} (h : Kept s₀ s ev wt) : Kept s₀ (Machine.cmdPwrLifeReport p x s).2 ev wt := by
  unfold Machine.cmdPwrLifeReport
  exact .iteSnd h h

/-! ## Thermal -/

theorem Kept.zoneActions {z} (h : Kept s₀ s ev wt) : Kept s₀ (s.zoneActions z) ev wt := by
  unfold State.zoneActions
  exact .ite h (.refreshPause (.putFlag (.refreshThrottle h)))

theorem Kept.refreshZone {z} (h : Kept s₀ s ev false) : Kept s₀ (s.refreshZone z) ev false := by
  unfold State.refreshZone
  split
  · exact h
  · extract_lets _ _ _ _ _ _ _ _ _ _ _ _ _ _ _ s1 s2 s3 s4 s5 s6 s7 s8 s9 s10 s11 s12
    have h3 : Kept s₀ s3 ev false := .put (.put (.setReg h))
    have h5 : Kept s₀ s5 ev false := .ite (.ite h3 (.log (.raise h3))) (.raise (.ite h3 (.log (.raise h3))))
    have h7 : Kept s₀ s7 ev false := .ite (.log (.ite (.log h5) h5)) (.ite (.log h5) h5)
    have h9 : Kept s₀ s9 ev false := .ite (.log (.ite (.log h7) h7)) (.ite (.log h7) h7)
    have h11 : Kept s₀ s11 ev false := .ite (.ite h9 (.zoneActions h9)) (.raise (.ite h9 (.zoneActions h9)))
    exact .ite (.ite (.log h11) (.enterFault (.log h11))) h11

theorem Kept.measure {n count} (h : Kept s₀ s ev false) : Kept s₀ (s.measure n count) ev false := by
  unfold State.measure
  extract_lets _ _ _ _ _ _ _ s1
  have h1 : Kept s₀ s1 ev false := .raise (.put (.setSensors h))
  refine .powerCheck (.refreshZone (.ite ?_ (.putFlag (.putFlag h1))))
  exact .ite (.log (.raise (.raise (.putFlag (.putFlag h1))))) (.enterFault (.log (.raise (.raise (.putFlag
      (.putFlag h1))))))

theorem Kept.cmdThmStatus {p x} (h : Kept s₀ s ev wt) : Kept s₀ (Machine.cmdThmStatus p x s).2 ev wt := by
  unfold Machine.cmdThmStatus
  exact .iteSnd h h

theorem Kept.cmdThmSetThresh {p x} (h : Kept s₀ s ev wt) : Kept s₀ (Machine.cmdThmSetThresh p x s).2 ev wt := by
  unfold Machine.cmdThmSetThresh
  exact .iteSnd h (.iteSnd h (.snd (.setReg h)))

theorem Kept.cmdThmMeasure {count p x} (h : Kept s₀ s ev false) :
    Kept s₀ (Machine.cmdThmMeasure count p x s).2 ev false := by
  unfold Machine.cmdThmMeasure
  exact .iteSnd h (.snd (.measure h))

/-! ## CalStore -/

theorem Kept.pfailOn (h : Kept s₀ s ev false) : Kept s₀ s.pfailOn ev false := by
  unfold State.pfailOn
  exact .ite (.closeStage (.withBoot (.log (.raise (.raise h))))) (.log (.raise (.raise h)))

theorem Kept.execPfailRelease (h : Kept s₀ s ev false) : NextKept ev false s₀ (Machine.execPfailRelease s) := by
  unfold Machine.execPfailRelease
  refine .next (.ite (.ite (.put h) ?_) h)
  extract_lets
  split
  · exact .log (.put h)
  · exact .finish (.log (.withCal (.log (.put h))))

theorem Kept.setCalValid {bank v} (h : Kept s₀ s ev wt) : Kept s₀ (s.setCalValid bank v) ev wt := by
  unfold State.setCalValid
  exact .withCal h

theorem Kept.storeWords {ws} (h : Kept s₀ s ev wt) : Kept s₀ (s.storeWords ws) ev wt := by
  unfold State.storeWords
  exact .foldl h fun _ _ hf => .writeWord hf

theorem Kept.storeEntries {es fate t} (h : Kept s₀ s ev false) : Kept s₀ (s.storeEntries es fate t).2 ev false := by
  unfold State.storeEntries
  refine .iteSnd (.snd (.withCal (.setCalValid (.storeWords (.withCal h))))) ?_
  split
  · exact .pfailOn (.withCal (.setCalValid (.storeWords (.withCal h))))
  · exact .setWord (.free (.setCalValid (.storeWords (.withCal h))))
  · exact .snd (.log (.withCal (.setCalValid (.storeWords (.withCal h)))))

theorem Kept.stagedEntries {len} (h : Kept s₀ s ev wt) : Kept s₀ (s.stagedEntries len).2 ev wt := by
  unfold State.stagedEntries
  refine .iteSnd ?_ ?_
  · refine .snd ?_
    split
    · exact .ite (.closeStage h) h
    · exact h
  · split
    · exact h
    · refine .iteSnd h ?_
      split
      · next _ e =>
        have h1 := Kept.of_pair e (.readBytes (.closeStage h))
        exact .snd h1
      · next _ _ e1 =>
        have h2 := Kept.of_pair e1 (.readBytes (.closeStage h))
        split <;> exact .snd h2

theorem Kept.cmdCalWrite {fate p t} (h : Kept s₀ s ev false) : Kept s₀ (Machine.cmdCalWrite fate p t s).2 ev false := by
  unfold Machine.cmdCalWrite
  refine .iteSnd h (.iteSnd h ?_)
  split
  · next _ _ e =>
    have h1 := Kept.of_pair e (.stagedEntries h)
    exact .snd h1
  · next _ _ e1 =>
    have h2 := Kept.of_pair e1 (.stagedEntries h)
    exact .iteSnd (.snd h2) (.storeEntries h2)

theorem Kept.cmdCalInfo {p x} (h : Kept s₀ s ev wt) : Kept s₀ (Machine.cmdCalInfo p x s).2 ev wt := by
  unfold Machine.cmdCalInfo
  refine .iteSnd h ?_
  extract_lets
  split <;> exact h

theorem Kept.cmdCalStage {p x} (h : Kept s₀ s ev wt) : Kept s₀ (Machine.cmdCalStage p x s).2 ev wt := by
  unfold Machine.cmdCalStage
  exact .iteSnd h (.iteSnd h (.openStage h))

theorem Kept.readBank {bank} (h : Kept s₀ s ev wt) : Kept s₀ (s.readBank bank).2 ev wt := by
  unfold State.readBank
  extract_lets
  split
  · next _ e =>
    have h1 := Kept.of_pair e (.readWord h)
    exact .snd h1
  · next _ _ e4 =>
    have h5 := Kept.of_pair e4 (.readWord h)
    refine .iteSnd (.snd h5) ?_
    split
    next _ _ e3 =>
    have h4 := Kept.of_pair e3 (.readBytes h5)
    refine .iteSnd (.snd h4) (.iteSnd (.snd h4) (.iteSnd (.snd h4) ?_))
    split
    · next _ e1 =>
      have h2 := Kept.of_pair e1 (.readBytes h4)
      exact .snd h2
    · next _ _ e2 =>
      have h3 := Kept.of_pair e2 (.readBytes h4)
      refine .iteSnd (.snd h3) ?_
      split <;> exact .snd h3

theorem Kept.dropBank {bank f} (h : Kept s₀ s ev wt) : Kept s₀ (s.dropBank bank f) ev wt := by
  unfold State.dropBank
  split
  · exact .writeWord (.ite (.ite h (.log h)) (.log h))
  · exact h

theorem Kept.loadStore (h : Kept s₀ s ev wt) : Kept s₀ s.loadStore ev wt := by
  unfold State.loadStore
  split
  next e0 =>
  have h0 := Kept.of_pair e0 h.readBank
  split
  next e1 =>
  have h1 := Kept.of_pair e1 h0.readBank
  extract_lets _ _ _ best
  generalize best = found
  split
  · exact .log (.withCal (.dropBank (.dropBank h1)))
  · exact .log (.withCal (.dropBank (.dropBank h1)))

/-! ## Security -/

theorem Kept.storeBytes {n a bs} (h : Kept s₀ s ev wt) : Kept s₀ (State.storeBytes n s a bs) ev wt := by
  induction n generalizing s a bs with
  | zero => exact h
  | succ n ih =>
    cases bs with
    | nil => exact h
    | cons b bs =>
      rw [State.storeBytes]
      exact ih (.ite (.writeWord h) (.mergeWord h))

theorem Kept.loadImage {a copy} (h : Kept s₀ s ev wt) : Kept s₀ (s.loadImage a copy).2 ev wt := by
  unfold State.loadImage
  split
  · next _ e =>
    have h1 := Kept.of_pair e (.readBytes h)
    exact .snd h1
  · next _ _ e3 =>
    have h4 := Kept.of_pair e3 (.readBytes h)
    refine .iteSnd (.snd h4) (.iteSnd (.snd h4) (.iteSnd (.snd h4) ?_))
    split
    · next _ e1 =>
      have h2 := Kept.of_pair e1 (.readBytes h4)
      exact .snd (.raise h2)
    · next _ _ e2 =>
      have h3 := Kept.of_pair e2 (.readBytes h4)
      exact .iteSnd (.snd (.ite (.storeBytes h3) h3)) (.snd (.raise (.ite (.storeBytes h3) h3)))

theorem Kept.checkImage {a} (h : Kept s₀ s ev wt) : Kept s₀ (s.checkImage a).2 ev wt := by
  unfold State.checkImage
  exact .loadImage h

theorem Kept.setFwSlot {i v} (h : Kept s₀ s ev false) : Kept s₀ (s.setFwSlot i v) ev false := by
  unfold State.setFwSlot
  exact .setRegAny (.withSec h)

theorem Kept.refreshSec (h : Kept s₀ s ev false) : Kept s₀ s.refreshSec ev false := by
  unfold State.refreshSec
  exact .put (.put (.putFlag (.foldl h fun _ _ hf => .setFwSlot hf)))

theorem Kept.cmdFwBegin {p x} (h : Kept s₀ s ev false) : Kept s₀ (Machine.cmdFwBegin p x s).2 ev false := by
  unfold Machine.cmdFwBegin
  exact .iteSnd h (.iteSnd h (.iteSnd h (.openStage (.withBootSec (.setFwSlot h)))))

theorem Kept.cmdFwChunk {fail p x} (h : Kept s₀ s ev wt) : Kept s₀ (Machine.cmdFwChunk fail p x s).2 ev wt := by
  unfold Machine.cmdFwChunk
  extract_lets
  split
  · refine .iteSnd h ?_
    split
    · next _ e =>
      have h1 := Kept.of_pair e (.readWords h)
      exact .snd h1
    · next _ _ e1 =>
      have h3 := Kept.of_pair e1 (.readWords h)
      exact .via (.foldl h3 fun _ _ hf => .writeWord hf) fun h2 => .iteSnd (.setWord (.free h2)) (.snd h2)
  · exact .iteSnd h h

theorem Kept.cmdFwEnd {p x} (h : Kept s₀ s ev false) : Kept s₀ (Machine.cmdFwEnd p x s).2 ev false := by
  unfold Machine.cmdFwEnd
  refine .iteSnd h (.iteSnd h ?_)
  split
  · next _ _ e =>
    have h1 := Kept.of_pair e (.checkImage h)
    exact .snd h1
  · next _ _ e1 =>
    have h2 := Kept.of_pair e1 (.checkImage h)
    exact .snd (.closeStage (.withBoot (.setFwSlot h2)))

theorem Kept.cmdFwActivate {p t} (h : Kept s₀ s ev wt) : Kept s₀ (Machine.cmdFwActivate p t s).2 ev wt := by
  unfold Machine.cmdFwActivate
  exact .iteSnd h (.iteSnd h (.iteSnd (.snd (.withPwr (.withSec h))) (.snd (.withSec h))))

theorem Kept.cmdFwCommit {p x} (h : Kept s₀ s ev wt) : Kept s₀ (Machine.cmdFwCommit p x s).2 ev wt := by
  unfold Machine.cmdFwCommit
  exact .iteSnd h (.iteSnd h (.snd (.log (.put (.put (.withSec h))))))

theorem Kept.cmdFwStatus {p x} (h : Kept s₀ s ev wt) : Kept s₀ (Machine.cmdFwStatus p x s).2 ev wt := by
  unfold Machine.cmdFwStatus
  exact .iteSnd h h

theorem Kept.cmdSecStage {p x} (h : Kept s₀ s ev wt) : Kept s₀ (Machine.cmdSecStage p x s).2 ev wt := by
  unfold Machine.cmdSecStage
  exact .iteSnd h (.iteSnd h (.openStage h))

theorem Kept.takeToken {n} (h : Kept s₀ s ev wt) : Kept s₀ (s.takeToken n).2 ev wt := by
  unfold State.takeToken
  split
  · exact h
  · refine .iteSnd h ?_
    split
    · next _ e =>
      have h1 := Kept.of_pair e (.readBytes (.closeStage h))
      exact .snd h1
    · next _ _ e1 =>
      have h2 := Kept.of_pair e1 (.readBytes (.closeStage h))
      exact .snd h2

theorem Kept.unverify {slot} (h : Kept s₀ s ev wt) : Kept s₀ (s.unverify slot) ev wt := by
  unfold State.unverify
  exact .withPsets h

theorem Kept.applyCert {kind slot maker key} (h : Kept s₀ s ev false) :
    Kept s₀ (s.applyCert kind slot maker key) ev false := by
  unfold State.applyCert
  refine .log (.refreshSec ?_)
  split
  · exact .withSec h
  · exact .unverify (.withSec h)
  · exact .unverify (.withSec h)
  · exact .withSec h

theorem Kept.cmdCertApply {p x} (h : Kept s₀ s ev false) : Kept s₀ (Machine.cmdCertApply p x s).2 ev false := by
  unfold Machine.cmdCertApply
  refine .iteSnd h ?_
  split
  · next _ _ e =>
    have h1 := Kept.of_pair e (.takeToken h)
    exact .snd h1
  · next _ _ e1 =>
    have h2 := Kept.of_pair e1 (.takeToken h)
    refine .iteSnd ?_ ?_
    · exact .snd (.ite (.raise h2) h2)
    · exact .iteSnd (.snd h2) (.snd (.applyCert h2))

theorem Kept.cmdDebugChallenge {p x} (h : Kept s₀ s ev wt) : Kept s₀ (Machine.cmdDebugChallenge p x s).2 ev wt := by
  unfold Machine.cmdDebugChallenge
  exact .iteSnd h (.iteSnd h (.setWide (.withBoot (.free h))))

theorem Kept.unlockFailed {code} (h : Kept s₀ s ev wt) : Kept s₀ (s.unlockFailed code) ev wt := by
  unfold State.unlockFailed
  exact .ite (.raise (.log (.raise (.inc (.withBoot h))))) (.log (.raise (.inc (.withBoot h))))

theorem Kept.cmdDebugUnlock {p x} (h : Kept s₀ s ev wt) : Kept s₀ (Machine.cmdDebugUnlock p x s).2 ev wt := by
  unfold Machine.cmdDebugUnlock
  refine .iteSnd h (.iteSnd h ?_)
  split
  · next _ _ e =>
    have h1 := Kept.of_pair e (.takeToken h)
    exact .iteSnd (.snd h1) (.snd (.unlockFailed (.setWide (.withBoot h1))))
  · next _ _ e1 =>
    have h2 := Kept.of_pair e1 (.takeToken h)
    exact .iteSnd (.snd (.unlockFailed (.setWide (.withBoot h2)))) (.snd (.log (.raise (.put (.setWide (.withBoot
        h2))))))

theorem Kept.cmdDebugLock {p x} (h : Kept s₀ s ev wt) : Kept s₀ (Machine.cmdDebugLock p x s).2 ev wt := by
  unfold Machine.cmdDebugLock
  exact .iteSnd (.snd (.put h)) h

theorem Kept.cmdKeyList {p x} (h : Kept s₀ s ev wt) : Kept s₀ (Machine.cmdKeyList p x s).2 ev wt := by
  unfold Machine.cmdKeyList
  exact .iteSnd h h

theorem Kept.cmdSensorRetire {p x} (h : Kept s₀ s ev wt) : Kept s₀ (Machine.cmdSensorRetire p x s).2 ev wt := by
  unfold Machine.cmdSensorRetire
  refine .iteSnd h ?_
  split
  · next _ _ e =>
    have h1 := Kept.of_pair e (.takeToken h)
    exact .snd h1
  · next _ _ e1 =>
    have h2 := Kept.of_pair e1 (.takeToken h)
    exact .iteSnd (.snd h2) (.iteSnd (.snd h2) (.snd (.log (.raise (.putBit h2)))))

/-! ## Boot -/

theorem Kept.keepRegs {s0 power} (h : Kept s₀ s ev false) : Kept s₀ (s.keepRegs s0 power) ev false := by
  unfold State.keepRegs
  extract_lets _ _ _ _ _ s6 s7 s8
  have h6 : Kept s₀ s6 ev false := .putFlag (.putFlag (.putFlag (.setWide (.setWide (.foldl (.setReg (.setWide (.ite h
    (.foldl (.setReg h) fun _ _ h1 => .setWide h1)))) fun _ _ h2 => .ite (.raise h2) h2)))))
  have h7 : Kept s₀ s7 ev false := .ite h6 (.putFlag h6)
  exact .refreshSec (.ite h7 (.raise h7))

theorem Kept.resetTo {kind source} (h : Kept s₀ s false false) : Kept s₀ (s.resetTo kind source) false false := by
  unfold State.resetTo
  exact .setReg (.keepRegs ⟨h.pending, nofun, nofun⟩)

theorem Kept.releaseReset (h : Kept s₀ s ev false) : Kept s₀ s.releaseReset ev false := by
  unfold State.releaseReset
  exact .via (.put (.withPwr h)) fun h1 => .ite (.pfailOn (.ite (.fastoffOn h1) h1)) (.ite (.fastoffOn h1) h1)

theorem Kept.execPowerOnResetRelease (h : Kept s₀ s ev false) :
    NextKept ev false s₀ (Machine.execPowerOnResetRelease s) := by
  unfold Machine.execPowerOnResetRelease
  exact .next (.ite (.ite (.withNowEvr (.withPwr h)) (.releaseReset (.withNowEvr (.withPwr h)))) h)

theorem Kept.execSoftwareReset (h : Kept s₀ s false false) : NextKept false false s₀ (Machine.execSoftwareReset s) := by
  unfold Machine.execSoftwareReset
  refine .next ?_
  split
  · exact h
  · exact .ite h (.releaseReset (.resetTo (.ite (.flushAll h) h)))

theorem Kept.startImage {a} (h : Kept s₀ s ev wt) : Kept s₀ (s.startImage a).2 ev wt := by
  unfold State.startImage
  exact .loadImage h

theorem Kept.note {code sev p0 p1 p2 p3} (h : Kept s₀ s ev wt) : Kept s₀ (s.note code sev p0 p1 p2 p3) ev wt := by
  unfold State.note
  exact .withBoot h

theorem Kept.faultBroken (h : Kept s₀ s ev false) : Kept s₀ s.faultBroken ev false := by
  unfold State.faultBroken
  split
  · exact .enterFault h
  · exact h

theorem Kept.booted {slot i trial} (h : Kept s₀ s ev false) : Kept s₀ (s.booted slot i trial) ev false := by
  unfold State.booted
  exact .faultBroken (.withPwrBoot (.note (.put (.putFlag (.put (.setFwSlot h))))))

theorem Kept.enterRecovery {ra rb} (h : Kept s₀ s ev wt) : Kept s₀ (s.enterRecovery ra rb) ev wt := by
  unfold State.enterRecovery
  exact .withPwr (.initRange (.emergency (.putBit (.putBit (.raise (.raise h))))))

theorem Kept.bootFailed (h : Kept s₀ s ev wt) : Kept s₀ s.bootFailed ev wt := by
  unfold State.bootFailed
  exact .raise h

theorem Kept.bootActive (h : Kept s₀ s ev false) : Kept s₀ s.bootActive ev false := by
  unfold State.bootActive
  extract_lets
  split
  · next _ _ e =>
    have h1 := Kept.of_pair e (.startImage h)
    exact .booted h1
  · next _ _ e3 =>
    have h4 := Kept.of_pair e3 (.startImage h)
    split
    · next _ _ e1 =>
      have h2 := Kept.of_pair e1 (.startImage (.bootFailed h4))
      exact .booted (.note h2)
    · next _ _ e2 =>
      have h3 := Kept.of_pair e2 (.startImage (.bootFailed h4))
      exact .ite (.enterRecovery (.bootFailed h3)) (.enterRecovery (.bootFailed h3))

theorem Kept.bootSelect (h : Kept s₀ s ev false) : Kept s₀ s.bootSelect ev false := by
  unfold State.bootSelect
  extract_lets s1
  have h3 : Kept s₀ s1 ev false := .refreshSec h
  split
  · exact .bootActive h3
  · refine .ite (.bootActive (.note (.raise (.withSec h3)))) ?_
    extract_lets
    split
    · next _ _ e =>
      have h1 := Kept.of_pair e (.startImage (.withSec h3))
      exact .booted h1
    · next _ _ e1 =>
      have h2 := Kept.of_pair e1 (.startImage (.withSec h3))
      exact .bootActive (.bootFailed h2)

theorem Kept.recoveryGo {fail} (h : Kept s₀ s ev false) : Kept s₀ (s.recoveryGo fail) ev false := by
  unfold State.recoveryGo
  split
  · next _ _ e =>
    have h1 := Kept.of_pair e (.checkImage h)
    exact .put h1
  · next _ _ e1 =>
    have h2 := Kept.of_pair e1 (.checkImage h)
    refine .ite (.put h2) (.ite (.put (.setWord (.free (.storeBytes h2)))) ?_)
    exact .put (.put (.withPwr (.setFwSlot (.withSec (.storeBytes h2)))))

theorem Kept.monSetup {d} (h : Kept s₀ s ev wt) : Kept s₀ (s.monSetup d) ev wt := by
  unfold State.monSetup
  exact .ite (.cmdMonSlotSet h) (.ite (.cmdMonChCfg h) h)

theorem Kept.startMonitor (h : Kept s₀ s ev false) : Kept s₀ s.startMonitor ev false := by
  unfold State.startMonitor
  extract_lets s1 s2
  have h1 : Kept s₀ s1 ev false := by
    refine .foldl h fun t i ht => ?_
    extract_lets load
    have hload : ∀ t n r, Kept s₀ t ev false → Kept s₀ (load t n r) ev false := by
      intro t n r ht
      unfold load
      split
      · exact .setRegAny ht
      · exact ht
    exact hload _ _ _ (hload _ _ _ ht)
  have h2 : Kept s₀ s2 ev false := by
    unfold s2
    split
    · exact .slotCommit (.foldl h1 fun _ _ h2 => .monSetup h2)
    · exact h1
  exact .setRun h2

theorem Kept.startRecorder (h : Kept s₀ s ev wt) : Kept s₀ s.startRecorder ev wt := by
  unfold State.startRecorder
  exact .refreshEvr (.ite (.raise (.put (.setEvr h))) (.put (.setEvr h)))

theorem Kept.execAqiqueReady (h : Kept s₀ s false false) : NextKept false false s₀ (Machine.execAqiqueReady s) := by
  unfold Machine.execAqiqueReady
  refine .next (.ite ?_ h)
  exact .ite (.powerCheck (.toPwr (.raise (.raise (.weltAbEn (.weltAbEn (.foldl (.startMonitor (.loadStore
      (.withEventsBoot (.log (.startRecorder (.raise (.raise (.putBit (.setReg (.setReg (.setReg (.setReg (.setReg
      (.initRange (.withMbxPwr h))))))))))))))) fun _ _ hf => .put hf))))))) (.raise (.raise (.weltAbEn (.weltAbEn
      (.foldl (.startMonitor (.loadStore (.withEventsBoot (.log (.startRecorder (.raise (.raise (.putBit (.setReg
      (.setReg (.setReg (.setReg (.setReg (.initRange (.withMbxPwr h))))))))))))))) fun _ _ hf => .put hf)))))

/-! ## Counters -/

theorem Kept.bankClear {u mask} (h : Kept s₀ s ev wt) : Kept s₀ (s.bankClear u mask) ev wt := by
  unfold State.bankClear
  exact .foldl h fun _ _ hf => .ite (.setCnt hf) hf

theorem Kept.readerStart {list count w} (h : Kept s₀ s ev wt) : Kept s₀ (s.readerStart list count w) ev wt := by
  unfold State.readerStart
  exact .ite h (.setWide (.setReg (.withReader h)))

theorem Kept.readerCtl {data} (h : Kept s₀ s ev wt) : Kept s₀ (s.readerCtl data) ev wt := by
  unfold State.readerCtl
  exact .ite (.readerStart (.put (.put h))) (.put (.put h))

theorem Kept.readerEnd (h : Kept s₀ s ev wt) : Kept s₀ s.readerEnd ev wt := by
  unfold State.readerEnd
  extract_lets _ _ _ _ s1
  have h1 : Kept s₀ s1 ev wt := .ite (.log (.raise (.raise (.setWide (.raise (.raise (.putFlag h))))))) (.setWide (.raise
      (.raise (.putFlag h))))
  split
  · exact .finish h1
  · exact h1

theorem Kept.readerStore {code value elapsed} (h : Kept s₀ s ev wt) :
    Kept s₀ (s.readerStore code value elapsed) ev wt := by
  unfold State.readerStore
  exact .ite (.readerEnd (.put (.withReader (.setWide h)))) (.put (.withReader (.setWide h)))

theorem Kept.cmdCntListSet {p x} (h : Kept s₀ s ev wt) : Kept s₀ (Machine.cmdCntListSet p x s).2 ev wt := by
  unfold Machine.cmdCntListSet
  exact .iteSnd h (.iteSnd h (.snd (.foldl h fun _ _ hf => .setReg hf)))

theorem Kept.cmdCntListRun {p w} (h : Kept s₀ s ev wt) : Kept s₀ (Machine.cmdCntListRun p w s).2 ev wt := by
  unfold Machine.cmdCntListRun
  exact .iteSnd h (.iteSnd h (.snd (.readerStart (.put (.put h)))))

theorem Kept.cmdCntBankSet {p x} (h : Kept s₀ s ev wt) : Kept s₀ (Machine.cmdCntBankSet p x s).2 ev wt := by
  unfold Machine.cmdCntBankSet
  refine .iteSnd h (.iteSnd h (.iteSnd h ?_))
  exact .via (.ite (.setReg h) (.setReg (.setReg h))) fun h1 => .snd (.putBit (.ite (.setCnt (.ite h1 (.setReg h1)))
      (.ite h1 (.setReg h1))))

/-! ## Mbx -/

theorem Kept.putEyelet {e v} (h : Kept s₀ s ev wt) : Kept s₀ (s.putEyelet e v) ev wt := by
  unfold State.putEyelet
  exact .put (.put (.setEyelet h))

theorem Kept.rejectBell {m e reason} (h : Kept s₀ s ev wt) : Kept s₀ (s.rejectBell m e reason) ev wt := by
  unfold State.rejectBell
  exact .logRate (.inc (.raise (.setReg h)))

theorem Kept.ringBell {m e} (h : Kept s₀ s ev wt) : Kept s₀ (s.ringBell m e) ev wt := by
  unfold State.ringBell
  refine .ite h.rejectBell (.ite h.rejectBell ?_)
  split
  next e => exact .putEyelet (.withMbx (.of_pair e h.readWords))

theorem Kept.execCommandBegin (h : Kept s₀ s ev wt) : NextKept ev wt s₀ (Machine.execCommandBegin s) := by
  unfold Machine.execCommandBegin
  refine .next (.ite ?_ h)
  split
  · exact h
  · extract_lets
    split
    · exact .setEyelet (.putEyelet (.withMbx h))
    · exact .putEyelet (.withMbx h)

theorem Kept.armReset {serial} (h : Kept s₀ s ev wt) : Kept s₀ (s.armReset serial) ev wt := by
  unfold State.armReset
  split
  · exact .ite (.withPwr h) h
  · exact h

theorem Kept.postEntry {e} (h : Kept s₀ s ev false) : Kept s₀ (s.postEntry e) ev false := by
  unfold State.postEntry
  exact .armReset (.putEyelet (.ite (.raiseAny (.putAny (.putAny (.writeWord (.writeWord h))))) (.putAny (.putAny (.writeWord
      (.writeWord h))))))

theorem Kept.setRing {r w full} (h : Kept s₀ s ev wt) : Kept s₀ (s.setRing r w full) ev wt := by
  unfold State.setRing
  exact .withMbx h

theorem Kept.execCompletionPost {e} (h : Kept s₀ s ev false) : NextKept ev false s₀ (Machine.execCompletionPost e s) := by
  unfold Machine.execCompletionPost
  exact .next (.ite (.ite (.postEntry h) (.setRing (.ite (.raise (.putEyelet h)) (.log (.raise (.putEyelet h)))))) h)

theorem Kept.drainRing {n r} (h : Kept s₀ s ev false) : Kept s₀ (State.drainRing n s r) ev false := by
  induction n generalizing s with
  | zero => exact h
  | succ n ih =>
    rw [State.drainRing]
    split
    · exact .ite (.setRing h) h
    · exact .ite (ih (.postEntry (.setRing h))) h

theorem Kept.consumerWrite {r data} (h : Kept s₀ s ev false) : Kept s₀ (s.consumerWrite r data) ev false := by
  unfold State.consumerWrite
  exact .ite (.raise h) (.ite (.drainRing (.put h)) (.put h))

theorem Kept.cmdMbxVersion {p x} (h : Kept s₀ s ev wt) : Kept s₀ (Machine.cmdMbxVersion p x s).2 ev wt := by
  unfold Machine.cmdMbxVersion
  exact .iteSnd h h

theorem Kept.cmdMbxEcho {p x} (h : Kept s₀ s ev wt) : Kept s₀ (Machine.cmdMbxEcho p x s).2 ev wt := by
  unfold Machine.cmdMbxEcho
  exact .iteSnd h h

theorem Kept.cmdWinOpen {p x} (h : Kept s₀ s ev wt) : Kept s₀ (Machine.cmdWinOpen p x s).2 ev wt := by
  unfold Machine.cmdWinOpen
  exact .iteSnd h (.iteSnd h (.snd (.log (.openWindow h))))

theorem Kept.cmdWinClose {p x} (h : Kept s₀ s ev wt) : Kept s₀ (Machine.cmdWinClose p x s).2 ev wt := by
  unfold Machine.cmdWinClose
  exact .iteSnd h (.snd (.closeWindow h))

theorem Kept.cmdCmisCtl {p x} (h : Kept s₀ s ev wt) : Kept s₀ (Machine.cmdCmisCtl p x s).2 ev wt := by
  unfold Machine.cmdCmisCtl
  exact .iteSnd h (.snd (.put h))

/-! ## RegRead -/

theorem Kept.setSnap {m k shadow w} (h : Kept s₀ s ev wt) : Kept s₀ (s.setSnap m k shadow w) ev wt := by
  unfold State.setSnap
  exact .withSnaps h

theorem Kept.takeEntry {k} (h : Kept s₀ s ev wt) : Kept s₀ (s.takeEntry k).2 ev wt := by
  unfold State.takeEntry
  exact .iteSnd (.snd (.put (.setRack h))) (.snd (.put (.withTime h)))

theorem Kept.lowLatch {m k shadow} (h : Kept s₀ s ev wt) : Kept s₀ (s.lowLatch m k shadow).2 ev wt := by
  unfold State.lowLatch
  exact .iteSnd (.takeEntry h) (.iteSnd (.winLatch h) h)

theorem Kept.readWide {m k n shadow} (h : Kept s₀ s ev wt) : Kept s₀ (s.readWide m k n shadow).2 ev wt := by
  unfold State.readWide
  exact .iteSnd (.setSnap (.lowLatch h)) h

theorem Kept.readLow64 {m k shadow} (h : Kept s₀ s ev wt) : Kept s₀ (s.readLow64 m k shadow).2 ev wt := by
  unfold State.readLow64
  exact .iteSnd (.setSnap (.takeEntry h)) (.iteSnd (.evrLatch h) h)

theorem Kept.readReg {m b off} (h : Kept s₀ s ev false) : Kept s₀ (s.readReg m b off).2 ev false := by
  unfold State.readReg
  split
  · exact h
  · exact .iteSnd (.snd (.ite h (.setRegAny h))) (.readWide h)

theorem Kept.readHalf {m b off} (h : Kept s₀ s ev false) : Kept s₀ (s.readHalf m b off).2 ev false := by
  unfold State.readHalf
  split
  · exact .iteSnd (.readReg h) h
  · exact h
  · exact h

theorem Kept.readReg64 {m b off} (h : Kept s₀ s ev false) : Kept s₀ (s.readReg64 m b off).2 ev false := by
  unfold State.readReg64
  split
  · exact .iteSnd (.readHalf (.readHalf h)) (.readLow64 h)
  · exact .readHalf (.readHalf h)

theorem Kept.readMem {m b a} (h : Kept s₀ s ev wt) : Kept s₀ (s.readMem m b a).2 ev wt := by
  unfold State.readMem
  exact .iteSnd h (.readWord h)

theorem Kept.readMem32 {m b k a} (h : Kept s₀ s ev wt) : Kept s₀ (s.readMem32 m b k a).2 ev wt := by
  unfold State.readMem32
  split <;> exact .readMem h

theorem Kept.readMem64 {m b k a} (h : Kept s₀ s ev wt) : Kept s₀ (s.readMem64 m b k a).2 ev wt := by
  unfold State.readMem64
  split
  · exact .readMem h
  · split
    next _ _ e1 =>
    have h2 := Kept.of_pair e1 (.readMem32 h)
    split
    next _ _ e =>
    have h1 := Kept.of_pair e (.readMem32 h2)
    split <;> exact .snd h1

/-! ## RegWrite -/

theorem Kept.writePlain {m k data full} (h : Kept s₀ s ev false) : Kept s₀ (s.writePlain m k data full) ev false := by
  unfold State.writePlain
  exact .setRegAny h

theorem Kept.refreshWindows (h : Kept s₀ s ev wt) : Kept s₀ s.refreshWindows ev wt := by
  unfold State.refreshWindows
  exact .put h

theorem Kept.recoveryWrite {k data fail} (h : Kept s₀ s ev false) : Kept s₀ (s.recoveryWrite k data fail) ev false := by
  unfold State.recoveryWrite
  refine .ite (.raise h) (.ite (.setReg h) (.ite h ?_))
  split
  · exact .recoveryGo h
  · exact .recoveryGo (.free h)

theorem Kept.weltCtlWrite {d data} (h : Kept s₀ s ev false) : Kept s₀ (s.weltCtlWrite d data) ev false := by
  unfold State.weltCtlWrite
  exact .ite (.weltRetrain (.ite (.weltRetrain (.weltAbEn h)) (.weltAbEn h))) (.ite (.weltRetrain (.weltAbEn h))
      (.weltAbEn h))

/-- What a register's own effect, where it has one, has left alone. -/
def EffectKept (ev wt : Bool) (s₀ : State) : Option (Resp × State) → Prop
  | some x => Kept s₀ x.2 ev wt
  | none => True

theorem EffectKept.ite {c : Prop} {d : Decidable c} {a b : Option (Resp × State)} (ha : EffectKept ev wt s₀ a) (hb : EffectKept ev wt s₀ b) :
    EffectKept ev wt s₀ (if c then a else b) := by
  split
  · exact ha
  · exact hb

theorem EffectKept.getD {o : Option (Resp × State)} {x : Resp × State} (ho : EffectKept ev wt s₀ o) (hx : Kept s₀ x.2 ev wt) :
    Kept s₀ (o.getD x).2 ev wt := by
  cases o with
  | none => exact hx
  | some y => exact ho

theorem EffectKept.writeSpecial {m k data fail} (h : Kept s₀ s ev false) :
    EffectKept ev false s₀ (s.writeSpecial m k data fail) := by
  unfold State.writeSpecial
  extract_lets u i ok
  have hok : ∀ t, Kept s₀ t ev false → EffectKept ev false s₀ (ok t) := fun _ ht => ht
  split
  · exact hok _ (.weltCtlWrite h)
  · exact hok _ (.coefWrite h)
  · exact hok _ (.coefWrite h)
  · exact hok _ (.coefWrite h)
  · exact hok _ (.coefWrite h)
  · exact hok _ (.coefWrite h)
  · exact hok _ (.coefWrite h)
  · exact hok _ (.ttrimWrite h)
  · exact hok _ (.ite (.histStart (.writePlain h)) (.writePlain h))
  · exact hok _ (.ite (.commit h) h)
  · exact hok _ (.testCtlWrite h)
  · exact hok _ (.dacTtrimWrite h)
  · exact hok _ (.rackCtlWrite h)
  · exact hok _ (.bankClear h)
  · exact hok _ (.readerCtl h)
  · exact hok _ (.statCtlWrite h)
  · exact hok _ (.injCtlWrite h)
  · exact hok _ (.rxEqWrite h)
  · exact hok _ (.txEqWrite h)
  · exact hok _ (.slipWrite h)
  · exact hok _ (.ite (.captureStart h) h)
  · exact hok _ (.refreshAmp (.writePlain h))
  · exact hok _ (.refreshPps (.writePlain h))
  · exact hok _ (.requestMode h)
  · exact hok _ (.writeTarget h)
  · exact hok _ (.softStrobe h)
  · exact hok _ (.penWrite h)
  · exact hok _ (.channelCfgWrite h)
  · exact hok _ (.channelCodeWrite h)
  · exact hok _ (.refreshDac (.writePlain h))
  · exact hok _ (.refreshDac (.writePlain h))
  · exact hok _ (.ite (.slotCommit (.setRun h)) (.setRun h))
  · exact hok _ (.chkWrite h)
  · exact .ite h (hok _ (.odWrite h))
  · exact hok _ (.monInWrite h)
  · exact hok _ (.monInWrite h)
  · exact hok _ (.chanWrite h)
  · exact hok _ (.chanWrite h)
  · exact hok _ (.ite (.bankCommit h) h)
  · exact hok _ (.tapWrite h)
  · exact hok _ (.tapWrite h)
  · exact hok _ (.ringBell h)
  · exact hok _ (.consumerWrite h)
  · exact .ite h (hok _ (.refreshWindows (.writePlain h)))
  · exact .ite h (hok _ (.refreshWindows (.writePlain h)))
  · exact hok _ (.recoveryWrite h)
  · exact hok _ (.recoveryWrite h)
  · exact .ite (hok _ (.loopRegWrite h)) trivial

theorem Kept.writeReg {m b off data full fail} (h : Kept s₀ s ev false) :
    Kept s₀ (s.writeReg m b off data full fail).2 ev false := by
  unfold State.writeReg
  split
  · exact h
  · exact .iteSnd h (.iteSnd (.writePlain h) (EffectKept.getD (.writeSpecial h) (.writePlain h)))

theorem Kept.writeCell {m a wide data be} (h : Kept s₀ s ev wt) : Kept s₀ (s.writeCell m a wide data be).2 ev wt := by
  unfold State.writeCell
  exact .mergeWord h

theorem Kept.writeLoc {r a data} (h : Kept s₀ s ev wt) : Kept s₀ (s.writeLoc r a data) ev wt := by
  unfold State.writeLoc
  exact .ite (.writeWord h) (.memLock h)

theorem Kept.writeRack {m r off a wide data be} (h : Kept s₀ s ev wt) :
    Kept s₀ (s.writeRack m r off a wide data be).2 ev wt := by
  unfold State.writeRack
  refine .iteSnd (.iteSnd h (.iteSnd h.progWrite (.iteSnd (.snd h.memLock) ?_))) (.iteSnd (.snd h.writeLoc) (.snd ?_))
  · split
    next e => exact .snd (.uncache (.of_pair e h.writeCell))
  · exact .ite (.ite h h.writeLoc) (.writeLoc (.ite h h.writeLoc))

theorem Kept.writeMem {m b off a wide data be} (h : Kept s₀ s ev wt) :
    Kept s₀ (s.writeMem m b off a wide data be).2 ev wt := by
  unfold State.writeMem
  split
  · exact h
  · exact .writeCell h
  · exact .writeCell h
  · exact .iteSnd h (.writeCell h)
  · exact .iteSnd h (.writeCell h)
  · exact .iteSnd (.writeCell h) h
  · exact .writeRack h
  · exact h

/-! ## Bus -/

theorem Kept.readBurst {m b k a n} (h : Kept s₀ s ev wt) : Kept s₀ (s.readBurst m b k a n).2 ev wt := by
  induction n generalizing s a with
  | zero => exact h
  | succ n ih =>
    rw [State.readBurst]
    split
    next e =>
    split
    next e' =>
    have ht : Kept s₀ _ ev wt := .of_pair e' (ih (.of_pair e h.readMem64))
    split
    · exact ht
    · exact ht

theorem Kept.serveMem {m op b k off a} (h : Kept s₀ s ev wt) : Kept s₀ (s.serveMem m op b k off a).st ev wt := by
  unfold State.serveMem
  split
  · split
    · next _ _ e =>
      have h1 := Kept.of_pair e (.readMem32 h)
      exact h1
    · next _ e1 =>
      have h2 := Kept.of_pair e1 (.readMem32 h)
      exact h2
  · split
    · next _ _ e2 =>
      have h3 := Kept.of_pair e2 (.readMem64 h)
      exact h3
    · next _ e3 =>
      have h4 := Kept.of_pair e3 (.readMem64 h)
      exact h4
  · split
    · next _ _ e4 =>
      have h5 := Kept.of_pair e4 (.readBurst h)
      exact h5
    · next _ e5 =>
      have h6 := Kept.of_pair e5 (.readBurst h)
      exact h6
  · exact .writeMem h
  · exact .writeMem h
  · exact h

theorem Kept.serveReg {m op b off a full fail} (h : Kept s₀ s ev false) :
    Kept s₀ (s.serveReg m op b off a full fail).st ev false := by
  unfold State.serveReg
  extract_lets
  split
  · exact .perf (.readReg h)
  · exact .perf (.readReg64 h)
  · exact .perf (.writeReg h)
  · exact h

theorem Kept.countMessages {m target} (h : Kept s₀ s ev wt) : Kept s₀ (s.countMessages m target) ev wt := by
  unfold State.countMessages
  refine .ite h ?_
  extract_lets
  split
  · exact .perf (.perf (.perf (.perf h)))
  · exact .perf (.perf h)

theorem Kept.serve {m op a full fail} (h : Kept s₀ s ev false) : Kept s₀ (s.serve m op a full fail).st ev false := by
  unfold State.serve
  split
  · exact h
  · extract_lets
    split
    · exact .iteSt (.serveMem (.countMessages h)) (.gateOff h)
    · exact .iteSt (.serveReg (.countMessages h)) (.gateOff h)

theorem Kept.fabric {m op a fail} (h : Kept s₀ s ev false) : Kept s₀ (s.fabric m op a fail).st ev false := by
  unfold State.fabric
  exact .capture447 (.serve h)

theorem Kept.haltDma {chan a} (h : Kept s₀ s ev wt) : Kept s₀ (s.haltDma chan a) ev wt := by
  unfold State.haltDma
  exact .ite h (.log (.withCtl h))

theorem Kept.deliver {m op a chan r} (h : Kept s₀ s ev wt) : Kept s₀ (s.deliver m op a chan r) ev wt := by
  unfold State.deliver
  exact .via (.respond (.captureSpi h)) fun h1 => .ite (.haltDma (.ite h1 (.withReplies h1))) (.ite h1 (.withReplies
      h1))

theorem Kept.enqueue {m op a chan got} (h : Kept s₀ s ev wt) : Kept s₀ (s.enqueue m op a chan got) ev wt := by
  unfold State.enqueue
  exact .withWaiting (.free h)

theorem Kept.issueTo {m op a chan fail} (h : Kept s₀ s ev false) : Kept s₀ (s.issueTo m op a chan fail) ev false := by
  unfold State.issueTo
  exact .ite (.deliver (.fabric h)) (.enqueue (.fabric h))

theorem Kept.requestOn {chan m op a fail} (h : Kept s₀ s ev false) : Kept s₀ (s.requestOn chan m op a fail) ev false := by
  unfold State.requestOn
  exact .ite h (.ite (.refuse h) (.ite (.answer h) (.ite (.answer h) (.ite (.enqueue h) (.issueTo h)))))

theorem Kept.request {m op a fail} (h : Kept s₀ s ev false) : Kept s₀ (s.request m op a fail) ev false := by
  unfold State.request
  exact .requestOn h

theorem Kept.hit {a x} (h : Kept s₀ s ev wt) : Kept s₀ (s.hit a x) ev wt := by
  unfold State.hit
  exact .ite (.upset h) h

theorem Kept.dmaRead {c a wide} (h : Kept s₀ s ev false) : Kept s₀ (s.dmaRead c a wide) ev false := by
  unfold State.dmaRead
  exact .ite (.requestOn h) h

theorem Kept.execMemoryRead {reader loc upset} (h : Kept s₀ s ev false) :
    NextKept ev false s₀ (Machine.execMemoryRead reader loc upset s)
    := by
  unfold Machine.execMemoryRead
  refine .next (.ite h ?_)
  split
  · exact .request (.hit h)
  · exact .dmaRead (.hit h)
  · refine .ite ?_ h
    split
    · next _ _ e =>
      have h1 := Kept.of_pair e (.readWord (.hit h))
      exact h1
    · next _ e1 =>
      have h2 := Kept.of_pair e1 (.readWord (.hit h))
      exact .withPwr (.emergency h2)
  · refine .ite ?_ h
    split
    · next _ _ e2 =>
      have h3 := Kept.of_pair e2 (.readHard (.hit h))
      exact h3
    · next _ e3 =>
      have h4 := Kept.of_pair e3 (.readHard (.hit h))
      split
      · exact .refreshEvr (.stagingFault h4)
      · exact h4
  · refine .ite ?_ h
    split
    · next _ _ e4 =>
      have h5 := Kept.of_pair e4 (.readWord (.hit h))
      exact .ite h5 (.setDir h5)
    · next _ e5 =>
      have h6 := Kept.of_pair e5 (.readWord (.hit h))
      exact .setDir h6
  · exact h

theorem Kept.execCntRdEntryResponse {elapsed} (h : Kept s₀ s ev false) :
    NextKept ev false s₀ (Machine.execCntRdEntryResponse elapsed s) := by
  unfold Machine.execCntRdEntryResponse
  refine .next (.ite h (.ite (.readerStore (.capture447 h)) (.ite (.readerStore h) (.ite h ?_))))
  exact .ite (.ite h (.readerStore (.capture447 (.log (.free (.ite (.raise h) h)))))) (.readerStore (.fabric h))

/-! ## Hif -/

theorem Kept.setSpi {v} (h : Kept s₀ s ev wt) : Kept s₀ (s.setSpi v) ev wt := by
  unfold State.setSpi
  exact .put (.withSpi h)

theorem Kept.driveWord (h : Kept s₀ s ev wt) : Kept s₀ s.driveWord ev wt := by
  unfold State.driveWord
  exact .withSpi h

theorem Kept.spiWord {a d} (h : Kept s₀ s ev false) : Kept s₀ (s.spiWord a d) ev false := by
  unfold State.spiWord
  exact .ite (.request h) (.ite (.setSpi h) (.inc (.raise (.raise h))))

theorem Kept.spiWords {a ds} (h : Kept s₀ s ev false) : Kept s₀ (s.spiWords a ds) ev false := by
  induction ds generalizing s a with
  | nil => exact h
  | cons d ds ih =>
    rw [State.spiWords]
    exact ih h.spiWord

theorem Kept.spiDrain {n} (h : Kept s₀ s ev false) : Kept s₀ (State.spiDrain n s) ev false := by
  induction n generalizing s with
  | zero => exact h
  | succ n ih =>
    rw [State.spiDrain]
    refine .ite h ?_
    split
    · exact h
    · exact ih (.request (.setSpi h))

theorem Kept.spiRead {n a} (h : Kept s₀ s ev false) : Kept s₀ (State.spiRead n s a) ev false := by
  induction n generalizing s a with
  | zero => exact .withSpi h
  | succ n ih =>
    rw [State.spiRead]
    exact .ite (.withSpi h) (.ite (.withSpi h.request) (ih (.driveWord h.request)))

theorem Kept.spiStatus (h : Kept s₀ s ev wt) : Kept s₀ s.spiStatus ev wt := by
  unfold State.spiStatus
  exact .ite (.withSpi h) (.withSpi h)

theorem Kept.spiNext (h : Kept s₀ s ev false) : Kept s₀ s.spiNext ev false := by
  unfold State.spiNext
  split
  · exact .spiRead (.driveWord h)
  · exact .spiRead (.spiDrain h)
  · exact .spiStatus (.spiDrain h)
  · exact .spiDrain h

theorem Kept.spiFrame (h : Kept s₀ s ev wt) : Kept s₀ s.spiFrame ev wt := by
  unfold State.spiFrame
  exact .withSpi h

theorem Kept.i2cSettle (h : Kept s₀ s ev wt) : Kept s₀ s.i2cSettle ev wt := by
  unfold State.i2cSettle
  split
  · exact .ite (.withI2c h) h
  · exact h

theorem Kept.i2cIssue {v} (h : Kept s₀ s ev false) : Kept s₀ (s.i2cIssue v) ev false := by
  unfold State.i2cIssue
  exact .ite (.raise h) (.i2cSettle (.request (.withI2c h)))

theorem Kept.answered {m} (h : Kept s₀ s ev false) : Kept s₀ (s.answered m) ev false := by
  unfold State.answered
  split
  · exact .spiNext h
  · exact .i2cSettle h
  · exact h

theorem Kept.settleRequest {r y} (h : Kept s₀ s ev false) : Kept s₀ (s.settleRequest r y) ev false := by
  unfold State.settleRequest
  exact .answered (.settleDrains (.deliver (.withWaiting h)))

theorem Kept.serveWaiting {r} (h : Kept s₀ s ev false) : Kept s₀ (s.serveWaiting r) ev false := by
  unfold State.serveWaiting
  exact .ite (.settleRequest (.fabric h)) (.withWaiting (.fabric h))

theorem Kept.execResponseArrival {src nth} (h : Kept s₀ s ev false) :
    NextKept ev false s₀ (Machine.execResponseArrival src nth s) := by
  unfold Machine.execResponseArrival
  refine .next ?_
  split
  · exact h
  · refine .ite h ?_
    split
    · exact .ite (.settleRequest h) h
    · exact .ite (.serveWaiting h) h

theorem Kept.timeoutOf {r} (h : Kept s₀ s ev false) : Kept s₀ (s.timeoutOf r) ev false := by
  unfold State.timeoutOf
  exact .via (.settleDrains (.withWaiting h)) fun h1 => .answered (.answer (.log (.ite (.raise (.ite (.serve (.free
      h1)) (.free h1))) (.ite (.serve (.free h1)) (.free h1)))))

theorem Kept.execWeltReqTimeout {src nth} (h : Kept s₀ s ev false) :
    NextKept ev false s₀ (Machine.execWeltReqTimeout src nth s) := by
  unfold Machine.execWeltReqTimeout
  refine .next ?_
  split
  · exact .ite (.timeoutOf h) h
  · exact h

theorem Kept.drainOff {r} (h : Kept s₀ s ev false) : Kept s₀ (s.drainOff r) ev false := by
  unfold State.drainOff
  exact .answered (.answer (.gateOff (.withWaiting h)))

theorem Kept.execIslandDrainTimeout {island} (h : Kept s₀ s ev false) :
    NextKept ev false s₀ (Machine.execIslandDrainTimeout island s) := by
  unfold Machine.execIslandDrainTimeout
  refine .next ?_
  split
  · exact .ite h (.turnIsland (.foldl h fun _ _ hf => .drainOff hf))
  · exact h

/-! ## Cmis -/

theorem Kept.setCmis {v} (h : Kept s₀ s ev wt) : Kept s₀ (s.setCmis v) ev wt := by
  unfold State.setCmis
  exact .withCmis h

theorem Kept.setCtl {k v} (h : Kept s₀ s ev wt) : Kept s₀ (s.setCtl k v) ev wt := by
  unfold State.setCtl
  exact .setCmis h

theorem Kept.setMon {k v} (h : Kept s₀ s ev wt) : Kept s₀ (s.setMon k v) ev wt := by
  unfold State.setMon
  exact .setCmis h

theorem Kept.setFlagByte {k v} (h : Kept s₀ s ev wt) : Kept s₀ (s.setFlagByte k v) ev wt := by
  unfold State.setFlagByte
  exact .setCmis h

theorem Kept.latchFlags {k v} (h : Kept s₀ s ev wt) : Kept s₀ (s.latchFlags k v) ev wt := by
  unfold State.latchFlags
  exact .setFlagByte h

theorem Kept.refreshCmisFlag (h : Kept s₀ s ev wt) : Kept s₀ s.refreshCmisFlag ev wt := by
  unfold State.refreshCmisFlag
  exact .putFlag h

theorem Kept.memByte {a} (h : Kept s₀ s ev wt) : Kept s₀ (s.memByte a).2 ev wt := by
  unfold State.memByte
  split
  · next _ _ e =>
    have h1 := Kept.of_pair e (.readWord h)
    exact .snd h1
  · next _ e1 =>
    have h2 := Kept.of_pair e1 (.readWord h)
    exact .free h2

theorem Kept.mailboxByte {n} (h : Kept s₀ s ev wt) : Kept s₀ (s.mailboxByte n).2 ev wt := by
  unfold State.mailboxByte
  exact .iteSnd (.memByte h) h

theorem Kept.ringByte {n} (h : Kept s₀ s ev wt) : Kept s₀ (s.ringByte n).2 ev wt := by
  unfold State.ringByte
  exact .memByte h

theorem Kept.takeFlags {k} (h : Kept s₀ s ev wt) : Kept s₀ (s.takeFlags k).2 ev wt := by
  unfold State.takeFlags
  exact .snd (.refreshCmisFlag (.setFlagByte h))

theorem Kept.lowerByte {n} (h : Kept s₀ s ev wt) : Kept s₀ (s.lowerByte n).2 ev wt := by
  unfold State.lowerByte
  exact .iteSnd (.takeFlags h) (.iteSnd h (.iteSnd h h))

theorem Kept.laneByte {b n} (h : Kept s₀ s ev wt) : Kept s₀ (s.laneByte b n).2 ev wt := by
  unfold State.laneByte
  exact .iteSnd h (.iteSnd (.takeFlags h) (.iteSnd h (.iteSnd h h)))

theorem Kept.imageByte {b p n} (h : Kept s₀ s ev wt) : Kept s₀ (s.imageByte b p n).2 ev wt := by
  unfold State.imageByte
  exact .iteSnd h (.iteSnd h (.iteSnd h (.iteSnd (.laneByte h) (.iteSnd h h))))

theorem Kept.mapByte {n} (h : Kept s₀ s ev wt) : Kept s₀ (s.mapByte n).2 ev wt := by
  unfold State.mapByte
  refine .iteSnd h (.iteSnd h (.iteSnd (.iteSnd (.mailboxByte h) h) (.iteSnd (.iteSnd (.ringByte h) h) ?_)))
  exact .iteSnd h (.iteSnd h (.iteSnd (.lowerByte h) (.imageByte h)))

theorem Kept.i2cBytes {n out} (h : Kept s₀ s ev wt) : Kept s₀ (State.i2cBytes n s out).2 ev wt := by
  induction n generalizing s out with
  | zero => exact h
  | succ n ih =>
    rw [State.i2cBytes]
    split
    next e => exact ih (.withI2c (.of_pair e h.mapByte))

theorem Kept.writeControl {v} (h : Kept s₀ s ev false) : Kept s₀ (s.writeControl v) ev false := by
  unfold State.writeControl
  exact .ite (.withPwr (.powerCheck (.withPwr (.setCtl h)))) (.powerCheck (.withPwr (.setCtl h)))

theorem Kept.rxBits {b v f} (h : Kept s₀ s ev wt) : Kept s₀ (s.rxBits b v f) ev wt := by
  unfold State.rxBits
  exact .foldl h fun _ _ hf => .ite (.rxEqWrite hf) hf

theorem Kept.laneCodes {b n v top put} (h : Kept s₀ s ev wt) (hp : ∀ t j c, Kept s₀ t ev wt → Kept s₀ (put t j c) ev wt) :
    Kept s₀ (s.laneCodes b n v top put) ev wt := by
  unfold State.laneCodes
  exact .foldl h fun _ _ h1 => .ite (hp _ _ _ h1) h1

theorem Kept.txFields {j fs} (h : Kept s₀ s ev wt) : Kept s₀ (s.txFields j fs) ev wt := by
  unfold State.txFields
  exact .txEqWrite h

theorem Kept.writeLanePage {b n v} (h : Kept s₀ s ev wt) : Kept s₀ (s.writeLanePage b n v) ev wt := by
  unfold State.writeLanePage
  extract_lets s1
  have h1 : Kept s₀ s1 ev wt := .setCtl h
  refine .ite (.rxBits h1) (.ite (.rxBits h1) (.ite (.laneCodes h1 fun _ _ _ hf => .rxEqWrite hf) ?_))
  refine .ite (.laneCodes h1 fun _ _ _ hf1 => .txFields hf1) ?_
  refine .ite ?_ ?_
  · exact .laneCodes h1 fun _ _ _ hf2 => .txFields hf2
  · exact .ite (.laneCodes h1 fun _ _ _ hf3 => .txFields hf3) h1

theorem Kept.writeEyelet {n v} (h : Kept s₀ s ev wt) : Kept s₀ (s.writeEyelet n v) ev wt := by
  unfold State.writeEyelet
  exact .ite (.raise h) (.mergeWord h)

theorem Kept.writeMap {n v} (h : Kept s₀ s ev false) : Kept s₀ (s.writeMap n v) ev false := by
  unfold State.writeMap
  refine .ite (.withI2c h) (.ite (.withI2c h) (.ite ?_ ?_))
  · refine .ite (.writeEyelet h) ?_
    split
    · exact .withI2c h
    · exact .ringBell h
    · exact .consumerWrite h
    · exact h
  · refine .ite ?_ ?_
    · exact .ite (.withI2c h) (.ite (.withI2c h) (.ite (.i2cIssue h) h))
    · refine .ite h (.ite (.writeControl h) (.ite (.refreshCmisFlag (.setCtl h)) ?_))
      exact .ite (.refreshCmisFlag (.writeLanePage h)) h

theorem Kept.writeMapBytes {vs} (h : Kept s₀ s ev false) : Kept s₀ (s.writeMapBytes vs) ev false := by
  induction vs generalizing s with
  | nil => exact h
  | cons v vs ih =>
    rw [State.writeMapBytes]
    exact ih (.withI2c h.writeMap)

theorem Kept.setStatus {js v} (h : Kept s₀ s ev wt) : Kept s₀ (s.setStatus js v) ev wt := by
  unfold State.setStatus
  exact .setCmis h

theorem Kept.cmisReject {b js r} (h : Kept s₀ s ev wt) : Kept s₀ (s.cmisReject b js r) ev wt := by
  unfold State.cmisReject
  exact .log (.setStatus h)

theorem Kept.cmisApply {b js m} (h : Kept s₀ s ev false) : Kept s₀ (s.cmisApply b js m) ev false := by
  unfold State.cmisApply
  refine .ite (.cmisReject (.free h)) ?_
  split
  · exact .cmisReject h
  · refine .ite (.cmisReject (.withMode h)) ?_
    exact .ite (.cmisReject (.setTxn (.rejected (.withMode h)))) (.setStatus (.startApply (.withMode h)))

theorem Kept.cmisFollow {b p} (h : Kept s₀ s ev false) : Kept s₀ (s.cmisFollow b p) ev false := by
  unfold State.cmisFollow
  exact .ite h (.cmisApply h)

theorem Kept.setCtlBit {k n v} (h : Kept s₀ s ev wt) : Kept s₀ (s.setCtlBit k n v) ev wt := by
  unfold State.setCtlBit
  exact .setCtl h

theorem Kept.execCmisDpDeinit {lane deinit} (h : Kept s₀ s ev false) :
    NextKept ev false s₀ (Machine.execCmisDpDeinit lane deinit s) := by
  unfold Machine.execCmisDpDeinit
  refine .next (.ite ?_ h)
  extract_lets
  split
  · exact .cmisFollow (.setCtlBit h)
  · exact .setCtlBit h

theorem Kept.execCmisOutputDisable {lane disable} (h : Kept s₀ s ev false) :
    NextKept ev false s₀ (Machine.execCmisOutputDisable lane
    disable s) := by
  unfold Machine.execCmisOutputDisable
  refine .next (.ite ?_ h)
  extract_lets
  split
  · exact .cmisFollow (.setCtlBit h)
  · exact .setCtlBit h

theorem Kept.setMon16 {k v} (h : Kept s₀ s ev wt) : Kept s₀ (s.setMon16 k v) ev wt := by
  unfold State.setMon16
  exact .setMon (.setMon h)

theorem Kept.laneMonitors (h : Kept s₀ s ev wt) : Kept s₀ s.laneMonitors ev wt := by
  unfold State.laneMonitors
  split
  · exact h
  · exact .foldl h fun _ _ hf => .ite (.setMon16 hf) hf

theorem Kept.laneFlags {b} (h : Kept s₀ s ev wt) : Kept s₀ (s.laneFlags b) ev wt := by
  unfold State.laneFlags
  exact .latchFlags (.latchFlags (.latchFlags (.latchFlags (.latchFlags (.latchFlags h)))))

theorem Kept.moduleFlags (h : Kept s₀ s ev wt) : Kept s₀ s.moduleFlags ev wt := by
  unfold State.moduleFlags
  exact .latchFlags (.latchFlags (.latchFlags h))

theorem Kept.execCmisMonitorRefresh {supply} (h : Kept s₀ s ev wt) :
    NextKept ev wt s₀ (Machine.execCmisMonitorRefresh supply s) := by
  unfold Machine.execCmisMonitorRefresh
  refine .next (.ite ?_ h)
  exact .refreshCmisFlag (.setCmis (.laneFlags (.laneFlags (.moduleFlags (.laneMonitors (.setMon16 (.setMon16 h)))))))

/-! ## Commands and steps -/

/-- Every command answers a next state, and leaves the queue of commands alone. -/
theorem NextKept.exec {i} (h : Kept s₀ s false false) : NextKept false false s₀ (Machine.exec i s) :=
  match i with
  | .registerWrite _ _ _ => .next (.request h)
  | .rsLowWordRead _ _ _ => .next (.request h)
  | .rcRead _ _ => .next (.request h)
  | .queueRead _ _ _ => .next (.request h)
  | .memoryRead _ _ _ => h.execMemoryRead
  | .memoryPartialWrite _ _ _ _ _ => .next (.request h)
  | .memoryFullWrite _ _ _ => .next (.request h)
  | .mramRemapDone _ => h.execMramRemapDone
  | .mramRowRefresh _ => .next (.ite (.rewriteRow (.withCtl h)) h)
  | .scrubStep _ _ => .next (.ite (.scrub (.upset h)) h)
  | .bucketLeak _ _ => .next (.ite h (.put (.withCtl h)))
  | .responseArrival _ _ => h.execResponseArrival
  | .weltReqTimeout _ _ => h.execWeltReqTimeout
  | .islandDrainTimeout _ => h.execIslandDrainTimeout
  | .flitReceive _ _ _ => h.execFlitReceive
  | .creditReturn _ _ _ => .next (.setChannel h)
  | .replayRequest _ _ _ => h.execReplayRequest
  | .replayBurst _ _ => .next (.ite (.retrain (.log (.raiseAny h))) h)
  | .linkRetrainDone _ _ => .next (.ite (.ite (.linkUp h) (.linkAttemptFailed h)) h)
  | .weltRetrain _ _ => .next (.weltRetrain h)
  | .weltAbEn _ _ => .next (.weltAbEn h)
  | .interruptSummary _ => .next (.ite (.setRegAny (.perf (.perf h))) h)
  | .pllLossOfLock _ _ => .next (.ite (.pllLost h) h)
  | .pllLock _ _ => .next (.ite h (.ite (.ite h (.setRefclk h)) (.ite (.lockPll h) h)))
  | .refclkAbsent2us => .next (.ite (.foldl (.setRefclk h) fun _ _ hf => .putBit hf) h)
  | .refclkLost => .next (.ite (.enterFault (.foldl (.setRefclk h) fun _ _ hf => .putBit hf)) h)
  | .refclkStartTimeout => .next (.ite (.refclkNever h) h)
  | .modeBegin _ => .next (.runCmd h fun _ _ _ hf => .cmdModeBegin hf)
  | .modeStagePort _ => .next (.runCmd h fun _ _ _ hf => .cmdStagePort hf)
  | .modeStageLane _ => .next (.runCmd h fun _ _ _ hf => .cmdStageLane hf)
  | .modeStageDie _ => .next (.runCmd h fun _ _ _ hf => .cmdStageDie hf)
  | .modeStageFibre _ => .next (.runCmd h fun _ _ _ hf => .cmdStageFibre hf)
  | .modeValidate _ => .next (.runCmd h fun _ _ _ hf => .cmdModeValidate hf)
  | .modeApply _ => .next (.runCmd h fun _ _ _ hf => .cmdModeApply hf)
  | .modeApplyComplete => h.execModeApplyComplete
  | .modeAbort _ => .next (.runCmd h fun _ _ _ hf => .cmdModeAbort hf)
  | .modeRead _ => .next (.runCmd h fun _ _ _ hf => .cmdModeRead hf)
  | .modePortStatus _ => .next (.runCmd h fun _ _ _ hf => .cmdModePortStatus hf)
  | .modeTxnExpired => h.execModeTxnExpired
  | .sigDetectAssert _ => .next (.ite (.wakeLineRx (.log (.raise (.raise h)))) h)
  | .sigDetectDeassert _ => h.execSigDetectDeassert
  | .wakePatternSeen _ => .next (.ite (.wakeLineRx (.ite h (.log (.raise h)))) h)
  | .lrxDozeTimer _ => .next (.ite (.dozeLineRx h) h)
  | .cdrLockSet _ _ _ => .next (.ite (.insRxStart (.raise (.raise (.putFofs h)))) h)
  | .cdrLockClear _ _ _ => .next (.ite (.cdrLostLine (.putFofs h)) h)
  | .lrxCoefWrite _ _ _ => h.execLrxCoefWrite
  | .tapRecord _ _ => h.execTapRecord
  | .lrxMonitorWindow _ _ _ _ _ _ _ => .next (.ite (.setReg (.setReg (.setReg (.setReg (.put (.put h)))))) h)
  | .histStart _ => .next (.ite (.histStart h) h)
  | .histDone _ => .next (.ite (.raise (.putFlag (.putFlag h))) h)
  | .vnleFadeDone _ => h.execVnleFadeDone
  | .calRxRun _ => .next (.runCmd h fun _ _ _ hf => .cmdCalRxRun hf)
  | .calRxAbort _ => .next (.runCmd h fun _ _ _ hf => .cmdCalRxAbort hf)
  | .calRxStatus _ => .next (.runCmd h fun _ _ _ hf => .cmdCalRxStatus hf)
  | .calRxMeasureEnd _ _ _ _ => h.execCalRxMeasureEnd
  | .calRxApplyEnd _ => h.execCalRxApplyEnd
  | .adcTrimStep _ _ => .next (.ite (.ite (.put (.setLine (.setReg h))) (.setLine (.setReg h))) h)
  | .lrxTtrimWrite _ _ _ => .next (.ite (.ttrimWrite h) h)
  | .ltxSetFir _ => .next (.runCmd h fun _ _ _ hf => .cmdSetFir hf)
  | .ltxSetLevels _ => .next (.runCmd h fun _ _ _ hf => .cmdSetLevels hf)
  | .ltxCommit _ => .next (.runCmd h fun _ _ _ hf => .cmdCommit hf)
  | .commit _ => .next (.ite (.commit h) h)
  | .ltxRampStep _ => h.execLtxRampStep
  | .fastoffAssert => .next (.ite h (.ite (.raise h) (.fastoffOn h)))
  | .fastoffRelease => h.execFastoffRelease
  | .fastoffResume => .next (.ite (.foldl (.putFlag h) fun _ _ hf => .ite (.requestMode hf) hf) h)
  | .ltxDozeTimer _ => .next (.ite (.setInsl (.refreshLineIsland (.refreshLine (.putFlag h)))) h)
  | .ltxWake _ => .next (.wakeLineTx h)
  | .ltxChkLock _ _ _ => .next (.ite (.putFlag (.setLine h)) h)
  | .ltxChkLost _ _ => h.execLtxChkLost
  | .ltxLbSlip _ _ _ => h.execLtxLbSlip
  | .calTxRun _ => .next (.runCmd h fun _ _ _ hf => .cmdCalTxRun hf)
  | .calTxAbort _ => .next (.runCmd h fun _ _ _ hf => .cmdCalTxAbort hf)
  | .calTxStatus _ => .next (.runCmd h fun _ _ _ hf => .cmdCalTxStatus hf)
  | .calTxMeasureEnd _ _ => h.execCalTxMeasureEnd
  | .calTxApplyEnd _ => h.execCalTxApplyEnd
  | .dacTrimStep _ _ => .next (.ite (.ite (.put (.setLine (.setReg h))) (.setLine (.setReg h))) h)
  | .ltxTtrimWrite _ _ _ => .next (.ite (.dacTtrimWrite h) h)
  | .nop _ => h.execNop
  | .mpy _ => .next (.issue h fun _ => .arithBody)
  | .mac _ => .next (.issue h fun _ => .arithBody)
  | .msu _ => .next (.issue h fun _ => .arithBody)
  | .add _ => .next (.issue h fun _ => .arithBody)
  | .sub _ => .next (.issue h fun _ => .arithBody)
  | .clr _ => .next (.issue h fun _ => .arithBody)
  | .tfr _ => .next (.issue h fun _ => .arithBody)
  | .asr _ => .next (.issue h fun _ => .arithBody)
  | .asl _ => .next (.issue h fun _ => .arithBody)
  | .abs _ => .next (.issue h fun _ => .arithBody)
  | .neg _ => .next (.issue h fun _ => .arithBody)
  | .cmp _ => .next (.issue h fun _ => .arithBody)
  | .macss _ => .next (.issue h fun _ => .arithBody)
  | .macsgn _ => .next (.issue h fun _ => .arithBody)
  | .sta _ => h.execSta
  | .stm _ => h.execStm
  | .ldi _ => h.execLdi
  | .shift _ => h.execShift
  | .movr _ => h.execMovr
  | .ext _ => h.execExt
  | .logic _ => h.execLogic
  | .mem _ => h.execMem
  | .lda _ => h.execLda
  | .adda _ => h.execAdda
  | .mova _ => h.execMova
  | .bra _ => h.execBra
  | .call _ => h.execCall
  | .ret _ => h.execRet
  | .loop _ => h.execLoop
  | .loopr _ => h.execLoopr
  | .repeat _ => h.execRepeat
  | .yield _ => h.execYield
  | .yieldResume _ _ _ => .next (.ite (.inc (.setLast h)) h)
  | .svc _ => h.execSvc
  | .twin _ _ => h.execTwin
  | .leave _ => h.execLeave
  | .breq _ _ => h.execBreq
  | .brsp _ => h.execBrsp
  | .rackBusResponse _ _ => h.execRackBusResponse
  | .movc _ => h.execMovc
  | .movfc _ => h.execMovfc
  | .rti _ => h.execRti
  | .halt _ => h.execHalt
  | .lastWatchdog _ _ => .next (.ite (.trapLast (.setLast h)) h)
  | .rackRestart _ => h.execRackRestart
  | .rackCtlHalt _ _ _ => .next (.request h)
  | .tagSample _ _ _ => h.execTagSample
  | .progWordWrite _ _ _ _ _ => .next (.request h)
  | .rackMemWrite _ _ _ _ _ => .next (.request h)
  | .rackHalt _ => .next (.runCmd h fun _ _ _ hf => .cmdRackHalt hf)
  | .rackResume _ => .next (.runCmd h fun _ _ _ hf => .cmdRackResume hf)
  | .rackStatus _ => .next (.runCmd h fun _ _ _ hf => .cmdRackStatus hf)
  | .psetLoadBegin _ => .next (.runCmd h fun _ _ _ hf => .cmdPsetLoadBegin hf)
  | .psetLoadEnd _ => .next (.runCmd h fun _ _ _ hf => .cmdPsetLoadEnd hf)
  | .psetErase _ => .next (.runCmd h fun _ _ _ hf => .cmdPsetErase hf)
  | .psetList _ => .next (.runCmd h fun _ _ _ hf => .cmdPsetList hf)
  | .cntBankClear _ _ _ _ => .next (.request h)
  | .cntRdStart _ _ => .next (.request h)
  | .cntRdEntryResponse _ => h.execCntRdEntryResponse
  | .cntListSet _ => .next (.runCmd h fun _ _ _ hf => .cmdCntListSet hf)
  | .cntListRun _ => .next (.runCmd h fun _ _ _ hf => .cmdCntListRun hf)
  | .cntBankSet _ => .next (.runCmd h fun _ _ _ hf => .cmdCntBankSet hf)
  | .innerLockSet _ _ => h.execInnerLockSet
  | .innerLockClear _ _ => h.execInnerLockClear
  | .innerCodeword _ _ _ _ => h.execInnerCodeword
  | .amLockSet _ _ _ => h.execAmLockSet
  | .amLockClear _ _ => .next (.ite (.ite h (.amLostHost h)) (.amLostLine h))
  | .codewordDecode _ _ _ _ => h.execCodewordDecode
  | .codewordEncode _ _ => .next (.ite (.ite (.raise (.putFlag (.setDir h))) (.setDir h)) h)
  | .rateAdaptAdjust _ _ _ _ => .next (.ite (.ite (.inc (.setDir h)) (.setDir h)) h)
  | .fecSlip _ _ => .next (.ite (.slip (.setDir h)) h)
  | .monitorSlip _ => h.execMonitorSlip
  | .frameParse _ _ _ => .next (.ite (.ite (.inc h) (.inc (.inc h))) h)
  | .skewMeasurement _ _ _ _ => h.execSkewMeasurement
  | .wakeFrameDiscard _ _ _ => h.execWakeFrameDiscard
  | .statLatch _ => .next (.ite (.statCtlWrite h) h)
  | .statClear _ => .next (.ite (.statCtlWrite h) h)
  | .fecInjCtlWrite _ _ => .next (.ite (.injCtlWrite h) h)
  | .poolWindowWrite _ _ _ _ => .next (.request h)
  | .fecStatLatch _ => .next (.runCmd h fun _ _ _ hf => .cmdStatLatch hf)
  | .fecPoolStatus _ => .next (.runCmd h fun _ _ _ hf => .cmdPoolStatus hf)
  | .fecSkewReport _ => .next (.runCmd h fun _ _ _ hf => .cmdSkewReport hf)
  | .hlTxEqWrite _ _ => .next (.ite (.txEqWrite h) h)
  | .hlRxEqCtlWrite _ _ => .next (.ite (.rxEqWrite h) h)
  | .hlCdrLockSet _ _ _ => .next (.ite (.ite (.putHostFofs h) (.raise (.raise (.putHostFofs h)))) h)
  | .hlCdrLockClear _ _ _ => .next (.ite (.cdrLostHost (.putHostFofs h)) h)
  | .hlAdaptDone _ _ _ _ => .next (.ite (.raise (.adaptTaps (.ite h (.moveCtle h)))) h)
  | .hlCtleTrack _ _ _ _ => .next (.ite (.ite (.adaptTaps h) (.moveCtle (.adaptTaps h))) h)
  | .hlSigAssert _ => h.execHlSigAssert
  | .hlSigDeassert _ => .next (.ite (.ite (.inc (.raise (.putFlag h))) (.log (.inc (.raise (.putFlag h))))) h)
  | .hlWakeSeen _ => h.execHlWakeSeen
  | .hlRxDozeTimer _ => .next (.ite (.refreshHostIsland (.cdrLostHost (.raise (.putFlag h)))) h)
  | .hlTxDozeTimer _ => .next (.ite (.refreshHostIsland (.refreshHost (.raise (.putFlag h)))) h)
  | .hlTxWake _ => .next (.wakeHostTx h)
  | .hlWakeAmTimeout _ => .next (.ite (.amLostHost (.endSeq h)) h)
  | .hlChkLock _ _ _ => .next (.ite (.raise (.setHostLane (.ite (.countChk h) h))) h)
  | .hlChkLost _ _ => h.execHlChkLost
  | .hlSlipWrite _ _ => .next (.ite (.slipWrite h) h)
  | .captureStart _ => .next (.ite (.captureStart h) h)
  | .captureDone _ _ => h.execCaptureDone
  | .hlLbSlip _ _ _ => h.execHlLbSlip
  | .hlSetTxEq _ => .next (.runCmd h fun _ _ _ hf => .cmdSetTxEq hf)
  | .hlSetRxEq _ => .next (.runCmd h fun _ _ _ hf => .cmdSetRxEq hf)
  | .hlSlip _ => .next (.runCmd h fun _ _ _ hf => .cmdHlSlip hf)
  | .hlCapture _ => .next (.runCmd h fun _ _ _ hf => .cmdHlCapture hf)
  | .hlStatus _ => .next (.runCmd h fun _ _ _ hf => .cmdHlStatus hf)
  | .insTimingLaunch _ _ => .next (.ite (.setInsl (.keepSent (.insStart (.setWide h)))) h)
  | .insTxFrameDone _ => h.execInsTxFrameDone
  | .insAckTimer _ => .next (.ite (.setInsl h) h)
  | .insLinkPeriod _ => .next (.ite (.setInsl h) h)
  | .insRampStep _ => h.execInsRampStep
  | .insCodeDetect _ _ => .next (.ite (.insSync (.put h)) h)
  | .insSyncDetect _ _ => h.execInsSyncDetect
  | .insHeaderEnd _ _ => .next (.ite (.inc (.putFlag h)) h)
  | .insFrameReceived _ _ _ _ _ => h.execInsFrameReceived
  | .insLockLoss _ => .next (.ite (.insAcquire (.insReacquire (.inc h))) h)
  | .insFofsMeasure _ _ _ _ => h.execInsFofsMeasure
  | .insFofsMismatch _ => .next (.ite (.ite (.raise h) (.log (.setInsl (.raise h)))) h)
  | .insRxTimeout _ => .next (.ite (.refreshRxOk (.ite (.insLeave (.setInsl h)) (.setInsl h))) h)
  | .insHoldEnd _ => .next (.ite (.refreshRxOk (.putFlag (.setInsl h))) h)
  | .insMsgRetx _ => h.execInsMsgRetx
  | .insCreditTimeout _ => h.execInsCreditTimeout
  | .insSlotWrite _ _ _ _ _ => .next (.request h)
  | .insMsgSend _ => .next (.runCmd h fun _ _ _ hf => .cmdMsgSend hf)
  | .insMsgRecv _ => .next (.runCmd h fun _ _ _ hf => .cmdMsgRecv hf)
  | .insMsgRelease _ => .next (.runCmd h fun _ _ _ hf => .cmdMsgRelease hf)
  | .insStatus _ => .next (.runCmd h fun _ _ _ hf => .cmdInsStatus hf)
  | .insSetParam _ => .next (.runCmd h fun _ _ _ hf => .cmdInsSetParam hf)
  | .insSearch _ => .next (.runCmd h fun _ _ _ hf => .cmdInsSearch hf)
  | .insSearchDone _ _ => h.execInsSearchDone
  | .ppsInEdge _ _ _ => h.execPpsInEdge
  | .ppsInMiss => .next (.ite (.sourceLost (.raise h)) h)
  | .hostValidityTimeout => .next (.ite (.sourceLost h) h)
  | .insoleSrcInvalid => .next (.ite (.sourceLost (.log (.raise (.setUsable h)))) h)
  | .timeAlignSend => .next (.ite (.sendAlign (.withTime h)) h)
  | .timeAlignMsg _ => h.execTimeAlignMsg
  | .timeAlignTimeout => h.execTimeAlignTimeout
  | .timeResResume _ => .next (.ite (.setClock h) h)
  | .ptpEventMessage _ _ _ => h.execPtpEventMessage
  | .ptpGeneralMessage _ _ _ => h.execPtpGeneralMessage
  | .ctxExpire _ => .next (.ite h (.inc (.setCtxs h)))
  | .rangeUpdate _ _ => h.execRangeUpdate
  | .ppsOutRise => .next (.ite (.withTime h) h)
  | .ppsOutFall => .next (.ite (.withTime h) h)
  | .todTimeMessage => .next (.ite (.withTime h) h)
  | .todNextMessage _ => .next (.ite (.ite h (.ite (.withTime h) (.raise (.inc h)))) h)
  | .timeSetSource _ => .next (.runCmd h fun _ _ _ hf => .cmdTimeSetSource hf)
  | .timeSet _ => .next (.runCmd h fun _ _ _ hf => .cmdTimeSet hf)
  | .timeAdj _ => .next (.runCmd h fun _ _ _ hf => .cmdTimeAdj hf)
  | .timeStatus _ => .next (.runCmd h fun _ _ _ hf => .cmdTimeStatus hf)
  | .timeSetDelay _ => .next (.runCmd h fun _ _ _ hf => .cmdTimeSetDelay hf)
  | .timeWlSet _ => .next (.runCmd h fun _ _ _ hf => .cmdTimeWlSet hf)
  | .timeModelSet _ => .next (.runCmd h fun _ _ _ hf => .cmdTimeModelSet hf)
  | .timeRangeReport _ => .next (.runCmd h fun _ _ _ hf => .cmdTimeRangeReport hf)
  | .timeCtxFlush _ => .next (.runCmd h fun _ _ _ hf => .cmdTimeCtxFlush hf)
  | .timePpsSet _ => .next (.runCmd h fun _ _ _ hf => .cmdTimePpsSet hf)
  | .timeTodserSet _ => .next (.runCmd h fun _ _ _ hf => .cmdTimeTodserSet hf)
  | .timePortSet _ => .next (.runCmd h fun _ _ _ hf => .cmdTimePortSet hf)
  | .loopTick _ => .next (.ite (.loopTick h) h)
  | .tgtModeRequest _ _ => .next (.ite (.requestMode h) h)
  | .tgtSpWrite _ _ => .next (.ite (.writeTarget h) h)
  | .tgtLoopCfg _ => .next (.runCmd h fun _ _ _ hf => .cmdLoopCfg hf)
  | .tgtLoopGains _ => .next (.runCmd h fun _ _ _ hf => .cmdLoopGains hf)
  | .tgtLoopLimits _ => .next (.runCmd h fun _ _ _ hf => .cmdLoopLimits hf)
  | .tgtSetMode _ => .next (.runCmd h fun _ _ _ hf => .cmdSetMode hf)
  | .tgtSetSp _ => .next (.runCmd h fun _ _ _ hf => .cmdSetSp hf)
  | .tgtStatus _ => .next (.runCmd h fun _ _ _ hf => .cmdTgtStatus hf)
  | .tgtClearFlags _ => .next (.runCmd h fun _ _ _ hf => .cmdClearFlags hf)
  | .cdacCfgWrite _ _ => .next (.ite (.channelCfgWrite h) h)
  | .cdacCodeWrite _ _ => .next (.ite (.channelCodeWrite h) h)
  | .softwareStrobe _ => .next (.ite (.softStrobe h) h)
  | .cdacCfg _ => .next (.runCmd h fun _ _ _ hf => .cmdCdacCfg hf)
  | .cdacSetCode _ => .next (.runCmd h fun _ _ _ hf => .cmdSetCode hf)
  | .cdacGroup _ => .next (.runCmd h fun _ _ _ hf => .cmdGroup hf)
  | .cdacStrobe _ => .next (.runCmd h fun _ _ _ hf => .cmdStrobe hf)
  | .sineCfg _ => .next (.runCmd h fun _ _ _ hf => .cmdSineCfg hf)
  | .penSet _ => .next (.runCmd h fun _ _ _ hf => .cmdPenSet hf)
  | .cdacStatus _ => .next (.runCmd h fun _ _ _ hf => .cmdCdacStatus hf)
  | .sineStop _ => .next (.ite (.refreshDacs (.setSine h)) h)
  | .cdacRefFault _ => .next (.ite h (.ite (.raise h) (.ite (.ite (.put h) (.log (.raise (.put h)))) h)))
  | .monConversion _ => h.execMonConversion
  | .monPublish _ => .next (.ite (.publish h) h)
  | .fadeEnd _ => .next (.fadeEnd h)
  | .chkFault => .next (.chkFaulted h)
  | .chkOk => .next (.chkPassed h)
  | .run _ => .next (.ite (.setRun h) h)
  | .slotCommit => .next (.ite (.slotCommit h) h)
  | .slotTableApply => .next (.tableApply h)
  | .odRequest _ _ => .next (.request h)
  | .diagStart _ => .next (.ite (.chkWrite h) h)
  | .diagDone => h.execDiagDone
  | .monCalAverageDone => h.execMonCalAverageDone
  | .firCommit _ _ => .next (.ite (.bankCommit h) h)
  | .monSlotSet _ => .next (.runCmd h fun _ _ _ hf => .cmdMonSlotSet hf)
  | .monSlotCommit _ => .next (.runCmd h fun _ _ _ hf => .cmdMonSlotCommit hf)
  | .monChCfg _ => .next (.runCmd h fun _ _ _ hf => .cmdMonChCfg hf)
  | .monFirSet _ => .next (.runCmd h fun _ _ _ hf => .cmdMonFirSet hf)
  | .monFirCommit _ => .next (.runCmd h fun _ _ _ hf => .cmdMonFirCommit hf)
  | .monConvert _ => .next (.runCmd h fun _ _ _ hf => .cmdMonConvert hf)
  | .monCalZero _ => .next (.runCmd h fun _ _ _ hf => .cmdMonCalZero hf)
  | .monCalFs _ => .next (.runCmd h fun _ _ _ hf => .cmdMonCalFs hf)
  | .monChkDiag _ => .next (.runCmd h fun _ _ _ hf => .cmdMonChkDiag hf)
  | .monChkSet _ => .next (.runCmd h fun _ _ _ hf => .cmdMonChkSet hf)
  | .monStatus _ => .next (.runCmd h fun _ _ _ hf => .cmdMonStatus hf)
  | .i2cWrite _ _ _ => .next (.ite h (.writeMapBytes (.withI2c h)))
  | .i2cRead _ => .next (.ite h (.withI2c (.i2cBytes h)))
  | .i2cDoorbell => .next (.ite h (.ringBell h))
  | .i2cWindowAccess _ => .next (.ite h (.i2cIssue h))
  | .i2cBusTimeout => .next h
  | .spiWrite _ _ => .next (.ite h (.spiWords (.spiFrame h)))
  | .spiRead _ _ => .next (.ite h (.spiRead (.spiFrame h)))
  | .spiStatus => .next (.ite h (.spiStatus (.spiFrame h)))
  | .spiId => .next (.ite h (.withSpi (.spiFrame h)))
  | .cmisApplyDpInit _ _ => .next (.ite (.cmisApply h) h)
  | .cmisDpDeinit _ _ => h.execCmisDpDeinit
  | .cmisOutputDisable _ _ => h.execCmisOutputDisable
  | .cmisMonitorRefresh _ => h.execCmisMonitorRefresh
  | .vendorPageUpdate _ _ => .next (.ite (.setCmis h) h)
  | .doorbell _ _ => .next (.request h)
  | .commandBegin => h.execCommandBegin
  | .completionPost _ => h.execCompletionPost
  | .consumerIndexWrite _ _ _ => .next (.request h)
  | .cmdTimeout _ => .next (.ite (.log (.raise (.inc (.putEyelet (.withMbx h))))) h)
  | .mbxVersion _ => .next (.runCmd h fun _ _ _ hf => .cmdMbxVersion hf)
  | .mbxEcho _ => .next (.runCmd h fun _ _ _ hf => .cmdMbxEcho hf)
  | .hifWinOpen _ => .next (.runCmd h fun _ _ _ hf => .cmdWinOpen hf)
  | .hifWinClose _ => .next (.runCmd h fun _ _ _ hf => .cmdWinClose hf)
  | .cmisCtl _ => .next (.runCmd h fun _ _ _ hf => .cmdCmisCtl hf)
  | .fwUpdateBegin _ => .next (.runCmd h fun _ _ _ hf => .cmdFwBegin hf)
  | .fwUpdateChunk _ _ => .next (.runCmd h fun _ _ _ hf => .cmdFwChunk hf)
  | .fwUpdateEnd _ => .next (.runCmd h fun _ _ _ hf => .cmdFwEnd hf)
  | .fwActivate _ => .next (.runCmd h fun _ _ _ hf => .cmdFwActivate hf)
  | .fwCommit _ => .next (.runCmd h fun _ _ _ hf => .cmdFwCommit hf)
  | .fwStatus _ => .next (.runCmd h fun _ _ _ hf => .cmdFwStatus hf)
  | .secStageOpen _ => .next (.runCmd h fun _ _ _ hf => .cmdSecStage hf)
  | .secCertApply _ => .next (.runCmd h fun _ _ _ hf => .cmdCertApply hf)
  | .debugChallenge _ => .next (.runCmd h fun _ _ _ hf => .cmdDebugChallenge hf)
  | .debugUnlock _ => .next (.runCmd h fun _ _ _ hf => .cmdDebugUnlock hf)
  | .debugLock _ => .next (.runCmd h fun _ _ _ hf => .cmdDebugLock hf)
  | .keyList _ => .next (.runCmd h fun _ _ _ hf => .cmdKeyList hf)
  | .bootSelect => .next (.ite (.bootSelect h) h)
  | .recoveryGo _ _ _ => .next (.request h)
  | .bootWatchdog => .next (.ite (.releaseReset (.resetTo h)) h)
  | .aqiqueReady => h.execAqiqueReady
  | .lockstepMismatch _ => .next (.ite (.enterFault h) h)
  | .memStatus _ => .next (.runCmd h fun _ _ _ hf => .cmdMemStatus hf)
  | .memBucketSet _ => .next (.runCmd h fun _ _ _ hf => .cmdMemBucketSet hf)
  | .memHardList _ => .next (.runCmd h fun _ _ _ hf => .cmdMemHardList hf)
  | .calStoreInfo _ => .next (.runCmd h fun _ _ _ hf => .cmdCalInfo hf)
  | .calStageOpen _ => .next (.runCmd h fun _ _ _ hf => .cmdCalStage hf)
  | .calStoreWrite _ _ => .next (.runCmd h fun _ _ _ hf => .cmdCalWrite hf)
  | .eventRecordArrival => h.execEventRecordArrival
  | .flushAgeTimer => h.execFlushAgeTimer
  | .ringRecordWrite _ => h.execRingRecordWrite
  | .emergencyCopy => .next (.ite (.refreshEvr (.foldl h fun _ _ hf => .emergencyCopy hf)) h)
  | .recorderClockAlign => .next (.ite (.setEvr (.free h)) h)
  | .freezeLimit => .next (.ite (.thaw h) h)
  | .evrWinLatch _ => .next (.request h)
  | .evrFreeze _ => .next (.runCmd h fun _ _ _ hf => .cmdEvrFreeze hf)
  | .evrThaw _ => .next (.runCmd h fun _ _ _ hf => .cmdEvrThaw hf)
  | .evrStatus _ => .next (.runCmd h fun _ _ _ hf => .cmdEvrStatus hf)
  | .evrMark _ => .next (.runCmd h fun _ _ _ hf => .cmdEvrMark hf)
  | .evrMarkTimeout _ => .next (.ite (.finish h) h)
  | .powerOnResetRelease => h.execPowerOnResetRelease
  | .supplyLoss => .next (.put (.resetTo (.withPwr h)))
  | .pfailAssert => .next (.ite h (.ite (.raise h) (.pfailOn h)))
  | .pfailRelease => h.execPfailRelease
  | .resetNAssert => .next (.ite h (.ite (.withPwr h) (.resetTo (.withPwr h))))
  | .softwareReset => h.execSoftwareReset
  | .lpmodeChange _ => .next (.powerCheck (.putFlag h))
  | .lowPowerEntry => h.execLowPowerEntry
  | .pgLoss _ => .next (.ite (.enterFault (.log (.raise (.put h)))) h)
  | .penReleaseStep => .next (.penDropOne h)
  | .restartStepDone _ _ => h.execRestartStepDone
  | .restartStepTimeout _ _ _ => h.execRestartStepTimeout
  | .lineWakeAmTimeout _ => h.execLineWakeAmTimeout
  | .faultIslandOff => .next (.ite (.coreIslandsOff (.foldl (.withPwr h) fun _ _ hf => .clampChannel hf)) h)
  | .thmMeasurement _ _ => .next (.ite h (.measure (.setSensors h)))
  | .wearMeasure _ => h.execWearMeasure
  | .avsStep => h.execAvsStep
  | .lifeMinute => .next (.ite h (.refreshLife (.setWide (.withPwrLife (.withPwr h)))))
  | .lifeStore => .next (.ite (.withPwrLife h) h)
  | .pwrStatus _ => .next (.runCmd h fun _ _ _ hf => .cmdPwrStatus hf)
  | .pwrReset _ => .next (.runCmd h fun _ _ _ hf => .cmdPwrReset hf)
  | .pwrLowpwr _ => .next (.runCmd h fun _ _ _ hf => .cmdPwrLowpwr hf)
  | .pwrWearReport _ => .next (.runCmd h fun _ _ _ hf => .cmdPwrWearReport hf)
  | .pwrLifeReport _ => .next (.runCmd h fun _ _ _ hf => .cmdPwrLifeReport hf)
  | .thmStatus _ => .next (.runCmd h fun _ _ _ hf => .cmdThmStatus hf)
  | .thmSetThresh _ => .next (.runCmd h fun _ _ _ hf => .cmdThmSetThresh hf)
  | .thmMeasure _ _ => .next (.runCmd h fun _ _ _ hf => .cmdThmMeasure hf)
  | .thmSensorRetire _ => .next (.runCmd h fun _ _ _ hf => .cmdSensorRetire hf)
  | .hlBitSlip _ => h.execHlBitSlip
  | .ditherSample => h.execDitherSample
  | .resetNRelease => .next (.ite (.ite (.withPwr h) (.releaseReset (.withPwr h))) h)
  | .ltxClip _ _ _ => .next (.ite (.txSend (.txSymbols h)) h)

/-- Settles O46: one lemma per operation, along the operations that the commands are made of. -/
theorem everyCommandAnswers : Obligations.EveryCommandAnswers := by
  unfold Obligations.EveryCommandAnswers
  intro c s
  obtain ⟨t, ht, hk⟩ := NextKept.exec (i := c) (.refl (s := s))
  exact ⟨t, ht, hk.pending⟩

end Sys2Proof.Machine

/-!
PROOFS. The results of PLL and REFCLK events (O15).
-/

namespace Sys2Proof.Machine

open Host

variable {s s' t : State}

/-! ## Single bits -/

theorem beq_one_b2n_mod_two (b : Bool) : (b2n b % 2 ^ 1 == 1) = b := by cases b <;> rfl

theorem State.bit_putBit_self {n : Nat} (h : n < 32) (r : Reg) (v : Bool) (u : Nat) : (s.putBit r n v u).bit r n u = v := by
  rw [State.bit, State.putBit, State.reg_setReg_self, getBits_setBits_self _ _ (by omega), beq_one_b2n_mod_two]

theorem State.bit_putBit_ne {r r' : Reg} {n n' u u' : Nat} (v : Bool) (h : r' ≠ r ∨ u' ≠ u) :
    (s.putBit r n v u).bit r' n' u' = s.bit r' n' u' := by
  rw [State.bit, State.bit, State.putBit, State.reg_setReg_ne _ _ (by simp only [ne_eq, RKey.mk.injEq]; tauto)]

/-- Bit `n` of a register of every die takes a value. -/
theorem State.bit_putDies {n d : Nat} (h : n < 32) (hd : d < 3) (r : Reg) (v : Bool) :
    ([0, 1, 2].foldl (fun (s : State) u => s.putBit r n v u) s).bit r n d = v := by
  have hd : d = 2 ∨ d = 1 ∨ d = 0 := by omega
  obtain rfl | rfl | rfl := hd <;> simp [State.bit_putBit_self h, State.bit_putBit_ne]

theorem State.bit_putDies_ne {r r' : Reg} {n : Nat} (h : r' ≠ r) (v : Bool) (n' d : Nat) :
    ([0, 1, 2].foldl (fun (s : State) u => s.putBit r n v u) s).bit r' n' d = s.bit r' n' d := by
  simp [State.bit_putBit_ne, h]

/-! ## What an operation that keeps the watched registers keeps -/

theorem Kept.bit_eq {r : Reg} {ev : Bool} (h : Kept s t ev true) (hr : watched r = true) (n u : Nat) :
    t.bit r n u = s.bit r n u := by
  rw [State.bit, State.bit, h.regs rfl r hr]

theorem Kept.locked_eq {ev : Bool} (h : Kept s t ev true) (d b : Nat) : t.locked d b = s.locked d b := h.bit_eq rfl b d

theorem Kept.fld_eq {f : Fld} {ev : Bool} (h : Kept s t ev true) (hr : watched f.reg = true) (u i : Nat) :
    t.fld f u i = s.fld f u i := by
  rw [State.fld, State.fld, h.regs rfl _ hr]

/-- An event that is logged before the queue of events has changed stays there. -/
theorem Kept.sent {wt : Bool} {code sev p0 p1 p2 p3 : Nat} (h : Kept (s'.log code sev p0 p1 p2 p3) t true wt)
    (he : s'.events = s.events) : Sent s t code sev p0 p1 p2 p3 := by
  obtain ⟨post, e⟩ := h.events rfl
  exact ⟨[], post, by rw [← e, State.log, he]; simp⟩

/-! ## Entry to FAULT -/

theorem State.pwrState_toPwr {st : Nat} (h : st < 8) : (s.toPwr st).pwrState = st := by
  unfold State.toPwr
  extract_lets old
  split
  · assumption
  · rw [State.pwrState, State.fld_log, State.raise_eq, State.fld_put_apart _ rfl rfl, State.fld_put_self _ rfl]
    exact Nat.mod_eq_of_lt h

theorem State.reg_toPwr {r : Reg} (h : r ≠ .PWR_STATE) (h' : r ≠ .PWR_CAUSE) (st u i : Nat) :
    (s.toPwr st).reg r u i = s.reg r u i := by
  unfold State.toPwr
  extract_lets
  split
  · rfl
  · rw [State.reg_log, State.raise_eq, State.reg_put _ h', State.reg_put _ h]

theorem State.pwrState_enterFault (reason info : Nat) (own : Option OwnEvent) :
    (s.enterFault reason info own).fld PWR_STATE.STATE = 5 := by
  rw [(Kept.enterFault_of_toPwr (ev := true) (wt := true) .refl).fld_eq rfl]
  exact State.pwrState_toPwr (by decide)

theorem State.pwr_finish (w : Ticket) (r : Reply) : (s.finish w r).pwr = s.pwr := by
  unfold State.finish
  extract_lets
  split
  · rfl
  · split <;> rfl

theorem State.pwr_emergency (code sev p0 p1 p2 p3 : Nat) : (s.emergency code sev p0 p1 p2 p3).pwr = s.pwr := by
  unfold State.emergency
  extract_lets used free slot s1
  have h1 : s1.pwr = s.pwr := by
    simp only [s1]
    split <;> rfl
  exact h1

theorem State.seqs_lowDone : s.lowDone.pwr.seqs = s.pwr.seqs := by
  unfold State.lowDone
  split
  · rw [State.pwr_finish]
  · rfl

theorem State.seqOn_endSeq_self (num obj : Nat) : (s.endSeq num obj).seqOn num obj = false := by
  simp only [State.seqOn, State.endSeq, List.any_filter, List.any_eq_false]
  grind

/-- No sequence of the start-up runs in a state that has just entered FAULT. -/
theorem State.seqOn_enterFault {obj reason info : Nat} {own : Option OwnEvent} (h : s.seqOn 1 obj = false) :
    (s.enterFault reason info own).seqOn 1 obj = false := by
  unfold State.enterFault
  split
  · cases own <;> exact h
  · rw [State.seqOn, State.seqs_lowDone]
    cases own <;> simp only [State.pwr_emergency, State.avsStop, State.putBit_pwr, State.raise_pwr, State.put_pwr,
      List.any_filter, List.any_eq_false, Bool.and_eq_true, decide_eq_true_eq, beq_iff_eq] <;>
    · intro q _ ⟨h3, h1, _⟩
      omega

/-! ## Loss of lock (R18) -/

/-- CLK_LOCK and CLK_CAUSE show that a PLL, or REFCLK, was lost. -/
def State.showsLoss (s : State) (d b : Nat) : Prop := s.locked d b = false ∧ s.bit .CLK_CAUSE b d = true

theorem State.showsLoss_iff_of_reg {d b : Nat} (h : ∀ r, r = .CLK_LOCK ∨ r = .CLK_CAUSE → ∀ u i, t.reg r u i = s.reg r u i) :
    t.showsLoss d b ↔ s.showsLoss d b := by
  rw [State.showsLoss, State.showsLoss, State.locked, State.locked, State.bit, State.bit, State.bit, State.bit,
    h _ (.inl rfl), h _ (.inr rfl)]

theorem Kept.showsLoss_iff {d b : Nat} {ev : Bool} (h : Kept s t ev true) : t.showsLoss d b ↔ s.showsLoss d b :=
  State.showsLoss_iff_of_reg fun r hr => h.regs rfl r (by obtain rfl | rfl := hr <;> rfl)

theorem State.showsLoss_enterFault_iff {d b reason info : Nat} {own : Option OwnEvent} :
    (s.enterFault reason info own).showsLoss d b ↔ s.showsLoss d b :=
  (Kept.enterFault_of_toPwr (ev := true) .refl).showsLoss_iff.trans <|
    State.showsLoss_iff_of_reg fun r hr => State.reg_toPwr (by rintro rfl; simp at hr) (by rintro rfl; simp at hr) _

theorem State.reg_setLinkState {r : Reg} (h : r ≠ .WELT_STAT) (l st u i : Nat) : (s.setLinkState l st).reg r u i = s.reg r u i := by
  unfold State.setLinkState linkEnds
  split <;> simp [State.reg_put, h]

theorem State.showsLoss_retrainIfUp_iff {d b l : Nat} : (s.retrainIfUp l).showsLoss d b ↔ s.showsLoss d b := by
  unfold State.retrainIfUp
  split
  · exact State.showsLoss_iff_of_reg fun r hr => State.reg_setLinkState (by rintro rfl; simp at hr) _ _
  · rfl

theorem State.showsLoss_pllLost {d b : Nat} (hb : b < 8) : (s.pllLost d b).showsLoss d b := by
  unfold State.pllLost
  extract_lets s1 s2
  have h1 : s1.showsLoss d b :=
    ⟨(State.bit_putBit_ne true (.inl (by decide))).trans (State.bit_putBit_self (by omega) ..), State.bit_putBit_self (by omega) ..⟩
  have keeps {t : State} (h : Kept s2 t true true) : t.showsLoss d b := h.showsLoss_iff.2 h1
  split
  · exact (Kept.mclkGone .refl (ev := true)).showsLoss_iff.2 (State.showsLoss_enterFault_iff.2 h1)
  · split
    · exact State.showsLoss_retrainIfUp_iff.2 (State.showsLoss_retrainIfUp_iff.2 h1)
    · split
      · exact keeps (.ite (.tpllLost .refl) .refl)
      · split
        · exact keeps (.hpllLost .refl)
        · split
          · exact State.showsLoss_retrainIfUp_iff.2 (State.showsLoss_retrainIfUp_iff.2 h1)
          · exact keeps (.ite (.lpllLost .refl) .refl)

theorem State.pwrState_pllLost_mpll : (s.pllLost 0 0).fld PWR_STATE.STATE = 5 := by
  rw [State.pllLost, if_pos ⟨rfl, rfl⟩, (Kept.mclkGone (ev := true) (wt := true) .refl).fld_eq rfl]
  exact State.pwrState_enterFault _ _ _

theorem State.sent_pllLost {d b : Nat} (h : ¬ (d = 0 ∧ b = 0)) : Sent s (s.pllLost d b) 0x1401 sevWarn (alwaysOn d) b :=
  (Kept.pllLost_of_log h .refl).sent rfl

/-! ## Lock (R18) -/

theorem State.locked_lockPll {d b : Nat} (hb : b < 32) : (s.lockPll d b).locked d b = true := by
  cases hl : s.locked d b with
  | true => rwa [State.lockPll, if_pos hl]
  | false =>
    rw [(Kept.lockPll_of_set (ev := true) (wt := true) hl .refl).locked_eq]
    exact State.bit_putBit_self hb _ _ _

/-! ## REFCLK (R17, R19) -/

/-- REFCLK is absent, with its cause on every die. -/
theorem State.showsLoss_refclk {d : Nat} (hd : d < 3) :
    ([0, 1, 2].foldl (fun (s : State) u => s.putBit .CLK_CAUSE 8 true u) (s.setRefclk false)).showsLoss d 8 :=
  ⟨(State.bit_putDies_ne (by decide) true _ _).trans (State.bit_putDies (by decide) hd _ _), State.bit_putDies (by decide) hd _ _⟩

/-- MGMT_IRQ_TOP shows the bits of both core dies (R37). -/
theorem State.irqTop_and_core (r : Reg) (h : r = .MGMT_IRQ_CORE_A ∨ r = .MGMT_IRQ_CORE_B) : s.irqTop &&& s.reg r = s.reg r := by
  unfold State.irqTop
  obtain rfl | rfl := h <;> ext i hi <;> simp <;> tauto

/-- Settles O15: an operation that follows the change of the lock and cause bits keeps the registers that show them. -/
theorem clockResults : Obligations.ClockResults := by
  unfold Obligations.ClockResults
  refine ⟨fun die bit s hlock hbit => ?_, fun die bit s hheld hstarts h8 => ?_, fun die s hheld hseq => ?_, fun s hseen => ?_,
    fun s hseen => ?_, fun s hheld hlate => ?_, fun die s _ _ => ?_⟩
  · obtain ⟨hlost, hcause⟩ := State.showsLoss_pllLost (s := s) bit.isLt
    refine ⟨s.pllLost die bit, congrArg Outcome.next (if_pos ⟨hlock, hbit⟩), hlost, hcause, ?_, State.sent_pllLost⟩
    rintro ⟨hd, hb⟩
    rw [hd, hb]
    exact State.pwrState_pllLost_mpll
  · refine ⟨s.lockPll die bit, congrArg Outcome.next ?_, State.locked_lockPll (by omega)⟩
    rw [if_neg (by simp [hheld]), if_neg h8, if_pos hstarts]
  · refine ⟨s.setRefclk true, congrArg Outcome.next ?_, fun d hd => State.bit_putDies (by decide) hd _ _⟩
    rw [if_neg (by simp [hheld]), if_pos (show ((8 : Fin 9) : Nat) = 8 from rfl), if_neg (by simp [hseq])]
  · exact ⟨_, congrArg Outcome.next (if_pos hseen), fun d hd => State.showsLoss_refclk hd⟩
  · exact ⟨_, congrArg Outcome.next (if_pos hseen), State.pwrState_enterFault _ _ _, fun d hd =>
      State.showsLoss_enterFault_iff.2 (State.showsLoss_refclk hd)⟩
  · exact ⟨s.refclkNever, congrArg Outcome.next (if_pos ⟨hheld, hlate⟩), State.pwrState_enterFault _ _ _,
      State.seqOn_enterFault (State.seqOn_endSeq_self 1 0)⟩
  · refine ⟨_, rfl, State.irqTop_and_core _ ?_⟩
    split
    · exact .inl rfl
    · exact .inr rfl

end Sys2Proof.Machine

/-!
PROOFS. The welt links (O14).
-/

namespace Sys2Proof.Machine

open Host

variable {s t : State}

/-! ## Error-statistics counters -/

theorem saturated_of_toNat_eq_cntMax {v : W48} (h : v.toNat = cntMax) : saturated v = v := by
  rw [saturated, Nat.min_eq_right (by omega), ← h, BitVec.ofNat_toNat, BitVec.setWidth_eq]

/-- A counter with a SAT cause counts one more and saturates (R135). -/
theorem State.cnt_inc {r : Reg} {u : Nat} (h : (satField r u).isSome = true) (i : Nat) (r' : Reg) (u' i' : Nat) :
    (s.inc r u i).cnt r' u' i' = if r' = r ∧ u' = u ∧ i' = i then saturated (s.cnt r u i) else s.cnt r' u' i' := by
  obtain ⟨⟨f, fu⟩, hf⟩ := Option.isSome_iff_exists.1 h
  unfold State.inc
  simp only [hf, Nat.one_ne_zero, or_false]
  split
  · next hv =>
    rw [saturated_of_toNat_eq_cntMax hv]
    split
    · next hk =>
      obtain ⟨rfl, rfl, rfl⟩ := hk
      rfl
    · rfl
  · split
    · next hlt => rw [State.cnt_setCnt, saturated, Nat.min_eq_left (by omega)]
    · next hge => rw [State.cnt_raise, State.cnt_setCnt, saturated, Nat.min_eq_right (by omega)]

theorem State.links_onDie_inc {r : Reg} {u : Nat} (h : (satField r u).isSome = true) (i : Nat) :
    (s.inc r u i).links = s.links ∧ (s.inc r u i).onDie = s.onDie := by
  obtain ⟨⟨f, fu⟩, hf⟩ := Option.isSome_iff_exists.1 h
  unfold State.inc
  simp only [hf, Nat.one_ne_zero, or_false]
  split
  · exact ⟨rfl, rfl⟩
  · split <;> exact ⟨rfl, rfl⟩

/-- A counter of both ends of a link, or of its only one on a core die. -/
def State.countEnds (s : State) (r : Reg) (l : Nat) : State := (linkEnds l).foldl (fun (s : State) e => s.inc r e.1 e.2) s

theorem State.cnt_countEnds {r : Reg} (h : ∀ u, (satField r u).isSome = true) {l : Nat} {e : Nat × Nat} (he : e ∈ linkEnds l) :
    (s.countEnds r l).cnt r e.1 e.2 = saturated (s.cnt r e.1 e.2) := by
  unfold State.countEnds
  unfold linkEnds at he ⊢
  split at he
  · obtain rfl | rfl : e = (1, 1) ∨ e = (2, 1) := by simpa using he
    · simp [*, State.cnt_inc]
    · simp [*, State.cnt_inc]
  · obtain rfl : e = (l + 1, 0) := by simpa using he
    simp [*, State.cnt_inc]

theorem State.links_onDie_countEnds {r : Reg} (h : ∀ u, (satField r u).isSome = true) (l : Nat) :
    (s.countEnds r l).links = s.links ∧ (s.countEnds r l).onDie = s.onDie := by
  unfold State.countEnds linkEnds
  split <;> simp [State.links_onDie_inc, h]

/-! ## Channels (R24, R26, R31) -/

theorem Channel.credit_setCredit_self {c : Channel} {m : MsgClass} (h : m ≠ .control) (n : Nat) : (c.setCredit m n).credit m = n := by
  cases m with
  | control => exact absurd rfl h
  | _ => rfl

theorem Channel.credit_push {c : Channel} {data : W64} (h : c.nextClass data ≠ .control) (keep : Bool) :
    (c.push data keep).credit (c.nextClass data) = c.credit (c.nextClass data) - 1 := by
  refine Eq.trans ?_ (Channel.credit_setCredit_self (c := c) h _)
  cases keep <;> rfl

theorem Channel.follow_push (c : Channel) (data : W64) (keep : Bool) :
    (c.push data keep).follow = (c.nextClass data, if c.follow.2 = 0 then lenOf data else c.follow.2 - 1) := by
  cases keep <;> rfl

theorem Channel.sent_push (c : Channel) (data : W64) : (c.push data true).sent = c.sent + 1 := rfl

/-- The newest flit is the last of the replay buffer. -/
theorem Channel.replayed_push (c : Channel) (data : W64) : (c.push data true).replayed c.sent = data := by
  have hb : (c.push data true).buffer = (c.buffer ++ [data]).drop (c.buffer.length - 63) := rfl
  rw [Channel.replayed, hb, Channel.sent_push, Nat.add_sub_cancel_left]
  rw [List.drop_append_of_le_length (by omega)]
  simp [List.getD]

theorem State.channel_congr (h : t.links = s.links ∧ t.onDie = s.onDie) (p : FlitPath) : t.channel p = s.channel p := by
  cases p with
  | welt l way => simp only [State.channel, State.link, h.1]
  | island id out => simp only [State.channel, State.islandChannel, h.2]

theorem Link.dir_setWay (v : Link) (c : Channel) (w : Bool) :
    (if w = true then { v with toMgmt := c } else { v with fromMgmt := c } : Link).dir w = c := by
  cases w <;> rfl

theorem State.dir_link_setWay {l : Nat} (h : l < s.links.length) (w : Bool) (c : Channel) : ((s.setWay l w c).link l).dir w = c := by
  rw [State.setWay, State.link_setLink_self _ _ _ h, Link.dir_setWay]

theorem State.channel_setChannel_self (h : s.links.length = 3) (p : FlitPath) (c : Channel) : (s.setChannel p c).channel p = c := by
  cases p with
  | welt l w => exact State.dir_link_setWay (by omega) w c
  | island id out => exact lookup_writeAt_self _ _ _ _ _

theorem State.channel_countFlit (p q : FlitPath) (w : W72) : (s.countFlit p w).channel q = s.channel q := by
  unfold State.countFlit
  split
  · exact State.channel_congr (State.links_onDie_countEnds (fun _ => rfl) _) _
  · rfl

theorem State.cnt_countFlit {l : Fin 3} {way : Bool} {w : W72} {d : W64} (hw : classify w = .corrected d) {e : Nat × Nat}
    (he : e ∈ linkEnds l) :
    (s.countFlit (.welt l way) w).cnt .WELT_CORR_CNT e.1 e.2 = saturated (s.cnt .WELT_CORR_CNT e.1 e.2) := by
  unfold State.countFlit
  rw [hw]
  exact State.cnt_countEnds (fun _ => rfl) he

theorem State.cnt_setChannel (p : FlitPath) (c : Channel) (r : Reg) (u i : Nat) : (s.setChannel p c).cnt r u i = s.cnt r u i := by
  cases p <;> rfl

/-! ## States of a link (R22, R31, R32) -/

theorem State.linkState_setLinkState {st : Nat} (h : st < 8) (l : Nat) : (s.setLinkState l st).linkState l = st := by
  unfold State.setLinkState State.linkState linkEnds
  split
  · rw [List.foldl_cons, List.foldl_cons, List.foldl_nil, State.fld_put_unit _ _ _ (.inl (by decide)),
      State.fld_put_self (f := WELT_STAT.STATE) _ rfl]
    exact Nat.mod_eq_of_lt h
  · rw [List.foldl_cons, List.foldl_nil, State.fld_put_self (f := WELT_STAT.STATE) _ rfl]
    exact Nat.mod_eq_of_lt h

theorem State.linkState_setLink (l : Nat) (v : Link) (l' : Nat) : (s.setLink l v).linkState l' = s.linkState l' := rfl

theorem State.linkState_of_reg (h : ∀ u i, t.reg .WELT_STAT u i = s.reg .WELT_STAT u i) (l : Nat) : t.linkState l = s.linkState l := by
  unfold State.linkState State.fld
  rw [h, h]

theorem Kept.linkState_eq {ev : Bool} (h : Kept s t ev true) (l : Nat) : t.linkState l = s.linkState l :=
  State.linkState_of_reg (h.regs rfl _ rfl) l

theorem State.linkState_raise {f : Fld} (h : .WELT_STAT ≠ f.reg) (u i l : Nat) : (s.raise f u i).linkState l = s.linkState l :=
  State.linkState_of_reg (fun u' i' => (State.raise_eq s f u i).symm ▸ State.reg_put s h 1 u i u' i') l

theorem State.linkState_retrain (l : Nat) : (s.retrain l).linkState l = 3 := by
  rw [State.retrain, State.linkState_setLink, State.linkState_setLinkState (by decide)]

theorem State.linkState_trainCore (b : Bool) : (s.trainCore b).linkState 2 = 1 := by
  rw [State.trainCore, State.linkState_setLink, State.linkState_setLinkState (by decide)]

theorem State.flag_raise_self {f : Fld} (h : f.fits = true) (hw : f.w = 1) (u i : Nat) : (s.raise f u i).flag f u i = true := by
  rw [State.flag_eq, State.raise_eq, State.fld_put_self _ h, hw]
  rfl

theorem State.flag_raise_unit {f : Fld} (g : Fld) {u i u' i' : Nat} (h : u' ≠ u ∨ i' ≠ i) :
    (s.raise f u i).flag g u' i' = s.flag g u' i' := by
  rw [State.flag_eq, State.flag_eq, State.raise_eq, State.fld_put_unit s g 1 h]

theorem Kept.flag_eq {f : Fld} {ev : Bool} (h : Kept s t ev true) (hr : watched f.reg = true) (u i : Nat) :
    t.flag f u i = s.flag f u i := by
  rw [State.flag_eq, State.flag_eq, h.fld_eq hr]

theorem State.linkState_shownUp (l : Nat) : (s.shownUp l).linkState l = 2 := by
  have h := State.linkState_setLinkState (s := s) (st := 2) (by decide) l
  unfold State.shownUp
  extract_lets s'
  split
  · unfold linkEnds
    split
    · rw [List.foldl_cons, List.foldl_cons, List.foldl_nil, State.linkState_raise (by decide), State.linkState_raise (by decide)]
      exact h
    · rw [List.foldl_cons, List.foldl_nil, if_pos rfl, State.linkState_raise (by decide)]
      exact h
  · exact h

theorem State.flag_shownUp {l : Nat} (h : s.linkState l = 3) {e : Nat × Nat} (he : e ∈ linkEnds l) :
    (s.shownUp l).flag (if e.2 = 0 then WELT_CAUSE.RETRAIN_0 else WELT_CAUSE.RETRAIN_1) e.1 = true := by
  unfold State.shownUp
  extract_lets v s'
  rw [if_pos h]
  by_cases hl : l = 2
  · subst hl
    obtain rfl | rfl : e = (1, 1) ∨ e = (2, 1) := by simpa [linkEnds] using he
    · change ((s'.raise WELT_CAUSE.RETRAIN_1 1).raise WELT_CAUSE.RETRAIN_1 2).flag WELT_CAUSE.RETRAIN_1 1 = true
      rw [State.flag_raise_unit _ (.inl (by decide)), State.flag_raise_self rfl rfl]
    · change ((s'.raise WELT_CAUSE.RETRAIN_1 1).raise WELT_CAUSE.RETRAIN_1 2).flag WELT_CAUSE.RETRAIN_1 2 = true
      rw [State.flag_raise_self rfl rfl]
  · rw [linkEnds, if_neg hl] at he ⊢
    obtain rfl : e = (l + 1, 0) := by simpa using he
    change (s'.raise WELT_CAUSE.RETRAIN_0 (l + 1)).flag WELT_CAUSE.RETRAIN_0 (l + 1) = true
    rw [State.flag_raise_self rfl rfl]

theorem State.linkState_shownFailed : s.shownFailed.linkState 2 = 4 := by
  unfold State.shownFailed
  extract_lets v s'
  have h : s'.linkState 2 = 4 := State.linkState_setLinkState (s := s) (by decide) 2
  rw [State.linkState_of_reg fun u i => State.reg_log .., State.linkState_raise (by decide), State.linkState_raise (by decide), h]

theorem State.flag_shownFailed {d : Nat} (h : d = 1 ∨ d = 2) : s.shownFailed.flag WELT_CAUSE.FAILED_1 d = true := by
  unfold State.shownFailed
  extract_lets v s'
  rw [State.flag_log]
  obtain rfl | rfl := h
  · rw [State.flag_raise_unit _ (.inl (by decide)), State.flag_raise_self rfl rfl]
  · rw [State.flag_raise_self rfl rfl]

theorem State.linkAttemptFailed_eq {l : Nat} (hs : s.pwr.seqs = []) (h : (s.link l).fromFailed = true ∨ 1 ≤ (s.link l).failures) :
    s.linkAttemptFailed l = s.linkFailed l := by
  unfold State.linkAttemptFailed
  rw [hs, if_neg (by simp), if_pos (h.imp_right (by omega))]

/-- A write of WELT_CTL.RETRAIN_n retrains a link that is UP or RETRAINING (R31). -/
theorem State.weltRetrain_of_up {d n l : Nat} (hl : l = if n = 1 then 2 else d) (h : s.linkState l = 2 ∨ s.linkState l = 3) :
    s.weltRetrain (d + 1) n = s.retrain l := by
  subst hl
  unfold State.weltRetrain
  rw [Nat.add_sub_cancel]
  obtain h | h := h <;> simp only [h]

/-- A write of WELT_CTL.RETRAIN_1 starts a new attempt of a core welt that FAILED (R31). -/
theorem State.weltRetrain_of_failed {d : Nat} (h : s.linkState 2 = 4) (he : s.flag WELT_CTL.AB_EN d = true) :
    s.weltRetrain d 1 = s.trainCore true := by
  unfold State.weltRetrain
  simp only [if_true, h, he, and_self]

theorem State.flag_setLinkState {f : Fld} (h : f.reg ≠ .WELT_STAT) (l st u i : Nat) :
    (s.setLinkState l st).flag f u i = s.flag f u i := by
  rw [State.flag_eq, State.flag_eq, State.fld, State.fld, State.reg_setLinkState h]

theorem State.flag_retrain {f : Fld} (h : f.reg ≠ .WELT_STAT) (l u i : Nat) : (s.retrain l).flag f u i = s.flag f u i :=
  State.flag_setLinkState h l 3 u i

theorem State.events_setLinkState (l st : Nat) : (s.setLinkState l st).events = s.events := by
  unfold State.setLinkState linkEnds
  split <;> rfl

theorem State.events_retrain (l : Nat) : (s.retrain l).events = s.events := State.events_setLinkState l 3

theorem State.linkState_putFlag {f : Fld} (h : .WELT_STAT ≠ f.reg) (v : Bool) (u i l : Nat) :
    (s.putFlag f v u i).linkState l = s.linkState l :=
  State.linkState_of_reg (fun u' i' => (State.putFlag_eq s f v u i).symm ▸ State.reg_put s h (b2n v) u i u' i') l

theorem State.flag_putFlag_self {f : Fld} (h : f.fits = true) (hw : f.w = 1) (v : Bool) (u i : Nat) :
    (s.putFlag f v u i).flag f u i = v := by
  rw [State.flag_eq, State.putFlag_eq, State.fld_put_self _ h, hw, beq_one_b2n_mod_two]

theorem State.modeReady_putFlag {f : Fld} (h : .PWR_STATE ≠ f.reg) (v : Bool) (u i : Nat) :
    (s.putFlag f v u i).modeReady = s.modeReady := by
  have hp : (s.putFlag f v u i).pwrState = s.pwrState := State.fld_setReg s h _ u i 0 0
  rw [State.modeReady, State.modeReady, hp]

/-! ## What the commands do -/

theorem execFlitReceive_new {path : FlitPath} {data : W64} (hc : s.carries path = true) (hr : (s.channel path).resend = none)
    (h : 0 < (s.channel path).credit ((s.channel path).nextClass data)) (flips : W72) :
    Machine.execFlitReceive path data flips s =
      .next ((s.setChannel path ((s.channel path).push data (keepsFlits path))).countFlit path (protect data ^^^ flips)) := by
  simp only [Machine.execFlitReceive, hc, hr, if_neg h.ne', Bool.true_eq_false, if_false]

theorem execFlitReceive_without_credit {path : FlitPath} {data : W64} (hc : s.carries path = true)
    (hr : (s.channel path).resend = none) (h : (s.channel path).credit ((s.channel path).nextClass data) = 0) (flips : W72) :
    Machine.execFlitReceive path data flips s = .next s := by
  simp only [Machine.execFlitReceive, hc, hr, if_pos h, Bool.true_eq_false, if_false]

theorem execFlitReceive_lost {path : FlitPath} {flips : W72} {i : Nat} (hc : s.carries path = true)
    (hr : (s.channel path).resend = some i) (h : flitLost (protect ((s.channel path).replayed i) ^^^ flips) = true) (data : W64) :
    Machine.execFlitReceive path data flips s = .next s := by
  simp only [Machine.execFlitReceive, hc, hr, if_pos h, Bool.true_eq_false, if_false]

theorem execFlitReceive_again {path : FlitPath} {flips : W72} {i : Nat} (hc : s.carries path = true)
    (hr : (s.channel path).resend = some i) (h : flitLost (protect ((s.channel path).replayed i) ^^^ flips) = false)
    (data : W64) :
    Machine.execFlitReceive path data flips s =
      .next ((s.setChannel path { s.channel path with
        resend := if (s.channel path).sent ≤ i + 1 then none else some (i + 1) }).countFlit path
          (protect ((s.channel path).replayed i) ^^^ flips)) := by
  simp only [Machine.execFlitReceive, hc, hr, h, Bool.true_eq_false, Bool.false_eq_true, if_false]

/-- A replay is counted. -/
def State.countReplay (s : State) (l : Nat) : State :=
  (s.setLink l { s.link l with
    window := (s.link l).window + 1
    times := ((s.link l).times.filter (fun x => decide (s.now < x + 1000))) ++ [s.now] }).countEnds .WELT_REPLAY_CNT l

theorem execReplayRequest_eq {link : Fin 3} {way : Bool} {flit : Nat} (hlo : flit < ((s.link link).dir way).sent)
    (hhi : ((s.link link).dir way).sent ≤ flit + 64) (h0 : s.linkState link ≠ 0) (h4 : s.linkState link ≠ 4) :
    Machine.execReplayRequest link way flit s =
      .next (let s' := s.setWay link way { (s.link link).dir way with resend := some flit }
        if s.linkState link = 2 then s'.countReplay link else s') :=
  congrArg Outcome.next (if_pos ⟨hlo, hhi, h0, h4⟩)

/-- Eight replays within 1 ms: the die that `die` names reports those of the core welt, and a control welt's own die the others. -/
theorem execReplayBurst_eq {link : Fin 3} (h : s.linkState link = 2)
    (hb : 8 ≤ ((s.link link).times.filter (fun x => decide (s.now < x + 1000))).length) (die : Fin 2) :
    Machine.execReplayBurst link die s =
      .next (let d := if link = 2 then die.val + 1 else link.val + 1
        let n := if link = 2 then 1 else 0
        ((s.raise (if n = 0 then WELT_CAUSE.REPLAY_BURST_0 else WELT_CAUSE.REPLAY_BURST_1) d).log 0x1002 sevWarn d n
          ((s.link link).times.filter (fun x => decide (s.now < x + 1000))).length).retrain link) := by
  simp only [Fin.ext_iff]
  exact congrArg Outcome.next (if_pos ⟨h, hb⟩)

theorem State.link_countReplay {l : Nat} (h : l < s.links.length) : (s.countReplay l).link l = { s.link l with
    window := (s.link l).window + 1
    times := ((s.link l).times.filter (fun x => decide (s.now < x + 1000))) ++ [s.now] } := by
  rw [State.countReplay, State.link, (State.links_onDie_countEnds (fun _ => rfl) l).1]
  exact State.link_setLink_self s l _ h

theorem State.dir_link_countReplay {l : Nat} (h : l < s.links.length) (w : Bool) :
    ((s.countReplay l).link l).dir w = (s.link l).dir w := by
  rw [State.link_countReplay h]
  rfl

theorem State.window_link_setWay {l : Nat} (h : l < s.links.length) (w : Bool) (c : Channel) :
    ((s.setWay l w c).link l).window = (s.link l).window := by
  rw [State.setWay, State.link_setLink_self _ _ _ h]
  cases w <;> rfl

theorem State.length_links_setWay (l : Nat) (w : Bool) (c : Channel) : (s.setWay l w c).links.length = s.links.length :=
  List.length_set

/-! ## The core welt's enable (R22) -/

theorem State.flag_weltAbEn (d : Nat) (en : Bool) : (s.weltAbEn d en).flag WELT_CTL.AB_EN d = en := by
  have h : (s.putFlag WELT_CTL.AB_EN en d).flag WELT_CTL.AB_EN d = en := State.flag_putFlag_self rfl rfl en d 0
  unfold State.weltAbEn
  extract_lets s1 s2
  have h2 : s2.flag WELT_CTL.AB_EN d = en := (State.flag_setLinkState (by decide) ..).trans h
  split
  · split
    · exact (State.flag_setLinkState (by decide) ..).trans h
    · exact h
  · split
    · exact h
    · rw [(Kept.foldl (ev := true) (wt := true) (s := s2) .refl fun _ _ hf => .foldl hf fun _ _ hg => .amLostHost hg).flag_eq rfl, h2]

theorem State.linkState_weltAbEn_of_enabled {d d' : Nat} (hd : d = 1 ∧ d' = 2 ∨ d = 2 ∧ d' = 1) (h0 : s.linkState 2 = 0)
    (he : s.flag WELT_CTL.AB_EN d' = true) (hr : s.modeReady = true) : (s.weltAbEn d true).linkState 2 = 1 := by
  unfold State.weltAbEn
  extract_lets s1
  have hself : s1.flag WELT_CTL.AB_EN d = true := State.flag_putFlag_self rfl rfl true d 0
  have hother : s1.flag WELT_CTL.AB_EN d' = true := (State.flag_raise_unit _ (.inl (by omega))).trans he
  have hready : s1.modeReady = true := (State.modeReady_putFlag (by decide) ..).trans hr
  rw [if_pos rfl, if_pos, State.linkState_trainCore]
  refine ⟨(State.linkState_putFlag (by decide) ..).trans h0, ?_, ?_, hready⟩
  · obtain ⟨rfl, rfl⟩ | ⟨rfl, rfl⟩ := hd <;> assumption
  · obtain ⟨rfl, rfl⟩ | ⟨rfl, rfl⟩ := hd <;> assumption

theorem State.linkState_weltAbEn_of_disabled {d : Nat} (h4 : s.linkState 2 ≠ 4) : (s.weltAbEn d false).linkState 2 = 0 := by
  have h : (s.putFlag WELT_CTL.AB_EN false d).linkState 2 = s.linkState 2 := State.linkState_putFlag (by decide) ..
  unfold State.weltAbEn
  extract_lets s1 s2
  rw [if_neg (by decide)]
  split
  · next h0 => exact h0.resolve_right (h.symm ▸ h4)
  · rw [(Kept.foldl (ev := true) (wt := true) (s := s2) .refl fun _ _ hf => .foldl hf fun _ _ hg => .amLostHost hg).linkState_eq]
    exact State.linkState_setLinkState (by decide) 2

/-- Settles O14: every clause reads back what its command writes; what follows the change of a link's state leaves the
registers of the links alone. -/
theorem weltLinkResults : Obligations.WeltLinkResults := by
  unfold Obligations.WeltLinkResults
  refine ⟨fun path data flips s hshape hcarries hnew hcredit => ?_, fun path data flips s hcarries hnew hcredit => ?_,
    fun path data flips s i hshape hcarries hresend => ?_, fun path cls n s hshape => ?_,
    fun link way flit s hshape hlo hhi h0 h4 => ?_, fun link die s hup hburst => ?_, fun link s htrain => ?_,
    fun s hshape htrain hseqs hfail => ?_, fun die n s hst => ?_, fun die s hst hen => ?_, fun die en s => ?_⟩
  · refine ⟨_, execFlitReceive_new hcarries hnew hcredit flips, ?_⟩
    simp only [State.channel_countFlit, State.channel_setChannel_self hshape.1]
    refine ⟨fun hm => Channel.credit_push hm _, Channel.follow_push _ _ _, fun hkeep => ?_, ?_⟩
    · rw [hkeep]
      exact ⟨rfl, Channel.replayed_push _ _⟩
    · rintro l way rfl d hd e he
      rw [State.cnt_countFlit hd he, State.cnt_setChannel]
  · exact ⟨s, execFlitReceive_without_credit hcarries hnew hcredit flips, rfl⟩
  · cases hlost : flitLost (protect ((s.channel path).replayed i) ^^^ flips) with
    | true => exact ⟨s, execFlitReceive_lost hcarries hresend hlost data, fun _ => rfl, fun h => by simp [hlost] at h⟩
    | false =>
      refine ⟨_, execFlitReceive_again hcarries hresend hlost data, fun h => by simp [hlost] at h, fun _ => ⟨?_, ?_⟩⟩
      · rw [State.channel_countFlit, State.channel_setChannel_self hshape.1]
      · rintro l way rfl d hd e he
        rw [State.cnt_countFlit hd he, State.cnt_setChannel]
  · exact ⟨_, rfl, State.channel_setChannel_self hshape.1 path _⟩
  · have hl : link.val < s.links.length := by omega
    have hl' : ∀ c, link.val < (s.setWay link way c).links.length := fun c => by rwa [State.length_links_setWay]
    refine ⟨_, execReplayRequest_eq hlo hhi h0 h4, ?_, fun h2 => ?_⟩
    · extract_lets s'
      split
      · rw [State.dir_link_countReplay (hl' _), State.dir_link_setWay hl]
      · rw [State.dir_link_setWay hl]
    · rw [if_pos h2]
      refine ⟨?_, fun e he => State.cnt_countEnds (fun _ => rfl) he⟩
      rw [State.link_countReplay (hl' _), State.window_link_setWay hl]
  · refine ⟨_, execReplayBurst_eq hup hburst die, State.linkState_retrain _, ?_, State.events_retrain _⟩
    rw [State.flag_retrain (by split <;> decide), State.flag_log, State.flag_raise_self]
    · split <;> rfl
    · split <;> rfl
  · refine ⟨s.linkUp link, congrArg Outcome.next (if_pos htrain), ?_, fun h3 e he => ?_⟩
    · rw [(Kept.linkUp_of_shownUp (ev := true) (wt := true) .refl).linkState_eq, State.linkState_shownUp]
    · rw [(Kept.linkUp_of_shownUp (ev := true) (wt := true) .refl).flag_eq, State.flag_shownUp h3 he]
      split <;> rfl
  · refine ⟨s.linkFailed 2, congrArg Outcome.next ((if_pos htrain).trans (State.linkAttemptFailed_eq hseqs hfail)), ?_⟩
    have hk : Kept s.shownFailed (s.linkFailed 2) true true := .linkFailed_of_shownFailed .refl
    exact ⟨(hk.linkState_eq 2).trans State.linkState_shownFailed, (hk.flag_eq rfl 1 0).trans (State.flag_shownFailed (.inl rfl)),
      (hk.flag_eq rfl 2 0).trans (State.flag_shownFailed (.inr rfl)), hk.sent rfl⟩
  · refine ⟨_, congrArg Outcome.next (State.weltRetrain_of_up (l := if n = 1 then 2 else die.val) ?_ hst), State.linkState_retrain _⟩
    simp [Fin.ext_iff]
  · exact ⟨_, congrArg Outcome.next (State.weltRetrain_of_failed hst hen), State.linkState_trainCore true⟩
  · refine ⟨_, rfl, State.flag_weltAbEn _ en, ?_, ?_⟩
    · rintro rfl h0 he hr
      exact State.linkState_weltAbEn_of_enabled (d' := 2 - die.val) (by omega) h0 he hr
    · rintro rfl h4
      exact State.linkState_weltAbEn_of_disabled h4

end Sys2Proof.Machine

/-!
PROOFS. The state after reset (O44).
-/

namespace Sys2Proof.Machine

theorem State.reset_canonical : State.reset.Canonical := by decide

theorem State.reset_shaped : State.reset.Shaped := by decide

theorem State.progSet_reset : ∀ k < 8, (State.reset.mode.active.lane k).progSet = 0x01 := by decide

theorem State.loopMode_reset : ∀ l < 48, State.reset.loopMode l = loopOpen := by decide

/-- The thresholds of a zone at reset (R412). -/
theorem State.zoneCfg_reset : ∀ z < 3, State.reset.fld THM_ZONE_CFG.WARN 0 z = 100 ∧
    State.reset.fld THM_ZONE_CFG.THROT 0 z = 110 ∧ State.reset.fld THM_ZONE_CFG.SHUT 0 z = 120 := by decide

/-- A register that no command has written shows its reset value. -/
theorem State.reg_reset (r : Reg) (u i : Nat) : State.reset.reg r u i = r.reset i := rfl

theorem State.cnt_reset (r : Reg) (u i : Nat) : State.reset.cnt r u i = 0 := rfl

/-- Every tap of the monitor's filters is 0 at reset (R307). -/
theorem reset_monFir (i : Nat) : Reg.MON_FIRA.reset i = 0 ∧ Reg.MON_FIRB.reset i = 0 := ⟨rfl, rfl⟩

/-- A device that leaves Skogon: slot A holds its one image, and the counter is that image's SVN (R445). -/
theorem State.fwSlot_reset : (State.reset.fwSlot 0).valid = true ∧ (State.reset.fwSlot 1).valid = false ∧
    State.reset.sec.counter = (State.reset.fwSlot 0).svn := ⟨rfl, rfl, rfl⟩

/-- Settles O44: the maps of the state after reset are empty, so registers and counters show their reset values; the units are
counted, and the rest is read off. -/
theorem resetState : Obligations.ResetState := by
  unfold Obligations.ResetState
  obtain ⟨hA, hB, hcounter⟩ := State.fwSlot_reset
  refine ⟨⟨State.reset_canonical, State.reset_shaped⟩, rfl, rfl, State.progSet_reset, State.loopMode_reset,
    State.zoneCfg_reset, fun i => ?_, State.cnt_reset, rfl, rfl, hA, hB, hcounter, rfl, rfl, rfl, rfl, rfl, rfl⟩
  rw [State.reg_reset, State.reg_reset]
  exact reset_monFir i

end Sys2Proof.Machine

/-!
PROOFS. Mode transactions (O22).
-/

namespace Sys2Proof.Machine

variable {s u : State}

/-! ## Mailbox commands whose handler answers at once -/

/-- Who waits for the command of eyelet `e`. -/
def State.ticket (s : State) (e : Fin 256) : Ticket := ⟨e, (s.eyelet e).serial, false⟩

@[simp] theorem State.begun_mode (e : Fin 256) : (s.begun e).mode = s.mode := rfl

@[simp] theorem State.finish_mode (t : Ticket) (r : Reply) : (s.finish t r).mode = s.mode := by
  unfold State.finish
  split
  · rfl
  · dsimp only
    split <;> rfl

@[simp] theorem State.finish_events (t : Ticket) (r : Reply) : (s.finish t r).events = s.events := by
  unfold State.finish
  split
  · rfl
  · dsimp only
    split <;> rfl

theorem State.runCmd_of_runs {e : Fin 256} {cls cmd : Nat} {f : Handler} (h : Runs s e cls cmd) :
    s.runCmd e cls cmd f =
      match f (s.params e) (s.ticket e) (s.begun e) with
      | (.done r, t) => t.finish (s.ticket e) r
      | (.later, t) => t := by
  obtain ⟨hq, ht, hst, hs, hr, hc, hn⟩ := h
  exact if_pos ⟨hq, ht, hst, hs, hr, hc, hn⟩

/-- The completion of a handler that has left the mailbox alone reaches its eyelet. -/
theorem State.answered_finish {e : Fin 256} {cls cmd : Nat} (h : Runs s e cls cmd) (hu : u.mbx = (s.begun e).mbx) (r : Reply) :
    ((u.finish (s.ticket e) r).eyelet e).reply = some r := by
  obtain ⟨-, -, hst, -, hr, -, -⟩ := h
  have he : u.eyelet e = { s.eyelet e with started := true } := by
    have : u.eyelet e = (s.begun e).eyelet e := by simp only [State.eyelet, hu]
    rw [this, State.begun, State.eyelet_setEyelet, if_pos rfl]
  have hf : u.finish (s.ticket e) r = u.setEyelet e { u.eyelet e with reply := some r } := by
    unfold State.finish
    rw [if_neg (by simp [State.ticket])]
    exact if_pos ⟨by simp [State.ticket, he, hst], by simp [State.ticket, he], by simp [State.ticket, he, hr]⟩
  rw [hf, State.eyelet_setEyelet, if_pos rfl]

/-- A mailbox command whose handler answers at once and leaves the mailbox to the step completes with that answer. -/
theorem completes_of_done {c : Instr} {e : Fin 256} {cls cmd : Nat} {f : Handler} {r : Reply} {P : State → Prop}
    (h : Runs s e cls cmd) (hc : Machine.exec c s = .next (s.runCmd e cls cmd f))
    (hf : f (s.params e) (s.ticket e) (s.begun e) = (.done r, u)) (hu : u.mbx = (s.begun e).mbx)
    (hP : ∀ t, (t.eyelet e).reply = some r → t.mode = u.mode → t.events = u.events → P t) : Completes c s P := by
  refine ⟨u.finish (s.ticket e) r, ?_, hP _ (State.answered_finish h hu r) (State.finish_mode ..) (State.finish_events ..)⟩
  rw [hc, State.runCmd_of_runs h, hf]

/-- A mailbox command whose handler goes on after it has returned. -/
theorem completes_of_later {c : Instr} {e : Fin 256} {cls cmd : Nat} {f : Handler} {P : State → Prop}
    (h : Runs s e cls cmd) (hc : Machine.exec c s = .next (s.runCmd e cls cmd f))
    (hf : f (s.params e) (s.ticket e) (s.begun e) = (.later, u)) (hP : P u) : Completes c s P :=
  ⟨u, by rw [hc, State.runCmd_of_runs h, hf], hP⟩

/-! ## The open transaction (R56, R57) -/

/-- The parameters name the open transaction `x`, and no apply runs. -/
structure State.Names (s : State) (p : Params) (x : Txn) : Prop where
  still : s.applying = false
  fresh : s.mode.expired.contains (p.half 0) = false
  txn : s.mode.txn = some x
  id : x.id = p.half 0

section

variable {p : Params} {x : Txn} (h : s.Names p x)
include h

theorem State.named_of_names : s.named (p.half 0) = (.ok x, s) := by
  unfold State.named
  rw [if_neg (by rw [h.fresh]; decide), h.txn]
  exact if_pos h.id

theorem State.inTxn_of_names (touch : Bool) (f : Txn → State → Answer × State) :
    s.inTxn p touch f =
      let y := if touch then { x with touched := s.now } else x
      f y (s.setTxn (some y)) := by
  unfold State.inTxn
  rw [if_neg (by rw [h.still]; decide), State.named_of_names h]

/-- A staging command whose descriptor is in range. -/
theorem State.staging_of_names {f : Image → Option Image} {m : Image} (hm : f x.staged = some m) :
    s.staging p f = (okWith, s.setTxn (some { x with staged := m, st := .opened, touched := s.now })) := by
  unfold State.staging
  rw [State.inTxn_of_names h, if_pos rfl]
  simp only [hm]
  rfl

end

theorem State.Names.begun {p : Params} {x : Txn} (h : s.Names p x) (e : Fin 256) : (s.begun e).Names p x :=
  ⟨h.still, h.fresh, h.txn, h.id⟩

/-- A staging command answers success and leaves the transaction OPEN with the new image. -/
theorem completes_of_staging {c : Instr} {e : Fin 256} {cmd : Nat} {f : Handler} {g : Params → Image → Option Image}
    {m : Image} {x : Txn} (h : Runs s e 0x15 cmd) (hn : s.Names (s.params e) x)
    (hc : Machine.exec c s = .next (s.runCmd e 0x15 cmd f)) (hf : ∀ p t s, f p t s = s.staging p (g p))
    (hm : g (s.params e) x.staged = some m) :
    Completes c s fun t =>
      Answered t e 0 ∧ t.mode.txn = some { x with staged := m, st := .opened, touched := s.now } :=
  completes_of_done h hc ((hf ..).trans (State.staging_of_names (hn.begun e) hm)) rfl fun _ ha ht _ => ⟨ha, by rw [ht]; rfl⟩

/-- MODE_BEGIN while no transaction is open. -/
theorem cmdModeBegin_of_none {p : Params} {w : Ticket} (ha : s.applying = false) (hx : s.mode.txn = none)
    (hz : p.zeroFrom 0 = true) :
    cmdModeBegin p w s =
      let id := s.mode.lastId % 0xFFFF + 1
      let x : Txn := { id := id, staged := s.mode.active, touched := s.now }
      (okWith id, State.setTxn { s with mode := { s.mode with lastId := id } } (some x)) := by
  unfold cmdModeBegin
  rw [if_neg (by rw [ha]; decide), if_neg (by rw [hz]; decide), if_neg (by rw [hx]; decide)]
  rfl

/-- What validation finds when the open transaction's 10 s have just been started anew. -/
def State.finding (s : State) (x : Txn) : Reply := (s.setTxn (some { x with touched := s.now })).validate x.staged

/-- Validation reads no part of the state that the mailbox holds. -/
theorem State.finding_begun (e : Fin 256) (x : Txn) : (s.begun e).finding x = s.finding x := rfl

@[simp] theorem State.modeReady_setTxn (y : Option Txn) : (s.setTxn y).modeReady = s.modeReady := rfl

/-- MODE_VALIDATE of the open transaction where the device state permits it. -/
theorem cmdModeValidate_of_names {p : Params} {x : Txn} {w : Ticket} (h : s.Names p x) (hz : p.zeroFrom 2 = true)
    (hr : s.modeReady = true) :
    cmdModeValidate p w s = (.done (s.finding x),
      if (s.finding x).status ≠ 0 then s.rejected { x with touched := s.now } (s.finding x)
      else s.setTxn (some { x with st := .validated, touched := s.now })) := by
  unfold cmdModeValidate
  rw [State.inTxn_of_names h, if_pos rfl]
  dsimp only
  rw [if_neg (by rw [hz]; decide), if_neg (by rw [State.modeReady_setTxn, hr]; decide)]
  unfold State.finding
  split <;> rfl

/-- MODE_TXN_EXPIRED of a transaction that no command has touched for 10 s. -/
theorem execModeTxnExpired_of_old {x : Txn} (hx : s.mode.txn = some x) (hst : x.st ≠ .applying)
    (hold : 10000000 ≤ s.now - x.touched) :
    Machine.execModeTxnExpired s = .next (State.log
      { s with mode := { s.mode with txn := none, expired := s.mode.expired ++ [x.id] } } 0x1504 sevWarn x.id 1) := by
  unfold Machine.execModeTxnExpired State.expireTxn
  simp only [hx, if_pos hold, if_neg hst]

/-- Settles O22, command by command: each handler's answer is taken over by `completes_of_done`. -/
theorem transactionResults : Obligations.TransactionResults := by
  unfold Obligations.TransactionResults
  refine ⟨fun e s hruns hz ha hx => ?_, fun e s x n d hruns ha he hx hid hd => ?_,
    fun e s x side n d hruns ha he hx hid hd => ?_,
    fun e s x hruns ha he hx hid h2 h3 hz => ?_, fun e s x hruns ha he hx hid h2 h3 hz => ?_,
    fun e s x hruns ha he hx hid hz hr => ?_, fun e s x hruns ha he hx hid hz => ?_, fun e s d hruns h2 h0 h5 hz hd => ?_,
    fun e s hruns h0 hz => ?_, fun s x hx hst hold => ?_⟩
  · have hf := cmdModeBegin_of_none (w := s.ticket e) (s := s.begun e) ha hx hz
    exact completes_of_done hruns rfl hf rfl fun t hans ht _ => ⟨hans, by rw [ht]; rfl, by rw [ht]; rfl⟩
  · exact completes_of_staging (f := cmdStagePort) hruns ⟨ha, he, hx, hid⟩ rfl (fun _ _ _ => rfl) (by rw [hd]; rfl)
  · exact completes_of_staging (f := cmdStageLane) hruns ⟨ha, he, hx, hid⟩ rfl (fun _ _ _ => rfl) (by rw [hd]; rfl)
  · refine completes_of_staging (f := cmdStageDie) hruns ⟨ha, he, hx, hid⟩ rfl (fun _ _ _ => rfl) (if_neg ?_)
    simp [hz, h2, h3]
  · refine completes_of_staging (f := cmdStageFibre) hruns ⟨ha, he, hx, hid⟩ rfl (fun _ _ _ => rfl) (if_neg ?_)
    simp [hz, h2, h3]
  · have hn : s.Names (s.params e) x := ⟨ha, he, hx, hid⟩
    have hf := cmdModeValidate_of_names (w := s.ticket e) (hn.begun e) hz hr
    rw [State.finding_begun] at hf
    by_cases h0 : (s.finding x).status = 0
    · rw [if_neg (not_not.mpr h0)] at hf
      exact completes_of_done hruns rfl hf rfl fun t hans ht hev =>
        ⟨hans, fun _ => ⟨by rw [ht]; rfl, hev⟩, fun h => absurd h0 h⟩
    · rw [if_pos h0] at hf
      exact completes_of_done hruns rfl hf rfl fun t hans ht hev =>
        ⟨hans, fun h => absurd h h0, fun _ => ⟨by rw [ht]; rfl, hev⟩⟩
  · have hf : cmdModeAbort (s.params e) (s.ticket e) (s.begun e) = (okWith, (s.begun e).setTxn none) := by
      unfold cmdModeAbort
      rw [State.inTxn_of_names (State.Names.begun ⟨ha, he, hx, hid⟩ e)]
      exact if_neg (by rw [hz]; decide)
    exact completes_of_done hruns rfl hf rfl fun t hans ht _ => ⟨hans, by rw [ht]; rfl, by rw [ht]; rfl⟩
  · have hf : cmdModeRead (s.params e) (s.ticket e) (s.begun e) =
        (okWith (bitsOf d (64 * (s.params e).byte 5) 32) (bitsOf d (64 * (s.params e).byte 5 + 32) 32), s.begun e) := by
      unfold cmdModeRead
      simp [h2, h0, h5, hz, hd]
    exact completes_of_done hruns rfl hf rfl fun _ hans _ _ => hans
  · have hf : cmdModePortStatus (s.params e) (s.ticket e) (s.begun e) =
        (okWith (s.port ((s.params e).byte 0)).st (s.port ((s.params e).byte 0)).reason, s.begun e) :=
      if_neg (by simp [h0, hz])
    exact completes_of_done hruns rfl hf rfl fun _ hans _ _ => hans
  · exact ⟨_, execModeTxnExpired_of_old hx hst hold, rfl, rfl, rfl, rfl⟩

end Sys2Proof.Machine

/-!
PROOFS. The application of a transaction (O23). An apply works on every part of the block, and of the modes it changes the ports,
the slots of the core welt and how far it has come: one lemma per operation, in the order of the model, says so.
-/

namespace Sys2Proof.Machine

variable {s t : State}

/-! ## What an apply leaves alone in the modes -/

/-- What a transaction is, beside how far its apply has come. -/
def Txn.job (x : Txn) : Nat × TxnSt × Image × Option Ticket := (x.id, x.st, x.staged, x.waiter)

/-- The active image, the image that configures the datapath, and the open transaction. -/
structure Modes (act cfg : Image) (job : Option (Nat × TxnSt × Image × Option Ticket)) (s : State) : Prop where
  active : s.mode.active = act
  run : s.mode.run = cfg
  txn : s.mode.txn.map Txn.job = job

variable {act cfg : Image} {job : Option (Nat × TxnSt × Image × Option Ticket)}

/-- An intermediate state that a proof speaks of several times. -/
theorem Modes.via {x t : State} (hx : Modes act cfg job x) (f : Modes act cfg job x → Modes act cfg job t) :
    Modes act cfg job t := f hx

theorem Modes.ite {c : Prop} {d : Decidable c} {a b : State} (ha : Modes act cfg job a) (hb : Modes act cfg job b) :
    Modes act cfg job (if c then a else b) := by
  split
  · exact ha
  · exact hb

theorem Modes.foldl {α : Type} {xs : List α} {f : State → α → State} (h : Modes act cfg job s)
    (hf : ∀ t x, Modes act cfg job t → Modes act cfg job (f t x)) : Modes act cfg job (xs.foldl f s) := by
  induction xs generalizing s with
  | nil => exact h
  | cons x xs ih => exact ih (hf s x h)

/-! ## The operations of an apply

The sections bear the names of the model's files. -/

section

variable (h : Modes act cfg job s)
include h

/-! ### The shared operations -/

theorem Modes.setReg {r v u i} : Modes act cfg job (s.setReg r v u i) := ⟨h.active, h.run, h.txn⟩
theorem Modes.setCnt {r v u i} : Modes act cfg job (s.setCnt r v u i) := ⟨h.active, h.run, h.txn⟩
theorem Modes.setIsland {id v} : Modes act cfg job (s.setIsland id v) := ⟨h.active, h.run, h.txn⟩
theorem Modes.setWord {a w} : Modes act cfg job (s.setWord a w) := ⟨h.active, h.run, h.txn⟩
theorem Modes.zeroRange {lo hi} : Modes act cfg job (s.zeroRange lo hi) := ⟨h.active, h.run, h.txn⟩
theorem Modes.setEyelet {e v} : Modes act cfg job (s.setEyelet e v) := ⟨h.active, h.run, h.txn⟩
theorem Modes.openWindow {w base limit flags} :
    Modes act cfg job (s.openWindow w base limit flags) := ⟨h.active, h.run, h.txn⟩
theorem Modes.closeWindow {w} : Modes act cfg job (s.closeWindow w) := ⟨h.active, h.run, h.txn⟩
theorem Modes.setFec {p v} : Modes act cfg job (s.setFec p v) := ⟨h.active, h.run, h.txn⟩
theorem Modes.setLast {r l v} : Modes act cfg job (s.setLast r l v) := ⟨h.active, h.run, h.txn⟩
theorem Modes.untrack {die a} : Modes act cfg job (s.untrack die a) := ⟨h.active, h.run, h.txn⟩
theorem Modes.startFade {k f} : Modes act cfg job (s.startFade k f) := ⟨h.active, h.run, h.txn⟩
theorem Modes.startGrid {k} : Modes act cfg job (s.startGrid k) := ⟨h.active, h.run, h.txn⟩
theorem Modes.insSeed {k} : Modes act cfg job (s.insSeed k) := ⟨h.active, h.run, h.txn⟩
theorem Modes.refreshSlots : Modes act cfg job s.refreshSlots := ⟨h.active, h.run, h.txn⟩
theorem Modes.statClear {p} : Modes act cfg job (s.statClear p) := ⟨h.active, h.run, h.txn⟩
theorem Modes.withPwr {x} : Modes act cfg job { s with pwr := x } := ⟨h.active, h.run, h.txn⟩
theorem Modes.withRate {x} : Modes act cfg job { s with rate := x } := ⟨h.active, h.run, h.txn⟩
theorem Modes.withDraining {x} : Modes act cfg job { s with draining := x } := ⟨h.active, h.run, h.txn⟩
theorem Modes.withAqReplies {x} : Modes act cfg job { s with aqReplies := x } := ⟨h.active, h.run, h.txn⟩
theorem Modes.withPllArmed {x} : Modes act cfg job { s with pllArmed := x } := ⟨h.active, h.run, h.txn⟩
theorem Modes.put {f v u i} : Modes act cfg job (s.put f v u i) := ⟨h.active, h.run, h.txn⟩
theorem Modes.putFlag {f v u i} : Modes act cfg job (s.putFlag f v u i) := ⟨h.active, h.run, h.txn⟩
theorem Modes.raise {f u i} : Modes act cfg job (s.raise f u i) := ⟨h.active, h.run, h.txn⟩
theorem Modes.putBit {r n v u} : Modes act cfg job (s.putBit r n v u) := ⟨h.active, h.run, h.txn⟩
theorem Modes.log {c sev p0 p1 p2 p3} : Modes act cfg job (s.log c sev p0 p1 p2 p3) := ⟨h.active, h.run, h.txn⟩
theorem Modes.dropRange {lo hi} : Modes act cfg job (s.dropRange lo hi) := ⟨h.active, h.run, h.txn⟩
theorem Modes.initRange {lo hi} : Modes act cfg job (s.initRange lo hi) := ⟨h.active, h.run, h.txn⟩
theorem Modes.wipe {rows u} : Modes act cfg job (s.wipe rows u) := ⟨h.active, h.run, h.txn⟩
theorem Modes.loseBuried {id} : Modes act cfg job (s.loseBuried id) := ⟨h.active, h.run, h.txn⟩
theorem Modes.endSeq {num obj} : Modes act cfg job (s.endSeq num obj) := ⟨h.active, h.run, h.txn⟩
theorem Modes.setLine {k v} : Modes act cfg job (s.setLine k v) := ⟨h.active, h.run, h.txn⟩
theorem Modes.setHostLane {j v} : Modes act cfg job (s.setHostLane j v) := ⟨h.active, h.run, h.txn⟩
theorem Modes.setInsl {k v} : Modes act cfg job (s.setInsl k v) := ⟨h.active, h.run, h.txn⟩
theorem Modes.setRack {r v} : Modes act cfg job (s.setRack r v) := ⟨h.active, h.run, h.txn⟩
theorem Modes.setClock {d v} : Modes act cfg job (s.setClock d v) := ⟨h.active, h.run, h.txn⟩
theorem Modes.setRanging {g v} : Modes act cfg job (s.setRanging g v) := ⟨h.active, h.run, h.txn⟩
theorem Modes.refreshHost {j} : Modes act cfg job (s.refreshHost j) := ⟨h.active, h.run, h.txn⟩
theorem Modes.refreshPool {d} : Modes act cfg job (s.refreshPool d) := ⟨h.active, h.run, h.txn⟩
theorem Modes.clearLocks {p} : Modes act cfg job (s.clearLocks p) := ⟨h.active, h.run, h.txn⟩
theorem Modes.withTime {x} : Modes act cfg job { s with time := x } := ⟨h.active, h.run, h.txn⟩
theorem Modes.filterCnts {x} : Modes act cfg job { s with cnts := x } := ⟨h.active, h.run, h.txn⟩

theorem Modes.putPort {p st reason} : Modes act cfg job (s.putPort p st reason) :=
  ⟨h.active, h.run, h.txn⟩

theorem Modes.noteLoaded {rs} : Modes act cfg job (s.noteLoaded rs) := by
  unfold State.noteLoaded
  split
  · next x e => exact ⟨h.active, h.run, by rw [← h.txn, e]; rfl⟩
  · exact h

theorem Modes.noteLate {j renew} : Modes act cfg job (s.noteLate j renew) := by
  unfold State.noteLate
  split
  · next x e => exact ⟨h.active, h.run, by rw [← h.txn, e]; rfl⟩
  · exact h

/-! ### Ops -/

theorem Modes.logRate {obj code sev p0 p1 p2 p3} : Modes act cfg job (s.logRate obj code sev p0 p1 p2 p3) := by
  unfold State.logRate
  exact .ite (.withRate (.log h)) h

theorem Modes.cntOverflow {r u i} : Modes act cfg job (s.cntOverflow r u i) := by
  unfold State.cntOverflow
  split
  · exact h
  · exact .logRate (.ite (.raise (.ite (.setReg h) h)) (.raise (.ite (.setReg h) h)))

theorem Modes.inc {r u i n} : Modes act cfg job (s.inc r u i n) := by
  unfold State.inc
  extract_lets
  split
  · exact .ite h (.ite (.setCnt h) (.raise (.setCnt h)))
  · exact .ite (.setCnt h) (.cntOverflow (.setCnt h))

theorem Modes.startSeq {num obj step} : Modes act cfg job (s.startSeq num obj step) := by
  unfold State.startSeq
  exact .ite h (.withPwr h)

theorem Modes.turnIsland {id' v} : Modes act cfg job (s.turnIsland id' v) := by
  unfold State.turnIsland
  exact .ite (.withDraining (.setIsland h)) (.withDraining (.setIsland h))

theorem Modes.finish {t r} : Modes act cfg job (s.finish t r) := by
  unfold State.finish
  exact .ite (.withAqReplies h) (.ite (.setEyelet h) h)

/-! ### Ports -/

theorem Modes.endCalRx {k code check} : Modes act cfg job (s.endCalRx k code check) := by
  unfold State.endCalRx
  split
  · exact h
  · refine .finish (.ite (.log (.raise (.setReg (.put (.put (.putFlag (.setLine h))))))) ?_)
    exact .log (.inc (.raise (.ite (.setReg (.put (.put (.putFlag (.setLine h))))) (.foldl (.setReg (.put (.put
        (.putFlag (.setLine h))))) fun _ _ hf => .setReg hf))))

theorem Modes.endCalTx {k code check} : Modes act cfg job (s.endCalTx k code check) := by
  unfold State.endCalTx
  split
  · exact h
  · refine .finish (.ite (.log (.raise (.setReg (.put (.put (.putFlag (.setLine h))))))) ?_)
    exact .log (.inc (.raise (.ite (.setReg (.put (.put (.putFlag (.setLine h))))) (.foldl (.setReg (.put (.put
        (.putFlag (.setLine h))))) fun _ _ hf => .setReg hf))))

theorem Modes.refreshAmp {k} : Modes act cfg job (s.refreshAmp k) := by
  unfold State.refreshAmp
  exact .ite (.put h) h

theorem Modes.setTxActive {k xs} : Modes act cfg job (s.setTxActive k xs) := by
  unfold State.setTxActive
  exact .foldl (.foldl h fun _ _ hf => .put hf) fun _ _ hf1 => .put hf1

theorem Modes.endRamp {k} : Modes act cfg job (s.endRamp k) := by
  unfold State.endRamp
  split
  · exact h
  · exact .refreshAmp (.raise (.put (.setLine (.setTxActive h))))

theorem Modes.snapTxTrims {k} : Modes act cfg job (s.snapTxTrims k) := by
  unfold State.snapTxTrims
  exact .foldl h fun _ _ hf => .setReg hf

theorem Modes.insRamp {k up} : Modes act cfg job (s.insRamp k up) := by
  unfold State.insRamp
  extract_lets
  split
  · exact .ite h (.setInsl h)
  · exact .ite h (.putFlag (.putFlag (.setInsl h)))

theorem Modes.insPause {k} : Modes act cfg job (s.insPause k) := by
  unfold State.insPause
  exact .ite (.insRamp (.log (.raise (.putFlag h)))) h

theorem Modes.insRelease {k} : Modes act cfg job (s.insRelease k) := by
  unfold State.insRelease
  exact .ite (.ite (.insPause (.startGrid h)) (.insRamp (.startGrid h))) h

theorem Modes.refreshLine {k} : Modes act cfg job (s.refreshLine k) := by
  unfold State.refreshLine
  refine .ite ?_ ?_
  · exact .snapTxTrims (.endCalTx (.endRamp (.log (.raise (.putFlag (.put h))))))
  · exact .ite (.insRelease (.log (.raise (.putFlag (.setLine (.put h)))))) (.put h)

theorem Modes.refreshLines {ks} : Modes act cfg job (s.refreshLines ks) := by
  unfold State.refreshLines
  exact .foldl h fun _ _ hf => .refreshLine hf

theorem Modes.refreshHosts {js} : Modes act cfg job (s.refreshHosts js) := by
  unfold State.refreshHosts
  exact .foldl h fun _ _ hf => .refreshHost hf

theorem Modes.setPort {p st reason} : Modes act cfg job (s.setPort p st reason) := by
  unfold State.setPort
  refine .ite h ?_
  exact .refreshHosts (.refreshLines (.ite (.foldl (.log (.putPort h)) fun _ _ hf => .setReg hf) (.log (.putPort h))))

theorem Modes.restPort {p reason} : Modes act cfg job (s.restPort p reason) := by
  unfold State.restPort
  exact .ite (.setPort h) (.ite (.setPort h) (.ite (.setPort h) (.ite (.setPort h) (.setPort h))))

theorem Modes.refreshDuty {k} : Modes act cfg job (s.refreshDuty k) := by
  unfold State.refreshDuty
  exact .foldl (.put h) fun _ _ hf => .put hf

theorem Modes.refreshOptions {k} : Modes act cfg job (s.refreshOptions k) := by
  unfold State.refreshOptions
  refine .ite ?_ ?_
  · exact .ite h (.log (.raise (.raise (.ite (.put (.startFade (.putFlag h))) (.putFlag h)))))
  · exact .via (.ite (.log (.raise (.put h))) h) fun h1 => .ite (.ite h1 (.startFade h1)) (.putFlag h1)

theorem Modes.refreshThrottle {d} : Modes act cfg job (s.refreshThrottle d) := by
  unfold State.refreshThrottle
  exact .foldl h fun _ _ hf => .refreshDuty (.refreshOptions hf)

/-! ### Links -/

theorem Modes.insMsgDone {k code m} : Modes act cfg job (s.insMsgDone k code m) := by
  unfold State.insMsgDone
  exact .finish (.ite (.raise (.put h)) (.log (.inc (.raise (.put h)))))

theorem Modes.insFlush {k code} : Modes act cfg job (s.insFlush k code) := by
  unfold State.insFlush
  exact .foldl (.setInsl h) fun _ _ hf => .insMsgDone hf

theorem Modes.setRxOk {k v} : Modes act cfg job (s.setRxOk k v) := by
  unfold State.setRxOk
  exact .ite h (.setInsl h)

theorem Modes.insLeave {k st reason code} : Modes act cfg job (s.insLeave k st reason code) := by
  unfold State.insLeave
  refine .ite ?_ (.put h)
  exact .insFlush (.setInsl (.setRxOk (.putFlag (.setInsl (.ite (.raise (.put h)) (.log (.raise (.put h))))))))

theorem Modes.insRxStop {k} : Modes act cfg job (s.insRxStop k) := by
  unfold State.insRxStop
  exact .ite h (.setRxOk (.putFlag (.insLeave h)))

theorem Modes.insAcquire {k} : Modes act cfg job (s.insAcquire k) := by
  unfold State.insAcquire
  exact .ite (.log (.raise (.insSeed h))) (.insSeed h)

theorem Modes.insRxStart {k} : Modes act cfg job (s.insRxStart k) := by
  unfold State.insRxStart
  exact .ite (.insAcquire h) h

theorem Modes.refreshLineIsland {k} : Modes act cfg job (s.refreshLineIsland k) := by
  unfold State.refreshLineIsland
  exact .ite (.turnIsland h) h

theorem Modes.refreshHostIsland {j} : Modes act cfg job (s.refreshHostIsland j) := by
  unfold State.refreshHostIsland
  exact .ite (.turnIsland h) h

theorem Modes.wakeLineRx {k} : Modes act cfg job (s.wakeLineRx k) := by
  unfold State.wakeLineRx
  exact .ite (.refreshLineIsland (.startSeq h)) h

theorem Modes.wakeLineTx {k} : Modes act cfg job (s.wakeLineTx k) := by
  unfold State.wakeLineTx
  exact .ite (.refreshLineIsland (.startSeq h)) h

theorem Modes.wakeHostRx {j} : Modes act cfg job (s.wakeHostRx j) := by
  unfold State.wakeHostRx
  exact .ite (.refreshHostIsland (.startSeq h)) h

theorem Modes.wakeHostTx {j} : Modes act cfg job (s.wakeHostTx j) := by
  unfold State.wakeHostTx
  exact .ite (.refreshHost (.put (.refreshHostIsland (.startSeq h)))) h

theorem Modes.wakeHostRxPort {j} : Modes act cfg job (s.wakeHostRxPort j) := by
  unfold State.wakeHostRxPort
  split
  · exact h
  · exact .foldl h fun _ _ hf => .wakeHostRx hf

theorem Modes.refreshAlign {p} : Modes act cfg job (s.refreshAlign p) := by
  unfold State.refreshAlign
  refine .ite ?_ (.ite (.setPort (.setFec h)) (.setFec h))
  exact .ite (.setPort (.log (.raise (.setFec h)))) (.log (.raise (.setFec h)))

theorem Modes.portRest {p reason} : Modes act cfg job (s.portRest p reason) := by
  unfold State.portRest
  exact .refreshAlign (.restPort h)

theorem Modes.snapRxTrims {k} : Modes act cfg job (s.snapRxTrims k) := by
  unfold State.snapRxTrims
  exact .foldl h fun _ _ hf => .setReg hf

/-! ### Fec -/

theorem Modes.allocGranule {d p use lane index} : Modes act cfg job (s.allocGranule d p use lane index) := by
  unfold State.allocGranule
  split
  · exact h
  · exact .initRange (.setReg h)

theorem Modes.allocPort {p uses} : Modes act cfg job (s.allocPort p uses) := by
  unfold State.allocPort
  exact .refreshPool (.foldl h fun _ _ hf => .allocGranule hf)

theorem Modes.releasePort {p uses} : Modes act cfg job (s.releasePort p uses) := by
  unfold State.releasePort
  exact .refreshPool (.foldl h fun _ _ hf => .ite (.setReg hf) hf)

/-! ### Memory -/

theorem Modes.writeWord {a d} : Modes act cfg job (s.writeWord a d) := by
  unfold State.writeWord
  extract_lets
  split
  · exact .untrack (.setWord h)
  · exact .setWord h

/-! ### Lasts -/

theorem Modes.toNewest {r mask} : Modes act cfg job (s.toNewest r mask) := by
  unfold State.toNewest
  exact .foldl h fun _ _ hf => .ite (.setLast hf) hf

theorem Modes.setHalt {r mask} : Modes act cfg job (s.setHalt r mask) := by
  unfold State.setHalt
  exact .toNewest (.put (.put (.put (.put h))))

theorem Modes.startRack {r} : Modes act cfg job (s.startRack r) := by
  unfold State.startRack
  exact .toNewest (.setHalt (.setRack (.foldl h fun _ _ hf => .setLast hf)))

theorem Modes.writeTables {r es} : Modes act cfg job (s.writeTables r es) := by
  unfold State.writeTables
  exact .foldl (.zeroRange h) fun _ _ hf => .foldl hf fun _ _ hf1 => .foldl hf1 fun _ _ hf2 => .writeWord hf2

theorem Modes.loadRack {r id'} : Modes act cfg job (s.loadRack r id') := by
  unfold State.loadRack
  refine .startRack (.put (.put ?_))
  split
  · exact .put (.putFlag (.setRack (.writeTables (.foldl (.initRange (.setHalt h)) fun _ _ hf => .writeWord hf))))
  · exact .put (.putFlag (.setRack (.writeTables (.initRange (.initRange (.setHalt h))))))

theorem Modes.rackOff {r} : Modes act cfg job (s.rackOff r) := by
  unfold State.rackOff
  exact .foldl (.setRack (.loseBuried (.dropRange (.wipe (.turnIsland h))))) fun _ _ hf => .setLast hf

theorem Modes.rackOn {r} : Modes act cfg job (s.rackOn r) := by
  unfold State.rackOn
  exact .ite h (.turnIsland h)

/-! ### Time -/

theorem Modes.refreshPps : Modes act cfg job s.refreshPps := by
  unfold State.refreshPps
  exact .ite h (.withTime h)

theorem Modes.putTod {d st} : Modes act cfg job (s.putTod d st) := by
  unfold State.putTod
  refine .ite h ?_
  exact .via (.ite (.setClock h) h) fun h1 => .refreshPps (.log (.putFlag (.putFlag (.raise (.put (.ite (.setClock
      (.ite (.setClock h1) h1)) (.ite (.setClock h1) h1)))))))

theorem Modes.setTod {d st} : Modes act cfg job (s.setTod d st) := by
  unfold State.setTod
  exact .ite (.putTod (.putTod h)) (.putTod h)

theorem Modes.sourceLost {d} : Modes act cfg job (s.sourceLost d) := by
  unfold State.sourceLost
  exact .ite (.setTod h) h

theorem Modes.refreshTimeIsland {d} : Modes act cfg job (s.refreshTimeIsland d) := by
  unfold State.refreshTimeIsland
  refine .ite ?_ ?_
  · exact .setClock (.ite (.put (.putFlag (.putFlag (.putFlag (.turnIsland h))))) (.put (.put (.put (.put (.put
      (.put (.put (.putFlag (.putFlag (.putFlag (.turnIsland h))))))))))))
  · refine .ite ?_ h
    exact .withTime (.refreshPps (.foldl (.wipe (.setClock (.loseBuried (.turnIsland h)))) fun _ _ hf => .wipe hf))

theorem Modes.setCtxs {d cs} : Modes act cfg job (s.setCtxs d cs) := by
  unfold State.setCtxs
  exact .foldl (.put (.put (.withTime h))) fun _ _ hf =>
    .ite (.putFlag (.put hf)) (.put hf)

theorem Modes.freeCtxs {p} : Modes act cfg job (s.freeCtxs p) := by
  unfold State.freeCtxs
  exact .setCtxs h

theorem Modes.rangeClear {g} : Modes act cfg job (s.rangeClear g) := by
  unfold State.rangeClear
  exact .ite h (.setRanging (.ite (.log h) h))

/-! ### HostLane -/

theorem Modes.applyTxEq {j} : Modes act cfg job (s.applyTxEq j) := by
  unfold State.applyTxEq
  exact .ite (.raise (.put (.put (.put (.setReg h))))) (.put (.put (.put (.setReg h))))

theorem Modes.txEqWrite {j data} : Modes act cfg job (s.txEqWrite j data) := by
  unfold State.txEqWrite
  exact .applyTxEq (.setReg h)

theorem Modes.rxEqWrite {j data} : Modes act cfg job (s.rxEqWrite j data) := by
  unfold State.rxEqWrite
  exact .ite (.setReg h) (.put (.setReg h))

/-! ### Insole -/

theorem Modes.insIslandOn {d} : Modes act cfg job (s.insIslandOn d) := by
  unfold State.insIslandOn
  exact .ite (.turnIsland h) h

theorem Modes.insIslandOff {d} : Modes act cfg job (s.insIslandOff d) := by
  unfold State.insIslandOff
  exact .ite h (.ite (.turnIsland h) (.dropRange (.foldl (.wipe (.turnIsland h)) fun _ _ hf => .setInsl (.wipe hf))))

theorem Modes.insDown {k} : Modes act cfg job (s.insDown k) := by
  unfold State.insDown
  exact .ite h (.putFlag (.putFlag (.setInsl (.insFlush (.insRxStop h)))))

theorem Modes.insCut {k} : Modes act cfg job (s.insCut k) := by
  unfold State.insCut
  exact .ite (.setInsl h) h

theorem Modes.insDisable {k} : Modes act cfg job (s.insDisable k) := by
  unfold State.insDisable
  refine .ite h (.insRamp (.setRxOk (.setInsl (.insCut ?_))))
  split
  · exact .finish (.setInsl (.putFlag (.insFlush (.insLeave h))))
  · exact .putFlag (.insFlush (.insLeave h))

theorem Modes.insEnable {k} : Modes act cfg job (s.insEnable k) := by
  unfold State.insEnable
  exact .via (.refreshAmp (.insRxStart (.ite (.put h) h))) fun h1 => .ite h1 (.ite (.insPause (.startGrid h1))
      (.insRamp (.startGrid h1)))

/-! ### Modes -/

theorem Modes.loadCal {kind index o r n u} : Modes act cfg job (s.loadCal kind index o r n u) := by
  unfold State.loadCal
  refine .foldl h fun _ _ hf => ?_
  split
  · exact .setReg hf
  · exact hf

theorem Modes.lineOff {k} : Modes act cfg job (s.lineOff k) := by
  unfold State.lineOff
  exact .setLine (.loseBuried (.dropRange (.wipe (.turnIsland (.putBit (.endSeq (.endSeq (.endSeq (.foldl h fun _ _
      hf => .ite hf (.rackOff hf))))))))))

theorem Modes.dropWaiters {j} : Modes act cfg job (s.dropWaiters j) := by
  unfold State.dropWaiters
  extract_lets _ _ s1
  have h1 : Modes act cfg job s1 := .foldl (.setHostLane h) fun _ _ hf => .finish hf
  split
  · exact .finish h1
  · exact h1

theorem Modes.hostOff {j} : Modes act cfg job (s.hostOff j) := by
  unfold State.hostOff
  exact .loseBuried (.dropRange (.wipe (.turnIsland (.endSeq (.endSeq (.dropWaiters h))))))

theorem Modes.refreshFecIsland {d} : Modes act cfg job (s.refreshFecIsland d) := by
  unfold State.refreshFecIsland
  refine .ite ?_ ?_
  · exact .refreshPool (.foldl (.turnIsland h) fun _ _ hf => .ite (.raise hf) hf)
  · refine .ite ?_ h
    exact .loseBuried (.dropRange (.foldl (.wipe (.turnIsland h)) fun _ _ hf1 => .setFec (.wipe hf1)))

theorem Modes.portDownStep {p} : Modes act cfg job (s.portDownStep p) := by
  unfold State.portDownStep
  exact .clearLocks (.freeCtxs (.foldl (.foldl (.setPort h) fun _ _ hf => .insDown hf) fun _ _ hf1 => .dropWaiters
      hf1))

theorem Modes.zeroKernels {k} : Modes act cfg job (s.zeroKernels k) := by
  unfold State.zeroKernels
  exact .foldl h fun _ _ hf => .put hf

theorem Modes.configOptions {k} : Modes act cfg job (s.configOptions k) := by
  unfold State.configOptions
  exact .via (.putFlag (.putFlag (.putFlag h))) fun h1 => .ite (.setLine (.putFlag (.zeroKernels h1))) (.ite
      (.setLine h1) h1)

theorem Modes.removeVnle {k} : Modes act cfg job (s.removeVnle k) := by
  unfold State.removeVnle
  exact .ite (.setLine (.putFlag (.zeroKernels h))) h

theorem Modes.retune {k} : Modes act cfg job (s.retune k) := by
  unfold State.retune
  exact .refreshLine (.startSeq (.withPllArmed (.putBit h)))

theorem Modes.renewLine {k first} : Modes act cfg job (s.renewLine k first) := by
  unfold State.renewLine
  exact .setTxActive (.loadCal (.loadCal (.snapTxTrims (.snapRxTrims (.ite (.loadCal (.loadCal (.putFlag (.putFlag
      (.putFlag h))))) (.putFlag (.putFlag (.putFlag h))))))))

theorem Modes.configLine {old k renew} : Modes act cfg job (s.configLine old k renew) := by
  unfold State.configLine
  extract_lets
  split
  · exact h
  · exact .via (.ite (.turnIsland h) h) fun h2 => .via (.put (.put (.put (.put (.configOptions (.ite (.renewLine
      (.putFlag (.putFlag (.ite (.retune h2) h2)))) (.putFlag (.putFlag (.ite (.retune h2) h2))))))))) fun h1 =>
      .refreshLine (.ite (.wakeLineTx (.ite (.wakeLineRx h1) h1)) (.ite (.wakeLineRx h1) h1))

theorem Modes.configRacks {old k renew} : Modes act cfg job (s.configRacks old k renew) := by
  unfold State.configRacks
  exact .via (.foldl h fun _ _ hf => .ite hf (.rackOff hf)) fun h1 => .refreshDuty (.ite (.noteLoaded (.foldl h1 fun
      _ _ hf1 => .loadRack (.rackOn hf1))) h1)

theorem Modes.setHost {j renew} : Modes act cfg job (s.setHost j renew) := by
  unfold State.setHost
  extract_lets
  split
  · exact h
  · refine .refreshHost (.ite ?_ (.put (.put (.put h))))
    exact .setHostLane (.foldl (.put (.put (.rxEqWrite (.txEqWrite (.putFlag (.putFlag (.putFlag (.put (.put (.put
        h)))))))))) fun _ _ hf => .put hf)

theorem Modes.configHost {j renew wake} : Modes act cfg job (s.configHost j renew wake) := by
  unfold State.configHost
  refine .ite h ?_
  exact .via (.ite (.wakeHostRxPort (.ite (.turnIsland h) h)) (.ite (.turnIsland h) h)) fun h1 => .ite (.noteLate
      (.ite (.wakeHostTx h1) h1)) (.setHost (.ite (.wakeHostTx h1) h1))

theorem Modes.configDelays : Modes act cfg job s.configDelays := by
  unfold State.configDelays
  refine .foldl h fun _ _ h1 => .ite (.refreshTimeIsland h1) ?_
  refine .foldl (.foldl (.refreshTimeIsland h1) fun t k ht => ?_) fun _ _ h2 => .loadCal h2
  extract_lets put
  have hput : ∀ t f n, Modes act cfg job t → Modes act cfg job (put t f n) := by
    intro t f n ht
    unfold put
    split
    · exact .setReg ht
    · exact ht
  exact hput _ _ _ (hput _ _ _ ht)

theorem Modes.configSlots {old} : Modes act cfg job (s.configSlots old) := by
  unfold State.configSlots
  exact .foldl (.foldl h fun _ _ hf => .ite (.put (.setInsl (.initRange hf))) hf) fun _ _ hf1 => .ite (.openWindow
      hf1) (.closeWindow hf1)

theorem Modes.configPool {old renewed} : Modes act cfg job (s.configPool old renewed) := by
  unfold State.configPool
  exact .foldl (.foldl h fun _ _ hf => .releasePort hf) fun _ _ hf1 => .allocPort hf1

theorem Modes.configFec {old p renew} : Modes act cfg job (s.configFec old p renew) := by
  unfold State.configFec
  extract_lets _ _ _ s1 _ _ s2
  have h2 : Modes act cfg job s1 := .put (.put (.putFlag (.putFlag (.putFlag (.putFlag h)))))
  have h1 : Modes act cfg job s2 :=
  .ite (.filterCnts (.ite (.statClear (.put h2)) (.put h2))) (.ite (.statClear (.put h2)) (.put h2))
  refine .ite h1 ?_
  exact .putFlag (.ite (.withTime (.putFlag (.putFlag (.put h1)))) (.putFlag (.putFlag (.put h1))))

theorem Modes.configIns {old k renew} : Modes act cfg job (s.configIns old k renew) := by
  unfold State.configIns
  exact .via (.ite (.insDisable h) h) fun h1 => .ite (.insEnable (.put (.putFlag (.putFlag (.putFlag (.putFlag
      (.putFlag (.ite (.insFlush h1) h1)))))))) (.put (.putFlag (.putFlag (.putFlag (.putFlag (.putFlag (.ite
      (.insFlush h1) h1)))))))

theorem Modes.configTime {old down} : Modes act cfg job (s.configTime old down) := by
  unfold State.configTime
  exact .via (.foldl h fun _ _ hf => .ite (.rangeClear hf) hf) fun h1 => .ite (.sourceLost h1) h1

end

/-! ## The apply (R58) -/

theorem Modes.withRun {m : Image} (h : Modes act cfg job s) : Modes act m job { s with mode := { s.mode with run := m } } :=
  ⟨h.active, rfl, h.txn⟩

theorem Modes.withSlots {ab ba} (h : Modes act cfg job s) :
    Modes act cfg job { s with mode := { s.mode with slotsAB := ab, slotsBA := ba } } := ⟨h.active, h.run, h.txn⟩

theorem Modes.setTxn {x : Txn} (h : Modes act cfg job s) : Modes act cfg (some x.job) (s.setTxn (some x)) :=
  ⟨h.active, h.run, rfl⟩

/-- What the open transaction is, where the modes say so. -/
theorem Modes.exists_txn {j} (h : Modes act cfg (some j) s) : ∃ x, s.mode.txn = some x ∧ x.job = j :=
  Option.map_eq_some_iff.mp h.txn

/-- Steps 1 to 6 take the staged image over and leave the active one. -/
theorem Modes.applyBegin {x : Txn} (h : Modes act cfg job s) :
    Modes act x.staged (some (x.id, .applying, x.staged, x.waiter)) (s.applyBegin x) := by
  unfold State.applyBegin
  extract_lets old new down redo hit gone fresh y s1 touched s2 s3 s4 js _ s5 s6 s7 _ s8 s9 s10 renewed s11 s12
  have h1 : Modes act cfg (some y.job) s1 := .setTxn h
  have h5 : Modes act cfg (some y.job) s5 :=
    .withSlots (.foldl (.foldl (.foldl h1 fun _ _ ht => .endCalTx (.endCalRx ht)) fun _ _ ht => .portDownStep ht)
      fun _ _ ht => .releasePort ht)
  have h8 : Modes act x.staged (some y.job) s8 :=
    .withRun (.foldl (.foldl h5 fun _ _ ht => .ite (.lineOff (.putFlag ht)) ht) fun _ _ ht => .ite (.hostOff ht) ht)
  have h11 : Modes act x.staged (some y.job) s11 :=
    .foldl (.foldl (.foldl h8 fun _ _ ht => .setPort ht) fun _ _ ht => .insIslandOn (.refreshFecIsland (.refreshThrottle ht)))
      fun _ _ ht => .ite (.clearLocks (.setPort ht)) ht
  have h12 : Modes act x.staged (some y.job) s12 :=
    .foldl h11 fun _ _ ht => .foldl (.foldl ht fun _ _ ht => .configRacks (.configLine ht)) fun _ _ ht => .configHost ht
  exact .refreshSlots (.foldl (.configPool (.configDelays (.configSlots h12))) fun _ _ ht => .withSlots ht)

/-- Step 7 is a row of operations, and step 8 comes last: what those operations keep holds of the state that step 8 meets. -/
theorem State.applyFinish_induct {P : State → Prop} (x : Txn) (h : P s) (hHost : ∀ t j renew, P t → P (t.setHost j renew))
    (hVnle : ∀ t k, P t → P (t.removeVnle k)) (hFec : ∀ t old p renew, P t → P (t.configFec old p renew))
    (hIns : ∀ t old k renew, P t → P (t.configIns old k renew)) (hTime : ∀ t old down, P t → P (t.configTime old down))
    (hOff : ∀ t d, P t → P (t.insIslandOff d)) (hRest : ∀ t p, P t → P (t.portRest p 0)) :
    ∃ u : State, s.applyFinish x = u.applyEnd x ∧ P u := by
  unfold State.applyFinish
  extract_lets old new renewed s1 s2 s3 s4 s5 s6 s7
  have h1 : P s1 := List.foldlRecOn _ _ h fun t ht y _ => iteInduction (fun _ => ht) fun _ => hHost t _ _ ht
  have h2 : P s2 := List.foldlRecOn _ _ h1 fun t ht k _ => hVnle t k ht
  have h3 : P s3 := List.foldlRecOn _ _ h2 fun t ht p _ => hFec t _ p _ ht
  have h4 : P s4 := List.foldlRecOn _ _ h3 fun t ht k _ => hIns t _ k _ ht
  have h6 : P s6 := List.foldlRecOn _ _ (hTime s4 _ _ h4) fun t ht d _ => hOff t d ht
  exact ⟨s7, rfl, List.foldlRecOn _ _ h6 fun t ht p _ =>
    iteInduction (fun _ => ht) fun _ => iteInduction (fun _ => hRest t p ht) fun _ => ht⟩

/-- Until step 8 an apply may log events, and it leaves the image that configures the datapath alone. -/
theorem State.applyFinish_eq_applyEnd (s : State) (x : Txn) :
    ∃ u : State, s.applyFinish x = u.applyEnd x ∧ u.mode.run = s.mode.run ∧ s.events <+: u.events := by
  obtain ⟨u, hu, hm, hk⟩ := State.applyFinish_induct (s := s) x
    (P := fun u => Modes s.mode.active s.mode.run (s.mode.txn.map Txn.job) u ∧ Kept s u true false)
    ⟨⟨rfl, rfl, rfl⟩, .refl⟩ (fun _ _ _ => .imp (.setHost ·) (.setHost ·)) (fun _ _ => .imp (.removeVnle ·) (.removeVnle ·))
    (fun _ _ _ _ => .imp (.configFec ·) (.configFec ·)) (fun _ _ _ _ => .imp (.configIns ·) (.configIns ·))
    (fun _ _ _ => .imp (.configTime ·) (.configTime ·)) (fun _ _ => .imp (.insIslandOff ·) (.insIslandOff ·))
    (fun _ _ => .imp (.portRest ·) (.portRest ·))
  exact ⟨u, hu, hm.run, hk.events rfl⟩

/-! ## Step 8 (R60, R65) -/

/-- The image becomes active, and the transaction closes. -/
def State.closeTxn (s : State) : State := { s with mode := { s.mode with active := s.mode.run, txn := none } }

/-- What step 8 logs of the apply: MODE_APPLIED, and MODE_APPLY_FAULT where ports faulted. -/
def State.logApplied (s : State) (x : Txn) : State :=
  let s := s.log 0x1501 sevInfo x.id x.down x.hit
  if x.faulted = 0 then s else s.log 0x1505 sevErr x.id x.faulted x.firstFault

/-- The new device state and the completion follow what step 8 logs of the apply. -/
theorem State.applyEnd_keeps (s : State) (x : Txn) : Kept (s.closeTxn.logApplied x) (s.applyEnd x) true false := by
  unfold State.applyEnd
  extract_lets _ s1 s2 s3 s4
  have h : Kept (s.closeTxn.logApplied x) s4 true false := .ite (.toPwr .refl) .refl
  split
  · exact .finish h
  · exact h

@[simp] theorem State.toPwr_mode (s : State) (st : Nat) : (s.toPwr st).mode = s.mode := by
  unfold State.toPwr
  extract_lets old
  split <;> rfl

theorem State.applyEnd_mode (s : State) (x : Txn) : (s.applyEnd x).mode = s.closeTxn.mode := by
  unfold State.applyEnd
  extract_lets _ s1 s2 s3 s4
  have h3 : s3.mode = s.closeTxn.mode := by
    unfold s3
    split <;> rfl
  have h4 : s4.mode = s.closeTxn.mode := by
    unfold s4
    split
    · rw [State.toPwr_mode, h3]
    · exact h3
  split
  · rw [State.finish_mode, h4]
  · exact h4

/-- Events that were on their way earlier are no obstacle. -/
theorem sent_of_prefix {u : State} {code sev p0 p1 p2 p3 : Nat} (h : Sent u t code sev p0 p1 p2 p3)
    (hp : s.events <+: u.events) : Sent s t code sev p0 p1 p2 p3 := by
  obtain ⟨pre, post, e⟩ := h
  obtain ⟨older, ho⟩ := hp
  exact ⟨older ++ pre, post, by rw [e, ← ho]; simp⟩

theorem Kept.sent_applied {x : Txn} (h : Kept (s.logApplied x) t true false) : Sent s t 0x1501 sevInfo x.id x.down x.hit := by
  have hlog : Kept (s.log 0x1501 sevInfo x.id x.down x.hit) (s.logApplied x) true false := .ite .refl (.log .refl)
  obtain ⟨post, e⟩ := (hlog.events rfl).trans (h.events rfl)
  exact ⟨[], post, by rw [← e, State.log]; simp⟩

theorem Kept.sent_applyFault {x : Txn} (h : Kept (s.logApplied x) t true false) (hf : x.faulted ≠ 0) :
    Sent s t 0x1505 sevErr x.id x.faulted x.firstFault := by
  unfold State.logApplied at h
  rw [if_neg hf] at h
  exact sent_of_prefix (h.sent rfl) (List.prefix_append _ _)

/-- MODE_APPLY of a validated transaction that still validates: the apply begins for whoever waits. -/
theorem cmdModeApply_of_names {p : Params} {x : Txn} {w : Ticket} (h : s.Names p x) (hz : p.zeroFrom 2 = true)
    (hr : s.modeReady = true) (hst : x.st = .validated) (hv : (s.finding x).status = 0) :
    ∃ u, cmdModeApply p w s = (.later, u) ∧ Modes s.mode.active x.staged (some (x.id, .applying, x.staged, some w)) u := by
  have hm : Modes s.mode.active s.mode.run (s.mode.txn.map Txn.job) s := ⟨rfl, rfl, rfl⟩
  refine ⟨_, ?_, Modes.applyBegin (x := { x with touched := s.now, waiter := some w })
    (hm.setTxn (x := { x with touched := s.now }))⟩
  unfold State.finding at hv
  unfold cmdModeApply
  rw [State.inTxn_of_names h, if_pos rfl]
  dsimp only
  rw [if_neg (by rw [hz]; decide), if_neg (by rw [State.modeReady_setTxn, hr]; decide), if_neg (not_not.mpr hst),
    if_neg (not_not.mpr hv)]
  rfl

/-- MODE_APPLY_COMPLETE once nothing that the apply started is still under way. -/
theorem execModeApplyComplete_of_ready {x : Txn} (hx : s.mode.txn = some x) (hst : x.st = .applying)
    (hr : s.applyReady x = true) : Machine.execModeApplyComplete s = .next (s.applyFinish x) := by
  unfold Machine.execModeApplyComplete
  rw [hx]
  exact congrArg Host.Outcome.next (if_pos ⟨hst, hr⟩)

/-- Settles O23: steps 1 to 6 and step 7 are rows of operations that keep the modes, and the images change between them. -/
theorem applyResults : Obligations.ApplyResults := by
  unfold Obligations.ApplyResults
  refine ⟨fun e s x hruns ha he hx hid hz hr hst hv => ?_, fun s x hx hst hready => ?_⟩
  · have hn : s.Names (s.params e) x := ⟨ha, he, hx, hid⟩
    obtain ⟨u, hf, hm⟩ := cmdModeApply_of_names (w := s.ticket e) (hn.begun e) hz hr hst hv
    obtain ⟨y, hy, hjob⟩ := hm.exists_txn
    refine completes_of_later hruns rfl hf ?_
    obtain ⟨hyid, hyst, hystaged, hywaiter⟩ : y.id = x.id ∧ y.st = .applying ∧ y.staged = x.staged ∧
        y.waiter = some (s.ticket e) := by simpa [Txn.job] using hjob
    refine ⟨?_, hm.run, hm.active, ?_⟩
    · rw [State.applying, hy]
      exact beq_iff_eq.mpr hyst
    · rw [hy]
      simp only [Option.map_some, hyid, hystaged, hywaiter]
      rfl
  · obtain ⟨u, hu, hrun, hev⟩ := s.applyFinish_eq_applyEnd x
    have hmode : (s.applyFinish x).mode = u.closeTxn.mode := by rw [hu, State.applyEnd_mode]
    have hk : Kept (u.closeTxn.logApplied x) (s.applyFinish x) true false := hu ▸ u.applyEnd_keeps x
    refine ⟨_, execModeApplyComplete_of_ready hx hst hready, by rw [hmode]; rfl, by rw [hmode]; exact hrun, ?_,
      sent_of_prefix hk.sent_applied hev, fun hf => sent_of_prefix (hk.sent_applyFault hf) hev⟩
    rw [State.applying, hmode]
    rfl

end Sys2Proof.Machine

/-!
PROOFS. Rules for the line lanes (O16, O17): counters with a SAT cause, signed fields, completions, islands, and what the loss
of a receive lock leaves alone.
-/

namespace Sys2Proof.Machine

open Host

variable {s t : State}

/-! ## Counters with a SAT cause (R135) -/

section

variable {r : Reg} {u : Nat} {f : Fld} {fu : Nat} (h : satField r u = some (f, fu))
include h

/-- An error-statistics counter that counts one more stays at its maximum, takes a value, or takes a value and sets SAT. -/
theorem State.inc_cases (s : State) (i : Nat) :
    s.inc r u i = s ∨ (∃ v, s.inc r u i = s.setCnt r v u i) ∨ ∃ v, s.inc r u i = (s.setCnt r v u i).raise f fu := by
  unfold State.inc
  simp only [h]
  split
  · exact .inl rfl
  · split
    · exact .inr (.inl ⟨_, rfl⟩)
    · exact .inr (.inr ⟨_, rfl⟩)

/-- A part of the state that the counter and its SAT cause leave alone. -/
theorem State.inc_part {α : Type} {i : Nat} (p : State → α) (hc : ∀ v, p (s.setCnt r v u i) = p s)
    (hr : ∀ v, p ((s.setCnt r v u i).raise f fu) = p (s.setCnt r v u i)) : p (s.inc r u i) = p s := by
  obtain e | ⟨v, e⟩ | ⟨v, e⟩ := State.inc_cases h s i
  · rw [e]
  · rw [e, hc]
  · rw [e, hr, hc]

theorem State.fld_inc {g : Fld} (hg : g.fits = true) (ha : f.apart g = true) (i u' i' : Nat) :
    (s.inc r u i).fld g u' i' = s.fld g u' i' :=
  State.inc_part h (fun x => x.fld g u' i') (fun _ => rfl) fun _ => State.fld_put_apart _ hg ha ..

end

/-! ## Two's complement codes -/

theorem signed_mod (w v : Nat) : signed w (v % 2 ^ w) = signed w v := by
  unfold signed
  rw [Nat.mod_mod]

/-- The code of a number in range stands for that number. -/
theorem signed_unsigned {w : Nat} {x : Int} (hw : 0 < w) (hlo : -(2 ^ (w - 1) : Nat) ≤ x) (hhi : x < (2 ^ (w - 1) : Nat)) :
    signed w (unsigned w x) = x := by
  obtain ⟨n, rfl⟩ : ∃ n, w = n + 1 := ⟨w - 1, by omega⟩
  have hp : (2 ^ (n + 1) : Nat) = 2 * 2 ^ n := Nat.pow_succ'
  rw [Nat.add_sub_cancel] at hlo hhi
  unfold signed unsigned
  rw [Nat.add_sub_cancel, hp]
  generalize 2 ^ n = m at hlo hhi
  have hmod : x % ((2 * m : Nat) : Int) = if 0 ≤ x then x else x + (2 * m : Nat) := by
    split
    · exact Int.emod_eq_of_lt (by omega) (by omega)
    · rw [← Int.add_emod_right]
      exact Int.emod_eq_of_lt (by omega) (by omega)
  rw [hmod, Nat.mod_eq_of_lt (by split <;> omega)]
  dsimp only
  split <;> split <;> omega

theorem satSigned_bounds (w : Nat) (x : Int) :
    -(2 ^ (w - 1) : Nat) ≤ satSigned w x ∧ satSigned w x < (2 ^ (w - 1) : Nat) := by
  have hp : 0 < 2 ^ (w - 1) := Nat.two_pow_pos _
  unfold satSigned clampI
  generalize 2 ^ (w - 1) = m at hp
  split
  · omega
  · split <;> omega

/-- A signed field just written with a saturated value reads as that value. -/
theorem signed_getBits_setBits {lo w : Nat} (h : lo + w ≤ 32) (hw : 0 < w) (x : W32) (y : Int) :
    signed w (getBits (setBits x lo w (unsigned w (satSigned w y))) lo w) = satSigned w y := by
  obtain ⟨hlo, hhi⟩ := satSigned_bounds w y
  rw [getBits_setBits_self x _ h, signed_mod, signed_unsigned hw hlo hhi]

theorem satN_lt (w n : Nat) : satN w n < 2 ^ w := by
  have hp : 0 < 2 ^ w := Nat.two_pow_pos _
  unfold satN
  split <;> omega

/-- A field that counts reads one more, and saturates (R135). -/
theorem State.fld_bump_self {f : Fld} (h : f.fits = true) (u i : Nat) :
    (s.bump f u i).fld f u i = satN f.w (s.fld f u i + 1) := by
  rw [State.bump, State.fld_put_self _ h, Nat.mod_eq_of_lt (satN_lt ..)]

/-! ## Completions (R333) -/

/-- A completion changes the mailbox and Aqique's replies alone. -/
theorem State.finish_eq (s : State) (w : Ticket) (r : Reply) : ∃ q m, s.finish w r = { s with aqReplies := q, mbx := m } := by
  unfold State.finish
  split
  · exact ⟨_, _, rfl⟩
  · dsimp only
    split
    · exact ⟨_, _, rfl⟩
    · exact ⟨_, _, rfl⟩

theorem State.finish_lines (w : Ticket) (r : Reply) : (s.finish w r).lines = s.lines := by
  obtain ⟨q, m, e⟩ := s.finish_eq w r
  rw [e]

theorem State.reg_finish (w : Ticket) (r : Reply) (q : Reg) (u i : Nat) : (s.finish w r).reg q u i = s.reg q u i := by
  obtain ⟨_, _, e⟩ := s.finish_eq w r
  rw [e]
  rfl

theorem State.fld_finish (w : Ticket) (r : Reply) (f : Fld) (u i : Nat) : (s.finish w r).fld f u i = s.fld f u i := by
  rw [State.fld, State.reg_finish, State.fld]

/-- A completion for Aqique, or for another eyelet, leaves an eyelet alone. -/
theorem State.eyelet_finish_of_other {w : Ticket} {e : Nat} (h : w.aqique = true ∨ w.eyelet ≠ e) (r : Reply) :
    (s.finish w r).eyelet e = s.eyelet e := by
  unfold State.finish
  split
  · rfl
  · next ha =>
    dsimp only
    split
    · rw [State.eyelet_setEyelet, if_neg (h.resolve_left ha).symm]
    · rfl

/-- The completion of a handler that has left its own eyelet alone reaches it, whatever other eyelets now hold. -/
theorem State.reply_finish_ticket {e : Fin 256} {cls cmd : Nat} (h : Runs s e cls cmd)
    (ht : t.eyelet e = (s.begun e).eyelet e) (r : Reply) : ((t.finish (s.ticket e) r).eyelet e).reply = some r := by
  obtain ⟨-, -, hst, -, hr, -, -⟩ := h
  have he : t.eyelet e = { s.eyelet e with started := true } := by
    rw [ht, State.begun, State.eyelet_setEyelet, if_pos rfl]
  have hf : t.finish (s.ticket e) r = t.setEyelet e { t.eyelet e with reply := some r } := by
    unfold State.finish
    rw [if_neg (by simp [State.ticket])]
    exact if_pos ⟨by simp [State.ticket, he, hst], by simp [State.ticket, he], by simp [State.ticket, he, hr]⟩
  rw [hf, State.eyelet_setEyelet, if_pos rfl]

/-! ## Islands and wakes (R34, R402) -/

theorem State.turnIsland_eq (s : State) (id : Nat) (v : IslandSt) :
    ∃ is ds, s.turnIsland id v = { s with islands := is, draining := ds } := by
  unfold State.turnIsland
  extract_lets
  split
  · exact ⟨_, _, rfl⟩
  · exact ⟨_, _, rfl⟩

theorem State.refreshLineIsland_eq (s : State) (k : Nat) :
    ∃ is ds, s.refreshLineIsland k = { s with islands := is, draining := ds } := by
  unfold State.refreshLineIsland
  split
  · exact s.turnIsland_eq _ _
  · exact ⟨_, _, rfl⟩

theorem State.startSeq_eq (s : State) (num obj step : Nat) : ∃ p, s.startSeq num obj step = { s with pwr := p } := by
  unfold State.startSeq
  split
  · exact ⟨_, rfl⟩
  · exact ⟨_, rfl⟩

/-- A wake works on the sequences and the island of its lane. -/
theorem State.wakeLineRx_eq (s : State) (k : Nat) :
    ∃ p is ds, s.wakeLineRx k = { s with pwr := p, islands := is, draining := ds } := by
  unfold State.wakeLineRx
  split
  · obtain ⟨p, e⟩ := s.startSeq_eq 5 k 1
    obtain ⟨is, ds, e'⟩ := (s.startSeq 5 k).refreshLineIsland_eq k
    exact ⟨p, is, ds, by rw [e', e]⟩
  · exact ⟨_, _, _, rfl⟩

theorem State.flag_wakeLineRx (k : Nat) (f : Fld) (u i : Nat) : (s.wakeLineRx k).flag f u i = s.flag f u i := by
  obtain ⟨_, _, _, e⟩ := s.wakeLineRx_eq k
  rw [e]
  rfl

theorem State.events_wakeLineRx (k : Nat) : (s.wakeLineRx k).events = s.events := by
  obtain ⟨_, _, _, e⟩ := s.wakeLineRx_eq k
  rw [e]

theorem State.seqOn_startSeq_self (num obj step : Nat) : (s.startSeq num obj step).seqOn num obj = true := by
  unfold State.startSeq
  split
  · assumption
  · simp [State.seqOn]

/-- A dozing receive direction that is woken restarts (R68). -/
theorem State.seqOn_wakeLineRx {k : Nat} (h : s.flag LRX_STAT.DOZE k = true) : (s.wakeLineRx k).seqOn 5 k = true := by
  obtain ⟨is, ds, e⟩ := (s.startSeq 5 k).refreshLineIsland_eq k
  rw [State.wakeLineRx, if_pos h, e]
  exact State.seqOn_startSeq_self 5 k 1

/-- An island that holds no accepted request goes into doze at once (R35). -/
theorem State.island_turnIsland_of_idle {id : Nat} (h : s.accepted id = []) (v : IslandSt) :
    (s.turnIsland id v).island id = v := by
  unfold State.turnIsland
  extract_lets others since
  rw [if_pos (by simp [h])]
  exact (State.island_setIsland s id id v).trans (if_pos rfl)

end Sys2Proof.Machine

/-!
PROOFS. What the loss of a line lane's receive lock leaves alone (O16): the lock of clock recovery, what the receiver has
recorded, the wakes in progress, the waiting requests and the datapath's image, while a calibration run is aborted, the port
loses its alignment and the outputs and the insole modem follow. One lemma for each operation, in the order of the model.
-/

namespace Sys2Proof.Machine

open Host

variable {s₀ s : State}

/-- Every bit of LRX_SNR. -/
def snrAll : Fld := ⟨.LRX_SNR, 0, 32⟩

/-- The signal, the lock and the doze of a receiver, with their causes, its frequency offset and its SNR (R68, R72, R76). -/
def rxFields : List Fld :=
  [LRX_STAT.SIG_PRESENT, LRX_STAT.CDR_LOCK, LRX_STAT.DOZE, LRX_CAUSE.SIG_LOST, LRX_CAUSE.CDR_LOCK, LRX_CAUSE.CDR_UNLOCK,
    LRX_CDR_FOFS.FOFS, LRX_CDR_FOFS.PHASE, snrAll]

/-- A field that shares no bit with those. -/
def sparesRx (f : Fld) : Bool := rxFields.all fun g => g.fits && f.apart g

/-- The counters of lost signals and lost locks. -/
def countsRx (r : Reg) : Bool :=
  match r with
  | .LRX_SIG_LOSS_CNT | .LRX_CDR_UNLOCK_CNT => true
  | _ => false

/-- What an operation that leads from `s₀` to `s` has left alone. -/
structure RxKept (s₀ s : State) : Prop where
  waiting : s.waiting = s₀.waiting
  pwr : s.pwr = s₀.pwr
  run : s.mode.run = s₀.mode.run
  flds : ∀ f ∈ rxFields, ∀ u i, s.fld f u i = s₀.fld f u i
  cnts : ∀ r, countsRx r = true → ∀ u i, s.cnt r u i = s₀.cnt r u i

theorem RxKept.refl : RxKept s s := ⟨rfl, rfl, rfl, fun _ _ _ _ => rfl, fun _ _ _ _ => rfl⟩

theorem RxKept.flag_eq (h : RxKept s₀ s) {f : Fld} (hf : f ∈ rxFields) (u i : Nat) : s.flag f u i = s₀.flag f u i := by
  rw [State.flag_eq, State.flag_eq, h.flds f hf]

theorem RxKept.snr_eq (h : RxKept s₀ s) (u i : Nat) : s.reg .LRX_SNR u i = s₀.reg .LRX_SNR u i := by
  have hs := h.flds snrAll (by decide) u i
  simp only [State.fld, snrAll, getBits, Nat.shiftRight_zero, Nat.mod_eq_of_lt (BitVec.isLt _)] at hs
  exact BitVec.eq_of_toNat_eq hs

/-! ## Branches and loops -/

theorem RxKept.via {x t : State} (hx : RxKept s₀ x) (f : RxKept s₀ x → RxKept s₀ t) : RxKept s₀ t := f hx

theorem RxKept.ite {c : Prop} {d : Decidable c} {a b : State} (ha : RxKept s₀ a) (hb : RxKept s₀ b) :
    RxKept s₀ (if c then a else b) := by
  split
  · exact ha
  · exact hb

theorem RxKept.foldl {α : Type} {xs : List α} {f : State → α → State} (h : RxKept s₀ s)
    (hf : ∀ t x, RxKept s₀ t → RxKept s₀ (f t x)) : RxKept s₀ (xs.foldl f s) :=
  List.foldlRecOn xs f h fun t ht x _ => hf t x ht

section

variable (h : RxKept s₀ s)
include h

/-! ## The shared operations -/

theorem RxKept.setReg {r v u i} (hr : rxFields.all (fun g => decide (g.reg ≠ r)) = true := by rfl) :
    RxKept s₀ (s.setReg r v u i) := by
  refine ⟨h.waiting, h.pwr, h.run, fun f hf u' i' => ?_, h.cnts⟩
  rw [State.fld_setReg _ (of_decide_eq_true (List.all_eq_true.1 hr f hf)), h.flds f hf]

theorem RxKept.put {f v u i} (hf : sparesRx f = true := by rfl) : RxKept s₀ (s.put f v u i) := by
  refine ⟨h.waiting, h.pwr, h.run, fun g hg u' i' => ?_, h.cnts⟩
  obtain ⟨hfits, hapart⟩ := Bool.and_eq_true_iff.1 (List.all_eq_true.1 hf g hg)
  rw [State.fld_put_apart _ hfits hapart, h.flds g hg]

theorem RxKept.putFlag {f v u i} (hf : sparesRx f = true := by rfl) : RxKept s₀ (s.putFlag f v u i) := h.put hf

theorem RxKept.raise {f u i} (hf : sparesRx f = true := by rfl) : RxKept s₀ (s.raise f u i) := h.put hf

theorem RxKept.setCnt {r v u i} (hr : countsRx r = false) : RxKept s₀ (s.setCnt r v u i) := by
  refine ⟨h.waiting, h.pwr, h.run, h.flds, fun r' hr' u' i' => ?_⟩
  rw [State.cnt_setCnt, if_neg (by rintro ⟨rfl, -, -⟩; simp [hr] at hr'), h.cnts r' hr']

theorem RxKept.inc {r f fu u i} (hs : satField r u = some (f, fu) := by rfl) (hr : countsRx r = false := by rfl)
    (hf : sparesRx f = true := by rfl) : RxKept s₀ (s.inc r u i) := by
  obtain e | ⟨v, e⟩ | ⟨v, e⟩ := State.inc_cases hs s i
  · rwa [e]
  · rw [e]
    exact h.setCnt hr
  · rw [e]
    exact (h.setCnt hr).raise hf

theorem RxKept.log {c sev p0 p1 p2 p3} : RxKept s₀ (s.log c sev p0 p1 p2 p3) := ⟨h.waiting, h.pwr, h.run, h.flds, h.cnts⟩
theorem RxKept.setLine {k v} : RxKept s₀ (s.setLine k v) := ⟨h.waiting, h.pwr, h.run, h.flds, h.cnts⟩
theorem RxKept.setInsl {k v} : RxKept s₀ (s.setInsl k v) := ⟨h.waiting, h.pwr, h.run, h.flds, h.cnts⟩
theorem RxKept.setFec {p v} : RxKept s₀ (s.setFec p v) := ⟨h.waiting, h.pwr, h.run, h.flds, h.cnts⟩
theorem RxKept.putPort {p st reason} : RxKept s₀ (s.putPort p st reason) := ⟨h.waiting, h.pwr, h.run, h.flds, h.cnts⟩
theorem RxKept.startGrid {k} : RxKept s₀ (s.startGrid k) := ⟨h.waiting, h.pwr, h.run, h.flds, h.cnts⟩

theorem RxKept.finish {w r} : RxKept s₀ (s.finish w r) := by
  obtain ⟨_, _, e⟩ := s.finish_eq w r
  rw [e]
  exact ⟨h.waiting, h.pwr, h.run, h.flds, h.cnts⟩

/-! ## Calibration ends and squelch -/

theorem RxKept.endCalRx {k code check} : RxKept s₀ (s.endCalRx k code check) := by
  unfold State.endCalRx
  split
  · exact h
  · exact .via (.setReg (.put (.put (.putFlag (.setLine h))))) fun h1 =>
      .finish (.ite (.log (.raise h1)) (.log (.inc (.raise (.ite h1 (.foldl h1 fun _ _ hf => .setReg hf))))))

theorem RxKept.monitorCalRx {k} : RxKept s₀ (s.monitorCalRx k) := by
  unfold State.monitorCalRx
  exact .ite h (.endCalRx h)

theorem RxKept.endCalTx {k code check} : RxKept s₀ (s.endCalTx k code check) := by
  unfold State.endCalTx
  split
  · exact h
  · exact .via (.setReg (.put (.put (.putFlag (.setLine h))))) fun h1 =>
      .finish (.ite (.log (.raise h1)) (.log (.inc (.raise (.ite h1 (.foldl h1 fun _ _ hf => .setReg hf))))))

theorem RxKept.setTxActive {k xs} : RxKept s₀ (s.setTxActive k xs) := by
  unfold State.setTxActive
  exact .foldl (.foldl h fun _ _ hf => .put hf) fun _ _ hf => .put hf

theorem RxKept.endRamp {k} : RxKept s₀ (s.endRamp k) := by
  unfold State.endRamp State.refreshAmp
  split
  · exact h
  · exact .via (.raise (.put (.setLine (.setTxActive h)))) fun h1 => .ite (.put h1) h1

theorem RxKept.snapTxTrims {k} : RxKept s₀ (s.snapTxTrims k) := by
  unfold State.snapTxTrims
  exact .foldl h fun _ _ hf => .setReg hf

theorem RxKept.insRamp {k up} : RxKept s₀ (s.insRamp k up) := by
  unfold State.insRamp
  extract_lets
  split
  · exact .ite h (.setInsl h)
  · exact .ite h (.putFlag (.putFlag (.setInsl h)))

theorem RxKept.insPause {k} : RxKept s₀ (s.insPause k) := by
  unfold State.insPause
  exact .ite (.insRamp (.log (.raise (.putFlag h)))) h

theorem RxKept.insRelease {k} : RxKept s₀ (s.insRelease k) := by
  unfold State.insRelease
  exact .ite (.ite (.insPause (.startGrid h)) (.insRamp (.startGrid h))) h

theorem RxKept.refreshLine {k} : RxKept s₀ (s.refreshLine k) := by
  unfold State.refreshLine
  refine .ite ?_ ?_
  · exact .snapTxTrims (.endCalTx (.endRamp (.log (.raise (.putFlag (.put h))))))
  · exact .ite (.insRelease (.log (.raise (.putFlag (.setLine (.put h)))))) (.put h)

theorem RxKept.setPort {p st reason} : RxKept s₀ (s.setPort p st reason) := by
  unfold State.setPort State.refreshHosts State.refreshLines State.refreshHost
  refine .ite h (.foldl (.foldl ?_ fun _ _ hf => .refreshLine hf) fun _ _ hf => .putFlag (.put hf))
  exact .ite (.foldl (.log (.putPort h)) fun _ _ hf => .setReg hf) (.log (.putPort h))

/-! ## The insole receiver (R201, R209) -/

theorem RxKept.insMsgDone {k code m} : RxKept s₀ (s.insMsgDone k code m) := by
  unfold State.insMsgDone
  exact .finish (.ite (.raise (.put h)) (.log (.inc (.raise (.put h)))))

theorem RxKept.setRxOk {k v} : RxKept s₀ (s.setRxOk k v) := by
  unfold State.setRxOk
  exact .ite h (.setInsl h)

theorem RxKept.insLeave {k st reason code} : RxKept s₀ (s.insLeave k st reason code) := by
  unfold State.insLeave State.insFlush
  refine .ite (.foldl (.setInsl (.setInsl (.setRxOk (.putFlag (.setInsl ?_))))) fun _ _ hf => .insMsgDone hf) (.put h)
  exact .ite (.raise (.put h)) (.log (.raise (.put h)))

theorem RxKept.insRxStop {k} : RxKept s₀ (s.insRxStop k) := by
  unfold State.insRxStop
  exact .ite h (.setRxOk (.putFlag (.insLeave h)))

theorem RxKept.insRxStart {k} : RxKept s₀ (s.insRxStart k) := by
  unfold State.insRxStart State.insAcquire State.insSeed
  exact .ite (.ite (.log (.raise (.setInsl (.put h)))) (.setInsl (.put h))) h

/-! ## The locks of a lane (R145, R147, R149) -/

theorem RxKept.refreshAlign {p} : RxKept s₀ (s.refreshAlign p) := by
  unfold State.refreshAlign
  refine .ite ?_ (.ite (.setPort (.setFec h)) (.setFec h))
  exact .ite (.setPort (.log (.raise (.setFec h)))) (.log (.raise (.setFec h)))

theorem RxKept.amLostLine {k} : RxKept s₀ (s.amLostLine k) := by
  unfold State.amLostLine State.putPcs State.setDir State.putAmLine
  split
  · exact h
  · refine .ite ?_ h
    exact .via (.ite (.inc (.setFec (.putFlag (.put h)))) (.setFec (.putFlag (.put h)))) fun h1 =>
      .via (.ite (.raise h1) h1) fun h2 => .refreshAlign (.monitorCalRx (.ite h2 (.log h2)))

theorem RxKept.innerLost {k} : RxKept s₀ (s.innerLost k) := by
  unfold State.innerLost
  split
  · exact h
  · exact .ite (.amLostLine (.ite (.put h) (.log (.put h)))) (.amLostLine h)

theorem RxKept.snapRxTrims {k} : RxKept s₀ (s.snapRxTrims k) := by
  unfold State.snapRxTrims
  exact .foldl h fun _ _ hf => .setReg hf

end

/-! ## The loss of a status bit (R68, R72) -/

/-- A status bit of a lane has cleared; its cause is set and the loss is counted. -/
def State.lostBit (s : State) (f cause : Fld) (r : Reg) (k : Nat) : State := ((s.putFlag f false k).raise cause k).inc r k

section

variable {f cause : Fld} {r : Reg} {k : Nat} (hsat : satField r k = some (LRX_CAUSE.SAT, k))
include hsat

theorem State.fld_lostBit {g : Fld} (hg : g.fits = true) (hf : f.apart g = true) (hc : cause.apart g = true)
    (hs : LRX_CAUSE.SAT.apart g = true) (u i : Nat) : (s.lostBit f cause r k).fld g u i = s.fld g u i := by
  rw [State.lostBit, State.fld_inc hsat hg hs, State.raise_eq, State.fld_put_apart _ hg hc, State.putFlag_eq,
    State.fld_put_apart _ hg hf]

theorem State.flag_lostBit_self (hf : f.fits = true) (hw : f.w = 1) (hc : cause.apart f = true)
    (hs : LRX_CAUSE.SAT.apart f = true) : (s.lostBit f cause r k).flag f k = false := by
  rw [State.flag_eq, State.lostBit, State.fld_inc hsat hf hs, State.raise_eq, State.fld_put_apart _ hf hc, ← State.flag_eq,
    State.flag_putFlag_self hf hw]

theorem State.flag_lostBit_cause (hc : cause.fits = true) (hw : cause.w = 1) (hs : LRX_CAUSE.SAT.apart cause = true) :
    (s.lostBit f cause r k).flag cause k = true := by
  rw [State.flag_eq, State.lostBit, State.fld_inc hsat hc hs, ← State.flag_eq, State.flag_raise_self hc hw]

theorem State.cnt_lostBit : (s.lostBit f cause r k).cnt r k = saturated (s.cnt r k) := by
  rw [State.lostBit, State.cnt_inc (by rw [hsat]; rfl), if_pos ⟨rfl, rfl, rfl⟩]
  rfl

theorem State.reg_lostBit {q : Reg} (hf : q ≠ f.reg) (hc : q ≠ cause.reg) (hs : q ≠ .LRX_CAUSE) (u i : Nat) :
    (s.lostBit f cause r k).reg q u i = s.reg q u i := by
  rw [State.lostBit, State.inc_part hsat (fun x => x.reg q u i) (fun _ => rfl) fun _ => State.reg_put _ hs .., State.raise_eq,
    State.reg_put _ hc, State.putFlag_eq, State.reg_put _ hf]

/-- A part of the state that is neither register nor counter is as it was. -/
theorem State.lostBit_part {α : Type} (p : State → α) (hreg : ∀ x r v u i, p (State.setReg x r v u i) = p x)
    (hcnt : ∀ x r v u i, p (State.setCnt x r v u i) = p x) : p (s.lostBit f cause r k) = p s := by
  rw [State.lostBit, State.inc_part hsat p (fun _ => hcnt ..) fun _ => hreg ..]
  exact (hreg ..).trans (hreg ..)

end

/-! ## The loss of CDR_LOCK and doze (R68, R72) -/

/-- CDR_LOCK has cleared and has been counted. -/
def State.cdrUnlocked (s : State) (k : Nat) : State := s.lostBit LRX_STAT.CDR_LOCK LRX_CAUSE.CDR_UNLOCK .LRX_CDR_UNLOCK_CNT k

theorem RxKept.cdrLostLine_of_locked {k : Nat} (h : s.flag LRX_STAT.CDR_LOCK k = true) :
    RxKept (s.cdrUnlocked k) (s.cdrLostLine k) := by
  unfold State.cdrLostLine
  rw [if_pos h]
  exact .insRxStop (.snapRxTrims (.monitorCalRx (.ite .refl (.log .refl))))

/-- The locks of a lane's receive direction go and its insole receiver stops. -/
def State.rxStopped (s : State) (k : Nat) : State := ((s.cdrLostLine k).innerLost k).insRxStop k

/-- A receive direction that stops has no lock, and is as it was otherwise. -/
theorem RxKept.rxStopped (s : State) (k : Nat) :
    ∃ b, RxKept b (s.rxStopped k) ∧ b.flag LRX_STAT.CDR_LOCK k = false ∧ b.flag LRX_STAT.DOZE k = s.flag LRX_STAT.DOZE k ∧
      b.waiting = s.waiting ∧ b.pwr = s.pwr ∧ b.mode.run = s.mode.run := by
  cases hlock : s.flag LRX_STAT.CDR_LOCK k with
  | false =>
    refine ⟨s, .insRxStop (.innerLost ?_), hlock, rfl, rfl, rfl, rfl⟩
    rw [State.cdrLostLine, if_neg (by simp [hlock])]
    exact .refl
  | true =>
    refine ⟨s.cdrUnlocked k, .insRxStop (.innerLost (.cdrLostLine_of_locked hlock)),
      State.flag_lostBit_self rfl rfl rfl rfl rfl, ?_, ?_, ?_, ?_⟩
    · rw [State.flag_eq, State.cdrUnlocked, State.fld_lostBit rfl rfl rfl rfl rfl, State.flag_eq]
    · exact State.lostBit_part rfl State.waiting (fun _ _ _ _ _ => rfl) fun _ _ _ _ _ => rfl
    · exact State.lostBit_part rfl State.pwr (fun _ _ _ _ _ => rfl) fun _ _ _ _ _ => rfl
    · exact State.lostBit_part rfl (fun x => x.mode.run) (fun _ _ _ _ _ => rfl) fun _ _ _ _ _ => rfl

/-- A receive direction that dozes shows DOZE and no CDR_LOCK, and its island dozes unless the transmit direction restores it
or the island still holds a request. -/
theorem State.dozeLineRx_results {k : Nat} (hused : s.lineUsed k = true) (hheld : s.rxHeld k = false) :
    (s.dozeLineRx k).flag LRX_STAT.DOZE k = true ∧ (s.dozeLineRx k).flag LRX_STAT.CDR_LOCK k = false ∧
      (s.accepted (lineIsland k) = [] → s.seqFirst 6 k = false → (s.dozeLineRx k).island (lineIsland k) = .doze) := by
  obtain ⟨b, hk, hlock, hdoze, hwait, hpwr, hrun⟩ := RxKept.rxStopped (s.putFlag LRX_STAT.DOZE true k) k
  have hd : (s.dozeLineRx k) = ((s.putFlag LRX_STAT.DOZE true k).rxStopped k).refreshLineIsland k := rfl
  rw [State.flag_putFlag_self rfl rfl] at hdoze
  generalize (s.putFlag LRX_STAT.DOZE true k).rxStopped k = x at hk hd
  have hxdoze : x.flag LRX_STAT.DOZE k = true := (hk.flag_eq (by decide) k 0).trans hdoze
  have hxlock : x.flag LRX_STAT.CDR_LOCK k = false := (hk.flag_eq (by decide) k 0).trans hlock
  refine ⟨?_, ?_, fun hidle h6 => ?_⟩
  · obtain ⟨_, _, e⟩ := x.refreshLineIsland_eq k
    rw [hd, e]
    exact hxdoze
  · obtain ⟨_, _, e⟩ := x.refreshLineIsland_eq k
    rw [hd, e]
    exact hxlock
  · have hxused : x.lineUsed k = true := by rw [State.lineUsed, hk.run, hrun]; exact hused
    have hxidle : x.accepted (lineIsland k) = [] := by rw [State.accepted, hk.waiting, hwait]; exact hidle
    have hseq : ∀ n, x.seqFirst n k = s.seqFirst n k := fun n => by rw [State.seqFirst, hk.pwr, hpwr]; rfl
    have h5 : s.seqFirst 5 k = false := by
      rw [State.rxHeld, Bool.or_eq_false_iff] at hheld
      obtain ⟨-, hon⟩ := hheld
      simp only [State.seqOn, State.seqFirst, List.any_eq_false, Bool.and_eq_true, not_and] at hon ⊢
      exact fun q hq h1 => absurd h1.2 (hon q hq h1.1)
    rw [hd, State.refreshLineIsland, if_pos hxused, State.island_turnIsland_of_idle hxidle, hseq, hseq, h5, h6, hxdoze]
    rfl

end Sys2Proof.Machine

/-!
PROOFS. Line receivers (O16): the end of a calibration run, the histogram, and the commands.
-/

namespace Sys2Proof.Machine

open Host

variable {s t : State}

/-! ## The end of a calibration run (R82) -/

/-- What the end of a run with a status code has done before the completion is sent: the lane is free and shows the code, and
neither a command nor the result's first word has changed. -/
structure CalRxEnd (k code : Nat) (s u : State) : Prop where
  lines : u.lines = s.lines.set k { s.line k with calRx := none }
  mbx : u.mbx = s.mbx
  status : u.fld LRX_CAL_STAT.CODE k = code % 2 ^ 16
  result : u.reg .LRX_CAL_RESULT0 k = s.reg .LRX_CAL_RESULT0 k

section

variable {k code : Nat} {u : State}

theorem CalRxEnd.of_freed (r1 : W32) :
    CalRxEnd k code s (((((s.setLine k { s.line k with calRx := none }).putFlag LRX_STAT.CAL_BUSY false k).put
      LRX_CAL_STAT.PHASE 0 k).put LRX_CAL_STAT.CODE code k).setReg .LRX_CAL_RESULT1 r1 k) := by
  refine ⟨rfl, rfl, ?_, ?_⟩
  · rw [State.fld_setReg _ (by decide), State.fld_put_self _ rfl]
  · simp [State.putFlag_eq, State.reg_put]

theorem CalRxEnd.setReg (h : CalRxEnd k code s u) {r v u' i} (hs : .LRX_CAL_STAT ≠ r := by nofun)
    (hr : .LRX_CAL_RESULT0 ≠ r := by nofun) : CalRxEnd k code s (u.setReg r v u' i) :=
  ⟨h.lines, h.mbx, (State.fld_setReg _ hs ..).trans h.status, (State.reg_setReg_reg _ hr ..).trans h.result⟩

theorem CalRxEnd.raise (h : CalRxEnd k code s u) {f u' i} (hs : .LRX_CAL_STAT ≠ f.reg := by nofun)
    (hr : .LRX_CAL_RESULT0 ≠ f.reg := by nofun) : CalRxEnd k code s (u.raise f u' i) := h.setReg hs hr

theorem CalRxEnd.log (h : CalRxEnd k code s u) {c sev p0 p1 p2 p3} : CalRxEnd k code s (u.log c sev p0 p1 p2 p3) :=
  ⟨h.lines, h.mbx, h.status, h.result⟩

theorem CalRxEnd.inc (h : CalRxEnd k code s u) : CalRxEnd k code s (u.inc .LRX_CAL_ABORT_CNT k) := by
  obtain e | ⟨v, e⟩ | ⟨v, e⟩ := State.inc_cases (r := .LRX_CAL_ABORT_CNT) (u := k) rfl u 0
  · rwa [e]
  · rw [e]
    exact ⟨h.lines, h.mbx, h.status, h.result⟩
  · rw [e]
    have hc : CalRxEnd k code s (u.setCnt .LRX_CAL_ABORT_CNT v k) := ⟨h.lines, h.mbx, h.status, h.result⟩
    exact hc.raise

/-- The end of a run completes the command that waits, and a success sets the lane's RX_DONE (R82). -/
theorem State.endCalRx_eq_finish {run : CalRun} (h : (s.line k).calRx = some run) (check : Nat) :
    ∃ u r, s.endCalRx k code check = u.finish run.waiter r ∧ CalRxEnd k code s u ∧
      (code = 0 → u.flag (CAL_CAUSE.RX_DONE (k % 4)) (dieOfLane k) = true) := by
  unfold State.endCalRx
  split
  · next hnone => simp [h] at hnone
  next run' hrun =>
  obtain rfl : run = run' := Option.some.inj (h.symm.trans hrun)
  extract_lets die phase round lane s1 s2 s3 s4 r1 freed r0 restored ended
  have hfreed : CalRxEnd k code s freed := .of_freed _
  refine ⟨ended, _, rfl, ?_, fun h0 => ?_⟩
  · simp only [ended]
    split
    · exact .log (.raise hfreed)
    · refine .log (.inc (.raise ?_))
      simp only [restored]
      split
      · exact hfreed
      · exact List.foldlRecOn _ _ hfreed fun _ hf _ _ => .setReg hf
  · simp only [ended, if_pos h0]
    rw [State.flag_log, State.flag_raise_self _ rfl]
    simp only [Fld.fits, decide_eq_true_eq]
    omega

end

theorem State.endCalRx_of_none {k : Nat} (h : (s.line k).calRx = none) (code check : Nat) : s.endCalRx k code check = s := by
  unfold State.endCalRx
  rw [h]

section

variable {k : Nat} (hk : k < s.lines.length)
include hk

/-- No run is left. -/
theorem State.calRx_endCalRx (code check : Nat) : ((s.endCalRx k code check).line k).calRx = none := by
  cases h : (s.line k).calRx with
  | none => rw [State.endCalRx_of_none h, h]
  | some run =>
    obtain ⟨u, r, e, hend, -⟩ := State.endCalRx_eq_finish (code := code) h check
    rw [e, State.line, State.finish_lines, hend.lines, getD_set_self _ _ _ _ hk]

/-- A success: the run has ended with code 0 and RX_DONE, and the first word of its result stands. -/
theorem State.endCalRx_success {run : CalRun} (h : (s.line k).calRx = some run) (check : Nat) :
    ((s.endCalRx k 0 check).line k).calRx = none ∧ (s.endCalRx k 0 check).fld LRX_CAL_STAT.CODE k = 0 ∧
      (s.endCalRx k 0 check).flag (CAL_CAUSE.RX_DONE (k % 4)) (dieOfLane k) = true ∧
      (s.endCalRx k 0 check).reg .LRX_CAL_RESULT0 k = s.reg .LRX_CAL_RESULT0 k := by
  refine ⟨State.calRx_endCalRx hk 0 check, ?_⟩
  obtain ⟨u, r, e, hend, hdone⟩ := State.endCalRx_eq_finish (code := 0) h check
  rw [e]
  refine ⟨?_, ?_, ?_⟩
  · rw [State.fld_finish, hend.status, Nat.zero_mod]
  · rw [State.flag_eq, State.fld_finish, ← State.flag_eq, hdone rfl]
  · rw [State.reg_finish, hend.result]

/-- A monitored bit that is clear leaves no run (R82). -/
theorem State.calRx_monitorCalRx (h : s.calRxCheck k ≠ 0) : ((s.monitorCalRx k).line k).calRx = none := by
  rw [State.monitorCalRx, if_neg h, State.calRx_endCalRx hk]

end

/-- A run that ends leaves the eyelets alone of all who did not wait for it. -/
theorem State.eyelet_endCalRx_of_other {k e : Nat}
    (h : ∀ run, (s.line k).calRx = some run → run.waiter.aqique = true ∨ run.waiter.eyelet ≠ e) (code check : Nat) :
    (s.endCalRx k code check).eyelet e = s.eyelet e := by
  cases hrun : (s.line k).calRx with
  | none => rw [State.endCalRx_of_none hrun]
  | some run =>
    obtain ⟨u, r, he, hend, -⟩ := State.endCalRx_eq_finish (code := code) hrun check
    rw [he, State.eyelet_finish_of_other (h run hrun), State.eyelet, hend.mbx, State.eyelet]

/-! ## The histogram (R77) -/

theorem histAddr_inj {k b b' : Nat} : histAddr k b = histAddr k b' ↔ b = b' := by
  unfold histAddr
  omega

theorem State.word_setHistBin (k b n b' : Nat) : (s.setHistBin k b n).word (histAddr k b') =
    if b' = b then protect (BitVec.ofNat 64 (satN 32 n)) else s.word (histAddr k b') := by
  rw [State.setHistBin, State.word_setWord]
  simp only [histAddr_inj]

/-- A bin holds the count that was written to it, up to 32 bits. -/
theorem State.histBin_setHistBin_self (k b n : Nat) : (s.setHistBin k b n).histBin k b = satN 32 n := by
  have hlt := satN_lt 32 n
  rw [State.histBin, State.word_setHistBin, if_pos rfl, protect, dataOf_append, BitVec.toNat_ofNat]
  omega

/-- The clearing of the first `n` bins. -/
def State.clearBins (s : State) (k n : Nat) : State := (List.range n).foldl (fun s b => s.setHistBin k b 0) s

theorem State.clearBins_eq (s : State) (k n : Nat) : ∃ m, s.clearBins k n = { s with mem := m } :=
  List.foldlRecOn (motive := fun t => ∃ m, t = { s with mem := m }) _ _ ⟨_, rfl⟩ fun t ⟨m, e⟩ _ _ => ⟨_, by rw [e]; rfl⟩

theorem State.word_clearBins (k n b : Nat) : (s.clearBins k n).word (histAddr k b) =
    if b < n then protect 0 else s.word (histAddr k b) := by
  induction n with
  | zero => rfl
  | succ n ih =>
    have he : s.clearBins k (n + 1) = (s.clearBins k n).setHistBin k n 0 := by
      simp only [State.clearBins, List.range_succ, List.foldl_append, List.foldl_cons, List.foldl_nil]
    rw [he, State.word_setHistBin, ih]
    split
    · rw [if_pos (by omega)]
      rfl
    · split
      · rw [if_pos (by omega)]
      · rw [if_neg (by omega)]

/-- A capture begins once the bins are clear. -/
def State.captureBegun (s : State) (k : Nat) : State :=
  ((s.setLine k { s.line k with histGoal := 2 ^ s.histLen k, histTaken := 0 }).putFlag LRX_HIST_STAT.BUSY true k).putFlag
    LRX_HIST_STAT.DONE false k

theorem State.histStart_of_idle {k : Nat} (h : s.flag LRX_HIST_STAT.BUSY k = false) :
    s.histStart k = (s.clearBins k 256).captureBegun k := by
  unfold State.histStart
  rw [if_neg (by simp [h])]
  rfl

/-- A capture runs towards its 2^LEN samples and has taken none. -/
theorem State.captureBegun_results {k : Nat} (hk : k < s.lines.length) :
    (s.captureBegun k).flag LRX_HIST_STAT.BUSY k = true ∧ (s.captureBegun k).flag LRX_HIST_STAT.DONE k = false ∧
      ((s.captureBegun k).line k).histGoal = 2 ^ s.histLen k ∧ ((s.captureBegun k).line k).histTaken = 0 := by
  refine ⟨?_, State.flag_putFlag_self rfl rfl false k 0, ?_, ?_⟩
  · simp (disch := decide) [State.captureBegun, State.flag_eq, State.putFlag_eq, b2n]
  · exact congrArg LineLane.histGoal (State.line_setLine_self _ _ _ hk)
  · exact congrArg LineLane.histTaken (State.line_setLine_self _ _ _ hk)

theorem State.word_captureBegun (k a : Nat) : (s.captureBegun k).word a = s.word a := rfl

/-- The bin of a capture's sample (R77). -/
def State.histIndex (s : State) (k : Nat) (code : BitVec 8) (y : Int) : Nat :=
  ((if s.flag LRX_HIST_CTL.SRC k then satSigned 8 (floorShift y 6) else code.toInt) + 128).toNat

theorem State.histSample_of_running {k : Nat} (hbusy : s.flag LRX_HIST_STAT.BUSY k = true)
    (hn : (s.line k).histTaken < (s.line k).histGoal) (code : BitVec 8) (y : Int) :
    s.histSample k code y =
      (s.setHistBin k (s.histIndex k code y) (s.histBin k (s.histIndex k code y) + 1)).setLine k
        { s.line k with histTaken := (s.line k).histTaken + 1 } := by
  unfold State.histSample
  exact if_pos ⟨hbusy, hn⟩

theorem State.foldl_setRack_eq (f : State → Nat → RackSt) (xs : List Nat) (s : State) :
    ∃ q, xs.foldl (fun s r => s.setRack r (f s r)) s = { s with racks := q } :=
  List.foldlRecOn (motive := fun t => ∃ q, t = { s with racks := q }) _ _ ⟨_, rfl⟩ fun t ⟨m, e⟩ _ _ => ⟨_, by rw [e]; rfl⟩

/-- A tap record changes the racks alone, beside the capture's sample. -/
theorem execTapRecord_of_runs {k : Fin 8} {x : TapRecord} (h : s.rxRuns k = true) :
    ∃ q, Machine.execTapRecord k x s = .next
      { s.histSample k (x.codes.getD codesAhead 0) (s.lineY k (x.codes.map (fun c => c.toInt))) with racks := q } := by
  unfold Machine.execTapRecord
  dsimp only
  rw [if_pos h]
  split
  · obtain ⟨q, e⟩ := State.foldl_setRack_eq _ _ _
    exact ⟨q, congrArg Outcome.next e⟩
  · exact ⟨_, rfl⟩

/-! ## Signal and clock recovery (R68, R72) -/

/-- SIG_PRESENT has cleared and has been counted. -/
def State.sigLost (s : State) (k : Nat) : State := s.lostBit LRX_STAT.SIG_PRESENT LRX_CAUSE.SIG_LOST .LRX_SIG_LOSS_CNT k

/-- A loss is logged unless it is expected (R88). -/
def State.sigLossLogged (s : State) (k : Nat) : State :=
  if (s.sigLost k).quietLine k then s.sigLost k
  else (s.sigLost k).log 0x0401 sevWarn k ((s.sigLost k).reg .LRX_SIG_PWR k).toNat

theorem RxKept.sigLossLogged (k : Nat) : RxKept (s.sigLost k) (s.sigLossLogged k) := .ite .refl (.log .refl)

theorem execSigDetectDeassert_of_present {k : Fin 8} (hused : s.lineUsed k = true)
    (h : s.flag LRX_STAT.SIG_PRESENT k = true) :
    Machine.execSigDetectDeassert k s = .next ((s.sigLossLogged k).monitorCalRx k) :=
  congrArg Outcome.next (if_pos ⟨hused, h⟩)

theorem State.quietLine_sigLost (k : Nat) : (s.sigLost k).quietLine k = s.quietLine k := by
  have hdoze : (s.sigLost k).flag LRX_STAT.DOZE k = s.flag LRX_STAT.DOZE k := by
    rw [State.flag_eq, State.sigLost, State.fld_lostBit rfl rfl rfl rfl rfl, State.flag_eq]
  have hport : (s.sigLost k).lanePort k = s.lanePort k :=
    State.lostBit_part rfl (fun x => x.lanePort k) (fun _ _ _ _ _ => rfl) fun _ _ _ _ _ => rfl
  rw [State.quietLine, hdoze, hport, State.quietLine]

theorem State.sent_sigLoss {k : Nat} (h : s.quietLine k = false) :
    Sent s ((s.sigLossLogged k).monitorCalRx k) 0x0401 sevWarn k (s.reg .LRX_SIG_PWR k).toNat := by
  have he : (s.sigLost k).events = s.events :=
    State.lostBit_part rfl State.events (fun _ _ _ _ _ => rfl) fun _ _ _ _ _ => rfl
  have hl : s.sigLossLogged k = (s.sigLost k).log 0x0401 sevWarn k (s.reg .LRX_SIG_PWR k).toNat := by
    rw [State.sigLossLogged, State.quietLine_sigLost, if_neg (by simp [h]), State.sigLost,
      State.reg_lostBit rfl (by decide) (by decide) (by decide)]
  rw [hl]
  exact (Kept.monitorCalRx (ev := true) (wt := true) .refl).sent he

theorem State.calRx_sigLoss {k : Nat} (hk : k < s.lines.length) :
    (((s.sigLossLogged k).monitorCalRx k).line k).calRx = none := by
  have hlines : (s.sigLossLogged k).lines = s.lines := by
    have hlost : (s.sigLost k).lines = s.lines :=
      State.lostBit_part rfl State.lines (fun _ _ _ _ _ => rfl) fun _ _ _ _ _ => rfl
    unfold State.sigLossLogged
    split
    · exact hlost
    · exact hlost
  refine State.calRx_monitorCalRx (by rwa [hlines]) ?_
  rw [State.calRxCheck, (RxKept.sigLossLogged k).flag_eq (by decide), State.sigLost, State.flag_lostBit_self rfl rfl rfl rfl rfl,
    if_pos rfl]
  decide

/-! ### The frequency offset -/

theorem State.fld_putFofs {k : Nat} (h : s.flag LRX_CDR_CTL.FREEZE k = false) (fofs : BitVec 16) (phase : BitVec 8) :
    (s.putFofs k fofs phase).fld LRX_CDR_FOFS.FOFS k = fofs.toNat ∧
      (s.putFofs k fofs phase).fld LRX_CDR_FOFS.PHASE k = phase.toNat := by
  unfold State.putFofs
  rw [if_neg (by simp [h])]
  dsimp only
  split
  · simp (disch := decide) [State.raise_eq, fofs.isLt, phase.isLt]
  · simp (disch := decide) [fofs.isLt, phase.isLt]

theorem State.reg_putFofs {r : Reg} (h : r ≠ .LRX_CDR_FOFS) (h' : r ≠ .LRX_CAUSE) (k : Nat) (fofs : BitVec 16)
    (phase : BitVec 8) (u i : Nat) : (s.putFofs k fofs phase).reg r u i = s.reg r u i := by
  unfold State.putFofs
  split
  · rfl
  · dsimp only
    split
    · simp [State.raise_eq, State.reg_put, h, h']
    · simp [State.reg_put, h]

theorem State.cnt_putFofs (k : Nat) (fofs : BitVec 16) (phase : BitVec 8) (r : Reg) (u i : Nat) :
    (s.putFofs k fofs phase).cnt r u i = s.cnt r u i := by
  unfold State.putFofs
  split
  · rfl
  · dsimp only
    split <;> rfl

theorem State.flag_putFofs {f : Fld} (h : f.reg ≠ .LRX_CDR_FOFS) (h' : f.reg ≠ .LRX_CAUSE) (k : Nat) (fofs : BitVec 16)
    (phase : BitVec 8) (u i : Nat) : (s.putFofs k fofs phase).flag f u i = s.flag f u i := by
  rw [State.flag_eq, State.fld, State.reg_putFofs h h', ← State.fld, ← State.flag_eq]

/-- LRX_SNR reads 0 while CDR_LOCK is clear (R76). -/
theorem State.regNow_snr (k : Nat) :
    s.regNow .cobbler ⟨.LRX_SNR, k, 0⟩ = if s.flag LRX_STAT.CDR_LOCK k then s.reg .LRX_SNR k else 0 := rfl

/-- What a cleared CDR_LOCK shows (R72, R76). -/
theorem State.cdrLostLine_results {k : Nat} (h : s.flag LRX_STAT.CDR_LOCK k = true) :
    (s.cdrLostLine k).flag LRX_STAT.CDR_LOCK k = false ∧ (s.cdrLostLine k).flag LRX_CAUSE.CDR_UNLOCK k = true ∧
      (s.cdrLostLine k).cnt .LRX_CDR_UNLOCK_CNT k = saturated (s.cnt .LRX_CDR_UNLOCK_CNT k) ∧
      (s.cdrLostLine k).reg .LRX_SNR k = s.reg .LRX_SNR k := by
  have hk := RxKept.cdrLostLine_of_locked h
  refine ⟨?_, ?_, ?_, ?_⟩
  · rw [hk.flag_eq (by decide), State.cdrUnlocked, State.flag_lostBit_self rfl rfl rfl rfl rfl]
  · rw [hk.flag_eq (by decide), State.cdrUnlocked, State.flag_lostBit_cause rfl rfl rfl rfl]
  · rw [hk.cnts _ rfl, State.cdrUnlocked, State.cnt_lostBit rfl]
  · rw [hk.snr_eq, State.cdrUnlocked, State.reg_lostBit rfl (by decide) (by decide) (by decide)]

/-! ## The wake pattern (R68) -/

theorem execWakePatternSeen_of_unseen {k : Fin 8} (hused : s.lineUsed k = true)
    (hen : s.flag LRX_SIGDET_CTL.WAKE_EN k = true) (h : s.flag LRX_STAT.WAKE_SEEN k = false) :
    Machine.execWakePatternSeen k s = .next (((s.raise LRX_STAT.WAKE_SEEN k).log 0x0402 sevInfo k 1).wakeLineRx k) := by
  unfold Machine.execWakePatternSeen
  rw [if_pos ⟨hused, hen⟩, h]
  rfl

theorem execWakePatternSeen_of_seen {k : Fin 8} (hused : s.lineUsed k = true)
    (hen : s.flag LRX_SIGDET_CTL.WAKE_EN k = true) (h : s.flag LRX_STAT.WAKE_SEEN k = true) :
    Machine.execWakePatternSeen k s = .next (s.wakeLineRx k) := by
  unfold Machine.execWakePatternSeen
  rw [if_pos ⟨hused, hen⟩, h]
  rfl

/-! ## Coefficients (R73) -/

theorem execLrxCoefWrite_of_halted {k : Fin 8} {off : BitVec 15} {r : Reg} {i w : Nat} (hused : s.lineUsed k = true)
    (hfind : findReg layout_lane off.toNat = some (r, i, w)) (hcoef : isRxCoef r = true) (hhalt : s.racksHalted k = true)
    (data : W32) : Machine.execLrxCoefWrite k off data s = .next (s.writeRwl r k i data) := by
  unfold Machine.execLrxCoefWrite
  simp only [hused, hfind, hcoef, State.coefWrite, hhalt, if_true]

/-! ## Fades (R75) -/

/-- A fade that has had its 1 ms is over. -/
def State.fadeOver (s : State) (k : Nat) : State := s.setLine k { s.line k with fade := none }

theorem execVnleFadeDone_of_fadeOut {k : Fin 8} (h : (s.line k).fade = some .fadeOut)
    (hnow : (s.line k).fadeAt + 1000 ≤ s.now) : Machine.execVnleFadeDone k s = .next (s.fadeOver k) := by
  unfold Machine.execVnleFadeDone
  rw [if_neg (by omega), h]
  rfl

/-- A fade-in restores the option; THROTTLED stays while another option is withdrawn. -/
theorem execVnleFadeDone_of_fadeIn {k : Fin 8} (h : (s.line k).fade = some .fadeIn)
    (hnow : (s.line k).fadeAt + 1000 ≤ s.now) :
    ∃ t, Machine.execVnleFadeDone k s = .next t ∧
      let x := (((s.fadeOver k).putFlag LRX_CFG.VNLE_EFF true k).raise LRX_CAUSE.THROTTLE k).log 0x0406 sevInfo k 2
      t = x ∨ t = x.putFlag LRX_STAT.THROTTLED false k := by
  unfold Machine.execVnleFadeDone
  rw [if_neg (by omega), h]
  refine ⟨_, rfl, ?_⟩
  dsimp only
  split
  · exact .inl rfl
  · exact .inr rfl

/-- Settles O16: each command's operation is followed to the state that shows its result, and what comes after keeps it
(`RxKept`). -/
theorem lineReceiverResults : Obligations.LineReceiverResults := by
  unfold Obligations.LineReceiverResults
  refine ⟨fun k s hused hoff => ?_, fun k s hshape hused hsig => ?_, fun k s hused hen hseen => ?_,
    fun k s hused hen hseen => ?_, fun k s hused hdoze hheld => ?_, fun k fofs phase s hruns hlock => ?_,
    fun k fofs phase s hruns hlock => ?_, fun k off data s r i w hused hfind hcoef hhalt => ?_,
    fun k msq snr l0 l1 l2 l3 s hruns hon => ?_, fun k s hshape hused hbusy => ?_,
    fun k x s hshape hruns hbusy hlt => ?_, fun k s hruns hbusy hfull => ?_, fun k s f hshape hfade hramp hnow => ?_⟩
  · refine ⟨_, congrArg Outcome.next (if_pos ⟨hused, hoff⟩), ?_, ?_, ?_, fun hdoze => State.seqOn_wakeLineRx ?_⟩
    · rw [State.flag_wakeLineRx]
      simp (disch := decide) [State.flag_eq, State.raise_eq]
    · rw [State.flag_wakeLineRx]
      simp (disch := decide) [State.flag_eq, State.raise_eq]
    · exact State.events_wakeLineRx k
    · simpa (disch := decide) [State.flag_eq, State.raise_eq] using hdoze
  · have hlen : k.val < s.lines.length := by omega
    have hkept : RxKept (s.sigLost k) ((s.sigLossLogged k).monitorCalRx k) := (RxKept.sigLossLogged k).monitorCalRx
    refine ⟨_, execSigDetectDeassert_of_present hused hsig, ?_, ?_, ?_, State.calRx_sigLoss hlen, State.sent_sigLoss⟩
    · rw [hkept.flag_eq (by decide), State.sigLost, State.flag_lostBit_self rfl rfl rfl rfl rfl]
    · rw [hkept.flag_eq (by decide), State.sigLost, State.flag_lostBit_cause rfl rfl rfl rfl]
    · rw [hkept.cnts _ rfl, State.sigLost, State.cnt_lostBit rfl]
  · refine ⟨_, execWakePatternSeen_of_unseen hused hen hseen, ?_, State.events_wakeLineRx k, fun hdoze =>
      State.seqOn_wakeLineRx ?_⟩
    · rw [State.flag_wakeLineRx, State.flag_log, State.flag_raise_self rfl rfl]
    · simpa (disch := decide) [State.flag_eq, State.raise_eq] using hdoze
  · refine ⟨_, execWakePatternSeen_of_seen hused hen hseen, (State.flag_wakeLineRx ..).trans hseen, ?_, State.seqOn_wakeLineRx⟩
    rw [Logged, State.events_wakeLineRx, List.append_nil]
  · exact ⟨_, congrArg Outcome.next (if_pos ⟨hused, hdoze, hheld⟩), State.dozeLineRx_results hused hheld⟩
  · have hkept : RxKept (((s.putFofs k fofs phase).raise LRX_STAT.CDR_LOCK k).raise LRX_CAUSE.CDR_LOCK k)
        ((((s.putFofs k fofs phase).raise LRX_STAT.CDR_LOCK k).raise LRX_CAUSE.CDR_LOCK k).insRxStart k) := .insRxStart .refl
    refine ⟨_, congrArg Outcome.next (if_pos ⟨hruns, hlock⟩), ?_, ?_, fun hfree => ?_⟩
    · rw [hkept.flag_eq (by decide)]
      simp (disch := decide) [State.flag_eq, State.raise_eq]
    · rw [hkept.flag_eq (by decide)]
      simp (disch := decide) [State.flag_eq, State.raise_eq]
    · obtain ⟨hfofs, hphase⟩ := State.fld_putFofs hfree fofs phase
      rw [hkept.flds LRX_CDR_FOFS.FOFS (by decide), hkept.flds LRX_CDR_FOFS.PHASE (by decide)]
      simp (disch := decide) [State.raise_eq, hfofs, hphase]
  · have hlock' : (s.putFofs k fofs phase).flag LRX_STAT.CDR_LOCK k = true :=
      (State.flag_putFofs (by decide) (by decide) ..).trans hlock
    obtain ⟨hoff, hcause, hcnt, hsnr⟩ := State.cdrLostLine_results hlock'
    refine ⟨_, congrArg Outcome.next (if_pos ⟨hruns, hlock⟩), hoff, hcause, ?_, ?_, ?_⟩
    · rw [hcnt, State.cnt_putFofs]
    · rw [State.regNow_snr, hoff]
      rfl
    · rw [hsnr, State.reg_putFofs (by decide) (by decide)]
  · exact ⟨_, execLrxCoefWrite_of_halted hused hfind hcoef hhalt data, State.reg_setReg_self ..⟩
  · refine ⟨_, congrArg Outcome.next (if_pos ⟨hruns, hon⟩), ?_, ?_, fun hlock => ?_, fun hlock => ?_, ?_⟩
    · simp (disch := decide) [State.fld_setReg, msq.isLt]
    · simp (disch := decide) [State.fld_setReg, snr.isLt]
    · rw [State.regNow_snr, if_neg]
      simpa (disch := decide) [State.flag_eq, State.fld_setReg] using hlock
    · rw [State.regNow_snr, if_pos]
      simpa (disch := decide) [State.flag_eq, State.fld_setReg] using hlock
    · simp [State.reg_setReg]
  · obtain ⟨m, hm⟩ := s.clearBins_eq k 256
    have hlen : k.val < (s.clearBins k 256).lines.length := by
      rw [hm]
      exact (by omega : k.val < s.lines.length)
    have hgoal : (s.clearBins k 256).histLen k = s.histLen k := by
      rw [hm]
      rfl
    obtain ⟨hrun, hdone, hlast, hnone⟩ := State.captureBegun_results hlen
    refine ⟨_, congrArg Outcome.next ((if_pos hused).trans (State.histStart_of_idle hbusy)), hrun, hdone, ?_, hnone,
      fun b hb => ?_⟩
    · rw [hlast, hgoal]
    · rw [State.word_captureBegun, State.word_clearBins, if_pos hb]
  · obtain ⟨q, hq⟩ := execTapRecord_of_runs (x := x) hruns
    rw [State.histSample_of_running hbusy hlt] at hq
    refine ⟨_, hq, ?_, ?_⟩
    · exact State.histBin_setHistBin_self ..
    · exact congrArg LineLane.histTaken (State.line_setLine_self _ _ _ (show k.val < s.lines.length by omega))
  · refine ⟨_, congrArg Outcome.next (if_pos ⟨hruns, hbusy, hfull⟩), ?_, ?_, ?_, rfl⟩
    · simp (disch := decide) [State.flag_eq, State.putFlag_eq, State.raise_eq, b2n]
    · simp (disch := decide) [State.flag_eq, State.putFlag_eq, State.raise_eq, b2n]
    · rw [State.flag_raise_self rfl rfl]
  · have hlen : k.val < s.lines.length := by omega
    have hover : ((s.fadeOver k).line k).fade = none := congrArg LineLane.fade (State.line_setLine_self _ _ _ hlen)
    cases f with
    | rampOut => exact absurd rfl hramp
    | fadeOut => exact ⟨_, execVnleFadeDone_of_fadeOut hfade hnow, hover, nofun⟩
    | fadeIn =>
      obtain ⟨t, ht, hx⟩ := execVnleFadeDone_of_fadeIn hfade hnow
      refine ⟨t, ht, ?_⟩
      obtain rfl | rfl := hx
      · refine ⟨hover, fun _ => ⟨?_, ?_, rfl⟩⟩
        · simp (disch := decide) [State.flag_eq, State.putFlag_eq, State.raise_eq, b2n]
        · rw [State.flag_log, State.flag_raise_self rfl rfl]
      · refine ⟨hover, fun _ => ⟨?_, ?_, rfl⟩⟩
        · simp (disch := decide) [State.flag_eq, State.putFlag_eq, State.raise_eq, b2n]
        · simp (disch := decide) [State.flag_eq, State.putFlag_eq, State.raise_eq]

end Sys2Proof.Machine

/-!
PROOFS. Receive calibration (O17): the commands, the targets that MEASURE sets, and the end of each phase.
-/

namespace Sys2Proof.Machine

open Host

variable {s t : State}

/-! ## The commands (R81, R84) -/

/-- A run waits for `w` with this MASK and these rounds, and nothing has been measured yet. -/
def calRunOf (p : Params) (w : Ticket) : CalRun := { mask := p.byte 1, rounds := p.byte 2, waiter := w }

/-- A run has been accepted and its status words are those of CHECK. -/
def State.calRxChecking (s : State) (p : Params) (w : Ticket) : State :=
  (((((s.setLine (p.byte 0) { s.line (p.byte 0) with calRx := some (calRunOf p w) }).setReg .LRX_CAL_RESULT0 0 (p.byte 0)).put
    LRX_CAL_STAT.MASK (p.byte 1) (p.byte 0)).put LRX_CAL_STAT.PHASE 1 (p.byte 0)).put LRX_CAL_STAT.ROUND 0 (p.byte 0))

/-- Round 1 begins in MEASURE. -/
def State.calRxBegun (s : State) (k : Nat) : State :=
  ((s.put LRX_CAL_STAT.PHASE 2 k).put LRX_CAL_STAT.ROUND 1 k).putFlag LRX_STAT.CAL_BUSY true k

theorem State.calRxCheck_calRxChecking (p : Params) (w : Ticket) (k : Nat) :
    (s.calRxChecking p w).calRxCheck k = s.calRxCheck k := by
  have hflag : ∀ f : Fld, f.reg = .LRX_STAT → (s.calRxChecking p w).flag f k = s.flag f k := fun f hf => by
    simp [State.calRxChecking, State.flag_eq, State.fld, State.reg_put, hf]
  rw [State.calRxCheck, hflag _ rfl, hflag _ rfl, hflag _ rfl, State.calRxCheck]

/-- CAL_RX_RUN with its parameters in range on a used lane that is ready. -/
theorem cmdCalRxRun_of_ready {p : Params} {w : Ticket}
    (hp : ¬ (7 < p.byte 0 ∨ p.byte 1 = 0 ∨ 7 < p.byte 1 ∨ p.byte 2 = 0 ∨ 8 < p.byte 2 ∨ p.zeroFrom 3 = false))
    (ha : s.applyHoldsLine (p.byte 0) = false) (hu : s.lineUsed (p.byte 0) = true) (hn : (s.line (p.byte 0)).calRx = none)
    (hc : s.calRxCheck (p.byte 0) = 0) :
    cmdCalRxRun p w s = (.later, (s.calRxChecking p w).calRxBegun (p.byte 0)) := by
  have hc' : ¬ (s.calRxChecking p w).calRxCheck (p.byte 0) ≠ 0 := by rw [State.calRxCheck_calRxChecking, hc]; decide
  unfold cmdCalRxRun
  rw [if_neg hp, if_neg (by simp [ha]), if_neg (by simp [hu]), if_neg (by simp [hn])]
  exact if_neg hc'

theorem State.calRxBegun_results {k : Nat} :
    (s.calRxBegun k).fld LRX_CAL_STAT.PHASE k = 2 ∧ (s.calRxBegun k).fld LRX_CAL_STAT.ROUND k = 1 ∧
      (s.calRxBegun k).flag LRX_STAT.CAL_BUSY k = true := by
  refine ⟨?_, ?_, State.flag_putFlag_self rfl rfl ..⟩
  · simp (disch := decide) [State.calRxBegun, State.putFlag_eq]
  · simp (disch := decide) [State.calRxBegun, State.putFlag_eq]

/-- Neither the acceptance nor the begin of round 1 completes a command. -/
theorem State.eyelet_calRxBegun (p : Params) (w : Ticket) (k e : Nat) :
    ((s.calRxChecking p w).calRxBegun k).eyelet e = s.eyelet e := rfl

theorem State.calRx_calRxBegun {p : Params} (hk : p.byte 0 < s.lines.length) (w : Ticket) (k : Nat) :
    (((s.calRxChecking p w).calRxBegun k).line (p.byte 0)).calRx = some (calRunOf p w) := by
  have hlines : ((s.calRxChecking p w).calRxBegun k).lines =
      s.lines.set (p.byte 0) { s.line (p.byte 0) with calRx := some (calRunOf p w) } := rfl
  rw [State.line, hlines, getD_set_self _ _ _ _ hk]

/-- CAL_RX_ABORT of a lane that no apply holds: it answers whether a run was ended. -/
theorem cmdCalRxAbort_of_free {p : Params} (hp : ¬ (7 < p.byte 0 ∨ p.zeroFrom 1 = false))
    (ha : s.applyHoldsLine (p.byte 0) = false) (w : Ticket) :
    cmdCalRxAbort p w s = (okWith (b2n (s.line (p.byte 0)).calRx.isSome), s.endCalRx (p.byte 0) 0x0305 0) := by
  unfold cmdCalRxAbort
  rw [if_neg hp, if_neg (by simp [ha])]
  cases h : (s.line (p.byte 0)).calRx with
  | none =>
    rw [State.endCalRx_of_none h]
    rfl
  | some run => rfl

theorem cmdCalRxStatus_of_free {p : Params} (hp : ¬ (7 < p.byte 0 ∨ p.zeroFrom 1 = false))
    (ha : s.applyHoldsLine (p.byte 0) = false) (w : Ticket) :
    cmdCalRxStatus p w s =
      (okWith (s.reg .LRX_CAL_STAT (p.byte 0)).toNat (s.reg .LRX_CAL_RESULT0 (p.byte 0)).toNat, s) := by
  unfold cmdCalRxStatus
  rw [if_neg hp, if_neg (by simp [ha])]

/-! ## Targets (R81) -/

/-- The target of a field of sub-ADC `n`: the current trim plus a delta, limited to the field's range. -/
def State.trimGoal (s : State) (k n : Nat) (f : Nat × Nat) (d : Int) : Int :=
  satSigned f.2 (signed f.2 (getBits (s.reg .LRX_ADC_TRIM k n) f.1 f.2) + d)

/-- A target word with one field set to a signed value. -/
def withTarget (x : W32) (f : Nat × Nat) (y : Int) : W32 := setBits x f.1 f.2 (unsigned f.2 y)

/-- A field's target is set, and CLAMPED too where the target meets the field's range. -/
theorem State.targetField_cases (s : State) (k n : Nat) (f : Nat × Nat) (d : Int) :
    let u := s.setReg .LRX_ADC_TTRIM (withTarget (s.reg .LRX_ADC_TTRIM k n) f (s.trimGoal k n f d)) k n
    s.targetField k n f d = u ∨ s.targetField k n f d = u.raise LRX_CAL_RESULT0.CLAMPED k := by
  unfold State.targetField
  dsimp only
  split
  · exact .inl rfl
  · exact .inr rfl

theorem State.reg_targetField {r : Reg} (h : r ≠ .LRX_CAL_RESULT0) (k n : Nat) (f : Nat × Nat) (d : Int) (i : Nat) :
    (s.targetField k n f d).reg r k i = if r = .LRX_ADC_TTRIM ∧ i = n then
      withTarget (s.reg .LRX_ADC_TTRIM k n) f (s.trimGoal k n f d) else s.reg r k i := by
  obtain e | e := s.targetField_cases k n f d
  · rw [e, State.reg_setReg]
    simp
  · rw [e, State.raise_eq, State.reg_put _ h, State.reg_setReg]
    simp

theorem State.lines_targetField (k n : Nat) (f : Nat × Nat) (d : Int) : (s.targetField k n f d).lines = s.lines := by
  obtain e | e := s.targetField_cases k n f d
  · rw [e]
    rfl
  · rw [e]
    rfl

/-- The targets of one field of the first `n` sub-ADCs are set. -/
def State.targetFirst (s : State) (k n : Nat) (f : Nat × Nat) (ds : List Int) : State :=
  (List.range n).foldl (fun s i => s.targetField k i f (ds.getD i 0)) s

theorem State.targetFirst_succ (k n : Nat) (f : Nat × Nat) (ds : List Int) :
    s.targetFirst k (n + 1) f ds = (s.targetFirst k n f ds).targetField k n f (ds.getD n 0) := by
  simp only [State.targetFirst, List.range_succ, List.foldl_append, List.foldl_cons, List.foldl_nil]

theorem State.reg_targetFirst {r : Reg} (h : r ≠ .LRX_CAL_RESULT0) (h' : r ≠ .LRX_ADC_TTRIM) (k n : Nat) (f : Nat × Nat)
    (ds : List Int) (i : Nat) : (s.targetFirst k n f ds).reg r k i = s.reg r k i := by
  induction n with
  | zero => rfl
  | succ n ih => rw [State.targetFirst_succ, State.reg_targetField h, if_neg (fun hr => h' hr.1), ih]

theorem State.lines_targetFirst (k n : Nat) (f : Nat × Nat) (ds : List Int) : (s.targetFirst k n f ds).lines = s.lines := by
  induction n with
  | zero => rfl
  | succ n ih => rw [State.targetFirst_succ, State.lines_targetField, ih]

/-- Each sub-ADC's target is set from its own current trim. -/
theorem State.ttrim_targetFirst (k n : Nat) (f : Nat × Nat) (ds : List Int) (i : Nat) :
    (s.targetFirst k n f ds).reg .LRX_ADC_TTRIM k i = if i < n then
      withTarget (s.reg .LRX_ADC_TTRIM k i) f (s.trimGoal k i f (ds.getD i 0)) else s.reg .LRX_ADC_TTRIM k i := by
  induction n with
  | zero => rfl
  | succ n ih =>
    have hgoal : (s.targetFirst k n f ds).trimGoal k n f (ds.getD n 0) = s.trimGoal k n f (ds.getD n 0) := by
      rw [State.trimGoal, State.reg_targetFirst (by decide) (by decide), State.trimGoal]
    rw [State.targetFirst_succ, State.reg_targetField (by decide)]
    by_cases hi : i = n
    · subst hi
      rw [if_pos ⟨rfl, rfl⟩, if_pos (by omega), ih, if_neg (by omega), hgoal]
    · rw [if_neg (fun h => hi h.2), ih]
      simp only [(by omega : i < n + 1 ↔ i < n)]

theorem State.targetAll_eq (k : Nat) (sel : Bool) (f : Nat × Nat) (ds : List Int) :
    s.targetAll k sel f ds = if sel then s.targetFirst k 128 f ds else s := rfl

theorem State.lines_targetAll (k : Nat) (sel : Bool) (f : Nat × Nat) (ds : List Int) :
    (s.targetAll k sel f ds).lines = s.lines := by
  rw [State.targetAll_eq]
  split
  · exact State.lines_targetFirst ..
  · rfl

theorem State.trim_targetAll (k : Nat) (sel : Bool) (f : Nat × Nat) (ds : List Int) (i : Nat) :
    (s.targetAll k sel f ds).reg .LRX_ADC_TRIM k i = s.reg .LRX_ADC_TRIM k i := by
  rw [State.targetAll_eq]
  split
  · exact State.reg_targetFirst (by decide) (by decide) ..
  · rfl

/-- The value of a field of sub-ADC `i`'s target. -/
def State.target (s : State) (k i : Nat) (f : Nat × Nat) : Int := signed f.2 (getBits (s.reg .LRX_ADC_TTRIM k i) f.1 f.2)

/-- A selected field takes its goal. -/
theorem State.target_targetAll_self {f : Nat × Nat} (hf : f.1 + f.2 ≤ 32) (hw : 0 < f.2) {i : Nat} (hi : i < 128) (k : Nat)
    (sel : Bool) (ds : List Int) :
    (s.targetAll k sel f ds).target k i f = if sel then s.trimGoal k i f (ds.getD i 0) else s.target k i f := by
  rw [State.targetAll_eq]
  split
  · rw [State.target, State.ttrim_targetFirst, if_pos hi]
    exact signed_getBits_setBits hf hw ..
  · rfl

/-- The other fields keep their targets. -/
theorem State.target_targetAll_apart {f g : Nat × Nat} (hg : g.1 + g.2 ≤ 32) (h : f.1 + f.2 ≤ g.1 ∨ g.1 + g.2 ≤ f.1)
    (k i : Nat) (sel : Bool) (ds : List Int) : (s.targetAll k sel f ds).target k i g = s.target k i g := by
  rw [State.targetAll_eq]
  split
  · rw [State.target, State.ttrim_targetFirst]
    split
    · rw [withTarget, getBits_setBits_disjoint _ _ hg h, State.target]
    · rfl
  · rfl

theorem State.trimGoal_targetAll (k i : Nat) (g : Nat × Nat) (d : Int) (sel : Bool) (f : Nat × Nat) (ds : List Int) :
    (s.targetAll k sel f ds).trimGoal k i g d = s.trimGoal k i g d := by
  rw [State.trimGoal, State.trim_targetAll, State.trimGoal]

/-! ## MEASURE and APPLY (R81) -/

/-- The deltas of a field that the run's MASK selects; none of another. -/
def maskedDeltas (mask bit lim : Nat) (est : List Int) : List Int := if bitOf mask bit then calDeltas 128 lim est else []

/-- The step periods that the APPLY phase takes: the largest delta. -/
def calPeriods (mask : Nat) (skew gain offset : List Int) : Nat :=
  max (maxAbs (maskedDeltas mask 0 8 offset)) (max (maxAbs (maskedDeltas mask 1 8 gain)) (maxAbs (maskedDeltas mask 2 16 skew)))

/-- A run after the MEASURE phase. -/
def CalRun.measured (run : CalRun) (skew gain offset : List Int) : CalRun :=
  { run with
    periods := calPeriods run.mask skew gain offset
    skewSpread := if bitOf run.mask 2 then satN 16 ((spreadOf 128 skew + 8) / 16) else 0
    offsetSpread := if bitOf run.mask 0 then satN 16 ((spreadOf 128 offset + 128) / 256) else 0 }

/-- The targets of the selected fields are set. -/
def State.calTargeted (s : State) (k mask : Nat) (skew gain offset : List Int) : State :=
  ((s.targetAll k (bitOf mask 2) (0, 8) (maskedDeltas mask 2 16 skew)).targetAll k (bitOf mask 1) (8, 8)
    (maskedDeltas mask 1 8 gain)).targetAll k (bitOf mask 0) (16, 6) (maskedDeltas mask 0 8 offset)

/-- A lane's run has been replaced. -/
def State.withRun (s : State) (k : Nat) (run : CalRun) : State := s.setLine k { s.line k with calRx := some run }

/-- Every delta was 0: the run ends as converged. -/
def State.calConverged (s : State) (k : Nat) : State := (s.raise LRX_CAL_RESULT0.CONVERGED k).endCalRx k 0 0

/-- The targets are set and APPLY begins with a step period. -/
def State.applyBegun (s : State) (k mask : Nat) (skew gain offset : List Int) : State :=
  ((s.calTargeted k mask skew gain offset).put LRX_CAL_STAT.PHASE 3 k).startTrims k

theorem execCalRxMeasureEnd_of_measure {k : Fin 8} {run : CalRun} (hrun : (s.line k).calRx = some run)
    (hphase : s.fld LRX_CAL_STAT.PHASE k = 2) (skew gain offset : List Int) :
    Machine.execCalRxMeasureEnd k skew gain offset s = .next (
      let x := s.withRun k (run.measured skew gain offset)
      if calPeriods run.mask skew gain offset = 0 then x.calConverged k else x.applyBegun k run.mask skew gain offset) := by
  unfold Machine.execCalRxMeasureEnd
  rw [hrun]
  exact congrArg Outcome.next (if_pos hphase)

/-- The targets that a MEASURE phase leaves. -/
theorem State.target_calTargeted {i : Nat} (hi : i < 128) (k mask : Nat) (skew gain offset : List Int) :
    (s.calTargeted k mask skew gain offset).target k i (0, 8) =
        (if bitOf mask 2 then s.trimGoal k i (0, 8) ((calDeltas 128 16 skew).getD i 0) else s.target k i (0, 8)) ∧
      (s.calTargeted k mask skew gain offset).target k i (8, 8) =
        (if bitOf mask 1 then s.trimGoal k i (8, 8) ((calDeltas 128 8 gain).getD i 0) else s.target k i (8, 8)) ∧
      (s.calTargeted k mask skew gain offset).target k i (16, 6) =
        (if bitOf mask 0 then s.trimGoal k i (16, 6) ((calDeltas 128 8 offset).getD i 0) else s.target k i (16, 6)) := by
  unfold State.calTargeted maskedDeltas
  refine ⟨?_, ?_, ?_⟩
  · rw [State.target_targetAll_apart (by decide) (by decide), State.target_targetAll_apart (by decide) (by decide),
      State.target_targetAll_self (by decide) (by decide) hi]
    cases bitOf mask 2 <;> rfl
  · rw [State.target_targetAll_apart (by decide) (by decide), State.target_targetAll_self (by decide) (by decide) hi,
      State.trimGoal_targetAll, State.target_targetAll_apart (by decide) (by decide)]
    cases bitOf mask 1 <;> rfl
  · rw [State.target_targetAll_self (by decide) (by decide) hi, State.trimGoal_targetAll, State.trimGoal_targetAll,
      State.target_targetAll_apart (by decide) (by decide), State.target_targetAll_apart (by decide) (by decide)]
    cases bitOf mask 0 <;> rfl

theorem State.lines_calTargeted (k mask : Nat) (skew gain offset : List Int) :
    (s.calTargeted k mask skew gain offset).lines = s.lines := by
  rw [State.calTargeted, State.lines_targetAll, State.lines_targetAll, State.lines_targetAll]

theorem State.length_lines_withRun (k : Nat) (run : CalRun) : (s.withRun k run).lines.length = s.lines.length := List.length_set

theorem State.calRx_withRun {k : Nat} (hk : k < s.lines.length) (run : CalRun) : ((s.withRun k run).line k).calRx = some run := by
  rw [State.withRun, State.line_setLine_self _ _ _ hk]

theorem State.calConverged_results {k : Nat} {run : CalRun} (hk : k < s.lines.length) (h : (s.line k).calRx = some run) :
    ((s.calConverged k).line k).calRx = none ∧ (s.calConverged k).flag LRX_CAL_RESULT0.CONVERGED k = true ∧
      (s.calConverged k).fld LRX_CAL_STAT.CODE k = 0 ∧
      (s.calConverged k).flag (CAL_CAUSE.RX_DONE (k % 4)) (dieOfLane k) = true := by
  obtain ⟨hnone, hcode, hdone, hresult⟩ := State.endCalRx_success (s := s.raise LRX_CAL_RESULT0.CONVERGED k) hk h 0
  refine ⟨hnone, ?_, hcode, hdone⟩
  calc (s.calConverged k).flag LRX_CAL_RESULT0.CONVERGED k
      = (s.raise LRX_CAL_RESULT0.CONVERGED k).flag LRX_CAL_RESULT0.CONVERGED k := by
        simp only [State.calConverged, State.flag_eq, State.fld, hresult]
    _ = true := State.flag_raise_self rfl rfl ..

theorem State.phase_applyBegun (k mask : Nat) (skew gain offset : List Int) :
    (s.applyBegun k mask skew gain offset).fld LRX_CAL_STAT.PHASE k = 3 := by
  rw [State.applyBegun, State.startTrims, State.fld_setLine, State.fld_put_self _ rfl]
  rfl

/-- The run stays as MEASURE left it. -/
theorem State.calRx_applyBegun {k : Nat} (hk : k < s.lines.length) (mask : Nat) (skew gain offset : List Int) :
    ((s.applyBegun k mask skew gain offset).line k).calRx = (s.line k).calRx := by
  have hlines : ((s.calTargeted k mask skew gain offset).put LRX_CAL_STAT.PHASE 3 k).lines = s.lines :=
    State.lines_calTargeted ..
  rw [State.applyBegun, State.startTrims, State.line_setLine_self _ _ _ (by rwa [hlines]), State.line, hlines, State.line]

theorem State.target_applyBegun (k mask : Nat) (skew gain offset : List Int) (i : Nat) (f : Nat × Nat) :
    (s.applyBegun k mask skew gain offset).target k i f = (s.calTargeted k mask skew gain offset).target k i f := by
  rw [State.target, State.applyBegun, State.startTrims, State.reg_setLine, State.reg_put _ (by decide), State.target]

/-- The end of APPLY: the round is counted, and the next begins or the run ends. -/
theorem execCalRxApplyEnd_of_applied {k : Fin 8} {run : CalRun} (hrun : (s.line k).calRx = some run)
    (hphase : s.fld LRX_CAL_STAT.PHASE k = 3) (hper : run.periods = 0) (htrim : s.trimsReached k run.mask = true) :
    Machine.execCalRxApplyEnd k s = .next (
      let x := s.bump LRX_CAL_RESULT0.ROUNDS_DONE k
      if s.fld LRX_CAL_STAT.ROUND k < run.rounds then
        (x.put LRX_CAL_STAT.ROUND (s.fld LRX_CAL_STAT.ROUND k + 1) k).put LRX_CAL_STAT.PHASE 2 k
      else x.endCalRx k 0 0) := by
  have hround : (s.bump LRX_CAL_RESULT0.ROUNDS_DONE k).fld LRX_CAL_STAT.ROUND k = s.fld LRX_CAL_STAT.ROUND k :=
    State.fld_put_apart _ rfl rfl ..
  unfold Machine.execCalRxApplyEnd
  rw [hrun]
  dsimp only
  rw [if_pos ⟨hphase, hper, htrim⟩, hround]

/-! ## Steps and writes of trims (R79, R80) -/

theorem execAdcTrimStep_of_due {k : Fin 8} {n : Fin 128} (hlock : s.flag LRX_STAT.CDR_LOCK k = true)
    (hdue : (s.line k).adc.due s.now n 128 = true) :
    ∃ t, Machine.execAdcTrimStep k n s = .next t ∧
      t.reg .LRX_ADC_TRIM k n = (stepTrim (s.reg .LRX_ADC_TRIM k n) (s.reg .LRX_ADC_TTRIM k n)).1 := by
  unfold Machine.execAdcTrimStep
  rw [if_pos ⟨hlock, hdue⟩]
  refine ⟨_, rfl, ?_⟩
  dsimp only
  split
  · rw [State.reg_put _ (by decide), State.reg_setLine, State.reg_setReg_self]
  · rw [State.reg_setLine, State.reg_setReg_self]

theorem State.ttrim_ttrimWrite {k : Nat} (h : (s.line k).calRx = none) (n : Nat) (data : W32) :
    let m := (Reg.access .LRX_ADC_TTRIM).rwl ||| (Reg.access .LRX_ADC_TTRIM).rw
    let v := (s.reg .LRX_ADC_TTRIM k n &&& ~~~ m) ||| (data &&& m)
    (s.ttrimWrite k n data).reg .LRX_ADC_TTRIM k n = v ∧
      (s.ttrimWrite k n data).reg .LRX_ADC_TRIM k n =
        (if s.flag LRX_STAT.CDR_LOCK k then s.reg .LRX_ADC_TRIM k n else v) := by
  intro m v
  have hlock : (s.writeRwl .LRX_ADC_TTRIM k n data).flag LRX_STAT.CDR_LOCK k = s.flag LRX_STAT.CDR_LOCK k := by
    rw [State.flag_eq, State.writeRwl, State.fld_setReg _ (by decide), State.flag_eq]
  have hself : (s.writeRwl .LRX_ADC_TTRIM k n data).reg .LRX_ADC_TTRIM k n = v := State.reg_setReg_self ..
  have hother : (s.writeRwl .LRX_ADC_TTRIM k n data).reg .LRX_ADC_TRIM k n = s.reg .LRX_ADC_TRIM k n :=
    State.reg_setReg_reg _ (by decide) ..
  unfold State.ttrimWrite
  rw [if_neg (by simp [h])]
  dsimp only
  rw [hlock]
  split
  · exact ⟨hself, hother⟩
  · rw [State.reg_setReg_reg _ (by decide), State.reg_setReg_self]
    exact ⟨hself, hself⟩

/-- Settles O17: the handlers are followed to their completions, and each phase's end to the state it leaves. -/
theorem receiveCalibrationResults : Obligations.ReceiveCalibrationResults := by
  unfold Obligations.ReceiveCalibrationResults
  refine ⟨fun e s hruns hshape h0 hused hfree h1 h1' h2 h2' hz hnone hcheck => ?_,
    fun e s hruns hshape h0 hfree hz hother => ?_, fun e s hruns h0 hfree hz => ?_,
    fun k skew gain offset s run hshape hrun hphase => ?_, fun k s run hshape hrun hphase hper htrim => ?_,
    fun k n s hlock hdue => execAdcTrimStep_of_due hlock hdue, fun k n data s hused hnone =>
      ⟨_, congrArg Outcome.next (if_pos hused), State.ttrim_ttrimWrite hnone n data⟩⟩
  · have hlen : (s.params e).byte 0 < (s.begun e).lines.length := (by omega : (s.params e).byte 0 < s.lines.length)
    have hf := cmdCalRxRun_of_ready (s := s.begun e) (w := s.ticket e) (by simp [hz, h1, h2]; omega) hfree hused hnone hcheck
    obtain ⟨hphase, hround, hbusy⟩ := State.calRxBegun_results (s := (s.begun e).calRxChecking (s.params e) (s.ticket e))
      (k := (s.params e).byte 0)
    refine completes_of_later hruns rfl hf ⟨?_, hphase, hround, hbusy, ?_⟩
    · rw [State.calRx_calRxBegun hlen]
      rfl
    · obtain ⟨-, -, -, -, hreply, -, -⟩ := hruns
      rw [State.eyelet_calRxBegun, State.begun, State.eyelet_setEyelet, if_pos rfl, hreply]
  · have hlen : (s.params e).byte 0 < (s.begun e).lines.length := (by omega : (s.params e).byte 0 < s.lines.length)
    have hf := cmdCalRxAbort_of_free (s := s.begun e) (by simp [hz]; omega) hfree (s.ticket e)
    have heyelet : ((s.begun e).endCalRx ((s.params e).byte 0) 0x0305 0).eyelet e = (s.begun e).eyelet e :=
      State.eyelet_endCalRx_of_other (s := s.begun e) hother _ _
    refine ⟨_, ?_, State.reply_finish_ticket hruns heyelet _, ?_⟩
    · exact congrArg Outcome.next ((State.runCmd_of_runs hruns).trans (by rw [hf]; rfl))
    · rw [State.line, State.finish_lines]
      exact State.calRx_endCalRx hlen _ _
  · have hf := cmdCalRxStatus_of_free (s := s.begun e) (by simp [hz]; omega) hfree (s.ticket e)
    exact completes_of_done hruns rfl hf rfl fun t hans _ _ => hans
  · have hlen : k.val < s.lines.length := by omega
    have hxlen : k.val < (s.withRun k (run.measured skew gain offset)).lines.length := by rwa [State.length_lines_withRun]
    have hxrun := State.calRx_withRun hlen (run.measured skew gain offset)
    have hexec := execCalRxMeasureEnd_of_measure hrun hphase skew gain offset
    by_cases hn : calPeriods run.mask skew gain offset = 0
    · exact ⟨_, hexec.trans (congrArg Outcome.next (if_pos hn)), fun _ => State.calConverged_results hxlen hxrun,
        fun h => absurd hn h⟩
    · refine ⟨_, hexec.trans (congrArg Outcome.next (if_neg hn)), fun h => absurd h hn, fun _ =>
        ⟨State.phase_applyBegun .., (State.calRx_applyBegun hxlen ..).trans hxrun, fun i hi => ?_⟩⟩
      obtain ⟨hskew, hgain, hoffset⟩ := State.target_calTargeted (s := s.withRun k (run.measured skew gain offset)) hi k run.mask
        skew gain offset
      exact ⟨(State.target_applyBegun ..).trans hskew, (State.target_applyBegun ..).trans hgain,
        (State.target_applyBegun ..).trans hoffset⟩
  · have hlen : k.val < (s.bump LRX_CAL_RESULT0.ROUNDS_DONE k).lines.length := (by omega : k.val < s.lines.length)
    have hexec := execCalRxApplyEnd_of_applied hrun hphase hper htrim
    have hdone := State.fld_bump_self (s := s) (f := LRX_CAL_RESULT0.ROUNDS_DONE) rfl k 0
    by_cases hlt : s.fld LRX_CAL_STAT.ROUND k < run.rounds
    · refine ⟨_, hexec.trans (congrArg Outcome.next (if_pos hlt)), fun _ => ⟨?_, ?_⟩, fun h => absurd hlt (by omega), ?_⟩
      · exact State.fld_put_self (f := LRX_CAL_STAT.PHASE) _ rfl ..
      · exact (State.fld_put_apart _ rfl rfl ..).trans (State.fld_put_self _ rfl ..)
      · rw [State.fld_put_apart _ rfl rfl, State.fld_put_apart _ rfl rfl, hdone]
    · obtain ⟨hnone, hcode, -, hresult⟩ := State.endCalRx_success hlen hrun 0
      refine ⟨_, hexec.trans (congrArg Outcome.next (if_neg hlt)), fun h => absurd h hlt, fun _ => ⟨hnone, hcode⟩, ?_⟩
      rw [State.fld, hresult]
      exact hdone

end Sys2Proof.Machine

/-!
PROOFS. Line transmitters after a reset (O47): the boot watchdog acts 5 s after an image has started, and not before.
-/

namespace Sys2Proof.Machine

open Host

/-- An image has just started, and the output of line lane 0 is live. -/
def justStarted : State := State.put { State.reset with pwr := { boot := .started } } LTX_SQ_STAT.REASON 0 0

/-- The boot watchdog leaves alone an image that has not had its 5 s (R339). -/
theorem exec_bootWatchdog_of_early {s : State} (h : s.now < s.boot.startedAt + watchdogTime) :
    Machine.exec .bootWatchdog s = .next s :=
  congrArg Outcome.next (if_neg fun ⟨_, _, hlate⟩ => absurd h (Nat.not_lt.mpr hlate))

/-- Refutes O47: in `justStarted` nothing holds the device and the image has started, so that the watchdog is taken for a reset;
but its 5 s have not passed, and the output stays live. -/
theorem not_transmitterAfterReset : ¬ Obligations.TransmitterAfterReset := by
  unfold Obligations.TransmitterAfterReset
  intro h
  have htakes : TakesReset .bootWatchdog justStarted := ⟨rfl, rfl⟩
  have hexec : Machine.exec .bootWatchdog justStarted = .next justStarted := exec_bootWatchdog_of_early (by decide)
  obtain ⟨hreason, -⟩ := h .bootWatchdog justStarted justStarted htakes hexec 0 (by decide)
  exact absurd hreason (by decide)

end Sys2Proof.Machine

/-!
PROOFS. Transmit calibration (O18): the commands, the end of a run, the targets that MEASURE sets, and the end of each phase.
-/

namespace Sys2Proof.Machine

open Host

variable {s t : State}

/-! ## Counters that count several (R135) -/

section

variable {r : Reg} {u : Nat} {f : Fld} {fu : Nat} (h : satField r u = some (f, fu))
include h

/-- An error-statistics counter that counts `n` more stays as it is, takes a value, or takes a value and sets SAT. -/
theorem State.incBy_cases (s : State) (i n : Nat) :
    s.inc r u i n = s ∨ (∃ v, s.inc r u i n = s.setCnt r v u i) ∨ ∃ v, s.inc r u i n = (s.setCnt r v u i).raise f fu := by
  unfold State.inc
  simp only [h]
  split
  · exact .inl rfl
  · split
    · exact .inr (.inl ⟨_, rfl⟩)
    · exact .inr (.inr ⟨_, rfl⟩)

/-- It changes registers and counters alone. -/
theorem State.incBy_eq (s : State) (i n : Nat) : ∃ q c, s.inc r u i n = { s with regs := q, cnts := c } := by
  obtain e | ⟨v, e⟩ | ⟨v, e⟩ := State.incBy_cases h s i n
  · exact ⟨_, _, e⟩
  · exact ⟨_, _, e⟩
  · exact ⟨_, _, e⟩

end

/-! ## The commands (R103, R105) -/

/-- A run of the skew trims with these rounds, for which `w` waits; nothing has been measured yet. -/
def calTxRunOf (p : Params) (w : Ticket) : CalRun := { mask := 4, rounds := p.byte 2, waiter := w }

/-- A run has been accepted and its status words are those of CHECK. -/
def State.calTxChecking (s : State) (p : Params) (w : Ticket) : State :=
  ((((s.setLine (p.byte 0) { s.line (p.byte 0) with calTx := some (calTxRunOf p w) }).setReg .LTX_CAL_RESULT0 0 (p.byte 0)).put
    LTX_CAL_STAT.MASK 4 (p.byte 0)).put LTX_CAL_STAT.PHASE 1 (p.byte 0)).put LTX_CAL_STAT.ROUND 0 (p.byte 0)

/-- Round 1 begins in MEASURE. -/
def State.calTxBegun (s : State) (k : Nat) : State :=
  ((s.put LTX_CAL_STAT.PHASE 2 k).put LTX_CAL_STAT.ROUND 1 k).putFlag LTX_STAT.CAL_BUSY true k

theorem State.calTxCheck_calTxChecking (p : Params) (w : Ticket) (k : Nat) :
    (s.calTxChecking p w).calTxCheck k = s.calTxCheck k := by
  have hreg : ∀ r, r = .CLK_LOCK ∨ r = .LTX_SQ_STAT → ∀ u, (s.calTxChecking p w).reg r u = s.reg r u := by
    rintro r (rfl | rfl) u <;> simp [State.calTxChecking, State.reg_put]
  rw [State.calTxCheck, State.locked, State.bit, State.fld, hreg _ (.inl rfl), hreg _ (.inr rfl)]
  rfl

/-- CAL_TX_RUN with its parameters in range on a used lane that is ready. -/
theorem cmdCalTxRun_of_ready {p : Params} {w : Ticket}
    (hp : ¬ (7 < p.byte 0 ∨ p.byte 1 ≠ 0 ∨ p.byte 2 = 0 ∨ 8 < p.byte 2 ∨ p.zeroFrom 3 = false))
    (ha : s.applyHoldsLine (p.byte 0) = false) (hu : s.lineUsed (p.byte 0) = true) (hn : (s.line (p.byte 0)).calTx = none)
    (hc : s.calTxCheck (p.byte 0) = 0) :
    cmdCalTxRun p w s = (.later, (s.calTxChecking p w).calTxBegun (p.byte 0)) := by
  have hc' : ¬ (s.calTxChecking p w).calTxCheck (p.byte 0) ≠ 0 := by rw [State.calTxCheck_calTxChecking, hc]; decide
  unfold cmdCalTxRun
  rw [if_neg hp, if_neg (by simp [ha]), if_neg (by simp [hu]), if_neg (by simp [hn])]
  exact if_neg hc'

theorem State.calTxBegun_results {k : Nat} :
    (s.calTxBegun k).fld LTX_CAL_STAT.PHASE k = 2 ∧ (s.calTxBegun k).fld LTX_CAL_STAT.ROUND k = 1 ∧
      (s.calTxBegun k).flag LTX_STAT.CAL_BUSY k = true := by
  refine ⟨?_, ?_, State.flag_putFlag_self rfl rfl ..⟩
  · simp (disch := decide) [State.calTxBegun, State.putFlag_eq]
  · simp (disch := decide) [State.calTxBegun, State.putFlag_eq]

/-- Neither the acceptance nor the begin of round 1 completes a command. -/
theorem State.eyelet_calTxBegun (p : Params) (w : Ticket) (k e : Nat) :
    ((s.calTxChecking p w).calTxBegun k).eyelet e = s.eyelet e := rfl

theorem State.calTx_calTxBegun {p : Params} (hk : p.byte 0 < s.lines.length) (w : Ticket) (k : Nat) :
    (((s.calTxChecking p w).calTxBegun k).line (p.byte 0)).calTx = some (calTxRunOf p w) := by
  have hlines : ((s.calTxChecking p w).calTxBegun k).lines =
      s.lines.set (p.byte 0) { s.line (p.byte 0) with calTx := some (calTxRunOf p w) } := rfl
  rw [State.line, hlines, getD_set_self _ _ _ _ hk]

theorem State.endCalTx_of_none {k : Nat} (h : (s.line k).calTx = none) (code check : Nat) : s.endCalTx k code check = s := by
  unfold State.endCalTx
  rw [h]

/-- CAL_TX_ABORT of a used lane that no apply holds: it answers whether a run was ended. -/
theorem cmdCalTxAbort_of_free {p : Params} (hp : ¬ (7 < p.byte 0 ∨ p.zeroFrom 1 = false))
    (ha : s.applyHoldsLine (p.byte 0) = false) (hu : s.lineUsed (p.byte 0) = true) (w : Ticket) :
    cmdCalTxAbort p w s = (okWith (b2n (s.line (p.byte 0)).calTx.isSome), s.endCalTx (p.byte 0) 0x0305 0) := by
  unfold cmdCalTxAbort
  rw [if_neg hp, if_neg (by simp [ha]), if_neg (by simp [hu])]
  cases h : (s.line (p.byte 0)).calTx with
  | none =>
    rw [State.endCalTx_of_none h]
    rfl
  | some run => rfl

theorem cmdCalTxStatus_of_free {p : Params} (hp : ¬ (7 < p.byte 0 ∨ p.zeroFrom 1 = false))
    (ha : s.applyHoldsLine (p.byte 0) = false) (hu : s.lineUsed (p.byte 0) = true) (w : Ticket) :
    cmdCalTxStatus p w s =
      (okWith (s.reg .LTX_CAL_STAT (p.byte 0)).toNat (s.reg .LTX_CAL_RESULT0 (p.byte 0)).toNat, s) := by
  unfold cmdCalTxStatus
  rw [if_neg hp, if_neg (by simp [ha]), if_neg (by simp [hu])]

/-! ## The end of a run (R104) -/

/-- What the end of a run leads to before the completion is sent: the lane is free, and no command has changed. -/
structure CalTxEnd (k : Nat) (s u : State) : Prop where
  lines : u.lines = s.lines.set k { s.line k with calTx := none }
  mbx : u.mbx = s.mbx

section

variable {k : Nat} {u : State} (h : CalTxEnd k s u)
include h

theorem CalTxEnd.setReg {r v u' i} : CalTxEnd k s (u.setReg r v u' i) := ⟨h.lines, h.mbx⟩
theorem CalTxEnd.put {f v u' i} : CalTxEnd k s (u.put f v u' i) := h.setReg
theorem CalTxEnd.raise {f u' i} : CalTxEnd k s (u.raise f u' i) := h.setReg
theorem CalTxEnd.log {c sev p0 p1 p2 p3} : CalTxEnd k s (u.log c sev p0 p1 p2 p3) := ⟨h.lines, h.mbx⟩

theorem CalTxEnd.inc {r f u' fu i n} (hs : satField r u' = some (f, fu) := by rfl) : CalTxEnd k s (u.inc r u' i n) := by
  obtain ⟨q, c, e⟩ := State.incBy_eq hs u i n
  rw [e]
  exact ⟨h.lines, h.mbx⟩

end

section

variable {k : Nat} {run : CalRun} (h : (s.line k).calTx = some run)
include h

/-- The end of a run completes the command that waits. -/
theorem State.endCalTx_eq_finish (code check : Nat) :
    ∃ (u : State) (r : Reply), s.endCalTx k code check = u.finish run.waiter r ∧ CalTxEnd k s u := by
  unfold State.endCalTx
  split
  · next hnone => simp [h] at hnone
  next run' hrun =>
  obtain rfl : run = run' := Option.some.inj (h.symm.trans hrun)
  extract_lets die phase round lane s1 s2 s3 s4 r1 freed r0 restored ended
  have hfreed : CalTxEnd k s freed := ⟨rfl, rfl⟩
  refine ⟨ended, _, rfl, ?_⟩
  simp only [ended]
  split
  · exact .log (.raise hfreed)
  · refine .log (.inc (.raise ?_))
    simp only [restored]
    split
    · exact hfreed
    · exact List.foldlRecOn _ _ hfreed fun _ hf _ _ => .setReg hf

/-- A success shows code 0 and TX_DONE, and the first word of its result stands. -/
theorem State.endCalTx_success_shows (check : Nat) :
    (s.endCalTx k 0 check).fld LTX_CAL_STAT.CODE k = 0 ∧
      (s.endCalTx k 0 check).flag (CAL_CAUSE.TX_DONE (k % 4)) (dieOfLane k) = true ∧
      (s.endCalTx k 0 check).reg .LTX_CAL_RESULT0 k = s.reg .LTX_CAL_RESULT0 k := by
  unfold State.endCalTx
  rw [h]
  dsimp only
  rw [if_pos rfl]
  simp only [State.flag_eq, State.fld_finish, State.reg_finish]
  refine ⟨?_, ?_, ?_⟩
  · rw [State.fld_log, State.raise_eq, State.fld_put_apart _ rfl rfl, State.fld_setReg _ (by decide),
      State.fld_put_self _ rfl, Nat.zero_mod]
  · rw [State.fld_log, ← State.flag_eq]
    exact State.flag_raise_self (by simp only [Fld.fits, decide_eq_true_eq]; omega) rfl ..
  · simp [State.raise_eq, State.reg_put, State.putFlag_eq]

end

section

variable {k : Nat} (hk : k < s.lines.length)
include hk

/-- No run is left. -/
theorem State.calTx_endCalTx (code check : Nat) : ((s.endCalTx k code check).line k).calTx = none := by
  cases h : (s.line k).calTx with
  | none => rw [State.endCalTx_of_none h, h]
  | some run =>
    obtain ⟨u, r, e, hend⟩ := State.endCalTx_eq_finish h code check
    rw [e, State.line, State.finish_lines, hend.lines, getD_set_self _ _ _ _ hk]

end

/-- A run that ends leaves the eyelets alone of all who did not wait for it. -/
theorem State.eyelet_endCalTx_of_other {k e : Nat}
    (h : ∀ run, (s.line k).calTx = some run → run.waiter.aqique = true ∨ run.waiter.eyelet ≠ e) (code check : Nat) :
    (s.endCalTx k code check).eyelet e = s.eyelet e := by
  cases hrun : (s.line k).calTx with
  | none => rw [State.endCalTx_of_none hrun]
  | some run =>
    obtain ⟨u, r, he, hend⟩ := State.endCalTx_eq_finish hrun code check
    rw [he, State.eyelet_finish_of_other (h run hrun), State.eyelet, hend.mbx, State.eyelet]

/-! ## Targets (R103) -/

/-- The target of sub-DAC `n`: its current skew trim plus a delta, limited to the field's range. -/
def State.dacGoal (s : State) (k n : Nat) (d : Int) : Int := satSigned 8 (s.sfld LTX_DAC_TRIM.SKEW k n + d)

/-- A target is set, and CLAMPED too where it meets the field's range. -/
theorem State.dacTarget_cases (s : State) (k n : Nat) (d : Int) :
    let u := s.put LTX_DAC_TTRIM.SKEW (unsigned 8 (s.dacGoal k n d)) k n
    s.dacTarget k n d = u ∨ s.dacTarget k n d = u.raise LTX_CAL_RESULT0.CLAMPED k := by
  unfold State.dacTarget
  dsimp only
  split
  · exact .inl rfl
  · exact .inr rfl

/-- The target reads back as it was set. -/
theorem State.target_dacTarget_self (k n : Nat) (d : Int) :
    (s.dacTarget k n d).sfld LTX_DAC_TTRIM.SKEW k n = s.dacGoal k n d := by
  have hput : (s.put LTX_DAC_TTRIM.SKEW (unsigned 8 (s.dacGoal k n d)) k n).sfld LTX_DAC_TTRIM.SKEW k n = s.dacGoal k n d := by
    obtain ⟨hlo, hhi⟩ := satSigned_bounds 8 (s.sfld LTX_DAC_TRIM.SKEW k n + d)
    rw [State.sfld, State.fld_put_self _ rfl, signed_mod]
    exact signed_unsigned (by decide) hlo hhi
  obtain e | e := s.dacTarget_cases k n d
  · rw [e, hput]
  · rw [e, State.sfld, State.raise_eq, State.fld_put_apart _ rfl rfl, ← State.sfld, hput]

/-- The other sub-DACs keep their targets. -/
theorem State.target_dacTarget_ne {k n i : Nat} (h : i ≠ n) (d : Int) :
    (s.dacTarget k n d).sfld LTX_DAC_TTRIM.SKEW k i = s.sfld LTX_DAC_TTRIM.SKEW k i := by
  obtain e | e := s.dacTarget_cases k n d
  · rw [e, State.sfld, State.fld_put_unit _ _ _ (.inr h), State.sfld]
  · rw [e, State.sfld, State.raise_eq, State.fld_put_apart _ rfl rfl, State.fld_put_unit _ _ _ (.inr h), State.sfld]

/-- Neither the trims nor what the lanes hold change with a target. -/
theorem State.dacTarget_keeps (k n : Nat) (d : Int) :
    (∀ u i, (s.dacTarget k n d).reg .LTX_DAC_TRIM u i = s.reg .LTX_DAC_TRIM u i) ∧ (s.dacTarget k n d).lines = s.lines := by
  obtain e | e := s.dacTarget_cases k n d
  · rw [e]
    exact ⟨fun _ _ => State.reg_put _ (by decide) .., rfl⟩
  · rw [e]
    exact ⟨fun _ _ => (State.reg_put _ (by decide) ..).trans (State.reg_put _ (by decide) ..), rfl⟩

/-- The targets of the first `n` sub-DACs are set. -/
def State.dacTargetFirst (s : State) (k n : Nat) (ds : List Int) : State :=
  (List.range n).foldl (fun s i => s.dacTarget k i (ds.getD i 0)) s

theorem State.dacTargetFirst_succ (k n : Nat) (ds : List Int) :
    s.dacTargetFirst k (n + 1) ds = (s.dacTargetFirst k n ds).dacTarget k n (ds.getD n 0) := by
  simp only [State.dacTargetFirst, List.range_succ, List.foldl_append, List.foldl_cons, List.foldl_nil]

theorem State.dacTargetFirst_keeps (k n : Nat) (ds : List Int) :
    (∀ u i, (s.dacTargetFirst k n ds).reg .LTX_DAC_TRIM u i = s.reg .LTX_DAC_TRIM u i) ∧
      (s.dacTargetFirst k n ds).lines = s.lines := by
  induction n with
  | zero => exact ⟨fun _ _ => rfl, rfl⟩
  | succ n ih =>
    obtain ⟨htrim, hlines⟩ := ih
    obtain ⟨htrim', hlines'⟩ := State.dacTarget_keeps (s := s.dacTargetFirst k n ds) k n (ds.getD n 0)
    rw [State.dacTargetFirst_succ]
    exact ⟨fun u i => (htrim' u i).trans (htrim u i), hlines'.trans hlines⟩

/-- Each sub-DAC's target is set from its own current trim. -/
theorem State.target_dacTargetFirst {k n i : Nat} (hi : i < n) (ds : List Int) :
    (s.dacTargetFirst k n ds).sfld LTX_DAC_TTRIM.SKEW k i = s.dacGoal k i (ds.getD i 0) := by
  induction n with
  | zero => exact absurd hi (Nat.not_lt_zero i)
  | succ n ih =>
    rw [State.dacTargetFirst_succ]
    by_cases h : i = n
    · obtain ⟨htrim, -⟩ := State.dacTargetFirst_keeps (s := s) k n ds
      rw [h, State.target_dacTarget_self]
      simp only [State.dacGoal, State.sfld, State.fld, htrim]
    · rw [State.target_dacTarget_ne h, ih (by omega)]

/-! ## MEASURE and APPLY (R103) -/

/-- A run after the MEASURE phase. -/
def CalRun.measuredTx (run : CalRun) (skew : List Int) : CalRun :=
  { run with periods := maxAbs (calDeltas 64 16 skew), skewSpread := satN 16 ((spreadOf 64 skew + 8) / 16) }

/-- A lane's run has been replaced. -/
def State.withTxRun (s : State) (k : Nat) (run : CalRun) : State := s.setLine k { s.line k with calTx := some run }

/-- Every delta was 0: the run ends as converged. -/
def State.calTxConverged (s : State) (k : Nat) : State := (s.raise LTX_CAL_RESULT0.CONVERGED k).endCalTx k 0 0

/-- The targets are set and APPLY begins with a step period. -/
def State.calTxApplying (s : State) (k : Nat) (ds : List Int) : State :=
  ((s.dacTargetFirst k 64 ds).put LTX_CAL_STAT.PHASE 3 k).startDacTrims k

theorem execCalTxMeasureEnd_of_measure {k : Fin 8} {run : CalRun} (hrun : (s.line k).calTx = some run)
    (hphase : s.fld LTX_CAL_STAT.PHASE k = 2) (skew : List Int) :
    Machine.execCalTxMeasureEnd k skew s = .next (
      let x := s.withTxRun k (run.measuredTx skew)
      if maxAbs (calDeltas 64 16 skew) = 0 then x.calTxConverged k else x.calTxApplying k (calDeltas 64 16 skew)) := by
  unfold Machine.execCalTxMeasureEnd
  rw [hrun]
  exact congrArg Outcome.next (if_pos hphase)

theorem State.length_lines_withTxRun (k : Nat) (run : CalRun) : (s.withTxRun k run).lines.length = s.lines.length :=
  List.length_set

theorem State.calTx_withTxRun {k : Nat} (hk : k < s.lines.length) (run : CalRun) :
    ((s.withTxRun k run).line k).calTx = some run := by
  rw [State.withTxRun, State.line_setLine_self _ _ _ hk]

theorem State.calTxConverged_results {k : Nat} {run : CalRun} (hk : k < s.lines.length) (h : (s.line k).calTx = some run) :
    ((s.calTxConverged k).line k).calTx = none ∧ (s.calTxConverged k).flag LTX_CAL_RESULT0.CONVERGED k = true ∧
      (s.calTxConverged k).fld LTX_CAL_STAT.CODE k = 0 ∧
      (s.calTxConverged k).flag (CAL_CAUSE.TX_DONE (k % 4)) (dieOfLane k) = true := by
  obtain ⟨hcode, hdone, hresult⟩ := State.endCalTx_success_shows (s := s.raise LTX_CAL_RESULT0.CONVERGED k) h 0
  refine ⟨State.calTx_endCalTx (s := s.raise LTX_CAL_RESULT0.CONVERGED k) hk 0 0, ?_, hcode, hdone⟩
  calc (s.calTxConverged k).flag LTX_CAL_RESULT0.CONVERGED k
      = (s.raise LTX_CAL_RESULT0.CONVERGED k).flag LTX_CAL_RESULT0.CONVERGED k := by
        simp only [State.calTxConverged, State.flag_eq, State.fld, hresult]
    _ = true := State.flag_raise_self rfl rfl ..

/-- APPLY has begun: the run stays as MEASURE left it, and each target is its trim's goal. -/
theorem State.calTxApplying_results {k : Nat} (hk : k < s.lines.length) (ds : List Int) :
    (s.calTxApplying k ds).fld LTX_CAL_STAT.PHASE k = 3 ∧ ((s.calTxApplying k ds).line k).calTx = (s.line k).calTx ∧
      ∀ i < 64, (s.calTxApplying k ds).sfld LTX_DAC_TTRIM.SKEW k i = s.dacGoal k i (ds.getD i 0) := by
  obtain ⟨-, hlines⟩ := State.dacTargetFirst_keeps (s := s) k 64 ds
  have hlines' : ((s.dacTargetFirst k 64 ds).put LTX_CAL_STAT.PHASE 3 k).lines = s.lines :=
    (State.put_lines ..).trans hlines
  refine ⟨?_, ?_, fun i hi => ?_⟩
  · rw [State.calTxApplying, State.startDacTrims, State.fld_setLine, State.fld_put_self _ rfl]
    rfl
  · rw [State.calTxApplying, State.startDacTrims, State.line_setLine_self _ _ _ (by rwa [hlines']), State.line, hlines', State.line]
  · have hput : (s.calTxApplying k ds).fld LTX_DAC_TTRIM.SKEW k i = (s.dacTargetFirst k 64 ds).fld LTX_DAC_TTRIM.SKEW k i := by
      rw [State.calTxApplying, State.startDacTrims, State.fld_setLine, State.fld_put_apart _ rfl rfl]
    rw [State.sfld, hput]
    exact State.target_dacTargetFirst hi ds

/-- The end of APPLY: the round is counted, and the next begins or the run ends. -/
theorem execCalTxApplyEnd_of_applied {k : Fin 8} {run : CalRun} (hrun : (s.line k).calTx = some run)
    (hphase : s.fld LTX_CAL_STAT.PHASE k = 3) (hper : run.periods = 0) (htrim : s.dacReached k = true) :
    Machine.execCalTxApplyEnd k s = .next (
      let x := s.bump LTX_CAL_RESULT0.ROUNDS_DONE k
      if s.fld LTX_CAL_STAT.ROUND k < run.rounds then
        (x.put LTX_CAL_STAT.ROUND (s.fld LTX_CAL_STAT.ROUND k + 1) k).put LTX_CAL_STAT.PHASE 2 k
      else x.endCalTx k 0 0) := by
  have hround : (s.bump LTX_CAL_RESULT0.ROUNDS_DONE k).fld LTX_CAL_STAT.ROUND k = s.fld LTX_CAL_STAT.ROUND k :=
    State.fld_put_apart _ rfl rfl ..
  unfold Machine.execCalTxApplyEnd
  rw [hrun]
  dsimp only
  rw [if_pos ⟨hphase, hper, htrim⟩, hround]

/-! ## Steps and writes of trims (R102) -/

theorem execDacTrimStep_of_due {k : Fin 8} {n : Fin 64} (hlive : s.txLive k = true)
    (hdue : (s.line k).dac.due s.now n 64 = true) :
    ∃ t, Machine.execDacTrimStep k n s = .next t ∧
      t.reg .LTX_DAC_TRIM k n = (stepField (0, 8) (s.reg .LTX_DAC_TRIM k n) (s.reg .LTX_DAC_TTRIM k n)).1 := by
  unfold Machine.execDacTrimStep
  rw [if_pos ⟨hlive, hdue⟩]
  refine ⟨_, rfl, ?_⟩
  dsimp only
  split
  · rw [State.reg_put _ (by decide), State.reg_setLine, State.reg_setReg_self]
  · rw [State.reg_setLine, State.reg_setReg_self]

theorem State.trims_dacTtrimWrite {k : Nat} (h : (s.line k).calTx = none) (n : Nat) (data : W32) :
    let m := (Reg.access .LTX_DAC_TTRIM).rwl ||| (Reg.access .LTX_DAC_TTRIM).rw
    let v := (s.reg .LTX_DAC_TTRIM k n &&& ~~~ m) ||| (data &&& m)
    (s.dacTtrimWrite k n data).reg .LTX_DAC_TTRIM k n = v ∧
      (s.dacTtrimWrite k n data).reg .LTX_DAC_TRIM k n =
        (if s.fld LTX_SQ_STAT.REASON k = 0 then s.reg .LTX_DAC_TRIM k n else v) := by
  intro m v
  have hreason : (s.writeRwl .LTX_DAC_TTRIM k n data).fld LTX_SQ_STAT.REASON k = s.fld LTX_SQ_STAT.REASON k :=
    State.fld_setReg _ (by decide) ..
  have hself : (s.writeRwl .LTX_DAC_TTRIM k n data).reg .LTX_DAC_TTRIM k n = v := State.reg_setReg_self ..
  have hother : (s.writeRwl .LTX_DAC_TTRIM k n data).reg .LTX_DAC_TRIM k n = s.reg .LTX_DAC_TRIM k n :=
    State.reg_setReg_reg _ (by decide) ..
  unfold State.dacTtrimWrite
  rw [if_neg (by simp [h])]
  dsimp only
  rw [hreason]
  split
  · exact ⟨hself, hother⟩
  · rw [State.reg_setReg_reg _ (by decide), State.reg_setReg_self]
    exact ⟨hself, hself⟩

/-- Settles O18: the handlers are followed to their completions, and each phase's end to the state it leaves. -/
theorem transmitCalibrationResults : Obligations.TransmitCalibrationResults := by
  unfold Obligations.TransmitCalibrationResults
  refine ⟨fun e s hruns hshape h0 hused hfree h1 h2 h2' hz hnone hcheck => ?_,
    fun e s hruns hshape h0 hused hfree hz hother => ?_, fun e s hruns h0 hused hfree hz => ?_,
    fun k skew s run hshape hrun hphase => ?_, fun k s run hshape hrun hphase hper htrim => ?_,
    fun k n s hused hlive hdue => execDacTrimStep_of_due (by simp [State.txLive, hused, hlive]) hdue, fun k n data s hused hnone =>
      ⟨_, congrArg Outcome.next (if_pos hused), State.trims_dacTtrimWrite hnone n data⟩⟩
  · have hlen : (s.params e).byte 0 < (s.begun e).lines.length := (by omega : (s.params e).byte 0 < s.lines.length)
    have hf := cmdCalTxRun_of_ready (s := s.begun e) (w := s.ticket e) (by simp [hz, h1, h2]; omega) hfree hused hnone hcheck
    obtain ⟨hphase, hround, hbusy⟩ := State.calTxBegun_results (s := (s.begun e).calTxChecking (s.params e) (s.ticket e))
      (k := (s.params e).byte 0)
    refine completes_of_later hruns rfl hf ⟨?_, hphase, hround, hbusy, ?_⟩
    · rw [State.calTx_calTxBegun hlen]
      rfl
    · obtain ⟨-, -, -, -, hreply, -, -⟩ := hruns
      rw [State.eyelet_calTxBegun, State.begun, State.eyelet_setEyelet, if_pos rfl, hreply]
  · have hlen : (s.params e).byte 0 < (s.begun e).lines.length := (by omega : (s.params e).byte 0 < s.lines.length)
    have hf := cmdCalTxAbort_of_free (s := s.begun e) (by simp [hz]; omega) hfree hused (s.ticket e)
    have heyelet : ((s.begun e).endCalTx ((s.params e).byte 0) 0x0305 0).eyelet e = (s.begun e).eyelet e :=
      State.eyelet_endCalTx_of_other (s := s.begun e) hother _ _
    refine ⟨_, ?_, State.reply_finish_ticket hruns heyelet _, ?_⟩
    · exact congrArg Outcome.next ((State.runCmd_of_runs hruns).trans (by rw [hf]; rfl))
    · rw [State.line, State.finish_lines]
      exact State.calTx_endCalTx hlen _ _
  · have hf := cmdCalTxStatus_of_free (s := s.begun e) (by simp [hz]; omega) hfree hused (s.ticket e)
    exact completes_of_done hruns rfl hf rfl fun t hans _ _ => hans
  · have hlen : k.val < s.lines.length := by omega
    have hxlen : k.val < (s.withTxRun k (run.measuredTx skew)).lines.length := by rwa [State.length_lines_withTxRun]
    have hxrun := State.calTx_withTxRun hlen (run.measuredTx skew)
    have hexec := execCalTxMeasureEnd_of_measure hrun hphase skew
    by_cases hn : maxAbs (calDeltas 64 16 skew) = 0
    · exact ⟨_, hexec.trans (congrArg Outcome.next (if_pos hn)), fun _ => State.calTxConverged_results hxlen hxrun,
        fun h => absurd hn h⟩
    · obtain ⟨happly, hkept, htarget⟩ := State.calTxApplying_results hxlen (calDeltas 64 16 skew)
      exact ⟨_, hexec.trans (congrArg Outcome.next (if_neg hn)), fun h => absurd h hn, fun _ =>
        ⟨happly, hkept.trans hxrun, htarget⟩⟩
  · have hlen : k.val < (s.bump LTX_CAL_RESULT0.ROUNDS_DONE k).lines.length := (by omega : k.val < s.lines.length)
    have hexec := execCalTxApplyEnd_of_applied hrun hphase hper htrim
    by_cases hlt : s.fld LTX_CAL_STAT.ROUND k < run.rounds
    · refine ⟨_, hexec.trans (congrArg Outcome.next (if_pos hlt)), fun _ => ⟨?_, ?_⟩, fun h => absurd hlt (by omega)⟩
      · exact State.fld_put_self (f := LTX_CAL_STAT.PHASE) _ rfl ..
      · exact (State.fld_put_apart _ rfl rfl ..).trans (State.fld_put_self _ rfl ..)
    · obtain ⟨hcode, -, -⟩ := State.endCalTx_success_shows (s := s.bump LTX_CAL_RESULT0.ROUNDS_DONE k) hrun 0
      exact ⟨_, hexec.trans (congrArg Outcome.next (if_neg hlt)), fun h => absurd h hlt, fun _ =>
        ⟨State.calTx_endCalTx hlen 0 0, hcode⟩⟩

end Sys2Proof.Machine

/-!
PROOFS. Line transmitters (O19): the shadows, COMMIT and the commit ramp.
-/

namespace Sys2Proof.Machine

open Host

variable {s t u : State}

/-! ## Codes -/

theorem unsigned_lt (w : Nat) (x : Int) : unsigned w x < 2 ^ w := by
  have hpos : (0 : Int) < (2 ^ w : Nat) := by exact_mod_cast Nat.two_pow_pos w
  have hnonneg := Int.emod_nonneg x hpos.ne'
  have hlt := Int.emod_lt_of_pos x hpos
  unfold unsigned
  omega

/-- The code of the value of a code is its low bits. -/
theorem unsigned_signed (w v : Nat) : unsigned w (signed w v) = v % 2 ^ w := by
  have hlt := Nat.mod_lt v (Nat.two_pow_pos w)
  unfold unsigned signed
  dsimp only
  split
  · rw [Int.emod_eq_of_lt (by omega) (by omega), Int.toNat_natCast]
  · rw [Int.sub_emod_right, Int.emod_eq_of_lt (by omega) (by omega), Int.toNat_natCast]

/-- A 12-bit field holds the code of its signed value. -/
theorem State.unsigned_sfld {f : Fld} (hw : f.w = 12) (k n : Nat) : unsigned 12 (s.sfld f k n) = s.fld f k n := by
  have hlt : s.fld f k n < 2 ^ f.w := getBits_lt ..
  rw [State.sfld, hw, unsigned_signed, ← hw, Nat.mod_eq_of_lt hlt]

/-- A value that a 12-bit field holds without saturation reads back from its code. -/
theorem signed_unsigned_of_satSigned {w : Nat} {x : Int} (hw : 0 < w) (h : satSigned w x = x) : signed w (unsigned w x) = x := by
  obtain ⟨hlo, hhi⟩ := satSigned_bounds w x
  rw [h] at hlo hhi
  exact signed_unsigned hw hlo hhi

/-- A parameter half that is in range is stored as its value. -/
theorem Params.signed_s12 {p : Params} {a c i : Nat} (h : p.allS12 a c = true) (hi : i < c) :
    signed 12 (unsigned 12 ((p.s12 (a + 2 * i)).getD 0)) = signed 16 (p.half (a + 2 * i)) := by
  have hsome : (p.s12 (a + 2 * i)).isSome = true := List.all_eq_true.1 h i (List.mem_range.2 hi)
  unfold Params.s12 at hsome ⊢
  dsimp only at hsome ⊢
  by_cases hsat : satSigned 12 (signed 16 (p.half (a + 2 * i))) = signed 16 (p.half (a + 2 * i))
  · rw [if_pos hsat]
    exact signed_unsigned_of_satSigned (by decide) hsat
  · simp [if_neg hsat] at hsome

/-! ## Loops over the instances of a field -/

/-- A loop that writes the instances of a register changes registers alone. -/
theorem State.foldl_put_eq (f : Fld) (v g : Nat → Nat) (k : Nat) (xs : List Nat) (s : State) :
    ∃ q, xs.foldl (fun s i => s.put f (v i) k (g i)) s = { s with regs := q } :=
  List.foldlRecOn (motive := fun t => ∃ q, t = { s with regs := q }) _ _ ⟨_, rfl⟩ fun t ⟨m, e⟩ _ _ => ⟨_, by rw [e]; rfl⟩

/-- Each place reads as it was written. -/
theorem State.fld_foldl_put {f : Fld} (hf : f.fits = true) (v : Nat → Nat) {g : Nat → Nat} (hg : g.Injective) (k : Nat)
    {n i : Nat} (hi : i < n) :
    ((List.range n).foldl (fun s i => s.put f (v i) k (g i)) s).fld f k (g i) = v i % 2 ^ f.w := by
  induction n with
  | zero => exact absurd hi (Nat.not_lt_zero i)
  | succ n ih =>
    rw [List.range_succ, List.foldl_append, List.foldl_cons, List.foldl_nil]
    by_cases h : i = n
    · rw [h, State.fld_put_self _ hf]
    · rw [State.fld_put_unit _ _ _ (.inr (hg.ne h)), ih (by omega)]

/-- Fields of other registers, or other bits, are left alone. -/
theorem State.fld_foldl_put_apart {f f' : Fld} (hf : f'.fits = true) (ha : f.apart f' = true) (v g : Nat → Nat) (k : Nat)
    (xs : List Nat) (u i : Nat) : (xs.foldl (fun s i => s.put f (v i) k (g i)) s).fld f' u i = s.fld f' u i :=
  List.foldlRecOn (motive := fun t : State => t.fld f' u i = s.fld f' u i) _ _ rfl fun _ ht _ _ =>
    (State.fld_put_apart _ hf ha ..).trans ht

/-! ## The shadows (R94) -/

/-- A mailbox command whose handler answers at once and leaves the mailbox to the step leads to the state in which that answer
has been taken. -/
theorem completes_of_finish {c : Instr} {e : Fin 256} {cls cmd : Nat} {f : Handler} {r : Reply} {P : State → Prop}
    (h : Runs s e cls cmd) (hc : Machine.exec c s = .next (s.runCmd e cls cmd f))
    (hf : f (s.params e) (s.ticket e) (s.begun e) = (.done r, u)) (hu : u.mbx = (s.begun e).mbx)
    (hP : ((u.finish (s.ticket e) r).eyelet e).reply = some r → P (u.finish (s.ticket e) r)) : Completes c s P :=
  ⟨_, by rw [hc, State.runCmd_of_runs h, hf], hP (State.answered_finish h hu r)⟩

/-- The seven coefficients of LTX_SET_FIR are in the shadows. -/
def State.firSet (s : State) (p : Params) : State :=
  (List.range 7).foldl (fun s n => s.put LTX_FIR_COEF.COEF (unsigned 12 ((p.s12 (2 + 2 * n)).getD 0)) (p.byte 0) n) s

/-- The levels of LTX_SET_LEVELS are in the shadows. -/
def State.levelsSet (s : State) (p : Params) : State :=
  (List.range (p.byte 2)).foldl
    (fun s i => s.put LTX_LUT.LEVEL (unsigned 12 ((p.s12 (4 + 2 * i)).getD 0)) (p.byte 0) (p.byte 1 + i)) s

section

variable {p : Params}

theorem cmdSetFir_of_ranges (w : Ticket) (h0 : p.byte 0 ≤ 7) (h1 : p.byte 1 = 0) (hs : p.allS12 2 7 = true)
    (hz : p.zeroFrom 16 = true) (ha : s.applyHoldsLine (p.byte 0) = false) (hu : s.lineUsed (p.byte 0) = true) :
    cmdSetFir p w s = (okWith, s.firSet p) := by
  unfold cmdSetFir
  rw [if_neg (by simp [h1, hs, hz]; omega), if_neg (by simp [ha]), if_neg (by simp [hu])]
  rfl

theorem cmdSetLevels_of_ranges (w : Ticket) (h0 : p.byte 0 ≤ 7) (hac : p.byte 1 + p.byte 2 ≤ 64) (hc0 : p.byte 2 ≠ 0)
    (hc : p.byte 2 ≤ 10) (h3 : p.byte 3 = 0) (hs : p.allS12 4 (p.byte 2) = true) (hz : p.zeroFrom (4 + 2 * p.byte 2) = true)
    (ha : s.applyHoldsLine (p.byte 0) = false) (hu : s.lineUsed (p.byte 0) = true) :
    cmdSetLevels p w s = (okWith, s.levelsSet p) := by
  unfold cmdSetLevels
  rw [if_neg (by simp [h3, hs, hz]; omega), if_neg (by simp [ha]), if_neg (by simp [hu])]
  rfl

theorem cmdCommit_of_free (w : Ticket) (h0 : p.byte 0 ≤ 7) (hz : p.zeroFrom 1 = true)
    (ha : s.applyHoldsLine (p.byte 0) = false) (hu : s.lineUsed (p.byte 0) = true) :
    cmdCommit p w s = (okWith (b2n (s.fld LTX_SQ_STAT.REASON (p.byte 0) == 0)), s.commit (p.byte 0)) := by
  unfold cmdCommit
  rw [if_neg (by simp [hz]; omega), if_neg (by simp [ha]), if_neg (by simp [hu])]

theorem State.mbx_firSet : (s.firSet p).mbx = s.mbx := by
  obtain ⟨q, e⟩ := State.foldl_put_eq LTX_FIR_COEF.COEF (fun n => unsigned 12 ((p.s12 (2 + 2 * n)).getD 0)) (fun n => n)
    (p.byte 0) (List.range 7) s
  rw [State.firSet, e]

theorem State.mbx_levelsSet : (s.levelsSet p).mbx = s.mbx := by
  obtain ⟨q, e⟩ := State.foldl_put_eq LTX_LUT.LEVEL (fun i => unsigned 12 ((p.s12 (4 + 2 * i)).getD 0)) (fun i => p.byte 1 + i)
    (p.byte 0) (List.range (p.byte 2)) s
  rw [State.levelsSet, e]

theorem State.coef_firSet (hs : p.allS12 2 7 = true) {n : Nat} (hn : n < 7) :
    (s.firSet p).sfld LTX_FIR_COEF.COEF (p.byte 0) n = signed 16 (p.half (2 + 2 * n)) := by
  have hfld := State.fld_foldl_put (s := s) (f := LTX_FIR_COEF.COEF) rfl (fun n => unsigned 12 ((p.s12 (2 + 2 * n)).getD 0))
    (g := fun n => n) Function.injective_id (p.byte 0) hn
  rw [State.sfld, State.firSet, hfld, signed_mod, Params.signed_s12 hs hn]

theorem State.level_levelsSet (hs : p.allS12 4 (p.byte 2) = true) {n : Nat} (hn : n < p.byte 2) :
    (s.levelsSet p).sfld LTX_LUT.LEVEL (p.byte 0) (p.byte 1 + n) = signed 16 (p.half (4 + 2 * n)) := by
  have hfld := State.fld_foldl_put (s := s) (f := LTX_LUT.LEVEL) rfl (fun i => unsigned 12 ((p.s12 (4 + 2 * i)).getD 0))
    (g := fun i => p.byte 1 + i) (add_right_injective _) (p.byte 0) hn
  rw [State.sfld, State.levelsSet, hfld, signed_mod, Params.signed_s12 hs hn]

end

/-! ## The active values (R94) -/

theorem State.setTxActive_keeps (k : Nat) (xs : List Int) :
    (s.setTxActive k xs).lines = s.lines ∧ (s.setTxActive k xs).mbx = s.mbx := by
  obtain ⟨q, e⟩ := State.foldl_put_eq LTX_FIR_ACT.COEF (fun n => unsigned 12 (xs.getD n 0)) (fun n => n) k (List.range 7) s
  obtain ⟨q', e'⟩ := State.foldl_put_eq LTX_LUT_ACT.LEVEL (fun n => unsigned 12 (xs.getD (7 + n) 0)) (fun n => n) k
    (List.range 64) { s with regs := q }
  rw [State.setTxActive, e, e']
  exact ⟨rfl, rfl⟩

/-- The active values are the codes of the list. -/
theorem State.fld_setTxActive (k : Nat) (xs : List Int) :
    (∀ n < 7, (s.setTxActive k xs).fld LTX_FIR_ACT.COEF k n = unsigned 12 (xs.getD n 0)) ∧
      ∀ n < 64, (s.setTxActive k xs).fld LTX_LUT_ACT.LEVEL k n = unsigned 12 (xs.getD (7 + n) 0) := by
  refine ⟨fun n hn => ?_, fun n hn => ?_⟩
  · have hfld := State.fld_foldl_put (s := s) (f := LTX_FIR_ACT.COEF) rfl (fun n => unsigned 12 (xs.getD n 0))
      (g := fun n => n) Function.injective_id k hn
    rw [State.setTxActive, State.fld_foldl_put_apart rfl rfl, hfld, Nat.mod_eq_of_lt (unsigned_lt ..)]
  · have hfld := fun x => State.fld_foldl_put (s := x) (f := LTX_LUT_ACT.LEVEL) rfl (fun n => unsigned 12 (xs.getD (7 + n) 0))
      (g := fun n => n) Function.injective_id k hn
    rw [State.setTxActive, hfld, Nat.mod_eq_of_lt (unsigned_lt ..)]

theorem State.refreshAmp_cases (s : State) (k : Nat) :
    s.refreshAmp k = s ∨ ∃ v, s.refreshAmp k = s.put INS_TX_AMP.AMP v k := by
  unfold State.refreshAmp
  split
  · exact .inr ⟨_, rfl⟩
  · exact .inl rfl

theorem State.refreshAmp_keeps (k : Nat) : (s.refreshAmp k).lines = s.lines ∧ (s.refreshAmp k).mbx = s.mbx := by
  obtain e | ⟨v, e⟩ := s.refreshAmp_cases k
  · rw [e]
    exact ⟨rfl, rfl⟩
  · rw [e]
    exact ⟨rfl, rfl⟩

theorem State.fld_refreshAmp {f : Fld} (h : f.reg ≠ .INS_TX_AMP) (k u i : Nat) : (s.refreshAmp k).fld f u i = s.fld f u i := by
  obtain e | ⟨v, e⟩ := s.refreshAmp_cases k
  · rw [e]
  · rw [e, State.fld, State.reg_put _ h, State.fld]

theorem State.getD_txShadows (k : Nat) :
    (∀ n < 7, (s.txShadows k).getD n 0 = s.sfld LTX_FIR_COEF.COEF k n) ∧
      ∀ n < 64, (s.txShadows k).getD (7 + n) 0 = s.sfld LTX_LUT.LEVEL k n := by
  refine ⟨fun n hn => ?_, fun n hn => ?_⟩
  · simp [State.txShadows, List.getD, List.getElem?_append, hn]
  · simp [State.txShadows, List.getD, List.getElem?_append, hn]

/-- COMMIT starts the ramp of a live output; a squelched one takes the shadows. -/
theorem State.commit_results {k : Nat} (hk : k < s.lines.length) :
    (s.fld LTX_SQ_STAT.REASON k = 0 →
      (s.commit k).flag LTX_STAT.RAMP k = true ∧ ((s.commit k).line k).ramp = some ⟨0, s.txActive k, s.txShadows k⟩) ∧
    (s.fld LTX_SQ_STAT.REASON k ≠ 0 →
      (∀ n < 7, (s.commit k).fld LTX_FIR_ACT.COEF k n = s.fld LTX_FIR_COEF.COEF k n) ∧
        ∀ n < 64, (s.commit k).fld LTX_LUT_ACT.LEVEL k n = s.fld LTX_LUT.LEVEL k n) := by
  unfold State.commit
  refine ⟨fun h0 => ?_, fun h0 => ?_⟩
  · rw [if_pos h0]
    exact ⟨State.flag_putFlag_self rfl rfl .., congrArg LineLane.ramp (State.line_setLine_self _ _ _ hk)⟩
  · obtain ⟨hcoef, hlevel⟩ := State.fld_setTxActive (s := s) k (s.txShadows k)
    obtain ⟨hcoef', hlevel'⟩ := s.getD_txShadows k
    rw [if_neg h0]
    refine ⟨fun n hn => ?_, fun n hn => ?_⟩
    · rw [State.fld_refreshAmp (by decide), hcoef n hn, hcoef' n hn, State.unsigned_sfld rfl]
    · rw [State.fld_refreshAmp (by decide), hlevel n hn, hlevel' n hn, State.unsigned_sfld rfl]

theorem State.mbx_commit (k : Nat) : (s.commit k).mbx = s.mbx := by
  unfold State.commit
  split
  · rfl
  · obtain ⟨-, hactive⟩ := State.setTxActive_keeps (s := s) k (s.txShadows k)
    obtain ⟨-, hamp⟩ := State.refreshAmp_keeps (s := s.setTxActive k (s.txShadows k)) k
    exact hamp.trans hactive

/-! ## The ramp (R94) -/

/-- The active values of step `n` of a ramp. -/
def Ramp.at (r : Ramp) (n : Nat) : List Int := (r.from_.zip r.to_).map (fun p => rampValue p.1 p.2 n)

theorem Ramp.getD_at {r : Ramp} {n i : Nat} (hf : i < r.from_.length) (ht : i < r.to_.length) :
    (r.at n).getD i 0 = rampValue (r.from_.getD i 0) (r.to_.getD i 0) n := by
  simp [Ramp.at, List.getD, hf, ht]

/-- A step below the last moves the active values and leaves the ramp a step further. -/
theorem execLtxRampStep_of_under_way {k : Fin 8} {r : Ramp} (hr : (s.line k).ramp = some r) (hn : r.step < 15) :
    Machine.execLtxRampStep k s = .next (
      let x := s.setTxActive k (r.at (r.step + 1))
      x.setLine k { x.line k with ramp := some { r with step := r.step + 1 } }) := by
  unfold Machine.execLtxRampStep
  rw [hr]
  exact congrArg Outcome.next (if_pos hn)

theorem execLtxRampStep_of_last {k : Fin 8} {r : Ramp} (hr : (s.line k).ramp = some r) (hn : 15 ≤ r.step) :
    Machine.execLtxRampStep k s = .next (s.endRamp k) := by
  unfold Machine.execLtxRampStep
  rw [hr]
  exact congrArg Outcome.next (if_neg (by omega))

/-- The end of a ramp: the active values are its targets. -/
theorem State.endRamp_results {k : Nat} (hk : k < s.lines.length) {r : Ramp} (hr : (s.line k).ramp = some r) :
    ((s.endRamp k).line k).ramp = none ∧ (s.endRamp k).flag LTX_STAT.RAMP k = false ∧
      (s.endRamp k).flag LTX_CAUSE.RAMP_DONE k = true ∧
      ∀ n < 7, (s.endRamp k).fld LTX_FIR_ACT.COEF k n = unsigned 12 (r.to_.getD n 0) := by
  unfold State.endRamp
  rw [hr]
  dsimp only
  obtain ⟨hcoef, -⟩ := State.fld_setTxActive (s := s) k r.to_
  refine ⟨?_, ?_, ?_, fun n hn => ?_⟩
  · obtain ⟨hlines, -⟩ := State.setTxActive_keeps (s := s) k r.to_
    rw [State.line, (State.refreshAmp_keeps k).1, State.raise_lines, State.put_lines, ← State.line,
      State.line_setLine_self _ _ _ (by rwa [hlines])]
  · rw [State.flag_eq, State.fld_refreshAmp (by decide), State.raise_eq, State.fld_put_apart _ rfl rfl, State.fld_put_self _ rfl]
    rfl
  · rw [State.flag_eq, State.fld_refreshAmp (by decide), ← State.flag_eq, State.flag_raise_self rfl rfl]
  · rw [State.fld_refreshAmp (by decide), State.raise_eq, State.fld_put_apart _ rfl rfl, State.fld_put_apart _ rfl rfl,
      State.fld_setLine, hcoef n hn]

end Sys2Proof.Machine

/-!
PROOFS. Line transmitters (O19): counters that count several, and the transmit path.
-/

namespace Sys2Proof.Machine

open Host

variable {s t u : State}

/-! ## Counting (R135) -/

theorem saturated_zero (v : W48) : saturated v 0 = v := by
  have hle : v.toNat ≤ cntMax := Nat.le_sub_one_of_lt v.isLt
  rw [saturated, Nat.add_zero, Nat.min_eq_left hle, BitVec.ofNat_toNat, BitVec.setWidth_eq]

theorem State.logRate_eq (s : State) (obj code sev p0 p1 p2 p3 : Nat) :
    ∃ es rs, s.logRate obj code sev p0 p1 p2 p3 = { s with events := es, rate := rs } := by
  unfold State.logRate
  split
  · exact ⟨_, _, rfl⟩
  · exact ⟨_, _, rfl⟩

section

variable {r : Reg} {u' : Nat} {f : Fld} {fu : Nat} (h : satField r u' = some (f, fu))
include h

/-- A part of the state that the counter and its SAT cause leave alone. -/
theorem State.incBy_part {α : Type} {i n : Nat} (p : State → α) (hc : ∀ v, p (s.setCnt r v u' i) = p s)
    (hr : ∀ v, p ((s.setCnt r v u' i).raise f fu) = p (s.setCnt r v u' i)) : p (s.inc r u' i n) = p s := by
  obtain e | ⟨v, e⟩ | ⟨v, e⟩ := State.incBy_cases h s i n
  · rw [e]
  · rw [e, hc]
  · rw [e, hr, hc]

/-- A counter with a SAT cause counts `n` more and saturates. -/
theorem State.cnt_incBy (i n : Nat) (r' : Reg) (v i' : Nat) : (s.inc r u' i n).cnt r' v i' =
    if r' = r ∧ v = u' ∧ i' = i then saturated (s.cnt r u' i) n else s.cnt r' v i' := by
  have hself : (s.inc r u' i n) = s ∧ saturated (s.cnt r u' i) n = s.cnt r u' i ∨
      ∀ r' v i', (s.inc r u' i n).cnt r' v i' = (s.setCnt r (saturated (s.cnt r u' i) n) u' i).cnt r' v i' := by
    unfold State.inc
    simp only [h]
    split
    · next hv =>
      obtain hv | rfl := hv
      · refine .inl ⟨rfl, ?_⟩
        rw [saturated, Nat.min_eq_right (by omega), ← hv, BitVec.ofNat_toNat, BitVec.setWidth_eq]
      · exact .inl ⟨rfl, saturated_zero _⟩
    · split
      · next hlt => exact .inr fun _ _ _ => by rw [saturated, Nat.min_eq_left (by omega)]
      · next hge => exact .inr fun _ _ _ => by rw [State.cnt_raise, saturated, Nat.min_eq_right (by omega)]
  obtain ⟨hs, hv⟩ | hs := hself
  · rw [hs, hv]
    split
    · next hk =>
      obtain ⟨rfl, rfl, rfl⟩ := hk
      rfl
    · rfl
  · rw [hs, State.cnt_setCnt]

end

/-! ## What a lane is fed (R90, R91, R99) -/

/-- What has been made of a lane's input leaves the symbols that it has sent, and beside the lanes only the next free value has
been taken. -/
structure TxFed (k : Nat) (s u : State) : Prop where
  rest : ∃ ls ix, u = { s with lines := ls, freeIx := ix }
  length : u.lines.length = s.lines.length
  hist : k < s.lines.length → (u.line k).tx.hist = (s.line k).tx.hist

section

variable {k : Nat}

theorem TxFed.refl : TxFed k s s := ⟨⟨_, _, rfl⟩, rfl, fun _ => rfl⟩

theorem TxFed.trans (h : TxFed k s t) (h' : TxFed k t u) : TxFed k s u := by
  obtain ⟨ls, ix, e⟩ := h.rest
  obtain ⟨ls', ix', e'⟩ := h'.rest
  exact ⟨⟨ls', ix', by rw [e', e]⟩, h'.length.trans h.length, fun hk => (h'.hist (by rwa [h.length])).trans (h.hist hk)⟩

theorem TxFed.free : TxFed k s s.free.2 := ⟨⟨_, _, rfl⟩, rfl, fun _ => rfl⟩

theorem TxFed.setTx {x : TxPath} (h : x.hist = (s.line k).tx.hist) : TxFed k s (s.setLine k { s.line k with tx := x }) :=
  ⟨⟨_, _, rfl⟩, List.length_set, fun hk => by rw [State.line_setLine_self _ _ _ hk, h]⟩

theorem TxFed.cnt_eq (h : TxFed k s u) (r : Reg) (v i : Nat) : u.cnt r v i = s.cnt r v i := by
  obtain ⟨ls, ix, e⟩ := h.rest
  rw [e]
  rfl

theorem TxFed.flag_eq (h : TxFed k s u) (f : Fld) (v i : Nat) : u.flag f v i = s.flag f v i := by
  obtain ⟨ls, ix, e⟩ := h.rest
  rw [e]
  rfl

theorem TxFed.patternPair : TxFed k s (s.patternPair k).2 := by
  unfold State.patternPair
  cases (s.line k).tx.pattern with
  | none => exact .trans .free (.setTx rfl)
  | some st => exact .setTx rfl

section

variable (hp : (s.mode.run.lane k).txPattern = 0)
include hp

/-- Under LINE_SHALLOW a detected symbol is sent as it is (R101). -/
theorem State.txSymbol_of_shallow (hl : s.fld LTX_CFG.LOOPBACK k = 3) (x : BitVec 2) :
    s.txSymbol k x = (.sym x.toNat, s) := by
  unfold State.txSymbol
  exact if_pos ⟨by simp [hp], hl⟩

/-- A pair of bits is Gray mapped and precoded (R90, R91). -/
theorem State.txSymbol_of_data (hl : s.fld LTX_CFG.LOOPBACK k ≠ 3) (x : BitVec 2) :
    s.txSymbol k x = (.sym (precode (grayOf x.toNat) (s.line k).tx.prev),
      s.setLine k { s.line k with tx := { (s.line k).tx with prev := precode (grayOf x.toNat) (s.line k).tx.prev } }) := by
  unfold State.txSymbol
  dsimp only
  rw [if_neg (fun h => hl h.2), hp]
  rfl

end

theorem TxFed.txSymbol (x : BitVec 2) : TxFed k s (s.txSymbol k x).2 := by
  by_cases hp : (s.mode.run.lane k).txPattern = 0
  · by_cases hl : s.fld LTX_CFG.LOOPBACK k = 3
    · rw [State.txSymbol_of_shallow hp hl]
      exact .refl
    · rw [State.txSymbol_of_data hp hl]
      exact .setTx rfl
  · unfold State.txSymbol
    have hp' : ((s.mode.run.lane k).txPattern != 0) = true := bne_iff_ne.2 hp
    dsimp only
    rw [hp', if_neg (fun h => absurd h.1 (by decide)), if_pos rfl]
    exact .trans .patternPair (.setTx rfl)

theorem TxFed.txSymbols (xs : List (BitVec 2)) : TxFed k s (s.txSymbols k xs).2 := by
  induction xs generalizing s with
  | nil => exact .refl
  | cons x xs ih => exact .trans (.txSymbol x) ih

theorem State.length_txSymbols (xs : List (BitVec 2)) : (s.txSymbols k xs).1.length = xs.length := by
  induction xs generalizing s with
  | nil => rfl
  | cons x xs ih => exact congrArg Nat.succ ih

end

/-! ## Level table, FIR, DAC (R93) -/

/-- The code of a lane's DAC for the symbol at place 3 of a history, `i` symbols after the first, and whether it saturates. -/
def State.txOut (s : State) (k sub : Nat) (h : List TxSym) (i : Nat) : Int × Bool :=
  txDac (txFir ((List.range 7).map (fun n => s.sfld LTX_FIR_ACT.COEF k n))
      ((List.range 64).map (fun n => s.sfld LTX_LUT_ACT.LEVEL k n)) h)
    (s.insSampleAt k (s.insBits k) (s.gridPos k sub + i - 3))

/-- One symbol more has been sent: the history, the code at the DAC, and how many have saturated. -/
def State.txStep (s : State) (k sub : Nat) (a : List TxSym × Int × Nat) (y : TxSym × Nat) : List TxSym × Int × Nat :=
  let h := (y.1 :: a.1).take 9
  if h.length < 4 then (h, a.2) else (h, (s.txOut k sub h y.2).1, a.2.2 + b2n (s.txOut k sub h y.2).2)

/-- What the symbols make of a lane's transmit path. -/
def State.txRun (s : State) (k sub : Nat) (xs : List TxSym) : List TxSym × Int × Nat :=
  (xs.zip (List.range xs.length)).foldl (s.txStep k sub) ((s.line k).tx.hist, (s.line k).tx.dac, 0)

/-- The history and the code have been set. -/
def State.txMoved (s : State) (k : Nat) (run : List TxSym × Int × Nat) : State :=
  s.setLine k { s.line k with tx := { (s.line k).tx with hist := run.1, dac := run.2.1 } }

theorem State.txSend_eq (k sub : Nat) (xs : List TxSym) :
    s.txSend k sub xs = (s.txMoved k (s.txRun k sub xs)).clipped k (s.txRun k sub xs).2.2 := by
  unfold State.txSend
  rfl

theorem State.txRun_singleton {k : Nat} (h : 3 ≤ (s.line k).tx.hist.length) (sub : Nat) (y : TxSym) :
    s.txRun k sub [y] =
      let h := (y :: (s.line k).tx.hist).take 9
      (h, (s.txOut k sub h 0).1, b2n (s.txOut k sub h 0).2) := by
  have hlen : ¬ ((y :: (s.line k).tx.hist).take 9).length < 4 := by
    rw [List.length_take, List.length_cons]
    omega
  have hstep : s.txRun k sub [y] = s.txStep k sub ((s.line k).tx.hist, (s.line k).tx.dac, 0) (y, 0) := rfl
  rw [hstep, State.txStep]
  dsimp only
  rw [if_neg hlen, Nat.zero_add]

theorem State.txStep_bounds (k sub : Nat) (a : List TxSym × Int × Nat) (y : TxSym × Nat) :
    (s.txStep k sub a y).1.length = min 9 (a.1.length + 1) ∧ (s.txStep k sub a y).2.2 ≤ a.2.2 + 1 := by
  have hb : ∀ b, b2n b ≤ 1 := by decide
  unfold State.txStep
  dsimp only
  split
  · exact ⟨List.length_take, Nat.le_succ _⟩
  · exact ⟨List.length_take, Nat.add_le_add_left (hb _) _⟩

/-- A history keeps nine symbols, and at most every symbol saturates. -/
theorem State.foldl_txStep_bounds (k sub : Nat) (ys : List (TxSym × Nat)) (a : List TxSym × Int × Nat) :
    (ys.foldl (s.txStep k sub) a).1.length = (if ys = [] then a.1.length else min 9 (a.1.length + ys.length)) ∧
      (ys.foldl (s.txStep k sub) a).2.2 ≤ a.2.2 + ys.length := by
  induction ys generalizing a with
  | nil => exact ⟨rfl, Nat.le_refl _⟩
  | cons y ys ih =>
    obtain ⟨hlen, hclip⟩ := State.txStep_bounds (s := s) k sub a y
    obtain ⟨hlen', hclip'⟩ := ih (s.txStep k sub a y)
    rw [List.foldl_cons, hlen', hlen, if_neg (List.cons_ne_nil y ys), List.length_cons]
    refine ⟨?_, by omega⟩
    split
    · next hnil => rw [hnil, List.length_nil]
    · omega

theorem State.txRun_bounds (k sub : Nat) (xs : List TxSym) :
    (s.txRun k sub xs).1.length =
        (if xs = [] then (s.line k).tx.hist.length else min 9 ((s.line k).tx.hist.length + xs.length)) ∧
      (s.txRun k sub xs).2.2 ≤ xs.length := by
  obtain ⟨hlen, hclip⟩ := State.foldl_txStep_bounds (s := s) k sub (xs.zip (List.range xs.length))
    ((s.line k).tx.hist, (s.line k).tx.dac, 0)
  have hzip : (xs.zip (List.range xs.length)).length = xs.length := by simp
  have hnil : xs.zip (List.range xs.length) = [] ↔ xs = [] := by
    rw [← List.length_eq_zero_iff, hzip, List.length_eq_zero_iff]
  rw [hzip] at hlen hclip
  simp only [hnil] at hlen
  exact ⟨hlen, hclip.trans_eq (Nat.zero_add _)⟩

theorem TxFed.txOut_eq {k : Nat} (h : TxFed k s u) (sub : Nat) (hs : List TxSym) (i : Nat) :
    u.txOut k sub hs i = s.txOut k sub hs i := by
  obtain ⟨ls, ix, e⟩ := h.rest
  rw [e]
  rfl

/-! ### Saturated symbols (R93) -/

theorem State.clipped_of_pos {n : Nat} (h : n ≠ 0) (s : State) (k : Nat) : ∃ es rs, s.clipped k n =
    { (s.inc .LTX_CLIP_CNT k 0 n).raise LTX_CAUSE.CLIP k with events := es, rate := rs } := by
  unfold State.clipped
  rw [if_neg h]
  exact State.logRate_eq ..

theorem State.clipped_part {α : Type} (p : State → α) (k n : Nat) (hs : ∀ x es rs, p { x with events := es, rate := rs } = p x)
    (hc : ∀ v, p (s.setCnt .LTX_CLIP_CNT v k 0) = p s)
    (hr : ∀ x f, f = LTX_CAUSE.CLIP ∨ f = LTX_CAUSE.SAT → p (State.raise x f k) = p x) : p (s.clipped k n) = p s := by
  by_cases h : n = 0
  · rw [State.clipped, if_pos h]
  · obtain ⟨es, rs, e⟩ := State.clipped_of_pos h s k
    rw [e, hs ((s.inc .LTX_CLIP_CNT k 0 n).raise LTX_CAUSE.CLIP k), hr _ _ (.inl rfl)]
    exact State.incBy_part rfl p hc fun _ => hr _ _ (.inr rfl)

theorem State.lines_clipped (k n : Nat) : (s.clipped k n).lines = s.lines :=
  State.clipped_part State.lines k n (fun _ _ _ => rfl) (fun _ => rfl) fun _ _ _ => rfl

/-- Every saturated symbol is counted, and the first sets CLIP. -/
theorem State.clipped_results (k n : Nat) :
    (s.clipped k n).cnt .LTX_CLIP_CNT k = saturated (s.cnt .LTX_CLIP_CNT k) n ∧
      (s.clipped k n).flag LTX_CAUSE.CLIP k = (s.flag LTX_CAUSE.CLIP k || decide (0 < n)) := by
  by_cases h : n = 0
  · rw [State.clipped, if_pos h, h, saturated_zero]
    exact ⟨rfl, (Bool.or_false _).symm⟩
  · obtain ⟨es, rs, e⟩ := State.clipped_of_pos h s k
    rw [e, decide_eq_true (Nat.pos_of_ne_zero h), Bool.or_true]
    have hcnt := State.cnt_incBy (s := s) (r := .LTX_CLIP_CNT) (u' := k) rfl 0 n .LTX_CLIP_CNT k 0
    rw [if_pos ⟨rfl, rfl, rfl⟩] at hcnt
    exact ⟨hcnt, State.flag_raise_self (s := s.inc .LTX_CLIP_CNT k 0 n) (f := LTX_CAUSE.CLIP) rfl rfl k 0⟩

/-- The slips of a loopback are counted apart (R101). -/
theorem State.slips_clipped (k n : Nat) :
    (s.clipped k n).cnt .LTX_LB_SLIP_CNT k = s.cnt .LTX_LB_SLIP_CNT k ∧
      (s.clipped k n).flag LTX_CAUSE.LB_SLIP k = s.flag LTX_CAUSE.LB_SLIP k := by
  refine ⟨State.clipped_part (fun x => x.cnt .LTX_LB_SLIP_CNT k) k n (fun _ _ _ => rfl) (fun v => ?_) fun _ _ _ => rfl,
    State.clipped_part (fun x => x.flag LTX_CAUSE.LB_SLIP k) k n (fun _ _ _ => rfl) (fun _ => rfl) ?_⟩
  · exact (State.cnt_setCnt ..).trans (if_neg (by simp))
  · rintro x f (rfl | rfl)
    · rw [State.flag_eq, State.raise_eq, State.fld_put_apart _ rfl rfl, State.flag_eq]
    · rw [State.flag_eq, State.raise_eq, State.fld_put_apart _ rfl rfl, State.flag_eq]

/-! ### What a live output sends -/

/-- What a live lane has sent of what it was given. -/
def State.txSent (s : State) (k sub : Nat) (src : List (BitVec 2)) : State :=
  (s.txSymbols k src).2.txSend k sub (s.txSymbols k src).1

theorem execLtxClip_of_live {k : Fin 8} (h : s.txLive k = true) (sub : Fin 226875) (src : List (BitVec 2)) :
    Machine.execLtxClip k sub src s = .next (s.txSent k sub src) :=
  congrArg Outcome.next (if_pos h)

theorem execLtxClip_of_squelched {k : Fin 8} (h : s.txLive k = false) (sub : Fin 226875) (src : List (BitVec 2)) :
    Machine.execLtxClip k sub src s = .next s :=
  congrArg Outcome.next (if_neg (by simp [h]))

section

variable {k : Nat} (hk : k < s.lines.length)
include hk

/-- One symbol: the history takes it, the DAC takes its code, and a saturation is counted. -/
theorem State.txSent_singleton (hh : 3 ≤ (s.line k).tx.hist.length) (sub : Nat) (x : BitVec 2) :
    let y := (s.txSymbol k x).1
    let h := (y :: (s.line k).tx.hist).take 9
    let out := s.txOut k sub h 0
    let t := s.txSent k sub [x]
    (t.line k).tx = { ((s.txSymbol k x).2.line k).tx with hist := h, dac := out.1 } ∧
      t.cnt .LTX_CLIP_CNT k = saturated (s.cnt .LTX_CLIP_CNT k) (b2n out.2) ∧
      t.flag LTX_CAUSE.CLIP k = (s.flag LTX_CAUSE.CLIP k || out.2) := by
  intro y h out t
  have hfed : TxFed k s (s.txSymbol k x).2 := .txSymbol x
  have ht : t = (s.txSymbol k x).2.txSend k sub [y] := rfl
  have hlen : k < (s.txSymbol k x).2.lines.length := by rwa [hfed.length]
  have hhist := hfed.hist hk
  have hrun := State.txRun_singleton (s := (s.txSymbol k x).2) (by rwa [hhist]) sub y
  rw [hhist] at hrun
  dsimp only at hrun
  rw [hfed.txOut_eq] at hrun
  rw [ht, State.txSend_eq, hrun]
  obtain ⟨hcnt, hflag⟩ := State.clipped_results (s := (s.txSymbol k x).2.txMoved k (h, out.1, b2n out.2)) k (b2n out.2)
  refine ⟨?_, hcnt.trans ?_, hflag.trans ?_⟩
  · rw [State.line, State.lines_clipped, ← State.line, State.txMoved, State.line_setLine_self _ _ _ hlen]
  · rw [State.txMoved, State.cnt_setLine, hfed.cnt_eq]
  · rw [State.txMoved, State.flag_setLine, hfed.flag_eq]
    cases out.2 <;> rfl

/-- Several symbols: the history keeps the last nine, and as many saturations are counted as there were. -/
theorem State.txSent_bounds (sub : Nat) (src : List (BitVec 2)) :
    ∃ n ≤ src.length, (s.txSent k sub src).cnt .LTX_CLIP_CNT k = saturated (s.cnt .LTX_CLIP_CNT k) n ∧
      (s.txSent k sub src).flag LTX_CAUSE.CLIP k = (s.flag LTX_CAUSE.CLIP k || decide (0 < n)) ∧
      ((s.txSent k sub src).line k).tx.hist.length =
        (if src = [] then (s.line k).tx.hist.length else min 9 ((s.line k).tx.hist.length + src.length)) := by
  have hfed : TxFed k s (s.txSymbols k src).2 := .txSymbols src
  have hxs := State.length_txSymbols (s := s) (k := k) src
  have hnil : (s.txSymbols k src).1 = [] ↔ src = [] := by rw [← List.length_eq_zero_iff, hxs, List.length_eq_zero_iff]
  unfold State.txSent
  generalize (s.txSymbols k src).2 = u at hfed
  generalize (s.txSymbols k src).1 = xs at hxs hnil
  have hlen : k < u.lines.length := by rwa [hfed.length]
  obtain ⟨hhist, hclip⟩ := State.txRun_bounds (s := u) k sub xs
  obtain ⟨hcnt, hflag⟩ := State.clipped_results (s := u.txMoved k (u.txRun k sub xs)) k (u.txRun k sub xs).2.2
  rw [State.txSend_eq]
  refine ⟨_, hclip.trans_eq hxs, hcnt.trans ?_, hflag.trans ?_, ?_⟩
  · rw [State.txMoved, State.cnt_setLine, hfed.cnt_eq]
  · rw [State.txMoved, State.flag_setLine, hfed.flag_eq]
  · rw [State.line, State.lines_clipped, ← State.line, State.txMoved, State.line_setLine_self _ _ _ hlen, hhist, hfed.hist hk, hxs]
    simp only [hnil]

end

/-- Whatever is sent, the slips of a loopback stay as they are. -/
theorem State.slips_txSent (k sub : Nat) (src : List (BitVec 2)) :
    (s.txSent k sub src).cnt .LTX_LB_SLIP_CNT k = s.cnt .LTX_LB_SLIP_CNT k ∧
      (s.txSent k sub src).flag LTX_CAUSE.LB_SLIP k = s.flag LTX_CAUSE.LB_SLIP k := by
  have hfed : TxFed k s (s.txSymbols k src).2 := .txSymbols src
  obtain ⟨hcnt, hflag⟩ := State.slips_clipped
    (s := (s.txSymbols k src).2.txMoved k ((s.txSymbols k src).2.txRun k sub (s.txSymbols k src).1)) k
    ((s.txSymbols k src).2.txRun k sub (s.txSymbols k src).1).2.2
  rw [State.txSent, State.txSend_eq]
  refine ⟨hcnt.trans ?_, hflag.trans ?_⟩
  · rw [State.txMoved, State.cnt_setLine, hfed.cnt_eq]
  · rw [State.txMoved, State.flag_setLine, hfed.flag_eq]

end Sys2Proof.Machine

/-!
PROOFS. Line transmitters (O19): squelch, doze and wake, the pattern checker, and the slips of a loopback.
-/

namespace Sys2Proof.Machine

open Host

variable {s t u : State}

/-! ## What the entry to squelch leaves alone (R95) -/

/-- What an operation that leads from `s₀` to `s` leaves alone: why the outputs are squelched, and which of them doze. -/
structure SqKept (s₀ s : State) : Prop where
  reason : ∀ k i, s.fld LTX_SQ_STAT.REASON k i = s₀.fld LTX_SQ_STAT.REASON k i
  doze : ∀ k i, s.fld LTX_STAT.DOZE k i = s₀.fld LTX_STAT.DOZE k i

/-- A field that shares no bit with those. -/
def sparesSq (f : Fld) : Bool := f.apart LTX_SQ_STAT.REASON && f.apart LTX_STAT.DOZE

theorem SqKept.refl : SqKept s s := ⟨fun _ _ => rfl, fun _ _ => rfl⟩

theorem SqKept.ite {s₀ a b : State} {c : Prop} {d : Decidable c} (ha : SqKept s₀ a) (hb : SqKept s₀ b) :
    SqKept s₀ (if c then a else b) := by
  split
  · exact ha
  · exact hb

theorem SqKept.foldl {s₀ : State} {α : Type} {xs : List α} {f : State → α → State} (h : SqKept s₀ s)
    (hf : ∀ t x, SqKept s₀ t → SqKept s₀ (f t x)) : SqKept s₀ (xs.foldl f s) :=
  List.foldlRecOn xs f h fun t ht x _ => hf t x ht

section

variable {s₀ : State} (h : SqKept s₀ s)
include h

theorem SqKept.setReg {r v k i} (hs : LTX_SQ_STAT.REASON.reg ≠ r := by nofun) (hd : LTX_STAT.DOZE.reg ≠ r := by nofun) :
    SqKept s₀ (s.setReg r v k i) :=
  ⟨fun k' i' => (State.fld_setReg _ hs ..).trans (h.reason k' i'), fun k' i' => (State.fld_setReg _ hd ..).trans (h.doze k' i')⟩

theorem SqKept.put {f v k i} (hf : sparesSq f = true := by rfl) : SqKept s₀ (s.put f v k i) := by
  obtain ⟨hreason, hdoze⟩ := Bool.and_eq_true_iff.1 hf
  exact ⟨fun k' i' => (State.fld_put_apart _ rfl hreason ..).trans (h.reason k' i'),
    fun k' i' => (State.fld_put_apart _ rfl hdoze ..).trans (h.doze k' i')⟩

theorem SqKept.putFlag {f v k i} (hf : sparesSq f = true := by rfl) : SqKept s₀ (s.putFlag f v k i) := h.put hf

theorem SqKept.raise {f k i} (hf : sparesSq f = true := by rfl) : SqKept s₀ (s.raise f k i) := h.put hf

theorem SqKept.log {c sev p0 p1 p2 p3} : SqKept s₀ (s.log c sev p0 p1 p2 p3) := ⟨h.reason, h.doze⟩
theorem SqKept.setLine {k v} : SqKept s₀ (s.setLine k v) := ⟨h.reason, h.doze⟩
theorem SqKept.setInsl {k v} : SqKept s₀ (s.setInsl k v) := ⟨h.reason, h.doze⟩
theorem SqKept.startGrid {k} : SqKept s₀ (s.startGrid k) := ⟨h.reason, h.doze⟩

theorem SqKept.inc {r f fu k i n} (hs : satField r k = some (f, fu) := by rfl) (hf : sparesSq f = true := by rfl) :
    SqKept s₀ (s.inc r k i n) := by
  obtain e | ⟨v, e⟩ | ⟨v, e⟩ := State.incBy_cases hs s i n
  · rwa [e]
  · rw [e]
    exact ⟨h.reason, h.doze⟩
  · rw [e]
    exact SqKept.raise (s := s.setCnt r v k i) ⟨h.reason, h.doze⟩ hf

theorem SqKept.finish {w r} : SqKept s₀ (s.finish w r) :=
  ⟨fun k i => (State.fld_finish ..).trans (h.reason k i), fun k i => (State.fld_finish ..).trans (h.doze k i)⟩

theorem SqKept.endCalTx {k code check} : SqKept s₀ (s.endCalTx k code check) := by
  unfold State.endCalTx
  split
  · exact h
  · have hfreed {x y z a b} : SqKept s₀ ((((s.setLine k x).putFlag LTX_STAT.CAL_BUSY false k).put LTX_CAL_STAT.PHASE y k).put
        LTX_CAL_STAT.CODE z k |>.setReg .LTX_CAL_RESULT1 a b) := .setReg (.put (.put (.putFlag (.setLine h))))
    exact .finish (.ite (.log (.raise hfreed)) (.log (.inc (.raise (.ite hfreed (.foldl hfreed fun _ _ hf => .setReg hf))))))

theorem SqKept.setTxActive {k xs} : SqKept s₀ (s.setTxActive k xs) := by
  unfold State.setTxActive
  exact .foldl (.foldl h fun _ _ hf => .put hf) fun _ _ hf => .put hf

theorem SqKept.refreshAmp {k} : SqKept s₀ (s.refreshAmp k) := by
  unfold State.refreshAmp
  exact .ite (.put h) h

theorem SqKept.endRamp {k} : SqKept s₀ (s.endRamp k) := by
  unfold State.endRamp
  split
  · exact h
  · exact .refreshAmp (.raise (.put (.setLine (.setTxActive h))))

theorem SqKept.snapTxTrims {k} : SqKept s₀ (s.snapTxTrims k) := by
  unfold State.snapTxTrims
  exact .foldl h fun _ _ hf => .setReg hf

theorem SqKept.insRamp {k up} : SqKept s₀ (s.insRamp k up) := by
  unfold State.insRamp
  extract_lets
  split
  · exact .ite h (.setInsl h)
  · exact .ite h (.putFlag (.putFlag (.setInsl h)))

theorem SqKept.insPause {k} : SqKept s₀ (s.insPause k) := by
  unfold State.insPause
  exact .ite (.insRamp (.log (.raise (.putFlag h)))) h

theorem SqKept.insRelease {k} : SqKept s₀ (s.insRelease k) := by
  unfold State.insRelease
  exact .ite (.ite (.insPause (.startGrid h)) (.insRamp (.startGrid h))) h

end

/-- Bringing an output up to date shows the reasons for which it is squelched now. -/
theorem SqKept.refreshLine (s : State) (k : Nat) :
    SqKept (s.put LTX_SQ_STAT.REASON (s.squelchReasons k) k) (s.refreshLine k) := by
  unfold State.refreshLine
  refine .ite ?_ ?_
  · exact .snapTxTrims (.endCalTx (.endRamp (.log (.raise (.putFlag .refl)))))
  · exact .ite (.insRelease (.log (.raise (.putFlag (.setLine .refl))))) .refl

/-! ## Doze and wake (R98) -/

/-- A used lane that dozes has bit 5 among its reasons. -/
theorem State.squelchReasons_of_doze {k : Nat} (hused : s.lineUsed k = true) (hdoze : s.flag LTX_STAT.DOZE k = true) :
    bitOf (s.squelchReasons k % 2 ^ 6) 5 = true := by
  obtain ⟨p, hp⟩ := Option.isSome_iff_exists.1 hused
  have hbits : ∀ b1 b2 b3 b4 : Bool,
      bitOf ((2 * b2n b1 + 4 * b2n b2 + 8 * b2n b3 + 16 * b2n b4 + 32 * b2n true) % 2 ^ 6) 5 = true := by decide
  unfold State.squelchReasons
  rw [hp, hdoze]
  exact hbits ..

/-- What LTX_DOZE_TIMER leaves: the output dozes for the reason DOZE, and its island is told. -/
def State.dozedTx (s : State) (k : Nat) : State := (((s.putFlag LTX_STAT.DOZE true k).refreshLine k).refreshLineIsland k)

theorem execLtxDozeTimer_of_idle {k : Fin 8} (hused : s.lineUsed k = true) (hms : (s.mode.run.lane k).dozeTx ≠ 0)
    (hdoze : s.flag LTX_STAT.DOZE k = false) (hbusy : s.insBusy k = false) :
    Machine.execLtxDozeTimer k s = .next ((s.dozedTx k).setInsl k { (s.dozedTx k).insl k with sending := none }) :=
  congrArg Outcome.next (if_pos ⟨hused, hms, hdoze, hbusy⟩)

/-- The output is squelched for its doze, and the island dozes unless a wake restores it or it still holds a request. -/
theorem State.dozedTx_results {k : Nat} (hused : s.lineUsed k = true) :
    (s.dozedTx k).flag LTX_STAT.DOZE k = true ∧ bitOf ((s.dozedTx k).fld LTX_SQ_STAT.REASON k) 5 = true ∧
      (s.accepted (lineIsland k) = [] → s.seqFirst 5 k = false → s.seqFirst 6 k = false →
        (s.dozedTx k).island (lineIsland k) = .doze) := by
  have hsq := SqKept.refreshLine (s.putFlag LTX_STAT.DOZE true k) k
  have hrx : RxKept (s.putFlag LTX_STAT.DOZE true k) ((s.putFlag LTX_STAT.DOZE true k).refreshLine k) := .refreshLine .refl
  have hdoze0 : (s.putFlag LTX_STAT.DOZE true k).flag LTX_STAT.DOZE k = true := State.flag_putFlag_self rfl rfl ..
  have hbit := State.squelchReasons_of_doze (s := s.putFlag LTX_STAT.DOZE true k) hused hdoze0
  unfold State.dozedTx
  generalize (s.putFlag LTX_STAT.DOZE true k).refreshLine k = x at hsq hrx
  have hdoze : x.flag LTX_STAT.DOZE k = true := by
    rw [State.flag_eq, hsq.doze, State.fld_put_apart _ rfl rfl, ← State.flag_eq, hdoze0]
  have hreason : x.fld LTX_SQ_STAT.REASON k = (s.putFlag LTX_STAT.DOZE true k).squelchReasons k % 2 ^ 6 :=
    (hsq.reason k 0).trans (State.fld_put_self _ rfl ..)
  obtain ⟨is, ds, e⟩ := x.refreshLineIsland_eq k
  refine ⟨?_, ?_, fun hidle h5 h6 => ?_⟩
  · rw [e]
    exact hdoze
  · rw [e]
    exact (congrArg (bitOf · 5) hreason).trans hbit
  · have hxused : x.lineUsed k = true := by rw [State.lineUsed, hrx.run]; exact hused
    have hxidle : x.accepted (lineIsland k) = [] := by rw [State.accepted, hrx.waiting]; exact hidle
    have hseq : ∀ n, x.seqFirst n k = s.seqFirst n k := fun n => by rw [State.seqFirst, hrx.pwr]; rfl
    rw [State.refreshLineIsland, if_pos hxused, State.island_turnIsland_of_idle hxidle, hseq, hseq, h5, h6, hdoze, Bool.or_true]
    rfl

/-- A dozing transmit direction that is woken restarts (R98). -/
theorem State.seqOn_wakeLineTx {k : Nat} (h : s.flag LTX_STAT.DOZE k = true) : (s.wakeLineTx k).seqOn 6 k = true := by
  obtain ⟨is, ds, e⟩ := (s.startSeq 6 k).refreshLineIsland_eq k
  rw [State.wakeLineTx, if_pos h, e]
  exact State.seqOn_startSeq_self 6 k 1

/-! ## The pattern checker (R100) -/

/-- A part of the state that no register of the counters, no event and no rate limit belongs to stays as it is when a
performance counter wraps. -/
theorem State.cntOverflow_part {α : Type} (p : State → α) (r : Reg) (k i : Nat)
    (hr : ∀ x r' v u' i', (r' = .CNT_BANK_OVF ∨ r' = .CNT_CAUSE ∨ r' = .CNT_DIE_CAUSE) → p (State.setReg x r' v u' i') = p x)
    (hs : ∀ x es rs, p { x with events := es, rate := rs } = p x) : p (s.cntOverflow r k i) = p s := by
  have hcause (x : State) (d : Nat) : p (if d = 0 then x.raise CNT_CAUSE.OVF else x.raise CNT_DIE_CAUSE.OVF d) = p x := by
    split
    · exact hr _ _ _ _ _ (.inr (.inl rfl))
    · exact hr _ _ _ _ _ (.inr (.inr rfl))
  unfold State.cntOverflow
  split
  · rfl
  · next b a _ =>
    extract_lets x y
    have hy : p y = p x := hcause x b.die
    have hx : p x = p s := by
      simp only [x]
      split
      · exact hr _ _ _ _ _ (.inl rfl)
      · rfl
    obtain ⟨es, rs, e⟩ := y.logRate_eq b.island 0x1301 sevInfo b.island a 0 0
    rw [e, hs y, hy, hx]

section

variable {r : Reg} {k : Nat} (h : satField r k = none)
include h

/-- A performance counter takes a value, and may wrap. -/
theorem State.inc_performance_cases (s : State) (i n : Nat) :
    s.inc r k i n = s.setCnt r (s.cnt r k i + BitVec.ofNat 48 n) k i ∨
      s.inc r k i n = (s.setCnt r (s.cnt r k i + BitVec.ofNat 48 n) k i).cntOverflow r k i := by
  have hv : BitVec.ofNat 48 ((s.cnt r k i).toNat + n) = s.cnt r k i + BitVec.ofNat 48 n := by
    rw [BitVec.ofNat_add, BitVec.ofNat_toNat, BitVec.setWidth_eq]
  unfold State.inc
  simp only [h, hv]
  split
  · exact .inl rfl
  · exact .inr rfl

theorem State.inc_performance_part {α : Type} (p : State → α) (i n : Nat) (hc : ∀ v, p (s.setCnt r v k i) = p s)
    (hr : ∀ x r' v u' i', (r' = .CNT_BANK_OVF ∨ r' = .CNT_CAUSE ∨ r' = .CNT_DIE_CAUSE) → p (State.setReg x r' v u' i') = p x)
    (hs : ∀ x es rs, p { x with events := es, rate := rs } = p x) : p (s.inc r k i n) = p s := by
  obtain e | e := State.inc_performance_cases h s i n
  · rw [e, hc]
  · rw [e, State.cntOverflow_part p r k i hr hs, hc]

theorem State.cnt_inc_performance (i n : Nat) (r' : Reg) (k' i' : Nat) : (s.inc r k i n).cnt r' k' i' =
    if r' = r ∧ k' = k ∧ i' = i then s.cnt r k i + BitVec.ofNat 48 n else s.cnt r' k' i' := by
  obtain e | e := State.inc_performance_cases h s i n
  · rw [e, State.cnt_setCnt]
  · rw [e, State.cntOverflow_part (fun x => x.cnt r' k' i') r k i (fun _ _ _ _ _ _ => rfl) (fun _ _ _ => rfl), State.cnt_setCnt]

end

/-- The checker has compared symbols: they are counted, and the errors among them. -/
def State.chkCounted (s : State) (k : Nat) (r : Checker × Nat × Nat × Bool) : State :=
  ((s.setLine k { s.line k with chk := r.1 }).inc .LTX_CHK_SYM_CNT k 0 r.2.1).inc .LTX_CHK_ERR_CNT k 0 r.2.2.1

/-- The checker has lost lock. -/
def State.chkLost (s : State) (k : Nat) : State :=
  ((s.putFlag LTX_STAT.CHK_LOCK false k).raise LTX_CAUSE.CHK_LOST k).log 0x0504 sevWarn k
    ((s.cnt .LTX_CHK_ERR_CNT k).toNat % 2 ^ 32)

theorem execLtxChkLost_of_locked {k : Fin 8} (h : s.flag LTX_STAT.CHK_LOCK k = true) (symbols : List (BitVec 2)) :
    Machine.execLtxChkLost k symbols s = .next (
      let r := (s.line k).chk.run (s.mode.run.lane k).rxCheck symbols
      if r.2.2.2 then (s.chkCounted k r).chkLost k else s.chkCounted k r) :=
  congrArg Outcome.next (if_pos h)

theorem State.chkCounted_results {k : Nat} (hk : k < s.lines.length) (r : Checker × Nat × Nat × Bool) :
    ((s.chkCounted k r).line k).chk = r.1 ∧
      (s.chkCounted k r).cnt .LTX_CHK_ERR_CNT k = saturated (s.cnt .LTX_CHK_ERR_CNT k) r.2.2.1 ∧
      (s.chkCounted k r).cnt .LTX_CHK_SYM_CNT k = s.cnt .LTX_CHK_SYM_CNT k + BitVec.ofNat 48 r.2.1 ∧
      (s.chkCounted k r).flag LTX_STAT.CHK_LOCK k = s.flag LTX_STAT.CHK_LOCK k := by
  have hsat : satField .LTX_CHK_ERR_CNT k = some (LTX_CAUSE.SAT, k) := rfl
  have hperf : satField .LTX_CHK_SYM_CNT k = none := rfl
  refine ⟨?_, ?_, ?_, ?_⟩
  · rw [State.line, State.chkCounted, State.incBy_part hsat State.lines (fun _ => rfl) (fun _ => rfl),
      State.inc_performance_part hperf State.lines _ _ (fun _ => rfl) (fun _ _ _ _ _ _ => rfl) (fun _ _ _ => rfl), ← State.line,
      State.line_setLine_self _ _ _ hk]
  · rw [State.chkCounted, State.cnt_incBy hsat, if_pos ⟨rfl, rfl, rfl⟩, State.cnt_inc_performance hperf, if_neg (by simp),
      State.cnt_setLine]
  · rw [State.chkCounted, State.cnt_incBy hsat, if_neg (by simp), State.cnt_inc_performance hperf, if_pos ⟨rfl, rfl, rfl⟩,
      State.cnt_setLine]
  · rw [State.chkCounted, State.incBy_part hsat (fun x => x.flag LTX_STAT.CHK_LOCK k) (fun _ => rfl) (fun _ => ?_),
      State.inc_performance_part hperf (fun x => x.flag LTX_STAT.CHK_LOCK k) _ _ (fun _ => rfl) ?_ (fun _ _ _ => rfl),
      State.flag_setLine]
    · rintro x r' v u' i' (rfl | rfl | rfl) <;> rw [State.flag_eq, State.fld_setReg _ (by decide), State.flag_eq]
    · rw [State.flag_eq, State.raise_eq, State.fld_put_apart _ rfl rfl, State.flag_eq]

/-- The events on their way stay on their way. -/
theorem State.sent_chkLost (k : Nat) (r : Checker × Nat × Nat × Bool) :
    Sent s ((s.chkCounted k r).chkLost k) 0x0504 sevWarn k (((s.chkCounted k r).cnt .LTX_CHK_ERR_CNT k).toNat % 2 ^ 32) := by
  have hkept : Kept s (s.chkCounted k r) true false := .inc (.inc (.setLine .refl))
  obtain ⟨pre, hpre⟩ := hkept.events rfl
  exact ⟨pre, [], by rw [hpre]; rfl⟩

theorem State.chkLost_results (k : Nat) :
    (s.chkLost k).flag LTX_STAT.CHK_LOCK k = false ∧ (s.chkLost k).flag LTX_CAUSE.CHK_LOST k = true := by
  refine ⟨?_, ?_⟩
  · rw [State.chkLost, State.flag_log, State.flag_eq, State.raise_eq, State.fld_put_apart _ rfl rfl, ← State.flag_eq,
      State.flag_putFlag_self rfl rfl]
  · rw [State.chkLost, State.flag_log, State.flag_raise_self rfl rfl]

theorem State.chkLost_keeps (k : Nat) : (s.chkLost k).lines = s.lines ∧ ∀ r, (s.chkLost k).cnt r k = s.cnt r k := by
  refine ⟨rfl, fun r => ?_⟩
  rw [State.chkLost, State.cnt_log, State.cnt_raise, State.cnt_putFlag]

/-- What a locked checker shows of the symbols that it has compared. -/
theorem State.chkRun_results {k : Nat} (hk : k < s.lines.length) (h : s.flag LTX_STAT.CHK_LOCK k = true)
    (r : Checker × Nat × Nat × Bool) :
    let t := if r.2.2.2 then (s.chkCounted k r).chkLost k else s.chkCounted k r
    let errs := saturated (s.cnt .LTX_CHK_ERR_CNT k) r.2.2.1
    (t.line k).chk = r.1 ∧ t.cnt .LTX_CHK_ERR_CNT k = errs ∧
      t.cnt .LTX_CHK_SYM_CNT k = s.cnt .LTX_CHK_SYM_CNT k + BitVec.ofNat 48 r.2.1 ∧ t.flag LTX_STAT.CHK_LOCK k = !r.2.2.2 ∧
      (r.2.2.2 = true → t.flag LTX_CAUSE.CHK_LOST k = true ∧ Sent s t 0x0504 sevWarn k (errs.toNat % 2 ^ 32)) := by
  obtain ⟨hchk, herr, hsym, hlock⟩ := State.chkCounted_results hk r
  cases hlost : r.2.2.2 with
  | false => exact ⟨hchk, herr, hsym, hlock.trans h, nofun⟩
  | true =>
    obtain ⟨hoff, hcause⟩ := State.chkLost_results (s := s.chkCounted k r) k
    obtain ⟨hlines, hcnt⟩ := State.chkLost_keeps (s := s.chkCounted k r) k
    have hsent := State.sent_chkLost (s := s) k r
    rw [herr] at hsent
    exact ⟨by rw [if_pos rfl, State.line, hlines]; exact hchk, (hcnt _).trans herr, (hcnt _).trans hsym, hoff,
      fun _ => ⟨hcause, hsent⟩⟩

/-- A right symbol with fewer than 64 errors before it is compared, and nothing more. -/
theorem Checker.run_of_right {c : Checker} {code : Nat} {g : BitVec 2} (hg : grayOf (patternNext code c.ref).1 = g.toNat)
    (he : (c.errs.filter (fun n => decide (c.count < n + 1024))).length < 64) :
    ∃ c', c.run code [g] = (c', 1, 0, false) := by
  have hcompare : c.compare code g =
      (⟨(patternNext code c.ref).2, c.count + 1, c.errs.filter (fun n => decide (c.count < n + 1024))⟩, false, false) := by
    unfold Checker.compare
    simp only [hg, bne_self_eq_false, Bool.false_eq_true, if_false, decide_eq_false (Nat.not_le.2 he)]
  exact ⟨_, by rw [Checker.run, hcompare]; rfl⟩

theorem execLtxChkLock_of_pattern {k : Fin 8} {start : BitVec 31} {symbols : List (BitVec 2)} (hused : s.lineUsed k = true)
    (hcode : (s.mode.run.lane k).rxCheck ≠ 0) (hlock : s.flag LTX_STAT.CHK_LOCK k = false) (hlen : symbols.length = 128)
    (heq : (patternSymbols (s.mode.run.lane k).rxCheck 128 start.toNat).1 = symbols.map (fun g => g.toNat)) :
    Machine.execLtxChkLock k start symbols s = .next (
      (s.setLine k { s.line k with
        chk := ⟨(patternSymbols (s.mode.run.lane k).rxCheck 128 start.toNat).2, 0, []⟩ }).putFlag LTX_STAT.CHK_LOCK true k) :=
  congrArg Outcome.next (if_pos ⟨hused, hcode, hlock, hlen, heq⟩)

/-! ## The slips of a loopback (R101) -/

/-- A slip has been counted. -/
def State.slipped (s : State) (k : Nat) : State := (s.inc .LTX_LB_SLIP_CNT k).raise LTX_CAUSE.LB_SLIP k

theorem execLtxLbSlip_of_shallow {k : Fin 8} {p : Nat} (hp : s.mode.run.portOfLine k = some p)
    (hl : (s.mode.run.port p).loopback = 3) (again : Bool) (block : List (BitVec 2)) :
    Machine.execLtxLbSlip k again block s = .next (
      if again ∧ (s.slipped k).txLive k then (s.slipped k).txSent k 0 block else s.slipped k) := by
  unfold Machine.execLtxLbSlip
  rw [hp]
  exact congrArg Outcome.next (if_pos hl)

theorem State.slipped_results (k : Nat) :
    (s.slipped k).cnt .LTX_LB_SLIP_CNT k = saturated (s.cnt .LTX_LB_SLIP_CNT k) ∧
      (s.slipped k).flag LTX_CAUSE.LB_SLIP k = true := by
  refine ⟨?_, State.flag_raise_self rfl rfl ..⟩
  rw [State.slipped, State.cnt_raise, State.cnt_incBy rfl, if_pos ⟨rfl, rfl, rfl⟩]

/-- Settles O19: each command is followed to the state that it leaves, and each clause is a fact about that state. -/
theorem lineTransmitterResults : Obligations.LineTransmitterResults := by
  unfold Obligations.LineTransmitterResults
  refine ⟨fun e s hruns h0 hused hfree h1 hs hz => ?_, fun e s hruns h0 hused hfree hac hc0 hc h3 hs hz => ?_,
    fun e s hruns hshape h0 hused hfree hz => ?_, fun k s hshape hused => ?_, fun k s r hshape hr hfrom hto => ?_,
    fun k sub s x hshape hlive hhist => ?_, fun k sub src s hshape hlive => ?_, fun k sub src s hlive => ?_,
    fun k s hused hms hdoze hbusy => ?_, fun k s hdoze => ⟨_, rfl, State.seqOn_wakeLineTx hdoze⟩,
    fun k start symbols s hshape hused hcode hlock hlen heq => ?_, fun k symbols s hshape hlock => ?_,
    fun k s g hshape hlock hg he => ?_, fun k again block s p hp hl => ?_⟩
  · refine completes_of_finish hruns rfl (cmdSetFir_of_ranges _ h0 h1 hs hz hfree hused) State.mbx_firSet fun hans =>
      ⟨hans, fun n hn => ?_⟩
    rw [State.sfld, State.fld_finish]
    exact State.coef_firSet hs hn
  · refine completes_of_finish hruns rfl (cmdSetLevels_of_ranges _ h0 hac hc0 hc h3 hs hz hfree hused) State.mbx_levelsSet
      fun hans => ⟨hans, fun n hn => ?_⟩
    rw [State.sfld, State.fld_finish]
    exact State.level_levelsSet hs hn
  · have hlen : (s.params e).byte 0 < (s.begun e).lines.length := (by omega : (s.params e).byte 0 < s.lines.length)
    have hres := State.commit_results hlen
    refine completes_of_finish hruns rfl (cmdCommit_of_free _ h0 hz hfree hused) (State.mbx_commit _) fun hans => ⟨hans, ?_⟩
    simp only [State.flag_eq, State.fld_finish, State.line, State.finish_lines]
    exact hres
  · exact ⟨_, congrArg Outcome.next (if_pos hused), State.commit_results (by omega)⟩
  · have hlen : k.val < s.lines.length := by omega
    by_cases hn : r.step < 15
    · obtain ⟨hlines, -⟩ := State.setTxActive_keeps (s := s) k (r.at (r.step + 1))
      obtain ⟨hcoef, -⟩ := State.fld_setTxActive (s := s) k (r.at (r.step + 1))
      refine ⟨_, execLtxRampStep_of_under_way hr hn, fun _ => ⟨?_, fun n hn7 => ?_⟩, fun h => absurd hn (by omega)⟩
      · dsimp only
        rw [State.line_setLine_self _ _ _ (by rwa [hlines])]
      · dsimp only
        rw [State.fld_setLine, hcoef n hn7, Ramp.getD_at (by omega) (by omega)]
    · exact ⟨_, execLtxRampStep_of_last hr (by omega), fun h => absurd h hn, fun _ => State.endRamp_results hlen hr⟩
  · have hlen : k.val < s.lines.length := by omega
    obtain ⟨htx, hcnt, hclip⟩ := State.txSent_singleton hlen hhist sub x
    refine ⟨_, execLtxClip_of_live hlive sub [x], congrArg TxPath.hist htx, congrArg TxPath.dac htx, hcnt, hclip,
      fun hp hl => ?_, fun hp hl => ?_⟩
    · rw [htx, State.txSymbol_of_data hp hl, State.line_setLine_self _ _ _ hlen]
      exact ⟨rfl, rfl⟩
    · rw [State.txSymbol_of_shallow hp hl]
  · exact ⟨_, execLtxClip_of_live hlive sub src, State.txSent_bounds (by omega) sub src⟩
  · exact ⟨_, execLtxClip_of_squelched hlive sub src, rfl⟩
  · obtain ⟨hflag, hreason, hisland⟩ := State.dozedTx_results (s := s) (k := k) hused
    refine ⟨_, execLtxDozeTimer_of_idle hused hms hdoze hbusy, ?_⟩
    generalize s.dozedTx k = x at hflag hreason hisland ⊢
    exact ⟨hflag, hreason, hisland⟩
  · exact ⟨_, execLtxChkLock_of_pattern hused hcode hlock hlen heq, State.flag_putFlag_self rfl rfl ..,
      congrArg (fun x => x.chk.ref) (State.line_setLine_self s k _ (by omega)),
      congrArg (fun x => x.chk.errs) (State.line_setLine_self s k _ (by omega))⟩
  · exact ⟨_, execLtxChkLost_of_locked hlock symbols, State.chkRun_results (by omega) hlock _⟩
  · obtain ⟨c, hrun⟩ := Checker.run_of_right hg he
    obtain ⟨-, herr, hsym, hon, -⟩ := State.chkRun_results (s := s) (k := k) (by omega) hlock (c, 1, 0, false)
    refine ⟨_, execLtxChkLost_of_locked hlock [g], ?_⟩
    rw [hrun]
    exact ⟨herr.trans (saturated_zero _), hsym, hon⟩
  · obtain ⟨hcnt, hflag⟩ := State.slipped_results (s := s) k
    refine ⟨_, execLtxLbSlip_of_shallow hp hl again block, ?_⟩
    split
    · obtain ⟨hcnt', hflag'⟩ := State.slips_txSent (s := s.slipped k) k 0 block
      exact ⟨hcnt'.trans hcnt, hflag'.trans hflag⟩
    · exact ⟨hcnt, hflag⟩

end Sys2Proof.Machine

/-!
PROOFS. The frames of the last instructions (O57): a last is kept under the number 8 × rack + last, for every pair of numbers.
-/

namespace Sys2Proof.Machine

/-- Rack 1 is on and clocked, and its last 0 stands before a NOP that its loop cache holds. -/
def nopReady : State :=
  (((State.reset.setIsland (rackIsland 1) .on).putBit .CLK_LOCK 1 true 1).put RACK_STAT.HALTED 0xFE 1).setLast 1 0
    { cache := [(0, 0)] }

/-- The NOP completes, and the last goes on at address 1. -/
theorem pc_of_nop_nopReady {t : State} (e : Machine.exec (.nop ⟨1, 0, 0, 0, 0, 0⟩) nopReady = .next t) :
    (t.last 1 0).pc = 1 := by
  cases e
  decide +kernel

/-- Refutes O57: the frame of the other lasts speaks of every pair of numbers but the last's own, and `State.last` keeps last `l`
of rack `r` under 8 × r + l, so that "last 8 of rack 0" is last 0 of rack 1. That last issues a NOP, and its PC moves. -/
theorem not_lastInstructionFrames : ¬ Obligations.LastInstructionFrames := by
  unfold Obligations.LastInstructionFrames
  rintro ⟨hnop, -⟩
  obtain ⟨-, hothers, -⟩ := hnop ⟨1, 0, 0, 0, 0, 0⟩
  have hpc : (nopReady.last 1 0).pc = 1 :=
    (congrArg Last.pc (hothers nopReady _ rfl 0 8 (by decide))).symm.trans (pc_of_nop_nopReady rfl)
  exact absurd hpc (by decide +kernel)

end Sys2Proof.Machine

/-!
PROOFS. Counters that saturate and counters that wrap (O55).
-/

namespace Sys2Proof.Machine

open Host

variable {s : State} {r : Reg} {u : Nat} {f : Fld} {fu : Nat}

/-- Every SAT cause is one bit of its register. -/
theorem satField_bit (h : satField r u = some (f, fu)) : f.fits = true ∧ f.w = 1 := by
  unfold satField at h
  split at h <;> cases h <;> simp [Fld.fits] <;> omega

section

variable (h : satField r u = some (f, fu)) (i n : Nat)
include h

/-- An error-statistics counter at all-ones stays as it is. -/
theorem State.inc_of_full (hv : (s.cnt r u i).toNat = cntMax) : s.inc r u i n = s := by
  unfold State.inc
  simp only [h]
  exact if_pos (.inl hv)

/-- The count that brings an error-statistics counter to all-ones sets its SAT cause. -/
theorem State.flag_inc_of_filled (hlt : (s.cnt r u i).toNat < cntMax) (hge : cntMax ≤ (s.cnt r u i).toNat + n) :
    (s.inc r u i n).flag f fu = true := by
  obtain ⟨hfits, hw⟩ := satField_bit h
  unfold State.inc
  simp only [h]
  rw [if_neg (by omega), if_neg (by omega)]
  exact State.flag_raise_self hfits hw _ _

end

/-! ## The wrap of a performance counter -/

variable {b : Block} {a : Nat}

/-- The causes that a wrap sets: the overflow bit of a bank's counter, and OVF of its die. -/
def State.wrapCauses (s : State) (r : Reg) (u i die : Nat) : State :=
  let s := if r = .CNT_VAL then s.putBit .CNT_BANK_OVF i true u else s
  if die = 0 then s.raise CNT_CAUSE.OVF else s.raise CNT_DIE_CAUSE.OVF die

theorem State.cntOverflow_eq {i : Nat} (h : counterHome ⟨r, u, i⟩ = some (b, a)) :
    s.cntOverflow r u i = (s.wrapCauses r u i b.die).logRate b.island 0x1301 sevInfo b.island a := by
  unfold State.cntOverflow
  simp only [h]
  rfl

theorem State.reg_logRate (s : State) (obj code sev p0 p1 p2 p3 : Nat) (r : Reg) (u i : Nat) :
    (s.logRate obj code sev p0 p1 p2 p3).reg r u i = s.reg r u i := by
  obtain ⟨es, rs, e⟩ := s.logRate_eq obj code sev p0 p1 p2 p3
  rw [e]
  rfl

/-- A limited event that may be logged now is logged. -/
theorem State.logged_logRate {t : State} {obj code : Nat} (sev p0 p1 p2 p3 : Nat) (h : t.rateOk code obj = true)
    (he : t.events = s.events) : Logged s (t.logRate obj code sev p0 p1 p2 p3) [⟨code, sev, p0, p1, p2, p3, none⟩] := by
  rw [State.logRate, if_pos h]
  exact congrArg (· ++ _) he

theorem State.bit_wrapCauses (s : State) {i : Nat} (h : i < 32) (u die : Nat) :
    (s.wrapCauses .CNT_VAL u i die).bit .CNT_BANK_OVF i u = true := by
  have hbit := s.bit_putBit_self h .CNT_BANK_OVF true u
  unfold State.wrapCauses State.bit
  rw [if_pos rfl]
  extract_lets x
  split
  · rw [State.raise_eq, x.reg_put (by decide)]
    exact hbit
  · rw [State.raise_eq, x.reg_put (by decide)]
    exact hbit

theorem State.flag_wrapCauses_mgmt (s : State) (r : Reg) (u i : Nat) : (s.wrapCauses r u i 0).flag CNT_CAUSE.OVF = true :=
  State.flag_raise_self (by decide) rfl 0 0

theorem State.flag_wrapCauses_die (s : State) (r : Reg) (u i : Nat) {die : Nat} (h : die ≠ 0) :
    (s.wrapCauses r u i die).flag CNT_DIE_CAUSE.OVF die = true := by
  unfold State.wrapCauses
  rw [if_neg h]
  exact State.flag_raise_self (by decide) rfl die 0

/-- What a wrap sets and logs. -/
def Wrapped (s t : State) (r : Reg) (u i : Nat) (b : Block) (a : Nat) : Prop :=
  (r = .CNT_VAL → i < 32 → t.bit .CNT_BANK_OVF i u = true) ∧
  (b.die = 0 → t.flag CNT_CAUSE.OVF = true) ∧
  (b.die ≠ 0 → t.flag CNT_DIE_CAUSE.OVF b.die = true) ∧
  (s.rateOk 0x1301 b.island = true → Logged s t [⟨0x1301, sevInfo, b.island, a, 0, 0, none⟩])

theorem State.wrapCauses_eq (s : State) (r : Reg) (u i die : Nat) : ∃ q, s.wrapCauses r u i die = { s with regs := q } := by
  unfold State.wrapCauses
  split
  · split
    · exact ⟨_, rfl⟩
    · exact ⟨_, rfl⟩
  · split
    · exact ⟨_, rfl⟩
    · exact ⟨_, rfl⟩

theorem State.wrapped_cntOverflow {i : Nat} (h : counterHome ⟨r, u, i⟩ = some (b, a)) :
    Wrapped s (s.cntOverflow r u i) r u i b a := by
  rw [State.cntOverflow_eq h]
  refine ⟨?bank, ?mgmt, ?die, ?event⟩
  case bank =>
    rintro rfl hi
    exact (congrArg (getBits · i 1 == 1) (State.reg_logRate _ _ _ _ _ _ _ _ _ _ _)).trans (s.bit_wrapCauses hi u b.die)
  case mgmt =>
    intro hb
    rw [hb]
    exact (congrArg (getBits · _ _ == 1) (State.reg_logRate _ _ _ _ _ _ _ _ _ _ _)).trans (s.flag_wrapCauses_mgmt r u i)
  case die =>
    intro hb
    exact (congrArg (getBits · _ _ == 1) (State.reg_logRate _ _ _ _ _ _ _ _ _ _ _)).trans (s.flag_wrapCauses_die r u i hb)
  case event =>
    intro hr
    obtain ⟨q, e⟩ := s.wrapCauses_eq r u i b.die
    rw [e]
    exact State.logged_logRate _ _ _ _ _ hr rfl

theorem State.inc_of_wrapped {i n : Nat} (h : satField r u = none) (hv : cntMax < (s.cnt r u i).toNat + n) :
    s.inc r u i n = (s.setCnt r (BitVec.ofNat 48 ((s.cnt r u i).toNat + n)) u i).cntOverflow r u i := by
  unfold State.inc
  simp only [h]
  exact if_neg (by omega)

/-- Settles O55, from what `State.inc` does with a counter that has a SAT cause and with one that has none. -/
theorem countersSaturateOrWrap : Obligations.CountersSaturateOrWrap := by
  unfold Obligations.CountersSaturateOrWrap
  refine ⟨?saturates, ?wraps⟩
  case saturates =>
    intro s r u i n f fu h _
    refine ⟨?_, State.inc_of_full h i n, State.flag_inc_of_filled h i n⟩
    rw [State.cnt_incBy h, if_pos ⟨rfl, rfl, rfl⟩]
  case wraps =>
    intro s r u i n h
    refine ⟨?_, fun b a hv hb => ?_⟩
    · rw [State.cnt_inc_performance h, if_pos ⟨rfl, rfl, rfl⟩]
    · rw [State.inc_of_wrapped h hv]
      exact State.wrapped_cntOverflow hb

end Sys2Proof.Machine

/-!
PROOFS. What happens beside an effect: counting, logging, open values, and reads of protected memory (for O1–O6, O8, O20).
-/

namespace Sys2Proof.Machine

open Host

variable {s t u : State} {rs : List Reg} {rd : Bool}

/-- A word delivers data: it reads clean or corrected. -/
def State.Holds (s : State) (a : Nat) (d : W64) : Prop := classify (s.word a) = .clean d ∨ classify (s.word a) = .corrected d

/-- The registers that counting and reads of memory change: the performance banks, the memory-integrity registers, and what the
deskew pool shows of fenced granules. -/
def sideRegs : List Reg :=
  [.CNT_VAL, .CNT_BANK_OVF, .CNT_CAUSE, .CNT_DIE_CAUSE, .MEM_CORR_CNT, .MEM_UNCORR_CNT, .MEM_BKT_STAT, .MEM_CAUSE, .MEM_HARD, .MEM_STAT,
    .MEM_ERR_LOC, .MEM_ERR_INFO, .FEC_POOL_STAT, .FEC_POOL_FENCED, .FEC_POOL_MAP]

/-- What a rack holds beside its tagging of instructions. -/
def RackSt.core (q : RackSt) : RackSt := { q with issued := 0, tagGoal := 0, tagged := [] }

/-- From `s` to `t` only the side registers and `rs` have changed, open values have been drawn, events sent and words written back
(when `rd` is set) with the data they held. -/
structure Aside (rs : List Reg) (rd : Bool) (s t : State) : Prop where
  parts : ∃ f q c m e rt k fe rk, t = { s with
    freeIx := f, regs := q, cnts := c, mem := m, events := e, rate := rt, ctl := k, fenced := fe, racks := rk }
  racks : ∀ r, (t.rackOf r).core = (s.rackOf r).core
  regs : SameRegs (sideRegs ++ rs) s t
  events : s.events <+: t.events
  mem : rd = false → t.mem = s.mem
  holds : ∀ a d, s.Holds a d → t.Holds a d

namespace Aside

theorem refl : Aside rs rd s s :=
  ⟨⟨_, _, _, _, _, _, _, _, _, rfl⟩, fun _ => rfl, fun _ _ _ _ => ⟨rfl, rfl, rfl⟩, List.prefix_refl _, fun _ => rfl, fun _ _ h => h⟩

theorem trans (h : Aside rs rd s t) (h' : Aside rs rd t u) : Aside rs rd s u where
  parts := by
    obtain ⟨_, _, _, _, _, _, _, _, _, rfl⟩ := h.parts
    obtain ⟨_, _, _, _, _, _, _, _, _, rfl⟩ := h'.parts
    exact ⟨_, _, _, _, _, _, _, _, _, rfl⟩
  racks r := (h'.racks r).trans (h.racks r)
  regs r hr k i := by
    obtain ⟨h1, h2, h3⟩ := h.regs r hr k i
    obtain ⟨h1', h2', h3'⟩ := h'.regs r hr k i
    exact ⟨h1'.trans h1, h2'.trans h2, h3'.trans h3⟩
  events := h.events.trans h'.events
  mem hr := (h'.mem hr).trans (h.mem hr)
  holds a d hd := h'.holds a d (h.holds a d hd)

/-- A wider list of registers, and a weaker statement about memory. -/
theorem mono {rs' : List Reg} {rd' : Bool} (h : Aside rs rd s t) (hs : rs ⊆ rs') (hd : rd' = false → rd = false) :
    Aside rs' rd' s t :=
  { h with
    regs := fun r hr => h.regs r fun hm => hr (List.append_subset.2 ⟨List.subset_append_left _ _,
      List.subset_append_of_subset_right _ hs⟩ hm)
    mem := fun hr => h.mem (hd hr) }

theorem ite {p : Prop} [Decidable p] (h : Aside rs rd s t) (h' : Aside rs rd s u) : Aside rs rd s (if p then t else u) := by
  split
  · exact h
  · exact h'

theorem foldl {α : Type} {f : State → α → State} (hf : ∀ s a, Aside rs rd s (f s a)) (l : List α) (s : State) :
    Aside rs rd s (l.foldl f s) := by
  induction l generalizing s with
  | nil => exact .refl
  | cons a l ih => exact (hf s a).trans (ih (f s a))

theorem reg_eq (h : Aside rs rd s t) {r : Reg} (hr : r ∉ sideRegs ++ rs) (k i : Nat) : t.reg r k i = s.reg r k i := (h.regs r hr k i).1

theorem cnt_eq (h : Aside rs rd s t) {r : Reg} (hr : r ∉ sideRegs ++ rs) (k i : Nat) : t.cnt r k i = s.cnt r k i := (h.regs r hr k i).2.1

theorem fld_eq (h : Aside rs rd s t) {f : Fld} (hr : f.reg ∉ sideRegs ++ rs) (k i : Nat) : t.fld f k i = s.fld f k i := by
  rw [State.fld, State.fld, h.reg_eq hr]

theorem flag_eq (h : Aside rs rd s t) {f : Fld} (hr : f.reg ∉ sideRegs ++ rs) (k i : Nat) : t.flag f k i = s.flag f k i := by
  rw [State.flag_eq, State.flag_eq, h.fld_eq hr]

theorem lasts_eq (h : Aside rs rd s t) : t.lasts = s.lasts := by
  obtain ⟨_, _, _, _, _, _, _, _, _, rfl⟩ := h.parts
  rfl

theorem last_eq (h : Aside rs rd s t) (r l : Nat) : t.last r l = s.last r l := by
  rw [State.last, State.last, h.lasts_eq]

theorem word_eq (h : Aside rs false s t) (a : Nat) : t.word a = s.word a := by
  have hm := h.mem rfl
  obtain ⟨_, _, _, _, _, _, _, _, _, rfl⟩ := h.parts
  unfold State.word
  rw [hm]

theorem written_eq (h : Aside rs rd s t) (r : Nat) : (t.rackOf r).written = (s.rackOf r).written := by
  have e := congrArg RackSt.written (h.racks r)
  exact e

/-! ## The operations -/

theorem setReg {r : Reg} (s : State) (v : W32) (k i : Nat) (h : r ∈ sideRegs ++ rs := by simp [sideRegs]) : Aside rs rd s (s.setReg r v k i) :=
  ⟨⟨_, _, _, _, _, _, _, _, _, rfl⟩, fun _ => rfl,
    fun r' hr _ _ => ⟨s.reg_setReg_reg (fun e => hr (by rwa [e])) _ _ _ _ _, rfl, rfl⟩, List.prefix_refl _, fun _ => rfl, fun _ _ h => h⟩

theorem put {f : Fld} (s : State) (v k i : Nat) (h : f.reg ∈ sideRegs ++ rs := by simp [sideRegs]) : Aside rs rd s (s.put f v k i) := setReg s _ k i h

theorem raise {f : Fld} (s : State) (k i : Nat) (h : f.reg ∈ sideRegs ++ rs := by simp [sideRegs]) : Aside rs rd s (s.raise f k i) := put s 1 k i h

theorem setCnt {r : Reg} (s : State) (v : W48) (k i : Nat) (h : r ∈ sideRegs ++ rs := by simp [sideRegs]) : Aside rs rd s (s.setCnt r v k i) :=
  ⟨⟨_, _, _, _, _, _, _, _, _, rfl⟩, fun _ => rfl,
    fun r' hr _ _ => ⟨rfl, (s.cnt_setCnt _ _ _ _ _ _ _).trans (if_neg fun ⟨e, _⟩ => hr (by rwa [e])), rfl⟩, List.prefix_refl _, fun _ => rfl,
    fun _ _ h => h⟩

theorem log (s : State) (code sev p0 p1 p2 p3 : Nat) : Aside rs rd s (s.log code sev p0 p1 p2 p3) :=
  ⟨⟨_, _, _, _, _, _, _, _, _, rfl⟩, fun _ => rfl, fun _ _ _ _ => ⟨rfl, rfl, rfl⟩, List.prefix_append _ _, fun _ => rfl, fun _ _ h => h⟩

theorem logRate (s : State) (obj code sev p0 p1 p2 p3 : Nat) : Aside rs rd s (s.logRate obj code sev p0 p1 p2 p3) := by
  unfold State.logRate
  refine .ite ⟨⟨_, _, _, _, _, _, _, _, _, rfl⟩, fun _ => rfl, fun _ _ _ _ => ⟨rfl, rfl, rfl⟩, List.prefix_append _ _, fun _ => rfl,
    fun _ _ h => h⟩ .refl

theorem free (s : State) : Aside rs rd s s.free.2 :=
  ⟨⟨_, _, _, _, _, _, _, _, _, rfl⟩, fun _ => rfl, fun _ _ _ _ => ⟨rfl, rfl, rfl⟩, List.prefix_refl _, fun _ => rfl, fun _ _ h => h⟩

theorem ctl (s : State) (k : MemSt) : Aside rs rd s { s with ctl := k } :=
  ⟨⟨_, _, _, _, _, _, _, _, _, rfl⟩, fun _ => rfl, fun _ _ _ _ => ⟨rfl, rfl, rfl⟩, List.prefix_refl _, fun _ => rfl, fun _ _ h => h⟩

theorem fenced (s : State) (k : List Nat) : Aside rs rd s { s with fenced := k } :=
  ⟨⟨_, _, _, _, _, _, _, _, _, rfl⟩, fun _ => rfl, fun _ _ _ _ => ⟨rfl, rfl, rfl⟩, List.prefix_refl _, fun _ => rfl, fun _ _ h => h⟩

theorem cntOverflow (s : State) (r : Reg) (k i : Nat) : Aside rs rd s (s.cntOverflow r k i) := by
  unfold State.cntOverflow
  split
  · exact .refl
  · exact ((ite (setReg _ _ _ _) .refl).trans
      (ite (raise _ _ _) (raise _ _ _))).trans (logRate _ _ _ _ _ _ _ _)

/-- A counter of the list counts, and its SAT cause, if it has one, is on the list too. -/
theorem inc {r : Reg} (h : r ∈ sideRegs ++ rs) {k : Nat} (hf : ∀ f fu, satField r k = some (f, fu) → f.reg ∈ sideRegs ++ rs)
    (s : State) (i n : Nat) : Aside rs rd s (s.inc r k i n) := by
  cases hs : satField r k with
  | some p =>
    obtain ⟨f, fu⟩ := p
    obtain e | ⟨v, e⟩ | ⟨v, e⟩ := State.incBy_cases hs s i n
    · rw [e]
      exact .refl
    · rw [e]
      exact setCnt _ _ _ _ h
    · rw [e]
      exact (setCnt _ _ _ _ h).trans (raise _ _ _ (hf f fu hs))
  | none =>
    obtain e | e := State.inc_performance_cases hs s i n
    · rw [e]
      exact setCnt _ _ _ _ h
    · rw [e]
      exact (setCnt _ _ _ _ h).trans (cntOverflow _ _ _ _)

/-- A performance counter of the list counts. -/
theorem incPerf {r : Reg} (h : r ∈ sideRegs ++ rs) {k : Nat} (hs : satField r k = none) (s : State) (i n : Nat) :
    Aside rs rd s (s.inc r k i n) := inc h (fun f fu hf => by rw [hs] at hf; cases hf) s i n

theorem perfPriv (s : State) (k n : Nat) (g : PerfTag) : Aside rs rd s (s.perfPriv k n g).2 := by
  unfold State.perfPriv
  split
  · exact .refl
  · split
    · exact .refl
    · exact .refl
    · exact .refl
    · exact free s

theorem perfOne (s : State) (k code : Nat) (g : PerfTag) (c n : Nat) : Aside rs rd s (s.perfOne k code g c n) := by
  unfold State.perfOne
  refine ite ((perfPriv s k n g).trans ?_) .refl
  exact ite (incPerf (by simp [sideRegs]) rfl _ _ _) .refl

theorem perf (s : State) (k code : Nat) (g : PerfTag) (c : Nat) : Aside rs rd s (s.perf k code g c) := by
  unfold State.perf
  exact ite .refl (foldl (fun s n => perfOne s k code g c n) _ _)

/-! ## Reads of protected memory (R354, R359–R365) -/

theorem setTracker (s : State) (die : Nat) (v : List (Nat × Nat)) : Aside rs rd s (s.setTracker die v) := ctl s _

theorem untrack (s : State) (die a : Nat) : Aside rs rd s (s.untrack die a) := setTracker s die _

theorem bump {f : Fld} (s : State) (k i : Nat) (h : f.reg ∈ sideRegs ++ rs := by simp [sideRegs]) : Aside rs rd s (s.bump f k i) := put s _ k i h

theorem refreshPool (s : State) (d : Nat) : Aside rs rd s (s.refreshPool d) := by
  unfold State.refreshPool
  exact ((put _ _ _ _).trans (put _ _ _ _)).trans (put _ _ _ _)

theorem fence (s : State) (d g : Nat) : Aside rs rd s (s.fence d g) := by
  unfold State.fence
  exact ite .refl ((((fenced s _).trans (raise _ _ _)).trans (refreshPool _ d)).trans (log _ _ _ _ _ _ _))

theorem hardError (s : State) (die region a : Nat) : Aside rs rd s (s.hardError die region a) := by
  unfold State.hardError
  extract_lets loc row n x y id
  have hx : Aside rs rd s x := ite ((setReg _ _ _ _).trans (put _ _ _ _))
    (raise _ _ _)
  have hy : Aside rs rd s y := hx.trans (raise _ _ _)
  refine hy.trans (ite (ite (log _ _ _ _ _ _ _) (ite ((ctl _ _).trans (log _ _ _ _ _ _ _)) ?_)) (ite ?_ (ite ?_ (log _ _ _ _ _ _ _))))
  · exact (log _ _ _ _ _ _ _).trans (log _ _ _ _ _ _ _)
  · exact (ctl _ _).trans (log _ _ _ _ _ _ _)
  · exact (fence _ _ _).trans (log _ _ _ _ _ _ _)

theorem track (s : State) (die region a : Nat) : Aside rs rd s (s.track die region a) := by
  unfold State.track
  extract_lets l
  split
  · exact setTracker _ _ _
  · exact ite ((untrack _ _ _).trans (hardError _ _ _ _)) (setTracker _ _ _)

theorem countCorrected (s : State) (a : Nat) : Aside rs rd s (s.countCorrected a) := by
  unfold State.countCorrected
  split
  · exact .refl
  · next die region _ =>
    extract_lets k x level y z
    have hx : Aside rs rd s x := (inc (by simp [sideRegs]) (fun f fu hf => by cases hf; simp [sideRegs]) _ _ _).trans (perf _ _ _ _ _)
    have hy : Aside rs rd x y := (put _ _ _ _).trans (bump _ _ _)
    have hz : Aside rs rd x z := ite ((hy.trans (raise _ _ _)).trans (log _ _ _ _ _ _ _)) (put _ _ _ _)
    exact (hx.trans hz).trans (track _ _ _ _)

theorem countUncorrectable (s : State) (a src kind : Nat) (poison : Bool) : Aside rs rd s (s.countUncorrectable a src kind poison) := by
  unfold State.countUncorrectable
  split
  · exact .refl
  · next die region _ =>
    extract_lets k id x y z w v
    have hx : Aside rs rd s x :=
      (inc (by simp [sideRegs]) (fun f fu hf => by cases hf; simp [sideRegs]) _ _ _).trans (raise _ _ _)
    have hw : Aside rs rd x w :=
      (((setReg _ _ _ _).trans (put _ _ _ _)).trans (put _ _ _ _)).trans ((put _ _ _ _).trans (put _ _ _ _))
    exact (hx.trans (ite .refl (hw.trans (raise _ _ _)))).trans (logRate _ _ _ _ _ _ _ _)

/-- A word that is written back with the data it held. -/
theorem setWord (s : State) {a : Nat} {d : W64} (h : s.Holds a d) : Aside rs true s (s.setWord a (protect d)) where
  parts := ⟨_, _, _, _, _, _, _, _, _, rfl⟩
  racks _ := rfl
  regs _ _ _ _ := ⟨rfl, rfl, rfl⟩
  events := List.prefix_refl _
  mem h := by cases h
  holds a' d' hd := by
    unfold State.Holds at *
    rw [State.word_setWord]
    split
    · next e =>
      rw [e] at hd
      refine .inl ((classify_protect d).trans ?_)
      obtain h | h := h <;> obtain hd | hd := hd <;> rw [h] at hd <;> cases hd <;> rfl
    · exact hd

theorem writeBack (s : State) {a : Nat} {d : W64} (h : s.Holds a d) : Aside rs true s (s.writeBack a d) := by
  unfold State.writeBack
  exact ite (ite .refl (ctl _ _)) (setWord s h)

theorem readWord (s : State) (a src kind : Nat) : Aside rs true s (s.readWord a src kind).2 := by
  unfold State.readWord
  split
  · split
    · exact untrack _ _ _
    · exact .refl
  · next d hd =>
    have hc : Aside rs true s (s.countCorrected a) := countCorrected s a
    exact hc.trans (writeBack _ (hc.holds a d (.inr hd)))
  · exact countUncorrectable _ _ _ _ _
  · exact countUncorrectable _ _ _ _ _

theorem readWords (s : State) (l : List Nat) : Aside rs true s (s.readWords l).2 := by
  induction l generalizing s with
  | nil => exact .refl
  | cons a l ih =>
    have h : Aside rs true s ((s.readWord a).2.readWords l).2 := (readWord s a 15 1).trans (ih _)
    simp only [State.readWords]
    split
    · exact h
    · exact h

end Aside

/-- A read of a word that delivers data. -/
theorem State.readWord_of_holds {a : Nat} {d : W64} (h : s.Holds a d) (src kind : Nat) : (s.readWord a src kind).1 = some d := by
  unfold State.readWord
  obtain h | h := h
  · rw [h]
    split
    · next d' e =>
      cases e
      split
      · rfl
      · rfl
    · next e => cases e
    · next e => cases e
    · next e => cases e
  · rw [h]

end Sys2Proof.Machine

/-!
PROOFS. The issue of an instruction by a last (for O1–O6): what comes before its effect, its operands, and what follows it.
-/

namespace Sys2Proof.Machine

open Host

variable {s t u : State} {rs : List Reg} {rd : Bool} {r l : Nat}

/-! ## Counting slots and tagging instructions -/

/-- The counters of a rack's waits. -/
def waitRegs : List Reg := [.RACK_BANK_CONF_CNT, .RACK_BUS_WAIT_CNT]

/-- The counters that an issue changes: the slots of its last and the waits of its rack. -/
def lastRegs : List Reg := [.RACK_SLOT_RET_CNT, .RACK_SLOT_WASTE_CNT, .RACK_SLOT_FRONT_CNT, .RACK_SLOT_BACK_CNT] ++ waitRegs

namespace Aside

theorem setLast (h : Aside rs rd s t) (y : Last) : Aside rs rd (s.setLast r l y) (t.setLast r l y) where
  parts := by
    obtain ⟨_, _, _, _, _, _, _, _, _, rfl⟩ := h.parts
    exact ⟨_, _, _, _, _, _, _, _, _, rfl⟩
  racks := h.racks
  regs := h.regs
  events := h.events
  mem := h.mem
  holds := h.holds

theorem setRack (s : State) {q : RackSt} (h : q.core = (s.rackOf r).core) : Aside rs rd s (s.setRack r q) where
  parts := ⟨_, _, _, _, _, _, _, _, _, rfl⟩
  racks r' := by
    by_cases e : r' = r
    · rw [e, State.rackOf_setRack_self]
      exact h
    · rw [s.rackOf_setRack_ne r q e]
  regs _ _ _ _ := ⟨rfl, rfl, rfl⟩
  events := List.prefix_refl _
  mem _ := rfl
  holds _ _ h := h

theorem tagStart (s : State) (r : Nat) : Aside rs rd s (s.tagStart r) := (free s).trans (setRack _ rfl)

theorem countIssue (s : State) (r l : Nat) (c : Issued) : Aside rs rd s (s.countIssue r l c) := by
  unfold State.countIssue
  extract_lets x q
  have hx : Aside rs rd s x := ite (perf s _ _ _ _) .refl
  have htag : Aside rs rd x (x.setRack r { q with tagged := q.tagged ++ [(l, c, (x.cnt .RACK_CYC_CNT r).setWidth 32)] }) := setRack x rfl
  exact hx.trans (ite (ite (htag.trans (tagStart _ r)) (setRack x rfl)) .refl)

theorem slot {cnt : Reg} (s : State) (code r l : Nat) (user : Bool) (n : Nat) (hs : satField cnt r = none := by rfl)
    (h : cnt ∈ sideRegs ++ rs := by simp [sideRegs, lastRegs]) : Aside rs rd s (s.slot cnt code r l user n) := by
  unfold State.slot
  exact ite .refl ((incPerf h hs _ _ _).trans (perf _ _ _ _ _))

theorem waits (hs : waitRegs ⊆ rs) (s : State) (r n m : Nat) :
    Aside rs rd s ((s.inc .RACK_BANK_CONF_CNT r 0 n).inc .RACK_BUS_WAIT_CNT r 0 m) := by
  have hc : .RACK_BANK_CONF_CNT ∈ sideRegs ++ rs := List.mem_append_right _ (hs (by simp [waitRegs]))
  have hw : .RACK_BUS_WAIT_CNT ∈ sideRegs ++ rs := List.mem_append_right _ (hs (by simp [waitRegs]))
  exact (incPerf hc rfl _ _ _).trans (incPerf hw rfl _ _ _)

theorem lostSlots (s : State) (w : LastAt) (user : Bool) (stalls : Nat) : Aside lastRegs rd s (s.lostSlots w user stalls) := by
  have hslots : Aside lastRegs rd s ((s.slotFront w.rack w.last user w.front.toNat).slotBack w.rack w.last user
      (w.back.toNat + stalls)) := (slot _ _ _ _ _ _).trans (slot _ _ _ _ _ _)
  exact hslots.trans (waits (List.subset_append_right _ _) _ _ _ _)

/-- Where no slots are lost, only waits are counted. -/
theorem lostSlots_none (s : State) {w : LastAt} (hf : w.front = 0) (hb : w.back = 0) (user : Bool) :
    Aside waitRegs rd s (s.lostSlots w user 0) := by
  have hslots : (s.slotFront w.rack w.last user w.front.toNat).slotBack w.rack w.last user (w.back.toNat + 0) = s := by
    rw [hf, hb]
    rfl
  unfold State.lostSlots
  rw [hslots]
  exact waits (List.Subset.refl _) _ _ _ _

theorem fetchLast (s : State) (r : Nat) (y : Last) : Aside rs true s (s.fetchLast r y).2 := by
  have h := readWord (rs := rs) s (progAddr r (y.pc.toNat / 2)) 15 1
  unfold State.fetchLast
  split
  · exact .refl
  · split
    · next e =>
      rw [e] at h
      exact h
    · next e =>
      rw [e] at h
      exact h

theorem nextPtr (s : State) (y : Last) (n mode : Nat) : Aside rs rd s (s.nextPtr y n mode).2 := by
  unfold State.nextPtr
  split
  · exact .refl
  · split
    · exact .refl
    · exact free s

end Aside

/-! ## What the passing of an issue leaves of a last -/

/-- The registers of a last that only an instruction's own effect changes. -/
structure Last.Same (y z : Last) : Prop where
  d : z.d = y.d
  a : z.a = y.a
  t : z.t = y.t
  sr : z.sr = y.sr
  calls : z.calls = y.calls
  tpc : z.tpc = y.tpc
  tsr : z.tsr = y.tsr
  chi : z.chi = y.chi
  bus : z.bus = y.bus
  resp : z.resp = y.resp
  seen : z.seen = y.seen
  yielding : z.yielding = y.yielding
  yieldAt : z.yieldAt = y.yieldAt

theorem Last.Same.trans {x y z : Last} (h : x.Same y) (h' : y.Same z) : x.Same z :=
  ⟨h'.d.trans h.d, h'.a.trans h.a, h'.t.trans h.t, h'.sr.trans h.sr, h'.calls.trans h.calls, h'.tpc.trans h.tpc, h'.tsr.trans h.tsr,
    h'.chi.trans h.chi, h'.bus.trans h.bus, h'.resp.trans h.resp, h'.seen.trans h.seen, h'.yielding.trans h.yielding,
    h'.yieldAt.trans h.yieldAt⟩

/-- A late write lands in a pointer, a step, a length or a control register that is seen late. -/
theorem Last.land_eq (y : Last) (w : Late) : ∃ p q l am mu vbr, y.land w = { y with p := p, q := q, l := l, amode := am, mu := mu, vbr := vbr } := by
  unfold Last.land
  split
  all_goals exact ⟨_, _, _, _, _, _, rfl⟩

/-- The late writes that are still on their way after an issue. -/
def Last.lateNext (y : Last) : List Late := (y.late.map (fun w => { w with left := w.left - 1 })).filter (fun w => w.left != 0)

theorem Last.age_eq (y : Last) : ∃ p q l am mu vbr, y.age =
    { y with p := p, q := q, l := l, amode := am, mu := mu, vbr := vbr, late := y.lateNext } := by
  unfold Last.age
  refine List.foldlRecOn (motive := fun z => ∃ p q l am mu vbr, z =
    { y with p := p, q := q, l := l, amode := am, mu := mu, vbr := vbr, late := y.lateNext }) _ _ ?_ ?_
  · exact ⟨_, _, _, _, _, _, rfl⟩
  rintro z ⟨p, q, l, am, mu, vbr, rfl⟩ w -
  obtain ⟨_, _, _, _, _, _, e⟩ := Last.land_eq
    { y with p := p, q := q, l := l, amode := am, mu := mu, vbr := vbr, late := y.lateNext } w
  exact ⟨_, _, _, _, _, _, e⟩

/-- A write that two or more further instructions do not see is still on its way, one issue nearer. -/
theorem Last.mem_lateNext {y : Last} {n v : Nat} {g : LateReg} (h : ⟨n + 2, g, v⟩ ∈ y.late) : ⟨n + 1, g, v⟩ ∈ y.lateNext :=
  List.mem_filter.2 ⟨List.mem_map.2 ⟨_, h, rfl⟩, by simp⟩

theorem Last.advance_eq (y : Last) : ∃ ls c re pc, y.advance.1 = { y with loops := ls, cache := c, rep := re, pc := pc } := by
  unfold Last.advance
  split
  · exact ⟨_, _, _, _, rfl⟩
  · exact ⟨_, _, _, _, rfl⟩

theorem Last.fill_eq (y : Last) (pc : Nat) (w : W32) : ∃ c, y.fill pc w = { y with cache := c } := by
  unfold Last.fill
  split
  · split
    · exact ⟨_, rfl⟩
    · exact ⟨_, rfl⟩
  · exact ⟨_, rfl⟩

/-- The last after a completed instruction: late writes have come nearer, and the watchdog has counted it. -/
def Last.past (y : Last) (i : LInstr) : Last :=
  if i.isNop then y.age else { y.age with retired := if i.feeds then 0 else y.age.retired + 1 }

theorem Last.past_eq (y : Last) (i : LInstr) : ∃ p q l am mu vbr n, y.past i =
    { y with p := p, q := q, l := l, amode := am, mu := mu, vbr := vbr, late := y.lateNext, retired := n } := by
  obtain ⟨_, _, _, _, _, _, e⟩ := y.age_eq
  unfold Last.past
  rw [e]
  split
  · exact ⟨_, _, _, _, _, _, _, rfl⟩
  · exact ⟨_, _, _, _, _, _, _, rfl⟩

theorem Last.retired_past {i : LInstr} (y : Last) (hf : i.feeds = true) : (y.past i).retired = 0 := by
  have hn : i.isNop = false := by
    cases i <;> first | rfl | cases hf
  rw [Last.past, hn, hf]
  rfl

/-! ## The end of an issue -/

variable {user : Bool} {i : LInstr} {c : Issued}

theorem Aside.complete (s : State) (r l : Nat) (user : Bool) (i : LInstr) (y : Last) :
    Aside lastRegs rd (s.setLast r l (y.past i)) (s.complete r l user i y) := by
  unfold State.complete Last.past
  extract_lets z
  split
  · exact slot _ _ _ _ _ _
  · exact slot _ _ _ _ _ _

/-- The end of an instruction that has completed, up to the counting. -/
theorem Aside.completed (s : State) (r l : Nat) (user : Bool) (i : LInstr) (c : Issued) (y : Last) :
    Aside lastRegs rd (s.setLast r l (y.past i)) ((s.countIssue r l c).complete r l user i y) :=
  ((countIssue s r l c).setLast _).trans (complete _ r l user i y)

theorem Aside.settle_done (s : State) (y : Last) :
    Aside lastRegs rd (s.setLast r l ((y.remember i c).advance.1.past i)) (State.settle r l user i c (.done y s)) :=
  (completed s r l user i c _).trans (slot _ _ _ _ _ _)

theorem Aside.settle_goto (s : State) (y : Last) (pc : Nat) :
    Aside lastRegs rd (s.setLast r l (Last.past { y.remember i c with pc := BitVec.ofNat 14 pc, rep := none } i))
      (State.settle r l user i c (.goto pc y s)) :=
  (completed s r l user i c _).trans (slot _ _ _ _ _ _)

theorem Aside.settle_skip (s : State) (y : Last) (pc : Nat) :
    Aside lastRegs rd (s.setLast r l (Last.past { y.remember i c with pc := BitVec.ofNat 14 pc } i))
      (State.settle r l user i c (.skip pc y s)) :=
  completed s r l user i c _

/-- What the end of an issue leaves, from the state and the last that the instruction's effect gave. -/
structure Passed (w : LastAt) (i : LInstr) (s : State) (y : Last) (t : State) : Prop where
  same : y.Same (t.last w.rack w.last)
  late : ∀ n g v, ⟨n + 2, g, v⟩ ∈ y.late → ⟨n + 1, g, v⟩ ∈ (t.last w.rack w.last).late
  fed : i.feeds = true → (t.last w.rack w.last).retired = 0
  word : ∀ a, t.word a = s.word a
  racks : ∀ r, (t.rackOf r).core = (s.rackOf r).core

/-- A completed instruction, whose last goes on as `z`. -/
theorem Passed.of_aside {w : LastAt} {y z : Last} {i : LInstr} (h : Aside lastRegs false (s.setLast w.rack w.last (z.past i)) t)
    (hs : y.Same z) (hl : z.late = y.late) : Passed w i s y t := by
  have hlast : t.last w.rack w.last = z.past i := by rw [h.last_eq, State.last_setLast_self]
  obtain ⟨_, _, _, _, _, _, _, e⟩ := z.past_eq i
  refine ⟨?same, ?late, ?fed, fun a => h.word_eq a, fun r => h.racks r⟩
  case same =>
    rw [hlast, e]
    exact hs.trans ⟨rfl, rfl, rfl, rfl, rfl, rfl, rfl, rfl, rfl, rfl, rfl, rfl, rfl⟩
  case late =>
    intro n g v hm
    rw [hlast, e]
    exact Last.mem_lateNext (hl ▸ hm)
  case fed =>
    intro hf
    rw [hlast]
    exact z.retired_past hf

variable {w : LastAt} {y : Last}

theorem passed_done (s : State) (y : Last) : Passed w i s y (State.settle w.rack w.last user i c (.done y s)) := by
  obtain ⟨_, _, _, _, e⟩ := (y.remember i c).advance_eq
  refine .of_aside (Aside.settle_done s y) ?_ ?_
  · rw [e]
    exact ⟨rfl, rfl, rfl, rfl, rfl, rfl, rfl, rfl, rfl, rfl, rfl, rfl, rfl⟩
  · rw [e]
    rfl

theorem passed_goto (s : State) (y : Last) (pc : Nat) : Passed w i s y (State.settle w.rack w.last user i c (.goto pc y s)) :=
  .of_aside (Aside.settle_goto s y pc) ⟨rfl, rfl, rfl, rfl, rfl, rfl, rfl, rfl, rfl, rfl, rfl, rfl, rfl⟩ rfl

theorem passed_skip (s : State) (y : Last) (pc : Nat) : Passed w i s y (State.settle w.rack w.last user i c (.skip pc y s)) :=
  .of_aside (Aside.settle_skip s y pc) ⟨rfl, rfl, rfl, rfl, rfl, rfl, rfl, rfl, rfl, rfl, rfl, rfl, rfl⟩ rfl

/-- Where a last goes on: its PC, its loops and the issues left of a repeated instruction. -/
structure GoesOn (w : LastAt) (pc : Nat) (ls : List LoopFrame) (n : Option Nat) (t : State) : Prop where
  pc : (t.last w.rack w.last).pc = BitVec.ofNat 14 pc
  loops : (t.last w.rack w.last).loops = ls
  rep : (t.last w.rack w.last).rep = n

theorem GoesOn.of_aside {z : Last} {n : Nat} (h : Aside lastRegs false (s.setLast w.rack w.last (z.past i)) t)
    (hp : z.pc = BitVec.ofNat 14 n) : GoesOn w n z.loops z.rep t := by
  have hlast : t.last w.rack w.last = z.past i := by rw [h.last_eq, State.last_setLast_self]
  obtain ⟨_, _, _, _, _, _, _, e⟩ := z.past_eq i
  rw [e] at hlast
  exact ⟨by rw [hlast]; exact hp, by rw [hlast], by rw [hlast]⟩

theorem goesOn_goto (s : State) (y : Last) (pc : Nat) :
    GoesOn w pc y.loops none (State.settle w.rack w.last user i c (.goto pc y s)) := 
  GoesOn.of_aside (z := { y.remember i c with pc := BitVec.ofNat 14 pc, rep := none }) (Aside.settle_goto s y pc) rfl

theorem goesOn_skip (s : State) (y : Last) (pc : Nat) :
    GoesOn w pc y.loops y.rep (State.settle w.rack w.last user i c (.skip pc y s)) := 
  GoesOn.of_aside (z := { y.remember i c with pc := BitVec.ofNat 14 pc }) (Aside.settle_skip s y pc) rfl

/-! ## The start of an issue -/

/-- What the interlocks and the tag record keep of the instruction that a last issues. -/
def State.issuedAs (s : State) (w : LastAt) (i : LInstr) : Issued :=
  let y := s.last w.rack w.last
  { pc := y.pc.toNat, user := !y.super, lcache := y.cache.any (fun c => c.1 == y.pc.toNat), cls := i.cls }

/-- The last as the effect of its instruction finds it. -/
def State.filled (s : State) (w : LastAt) (word : W32) : Last := (s.last w.rack w.last).fill (s.last w.rack w.last).pc.toNat word

/-- The state in which the effect of an instruction takes place: the word is fetched, lost slots and waits are counted. -/
def State.entered (s : State) (w : LastAt) (word : W32) (i : LInstr) : State :=
  let y := s.last w.rack w.last
  ((s.fetchLast w.rack y).2.lostSlots w (!y.super) (y.interlock i)).setLast w.rack w.last (s.filled w word)

theorem State.filled_eq (s : State) (w : LastAt) (word : W32) : ∃ c, s.filled w word = { s.last w.rack w.last with cache := c } :=
  Last.fill_eq _ _ _

theorem aside_entered (s : State) (w : LastAt) (word : W32) (i : LInstr) :
    Aside lastRegs true (s.setLast w.rack w.last (s.filled w word)) (s.entered w word i) :=
  Aside.setLast ((Aside.fetchLast s _ _).trans (Aside.lostSlots _ w _ _)) _

theorem last_entered (s : State) (w : LastAt) (word : W32) (i : LInstr) :
    (s.entered w word i).last w.rack w.last = s.filled w word := State.last_setLast_self _ _ _ _

variable {word : W32} {pick : LInstr → Option Body} {body : Body}

/-- A last issues an instruction of the command's kind. -/
theorem State.issue_eq (h : Issuing s w word) (hd : decodeLast word = some i) (hp : pick i = some body)
    (hr : (s.last w.rack w.last).rep = none ∨ i.cls ≠ 3) :
    s.issue w pick = State.settle w.rack w.last (!(s.last w.rack w.last).super) i (s.issuedAs w i)
      (body (s.entered w word i) (s.filled w word)) := by
  obtain ⟨hissues, hmode, hfetch⟩ := h
  have huser : ¬ ((!(s.last w.rack w.last).super) = true ∧ (s.last w.rack w.last).pc.toNat < 2048) := by
    rintro ⟨hu, hlow⟩
    obtain hs | hs := hmode
    · simp [hs] at hu
    · omega
  have hrep : ¬ ((s.filled w word).rep.isSome = true ∧ i.cls = 3) := by
    obtain ⟨c, e⟩ := s.filled_eq w word
    rintro ⟨hsome, hcls⟩
    obtain hr | hr := hr
    · rw [e, hr] at hsome
      cases hsome
    · exact hr hcls
  unfold State.issue State.entered
  rw [if_neg (by rw [hissues]; decide)]
  rcases hf : s.fetchLast w.rack (s.last w.rack w.last) with ⟨x, s1⟩
  rw [hf] at hfetch
  obtain rfl : x = some word := hfetch
  simp only [huser, if_false, hf, hd, hp]
  rw [show (s.last w.rack w.last).fill (s.last w.rack w.last).pc.toNat word = s.filled w word from rfl, if_neg hrep]
  rfl

section

variable {cmd : Instr} {P : State → Prop} {s' : State} {z : Last} (he : Machine.exec cmd s = .next (s.issue w pick)) (h : Issuing s w word)
  (hd : decodeLast word = some i) (hp : pick i = some body) (hr : (s.last w.rack w.last).rep = none ∨ i.cls ≠ 3)
include he h hd hp hr

theorem completes_of_issue_done (hb : body (s.entered w word i) (s.filled w word) = .done z s')
    (hP : ∀ t, Passed w i s' z t → P t) : Completes cmd s P :=
  ⟨_, he, hP _ (by rw [State.issue_eq h hd hp hr, hb]; exact passed_done s' z)⟩

theorem completes_of_issue_goto {pc : Nat} (hb : body (s.entered w word i) (s.filled w word) = .goto pc z s')
    (hP : ∀ t, Passed w i s' z t → GoesOn w pc z.loops none t → P t) : Completes cmd s P := by
  refine ⟨_, he, ?_⟩
  rw [State.issue_eq h hd hp hr, hb]
  exact hP _ (passed_goto s' z pc) (goesOn_goto s' z pc)

theorem completes_of_issue_skip {pc : Nat} (hb : body (s.entered w word i) (s.filled w word) = .skip pc z s')
    (hP : ∀ t, Passed w i s' z t → GoesOn w pc z.loops z.rep t → P t) : Completes cmd s P := by
  refine ⟨_, he, ?_⟩
  rw [State.issue_eq h hd hp hr, hb]
  exact hP _ (passed_skip s' z pc) (goesOn_skip s' z pc)

end

/-! ## Operands (R113, R115) -/

/-- An operand code of a last delivers the value: a data register holds it, or the location at the pointer, which the last may
read, delivers it. -/
def State.Delivers (s : State) (w : LastAt) (y : Last) (code : Nat) (v : W24) : Prop :=
  (code < 8 ∧ v = y.D code) ∨
  (8 ≤ code ∧ y.protects (y.P (code - 8)) = false ∧
    ∃ d, s.Holds (dataAddr w.rack w.last (decide (4 ≤ code - 8)) (y.P (code - 8))) d ∧ v = d.setWidth 24)

theorem State.delivers_of_operandValue {code : Nat} {v : W24} (h : s.operandValue w code = some v) :
    s.Delivers w (s.last w.rack w.last) code v := by
  simp only [State.operandValue] at h
  split at h
  · next hc => exact .inl ⟨hc, (Option.some.inj h).symm⟩
  · next hc =>
    have hy : decide (12 ≤ code) = decide (4 ≤ code - 8) := by simp only [decide_eq_decide]; omega
    rw [hy] at h
    split at h
    · cases h
    · next hprot =>
      refine .inr ⟨by omega, by simpa using hprot, ?_⟩
      split at h
      · next d hd => exact ⟨d, .inl hd, (Option.some.inj h).symm⟩
      · next d hd => exact ⟨d, .inr hd, (Option.some.inj h).symm⟩
      · cases h

/-- A location that delivers data is read, whatever has been counted since. -/
theorem State.readAt_of_holds {n : Nat} {d : W64} (hprot : y.protects (y.P n) = false)
    (h : s.Holds (dataAddr w.rack w.last (decide (4 ≤ n)) (y.P n)) d) :
    ∃ s', s.readAt w.rack w.last y n = (.ok (d.setWidth 24), s') ∧ Aside rs true s s' := by
  have hv := State.readWord_of_holds h 15 1
  have ha := Aside.readWord (rs := rs) s (dataAddr w.rack w.last (decide (4 ≤ n)) (y.P n)) 15 1
  unfold State.readAt
  rw [hprot]
  split
  · next e =>
    simp only [Bool.false_eq_true] at e
  · split
    · next e =>
      rw [e] at hv ha
      cases hv
      exact ⟨_, rfl, ha⟩
    · next e =>
      rw [e] at hv
      cases hv

theorem State.operand_of_delivers {code modx mody : Nat} {v : W24} (h : s.Delivers w y code v) :
    ∃ y' s', s.operand w.rack w.last y code modx mody = (.ok (v, y'), s') ∧ Aside rs true s s' ∧
      (y' = y ∨ ∃ p, 8 ≤ code ∧ y' = y.setP (code - 8) p) := by
  obtain ⟨hc, rfl⟩ | ⟨hc, hprot, d, hd, rfl⟩ := h
  · exact ⟨y, s, if_pos hc, .refl, .inl rfl⟩
  · obtain ⟨s', e, ha⟩ := State.readAt_of_holds (rs := rs) hprot hd
    refine ⟨y.setP (code - 8) (s'.nextPtr y (code - 8) (if code - 8 < 4 then modx else mody)).1, _, ?_,
      ha.trans (Aside.nextPtr s' y (code - 8) (if code - 8 < 4 then modx else mody)), .inr ⟨_, hc, rfl⟩⟩
    unfold State.operand
    rw [if_neg (by omega)]
    simp only [e]

/-- A step of a pointer leaves what another operand delivers. -/
theorem State.Delivers.setP {c c' p : Nat} {v : W24} (h : s.Delivers w y c v) (hc' : 8 ≤ c') (hne : c' ≠ c) :
    s.Delivers w (y.setP (c' - 8) p) c v := by
  obtain h | ⟨hc, hprot, hd⟩ := h
  · exact .inl h
  · have hp : (y.setP (c' - 8) p).P (c - 8) = y.P (c - 8) := by
      unfold Last.P Last.setP
      rw [List.getD_eq_getElem?_getD, List.getElem?_set_ne (by omega), List.getD_eq_getElem?_getD]
    refine .inr ⟨hc, ?_, ?_⟩
    · rw [hp]
      exact hprot
    · rw [hp]
      exact hd

theorem State.Delivers.aside {c : Nat} {v : W24} (h : s.Delivers w y c v) (ha : Aside rs rd s t) : t.Delivers w y c v := by
  obtain h | ⟨hc, hprot, d, hd, hv⟩ := h
  · exact .inl h
  · exact .inr ⟨hc, hprot, d, ha.holds _ d hd, hv⟩

/-- Both operands are read, and only pointers have changed. -/
theorem State.operands_of_delivers {s1 s2 modx mody : Nat} {v1 v2 : W24} (h1 : s.Delivers w y s1 v1) (h2 : s.Delivers w y s2 v2) :
    ∃ p s', s.operands w.rack w.last y s1 s2 modx mody = (.ok (v1, v2, { y with p := p }), s') ∧ Aside rs true s s' := by
  obtain ⟨y1, t1, e1, ha1, hy1⟩ := State.operand_of_delivers (rs := rs) (modx := modx) (mody := mody) h1
  have hp1 : ∃ p, y1 = { y with p := p } := by
    obtain rfl | ⟨p, -, rfl⟩ := hy1
    · exact ⟨_, rfl⟩
    · exact ⟨_, rfl⟩
  unfold State.operands
  simp only [e1]
  by_cases hs : s1 = s2
  · have hv : v1 = v2 := by
      rw [← hs] at h2
      obtain ⟨_, _, e1', -⟩ := State.operand_of_delivers (rs := rs) (modx := modx) (mody := mody) h2
      rw [e1] at e1'
      cases e1'
      rfl
    obtain ⟨p, rfl⟩ := hp1
    exact ⟨p, t1, by rw [if_pos hs, hv], ha1⟩
  · have h2' : t1.Delivers w y1 s2 v2 := by
      refine State.Delivers.aside ?_ ha1
      obtain rfl | ⟨p, hc, rfl⟩ := hy1
      · exact h2
      · exact h2.setP hc hs
    obtain ⟨y2, t2, e2, ha2, hy2⟩ := State.operand_of_delivers (rs := rs) (modx := modx) (mody := mody) h2'
    rw [if_neg hs]
    simp only [e2]
    obtain ⟨p, rfl⟩ := hp1
    obtain rfl | ⟨p', -, rfl⟩ := hy2
    · exact ⟨_, _, rfl, ha1.trans ha2⟩
    · exact ⟨_, _, rfl, ha1.trans ha2⟩

end Sys2Proof.Machine

/-!
PROOFS. The ARITH instructions of a last (O1, O2).
-/

namespace Sys2Proof.Machine

open Host

variable {s t : State} {w : LastAt} {word : W32}

/-- The flags of an accumulator result change SR alone, from what SR held. -/
theorem Last.accFlags_eq (y : Last) (x : Int) : y.accFlags x = { y with sr := (({ sr := y.sr } : Last).accFlags x).sr } := by
  unfold Last.accFlags Last.stick
  extract_lets
  split
  · rfl
  · rfl

theorem Last.sr_accFlags_congr {y z : Last} (h : y.sr = z.sr) (x : Int) : (y.accFlags x).sr = (z.accFlags x).sr := by
  rw [Last.accFlags_eq, Last.accFlags_eq z, h]

/-- The last that an ARITH instruction leaves: the result enters the accumulator where `keep` says so, its flags enter SR, and CAP
writes a data register. -/
theorem Last.arith_eq (y : Last) (keep cap : Bool) (a cd : Nat) (x : Int) (v : W24) :
    (let z := if keep then y.putAcc a x else y.accFlags x
     if cap then z.setD cd v else z) =
    { y with a := if keep then y.a.set a (BitVec.ofInt 56 (accSat x)) else y.a, sr := (y.accFlags x).sr,
             d := if cap then y.d.set cd v else y.d } := by
  have hacc : (y.setA a (BitVec.ofInt 56 (accSat x))).accFlags x =
      { y with a := y.a.set a (BitVec.ofInt 56 (accSat x)), sr := (y.accFlags x).sr } := by
    rw [Last.accFlags_eq, Last.sr_accFlags_congr (y := y) (z := { sr := y.sr }) rfl]
    rfl
  have hflags : y.accFlags x = { y with sr := (y.accFlags x).sr } := by
    rw [Last.sr_accFlags_congr (y := y) (z := { sr := y.sr }) rfl]
    exact Last.accFlags_eq y x
  unfold Last.putAcc
  rw [hacc]
  cases keep
  · rw [if_neg Bool.false_ne_true, hflags]
    cases cap
    · rfl
    · rfl
  · cases cap
    · rfl
    · rfl

/-- The operands of an issuing instruction deliver what they hold before the issue. -/
theorem operands_entered {s1 s2 modx mody : Nat} {v1 v2 : W24} (i : LInstr) (h1 : s.operandValue w s1 = some v1)
    (h2 : s.operandValue w s2 = some v2) (word : W32) : ∃ c p s',
      (s.entered w word i).operands w.rack w.last (s.filled w word) s1 s2 modx mody =
        (.ok (v1, v2, { s.last w.rack w.last with cache := c, p := p }), s') := by
  obtain ⟨c, hc⟩ := s.filled_eq w word
  have hdel {n : Nat} {v : W24} (hv : s.operandValue w n = some v) :
      (s.entered w word i).Delivers w { s.last w.rack w.last with cache := c } n v :=
    State.Delivers.aside (s := s.setLast w.rack w.last (s.filled w word)) (State.delivers_of_operandValue hv) (aside_entered s w word i)
  obtain ⟨p, s', hops, -⟩ := State.operands_of_delivers (rs := lastRegs) (modx := modx) (mody := mody) (hdel h1) (hdel h2)
  exact ⟨c, p, s', by rw [hc, hops]⟩

/-- An ARITH instruction whose operands deliver: its accumulator, SR and CAP. -/
theorem completes_of_arith {cmd : Instr} {op a s1 s2 modx mody cd : Nat} {cap keep : Bool} {f : Int → Int → Int → Int → Int} {v1 v2 : W24}
    (he : Machine.exec cmd s = .next (s.issue w (arithBody w.rack w.last op f keep))) (h : Issuing s w word)
    (hd : decodeLast word = some (.arith op a s1 s2 modx mody cap cd)) (h1 : s.operandValue w s1 = some v1)
    (h2 : s.operandValue w s2 = some v2) : Completes cmd s fun t =>
      let y := s.last w.rack w.last
      let x := f (y.A a).toInt v1.toInt v2.toInt y.mu.toInt
      (t.last w.rack w.last).a = (if keep then y.a.set a (BitVec.ofInt 56 (accSat x)) else y.a) ∧
      (t.last w.rack w.last).sr = (y.accFlags x).sr ∧
      (t.last w.rack w.last).d = if cap then y.d.set cd v1 else y.d := by
  obtain ⟨c, p, s', hops⟩ := operands_entered (modx := modx) (mody := mody) (.arith op a s1 s2 modx mody cap cd) h1 h2 word
  refine completes_of_issue_done he h hd (if_neg (fun hne => hne rfl)) (.inr (by simp [LInstr.cls]))
    (by simp only [hops]; exact congrArg (LOut.done · s') (Last.arith_eq _ keep cap a cd _ v1)) fun t ht => ?_
  obtain ⟨hsd, hsa, -, hssr, -⟩ := ht.same
  intro y x
  exact ⟨hsa, hssr.trans (Last.sr_accFlags_congr (y := { y with cache := c, p := p }) (z := y) rfl x), hsd⟩

/-- Settles O1, each clause by `completes_of_arith`. -/
theorem lastArithmeticResults : Obligations.LastArithmeticResults := by
  unfold Obligations.LastArithmeticResults
  refine ⟨?_, ?_, ?_, ?_, ?_, ?_, ?_⟩
  · exact fun w s word a s1 s2 modx mody cap cd v1 v2 h hd h1 h2 => (completes_of_arith (cmd := .mpy w) rfl h hd h1 h2 :)
  · exact fun w s word a s1 s2 modx mody cap cd v1 v2 h hd h1 h2 => (completes_of_arith (cmd := .mac w) rfl h hd h1 h2 :)
  · exact fun w s word a s1 s2 modx mody cap cd v1 v2 h hd h1 h2 => (completes_of_arith (cmd := .msu w) rfl h hd h1 h2 :)
  · exact fun w s word a s1 s2 modx mody cap cd v1 v2 h hd h1 h2 => (completes_of_arith (cmd := .add w) rfl h hd h1 h2 :)
  · exact fun w s word a s1 s2 modx mody cap cd v1 v2 h hd h1 h2 => (completes_of_arith (cmd := .sub w) rfl h hd h1 h2 :)
  · exact fun w s word a s1 s2 modx mody cap cd v1 v2 h hd h1 h2 => (completes_of_arith (cmd := .clr w) rfl h hd h1 h2 :)
  · exact fun w s word a s1 s2 modx mody cap cd v1 v2 h hd h1 h2 => (completes_of_arith (cmd := .tfr w) rfl h hd h1 h2 :)

/-- Settles O2: NOP alone has an effect of its own; the others are clauses of `completes_of_arith`. -/
theorem lastShiftAndSignResults : Obligations.LastShiftAndSignResults := by
  unfold Obligations.LastShiftAndSignResults
  refine ⟨?_, ?_, ?_, ?_, ?_, ?_, ?_, ?nop⟩
  · exact fun w s word a s1 s2 modx mody cap cd v1 v2 h hd h1 h2 => (completes_of_arith (cmd := .asr w) rfl h hd h1 h2 :)
  · exact fun w s word a s1 s2 modx mody cap cd v1 v2 h hd h1 h2 => (completes_of_arith (cmd := .asl w) rfl h hd h1 h2 :)
  · exact fun w s word a s1 s2 modx mody cap cd v1 v2 h hd h1 h2 => (completes_of_arith (cmd := .abs w) rfl h hd h1 h2 :)
  · exact fun w s word a s1 s2 modx mody cap cd v1 v2 h hd h1 h2 => (completes_of_arith (cmd := .neg w) rfl h hd h1 h2 :)
  · exact fun w s word a s1 s2 modx mody cap cd v1 v2 h hd h1 h2 => (completes_of_arith (cmd := .cmp w) rfl h hd h1 h2 :)
  · exact fun w s word a s1 s2 modx mody cap cd v1 v2 h hd h1 h2 => (completes_of_arith (cmd := .macss w) rfl h hd h1 h2 :)
  · exact fun w s word a s1 s2 modx mody cap cd v1 v2 h hd h1 h2 => (completes_of_arith (cmd := .macsgn w) rfl h hd h1 h2 :)
  case nop =>
    intro w s word a s1 s2 modx mody cap cd v1 v2 h hd h1 h2
    obtain ⟨c, p, s', hops⟩ := operands_entered (modx := modx) (mody := mody) (.arith 0 a s1 s2 modx mody cap cd) h1 h2 word
    refine completes_of_issue_done rfl h hd rfl (.inr (by simp [LInstr.cls])) (by simp only [hops]; rfl) fun t ht => ?_
    obtain ⟨hsd, hsa, -, hssr, -⟩ := ht.same
    rw [hsd, hsa, hssr]
    cases cap
    · exact ⟨rfl, rfl, rfl⟩
    · exact ⟨rfl, rfl, rfl⟩

end Sys2Proof.Machine

/-!
PROOFS. The ACC instructions of a last (O3).
-/

namespace Sys2Proof.Machine

open Host

variable {s t : State} {w : LastAt} {word : W32} {i : LInstr} {y : Last}

/-- An instruction whose effect is on the last alone. -/
theorem completes_of_effect {cmd : Instr} {pick : LInstr → Option Body} {body : Body} {P : State → Prop}
    (he : Machine.exec cmd s = .next (s.issue w pick)) (h : Issuing s w word) (hd : decodeLast word = some i) (hp : pick i = some body)
    (hr : (s.last w.rack w.last).rep = none ∨ i.cls ≠ 3) (f : Last → Last) (hb : ∀ x y, body x y = .done (f y) x)
    (hP : ∀ c t, (f { s.last w.rack w.last with cache := c }).Same (t.last w.rack w.last) → P t) : Completes cmd s P := by
  obtain ⟨c, hc⟩ := s.filled_eq w word
  exact completes_of_issue_done he h hd hp hr (hb _ _) fun t ht => hP c t (hc ▸ ht.same)

/-- An instruction whose effect is on the last alone, with an open value. -/
theorem completes_of_open {cmd : Instr} {pick : LInstr → Option Body} {body : Body} {P : State → Prop}
    (he : Machine.exec cmd s = .next (s.issue w pick)) (h : Issuing s w word) (hd : decodeLast word = some i) (hp : pick i = some body)
    (hr : (s.last w.rack w.last).rep = none ∨ i.cls ≠ 3) (f : Nat → Last → Last)
    (hb : ∀ x y, body x y = .done (f x.free.1 y) x.free.2)
    (hP : ∀ n c t, (f n { s.last w.rack w.last with cache := c }).Same (t.last w.rack w.last) → P t) : Completes cmd s P := by
  obtain ⟨c, hc⟩ := s.filled_eq w word
  exact completes_of_issue_done he h hd hp hr (hb _ _) fun t ht => hP _ c t (hc ▸ ht.same)

theorem Last.putAcc_eq (y : Last) (k : Nat) (x : Int) : y.putAcc k x =
    { y with a := y.a.set k (BitVec.ofInt 56 (accSat x)), sr := (y.accFlags x).sr } := Last.arith_eq y true false k 0 x 0

theorem Last.a_putAcc (y : Last) (k : Nat) (x : Int) : (y.putAcc k x).a = y.a.set k (BitVec.ofInt 56 (accSat x)) := by
  rw [Last.putAcc_eq]

theorem Last.sr_putAcc (y : Last) (k : Nat) (x : Int) : (y.putAcc k x).sr = (y.accFlags x).sr := by
  rw [Last.putAcc_eq]

theorem Last.sr_accFlags_cache (y : Last) (c : List (Nat × W32)) (x : Int) :
    (Last.accFlags { y with cache := c } x).sr = (y.accFlags x).sr :=
  Last.sr_accFlags_congr (y := { y with cache := c }) (z := y) rfl x

/-! ## Stores of an accumulator (R112) -/

theorem Last.stick_eq (y : Last) (n : Nat) (b : Bool) : y.stick n b = { y with sr := if b then putBit24 y.sr n true else y.sr } := by
  cases b
  · rfl
  · rfl

/-- The 24-bit value that a store of an accumulator gives. -/
def storedWord (x : W56) (low : Bool) : W24 := BitVec.ofInt 24 (satSigned 24 (storeValue x low))

/-- SR after a store of an accumulator. -/
def storedSr (sr : W24) (x : W56) (low : Bool) : W24 := (({ sr := sr, a := [x] } : Last).stored 0 low).2.sr

theorem Last.stored_eq (y : Last) (k : Nat) (low : Bool) :
    y.stored k low = (storedWord (y.A k) low, { y with sr := storedSr y.sr (y.A k) low }) := by
  unfold storedSr Last.stored
  simp only [Last.stick_eq]
  rfl

/-- Another bit of SR than the one written. -/
theorem getLsbD_putBit24_ne {n m : Nat} (h : m ≠ n) (hm : m < 24) (v : W24) (b : Bool) : (putBit24 v n b).getLsbD m = v.getLsbD m := by
  have hbit : ((1 <<< n : Nat) : W24).getLsbD m = false := by
    have htest : (1 <<< n).testBit m = false := by
      rw [Nat.one_shiftLeft, Nat.testBit_two_pow]
      exact decide_eq_false (Ne.symm h)
    exact (BitVec.getLsbD_ofNat _ _ _).trans (by rw [htest, Bool.and_false])
  have hkeep : (v &&& ~~~ (1 <<< n : W24)).getLsbD m = v.getLsbD m := by
    rw [BitVec.getLsbD_and, BitVec.getLsbD_not, hbit, decide_eq_true hm, Bool.not_false, Bool.and_true, Bool.and_true]
  unfold putBit24
  rw [BitVec.getLsbD_or, hkeep]
  cases b
  · exact (congrArg _ (BitVec.getLsbD_zero)).trans (Bool.or_false _)
  · exact (congrArg _ hbit).trans (Bool.or_false _)

/-- A store of an accumulator does not change the mode, nor so what the last may reach. -/
theorem protects_storedSr (y : Last) (x : W56) (low : Bool) (a : Nat) :
    Last.protects { y with sr := storedSr y.sr x low } a = y.protects a := by
  have hbit : (storedSr y.sr x low).getLsbD 8 = y.sr.getLsbD 8 := by
    unfold storedSr Last.stored Last.stick
    extract_lets
    have hput (z : Last) (n : Nat) (h : 8 ≠ n) (b : Bool) : (z.putSr n b).sr.getLsbD 8 = z.sr.getLsbD 8 :=
      getLsbD_putBit24_ne h (by decide) _ _
    have hflags (z : Last) (v : W24) : (z.flags24 v).sr.getLsbD 8 = z.sr.getLsbD 8 := by
      unfold Last.flags24
      rw [hput _ _ (by decide), hput _ _ (by decide), hput _ _ (by decide)]
    split
    · exact (hput _ _ (by decide) _).trans (hflags _ _)
    · exact hflags _ _
  unfold Last.protects Last.super
  rw [hbit]

/-- What the last keeps when the loop cache is filled. -/
theorem State.A_filled (s : State) (w : LastAt) (word : W32) (n : Nat) : (s.filled w word).A n = (s.last w.rack w.last).A n := by
  obtain ⟨c, hc⟩ := s.filled_eq w word
  rw [hc]
  rfl

theorem State.D_filled (s : State) (w : LastAt) (word : W32) (n : Nat) : (s.filled w word).D n = (s.last w.rack w.last).D n := by
  obtain ⟨c, hc⟩ := s.filled_eq w word
  rw [hc]
  rfl

theorem State.P_filled (s : State) (w : LastAt) (word : W32) (n : Nat) : (s.filled w word).P n = (s.last w.rack w.last).P n := by
  obtain ⟨c, hc⟩ := s.filled_eq w word
  rw [hc]
  rfl

theorem State.protects_filled (s : State) (w : LastAt) (word : W32) (n : Nat) :
    (s.filled w word).protects n = (s.last w.rack w.last).protects n := by
  obtain ⟨c, hc⟩ := s.filled_eq w word
  rw [hc]
  rfl

theorem State.same_filled (s : State) (w : LastAt) (word : W32) : (s.last w.rack w.last).Same (s.filled w word) := by
  obtain ⟨c, hc⟩ := s.filled_eq w word
  rw [hc]
  exact ⟨rfl, rfl, rfl, rfl, rfl, rfl, rfl, rfl, rfl, rfl, rfl, rfl, rfl⟩

/-! ## The location at a pointer (R113) -/

theorem Aside.writeWord_untrack (s : State) (a : Nat) (d : W64) : Aside [] false (s.setWord a (protect d)) (s.writeWord a d) := by
  unfold State.writeWord
  extract_lets x
  split
  · exact Aside.untrack _ _ _
  · exact .refl

theorem State.word_writeWord_self (s : State) (a : Nat) (d : W64) : (s.writeWord a d).word a = protect d := by
  rw [(Aside.writeWord_untrack s a d).word_eq, State.word_setWord, if_pos rfl]

/-- A location that the last may reach is written, and its pointer steps. -/
theorem State.writeAtPtr_of_open {n mode : Nat} (h : y.protects (y.P n) = false) (v : W24) : ∃ p s',
    s.writeAtPtr w.rack w.last y n mode v = (.ok { y with p := p }, s') ∧
      s'.word (dataAddr w.rack w.last (decide (4 ≤ n)) (y.P n)) = protect (locWord v) := by
  unfold State.writeAtPtr
  rw [if_neg (by rw [h]; exact Bool.false_ne_true)]
  extract_lets x
  have hptr : Aside [] false x (x.nextPtr y n mode).2 := Aside.nextPtr _ _ _ _
  exact ⟨_, _, rfl, (hptr.word_eq _).trans (State.word_writeWord_self _ _ _)⟩

/-- A location that delivers data is loaded, and its pointer steps. -/
theorem readAt_entered {n : Nat} {v : W24} (i : LInstr) (h : s.operandValue w (8 + n) = some v) (word : W32) : ∃ s',
    (s.entered w word i).readAt w.rack w.last (s.filled w word) n = (.ok v, s') := by
  obtain ⟨c, hc⟩ := s.filled_eq w word
  obtain ⟨hlt, -⟩ | ⟨-, hprot, d, hd, rfl⟩ := State.delivers_of_operandValue h
  · omega
  · rw [Nat.add_sub_cancel_left] at hprot hd
    have hd' := (aside_entered s w word i).holds _ d hd
    obtain ⟨s', e, -⟩ := State.readAt_of_holds (rs := []) (y := { s.last w.rack w.last with cache := c }) hprot hd'
    exact ⟨s', by rw [hc, e]⟩

/-! ## The statement -/

/-- Settles O3: each instruction but STM and MEM is an effect on the last alone; these write or read the location at their pointer. -/
theorem lastAccumulatorClassResults : Obligations.LastAccumulatorClassResults := by
  unfold Obligations.LastAccumulatorClassResults
  refine ⟨?sta, ?stm, ?ldi, ?shift, ?movr, ?ext, ?logic, ?mem⟩
  case sta =>
    intro w s word a d low h hd
    refine completes_of_effect rfl h hd rfl (.inr (by simp [LInstr.cls])) (fun y => (y.stored a low).2.setD d (y.stored a low).1)
      (fun _ _ => rfl) fun c t ht => ?_
    obtain ⟨hsd, hsa, -, hssr, -⟩ := ht
    rw [hsd, hsa, hssr, Last.stored_eq, Last.stored_eq]
    exact ⟨rfl, rfl, rfl⟩
  case stm =>
    intro w s word a ptr mode low h hd hprot
    rcases hst : (s.filled w word).stored a low with ⟨v, z⟩
    have hparts := hst
    rw [Last.stored_eq, Prod.mk.injEq, s.A_filled, (s.same_filled w word).sr] at hparts
    obtain ⟨rfl, hz⟩ := hparts
    have hptr : z.P ptr = (s.last w.rack w.last).P ptr := by
      rw [← hz]
      exact s.P_filled w word ptr
    have hopen : z.protects (z.P ptr) = false := by
      rw [hptr, ← hz, ← (s.same_filled w word).sr]
      exact (protects_storedSr _ _ _ _).trans ((s.protects_filled w word _).trans hprot)
    obtain ⟨p, s', e, hword⟩ := State.writeAtPtr_of_open (s := s.entered w word (.stm a ptr mode low)) (w := w) (mode := mode) hopen
      (storedWord ((s.last w.rack w.last).A a) low)
    refine completes_of_issue_done rfl h hd rfl (.inr (by simp [LInstr.cls])) (by simp only [hst, e]; rfl) fun t ht => ?_
    rw [ht.word, ht.same.sr, ← hptr, Last.stored_eq]
    have hsr : z.sr = storedSr (s.last w.rack w.last).sr ((s.last w.rack w.last).A a) low := (congrArg Last.sr hz).symm
    exact ⟨hword, hsr⟩
  case ldi =>
    intro w s word d half value h hd
    refine completes_of_effect rfl h hd rfl (.inr (by simp [LInstr.cls])) _ (fun _ _ => rfl) fun c t ht => ?_
    exact ⟨ht.d, ht.sr⟩
  case shift =>
    intro w s word a right count h hd
    by_cases hcount : 55 < count
    · refine completes_of_open rfl h hd rfl (.inr (by simp [LInstr.cls])) (fun n y => y.putAcc a (signed 56 n))
        (fun _ _ => if_pos hcount) fun n c t ht => ?_
      refine ⟨fun hle => absurd hle (by omega), fun _ => ⟨signed 56 n, ?_⟩⟩
      rw [ht.a, ht.sr, Last.a_putAcc, Last.sr_putAcc]
      exact ⟨rfl, Last.sr_accFlags_cache _ c _⟩
    · refine completes_of_effect rfl h hd rfl (.inr (by simp [LInstr.cls]))
        (fun y => y.putAcc a (if right then floorShift (y.A a).toInt count else (y.A a).toInt * 2 ^ count)) (fun x y => ?_) fun c t ht => ?_
      · refine (if_neg hcount).trans ?_
        split
        · rfl
        · rfl
      · refine ⟨fun _ => ?_, fun hlt => absurd hlt hcount⟩
        rw [ht.a, ht.sr, Last.a_putAcc, Last.sr_putAcc]
        exact ⟨rfl, Last.sr_accFlags_cache _ c _⟩
  case movr =>
    intro w s word d src h hd
    by_cases hopen : 12 ≤ src ∧ src < 16
    · refine completes_of_open rfl h hd rfl (.inr (by simp [LInstr.cls])) (fun n y => y.setD d (BitVec.ofNat 24 n))
        (fun x y => (if_neg (by omega)).trans (if_pos hopen.2)) fun n c t ht => ?_
      exact ⟨by omega, fun _ _ => ⟨_, ht.d⟩, by omega, by omega, by omega⟩
    · refine completes_of_effect rfl h hd rfl (.inr (by simp [LInstr.cls]))
        (fun y => y.setD d (if src < 12 then y.t.getD src 0 else if src < 20 then (y.A (src - 16)).extractLsb' 23 24
          else if src < 24 then ((y.A (src - 20)).extractLsb' 47 9).signExtend 24 else y.D (src - 24))) (fun x y => ?_) fun c t ht => ?_
      · simp only
        split
        · rfl
        · rw [if_neg (by omega)]
          split
          · rfl
          · split
            · rfl
            · rfl
      · rw [ht.d]
        refine ⟨fun h1 => ?_, fun h1 h2 => absurd ⟨h1, h2⟩ hopen, fun h1 h2 => ?_, fun h1 h2 => ?_, fun h1 => ?_⟩
        · rw [if_pos h1]
          rfl
        · rw [if_neg (by omega), if_pos h2]
          rfl
        · rw [if_neg (by omega), if_neg (by omega), if_pos h2]
          rfl
        · rw [if_neg (by omega), if_neg (by omega), if_neg (by omega)]
          rfl
  case ext =>
    intro w s word dd ds pos width sgn h hd
    by_cases hopen : width = 0 ∨ 24 < pos + width
    · refine completes_of_open rfl h hd rfl (.inr (by simp [LInstr.cls]))
        (fun n y => (y.setD dd (BitVec.ofNat 24 n)).flags24 (BitVec.ofNat 24 n)) (fun x y => if_pos hopen) fun n c t ht => ?_
      exact ⟨fun h1 h2 => by omega, fun _ => ⟨_, ht.d, ht.sr⟩⟩
    · refine completes_of_effect rfl h hd rfl (.inr (by simp [LInstr.cls]))
        (fun y => (y.setD dd (extField (y.D ds) pos width sgn)).flags24 (extField (y.D ds) pos width sgn)) (fun x y => if_neg hopen)
        fun c t ht => ?_
      exact ⟨fun _ _ => ⟨ht.d, ht.sr⟩, fun h1 => absurd h1 hopen⟩
  case logic =>
    intro w s word dd ds op h hd hop
    refine completes_of_effect rfl h hd rfl (.inr (by simp [LInstr.cls])) _ (fun _ _ => rfl) fun c t ht => ?_
    rw [ht.d, ht.sr]
    match op, hop with
    | 0, _ => exact ⟨rfl, rfl⟩
    | 1, _ => exact ⟨rfl, rfl⟩
    | 2, _ => exact ⟨rfl, rfl⟩
    | 3, _ => exact ⟨rfl, rfl⟩
  case mem =>
    intro w s word store d ptr mode v h hd hprot hload
    cases store
    case false =>
      obtain ⟨s', e⟩ := readAt_entered (.mem false d ptr mode) (hload rfl) word
      refine completes_of_issue_done rfl h hd rfl (.inr (by simp [LInstr.cls])) (by simp only [e]; rfl) fun t ht => ?_
      rw [ht.same.d]
      exact congrArg (fun l => List.set l d v) (s.same_filled w word).d
    case true =>
      obtain ⟨p, s', e, hword⟩ := State.writeAtPtr_of_open (s := s.entered w word (.mem true d ptr mode)) (w := w) (mode := mode)
        (y := s.filled w word) (n := ptr) (by rw [s.P_filled, s.protects_filled, hprot]) ((s.filled w word).D d)
      refine completes_of_issue_done rfl h hd rfl (.inr (by simp [LInstr.cls])) (by simp only [if_true, e]; rfl) fun t ht => ?_
      rw [ht.word, ht.same.d, ← s.P_filled w word, ← s.D_filled w word]
      exact ⟨hword, (s.same_filled w word).d⟩

end Sys2Proof.Machine

/-!
PROOFS. The FLOW instructions of a last (O5).
-/

namespace Sys2Proof.Machine

open Host

variable {s t : State} {w : LastAt} {word : W32} {i : LInstr} {y : Last}

theorem State.loops_filled (s : State) (w : LastAt) (word : W32) : (s.filled w word).loops = (s.last w.rack w.last).loops := by
  obtain ⟨c, hc⟩ := s.filled_eq w word
  rw [hc]

theorem State.pc_filled (s : State) (w : LastAt) (word : W32) : (s.filled w word).pc = (s.last w.rack w.last).pc := by
  obtain ⟨c, hc⟩ := s.filled_eq w word
  rw [hc]

/-- Fetching and counting leave what a rack holds beside its tagging. -/
theorem rackOf_entered (s : State) (w : LastAt) (word : W32) (i : LInstr) (r : Nat) :
    ((s.entered w word i).rackOf r).core = (s.rackOf r).core := (aside_entered s w word i).racks r

theorem written_entered (s : State) (w : LastAt) (word : W32) (i : LInstr) (r : Nat) :
    ((s.entered w word i).rackOf r).written = (s.rackOf r).written := (aside_entered s w word i).written_eq r

theorem cond_entered (s : State) (w : LastAt) (word : W32) (i : LInstr) (c : Nat) :
    (s.entered w word i).cond w.rack (s.filled w word) c = s.cond w.rack (s.last w.rack w.last) c := by
  unfold State.cond State.tapWaits
  rw [(s.same_filled w word).sr, (s.same_filled w word).seen, written_entered]

/-- A condition that holds is no open value. -/
theorem condOf_entered {c : Nat} (i : LInstr) (h : s.cond w.rack (s.last w.rack w.last) c = some true) (word : W32) :
    (s.entered w word i).condOf w.rack (s.filled w word) c = (true, s.entered w word i) := by
  unfold State.condOf
  rw [cond_entered, h]

/-- A branch that a last takes stays in the body of its innermost loop. -/
theorem leavesLoop_filled (s : State) (w : LastAt) (word : W32) (a : Nat) :
    (s.filled w word).leavesLoop a = (s.last w.rack w.last).leavesLoop a := by
  unfold Last.leavesLoop
  rw [s.loops_filled]

theorem Last.loops_setLoops (y : Last) (fs : List LoopFrame) : (y.setLoops fs).loops = fs := rfl

/-- A loop with a count and a free level begins at the next instruction. -/
theorem completes_of_beginLoop {cmd : Instr} {pick : LInstr → Option Body} {body : Body} {count last : Nat}
    (he : Machine.exec cmd s = .next (s.issue w pick)) (h : Issuing s w word) (hd : decodeLast word = some i) (hp : pick i = some body)
    (hr : (s.last w.rack w.last).rep = none) (hb : ∀ x, body x (s.filled w word) = beginLoop count last x (s.filled w word))
    (hc : 0 < count) (hl : (s.last w.rack w.last).loops.length < 4) : Completes cmd s fun t =>
      let a := ((s.last w.rack w.last).pc.toNat + 1) % 16384
      (t.last w.rack w.last).pc = BitVec.ofNat 14 a ∧
      (t.last w.rack w.last).loops = ⟨a, last, count⟩ :: (s.last w.rack w.last).loops := by
  have hbegin (x : State) : beginLoop count last x (s.filled w word) =
      .skip (((s.last w.rack w.last).pc.toNat + 1) % 16384)
        ((s.filled w word).setLoops (⟨((s.last w.rack w.last).pc.toNat + 1) % 16384, last, count⟩ :: (s.last w.rack w.last).loops)) x := by
    unfold beginLoop
    rw [if_neg (by omega), s.loops_filled, if_neg (by omega), s.pc_filled]
  exact completes_of_issue_skip he h hd hp (.inl hr) ((hb _).trans (hbegin _)) fun t _ hg => ⟨hg.pc, hg.loops⟩

/-- Settles O5: each instruction's outcome from the state in which it takes effect, where the condition, the stacks and the tap
buffer are as they stood before the issue. -/
theorem lastFlowResults : Obligations.LastFlowResults := by
  unfold Obligations.LastFlowResults
  refine ⟨?bra, ?call, ?ret, ?loop, ?loopr, ?rep, ?leave, ?yield, ?twin⟩
  case bra =>
    intro w s word c target h hd hr hc hl
    refine completes_of_issue_goto rfl h hd rfl (.inl hr) (pc := target) (z := s.filled w word)
      (s' := s.entered w word (.bra c target)) ?_ fun t _ hg => hg.pc
    simp only [condOf_entered _ hc, leavesLoop_filled, hl]
    rfl
  case call =>
    intro w s word c target h hd hr hc hl hn
    refine completes_of_issue_goto rfl h hd rfl (.inl hr) (pc := target) (s' := s.entered w word (.call c target))
      (z := { s.filled w word with calls := ((s.last w.rack w.last).pc + 1) :: (s.last w.rack w.last).calls }) ?_
      fun t ht hg => ⟨hg.pc, ht.same.calls⟩
    simp only [condOf_entered _ hc, leavesLoop_filled, hl, (s.same_filled w word).calls, s.pc_filled, Nat.not_le.2 hn, or_self,
      Bool.false_eq_true, Bool.true_eq_false, if_false]
  case ret =>
    intro w s word c a as h hd hr hc hcalls
    refine completes_of_issue_goto rfl h hd rfl (.inl hr) (pc := a.toNat) (s' := s.entered w word (.ret c))
      (z := { s.filled w word with calls := as }) ?_
      fun t ht hg => ⟨by rw [hg.pc, BitVec.ofNat_toNat, BitVec.setWidth_eq], ht.same.calls⟩
    simp only [condOf_entered _ hc, (s.same_filled w word).calls, hcalls]
    rfl
  case loop =>
    intro w s word count last h hd hr hc hl
    exact completes_of_beginLoop rfl h hd rfl hr (fun _ => rfl) hc hl
  case loopr =>
    intro w s word d last h hd hr hc hl
    refine completes_of_beginLoop rfl h hd rfl hr (fun _ => ?_) hc hl
    rw [s.D_filled]
  case rep =>
    intro w s word count h hd hr hc
    refine completes_of_issue_skip rfl h hd rfl (.inl hr) (s' := s.entered w word (.rep count))
      (z := { (s.filled w word).setLoops (seqFrom (s.last w.rack w.last).loops (s.last w.rack w.last).pc.toNat).2 with rep := some count })
      ?_ fun t _ hg => ⟨hg.rep, hg.pc⟩
    rw [← s.loops_filled w word, ← s.pc_filled w word]
    exact if_neg (by omega)
  case leave =>
    intro w s word c f fs h hd hr hc hloops
    refine completes_of_issue_goto rfl h hd rfl (.inl hr) (pc := (seqFrom fs f.last).1) (s' := s.entered w word (.leave c))
      (z := (s.filled w word).setLoops (seqFrom fs f.last).2) ?_ fun t _ hg => ⟨hg.pc, hg.loops⟩
    simp only [condOf_entered _ hc, s.loops_filled, hloops]
  case yield =>
    intro w s word h hd hr
    refine completes_of_issue_done rfl h hd rfl (.inl hr) rfl fun t ht => ?_
    exact ⟨ht.same.yielding, ht.same.yieldAt.trans (written_entered s w word _ _), ht.fed rfl⟩
  case twin =>
    intro w s word newest h hd hr hseen
    have hw := written_entered s w word (.twin newest) w.rack
    have htaps : ((s.entered w word (.twin newest)).rackOf w.rack).taps = (s.rackOf w.rack).taps := by
      have e := congrArg RackSt.taps (rackOf_entered s w word (.twin newest) w.rack)
      exact e
    refine completes_of_issue_done rfl h hd rfl (.inl hr) ((if_neg ?_).trans rfl) fun t ht => ?_
    · rw [hw, (s.same_filled w word).seen]
      omega
    · rw [ht.same.seen, ht.same.t]
      simp only [hw, htaps, (s.same_filled w word).seen]
      exact ⟨trivial, trivial⟩

end Sys2Proof.Machine

/-!
PROOFS. Lasts halt and run, and take traps (for O4 and O6).
-/

namespace Sys2Proof.Machine

open Host

variable {s t : State} {r l : Nat}

/-! ## Numbers given by their bits -/

theorem bitsWhere_lt (f : Nat → Bool) (n : Nat) : bitsWhere f n < 2 ^ n := by
  induction n with
  | zero => exact Nat.one_pos
  | succ n ih =>
    unfold bitsWhere
    rw [Nat.pow_succ]
    split
    · omega
    · omega

theorem bitOf_bitsWhere {f : Nat → Bool} {n k : Nat} (h : k < n) : bitOf (bitsWhere f n) k = f k := by
  unfold bitOf
  induction n with
  | zero => omega
  | succ n ih =>
    unfold bitsWhere
    have hlt := bitsWhere_lt f n
    obtain rfl | hk := Nat.eq_or_lt_of_le (Nat.le_of_lt_succ h)
    · split
      · next hf => rw [Nat.add_comm, Nat.testBit_two_pow_add_eq, Nat.testBit_lt_two_pow hlt, hf]; rfl
      · next hf => rw [Nat.add_zero, Nat.testBit_lt_two_pow hlt]; simp_all
    · split
      · rw [Nat.add_comm, Nat.testBit_two_pow_add_gt hk, ih hk]
      · rw [Nat.add_zero, ih hk]

/-! ## Halting and running -/

/-- A read position that moves to the newest record is all that changes of a last. -/
theorem State.toNewest_eq (s : State) (r mask : Nat) : ∃ ls, s.toNewest r mask = { s with lasts := ls } := by
  unfold State.toNewest
  refine List.foldlRecOn (motive := fun t => ∃ ls, t = { s with lasts := ls }) _ _ ?_ ?_
  · exact ⟨_, rfl⟩
  rintro _ ⟨ls, rfl⟩ n -
  split
  · exact ⟨_, rfl⟩
  · exact ⟨_, rfl⟩

/-- A last keeps all but the position it reads the tap buffer at. -/
def Last.Seen (y z : Last) : Prop := ∃ n, z = { y with seen := n }

theorem Last.Seen.refl (y : Last) : y.Seen y := ⟨_, rfl⟩

theorem Last.Seen.trans {x y z : Last} (h : x.Seen y) (h' : y.Seen z) : x.Seen z := by
  obtain ⟨_, rfl⟩ := h
  obtain ⟨_, rfl⟩ := h'
  exact ⟨_, rfl⟩

theorem State.seen_setLast (s : State) (r l n : Nat) (r' l' : Nat) :
    (s.last r' l').Seen ((s.setLast r l { s.last r l with seen := n }).last r' l') := by
  by_cases h : 8 * r' + l' = 8 * r + l
  · have hs : s.last r' l' = s.last r l := by rw [State.last, State.last, h]
    have ht : (s.setLast r l { s.last r l with seen := n }).last r' l' = { s.last r l with seen := n } := by
      rw [State.last, h]
      exact State.last_setLast_self _ _ _ _
    rw [ht, hs]
    exact ⟨_, rfl⟩
  · rw [s.last_setLast_ne r l _ h]
    exact .refl _

theorem State.seen_toNewest (s : State) (r mask r' l' : Nat) : (s.last r' l').Seen ((s.toNewest r mask).last r' l') := by
  unfold State.toNewest
  refine List.foldlRecOn (motive := fun t : State => (s.last r' l').Seen (t.last r' l')) _ _ (.refl _) ?_
  intro t ht n _
  split
  · exact ht.trans (t.seen_setLast r n _ r' l')
  · exact ht

/-- The registers of a rack that halt and show its lasts have been written. -/
def State.haltShown (s : State) (r mask : Nat) : State :=
  let s := ((s.put RACK_CTL.HALT mask r).put RACK_STAT.HALTED mask r).put RACK_STAT.RUNNING (bitsWhere (fun l => !(bitOf mask l)) 8) r
  s.put RACK_STAT.TRAPPED (bitsWhere (fun l => bitOf (s.fld RACK_STAT.TRAPPED r) l && bitOf mask l) 8) r

theorem State.setHalt_eq (s : State) (r mask : Nat) : ∃ ls, s.setHalt r mask = { s.haltShown r mask with lasts := ls } :=
  (s.haltShown r mask).toNewest_eq r _

theorem State.events_setHalt (s : State) (r mask : Nat) : (s.setHalt r mask).events = s.events := by
  obtain ⟨ls, e⟩ := s.setHalt_eq r mask
  rw [e]
  rfl

theorem State.seen_setHalt (s : State) (r mask r' l' : Nat) : (s.last r' l').Seen ((s.setHalt r mask).last r' l') := by
  unfold State.setHalt
  extract_lets old a b c
  exact c.seen_toNewest r _ r' l'

theorem State.fld_setHalt (s : State) (r mask : Nat) (f : Fld) (k i : Nat) :
    (s.setHalt r mask).fld f k i = (s.haltShown r mask).fld f k i := by
  obtain ⟨ls, e⟩ := s.setHalt_eq r mask
  rw [e]
  rfl

theorem State.fld_halted_setHalt (s : State) (r mask : Nat) : (s.setHalt r mask).fld RACK_STAT.HALTED r = mask % 256 := by
  rw [State.fld_setHalt, State.haltShown, State.fld_put_apart _ (by decide) (by decide),
    State.fld_put_apart _ (by decide) (by decide), State.fld_put_self _ (by decide)]
  rfl

theorem State.fld_running_setHalt (s : State) (r mask : Nat) :
    (s.setHalt r mask).fld RACK_STAT.RUNNING r = bitsWhere (fun l => !(bitOf mask l)) 8 := by
  rw [State.fld_setHalt, State.haltShown, State.fld_put_apart _ (by decide) (by decide), State.fld_put_self _ (by decide)]
  exact Nat.mod_eq_of_lt (bitsWhere_lt _ 8)

theorem State.fld_haltCtl_setHalt (s : State) (r mask : Nat) : (s.setHalt r mask).fld RACK_CTL.HALT r = mask % 256 := by
  rw [State.fld_setHalt, State.haltShown, State.fld_put_apart _ (by decide) (by decide),
    State.fld_put_apart _ (by decide) (by decide), State.fld_put_apart _ (by decide) (by decide), State.fld_put_self _ (by decide)]
  rfl

/-- A last of the mask is halted. -/
theorem State.lastHalted_setHalt (s : State) (r mask : Nat) (hl : l < 8) : (s.setHalt r mask).lastHalted r l = bitOf mask l := by
  unfold State.lastHalted
  rw [State.fld_halted_setHalt]
  unfold bitOf
  rw [show (256 : Nat) = 2 ^ 8 from rfl, Nat.testBit_mod_two_pow, decide_eq_true hl, Bool.true_and]

theorem State.lastHalted_haltLast (s : State) (r : Nat) (hl : l < 8) : (s.haltLast r l).lastHalted r l = true := by
  unfold State.haltLast
  rw [State.lastHalted_setHalt _ _ _ hl, bitOf_bitsWhere hl]
  simp

theorem Aside.lastHalted_eq {rs : List Reg} {rd : Bool} (h : Aside rs rd s t) (hr : .RACK_STAT ∉ sideRegs ++ rs) (r l : Nat) :
    t.lastHalted r l = s.lastHalted r l := by
  unfold State.lastHalted
  rw [h.fld_eq hr]

/-! ## Taking a trap (R125) -/

/-- The last that has taken a trap. -/
def State.trapped (s : State) (r l vector low : Nat) : Last :=
  let y := s.last r l
  { y.putSr srSV true with
    tpc := y.pc, tsr := s.srRead r y, info := BitVec.ofNat 22 (low % 256 + y.pc.toNat * 256), rep := none
    pc := BitVec.ofNat 14 (y.vbr.toNat + 2 * vector) }

theorem aside_takeTrap (s : State) (r l vector low : Nat) :
    Aside [.RACK_LAST_TRAP, .RACK_CAUSE] false (s.setLast r l (s.trapped r l vector low)) (s.takeTrap r l vector low) :=
  ((Aside.setReg _ _ _ _).trans (Aside.raise _ _ _)).trans (Aside.perf _ _ _ _ _)

theorem State.last_takeTrap (s : State) (r l vector low : Nat) : (s.takeTrap r l vector low).last r l = s.trapped r l vector low := by
  rw [(aside_takeTrap s r l vector low).last_eq, State.last_setLast_self]

/-- A trap in user mode enters supervisor mode. -/
theorem State.super_trapped (s : State) (r l vector low : Nat) : (s.trapped r l vector low).super = true := by
  have hbit : ((1 <<< 8 : Nat) : W24).getLsbD 8 = true := by decide
  have hor : (putBit24 (s.last r l).sr 8 true).getLsbD 8 = true := by
    unfold putBit24
    rw [BitVec.getLsbD_or]
    exact (congrArg (Bool.or _) hbit).trans (Bool.or_true _)
  exact hor

end Sys2Proof.Machine

/-!
PROOFS. The ADDR and SYS instructions of a last, and SVC (O4).
-/

namespace Sys2Proof.Machine

open Host

variable {s t : State} {w : LastAt} {word : W32} {i : LInstr} {y : Last}

theorem State.super_filled (s : State) (w : LastAt) (word : W32) : (s.filled w word).super = (s.last w.rack w.last).super := by
  unfold Last.super
  rw [(s.same_filled w word).sr]

/-! ## Late writes (R116) -/

/-- A new pointer, step or length is on its way, to be seen after two instructions. -/
theorem Last.mem_putAddr (y : Last) (kind n v : Nat) :
    ⟨3, (if kind = 0 then LateReg.ptr n else if kind = 1 then .step n else .len n), v % (if kind = 0 ∨ kind = 1 then 1024 else 2048)⟩
      ∈ (y.putAddr kind n v).late := by
  match kind with
  | 0 => exact List.mem_append_right _ (List.mem_singleton_self _)
  | 1 => exact List.mem_append_right _ (List.mem_singleton_self _)
  | k + 2 =>
    rw [if_neg (by omega), if_neg (by omega), if_neg (by omega)]
    exact List.mem_append_right _ (List.mem_singleton_self _)

theorem Last.mem_defer (y : Last) (n : Nat) (g : LateReg) (v : Nat) : ⟨n + 1, g, v⟩ ∈ (y.defer n g v).late :=
  List.mem_append_right _ (List.mem_singleton_self _)

theorem stepped_filled (s : State) (w : LastAt) (word : W32) (n : Nat) (change : Int) :
    (s.filled w word).stepped n change = (s.last w.rack w.last).stepped n change := by
  obtain ⟨c, hc⟩ := s.filled_eq w word
  rw [hc]
  rfl

/-! ## Control registers (R110) -/

theorem srRead_entered (s : State) (w : LastAt) (word : W32) (i : LInstr) :
    (s.entered w word i).srRead w.rack (s.filled w word) = s.srRead w.rack (s.last w.rack w.last) := by
  unfold State.srRead State.tapWaits
  rw [(s.same_filled w word).sr, (s.same_filled w word).seen, written_entered]

theorem userReads_entered (s : State) (w : LastAt) (word : W32) (i : LInstr) (n : Nat) :
    (s.entered w word i).userReads w.rack n = s.userReads w.rack n := by
  have h : (s.entered w word i).flag RACK_CTL.UCNT w.rack = s.flag RACK_CTL.UCNT w.rack :=
    (aside_entered s w word i).flag_eq (by simp [sideRegs, lastRegs, waitRegs]) _ _
  unfold State.userReads
  rw [h]

/-- Where no slots are lost before the issue, no slot counter has counted. -/
theorem cnt_entered {r : Reg} (h : r ∉ sideRegs ++ waitRegs) (hf : w.front = 0) (hb : w.back = 0)
    (hi : (s.last w.rack w.last).interlock i = 0) (word : W32) (u k : Nat) : (s.entered w word i).cnt r u k = s.cnt r u k := by
  have ha : Aside waitRegs true s ((s.fetchLast w.rack (s.last w.rack w.last)).2.lostSlots w (!(s.last w.rack w.last).super)
      ((s.last w.rack w.last).interlock i)) := by
    rw [hi]
    exact (Aside.fetchLast s _ _).trans (Aside.lostSlots_none _ hf hb _)
  exact ha.cnt_eq h u k

/-- A control register of the list reads as before the issue, and a slot counter leaves its upper bits in CHI. -/
theorem ctlRead_entered {n : Nat} (hn : n ≤ 4 ∨ (8 ≤ n ∧ n ≤ 11) ∨ (16 ≤ n ∧ n ≤ 20)) (hf : w.front = 0) (hb : w.back = 0)
    (hi : (s.last w.rack w.last).interlock i = 0) (word : W32) : ∃ chi,
      (s.entered w word i).ctlRead w.rack w.last (s.filled w word) n =
        ((s.ctlRead w.rack w.last (s.last w.rack w.last) n).1, { s.filled w word with chi := chi }, s.entered w word i) ∧
      (16 ≤ n → n ≤ 19 → chi = (s.cnt (slotCounter n) w.rack w.last).extractLsb' 24 24) := by
  have hcount (k : Nat) (h1 : 0x10 ≤ k) (h2 : k ≤ 0x13) :
      (s.entered w word i).cnt (slotCounter k) w.rack w.last = s.cnt (slotCounter k) w.rack w.last := by
    refine cnt_entered ?_ hf hb hi word _ _
    unfold slotCounter
    split
    all_goals simp [sideRegs, waitRegs]
  by_cases hslot : 16 ≤ n ∧ n ≤ 19
  · refine ⟨_, ?_, fun _ _ => rfl⟩
    have hc := hcount n hslot.1 hslot.2
    have hcases : n = 16 ∨ n = 17 ∨ n = 18 ∨ n = 19 := by omega
    obtain rfl | rfl | rfl | rfl := hcases
    all_goals exact congrArg (fun v : W48 => (v.setWidth 24, { s.filled w word with chi := v.extractLsb' 24 24 }, _)) hc
  · refine ⟨(s.filled w word).chi, ?_, fun h1 h2 => absurd ⟨h1, h2⟩ hslot⟩
    obtain ⟨c, hc⟩ := s.filled_eq w word
    have hsr := srRead_entered s w word i
    have hcases : n = 0 ∨ n = 1 ∨ n = 2 ∨ n = 3 ∨ n = 4 ∨ n = 8 ∨ n = 9 ∨ n = 10 ∨ n = 11 ∨ n = 20 := by omega
    obtain rfl | rfl | rfl | rfl | rfl | rfl | rfl | rfl | rfl | rfl := hcases
    · exact congrArg (fun v => (v, _, _)) hsr
    all_goals
      rw [hc]
      rfl

/-! ## SVC (R127) -/

/-- The supervisor call of a last in user mode: its trap is taken, the last halts, and the call is logged with D0. -/
theorem trapLast_svc (h : (s.last w.rack w.last).super = false) (low : Nat) : s.trapLast w.rack w.last vecSvc low =
    ((s.takeTrap w.rack w.last vecSvc low).haltLast w.rack w.last).log 0x0604 sevInfo w.rack w.last
      ((s.last w.rack w.last).D 0).toNat := by
  unfold State.trapLast
  exact (if_neg (by rw [h]; exact Bool.false_ne_true)).trans (if_pos rfl)

/-- What a supervisor call of the last leaves: PC and SR are saved, the last is halted in supervisor mode, and the event is on
its way. -/
structure Called (w : LastAt) (s : State) (t : State) : Prop where
  tpc : (t.last w.rack w.last).tpc = (s.last w.rack w.last).pc
  tsr : (t.last w.rack w.last).tsr = s.srRead w.rack (s.last w.rack w.last)
  super : (t.last w.rack w.last).super = true
  halted : t.lastHalted w.rack w.last = true
  sent : Sent s t 0x0604 sevInfo w.rack w.last ((s.last w.rack w.last).D 0).toNat

theorem called_trapLast (h : (s.last w.rack w.last).super = false) (low : Nat) : Called w s (s.trapLast w.rack w.last vecSvc low) := by
  have hlast : (s.trapped w.rack w.last vecSvc low).Seen ((s.trapLast w.rack w.last vecSvc low).last w.rack w.last) := by
    rw [trapLast_svc h, ← State.last_takeTrap]
    exact State.seen_setHalt _ _ _ _ _
  obtain ⟨n, hseen⟩ := hlast
  refine ⟨by rw [hseen]; rfl, by rw [hseen]; rfl, ?super, ?halted, ?sent⟩
  case super =>
    rw [hseen]
    exact s.super_trapped w.rack w.last vecSvc low
  case halted =>
    rw [trapLast_svc h]
    exact State.lastHalted_haltLast _ _ w.last.isLt
  case sent =>
    obtain ⟨post, hpost⟩ := (aside_takeTrap s w.rack w.last vecSvc low).events
    refine ⟨post, [], ?_⟩
    rw [trapLast_svc h]
    exact congrArg (· ++ _) ((State.events_setHalt _ _ _).trans hpost.symm)

theorem Last.same_age (y : Last) : y.Same y.age := by
  obtain ⟨_, _, _, _, _, _, e⟩ := y.age_eq
  rw [e]
  exact ⟨rfl, rfl, rfl, rfl, rfl, rfl, rfl, rfl, rfl, rfl, rfl, rfl, rfl⟩

/-- The last ages and its slot is counted; the call stands. -/
theorem Called.settled {u : State} (h : Called w s u) (user : Bool) :
    Called w s ((u.setLast w.rack w.last (u.last w.rack w.last).age).slotWaste w.rack w.last user) := by
  have ha : Aside lastRegs false (u.setLast w.rack w.last (u.last w.rack w.last).age)
    ((u.setLast w.rack w.last (u.last w.rack w.last).age).slotWaste w.rack w.last user) := Aside.slot _ _ _ _ _ _
  have hsame := (u.last w.rack w.last).same_age
  have hlast := ha.last_eq w.rack w.last
  rw [State.last_setLast_self] at hlast
  refine ⟨by rw [hlast, hsame.tpc, h.tpc], by rw [hlast, hsame.tsr, h.tsr], ?super, ?halted, ?sent⟩
  case super =>
    have hu := h.super
    unfold Last.super at hu ⊢
    rw [hlast, hsame.sr, hu]
  case halted => exact (ha.lastHalted_eq (by simp [sideRegs, lastRegs, waitRegs]) _ _).trans h.halted
  case sent =>
    obtain ⟨pre, post, hev⟩ := h.sent
    obtain ⟨more, hmore⟩ := ha.events
    exact ⟨pre, post ++ more, by rw [← hmore]; simp [State.setLast, hev]⟩

/-- The call as seen from an earlier state, whose last stood at the same PC with the same registers. -/
theorem Called.of_earlier {v : State} (h : Called w v t) (hpc : (v.last w.rack w.last).pc = (s.last w.rack w.last).pc)
    (hsr : v.srRead w.rack (v.last w.rack w.last) = s.srRead w.rack (s.last w.rack w.last))
    (hd : (v.last w.rack w.last).D 0 = (s.last w.rack w.last).D 0) (he : s.events <+: v.events) : Called w s t :=
  ⟨h.tpc.trans hpc, h.tsr.trans hsr, h.super, h.halted, sent_of_prefix (hd ▸ h.sent) he⟩

/-- A supervisor call that a last in user mode issues. -/
theorem called_settle (hu : (s.last w.rack w.last).super = false) (user : Bool) (c : Issued) : Called w s
    (State.settle w.rack w.last user (.svc 0) c (.trap vecSvc 0 (s.entered w word (.svc 0)))) := by
  have ha : Aside lastRegs true ((s.setLast w.rack w.last (s.filled w word)).setLast w.rack w.last ((s.filled w word).cancelled c))
      (((s.entered w word (.svc 0)).setLast w.rack w.last (((s.entered w word (.svc 0)).last w.rack w.last).cancelled c)).countIssue
        w.rack w.last { c with trapped := true }) := by
    rw [last_entered]
    exact ((aside_entered s w word _).setLast _).trans (Aside.countIssue _ _ _ _)
  have hlast := ha.last_eq w.rack w.last
  rw [State.last_setLast_self] at hlast
  have hsame := s.same_filled w word
  refine ((called_trapLast ?_ 0).settled user).of_earlier ?_ ?_ ?_ ha.events
  · rw [hlast]
    exact (s.super_filled w word).trans hu
  · rw [hlast]
    exact s.pc_filled w word
  · unfold State.srRead State.tapWaits
    rw [ha.written_eq, hlast]
    exact congrArg₂ (fun x n => putBit24 x srTWN (decide (n < (s.rackOf w.rack).written))) hsame.sr hsame.seen
  · rw [hlast]
    exact s.D_filled w word 0

/-! ## The statement -/

/-- Settles O4: each instruction's outcome from the state in which it takes effect, and SVC's trap step by step. -/
theorem lastAddressAndSystemResults : Obligations.LastAddressAndSystemResults := by
  unfold Obligations.LastAddressAndSystemResults
  refine ⟨?lda, ?adda, ?mova, ?movc, ?movfc, ?rti, ?halt, ?svc⟩
  case lda =>
    intro w s word kind n value h hd
    refine completes_of_issue_done rfl h hd rfl (.inr (by simp [LInstr.cls])) rfl fun t ht => ht.late 1 _ _ (Last.mem_putAddr _ _ _ _)
  case adda =>
    intro w s word n change h hd
    cases hst : (s.last w.rack w.last).stepped n (signed 11 change) with
    | some v =>
      refine completes_of_issue_done rfl h hd rfl (.inr (by simp [LInstr.cls])) (by simp only [stepped_filled, hst]; rfl) fun t ht => ?_
      refine ⟨?_, fun hn => by cases hn⟩
      rintro _ ⟨⟩
      exact ht.late 1 _ _ (Last.mem_putAddr _ 0 _ _)
    | none =>
      refine completes_of_issue_done rfl h hd rfl (.inr (by simp [LInstr.cls])) (by simp only [stepped_filled, hst]; rfl) fun t ht => ?_
      exact ⟨fun v hv => by (cases hv), fun _ => ⟨_, ht.late 1 _ _ (Last.mem_putAddr _ 0 _ _)⟩⟩
  case mova =>
    intro w s word kind n d h hd
    refine completes_of_issue_done rfl h hd rfl (.inr (by simp [LInstr.cls])) rfl fun t ht => ?_
    rw [← s.D_filled w word]
    exact ht.late 1 _ _ (Last.mem_putAddr _ _ _ _)
  case movc =>
    intro w s word d n h hd hmode
    refine completes_of_issue_done rfl h hd rfl (.inr (by simp [LInstr.cls])) (z := (s.filled w word).ctlWrite n ((s.filled w word).D d))
      (s' := s.entered w word _) (if_neg ?_) fun t ht => ?_
    · rw [s.super_filled]
      rcases hmode with hs | rfl | rfl | rfl
      · simp [hs]
      all_goals simp
    · rw [← s.D_filled w word, ← (s.same_filled w word).sr]
      refine ⟨?_, ?_, ?_, ?_, ?_, ?_⟩
      · rintro rfl
        exact ht.same.sr
      · rintro rfl
        exact ht.late 2 _ _ (Last.mem_defer _ 3 _ _)
      · rintro rfl
        exact ht.late 2 _ _ (Last.mem_defer _ 3 _ _)
      · rintro rfl
        exact ht.same.tpc
      · rintro rfl
        exact ht.same.tsr
      · rintro rfl
        exact ht.late 2 _ _ (Last.mem_defer _ 3 _ _)
  case movfc =>
    intro w s word d n h hd hmode hn hf hb hi
    obtain ⟨chi, e, hchi⟩ := ctlRead_entered hn hf hb hi word
    have hmay : ¬ (!(s.filled w word).super && !((s.entered w word (.movfc d n)).userReads w.rack n)) = true := by
      rw [s.super_filled, userReads_entered]
      obtain hs | hs := hmode
      · simp [hs]
      · simp [hs]
    refine completes_of_issue_done rfl h hd rfl (.inr (by simp [LInstr.cls])) (by simp only [if_neg hmay, e]; rfl) fun t ht => ?_
    rw [ht.same.d, ht.same.chi, ← (s.same_filled w word).d]
    exact ⟨rfl, hchi⟩
  case rti =>
    intro w s word h hd hs
    refine completes_of_issue_skip rfl h hd rfl (.inr (by simp [LInstr.cls])) (if_pos ((s.super_filled w word).trans hs)) fun t ht hg => ?_
    have hsame := s.same_filled w word
    rw [hg.pc, hsame.tpc, ht.same.sr, hg.rep]
    exact ⟨by rw [BitVec.ofNat_toNat, BitVec.setWidth_eq], congrArg (· &&& srMask) hsame.tsr, rfl⟩
  case halt =>
    intro w s word h hd hs
    have hstop : (if (s.filled w word).super then LOut.stop (s.filled w word) (s.entered w word .halt)
      else .fail vecPriv (s.entered w word .halt)) = .stop (s.filled w word) (s.entered w word .halt) :=
      if_pos ((s.super_filled w word).trans hs)
    refine ⟨_, rfl, ?_⟩
    rw [State.issue_eq h hd rfl (.inr (by simp [LInstr.cls])), hstop]
    exact State.lastHalted_haltLast _ _ w.last.isLt
  case svc =>
    intro w s word h hd hu hr
    refine ⟨_, rfl, ?_⟩
    rw [State.issue_eq h hd rfl (.inl hr)]
    obtain ⟨htpc, htsr, hsuper, hhalted, hsent⟩ := called_settle (word := word) hu (!(s.last w.rack w.last).super) (s.issuedAs w (.svc 0))
    exact ⟨htpc, htsr, hsuper, hhalted, hsent⟩

end Sys2Proof.Machine

/-!
PROOFS. The commands of the racks and of the program sets (O20).
-/

namespace Sys2Proof.Machine

open Host

variable {s t u : State} {p : Params}

/-! ## Racks that a command names -/

/-- A step that establishes a property for the rack it takes, and keeps it for the others, establishes it for every rack of a list. -/
theorem foldl_racks {f : State → Nat → State} {P : Nat → State → Prop} (hself : ∀ s r, P r (f s r))
    (hkeep : ∀ s r r', P r s → r' ≠ r → P r (f s r')) (rs : List Nat) (s : State) : ∀ r ∈ rs, P r (rs.foldl f s) := by
  induction rs using List.reverseRecOn with
  | nil => intro r hr; cases hr
  | append_singleton rs r' ih =>
    intro r hr
    rw [List.foldl_append]
    by_cases h : r' = r
    · exact h ▸ hself _ r'
    · refine hkeep _ r r' (ih r ?_) h
      obtain hr | hr := List.mem_append.1 hr
      · exact hr
      · exact absurd (List.mem_singleton.1 hr).symm h

/-- What halting a rack changes: registers and lasts. -/
theorem State.setHalt_mbx (s : State) (r mask : Nat) : (s.setHalt r mask).mbx = s.mbx := by
  obtain ⟨ls, e⟩ := s.setHalt_eq r mask
  rw [e]
  rfl

theorem State.fld_setHalt_ne (s : State) {r k : Nat} (mask : Nat) (f : Fld) (h : k ≠ r) (i : Nat) :
    (s.setHalt r mask).fld f k i = s.fld f k i := by
  rw [State.fld_setHalt, State.haltShown, State.fld_put_unit _ _ _ (.inl h), State.fld_put_unit _ _ _ (.inl h),
    State.fld_put_unit _ _ _ (.inl h), State.fld_put_unit _ _ _ (.inl h)]

theorem foldl_mbx {α : Type} {f : State → α → State} (hf : ∀ s a, (f s a).mbx = s.mbx) (l : List α) (s : State) :
    (l.foldl f s).mbx = s.mbx := by
  refine List.foldlRecOn (motive := fun t : State => t.mbx = s.mbx) _ _ rfl ?_
  intro t ht a _
  rw [hf, ht]

/-- RACK_HALT halts each rack it names. -/
theorem halted_foldl_holdRack (rs : List Nat) (s : State) : ∀ r ∈ rs,
    (rs.foldl State.holdRack s).fld RACK_STAT.HALTED r = 0xFF ∧ (rs.foldl State.holdRack s).fld RACK_STAT.RUNNING r = 0 := by
  refine foldl_racks (P := fun r t => t.fld RACK_STAT.HALTED r = 0xFF ∧ t.fld RACK_STAT.RUNNING r = 0) (fun s r => ?_)
    (fun s r r' h hne => ?_) rs s
  · exact ⟨s.fld_halted_setHalt r 0xFF, s.fld_running_setHalt r 0xFF⟩
  · exact ⟨(s.fld_setHalt_ne _ _ hne.symm _).trans h.1, (s.fld_setHalt_ne _ _ hne.symm _).trans h.2⟩

/-- RACK_RESUME starts each rack it names. -/
theorem running_foldl_setHalt (rs : List Nat) (s : State) : ∀ r ∈ rs,
    (rs.foldl (fun s r => s.setHalt r 0) s).fld RACK_STAT.HALTED r = 0 ∧
    (rs.foldl (fun s r => s.setHalt r 0) s).fld RACK_STAT.RUNNING r = 0xFF := by
  refine foldl_racks (P := fun r t => t.fld RACK_STAT.HALTED r = 0 ∧ t.fld RACK_STAT.RUNNING r = 0xFF) (fun s r => ?_)
    (fun s r r' h hne => ?_) rs s
  · exact ⟨s.fld_halted_setHalt r 0, s.fld_running_setHalt r 0⟩
  · exact ⟨(s.fld_setHalt_ne _ _ hne.symm _).trans h.1, (s.fld_setHalt_ne _ _ hne.symm _).trans h.2⟩

section

variable (w : Ticket) (hk : p.byte 0 ≤ 7) (hu : s.lineUsed (p.byte 0) = true) (ha : s.applyHoldsLine (p.byte 0) = false)
  (hz : p.zeroFrom 2 = true)
include hk hu ha hz

theorem cmdRackHalt_of_used : cmdRackHalt p w s =
    (okWith (rackBits (s.namedRacks (p.byte 0) (p.byte 1) (fun r => s.fld RACK_STAT.HALTED r != 0xFF))),
      (s.namedRacks (p.byte 0) (p.byte 1) (fun r => s.fld RACK_STAT.HALTED r != 0xFF)).foldl State.holdRack s) := by
  unfold cmdRackHalt
  simp [Nat.not_lt.2 hk, hz, ha, hu]

theorem cmdRackResume_of_used : cmdRackResume p w s =
    (okWith (rackBits (s.namedRacks (p.byte 0) (p.byte 1) (fun _ => true))),
      (s.namedRacks (p.byte 0) (p.byte 1) (fun _ => true)).foldl (fun s r => s.setHalt r 0) s) := by
  unfold cmdRackResume
  simp [Nat.not_lt.2 hk, hz, ha, hu]

end

theorem cmdRackStatus_of_used (w : Ticket) (hr : p.byte 0 ≤ 63) (hz : p.zeroFrom 1 = true) (hu : s.lineUsed (p.byte 0 / 8) = true)
    (ha : s.applyHoldsLine (p.byte 0 / 8) = false) :
    cmdRackStatus p w s = (okWith (s.reg .RACK_STAT (p.byte 0)).toNat (s.reg .RACK_PROG_ID (p.byte 0)).toNat, s) := by
  unfold cmdRackStatus
  simp [Nat.not_lt.2 hr, hz, ha, hu]

/-! ## The staging region (R326, R342) -/

/-- Where a staging region lies. -/
def State.stageAddr (s : State) (len : Nat) : Nat :=
  0x1000000 + 8 * (s.free.1 % ((0x200000 - (len + 7) / 8 * 8) / 8 + 1))

theorem State.stageAddr_bounds (s : State) {len : Nat} (h : len ≤ 524288) :
    0x1000000 ≤ s.stageAddr len ∧ s.stageAddr len + len ≤ 0x1200000 ∧ s.stageAddr len % 8 = 0 := by
  unfold State.stageAddr
  have hx : s.free.1 % ((0x200000 - (len + 7) / 8 * 8) / 8 + 1) < (0x200000 - (len + 7) / 8 * 8) / 8 + 1 := Nat.mod_lt _ (by omega)
  omega

theorem getBits_zero_one (n : Nat) : getBits (BitVec.ofNat 32 n) 0 1 = n % 2 := by
  unfold getBits
  rw [BitVec.toNat_ofNat, Nat.shiftRight_zero, Nat.pow_one, Nat.mod_mod_of_dvd _ (by decide)]

/-- A staging region that opens: where it lies, and its window for the host. -/
theorem State.openStage_eq (s : State) (use : StageUse) (len : Nat) : (s.openStage use len).1 = s.stageAddr len ∧
    (s.openStage use len).2.stage = some ⟨use, s.stageAddr len, len⟩ ∧ (s.openStage use len).2.mbx = s.mbx ∧
    (s.openStage use len).2.flag HIF_WIN_BASE.EN 0 2 = true := by
  have e : (s.openStage use len).2 =
      { (s.free.2.initRange (s.stageAddr len) (s.stageAddr len + (len + 7) / 8 * 8)).openWindow 2 (s.stageAddr len)
        (s.stageAddr len + (len + 7) / 8 * 8 - 8) 7 with stage := some ⟨use, s.stageAddr len, len⟩ } := rfl
  rw [e]
  refine ⟨rfl, rfl, rfl, ?_⟩
  have heven : (s.stageAddr len + 7) % 2 = 1 := by
    unfold State.stageAddr
    omega
  have hbase (x : State) (a b n : Nat) (ha : (a + n) % 2 = 1) : (x.openWindow 2 a b n).flag HIF_WIN_BASE.EN 0 2 = true := by
    unfold State.openWindow State.flag
    rw [State.fld_put_apart _ (by decide) (by decide), State.fld_setReg _ (by decide), State.fld, State.reg_setReg_self, getBits_zero_one, ha]
    rfl
  have hstage (x : State) (g : Option Stage) : State.flag { x with stage := g } HIF_WIN_BASE.EN 0 2 = x.flag HIF_WIN_BASE.EN 0 2 := rfl
  rw [hstage]
  exact hbase _ _ _ 7 heven

theorem cmdPsetLoadBegin_of_free (w : Ticket) (hid : isSetId (p.byte 0) = true) (h1 : p.byte 1 = 0) (h2 : p.byte 2 = 0)
    (h3 : p.byte 3 = 0) (hz : p.zeroFrom 8 = true) (hlen : p.wordAt 4 ≤ 524288) (hs : s.stage = none) :
    cmdPsetLoadBegin p w s = (okWith (s.stageAddr (p.wordAt 4)) (p.wordAt 4), (s.openStage (.pset (p.byte 0)) (p.wordAt 4)).2) := by
  unfold cmdPsetLoadBegin
  simp only [hid, h1, h2, h3, hz, hs, Nat.not_lt.2 hlen]
  rfl

/-! ## Program sets (R132, R133) -/

theorem Aside.readBytes {rs : List Reg} (s : State) (a n : Nat) : Aside rs true s (s.readBytes a n).2 := by
  have h := Aside.readWords (rs := rs) s ((List.range ((a + n + 7) / 8 - a / 8)).map (fun i => 8 * (a / 8 + i)))
  unfold State.readBytes
  extract_lets first words
  split
  · next e => rw [e] at h; exact h
  · next e => rw [e] at h; exact h

/-- What a read of an image leaves of the state: the program sets, the keys and the mailbox. -/
theorem readBytes_parts (s : State) (a n : Nat) :
    (s.readBytes a n).2.stage = s.stage ∧ (s.readBytes a n).2.psets = s.psets ∧ (s.readBytes a n).2.sec = s.sec ∧
    (s.readBytes a n).2.mbx = s.mbx ∧ s.events <+: (s.readBytes a n).2.events := by
  have h := Aside.readBytes (rs := []) s a n
  obtain ⟨_, _, _, _, _, _, _, _, _, e⟩ := h.parts
  refine ⟨?_, ?_, ?_, ?_, h.events⟩
  all_goals rw [e]

/-- The state in which a set is stored. -/
def State.psetStored (s : State) (id : Nat) (img : List Nat) : State :=
  ({ s with psets := s.psets.filter (fun (q : PSet) => q.id != id) ++ [psetOf img] }).log 0x0605 sevInfo id (fieldOf img 12 4)

section

variable {g : Stage} {img : List Nat} {key : Key} (w : Ticket) (hid : isSetId (p.byte 0) = true) (hz : p.zeroFrom 1 = true)
  (hs : s.stage = some g) (hg : g.use = .pset (p.byte 0)) (hb : (s.closeStage.readBytes g.addr g.len).1 = some img)
  (hi : imageOk img (p.byte 0) = true) (hn : s.storeUsed (p.byte 0) + img.length ≤ 1048576) (hk : s.keyOf (fieldOf img 10 1) = some key)
include hid hz hs hg hb hi hn hk

/-- A staged image of the right layout, signed by a registered key or not. -/
theorem cmdPsetLoadEnd_of_image : cmdPsetLoadEnd p w s =
    let u := (s.closeStage.readBytes g.addr g.len).2
    if signedBy key img = false then (failWith 0x0501 0 2, u.log 0x0606 sevWarn (p.byte 0) 0x0501 2)
    else (okWith, u.psetStored (p.byte 0) img) := by
  obtain ⟨-, hpsets, hsec, -, -⟩ := readBytes_parts s.closeStage g.addr g.len
  rcases hr : s.closeStage.readBytes g.addr g.len with ⟨x, u⟩
  rw [hr] at hb hpsets hsec
  obtain rfl : x = some img := hb
  have hused : u.storeUsed (p.byte 0) = s.storeUsed (p.byte 0) := by
    unfold State.storeUsed
    rw [hpsets]
    rfl
  have hkey : u.keyOf (fieldOf img 10 1) = some key := by
    rw [← hk]
    unfold State.keyOf
    rw [hsec]
    rfl
  unfold cmdPsetLoadEnd
  simp only [hid, hz, hs, hg, hr, hi, hused, hkey, Nat.not_lt.2 hn, Bool.true_eq_false, or_self, ne_eq, not_true_eq_false, if_false]
  rfl

end

theorem cmdPsetErase_of_unused (w : Ticket) (hid : isSetId (p.byte 0) = true) (hz : p.zeroFrom 1 = true)
    (hm : s.mode.active.namesSet (p.byte 0) = false) (ht : s.mode.txn = none) :
    cmdPsetErase p w s = (okWith, { s with psets := s.psets.filter (fun q => q.id != p.byte 0) }) := by
  unfold cmdPsetErase
  simp only [hid, hz, hm, ht]
  rfl

theorem cmdPsetList_eq (w : Ticket) (hz : p.zeroFrom 0 = true) :
    cmdPsetList p w s = (okWith (bitsWhere (fun n => s.psets.any (fun q => q.id == 0x80 + n)) 16) 0x1E, s) := by
  unfold cmdPsetList
  rw [if_neg (by rw [hz]; decide)]

/-- A completion leaves the staging region and the program sets. -/
theorem State.finish_parts (s : State) (w : Ticket) (r : Reply) :
    (s.finish w r).stage = s.stage ∧ (s.finish w r).psets = s.psets ∧ (s.finish w r).events = s.events := by
  obtain ⟨_, _, e⟩ := s.finish_eq w r
  rw [e]
  exact ⟨rfl, rfl, rfl⟩

/-- Settles O20: each handler's answer and next state under its conditions, and the completion of its eyelet. -/
theorem rackCommandResults : Obligations.RackCommandResults := by
  unfold Obligations.RackCommandResults
  refine ⟨?halt, ?resume, ?status, ?begin, ?finish, ?erase, ?list⟩
  case halt =>
    intro e s h hk hu ha hz
    refine completes_of_finish h rfl (cmdRackHalt_of_used (s := s.begun e) _ hk hu ha hz) 
      (foldl_mbx (f := State.holdRack) (fun s r => s.setHalt_mbx r 0xFF) _ _)
      fun ht => ⟨ht, fun r hr => ?_⟩
    rw [State.fld_finish, State.fld_finish]
    exact halted_foldl_holdRack _ _ r hr
  case resume =>
    intro e s h hk hu ha hz
    refine completes_of_finish h rfl (cmdRackResume_of_used (s := s.begun e) _ hk hu ha hz) (foldl_mbx (fun s r => s.setHalt_mbx r 0) _ _)
      fun ht => ⟨ht, fun r hr => ?_⟩
    rw [State.fld_finish, State.fld_finish]
    exact running_foldl_setHalt _ _ r hr
  case status =>
    intro e s h hr hz hu ha
    exact completes_of_finish h rfl (cmdRackStatus_of_used (s := s.begun e) _ hr hz hu ha) rfl fun ht => ht
  case begin =>
    intro e s h hid h1 h2 h3 hz hlen hs
    obtain ⟨-, hstage, hmbx, hwin⟩ := (s.begun e).openStage_eq (.pset ((s.params e).byte 0)) ((s.params e).wordAt 4)
    obtain ⟨hlo, hhi, hal⟩ := (s.begun e).stageAddr_bounds hlen
    refine completes_of_finish h rfl (cmdPsetLoadBegin_of_free (s := s.begun e) _ hid h1 h2 h3 hz hlen hs) hmbx fun ht => ?_
    refine ⟨_, ht, (State.finish_parts _ _ _).1.trans hstage, hlo, hhi, hal, ?_⟩
    rw [State.flag_eq, State.fld_finish]
    exact hwin
  case finish =>
    intro e s g img key h hid hz hs hg hb hi hn hk
    have hcmd := cmdPsetLoadEnd_of_image (s := s.begun e) (s.ticket e) hid hz hs hg hb hi hn hk
    obtain ⟨hstage, hpsets, -, hmbx, hev⟩ := readBytes_parts (s.begun e).closeStage g.addr g.len
    cases hsig : signedBy key img with
    | true =>
      rw [hsig] at hcmd
      refine completes_of_finish h rfl hcmd hmbx fun ht => ?_
      obtain ⟨hfs, hfp, hfe⟩ := State.finish_parts (((s.begun e).closeStage.readBytes g.addr g.len).2.psetStored ((s.params e).byte 0) img)
        (s.ticket e) ⟨0, 0, 0⟩
      refine ⟨hfs.trans hstage, fun _ => ⟨ht, hfp.trans ?_, ?_⟩, fun h => (by cases h)⟩
      · exact congrArg (fun l : List PSet => l.filter (fun x => x.id != (s.params e).byte 0) ++ [psetOf img]) hpsets
      · exact sent_of_prefix ⟨[], [], by rw [hfe, List.append_nil]; rfl⟩ hev
    | false =>
      rw [hsig] at hcmd
      refine completes_of_finish h rfl hcmd hmbx fun ht => ?_
      obtain ⟨hfs, hfp, hfe⟩ := State.finish_parts (((s.begun e).closeStage.readBytes g.addr g.len).2.log 0x0606 sevWarn
        ((s.params e).byte 0) 0x0501 2) (s.ticket e) ⟨0x0501, 0, 2⟩
      refine ⟨hfs.trans hstage, fun h => (by cases h), fun _ => ⟨ht, hfp.trans hpsets, ?_⟩⟩
      exact sent_of_prefix ⟨[], [], by rw [hfe, List.append_nil]; rfl⟩ hev
  case erase =>
    intro e s h hid hz hm ht
    refine completes_of_finish h rfl (cmdPsetErase_of_unused (s := s.begun e) _ hid hz hm ht) rfl fun ha => ⟨ha, ?_⟩
    exact (State.finish_parts _ _ _).2.1
  case list =>
    intro e s h hz
    exact completes_of_finish h rfl (cmdPsetList_eq (s := s.begun e) _ hz) rfl fun ht => ht

end Sys2Proof.Machine

/-!
PROOFS. What is noted beside a request on the bus (for O6, O8, O21): the performance banks count, a refusal is captured, events are sent.
Unlike `Aside`, this leaves alone whatever a target reads or counts itself.
-/

namespace Sys2Proof.Machine

open Host

variable {s t u : State} {rs : List Reg}

/-- The registers of the performance banks that count, and the causes they raise. -/
def countRegs : List Reg := [.CNT_VAL, .CNT_BANK_OVF, .CNT_CAUSE, .CNT_DIE_CAUSE]

/-- The registers that a response other than OK changes, where it is captured. -/
def captureRegs : List Reg := [.WELT_ERR_ADDR, .WELT_ERR_INFO, .HIF_SPI_STAT, .HIF_SPI_ERR_ADDR, .HIF_CAUSE]

/-- From `s` to `t` something was noted in the registers `rs`, in the event log or in the controllers. -/
structure Noted (rs : List Reg) (s t : State) : Prop where
  parts : ∃ f q c e rt k, t = { s with freeIx := f, regs := q, cnts := c, events := e, rate := rt, ctl := k }
  regs : SameRegs rs s t
  events : s.events <+: t.events

namespace Noted

theorem refl : Noted rs s s := ⟨⟨_, _, _, _, _, _, rfl⟩, fun _ _ _ _ => ⟨rfl, rfl, rfl⟩, List.prefix_refl _⟩

theorem trans (h : Noted rs s t) (h' : Noted rs t u) : Noted rs s u where
  parts := by
    obtain ⟨_, _, _, _, _, _, rfl⟩ := h.parts
    obtain ⟨_, _, _, _, _, _, rfl⟩ := h'.parts
    exact ⟨_, _, _, _, _, _, rfl⟩
  regs r hr k i := by
    obtain ⟨h1, h2, h3⟩ := h.regs r hr k i
    obtain ⟨h1', h2', h3'⟩ := h'.regs r hr k i
    exact ⟨h1'.trans h1, h2'.trans h2, h3'.trans h3⟩
  events := h.events.trans h'.events

theorem ite {p : Prop} [Decidable p] (h : Noted rs s t) (h' : Noted rs s u) : Noted rs s (if p then t else u) := by
  split
  · exact h
  · exact h'

theorem foldl {α : Type} {f : State → α → State} (hf : ∀ s a, Noted rs s (f s a)) (l : List α) (s : State) : Noted rs s (l.foldl f s) := by
  induction l generalizing s with
  | nil => exact .refl
  | cons a l ih => exact (hf s a).trans (ih (f s a))

/-- A wider list of registers. -/
theorem mono {rs' : List Reg} (h : Noted rs s t) (hs : rs ⊆ rs') : Noted rs' s t := { h with regs := fun r hr => h.regs r fun hm => hr (hs hm) }

/-- What is noted happens beside the effect. -/
theorem aside {rs' : List Reg} {rd : Bool} (h : Noted rs s t) (hs : rs ⊆ sideRegs ++ rs') : Aside rs' rd s t where
  parts := by
    obtain ⟨_, _, _, _, _, _, rfl⟩ := h.parts
    exact ⟨_, _, _, _, _, _, _, _, _, rfl⟩
  racks r := by
    obtain ⟨_, _, _, _, _, _, rfl⟩ := h.parts
    rfl
  regs r hr := h.regs r fun hm => hr (hs hm)
  events := h.events
  mem _ := by
    obtain ⟨_, _, _, _, _, _, rfl⟩ := h.parts
    rfl
  holds a d hd := by
    obtain ⟨_, _, _, _, _, _, rfl⟩ := h.parts
    exact hd

theorem reg_eq (h : Noted rs s t) {r : Reg} (hr : r ∉ rs) (k i : Nat) : t.reg r k i = s.reg r k i := (h.regs r hr k i).1

theorem cnt_eq (h : Noted rs s t) {r : Reg} (hr : r ∉ rs) (k i : Nat) : t.cnt r k i = s.cnt r k i := (h.regs r hr k i).2.1

theorem wide_eq (h : Noted rs s t) (r : Reg) (k i : Nat) : t.wide r k i = s.wide r k i := by
  obtain ⟨_, _, _, _, _, _, rfl⟩ := h.parts
  rfl

theorem fld_eq (h : Noted rs s t) {f : Fld} (hr : f.reg ∉ rs) (k i : Nat) : t.fld f k i = s.fld f k i := by
  rw [State.fld, State.fld, h.reg_eq hr]

theorem flag_eq (h : Noted rs s t) {f : Fld} (hr : f.reg ∉ rs) (k i : Nat) : t.flag f k i = s.flag f k i := by
  rw [State.flag_eq, State.flag_eq, h.fld_eq hr]

theorem word_eq (h : Noted rs s t) (a : Nat) : t.word a = s.word a := by
  obtain ⟨_, _, _, _, _, _, rfl⟩ := h.parts
  rfl

theorem rackOf_eq (h : Noted rs s t) (r : Nat) : t.rackOf r = s.rackOf r := by
  obtain ⟨_, _, _, _, _, _, rfl⟩ := h.parts
  rfl

theorem last_eq (h : Noted rs s t) (r l : Nat) : t.last r l = s.last r l := by
  obtain ⟨_, _, _, _, _, _, rfl⟩ := h.parts
  rfl

/-! ## The operations -/

theorem setReg {r : Reg} (s : State) (v : W32) (k i : Nat) (h : r ∈ rs := by simp [countRegs]) : Noted rs s (s.setReg r v k i) :=
  ⟨⟨_, _, _, _, _, _, rfl⟩, fun r' hr _ _ => ⟨s.reg_setReg_reg (fun e => hr (by rwa [e])) _ _ _ _ _, rfl, rfl⟩, List.prefix_refl _⟩

theorem raise {f : Fld} (s : State) (k i : Nat) (h : f.reg ∈ rs := by simp [countRegs]) : Noted rs s (s.raise f k i) := setReg s _ k i h

theorem setCnt {r : Reg} (s : State) (v : W48) (k i : Nat) (h : r ∈ rs := by simp [countRegs]) : Noted rs s (s.setCnt r v k i) :=
  ⟨⟨_, _, _, _, _, _, rfl⟩, fun r' hr _ _ => ⟨rfl, (s.cnt_setCnt _ _ _ _ _ _ _).trans (if_neg fun ⟨e, _⟩ => hr (by rwa [e])), rfl⟩,
    List.prefix_refl _⟩

theorem logRate (s : State) (obj code sev p0 p1 p2 p3 : Nat) : Noted rs s (s.logRate obj code sev p0 p1 p2 p3) := by
  unfold State.logRate
  exact .ite ⟨⟨_, _, _, _, _, _, rfl⟩, fun _ _ _ _ => ⟨rfl, rfl, rfl⟩, List.prefix_append _ _⟩ .refl

theorem free (s : State) : Noted rs s s.free.2 := ⟨⟨_, _, _, _, _, _, rfl⟩, fun _ _ _ _ => ⟨rfl, rfl, rfl⟩, List.prefix_refl _⟩

theorem cntOverflow (s : State) (r : Reg) (k i : Nat) : Noted countRegs s (s.cntOverflow r k i) := by
  unfold State.cntOverflow
  split
  · exact .refl
  · exact ((ite (setReg _ _ _ _) .refl).trans (ite (raise _ _ _) (raise _ _ _))).trans (logRate _ _ _ _ _ _ _ _)

theorem inc (s : State) (k i n : Nat) : Noted countRegs s (s.inc .CNT_VAL k i n) := by
  obtain e | e := State.inc_performance_cases (r := .CNT_VAL) (k := k) rfl s i n
  · rw [e]
    exact setCnt _ _ _ _
  · rw [e]
    exact (setCnt _ _ _ _).trans (cntOverflow _ _ _ _)

theorem perfPriv (s : State) (k n : Nat) (g : PerfTag) : Noted countRegs s (s.perfPriv k n g).2 := by
  unfold State.perfPriv
  split
  · exact .refl
  · split
    · exact .refl
    · exact .refl
    · exact .refl
    · exact free s

theorem perfOne (s : State) (k code : Nat) (g : PerfTag) (c n : Nat) : Noted countRegs s (s.perfOne k code g c n) := by
  unfold State.perfOne
  exact ite ((perfPriv s k n g).trans (ite (inc _ _ _ _) .refl)) .refl

theorem perf (s : State) (k code : Nat) (g : PerfTag := {}) (c : Nat := 1) : Noted countRegs s (s.perf k code g c) := by
  unfold State.perf
  exact ite .refl (foldl (fun s n => perfOne s k code g c n) _ _)

theorem countMessages (s : State) (m : Master) (i : Nat) : Noted countRegs s (s.countMessages m i) := by
  unfold State.countMessages
  extract_lets req rsp x
  have hx : Noted countRegs s x := (perf _ _ _ _ _).trans (perf _ _ _ _ _)
  split
  · exact .refl
  · split
    · exact hx.trans ((perf _ _ _ _ _).trans (perf _ _ _ _ _))
    · exact hx

theorem put {f : Fld} (s : State) (v k i : Nat) (h : f.reg ∈ rs) : Noted rs s (s.put f v k i) := setReg s _ k i h

theorem log (s : State) (code sev p0 p1 p2 p3 : Nat) : Noted rs s (s.log code sev p0 p1 p2 p3) :=
  ⟨⟨_, _, _, _, _, _, rfl⟩, fun _ _ _ _ => ⟨rfl, rfl, rfl⟩, List.prefix_append _ _⟩

theorem capture447 (s : State) (m : Master) (a : Nat) (r : Resp) : Noted captureRegs s (s.capture447 m a r) := by
  unfold State.capture447
  exact .ite .refl ((setReg _ _ _ _ (by simp [captureRegs])).trans (setReg _ _ _ _ (by simp [captureRegs])))

theorem captureSpi (s : State) (m : Master) (a : Nat) (r : Resp) : Noted captureRegs s (s.captureSpi m a r) := by
  unfold State.captureSpi
  refine .ite .refl ?_
  exact ((put _ _ _ _ (by simp [captureRegs])).trans (raise _ _ _ (by simp [captureRegs]))).trans
    ((setReg _ _ _ _ (by simp [captureRegs])).trans (raise _ _ _ (by simp [captureRegs])))

theorem haltDma (s : State) (chan a : Nat) : Noted rs s (s.haltDma chan a) := by
  unfold State.haltDma
  exact .ite .refl ⟨⟨_, _, _, _, _, _, rfl⟩, fun _ _ _ _ => ⟨rfl, rfl, rfl⟩, List.prefix_append _ _⟩

/-- Whatever the master's reply is. -/
theorem replies (h : Noted rs s t) (q : List (Nat × BusReply)) : Noted rs { s with replies := q } { t with replies := q } where
  parts := by
    obtain ⟨_, _, _, _, _, _, rfl⟩ := h.parts
    exact ⟨_, _, _, _, _, _, rfl⟩
  regs := h.regs
  events := h.events

/-- What is noted beside a reply leaves the words where the target left them. -/
theorem word_of_replies {q : List (Nat × BusReply)} (h : Noted rs { s with replies := q } t) (a : Nat) : t.word a = s.word a := h.word_eq a

theorem reg_of_replies {q : List (Nat × BusReply)} (h : Noted rs { s with replies := q } t) {r : Reg} (hr : r ∉ rs) (k i : Nat) :
    t.reg r k i = s.reg r k i := h.reg_eq hr k i

theorem fld_of_replies {q : List (Nat × BusReply)} (h : Noted rs { s with replies := q } t) {f : Fld} (hr : f.reg ∉ rs) (k i : Nat) :
    t.fld f k i = s.fld f k i := h.fld_eq hr k i

theorem cnt_of_replies {q : List (Nat × BusReply)} (h : Noted rs { s with replies := q } t) {r : Reg} (hr : r ∉ rs) (k i : Nat) :
    t.cnt r k i = s.cnt r k i := h.cnt_eq hr k i

theorem wide_of_replies {q : List (Nat × BusReply)} (h : Noted rs { s with replies := q } t) (r : Reg) (k i : Nat) :
    t.wide r k i = s.wide r k i := h.wide_eq r k i

theorem rackOf_of_replies {q : List (Nat × BusReply)} (h : Noted rs { s with replies := q } t) (r : Nat) : t.rackOf r = s.rackOf r :=
  h.rackOf_eq r

end Noted

end Sys2Proof.Machine

/-!
PROOFS. A request on the bus that its target serves (for O6, O8 and O21): from the request to the response (R21–R36).
-/

namespace Sys2Proof.Machine

open Host

variable {s₀ s t : State} {m : Master} {op : BusOp} {a : Nat} {fail : Option Bool}

/-- An OK response is captured nowhere. -/
theorem State.capture447_ok (s : State) (m : Master) (a : Nat) : s.capture447 m a .ok = s := by
  unfold State.capture447
  exact if_pos (.inl rfl)

theorem State.captureSpi_ok (s : State) (m : Master) (a : Nat) : s.captureSpi m a .ok = s := by
  unfold State.captureSpi
  exact if_pos (.inr (.inl rfl))

/-! ## The response -/

/-- What a delivered response leaves: the master has its reply, and what the response was is noted where that is done. -/
structure Replied (m : Master) (resp : Resp) (lo : W32) (s t : State) : Prop where
  resp : (t.reply m).resp = resp
  lo : (t.reply m).lo = lo
  noted : Noted captureRegs { s with replies := t.replies } t

theorem State.reply_respond (s : State) (m : Master) (r : Resp) (lo hi : W32) : (s.respond m r lo hi).reply m = { resp := r, lo := lo, hi := hi } :=
  lookup_writeAt_self _ _ _ _ _

theorem delivered (s : State) (m : Master) (op : BusOp) (a chan : Nat) {r : BusReply} (h : r.more = []) :
    Replied m r.resp r.lo s (s.deliver m op a chan r) := by
  have hspi := Noted.captureSpi s m a r.resp
  have hreply := State.reply_respond (s.captureSpi m a r.resp) m r.resp r.lo r.hi
  have hresp := congrArg BusReply.resp hreply
  have hlo := congrArg BusReply.lo hreply
  unfold State.deliver
  extract_lets x old y
  have hy : y = x := if_pos h
  rw [hy]
  have hx : Noted captureRegs { s with replies := x.replies } x := hspi.replies _
  split
  · have hdma := Noted.haltDma (rs := captureRegs) x chan a
    have hq : (x.haltDma chan a).replies = x.replies := by
      obtain ⟨_, _, _, _, _, _, e⟩ := hdma.parts
      rw [e]
    have hr : (x.haltDma chan a).reply m = x.reply m := by
      unfold State.reply
      rw [hq]
    refine ⟨?_, ?_, ?_⟩
    · rw [hr]
      exact hresp
    · rw [hr]
      exact hlo
    · rw [hq]
      exact hx.trans hdma
  · exact ⟨hresp, hlo, hx⟩

/-! ## The request -/

/-- What a request needs beside `Issues` to be served: the width and alignment that R5 asks for, and for a write the master's
permission for all of what is at the address. -/
structure Admitted (s : State) (m : Master) (op : BusOp) (a : Nat) : Prop where
  issues : Issues s m a
  width : widthOk m op a = true
  host : isWrite op = true → isHost m = true → s.hostPerm m a = .full
  debug : isWrite op = true → m = .jtag → s.fld SEC_STAT.DEBUG_LEVEL = 2

theorem Admitted.request (h : Admitted s m op a) (fail : Option Bool) : s.request m op a fail =
    (s.fabric m op a fail).st.deliver m op a (s.chanFor m) (s.fabric m op a fail).reply := by
  obtain ⟨⟨hcan, hwait, hcredit, -⟩, hwidth, hhost, hdebug⟩ := h
  have hno : ¬ (isWrite op = true ∧ isHost m = true ∧ s.hostPerm m a = .no) := by
    rintro ⟨hw, hm, hp⟩
    rw [hhost hw hm] at hp
    cases hp
  have hlevel : ¬ (isWrite op = true ∧ m = .jtag ∧ s.fld SEC_STAT.DEBUG_LEVEL ≠ 2) := by
    rintro ⟨hw, hm, hl⟩
    exact hl (hdebug hw hm)
  unfold State.request State.requestOn
  rw [if_neg (by rw [hcan]; decide), if_neg hno, if_neg hlevel, if_neg (by rw [hwidth]; decide), if_neg (by rw [hwait]; decide)]
  unfold State.issueTo
  rw [if_pos hcredit]

/-- The access of an admitted request is that of a master that may write all of the address. -/
theorem Admitted.fabric (h : Admitted s m op a) (fail : Option Bool) : s.fabric m op a fail =
    { s.serve m op a true fail with
      st := (s.serve m op a true fail).st.capture447 m a (s.serve m op a true fail).resp,
      data := if isWrite op then 0 else (s.serve m op a true fail).data } := by
  have hfull : (!(isHost m && isWrite op) || s.hostPerm m a != .w1c) = true := by
    cases hw : isWrite op with
    | false => simp
    | true =>
      cases hm : isHost m with
      | false => simp
      | true =>
        rw [h.host hw hm]
        decide
  unfold State.fabric
  rw [hfull]

/-- A command that makes an admitted request, which its target answers. -/
theorem completes_of_served {cmd : Instr} {P : State → Prop} {r : Resp} {d : W64} {u : State}
    (he : Machine.exec cmd s₀ = .next (s.request m op a fail)) (h : Admitted s m op a)
    (ho : s.serve m op a true fail = { resp := r, data := d, st := u })
    (hP : ∀ t, Replied m r ((if isWrite op then 0 else d).setWidth 32) u t → P t) : Completes cmd s₀ P := by
  have hf := h.fabric fail
  rw [ho] at hf
  refine ⟨_, he, ?_⟩
  rw [h.request, hf]
  obtain ⟨hr, hlo, hn⟩ := delivered (u.capture447 m a r) m op a (s.chanFor m)
    (r := ⟨r, (if isWrite op then 0 else d).setWidth 32, (if isWrite op then 0 else d).extractLsb' 32 32, []⟩) rfl
  exact hP _ ⟨hr, hlo, ((Noted.capture447 u m a r).replies _).trans hn⟩

/-! ## The target (R21, R34) -/

/-- A request to a memory of an island that is on. -/
theorem State.serve_memory {b : Block} {off : Nat} {k : MemKind} (hb : blockAt a = some (b, off)) (hk : memKind b off = some k)
    (hs : s.serves a = true) (full : Bool) :
    s.serve m op a full fail = (s.countMessages m b.island).serveMem m op b k off a := by
  have hon : s.island b.island = .on := by
    unfold State.serves at hs
    rw [hb] at hs
    simpa using hs
  unfold State.serve
  simp only [hb, hk, hon]
  rfl

/-- A request to the registers of an island that is on. -/
theorem State.serve_registers {b : Block} {off : Nat} (hb : blockAt a = some (b, off)) (hk : memKind b off = none)
    (hs : s.serves a = true) (full : Bool) :
    s.serve m op a full fail = (s.countMessages m b.island).serveReg m op b off a full fail := by
  have hon : s.island b.island = .on := by
    unfold State.serves at hs
    rw [hb] at hs
    simpa using hs
  unfold State.serve
  simp only [hb, hk, hon]
  rfl

theorem Admitted.of_writes (h : Writes s m a) (hw : widthOk m op a = true) : Admitted s m op a := by
  obtain ⟨hi, hhost, hdebug⟩ := h
  exact ⟨hi, hw, fun _ => hhost, fun _ => hdebug⟩

theorem Admitted.of_read (h : Issues s m a) (hw : widthOk m op a = true) (hr : isWrite op = false) : Admitted s m op a :=
  ⟨h, hw, fun e => absurd (hr.symm.trans e) (by decide), fun e => absurd (hr.symm.trans e) (by decide)⟩

/-- A command that makes one request to a memory. -/
theorem completes_of_memory {cmd : Instr} {P : State → Prop} {b : Block} {off : Nat} {k : MemKind}
    (he : Machine.exec cmd s₀ = .next (s.request m op a fail)) (h : Admitted s m op a) (hb : blockAt a = some (b, off))
    (hk : memKind b off = some k)
    (hP : ∀ c, Noted countRegs s c → ∃ r d u, c.serveMem m op b k off a = { resp := r, data := d, st := u } ∧
      ∀ t, Replied m r ((if isWrite op then 0 else d).setWidth 32) u t → P t) : Completes cmd s₀ P := by
  obtain ⟨r, d, u, ho, hP⟩ := hP _ (Noted.countMessages s m b.island)
  exact completes_of_served he h ((State.serve_memory hb hk h.issues.2.2.2 true).trans ho) hP

/-- A command that makes one request to the registers. -/
theorem completes_of_registers {cmd : Instr} {P : State → Prop} {b : Block} {off : Nat}
    (he : Machine.exec cmd s₀ = .next (s.request m op a fail)) (h : Admitted s m op a) (hb : blockAt a = some (b, off))
    (hk : memKind b off = none)
    (hP : ∀ c, Noted countRegs s c → c = s.countMessages m b.island → ∃ r d u, c.serveReg m op b off a true fail = { resp := r, data := d, st := u } ∧
      ∀ t, Replied m r ((if isWrite op then 0 else d).setWidth 32) u t → P t) : Completes cmd s₀ P := by
  obtain ⟨r, d, u, ho, hP⟩ := hP _ (Noted.countMessages s m b.island) rfl
  exact completes_of_served he h ((State.serve_registers hb hk h.issues.2.2.2 true).trans ho) hP

end Sys2Proof.Machine

/-!
PROOFS. Reads and writes of protected memories over the bus (O8): where each memory lies (R20), and what its rule gives (R134, R160,
R213, R354–R356).
-/

namespace Sys2Proof.Machine

open Host

variable {s t c : State} {m : Master} {a : Nat}

/-! ## Where the memories lie (R20) -/

theorem blockAt_sram (h : 0x1000000 ≤ a) (h' : a < 0x1200000) : blockAt a = some (.sram, a - 0x1000000) := by
  unfold blockAt
  simp (disch := omega) only [if_neg, if_pos]

theorem regionOf_sram (h : 0x1000000 ≤ a) (h' : a < 0x1200000) : regionOf a = some (0, 0) := by
  unfold regionOf
  rw [if_neg (by omega), blockAt_sram h h']

/-- An address of a core die. -/
theorem blockAt_core {d off : Nat} (hd : d = 1 ∨ d = 2) (ho : off < 0x10000000) : blockAt (d * 0x10000000 + off) = coreBlockAt d off := by
  unfold blockAt
  obtain rfl | rfl := hd
  · simp (disch := omega) only [if_neg, if_pos]
    rw [show 1 * 0x10000000 + off - 0x10000000 = off by omega]
  · simp (disch := omega) only [if_neg, if_pos]
    rw [show 2 * 0x10000000 + off - 0x20000000 = off by omega]

theorem blockAt_pool {d o : Nat} (hd : d = 1 ∨ d = 2) (ho : o < 0x180000) : blockAt ((Block.pool d).base + o) = some (.pool d, o) := by
  have e : (Block.pool d).base + o = d * 0x10000000 + (0x8000000 + o) := by
    simp only [Block.base]
    omega
  rw [e, blockAt_core hd (by omega)]
  unfold coreBlockAt
  simp (disch := omega) only [if_neg, if_pos]
  rw [show 0x8000000 + o - 0x8000000 = o by omega]

theorem blockAt_ins {d o : Nat} (hd : d = 1 ∨ d = 2) (ho : o < 0x100000) : blockAt ((Block.ins d).base + o) = some (.ins d, o) := by
  have e : (Block.ins d).base + o = d * 0x10000000 + (0x400000 + o) := by
    simp only [Block.base]
    omega
  rw [e, blockAt_core hd (by omega)]
  unfold coreBlockAt
  simp (disch := omega) only [if_neg, if_pos]
  rw [show 0x400000 + o - 0x400000 = o by omega]

theorem blockAt_rack {r o : Nat} (hr : r < 64) (ho : o < 0x40000) : blockAt ((Block.rack r).base + o) = some (.rack r, o) := by
  have e : (Block.rack r).base + o = dieOfRack r * 0x10000000 + (0x2000000 + (r % 32) * 0x40000 + o) := by
    simp only [Block.base]
    omega
  have hd : dieOfRack r = 1 ∨ dieOfRack r = 2 := by
    unfold dieOfRack
    omega
  have hrack : 32 * (dieOfRack r - 1) + (0x2000000 + (r % 32) * 0x40000 + o - 0x2000000) / 0x40000 = r := by
    unfold dieOfRack
    omega
  rw [e, blockAt_core hd (by omega)]
  unfold coreBlockAt
  simp (disch := omega) only [if_neg, if_pos]
  rw [hrack, show (0x2000000 + (r % 32) * 0x40000 + o - 0x2000000) % 0x40000 = o by omega]

/-! ## One write of a word -/

/-- A merge into clean data (R355). -/
theorem State.writeCell_of_clean {wide : Bool} {data old : W64} {be : Nat} (h : classify (s.word (a / 8 * 8)) = .clean old)
    (hbe : (laneOf wide a data be).2 ≠ 0xFF) : s.writeCell m a wide data be =
      (.ok, s.writeWord (a / 8 * 8) (mergeBytes old (laneOf wide a data be).1 (laneOf wide a data be).2)) := by
  unfold State.writeCell State.mergeWord
  simp only [h, hbe, if_false]
  rfl

/-- A write of the whole word (R356). -/
theorem State.writeCell_full (s : State) (m : Master) (a : Nat) (data : W64) :
    s.writeCell m a true data 0xFF = (.ok, s.writeWord (a / 8 * 8) data) := rfl

/-- A write of some bytes of an uncorrectable word poisons it (R355). -/
theorem State.writeCell_of_bad {wide : Bool} {data : W64} {be : Nat}
    (h : classify (s.word (a / 8 * 8)) = .poison ∨ classify (s.word (a / 8 * 8)) = .uncorrectable)
    (hbe : (laneOf wide a data be).2 ≠ 0xFF) :
    ∃ q, s.writeCell m a wide data be = (.dataErr,
      (s.countUncorrectable (a / 8 * 8) (srcId m) kindPartial q).setWord (a / 8 * 8) (poisoned (dataOf (s.word (a / 8 * 8))))) := by
  unfold State.writeCell State.mergeWord
  obtain h | h := h
  · refine ⟨true, ?_⟩
    simp only [h, hbe, if_false]
    rfl
  · refine ⟨false, ?_⟩
    simp only [h, hbe, if_false]
    rfl

theorem State.word_setWord_self (s : State) (a : Nat) (x : W72) : (s.setWord a x).word a = x := by
  rw [State.word_setWord, if_pos rfl]

theorem laneOf_word_ne {data : W64} (h : a % 4 = 0) : (laneOf false a data 15).2 ≠ 0xFF := by
  have h8 : a % 8 = 0 ∨ a % 8 = 4 := by omega
  simp only [laneOf]
  obtain h8 | h8 := h8
  · simp [h8]
  · simp [h8]

/-- What an uncorrectable word counts, beside its capture and its report (R354, R361). -/
theorem State.noted_countUncorrectable {die region : Nat} (h : regionOf a = some (die, region)) (s : State) (src kind : Nat) (poison : Bool) :
    Noted [.MEM_ERR_LOC, .MEM_ERR_INFO] ((s.inc .MEM_UNCORR_CNT (regionUnit die region)).raise (MEM_CAUSE.UNCORR region) die)
      (s.countUncorrectable a src kind poison) := by
  unfold State.countUncorrectable
  simp only [h]
  refine .trans ?_ (.logRate _ _ _ _ _ _ _ _)
  refine .ite .refl ?_
  exact ((((Noted.setReg _ _ _ _ (by simp)).trans (.put _ _ _ _ (by simp))).trans (.put _ _ _ _ (by simp))).trans
    ((Noted.put _ _ _ _ (by simp)).trans (.put _ _ _ _ (by simp)))).trans (.raise _ _ _ (by simp))

theorem saturated_one (v : W48) : saturated v = if v = BitVec.allOnes 48 then v else v + 1 := by
  have hv := v.isLt
  split
  · next e =>
    rw [e]
    decide
  · next e =>
    have hne : v.toNat ≠ 2 ^ 48 - 1 := fun h => e (BitVec.eq_of_toNat_eq (h.trans (by decide)))
    apply BitVec.eq_of_toNat_eq
    simp only [saturated, cntMax, BitVec.toNat_ofNat, BitVec.toNat_add, Nat.min_def]
    split
    · rfl
    · omega

/-- An upset changes nothing but the word it reaches. -/
theorem State.hit_eq (s : State) (a : Nat) (x : W72) : ∃ m, s.hit a x = { s with mem := m } := by
  unfold State.hit State.upset
  split
  · split
    · exact ⟨_, rfl⟩
    · exact ⟨_, rfl⟩
  · exact ⟨_, rfl⟩

theorem cellOf_sram (h : 0x1000000 ≤ a) (h' : a < 0x1200000) : cellOf a = a / 8 * 8 := by
  unfold cellOf
  rw [blockAt_sram h h']
  rfl

/-! ## Reads of MGMT SRAM (R354) -/

section
variable {src : Master} {addr : W32} {upset : W72} {d : W64} {P : State → Prop}

theorem exec_memoryRead (reader : MemReader) (loc : MemLoc) (upset : W72) (s : State) :
    Machine.exec (.memoryRead reader loc upset) s = execMemoryRead reader loc upset s := rfl

/-- A 32-bit read of MGMT SRAM reads the word that holds its address. -/
theorem completes_of_sram_read (h : Issues s src addr.toNat) (h4 : addr.toNat % 4 = 0) (hl : 0x1000000 ≤ addr.toNat)
    (hu : addr.toNat < 0x1200000)
    (hP : ∀ c, Noted countRegs (s.hit (cellOf addr.toNat) upset) c →
      ∃ r d u, c.serveMem src .read32 .sram .words (addr.toNat - 0x1000000) addr.toNat = { resp := r, data := d, st := u } ∧
        ∀ t, Replied src r (d.setWidth 32) u t → P t) :
    Completes (.memoryRead (.bus src .word32) (.mapped addr) upset) s P := by
  obtain ⟨x, hx⟩ := s.hit_eq (cellOf addr.toNat) upset
  have hheld : s.pwr.held = false := by
    have hc := h.1
    unfold State.canIssue at hc
    simp only [Bool.and_eq_true, Bool.not_eq_true'] at hc
    exact hc.1.1.1.1
  have he : Machine.exec (.memoryRead (.bus src .word32) (.mapped addr) upset) s =
      .next ((s.hit (cellOf addr.toNat) upset).request src .read32 addr.toNat) := by
    rw [exec_memoryRead]
    unfold execMemoryRead
    rw [hheld]
    rfl
  have ha : Admitted (s.hit (cellOf addr.toNat) upset) src .read32 addr.toNat := by
    rw [hx]
    exact .of_read h (by simp [widthOk, h4]) rfl
  exact completes_of_memory he ha (blockAt_sram hl hu) rfl hP

/-- A read of a clean word delivers its data. -/
theorem memoryRead_of_clean (h : Issues s src addr.toNat) (h4 : addr.toNat % 4 = 0) (hl : 0x1000000 ≤ addr.toNat)
    (hu : addr.toNat < 0x1200000) (hc : classify ((s.hit (cellOf addr.toNat) upset).word (cellOf addr.toNat)) = .clean d) :
    Completes (.memoryRead (.bus src .word32) (.mapped addr) upset) s fun t =>
      Accepted t src ∧ (t.reply src).lo = d.extractLsb' (8 * (addr.toNat % 8)) 32 ∧
      t.word (cellOf addr.toNat) = (s.hit (cellOf addr.toNat) upset).word (cellOf addr.toNat) := by
  refine completes_of_sram_read h h4 hl hu fun c hn => ?_
  have hcell := cellOf_sram hl hu
  rw [← hn.word_eq, hcell] at hc
  have hread : c.readWord (addr.toNat / 8 * 8) (srcId src) kindRead = (some d, c.untrack 0 (addr.toNat / 8 * 8)) := by
    unfold State.readWord
    simp only [hc, regionOf_sram (a := addr.toNat / 8 * 8) (by omega) (by omega)]
  have hserve : c.serveMem src .read32 .sram .words (addr.toNat - 0x1000000) addr.toNat =
      { data := (d.extractLsb' (8 * (addr.toNat % 8)) 32).setWidth 64, st := c.untrack 0 (addr.toNat / 8 * 8) } := by
    simp only [State.serveMem, State.readMem32, State.readMem, hread, reduceCtorEq, if_false, Option.map_some]
  refine ⟨_, _, _, hserve, fun t ht => ⟨ht.resp, ht.lo.trans ?_, ?_⟩⟩
  · exact BitVec.setWidth_setWidth_of_le _ (by decide)
  · exact (ht.noted.word_of_replies _).trans (hn.word_eq _)

/-- A read of a poisoned word delivers no data and is counted. -/
theorem memoryRead_of_poisoned (h : Issues s src addr.toNat) (h4 : addr.toNat % 4 = 0) (hl : 0x1000000 ≤ addr.toNat)
    (hu : addr.toNat < 0x1200000) (hp : (s.hit (cellOf addr.toNat) upset).word (cellOf addr.toNat) = poisoned d) :
    Completes (.memoryRead (.bus src .word32) (.mapped addr) upset) s fun t =>
      (t.reply src).resp = .dataErr ∧
      t.cnt .MEM_UNCORR_CNT 0 = (if s.cnt .MEM_UNCORR_CNT 0 = BitVec.allOnes 48 then s.cnt .MEM_UNCORR_CNT 0 else
        s.cnt .MEM_UNCORR_CNT 0 + 1) ∧
      t.flag (MEM_CAUSE.UNCORR 0) 0 = true := by
  refine completes_of_sram_read h h4 hl hu fun c hn => ?_
  have hcell := cellOf_sram hl hu
  have hcnt : c.cnt .MEM_UNCORR_CNT 0 = s.cnt .MEM_UNCORR_CNT 0 := by
    obtain ⟨x, hx⟩ := s.hit_eq (cellOf addr.toNat) upset
    rw [hn.cnt_eq (by decide), hx]
    rfl
  rw [← hn.word_eq, hcell] at hp
  have hserve : c.serveMem src .read32 .sram .words (addr.toNat - 0x1000000) addr.toNat =
      { resp := .dataErr, st := c.countUncorrectable (addr.toNat / 8 * 8) (srcId src) kindRead true } := by
    simp only [State.serveMem, State.readMem32, State.readMem, State.readWord, hp, classify_poisoned, reduceCtorEq, if_false,
      Option.map_none]
  have hu := c.noted_countUncorrectable (regionOf_sram (a := addr.toNat / 8 * 8) (by omega) (by omega)) (srcId src) kindRead true
  refine ⟨_, _, _, hserve, fun t ht => ⟨ht.resp, ?_, ?_⟩⟩
  · rw [ht.noted.cnt_eq (by decide)]
    refine (hu.cnt_eq (by decide) 0 0).trans ((State.cnt_incBy (r := .MEM_UNCORR_CNT) (u' := 0) rfl 0 1 .MEM_UNCORR_CNT 0 0).trans ?_)
    rw [if_pos ⟨rfl, rfl, rfl⟩, ← hcnt]
    exact saturated_one _
  · rw [ht.noted.flag_eq (by decide)]
    exact (hu.flag_eq (by decide) 0 0).trans (State.flag_raise_self (f := MEM_CAUSE.UNCORR 0) (by decide) rfl 0 0)

end

/-! ## Writes of MGMT SRAM (R355, R356) -/

section
variable {src : Master} {addr : W32}

/-- A write whose target answers with what `State.writeMem` gives. -/
theorem completes_of_write32 {cmd : Instr} {P : State → Prop} {b : Block} {off : Nat} {k : MemKind} {data : W32}
    (he : Machine.exec cmd s = .next (s.request m (.write32 data) a)) (h : Writes s m a) (h4 : a % 4 = 0) (hb : blockAt a = some (b, off))
    (hk : memKind b off = some k)
    (hP : ∀ c, Noted countRegs s c → ∃ r u, c.writeMem m b off a false (data.setWidth 64) 0x0F = (r, u) ∧
      ∀ t, (t.reply m).resp = r → Noted captureRegs { u with replies := t.replies } t → P t) : Completes cmd s P := by
  refine completes_of_memory he (.of_writes h (by simp [widthOk, h4])) hb hk fun c hc => ?_
  obtain ⟨r, u, hw, hP⟩ := hP c hc
  refine ⟨r, 0, u, ?_, fun t ht => hP t ht.resp ht.noted⟩
  simp only [State.serveMem, hw]

theorem completes_of_write64 {cmd : Instr} {P : State → Prop} {b : Block} {off : Nat} {k : MemKind} {data : W64} {be : BitVec 8}
    (he : Machine.exec cmd s = .next (s.request m (.write64 data be) a)) (h : Writes s m a) (h8 : a % 8 = 0)
    (hm : m = .cobbler ∨ m = .dma) (hb : blockAt a = some (b, off)) (hk : memKind b off = some k)
    (hP : ∀ c, Noted countRegs s c → ∃ r u, c.writeMem m b off a true data be.toNat = (r, u) ∧
      ∀ t, (t.reply m).resp = r → Noted captureRegs { u with replies := t.replies } t → P t) : Completes cmd s P := by
  refine completes_of_memory he (.of_writes h (by simp [widthOk, h8, hm])) hb hk fun c hc => ?_
  obtain ⟨r, u, hw, hP⟩ := hP c hc
  refine ⟨r, 0, u, ?_, fun t ht => hP t ht.resp ht.noted⟩
  simp only [State.serveMem, hw]

/-- A write of some bytes of a word of MGMT SRAM, as the cell takes it. -/
theorem completes_of_sram_write {wide : Bool} {data : W64} {be : BitVec 8} {P : State → Prop} (h : Writes s src addr.toNat)
    (hw : if wide then addr.toNat % 8 = 0 ∧ (src = .cobbler ∨ src = .dma) ∧ be.toNat ≠ 0xFF else addr.toNat % 4 = 0)
    (hl : 0x1000000 ≤ addr.toNat) (hu : addr.toNat < 0x1200000)
    (hP : ∀ c d e, Noted countRegs s c → (laneOf wide addr.toNat d e).2 ≠ 0xFF →
      laneOf wide addr.toNat d e = (if wide then laneOf true addr.toNat data be.toNat
        else laneOf false addr.toNat ((data.setWidth 32).setWidth 64) 15) →
      ∃ r u, c.writeCell src addr.toNat wide d e = (r, u) ∧
      ∀ t, (t.reply src).resp = r → Noted captureRegs { u with replies := t.replies } t → P t) :
    Completes (.memoryPartialWrite src addr wide data be) s P := by
  cases wide with
  | true =>
    obtain ⟨h8, hm, hbe⟩ := hw
    exact completes_of_write64 (data := data) (be := be) rfl h h8 hm (blockAt_sram hl hu) rfl fun c hc => hP c _ _ hc hbe rfl
  | false =>
    exact completes_of_write32 (data := data.setWidth 32) rfl h hw (blockAt_sram hl hu) rfl fun c hc => hP c _ _ hc (laneOf_word_ne hw) rfl

/-- Some bytes of a clean word. -/
theorem memoryPartialWrite_of_clean {wide : Bool} {data old : W64} {be : BitVec 8} (h : Writes s src addr.toNat)
    (hw : if wide then addr.toNat % 8 = 0 ∧ (src = .cobbler ∨ src = .dma) ∧ be.toNat ≠ 0xFF else addr.toNat % 4 = 0)
    (hl : 0x1000000 ≤ addr.toNat) (hu : addr.toNat < 0x1200000) (hc : classify (s.word (addr.toNat / 8 * 8)) = .clean old) :
    Completes (.memoryPartialWrite src addr wide data be) s fun t =>
      let l :=
        if wide then
          laneOf true addr.toNat data be.toNat
        else
          laneOf false addr.toNat ((data.setWidth 32).setWidth 64) 15;
      Accepted t src ∧ t.word (addr.toNat / 8 * 8) = protect (mergeBytes old l.1 l.2) := by
  refine completes_of_sram_write h hw hl hu fun c d e hn hbe hlane => ?_
  rw [← hn.word_eq] at hc
  refine ⟨_, _, State.writeCell_of_clean hc hbe, fun t hr ht => ⟨hr, ?_⟩⟩
  rw [← hlane, ht.word_of_replies]
  exact State.word_writeWord_self _ _ _

/-- Some bytes of an uncorrectable word. -/
theorem memoryPartialWrite_of_bad {wide : Bool} {data : W64} {be : BitVec 8} (h : Writes s src addr.toNat)
    (hw : if wide then addr.toNat % 8 = 0 ∧ (src = .cobbler ∨ src = .dma) ∧ be.toNat ≠ 0xFF else addr.toNat % 4 = 0)
    (hl : 0x1000000 ≤ addr.toNat) (hu : addr.toNat < 0x1200000)
    (hc : classify (s.word (addr.toNat / 8 * 8)) = .poison ∨ classify (s.word (addr.toNat / 8 * 8)) = .uncorrectable) :
    Completes (.memoryPartialWrite src addr wide data be) s fun t =>
      (t.reply src).resp = .dataErr ∧ t.word (addr.toNat / 8 * 8) = poisoned (dataOf (s.word (addr.toNat / 8 * 8))) := by
  refine completes_of_sram_write h hw hl hu fun c d e hn hbe _ => ?_
  rw [← hn.word_eq] at hc ⊢
  obtain ⟨q, hq⟩ := State.writeCell_of_bad (m := src) (data := d) hc hbe
  refine ⟨_, _, hq, fun t hr ht => ⟨hr, ?_⟩⟩
  rw [ht.word_of_replies]
  exact State.word_setWord_self _ _ _

/-- A write of a whole native word at an address that is a multiple of 8. -/
theorem stored_full {u : State} {data : W64} (h8 : a % 8 = 0) (hu : u = c.writeWord (a / 8 * 8) data)
    (ht : Noted captureRegs { u with replies := t.replies } t) : t.word a = protect data := by
  rw [show a / 8 * 8 = a by omega] at hu
  rw [ht.word_of_replies, hu]
  exact State.word_writeWord_self _ _ _

theorem memoryFullWrite_stores {data : W64} (h : Writes s src addr.toNat) (h8 : addr.toNat % 8 = 0) (hm : src = .cobbler ∨ src = .dma)
    (hl : 0x1000000 ≤ addr.toNat) (hu : addr.toNat < 0x1200000) :
    Completes (.memoryFullWrite src addr data) s fun t => Accepted t src ∧ t.word addr.toNat = protect data :=
  completes_of_write64 (data := data) (be := 0xFF) rfl h h8 hm (blockAt_sram hl hu) rfl fun c _ =>
    ⟨_, _, c.writeCell_full src _ data, fun _ hr ht => ⟨hr, stored_full h8 rfl ht⟩⟩

end

/-! ## The windows of pool, slots and racks (R134, R160, R213) -/

section
variable {src : Master}

theorem not_isHost_of_wide (hm : src = .cobbler ∨ src = .dma) : isHost src = false := by
  obtain rfl | rfl := hm
  · rfl
  · rfl

/-- Neither the map of the pool nor the state of a port changes with what is noted. -/
theorem Noted.granuleOpen_eq {rs : List Reg} (h : Noted rs s t) (hr : .FEC_POOL_MAP ∉ rs) (d g : Nat) : t.granuleOpen d g = s.granuleOpen d g := by
  have hport (p : Nat) : t.port p = s.port p := by
    obtain ⟨_, _, _, _, _, _, rfl⟩ := h.parts
    rfl
  rw [State.granuleOpen, State.granuleOpen, h.flag_eq hr, h.fld_eq hr, hport]

theorem Noted.slotOpen_eq {rs : List Reg} (h : Noted rs s t) (hr : .INS_CFG ∉ rs) (hr' : .INS_MSG_STAT ∉ rs) (k : Nat) (r : Bool) (n : Nat) :
    t.slotOpen k r n = s.slotOpen k r n := by
  rw [State.slotOpen, State.slotOpen, h.flag_eq hr, h.fld_eq hr']

theorem Noted.spaceOpen_eq {rs : List Reg} (h : Noted rs s t) (hr : .RACK_STAT ∉ rs) (r : Nat) (sp : RackSpace) :
    t.spaceOpen r sp = s.spaceOpen r sp := by
  cases sp with
  | x l => rw [State.spaceOpen, State.spaceOpen, State.lastHalted, State.lastHalted, h.fld_eq hr]
  | y l => rw [State.spaceOpen, State.spaceOpen, State.lastHalted, State.lastHalted, h.fld_eq hr]
  | shared => rw [State.spaceOpen, State.spaceOpen, h.fld_eq hr]

theorem poolWindowWrite_stores {die : Fin 2} {word : Fin 196608} {data : W64}
    (h : Writes s src ((Block.pool (die.val + 1)).base + 8 * word)) (hm : src = .cobbler ∨ src = .dma)
    (ho : s.granuleOpen (die.val + 1) (8 * word.val / 0x1000) = true) :
    Completes (.poolWindowWrite src die word data) s fun t =>
      Accepted t src ∧ t.word ((Block.pool (die.val + 1)).base + 8 * word) = protect data := by
  have hd : die.val + 1 = 1 ∨ die.val + 1 = 2 := by omega
  have h8 : ((Block.pool (die.val + 1)).base + 8 * word) % 8 = 0 := by
    simp only [Block.base]
    omega
  refine completes_of_write64 (data := data) (be := 0xFF) rfl h h8 hm (blockAt_pool hd (by omega)) rfl fun c hc => ?_
  refine ⟨.ok, c.writeWord _ data, ?_, fun _ hr ht => ⟨hr, stored_full h8 rfl ht⟩⟩
  simp only [State.writeMem, not_isHost_of_wide hm, hc.granuleOpen_eq (by decide), ho, Bool.true_eq_false, Bool.false_eq_true, or_self, if_false]
  exact c.writeCell_full src _ data

theorem insSlotWrite_stores {k : Fin 8} {word : Fin 256} {data : W64} (h : Writes s src (slotAddr k false 0 + 8 * word))
    (hm : src = .cobbler ∨ src = .dma) (ho : s.slotOpen k false (word.val / 32) = true) :
    Completes (.insSlotWrite src k false word data) s fun t =>
      Accepted t src ∧ t.word (slotAddr k false 0 + 8 * word) = protect data := by
  have ha : slotAddr k false 0 + 8 * word = (Block.ins (dieOfLane k)).base + (0x8000 + 0x1000 * (k.val % 4) + 8 * word.val) := by
    simp only [slotAddr, Bool.false_eq_true, if_false]
    omega
  have hd : dieOfLane k = 1 ∨ dieOfLane k = 2 := by
    unfold dieOfLane
    omega
  have h8 : (slotAddr k false 0 + 8 * word) % 8 = 0 := by
    rw [ha]
    simp only [Block.base]
    omega
  have hb : blockAt (slotAddr k false 0 + 8 * word) = some (.ins (dieOfLane k), 0x8000 + 0x1000 * (k.val % 4) + 8 * word.val) := by
    rw [ha]
    exact blockAt_ins hd (by omega)
  have hk : memKind (.ins (dieOfLane k)) (0x8000 + 0x1000 * (k.val % 4) + 8 * word.val) = some .words := if_pos (by omega)
  have hlane : 4 * (dieOfLane k - 1) + (0x8000 + 0x1000 * (k.val % 4) + 8 * word.val - 0x8000) / 0x1000 = k := by
    unfold dieOfLane
    omega
  have hrecv : decide (0x800 ≤ (0x8000 + 0x1000 * (k.val % 4) + 8 * word.val - 0x8000) % 0x1000) = false := decide_eq_false (by omega)
  have hslot : (0x8000 + 0x1000 * (k.val % 4) + 8 * word.val - 0x8000) % 0x800 / 0x100 = word.val / 32 := by omega
  refine completes_of_write64 (data := data) (be := 0xFF) rfl h h8 hm hb hk fun c hc => ?_
  refine ⟨.ok, c.writeWord _ data, ?_, fun _ hr ht => ⟨hr, stored_full h8 rfl ht⟩⟩
  simp only [State.writeMem, hlane, hrecv, hslot, hc.slotOpen_eq (by decide) (by decide), ho, if_true]
  exact c.writeCell_full src _ data

/-! ### Racks (R134) -/

/-- Where a location of a rack's data memories lies in the rack's block. -/
theorem spaceAddr_eq (r : Nat) (sp : RackSpace) {n : Nat} (hn : n < 2048) :
    ∃ o, spaceAddr r sp n = (Block.rack r).base + o ∧ 0x20000 ≤ o ∧ o < 0x32000 ∧ o % 4 = 0 ∧ rackSpaceOf o = sp := by
  have hl (l : Fin 8) (x : Nat) (hx : x < 0x2000) : (Fin.ofNat 8 ((0x20000 + 0x2000 * l + x - 0x20000) / 0x2000) : Fin 8) = l := by
    apply Fin.ext
    simp only [Fin.ofNat]
    omega
  cases sp with
  | x l =>
    refine ⟨0x20000 + 0x2000 * l + 4 * (n % 1024), ?_, by omega, by omega, by omega, ?_⟩
    · simp only [spaceAddr, dataAddr, Bool.false_eq_true, if_false]
      omega
    · simp only [rackSpaceOf]
      rw [if_neg (by omega), if_pos (by omega), hl l _ (by omega)]
  | y l =>
    refine ⟨0x20000 + 0x2000 * l + (0x1000 + 4 * (n % 1024)), ?_, by omega, by omega, by omega, ?_⟩
    · simp only [spaceAddr, dataAddr, if_true]
      omega
    · simp only [rackSpaceOf]
      rw [if_neg (by omega), if_neg (by omega), hl l _ (by omega)]
  | shared =>
    refine ⟨0x30000 + 4 * n, ?_, by omega, by omega, by omega, ?_⟩
    · simp only [spaceAddr, sharedAddr]
      omega
    · exact if_pos (by omega)

theorem base_rack_mod (r : Nat) : (Block.rack r).base % 8 = 0 := by
  simp only [Block.base]
  omega

/-- A write of an open location of a rack's data memories. -/
theorem rackMemWrite_stores {rack : Fin 64} {space : RackSpace} {loc : Fin 2048} {data : W32}
    (h : Writes s src (spaceAddr rack space loc)) (ho : s.spaceOpen rack space = true) :
    Completes (.rackMemWrite src rack space loc data) s fun t =>
      Accepted t src ∧ t.word (spaceAddr rack space loc) = protect (locWord (data.setWidth 24)) := by
  obtain ⟨o, ha, hlo, hhi, h4, hsp⟩ := spaceAddr_eq rack space loc.isLt
  have hbase := base_rack_mod rack
  have hk : memKind (.rack rack) o = some .locs := by
    simp (disch := omega) only [memKind, if_neg, if_pos]
  refine completes_of_write32 (data := data) rfl h (by omega) (ha ▸ blockAt_rack rack.isLt (by omega)) hk fun c hc => ?_
  refine ⟨.ok, c.writeWord (spaceAddr rack space loc) (locWord (data.setWidth 24)), ?_, fun t hr ht => ⟨hr, ?_⟩⟩
  · have hopen : c.spaceOpen rack (rackSpaceOf (spaceAddr rack space loc - (Block.rack rack).base)) = true := by
      rw [ha, Nat.add_sub_cancel_left, hsp, hc.spaceOpen_eq (by decide), ho]
    simp only [State.writeMem, State.writeRack, State.writeLoc, hopen, if_true, BitVec.setWidth_setWidth_of_le data (by decide : 32 ≤ 64),
      BitVec.setWidth_eq]
    rw [if_neg (by omega)]
  · rw [ht.word_of_replies]
    exact State.word_writeWord_self _ _ _

/-- A half of a program word that a master may write. -/
theorem completes_of_prog_write {rack : Fin 64} {word : Fin 8192} {high : Bool} {data : W32} {P : State → Prop}
    (h : Writes s src (progAddr rack word + 4 * b2n high)) (hm : isHost src = false)
    (hP : ∀ c, Noted countRegs s c → ∃ r u, c.progWrite src rack word high data = (r, u) ∧
      ∀ t, (t.reply src).resp = r → Noted captureRegs { u with replies := t.replies } t → P t) :
    Completes (.progWordWrite src rack word high data) s P := by
  have hb2n : b2n high = 0 ∧ high = false ∨ b2n high = 1 ∧ high = true := by
    cases high with
    | false => exact .inl ⟨rfl, rfl⟩
    | true => exact .inr ⟨rfl, rfl⟩
  have hbase := base_rack_mod rack
  have ha : progAddr rack word + 4 * b2n high = (Block.rack rack).base + (0x10000 + 8 * word + 4 * b2n high) := by
    unfold progAddr
    omega
  have hk : memKind (.rack rack) (0x10000 + 8 * word + 4 * b2n high) = some .words := by
    simp (disch := omega) only [memKind, if_neg, if_pos]
  have hhigh : decide ((progAddr rack word + 4 * b2n high) % 8 = 4) = high := by
    obtain ⟨hn, rfl⟩ | ⟨hn, rfl⟩ := hb2n
    · exact decide_eq_false (by omega)
    · exact decide_eq_true (by omega)
  have hword : (0x10000 + 8 * word.val + 4 * b2n high - 0x10000) / 8 = word := by omega
  have he : Machine.exec (.progWordWrite src rack word high data) s = .next (s.request src (.write32 data) (progAddr rack word + 4 * b2n high)) :=
    rfl
  have h4 : (progAddr rack word + 4 * b2n high) % 4 = 0 := by omega
  have hb : blockAt (progAddr rack word + 4 * b2n high) = some (.rack rack, 0x10000 + 8 * word + 4 * b2n high) := by
    rw [ha]
    exact blockAt_rack rack.isLt (by omega)
  refine completes_of_write32 he h h4 hb hk fun c hc => ?_
  obtain ⟨r, u, hw, hP⟩ := hP c hc
  refine ⟨r, u, ?_, hP⟩
  simp only [State.writeMem, State.writeRack, hm, hhigh, hword, Bool.false_eq_true, if_false, if_true,
    BitVec.setWidth_setWidth_of_le data (by decide : 32 ≤ 64), BitVec.setWidth_eq, hw]
  rw [if_pos (by omega)]

/-- The low half is held for its master. -/
theorem progWordWrite_low {rack : Fin 64} {word : Fin 8192} {data : W32} (h : Writes s src (progAddr rack word)) (hm : isHost src = false)
    (hh : s.fld RACK_STAT.HALTED rack = 0xFF) :
    Completes (.progWordWrite src rack word false data) s fun t =>
      Accepted t src ∧ (srcId src, word.val, data) ∈ (t.rackOf rack).lows ∧ t.word (progAddr rack word) = s.word (progAddr rack word) := by
  refine completes_of_prog_write (high := false) (by simpa [b2n] using h) hm fun c hc => ?_
  have hhalted : c.fld RACK_STAT.HALTED rack = 0xFF := (hc.fld_eq (by decide) _ _).trans hh
  have hw : c.progWrite src rack word false data = (.ok, c.setRack rack { c.rackOf rack with
      lows := (c.rackOf rack).lows.filter (fun x => x.1 != srcId src) ++ [(srcId src, word.val, data)] }) := by
    simp only [State.progWrite, hhalted, ne_eq, not_true_eq_false, if_false, if_true]
  refine ⟨_, _, hw, fun t hr ht => ⟨hr, ?_, (ht.word_of_replies _).trans (hc.word_eq _)⟩⟩
  rw [ht.rackOf_of_replies]
  refine (congrArg RackSt.lows (State.rackOf_setRack_self _ _ _)).symm ▸ ?_
  simp

/-- A word leaving the loop caches leaves memory as it is. -/
theorem State.word_uncache (s : State) (r word a : Nat) : (s.uncache r word).word a = s.word a := by
  unfold State.uncache
  refine List.foldlRecOn (motive := fun t : State => t.word a = s.word a) _ _ rfl fun t ht l _ => ?_
  refine Eq.trans ?_ ht
  simp only
  split
  · rfl
  · rfl

/-- The high half of the same word writes all 64 bits. -/
theorem progWordWrite_high {rack : Fin 64} {word : Fin 8192} {data lo : W32} {m v : Nat} (h : Writes s src (progAddr rack word + 4))
    (hm : isHost src = false) (hh : s.fld RACK_STAT.HALTED rack = 0xFF)
    (hlow : (s.rackOf rack).lows.find? (fun x => x.1 == srcId src && x.2.1 == word.val) = some (m, v, lo)) :
    Completes (.progWordWrite src rack word true data) s fun t =>
      Accepted t src ∧ t.word (progAddr rack word) = protect (data ++ lo) := by
  refine completes_of_prog_write (high := true) (by simpa [b2n] using h) hm fun c hc => ?_
  have hhalted : c.fld RACK_STAT.HALTED rack = 0xFF := (hc.fld_eq (by decide) _ _).trans hh
  have hw : c.progWrite src rack word true data =
      (.ok, ((c.setRack rack { c.rackOf rack with lows := (c.rackOf rack).lows.filter (fun x => x.1 != srcId src) }).writeWord
        (progAddr rack word) (data ++ lo)).uncache rack word) := by
    rw [← hc.rackOf_eq] at hlow
    simp only [State.progWrite, hhalted, hlow, ne_eq, not_true_eq_false, if_false, Bool.true_eq_false]
  refine ⟨_, _, hw, fun t hr ht => ⟨hr, ?_⟩⟩
  rw [ht.word_of_replies]
  exact (State.word_uncache _ _ _ _).trans (State.word_writeWord_self _ _ _)

end

/-- Settles O8: a request to each memory is served by its rule, and what is noted beside it leaves the words alone. -/
theorem memoryAccessResults : Obligations.MemoryAccessResults := by
  unfold Obligations.MemoryAccessResults
  refine ⟨?_, ?_, ?_, ?_, ?_, ?_, ?_, ?_, ?_, ?_⟩
  · exact fun upset s src addr d h h4 hl hu hc => memoryRead_of_clean h h4 hl hu hc
  · exact fun upset s src addr d h h4 hl hu hp => memoryRead_of_poisoned h h4 hl hu hp
  · exact fun src addr wide data be s old h hw hl hu hc => memoryPartialWrite_of_clean h hw hl hu hc
  · exact fun src addr wide data be s h hw hl hu hc => memoryPartialWrite_of_bad h hw hl hu hc
  · exact fun src addr data s h h8 hm hl hu => memoryFullWrite_stores h h8 hm hl hu
  · exact fun src die word data s h hm ho => poolWindowWrite_stores h hm ho
  · exact fun src k word data s h hm ho => insSlotWrite_stores h hm ho
  · exact fun src rack space loc data s h ho => rackMemWrite_stores h ho
  · exact fun src rack word data s h hm hh => progWordWrite_low h hm hh
  · exact fun src rack word data s m v lo h hm hh hlow => progWordWrite_high h hm hh hlow

end Sys2Proof.Machine

/-!
PROOFS. The central counter reader (for O21): how an entry is stored and how a run ends (R140, R141).
-/

namespace Sys2Proof.Machine

open Host

variable {s u : State}

/-- What the reader finds as it was when a response comes: its own state, its status, the wide quantities and the mailbox. -/
structure RunKept (s u : State) : Prop where
  reader : u.reader = s.reader
  stat : u.reg .CNT_RD_STAT = s.reg .CNT_RD_STAT
  wides : u.wides = s.wides
  mbx : u.mbx = s.mbx
  events : s.events <+: u.events

theorem Noted.runKept {rs : List Reg} (h : Noted rs s u) (hr : .CNT_RD_STAT ∉ rs) : RunKept s u := by
  have hstat := h.reg_eq hr 0 0
  have hev := h.events
  obtain ⟨_, _, _, _, _, _, rfl⟩ := h.parts
  exact ⟨rfl, hstat, rfl, rfl, hev⟩

theorem Noted.reader_of_replies {rs : List Reg} {q : List (Nat × BusReply)} (h : Noted rs { s with replies := q } u) :
    u.reader = s.reader := by
  obtain ⟨_, _, _, _, _, _, rfl⟩ := h.parts
  rfl

theorem RunKept.fld_eq (h : RunKept s u) {f : Fld} (hf : f.reg = .CNT_RD_STAT) : u.fld f = s.fld f := by
  rw [State.fld, State.fld, hf, h.stat]

/-! ## The end of a run -/

/-- The span of the run is checked: more than 360 cycles an entry is reported. -/
def State.spanChecked (s : State) : State :=
  if 360 * s.reader.count < s.reader.elapsed then
    ((s.raise CNT_RD_STAT.SKEW_EXCEEDED).raise CNT_CAUSE.SKEW).log 0x1302 sevWarn s.reader.list s.reader.count
      (s.reader.elapsed % 2 ^ 32)
  else s

/-- The run is over: DONE and T_LAST. -/
def State.runDone (s : State) : State :=
  (((s.putFlag CNT_RD_STAT.BUSY false).raise CNT_RD_STAT.DONE).raise CNT_CAUSE.RD_DONE).setWide .CNT_RD_T_LAST
    (s.wide .CNT_RD_T_FIRST + BitVec.ofNat 256 s.reader.elapsed)

theorem State.readerEnd_eq (s : State) : s.readerEnd =
    match s.reader.waiter with
    | some w => s.runDone.spanChecked.finish w ⟨0, (s.runDone.spanChecked.reg .CNT_RD_STAT).toNat, s.reader.elapsed % 2 ^ 32⟩
    | none => s.runDone.spanChecked := rfl

/-- The completion of the command that waits leaves registers, wide quantities and events alone. -/
theorem State.readerEnd_parts (s : State) : s.readerEnd.regs = s.runDone.spanChecked.regs ∧
    s.readerEnd.wides = s.runDone.spanChecked.wides ∧ s.readerEnd.events = s.runDone.spanChecked.events := by
  rw [State.readerEnd_eq]
  split
  · next w _ =>
    obtain ⟨_, _, e⟩ := s.runDone.spanChecked.finish_eq w ⟨0, (s.runDone.spanChecked.reg .CNT_RD_STAT).toNat, s.reader.elapsed % 2 ^ 32⟩
    rw [e]
    exact ⟨rfl, rfl, rfl⟩
  · exact ⟨rfl, rfl, rfl⟩

theorem State.flag_of_regs {f : Fld} (h : u.regs = s.regs) (k i : Nat) : u.flag f k i = s.flag f k i := by
  simp only [State.flag, State.fld, State.reg, h]

theorem State.wides_spanChecked (s : State) : s.spanChecked.wides = s.wides := by
  unfold State.spanChecked
  split
  · rfl
  · rfl

theorem State.mbx_spanChecked (s : State) : s.spanChecked.mbx = s.mbx := by
  unfold State.spanChecked
  split
  · rfl
  · rfl

/-- The check of the span changes SKEW_EXCEEDED and its cause only. -/
theorem State.fld_spanChecked (s : State) {f : Fld} (hf : f.fits = true) (h : CNT_RD_STAT.SKEW_EXCEEDED.apart f = true)
    (h' : CNT_CAUSE.SKEW.apart f = true) (k i : Nat) : s.spanChecked.fld f k i = s.fld f k i := by
  unfold State.spanChecked
  split
  · rw [State.fld_log, State.raise_eq, State.fld_put_apart _ hf h', State.raise_eq, State.fld_put_apart _ hf h]
  · rfl

theorem State.flag_spanChecked (s : State) {f : Fld} (hf : f.fits = true) (h : CNT_RD_STAT.SKEW_EXCEEDED.apart f = true)
    (h' : CNT_CAUSE.SKEW.apart f = true) (k i : Nat) : s.spanChecked.flag f k i = s.flag f k i := by
  rw [State.flag_eq, State.flag_eq, s.fld_spanChecked hf h h']

/-- The end of a run leaves the fields of CNT_RD_STAT but BUSY and DONE. -/
theorem State.fld_runDone (s : State) {f : Fld} (hf : f.fits = true) (h : CNT_RD_STAT.BUSY.apart f = true)
    (h' : CNT_RD_STAT.DONE.apart f = true) (h'' : CNT_CAUSE.RD_DONE.apart f = true) (k i : Nat) : s.runDone.fld f k i = s.fld f k i := by
  unfold State.runDone
  rw [State.fld_setWide, State.raise_eq, State.fld_put_apart _ hf h'', State.raise_eq, State.fld_put_apart _ hf h', State.putFlag_eq,
    State.fld_put_apart _ hf h]

theorem State.flag_runDone (s : State) : s.runDone.flag CNT_RD_STAT.BUSY = false ∧ s.runDone.flag CNT_RD_STAT.DONE = true ∧
    s.runDone.flag CNT_CAUSE.RD_DONE = true := by
  simp only [State.runDone, State.flag_eq, State.fld_setWide, State.raise_eq, State.putFlag_eq]
  refine ⟨?_, ?_, ?_⟩
  · rw [State.fld_put_apart _ (by decide) (by decide), State.fld_put_apart _ (by decide) (by decide), State.fld_put_self _ (by decide)]
    rfl
  · rw [State.fld_put_apart _ (by decide) (by decide), State.fld_put_self _ (by decide)]
    rfl
  · rw [State.fld_put_self _ (by decide)]
    rfl

/-! ## An entry -/

/-- The reader takes a state. -/
def State.setReader (s : State) (r : ReaderSt) : State := { s with reader := r }

theorem State.fld_setReader (s : State) (r : ReaderSt) (f : Fld) (k i : Nat) : (s.setReader r).fld f k i = s.fld f k i := rfl

theorem State.wide_setReader (s : State) (r : ReaderSt) (q : Reg) (k i : Nat) : (s.setReader r).wide q k i = s.wide q k i := rfl

/-- What the reader stores for a response with a RESP code and a value. -/
def entryWord (code value : Nat) : Wide := BitVec.ofNat 256 ((if code = 0 then value % 2 ^ 48 else 0) + code * 2 ^ 56 + 2 ^ 63)

/-- The reader's state when an entry has been stored. -/
def ReaderSt.stored (r : ReaderSt) (elapsed : Nat) : ReaderSt := { r with index := r.index + 1, elapsed := r.elapsed + elapsed }

/-- The entry under way is stored, and the next one is under way. -/
def State.entryStored (s : State) (code value elapsed : Nat) : State :=
  ((s.setWide .CNT_RES (entryWord code value) 0 (64 * s.reader.list + s.reader.index)).setReader (s.reader.stored elapsed)).put
    CNT_RD_STAT.ENTRIES (s.reader.index + 1)

theorem State.readerStore_eq (s : State) (code value elapsed : Nat) : s.readerStore code value elapsed =
    if s.reader.count ≤ s.reader.index + 1 then (s.entryStored code value elapsed).readerEnd else s.entryStored code value elapsed := rfl

theorem State.fld_entryStored (s : State) (code value elapsed : Nat) {f : Fld} (hf : f.fits = true)
    (h : CNT_RD_STAT.ENTRIES.apart f = true) (k i : Nat) : (s.entryStored code value elapsed).fld f k i = s.fld f k i := by
  unfold State.entryStored
  rw [State.fld_put_apart _ hf h, State.fld_setReader, State.fld_setWide]

theorem State.flag_entryStored (s : State) (code value elapsed : Nat) {f : Fld} (hf : f.fits = true)
    (h : CNT_RD_STAT.ENTRIES.apart f = true) (k i : Nat) : (s.entryStored code value elapsed).flag f k i = s.flag f k i := by
  rw [State.flag_eq, State.flag_eq, s.fld_entryStored code value elapsed hf h]

theorem State.entries_entryStored (s : State) (code value elapsed : Nat) :
    (s.entryStored code value elapsed).fld CNT_RD_STAT.ENTRIES = (s.reader.index + 1) % 128 := by
  unfold State.entryStored
  rw [State.fld_put_self _ (by decide)]
  rfl

theorem State.wide_entryStored (s : State) (code value elapsed : Nat) (r : Reg) (k i : Nat) :
    (s.entryStored code value elapsed).wide r k i = if r = .CNT_RES ∧ k = 0 ∧ i = 64 * s.reader.list + s.reader.index then
      entryWord code value else s.wide r k i := by
  unfold State.entryStored
  rw [State.wide_put, State.wide_setReader, State.wide_setWide]

theorem State.events_entryStored (s : State) (code value elapsed : Nat) : (s.entryStored code value elapsed).events = s.events := by
  unfold State.entryStored State.setReader State.put State.setReg State.setWide
  rfl

theorem State.reader_entryStored (s : State) (code value elapsed : Nat) :
    (s.entryStored code value elapsed).reader = s.reader.stored elapsed := by
  unfold State.entryStored State.put State.setReg
  rfl

theorem State.mbx_entryStored (s : State) (code value elapsed : Nat) : (s.entryStored code value elapsed).mbx = s.mbx := by
  unfold State.entryStored State.setReader State.put State.setReg State.setWide
  rfl

/-- The end of a run keeps the results, and how many entries there are. -/
theorem State.wide_readerEnd (s : State) (r : Reg) (h : r ≠ .CNT_RD_T_LAST) (k i : Nat) : s.readerEnd.wide r k i = s.wide r k i := by
  rw [State.wide, s.readerEnd_parts.2.1, State.wides_spanChecked]
  exact (State.wide_setWide _ .CNT_RD_T_LAST r _ 0 k 0 i).trans (if_neg fun ⟨e, _⟩ => h e)

theorem State.entries_readerEnd (s : State) : s.readerEnd.fld CNT_RD_STAT.ENTRIES = s.fld CNT_RD_STAT.ENTRIES := by
  have h : s.readerEnd.fld CNT_RD_STAT.ENTRIES = s.runDone.spanChecked.fld CNT_RD_STAT.ENTRIES := by
    simp only [State.fld, State.reg, s.readerEnd_parts.1]
  rw [h, State.fld_spanChecked _ (by decide) (by decide) (by decide), State.fld_runDone _ (by decide) (by decide) (by decide) (by decide)]

/-- A run that has ended: status, time, span and the command that waits. -/
theorem State.readerEnd_done (s : State) :
    s.readerEnd.flag CNT_RD_STAT.BUSY = false ∧ s.readerEnd.flag CNT_RD_STAT.DONE = true ∧ s.readerEnd.flag CNT_CAUSE.RD_DONE = true ∧
    s.readerEnd.wide .CNT_RD_T_LAST = s.wide .CNT_RD_T_FIRST + BitVec.ofNat 256 s.reader.elapsed := by
  obtain ⟨hregs, hwides, -⟩ := s.readerEnd_parts
  obtain ⟨hbusy, hdone, hcause⟩ := s.flag_runDone
  refine ⟨?_, ?_, ?_, ?_⟩
  · rw [State.flag_of_regs hregs, State.flag_spanChecked _ (by decide) (by decide) (by decide), hbusy]
  · rw [State.flag_of_regs hregs, State.flag_spanChecked _ (by decide) (by decide) (by decide), hdone]
  · rw [State.flag_of_regs hregs, State.flag_spanChecked _ (by decide) (by decide) (by decide), hcause]
  · rw [State.wide, hwides, State.wides_spanChecked]
    refine (State.wide_setWide _ .CNT_RD_T_LAST .CNT_RD_T_LAST _ 0 0 0 0).trans (if_pos ⟨rfl, rfl, rfl⟩)

/-- A span within 360 cycles an entry is not reported, a longer one is. -/
theorem State.readerEnd_span (s : State) :
    (s.reader.elapsed ≤ 360 * s.reader.count → s.readerEnd.flag CNT_RD_STAT.SKEW_EXCEEDED = s.flag CNT_RD_STAT.SKEW_EXCEEDED) ∧
    (360 * s.reader.count < s.reader.elapsed → s.readerEnd.flag CNT_RD_STAT.SKEW_EXCEEDED = true ∧
      s.readerEnd.flag CNT_CAUSE.SKEW = true ∧
      Sent s s.readerEnd 0x1302 sevWarn s.reader.list s.reader.count (s.reader.elapsed % 2 ^ 32)) := by
  obtain ⟨hregs, -, hev⟩ := s.readerEnd_parts
  refine ⟨fun h => ?_, fun h => ?_⟩
  · have hc : s.runDone.spanChecked = s.runDone := if_neg (Nat.not_lt.2 h)
    rw [State.flag_of_regs hregs, hc, State.flag_eq, s.fld_runDone (by decide) (by decide) (by decide) (by decide)]
    rfl
  · have hc : s.runDone.spanChecked = ((s.runDone.raise CNT_RD_STAT.SKEW_EXCEEDED).raise CNT_CAUSE.SKEW).log 0x1302 sevWarn
        s.reader.list s.reader.count (s.reader.elapsed % 2 ^ 32) := if_pos h
    refine ⟨?_, ?_, [], [], ?_⟩
    · rw [State.flag_of_regs hregs, hc]
      have he := State.fld_put_apart (s.runDone.raise CNT_RD_STAT.SKEW_EXCEEDED) (f := CNT_CAUSE.SKEW) (g := CNT_RD_STAT.SKEW_EXCEEDED)
        (by decide) (by decide) 1 0 0 0 0
      have hs := State.flag_raise_self (s := s.runDone) (f := CNT_RD_STAT.SKEW_EXCEEDED) (by decide) rfl 0 0
      rw [State.flag_eq] at hs ⊢
      rw [← hs, ← he]
      rfl
    · rw [State.flag_of_regs hregs, hc]
      exact State.flag_raise_self (s := s.runDone.raise CNT_RD_STAT.SKEW_EXCEEDED) (f := CNT_CAUSE.SKEW) (by decide) rfl 0 0
    · rw [hev, hc]
      exact (List.append_nil _).symm ▸ rfl

/-- The command that waits for the run completes, if its eyelet still runs it. -/
theorem State.readerEnd_waiter (s : State) {w : Ticket} (hw : s.reader.waiter = some w) (ha : w.aqique = false)
    (hst : (s.eyelet w.eyelet).st = .running) (hser : (s.eyelet w.eyelet).serial = w.serial) (hr : (s.eyelet w.eyelet).reply = none) :
    (s.readerEnd.eyelet w.eyelet).reply = some ⟨0, (s.readerEnd.reg .CNT_RD_STAT).toNat, s.reader.elapsed % 2 ^ 32⟩ := by
  have heye : s.runDone.spanChecked.eyelet w.eyelet = s.eyelet w.eyelet := by
    rw [State.eyelet, State.mbx_spanChecked]
    rfl
  have hreg : s.readerEnd.reg .CNT_RD_STAT = s.runDone.spanChecked.reg .CNT_RD_STAT := by
    rw [State.reg, s.readerEnd_parts.1]
    rfl
  rw [hreg, State.readerEnd_eq, hw]
  simp only [State.finish, ha, Bool.false_eq_true, if_false, heye, hst, hser, hr, and_self, if_true, State.eyelet_setEyelet]

/-- The entry under way is stored with its RESP code and value, and the run goes on or ends. -/
theorem readerStored (h : RunKept s u) (hbusy : s.flag CNT_RD_STAT.BUSY = true) (code value elapsed : Nat) :
    ReaderStored s (u.readerStore code value elapsed) code (if code = 0 then value % 2 ^ 48 else 0) elapsed := by
  have hreader : (u.entryStored code value elapsed).reader = s.reader.stored elapsed := by
    rw [State.reader_entryStored, h.reader]
  have hwide (r : Reg) (k i : Nat) : (u.entryStored code value elapsed).wide r k i =
      if r = .CNT_RES ∧ k = 0 ∧ i = 64 * s.reader.list + s.reader.index then entryWord code value else s.wide r k i := by
    rw [State.wide_entryStored, h.reader, State.wide, h.wides, State.wide]
  have hstat {f : Fld} (hr : f.reg = .CNT_RD_STAT) (hf : f.fits = true) (ha : CNT_RD_STAT.ENTRIES.apart f = true) :
      (u.entryStored code value elapsed).flag f = s.flag f := by
    rw [State.flag_entryStored _ _ _ _ hf ha, State.flag_eq, h.fld_eq hr, State.flag_eq]
  have hent := u.entries_entryStored code value elapsed
  have heye (k : Nat) : (u.entryStored code value elapsed).eyelet k = s.eyelet k := by
    rw [State.eyelet, State.eyelet, State.mbx_entryStored, h.mbx]
  have hev : s.events <+: (u.entryStored code value elapsed).events := by
    rw [State.events_entryStored]
    exact h.events
  rw [State.readerStore_eq, h.reader] at *
  generalize u.entryStored code value elapsed = x at *
  unfold ReaderStored
  extract_lets r span
  split
  · next hend =>
    obtain ⟨hbusy', hdone, hcause, hlast⟩ := x.readerEnd_done
    obtain ⟨hshort, hlong⟩ := x.readerEnd_span
    have hwait {w : Ticket} := x.readerEnd_waiter (w := w)
    rw [hreader] at hshort hlong hwait hlast
    refine ⟨?_, ?_, fun hlt => absurd hend (Nat.not_le.2 hlt), fun _ => ⟨hbusy', hdone, hcause, ?_, fun hs => ?_, fun hs => ?_, ?_⟩⟩
    · rw [State.wide_readerEnd _ _ (by decide), hwide, if_pos ⟨rfl, rfl, rfl⟩]
      rfl
    · rw [State.entries_readerEnd, hent]
    · rw [hlast, hwide]
      rfl
    · rw [hshort hs]
      exact hstat rfl (by decide) (by decide)
    · obtain ⟨hskew, hskew', hsent⟩ := hlong hs
      exact ⟨hskew, hskew', sent_of_prefix hsent hev⟩
    · intro w hw ha hst hser hr
      rw [← heye] at hst hser hr
      exact hwait hw ha hst hser hr
  · next hgo =>
    refine ⟨?_, hent, fun _ => ⟨(hstat rfl (by decide) (by decide)).trans hbusy, hreader⟩, fun hle => absurd hle hgo⟩
    rw [hwide, if_pos ⟨rfl, rfl, rfl⟩]
    rfl

end Sys2Proof.Machine

/-!
PROOFS. The counter banks and the central reader's entries and commands (O21; R135, R136, R140, R141).
-/

namespace Sys2Proof.Machine

open Host

variable {s u c : State} {p : Params}

/-! ## What counting does to the counters of a bank -/

theorem State.cnt_inc_val (s : State) (k i n k' i' : Nat) : (s.inc .CNT_VAL k i n).cnt .CNT_VAL k' i' =
    if k' = k ∧ i' = i then s.cnt .CNT_VAL k i + BitVec.ofNat 48 n else s.cnt .CNT_VAL k' i' := by
  rw [State.cnt_inc_performance (r := .CNT_VAL) rfl]
  simp only [true_and]

theorem State.cnt_perfPriv (s : State) (k n : Nat) (g : PerfTag) (r : Reg) (k' i' : Nat) : (s.perfPriv k n g).2.cnt r k' i' = s.cnt r k' i' := by
  unfold State.perfPriv
  split
  · rfl
  · split
    · rfl
    · rfl
    · rfl
    · rfl

/-- One counter of a bank counts an event once, or does not, and no other counter changes. -/
theorem State.cnt_perfOne (s : State) (k code : Nat) (g : PerfTag) (n k' i' : Nat) :
    (s.perfOne k code g 1 n).cnt .CNT_VAL k' i' = s.cnt .CNT_VAL k' i' ∨
    (k' = k ∧ i' = n ∧ bitOf (s.fld CNT_BANK_CTL.EN k) n = true ∧ s.fld CNT_SEL.EVENT k n = code ∧
      (s.perfOne k code g 1 n).cnt .CNT_VAL k' i' = s.cnt .CNT_VAL k' i' + 1) := by
  unfold State.perfOne
  split
  · next h =>
    obtain ⟨hen, hev, -⟩ := h
    simp only
    split
    · rw [State.cnt_inc_val]
      split
      · next he =>
        obtain ⟨rfl, rfl⟩ := he
        exact .inr ⟨rfl, rfl, hen, hev, congrArg (· + BitVec.ofNat 48 1) (s.cnt_perfPriv k' i' g .CNT_VAL k' i')⟩
      · exact .inl (s.cnt_perfPriv k n g .CNT_VAL k' i')
    · exact .inl (s.cnt_perfPriv k n g .CNT_VAL k' i')
  · exact .inl rfl

/-- A counter of a bank counts an event at most once, and only where it is enabled and selects the event. -/
theorem State.cnt_perf (s : State) (k code : Nat) (g : PerfTag) (k' i' : Nat) :
    (s.perf k code g).cnt .CNT_VAL k' i' = s.cnt .CNT_VAL k' i' ∨
    (k' = k ∧ bitOf (s.fld CNT_BANK_CTL.EN k) i' = true ∧ s.fld CNT_SEL.EVENT k i' = code ∧
      (s.perf k code g).cnt .CNT_VAL k' i' = s.cnt .CNT_VAL k' i' + 1) := by
  have hfold (l : List Nat) (hl : l.Nodup) (t : State) (ht : Noted countRegs s t) :
      ((l.foldl (fun s n => s.perfOne k code g 1 n) t).cnt .CNT_VAL k' i' = t.cnt .CNT_VAL k' i') ∨
      (i' ∈ l ∧ k' = k ∧ bitOf (s.fld CNT_BANK_CTL.EN k) i' = true ∧ s.fld CNT_SEL.EVENT k i' = code ∧
        (l.foldl (fun s n => s.perfOne k code g 1 n) t).cnt .CNT_VAL k' i' = t.cnt .CNT_VAL k' i' + 1) := by
    induction l generalizing t with
    | nil => exact .inl rfl
    | cons n l ih =>
      obtain ⟨hn, hl⟩ := List.nodup_cons.1 hl
      have ih := ih hl (t.perfOne k code g 1 n) (ht.trans (Noted.perfOne t k code g 1 n))
      rw [List.foldl_cons]
      obtain h | ⟨rfl, rfl, hen, hev, h⟩ := t.cnt_perfOne k code g n k' i'
      · obtain e | ⟨hm, rest, hen, hev, e⟩ := ih
        · exact .inl (e.trans h)
        · exact .inr ⟨List.mem_cons_of_mem _ hm, rest, hen, hev, by rw [e, h]⟩
      · obtain e | ⟨hm, -⟩ := ih
        · rw [ht.fld_eq (by decide)] at hen hev
          exact .inr ⟨List.mem_cons_self, rfl, hen, hev, by rw [e, h]⟩
        · exact absurd hm hn
  unfold State.perf
  split
  · exact .inl rfl
  · obtain h | ⟨-, h⟩ := hfold (List.range 8) List.nodup_range s .refl
    · exact .inl h
    · exact .inr h

/-- A counter that is not enabled counts nothing. -/
theorem State.cnt_perf_of_off (s : State) (k code : Nat) (g : PerfTag) {k' i' : Nat} (h : bitOf (s.fld CNT_BANK_CTL.EN k') i' = false) :
    (s.perf k code g).cnt .CNT_VAL k' i' = s.cnt .CNT_VAL k' i' := by
  obtain e | ⟨rfl, hen, -⟩ := s.cnt_perf k code g k' i'
  · exact e
  · rw [h] at hen
    cases hen

theorem State.cnt_countMessages_of_off (s : State) (m : Master) (t : Nat) {k' i' : Nat} (h : bitOf (s.fld CNT_BANK_CTL.EN k') i' = false) :
    (s.countMessages m t).cnt .CNT_VAL k' i' = s.cnt .CNT_VAL k' i' := by
  have step (x : State) (hx : Noted countRegs s x) (k code : Nat) (g : PerfTag) (he : x.cnt .CNT_VAL k' i' = s.cnt .CNT_VAL k' i') :
      Noted countRegs s (x.perf k code g) ∧ (x.perf k code g).cnt .CNT_VAL k' i' = s.cnt .CNT_VAL k' i' := by
    refine ⟨hx.trans (Noted.perf x k code g), (x.cnt_perf_of_off k code g ?_).trans he⟩
    rw [hx.fld_eq (by decide), h]
  unfold State.countMessages
  extract_lets req rsp x
  obtain ⟨h1, e1⟩ := step s .refl t 0x06 req rfl
  obtain ⟨h2, e2⟩ := step _ h1 t 0x05 rsp e1
  split
  · rfl
  · split
    · next i _ =>
      obtain ⟨h3, e3⟩ := step _ h2 i 0x05 req e2
      exact (step _ h3 i 0x06 rsp e3).2
    · exact e2

/-! ## Clearing a bank (R135) -/

theorem State.cnt_bankClear (s : State) (k mask k' i' : Nat) : (s.bankClear k mask).cnt .CNT_VAL k' i' =
    if k' = k ∧ i' < 8 ∧ bitOf mask i' = true then 0 else s.cnt .CNT_VAL k' i' := by
  have hfold (l : List Nat) (t : State) :
      (l.foldl (fun (s : State) n => if bitOf mask n then s.setCnt .CNT_VAL 0 k n else s) t).cnt .CNT_VAL k' i' =
        if k' = k ∧ i' ∈ l ∧ bitOf mask i' = true then 0 else t.cnt .CNT_VAL k' i' := by
    induction l generalizing t with
    | nil => simp
    | cons n l ih =>
      rw [List.foldl_cons, ih]
      by_cases hm : k' = k ∧ i' ∈ l ∧ bitOf mask i' = true
      · rw [if_pos hm, if_pos ⟨hm.1, List.mem_cons_of_mem _ hm.2.1, hm.2.2⟩]
      · rw [if_neg hm]
        by_cases hn : k' = k ∧ i' = n ∧ bitOf mask i' = true
        · obtain ⟨rfl, rfl, hb⟩ := hn
          rw [if_pos hb, State.cnt_setCnt, if_pos ⟨rfl, rfl, rfl⟩, if_pos ⟨rfl, List.mem_cons_self, hb⟩]
        · have hc : ¬ (k' = k ∧ i' ∈ n :: l ∧ bitOf mask i' = true) := by
            rintro ⟨hk, hi, hb⟩
            obtain rfl | hi := List.mem_cons.1 hi
            · exact hn ⟨hk, rfl, hb⟩
            · exact hm ⟨hk, hi, hb⟩
          rw [if_neg hc]
          split
          · next hb =>
            rw [State.cnt_setCnt, if_neg]
            rintro ⟨-, hk, hi⟩
            exact hn ⟨hk, hi, hi ▸ hb⟩
          · rfl
  unfold State.bankClear
  rw [hfold]
  simp only [List.mem_range]

theorem State.regs_bankClear (s : State) (k mask : Nat) : (s.bankClear k mask).regs = s.regs := by
  unfold State.bankClear
  refine List.foldlRecOn (motive := fun t : State => t.regs = s.regs) _ _ rfl fun t ht n _ => ?_
  split
  · exact ht
  · exact ht

/-- The bank of an island answers at its block (R20). -/
theorem blockAt_bank {die : Fin 3} {n o : Nat} (hn : n < 0x100) (hi : isIsland (islandId die n) = true) (ho : o < 0x100) :
    blockAt ((Block.bank (islandId die n)).base + o) = some (.bank (islandId die n), o) := by
  have hid : islandId die n / 0x1000 = die ∧ islandId die n % 0x1000 = n := by
    unfold islandId
    omega
  obtain ⟨hdie, hnum⟩ := hid
  have hval := hi
  unfold isIsland at hval
  rw [hdie, hnum] at hval
  by_cases hz : die.val = 0
  · have h5 : islandId die n ≤ 5 := by simpa [hz] using hval
    have hb : (Block.bank (islandId die n)).base + o = 0x40B8000 + islandId die n * 0x100 + o := by
      simp only [Block.base]
      rw [if_pos (hdie.trans hz)]
    generalize islandId die n = id at *
    rw [hb]
    unfold blockAt
    simp (disch := omega) only [if_neg, if_pos]
    rw [show (0x40B8000 + id * 0x100 + o - 0x4000000) / 0x10000 = 11 by omega]
    show some (Block.bank _, _) = _
    rw [show ((0x40B8000 + id * 0x100 + o) % 0x10000 - 0x8000) / 0x100 = id by omega, show (0x40B8000 + id * 0x100 + o) % 0x100 = o by omega]
  · have hd : die.val = 1 ∨ die.val = 2 := by omega
    have hcore : n < 0xF0 := by
      simp [hz, coreIslands, List.mem_range'] at hval
      omega
    have hb : (Block.bank (islandId die n)).base + o = die * 0x10000000 + (0x4000000 + n * 0x1000 + o) := by
      simp only [Block.base, hdie, hnum, hz, if_false]
      omega
    rw [hb, blockAt_core hd (by omega)]
    unfold coreBlockAt
    simp (disch := omega) only [if_neg, if_pos]
    rw [show (0x4000000 + n * 0x1000 + o - 0x4000000) / 0x1000 = n by omega, if_pos hi,
      show (0x4000000 + n * 0x1000 + o) % 0x1000 = o by omega]

theorem bitOf_getBits (x : W32) {w n : Nat} (h : n < w) : bitOf (getBits x 0 w) n = bitOf x.toNat n := by
  unfold bitOf getBits
  rw [Nat.testBit_mod_two_pow, Nat.shiftRight_zero]
  simp [h]

/-- A register of one word that a master may write, and whose write has an effect of its own. -/
theorem State.serveReg_write32 {m : Master} {b : Block} {off a : Nat} {data : W32} {k : RKey} {sh : Bool} {t : State}
    (hb : busReg b off = some (k, 0, sh)) (hk : k.reg.words = 1) (hw : c.writeSpecial m k data none = some (.ok, t)) :
    c.serveReg m (.write32 data) b off a true none =
      { resp := .ok, st := t.perf b.island 0x03 { master := some (srcId m), addr := some a } } := by
  simp only [State.serveReg, State.writeReg, hb, hk, hw, ne_eq, not_true_eq_false, if_false, Bool.true_eq_false, Option.getD_some]

theorem cntBankClear_clears {src : Master} {die : Fin 3} {island : BitVec 8} {data : W32}
    (h : Writes s src ((Block.bank (islandId die island.toNat)).base + 4)) (hi : isIsland (islandId die island.toNat) = true) :
    Completes (.cntBankClear src die island data) s fun t =>
      let u := islandId die island.toNat;
      Accepted t src ∧
      ∀ n < 8,
        (bitOf data.toNat n = true →
         t.cnt .CNT_VAL u n = 0 ∨
         (t.cnt .CNT_VAL u n = 1 ∧ bitOf (s.fld CNT_BANK_CTL.EN u) n = true ∧ s.fld CNT_SEL.EVENT u n = 3)) ∧
        (bitOf data.toNat n = false → bitOf (s.fld CNT_BANK_CTL.EN u) n = false →
         t.cnt .CNT_VAL u n = s.cnt .CNT_VAL u n) := by
  have h4 : ((Block.bank (islandId die island.toNat)).base + 4) % 4 = 0 := by
    simp only [Block.base]
    split
    · omega
    · omega
  refine completes_of_registers rfl (.of_writes h (by simp [widthOk, h4])) (blockAt_bank island.isLt hi (by omega)) rfl fun c hc hcm => ?_
  refine ⟨_, _, _, State.serveReg_write32 (k := ⟨.CNT_BANK_CLR, _, 0⟩) rfl rfl rfl, fun t ht => ⟨ht.resp, fun n hn => ?_⟩⟩
  generalize islandId die island.toNat = u at *
  have ht' := ht.noted.cnt_of_replies (r := .CNT_VAL) (by decide) u n
  have hclear := c.cnt_bankClear u (getBits data 0 8) u n
  have hbit := bitOf_getBits data hn
  have hfld (f : Fld) (hf : f.reg ∉ countRegs) (i : Nat) : (c.bankClear u (getBits data 0 8)).fld f u i = s.fld f u i := by
    rw [← hc.fld_eq hf u i]
    simp only [State.fld, State.reg, State.regs_bankClear]
  refine ⟨fun hsel => ?_, fun hsel hoff => ?_⟩
  · rw [if_pos ⟨rfl, hn, hbit.trans hsel⟩] at hclear
    obtain e | ⟨-, hen, hev, e⟩ := (c.bankClear u (getBits data 0 8)).cnt_perf u 0x03
        { master := some (srcId src), addr := some ((Block.bank u).base + 4) } u n
    · exact .inl (ht'.trans (e.trans hclear))
    · rw [hclear] at e
      rw [hfld _ (by decide)] at hen hev
      exact .inr ⟨ht'.trans e, hen, hev⟩
  · rw [if_neg (by rw [hbit, hsel]; simp)] at hclear
    refine ht'.trans ((State.cnt_perf_of_off _ _ _ _ ?_).trans (hclear.trans ?_))
    · rw [hfld _ (by decide), hoff]
    · rw [hcm]
      exact s.cnt_countMessages_of_off src _ hoff

/-! ## Starting a run (R140) -/

/-- A run that starts. -/
def State.runStarted (s : State) (list count : Nat) (w : Option Ticket) : State :=
  ((s.setReader { list := list, count := count, waiter := w }).setReg .CNT_RD_STAT 1).setWide .CNT_RD_T_FIRST (BitVec.ofNat 256 s.mclk)

theorem State.readerStart_of_free (hb : s.flag CNT_RD_STAT.BUSY = false) {list count : Nat} (h1 : 1 ≤ count) (h64 : count ≤ 64)
    (w : Option Ticket) : s.readerStart list count w = s.runStarted list count w := by
  unfold State.readerStart
  rw [if_neg]
  · rfl
  · rintro (h | h | h)
    · rw [hb] at h
      cases h
    · omega
    · omega

theorem State.readerStart_of_busy {list count : Nat} {w : Option Ticket} (h : s.flag CNT_RD_STAT.BUSY = true ∨ count = 0 ∨ 64 < count) :
    s.readerStart list count w = s := if_pos h

/-- LIST and COUNT take their values. -/
def State.listed (s : State) (list count : Nat) : State := (s.put CNT_RD_CTL.LIST list).put CNT_RD_CTL.COUNT count

theorem State.fld_listed (s : State) (list count : Nat) :
    (s.listed list count).fld CNT_RD_CTL.LIST = list % 4 ∧ (s.listed list count).fld CNT_RD_CTL.COUNT = count % 128 := by
  unfold State.listed
  refine ⟨?_, State.fld_put_self _ (by decide) _ _ _⟩
  rw [State.fld_put_apart _ (by decide) (by decide)]
  exact State.fld_put_self _ (by decide) _ _ _

theorem State.reg_listed (s : State) (list count : Nat) {r : Reg} (h : r ≠ .CNT_RD_CTL) (k i : Nat) :
    (s.listed list count).reg r k i = s.reg r k i := (State.reg_put _ h _ _ _ _ _).trans (State.reg_put _ h _ _ _ _ _)

theorem State.flag_listed (s : State) (list count : Nat) {f : Fld} (h : f.reg ≠ .CNT_RD_CTL) (k i : Nat) :
    (s.listed list count).flag f k i = s.flag f k i := by
  rw [State.flag_eq, State.fld, State.reg_listed _ _ _ h, ← State.fld, State.flag_eq]

/-- A write of CNT_RD_CTL: LIST and COUNT take their values, and START starts a run. -/
theorem State.readerCtl_eq (s : State) (data : W32) : s.readerCtl data =
    if getBits data 16 1 = 1 then (s.listed (getBits data 0 2) (getBits data 8 7)).readerStart (getBits data 0 2) (getBits data 8 7) none
    else s.listed (getBits data 0 2) (getBits data 8 7) := rfl

/-- What a write of CNT_RD_CTL completes with, in terms of the state the reader is left in. -/
theorem completes_of_readerCtl {src : Master} {data : W32} {P : State → Prop} (h : Writes s src 0x40B0000)
    (hP : ∀ c t, Noted countRegs s c → Noted (countRegs ++ captureRegs) { c.readerCtl data with replies := t.replies } t → Accepted t src → P t) :
    Completes (.cntRdStart src data) s P := by
  refine completes_of_registers (b := .cnt) (off := 0) rfl (.of_writes h rfl) rfl rfl fun c hc _ => ?_
  refine ⟨_, _, _, State.serveReg_write32 (k := ⟨.CNT_RD_CTL, 0, 0⟩) rfl rfl rfl, fun t ht => hP c t hc ?_ ht.resp⟩
  exact (((Noted.perf _ _ _ _ _).mono (List.subset_append_left _ _)).replies t.replies).trans (ht.noted.mono (List.subset_append_right _ _))

theorem cntRdStart_starts {src : Master} {data : W32} (h : Writes s src 0x40B0000) (hb : s.flag CNT_RD_STAT.BUSY = false)
    (hst : getBits data 16 1 = 1) (h1 : 1 ≤ getBits data 8 7) (h64 : getBits data 8 7 ≤ 64) :
    Completes (.cntRdStart src data) s fun t =>
      Accepted t src ∧ t.reg .CNT_RD_STAT = 1 ∧ t.fld CNT_RD_CTL.LIST = getBits data 0 2 ∧
      t.fld CNT_RD_CTL.COUNT = getBits data 8 7 ∧
      t.reader = { list := getBits data 0 2, count := getBits data 8 7 } ∧
      t.wide .CNT_RD_T_FIRST = BitVec.ofNat 256 s.mclk := by
  refine completes_of_readerCtl h fun c t hc ht hr => ?_
  have hbusy : (c.listed (getBits data 0 2) (getBits data 8 7)).flag CNT_RD_STAT.BUSY = false := by
    rw [State.flag_listed _ _ _ (by decide), hc.flag_eq (by decide), hb]
  rw [State.readerCtl_eq, if_pos hst, State.readerStart_of_free hbusy h1 h64] at ht
  have hmclk : c.mclk = s.mclk := by
    obtain ⟨_, _, _, _, _, _, rfl⟩ := hc.parts
    rfl
  have hreader : t.reader = ((c.listed (getBits data 0 2) (getBits data 8 7)).runStarted (getBits data 0 2) (getBits data 8 7) none).reader :=
    ht.reader_of_replies
  obtain ⟨hlist, hcount⟩ := c.fld_listed (getBits data 0 2) (getBits data 8 7)
  have hctl {f : Fld} (hf : f.reg = .CNT_RD_CTL) : t.fld f = (c.listed (getBits data 0 2) (getBits data 8 7)).fld f := by
    refine (ht.fld_of_replies (by rw [hf]; decide) 0 0).trans ?_
    unfold State.runStarted
    rw [State.fld_setWide, State.fld_setReg _ (by rw [hf]; decide), State.fld_setReader]
  refine ⟨hr, ?_, ?_, ?_, hreader, ?_⟩
  · refine (ht.reg_of_replies (by decide) 0 0).trans ?_
    unfold State.runStarted
    rw [State.reg_setWide, State.reg_setReg_self]
  · exact (hctl rfl).trans (hlist.trans (Nat.mod_eq_of_lt (getBits_lt data 0 2)))
  · exact (hctl rfl).trans (hcount.trans (Nat.mod_eq_of_lt (getBits_lt data 8 7)))
  · refine (ht.wide_of_replies _ 0 0).trans ((State.wide_setWide _ .CNT_RD_T_FIRST .CNT_RD_T_FIRST _ 0 0 0 0).trans ?_)
    rw [if_pos ⟨rfl, rfl, rfl⟩]
    exact congrArg (BitVec.ofNat 256) hmclk

theorem cntRdStart_ignored {src : Master} {data : W32} (h : Writes s src 0x40B0000)
    (hno : s.flag CNT_RD_STAT.BUSY = true ∨ getBits data 16 1 = 0 ∨ getBits data 8 7 = 0 ∨ 64 < getBits data 8 7) :
    Completes (.cntRdStart src data) s fun t =>
      Accepted t src ∧ t.reg .CNT_RD_STAT = s.reg .CNT_RD_STAT ∧ t.fld CNT_RD_CTL.LIST = getBits data 0 2 ∧
      t.fld CNT_RD_CTL.COUNT = getBits data 8 7 ∧ t.reader = s.reader ∧
      t.wide .CNT_RD_T_FIRST = s.wide .CNT_RD_T_FIRST := by
  refine completes_of_readerCtl h fun c t hc ht hr => ?_
  have hctl : c.readerCtl data = c.listed (getBits data 0 2) (getBits data 8 7) := by
    rw [State.readerCtl_eq]
    split
    · next hst =>
      refine State.readerStart_of_busy ?_
      rw [State.flag_listed _ _ _ (by decide), hc.flag_eq (by decide)]
      obtain hb | hz | hn := hno
      · exact .inl hb
      · rw [hst] at hz
        cases hz
      · exact .inr hn
    · rfl
  rw [hctl] at ht
  have hk := hc.runKept (by decide)
  obtain ⟨hlist, hcount⟩ := c.fld_listed (getBits data 0 2) (getBits data 8 7)
  refine ⟨hr, ?_, ?_, ?_, ht.reader_of_replies.trans hk.reader, ?_⟩
  · exact (ht.reg_of_replies (by decide) 0 0).trans ((State.reg_listed _ _ _ (by decide) 0 0).trans hk.stat)
  · exact (ht.fld_of_replies (by decide) 0 0).trans (hlist.trans (Nat.mod_eq_of_lt (getBits_lt data 0 2)))
  · exact (ht.fld_of_replies (by decide) 0 0).trans (hcount.trans (Nat.mod_eq_of_lt (getBits_lt data 8 7)))
  · exact (ht.wide_of_replies _ 0 0).trans (hc.wide_eq _ 0 0)

/-! ## Entries (R140) -/

/-- The address of the entry under way. -/
def State.entryAddr (s : State) : Nat := (s.reg .CNT_LIST 0 (64 * s.reader.list + s.reader.index)).toNat

/-- Racks, clocks and snapshots are as they were. -/
structure Untouched (s t : State) : Prop where
  racks : t.racks = s.racks
  time : t.time = s.time
  snaps : t.snaps = s.snaps

namespace Untouched

variable {t : State}

theorem trans (h : Untouched s t) (h' : Untouched t u) : Untouched s u :=
  ⟨h'.racks.trans h.racks, h'.time.trans h.time, h'.snaps.trans h.snaps⟩

theorem put (s : State) (f : Fld) (v k i : Nat) : Untouched s (s.put f v k i) := ⟨rfl, rfl, rfl⟩

theorem raise (s : State) (f : Fld) (k i : Nat) : Untouched s (s.raise f k i) := ⟨rfl, rfl, rfl⟩

theorem setWide (s : State) (r : Reg) (v : Wide) (k i : Nat) : Untouched s (s.setWide r v k i) := ⟨rfl, rfl, rfl⟩

theorem setReader (s : State) (r : ReaderSt) : Untouched s (s.setReader r) := ⟨rfl, rfl, rfl⟩

theorem log (s : State) (code sev p0 p1 p2 p3 : Nat) : Untouched s (s.log code sev p0 p1 p2 p3) := ⟨rfl, rfl, rfl⟩

theorem finish (s : State) (w : Ticket) (r : Reply) : Untouched s (s.finish w r) := by
  obtain ⟨_, _, e⟩ := s.finish_eq w r
  rw [e]
  exact ⟨rfl, rfl, rfl⟩

theorem entryStored (s : State) (code value elapsed : Nat) : Untouched s (s.entryStored code value elapsed) := by
  unfold State.entryStored
  exact ((setWide _ _ _ _ _).trans (setReader _ _)).trans (put _ _ _ _ _)

theorem readerEnd (s : State) : Untouched s s.readerEnd := by
  have hdone : Untouched s s.runDone := (((put _ _ _ _ _).trans (raise _ _ _ _)).trans (raise _ _ _ _)).trans (setWide _ _ _ _ _)
  have hspan : Untouched s.runDone s.runDone.spanChecked := by
    unfold State.spanChecked
    split
    · exact ((raise _ _ _ _).trans (raise _ _ _ _)).trans (log _ _ _ _ _ _ _)
    · exact ⟨rfl, rfl, rfl⟩
  rw [State.readerEnd_eq]
  split
  · exact (hdone.trans hspan).trans (finish _ _ _)
  · exact hdone.trans hspan

/-- A store of the reader changes its results, its state, and what reports the end of a run. -/
theorem readerStore (s : State) (code value elapsed : Nat) : Untouched s (s.readerStore code value elapsed) := by
  rw [State.readerStore_eq]
  split
  · exact (entryStored s code value elapsed).trans (readerEnd _)
  · exact entryStored s code value elapsed

end Untouched

theorem RunKept.trans {t : State} (h : RunKept s u) (h' : RunKept u t) : RunKept s t :=
  ⟨h'.reader.trans h.reader, h'.stat.trans h.stat, h'.wides.trans h.wides, h'.mbx.trans h.mbx, h.events.trans h'.events⟩

/-- An OFF of a gate leaves the reader's run alone. -/
theorem RunKept.gateOff (s : State) (m : Master) (op a : Nat) : RunKept s (s.gateOff m op a) := by
  unfold State.gateOff
  extract_lets i x
  have hx : RunKept s x := (Noted.perf _ _ _ _ _).runKept (by decide)
  split
  · exact hx
  · exact hx.trans ⟨rfl, rfl, rfl, rfl, List.prefix_append _ _⟩

section

variable {elapsed : Nat} (hheld : s.pwr.held = false) (hbusy : s.flag CNT_RD_STAT.BUSY = true)
include hheld hbusy

/-- An entry that no request is made for. -/
theorem entryResponse_of_refused (h : s.entryAddr % 8 ≠ 0 ∨ namesQueue s.entryAddr = true) :
    ∃ u, execCntRdEntryResponse elapsed s = .next (u.readerStore 3 0 elapsed) ∧ RunKept s u ∧ u.racks = s.racks ∧ u.time = s.time := by
  unfold execCntRdEntryResponse
  simp only [hheld, hbusy, Bool.true_eq_false, Bool.false_eq_true, or_self, if_false]
  by_cases h8 : s.entryAddr % 8 = 0
  · have hq : namesQueue s.entryAddr = true := by
      obtain h | h := h
      · exact absurd h8 h
      · exact h
    refine ⟨s, ?_, Noted.refl.runKept (rs := []) (by decide), rfl, rfl⟩
    unfold State.entryAddr at h8 hq
    simp only [h8, hq, ne_eq, not_true_eq_false, if_false, if_true]
  · have hn := Noted.capture447 s .cobbler s.entryAddr .decode
    refine ⟨s.capture447 .cobbler s.entryAddr .decode, ?_, hn.runKept (by decide), ?_⟩
    · unfold State.entryAddr at h8
      simp only [h8, ne_eq, not_false_eq_true, if_true]
      rfl
    · obtain ⟨_, _, _, _, _, _, e⟩ := hn.parts
      rw [e]
      exact ⟨rfl, rfl⟩

variable (h8 : s.entryAddr % 8 = 0) (hq : namesQueue s.entryAddr = false) (hw : (s.waitingOf .cobbler).length < 16)
include h8 hq hw

/-- An entry whose request the target answers. -/
theorem entryResponse_of_served (hwait : s.mustWait .cobbler s.entryAddr = false) (hcredit : s.hasCredit .cobbler s.entryAddr true = true) :
    execCntRdEntryResponse elapsed s = .next ((s.fabric .cobbler .read64 s.entryAddr).st.readerStore
      (respCode (s.fabric .cobbler .read64 s.entryAddr).resp) (s.fabric .cobbler .read64 s.entryAddr).data.toNat elapsed) := by
  unfold execCntRdEntryResponse
  unfold State.entryAddr at *
  have hmax : ¬ outstandingMax .cobbler ≤ (s.waitingOf .cobbler).length := Nat.not_le.2 hw
  simp only [hheld, hbusy, h8, hq, hmax, hwait, hcredit, Bool.true_eq_false, Bool.false_eq_true, or_self, if_false, ne_eq, not_true_eq_false]

/-- An entry that no target answers within 50 µs. -/
theorem entryResponse_of_timeout (h : s.mustWait .cobbler s.entryAddr = true ∨ s.hasCredit .cobbler s.entryAddr true = false)
    (ht : 40000 ≤ elapsed) : ∃ u, execCntRdEntryResponse elapsed s = .next (u.readerStore 4 0 elapsed) ∧ RunKept s u := by
  have hmax : ¬ outstandingMax .cobbler ≤ (s.waitingOf .cobbler).length := Nat.not_le.2 hw
  unfold execCntRdEntryResponse
  unfold State.entryAddr at *
  simp only [hheld, hbusy, h8, hq, hmax, h, Nat.not_lt.2 ht, Bool.true_eq_false, Bool.false_eq_true, or_self, if_false, if_true, ne_eq,
    not_true_eq_false]
  refine ⟨_, rfl, ?_⟩
  have hraise : Noted [.WELT_CAUSE] s (if s.entryAddr / 0x10000000 = 1 ∨ s.entryAddr / 0x10000000 = 2 then
      s.raise WELT_CAUSE.TIMEOUT (s.entryAddr / 0x10000000) else s) := .ite (.raise _ _ _ (by simp)) .refl
  exact ((hraise.runKept (by decide)).trans ((Noted.free (rs := []) _).runKept (by decide))).trans
    (((Noted.log (rs := []) _ _ _ _ _ _ _).runKept (by decide)).trans ((Noted.capture447 _ _ _ _).runKept (by decide)))

end

/-- A completion of the reader's row: an entry stored in a state that left the run alone. -/
theorem completes_of_readerStore {elapsed code value : Nat} {P : State → Prop} {n : Nat}
    (he : execCntRdEntryResponse elapsed s = .next (u.readerStore code n elapsed)) (hk : RunKept s u)
    (hbusy : s.flag CNT_RD_STAT.BUSY = true) (hv : (if code = 0 then n % 2 ^ 48 else 0) = value)
    (hP : ∀ t, ReaderStored s t code value elapsed → Untouched u t → P t) : Completes (.cntRdEntryResponse elapsed) s P := by
  refine ⟨_, he, hP _ ?_ (.readerStore u code n elapsed)⟩
  rw [← hv]
  exact readerStored hk hbusy code n elapsed

/-- The reader's READ64 through the fabric. -/
theorem State.fabric_read64 (s : State) (a : Nat) : s.fabric .cobbler .read64 a =
    { s.serve .cobbler .read64 a true none with
      st := (s.serve .cobbler .read64 a true none).st.capture447 .cobbler a (s.serve .cobbler .read64 a true none).resp } := rfl

/-- A counter of an error block, or a quantity as it stands, does not change with what a request counts. -/
theorem Noted.wideNow_eq (h : Noted countRegs s c) {k : RKey} (hk : k.reg ≠ .CNT_VAL) (sh : Bool) : c.wideNow k sh = s.wideNow k sh := by
  have hcnt (hc : isCounter k.reg = true) : c.cnt k.reg k.u k.i = s.cnt k.reg k.u k.i := by
    refine h.cnt_eq (fun hm => ?_) _ _
    simp only [countRegs, List.mem_cons, List.not_mem_nil, or_false] at hm
    obtain e | e | e | e := hm
    · exact hk e
    · rw [e] at hc
      cases hc
    · rw [e] at hc
      cases hc
    · rw [e] at hc
      cases hc
  obtain ⟨_, _, _, _, _, _, rfl⟩ := h.parts
  unfold State.wideNow
  split
  · next hc => rw [hcnt hc]
  · rfl

/-- A READ64 of an RS quantity that is no queue: its 64 low bits as they stand, without a snapshot. -/
theorem State.readReg64_of_rs {m : Master} {b : Block} {off : Nat} {k : RKey} {sh : Bool} (hb : busReg b off = some (k, 0, sh))
    (hw : k.reg.words ≠ 1) (hq : isQueue k.reg = false) (hwin : k.reg ≠ .EVR_WIN) :
    c.readReg64 m b off = (wideWord (c.wideNow k sh) 1 ++ wideWord (c.wideNow k sh) 0, c) := by
  unfold State.readReg64
  simp only [hb, hw, if_false, State.readLow64, hq, hwin, Bool.false_eq_true]

section

variable {elapsed : Nat} {b : Block} {off : Nat} (hheld : s.pwr.held = false) (hbusy : s.flag CNT_RD_STAT.BUSY = true)
  (h8 : s.entryAddr % 8 = 0) (hw : (s.waitingOf .cobbler).length < 16) (hwait : s.mustWait .cobbler s.entryAddr = false)
  (hcredit : s.hasCredit .cobbler s.entryAddr true = true)
include hheld hbusy h8 hw hwait hcredit

theorem entryResponse_ok {k : RKey} {sh : Bool} (hb : blockAt s.entryAddr = some (b, off)) (hm : memKind b off = none)
    (hr : busReg b off = some (k, 0, sh)) (h1 : k.reg.words ≠ 1) (hq : isQueue k.reg = false) (hwin : k.reg ≠ .EVR_WIN)
    (hval : k.reg ≠ .CNT_VAL) (hon : s.island b.island = .on ∨ s.island b.island = .doze) :
    Completes (.cntRdEntryResponse elapsed) s fun t =>
      let v := s.wideNow k sh;
      ReaderStored s t 0 ((wideWord v 1 ++ wideWord v 0).toNat % 2 ^ 48) elapsed ∧ t.snaps = s.snaps := by
  have hqueue : namesQueue s.entryAddr = false := by
    simp only [namesQueue, hb, hr, hq, Bool.false_and]
  have hc := Noted.countMessages s .cobbler b.island
  have hserve : s.serve .cobbler .read64 s.entryAddr true none =
      { data := wideWord (s.wideNow k sh) 1 ++ wideWord (s.wideNow k sh) 0,
        st := (s.countMessages .cobbler b.island).perf b.island 0x02 { master := some (srcId .cobbler), addr := some s.entryAddr } } := by
    unfold State.serve
    simp only [hb, hm, hon, if_true, State.serveReg, State.readReg64_of_rs hr h1 hq hwin, hc.wideNow_eq hval]
  have hn := hc.trans (Noted.perf (s.countMessages .cobbler b.island) b.island 0x02
    { master := some (srcId .cobbler), addr := some s.entryAddr })
  have he := entryResponse_of_served (elapsed := elapsed) hheld hbusy h8 hqueue hw hwait hcredit
  rw [State.fabric_read64, hserve] at he
  simp only [State.capture447_ok] at he
  refine completes_of_readerStore he (hn.runKept (by decide)) hbusy rfl fun t ht hu => ⟨ht, hu.snaps.trans ?_⟩
  obtain ⟨_, _, _, _, _, _, e⟩ := hn.parts
  rw [e]

theorem entryResponse_off (hqueue : namesQueue s.entryAddr = false) (hb : blockAt s.entryAddr = some (b, off))
    (hm : memKind b off = none) (hon : s.island b.island ≠ .on) (hdoze : s.island b.island ≠ .doze) :
    Completes (.cntRdEntryResponse elapsed) s fun t => ReaderStored s t 1 0 elapsed := by
  have hserve : s.serve .cobbler .read64 s.entryAddr true none =
      { resp := .off, data := 0xB10C0FF0, st := s.gateOff .cobbler (opCode .read64) s.entryAddr } := by
    unfold State.serve
    simp only [hb, hm, hon, hdoze, or_self, if_false]
  have he := entryResponse_of_served (elapsed := elapsed) hheld hbusy h8 hqueue hw hwait hcredit
  rw [State.fabric_read64, hserve] at he
  have hk := (RunKept.gateOff s .cobbler (opCode .read64) s.entryAddr).trans
    ((Noted.capture447 _ .cobbler s.entryAddr .off).runKept (by decide))
  exact completes_of_readerStore he hk hbusy rfl fun t ht _ => ht

theorem entryResponse_decode (hqueue : namesQueue s.entryAddr = false) (hb : blockAt s.entryAddr = none) :
    Completes (.cntRdEntryResponse elapsed) s fun t => ReaderStored s t 3 0 elapsed := by
  have hserve : s.serve .cobbler .read64 s.entryAddr true none = { resp := .decode, st := s } := by
    unfold State.serve
    simp only [hb]
  have he := entryResponse_of_served (elapsed := elapsed) hheld hbusy h8 hqueue hw hwait hcredit
  rw [State.fabric_read64, hserve] at he
  exact completes_of_readerStore he ((Noted.capture447 _ .cobbler s.entryAddr .decode).runKept (by decide)) hbusy rfl fun t ht _ => ht

end

/-! ## Commands (R141) -/

/-- A completion leaves registers, counters and the reader alone. -/
theorem State.finish_regs (s : State) (w : Ticket) (r : Reply) : (s.finish w r).regs = s.regs ∧ (s.finish w r).cnts = s.cnts ∧
    (s.finish w r).reader = s.reader := by
  obtain ⟨_, _, e⟩ := s.finish_eq w r
  rw [e]
  exact ⟨rfl, rfl, rfl⟩

/-- A handler that answers a status and changes nothing. -/
theorem completes_of_failed {cmd : Instr} {e : Fin 256} {cl n code : Nat} {f : Handler} {P : State → Prop} (h : Runs s e cl n)
    (hc : Machine.exec cmd s = .next (s.runCmd e cl n f)) (hf : f (s.params e) (s.ticket e) (s.begun e) = (failWith code, s.begun e))
    (hP : ∀ t, Answered t e code → t.regs = s.regs → t.cnts = s.cnts → t.reader = s.reader → P t) : Completes cmd s P := by
  refine completes_of_finish h hc hf rfl fun ht => ?_
  obtain ⟨hregs, hcnts, hreader⟩ := (s.begun e).finish_regs (s.ticket e) ⟨code, 0, 0⟩
  exact hP _ ht hregs hcnts hreader

theorem reg_foldl_setReg (r : Reg) (v : Nat → W32) (base n : Nat) (s : State) (i : Nat) :
    ((List.range n).foldl (fun (s : State) j => s.setReg r (v j) 0 (base + j)) s).reg r 0 i =
      if base ≤ i ∧ i < base + n then v (i - base) else s.reg r 0 i := by
  induction n with
  | zero => rw [if_neg (by omega)]; rfl
  | succ n ih =>
    rw [List.range_succ, List.foldl_append, List.foldl_cons, List.foldl_nil, State.reg_setReg, ih]
    by_cases hi : i = base + n
    · rw [if_pos ⟨rfl, rfl, hi⟩, if_pos (by omega), hi, Nat.add_sub_cancel_left]
    · rw [if_neg (fun h => hi h.2.2)]
      by_cases hm : base ≤ i ∧ i < base + n
      · rw [if_pos hm, if_pos (by omega)]
      · rw [if_neg hm, if_neg (by omega)]

theorem cntListSet_sets {e : Fin 256} (h : Runs s e 0x13 0x01) (h0 : (s.params e).byte 0 ≤ 3) (h1 : (s.params e).byte 1 ≤ 63)
    (h2 : 1 ≤ (s.params e).byte 2) (h5 : (s.params e).byte 2 ≤ 5) (h12 : (s.params e).byte 1 + (s.params e).byte 2 ≤ 64)
    (h3 : (s.params e).byte 3 = 0) (hz : (s.params e).zeroFrom (4 + 4 * (s.params e).byte 2) = true) :
    Completes (.cntListSet e) s fun t =>
      (s.flag CNT_RD_STAT.BUSY = true → Answered t e 0x0308 ∧ ∀ i < 256, t.reg .CNT_LIST 0 i = s.reg .CNT_LIST 0 i) ∧
      (s.flag CNT_RD_STAT.BUSY = false →
       Answered t e 0 ∧
       (∀ i < (s.params e).byte 2,
          t.reg .CNT_LIST 0 (64 * (s.params e).byte 0 + (s.params e).byte 1 + i) = BitVec.ofNat 32 ((s.params
            e).wordAt (4 + 4 * i))) ∧
       ∀ i < 256,
         (i < 64 * (s.params e).byte 0 + (s.params e).byte 1 ∨
          64 * (s.params e).byte 0 + (s.params e).byte 1 + (s.params e).byte 2 ≤ i) →
         t.reg .CNT_LIST 0 i = s.reg .CNT_LIST 0 i) := by
  have hfields : ¬ (3 < (s.params e).byte 0 ∨ 63 < (s.params e).byte 1 ∨ (s.params e).byte 2 = 0 ∨ 5 < (s.params e).byte 2 ∨
      64 < (s.params e).byte 1 + (s.params e).byte 2 ∨ (s.params e).byte 3 ≠ 0 ∨
      (s.params e).zeroFrom (4 + 4 * (s.params e).byte 2) = false) := by
    rw [hz]
    simp only [Bool.true_eq_false, or_false]
    omega
  have hflag : (s.begun e).flag CNT_RD_STAT.BUSY = s.flag CNT_RD_STAT.BUSY := rfl
  cases hb : s.flag CNT_RD_STAT.BUSY with
  | true =>
    refine completes_of_failed (f := cmdCntListSet) (code := 0x0308) h rfl ?_ fun t ht hregs _ _ =>
      ⟨fun _ => ⟨ht, fun i _ => by rw [State.reg, hregs]; rfl⟩, fun h => by cases h⟩
    unfold cmdCntListSet
    simp only [hfields, hflag, hb, if_false, if_true]
  | false =>
    have hcmd : cmdCntListSet (s.params e) (s.ticket e) (s.begun e) = (okWith, (List.range ((s.params e).byte 2)).foldl
        (fun (s' : State) i => s'.setReg .CNT_LIST (BitVec.ofNat 32 ((s.params e).wordAt (4 + 4 * i))) 0
          (64 * (s.params e).byte 0 + (s.params e).byte 1 + i)) (s.begun e)) := by
      unfold cmdCntListSet
      simp only [hfields, hflag, hb, Bool.false_eq_true, if_false]
    refine completes_of_finish h rfl hcmd (by apply foldl_mbx; exact fun _ _ => rfl) fun ht => ⟨fun h => (by cases h), fun _ => ⟨ht, ?_, ?_⟩⟩
    · intro i hi
      rw [State.reg_finish, reg_foldl_setReg .CNT_LIST (fun i => BitVec.ofNat 32 ((s.params e).wordAt (4 + 4 * i))), if_pos (by omega),
        Nat.add_sub_cancel_left]
    · intro i _ hi
      rw [State.reg_finish, reg_foldl_setReg .CNT_LIST (fun i => BitVec.ofNat 32 ((s.params e).wordAt (4 + 4 * i))), if_neg (by omega)]
      rfl

theorem State.mbx_runStarted (s : State) (list count : Nat) (w : Option Ticket) : (s.runStarted list count w).mbx = s.mbx := rfl

theorem State.mbx_listed (s : State) (list count : Nat) : (s.listed list count).mbx = s.mbx := rfl

theorem cntListRun_starts {e : Fin 256} (h : Runs s e 0x13 0x02) (h0 : (s.params e).byte 0 ≤ 3) (h1 : 1 ≤ (s.params e).byte 1)
    (h64 : (s.params e).byte 1 ≤ 64) (hz : (s.params e).zeroFrom 2 = true) :
    Completes (.cntListRun e) s fun t =>
      (s.flag CNT_RD_STAT.BUSY = true → Answered t e 0x0308 ∧ t.reader = s.reader) ∧
      (s.flag CNT_RD_STAT.BUSY = false →
       t.reg .CNT_RD_STAT = 1 ∧
       t.reader =
         { list := (s.params e).byte 0, count := (s.params e).byte 1, waiter := some ⟨e, (s.eyelet e).serial, false⟩ } ∧
       t.wide .CNT_RD_T_FIRST = BitVec.ofNat 256 s.mclk ∧ (t.eyelet e).reply = none) := by
  have hfields : ¬ (3 < (s.params e).byte 0 ∨ (s.params e).byte 1 = 0 ∨ 64 < (s.params e).byte 1 ∨
      (s.params e).zeroFrom 2 = false) := by
    rw [hz]
    simp only [Bool.true_eq_false, or_false]
    omega
  have hflag : (s.begun e).flag CNT_RD_STAT.BUSY = s.flag CNT_RD_STAT.BUSY := rfl
  cases hb : s.flag CNT_RD_STAT.BUSY with
  | true =>
    refine completes_of_failed (f := cmdCntListRun) (code := 0x0308) h rfl ?_ fun t ht _ _ hr =>
      ⟨fun _ => ⟨ht, hr⟩, fun h => by cases h⟩
    unfold cmdCntListRun
    simp only [hfields, hflag, hb, if_false, if_true]
  | false =>
    have hfree : ((s.begun e).listed ((s.params e).byte 0) ((s.params e).byte 1)).flag CNT_RD_STAT.BUSY = false := by
      rw [State.flag_listed _ _ _ (by decide), hflag, hb]
    have hcmd : cmdCntListRun (s.params e) (s.ticket e) (s.begun e) = (.later,
        ((s.begun e).listed ((s.params e).byte 0) ((s.params e).byte 1)).runStarted ((s.params e).byte 0) ((s.params e).byte 1)
          (some (s.ticket e))) := by
      rw [← State.readerStart_of_free hfree h1 h64]
      unfold cmdCntListRun
      simp only [hfields, hflag, hb, Bool.false_eq_true, if_false]
      rfl
    refine completes_of_later h rfl hcmd ⟨fun h => (by cases h), fun _ => ⟨?_, rfl, ?_, ?_⟩⟩
    · unfold State.runStarted
      rw [State.reg_setWide, State.reg_setReg_self]
    · exact (State.wide_setWide _ .CNT_RD_T_FIRST .CNT_RD_T_FIRST _ 0 0 0 0).trans (if_pos ⟨rfl, rfl, rfl⟩)
    · obtain ⟨-, -, -, -, hr, -, -⟩ := h
      rw [State.eyelet, State.mbx_runStarted, State.mbx_listed, ← State.eyelet, State.begun, State.eyelet_setEyelet, if_pos rfl]
      exact hr

/-- What CNT_BANK_SET sets up in counter `n` of the bank of island `k`. -/
def State.bankSet (s : State) (k n : Nat) (p : Params) : State :=
  let s := s.setReg .CNT_SEL (BitVec.ofNat 32 (p.wordAt 4) &&& (Reg.access .CNT_SEL).rw) k n
  let s := if p.wordAt 8 = 0 then s else s.setReg .CNT_ADDR_LO (BitVec.ofNat 32 (p.wordAt 8)) k
  let s := if p.wordAt 12 = 0 then s else s.setReg .CNT_ADDR_HI (BitVec.ofNat 32 (p.wordAt 12)) k
  let s := if bitOf (p.byte 3) 1 then s.setCnt .CNT_VAL 0 k n else s
  s.putBit .CNT_BANK_CTL n (bitOf (p.byte 3) 0) k

theorem State.reg_ite {q : Prop} [Decidable q] (a b : State) (r : Reg) (k i : Nat) :
    (if q then a else b).reg r k i = if q then a.reg r k i else b.reg r k i := apply_ite (fun x : State => x.reg r k i) q a b

theorem State.cnt_ite {q : Prop} [Decidable q] (a b : State) (r : Reg) (k i : Nat) :
    (if q then a else b).cnt r k i = if q then a.cnt r k i else b.cnt r k i := apply_ite (fun x : State => x.cnt r k i) q a b

theorem State.reg_setCnt_eq (s : State) (r r' : Reg) (v : W48) (k i k' i' : Nat) : (s.setCnt r v k i).reg r' k' i' = s.reg r' k' i' := rfl

/-- A register but the bank's enables, after CNT_BANK_SET. -/
theorem State.reg_bankSet (s : State) (k n : Nat) (p : Params) {r : Reg} (h : r ≠ .CNT_BANK_CTL) (i : Nat) : (s.bankSet k n p).reg r k i =
    if p.wordAt 12 ≠ 0 ∧ r = .CNT_ADDR_HI ∧ i = 0 then BitVec.ofNat 32 (p.wordAt 12)
    else if p.wordAt 8 ≠ 0 ∧ r = .CNT_ADDR_LO ∧ i = 0 then BitVec.ofNat 32 (p.wordAt 8)
    else if r = .CNT_SEL ∧ i = n then BitVec.ofNat 32 (p.wordAt 4) &&& (Reg.access .CNT_SEL).rw
    else s.reg r k i := by
  simp only [State.bankSet, State.putBit, State.reg_setReg_reg _ h, State.reg_ite, State.reg_setCnt_eq, ite_self, State.reg_setReg, true_and]
  by_cases h12 : p.wordAt 12 = 0
  · by_cases h8 : p.wordAt 8 = 0
    · simp [h12, h8]
    · simp [h12, h8]
  · by_cases h8 : p.wordAt 8 = 0
    · simp [h12, h8]
    · simp [h12, h8]

/-- An enable of the bank, after CNT_BANK_SET. -/
theorem State.enable_bankSet (s : State) (k n : Nat) (p : Params) {i : Nat} (hi : i < 8) : bitOf ((s.bankSet k n p).fld CNT_BANK_CTL.EN k) i =
    if i = n then bitOf (p.byte 3) 0 else bitOf (s.fld CNT_BANK_CTL.EN k) i := by
  have hbase (x : State) (hx : x.reg .CNT_BANK_CTL k = s.reg .CNT_BANK_CTL k) (v : Bool) :
      bitOf ((x.putBit .CNT_BANK_CTL n v k).fld CNT_BANK_CTL.EN k) i = if i = n then v else bitOf (s.fld CNT_BANK_CTL.EN k) i := by
    rw [State.fld, State.fld, bitOf_getBits _ hi, bitOf_getBits _ hi, State.putBit, State.reg_setReg_self, hx, bitOf, testBit_setBits _ _ _ _ _ (by omega)]
    by_cases h : i = n
    · rw [if_pos h, if_pos (by omega), h, Nat.sub_self]
      cases v with
      | true => rfl
      | false => rfl
    · rw [if_neg h, if_neg (by omega)]
      rfl
  unfold State.bankSet
  refine hbase _ ?_ _
  simp only [State.reg_ite, State.reg_setCnt_eq, ite_self, State.reg_setReg, reduceCtorEq, false_and, if_false]

theorem State.cnt_bankSet (s : State) (k n : Nat) (p : Params) (i : Nat) : (s.bankSet k n p).cnt .CNT_VAL k i =
    if i = n ∧ bitOf (p.byte 3) 1 = true then 0 else s.cnt .CNT_VAL k i := by
  simp only [State.bankSet, State.cnt_putBit, State.cnt_ite, State.cnt_setCnt, State.cnt_setReg, ite_self, true_and]
  by_cases hb : bitOf (p.byte 3) 1 = true
  · simp [hb]
  · simp [hb]

theorem State.mbx_bankSet (s : State) (k n : Nat) (p : Params) : (s.bankSet k n p).mbx = s.mbx := by
  simp only [State.bankSet, State.putBit, State.setReg, State.setCnt, apply_ite State.mbx, ite_self]

theorem cntBankSet_sets {e : Fin 256} (h : Runs s e 0x13 0x03) (h0 : (s.params e).byte 0 ≤ 2)
    (hi : isIsland (islandId ((s.params e).byte 0) ((s.params e).byte 1)) = true) (h2 : (s.params e).byte 2 ≤ 7)
    (h3 : (s.params e).byte 3 ≤ 3) (hz : (s.params e).zeroFrom 16 = true)
    (hon : s.island (islandId ((s.params e).byte 0) ((s.params e).byte 1)) = .on ∨
     s.island (islandId ((s.params e).byte 0) ((s.params e).byte 1)) = .doze) :
    Completes (.cntBankSet e) s fun t =>
      let u := islandId ((s.params e).byte 0) ((s.params e).byte 1);
      let n := (s.params e).byte 2;
      (s.flag CNT_RD_STAT.BUSY = true → Answered t e 0x0308 ∧ t.regs = s.regs ∧ t.cnts = s.cnts) ∧
      (s.flag CNT_RD_STAT.BUSY = false →
       Answered t e 0 ∧
       (∀ i < 8,
          bitOf (t.fld CNT_BANK_CTL.EN u) i = if i = n then bitOf ((s.params e).byte 3) 0 else bitOf (s.fld
            CNT_BANK_CTL.EN u) i) ∧
       (∀ i < 8,
          t.reg .CNT_SEL u i = if i = n then BitVec.ofNat 32 ((s.params e).wordAt 4) &&& (Reg.access .CNT_SEL).rw
            else s.reg .CNT_SEL u i) ∧
       (∀ i < 8,
          t.cnt .CNT_VAL u i = if i = n ∧ bitOf ((s.params e).byte 3) 1 = true then 0 else s.cnt .CNT_VAL u i) ∧
       t.reg .CNT_ADDR_LO u = (if (s.params e).wordAt 8 = 0 then s.reg .CNT_ADDR_LO u else BitVec.ofNat 32
         ((s.params e).wordAt 8)) ∧
       t.reg .CNT_ADDR_HI u = (if (s.params e).wordAt 12 = 0 then s.reg .CNT_ADDR_HI u else BitVec.ofNat 32
         ((s.params e).wordAt 12))) := by
  have hfields : ¬ (2 < (s.params e).byte 0 ∨ isIsland (islandId ((s.params e).byte 0) ((s.params e).byte 1)) = false ∨
      7 < (s.params e).byte 2 ∨ 3 < (s.params e).byte 3 ∨ (s.params e).zeroFrom 16 = false) := by
    rw [hz, hi]
    simp only [Bool.true_eq_false, or_false, false_or]
    omega
  have hflag : (s.begun e).flag CNT_RD_STAT.BUSY = s.flag CNT_RD_STAT.BUSY := rfl
  have hisl : ¬ ((s.begun e).island (islandId ((s.params e).byte 0) ((s.params e).byte 1)) ≠ .on ∧
      (s.begun e).island (islandId ((s.params e).byte 0) ((s.params e).byte 1)) ≠ .doze) := by
    rintro ⟨hno, hnd⟩
    obtain h | h := hon
    · exact hno h
    · exact hnd h
  cases hb : s.flag CNT_RD_STAT.BUSY with
  | true =>
    refine completes_of_failed (f := cmdCntBankSet) (code := 0x0308) h rfl ?_ fun t ht hregs hcnts _ =>
      ⟨fun _ => ⟨ht, hregs, hcnts⟩, fun h => by cases h⟩
    unfold cmdCntBankSet
    simp only [hfields, hisl, hflag, hb, if_false, if_true]
  | false =>
    have hcmd : cmdCntBankSet (s.params e) (s.ticket e) (s.begun e) = (okWith, (s.begun e).bankSet
        (islandId ((s.params e).byte 0) ((s.params e).byte 1)) ((s.params e).byte 2) (s.params e)) := by
      unfold cmdCntBankSet
      simp only [hfields, hisl, hflag, hb, Bool.false_eq_true, if_false]
      rfl
    refine completes_of_finish h rfl hcmd (State.mbx_bankSet _ _ _ _) fun ht => ⟨fun h => (by cases h), fun _ => ⟨ht, ?_, ?_, ?_, ?_, ?_⟩⟩
    · intro i hi8
      rw [State.fld_finish, State.enable_bankSet _ _ _ _ hi8]
      rfl
    · intro i _
      rw [State.reg_finish, State.reg_bankSet _ _ _ _ (by decide), if_neg (by simp), if_neg (by simp)]
      simp only [true_and]
      rfl
    · intro i _
      rw [State.cnt, (State.finish_regs _ _ _).2.1, ← State.cnt, State.cnt_bankSet]
      rfl
    · rw [State.reg_finish, State.reg_bankSet _ _ _ _ (by decide), if_neg (by simp)]
      simp only [and_true, reduceCtorEq, false_and, if_false, ne_eq, ite_not]
      rfl
    · rw [State.reg_finish, State.reg_bankSet _ _ _ _ (by decide)]
      simp only [and_true, reduceCtorEq, false_and, and_false, if_false, ne_eq, ite_not]
      rfl

/-- Settles O21: a bank is cleared where its mask says, and the reader starts, stores and ends a run as its rules say. -/
theorem counterCommandResults : Obligations.CounterCommandResults := by
  unfold Obligations.CounterCommandResults
  refine ⟨?clear, ?start, ?ignored, ?refused, ?rs, ?off, ?decode, ?timeout, ?set, ?setRange, ?run, ?runRange, ?bank, ?bankRange⟩
  case clear => exact fun src die island data s h hi => cntBankClear_clears h hi
  case start => exact fun src data s h hb hst h1 h64 => cntRdStart_starts h hb hst h1 h64
  case ignored => exact fun src data s h hno => cntRdStart_ignored h hno
  case refused =>
    intro elapsed s hheld hbusy h
    obtain ⟨u, he, hk, hr, ht⟩ := entryResponse_of_refused (elapsed := elapsed) hheld hbusy h
    exact completes_of_readerStore he hk hbusy rfl fun t hs hu => ⟨hs, hu.racks.trans hr, hu.time.trans ht⟩
  case rs =>
    intro elapsed s b off k sh hheld hbusy h8 hw hwait hcredit hb hm hr h1 hq hwin hval hon
    exact entryResponse_ok hheld hbusy h8 hw hwait hcredit hb hm hr h1 hq hwin hval hon
  case off =>
    intro elapsed s b off hheld hbusy h8 hq hw hwait hcredit hb hm hon hdoze
    exact entryResponse_off hheld hbusy h8 hw hwait hcredit hq hb hm hon hdoze
  case decode =>
    intro elapsed s hheld hbusy h8 hq hw hwait hcredit hb
    exact entryResponse_decode hheld hbusy h8 hw hwait hcredit hq hb
  case timeout =>
    intro elapsed s hheld hbusy h8 hq hw h ht
    obtain ⟨u, he, hk⟩ := entryResponse_of_timeout hheld hbusy h8 hq hw h ht
    exact completes_of_readerStore he hk hbusy rfl fun t hs _ => hs
  case set => exact fun e s h h0 h1 h2 h5 h12 h3 hz => cntListSet_sets h h0 h1 h2 h5 h12 h3 hz
  case setRange =>
    intro e s h hrange
    refine completes_of_failed (f := cmdCntListSet) (code := 0x0101) h rfl ?_ fun t ht hregs _ _ => ⟨ht, hregs⟩
    exact if_pos (by omega)
  case run => exact fun e s h h0 h1 h64 hz => cntListRun_starts h h0 h1 h64 hz
  case runRange =>
    intro e s h hrange
    refine completes_of_failed (f := cmdCntListRun) (code := 0x0101) h rfl ?_ fun t ht _ _ hr => ⟨ht, hr⟩
    exact if_pos (by omega)
  case bank => exact fun e s h h0 hi h2 h3 hz hon => cntBankSet_sets h h0 hi h2 h3 hz hon
  case bankRange =>
    intro e s h hrange
    refine completes_of_failed (f := cmdCntBankSet) (code := 0x0101) h rfl ?_ fun t ht hregs hcnts _ => ⟨ht, hregs, hcnts⟩
    exact if_pos (by omega)

end Sys2Proof.Machine

/-!
PROOFS. What a port's FAULT leaves alone (for O6; R60, R64): the lasts, and what shows which of them run.
-/

namespace Sys2Proof.Machine

open Host

variable {s₀ s : State}

/-- From `s₀` to `s` the lasts, and the registers that show their halts and traps, are as they were. -/
structure LastsKept (s₀ s : State) : Prop where
  lasts : s.lasts = s₀.lasts
  regs : ∀ r ∈ [Reg.RACK_STAT, .RACK_CAUSE], ∀ k i, s.reg r k i = s₀.reg r k i

theorem LastsKept.refl : LastsKept s s := ⟨rfl, fun _ _ _ _ => rfl⟩

theorem LastsKept.last_eq (h : LastsKept s₀ s) (r l : Nat) : s.last r l = s₀.last r l := by
  rw [State.last, State.last, h.lasts]

theorem LastsKept.fld_eq (h : LastsKept s₀ s) {f : Fld} (hf : f.reg ∈ [Reg.RACK_STAT, .RACK_CAUSE]) (k i : Nat) :
    s.fld f k i = s₀.fld f k i := by
  rw [State.fld, State.fld, h.regs _ hf]

theorem LastsKept.lastHalted_eq (h : LastsKept s₀ s) (r l : Nat) : s.lastHalted r l = s₀.lastHalted r l := by
  rw [State.lastHalted, State.lastHalted, h.fld_eq (by simp)]

theorem LastsKept.ite {c : Prop} {d : Decidable c} {a b : State} (ha : LastsKept s₀ a) (hb : LastsKept s₀ b) :
    LastsKept s₀ (if c then a else b) := by
  split
  · exact ha
  · exact hb

theorem LastsKept.foldl {α : Type} {xs : List α} {f : State → α → State} (h : LastsKept s₀ s)
    (hf : ∀ t x, LastsKept s₀ t → LastsKept s₀ (f t x)) : LastsKept s₀ (xs.foldl f s) :=
  List.foldlRecOn xs f h fun t ht x _ => hf t x ht

theorem LastsKept.via {x t : State} (hx : LastsKept s₀ x) (f : LastsKept s₀ x → LastsKept s₀ t) : LastsKept s₀ t := f hx

section

variable (h : LastsKept s₀ s)
include h

/-! ## The shared operations -/

theorem LastsKept.setReg {r v k i} (hr : r ∉ [Reg.RACK_STAT, .RACK_CAUSE] := by simp) : LastsKept s₀ (s.setReg r v k i) :=
  ⟨h.lasts, fun q hq k' i' => (s.reg_setReg_reg (fun e => hr (by rw [← e]; exact hq)) _ _ _ _ _).trans (h.regs q hq k' i')⟩

theorem LastsKept.put {f v k i} (hr : f.reg ∉ [Reg.RACK_STAT, .RACK_CAUSE] := by simp) : LastsKept s₀ (s.put f v k i) := h.setReg hr

theorem LastsKept.putFlag {f v k i} (hr : f.reg ∉ [Reg.RACK_STAT, .RACK_CAUSE] := by simp) : LastsKept s₀ (s.putFlag f v k i) := h.setReg hr

theorem LastsKept.raise {f k i} (hr : f.reg ∉ [Reg.RACK_STAT, .RACK_CAUSE] := by simp) : LastsKept s₀ (s.raise f k i) := h.setReg hr

theorem LastsKept.log {c sev p0 p1 p2 p3} : LastsKept s₀ (s.log c sev p0 p1 p2 p3) := ⟨h.lasts, h.regs⟩

theorem LastsKept.setLine {k v} : LastsKept s₀ (s.setLine k v) := ⟨h.lasts, h.regs⟩

theorem LastsKept.setInsl {k v} : LastsKept s₀ (s.setInsl k v) := ⟨h.lasts, h.regs⟩

theorem LastsKept.setFec {p v} : LastsKept s₀ (s.setFec p v) := ⟨h.lasts, h.regs⟩

theorem LastsKept.putPort {p st reason} : LastsKept s₀ (s.putPort p st reason) := ⟨h.lasts, h.regs⟩

theorem LastsKept.withMode {m} : LastsKept s₀ { s with mode := m } := ⟨h.lasts, h.regs⟩

theorem LastsKept.setRack {r q} : LastsKept s₀ (s.setRack r q) := ⟨h.lasts, h.regs⟩

theorem LastsKept.finish {w r} : LastsKept s₀ (s.finish w r) := by
  obtain ⟨_, _, e⟩ := s.finish_eq w r
  rw [e]
  exact ⟨h.lasts, h.regs⟩

theorem LastsKept.inc {r f fu k i} (hs : satField r k = some (f, fu) := by rfl)
    (hf : f.reg ∉ [Reg.RACK_STAT, .RACK_CAUSE] := by simp) : LastsKept s₀ (s.inc r k i) := by
  have hcnt (v : W48) : LastsKept s₀ (s.setCnt r v k i) := ⟨h.lasts, h.regs⟩
  obtain e | ⟨v, e⟩ | ⟨v, e⟩ := State.inc_cases hs s i
  · rwa [e]
  · rw [e]
    exact hcnt v
  · rw [e]
    exact (hcnt v).raise hf

/-! ## A line output enters or leaves squelch (R95) -/

theorem LastsKept.endCalTx {k code check} : LastsKept s₀ (s.endCalTx k code check) := by
  unfold State.endCalTx
  split
  · exact h
  · exact .via (.setReg (.put (.put (.putFlag (.setLine h))))) fun h1 =>
      .finish (.ite (.log (.raise h1)) (.log (.inc (.raise (.ite h1 (.foldl h1 fun _ _ hf => .setReg hf))))))

theorem LastsKept.endRamp {k} : LastsKept s₀ (s.endRamp k) := by
  unfold State.endRamp State.refreshAmp State.setTxActive
  split
  · exact h
  · exact .via (.raise (.put (.setLine (.foldl (.foldl h fun _ _ hf => .put hf) fun _ _ hf => .put hf)))) fun h1 => .ite (.put h1) h1

theorem LastsKept.insRamp {k up} : LastsKept s₀ (s.insRamp k up) := by
  unfold State.insRamp
  extract_lets
  split
  · exact .ite h (.setInsl h)
  · exact .ite h (.putFlag (.putFlag (.setInsl h)))

theorem LastsKept.insPause {k} : LastsKept s₀ (s.insPause k) := by
  unfold State.insPause
  exact .ite (.insRamp (.log (.raise (.putFlag h)))) h

theorem LastsKept.insRelease {k} : LastsKept s₀ (s.insRelease k) := by
  have hgrid : LastsKept s₀ (s.startGrid k) := ⟨h.lasts, h.regs⟩
  unfold State.insRelease
  exact .ite (.ite (.insPause hgrid) (.insRamp hgrid)) h

theorem LastsKept.refreshLine {k} : LastsKept s₀ (s.refreshLine k) := by
  unfold State.refreshLine State.snapTxTrims
  refine .ite ?_ ?_
  · exact .foldl (.endCalTx (.endRamp (.log (.raise (.putFlag (.put h)))))) fun _ _ hf => .setReg hf
  · exact .ite (.insRelease (.log (.raise (.putFlag (.setLine (.put h)))))) (.put h)

/-! ## A port in FAULT (R60, R64) -/

theorem LastsKept.setPort {p st reason} : LastsKept s₀ (s.setPort p st reason) := by
  unfold State.setPort State.refreshHosts State.refreshLines State.refreshHost
  refine .ite h (.foldl (.foldl ?_ fun _ _ hf => .refreshLine hf) fun _ _ hf => .putFlag (.put hf))
  exact .ite (.foldl (.log (.putPort h)) fun _ _ hf => .setReg hf) (.log (.putPort h))

theorem LastsKept.refreshAlign {p} : LastsKept s₀ (s.refreshAlign p) := by
  unfold State.refreshAlign
  refine .ite ?_ (.ite (.setPort (.setFec h)) (.setFec h))
  exact .ite (.setPort (.log (.raise (.setFec h)))) (.log (.raise (.setFec h)))

theorem LastsKept.applyFault {p event} : LastsKept s₀ (s.applyFault p event) := by
  unfold State.applyFault State.portTo
  split
  · exact .refreshAlign (.setPort (.withMode h))
  · exact h

/-- A trap of a rack that an apply loads makes its port FAULT, and leaves the lasts alone. -/
theorem LastsKept.loadTrap {r event} : LastsKept s₀ (s.loadTrap r event) := by
  unfold State.loadTrap
  split
  · exact .ite (.applyFault h) h
  · exact h

end

end Sys2Proof.Machine

/-!
PROOFS. The rack bus, the watchdog, restart, RACK_CTL, tags and tap records (O6; R119, R122, R123, R126, R127, R139).
-/

namespace Sys2Proof.Machine

open Host

variable {s t : State} {r l : Nat}

/-! ## Requests and responses of a last (R122) -/

/-- A request that no mask bars goes into the last's slot. -/
theorem breq_requests {w : LastAt} {same : Bool} {word : W32} {wr : Bool} {d : Nat} {be : Bool} {b off : Nat} (h : Issuing s w word)
    (hd : decodeLast word = some (.breq wr d be b off)) (hbus : (s.last w.rack w.last).bus = none)
    (hresp : (s.last w.rack w.last).resp = none)
    (hmask : (s.last w.rack w.last).super = true ∨ wr = false ∨
      (portGroup (if be then (((s.last w.rack w.last).D b).toNat + off) % 2 ^ 18 else off)).all (fun g => bitOf
        (s.rackOf w.rack).portMask g) = true) :
    Completes (.breq w same) s fun t =>
      let age := if same then (s.rackOf w.rack).busAge else (s.rackOf w.rack).busAge + 1;
      (t.last w.rack w.last).bus = some
        ⟨if be then (((s.last w.rack w.last).D b).toNat + off) % 2 ^ 18 else off, wr, if wr then (s.last w.rack w.last).D d else 0, age, none⟩ ∧
      (t.last w.rack w.last).resp = none ∧ (t.rackOf w.rack).busAge = age := by
  have hcore := rackOf_entered s w word (.breq wr d be b off) w.rack
  have hage : ((s.entered w word (.breq wr d be b off)).rackOf w.rack).busAge = (s.rackOf w.rack).busAge := by
    have e := congrArg RackSt.busAge hcore
    exact e
  have hport : ((s.entered w word (.breq wr d be b off)).rackOf w.rack).portMask = (s.rackOf w.rack).portMask := by
    have e := congrArg RackSt.portMask hcore
    exact e
  have hsame := s.same_filled w word
  generalize ha : (if be then (((s.last w.rack w.last).D b).toNat + off) % 2 ^ 18 else off) = a at *
  have hbar : (match portGroup a with
      | some g => wr && !(s.filled w word).super && !(bitOf (s.rackOf w.rack).portMask g)
      | none => false) = false := by
    rw [s.super_filled w word]
    obtain hs | rfl | hm := hmask
    · rw [hs]
      cases portGroup a with
      | none => rfl
      | some g => simp
    · cases portGroup a with
      | none => rfl
      | some g => rfl
    · cases hg : portGroup a with
      | none => rfl
      | some g =>
        rw [hg] at hm
        have hbit : bitOf (s.rackOf w.rack).portMask g = true := hm
        simp [hbit]
  obtain ⟨x, hx, hxage⟩ : ∃ x : State, Noted countRegs (s.entered w word (.breq wr d be b off)) x ∧
      x = (s.entered w word (.breq wr d be b off)).perf (rackIsland w.rack) 0x45
        { last := some w.last, user := some (!(s.filled w word).super), addr := some a } := ⟨_, Noted.perf _ _ _ _ _, rfl⟩
  have hq : (x.rackOf w.rack).busAge = (s.rackOf w.rack).busAge := by rw [hx.rackOf_eq, hage]
  refine completes_of_issue_done rfl h hd rfl (.inr (by simp [LInstr.cls]))
    (s' := x.setRack w.rack { x.rackOf w.rack with busAge := if same then (x.rackOf w.rack).busAge else (x.rackOf w.rack).busAge + 1 })
    (z := { s.filled w word with bus := some ⟨a, wr, if wr then (s.filled w word).D d else 0,
      if same then (x.rackOf w.rack).busAge else (x.rackOf w.rack).busAge + 1, none⟩ }) ?_ fun t ht => ⟨?_, ?_, ?_⟩
  · simp only [s.D_filled, ha, hport, hsame.bus, hsame.resp, hbus, hresp, Option.isSome_none, Bool.false_eq_true, or_self, if_false]
    subst hxage
    exact if_neg fun hb => absurd (hbar.symm.trans hb) (by decide)
  · rw [ht.same.bus, hq, s.D_filled]
  · rw [ht.same.resp]
    exact hsame.resp.trans hresp
  · have e := congrArg RackSt.busAge (ht.racks w.rack)
    refine Eq.trans e ?_
    rw [State.rackOf_setRack_self]
    simp only [RackSt.core, hq]

/-- A response that has come is taken into the data register, and frees the slot. -/
theorem brsp_takes {w : LastAt} {word : W32} {d : Nat} {x : BusResp} (h : Issuing s w word) (hd : decodeLast word = some (.brsp d))
    (hresp : (s.last w.rack w.last).resp = some x) (hgood : x.bad = false) :
    Completes (.brsp w) s fun t =>
      (t.last w.rack w.last).d = (s.last w.rack w.last).d.set d x.value ∧ (t.last w.rack w.last).bus = none ∧
      (t.last w.rack w.last).resp = none ∧
      (t.last w.rack w.last).sr = putBit24 (s.last w.rack w.last).sr srE x.error := by
  have hsame := s.same_filled w word
  refine completes_of_issue_done rfl h hd rfl (.inr (by simp [LInstr.cls])) (s' := s.entered w word (.brsp d))
    (z := (({ s.filled w word with bus := none, resp := none } : Last).setD d x.value).putSr srE x.error) ?_ fun t ht => ⟨?_, ?_, ?_, ?_⟩
  · simp only [hsame.resp, hresp, hgood, Bool.false_eq_true, if_false]
  · rw [ht.same.d, ← hsame.d]
    rfl
  · exact ht.same.bus
  · exact ht.same.resp
  · rw [ht.same.sr, ← hsame.sr]
    rfl

/-! ## The rack bus (R121, R122) -/

/-- No access of the rack bus changes a last. -/
theorem State.lasts_rackBus (s : State) (r : Nat) (q : BusReq) : (s.rackBus r q).2.lasts = s.lasts := by
  have hite (p : Prop) [Decidable p] (t : State) (ht : t.lasts = s.lasts) : (if p then t else s).lasts = s.lasts := by
    split
    · exact ht
    · rfl
  unfold State.rackBus
  extract_lets k err v
  split
  case isTrue =>
    split
    · exact (Aside.writeWord_untrack s (sharedAddr r q.addr) (locWord q.data)).lasts_eq
    · have h := (Aside.readWord (rs := []) s (sharedAddr r q.addr) 15 1).lasts_eq
      split
      · next e => rw [e] at h; exact h
      · next e => rw [e] at h; exact h
  split
  case isTrue =>
    split
    · exact hite _ _ rfl
    · rfl
  split
  case isTrue =>
    split
    · rfl
    · rfl
  split
  case isTrue =>
    split
    · rfl
    · rfl
  split
  · rfl
  · next p _ =>
    split
    · split
      · refine hite _ _ ?_
        unfold State.portWrite
        extract_lets x
        split
        · rfl
        · rfl
      · rfl
    · unfold State.noteBack
      extract_lets x
      split
      · rfl
      · rfl

/-- A request that waits has no response yet. -/
theorem State.resp_of_busWaits {q : BusReq} (h : s.busWaits r l = some q) : (s.last r l).resp = none := by
  unfold State.busWaits at h
  split at h
  · next e => exact e
  · cases h

/-- The last whose request the bus has accepted. -/
theorem State.last_busAccept (s : State) (r l : Nat) (q : BusReq) :
    (s.busAccept r l q).last r l = { s.last r l with bus := some { q with got := some (s.rackBus r q).1 } } := by
  unfold State.busAccept
  rw [State.last_setLast_self, State.last, State.last, s.lasts_rackBus]

theorem State.busUpTo_of_done (h : s.busWaits r l = none) (n : Nat) : s.busUpTo r l n = s := by
  cases n with
  | zero => rfl
  | succ n => simp only [State.busUpTo, h]

/-- The last's own request is the next, so that the bus accepts it alone. -/
theorem State.busUpTo_of_next {q : BusReq} (h : s.busWaits r l = some q) (hn : s.busNext r = some l) (n : Nat) :
    s.busUpTo r l (n + 1) = s.busAccept r l q := by
  have hdone : (s.busAccept r l q).busWaits r l = none := by
    unfold State.busWaits
    rw [s.last_busAccept, s.resp_of_busWaits h]
    rfl
  simp only [State.busUpTo, h, hn]
  exact State.busUpTo_of_done hdone n

/-- A response that the bus has for a last enters the last's slot. -/
theorem execRackBusResponse_of_got {rack : Fin 64} {last : Fin 8} {q : BusReq} {x : BusResp} (hon : s.island (rackIsland rack) = .on)
    (hu : s.busUpTo rack last 8 = u) (hb : (u.last rack last).bus = some q) (hg : q.got = some x) (hr : (u.last rack last).resp = none) :
    Machine.exec (.rackBusResponse rack last) s = .next (u.setLast rack last { u.last rack last with resp := some x }) := by
  refine congrArg Outcome.next ?_
  rw [if_pos hon]
  simp only [hu, hb, hr, hg, Option.bind_some]

theorem rackBusResponse_serves {rack : Fin 64} {last : Fin 8} {q : BusReq} (hw : s.busWaits rack last = some q)
    (hn : s.busNext rack = some last.val) (hon : s.island (rackIsland rack) = .on) :
    Completes (.rackBusResponse rack last) s fun t =>
      (t.last rack last).resp = some (s.rackBus rack q).1 ∧
      (q.addr < 2048 → q.write = true → t.word (sharedAddr rack q.addr) = protect (locWord q.data)) := by
  have hlast := s.last_busAccept rack last q
  refine ⟨_, execRackBusResponse_of_got hon (State.busUpTo_of_next hw hn 7) (by rw [hlast]) rfl
    (by rw [hlast]; exact State.resp_of_busWaits hw), ?_, fun hlow hwrite => ?_⟩
  · rw [State.last_setLast_self]
  · have hbus : (s.rackBus rack q).2 = s.writeWord (sharedAddr rack q.addr) (locWord q.data) := by
      simp only [State.rackBus, hlow, hwrite, if_true]
    rw [State.word_setLast, State.busAccept, State.word_setLast, hbus]
    exact State.word_writeWord_self _ _ _

theorem rackBusResponse_answers {rack : Fin 64} {last : Fin 8} {q : BusReq} {x : BusResp} (hb : (s.last rack last).bus = some q)
    (hg : q.got = some x) (hr : (s.last rack last).resp = none) (hon : s.island (rackIsland rack) = .on) :
    Completes (.rackBusResponse rack last) s fun t => (t.last rack last).resp = some x ∧ t.mem = s.mem := by
  have hdone : s.busWaits rack last = none := by
    unfold State.busWaits
    rw [hb, hr]
    simp [hg]
  refine ⟨_, execRackBusResponse_of_got hon (State.busUpTo_of_done hdone 8) hb hg hr, ?_, rfl⟩
  rw [State.last_setLast_self]

/-! ## The end of a suspension, the watchdog, restart (R126, R127) -/

theorem yieldResume_resumes {rack : Fin 64} {last : Fin 8} {cycles : Nat} (hc : s.rackClocked rack = true)
    (hy : (s.last rack last).yielding = true) (hn : cycles ≤ 4096)
    (hd : (s.last rack last).yieldAt < (s.rackOf rack).written ∨ cycles = 4096) :
    Completes (.yieldResume rack last cycles) s fun t => (t.last rack last).yielding = false := by
  have h := Aside.incPerf (rs := [.RACK_YIELD_CNT]) (rd := false) (r := .RACK_YIELD_CNT) (k := rack) (by simp) rfl
    (s.setLast rack last { s.last rack last with yielding := false }) last cycles
  refine ⟨_, congrArg Outcome.next (if_pos ⟨hc, hy, hn, hd⟩), ?_⟩
  exact congrArg Last.yielding ((h.last_eq rack last).trans (State.last_setLast_self _ _ _ _))

/-- What the monitor does after a user trap: it halts all lasts (R127). -/
theorem State.monitorTrap_halts (s : State) (r l vector pc : Nat) :
    (s.last r l).Seen ((s.monitorTrap r l vector pc).last r l) ∧ (s.monitorTrap r l vector pc).fld RACK_STAT.HALTED r = 0xFF := by
  have h : LastsKept ((s.log 0x0601 sevWarn r l vector pc).setHalt r 0xFF) (s.monitorTrap r l vector pc) :=
    .loadTrap (.ite (.log (.setRack .refl)) (.setRack .refl))
  refine ⟨?_, ?_⟩
  · rw [h.last_eq]
    exact (s.log 0x0601 sevWarn r l vector pc).seen_setHalt r 0xFF r l
  · rw [h.fld_eq (by simp)]
    exact State.fld_halted_setHalt _ _ _

/-- A trap in user mode, other than SVC, saves PC and halts all lasts (R125, R127). -/
theorem State.trapLast_user {vector : Nat} (h : (s.last r l).super = false) (hv : vector ≠ vecSvc) (low : Nat) :
    (s.trapped r l vector low).Seen ((s.trapLast r l vector low).last r l) ∧ (s.trapLast r l vector low).fld RACK_STAT.HALTED r = 0xFF := by
  have e : s.trapLast r l vector low = (s.takeTrap r l vector low).monitorTrap r l vector (s.last r l).pc.toNat := by
    simp only [State.trapLast, h, hv, Bool.false_eq_true, if_false]
  rw [e, ← s.last_takeTrap]
  exact State.monitorTrap_halts _ _ _ _ _

/-- A trap in supervisor mode halts the last (R126). -/
theorem State.trapLast_super (h : (s.last r l).super = true) (hl : l < 8) (vector low : Nat) :
    (s.last r l).Seen ((s.trapLast r l vector low).last r l) ∧ (s.trapLast r l vector low).lastHalted r l = true ∧
    (s.trapLast r l vector low).flag RACK_CAUSE.DTRAP r = true := by
  obtain ⟨v, e⟩ : ∃ v, s.trapLast r l vector low = ((((s.haltLast r l).put RACK_STAT.TRAPPED v r).raise RACK_CAUSE.DTRAP r).log 0x0603
      sevErr r l vector (s.last r l).pc.toNat).loadTrap r 0x0603 :=
    ⟨_, if_pos h⟩
  have hk : LastsKept (((s.haltLast r l).put RACK_STAT.TRAPPED v r).raise RACK_CAUSE.DTRAP r) (s.trapLast r l vector low) := by
    rw [e]
    exact .loadTrap (.log .refl)
  refine ⟨?_, ?_, ?_⟩
  · rw [hk.last_eq]
    exact s.seen_setHalt r _ r l
  · rw [hk.lastHalted_eq, State.lastHalted, State.raise_eq, State.fld_put_apart _ (by decide) (by decide), State.fld_put_apart _ (by decide) (by decide)]
    exact s.lastHalted_haltLast r hl
  · rw [State.flag_eq, hk.fld_eq (by simp), ← State.flag_eq]
    exact State.flag_raise_self (by decide) rfl _ _

theorem lastWatchdog_traps {rack : Fin 64} {last : Fin 8} (hc : s.rackClocked rack = true) (hh : s.lastHalted rack last = false)
    (hy : (s.last rack last).yielding = false) (hn : 2 ^ 20 ≤ (s.last rack last).retired) :
    Completes (.lastWatchdog rack last) s fun t =>
      (t.last rack last).retired = 0 ∧ t.lastHalted rack last = true ∧
      ((s.last rack last).super = false →
       (t.last rack last).tpc = (s.last rack last).pc ∧ t.fld RACK_STAT.HALTED rack = 0xFF) ∧
      ((s.last rack last).super = true → t.flag RACK_CAUSE.DTRAP rack = true) := by
  obtain ⟨x, hx⟩ : ∃ x, x = s.setLast rack last { s.last rack last with retired := 0 } := ⟨_, rfl⟩
  have hlast : x.last rack last = { s.last rack last with retired := 0 } := by rw [hx, State.last_setLast_self]
  have hsuper : (x.last rack last).super = (s.last rack last).super := by rw [hlast]; rfl
  refine ⟨x.trapLast rack last vecWatchdog vecWatchdog, hx ▸ congrArg Outcome.next (if_pos ⟨hc, hh, hy, hn⟩), ?_⟩
  cases hs : (s.last rack last).super with
  | false =>
    obtain ⟨⟨n, hseen⟩, hhalted⟩ := State.trapLast_user (hsuper.trans hs) (by decide : vecWatchdog ≠ vecSvc) vecWatchdog
    rw [hseen]
    refine ⟨?_, ?_, fun _ => ⟨?_, hhalted⟩, fun e => absurd e (by decide)⟩
    · show (x.last rack last).retired = 0
      rw [hlast]
    · rw [State.lastHalted, hhalted]
      exact (by decide : ∀ l : Fin 8, bitOf 0xFF l = true) last
    · show (x.last rack last).pc = _
      rw [hlast]
  | true =>
    obtain ⟨⟨n, hseen⟩, hhalted, hflag⟩ := State.trapLast_super (hsuper.trans hs) last.isLt vecWatchdog vecWatchdog
    refine ⟨?_, hhalted, fun e => absurd e (by decide), fun _ => hflag⟩
    rw [hseen, hlast]

theorem State.last_setRack (s : State) (r : Nat) (q : RackSt) (r' l' : Nat) : (s.setRack r q).last r' l' = s.last r' l' := rfl

/-- A last that starts at the entry of its rack's program. -/
def Last.started (entry seen : Nat) : Last :=
  { pc := BitVec.ofNat 14 entry, tpc := BitVec.ofNat 14 entry, sr := 0, tsr := 0, vbr := 0, seen := seen }

/-- The lasts of a rack are preset, each at the position where it read its tap buffer. -/
def State.presetLasts (s : State) (r : Nat) : State :=
  (List.range 8).foldl (fun x l => x.setLast r l (Last.started (s.rackOf r).entry (x.last r l).seen)) s

theorem State.startRack_eq (s : State) (r : Nat) : s.startRack r =
    (((s.presetLasts r).setRack r { s.rackOf r with restart := none, back := [] }).setHalt r 0).toNewest r 0xFF := rfl

theorem State.last_presetLasts (s : State) (r : Nat) (hl : l < 8) :
    ∃ n, (s.presetLasts r).last r l = Last.started (s.rackOf r).entry n := by
  refine foldl_racks (P := fun l t => ∃ n, t.last r l = Last.started (s.rackOf r).entry n)
    (fun x l => ⟨_, State.last_setLast_self _ _ _ _⟩) (fun x l l' h hne => ?_) (List.range 8) s l (List.mem_range.2 hl)
  rw [x.last_setLast_ne r l' _ (by omega)]
  exact h

/-- A rack that starts: all its lasts run from the entry. -/
theorem State.startRack_runs (s : State) (r : Nat) :
    (s.startRack r).fld RACK_STAT.HALTED r = 0 ∧ (s.startRack r).fld RACK_STAT.RUNNING r = 0xFF ∧
    ((s.startRack r).rackOf r).restart = none ∧ ∀ l < 8, ∃ n, (s.startRack r).last r l = Last.started (s.rackOf r).entry n := by
  rw [s.startRack_eq]
  generalize hx : (s.presetLasts r).setRack r { s.rackOf r with restart := none, back := [] } = x
  obtain ⟨ls, e⟩ := (x.setHalt r 0).toNewest_eq r 0xFF
  have hfld (f : Fld) : ((x.setHalt r 0).toNewest r 0xFF).fld f r = (x.setHalt r 0).fld f r := by
    rw [e]
    rfl
  have hrack : ((x.setHalt r 0).toNewest r 0xFF).rackOf r = x.rackOf r := by
    obtain ⟨ls', e'⟩ := x.setHalt_eq r 0
    rw [e, e']
    rfl
  refine ⟨?_, ?_, ?_, fun l hl => ?_⟩
  · rw [hfld, State.fld_halted_setHalt]
  · rw [hfld, State.fld_running_setHalt]
    rfl
  · rw [hrack, ← hx, State.rackOf_setRack_self]
  · obtain ⟨n, hn⟩ := s.last_presetLasts r hl
    obtain ⟨n', hn'⟩ := (x.seen_setHalt r 0 r l).trans ((x.setHalt r 0).seen_toNewest r 0xFF r l)
    have hlast : x.last r l = Last.started (s.rackOf r).entry n := by
      rw [← hx, State.last_setRack, hn]
    rw [hn', hlast]
    exact ⟨n', by simp only [Last.started]⟩

theorem rackRestart_starts {rack : Fin 64} {due : Nat} (hr : (s.rackOf rack).restart = some due) (hd : due ≤ s.now)
    (hon : s.island (rackIsland rack) = .on) :
    Completes (.rackRestart rack) s fun t =>
      t.fld RACK_STAT.HALTED rack = 0 ∧ t.fld RACK_STAT.RUNNING rack = 0xFF ∧ (t.rackOf rack).restart = none ∧
      ∀ l < 8,
        (t.last rack l).pc = BitVec.ofNat 14 (s.rackOf rack).entry ∧ (t.last rack l).super = false ∧
        (t.last rack l).vbr = 0 ∧ (t.last rack l).d = List.replicate 8 0 := by
  have e : Machine.exec (.rackRestart rack) s = .next (s.startRack rack) := by
    refine congrArg Outcome.next ?_
    rw [hr]
    exact if_pos ⟨hd, hon⟩
  obtain ⟨hhalted, hrunning, hrestart, hlasts⟩ := s.startRack_runs rack
  refine ⟨_, e, hhalted, hrunning, hrestart, fun l hl => ?_⟩
  obtain ⟨n, hn⟩ := hlasts l hl
  rw [hn]
  refine ⟨rfl, ?_, rfl, rfl⟩
  show BitVec.getLsbD (0 : W24) 8 = false
  decide

/-! ## RACK_CTL (R123) -/

/-- The bits that a number lacks are what it misses to all-ones. -/
theorem bitsWhere_not_add (m n : Nat) : bitsWhere (fun l => !(bitOf m l)) n + m % 2 ^ n = 2 ^ n - 1 := by
  induction n with
  | zero => simp [bitsWhere, Nat.mod_one]
  | succ n ih =>
    have hm : m % 2 ^ (n + 1) = m % 2 ^ n + (if bitOf m n then 2 ^ n else 0) := by
      rw [Nat.mod_pow_succ]
      unfold bitOf
      rw [Nat.testBit_eq_decide_div_mod_eq]
      obtain h | h := Nat.mod_two_eq_zero_or_one (m / 2 ^ n)
      · rw [h]
        rfl
      · rw [h, Nat.mul_one]
        rfl
    have hpos := Nat.two_pow_pos n
    rw [hm, bitsWhere, Nat.pow_succ]
    cases bitOf m n with
    | false => simp only [Bool.not_false, if_true, Bool.false_eq_true, if_false]; omega
    | true => simp only [Bool.not_true, if_true, Bool.false_eq_true, if_false]; omega

/-- A write of RACK_CTL ends with the lasts of its mask halted. -/
theorem State.rackCtlWrite_halts (s : State) (r : Nat) (data : W32) : ∃ x : State, s.rackCtlWrite r data = x.setHalt r (getBits data 0 8) :=
  ⟨_, rfl⟩

theorem rackCtlHalt_halts {src : Master} {rack : Fin 64} {data : W32} (h : Writes s src (Block.rack rack).base) :
    Completes (.rackCtlHalt src rack data) s fun t =>
      t.fld RACK_STAT.HALTED rack = getBits data 0 8 ∧ t.fld RACK_STAT.RUNNING rack = 255 - getBits data 0 8 ∧
      t.fld RACK_CTL.HALT rack = getBits data 0 8 ∧ Accepted t src := by
  have hbase := base_rack_mod rack
  have hb := blockAt_rack (o := 0) rack.isLt (by decide)
  rw [Nat.add_zero] at hb
  have hlt := getBits_lt data 0 8
  have hmod : getBits data 0 8 % 256 = getBits data 0 8 := Nat.mod_eq_of_lt hlt
  refine completes_of_registers (b := .rack rack) (off := 0) rfl (.of_writes h (by simp [widthOk]; omega))
    hb rfl fun c _ _ => ?_
  refine ⟨_, _, _, State.serveReg_write32 (k := ⟨.RACK_CTL, rack, 0⟩) rfl rfl rfl, fun t ht => ?_⟩
  obtain ⟨x, hx⟩ := c.rackCtlWrite_halts rack data
  have hfld {f : Fld} (hf : f.reg ∉ countRegs) (hf' : f.reg ∉ captureRegs) : t.fld f rack = (x.setHalt rack (getBits data 0 8)).fld f rack := by
    rw [ht.noted.fld_of_replies hf', (Noted.perf _ _ _ _ _).fld_eq hf, hx]
  refine ⟨?_, ?_, ?_, ht.resp⟩
  · rw [hfld (by decide) (by decide), State.fld_halted_setHalt, hmod]
  · have hsum := bitsWhere_not_add (getBits data 0 8) 8
    rw [hfld (by decide) (by decide), State.fld_running_setHalt]
    omega
  · rw [hfld (by decide) (by decide), State.fld_haltCtl_setHalt, hmod]

/-! ## Tag records (R139) -/

theorem satN_eq_min (w n : Nat) : satN w n = min n (2 ^ w - 1) := by
  have hpos := Nat.two_pow_pos w
  unfold satN
  split
  · omega
  · omega

theorem State.rackOf_put (s : State) (f : Fld) (v k i r : Nat) : (s.put f v k i).rackOf r = s.rackOf r := rfl

theorem tagSample_queues {rack : Fin 64} {last : Fin 8} {times : TagTimes} {c : Issued} {cycles : W32} {rest : List (Nat × Issued × W32)}
    (hon : s.island (rackIsland rack) = .on) (ht : (s.rackOf rack).tagged = (last.val, c, cycles) :: rest) :
    Completes (.tagSample rack last times) s fun t =>
      (t.rackOf rack).tagged = rest ∧
      if (s.rackOf rack).tags.length < 16 then
        (t.rackOf rack).tags = (s.rackOf rack).tags ++ [tagWords last c cycles times] ∧
        t.fld RACK_TAG_STAT.COUNT rack = (s.rackOf rack).tags.length + 1
      else
        (t.rackOf rack).tags = (s.rackOf rack).tags ∧
        t.fld RACK_TAG_STAT.LOST rack = min (s.fld RACK_TAG_STAT.LOST rack + 1) 0xFFFF ∧
        t.flag RACK_CAUSE.TAG_FULL rack = true := by
  refine ⟨_, rfl, ?_⟩
  simp only [ht, hon, true_and, if_true]
  split
  · next hlen =>
    refine ⟨?_, ?_, ?_⟩
    · rw [State.rackOf_put, State.rackOf_setRack_self]
    · rw [State.rackOf_put, State.rackOf_setRack_self]
    · rw [State.fld_put_self _ (by decide)]
      exact Nat.mod_eq_of_lt (by show _ < 32; omega)
  · refine ⟨?_, ?_, ?_, State.flag_raise_self (by decide) rfl _ _⟩
    · rw [State.raise_eq, State.rackOf_put, State.bump, State.rackOf_put, State.rackOf_setRack_self]
    · rw [State.raise_eq, State.rackOf_put, State.bump, State.rackOf_put, State.rackOf_setRack_self]
    · rw [State.raise_eq, State.fld_put_apart _ (by decide) (by decide), State.bump, State.fld_put_self _ (by decide)]
      exact (Nat.mod_eq_of_lt (satN_lt _ _)).trans (satN_eq_min 16 _)

/-! ## Tap records (R119) -/

/-- A line lane whose fade stays as it is keeps the share of its Volterra stage. -/
theorem State.vnleShare_setLine (s : State) (k n : Nat) :
    (s.setLine k { s.line k with histTaken := n }).vnleShare k = s.vnleShare k := by
  by_cases hk : k < s.lines.length
  · have hline := s.line_setLine_self k { s.line k with histTaken := n } hk
    unfold State.vnleShare
    rw [hline]
    rfl
  · have hset : s.setLine k { s.line k with histTaken := n } = s := by
      unfold State.setLine
      rw [List.set_eq_of_length_le (Nat.le_of_not_lt hk)]
    rw [hset]

/-- What the sample of a histogram capture changes: memory and the samples taken. -/
theorem State.histSample_eq (s : State) (k : Nat) (code : BitVec 8) (y : Int) :
    ∃ m ls, s.histSample k code y = { s with mem := m, lines := ls } ∧
      State.vnleShare { s with mem := m, lines := ls } k = s.vnleShare k := by
  unfold State.histSample
  extract_lets n v b
  split
  · exact ⟨_, _, rfl, (s.setHistBin k b (s.histBin k b + 1)).vnleShare_setLine k (n + 1)⟩
  · exact ⟨_, _, rfl, rfl⟩

theorem State.tapRegs_of_share {m : List (Nat × W72)} {ls : List LineLane} {k : Nat}
    (h : State.vnleShare { s with mem := m, lines := ls } k = s.vnleShare k) (x : TapRecord) :
    State.tapRegs { s with mem := m, lines := ls } k x = s.tapRegs k x := by
  unfold State.tapRegs State.lineDecisions
  rw [h]
  rfl

theorem State.nodup_laneRacks (s : State) (k : Nat) : (s.laneRacks k).Nodup := by
  unfold State.laneRacks
  split
  · exact List.nodup_nil
  · exact List.Nodup.filter _ List.nodup_range'

/-- A change of the racks of a list leaves the others. -/
theorem State.rackOf_foldl_ne (f : RackSt → RackSt) {rs : List Nat} (h : r ∉ rs) (s : State) :
    (rs.foldl (fun x n => x.setRack n (f (x.rackOf n))) s).rackOf r = s.rackOf r := by
  refine List.foldlRecOn (motive := fun t : State => t.rackOf r = s.rackOf r) _ _ rfl fun t ht n hn => ?_
  have hne : r ≠ n := fun e => h (e ▸ hn)
  rw [t.rackOf_setRack_ne n _ hne, ht]

/-- A change of the racks of a list reaches each once. -/
theorem State.rackOf_foldl_mem (f : RackSt → RackSt) {rs : List Nat} (hn : rs.Nodup) (h : r ∈ rs) (s : State) :
    (rs.foldl (fun x n => x.setRack n (f (x.rackOf n))) s).rackOf r = f (s.rackOf r) := by
  induction rs generalizing s with
  | nil => cases h
  | cons n rs ih =>
    obtain ⟨hnot, hn⟩ := List.nodup_cons.1 hn
    rw [List.foldl_cons]
    obtain rfl | hr := List.mem_cons.1 h
    · rw [State.rackOf_foldl_ne f hnot, State.rackOf_setRack_self]
    · have hne : r ≠ n := fun e => hnot (e ▸ hr)
      rw [ih hn hr, s.rackOf_setRack_ne n _ hne]

/-- A rack that has taken a record into its buffer. -/
def RackSt.tapped (v : List W24) (q : RackSt) : RackSt := { q with written := q.written + 1, taps := (v :: q.taps).take 64 }

/-- The racks that take the records of a lane. -/
def State.tapRacks (s : State) (k : Nat) : List Nat :=
  (s.laneRacks k).filter (fun r => s.rackClocked r && s.fld RACK_STAT.HALTED r != 0xFF)

/-- The racks of a lane that writes tap records take the record. -/
theorem execTapRecord_of_tapRuns {k : Fin 8} {x : TapRecord} (h : s.tapRuns k = true) : ∃ t : State, t.racks = s.racks ∧
    Machine.exec (.tapRecord k x) s =
      .next ((s.tapRacks k).foldl (fun u n => u.setRack n (RackSt.tapped (s.tapRegs k x) (u.rackOf n))) t) := by
  let y := s.lineY k (x.codes.map (fun c => c.toInt))
  obtain ⟨m, ls, e, hshare⟩ : ∃ m ls, (if s.rxRuns k then s.histSample k (x.codes.getD codesAhead 0) y else s) =
      { s with mem := m, lines := ls } ∧ State.vnleShare { s with mem := m, lines := ls } k = s.vnleShare k := by
    split
    · exact s.histSample_eq k _ y
    · exact ⟨_, _, rfl, rfl⟩
  refine ⟨{ s with mem := m, lines := ls }, rfl, congrArg Outcome.next ?_⟩
  rw [← State.tapRegs_of_share hshare x]
  have hruns : State.tapRuns { s with mem := m, lines := ls } k = true := h
  exact (congrArg (fun t : State => if t.tapRuns k then
    (t.tapRacks k).foldl (fun u n => u.setRack n (RackSt.tapped (t.tapRegs k x) (u.rackOf n))) t else t) e).trans (if_pos hruns)

theorem tapRecord_taken {k : Fin 8} {x : TapRecord} (hk : s.tapRuns k = true) (hr : r ∈ s.laneRacks k) (hc : s.rackClocked r = true)
    (hh : s.fld RACK_STAT.HALTED r ≠ 0xFF) :
    Completes (.tapRecord k x) s fun t =>
      (t.rackOf r).written = (s.rackOf r).written + 1 ∧ (t.rackOf r).taps = (s.tapRegs k x :: (s.rackOf r).taps).take 64 := by
  obtain ⟨t, ht, e⟩ := execTapRecord_of_tapRuns (x := x) hk
  have hmem : r ∈ s.tapRacks k := List.mem_filter.2 ⟨hr, by simp [hc, hh]⟩
  have hrack : t.rackOf r = s.rackOf r := by rw [State.rackOf, State.rackOf, ht]
  have htaken := State.rackOf_foldl_mem (RackSt.tapped (s.tapRegs k x)) (rs := s.tapRacks k) ((s.nodup_laneRacks k).filter _) hmem t
  rw [hrack] at htaken
  exact ⟨_, e, congrArg RackSt.written htaken, congrArg RackSt.taps htaken⟩

/-- Settles O6: each clause is one command's effect, given above. -/
theorem rackBusWatchdogAndTapResults : Obligations.RackBusWatchdogAndTapResults := by
  unfold Obligations.RackBusWatchdogAndTapResults
  refine ⟨?breq, ?brsp, ?served, ?answered, ?resume, ?watchdog, ?restart, ?halt, ?tag, ?tap⟩
  case breq => exact fun _ _ _ _ _ _ _ _ _ h hd hb hr hm => breq_requests h hd hb hr hm
  case brsp => exact fun _ _ _ _ _ h hd hr hx => brsp_takes h hd hr hx
  case served => exact fun _ _ _ _ hw hn hon => rackBusResponse_serves hw hn hon
  case answered => exact fun _ _ _ _ _ hb hg hr hon => rackBusResponse_answers hb hg hr hon
  case resume => exact fun _ _ _ _ hc hy hn hd => yieldResume_resumes hc hy hn hd
  case watchdog => exact fun _ _ _ hc hh hy hn => lastWatchdog_traps hc hh hy hn
  case restart => exact fun _ _ _ hr hd hon => rackRestart_starts hr hd hon
  case halt => exact fun _ _ _ _ h => rackCtlHalt_halts h
  case tag => exact fun _ _ _ _ _ _ _ hon ht => tagSample_queues hon ht
  case tap => exact fun _ _ _ _ hk hr hc hh => tapRecord_taken hk hr hc hh

end Sys2Proof.Machine
